-- ==== Sys2Proof/Word.lean ====
section
/-! DEFINITION. The words the manual numbers: bytes, dwords, 64-bit registers (R19, R20). -/
namespace Sys2Proof

/-- A byte of a register, descriptor, record or host buffer. -/
abbrev Byte := BitVec 8
/-- A 16-bit field, such as a generation number (R213). -/
abbrev W16 := BitVec 16
/-- A command dword (CDW10 to CDW15) or a 32-bit register. -/
abbrev W32 := BitVec 32
/-- A 64-bit control-space register (R20). -/
abbrev W64 := BitVec 64

/-- A table of rows keyed by a number, sparse: a key without a row holds the default row its reader names. -/
abbrev Tbl (α : Type) := List (Nat × α)

/-- The row of key `k`, or `d` where the table has none. -/
def Tbl.get {α : Type} (t : Tbl α) (d : α) (k : Nat) : α :=
  match t with
  | [] => d
  | (j, v) :: r => if j = k then v else Tbl.get r d k

/-- The table without the row of key `k`. -/
def Tbl.erase {α : Type} (t : Tbl α) (k : Nat) : Tbl α :=
  t.filter (fun e => !(e.1 == k))

/-- The table with `v` as the row of key `k`. -/
def Tbl.set {α : Type} (t : Tbl α) (k : Nat) (v : α) : Tbl α :=
  (k, v) :: Tbl.erase t k

/-- The row of key `k`, if the table has one. -/
def Tbl.find {α : Type} (t : Tbl α) (k : Nat) : Option α :=
  match t with
  | [] => none
  | (j, v) :: r => if j = k then some v else Tbl.find r k

end Sys2Proof
end

