-- ==== Sys2Proof/Types.lean ====
section
/-! DEFINITION. The data the commands of the opcode table carry: queue entries, link frames, stream frames, descriptors, sensor readings, voicing images and the verdicts of checks the module makes on bytes that are not state. -/
namespace Sys2Proof

/-- Host ports HP0 to HP7 (00, Identifiers). -/
abbrev PortId := Fin 8
/-- Quadrants Q0 to Q3. -/
abbrev QuadId := Fin 4
/-- Stops S0 to S15. -/
abbrev StopId := Fin 16
/-- Reed links L000 to L143 and their pod slots P000 to P143. -/
abbrev LinkId := Fin 144
/-- Data movers DM00 to DM67. -/
abbrev MoverId := Fin 68
/-- Channels 0 to 3 of a data mover (R504). -/
abbrev ChanId := Fin 4
/-- Map-cache slices 0 to 63 (08). -/
abbrev SliceId := Fin 64
/-- Local numbers of the instances of a port, 0 to 127 (R128). -/
abbrev LocalId := Fin 128

/-! ## Queue entries (05) -/

/-- The form of a data pointer as the sequencer's parse finds it (R192). -/
inductive PtrForm where
  | ok              -- well-formed PRP or SGL
  | prpOffset       -- a PRP entry with an offset where none is allowed, or a malformed list
  | sglType         -- SGL descriptor type invalid (0x11)
  | sglCount        -- invalid number of SGL descriptors (0x0E)
  | sglLength       -- data SGL length invalid (0x0F)
  | sglSegment      -- invalid SGL segment descriptor (0x0D)
  | sglOffset       -- SGL offset invalid (0x16)
  deriving DecidableEq, Repr

/-- The share descriptor, 64 B, of Create Instance and Change Share (06). -/
structure Share where
  pasid      : Nat := 0   -- [19:0]
  queuePairs : Nat := 0
  vectors    : Nat := 0
  slotMin    : Nat := 0
  slotMax    : Nat := 0
  tokens     : Nat := 0
  tokenCap   : Nat := 0
  nsQuota    : Nat := 0
  stopMask   : BitVec 16 := 0
  pinnedWays : Nat := 0
  reserved   : Bool := false  -- some reserved field is non-zero
  deriving DecidableEq, Repr

/-- The host-specified fields of a Namespace Management create (R229, the namespace vendor area). -/
structure NsSpec where
  nsze        : Nat := 0
  ncap        : Nat := 0
  flbas       : Nat := 0
  dps         : Nat := 0
  nmic        : Nat := 0
  muCode      : Nat := 0
  writeThrough : Bool := false   -- WRITE_MODE
  readAround  : Bool := false
  encrypt     : Bool := false
  keyProvided : Bool := false
  useStreams  : Bool := false
  heatDefault : Bool := false    -- 1: H0
  otherZero   : Bool := true     -- every other host-specified field, report-only field and reserved byte is 0 (R229, R230)
  deriving DecidableEq, Repr

/-- A map record (R244). Its entries are 40-bit values, the invalid ones of R242 included. -/
structure MapRecord where
  nsIndex   : Nat
  version   : Nat := 1           -- FORMAT_VERSION
  serial    : Nat
  line      : Nat
  muCode    : Nat
  epoch     : Nat
  ckptMun   : Nat
  ckptIndex : Nat
  entries   : List (BitVec 40)
  tag       : BitVec 128 := 0
  nonce     : BitVec 96 := 0
  deriving DecidableEq, Repr

/-- What a fetch of a map line brings: the copy as the module wrote it, another record in its place (a host may write the memory it lent), or a
copy no decoding repairs (R246). -/
inductive MapCopy where
  | asWritten
  | other (r : MapRecord)
  | unrepairable
  deriving DecidableEq, Repr
/-- A line that a map fetch was for, and the copy it brings. -/
structure FetchedLine where
  line : Nat
  copy : MapCopy := .asWritten
  deriving DecidableEq, Repr

/-- One extent of a Lend Map Memory (R251), in 2 MiB chunks. -/
structure Extent where
  address : Nat
  chunks  : Nat
  deriving DecidableEq, Repr

/-- One range of a Dataset Management. -/
structure DsmRange where
  slba : Nat
  nlb  : Nat
  deriving DecidableEq, Repr

/-- Header of an update package block (18). -/
structure PkgBlock where
  index    : Nat
  blocks   : Nat
  kind     : Nat      -- 1 firmware, 2 voicing, 3 stop
  serial   : BitVec 64
  crcOk    : Bool     -- MAGIC, reserved fields and CRC of the block hold
  payload  : Nat      -- PAYLOAD_LEN
  deriving DecidableEq, Repr

/-- The manifest carried by block 0 of a package (18). -/
structure Manifest where
  kind            : Nat := 1
  target          : Nat := 0
  fwVersion       : BitVec 32 := 0
  fwMinFrom       : BitVec 32 := 0
  formatWrite     : Nat := 0
  formatCompatMin : Nat := 0
  payloadLength   : Nat := 0
  payloadHash     : BitVec 384 := 0
  deriving DecidableEq, Repr

/-- A configuration frame of a stop image (14): INDEX, COLUMN, TARGET, ADDRESS and PAYLOAD. -/
structure StopFrame where
  index   : Nat
  column  : Nat
  target  : Nat
  address : Nat
  payload : List (BitVec 8)
  deriving DecidableEq, Repr

/-- A stop image: its header and its frames (14). -/
structure StopImage where
  halfClock : Bool := false
  serial    : BitVec 64 := 0
  shellMin  : Nat := 0x0300
  shellMax  : Nat := 0x0302
  columns   : Nat := 1
  modes     : BitVec 5 := 0
  macTiles  : Nat := 0
  length    : Nat := 0       -- IMAGE_LENGTH
  bodyHash  : BitVec 384 := 0
  frames    : List StopFrame := []
  deriving DecidableEq, Repr

/-! ### Voicing image sections (02) -/

/-- PCIe clocking mode of a port (R119). -/
inductive Clocking where
  | common | separate | automatic
  deriving DecidableEq, Repr

/-- Section 0x01, one port. -/
structure VPort where
  enable    : Bool := true
  maxSpeed  : Nat := 7      -- PCIe generation 4 to 7
  maxWidth  : Nat := 16
  clocking  : Clocking := .automatic
  instances : Nat := 128    -- 1 to 128
  deriving DecidableEq, Repr

/-- Section 0x02, one port's pools. -/
structure VPool where
  queuePairs : Nat := 2048
  vectors    : Nat := 2048
  slots      : Nat := 8192
  tokens     : Nat := 1024
  nsQuota    : Nat := 512
  stops      : BitVec 16 := 0
  pinnedWays : Nat := 1
  deriving DecidableEq, Repr

/-- Client of a bore port (01, Bore port allocation). -/
inductive BoreClient where
  | host (p : PortId) | stop (n : StopId) | aggregator (n : Fin 16) | hbm | ddr | cores (n : Fin 2) | movers (n : Fin 2)
  deriving DecidableEq, Repr

/-- Section 0x05. -/
structure VGeometry where
  width     : Nat := 17
  groups    : List (List Nat) := []   -- ordered member slots of each group
  spares    : List Nat := []
  period    : Nat := 1
  deriving DecidableEq, Repr

/-- Section 0x06, one group. -/
structure VMun where
  base         : Nat
  bands        : Nat
  rowsPerBand  : Nat
  dataMembers  : Nat
  slotsPerRow  : Nat
  deriving DecidableEq, Repr

/-- Section 0x07, in MiB; T1 takes the remainder. -/
structure VMemory where
  cacheMib   : Nat := 4096
  stagingMib : Nat := 4096
  stopMib    : Nat := 8192
  hbmHeapMib : Nat := 2048
  ddrHeapMib : Nat := 8192
  deriving DecidableEq, Repr

/-- Section 0x0A. -/
structure VFaults where
  dieTimeout     : Nat := 300
  wayErrLimit    : Nat := 16
  hostViolLimit  : Nat := 256
  podViolLimit   : Nat := 64
  stopViolLimit  : Nat := 1000
  shareDrainLimit : Nat := 100
  deriving DecidableEq, Repr

/-- A voicing image: header fields and the eleven sections of R49. -/
structure VoicingImage where
  serial   : BitVec 64 := 0
  formatKey : BitVec 64 := 0
  fwMin    : BitVec 32 := 0
  sectionIds : List Nat := [1, 2, 3, 4, 5, 6, 7, 8, 9, 10, 11]
  ports    : List VPort := []
  pools    : List VPool := []
  bore     : List BoreClient := []
  softEngines : List Nat := [1, 1, 1, 1]   -- engines dedicated to soft decode per quadrant
  geometry : VGeometry := {}
  mun      : List VMun := []
  memory   : VMemory := {}
  heatK    : Nat := 12
  heatThreshold : Nat := 8
  wearBias : Nat := 0
  drones   : List (Nat × Nat) := []        -- (minimum, maximum) of drones 0 to 10
  faults   : VFaults := {}
  shell    : Nat := 0x0302
  deriving DecidableEq, Repr

/-- What the checks on the stored bytes of a voicing slot find (02, load steps 2 and 3). -/
structure SlotCheck where
  crcOk       : Bool := true   -- HEADER_CRC and every section CRC
  hashOk      : Bool := true   -- BODY_HASH
  compileSig  : Option (Fin 4) := some 0  -- IMAGE_KEY_HASH entry the compile key's digest equals and under which the signature verifies
  operatorSig : Option (BitVec 384) := none  -- digest of the operator key whose signature verifies
  deriving DecidableEq, Repr

/-- The data buffer of a command, as the fields its layout gives. -/
inductive HostData where
  | none
  | share (s : Share)
  | nsSpec (n : NsSpec)
  | ctrlList (ids : List Nat)
  | extents (count : Nat) (es : List Extent) (reserved : Bool)
  | ranges (rs : List DsmRange)
  | timestamp (ms : Nat)
  | apst (entries : List (Nat × Nat))       -- (target state, idle time in ms) of each current state
  | package (bs : List (PkgBlock × Manifest))  -- blocks whose last byte the piece brings; a manifest counts in block 0 alone
  | stopPiece (img : Option StopImage)      -- a TRANSFER piece; the header, in the piece that holds it
  | blocks (bs : List (List Byte))
  | otherRequest (code : Nat) (seq : W32)  -- a mailbox request whose CODE the table of requests does not list (17)
  deriving DecidableEq, Repr

/-- A submission queue entry as fetched. -/
structure Sqe where
  opcode : Nat
  cid    : Nat := 0
  nsid   : Nat := 0
  ptr    : PtrForm := .ok
  cdw2   : W32 := 0
  cdw3   : W32 := 0
  cdw10  : W32 := 0
  cdw11  : W32 := 0
  cdw12  : W32 := 0
  cdw13  : W32 := 0
  cdw14  : W32 := 0
  cdw15  : W32 := 0
  data   : HostData := .none
  inner  : Option (Nat × Nat × W32 × W32 × W32 × W32) := none  -- Proxy Admin: inner opcode, NSID, CDW10 to CDW12, PRP1 low
  innerData : HostData := .none
  prp1   : W64 := 0          -- queue base address of a Create command
  innerPrp1 : W64 := 0       -- the same of the entry inside a Proxy Admin
  resvZero : Bool := true    -- every reserved field outside CDW2, CDW3 and CDW10 to CDW15 is 0
  deriving DecidableEq, Repr

/-- Where a doorbell write lands (R126, R128): an offset of BAR0's doorbell region, or of a BAR2 page. -/
inductive DoorbellAt where
  | bar0 (off : Fin 4096)
  | bar2 (page : LocalId) (off : Fin 4096)
  deriving DecidableEq, Repr
/-- The offset in its region, and in its BAR: BAR0's region starts at 0x1000, page n of BAR2 at 0x1000 × n. -/
def DoorbellAt.off : DoorbellAt → Nat
  | .bar0 o => o
  | .bar2 _ o => o
def DoorbellAt.addr : DoorbellAt → Nat
  | .bar0 o => 0x1000 + o
  | .bar2 n o => 0x1000 * n + o

/-- The four ways a host DMA can fail (R192), all answered alike. -/
inductive DmaFault where
  | unsupportedRequest | completerAbort | poisoned | timeout
  deriving DecidableEq, Repr

/-- Which DMA failed (R192). -/
inductive DmaTarget where
  | data (ctx : Nat)
  | fetch (inst : LocalId) (qid : Nat)
  | completion (inst : LocalId) (cq : Nat)
  deriving DecidableEq, Repr

/-- How an MSI-X vector becomes able to send (R134). -/
inductive Unmask where
  | enable | function | vector (v : Nat)
  deriving DecidableEq, Repr

/-! ## Control space (00, R20) -/

/-- Who writes a register. -/
inductive Writer where
  | firmware | management | partition
  | host (wide : Bool)      -- in 64 bits, or in 32
  deriving DecidableEq, Repr

/-- An NVMe-MI request (R143, R619, 00 R24): what of the management service acts on the module. -/
inductive MiRequest where
  | adminCommand (port : PortId) (e : Sqe)
  | readRegister (addr : Nat)
  | writeRegister (addr : Nat) (value : W64)
  | hold (seconds : Nat)
  | releaseHold
  | readConfig (stop : StopId) (off : Nat)   -- the loaded configuration of a stop, 8 bytes at an offset (R489)
  | mailbox (code : Nat) (seq : W32)         -- a mailbox request whose CODE the table of requests does not list (17)
  deriving DecidableEq, Repr

/-! ## Sensors and supply (16) -/

/-- One sensor's answer to a sample. -/
structure Reading where
  zone   : Nat
  sensor : Nat
  answer : Option Int     -- 1/16 degree C; none: it does not answer
  deriving DecidableEq, Repr

/-- One sample of the sensors and of the supply and bellows channels. -/
structure Sample where
  readings : List Reading := []
  tenMs    : Bool := false   -- the sample before it was 10 ms earlier (R547)
  inputV   : Nat := 5400     -- 10 mV
  inputW   : Nat := 0        -- 0.1 W
  railA    : Nat := 0        -- 0.1 A
  railV    : Nat := 1200     -- 10 mV
  bankV    : Nat := 7200     -- 10 mV
  deriving DecidableEq, Repr

/-- What the power stage reports (R530). -/
inductive StageFault where
  | bus | converter | railVoltage | railCurrent
  deriving DecidableEq, Repr

/-- What bring-up steps 1 to 3 find (R561, R572, R573, R590). -/
structure Step2Found where
  romOk      : Bool := true
  lockstepOk : Bool := true
  otpOk      : Bool := true
  keepAOk    : Bool := true
  keepBOk    : Bool := true
  rtcLost    : Bool := false
  cellMv     : Nat := 3000
  ppStrap    : Bool := false
  tallyHeaderBad : List Nat := []   -- banks with a tally sector whose header fails its check
  deriving DecidableEq, Repr

/-- A pod descriptor, 256 B (R453). -/
structure PodDesc where
  magicOk      : Bool := true
  layout       : Nat := 1
  generation   : Nat := 2
  protocolMax  : Nat := 2
  dieType      : Nat := 1
  dies         : Nat := 18
  planes       : Nat := 4
  levels       : Nat := 3
  pageBytes    : Nat := 17856
  rows         : Nat := 512
  blocks       : Nat := 2596
  blocksInService : Nat := 2544
  dataGb       : Nat := 256
  ratedCycles  : Nat := 3000
  tReadTyp     : Nat := 350
  tReadMax     : Nat := 800
  tProgTyp     : Nat := 1200
  tProgMax     : Nat := 2000
  tEraseTyp    : Nat := 500
  tEraseMax    : Nat := 1000
  tPsusMax     : Nat := 30
  tEsusMax     : Nat := 40
  tResumeMax   : Nat := 10
  tOffsetMax   : Nat := 20
  tSoftTyp     : Nat := 350
  tSoftMax     : Nat := 800
  channels     : Nat := 4
  channelMts   : Nat := 3600
  writeBuffer  : Nat := 1024
  maxPower     : Nat := 44
  offsetGroups : Nat := 0
  queueDepth   : Nat := 8
  reserved     : Bool := false
  crc          : W32 := 0
  crcOk        : Bool := true
  deriving DecidableEq, Repr

/-- Die geometry (R289): die type, planes, page size, pages per wordline and rows per band; with it the blocks in service, from which the MUN
table's bands follow (R56). -/
structure DieGeom where
  dieType   : Nat := 1
  planes    : Nat := 4
  pageBytes : Nat := 17856
  levels    : Nat := 3
  rows      : Nat := 512
  blocks    : Nat := 2544
  deriving DecidableEq, Repr
def PodDesc.geom (d : PodDesc) : DieGeom := ⟨d.dieType, d.planes, d.pageBytes, d.levels, d.rows, d.blocksInService⟩
/-- Codeword slots of a member row: 4,464 B each (R56, 09). -/
def DieGeom.slots (g : DieGeom) : Nat := g.planes * g.levels * (g.pageBytes / 4464)
/-- The fields of R289 alone, in its order; blocks in service are none of them. -/
def DieGeom.fields (g : DieGeom) : List Nat := [g.dieType, g.planes, g.pageBytes, g.levels, g.rows]

/-- Bay switch STATUS, register 0x01 (R637). -/
structure BayStatus where
  present     : Bool
  powerGood   : Bool
  overcurrent : Bool
  fault       : Bool
  deriving DecidableEq, Repr

/-! ## Link frames (13) -/

/-- A message from the pod (13, message field table). -/
inductive PodMsg where
  | done (tag : Nat) (die : Nat) (status : Nat) (busyUs : Nat)
  | suspendAck (tag : Nat) (die : Nat) (status : Nat) (remainUs : Nat) (used : Nat)
  | probeResult (die : Nat) (state : Nat)
  | status (compositeK : Nat) (sensorOk : Bool) (powerMw : Nat)
  | busy (die : Nat) (op : Nat) (suspended : Bool) (remainUs : Nat) (used : Nat) (planes : List Nat)
  | alert (die : Nat) (cause : Nat)
  | hello (versions : BitVec 8) (maxRate : Nat) (generation : Nat) (descCrc : W32)
  | malformed            -- a reserved field non-zero, an unknown opcode, or one outside the version selected (R456)
  deriving DecidableEq, Repr

/-- A data unit of the stream from the pod (R431). -/
inductive PodUnit where
  | read (tag : Nat) (codeword : Nat) (erased : Bool)
  | soft (tag : Nat) (codeword : Nat)
  | mgmt (tag : Nat) (bytes : List Byte)
  deriving DecidableEq, Repr

/-- A link frame as received from a pod (13, Link frame). -/
structure LinkFrame where
  seq       : Nat
  ackSeq    : Nat
  nak       : Bool := false
  replay    : Bool := false
  msgSlots  : Nat := 0
  dataSlots : Nat := 0
  credit    : Nat := 0        -- CREDIT_COUNT
  crcOk     : Bool := true    -- CRC holds and ECHO equals SEQ[7:0]
  mended    : Nat := 0        -- RS symbols corrected in its two codewords
  spoilt    : Nat := 0        -- its RS codewords that were uncorrectable
  resvZero  : Bool := true
  overlap   : Bool := false   -- a unit begins before the previous one ends
  msgs      : List PodMsg := []
  units     : List PodUnit := []
  deriving DecidableEq, Repr

/-- What a decode ends in (10, the decode ladder). -/
inductive DecodeEnd where
  | good                 -- LDPC converges, CRC holds and the identity fields match
  | misplaced            -- decodes, but fails its metadata CRC or identity check
  | fails                -- does not decode
  deriving DecidableEq, Repr

/-- What a program or an erase of a solve meets in one slot of a row (R414, R415). -/
structure SlotSolve where
  slot     : Nat
  unknown  : List Nat       -- unknown member positions after ladder step 5
  deriving DecidableEq, Repr

/-- One unit found by patrol scrub or a memory scrub: its media unit number and the ladder step it needed (1 to 6). -/
structure ScrubFind where
  mun  : Nat
  step : Nat
  deriving DecidableEq, Repr

/-! ## Stops (14) -/

/-- An egress frame of tenant logic (14, Stream frame header). -/
structure OutFrame where
  typ      : Nat             -- TYPE
  kind     : Nat := 3        -- KIND
  tag      : Nat := 0
  seq      : Nat := 0
  length   : Nat := 0
  lba      : Nat := 0
  offset   : Nat := 0
  code     : Nat := 0
  channel  : Nat := 0
  result   : W32 := 0        -- RESULT_WORD
  resvZero : Bool := true
  stable   : Bool := true    -- VALID and every bit kept until the transfer (R463)
  extra    : Bool := false   -- beats beyond LENGTH
  payload  : List (List Byte) := []
  deriving DecidableEq, Repr

/-- Data mover descriptor bytes 0x00 to 0x2F (15). -/
structure MvDesc where
  own       : Bool := true
  op        : Nat := 0       -- 0 COPY, 1 FILL, 2 CHECK, 3 FENCE, 4 NOP
  fenceBefore : Bool := false
  csum      : Nat := 0
  chain     : Bool := false
  result    : Bool := false
  srcSpace  : Nat := 0
  dstSpace  : Nat := 0
  resvZero  : Bool := true
  length    : Nat := 0
  src       : Nat := 0
  dst       : Nat := 0
  srcNsid   : Nat := 0
  dstNsid   : Nat := 0
  seed      : W64 := 0
  user      : W64 := 0
  deriving DecidableEq, Repr

/-- How a burst of a data mover goes (R504, status codes of 15). -/
inductive BurstEnd where
  | moved
  | srcError (nvme : BitVec 15)
  | dstError (nvme : BitVec 15)
  deriving DecidableEq, Repr

/-! ## The safety mailbox (17) -/

/-- Where a mailbox request comes from (R564). -/
inductive MbSource where
  | port (p : PortId) (ctx : Nat)
  | management
  deriving DecidableEq, Repr

/-- The fields of a mailbox request that every code has. -/
structure MbHdr where
  src       : MbSource := .management
  length    : Nat := 0
  seq       : W32 := 0
  challenge : Nat := 0xFF
  sigKey    : Option (BitVec 384) := none   -- digest of the key under which SIGNATURE verifies over the nonce and bytes 0x000 to 0x19F
  resvZero  : Bool := true
  deriving DecidableEq, Repr

/-- A request and its payload (17, Mailbox requests). -/
inductive MbBody where
  | getChallenge (key : BitVec 384)
  | readIdentity
  | readStatus
  | setThreshOvr (value : W64)
  | clearBackupWarning
  | releaseSafeHold (fresh : Sample)    -- what the partition samples when it receives the request (R82)
  | setUpdateLock (lock : Bool)
  | setRpl (level : Nat) (strap : Bool) -- the strap as sensed at acceptance
  | loadKey (slot : Nat) (persist : Bool) (unwraps : Bool) (kcv : BitVec 64)
  | clearKey (slot : Nat)
  | rotateOperatorKey (hash : BitVec 384) (strap : Bool)
  | revokeImageKey (entry : Fin 4)
  | other (code : Nat)                  -- a CODE the table does not list
  deriving DecidableEq, Repr

/-! ## Other checks -/

/-- What bring-up step 11 finds on the media (R263, R264, R318, R652). -/
structure RecoveryFound where
  formatRecord : Bool := true        -- a valid copy of the format record
  epochsLost   : List Nat := []      -- sealed epochs whose two copies both fail at some 4 KiB (R264)
  segmentsBad  : List Nat := []      -- vault segments failing their check (R318)
  payloadBad   : List Nat := []      -- MUN_OLD of vault payload codewords that fail
  badBlocks    : List (Nat × Nat × List Nat) := []  -- factory bad-block bitmaps at a first format: pod, die, bad blocks
  deriving DecidableEq, Repr

/-- What the verification of a package finds after its blocks are read back (R599). -/
structure VerifyFound where
  blocksOk  : Bool := true    -- every block CRC and PAYLOAD_HASH
  compileSig : Option (Fin 4) := some 0
  operatorSig : Option (BitVec 384) := none
  voicing   : Option (VoicingImage × SlotCheck) := none
  stop      : Option StopImage := none
  deriving DecidableEq, Repr

/-- The memory a scrub reads (R618). -/
inductive ScrubHit where
  | corrected                       -- a correctable error, corrected in place
  | sramRow                         -- an SRAM row repaired from a spare row (R34)
  | ddrChip                         -- a DDR5 chip past its correctable-error limit
  | cacheCodeword (mun : Nat)       -- uncorrectable, protected cache
  | t1Record (nsid line : Nat)      -- uncorrectable, T1 record
  | way (slice : SliceId) (set way : Nat)  -- map-cache way
  | firmwareData (task : Nat)       -- uncorrectable, any other firmware data
  deriving DecidableEq, Repr

end Sys2Proof
end

