-- ==== Sys2Proof/Syntax.lean ====
section
/-! DEFINITION. The commands and events of the opcode table, one constructor per row, in the table's order. -/
namespace Sys2Proof

/-- A step of the table of operations and events. -/
inductive Instr where
  -- supply and bellows (16)
  | inputStartThreshold
  | brownoutWatchEntry
  | brownoutGraceExpiry
  | brownoutWatchExit
  | bellowsSwitchConnect (recovered : Bool)
  | powerFailRecognised
  | flushDumpComplete
  | powerStageStop
  | overvoltageTrip
  | powerStageFault (f : StageFault)
  | podRailPresenceLost
  | bellowsTest
  | bellowsTestMeasured (capUf esr : Nat) (ok : Bool)
  | sensorSample (x : Sample)
  | thermalComparatorTrip (zone : Fin 7)
  | graceTimeExpiry
  | m3AdmissionInterval
  -- clocks, resets, mechanical inputs (01, 17, 20)
  | clockCheckWindow (houseRtc houseRing ringRtc : Bool)
  | rootPllLossOfLock
  | pllRetry (locks agrees : Bool)
  | moduleResetAssert
  | moduleResetRelease
  | latchChange (moduleClosed enclClosed : Bool)
  | motionWindow (mg : Nat)
  | keepCellCheck (mv : Nat)
  | fwWatchdogFeed (value : W32)
  | fwWatchdogExpiry
  | spWatchdogExpiry
  | lockstepMismatch
  | spRestartComplete
  -- bring-up (03)
  | rootPllLock (f : Step2Found)
  | firmwareBundleStart (ok : Bool)
  | memoryTrainingComplete
  | podDescriptorRead (pods : List (LinkId × PodDesc))
  | voicingLoad
  | podPowerWave
  | laneTrainingComplete (l : LinkId) (ok : Bool)
  | mapRecovery (f : RecoveryFound)
  | bringupFinalRound (x : Sample) (badImages : List StopId)
  | bringupComplete
  | bringupTrialTimeout
  -- host ports (04)
  | perstAssert (p : PortId)
  | perstDeassert (p : PortId)
  | refclkMeasureComplete (p : PortId) (ppm : Option Int)
  | configSpaceReady (p : PortId)
  | hotReset (p : PortId)
  | linkDown (p : PortId) (disabled : Bool)
  | linkRecoveryEntry (p : PortId)
  | linkReturnToL0 (p : PortId)
  | pcieLinkTrained (p : PortId) (gen width : Nat)
  | functionLevelReset (p : PortId)
  | ccEnSet (p : PortId) (css iosqes iocqes asqs acqs : Nat)
  | ccEnClear (p : PortId)
  | shutdownNotification (p : PortId)
  | shutdownComplete (p : PortId)
  | d3hotEntry (p : PortId)
  | d0Return (p : PortId)
  | pasidEnableClear (p : PortId)
  | msixVectorUnmask (p : PortId) (u : Unmask)
  | sqTailDoorbell (p : PortId) (w : DoorbellAt) (aligned32 : Bool) (value : Nat)
  | cqHeadDoorbell (p : PortId) (w : DoorbellAt) (aligned32 : Bool) (value : Nat)
  | mctpVdmMessage (p : PortId) (r : MiRequest)
  | stopWindowAccess (p : PortId) (n : LocalId) (off : Nat) (write : Option W64)
  -- fetch and admission (05, 06)
  | sqEntryFetch (p : PortId) (n : LocalId) (qid : Nat) (entries : List Sqe)
  | hostDmaFailure (p : PortId) (t : DmaTarget) (f : DmaFault)
  | admissionRound (q : QuadId)
  | capAllowanceInterval (q : QuadId)
  | hostViolWindowRoll
  | deferredErrorEventTimeout (p : PortId)
  -- admin commands (04 to 07, 18); the operand is the command context
  | createIoSq (c : Nat)
  | deleteIoSq (c : Nat)
  | createIoCq (c : Nat)
  | deleteIoCq (c : Nat)
  | getLogErrorInfo (c : Nat)
  | getLogSmart (c : Nat)
  | getLogFwSlot (c : Nat)
  | getLogCommandsEffects (c : Nat)
  | getLogSelfTest (c : Nat)
  | getLogDeferredErrors (c : Nat)
  | getLogInstanceCounters (c : Nat)
  | getLogLatencyHistograms (c : Nat)
  | getLogMediaHealth (c : Nat)
  | getLogStops (c : Nat)
  | getLogPowerThermal (c : Nat)
  | getLogUpdateState (c : Nat)
  | getLogDieStatistics (c : Nat)
  | getLogEventJournal (c : Nat)
  | getLogSpareReserves (c : Nat)
  | getLogModuleState (c : Nat)
  | identifyController (c : Nat)
  | identifyNamespace (c : Nat)
  | identifyNsList (c : Nat)
  | identifyNsDescriptors (c : Nat)
  | identifyControllerList (c : Nat)
  | abort (c : Nat)
  | setFeaturesArbitration (c : Nat)
  | setFeaturesPowerMgmt (c : Nat)
  | setFeaturesTempThreshold (c : Nat)
  | setFeaturesErrorRecovery (c : Nat)
  | setFeaturesNumberOfQueues (c : Nat)
  | setFeaturesIntCoalescing (c : Nat)
  | setFeaturesIntVectorConfig (c : Nat)
  | setFeaturesWriteAtomicity (c : Nat)
  | setFeaturesAsyncEventConfig (c : Nat)
  | setFeaturesApst (c : Nat)
  | setFeaturesTimestamp (c : Nat)
  | getFeatures (c : Nat)
  | apstIdleExpiry (p : PortId)
  | powerStateEntryStart
  | ps4DroneExcursion (finished : Bool)
  | asyncEventRequest (c : Nat)
  | namespaceCreate (c : Nat)
  | namespaceDelete (c : Nat)
  | namespaceAttach (c : Nat)
  | namespaceDetach (c : Nat)
  | firmwareImageDownload (c : Nat)
  | firmwareCommitVerify (c : Nat)
  | firmwareCommitNextBoot (c : Nat)
  | firmwareCommitConfirm (c : Nat)
  | firmwareCommitActivate (c : Nat)
  | updateVerificationComplete (f : VerifyFound)
  | activationServe
  | activationTimeout
  | trialAutoConfirm
  | flashOperationComplete (bank : Fin 2)
  | deviceSelfTestShort (c : Nat)
  | deviceSelfTestExtended (c : Nat)
  | deviceSelfTestAbort (c : Nat)
  | extendedSelfTestEnd (result : Nat)
  | directiveSend (c : Nat)
  | directiveReceive (c : Nat)
  | nvmeMiSend (c : Nat) (r : MiRequest)
  | nvmeMiReceive (c : Nat)
  | formatNvm (c : Nat)
  | formatNvmAll (c : Nat)
  | createInstance (c : Nat)
  | instanceReport (c : Nat)
  | destroyInstance (c : Nat)
  | changeShare (c : Nat)
  | shareDrainEnd (p : PortId) (n : LocalId)
  | shareDrainLimitExpiry (p : PortId) (n : LocalId)
  | resetInstance (c : Nat)
  | proxyAdmin (c : Nat)
  | lendMapMemory (c : Nat)
  | reclaimMapMemory (c : Nat)
  | t2AccessFailure (p : PortId) (lend : Fin 4) (f : DmaFault)
  | bindStop (c : Nat)
  | unbindStop (c : Nat)
  | loadStopImageTransfer (c : Nat)
  | loadStopImageLoad (c : Nat) (bodyOk : Bool) (compileSig : Option (Fin 4)) (operatorSig : Option (BitVec 384))
  | loadStopImageReload (c : Nat)
  | loadStopImageDiscard (c : Nat)
  | voicingSelect (c : Nat)
  | voicingSelectDryRun (c : Nat)
  | cryptoErase (c : Nat)
  -- the safety mailbox (17)
  | getChallenge (h : MbHdr) (key : BitVec 384)
  | challengeExpiry (n : Fin 8)
  | readIdentity (h : MbHdr)
  | readStatus (h : MbHdr)
  | setThreshOvr (h : MbHdr) (value : W64)
  | clearBackupWarning (h : MbHdr)
  | releaseSafeHold (h : MbHdr) (fresh : Sample)
  | setUpdateLock (h : MbHdr) (lock : Bool)
  | setRpl (h : MbHdr) (level : Nat) (strap : Bool)
  | loadKey (h : MbHdr) (slot : Nat) (persist unwraps : Bool) (kcv : BitVec 64)
  | clearKey (h : MbHdr) (slot : Nat)
  | rotateOperatorKey (h : MbHdr) (hash : BitVec 384) (strap : Bool)
  | revokeImageKey (h : MbHdr) (entry : Fin 4)
  -- QUIESCE and device epochs (03)
  | maintenanceHold (seconds : Nat)
  | maintenanceHoldRelease
  | maintenanceHoldExpiry
  | deviceEpochDrainEnd
  | drainInterruptTimeout
  -- I/O commands and the write path (05, 09, 10, 14)
  | flush (c : Nat)
  | write (c : Nat)
  | read (c : Nat)
  | writeZeroes (c : Nat)
  | datasetManagement (c : Nat)
  | verify (c : Nat)
  | compute (c : Nat)
  | computeCopy (c : Nat)
  | cacheSpaceGrant
  | writeCommit (c : Nat) (blocks : List (List Byte))
  | mergeReadComplete (c : Nat) (unit : Nat)
  | stripeIdleClose (n : Nat)
  | writeThroughStripeClose (n : Nat)
  | hbmUncorrectableError (muns : List Nat) (accumulators : Nat)
  | journalEpochClose
  | journalSealCommit
  -- chanters, links, decode (10, 12, 13)
  | chanterIssue (l : LinkId) (die : Fin 18)
  | suspendWindowExpiry (l : LinkId) (die : Fin 18)
  | dieReadTimeout (l : LinkId) (tag : Nat)
  | dieOpTimeout (l : LinkId) (die : Fin 18)
  | linkFrameReceived (l : LinkId) (f : LinkFrame)
  | replayTimeout (l : LinkId)
  | podViolWindowRoll
  | fecLockLoss (l : LinkId)
  | linkRecoveryStepResult (l : LinkId) (restored : Bool)
  | dieTimeoutPauseExpiry (l : LinkId)
  | podStatusMissing (l : LinkId)
  | ldpcDecodeComplete (op : Nat) (e : DecodeEnd) (bits fixed : Nat)
  | ldpcDecodeTimeout (q : QuadId)
  | coreHeartbeatMiss (q : QuadId) (core : Fin 16)
  | moverNoProgress (m : MoverId)
  -- map cache (08)
  | t1MissFillComplete (n : SliceId)
  | mapFetchComplete (nsid : Nat) (line : FetchedLine)
  | mapCacheWayError (n : SliceId) (set : Fin 256) (way : Fin 17) (uncorrectable tagLost : Bool)
  | wayErrorWindowExpiry (n : SliceId) (set : Fin 256) (way : Fin 17)
  | mcRegionLoWrite (w : Writer) (n : Fin 64) (value : W64)
  | mcClean
  | mcInvalidate
  | mcDiscard
  | mcUnlock
  | mcMaintDone
  -- upkeep (07, 11, 12, 19)
  | checkpointLine (nsid line : Nat)
  | gcVictimStart (g : Fin 16)
  | relocationCopyComplete (g : Fin 16) (band : Nat)
  | retentionClockTick
  | retentionRefresh (g : Fin 16)
  | ladderUnitRewrite (mun : Nat)
  | wearLevelling (g : Fin 16) (dieSet : Fin 16)
  | writeClosedTimer (g : Fin 16)
  | rebuildRowSolve (id : Nat) (found : List SlotSolve)
  | podPresenceChange (l : LinkId) (present : Bool) (desc : Option PodDesc)
  | baySwitchStatusPoll (l : LinkId) (st : BayStatus)
  | baySwitchIbi (l : LinkId) (st : BayStatus)
  | droneWindow (dieTime coreTime : Nat) (drones : List (Nat × Nat))  -- 1/1,024; (lag in s, demand in 1/1,024) of drones 0 to 10
  | patrolScrub (g : Fin 16) (band row : Nat) (finds : List ScrubFind)
  | readOffsetCalibration (l : LinkId) (die : Fin 18) (blockGroup : Nat)
  | memoryScrub (h : ScrubHit)
  | linkAdaptation (l : LinkId)
  | spareMediaVerify (l : LinkId) (die : Fin 18) (answers : Bool) (bad : List Nat)
  | vaultRearm (g : Fin 16) (band : Nat)
  | reserveBandReturn (g : Fin 16) (band : Nat)
  | podStatsRead (l : LinkId) (die : Fin 18) (resets tempMaxK : Nat)
  | telemetrySnapshot
  | eventRecorderTake
  -- stops (14)
  | stopDataOut (n : StopId) (f : OutFrame)
  | stopEndFrame (n : StopId) (f : OutFrame)
  | stopMoverOut (n : StopId) (f : OutFrame)
  | stopControlResponse (n : StopId) (tag : Fin 16) (value : W64) (stable : Bool)
  | stopIrqEdge (n : StopId) (line : Fin 8)
  | stopDrainAck (n : StopId)
  | stopDrainLimitExpiry (n : StopId)
  | stopXformTimeout (n : StopId) (tag : Nat)
  | stopComputeTimeout (n : StopId) (tag : Nat)
  | stopControlReadTimeout (n : StopId) (tag : Fin 16)
  | stopConfigWritten (n : StopId) (failing : List Nat)
  | stopViolWindowRoll
  -- data movers (15)
  | dmRingTailWrite (m : MoverId) (k : ChanId) (tail : Nat) (descs : List (Nat × MvDesc))
  | dmRingBaseWrite (m : MoverId) (k : ChanId) (value : W64)
  | dmEnableWrite (m : MoverId) (k : ChanId) (on : Bool)
  | dmPauseWrite (m : MoverId) (k : ChanId) (on : Bool)
  | dmPaceRequestWrite (m : MoverId) (k : ChanId) (on : Bool)
  | dmCopy (m : MoverId) (k : ChanId)
  | dmFill (m : MoverId) (k : ChanId)
  | dmCheck (m : MoverId) (k : ChanId)
  | dmFence (m : MoverId) (k : ChanId)
  | dmNop (m : MoverId) (k : ChanId)
  | dmBurstComplete (m : MoverId) (k : ChanId) (bytes : List Byte) (e : BurstEnd)
  | dmFenceReadComplete (m : MoverId) (k : ChanId)
  | dmRingReadFailure (m : MoverId) (k : ChanId)
  -- the rest of the table
  | registerWrite (w : Writer) (addr : Nat) (value : W64)
  | ingressBeatAccepted (n : StopId) (mover : Option ChanId) (tag seq : Nat)
  | powerStateEntryComplete
  | bellowsTestDeadline
  | bootFlashRead (bank : Fin 2) (off : Nat)
  deriving DecidableEq, Repr

end Sys2Proof
end

