-- ==== Sys2Proof/Decode.lean ====
section
/-! DEFINITION. The decoder of the opcode table's words. -/
namespace Sys2Proof

/-- The command a word spells by the table's bits. The table gives no row bits: its commands are operations and events, and no word spells one. -/
def decodeTableWord (_nbits _w : Nat) : Option Instr := none

end Sys2Proof
end

