-- ==== Sys2Proof/Config.lean ====
section
/-! DEFINITION. What one module fixes at the factory, and the values the manual leaves open. None has a body: no proof can see what it is. -/
namespace Sys2Proof.Config

/-- ID_REVISION: silicon, hub and quadrant steppings, board and variant (R24). The manual does not give the stepping codes. -/
opaque revision : BitVec 64
/-- Whether the module is ordering code NLT-1440-384C (R4). -/
opaque large : Bool
/-- ID_SERIAL (R24). -/
opaque serial : BitVec 64
/-- SN and IDENTITY_PUBLIC of the OTP row (17). -/
opaque sn : BitVec 160
opaque identityKey : BitVec 768
/-- ID_FW_VERSION of the bundle in each firmware bank at the factory. -/
opaque factoryFw : Nat → BitVec 32
/-- IMAGE_SERIAL of the factory voicing image. -/
opaque factorySerial : BitVec 64
/-- FORMAT_KEY: the first 8 bytes of the SHA-384 digest of the geometry section, its spare-pod list replaced by zeroes, and the MUN section (R57). -/
opaque formatDigest : VGeometry → List VMun → BitVec 64
/-- IMAGE_KEY_HASH entries programmed at manufacture (17, OTP). -/
opaque imageKey : Fin 4 → BitVec 384
/-- Die temperatures, powers, voltages and other readings no command carries, by a count of the reads. -/
opaque freeReading : Nat → Nat
/-- Draws of the partition's random source: nonces, secrets, keys (R565, R577), by a count of the draws. -/
opaque freeDraw : Nat → BitVec 384
/-- Bytes the manual does not give: a register or a window of tenant logic, stored ciphertext read as data, by a count of the reads. -/
opaque freeWord : Nat → BitVec 64
/-- Rows a short device self-test samples (19; the manual gives no number). -/
opaque selfTestRows : Nat
/-- A choice between several that the manual allows, by a count of the choices. -/
opaque freeChoice : Nat → Nat
/-- Entries the module fetches in 1 ms, less 1, and the share of a die's time it takes, in 1/1,024, in PS1 and PS2 (R46; the manual gives no figure). -/
opaque psFetch : Nat → Nat
opaque psDuty : Nat → Nat
/-- Read offsets (10, Read offsets): the value a calibration finds for a read level, the retention correction of the alternate set, and the shift of
each of step 5's eight reads; the manual gives no figure of any of them. -/
opaque freeOffset : Nat → Nat → BitVec 8
opaque retentionShift : Nat → BitVec 8
opaque sweepShift : Nat → BitVec 8
/-- The XTS-AES-256 ciphertext of a codeword's data, under a key the slot has held (its number counts them), with the mapping unit number and the
4 KiB index within the unit as the tweak (R234). No key leaves the partition and the engines. -/
opaque xts : (slot key unit index : Nat) → List (BitVec 8) → List (BitVec 8)
/-- The LDPC parity over bytes 0 to 4,111 of a codeword (09; the manual gives no code). -/
opaque ldpcParity : List (BitVec 8) → List (BitVec 8)
/-- The map key of T1 and T3: derived from a media secret and its generation (R245). -/
opaque mapKey : Nat → BitVec 32 → BitVec 256
/-- AES-256-GCM of a map record: the tag over header and entries, and the entries encrypted (R244). -/
opaque gcmTag : BitVec 256 → BitVec 96 → List Nat → BitVec 128
opaque gcmEntries : BitVec 256 → BitVec 96 → List (BitVec 40) → List (BitVec 40)
/-- The hash of NS_INDEX, NS_SERIAL and LINE that chooses a line's T2 set (R256; the manual names no hash). -/
opaque t2Hash : Nat → Nat → Nat → Nat
/-- SEVERITY of an event identifier in the event journal, which the manual does not assign (19). -/
opaque severity : Nat → Nat

end Sys2Proof.Config
end

