-- ==== Sys2Proof/Machine/Checks.lean ====
section
/-! DEFINITION. The arithmetic checks the manual defines: CRC-32C, CRC-64, the 64-bit sum and the two syndromes of a row. -/
namespace Sys2Proof.Machine

/-- Eight steps of a reflected CRC over one byte. -/
def crcByte {n : Nat} (poly : BitVec n) (k : Nat) (r : BitVec n) : BitVec n :=
  match k with
  | 0 => r
  | k + 1 => crcByte poly k (if r.getLsbD 0 then (r >>> 1) ^^^ poly else r >>> 1)

/-- CRC-32C continued from a register value. -/
def crc32cFrom (r : W32) (bs : List Byte) : W32 := bs.foldl (fun r b => crcByte 0x82F63B78#32 8 (r ^^^ b.zeroExtend 32)) r

/-- CRC-32C (Castagnoli) of a byte string: reflected, all ones before and after. -/
def crc32c (bs : List Byte) : W32 :=
  crc32cFrom 0xFFFFFFFF#32 bs ^^^ 0xFFFFFFFF#32

/-- The CRC-64 of NVMe (polynomial 0xAD93_D235_94C9_3659, reflected) continued from a register value (15). -/
def crc64From (r : W64) (bs : List Byte) : W64 :=
  bs.foldl (fun r b => crcByte 0x9A6C9329AC4BC9B5#64 8 (r ^^^ b.zeroExtend 64)) r

/-- SUM64 continued: byte `i` of the transfer counts in its 64-bit word (15). -/
def sum64From (i : Nat) (r : W64) : List Byte → W64
  | [] => r
  | b :: bs => sum64From (i + 1) (r + (b.zeroExtend 64 <<< (8 * (i % 8)))) bs

/-- A checksum register after some bytes, by the algorithm's code (15, Checksum algorithms). -/
def csumRun (kind : Nat) (r : W64) (bs : List Byte) : W64 :=
  match kind with
  | 1 => (crc32cFrom (r.setWidth 32) bs).zeroExtend 64
  | 2 => crc64From r bs
  | 3 => sum64From 0 r bs
  | _ => r
/-- The final value of a checksum register. -/
def csumFinal (kind : Nat) (r : W64) : W64 :=
  match kind with
  | 1 => (r.setWidth 32 ^^^ 0xFFFFFFFF#32).zeroExtend 64
  | 2 => r ^^^ 0xFFFFFFFFFFFFFFFF#64
  | 3 => r
  | _ => 0

/-- The bytes of a number, least significant first (R19). -/
def leBytes (n w : Nat) : List Byte :=
  match n with
  | 0 => []
  | n + 1 => BitVec.ofNat 8 w :: leBytes n (w / 256)

/-- A little-endian number (R19). -/
def leNat : List Byte → Nat
  | [] => 0
  | b :: r => b.toNat + 256 * leNat r

/-- Multiplication in GF(2^8) with the polynomial 0x11D (R293). -/
def gmulFrom (k : Nat) (a b acc : Byte) : Byte :=
  match k with
  | 0 => acc
  | k + 1 =>
    let acc := if b.getLsbD 0 then acc ^^^ a else acc
    gmulFrom k (if a.getLsbD 7 then (a <<< 1) ^^^ 0x1D#8 else a <<< 1) (b >>> 1) acc
def gmul (a b : Byte) : Byte := gmulFrom 8 a b 0

/-- g^i for g = 2. -/
def gpow : Nat → Byte
  | 0 => 1
  | i + 1 => gmul 2 (gpow i)

/-- P of one byte position of a slot: the sum of the data members' bytes (R293). -/
def parityP (d : List Byte) : Byte := d.foldl (· ^^^ ·) 0
/-- Q of one byte position: the sum weighted by g^i, data member i counted from `i`. -/
def parityQFrom (i : Nat) : List Byte → Byte
  | [] => 0
  | b :: r => gmul (gpow i) b ^^^ parityQFrom (i + 1) r
def parityQ (d : List Byte) : Byte := parityQFrom 0 d

end Sys2Proof.Machine
end

