-- ==== Sys2Proof/Machine/StateBase.lean ====
section
/-! DEFINITION. Statuses, modes, events, data layouts and the module's outputs: the small types the state areas share. -/
namespace Sys2Proof.Machine

/-- The six modes (R74). -/
inductive Mode where
  | keep | bringUp | service | degraded | quiesce | safeHold
  deriving DecidableEq, Repr

/-- An NVMe completion status (R191, R661). -/
structure Status where
  sct : Nat
  sc  : Nat
  dnr : Bool
  deriving DecidableEq, Repr

/-- A map entry (R242). -/
inductive MapVal where
  | unmapped            -- 0xFF_FFFF_FFFF
  | zeroes              -- 0xFF_FFFF_FFFD
  | uncorrectable       -- 0xFF_FFFF_FFFE
  | mun (m : Nat)
  deriving DecidableEq, Repr

/-- One field of a data structure returned to a host: byte offset, lowest bit, width in bits, value (R19). -/
structure Field where
  off   : Nat
  lsb   : Nat := 0
  width : Nat
  val   : Nat
  deriving DecidableEq, Repr

/-- A data structure: its size in bytes and its fields; every bit outside them is 0. -/
structure Layout where
  size   : Nat
  fields : List Field
  deriving DecidableEq, Repr

/-- A report to the event journal (R624): source, event identifier, object and value. -/
structure Report where
  source : Nat
  event  : Nat
  object : Nat := 0
  value  : Nat := 0
  time   : Nat := 0     -- RTC ms of the first report
  deriving DecidableEq, Repr

/-- An entry of the event journal ring (R626). -/
structure JEntry where
  seq       : Nat
  report    : Report
  coalesced : Nat := 0
  lost      : Nat := 0
  deriving DecidableEq, Repr

/-- A message or a frame the module sends to a pod (13, opcode table). -/
inductive ToPod where
  | read (die block row level plane cwMask offsetSel soft tag : Nat) (slc : Bool) (offsets : List Byte)   -- of its OFFSETS slot, if it has one
  | program (die block row codewords tag : Nat) (slc : Bool) (units : List (List Byte))   -- its codewords, parity included
  | erase (die block tag : Nat) (slc : Bool)
  | suspend (die tag : Nat)
  | resume (die tag : Nat)
  | probe (die : Nat)
  | loadOffsets (die blockGroup : Nat) (alternate : Bool) (offsets : List Byte)
  | mgmtRead (tag addr len : Nat)
  | mgmtWrite (tag addr : Nat) (value : W64)
  | hello (selected : Nat)
  deriving DecidableEq, Repr

/-- A stream frame the shell sends to tenant logic (R468). -/
structure InFrame where
  typ     : Nat            -- 1 DATA_IN, 4 ERROR, 5 ABORT, 6 MOVER_IN
  kind    : Nat := 0
  last    : Bool := false
  tag     : Nat := 0
  seq     : Nat := 0
  gen     : Nat := 0
  length  : Nat := 0
  nsid    : Nat := 0
  lba     : Nat := 0
  offset  : Nat := 0
  arg     : W64 := 0
  code    : Nat := 0
  channel : Nat := 0
  shift   : Nat := 0
  payload : List (List Byte) := []
  deriving DecidableEq, Repr

/-- How a write to host memory goes out: under a PASID or none (R133), with Relaxed Ordering or without (R121). -/
structure Dma where
  pasid   : Option Nat := none
  relaxed : Bool := false
  deriving DecidableEq, Repr

/-- What leaves the module. The list of them is the model's own field, in the order they leave. -/
inductive Out where
  | cqe (port inst cq sqid cid : Nat) (status : Status) (dw0 dw1 : W32) (addr : Nat) (dma : Dma)
  | msix (port vector : Nat) (addr : W64) (data : W32)
  | data (port inst cid : Nat) (l : Layout) (dma : Dma)
  | blocks (port inst cid : Nat) (bs : List (List Byte)) (dma : Dma)
  | buffer (port inst cid off : Nat) (bs : List (List Byte)) (dma : Dma)
  | cfgRetry (port : Nat)
  | toPod (link : Nat) (m : ToPod)
  | bay (slot : Nat) (on : Bool)
  | toStop (stop : Nat) (f : InFrame)
  | ctlReq (stop addr tag : Nat) (write : Bool) (value : W64)
  | regValue (addr : Nat) (value : W64)
  | configRead (stop off : Nat) (value : W64)
  | dbRead (value : W64)
  | zeroRead (port : Nat) (addr : Nat) (pasid : Option Nat)
  | cpl (port : Nat) (value : W64)
  | mi (status : Status) (dw0 : W32)
  | miData (l : Layout)
  | mailbox (src : MbSource) (code result : Nat) (seq : W32) (signed : Bool) (l : Layout)
  | moverWrite (mover chan : Nat) (space addr len : Nat) (dma : Option Dma)
  | moverIrq (mover chan : Nat) (on : Bool)
  | busError (bank : Nat)
  | t2Read (port addr : Nat)                       -- a T2 set (R256), without a PASID
  | t2Write (port addr : Nat) (r : MapRecord)      -- a record as T2 holds it, entries encrypted
  deriving DecidableEq, Repr

end Sys2Proof.Machine
end

