-- ==== Sys2Proof/Machine/StateHost.lean ====
section
/-! DEFINITION. State of the host ports, queues, command contexts and instances (03 log page 0xEA, 04, 05, 06). -/
namespace Sys2Proof.Machine

/-! ## Queues and contexts (05) -/

/-- A submission queue. -/
structure Sq where
  size   : Nat := 2           -- entries
  base   : W64 := 0           -- where it lies in host memory, in the instance's PASID space (R202)
  tail   : Nat := 0           -- last tail doorbell accepted
  head   : Nat := 0           -- entries fetched, modulo size
  cq     : Nat := 0
  bell   : Nat := 0           -- order of its oldest doorbell write not yet fully served; 0: none (R146)
  failed : Bool := false      -- no longer fetched (R192)
  done   : List Nat := []     -- CIDs of completed commands (R175)
  deriving DecidableEq, Repr

/-- A completion entry not yet written, with the context it frees when it is (R150; 0: none) and, of an I/O command, its NSID (R184). -/
structure Cqe where
  sqid   : Nat
  cid    : Nat
  status : Status
  dw0    : W32 := 0
  dw1    : W32 := 0
  ctx    : Nat := 0
  io     : Option Nat := none
  deriving DecidableEq, Repr

/-- A completion queue. -/
structure Cq where
  size   : Nat := 2
  base   : W64 := 0
  tail   : Nat := 0           -- next entry the module writes
  head   : Nat := 0           -- last head doorbell accepted
  vector : Option Nat := none -- vector index, where interrupts are enabled
  held   : List Cqe := []     -- completions in their order, waiting for a free entry (R152)
  deriving DecidableEq, Repr

/-- Overlap classes (R153). -/
inductive OvClass where
  | read | write
  deriving DecidableEq, Repr

/-- One overlap-table entry's range in mapping units (R153). -/
structure OvEntry where
  cls       : OvClass
  nsid      : Nat
  first     : Nat
  count     : Nat
  committed : Bool := false   -- a write that has committed or completed in error (R159)
  deriving DecidableEq, Repr

/-- Where a command stands in the sequencer's steps. -/
inductive Phase where
  | admission        -- step 2
  | ready            -- admitted, its effect not begun
  | space            -- waits at step 4 for protected cache space (R303)
  | merge            -- waits for a media read of a partly written unit (R304)
  | granted          -- space granted and slots assigned; data not yet in the cache
  | program          -- write-through: waits for its stripes (R163)
  | seal (epoch : Nat) -- waits for this journal epoch's seal
  | media            -- waits for codeword reads
  | stop             -- waits on tenant logic
  | drain            -- waits for commands of an instance, queue or namespace
  | epoch            -- started a device epoch, exempt from its drain (R92)
  | order            -- a write ordered after an earlier overlapping write (R159)
  | posted           -- completed; its completion entry is not yet written (R150, R152)
  deriving DecidableEq, Repr

/-- A unit of a command that still needs the media (R320): the MUN of the codeword and the unit it belongs to. -/
structure NeedCw where
  mun  : Nat
  unit : Nat
  sub  : Nat
  deriving DecidableEq, Repr

/-- A unit a write has been given slots for (R297, R298). -/
structure Placed where
  unit : Nat
  mun  : Nat
  deriving DecidableEq, Repr

/-- A command context (R36, R150). -/
structure Ctx where
  id      : Nat
  port    : Nat
  inst    : Nat
  gen     : W16
  qid     : Nat
  stamp   : Nat                 -- fetch stamp (R147)
  time    : Nat                 -- time of fetch, µs
  sqe     : Sqe
  admin   : Bool
  phase   : Phase
  cost    : Nat := 0
  reserved : Bool := true       -- taken from the instance's SLOT_MIN (R207)
  ov      : List OvEntry := []
  need    : List NeedCw := []   -- codewords not yet decoded
  lines   : List Nat := []      -- map lines its lookups have been served for (R271)
  merge   : List Nat := []      -- units waiting: of a read for their source, of a write for their merge read
  merged  : List Nat := []      -- units whose merge read is back
  placed  : List Placed := []
  data    : List (List Byte) := []
  wt      : Bool := false       -- acknowledged under write-through rules (R166)
  begun   : Bool := false       -- a read has taken a unit or a codeword (R173)
  kept    : List (Nat × MapVal) := []   -- units of a read that a later write has changed: the version it still needs (R158)
  undo    : List (Nat × MapVal) := []   -- units of a Write Zeroes that waits for its seal, as they stood before (R174)
  owes    : List (Nat × Nat) := []      -- a Flush: deferred errors it reports, SEQ and NSID (R186)
  sealBy  : Nat := 0            -- a Flush: journal epoch it waits for, 0 none (R168)
  askedAt : Nat := 0            -- a write: since when it waits for cache space, µs
  status  : Status := ⟨0, 0, false⟩
  dw0     : W32 := 0
  dw1     : W32 := 0
  mover   : Option Nat := none  -- data-mover channel it is carried out for (R484)
  stopTag : Nat := 0            -- TAG given by the shell (R470)
  stopNo  : Nat := 16
  held    : Bool := false       -- held for a stop epoch (R495)
  fails   : Nat := 0            -- failures of the firmware task that serves it (R191)
  mi      : Bool := false       -- carried by NVMe-MI: it is answered there
  deriving DecidableEq, Repr

/-- A command ended without completion whose operations are still to return: they are late, and counted for its instance (R214). -/
structure Ended where
  id   : Nat
  key  : Nat
  gen  : W16
  stop : Nat := 16
  tag  : Nat := 0
  deriving DecidableEq, Repr

/-! ## Instances (06) -/

/-- Slot states (R196). -/
inductive SlotState where
  | free | active | draining | isolated
  deriving DecidableEq, Repr

/-- An entry of log page 0xE0 (05). -/
structure DefErr where
  seq     : Nat
  time    : Nat
  nsid    : Nat
  gen     : W16
  event   : Nat
  slba    : Nat
  nlb     : Nat
  cause   : Nat
  flagged : Bool := false
  evented : Bool := false
  flushed : Bool := false
  epoch   : Nat := 0
  deriving DecidableEq, Repr

/-- One instance's part of log page 0xE0 (R187, R655). -/
structure DefLog where
  entries  : List DefErr := []
  pending  : Nat := 0
  overflow : Bool := false
  lost     : Nat := 0
  seq      : Nat := 0
  undelivered : List (Nat × Nat × Nat) := []   -- errors not yet delivered: SEQ, NSID, time of recording, µs (R184)
  removed  : List Nat := []      -- delivered or not, gone from the log or never in it, but still counted in PENDING
  flushDue : List (Nat × Nat) := []  -- (SEQ, NSID) no Flush has been fetched for since (R186)
  deriving DecidableEq, Repr

/-- Log page 0xE1 (R620). -/
structure InstCounters where
  reads : Nat := 0
  writes : Nat := 0
  readBytes : Nat := 0
  writeBytes : Nat := 0
  flushes : Nat := 0
  computes : Nat := 0
  errors : Nat := 0
  admitWaitUs : Nat := 0
  cacheWaitUs : Nat := 0
  mapParks : Nat := 0
  readArounds : Nat := 0
  deriving DecidableEq, Repr

/-- A Change Share in its drain (R219, R221). -/
structure ShareChange where
  share : Share
  ctx   : Nat
  start : Nat               -- time the drain began, µs
  base  : Nat := 0          -- VEC_BASE it takes (R221, R223)
  deriving DecidableEq, Repr

/-- The volatile state of an instance slot. Its share, generation, epoch and attachments are journalled and stand in `DurInst`. -/
structure Inst where
  state     : SlotState := .free
  cause     : Nat := 0            -- ISOLATE_CAUSE
  violWindow : Nat := 0
  violTotal : Nat := 0
  late      : Nat := 0            -- LATE_DISCARDS
  admitted  : Nat := 0            -- ADMITTED_UNITS
  fetched   : Nat := 0
  lastDrainUs : Nat := 0
  deficit   : Nat := 0
  allowance : Nat := 0            -- cap allowance, 1/2,048 cost units (R211)
  sqs       : Tbl Sq := []
  cqs       : Tbl Cq := []
  change    : Option ShareChange := none
  waiting   : List Nat := []      -- contexts of Change Shares that wait for the one in progress (R105, R224)
  defLog    : DefLog := {}
  counters  : InstCounters := {}
  histRead  : Tbl Nat := []
  histWrite : Tbl Nat := []
  coalesce  : W32 := 0            -- FID 0x08
  vecConfig : Tbl W32 := []       -- FID 0x09 by vector index
  deriving DecidableEq, Repr

/-- The journalled part of an instance slot (R197). -/
structure DurInst where
  live     : Bool := false        -- not FREE
  gen      : W16 := 0
  epoch    : W32 := 0
  share    : Share := {}
  vecBase  : Nat := 0
  attached : List Nat := []       -- NSIDs
  window   : Option Nat := none   -- stop its BAR4 window presents: the last bound with WINDOW, while it is bound (R472)
  deriving DecidableEq, Repr

/-! ## Ports (04) -/

/-- State of a PCIe link. -/
inductive PcieState where
  | detect | training | l0 | recovery | disabled
  deriving DecidableEq, Repr

/-- An MSI-X table entry and its pending bit (R134). -/
structure Msix where
  addr    : W64 := 0
  data    : W32 := 0
  masked  : Bool := true
  pending : Bool := false
  deriving DecidableEq, Repr

/-- An entry of the Error Information log (R192). -/
structure ErrEntry where
  count  : Nat
  sqid   : Nat
  cid    : Nat
  status : Status
  nsid   : Nat := 0
  deriving DecidableEq, Repr

/-- The five event pages that are posted once until read: bit 0 0xE0, 1 0xE3, 2 0xE4, 3 0xE5, 4 0xEA. -/
structure Posted where
  e0 : Bool := false
  e3 : Bool := false
  e4 : Bool := false
  e5 : Bool := false
  ea : Bool := false
  deriving DecidableEq, Repr

/-- An asynchronous event that waits for an Asynchronous Event Request. -/
structure AsyncEv where
  typ  : Nat
  info : Nat
  lid  : Nat
  deriving DecidableEq, Repr

/-- The vendor-area telemetry of a port (R132): a snapshot and the counters it is taken from. -/
structure Telem where
  rdCmds : Nat := 0
  wrCmds : Nat := 0
  rdBytes : Nat := 0
  wrBytes : Nat := 0
  rdLat  : W64 := 0
  deriving DecidableEq, Repr

/-- How a link encodes its data (R116). -/
inductive Encoding where
  | none | e128b130b | flit
  deriving DecidableEq, Repr

/-- A host port. -/
structure Port where
  link      : PcieState := .detect
  speed     : Nat := 0            -- trained PCIe generation, 0 none
  width     : Nat := 0
  common    : Bool := false       -- clocking mode in force (R119)
  measuring : Bool := false       -- the 100 µs reference-clock measurement runs
  perst     : Bool := false       -- PERST# asserted
  cfgReady  : Bool := false       -- answers configuration requests without Request Retry Status
  d3hot     : Bool := false
  pasidEn   : Bool := false
  relaxed   : Bool := false       -- Device Control, Enable Relaxed Ordering (R121)
  bars      : Tbl W64 := []       -- base addresses by BAR number 0, 2 and 4 (R125)
  asq       : W64 := 0            -- where the admin queues lie
  acq       : W64 := 0
  msixEn    : Bool := false
  fmask     : Bool := false
  msix      : Tbl Msix := []
  ccEn      : Bool := false
  css       : Nat := 0            -- CC.CSS, IOSQES and IOCQES as last written with CC.EN
  iosqes    : Nat := 0
  iocqes    : Nat := 0
  asqs      : Nat := 0            -- AQA: sizes of the admin queues, less 1
  acqs      : Nat := 0
  everEn    : Bool := false       -- its host has set CC.EN (R85)
  rdy       : Bool := false
  cfs       : Bool := false
  cfsKept   : Bool := false       -- CFS stays until the host clears CC.EN (R570)
  pp        : Bool := false
  shst      : Nat := 0            -- CSTS.SHST: 0, 1, 2
  held      : List (Nat × Nat × Cqe) := []   -- completions withheld in D3hot or Recovery: instance, queue, entry
  heldIrq   : List (Nat × Option Nat) := []   -- interrupts withheld with them: vector, and of a command's the local instance
  heldOut   : List Out := []      -- data writes withheld in Recovery (R118)
  aers      : List Nat := []      -- CIDs of outstanding Asynchronous Event Requests
  waitingEv : List AsyncEv := []
  posted    : Posted := {}
  reqPs     : Nat := 0            -- last Set Features or APST state
  psLapsed  : Bool := false       -- counts as requesting the last operational state (R141)
  apstEn    : Bool := false
  apst      : List (Nat × Nat) := []  -- (target, idle ms) by current state
  tempOver  : Nat := 368
  tempUnder : Nat := 0
  asyncCfg  : W32 := 0x1F
  arb       : W32 := 0
  errRec    : W32 := 0
  atomicity : W32 := 0
  queuesSet : Option (Nat × Nat) := none   -- submission and completion queues granted by FID 0x07, each less 1
  saved     : Tbl W32 := []       -- values saved by Set Features with SV, by FID
  miResp    : Option (Status × W64) := none  -- answer to the last NVMe-MI Send, not yet received
  savedApst : Option (List (Nat × Nat)) := none
  busyAt    : Nat := 0            -- time of the last fetch or completion (R142), µs
  degSet    : BitVec 16 := 0
  degCleared : BitVec 16 := 0
  newIso    : BitVec 128 := 0
  changeCount : W32 := 0          -- HV_THROTTLE.CHANGE_COUNT
  stray     : Nat := 0
  straySec  : Nat := 0            -- strays of the running second
  straySent : Bool := false
  seqNo     : Nat := 0            -- HV_TELEM_SEQ
  snap      : Telem := {}
  run       : Telem := {}
  lats      : List (Nat × Nat) := []  -- (time, latency) of the 4 KiB reads completed within the last second, µs
  errLog    : List ErrEntry := []
  errCount  : Nat := 0
  admits    : List (Nat × Nat) := []  -- (time, cost units) admitted within the last second
  refRate   : Nat := 0            -- cost units admitted in the 1 s before M2 was entered (R555)
  m3Used    : Nat := 0            -- units admitted in the running 1 ms at M3
  deriving DecidableEq, Repr

end Sys2Proof.Machine
end

