-- ==== Sys2Proof/Machine/StateMedia.lean ====
section
/-! DEFINITION. State of the map, the journal, the write path, the media, the chanters and the reed links (07 to 13). -/
namespace Sys2Proof.Machine

/-! ## Map and namespaces (07) -/

/-- A namespace (R229). -/
structure Ns where
  nsid   : Nat
  serial : Nat
  spec   : NsSpec
  keyGen : Nat := 0         -- counts the keys of its slot, a new one per Crypto Erase with NEW_KEY
  deriving DecidableEq, Repr

/-- A line directory entry (R250) with the newest journal epoch its checkpoint record includes. -/
structure DirEntry where
  mun   : Nat
  index : Nat
  epoch : Nat := 0
  deriving DecidableEq, Repr

/-- Where copies of a map line stand below T0, and what they lack (07, The tiers). -/
structure Line where
  inT1     : Bool := false
  nonce    : Nat := 0          -- NONCE of its T1 record
  dirty    : Bool := false     -- the map holds a change its latest T3 checkpoint lacks
  changed  : Nat := 0          -- epoch of its oldest such change
  ckpt     : Bool := false     -- a checkpoint's directory record is not yet sealed
  later    : Nat := 0          -- epoch of the oldest change after that checkpoint, 0 none
  est      : Nat := 0          -- rewrite estimator (R299)
  estPeriod : Nat := 0         -- decay period it was last read in (R300)
  overlay  : Bool := false     -- has records in the replay overlay (R263)
  deriving DecidableEq, Repr

/-- A lend of host memory (R251). -/
structure Lend where
  id      : Nat
  extents : List Extent
  deriving DecidableEq, Repr

/-! ## Bands (11) -/

/-- Band states (R358). -/
inductive BandState where
  | free | opened | full | victim | erasePending | vault | system | reserve | retired
  deriving DecidableEq, Repr

/-- Streams of a group (R296, R406). -/
inductive Stream where
  | cls (h : Fin 4) | gc (h : Fin 3) | map | rebuild
  deriving DecidableEq, Repr

/-- A band. -/
structure Band where
  state   : BandState := .erasePending  -- a band without a row has never been erased since first format
  stream  : Stream := .map
  mark    : Nat := 0              -- programmed-row mark
  erases  : Nat := 0              -- band erase count
  fullAt  : Nat := 0              -- group clock at its event 3 record, s
  fullTime : Nat := 0             -- RTC time of its event 3 record, ms
  absent  : List Nat := []        -- absent member positions (R394)
  kept    : List (Nat × Nat) := []   -- member positions still read from a retiring die, with that die (R407)
  intent  : Bool := false         -- a band with a role of its own has an erase intent and no erase done (R71)
  freedAt : Nat := 0              -- epoch of its erase-done record: how long it has been FREE (R301)
  deriving DecidableEq, Repr

/-! ## Journal (03, 07) -/

/-- The binding a type 0xA record carries (R472, R497). -/
structure Binding where
  mode   : Nat := 0               -- 0 not bound
  nsid   : Nat := 0
  window : Bool := false
  image  : Option StopImage := none
  epoch  : W32 := 0
  deriving DecidableEq, Repr

/-- Events of a substitution record (12). -/
inductive SubEvent where
  | die (group member slot pos old new rebuild : Nat) (retiring : Bool)
  | pod (group pos old new rebuild : Nat)
  | lost (group pos slot rebuild : Nat)
  | progress (rebuild cursor done lost elapsed : Nat)
  | finished (rebuild : Nat)
  | xcvr (group link : Nat)
  | rate (link rate : Nat)
  | entered (slot : Nat)
  | package (kind unit new : Nat)
  | deadDie (group member slot die : Nat)   -- a die fails that serves no position: a spare, or one retiring
  | deadPod (slot : Nat) (thermal : Bool)
  deriving DecidableEq, Repr

/-- Events of a band-state record (11). -/
inductive BandEvent where
  | opened (s : Stream)
  | rows (mark : Nat)
  | full (mark clock time : Nat)
  | victim
  | intent
  | done (erases epoch : Nat)
  | remapped (member phys : Nat)
  | retired
  | role (s : BandState)
  | released
  deriving DecidableEq, Repr

/-- A journal record (R258, types 0x1 to 0xB). -/
inductive Rec where
  | map (nsid unit mun : Nat)
  | set (nsid unit count : Nat) (v : MapVal)
  | relocate (nsid unit mun source : Nat)
  | nsSet (n : Ns)
  | nsDelete (nsid : Nat)
  | directory (nsid line mun index epoch : Nat)
  | band (group band : Nat) (e : BandEvent)
  | inst (key : Nat) (d : DurInst)
  | binding (stop : Nat) (b : Binding)
  | sub (e : SubEvent)
  deriving DecidableEq, Repr

/-- A rebuild (R404, R413). -/
structure Rebuild where
  id       : Nat
  group    : Nat
  pos      : Nat                -- member position lost
  slot     : Nat
  die      : Nat := 0
  diePos   : Option Nat := none -- active die position; none for a pod
  retiring : Bool := false
  noSub    : Bool := false
  finished : Bool := false
  cursor   : Option Nat := none -- band × 1,024 + row of the last row solved
  doneSlots : Nat := 0          -- as of the last progress record, as the two below
  elapsed  : Nat := 0           -- s
  lost     : Nat := 0           -- LOST_UNITS
  deriving DecidableEq, Repr

/-- A rebuild as it runs, beyond its last progress record (R405). -/
structure Run where
  cursor  : Option Nat := none
  gone    : List Nat := []        -- bands scanned
  shared  : List Nat := []        -- rows solved with another rebuild's (R414), band × 1,024 + row
  done    : Nat := 0
  lost    : Nat := 0
  total   : Nat := 0
  logged  : Nat := 0              -- `done` at the last progress record
  start   : Nat := 0              -- time it started or resumed, µs
  before  : Nat := 0              -- s elapsed before that
  deriving DecidableEq, Repr

/-- What the journal makes durable: each field changes by records alone (R103). -/
structure Durable where
  map      : Tbl MapVal := []      -- by NSID × 2^40 + unit
  nss      : Tbl Ns := []
  nextSerial : Nat := 1
  dir      : Tbl DirEntry := []    -- by NSID × 2^40 + line
  bands    : Tbl Band := []        -- by group × 65,536 + band
  remap    : Tbl Nat := []         -- by (slot × 32 + die) × 4,096 + index: physical block
  insts    : Tbl DurInst := []     -- by port × 128 + local
  bindings : Tbl Binding := []     -- by stop
  podTab   : Tbl Nat := []         -- by group × 32 + position: pod slot
  dieTab   : Tbl Nat := []         -- by slot × 16 + active position: physical die
  lostMem  : List (Nat × Nat) := []   -- (group, position) lost without substitute
  deadDies : List Nat := []        -- slot × 32 + die: failed or retired
  deadPods : List Nat := []        -- slots that hold a failed pod (R403)
  hotPods  : List Nat := []        -- of them, pods failed at their shutdown temperature
  entered  : List Nat := []        -- slots whose pod entered as spare (R403)
  rebuilds : List Rebuild := []
  nextRebuild : Nat := 1
  deriving DecidableEq, Repr

/-- A codeword slot's content (09, Codewords). The data is held as the host gave it; `keyed` names the key of its namespace's slot it is stored under,
`Codeword.stored` is what the slot holds. -/
structure Codeword where
  data  : List (List Byte) := []   -- its blocks (a 4 KiB codeword holds eight 512 B blocks or one of 4,096 B)
  nsid  : Nat := 0
  unit  : Nat := 0
  sub   : Nat := 0
  kind  : Nat := 0              -- 0 filler, 1 user data, 2 map record
  epoch : Nat := 0
  keyed : Option Nat := none    -- none: stored as plaintext
  recs  : List MapRecord := []  -- of a map checkpoint codeword: its records, by CKPT_INDEX
  programmed : Bool := false
  lost  : Bool := false         -- its cached copy is lost to an HBM error
  order  : Nat := 0             -- place of its stripe in programming order (R264)
  src    : Option Nat := none   -- of a copy: the media unit number it was copied from
  writer : Nat := 0             -- port of the host write it carries, from 1; 9 up: a quadrant's firmware; 0: a copy of what a die holds (R86, R168)
  deriving DecidableEq, Repr

/-! ## Write path (09) -/

/-- State of one member program of a stripe. -/
inductive MemberProg where
  | filling | queued | done | failed
  deriving DecidableEq, Repr

/-- A stripe that is not complete. -/
structure Stripe where
  group   : Nat
  stream  : Stream
  band    : Nat
  row     : Nat
  used    : List Nat := []        -- slots placed: data member × slots per row + slot
  placedAt : Nat := 0             -- time of the last placement, µs
  firstWt : Option Nat := none    -- time its first write-through codeword was placed (R314)
  closed  : Bool := false         -- no further slot is placed
  acc     : List (Nat × Nat) := []  -- (slot, data member) of each codeword the P and Q accumulators have taken (R294)
  staged  : Nat := 0              -- of them, write-through codewords staged in read staging (R313)
  members : Tbl MemberProg := []  -- by physical member position, P and Q included
  redo    : List Nat := []        -- slots that took the units of its failed members (R310)
  deriving DecidableEq, Repr

/-- A relocation of a band (R366). -/
structure Reloc where
  group  : Nat
  band   : Nat
  why    : Nat                    -- 0 GC, 1 retention refresh, 2 wear levelling, 3 only an erase owed
  step   : Nat := 1
  epoch  : Nat := 0               -- epoch that must be sealed before the next step
  copies : List (Nat × Nat × Nat × Nat) := []   -- (NSID, unit, old, new) not yet journalled
  recs   : List (Nat × Nat × Nat × Nat) := []   -- (NSID, line, new MUN, index) of checkpoint records copied
  spent  : Nat := 0               -- slots its copies took
  deriving DecidableEq, Repr

/-- A group of stripes: its clock, its credit, its admission. -/
structure Group where
  clock   : Nat := 0              -- effective clock, 1/1,000 s
  credit  : Nat := 0              -- host credit (R362), slots, offset by 0
  debt    : Nat := 0              -- slots taken beyond the credit
  pressed : Bool := false         -- free count 3 or fewer: the credit governs
  closed  : Bool := false         -- write-closed
  tokens  : Nat := 64             -- read-around bucket (R351)
  raCount : Nat := 0              -- host-read codewords towards the next token
  rotor   : Tbl Nat := []         -- next die set by stream number
  freeSeq : Nat := 0
  scrub   : Option (Nat × Nat) := none    -- patrol scrub: its band and next row
  deriving DecidableEq, Repr

/-- The protected cache (R306 to R310) and its vault image. -/
structure Cache where
  limitMib : Nat := 0
  held     : Bool := false
  wtAll    : Bool := false
  testHold : Option Nat := none   -- limit held by a bellows test, MiB (R537)
  grantHold : Bool := false       -- brownout watch: no new space for at most 1 s (R525)
  waiting  : List Nat := []       -- contexts waiting for space, in fetch order
  stripes  : List Stripe := []
  armed    : List Nat := []       -- vault bands that are erased on every member (R316)
  closing  : List Nat := []       -- bands that close with the last of their stripes (R359)
  pointers : Tbl (Nat × Nat) := []  -- by heat class: (group, slots placed there)
  filler   : Nat := 0
  progs    : Nat := 0             -- stripes programmed
  replaced : Nat := 0
  repairs  : Nat := 0
  deriving DecidableEq, Repr

/-- What a vault dump holds (R317), with the dump number it carries. -/
structure Vault where
  dumpId  : Nat
  epoch   : Nat
  device  : Nat
  sealing : List Rec := []
  opened  : List Rec := []
  muns    : List Nat := []        -- slots of the data codewords dumped
  defLogs : Tbl DefLog := []
  lastSeq : Nat := 0
  ring    : List JEntry := []     -- event-journal entries recorded since the last seal (R626)
  failed  : List (Nat × Nat) := []   -- (group, position) of members whose link was not up 200 µs after it lost lock (R445)
  complete : Bool := true
  deriving DecidableEq, Repr

/-- A die's record of log page 0xE7 as it is persisted (R620). -/
structure DieStats where
  hostReads : Nat := 0
  otherReads : Nat := 0
  programs : Nat := 0
  erases  : Nat := 0
  bitsRead : Nat := 0
  bitsFixed : Nat := 0
  ladder  : List Nat := [0, 0, 0, 0, 0]
  progFails : Nat := 0
  eraseFails : Nat := 0
  progSusp : Nat := 0
  eraseSusp : Nat := 0
  tempMaxK : Nat := 0
  resets  : Nat := 0
  deriving DecidableEq, Repr

/-- The journal (R99, R258). -/
structure Journal where
  openEpoch : Nat := 0            -- MD_JOURNAL_EPOCH
  openedAt  : Nat := 0
  opened    : List Rec := []
  sealing   : Option (List Rec) := none   -- the epoch before the open one, while it is being sealed
  sealedEpoch : Nat := 0          -- newest sealed
  counts    : List (Nat × Nat) := []   -- records of each sealed epoch the journal window may still hold
  defLogs   : Tbl DefLog := []    -- log page 0xE0 as persisted with the last seal (R655), by inst key
  closingLogs : Tbl DefLog := []  -- as it stood when the epoch being sealed closed
  nonce     : Nat := 0            -- position of the GCM nonce counter
  nonceKept : Nat := 0            -- its position as journalled with the last seal (R245)
  copies    : Option (Nat × Nat) := none  -- groups of the last sealed epoch's two copies (R319)
  cleanRec  : Bool := false       -- clean-shutdown record present (R85)
  rootEpoch : Nat := 0            -- epoch of the checkpoint root
  rootFormats : List Nat := [1]   -- format sets it is written in (R609)
  rootCopies : Option (Nat × Nat) := none -- groups of its two copies (R319)
  segs      : Tbl Nat := []       -- journal epoch at which each 64 MiB directory segment was taken (R262)
  segNext   : Nat := 0            -- segment the rotation comes to next
  stats     : Tbl (InstCounters × Tbl Nat × Tbl Nat) := []   -- log pages 0xE1 and 0xE2 as persisted with it (R620)
  dieStats  : Tbl DieStats := []  -- log page 0xE7 as persisted with it
  deriving DecidableEq, Repr

/-! ## Map cache (08) -/

/-- A way tag (08). -/
structure Way where
  nsid  : Nat := 0
  line  : Nat := 0
  valid : Bool := false
  ahead : Bool := false
  locked : Bool := false
  wt    : Bool := false
  owner : Nat := 0
  used  : Nat := 0                -- order of last use
  disabled : Bool := false
  errs  : Nat := 0
  errWindow : Bool := false
  errAt : Nat := 0                -- time of the first error of the window, µs
  lockSeq : Nat := 0
  lockTry : Bool := false         -- its region was written with LOCK while the line was here: the lock is tried at its next access (R277)
  deriving DecidableEq, Repr

/-- A line held by a slice's miss register, by the map fetcher, or parked. -/
structure Fetch where
  nsid : Nat
  line : Nat
  t1   : Bool                     -- true: in the miss register; false: parked with the map fetcher
  ctxs : List Nat := []
  quad : Nat := 0                 -- quadrant whose map fetcher it is parked with
  issued : Bool := false          -- the fetch is in flight, of at most 2,048 (R269)
  t2   : Option Nat := none       -- T2 set it reads; none: T3
  deriving DecidableEq, Repr

/-- A change-buffer record: the set, the way, the entry and its new value (R272). -/
structure Change where
  set : Nat
  way : Nat
  entry : Nat
  value : MapVal
  deriving DecidableEq, Repr

/-- A map-cache slice. -/
structure Slice where
  ways    : Tbl Way := []         -- by set × 32 + way
  spareFor : Tbl Nat := []        -- by set: way whose line way 16 took
  miss    : Option Fetch := none
  changes : List Change := []
  setSel  : Nat := 0
  hits    : Nat := 0
  misses  : Nat := 0
  parks   : Nat := 0
  denied  : Nat := 0
  corrected : Nat := 0
  uncorr  : Nat := 0
  waysOff : Nat := 0
  deriving DecidableEq, Repr

/-- A region table entry: the two registers and what is in force (R275). -/
structure Region where
  lo : W64 := 0
  hi : W64 := 0
  hiForce : W64 := 0              -- HI as it stood when LO was last written
  locks : Bool := false           -- locks ways now (R280)
  deriving DecidableEq, Repr

/-- The map cache's global state. -/
structure MapCache where
  slices  : Tbl Slice := []
  regions : Tbl Region := []
  range0  : W64 := 0
  range1  : W64 := 0
  busy    : Bool := false
  refused : Bool := false
  done    : Bool := false
  lines   : Nat := 0
  fillWaits : Nat := 0
  waitOps : List (Nat × W64 × W64) := []   -- region-change operations waiting: OP, RANGE0, RANGE1
  parked  : List Fetch := []      -- lines with the map fetchers
  t2      : Tbl MapRecord := []   -- what the module has written to the T2 layout in force, by set × 4 + way
  t2Key   : Option (BitVec 256) := none  -- key of that layout
  t2Bad   : Nat := 0              -- T2 records that failed R246 (R255)
  hand    : Nat := 0              -- where T1's clock stands: the last line it evicted (R249)
  clock   : Nat := 0
  lockClock : Nat := 0
  deriving DecidableEq, Repr

/-! ## Chanters (10) -/

/-- Chanter classes (10). -/
inductive OpClass where
  | flush | host | write | gc | drone
  deriving DecidableEq, Repr

/-- What an operation does. -/
inductive OpKind where
  | read (mun plane level cw : Nat)
  | program (member : Nat)
  | erase
  deriving DecidableEq, Repr

/-- Who a read serves. -/
inductive Owner where
  | ctx (id unit sub : Nat)                -- the codeword of a host command
  | merge (id unit sub : Nat)              -- a merge read of a partial write
  | member (mun : Nat) (around : Bool)     -- a member read that solves the codeword of `mun`
  | drone
  | relocation (group band : Nat)
  | rebuild (id : Nat)
  | none
  deriving DecidableEq, Repr

/-- An operation with a chanter. -/
structure Op where
  id      : Nat
  link    : Nat
  die     : Nat                   -- physical die
  cls     : OpClass
  kind    : OpKind
  group   : Nat := 0
  band    : Nat := 0
  row     : Nat := 0
  block   : Nat := 0
  owner   : Owner := .none
  stamp   : Nat := 0              -- order within its class (R328)
  ladder  : Nat := 1              -- decode ladder step
  tag     : Option Nat := none    -- outstanding at the pod under this tag
  issuedAt : Nat := 0
  start   : Nat := 0              -- its start by R338
  suspended : Bool := false
  suspends : Nat := 0
  lastResume : Nat := 0
  windowAt : Option Nat := none   -- time the suspend window began (SUSPEND_ACK)
  suspTime : Nat := 0             -- µs spent suspended
  askedSuspend : Bool := false
  units   : Nat := 0              -- units still to come
  soft    : Nat := 0
  remain  : Option Nat := none    -- REMAIN_US of a version 3 pod, with its time below
  remainAt : Nat := 0
  queuedAt : Nat := 0
  askedAt : Nat := 0              -- time of the SUSPEND or of the RESUME
  sweep   : Nat := 0              -- shifted reads of step 5 still to come (R343)
  decoding : Bool := false        -- its units are with a decoder
  decodeAt : Nat := 0
  erased  : Bool := false         -- sensed as an erased page
  dead    : Bool := false         -- given up; the tag waits for a result that will be discarded
  deriving DecidableEq, Repr

/-- A die's standing. -/
inductive DieHealth where
  | spare | active | suspect | failed | retired
  deriving DecidableEq, Repr

/-- The per-die record (log page 0xE7) and what the chanter keeps of a die. -/
structure Die where
  health  : DieHealth := .active
  suspects : List Nat := []       -- times it became suspect, µs
  busyUs  : Tbl Nat := []         -- die time charged in the window, by class number, µs
  deficits : Tbl Nat := []        -- deficit round robin over the classes
  doneAt  : Nat := 0              -- DONE of its last operation
  planeQ  : List Nat := []        -- PLANE_QUEUE of the last BUSY
  hostReads : Nat := 0
  otherReads : Nat := 0
  programs : Nat := 0
  erases  : Nat := 0
  bitsRead : Nat := 0
  bitsFixed : Nat := 0
  ladder  : List Nat := [0, 0, 0, 0, 0]   -- LADDER2 to LADDER6
  progFails : Nat := 0
  eraseFails : Nat := 0
  progSusp : Nat := 0
  eraseSusp : Nat := 0
  spareBlocks : Option Nat := none  -- none: as the descriptor declares
  badBlocks : List Nat := []
  candidates : List Nat := []     -- block indices to retire at the next erase (R379)
  step5   : Tbl (List Nat) := []  -- times of step-5 codewords by block within 7 days, µs
  verified : Bool := false        -- erased and verified since it entered service (R392)
  tempMaxK : Nat := 0
  resets  : Nat := 0
  podResets : Nat := 0            -- the pod's own count when it was last read (R622)
  offsetsAt : Tbl Nat := []       -- last calibration by block group
  offsets : Tbl (List Byte) := [] -- offset sets by block group × 2, and 1 for the alternate: a signed value for each read level
  slow    : Tbl Nat := []         -- codeword reads that needed step 2, of the last 10,000, by block group
  late    : Bool := false         -- missed the step-1 target for an hour (R347)
  hourReads : Nat := 0            -- codeword reads of the running hour, and of them those beyond step 1
  hourSlow : Nat := 0
  hourAt  : Nat := 0
  win10   : Nat := 0              -- number of the 10 ms window the charges of `busy10` lie in
  busy10  : Tbl Nat := []
  win100  : Nat := 0              -- and of the 100 ms window of `busyUs`
  probeAt : Option Nat := none    -- time of a PROBE not yet answered (R395)
  eraseFirst : Bool := false      -- took a position unverified: a band's block is erased before its first program (R392)
  doneReads : Nat := 0            -- in the last day, for RBER_24H: bits read and bits corrected
  doneFixed : Nat := 0
  dayAt   : Nat := 0
  rberAt  : Nat := 0              -- rate at its last EV0B0A
  wear    : Tbl Nat := []         -- erase count by physical block (R372)
  deriving DecidableEq, Repr

/-- A link's chanter counters (10). -/
structure Chanter where
  hostReads : Nat := 0
  ladder2 : Nat := 0
  ladder3 : Nat := 0
  ladder4 : Nat := 0
  ladder5 : Nat := 0
  ladder6 : Nat := 0
  progSusp : Nat := 0
  eraseSusp : Nat := 0
  readAround : Nat := 0
  noToken : Nat := 0
  waitMax : Nat := 0              -- CH_DIE_WAIT_MAX, 100 ns, of second `waitSec`
  waitSec : Nat := 0
  duty    : Nat := 1024           -- duty cap, 1/1,024 (R334)
  deriving DecidableEq, Repr

/-- A member read set that solves one codeword: step 4 of the ladder, or read-around. -/
structure Solve where
  mun     : Nat
  owner   : Owner
  ladder  : Nat                   -- 4 or 5
  around  : Bool
  stamp   : Nat
  need    : List Nat              -- member positions still to be read
  known   : List Nat              -- member positions read and good
  unknown : List Nat              -- member positions absent or failing, target included
  deriving DecidableEq, Repr

/-! ## Reed links and pods (13, 20) -/

/-- A reed link, CH_LINK_STATUS_n to CH_LINK_CREDIT_n and its protocol state. -/
structure Link where
  state   : Nat := 0              -- 0 off, 1 training, 2 up, 3 recovery, 4 failed, 5 refused
  rate    : Nat := 0
  version : Nat := 0
  podGen  : Nat := 0
  onSpare : Bool := false
  recoveries : Nat := 0
  violWindow : Nat := 0
  violRecov : List Nat := []      -- times of recoveries started by violations
  crcFails : Nat := 0
  replays : Nat := 0
  corrected : Nat := 0
  uncorrectable : Nat := 0
  writeCredits : Nat := 0
  creditSeen : Nat := 0           -- CREDIT_COUNT last accepted
  unitsSent : Nat := 0            -- program units sent and not yet credited
  unitsIn : Nat := 0              -- units received from the pod, modulo 65,536
  lastAcc : Nat := 4095           -- SEQ of the last frame accepted
  nextSeq : Nat := 0
  acked   : Nat := 4095           -- last ACK_SEQ accepted
  nakOut  : Bool := false
  replayRun : Nat := 0            -- replays since the acknowledgement last advanced
  recStep : Nat := 0              -- recovery step in progress, 0 none
  lostAt  : Option Nat := none    -- DIE_TIMEOUT paused since (R442)
  trying  : Nat := 0              -- rate being tried
  nextTag : Nat := 0
  adapted : Nat := 0              -- time of the last adaptation
  statusAt : Nat := 0
  sensorBad : Bool := false
  ackAt   : Nat := 0              -- time the acknowledgement last advanced
  mgmt    : List (Nat × Nat × Nat) := []   -- MGMT_READs outstanding: tag, address, length
  deriving DecidableEq, Repr

/-- A pod slot: its bay, its presence, its descriptor. -/
structure Pod where
  present : Bool := false
  desc    : Option PodDesc := none   -- descriptor read and accepted
  refused : Bool := false            -- fails its descriptor check or its HELLO
  mismatch : Bool := false           -- geometry differs from its group's (R61)
  powered : Bool := false            -- SP_POD_POWER bit, bay switch ENABLE
  role    : Nat := 0                 -- 0 unconfigured, 1 member, 2 spare, 3 named as spare and not yet verified (R73)
  entering : Bool := false           -- inserted into a failed pod's slot, not yet a spare (R403)
  verified : Bool := false           -- spare verified by R392
  compositeK : Nat := 0
  powerMw : Nat := 0
  failTimes : List Nat := []         -- times its dies failed (R397)
  failed  : Bool := false
  deriving DecidableEq, Repr

end Sys2Proof.Machine
end

