-- ==== Sys2Proof/Machine/StateUnits.lean ====
section
/-! DEFINITION. State of the modes, the supply, the zones, the safety partition, boot flash and update, the stops, the data movers, the drones, the event journal and the mechanical inputs (01 to 03, 14 to 20). -/
namespace Sys2Proof.Machine

/-! ## Modes and epochs (03) -/

/-- Why a flush runs (R528, R529, R530, R534, R653). -/
inductive FlushWhy where
  | power | thermal | overvoltage | stage | lockout | clock | safe08 | watchdog | moduleReset
  deriving DecidableEq, Repr

/-- A flush in progress or finished before step 6. -/
structure Flush where
  why    : FlushWhy
  onBank : Bool := false
  mode   : Mode                   -- mode in force at the trigger (R653)
  deriving DecidableEq, Repr

/-- What a device epoch applies once it has drained and sealed. -/
inductive EpochAct where
  | activate (bank : Nat) (auto : Bool)
  | revert
  | voicing (slot : Nat) (cls ports : Nat)
  | rpl (level : Nat) (src : MbSource) (seq : W32)
  | formatAll (flbas : Nat)
  | eraseAll (newKey : Bool)
  deriving DecidableEq, Repr

/-- A device epoch in progress (R92 to R95). -/
structure DevEpoch where
  cause : Nat
  act   : EpochAct
  ctx   : Option Nat := none      -- the command exempt from the drain
  committed : Bool := false       -- its commit point is written
  start : Nat := 0
  deriving DecidableEq, Repr

/-- A running device self-test (R96). -/
structure SelfTest where
  extended : Bool
  start : Nat := 0
  rows  : Nat := 0                -- rows of a short one's sample read so far
  bad   : Bool := false           -- one of them was unreadable
  deriving DecidableEq, Repr

/-- The modes block. -/
structure Modes where
  mode     : Mode := .bringUp
  flushActive : Bool := false
  safeCause : Nat := 0
  causes   : List Nat := []       -- every SAFE-HOLD cause present (R81)
  degrade  : BitVec 16 := 0       -- DEGRADE_CAUSE
  quiesceCause : Nat := 0
  ps       : Nat := 0             -- PS_ACTUAL
  lastOpPs : Nat := 0             -- last operational state in force
  psEntry  : Option Nat := none   -- PS3 or PS4 entry in progress
  psMs     : Nat := 0             -- number of the 1 ms entries were last fetched in, and how many (R46)
  psUsed   : Nat := 0
  excursion : Bool := false       -- PS4 left for PS3 by a late drone (R113)
  step     : Nat := 0             -- MD_BRINGUP.STEP
  lastShutdown : Nat := 0
  restarts : Nat := 0
  startedAt : Nat := 0
  elapsedMs : Nat := 0
  wave     : Nat := 0             -- pod power waves done
  deviceEpoch : Nat := 0
  flush    : Option Flush := none
  epoch    : Option DevEpoch := none
  hold     : Option Nat := none   -- maintenance hold: time it expires, µs
  quiesceAt : Nat := 0            -- time QUIESCE was entered, µs
  selfTest : Option SelfTest := none
  testLog  : List (Nat × Nat) := []  -- device self-test log: (code, result)
  trialStart : Nat := 0           -- start of the 120 s of R604
  resetHeld : Bool := false       -- MRST_N held low
  inputBack : Bool := false       -- input rose through 40.0 V during a flush (R79)
  fenced   : Bool := false        -- media fenced by R63
  served   : Bool := false        -- reached SERVICE or DEGRADED since bring-up (R616)
  stopped  : Bool := false        -- bring-up stopped by a power fail (R528)
  deriving DecidableEq, Repr

/-! ## Supply, bellows, zones (16) -/

/-- A thermal zone. -/
structure Zone where
  temp    : Int := 0              -- 1/16 °C
  level   : Nat := 0
  read    : Tbl Int := []         -- last reading of each sensor
  misses  : Tbl Nat := []         -- consecutive samples a sensor did not answer
  failed  : List Nat := []        -- failed sensors
  deriving DecidableEq, Repr

/-- Supply, bellows and thermal state. -/
structure Power where
  inputOk  : Bool := true         -- the input is above 35.0 V
  state    : Nat := 0             -- SN_SUPPLY.STATE
  switchOpen : Bool := false      -- the input switch (R529)
  inputV   : Nat := 0
  inputW   : Nat := 0
  railA    : Nat := 0
  railV    : Nat := 0
  bankV    : Nat := 0             -- 10 mV
  bankOnBus : Bool := false
  armed    : Bool := false        -- bellows switch armed
  brownout : Bool := false
  brownoutAt : Nat := 0           -- time brownout watch was entered, µs
  charger  : Bool := false
  testing  : Bool := false
  testLoad : Bool := false
  testDue  : Bool := false
  testAt   : Nat := 0             -- time the test fell due, µs
  lastTest : Nat := 0             -- time of the last completed test, s
  healthLow : Bool := false
  energy   : Nat := 0             -- E in 0.1 J, of the last sample
  capUf    : Nat := 24000         -- c and esr in force (R536, R539)
  esr      : Nat := 50
  charged  : Bool := false        -- the bank has completed its first charge since bring-up
  rail     : Bool := false        -- pod rail on
  j2Present : Bool := true        -- J2 PRSNT_N low
  zones    : Tbl Zone := []
  mute     : Nat := 0
  advice   : Nat := 256
  causeZone : Nat := 0
  m2At     : Option Nat := none   -- time M2 was entered, µs
  hwTrip   : Bool := false
  composite : Nat := 0            -- kelvin
  hotTimes : List Nat := []       -- times pods were switched off at their shutdown threshold, µs
  deriving DecidableEq, Repr

/-! ## Safety partition (17) -/

/-- A challenge (R565). -/
structure Challenge where
  index : Nat
  key   : BitVec 384
  src   : MbSource
  at_   : Nat
  deriving DecidableEq, Repr

/-- Key slot states (SP_KEY_STATE_n). -/
inductive KeyState where
  | empty | loaded | active | locked
  deriving DecidableEq, Repr

/-- A key slot. -/
structure KeySlot where
  state   : KeyState := .empty
  persist : Bool := false
  kcv     : Option (BitVec 64) := none  -- check value of the key it must match; none: the next LOAD_KEY sets it
  gen     : Nat := 0                    -- number of the key it holds
  deriving DecidableEq, Repr

/-- The key table on the system bands (R585). What it holds of a slot is the slot itself, where it persists; a Crypto Erase that has not completed
leaves the old key in force over a power loss (R586). -/
structure KeyTable where
  seq   : Nat := 0                      -- its own sequence number, which places its copies (R319)
  bands : List Nat := []                -- bands that hold the present copies
  old   : List Nat := []                -- bands that held earlier copies and are still to be erased
  formats : List Nat := [1]             -- format sets it is written in (R609)
  undo  : Tbl KeySlot := []             -- slots as they were before a Crypto Erase that has not completed
  deriving DecidableEq, Repr

/-- The keep registers of the current image (17, Keep registers). -/
structure Keep where
  cellMv   : Nat := 0
  low      : Bool := false
  critical : Bool := false
  checkTime : Nat := 0
  flushComplete : Bool := false
  dumpStarted : Bool := false
  flushCause : Nat := 0
  dumpId   : W64 := 0
  active   : Nat := 0             -- KR_VOICING_SEL
  previous : Nat := 0
  pending  : Nat := 0
  pendingValid : Bool := false
  formatIntent : Bool := false
  pendingKey : BitVec 48 := 0
  fwActive : Nat := 0             -- KR_FW_BANK
  trialValid : Bool := false
  trialBank : Nat := 0
  trialCount : Nat := 0
  bootOnce : Bool := false
  activateNext : Bool := false
  autoConfirm : Bool := false
  trialVersion : W32 := 0
  stage    : Nat := 0             -- KR_UPDATE_STAGE
  kind     : Nat := 0
  target   : Nat := 0
  verifying : Bool := false
  result   : Nat := 0
  lastRefusal : Nat := 0
  fwInForce : W32 := 0
  resumeBlock : Nat := 0
  blocks   : Nat := 0
  serial   : W64 := 0
  hash     : BitVec 384 := 0
  trialStart : Nat := 0
  threshOvr : W64 := 0x14_0000_0000_00  -- KR_THRESH_OVR: GRACE 20
  capUf    : Nat := 24000         -- KR_BELLOWS
  esr      : Nat := 50
  testTime : Nat := 0
  lockout  : Bool := false        -- KR_SECURITY
  lowering : Bool := false
  raising  : Bool := false
  raiseTo2 : Bool := false
  backupWarn : Bool := false
  authFails : Nat := 0
  spResets : Nat := 0
  lockoutTime : Nat := 0
  mediaGen : W32 := 0
  secret   : Nat := 0             -- number of the media secret drawn (its bytes read as 0 outside the partition)
  updateLock : Bool := false      -- copy in the settings areas
  lockTime : Nat := 0
  oldArea  : Bool := false        -- old-format settings area in use (R609)
  words    : Tbl W64 := []        -- KR_MEDIA_SECRET and the settings areas as the partition wrote them, by offset
  deriving DecidableEq, Repr

/-- One-time-programmable row (17, OTP). -/
structure Otp where
  imageRevoke : BitVec 4 := 0
  operatorKeys : List (BitVec 384) := []
  operatorRevoke : BitVec 4 := 0
  raises   : Nat := 0
  lowers   : Nat := 0
  rpl2     : Bool := false
  debugOff : Bool := false
  deriving DecidableEq, Repr

/-- A mailbox request waiting in the queue. -/
structure MbReq where
  hdr  : MbHdr
  body : MbBody
  deriving DecidableEq, Repr

/-- The safety partition. -/
structure Part where
  lockstepOk : Bool := true
  romOk    : Bool := false
  otpOk    : Bool := false
  keepA    : Bool := false        -- KEEP_A_OK
  keepB    : Bool := false
  keepImage : Bool := false       -- KR_IMAGE: current image B
  keepSeq  : Nat := 0
  keepOther : Keep := {}          -- the registers in the image that is not current
  keepsLost : Bool := false       -- neither image passed at this bring-up
  strap    : Bool := false        -- PP_STRAP
  debugOn  : Bool := false        -- DEBUG_ENABLED
  restarting : Bool := false
  safe08   : Bool := false        -- the restart must run the flush for cause 0x08 (R562)
  queue    : List MbReq := []
  challenges : List Challenge := []
  lastPriv : Option Nat := none   -- time of the last privileged request accepted under lockout
  resets   : List Nat := []       -- times of partition resets in the last hour
  expiries : List Nat := []       -- times of firmware watchdog expiries in the last hour
  wdtRun   : Bool := false
  wdtAt    : Nat := 0             -- time of the last accepted feed, or of the start of the count
  wdtLast  : W32 := 0
  ringClock : Bool := false       -- the partition's own clock is its ring oscillator (R33)
  clockFault : Bool := false
  goodWindows : Nat := 0
  pllRetries : Nat := 0
  dumped   : Bool := false        -- the vault dump of R80 has run, or HBM holds nothing to dump any longer
  rtcBase  : Nat := 0             -- RTC ms at time `rtcZero`, the Timestamp offset included
  rtcZero  : Nat := 0             -- µs
  tsSet    : Bool := false        -- Timestamp origin is set
  keys     : Tbl KeySlot := []
  keyTab   : KeyTable := {}
  coresHeld : Bool := true        -- firmware cores held in reset
  window  : Tbl W64 := []         -- registers of the partition window without a layout, as the partition wrote them, by offset
  readStatus : List Nat := []
  deriving DecidableEq, Repr

/-! ## Boot flash, voicing and update (02, 17, 18) -/

/-- A bank's flash sequencer and erase tally. -/
structure Bank where
  busy    : Option (Nat × Bool) := none   -- (sector, erase?) in progress
  intents : List Nat := []                -- sectors whose latest entry has INTENT without DONE
  erases  : Tbl Nat := []                 -- ERASES by sector
  entries : Nat := 0                      -- entries used in the current tally sector
  tallyB  : Bool := false                 -- T-B is the current tally sector
  tallySeq : Nat := 1
  queue   : List (Nat × Bool) := []       -- operations waiting
  deriving DecidableEq, Repr

/-- A voicing slot's stored image and what its checks find. -/
structure VSlot where
  image : Option VoicingImage := none
  check : SlotCheck := {}
  atRest : Bool := false                  -- held encrypted (R580)
  verified : Bool := false
  deriving DecidableEq, Repr

/-- A firmware bank's bundle. -/
structure FwBank where
  version : W32 := 0
  formatWrite : Nat := 1
  formatCompat : Nat := 1
  minFrom : W32 := 0
  valid   : Bool := true
  deriving DecidableEq, Repr

/-- The package being received (18). -/
structure Package where
  manifest : Manifest
  kind     : Nat
  target   : Nat
  sectors  : List Nat := []               -- target sectors already erased for it
  togo     : Nat := 0                     -- blocks received and not yet programmed
  ctx      : Option Nat := none           -- download whose blocks are being programmed
  status   : Status := ⟨0, 0, false⟩      -- status and DW0 it will complete with
  dw0      : Nat := 0
  deriving DecidableEq, Repr

/-- A Firmware Commit under verification: its context, its commit action, its bank, AUTO_CONFIRM. -/
structure Verify where
  ctx    : Nat
  action : Nat
  bank   : Nat := 0
  auto   : Bool := false
  deriving DecidableEq, Repr

/-- Boot flash, the image in force and the update state outside the keep registers. -/
structure Flash where
  banks   : Tbl Bank := []
  slots   : Tbl VSlot := []
  fw      : Tbl FwBank := []
  image   : VoicingImage := {}            -- image in force
  loaded  : Nat := 0                      -- MD_VOICING_STATUS
  source  : Nat := 0
  vstate  : Nat := 0
  failMask : BitVec 4 := 0
  lastCheck : Nat := 0
  running : Nat := 0                      -- bank whose firmware runs
  package : Option Package := none
  verify  : Option Verify := none
  partial_ : Nat := 0                     -- bytes of a partial block held in HBM
  formatSet : Nat := 1                    -- format set in force
  storeRest : List Nat := []              -- stops whose stored image is held encrypted (R488, R580)
  deriving DecidableEq, Repr

/-- What the format record holds (02, 11, 12, 17). -/
structure FormatRec where
  key       : W64
  retention : Nat := 90
  wearSpread : Nat := 5
  capHours  : Nat := 2
  fullPriority : Bool := true
  updateLock : Bool := false
  secret    : Nat := 0
  geometry  : List DieGeom := []            -- die geometry of each group (R61)
  seq       : Nat := 0                      -- its own sequence number, which places its copies (R319)
  bands     : List Nat := []                -- bands that hold its copies
  formats   : List Nat := [1]               -- format sets it is written in (R609)
  was       : List Nat := []                -- bands that held earlier records, erased before any other (R582)
  deriving DecidableEq, Repr

/-- The package substitution record (R25, R287) and the counts of log page 0xE9. -/
structure Spares where
  cores   : Nat := 4
  ldpc    : Nat := 8
  movers  : Nat := 4
  xcvr    : Nat := 18
  pods    : Nat := 8
  stopCols : Nat := 16
  setsSpent : Nat := 0
  coresBy : Tbl Nat := []                 -- spares taken by quadrant
  coreSub : Tbl Nat := []                 -- logical core running on the spare, by quadrant
  ldpcBy  : Tbl Nat := []
  moverBy : Tbl Nat := []                 -- mover number served by the quadrant's spare
  ldpcDead : Nat := 0
  ldpcLost : Tbl Nat := []                -- engines lost beyond the spares, by quadrant
  coresLost : Tbl Nat := []
  soft    : Tbl Nat := []                 -- engines dedicated to soft decode, by quadrant
  xcvrUse : BitVec 18 := 0
  xcvrBad : BitVec 18 := 0
  xcvrTaken : Nat := 0
  colsTaken : Nat := 0
  ddrSpared : Nat := 0
  sramRows : Nat := 0
  waysOff : Nat := 0
  lastTime : Nat := 0
  page     : Option Layout := none        -- log page 0xE9 as the telemetry drone last refreshed it (R623)
  waysList : List (Nat × Nat × Nat × Bool) := []  -- disabled ways: slice, set, way, moved to the spare way
  deriving DecidableEq, Repr

/-! ## Stops (14) -/

/-- A command on a stop (R469, R470). -/
structure StopCmd where
  tag     : Nat
  ctx     : Nat
  kind    : Nat                           -- KIND
  framesOut : Nat := 0                    -- DATA_IN frames given to the shell
  accepted : Nat := 0                     -- of them, last beat accepted by tenant logic
  total   : Nat := 0                      -- DATA_IN frames of the command
  answered : List Nat := []               -- SEQ answered (transforms) or used
  seqs    : List Nat := []                -- SEQ received on egress
  highest : Nat := 0                      -- highest OFFSET + LENGTH written
  blocks  : List Nat := []                -- destination blocks staged (Compute Copy)
  staged  : List (Nat × List (List Byte)) := []   -- (SEQ, or destination block; blocks)
  violated : Bool := false
  startAt : Option Nat := none            -- first frame accepted
  acceptAt : List Nat := []               -- time each frame's last beat was accepted, by SEQ
  lens    : List (Nat × Nat × Nat) := []  -- (SEQ, LBA, LENGTH) of each DATA_IN frame
  deriving DecidableEq, Repr

/-- A piece of a staged image. -/
structure Piece where
  off : Nat
  len : Nat
  deriving DecidableEq, Repr

/-- What a stop epoch does at its release (R491 to R493). -/
inductive StopGoal where
  | load | reload | unbind (clear : Bool) | bringUp
  deriving DecidableEq, Repr

/-- A stop epoch in progress. -/
structure StopEpoch where
  goal   : StopGoal
  drained : Bool := false                 -- steps 1 and 2 are over
  start  : Nat := 0
  back   : Nat := 2                       -- STATE it takes at release
  fenceCause : Nat := 0
  image  : Option StopImage := none       -- the image its step 5 writes
  ctx    : Option Nat := none             -- command that completes with its binding record's seal
  recEpoch : Nat := 0                     -- journal epoch of the binding record
  deriving DecidableEq, Repr

/-- A stop. -/
structure Stop where
  state   : Nat := 0                      -- 0 EMPTY, 1 LOADING, 2 READY, 3 BOUND, 4 FENCED
  before  : Nat := 2                      -- state it held before it was fenced
  image   : Option StopImage := none      -- loaded image
  resetHold : Bool := false
  epoch   : Option StopEpoch := none
  waiting : List (StopGoal × Option Nat) := []   -- triggers that wait for release (R105)
  used    : List Nat := []                -- physical columns that carry the image
  spareUsed : Bool := false
  colFailed : Option Nat := none
  colsOff : List Nat := []
  window  : Nat := 0                      -- violations in the current 1 s window
  lastCode : Nat := 0
  fenceCause : Nat := 0
  violTotal : Nat := 0
  fenceTime : Nat := 0
  fenceEpoch : W32 := 0
  irqMap0 : W64 := 0
  irqMap1 : W64 := 0
  framesIn : Nat := 0
  framesOut : Nat := 0
  late    : Nat := 0
  cmds    : List StopCmd := []
  freeTags : List (Nat × Nat) := []       -- (TAG, time its command ended) within the last 10 ms
  gone    : List Nat := []                -- TAGs whose command the module ended (R482)
  nextTag : Nat := 0
  staging : List Piece := []
  staged  : Option StopImage := none      -- header of the staged image
  stagedPkg : Bool := false               -- the staging holds a package of 18
  ctlReads : List (Nat × Nat × Option Nat) := []  -- outstanding control reads: tag, address, port that asked
  ctlAt   : Tbl Nat := []                 -- by tag: time of the read
  sram    : Tbl Byte := []                -- stop-local SRAM
  drainAck : Bool := false
  deriving DecidableEq, Repr

/-! ## Data movers (15) -/

/-- A descriptor in flight. -/
structure InFlight where
  desc    : MvDesc
  index   : Nat
  started : Bool := true                  -- false while FENCE_BEFORE waits (R513)
  done    : Nat := 0                      -- bytes done
  overlap : Bool := false
  down    : Bool := false                 -- bursts run downward (R516)
  resumed : Bool := false
  reg     : W64 := 0                      -- checksum register it started from (R515)
  data    : List Byte := []               -- bytes counted, in address order
  src     : Option (List Byte) := none    -- data of a namespace source, or a MOVER_OUT frame not yet written
  ctx     : Option Nat := none            -- command context of a namespace side (R484)
  stopping : Option Nat := none           -- halt cause that takes effect at the end of the burst
  withdrawn : Bool := false               -- REQUEST fell while a burst was in flight
  beats   : Nat := 0                      -- MOVER_IN frames not yet accepted
  deriving DecidableEq, Repr

/-- A data-mover channel. -/
structure Chan where
  space   : Nat := 0                      -- DM_RING_BASE
  addr    : Nat := 0
  enable  : Bool := false
  sizeLog2 : Nat := 4
  halfIe  : Bool := false
  fullIe  : Bool := false
  errIe   : Bool := false
  haltIe  : Bool := false
  pause   : Bool := false
  head    : Nat := 0
  tail    : Nat := 0
  haltCause : Nat := 0
  completed : BitVec 32 := 0
  irq     : BitVec 4 := 0
  request : Bool := true
  value   : W64 := 0
  valid   : Bool := false
  status  : Nat := 0
  index   : Nat := 0
  seq     : BitVec 32 := 0
  bytes   : Nat := 0
  ring    : Tbl MvDesc := []              -- descriptors in ring memory
  written : Tbl (Nat × Nat × Nat × Nat × W64) := []  -- their status write-backs: STATUS, flags, NVME_STATUS, BYTES_DONE, CSUM_VALUE
  flight  : Option InFlight := none
  csumKind : Nat := 0                     -- CSUM of the last descriptor that carried one
  running : W64 := 0                      -- its running checksum (R515)
  ports   : List (Nat × Nat) := []        -- host ports written since the last fence, with the last byte's address
  quiesced : Bool := false                -- paused by QUIESCE or an instance reset (R93, R523)
  fenceReads : Nat := 0                   -- zero-length reads outstanding
  served  : Bool := false                 -- the mover's last burst was this channel's (R504)
  deriving DecidableEq, Repr

/-! ## Drones, telemetry, event journal (19) -/

/-- A drone. -/
structure Drone where
  late  : Bool := false
  lagS  : Nat := 0
  raised : Bool := false                  -- raised to its maximum by its own chapter
  grant : Nat := 0                        -- its share of the last window, 1/1,024
  deriving DecidableEq, Repr

/-- A coalescing counter (R624). -/
structure Coal where
  report : Report
  count  : Nat
  deriving DecidableEq, Repr

/-- A report source's FIFO. -/
structure Source where
  fifo  : List Report := []
  coals : List Coal := []
  lost  : Nat := 0
  owes  : Bool := false                   -- its coalescing counters are written before its next entry is taken (R625)
  deriving DecidableEq, Repr

/-- The event journal. -/
structure Events where
  sources : Tbl Source := []
  next    : Nat := 0                      -- round robin position
  ring    : List JEntry := []
  persisted : Nat := 0                    -- SEQ of the newest persisted entry
  history : List JEntry := []
  lastSeq : Nat := 0
  lost    : Nat := 0
  coalesced : Nat := 0
  deriving DecidableEq, Repr

/-- Media-health and upkeep state (11, 12). -/
structure Health where
  writeProtect : Bool := false
  spareLow  : Bool := false
  available : Nat := 100
  lifeUsed  : Nat := 0
  retention : Nat := 90
  wearSpread : Nat := 5
  capHours  : Nat := 2
  fullPriority : Bool := true
  everRetired : Bool := false
  integrity : Nat := 0                    -- media and data integrity errors
  hostBytes : Nat := 0
  mediaBytes : Nat := 0
  gcBytes   : Nat := 0
  refreshBytes : Nat := 0
  wearBytes : Nat := 0
  blocksRetired : Nat := 0
  diesRetired : Nat := 0
  podsRetired : Nat := 0
  bandsRetired : Nat := 0
  warnings  : List (Nat × Nat × Nat × Nat) := []  -- event, object, value, time
  handed    : List Nat := []              -- MUNs handed over by the ladder (R345, R377)
  handedBy  : Tbl (List Nat) := []        -- by band: times units were handed over within 24 h, µs
  scrubbed  : Tbl Nat := []               -- band: order of its last scrub
  scrubSeq  : Nat := 0
  relocs    : List Reloc := []
  nextOp    : Nat := 1
  runs      : Tbl Run := []               -- by REBUILD_ID
  rbTarget  : Nat := 0                    -- group the next solved unit goes to (R406)
  ageFloors : Tbl (Nat × Nat) := []       -- R378, by group: clock at that bring-up, s, and the least age of a band full before it
  deriving DecidableEq, Repr

/-- Latch, motion and presence inputs (20). -/
structure Mech where
  latchModule : Bool := true
  latchEncl : Bool := true
  motion  : List Nat := []                -- 1 s RMS results of the last 10 s, mg
  movedAt : Option Nat := none            -- time of the last reading of 0.5 g or more, s
  miWaiting : Nat := 0                    -- NVMe-MI asynchronous events that await the requester
  deriving DecidableEq, Repr

end Sys2Proof.Machine
end

