-- ==== Sys2Proof/Machine/State.lean ====
section
/-! DEFINITION. The machine's state, plain data, with the state after reset and the reasons a step can stop. -/
namespace Sys2Proof.Machine

/-- Every piece of state the manual gives the module, with the queue of commands that wait. -/
structure State where
  now     : Nat := 0             -- µs since reset; what every interval is measured by
  modes   : Modes := {}
  pw      : Power := {}
  part    : Part := {}
  keep    : Keep := {}
  otp     : Otp := {}
  flash   : Flash := {}
  format  : Option FormatRec := none
  spares  : Spares := {}
  ports   : Tbl Port := []
  insts   : Tbl Inst := []       -- by port × 128 + local
  ctxs    : List Ctx := []
  ended   : List Ended := []
  nextCtx : Nat := 1
  fetches : Nat := 0             -- device-wide fetch counter (R147)
  bells   : Nat := 0             -- order of doorbell writes (R146)
  live    : Durable := {}        -- every journalled change so far
  sealed  : Durable := {}        -- every change of the sealed epochs
  jrn     : Journal := {}
  vault   : Option Vault := none
  lines   : Tbl Line := []       -- by NSID × 2^40 + line
  lends   : Tbl (List Lend) := []  -- by port
  mc      : MapCache := {}
  cache   : Cache := {}
  cw      : Tbl Codeword := []   -- by media unit number
  groups  : Tbl Group := []
  ops     : List Op := []
  solves  : List Solve := []
  dies    : Tbl Die := []        -- by slot × 32 + die
  chanters : Tbl Chanter := []
  links   : Tbl Link := []
  pods    : Tbl Pod := []
  stops   : Tbl Stop := []
  store   : Tbl StopImage := []  -- image store, by stop
  chans   : Tbl Chan := []       -- by mover × 4 + channel
  drones  : Tbl Drone := []
  ev      : Events := {}
  health  : Health := {}
  mech    : Mech := {}
  free    : Nat := 0             -- the model's own count of free values drawn
  out     : List Out := []       -- the model's own: what left the module, oldest first
  pending : List Instr := []     -- the commands that wait, first in, first out
  deriving DecidableEq, Repr

/-- Why the module would stop with no defined next state. The manual defines an effect for every command, so no meaning raises one. -/
inductive Fault where
  /-- Raised by no meaning. Safe. -/
  | none
  deriving DecidableEq, Repr

/-- Why a command has no meaning. -/
inductive Refusal where
  /-- Raised by an arm of `exec` whose command has no meaning yet. Safe. -/
  | notModelled (mnemonic : String)
  deriving DecidableEq, Repr

/-- The module right after its reset: BRING-UP step 0, factory state, nothing waiting. -/
def State.reset : State := {}

end Sys2Proof.Machine
end

