-- ==== Sys2Proof/Machine/Ops.lean ====
section
/-! DEFINITION. Operations every family shares: access to the tables of the state, reports and asynchronous events, DEGRADED causes, completion entries and interrupts, the journal's records. -/
namespace Sys2Proof

/-! ## Fields of namespaces and submission entries (05, 07) -/

/-- Bytes of a logical block: format 0 is 512 B, format 1 is 4,096 B. -/
def NsSpec.lba (n : NsSpec) : Nat := if n.flbas = 0 then 512 else 4096
/-- Bytes of a mapping unit: 4, 16 or 64 KiB. -/
def NsSpec.unit (n : NsSpec) : Nat := 4096 * 4 ^ n.muCode
/-- Logical blocks of a mapping unit. -/
def NsSpec.perUnit (n : NsSpec) : Nat := n.unit / n.lba

def Sqe.slba (q : Sqe) : Nat := q.cdw11.toNat * 2 ^ 32 + q.cdw10.toNat
/-- Number of logical blocks, from 1. -/
def Sqe.nlb (q : Sqe) : Nat := q.cdw12.toNat % 65536 + 1
/-- Bits [hi:lo] of a dword. -/
def bits (w : W32) (hi lo : Nat) : Nat := w.toNat / 2 ^ lo % 2 ^ (hi + 1 - lo)
/-- Feature identifier, SV and SEL of Set and Get Features. -/
def Sqe.fid (q : Sqe) : Nat := bits q.cdw10 7 0
def Sqe.sv (q : Sqe) : Bool := q.cdw10.getLsbD 31
def Sqe.sel (q : Sqe) : Nat := bits q.cdw10 10 8
/-- A write, or a deallocation (R85, R153). -/
def Sqe.writes (q : Sqe) : Bool := q.opcode == 0x01 || q.opcode == 0x08 || q.opcode == 0x84 || (q.opcode == 0x09 && q.cdw11.getLsbD 2)

end Sys2Proof

namespace Sys2Proof.Machine

/-! ## Tables of the state -/

/-- Key of local instance `n` of port `p` (06, Slots and numbering: global instance number). -/
def instKey (p n : Nat) : Nat := p * 128 + n
/-- Key of a mapping unit or of a map line of a namespace. -/
def nsKey (nsid u : Nat) : Nat := nsid * 2 ^ 40 + u
/-- Key of a band of a group. -/
def bandKey (g b : Nat) : Nat := g * 65536 + b
/-- Key of a die of a pod slot. -/
def dieKey (slot d : Nat) : Nat := slot * 32 + d

def State.port (s : State) (p : Nat) : Port := s.ports.get {} p
def State.modPort (p : Nat) (f : Port → Port) (s : State) : State := { s with ports := s.ports.set p (f (s.port p)) }
def State.inst (s : State) (k : Nat) : Inst := s.insts.get {} k
def State.modInst (k : Nat) (f : Inst → Inst) (s : State) : State := { s with insts := s.insts.set k (f (s.inst k)) }
/-- The journalled part of an instance slot. -/
def State.dinst (s : State) (k : Nat) : DurInst := s.live.insts.get {} k
/-- The namespaces attached to an instance: none while the media is fenced by R63. -/
def State.attachedNs (s : State) (k : Nat) : List Nat := if s.modes.fenced then [] else (s.dinst k).attached
/-- The generation of an instance slot (R213). -/
def State.gen (s : State) (k : Nat) : W16 := (s.dinst k).gen
def State.die (s : State) (k : Nat) : Die := s.dies.get {} k
def State.modDie (k : Nat) (f : Die → Die) (s : State) : State := { s with dies := s.dies.set k (f (s.die k)) }
def State.link (s : State) (l : Nat) : Link := s.links.get {} l
def State.modLink (l : Nat) (f : Link → Link) (s : State) : State := { s with links := s.links.set l (f (s.link l)) }
def State.pod (s : State) (l : Nat) : Pod := s.pods.get {} l
def State.modPod (l : Nat) (f : Pod → Pod) (s : State) : State := { s with pods := s.pods.set l (f (s.pod l)) }
def State.chanter (s : State) (l : Nat) : Chanter := s.chanters.get {} l
def State.modChanter (l : Nat) (f : Chanter → Chanter) (s : State) : State := { s with chanters := s.chanters.set l (f (s.chanter l)) }
def State.group (s : State) (g : Nat) : Group := s.groups.get {} g
def State.modGroup (g : Nat) (f : Group → Group) (s : State) : State := { s with groups := s.groups.set g (f (s.group g)) }
def State.stop (s : State) (n : Nat) : Stop := s.stops.get {} n
def State.modStop (n : Nat) (f : Stop → Stop) (s : State) : State := { s with stops := s.stops.set n (f (s.stop n)) }
def State.chan (s : State) (k : Nat) : Chan := s.chans.get {} k
def State.modChan (k : Nat) (f : Chan → Chan) (s : State) : State := { s with chans := s.chans.set k (f (s.chan k)) }
def State.drone (s : State) (d : Nat) : Drone := s.drones.get {} d
def State.modDrone (d : Nat) (f : Drone → Drone) (s : State) : State := { s with drones := s.drones.set d (f (s.drone d)) }
def State.line (s : State) (nsid ln : Nat) : Line := s.lines.get {} (nsKey nsid ln)
def State.modLine (nsid ln : Nat) (f : Line → Line) (s : State) : State :=
  { s with lines := s.lines.set (nsKey nsid ln) (f (s.line nsid ln)) }
def State.slice (s : State) (i : Nat) : Slice := s.mc.slices.get {} i
def State.modSlice (i : Nat) (f : Slice → Slice) (s : State) : State :=
  { s with mc := { s.mc with slices := s.mc.slices.set i (f (s.slice i)) } }
def State.band (s : State) (g b : Nat) : Band := s.live.bands.get {} (bandKey g b)
def State.modModes (f : Modes → Modes) (s : State) : State := { s with modes := f s.modes }
def State.modPw (f : Power → Power) (s : State) : State := { s with pw := f s.pw }
def State.modPart (f : Part → Part) (s : State) : State := { s with part := f s.part }
def State.modKeep (f : Keep → Keep) (s : State) : State := { s with keep := f s.keep }
def State.modCache (f : Cache → Cache) (s : State) : State := { s with cache := f s.cache }
def State.modHealth (f : Health → Health) (s : State) : State := { s with health := f s.health }
def State.modJrn (f : Journal → Journal) (s : State) : State := { s with jrn := f s.jrn }
def State.modFlash (f : Flash → Flash) (s : State) : State := { s with flash := f s.flash }
def State.modSpares (f : Spares → Spares) (s : State) : State := { s with spares := f s.spares }
def State.modMc (f : MapCache → MapCache) (s : State) : State := { s with mc := f s.mc }
def State.modMech (f : Mech → Mech) (s : State) : State := { s with mech := f s.mech }

/-- `f` done for each number of a list, in its order. -/
def State.each (xs : List Nat) (f : Nat → State → State) (s : State) : State := xs.foldl (fun t x => f x t) s
/-- The same for every port. -/
def State.allPorts (f : Nat → State → State) (s : State) : State := s.each (List.range 8) f

/-- The command context of an identifier. -/
def State.ctx (s : State) (id : Nat) : Option Ctx := s.ctxs.find? (fun c => c.id == id)
def State.modCtx (id : Nat) (f : Ctx → Ctx) (s : State) : State :=
  { s with ctxs := s.ctxs.map (fun c => if c.id == id then f c else c) }
def State.dropCtx (id : Nat) (s : State) : State := { s with ctxs := s.ctxs.filter (fun c => !(c.id == id)) }
/-- Key of the instance a context belongs to. -/
def Ctx.key (c : Ctx) : Nat := instKey c.port c.inst

/-- RTC time, ms since 1970-01-01 UTC (17). -/
def State.rtc (s : State) : Nat := s.part.rtcBase + (s.now - s.part.rtcZero) / 1000
/-- Something leaves the module. -/
def State.emit (o : Out) (s : State) : State := { s with out := s.out ++ [o] }
/-- One free value is drawn; the next draw is another. -/
def State.drew (s : State) : State := { s with free := s.free + 1 }

/-- Nothing waits: 1 µs passes (DESIGN CHOICE, log entry 2). -/
def State.idle (s : State) : State := { s with now := s.now + 1 }
/-- A row that is the end of a timer happens at that end, or later: time stands at `t` µs or more (DESIGN CHOICE, log entry 2). -/
def State.notBefore (t : Nat) (s : State) : State := { s with now := max s.now t }

/-- The voicing image in force. -/
def State.image (s : State) : VoicingImage := s.flash.image
/-- Section 0x01 of a port. -/
def State.vport (s : State) (p : Nat) : VPort := (s.image.ports[p]?).getD {}
/-- Section 0x02 of a port. -/
def State.vpool (s : State) (p : Nat) : VPool := (s.image.pools[p]?).getD {}

/-! ## Statuses (R191, R661) -/

def Status.success : Status := ⟨0, 0, false⟩
def stInvalidOpcode : Status := ⟨0, 0x01, true⟩
def stInvalidField : Status := ⟨0, 0x02, true⟩
def stCidConflict : Status := ⟨0, 0x03, true⟩
def stDataTransfer : Status := ⟨0, 0x04, false⟩
def stInternal : Status := ⟨0, 0x06, false⟩
def stAborted : Status := ⟨0, 0x07, true⟩
def stSqDeleted : Status := ⟨0, 0x08, true⟩
def stInvalidNs : Status := ⟨0, 0x0B, true⟩
def stSequence : Status := ⟨0, 0x0C, true⟩
def stInterrupted : Status := ⟨0, 0x21, false⟩
def stMediaNotReady : Status := ⟨0, 0x24, false⟩
def stLbaRange : Status := ⟨0, 0x80, true⟩
def stNsNotReady : Status := ⟨0, 0x82, false⟩
def stFormatting : Status := ⟨0, 0x84, false⟩
def stWriteFault : Status := ⟨2, 0x80, false⟩
def stUnrecovered : Status := ⟨2, 0x81, true⟩
def stInstFenced : Status := ⟨7, 0x81, true⟩
def stExhausted : Status := ⟨7, 0x82, true⟩
def stStopFenced : Status := ⟨7, 0x83, true⟩
def stDeferred : Status := ⟨7, 0x84, true⟩
def stWriteThrough : Status := ⟨7, 0x85, true⟩
def stPool : Status := ⟨7, 0x86, true⟩
/-- A command-specific status; DNR is 0 for the four limits that clear by themselves (R661). -/
def stSpecific (sc : Nat) : Status := ⟨1, sc, !(sc == 0x03 || sc == 0x05 || sc == 0x13 || sc == 0x1D)⟩

/-! ## Reports to the event journal (R624) -/

/-- A report enters its source's FIFO of 256, or one of the source's eight coalescing counters, or is lost. -/
def Source.take (q : Source) (r : Report) : Source :=
  if q.fifo.length < 256 then { q with fifo := q.fifo ++ [r] }
  else if q.coals.any (fun c => c.report.event == r.event) then
    { q with coals := q.coals.map (fun c => if c.report.event == r.event then { c with count := c.count + 1 } else c) }
  else if q.coals.length < 8 then { q with coals := q.coals ++ [⟨r, 1⟩] }
  else { q with lost := q.lost + 1 }

/-- The recorder itself is source 51. -/
def srcRecorder : Nat := 51

/-- A report is taken by its source; MD_EVENT_COUNT advances when it is folded or lost. -/
def Events.take (v : Events) (r : Report) : Events :=
  let q := v.sources.get {} r.source
  let q' := q.take r
  let gone := !(q'.lost == q.lost)
  let folded := !gone && q'.fifo.length == q.fifo.length
  { v with
    sources := v.sources.set r.source q'
    lost := if gone then min (v.lost + 1) 0xFFFFFFFF else v.lost
    coalesced := if folded then min (v.coalesced + 1) 0xFFFFFFFF else v.coalesced }

/-- A unit reports an event (R624); the first loss of a source is itself an event of the recorder, EV0F04 (R625). -/
def State.report (src event object value : Nat) (s : State) : State :=
  let v := s.ev.take ⟨src, event, object, value, s.rtc⟩
  let first := (s.ev.sources.get {} src).lost == 0 && (v.sources.get {} src).lost == 1 && src != srcRecorder
  { s with ev := if first then v.take ⟨srcRecorder, 0x0F04, src, 0, s.rtc⟩ else v }

/-- Sources (19): the partition is 48, management 50, the memory controllers 49. -/
def srcPartition : Nat := 48
def srcMemory : Nat := 49
def srcManagement : Nat := 50
/-- The firmware of the quadrant that serves port `p`. -/
def srcFirmware (q : Nat) : Nat := 44 + q
/-- The sequencer of the quadrant that serves port `p`. -/
def srcSequencer (p : Nat) : Nat := p / 2

/-! ## Deferred errors of an instance (R184 to R187) -/

/-- Whether a command's NSID covers a namespace (R184, R168). -/
def coversNs (nsid n : Nat) : Bool := nsid == n || nsid == 0xFFFFFFFF

/-- An error is not yet delivered. -/
def DefLog.owed (d : DefLog) (q : Nat) : Bool := d.undelivered.any (fun u => u.1 == q)

/-- A deferred error leaves PENDING once it is both delivered and removed from the log (R187). -/
def DefLog.settle (d : DefLog) : DefLog :=
  let gone := d.removed.filter (fun q => !d.owed q)
  { d with removed := d.removed.filter d.owed, pending := d.pending - gone.length }

/-- Every undelivered error of the namespaces an I/O completion covers is delivered by DW0 bit 31 (R184). -/
def DefLog.flag (d : DefLog) (nsid : Nat) : DefLog :=
  let hit := (d.undelivered.filter (fun u => coversNs nsid u.2.1)).map (fun u => u.1)
  DefLog.settle { d with
    entries := d.entries.map (fun e => if hit.contains e.seq then { e with flagged := true } else e)
    undelivered := d.undelivered.filter (fun u => !coversNs nsid u.2.1) }

/-- Whether an I/O completion of this NSID carries DW0 bit 31. -/
def DefLog.due (d : DefLog) (nsid : Nat) : Bool := d.undelivered.any (fun u => coversNs nsid u.2.1)

/-- The errors a Flush fetched now is the first to cover; it reports them, and no later one does (R186). -/
def DefLog.claims (d : DefLog) (nsid : Nat) : List (Nat × Nat) := d.flushDue.filter (fun x => coversNs nsid x.2)
def DefLog.claim (d : DefLog) (nsid : Nat) : DefLog := { d with flushDue := d.flushDue.filter (fun x => !coversNs nsid x.2) }
/-- A Flush has reported its errors, or ends without: then the next Flush fetched covers them. -/
def DefLog.flushed (d : DefLog) (qs : List (Nat × Nat)) : DefLog :=
  { d with entries := d.entries.map (fun e => if qs.any (fun x => x.1 == e.seq) then { e with flushed := true } else e) }
def DefLog.unclaim (d : DefLog) (qs : List (Nat × Nat)) : DefLog := { d with flushDue := qs ++ d.flushDue }

/-! ## Completion entries and interrupts -/

/-- Nothing further is written to host memory: SAFE-HOLD (R75) or a flush (16, flush step 2). -/
def State.hostFenced (s : State) : Bool := s.modes.mode == .safeHold || s.modes.flush.isSome

/-- An interrupt falls due on a port vector: the message, or the vector's pending bit (R134); withheld in D3hot and Recovery (R118, R124).
`own`: the local instance whose command it tells of. -/
def State.interrupt (p v : Nat) (own : Option Nat) (s : State) : State :=
  let pt := s.port p
  let m := pt.msix.get {} v
  if s.hostFenced then s
  else if pt.d3hot || pt.link == .recovery then s.modPort p (fun q => { q with heldIrq := q.heldIrq ++ [(v, own)] })
  else if !pt.msixEn || pt.fmask || m.masked then s.modPort p (fun q => { q with msix := q.msix.set v { m with pending := true } })
  else s.emit (.msix p v m.addr m.data)

/-- DMA to host memory for an instance may go out: of an instance above 0 only under its PASID (R133, R226). -/
def State.mayTag (s : State) (k : Nat) : Bool := k % 128 == 0 || (s.port (k / 128)).pasidEn
/-- How a data write of an instance goes out (R121, R133). -/
def State.dmaOf (s : State) (k : Nat) : Dma :=
  { pasid := if k % 128 = 0 then none else some (s.dinst k).share.pasid, relaxed := (s.port (k / 128)).relaxed }
/-- A data write goes to host memory, or waits for the link to return to L0 (R118). -/
def State.hostWrite (p : Nat) (o : Out) (s : State) : State :=
  if s.hostFenced then s
  else if (s.port p).link == .recovery then s.modPort p (fun q => { q with heldOut := q.heldOut ++ [o] }) else s.emit o

/-- A free entry in a completion queue. -/
def Cq.full (q : Cq) : Bool := (q.tail + 1) % q.size == q.head

/-- The port vector of an instance's vector index (R205): index 0 of the admin queue is vector 0. -/
def State.vectorOf (s : State) (k cq idx : Nat) : Nat := if cq = 0 then 0 else (s.dinst k).vecBase + idx

/-- A command of a queue has completed; its port was busy until now (R142, R175). -/
def State.noteDone (k qid cid : Nat) (s : State) : State :=
  let s := s.modPort (k / 128) (fun t => { t with busyAt := s.now })
  s.modInst k (fun i => match i.sqs.find qid with
    | some q => { i with sqs := i.sqs.set qid { q with done := if q.done.contains cid then q.done else cid :: q.done } }
    | none => i)

/-- DW0 of an entry as it is written: bit 31 delivers the deferred errors an I/O completion covers (R184, R185). -/
def Inst.dw0Of (i : Inst) (e : Cqe) : W32 :=
  match e.io with
  | some n => if i.defLog.due n then e.dw0 ||| 0x80000000 else e.dw0
  | none => e.dw0
def Inst.delivers (i : Inst) (e : Cqe) : DefLog :=
  match e.io with
  | some n => if i.defLog.due n then i.defLog.flag n else i.defLog
  | none => i.defLog

/-- An entry is written to a completion queue that has room: the command's context is free, and its interrupt falls due (R150). -/
def State.pushCqe (k cq : Nat) (e : Cqe) (s : State) : State :=
  let i := s.inst k
  let q := i.cqs.get {} cq
  let s := s.modInst k (fun i => { i with cqs := i.cqs.set cq { q with tail := (q.tail + 1) % q.size }, defLog := i.delivers e })
  let s := s.emit (.cqe (k / 128) (k % 128) cq e.sqid e.cid e.status (i.dw0Of e) e.dw1 (q.base.toNat + 16 * q.tail) { s.dmaOf k with relaxed := false })
  let s := (s.noteDone k e.sqid e.cid).dropCtx e.ctx
  match q.vector with
  | some v => s.interrupt (k / 128) (s.vectorOf k cq v) (if k % 128 = 0 ∧ cq = 0 then none else some (k % 128))
  | none => s

/-- A completion entry is written, or held: in D3hot and Recovery with the port's (R118, R124), behind a full queue with the queue's (R152);
the command then keeps its context. A queue that does not exist or can no longer be written takes none (R193, R226). -/
def State.writeCqe (k cq : Nat) (e : Cqe) (s : State) : State :=
  let pt := s.port (k / 128)
  match (s.inst k).cqs.find cq with
  | none => s.dropCtx e.ctx
  | some q =>
    if s.hostFenced || !pt.rdy || pt.cfs || q.size == 0 || !s.mayTag k then s.dropCtx e.ctx
    else if pt.d3hot || pt.link == .recovery then
      (s.modPort (k / 128) (fun t => { t with held := t.held ++ [(k % 128, cq, e)] })).modCtx e.ctx (fun c => { c with phase := .posted })
    else if q.full || !q.held.isEmpty then
      (s.modInst k (fun i => { i with cqs := i.cqs.set cq { q with held := q.held ++ [e] } })).modCtx e.ctx (fun c => { c with phase := .posted })
    else s.pushCqe k cq e

/-! ## Asynchronous events -/

/-- DW0 of an Asynchronous Event Request's completion. -/
def AsyncEv.dw0 (e : AsyncEv) : W32 := BitVec.ofNat 32 (e.lid * 65536 + e.info * 256 + e.typ)

/-- The oldest outstanding Asynchronous Event Request of a port completes with an event. -/
def State.answerAer (p : Nat) (e : AsyncEv) (s : State) : State :=
  match (s.port p).aers with
  | [] => s
  | cid :: rest =>
    (s.modPort p (fun t => { t with aers := rest })).writeCqe (instKey p 0) 0 { sqid := 0, cid := cid, status := .success, dw0 := e.dw0 }

/-- An event is posted on a port; with no request outstanding, or nothing written to the host (R75), it waits. -/
def State.postEvent (p : Nat) (e : AsyncEv) (s : State) : State :=
  if (s.port p).aers.isEmpty || s.hostFenced then
    if (s.port p).waitingEv.contains e then s else s.modPort p (fun t => { t with waitingEv := t.waitingEv ++ [e] })
  else s.answerAer p e

/-- The vendor event of a log page: type 7h, information and page equal (R76, R184, R557). -/
def vendorEv (lid : Nat) : AsyncEv := ⟨7, lid, lid⟩
/-- A SMART event: type 1h, page 02h. -/
def smartEv (info : Nat) : AsyncEv := ⟨1, info, 2⟩

/-- Whether a page's event has been posted and not yet read. -/
def Posted.get (q : Posted) (lid : Nat) : Bool :=
  if lid = 0xE0 then q.e0 else if lid = 0xE3 then q.e3 else if lid = 0xE4 then q.e4 else if lid = 0xE5 then q.e5 else q.ea
def Posted.set (q : Posted) (lid : Nat) (b : Bool) : Posted :=
  if lid = 0xE0 then { q with e0 := b } else if lid = 0xE3 then { q with e3 := b } else if lid = 0xE4 then { q with e4 := b }
  else if lid = 0xE5 then { q with e5 := b } else { q with ea := b }

/-- A vendor event is posted once until its page is read with RAE cleared. -/
def State.postVendor (p lid : Nat) (s : State) : State :=
  if (s.port p).posted.get lid then s
  else (s.modPort p (fun t => { t with posted := t.posted.set lid true })).postEvent p (vendorEv lid)

/-- The same, only on a port that has a request outstanding (R76, R387). -/
def State.postOutstanding (p lid : Nat) (s : State) : State :=
  if (s.port p).aers.isEmpty then s else s.postVendor p lid

/-- A SMART critical warning event on every port whose Asynchronous Event Configuration enables its bit. -/
def State.postSmart (bit info : Nat) (s : State) : State :=
  s.allPorts (fun p t => if (t.port p).asyncCfg.getLsbD bit then t.postEvent p (smartEv info) else t)

/-! ## Modes -/

def State.setMode (m : Mode) (s : State) : State := s.modModes (fun x => { x with mode := m })
/-- SERVICE or DEGRADED. -/
def State.serving (s : State) : Bool := s.modes.mode == .service || s.modes.mode == .degraded
/-- SERVICE, DEGRADED or QUIESCE. -/
def State.active (s : State) : Bool := s.serving || s.modes.mode == .quiesce
/-- The management endpoint is there from the end of bring-up step 2 (R24). -/
def State.miThere (s : State) : Bool := s.modes.mode != .keep && decide (2 ≤ s.modes.step)
/-- SERVICE, or DEGRADED while any cause is set (R76). -/
def State.settleMode (s : State) : State :=
  if s.serving then s.setMode (if s.modes.degrade = 0 then .service else .degraded) else s

/-- Bit numbers of DEGRADE_CAUSE, less 16 (03, DEGRADED causes). -/
def dgRebuild : Nat := 0
def dgSpare : Nat := 1
def dgBellows : Nat := 2
def dgProtect : Nat := 3
def dgMute : Nat := 4
def dgFenced : Nat := 5
def dgCell : Nat := 6
def dgBackup : Nat := 7

/-- A DEGRADED cause is set or cleared (R76, R78, R654). -/
def State.setDegrade (bit : Nat) (on : Bool) (s : State) : State :=
  if s.modes.degrade.getLsbD bit == on then s else
  let b : BitVec 16 := BitVec.ofNat 16 (2 ^ bit)
  let s := s.modModes (fun x => { x with degrade := if on then x.degrade ||| b else x.degrade &&& ~~~b })
  let s := s.allPorts (fun p t => (t.modPort p (fun q =>
    if on then { q with degSet := q.degSet ||| b } else { q with degCleared := q.degCleared ||| b })).postOutstanding p 0xEA)
  s.settleMode

/-! ## The journal (R258, R101) -/

/-- A band has a role of its own (R659), which an erase does not change. -/
def Band.hasRole (b : Band) : Bool := b.state == .vault || b.state == .reserve || b.state == .system
/-- What a band event does to a band (11, record type 8). -/
def Band.apply (b : Band) : BandEvent → Band
  | .opened st => { b with state := .opened, stream := st, mark := 0, absent := [], kept := [] }
  | .rows m => { b with mark := m }
  | .full m c t => { b with state := .full, mark := m, fullAt := c, fullTime := t }
  | .victim => { b with state := .victim }
  | .intent => if b.state == .vault || b.state == .reserve then { b with intent := true } else { b with state := .erasePending }
  | .done n e =>
    { b with state := if b.hasRole then b.state else .free, intent := false, erases := n, freedAt := e, mark := 0, absent := [], kept := [] }
  | .remapped _ _ => b
  | .retired => { b with state := .retired }
  | .role st => { b with state := st }
  | .released => { b with state := .full }

/-- Every band of a group's die sets that has left FREE and holds data changes (R394). -/
def Durable.modHeld (d : Durable) (g : Nat) (inSet : Nat → Bool) (f : Band → Band) : Durable :=
  { d with bands := d.bands.map (fun (e : Nat × Band) =>
      if e.1 / 65536 == g && inSet (e.1 % 65536 % 16) && (e.2.state == .opened || e.2.state == .full || e.2.state == .victim || e.2.state == .system)
      then (e.1, f e.2) else e) }
/-- A member position becomes absent. -/
def Band.lose (m : Nat) (b : Band) : Band :=
  { b with absent := if b.absent.contains m then b.absent else m :: b.absent, kept := b.kept.filter (fun x => !(x.1 == m)) }
/-- A rebuild starts; `id` 0: none (R404). -/
def Durable.addRebuild (d : Durable) (r : Rebuild) : Durable :=
  if r.id = 0 then d else { d with rebuilds := d.rebuilds ++ [r], nextRebuild := max d.nextRebuild (r.id + 1) }

/-- What a substitution record does (12). -/
def Durable.sub (d : Durable) : SubEvent → Durable
  | .die g m slot pos old new id retiring =>
    let d := { d with dieTab := d.dieTab.set (slot * 16 + pos) new, deadDies := dieKey slot old :: d.deadDies }
    let d := d.modHeld g (fun x => x == pos) (fun b => if retiring then { b with kept := (m, old) :: b.kept.filter (fun x => !(x.1 == m)) } else b.lose m)
    d.addRebuild { id := id, group := g, pos := m, slot := slot, die := old, diePos := some pos, retiring := retiring }
  | .pod g pos old new id =>
    let d := { d with podTab := d.podTab.set (g * 32 + pos) new, deadPods := old :: d.deadPods, lostMem := d.lostMem.filter (fun x => !(x == (g, pos))), entered := d.entered.filter (fun x => !(x == new)) }
    (if id = 0 then d else d.modHeld g (fun _ => true) (Band.lose pos)).addRebuild { id := id, group := g, pos := pos, slot := old }
  | .lost g pos slot id =>
    ({ d with lostMem := (g, pos) :: d.lostMem, deadPods := slot :: d.deadPods }.modHeld g (fun _ => true) (Band.lose pos)).addRebuild
      { id := id, group := g, pos := pos, slot := slot, noSub := true }
  | .progress id c done lost elapsed => { d with rebuilds := d.rebuilds.map (fun (r : Rebuild) => if r.id == id then { r with cursor := some c, doneSlots := done, lost := lost, elapsed := elapsed } else r) }
  | .finished id => { d with rebuilds := d.rebuilds.map (fun (r : Rebuild) => if r.id == id then { r with finished := true } else r) }
  | .xcvr _ _ => d
  | .rate _ _ => d
  | .entered slot => { d with entered := slot :: d.entered, deadPods := d.deadPods.filter (fun x => !(x == slot)), hotPods := d.hotPods.filter (fun x => !(x == slot)) }
  | .package _ _ _ => d
  | .deadDie g m slot die =>
    { d with deadDies := dieKey slot die :: d.deadDies }.modHeld g (fun _ => true) (fun b => if b.kept.contains (m, die) then b.lose m else b)
  | .deadPod slot th => { d with deadPods := slot :: d.deadPods, hotPods := if th then slot :: d.hotPods else d.hotPods }

/-- The map with one entry changed; an unmapped unit has no row. -/
def Durable.setMap (d : Durable) (k : Nat) (v : MapVal) : Durable :=
  { d with map := if v = .unmapped then d.map.erase k else d.map.set k v }

/-- What a record of the journal does to the state it makes durable. -/
def Durable.apply (d : Durable) : Rec → Durable
  | .map nsid u m => d.setMap (nsKey nsid u) (.mun m)
  | .set nsid u n v =>
    let rest := d.map.filter (fun e => !(decide (nsKey nsid u ≤ e.1 ∧ e.1 < nsKey nsid u + n)))
    { d with map := if v = .unmapped then rest else (List.range n).map (fun i => (nsKey nsid u + i, v)) ++ rest }
  | .relocate nsid u m src =>
    -- takes effect only if the unit still maps where it was copied from (R161)
    if d.map.get .unmapped (nsKey nsid u) = .mun src then d.setMap (nsKey nsid u) (.mun m) else d
  | .nsSet n => { d with nss := d.nss.set n.nsid n, nextSerial := max d.nextSerial (n.serial + 1) }
  | .nsDelete nsid =>
    { d with
      nss := d.nss.erase nsid
      map := d.map.filter (fun e => !(e.1 / 2 ^ 40 == nsid))
      dir := d.dir.filter (fun e => !(e.1 / 2 ^ 40 == nsid))
      insts := d.insts.map (fun e => (e.1, { e.2 with attached := e.2.attached.filter (fun x => !(x == nsid)) })) }
  | .directory nsid ln mun ix ep => { d with dir := d.dir.set (nsKey nsid ln) ⟨mun, ix, ep⟩ }
  | .band g b (.remapped m phys) =>
    let slot := d.podTab.get 0 (g * 32 + m)
    { d with remap := d.remap.set (dieKey slot (d.dieTab.get (b % 16) (slot * 16 + b % 16)) * 4096 + b / 16) phys }
  | .band g b e => { d with bands := d.bands.set (bandKey g b) ((d.bands.get {} (bandKey g b)).apply e) }
  | .inst k i => { d with insts := d.insts.set k i }
  | .binding n b => { d with bindings := d.bindings.set n b }
  | .sub e => d.sub e

/-- A change is journalled: in force at once, and in the open epoch (R101). -/
def State.logRec (r : Rec) (s : State) : State :=
  { s with live := s.live.apply r, jrn := { s.jrn with opened := s.jrn.opened ++ [r] } }

/-- Bytes of the open and the sealing epoch's records, 24 B each, against the 64 MiB of the ring (R99, R100). -/
def State.ringFull (s : State) : Bool :=
  decide (64 * 2 ^ 20 ≤ 24 * (s.jrn.opened.length + (s.jrn.sealing.getD []).length))

/-- Where a command that waits for the seal of the open epoch waits. -/
def State.sealPhase (s : State) : Phase := .seal s.jrn.openEpoch

/-- An instance slot's journalled part changes by a record (R197). -/
def State.logInst (k : Nat) (f : DurInst → DurInst) (s : State) : State := s.logRec (.inst k (f (s.dinst k)))

/-! ## Namespaces -/

def State.ns (s : State) (nsid : Nat) : Option Ns := s.live.nss.find nsid
/-- User bytes of a read or a write. -/
def State.userBytes (s : State) (q : Sqe) : Nat :=
  match s.ns q.nsid with
  | some n => q.nlb * n.spec.lba
  | none => 0

/-! ## Completing a command -/

/-- Bin of a latency in µs (R621): bin b from 1 to 62 holds 2^((b−1)/4) up to 2^(b/4). -/
def histBin (us : Nat) : Nat := if us = 0 then 0 else min 63 (Nat.log2 (us ^ 4) + 1)

/-- Counters saturate at 64 bits (R619). -/
def sat64 (n : Nat) : Nat := min n (2 ^ 64 - 1)

/-- The counters of log pages 0xE1 and 0xE2 and of the port's telemetry at a completion (R620, R621, R132); a firmware's transfer is none of an
instance's. -/
def State.countIo (c : Ctx) (st : Status) (s : State) : State :=
  if 8 ≤ c.port then s else
  let b := s.userBytes c.sqe
  let ok := st.sct == 0 && st.sc == 0
  let isR := c.sqe.opcode == 0x02
  let isW := c.sqe.opcode == 0x01 || c.sqe.opcode == 0x08
  let bw := if c.sqe.opcode == 0x01 && ok then b else 0
  let br := if isR && ok then b else 0
  let bin := histBin (s.now - c.time)
  let s := s.modInst c.key (fun i => { i with
    counters := { i.counters with
      reads := sat64 (i.counters.reads + isR.toNat)
      writes := sat64 (i.counters.writes + isW.toNat)
      readBytes := sat64 (i.counters.readBytes + br)
      writeBytes := sat64 (i.counters.writeBytes + bw)
      flushes := sat64 (i.counters.flushes + (c.sqe.opcode == 0x00).toNat)
      computes := sat64 (i.counters.computes + (c.sqe.opcode == 0x82 || c.sqe.opcode == 0x84).toNat)
      errors := sat64 (i.counters.errors + (!ok).toNat) }
    histRead := if isR then i.histRead.set bin (sat64 (i.histRead.get 0 bin + 1)) else i.histRead
    histWrite := if isW then i.histWrite.set bin (sat64 (i.histWrite.get 0 bin + 1)) else i.histWrite })
  let s := s.modHealth (fun h => { h with hostBytes := h.hostBytes + bw })
  s.modPort c.port (fun t => { t with
    run := { t.run with
      rdCmds := t.run.rdCmds + isR.toNat, wrCmds := t.run.wrCmds + isW.toNat
      rdBytes := t.run.rdBytes + br, wrBytes := t.run.wrBytes + bw }
    lats := if isR && ok && b == 4096 then (s.now, s.now - c.time) :: t.lats.filter (fun x => decide (s.now < x.1 + 1000000)) else t.lats })

/-- An operation returned for a generation that no longer matches its slot: discarded and counted (R214). -/
def State.lateDiscard (k n : Nat) (s : State) : State := s.modInst k (fun i => { i with late := i.late + n })

/-! ## Descriptors of a data-mover channel (15) -/

/-- The NVMe status field: SC, SCT, DNR. -/
def Status.field (st : Status) : Nat := st.sc + st.sct * 256 + st.dnr.toNat * 16384

/-- Descriptors of a channel's ring (R506). -/
def Chan.size (c : Chan) : Nat := 2 ^ c.sizeLog2
/-- The channel's interrupt: the OR of the enabled bits (R520). -/
def Chan.irqOn (c : Chan) : Bool :=
  (c.irq.getLsbD 0 && c.halfIe) || (c.irq.getLsbD 1 && c.fullIe) || (c.irq.getLsbD 2 && c.errIe) || (c.irq.getLsbD 3 && c.haltIe)

/-- A burst is in flight: neither a fence that waits nor a stream source without a frame. -/
def InFlight.busy (f : InFlight) : Bool := f.started && decide (f.desc.op ≤ 2) && !(f.desc.srcSpace == 3 && f.src.isNone)

/-- A descriptor has a burst to move: bytes left, and no command of a namespace side to wait for. -/
def InFlight.moves (f : InFlight) : Bool :=
  f.busy && f.ctx.isNone && !(f.desc.srcSpace == 4 && f.src.isNone) && decide (f.done < f.desc.length)

/-- A descriptor ends: status write-back, OWN cleared, HEAD on, interrupt bits and result registers (R509, R515, R520, R521). -/
def Chan.endDesc (status nvme : Nat) (c : Chan) : Chan :=
  match c.flight with
  | none => c
  | some f =>
    let kind := f.desc.csum
    let reg := csumRun kind f.reg f.data
    let val := if kind = 0 then 0 else csumFinal kind reg
    let irq : BitVec 4 :=
      c.irq ||| (if f.index + 1 = c.size / 2 then 1 else 0) ||| (if f.index + 1 = c.size then 2 else 0) ||| (if 2 ≤ status then 4 else 0)
    let c := { c with
      flight := none
      ring := c.ring.set f.index { f.desc with own := false }
      written := c.written.set f.index (status, f.overlap.toNat + 2 * f.resumed.toNat, nvme, f.done, val)
      head := if c.head = f.index then (f.index + 1) % c.size else c.head
      completed := c.completed + 1
      irq := irq
      csumKind := if kind = 0 then c.csumKind else kind
      running := if kind = 0 then c.running else reg }
    if f.desc.result then { c with value := val, valid := true, status := status, index := f.index, seq := c.seq + 1 } else c

/-- A change of a channel, and of its interrupt with it. -/
def State.updChan (k : Nat) (f : Chan → Chan) (s : State) : State :=
  let a := (s.chan k).irqOn
  let s := s.modChan k f
  let b := (s.chan k).irqOn
  if a == b then s else s.emit (.moverIrq (k / 4) (k % 4) b)

/-- The Read or Write a descriptor was carried out as has ended (R484, R512, 15 status codes). -/
def State.moverDone (k id : Nat) (st : Status) (data : List Byte) (s : State) : State :=
  s.updChan k (fun c =>
    match c.flight with
    | none => c
    | some f =>
      if f.ctx ≠ some id then c
      else if f.desc.srcSpace == 4 && f.src.isNone then
        if st ≠ .success then c.endDesc 5 st.field
        else if f.stopping.isSome then c.endDesc 2 0
        else { c with flight := some { f with src := some data, ctx := none } }
      else if st = .success then { c with bytes := sat64 (c.bytes + f.done) }.endDesc 0 0
      else { c with flight := some { f with done := 0, data := [] } }.endDesc 6 st.field)

/-- A command completes: its entry is written or held, and with the entry its context is free (R150). The first Flush fetched after a deferred
error reports it (R186). A command of an older generation writes nothing (R177, R214). An acknowledged write removes the clean-shutdown record (R85). -/
def State.finish (id : Nat) (st : Status) (dw0 : W32) (s : State) : State :=
  match s.ctx id with
  | none => s
  | some c =>
    let k := c.key
    if c.phase == .posted then s
    else if !c.admin && c.gen != s.gen k then (s.lateDiscard k 1).dropCtx id
    else if c.mi then (s.emit (.mi st dw0)).dropCtx id
    else
      let s := if !c.admin && c.sqe.writes && st == .success then s.modJrn (fun j => { j with cleanRec := false }) else s
      match c.mover with
      | some ch => ((s.countIo c st).dropCtx id).moverDone ch id st c.data.flatten
      | none =>
        let report := st == .success && !c.owes.isEmpty
        let st' := if report then stDeferred else st
        let s := if c.owes.isEmpty then s else s.modInst k (fun i => { i with defLog := if report then i.defLog.flushed c.owes else i.defLog.unclaim c.owes })
        let s := if c.admin then s else s.countIo c st'
        let cq := if c.admin then 0 else ((s.inst k).sqs.get {} c.qid).cq
        s.writeCqe k cq { sqid := c.qid, cid := c.sqe.cid, status := st', dw0 := dw0, dw1 := c.dw1, ctx := id, io := if c.admin then none else some c.sqe.nsid }

/-- A Delete I/O Submission Queue completes after every completion from its queue (R179), and the queue is gone. -/
def State.settleDeletes (s : State) : State :=
  let ready := s.ctxs.filter (fun c => c.admin && c.phase == .drain && (c.sqe.opcode == 0x00 || c.sqe.opcode == 0xCB) &&
    !s.ctxs.any (fun d => !d.admin && d.key == instKey c.port c.stopNo && d.qid == c.stopTag))
  s.each (ready.map (·.id)) (fun id t =>
    match t.ctx id with
    | some c => (t.modInst (instKey c.port c.stopNo) (fun i => { i with sqs := i.sqs.erase c.stopTag })).finish id .success 0
    | none => t)

/-- A command completes with a status, and with it every Delete that waited for it. -/
def State.complete (id : Nat) (st : Status) (dw0 : W32) (s : State) : State := (s.finish id st dw0).settleDeletes

/-- A violation on an admin queue stands in its Error Information log (R192). -/
def State.logError (p sqid cid nsid : Nat) (st : Status) (s : State) : State :=
  s.modPort p (fun t => { t with
    errCount := t.errCount + 1
    errLog := (⟨t.errCount + 1, sqid, cid, st, nsid⟩ :: t.errLog).take 64 })

/-- A violation found in an admin command after its parse: Invalid Field, and an entry of the Error Information log (R192). -/
def State.completeBad (id : Nat) (s : State) : State :=
  match s.ctx id with
  | some c => (if c.mi then s else s.logError c.port c.qid c.sqe.cid c.sqe.nsid stInvalidField).complete id stInvalidField 0
  | none => s

/-- A data write of an I/O command: none without its PASID (R226). -/
def State.toTenant (c : Ctx) (o : Out) (s : State) : State := if s.mayTag c.key then s.hostWrite c.port o else s

/-- Data goes to the host buffer of an admin command, without a PASID (R133, R202). -/
def State.toHost (c : Ctx) (l : Layout) (s : State) : State :=
  if c.mi then s.emit (.miData l) else s.hostWrite c.port (.data c.port c.inst c.sqe.cid l (s.dmaOf (instKey c.port 0)))

end Sys2Proof.Machine
end

