-- ==== Sys2Proof/Machine/MapOps.lean ====
section
/-! DEFINITION. The map cache's operations: where a line sits, lookups and misses, fills and victims, updates, locks, maintenance (08). -/
namespace Sys2Proof.Machine

/-! ## Map records (R242 to R246) -/

/-- The map entry of a unit. -/
def State.mapAt (s : State) (nsid u : Nat) : MapVal := s.live.map.get .unmapped (nsKey nsid u)

/-- A map entry as a 40-bit value (R242). -/
def MapVal.code : MapVal → BitVec 40
  | .mun m => BitVec.ofNat 40 m
  | .zeroes => 0xFFFFFFFFFD#40
  | .uncorrectable => 0xFFFFFFFFFE#40
  | .unmapped => 0xFFFFFFFFFF#40

/-- Units of a namespace. -/
def Ns.units (v : Ns) : Nat := v.spec.nsze / v.spec.perUnit

/-- What the tag of a record covers: its header and its entries (R244). -/
def recordSigned (r : MapRecord) : List Nat :=
  [r.nsIndex, r.version, r.serial, r.line, r.muCode, r.epoch, r.ckptMun, r.ckptIndex] ++ r.entries.map (fun e => e.toNat)

/-- The 384 bytes of a record (R244). -/
def recordLayout (r : MapRecord) : Layout :=
  { size := 384
    fields := [⟨0x000, 0, 16, r.nsIndex⟩, ⟨0x002, 0, 16, r.version⟩, ⟨0x004, 0, 32, r.serial⟩, ⟨0x008, 0, 40, r.line⟩, ⟨0x008, 40, 2, r.muCode⟩,
      ⟨0x010, 0, 64, r.epoch⟩, ⟨0x018, 0, 40, r.ckptMun⟩, ⟨0x018, 40, 4, r.ckptIndex⟩] ++
      r.entries.mapIdx (fun i e => ⟨0x020 + 5 * i, 0, 40, e.toNat⟩) ++ [⟨0x160, 0, 128, r.tag.toNat⟩, ⟨0x170, 0, 96, r.nonce.toNat⟩] }

/-- A T3 codeword slot's data: ten records at 384 × j, then zeroes (R245). -/
def slotLayout (rs : List MapRecord) : Layout :=
  { size := 4096, fields := ((rs.take 10).mapIdx (fun j r => (recordLayout r).fields.map (fun f => { f with off := f.off + 384 * j }))).flatten }

/-- The map key of T1 and T3 (R245). -/
def State.mapKey (s : State) : BitVec 256 := Config.mapKey s.keep.secret s.keep.mediaGen

/-- The record of a line as the map stands, under a key and a nonce (R244). -/
def State.lineRecord (key : BitVec 256) (nonce epoch mun index nsid line : Nat) (s : State) : MapRecord :=
  let v := s.ns nsid
  let r : MapRecord := {
    nsIndex := nsid - 1
    serial := (v.map (·.serial)).getD 0
    line := line
    muCode := (v.map (fun v => v.spec.muCode)).getD 0
    epoch := epoch
    ckptMun := mun
    ckptIndex := index
    entries := (List.range 64).map (fun i => (s.mapAt nsid (64 * line + i)).code)
    nonce := BitVec.ofNat 96 nonce }
  { r with tag := Config.gcmTag key r.nonce (recordSigned r) }

/-- A record is written: the nonce counter moves on (R245). -/
def State.nextNonce (s : State) : State := s.modJrn (fun j => { j with nonce := j.nonce + 1 })
/-- The T1 record of a line, written with the nonce its line holds; EPOCH and the checkpoint as its directory entry has them. -/
def State.t1Record (s : State) (nsid line : Nat) : MapRecord :=
  let d := s.live.dir.find (nsKey nsid line)
  s.lineRecord s.mapKey (s.line nsid line).nonce ((d.map (·.epoch)).getD 0) ((d.map (·.mun)).getD 0) ((d.map (·.index)).getD 0) nsid line
/-- A line's T1 record is written. -/
def State.writeT1 (nsid line : Nat) (s : State) : State :=
  s.nextNonce.modLine nsid line (fun x => { x with nonce := s.jrn.nonce + 1 })

/-! ## The T2 layout (R251, R256, R257) -/

def State.lendsOf (s : State) (p : Nat) : List Lend := s.lends.get [] p
/-- The extents of every lend with their port, in the order of the layout. -/
def State.t2Extents (s : State) : List (Nat × Extent) :=
  (List.range 8).flatMap (fun p => (s.lendsOf p).flatMap (fun l => l.extents.map (fun e => (p, e))))
/-- Sets of the layout: 1,365 in each 2 MiB chunk. -/
def State.t2Sets (s : State) : Nat := s.t2Extents.foldl (fun n (e : Nat × Extent) => n + e.2.chunks * 1365) 0
/-- Where a set lies: its port and its address there. -/
def setPlace : List (Nat × Extent) → Nat → Option (Nat × Nat)
  | [], _ => none
  | (p, e) :: r, n => if n < e.chunks * 1365 then some (p, e.address + n / 1365 * 2 ^ 21 + n % 1365 * 1536) else setPlace r (n - e.chunks * 1365)
/-- The set of a line; none where nothing is lent, or its namespace is gone. -/
def State.t2Set (s : State) (nsid line : Nat) : Option Nat :=
  match s.ns nsid with
  | some v => if s.t2Sets = 0 then none else some (Config.t2Hash (nsid - 1) v.serial line % s.t2Sets)
  | none => none
/-- A record is its line's latest checkpoint: CKPT_MUN and CKPT_INDEX are the line's directory entry (R257). -/
def State.isCurrent (s : State) (r : MapRecord) : Bool :=
  match s.ns (r.nsIndex + 1), s.live.dir.find (nsKey (r.nsIndex + 1) r.line) with
  | some v, some d => v.serial == r.serial && d.mun == r.ckptMun && d.index == r.ckptIndex
  | _, _ => false
/-- The way of a set that holds a line's record. -/
def State.t2Way (s : State) (set nsid line : Nat) : Option Nat :=
  (List.range 4).find? (fun w => match s.mc.t2.find (set * 4 + w) with
    | some r => r.nsIndex == nsid - 1 && r.line == line && s.isCurrent r
    | none => false)
/-- A way of a set with space: one that holds no record a line could be taken from. -/
def State.t2Free (s : State) (set : Nat) : Option Nat :=
  (List.range 4).find? (fun w => match s.mc.t2.find (set * 4 + w) with
    | some r => !s.isCurrent r
    | none => true)
/-- An evicted clean line is written to its T2 set where that has space, and is dropped otherwise (R249). -/
def State.toT2 (nsid line : Nat) (s : State) : State :=
  match s.t2Set nsid line, s.live.dir.find (nsKey nsid line), s.mc.t2Key with
  | some set, some d, some key =>
    if (s.t2Way set nsid line).isSome then s else
    match s.t2Free set, setPlace s.t2Extents set with
    | some w, some a =>
      let r := s.lineRecord key (s.jrn.nonce + 1) d.epoch d.mun d.index nsid line
      (s.nextNonce.modMc (fun m => { m with t2 := m.t2.set (set * 4 + w) r })).emit (.t2Write a.1 (a.2 + 384 * w) { r with entries := Config.gcmEntries key r.nonce r.entries })
    | _, _ => s
  | _, _, _ => s

/-- Hash of a line (R265). -/
def lineHash (nsid line : Nat) : W32 := crc32c (leBytes 8 (line + (nsid - 1) * 2 ^ 40))
def sliceOf (nsid line : Nat) : Nat := (lineHash nsid line).toNat % 64
def setOf (nsid line : Nat) : Nat := (lineHash nsid line).toNat / 64 % 256

/-- Fields of a region entry in force (08, MC_REGION_LO_n, MC_REGION_HI_n). -/
def Region.valid (r : Region) : Bool := r.lo.getLsbD 52
def Region.writeThrough (r : Region) : Bool := r.lo.getLsbD 53
def Region.lock (r : Region) : Bool := r.lo.getLsbD 54
def Region.nsid (r : Region) : Nat := r.lo.toNat / 2 ^ 40 % 4096 + 1
def Region.first (r : Region) : Nat := r.lo.toNat % 2 ^ 40
def Region.last (r : Region) : Nat := r.hiForce.toNat % 2 ^ 40
def Region.owner (r : Region) : Nat := r.hiForce.toNat / 2 ^ 40 % 1024

def State.region (s : State) (n : Nat) : Region := s.mc.regions.get {} n

/-- The valid region with the lowest number that holds a line (R274). -/
def State.regionOf (s : State) (nsid line : Nat) : Option Region :=
  ((List.range 64).map s.region).find? (fun r => r.valid && r.nsid == nsid && decide (r.first ≤ line ∧ line ≤ r.last))

/-- The policy a line takes (R274): true is write-through. -/
def State.lineWt (s : State) (nsid line : Nat) : Bool :=
  match s.regionOf nsid line with
  | some r => r.writeThrough
  | none => false

/-- A region that locks at all (R280). -/
def State.regionLocks (s : State) (r : Region) : Bool :=
  r.valid && r.lock && (s.dinst r.owner).live && decide (0 < (s.dinst r.owner).share.pinnedWays) &&
    (s.attachedNs r.owner).contains r.nsid

def Slice.way (x : Slice) (set w : Nat) : Way := x.ways.get {} (set * 32 + w)
def Slice.setWay (set w : Nat) (y : Way) (x : Slice) : Slice := { x with ways := x.ways.set (set * 32 + w) y }

/-- The ways that can hold lines of a set: 0 to 15, and 16 once the spare is in use; no disabled way. -/
def Slice.usable (x : Slice) (set : Nat) : List Nat :=
  ((List.range 16) ++ (if (x.spareFor.find set).isSome then [16] else [])).filter (fun w => !(x.way set w).disabled)

/-- The way that names a line: its entries are there, or a locked empty tag keeps the way for it. -/
def Slice.find (x : Slice) (set nsid line : Nat) : Option Nat :=
  (x.usable set).find? (fun w => (x.way set w).nsid == nsid && (x.way set w).line == line && ((x.way set w).valid || (x.way set w).locked))

/-- The slice and way that hold a line's entries. -/
def State.cached (s : State) (nsid line : Nat) : Option Nat :=
  match (s.slice (sliceOf nsid line)).find (setOf nsid line) nsid line with
  | some w => if ((s.slice (sliceOf nsid line)).way (setOf nsid line) w).valid then some w else none
  | none => none

/-- Locked ways of a set, and of them those of one instance. -/
def Slice.lockedIn (x : Slice) (set : Nat) : Nat := ((List.range 17).filter (fun w => (x.way set w).locked)).length
def Slice.lockedBy (x : Slice) (set k : Nat) : Nat :=
  ((List.range 17).filter (fun w => (x.way set w).locked && (x.way set w).owner == k)).length

/-- MC_CONFIG.LOCK_CAP. -/
def lockCap : Nat := 8

/-- The lock test at a fill, or at an access of a line that a LOCK region now covers (R277). -/
def State.tryLock (nsid line w : Nat) (s : State) : State :=
  match s.regionOf nsid line with
  | none => s
  | some r =>
    let sl := sliceOf nsid line
    let set := setOf nsid line
    let x := s.slice sl
    let y := x.way set w
    if !s.regionLocks r || y.locked then s
    else if x.lockedBy set r.owner < (s.dinst r.owner).share.pinnedWays && x.lockedIn set < lockCap then
      (s.modSlice sl (Slice.setWay set w { y with locked := true, lockTry := false, owner := r.owner, lockSeq := s.mc.lockClock + 1 })).modMc
        (fun m => { m with lockClock := m.lockClock + 1 })
    else s.modSlice sl (fun x => Slice.setWay set w { y with lockTry := false } { x with denied := sat64 (x.denied + 1) })
/-- An access of a line in T0: its lock is tried where its region was written meanwhile (R277). -/
def State.accessLock (nsid line w : Nat) (s : State) : State :=
  if ((s.slice (sliceOf nsid line)).way (setOf nsid line) w).lockTry then s.tryLock nsid line w else s

/-- An AHEAD line is written to T1: its records leave the change buffer (R272). -/
def State.writeBack (nsid line : Nat) (s : State) : State :=
  let sl := sliceOf nsid line
  let set := setOf nsid line
  match (s.slice sl).find set nsid line with
  | none => s
  | some w => (s.modSlice sl (fun x =>
      let x := Slice.setWay set w { x.way set w with ahead := false } x
      { x with changes := x.changes.filter (fun c => !(c.set == set && c.way == w)) })).writeT1 nsid line

/-- The way a fill takes (R270): the line's locked empty way, else an empty way, else the least recently used unlocked one. -/
def Slice.victim (x : Slice) (set nsid line : Nat) : Option Nat :=
  let us := x.usable set
  match us.find? (fun w => (x.way set w).locked && !(x.way set w).valid && (x.way set w).nsid == nsid && (x.way set w).line == line) with
  | some w => some w
  | none =>
    match us.find? (fun w => !(x.way set w).valid && !(x.way set w).locked) with
    | some w => some w
    | none =>
      (us.filter (fun w => !(x.way set w).locked)).foldl (fun best w =>
        match best with
        | none => some w
        | some b => if (x.way set w).used < (x.way set b).used then some w else best) none

/-- A line that T1 holds is placed in T0. -/
def State.fill (nsid line : Nat) (s : State) : State :=
  let sl := sliceOf nsid line
  let set := setOf nsid line
  if (s.cached nsid line).isSome then s else
  match (s.slice sl).victim set nsid line with
  | none => s
  | some w =>
    let old := (s.slice sl).way set w
    let s := if old.valid && old.ahead then s.writeBack old.nsid old.line else s
    let y := (s.slice sl).way set w
    let s := s.modSlice sl (Slice.setWay set w { y with
      nsid := nsid, line := line, valid := true, ahead := false, wt := s.lineWt nsid line, used := s.mc.clock + 1, lockTry := false })
    (s.modMc (fun m => { m with clock := m.clock + 1 })).tryLock nsid line w

/-! ## Map fetches (R247, R269) -/

/-- The quadrant whose map fetcher takes a request: that of its command's port, or of the firmware it serves. -/
def State.fetcherOf (s : State) (ids : List Nat) : Nat :=
  match ids.head?.bind s.ctx with
  | some c => if c.port < 8 then c.port / 2 else c.port - 8
  | none => 0
/-- A parked line is among the 2,048 its map fetcher holds in flight. -/
def State.fetching (s : State) (f : Fetch) : Bool :=
  ((s.mc.parked.filter (fun g => g.quad == f.quad)).take 2048).any (fun g => g.nsid == f.nsid && g.line == f.line)
/-- A fetch begins: from T2 where the line has been checkpointed and a layout stands, else from T3 (R247). -/
def State.issueFetch (f : Fetch) (s : State) : State :=
  let set := if (s.live.dir.find (nsKey f.nsid f.line)).isSome then s.t2Set f.nsid f.line else none
  let s := s.modMc (fun m => { m with parked := m.parked.map (fun g => if g.nsid == f.nsid && g.line == f.line then { g with issued := true, t2 := set } else g) })
  match set.bind (setPlace s.t2Extents) with
  | some a => s.emit (.t2Read a.1 a.2)
  | none => s
/-- Fetches that have come within their fetcher's 2,048 begin. -/
def State.issueFetches (s : State) : State :=
  (s.mc.parked.filter (fun f => !f.issued && s.fetching f)).foldl (fun t f => t.issueFetch f) s
/-- Requests for a line that T1 lacks are parked: with the fetch of the line, or with a new one (R269). -/
def State.park (nsid line : Nat) (ids : List Nat) (s : State) : State :=
  if s.mc.parked.any (fun f => f.nsid == nsid && f.line == line) then
    s.modMc (fun m => { m with parked := m.parked.map (fun f =>
      if f.nsid == nsid && f.line == line then { f with ctxs := f.ctxs ++ ids.filter (fun i => !f.ctxs.contains i) } else f) })
  else (s.modMc (fun m => { m with parked := m.parked ++ [{ nsid := nsid, line := line, t1 := false, ctxs := ids, quad := s.fetcherOf ids }] })).issueFetches

/-- A lookup that T0 serves, in way `w` of the line's set. -/
def State.hitLine (nsid line w : Nat) (s : State) : State :=
  let sl := sliceOf nsid line
  let set := setOf nsid line
  let s := s.modSlice sl (fun x => Slice.setWay set w { x.way set w with used := s.mc.clock + 1 } { x with hits := sat64 (x.hits + 1) })
  (s.modMc (fun m => { m with clock := m.clock + 1 })).accessLock nsid line w
/-- A command's request for a line is in its slice's miss register, or parked. -/
def State.awaitsLine (s : State) (nsid line id : Nat) : Bool :=
  (match (s.slice (sliceOf nsid line)).miss with
    | some f => f.nsid == nsid && f.line == line && f.ctxs.contains id
    | none => false) || s.mc.parked.any (fun f => f.nsid == nsid && f.line == line && f.ctxs.contains id)
/-- A miss goes to T1 by the slice's miss register; it joins the outstanding one of its line, and waits behind that of another (R268). -/
def State.missLine (nsid line id : Nat) (s : State) : State :=
  if s.awaitsLine nsid line id then s else
  match (s.slice (sliceOf nsid line)).miss with
  | none => s.modSlice (sliceOf nsid line) (fun x => { x with misses := sat64 (x.misses + 1), miss := some { nsid := nsid, line := line, t1 := true, ctxs := [id] } })
  | some f =>
    if f.nsid == nsid && f.line == line then s.modSlice (sliceOf nsid line) (fun x => { x with miss := some { f with ctxs := f.ctxs ++ [id] } })
    else s

/-- A lookup of a line: T0 serves it, or it is a miss. -/
def State.lookup (nsid line id : Nat) (s : State) : Bool × State :=
  match s.cached nsid line with
  | some w => (true, s.hitLine nsid line w)
  | none => (false, s.missLine nsid line id)

/-- The lookups of a command's lines that have not been served; true when T0 has served the last of them. -/
def State.lookups (nsid id : Nat) (ls : List Nat) (s : State) : Bool × State :=
  let had := ((s.ctx id).map (·.lines)).getD []
  (ls.filter (fun l => !had.contains l)).foldl (fun a l =>
    let r := a.2.lookup nsid l id
    (a.1 && r.1, if r.1 then r.2.modCtx id (fun c => { c with lines := c.lines ++ [l] }) else r.2)) (true, s)

/-- The commands whose requests were parked count it (MAP_PARKS, 19). -/
def State.countParks (ids : List Nat) (s : State) : State :=
  s.each ids (fun i t => match t.ctx i with
    | some c => if 8 ≤ c.port then t else t.modInst c.key (fun i => { i with counters := { i.counters with mapParks := sat64 (i.counters.mapParks + 1) } })
    | none => t)

/-- A slice writes back the line of its oldest record until its change buffer is below 192 (R272). -/
def State.drainChanges (sl fuel : Nat) (s : State) : State :=
  match fuel with
  | 0 => s
  | f + 1 =>
    if (s.slice sl).changes.length < 192 then s else
    match (s.slice sl).changes with
    | c :: _ => (s.writeBack ((s.slice sl).way c.set c.way).nsid ((s.slice sl).way c.set c.way).line).drainChanges sl f
    | [] => s

/-- Entries of a line have changed in the map: in T0, filled first where it lacks the line, and in T1 (R248, R271 to R273). A line is dirty from
its oldest change that its checkpoint lacks. -/
def State.touchLine (nsid line : Nat) (entries : List Nat) (s : State) : State :=
  let sl := sliceOf nsid line
  let set := setOf nsid line
  let s := s.modLine nsid line (fun x => { x with inT1 := true, dirty := true, changed := if x.dirty then x.changed else s.jrn.openEpoch, later := if x.ckpt && x.later == 0 then s.jrn.openEpoch else x.later })
  let s := s.fill nsid line
  match s.cached nsid line with
  | none => s.writeT1 nsid line
  | some w =>
    let x := s.slice sl
    if (x.way set w).wt then s.writeT1 nsid line
    else
      let new := entries.map (fun i => (⟨set, w, i, s.mapAt nsid (64 * line + i)⟩ : Change))
      (s.modSlice sl (fun x => { Slice.setWay set w { x.way set w with ahead := true } x with changes := x.changes ++ new })).drainChanges sl 256

/-- The change of a unit's map entry by a record. -/
def State.setUnit (nsid u : Nat) (r : Rec) (s : State) : State := (s.logRec r).touchLine nsid (u / 64) [u % 64]

/-- Set records of a run of units, each of at most 65,535 (R258). -/
def setRecs (nsid u n : Nat) (v : MapVal) : List Rec :=
  (List.range ((n + 65534) / 65535)).map (fun i => .set nsid (u + 65535 * i) (min 65535 (n - 65535 * i)) v)
/-- A run of units takes a reserved value: by its records in the journal, and in the line copies (R258, R272). -/
def State.setRun (nsid u n : Nat) (lines : List Nat) (v : MapVal) (s : State) : State :=
  let s := (setRecs nsid u n v).foldl (fun (t : State) r => t.logRec r) s
  s.each lines (fun ln t => t.touchLine nsid ln ((List.range 64).filter (fun i => decide (u ≤ 64 * ln + i ∧ 64 * ln + i < u + n))))

/-! ## Maintenance operations (08) -/

/-- What an operation does to a way that holds a line of its range. -/
def State.maintWay (op nsid line : Nat) (s : State) : State :=
  let sl := sliceOf nsid line
  let set := setOf nsid line
  match (s.slice sl).find set nsid line with
  | none => s
  | some w =>
    let y := (s.slice sl).way set w
    let s := if (op == 1 || op == 2) && y.ahead then s.writeBack nsid line else s
    let s := if op == 3 then s.modSlice sl (fun x => { x with changes := x.changes.filter (fun c => !(c.set == set && c.way == w)) }) else s
    s.modSlice sl (fun x =>
      let y := x.way set w
      Slice.setWay set w
        (if op == 2 then { y with valid := false }
         else if op == 3 then { y with valid := false, ahead := false, locked := false }
         else if op == 4 then { y with locked := false }
         else y) x)

/-- Lines of a namespace that some way names, in a range. -/
def State.cachedLines (s : State) (nsid first last : Nat) : List Nat :=
  s.mc.slices.flatMap (fun e => (e.2.ways.filter (fun y => (y.2.valid || y.2.locked) && !y.2.disabled && y.2.nsid == nsid &&
    decide (first ≤ y.2.line ∧ y.2.line ≤ last))).map (fun y => y.2.line))

/-- Lines in T0 take the policy of their region at the start of an operation that a region change starts; none that becomes write-through stays
AHEAD (R273 to R275). -/
def State.takePolicy (nsid first last : Nat) (s : State) : State :=
  s.each (s.cachedLines nsid first last) (fun ln t =>
    let ahead := (match t.cached nsid ln with
      | some w => ((t.slice (sliceOf nsid ln)).way (setOf nsid ln) w).ahead
      | none => false)
    let t := if t.lineWt nsid ln && ahead then t.writeBack nsid ln else t
    match (t.slice (sliceOf nsid ln)).find (setOf nsid ln) nsid ln with
    | some w => t.modSlice (sliceOf nsid ln) (fun x => Slice.setWay (setOf nsid ln) w { x.way (setOf nsid ln) w with wt := t.lineWt nsid ln } x)
    | none => t)

/-- Fills outstanding for lines of a range (R283). -/
def State.fillsIn (s : State) (nsid first last : Nat) : List Nat :=
  (s.mc.slices.filterMap (fun e => e.2.miss)).filterMap (fun f =>
    if f.nsid == nsid && decide (first ≤ f.line ∧ f.line ≤ last) then some f.line else none)

/-- An operation acts on every line of its range; a fill it meets is waited for first (R281, R283). -/
def State.maintain (op nsid first last : Nat) (s : State) : State :=
  let fills := s.fillsIn nsid first last
  let s := s.each fills (fun l t => (t.fill nsid l).modSlice (sliceOf nsid l) (fun x => { x with miss := none }))
  let ls := s.cachedLines nsid first last
  let s := s.each ls (fun l t => t.maintWay op nsid l)
  s.modMc (fun m => { m with lines := ls.length, fillWaits := fills.length })

/-- Every lock of an instance, or of a namespace held by an instance, is released (R279). -/
def State.unlockWays (k : Nat) (nsid : Option Nat) (s : State) : State :=
  s.modMc (fun m => { m with slices := m.slices.map (fun e => (e.1, { e.2 with ways := e.2.ways.map (fun y =>
    (y.1, if y.2.locked && y.2.owner == k && (nsid.isNone || nsid == some y.2.nsid) then { y.2 with locked := false } else y.2)) })) })

/-- A region comes into effect, or goes out of it, by an attach or a share change; either is reported (R280). -/
def State.reviewRegions (s : State) : State :=
  s.each ((List.range 64).filter (fun n => (s.region n).valid && (s.region n).lock)) (fun n t =>
    let r := t.region n
    let on := t.regionLocks r
    if on == r.locks then t
    else (t.modMc (fun m => { m with regions := m.regions.set n { r with locks := on } })).report 20 0x04F0 n on.toNat)

end Sys2Proof.Machine
end

