-- ==== Sys2Proof/Machine/MediaOps.lean ====
section
/-! DEFINITION. The write path's operations: where a media unit number lies, bands and streams, placing units in stripes, member programs, completing stripes, deferred errors (09, 11, 12). -/
namespace Sys2Proof.Machine

/-! ## Geometry (R56, R288 to R291) -/

/-- A codeword slot: group, band, row, data member and slot of the member's row. -/
structure Spot where
  group : Nat
  band : Nat
  row : Nat
  member : Nat
  slot : Nat
  deriving DecidableEq, Repr

/-- Stripe width. -/
def State.width (s : State) : Nat := s.image.geometry.width
/-- Data members of a row. -/
def State.dataMembers (s : State) : Nat := s.width - 2
/-- Section 0x06 of a group. -/
def State.vmun (s : State) (g : Nat) : VMun := (s.image.mun[g]?).getD ⟨0, 0, 1, 1, 48⟩
def State.groupCount (s : State) : Nat := s.image.mun.length
def State.groupList (s : State) : List Nat := List.range s.groupCount

/-- The slots a group's range of media unit numbers spans. -/
def munSpan (v : VMun) : Nat := v.bands * v.rowsPerBand * v.dataMembers * v.slotsPerRow

/-- R56: the spot of a media unit number. -/
def State.locate (s : State) (mun : Nat) : Option Spot :=
  match s.groupList.find? (fun g => decide ((s.vmun g).base ≤ mun ∧ mun < (s.vmun g).base + munSpan (s.vmun g))) with
  | none => none
  | some g =>
    let v := s.vmun g
    let off := mun - v.base
    some { group := g
           slot := off % v.slotsPerRow
           member := off / v.slotsPerRow % v.dataMembers
           row := off / (v.slotsPerRow * v.dataMembers) % v.rowsPerBand
           band := off / (v.slotsPerRow * v.dataMembers * v.rowsPerBand) }

/-- The media unit number of a spot. -/
def State.munOf (s : State) (x : Spot) : Nat :=
  let v := s.vmun x.group
  v.base + ((x.band * v.rowsPerBand + x.row) * v.dataMembers + x.member) * v.slotsPerRow + x.slot

/-- Rotation of a band (R290). -/
def State.rotation (s : State) (b : Nat) : Nat := (b / s.image.geometry.period) % s.width
/-- Physical member position of data member `i`, of P (`i` = W − 2) and of Q (`i` = W − 1) in band `b` (R290). -/
def State.position (s : State) (b i : Nat) : Nat := (i + s.width - s.rotation b) % s.width

/-- The pod slot at a member position, and the die at an active position of a pod (R391). -/
def State.slotAt (s : State) (g pos : Nat) : Nat :=
  s.live.podTab.get (((s.image.geometry.groups[g]?).getD [])[pos]?.getD 0) (g * 32 + pos)
def State.dieAt (s : State) (slot d : Nat) : Nat := s.live.dieTab.get d (slot * 16 + d)
/-- The member position a pod slot serves. -/
def State.memberOf (s : State) (slot : Nat) : Option (Nat × Nat) :=
  (s.groupList.flatMap (fun g => (List.range s.width).map (fun p => (g, p)))).find? (fun x =>
    s.slotAt x.1 x.2 == slot && !s.live.lostMem.contains x && !s.live.deadPods.contains slot)
/-- The active position a physical die serves. -/
def State.activePos (s : State) (slot die : Nat) : Option Nat :=
  (List.range 16).find? (fun d => s.dieAt slot d == die)
/-- The die that holds a member's part of a band: the one at its active position, or a retiring one (R407). -/
def State.dieFor (s : State) (g b pos : Nat) : Nat :=
  match (s.band g b).kept.find? (fun x => x.1 == pos) with
  | some x => x.2
  | none => s.dieAt (s.slotAt g pos) (b % 16)
/-- The physical block of a block index of a die (R357). -/
def State.physBlock (s : State) (slot die ix : Nat) : Nat := s.live.remap.get ix (dieKey slot die * 4096 + ix)

/-! ## Bands (11) -/

/-- The bands of a group that have a row in the band table. -/
def State.bandsOf (s : State) (g : Nat) : List Nat :=
  (s.live.bands.filter (fun e => e.1 / 65536 == g)).map (fun e => e.1 % 65536)

/-- A band counts as FREE only once its erase-done record is sealed (R366, R367). -/
def State.isFree (s : State) (g b : Nat) : Bool :=
  (s.band g b).state == .free && (s.sealed.bands.get {} (bandKey g b)).state == .free

def State.freeIn (s : State) (g d : Nat) : List Nat := (s.bandsOf g).filter (fun b => b % 16 == d && s.isFree g b)

/-- The free count of a group (R361). -/
def State.freeCount (s : State) (g : Nat) : Nat :=
  (List.range 16).foldl (fun m d => min m (s.freeIn g d).length) 65536

/-- The die set with the fewest FREE bands, the lowest on a tie (R364). -/
def State.worstSet (s : State) (g : Nat) : Nat :=
  (List.range 16).foldl (fun best d => if (s.freeIn g d).length < (s.freeIn g best).length then d else best) 0

/-- Number of a stream in band-state records (11). -/
def Stream.num : Stream → Nat
  | .cls h => h.val
  | .gc h => 4 + h.val
  | .map => 7
  | .rebuild => 8

/-- The element of a list least in `f`, the earliest on a tie. -/
def pickMin (f : Nat → Nat) : List Nat → Option Nat
  | [] => none
  | x :: r => some (r.foldl (fun b y => if f y < f b then y else b) x)
def pickMax (f : Nat → Nat) : List Nat → Option Nat
  | [] => none
  | x :: r => some (r.foldl (fun b y => if f b < f y then y else b) x)

/-- The FREE band a stream takes in a die set (R301). -/
def State.takeBand (s : State) (g d : Nat) (st : Stream) : Option Nat :=
  let fs := s.freeIn g d
  let er := fun b => (s.band g b).erases
  let lo := fs.foldl (fun m b => min m (er b)) (er (fs.headD 0))
  let hi := fs.foldl (fun m b => max m (er b)) 0
  if hi - lo < s.image.wearBias then pickMin (fun b => (s.band g b).freedAt) fs
  else
    let sorted := fs.mergeSort (fun a b => decide (er a ≤ er b))
    match st with
    | .cls h => if h.val ≤ 1 then sorted.head? else if h.val = 2 then sorted[sorted.length / 2]? else sorted.getLast?
    | .gc h => if h.val = 0 then sorted.head? else if h.val = 1 then sorted[sorted.length / 2]? else sorted.getLast?
    | .map => sorted.getLast?
    | .rebuild => sorted[sorted.length / 2]?

/-- A RESERVE band of a die set, where the group's free count lets the rebuild stream take one (R360, R406). -/
def State.reserveBand (s : State) (g d : Nat) (st : Stream) : Option Nat :=
  if st = .rebuild ∧ s.freeCount g ≤ 3 then (s.bandsOf g).find? (fun b => b % 16 == d && (s.band g b).state == .reserve && !(s.band g b).intent) else none

/-- The lowest row of a band that no stripe has taken. -/
def State.nextRow (s : State) (g b : Nat) : Nat :=
  s.cache.stripes.foldl (fun m x => if x.group == g && x.band == b then max m (x.row + 1) else m) (s.band g b).mark

def State.logBand (g b : Nat) (e : BandEvent) (s : State) : State := s.logRec (.band g b e)

/-- A band closes early, with the rows programmed so far (R359). -/
def State.closeBand (g b : Nat) (s : State) : State :=
  if (s.band g b).state == .opened then s.logBand g b (.full (s.band g b).mark ((s.group g).clock / 1000) s.rtc) else s

/-- The group's members lost: the greatest number absent from any of its OPEN, FULL, VICTIM or SYSTEM bands (R394). -/
def State.lostOf (s : State) (g : Nat) : Nat :=
  (s.bandsOf g).foldl (fun m b =>
    let x := s.band g b
    if x.state == .opened || x.state == .full || x.state == .victim || x.state == .system then max m x.absent.length else m) 0

/-! ## Filling stripes (R296 to R302) -/

/-- The filling stripe of a stream of a group: its place in the list. -/
def State.filling (s : State) (g : Nat) (st : Stream) : Option Nat :=
  s.cache.stripes.findIdx? (fun x => x.group == g && x.stream == st && !x.closed)

def State.stripe (s : State) (i : Nat) : Option Stripe := s.cache.stripes[i]?
def State.modStripe (i : Nat) (f : Stripe → Stripe) (s : State) : State :=
  s.modCache (fun c => { c with stripes := c.stripes.mapIdx (fun j x => if j = i then f x else x) })

/-- An operation that runs on an internal context: GC, rebuild, drones (R36). -/
def Op.internal (o : Op) : Bool := o.cls == .gc || o.cls == .drone
/-- A command the firmware has its data mover carry out: it runs on an internal context too, in no instance (R36, R204). -/
def Ctx.internal (c : Ctx) : Bool := decide (8 ≤ c.port)
/-- Internal contexts of a quadrant in use by commands of its firmware, and by operations older than one given. -/
def State.internalUse (s : State) (q before : Nat) : Nat :=
  (s.ctxs.filter (fun c => c.port == 8 + q)).length + (s.ops.filter (fun o => o.internal && o.link / 36 == q && decide (o.id < before))).length
/-- The quadrant has an internal context for an operation, of its 8,192 (R36). -/
def State.hasContext (s : State) (o : Op) : Bool := !o.internal || decide (s.internalUse (o.link / 36) o.id < 8192)

/-- The next operation number. -/
def State.addOp (o : Op) (s : State) : State :=
  { s with ops := s.ops ++ [{ o with id := s.health.nextOp, queuedAt := s.now, stamp := if o.stamp = 0 then s.health.nextOp else o.stamp }], health := { s.health with nextOp := s.health.nextOp + 1 } }

/-- A substitute not yet verified: its block of a band is erased before the band's first program (R392). -/
def State.eraseSubs (g b : Nat) (cls : OpClass) (s : State) : State :=
  s.each (List.range s.width) (fun p t =>
    let slot := t.slotAt g p
    let die := t.dieAt slot (b % 16)
    if (t.die (dieKey slot die)).eraseFirst && !t.live.lostMem.contains (g, p) then
      t.addOp { id := 0, link := slot, die := die, cls := cls, kind := .erase, group := g, band := b, block := t.physBlock slot die (b / 16) }
    else t)

/-- The stream's next stripe opens in the next die set of its rotation that has an open band of it, or a band to take (R301, R367). -/
def State.openStripe (g : Nat) (st : Stream) (s : State) : State :=
  if s.live.lostMem.any (fun x => x.1 == g) && !(st == .rebuild && decide (s.freeCount g ≤ 3)) then s else
  let start := (s.group g).rotor.get 0 st.num
  let v := s.vmun g
  let openIn := fun d => (s.bandsOf g).find? (fun b => b % 16 == d && (s.band g b).state == .opened && (s.band g b).stream == st && s.nextRow g b < v.rowsPerBand && !s.cache.closing.contains (bandKey g b))
  match ((List.range 16).map (fun i => (start + i) % 16)).find? (fun d => (openIn d).isSome || (s.reserveBand g d st).isSome || (s.takeBand g d st).isSome) with
  | none => s
  | some d =>
    let pick := match openIn d with
      | some b => some (b, false)
      | none => (match s.reserveBand g d st with
        | some b => some (b, true)
        | none => (s.takeBand g d st).map (fun b => (b, true)))
    match pick with
    | none => s
    | some (b, fresh) =>
      let row := if fresh then 0 else s.nextRow g b
      let s := if fresh then (s.logBand g b (.opened st)).eraseSubs g b (if st.num ≤ 3 ∨ st.num = 7 then .write else .gc) else s
      let s := s.modGroup g (fun x => { x with rotor := x.rotor.set st.num ((d + 1) % 16) })
      s.modCache (fun c => { c with stripes := c.stripes ++ [{ group := g, stream := st, band := b, row := row, placedAt := s.now }] })

/-- The filling stripe, opened if there is none. -/
def State.needStripe (g : Nat) (st : Stream) (s : State) : State :=
  if (s.filling g st).isSome then s else s.openStripe g st

/-- The first run of `k` free slots whose first slot is a multiple of `k`, in a row not yet being programmed (R298). -/
def Stripe.run (x : Stripe) (members slots k : Nat) : Option Nat :=
  ((List.range (members * slots / k)).map (fun i => i * k)).find? (fun a =>
    (List.range k).all (fun j => !x.used.contains (a + j)))

/-- The chanter class of a stream's programs (R327). -/
def Stream.opClass : Stream → OpClass
  | .cls _ => .write
  | .map => .write
  | .gc _ => .gc
  | .rebuild => .gc

/-- A member program is queued at its chanter; a lost member's fails at once (R295, R312). -/
def State.queueProgram (i pos : Nat) (s : State) : State :=
  match s.stripe i with
  | none => s
  | some x =>
    if x.members.get .filling pos ≠ .filling then s
    else if s.live.lostMem.contains (x.group, pos) then s.modStripe i (fun y => { y with members := y.members.set pos .failed })
    else
      let slot := s.slotAt x.group pos
      let die := s.dieFor x.group x.band pos
      let s := s.modStripe i (fun y => { y with members := y.members.set pos .queued })
      s.addOp { id := 0, link := slot, die := die, cls := x.stream.opClass, kind := .program pos, group := x.group, band := x.band,
                row := x.row, block := s.physBlock slot die (x.band / 16) }

/-- A stream's next stripe opens as its last one ends: every class, GC and map stream keeps one open while the module serves (R296). -/
def State.keepOpen (g : Nat) (st : Stream) (s : State) : State :=
  if st == .rebuild || !s.active then s else s.needStripe g st
/-- The streams of a group that are always open (R296). -/
def openStreams : List Stream := [.cls 0, .cls 1, .cls 2, .cls 3, .gc 0, .gc 1, .gc 2, .map]

/-- Data members whose row has every slot placed are programmed; P and Q once all are (R295). -/
def State.queueFull (i : Nat) (s : State) : State :=
  match s.stripe i with
  | none => s
  | some x =>
    let v := s.vmun x.group
    let full := (List.range v.dataMembers).filter (fun m => (List.range v.slotsPerRow).all (fun a => x.used.contains (m * v.slotsPerRow + a)))
    let s := s.each full (fun m t => t.queueProgram i (t.position x.band m))
    if full.length = v.dataMembers then
      (((s.queueProgram i (s.position x.band (s.width - 2))).queueProgram i (s.position x.band (s.width - 1))).modStripe i (fun y => { y with closed := true })).keepOpen x.group x.stream
    else s

/-- Every class, GC and map stream of every group has its stripe open (R296). -/
def State.openAll (s : State) : State := s.each s.groupList (fun g t => openStreams.foldl (fun t st => t.needStripe g st) t)

/-- The codeword of a slot. -/
def State.codeword (s : State) (mun : Nat) : Codeword := s.cw.get {} mun
def State.setCodeword (mun : Nat) (c : Codeword) (s : State) : State := { s with cw := s.cw.set mun c }

/-- A unit of `k` codewords is placed in a stream: its media unit number, or none where the stream has no band (R298, R305). -/
def State.place (g : Nat) (st : Stream) (k : Nat) (wt : Bool) (cws : List Codeword) (s : State) : Option Nat × State :=
  let s := s.needStripe g st
  match s.filling g st with
  | none => (none, s)
  | some i =>
    match s.stripe i with
    | none => (none, s)
    | some x =>
      let v := s.vmun g
      match x.run v.dataMembers v.slotsPerRow k with
      | none =>
        -- no run of this size is left: the rest of the stripe is filled with filler and the next one takes the unit
        (none, (s.modStripe i (fun y => { y with closed := true, used := List.range (v.dataMembers * v.slotsPerRow) })).queueFull i)
      | some a =>
        let mun := s.munOf ⟨g, x.band, x.row, a / v.slotsPerRow, a % v.slotsPerRow⟩
        let s := s.modStripe i (fun y => { y with
          used := y.used ++ (List.range k).map (fun j => a + j)
          acc := y.acc ++ (List.range k).map (fun j => ((a + j) % v.slotsPerRow, (a + j) / v.slotsPerRow))
          placedAt := s.now
          firstWt := if wt && y.firstWt.isNone then some s.now else y.firstWt })
        let s := s.each (List.range k) (fun j t => t.setCodeword (mun + j) { (cws[j]?).getD {} with sub := j, epoch := t.jrn.openEpoch, programmed := false })
        (some mun, s.queueFull i)

/-- The same, going on to the stream's next stripe when the filling one has no run left. -/
def State.placeUnit (g : Nat) (st : Stream) (k : Nat) (wt : Bool) (cws : List Codeword) (s : State) : Option Nat × State :=
  match s.place g st k wt cws with
  | (some m, t) => (some m, t)
  | (none, t) => t.place g st k wt cws

/-- A filling stripe is closed: its remaining slots are filled with filler and its members programmed (R302, R314). -/
def State.closeStripe (i : Nat) (s : State) : State :=
  match s.stripe i with
  | none => s
  | some x =>
    if x.closed then s else
    let v := s.vmun x.group
    let n := v.dataMembers * v.slotsPerRow
    let s := if x.used.length < n then s.modCache (fun c => { c with filler := min (c.filler + 1) 0xFFFFFFFF }) else s
    -- filler slots of class stripes count against the group's credit (R362)
    let s := match x.stream with
      | .cls _ => if (s.group x.group).pressed then s.modGroup x.group (fun y => { y with debt := y.debt + (n - x.used.length) }) else s
      | _ => s
    (s.modStripe i (fun y => { y with closed := true, used := List.range n })).queueFull i

/-! ## Occupancy (R306) -/

/-- Bytes the protected cache holds: the data codewords placed, but for those in read staging, and the accumulators of each open row (R306). -/
def State.occupancy (s : State) : Nat :=
  s.cache.stripes.foldl (fun n x => n + 4112 * (x.acc.length - x.staged) + 2 * 4112 * (s.vmun x.group).slotsPerRow) 0
/-- Bytes of write-through data in read staging (R313). -/
def State.stagedBytes (s : State) : Nat := s.cache.stripes.foldl (fun n x => n + 4112 * x.staged) 0
/-- In whole 256 MiB steps. -/
def State.occupancyMib (s : State) : Nat := (s.occupancy + 256 * 2 ^ 20 - 1) / (256 * 2 ^ 20) * 256

/-- No new space is granted (SQ_PCACHE_STATUS.HELD). -/
def State.refreshHeld (s : State) : State := s.modCache (fun c => { c with held := decide (c.limitMib < s.occupancyMib) || !c.waiting.isEmpty })

/-- Whether a codeword slot lies in a stripe that is not complete (R321). -/
def State.inStripe (s : State) (mun : Nat) : Bool :=
  match s.locate mun with
  | none => false
  | some x => s.cache.stripes.any (fun y => y.group == x.group && y.band == x.band && y.row == x.row)

/-! ## Deferred errors and lost units (05, R182 to R184) -/

/-- Events the manual describes without naming an identifier; the numbers are the model's (0xF0 up in the class). -/
def evUnnamed (cls n : Nat) : Nat := cls * 256 + 0xF0 + n

/-- An error enters an instance's part of log page 0xE0, or is counted where 64 entries stand already. One not held as an entry is delivered like
the others, and leaves PENDING when it is (DESIGN CHOICE, log entry 96). -/
def DefLog.add (d : DefLog) (e : DefErr) (now : Nat) : DefLog :=
  let q := d.seq + 1
  let d := { d with pending := d.pending + 1, seq := q, undelivered := d.undelivered ++ [(q, e.nsid, now)], flushDue := d.flushDue ++ [(q, e.nsid)] }
  if d.entries.length < 64 then { d with entries := d.entries ++ [{ e with seq := q }] }
  else { d with overflow := true, lost := d.lost + 1, removed := d.removed ++ [q] }

/-- The instances a namespace is attached to. -/
def State.attachedTo (s : State) (nsid : Nat) : List Nat :=
  (s.live.insts.filter (fun e => e.2.live && (s.attachedNs e.1).contains nsid)).map (·.1)

/-- A deferred error is recorded against every instance the namespace is attached to, and in the event journal (R183). -/
def State.deferError (nsid u cause epoch : Nat) (s : State) : State :=
  match s.ns nsid with
  | none => s
  | some n =>
    let b := n.spec.perUnit
    let s := (s.modHealth (fun h => { h with integrity := h.integrity + 1 })).report srcManagement (evUnnamed 3 cause) nsid u
    s.each (s.attachedTo nsid) (fun k t => t.modInst k (fun i => { i with defLog := i.defLog.add { seq := 0, time := t.rtc, nsid := nsid, gen := t.gen k, event := evUnnamed 3 cause, slba := u * b, nlb := b, cause := cause, epoch := epoch } t.now }))

/-- A unit's map entry becomes 0xFF_FFFF_FFFE (R182). -/
def State.markUnit (nsid u : Nat) (s : State) : State := s.setUnit nsid u (.set nsid u 1 .uncorrectable)

/-- A T3 record is damaged beyond the decode ladder: its line has lost its content (R246). Every unit of the line is marked, and each that was
mapped has a deferred error; the manual gives this case no CAUSE (DESIGN CHOICE, log entry 103). -/
def State.loseLine (nsid line : Nat) (s : State) : State :=
  match s.ns nsid with
  | none => s
  | some v =>
    let n := min 64 (v.units - 64 * line)
    let us := (List.range n).map (fun i => 64 * line + i)
    let mapped := us.filter (fun u => match s.mapAt nsid u with
      | .mun _ => true
      | _ => false)
    if n = 0 then s
    else (s.setRun nsid (64 * line) n [line] .uncorrectable).each mapped (fun u t => t.deferError nsid u 4 0)

/-- The unit a codeword slot holds, while the map still names it there. -/
def State.unitOf (s : State) (mun : Nat) : Option (Nat × Nat) :=
  let c := s.codeword mun
  if c.kind == 1 && s.mapAt c.nsid c.unit == .mun (mun - c.sub) then some (c.nsid, c.unit) else none

/-! ## What a member program carries (09, R292 to R294) -/

/-- A codeword's 4,096 B of data as stored: ciphertext where its namespace is encrypted (R234, R292). -/
def Codeword.stored (w : Codeword) : List Byte :=
  let d := w.data.flatten ++ List.replicate (4096 - w.data.flatten.length) 0
  match w.keyed with
  | some k => Config.xts (w.nsid - 1) k w.unit w.sub d
  | none => d
/-- Bytes of a layout's field list in a buffer of zeroes. -/
def Layout.bytes (l : Layout) : List Byte :=
  leBytes l.size (l.fields.foldl (fun n f => n + f.val % 2 ^ f.width * 2 ^ (8 * f.off + f.lsb)) 0)
/-- Bytes 0x0 to 0xB of the in-band metadata. -/
def Codeword.head (w : Codeword) : List Byte :=
  leBytes 8 ((w.nsid - 1) + w.unit % 2 ^ 40 * 2 ^ 12 + w.sub % 16 * 2 ^ 52 + w.kind % 16 * 2 ^ 56) ++ leBytes 4 (w.epoch % 2 ^ 32)
/-- Bytes 0 to 4,111 of a data codeword: the data as stored, and the metadata with its CRC over both (R292). -/
def Codeword.bytes (w : Codeword) : List Byte :=
  let d := if w.kind = 2 then (slotLayout w.recs).bytes else w.stored
  d ++ w.head ++ leBytes 4 (crc32c (d ++ w.head)).toNat
/-- A codeword with its LDPC parity, as it leaves for its pod. -/
def withParity (bs : List Byte) : List Byte := bs ++ Config.ldpcParity bs

/-- The data codewords the accumulators of a slot have taken: data member and bytes (R294). -/
def State.taken (s : State) (x : Stripe) (slot : Nat) : List (Nat × List Byte) :=
  (x.acc.filter (fun a => a.1 == slot)).map (fun a => (a.2, (s.codeword (s.munOf ⟨x.group, x.band, x.row, a.2, slot⟩)).bytes))
/-- The P accumulator of a slot: zero, and each codeword taken added to it (R293, R294). -/
def State.accP (s : State) (x : Stripe) (slot : Nat) : List Byte :=
  (s.taken x slot).foldl (fun acc d => List.zipWith (fun a b => a ^^^ b) acc d.2) (List.replicate 4112 0)
/-- The Q accumulator: each codeword is weighted by g to its data member's number. -/
def State.accQ (s : State) (x : Stripe) (slot : Nat) : List Byte :=
  (s.taken x slot).foldl (fun acc d => List.zipWith (fun a b => a ^^^ gmul (gpow d.1) b) acc d.2) (List.replicate 4112 0)

/-! ## Member programs and complete stripes -/

/-- Media unit numbers of the slots of a data member's row in a stripe. -/
def State.rowMuns (s : State) (x : Stripe) (m : Nat) : List Nat :=
  (List.range (s.vmun x.group).slotsPerRow).map (fun a => s.munOf ⟨x.group, x.band, x.row, m, a⟩)

/-- The data member at a physical position, where it is not P or Q. -/
def State.memberAt (s : State) (b pos : Nat) : Option Nat :=
  (List.range s.dataMembers).find? (fun m => s.position b m == pos)

/-- The codewords a member program of a stripe carries, slot by slot: its own, or P's or Q's; filler is zeroes (R293, R295). -/
def State.rowBytes (s : State) (x : Stripe) (pos : Nat) : List (List Byte) :=
  (List.range (s.vmun x.group).slotsPerRow).map (fun a => withParity
    (match s.memberAt x.band pos with
     | some m => if x.acc.contains (a, m) then (s.codeword (s.munOf ⟨x.group, x.band, x.row, m, a⟩)).bytes else List.replicate 4112 0
     | none => if s.position x.band (s.width - 2) = pos then s.accP x a else s.accQ x a))

/-- A unit is placed in its stream of its group, or of the next group that has a band for it (R188). -/
def State.placeAnywhere (g : Nat) (st : Stream) (k : Nat) (cws : List Codeword) (s : State) : Option Nat × State :=
  ((List.range s.groupCount).map (fun i => (g + i) % s.groupCount)).foldl (fun (a : Option Nat × State) g => match a.1 with
    | some _ => a
    | none => a.2.placeUnit g st k false cws) (none, s)

/-- Every valid unit of a failed member program is placed again in the same stream, with a map record for each, and units of
writes not yet acknowledged get a new slot (R312, R188). -/
def State.replaceRow (x : Stripe) (m : Nat) (s : State) : State :=
  let s := s.modCache (fun c => { c with replaced := min (c.replaced + 1) 65535 })
  -- lines whose checkpoint record was in the row are to be written to T3 again
  let s := s.each (s.rowMuns x m) (fun mun t =>
    if (t.codeword mun).kind ≠ 2 then t
    else (t.live.dir.filter (fun (e : Nat × DirEntry) => e.2.mun == mun)).foldl (fun t e =>
      t.modLine (e.1 / 2 ^ 40) (e.1 % 2 ^ 40) (fun l => { l with dirty := true, changed := if l.dirty then l.changed else t.jrn.openEpoch })) t)
  let firsts := (s.rowMuns x m).filter (fun mun => (s.codeword mun).sub == 0 && (s.codeword mun).kind == 1)
  s.each firsts (fun mun t =>
    let c := t.codeword mun
    let k := match t.ns c.nsid with
      | some n => n.spec.unit / 4096
      | none => 1
    let cws := (List.range k).map (fun j => t.codeword (mun + j))
    let waiting := t.ctxs.any (fun d => d.placed.any (fun p => p.mun == mun))
    if (t.unitOf mun).isSome || waiting then
      match t.placeAnywhere x.group x.stream k cws with
      | (some new, t) =>
        let t := t.modCache (fun c => { c with stripes := c.stripes.map (fun y => if y.group == x.group && y.band == x.band && y.row == x.row then { y with redo := y.redo ++ [new] } else y) })
        let t := if (t.unitOf mun).isSome then t.setUnit c.nsid c.unit (.map c.nsid c.unit new) else t
        { t with ctxs := t.ctxs.map (fun d => { d with placed := d.placed.map (fun p => if p.mun == mun then { p with mun := new } else p) }) }
      | (none, t) =>
        -- no band can take the data: Write Fault, or a deferred error where it was acknowledged (R188)
        if (t.unitOf mun).isSome then (t.deferError c.nsid c.unit 1 0).markUnit c.nsid c.unit else
        let ids := (t.ctxs.filter (fun d => d.placed.any (fun p => p.mun == mun))).map (·.id)
        t.each ids (fun id t => t.complete id stWriteFault 0)
    else t)

/-- A stripe is complete: its mark is logged, the last row's record closes the band, its region is freed (R295, R310). -/
def State.retireStripe (x : Stripe) (s : State) : State :=
  let v := s.vmun x.group
  let s := s.modCache (fun c => { c with stripes := c.stripes.filter (fun y => !(y.group == x.group && y.band == x.band && y.row == x.row)) })
  let k := bandKey x.group x.band
  let last := s.cache.closing.contains k && !s.cache.stripes.any (fun y => y.group == x.group && y.band == x.band)
  let s := if (s.band x.group x.band).state == .opened then
      (if x.row + 1 = v.rowsPerBand || last then s.logBand x.group x.band (.full (x.row + 1) ((s.group x.group).clock / 1000) s.rtc)
       else s.logBand x.group x.band (.rows (x.row + 1)))
    else s
  let s := if last then s.modCache (fun c => { c with closing := c.closing.filter (fun y => !(y == k)) }) else s
  let s := s.each ((List.range v.dataMembers).flatMap (s.rowMuns x)) (fun mun t =>
    match t.cw.find mun with
    | some c => t.setCodeword mun { c with programmed := true, order := t.cache.progs + 1 }
    | none => t)
  let s := s.modCache (fun c => { c with progs := c.progs + 1 })
  s.modHealth (fun h =>
    let n := 4096 * v.dataMembers * v.slotsPerRow
    { h with mediaBytes := h.mediaBytes + n, gcBytes := match x.stream with
      | .gc _ => h.gcBytes + n
      | _ => h.gcBytes })

/-- All member programs of a stripe have ended. -/
def Stripe.ended (w : Nat) (x : Stripe) : Bool :=
  (List.range w).all (fun p => x.members.get .filling p == .done || x.members.get .filling p == .failed)

/-- Stripes whose programs have ended retire in the row order of their band; one with a failed member waits for the stripes that
took its units (R310). -/
def State.settlePass (s : State) : State :=
  s.cache.stripes.foldl (fun t x =>
    if Stripe.ended s.width x && !x.redo.any t.inStripe && !t.cache.stripes.any (fun y => y.group == x.group && y.band == x.band && decide (y.row < x.row))
    then t.retireStripe x else t) s
def State.settleStripes (s : State) : State := s.settlePass.settlePass

/-- A band closes early: at once, or with the last of its stripes under way, which are filled (R359). -/
def State.closeEarly (g b : Nat) (s : State) : State :=
  if (s.band g b).state != .opened then s
  else if s.cache.stripes.any (fun y => y.group == g && y.band == b) then
    let s := s.modCache (fun c => { c with closing := if c.closing.contains (bandKey g b) then c.closing else bandKey g b :: c.closing })
    s.each (List.range s.cache.stripes.length) (fun i t =>
      match t.stripe i with
      | some y => if y.group == g && y.band == b then t.closeStripe i else t
      | none => t)
  else s.closeBand g b

/-- A member program of a stripe ends. A failed one leaves its units to be placed again; its band closes early and its block
is a retirement candidate unless the die or pod itself failed (R312, R359, R379, R398). -/
def State.programEnded (g b row pos : Nat) (ok dieGone : Bool) (s : State) : State :=
  match s.cache.stripes.findIdx? (fun x => x.group == g && x.band == b && x.row == row) with
  | none => s
  | some i =>
    match s.stripe i with
    | none => s
    | some x =>
      let s := s.modStripe i (fun y => { y with members := y.members.set pos (if ok then .done else .failed) })
      let s := if ok then s else
        let s := s.closeEarly g b
        let slot := s.slotAt g pos
        let s := if dieGone then s else s.modDie (dieKey slot (s.dieFor g b pos)) (fun d => { d with candidates := (b / 16) :: d.candidates })
        match s.memberAt b pos with
        | some m => s.replaceRow x m
        | none => s
      s.settleStripes

/-! ## Vault (R316, R317) -/

/-- Payload of a vault band in MiB: one page level of every row of its data members (R316). -/
def State.vaultBandMib (s : State) (g : Nat) : Nat := s.dataMembers * (s.vmun g).rowsPerBand * 16 / 256
def State.vaultBands (s : State) (g : Nat) : List Nat := (s.bandsOf g).filter (fun b => (s.band g b).state == .vault)
/-- A vault band is armed when it is erased and its group has lost at most one member. -/
def State.isArmed (s : State) (g b : Nat) : Bool := (s.band g b).state == .vault && !(s.band g b).intent && s.cache.armed.contains (bandKey g b) && decide (s.lostOf g ≤ 1)
def State.armedMib (s : State) : Nat :=
  s.groupList.foldl (fun n g => n + ((s.vaultBands g).filter (s.isArmed g)).length * s.vaultBandMib g) 0
/-- SQ_PCACHE_STATUS.VAULT_GROUPS. -/
def State.vaultGroups (s : State) : Nat :=
  min 15 ((s.groupList.filter (fun g => !(s.vaultBands g).isEmpty && (s.vaultBands g).all (s.isArmed g))).length)

/-! ## Admission to a group (R297, R361, R362, R384) -/

/-- The member row's slots a group's credit must reach. -/
def State.creditHeld (s : State) (g : Nat) : Bool :=
  (s.group g).pressed && decide ((s.group g).credit < (s.group g).debt + (s.vmun g).slotsPerRow)

/-- Host writes pass over a group: its floors hold it, it is write-closed, a member is lost without substitute, or its vault is not armed. -/
def State.groupHeld (s : State) (g : Nat) : Bool :=
  s.creditHeld g || (s.group g).closed || s.live.lostMem.any (fun x => x.1 == g) || !(s.vaultBands g).all (s.isArmed g)

/-- A group enters the credit regime at 3 FREE bands and leaves it at 4 (R362). -/
def State.reviewCredit (g : Nat) (s : State) : State :=
  let n := s.freeCount g
  if n ≤ 3 then (if (s.group g).pressed then s else s.modGroup g (fun x => { x with pressed := true, credit := 0, debt := 0 }))
  else if (s.group g).pressed then s.modGroup g (fun x => { x with pressed := false, credit := 0, debt := 0 }) else s

/-! ## Where mirrored records lie (R319) -/

/-- Groups that may hold a copy: fewer than two members lost, and a system band (R319). -/
def State.copyGroups (s : State) : List Nat :=
  s.groupList.filter (fun g => decide (s.lostOf g < 2) && (s.bandsOf g).any (fun b => (s.band g b).state == .system))
/-- The first group from `a` on, in ascending order round the list, that qualifies and is not `other`. -/
def State.copyFrom (s : State) (a : Nat) (other : Option Nat) : Option Nat :=
  ((List.range s.groupCount).map (fun i => (a + i) % s.groupCount)).find? (fun g => s.copyGroups.contains g && !(other == some g))
/-- Groups of the two copies of an epoch: both the same where only one qualifies. -/
def State.copyPlaces (s : State) (e : Nat) : Option (Nat × Nat) :=
  let n := s.groupCount
  match s.copyFrom (e % n) none with
  | none => none
  | some a =>
    match s.copyFrom ((e % n + (n + 1) / 2) % n) (some a) with
    | some b => some (a, b)
    | none => some (a, a)

/-- A firmware bank's bundle. -/
def State.fwBank (s : State) (b : Nat) : FwBank := s.flash.fw.get { version := Config.factoryFw b } b
/-- Format sets in which the checkpoint root, the format record, the key table and the settings areas are written: on a trial of a bundle of another
format set, both (R609). Every other structure is written in the first of them. -/
def State.writtenFormats (s : State) : List Nat :=
  let n := (s.fwBank s.keep.trialBank).formatWrite
  if (s.keep.stage = 3 ∨ s.keep.stage = 4) ∧ n ≠ s.flash.formatSet then [s.flash.formatSet, n] else [s.flash.formatSet]

end Sys2Proof.Machine
end

