-- ==== Sys2Proof/Machine/StopOps.lean ====
section
/-! DEFINITION. The stop shell's operations: holders and bindings, feeding tenant logic, ending its commands, violations and fences (14). -/
namespace Sys2Proof.Machine

/-- The instance whose STOP_MASK includes a stop (R461). -/
def State.holder (s : State) (n : Nat) : Option Nat :=
  (s.live.insts.find? (fun e => e.2.live && e.2.share.stopMask.getLsbD n)).map (·.1)
def State.binding (s : State) (n : Nat) : Binding := s.live.bindings.get {} n

/-- Stop numbers. -/
def stopNos : List Nat := List.range 16
/-- Whether a binding mode transforms reads, or writes. -/
def xformDir (mode : Nat) (write : Bool) : Bool := mode == 3 || mode == (if write then 2 else 1)
/-- The stop bound to a namespace in a direction (R473). -/
def State.xform (s : State) (nsid : Nat) (write : Bool) : Option Nat :=
  stopNos.find? (fun n => (s.binding n).nsid == nsid && xformDir (s.binding n).mode write && (s.binding n).mode != 0)
/-- A free-running stop is bound (R111). -/
def State.freeRunning (s : State) : Bool := stopNos.any (fun n => (s.stop n).state == 3 && (s.binding n).mode == 5)

/-- Largest frame payload of the shell version presented (R464). -/
def State.maxPayload (s : State) : Nat := if 0x0302 ≤ s.image.shell then 65536 else 16384

/-- The stop's tenant logic receives frames: bound or loaded, no epoch, no reset hold, no fence (R465, R466). -/
def State.stopOpen (s : State) (n : Nat) : Bool :=
  ((s.stop n).state == 3 || (s.stop n).state == 2) && (s.stop n).epoch.isNone && !(s.stop n).resetHold
/-- FENCE is 1: what tenant logic sends is discarded (R466). -/
def State.stopFence (s : State) (n : Nat) : Bool :=
  (s.stop n).state == 4 || (match (s.stop n).epoch with
    | some e => e.drained
    | none => false)
/-- TL_RST_N is 0 (R465). -/
def State.stopReset (s : State) (n : Nat) : Bool :=
  (s.stop n).resetHold || (match (s.stop n).epoch with
    | some e => e.drained
    | none => false)

/-- A command's active stop entry. -/
def Stop.cmd (x : Stop) (tag : Nat) : Option StopCmd := x.cmds.find? (fun c => c.tag == tag)
def State.modStopCmd (n tag : Nat) (f : StopCmd → StopCmd) (s : State) : State :=
  s.modStop n (fun x => { x with cmds := x.cmds.map (fun c => if c.tag == tag then f c else c) })

/-- Whether a TAG is free: no active command holds it, and 10 ms have passed since its command ended (R470). -/
def Stop.tagFree (x : Stop) (now tag : Nat) : Bool :=
  !x.cmds.any (fun c => c.tag == tag) && !x.freeTags.any (fun e => e.1 == tag && decide (now < e.2 + 10000))

/-- The blocks of a command's DATA_IN frames: first block and number of blocks of each (R469). A transform frame keeps to mapping units. -/
def cutFrames (fuel lba left per most : Nat) (byUnit : Bool) : List (Nat × Nat) :=
  match fuel with
  | 0 => []
  | f + 1 =>
    if left = 0 then []
    else
      let n := min left (if byUnit then (if per ≤ most then most / per * per - lba % per else min most (per - lba % per)) else most)
      (lba, n) :: cutFrames f (lba + n) (left - n) per most byUnit

/-- A command's data is streamed to the stop: it takes a TAG and its DATA_IN frames leave in SEQ order (R469, R470). -/
def State.feedStop (n id kind slba : Nat) (arg : W64) (s : State) : State :=
  match s.ctx id with
  | none => s
  | some c =>
    let x := s.stop n
    let sp := match s.ns c.sqe.nsid with
      | some v => v.spec
      | none => {}
    let tag := ((List.range 65536).map (fun i => (x.nextTag + i) % 65536)).find? (x.tagFree s.now)
    match tag with
    | none => s
    | some tag =>
      let cuts := cutFrames c.data.length slba c.data.length sp.perUnit (s.maxPayload / sp.lba) (kind ≤ 2)
      let gen := if 0x0302 ≤ s.image.shell then c.gen.toNat else 0
      let s := s.modStop n (fun x => { x with
        nextTag := (tag + 1) % 65536
        gone := x.gone.filter (fun g => !(g == tag))
        cmds := x.cmds ++ [{ tag := tag, ctx := id, kind := kind, framesOut := cuts.length, total := cuts.length,
                             lens := cuts.mapIdx (fun i q => (i, q.1, q.2 * sp.lba)) }] })
      let s := s.modCtx id (fun c => { c with phase := .stop, stopTag := tag, stopNo := n })
      s.each (List.range cuts.length) (fun i t =>
        match cuts[i]? with
        | none => t
        | some q => t.emit (.toStop n { typ := 1, kind := kind, last := i + 1 == cuts.length, tag := tag, seq := i, gen := gen, length := q.2 * sp.lba, nsid := c.sqe.nsid, lba := q.1, arg := arg, shift := if sp.flbas = 0 then 9 else 12, payload := (c.data.drop (q.1 - slba)).take q.2 }))

/-- A command no longer runs on its stop: its TAG rests for 10 ms (R470). -/
def State.endTag (n tag : Nat) (s : State) : State :=
  s.modStop n (fun x => { x with cmds := x.cmds.filter (fun c => !(c.tag == tag)), freeTags := (tag, s.now) :: x.freeTags.filter (fun e => decide (s.now < e.2 + 10000)) })

/-- The module ended a command: frames of its TAG are late returns from now on (R482). -/
def State.markGone (n tag : Nat) (s : State) : State := s.modStop n (fun x => { x with gone := tag :: x.gone })

/-- A context leaves its stop: an ABORT frame tells tenant logic (R482). -/
def State.leaveStop (id : Nat) (s : State) : State :=
  match s.ctx id with
  | none => s
  | some c =>
    if c.phase == .stop && c.stopNo < 16 then
      ((s.emit (.toStop c.stopNo { typ := 5, kind := 0, tag := c.stopTag })).endTag c.stopNo c.stopTag).markGone c.stopNo c.stopTag
    else s

/-- The four channels of a stop's data mover (14, Resources): DM(17q + 12 + k) for stop S(4q + k). -/
def stopMover (n : Nat) : Nat := 17 * (n / 4) + 12 + n % 4
def stopChans (n : Nat) : List Nat := (List.range 4).map (fun k => stopMover n * 4 + k)
/-- The stop a mover serves, if any. -/
def moverStop (m : Nat) : Option Nat := if 12 ≤ m % 17 ∧ m % 17 < 16 then some (4 * (m / 17) + (m % 17 - 12)) else none

/-- A channel halts (R523): ENABLE clears; the descriptor in flight ends after its burst, or, in an instance reset (cause 4), is
discarded as a late return with OWN still 1. -/
def State.haltChan (k cause : Nat) (s : State) : State :=
  s.updChan k (fun c =>
    if !c.enable && c.flight.isNone then c else
    let c := { c with enable := false, haltCause := cause, irq := c.irq ||| 8#4 }
    match c.flight with
    | none => c
    | some f =>
      if cause = 4 then { c with flight := none }
      else if f.busy then { c with flight := some { f with stopping := some cause } }
      else c.endDesc 2 0)

/-- The port a holder's instance number lies on. -/
def keyPort (k : Nat) : Nat := k / 128

/-- A command that needs a stop ends with Stop fenced (R476, R500). -/
def State.needsStop (n : Nat) (s : State) : List Nat :=
  (s.ctxs.filter (fun c => (c.phase == .stop || c.held) && c.stopNo == n)).map (·.id)

/-- Control reads outstanding return 0 (R131; DEDUCED, log entry 54). -/
def State.endReads (n : Nat) (s : State) : State :=
  let t := (s.stop n).ctlReads.foldl (fun (u : State) r => match r.2.2 with
    | some p => u.emit (.cpl p 0)
    | none => u.emit (.regValue (0x00400000 + 0x10000 * n + r.2.1) 0)) s
  t.modStop n (fun x => { x with ctlReads := [] })

/-- A stop is fenced (R500, R501). -/
def State.fenceStop (n cause : Nat) (s : State) : State :=
  let x := s.stop n
  if x.state == 4 then s else
  let ids := s.needsStop n
  -- inside a stop epoch the commands end and the epoch goes on (14, A stop meeting other work)
  if x.epoch.isSome then s.each ids (fun id t => ((t.leaveStop id).complete id stStopFenced 0)) else
  let s := (s.endReads n).modStop n (fun x => { x with state := 4, before := x.state, fenceCause := cause, fenceTime := s.rtc, fenceEpoch := (s.binding n).epoch })
  let s := s.each ids (fun id t => ((t.leaveStop id).complete id stStopFenced 0))
  let s := s.each (stopChans n) (fun k t => t.haltChan k 3)
  let s := s.report (24 + n) (evUnnamed 8 cause) n x.lastCode
  match s.holder n with
  | some k => s.postVendor (keyPort k) 0xE4
  | none => s

/-! ## Stop epochs (R490 to R498) -/

/-- The state a stop epoch releases its stop in (R492, R493, R497). -/
def State.epochBack (s : State) (n : Nat) : StopGoal → Nat
  | .unbind clear => if clear then 0 else 2
  | .bringUp => if (s.binding n).mode = 0 then 2 else 3
  | _ =>
    let x := s.stop n
    if x.state = 4 then x.before else if x.state = 3 then 3 else 2

/-- Step 1: the stop becomes LOADING and its drain is asked for. Inside another epoch the trigger waits for release (R105). -/
def State.startEpoch (n : Nat) (goal : StopGoal) (ctx : Option Nat) (s : State) : State :=
  let x := s.stop n
  if x.epoch.isSome then s.modStop n (fun x => { x with waiting := x.waiting ++ [(goal, ctx)] })
  else
    let img := if goal = .unbind true then none else s.store.find n
    let back := if img.isNone then 0 else s.epochBack n goal
    s.modStop n (fun x => { x with state := 1, drainAck := false, epoch := some { goal := goal, start := s.now, back := back, image := img, ctx := ctx } })

/-- A stop leaves its holder's STOP_MASK (R462): it is cleared first. -/
def State.clearStops (mask : BitVec 16) (ctx : Option Nat) (s : State) : State :=
  s.each (stopNos.filter mask.getLsbD) (fun n t => t.startEpoch n (.unbind true) ctx)

/-- A counted violation (R499). -/
def State.countViolation (n code : Nat) (s : State) : State :=
  s.modStop n (fun x => { x with window := x.window + 1, violTotal := sat64 (x.violTotal + 1), lastCode := code })

/-- A tenant-logic violation is counted; the limit fences the stop (R499, R500). `frame`: an ERROR frame answers it. -/
def State.stopViolation (n code : Nat) (frame : Bool) (s : State) : State :=
  if s.stopFence n || s.stopReset n then s else
  let s := s.countViolation n code
  let s := if frame then s.emit (.toStop n { typ := 4, code := code }) else s
  if s.image.faults.stopViolLimit ≤ (s.stop n).window && (s.stop n).epoch.isNone then s.fenceStop n 1 else s

end Sys2Proof.Machine
end

