-- ==== Sys2Proof/Machine/IoOps.lean ====
section
/-! DEFINITION. Reads, writes and flushes of the host once admitted: the overlap order, codeword reads and solves, commits, and how commands end early (05, 06, 09, 10). -/
namespace Sys2Proof.Machine

/-! ## Units and blocks -/

/-- First unit and number of units of a block range, rounded outward (R153). -/
def unitRange (sp : NsSpec) (slba nlb : Nat) : Nat × Nat :=
  (slba / sp.perUnit, (slba + nlb + sp.perUnit - 1) / sp.perUnit - slba / sp.perUnit)
/-- Codewords of a unit, and logical blocks of a codeword. -/
def unitCws (sp : NsSpec) : Nat := sp.unit / 4096
def cwBlocks (sp : NsSpec) : Nat := 4096 / sp.lba
/-- A block of zeroes. -/
def zeroBlock (sp : NsSpec) : List Byte := List.replicate sp.lba 0
/-- The units of a range of which the range covers only a part. -/
def partialUnits (sp : NsSpec) (slba nlb : Nat) : List Nat :=
  let r := unitRange sp slba nlb
  ((List.range r.2).map (fun i => r.1 + i)).filter (fun u =>
    decide (u * sp.perUnit < slba ∨ slba + nlb < (u + 1) * sp.perUnit))

/-- The map lines of a run of units. -/
def lineSpan (first count : Nat) : List Nat :=
  if count = 0 then [] else (List.range ((first + count - 1) / 64 + 1 - first / 64)).map (fun i => first / 64 + i)

/-- A namespace runs in write-through mode (R166). -/
def State.isWt (s : State) (sp : NsSpec) : Bool := sp.writeThrough || s.cache.wtAll

/-- The bellows is confirmed ready: charged, and E at least 24 J (R169, R308). -/
def State.bellowsReady (s : State) : Bool := s.pw.charged && decide (240 ≤ s.pw.energy)

/-- Media unit numbers of completed host writes of the covered namespaces that no die holds yet; a copy of what a die holds is none (R168). -/
def State.unprogrammed (s : State) (nss : List Nat) : List Nat :=
  s.live.map.filterMap (fun (e : Nat × MapVal) =>
    match e.2 with
    | .mun m => if nss.contains (e.1 / 2 ^ 40) && s.inStripe m && (s.codeword m).writer != 0 then some m else none
    | _ => none)
/-- The epoch whose seal makes every Set record of the covered namespaces durable; 0 where all are sealed (R163, R168). -/
def State.setsOwed (s : State) (nss : List Nat) : Nat :=
  if (s.jrn.sealing.getD [] ++ s.jrn.opened).any (fun r => match r with
    | .set n _ _ _ => nss.contains n
    | _ => false) then s.jrn.openEpoch else 0
/-- Namespaces a Flush of an instance covers (R168). -/
def State.flushCovers (s : State) (k nsid : Nat) : List Nat := if nsid = 0xFFFFFFFF then s.attachedNs k else [nsid]

/-- The blocks of a unit's current version; none where it is marked uncorrectable (R320, R182). -/
def State.unitBlocks (s : State) (sp : NsSpec) (nsid u : Nat) : Option (List (List Byte)) :=
  match s.mapAt nsid u with
  | .uncorrectable => none
  | .mun m => some ((List.range (unitCws sp)).flatMap (fun j => (s.codeword (m + j)).data))
  | _ => some (List.replicate sp.perUnit (zeroBlock sp))

/-- Blocks `bs`, from block `slba`, over the version of unit `u` (R164); an empty entry leaves the block as it was (R481). -/
def mergeUnit (sp : NsSpec) (old : List (List Byte)) (u slba : Nat) (bs : List (List Byte)) : List (List Byte) :=
  (List.range sp.perUnit).map (fun j =>
    let lba := u * sp.perUnit + j
    let b := if slba ≤ lba then (bs[lba - slba]?).getD [] else []
    if b.isEmpty then (old[j]?).getD (zeroBlock sp) else b)

/-- The block range a command writes: Write, Write Zeroes, and the destination of a Compute Copy (14). -/
def sqeDest (q : Sqe) : Nat × Nat :=
  if q.opcode = 0x84 then (q.cdw15.toNat * 2 ^ 32 + q.cdw14.toNat, q.cdw13.toNat % 65536 + 1) else (q.slba, q.nlb)

/-! ## The overlap table (R153 to R159) -/

def OvEntry.hits (e : OvEntry) (nsid u : Nat) : Bool := e.nsid == nsid && decide (e.first ≤ u ∧ u < e.first + e.count)

/-- A read fetched before a write has still to take the unit (R158). -/
def Ctx.wants (c : Ctx) (stamp nsid u : Nat) : Bool :=
  decide (c.stamp < stamp) && c.ov.any (fun e => e.cls == .read && e.hits nsid u) && !c.kept.any (fun x => x.1 == u) &&
    (c.phase == .admission || c.phase == .ready || (c.phase == .media && c.merge.contains u))
/-- Units of a range a read has an entry for. -/
def Ctx.readUnits (c : Ctx) (nsid first count : Nat) : List Nat :=
  c.ov.flatMap (fun e => if e.cls == .read && e.nsid == nsid then ((List.range e.count).map (fun i => e.first + i)).filter (fun u => decide (first ≤ u ∧ u < first + count)) else [])
/-- A write is about to change units: reads fetched before it keep the version they need (R156, R158). -/
def State.keepOld (stamp nsid first count : Nat) (s : State) : State :=
  { s with ctxs := s.ctxs.map (fun c =>
    { c with kept := c.kept ++ ((c.readUnits nsid first count).filter (c.wants stamp nsid)).map (fun u => (u, s.mapAt nsid u)) }) }

/-- An earlier write on this unit has neither committed nor ended; one that still waits for admission counts too (R148). -/
def State.blocked (s : State) (stamp nsid u : Nat) : Bool :=
  s.ctxs.any (fun d => decide (d.stamp < stamp) && d.ov.any (fun e => e.cls == .write && !e.committed && e.hits nsid u))

/-- Some unit of a range has an earlier write in flight. -/
def State.rangeBlocked (s : State) (stamp nsid first count : Nat) : Bool :=
  (List.range count).any (fun i => s.blocked stamp nsid (first + i))

/-! ## Codeword reads and solves (10, 12) -/

/-- The read operation of one slot of one member of a row. -/
def State.readOp (s : State) (x : Spot) (pos : Nat) (mun : Nat) (cls : OpClass) (owner : Owner) (stamp ladder : Nat) : Op :=
  let slot := s.slotAt x.group pos
  let die := s.dieFor x.group x.band pos
  { id := 0, link := slot, die := die, cls := cls, kind := .read mun (x.slot / 4 % 4) (x.slot / 16) (x.slot % 4), group := x.group,
    band := x.band, row := x.row, block := s.physBlock slot die (x.band / 16), owner := owner, stamp := stamp, ladder := ladder }

/-- A member position of a band cannot be read: absent, or lost without substitute (R394). -/
def State.memberGone (s : State) (g b pos : Nat) : Bool :=
  (s.band g b).absent.contains pos || s.live.lostMem.contains (g, pos)

/-- The members read to solve a slot: the other data members and P, with Q in place of one unknown (R342). -/
def State.solveSet (s : State) (x : Spot) (unknown : List Nat) : List Nat :=
  let all := (List.range s.width).map (fun i => s.position x.band i)
  let ok := all.filter (fun p => !unknown.contains p)
  ok.take s.dataMembers

/-- A map codeword no decoding repairs (R246): the lines the directory still finds there lose their content. One that T1 holds is written to T3 again
instead, and one with a copy in T2 has it from there (DEDUCED, log entry 103). -/
def State.lostRecords (mun : Nat) (s : State) : State :=
  if (s.codeword mun).kind ≠ 2 then s else
  (s.live.dir.filter (fun (e : Nat × DirEntry) => e.2.mun == mun)).foldl (fun t (e : Nat × DirEntry) =>
    let nsid := e.1 / 2 ^ 40
    let ln := e.1 % 2 ^ 40
    if (t.line nsid ln).inT1 then t.modLine nsid ln (fun l => { l with dirty := true, changed := if l.dirty then l.changed else t.jrn.openEpoch })
    else if ((t.t2Set nsid ln).bind (fun set => t.t2Way set nsid ln)).isSome then t
    else t.loseLine nsid ln) s

/-- A codeword lost after the ladder's last step (R344): the unit is marked; a command completes with Unrecovered Read Error, a drone records a deferred error. -/
def State.ladderFail (mun : Nat) (owner : Owner) (cause : Nat) (s : State) : State :=
  let s := match s.locate mun with
    | some x =>
      let pos := s.position x.band x.member
      let l := s.slotAt x.group pos
      (s.modChanter l (fun c => { c with ladder6 := sat64 (c.ladder6 + 1) })).modDie (dieKey l (s.dieFor x.group x.band pos)) (fun d =>
        { d with ladder := d.ladder.mapIdx (fun i n => if i = 4 then min 0xFFFFFFFF (n + 1) else n) })
    | none => s
  let s := (s.modHealth (fun h => { h with integrity := h.integrity + 1 })).report (srcFirmware 0) (evUnnamed 6 1) mun 0
  let s := match s.unitOf mun with
    | some (nsid, u) =>
      let s := s.markUnit nsid u
      (match owner with
       | .ctx _ _ _ => s
       | .merge _ _ _ => s
       | _ => s.deferError nsid u cause 0)
    | none => s.lostRecords mun
  match owner with
  | .ctx id _ _ => (s.leaveStop id).complete id stUnrecovered 0
  | .merge id _ _ => s.complete id stUnrecovered 0
  | _ => s

/-- Step 5 of one member: eight shifted reads, then the 3-bit soft read (R343). -/
def State.deepOp (s : State) (x : Spot) (pos mun : Nat) (cls : OpClass) (stamp : Nat) : Op :=
  { s.readOp x pos mun cls (.member mun false) stamp 5 with sweep := 8 }

/-- A codeword is solved from its row: the members known are read; with more than two unknown nothing can be solved (R342, R414, R415). -/
def State.startSolve (mun : Nat) (owner : Owner) (around : Bool) (stamp : Nat) (cls : OpClass) (s : State) : State :=
  match s.locate mun with
  | none => s
  | some x =>
    let target := s.position x.band x.member
    let unknown := target :: (((List.range s.width).filter (fun p => s.memberGone x.group x.band p)).filter (fun p => !(p == target)))
    if 2 < unknown.length then
      -- only the target itself can still be recovered, by step 5 (R342, R343)
      if s.memberGone x.group x.band target then s.ladderFail mun owner 4
      else
        let s := { s with solves := s.solves ++ [({ mun := mun, owner := owner, ladder := 5, around := false, stamp := stamp, need := [target], known := [], unknown := unknown } : Solve)] }
        s.addOp (s.deepOp x target mun cls stamp)
    else
      let need := s.solveSet x unknown
      let s := { s with solves := s.solves ++ [({ mun := mun, owner := owner, ladder := 4, around := around, stamp := stamp, need := need, known := [], unknown := unknown } : Solve)] }
      s.each need (fun p t => t.addOp (t.readOp x p mun cls (.member mun around) stamp 1))

/-- A codeword is read: its member's read, or a solve where the member is gone (R339). -/
def State.queueRead (mun : Nat) (owner : Owner) (stamp : Nat) (cls : OpClass) (s : State) : State :=
  match s.locate mun with
  | none => s
  | some x =>
    let pos := s.position x.band x.member
    let suspect := (s.die (dieKey (s.slotAt x.group pos) (s.dieFor x.group x.band pos))).health == .suspect
    -- a host read that arrives while its die is suspect goes to step 4 (R395)
    if s.memberGone x.group x.band pos || (suspect && cls == .host) then s.startSolve mun owner false stamp cls
    else s.addOp (s.readOp x pos mun cls owner stamp 1)

/-! ## Serving reads -/

/-- A block list with blocks put in at an index. -/
def putBlocks (at_ : Nat) (bs data : List (List Byte)) : List (List Byte) :=
  data.mapIdx (fun i b => if at_ ≤ i ∧ i < at_ + bs.length then (bs[i - at_]?).getD b else b)

/-- Blocks of unit `u`, from its block 0, put into a read's data. -/
def Ctx.putUnit (c : Ctx) (sp : NsSpec) (slba u j : Nat) (bs : List (List Byte)) : Ctx :=
  let lba := u * sp.perUnit + j * cwBlocks sp
  if slba ≤ lba then { c with data := putBlocks (lba - slba) bs c.data }
  else { c with data := putBlocks 0 (bs.drop (slba - lba)) c.data }

/-- Whether a read's range names a block of the codeword `j` of unit `u` (R322). -/
def namesCw (sp : NsSpec) (slba nlb u j : Nat) : Bool :=
  let lba := u * sp.perUnit + j * cwBlocks sp
  decide (slba < lba + cwBlocks sp ∧ lba < slba + nlb)

/-- Every block of a read has been taken: it completes, or its data goes through the read transform or to the stop it names. -/
def State.finishRead (id : Nat) (s : State) : State :=
  match s.ctx id with
  | none => s
  | some c =>
    if !c.merge.isEmpty || !c.need.isEmpty || c.phase != .media then s
    else if c.sqe.opcode == 0x02 then
      match (if c.mover.isSome then none else s.xform c.sqe.nsid false) with
      | some n =>
        if s.stopOpen n then s.feedStop n id 1 c.sqe.slba 0
        else if (s.stop n).state == 4 then s.complete id stStopFenced 0
        else s.modCtx id (fun c => { c with held := true, stopNo := n })
      | none =>
        let s := if c.mover.isSome || c.gen != s.gen c.key then s else s.toTenant c (.blocks c.port c.inst c.sqe.cid c.data (s.dmaOf c.key))
        s.complete id .success 0
    else if c.sqe.opcode == 0x0C then s.complete id .success 0
    else if c.sqe.opcode == 0x82 || c.sqe.opcode == 0x84 then
      let arg : W64 := if c.sqe.opcode == 0x82 then (c.sqe.cdw15 ++ c.sqe.cdw14) else (c.sqe.cdw3 ++ c.sqe.cdw2)
      let n := bits c.sqe.cdw12 19 16
      if s.stopOpen n then s.feedStop n id (if c.sqe.opcode == 0x82 then 3 else 4) c.sqe.slba arg
      else if (s.stop n).state == 4 || (s.stop n).state == 0 then s.complete id stStopFenced 0
      else s.modCtx id (fun c => { c with held := true, stopNo := n })
    else s

/-- One unit of a read is taken from the first source that applies (R320), once no earlier write on it is in flight (R157); where a later write has
changed it, in the version kept (R158). -/
def State.serveUnit (id u : Nat) (s : State) : State :=
  match s.ctx id with
  | none => s
  | some c =>
    match s.ns c.sqe.nsid with
    | none => s
    | some v =>
      let sp := v.spec
      if s.blocked c.stamp c.sqe.nsid u || !c.merge.contains u then s else
      let old := c.kept.find? (fun x => x.1 == u)
      let r := if old.isSome then (true, s) else s.lookup c.sqe.nsid (u / 64) id
      let s := r.2
      if !r.1 then s else
      let done := fun (c : Ctx) => { c with merge := c.merge.filter (fun x => !(x == u)), kept := c.kept.filter (fun x => !(x.1 == u)) }
      match (old.map (fun x => x.2)).getD (s.mapAt c.sqe.nsid u) with
      | .uncorrectable => s.complete id stUnrecovered 0
      | .mun m =>
        let s := s.modCtx id done
        s.each ((List.range (unitCws sp)).filter (namesCw sp c.sqe.slba c.sqe.nlb u)) (fun j t =>
          if t.inStripe (m + j) || (old.isSome && !(t.codeword (m + j)).programmed) then
            t.modCtx id (fun c => { (c.putUnit sp c.sqe.slba u j (t.codeword (m + j)).data) with begun := true })
          else (t.modCtx id (fun c => { c with need := c.need ++ [⟨m + j, u, j⟩] })).queueRead (m + j) (.ctx id u j) c.stamp .host)
      | _ => s.modCtx id (fun c => done (c.putUnit sp c.sqe.slba u 0 (List.replicate sp.perUnit (zeroBlock sp))))

/-- Every unit a read still has to take is tried. -/
def State.serveRead (id : Nat) (s : State) : State :=
  match s.ctx id with
  | none => s
  | some c => (s.each c.merge (fun u t => t.serveUnit id u)).finishRead id

/-- An operation of a command is with a pod or a decoder, or a codeword of it is being solved. -/
def State.readsIssued (s : State) (id : Nat) : Bool :=
  s.ops.any (fun o => (o.tag.isSome || o.decoding) && (match o.owner with
    | .ctx i _ _ => i == id
    | .merge i _ _ => i == id
    | _ => false)) ||
  s.solves.any (fun v => match v.owner with
    | .ctx i _ _ => i == id
    | .merge i _ _ => i == id
    | _ => false)
/-- An ended command still has an operation in flight: a codeword, or frames of a TAG that rests (R470). -/
def State.inFlight (s : State) (e : Ended) : Bool :=
  s.readsIssued e.id || (s.stop e.stop).freeTags.any (fun x => x.1 == e.tag && decide (s.now < x.2 + 10000))
/-- Something returns for a command that has ended: discarded and counted (R214). -/
def State.lateReturn (id : Nat) (s : State) : State :=
  match s.ended.find? (fun e => e.id == id) with
  | some e => s.lateDiscard e.key 1
  | none => s

/-- A good codeword reaches whoever it was read for. -/
def State.deliver (mun : Nat) (owner : Owner) (s : State) : State :=
  match owner with
  | .ctx id u j =>
    match s.ctx id with
    | none => s.lateReturn id
    | some c =>
      if c.gen ≠ s.gen c.key then s.lateDiscard c.key 1 else
      match s.ns c.sqe.nsid with
      | none => s
      | some v =>
        (s.modCtx id (fun c => { (c.putUnit v.spec c.sqe.slba u j (s.codeword mun).data) with need := c.need.filter (fun n => !(n.mun == mun)), begun := true })).finishRead id
  | _ => s

/-! ## Commits (R156 to R165, R258, R271, R305) -/

/-- 64 MiB segments of the line directory, 8 B for each line (R250, R262). -/
def State.segCount (s : State) : Nat :=
  (8 * s.live.nss.foldl (fun n (e : Nat × Ns) => n + (e.2.units + 63) / 64) 0 + 64 * 2 ^ 20 - 1) / (64 * 2 ^ 20)
/-- Where the journal window starts: at the oldest sealed epoch that holds a map delta some line's checkpoint lacks, or at the epoch of the oldest
directory segment (R261, R262). -/
def State.windowStart (s : State) : Nat :=
  (List.range s.segCount).foldl (fun m i => min m (s.jrn.segs.get 0 i))
    (s.lines.foldl (fun m (e : Nat × Line) => if e.2.dirty then min m e.2.changed else m) (s.jrn.sealedEpoch + 1))
/-- What of a die's record is persisted with a checkpoint root. -/
def Die.stats (d : Die) : DieStats :=
  { hostReads := d.hostReads, otherReads := d.otherReads, programs := d.programs, erases := d.erases, bitsRead := d.bitsRead, bitsFixed := d.bitsFixed, ladder := d.ladder
    progFails := d.progFails, eraseFails := d.eraseFails, progSusp := d.progSusp, eraseSusp := d.eraseSusp, tempMaxK := d.tempMaxK, resets := d.resets }
/-- A checkpoint root is written, mirrored, in each format set of R609; the statistics are persisted with it (R319, R620). -/
def State.writeRoot (s : State) : State :=
  s.modJrn (fun j => { j with
    rootEpoch := j.sealedEpoch
    rootFormats := s.writtenFormats
    rootCopies := s.copyPlaces j.sealedEpoch
    stats := s.insts.map (fun (e : Nat × Inst) => (e.1, e.2.counters, e.2.histRead, e.2.histWrite))
    dieStats := s.dies.map (fun (e : Nat × Die) => (e.1, e.2.stats)) })
/-- The next directory segment of the rotation is rewritten, with the root that lists it (R262; when is a DESIGN CHOICE, log entry 104). -/
def State.rewriteSegment (s : State) : State :=
  if s.segCount = 0 then s else
  (s.modJrn (fun j => { j with
    segs := j.segs.set (j.segNext % s.segCount) j.sealedEpoch
    segNext := (j.segNext + 1) % s.segCount })).writeRoot
/-- Bytes of the journal window (R261). -/
def State.windowBytes (s : State) : Nat :=
  (s.jrn.counts.filter (fun e => decide (s.windowStart ≤ e.1))).foldl (fun n e => n + 24 * e.2) 0

/-- The journal window is below 16 GiB and the ring below 64 MiB: writes are acknowledged (R100, R261). -/
def State.mayAck (s : State) : Bool := !s.ringFull && decide (s.windowBytes < 16 * 2 ^ 30)

/-- The codewords of a unit's blocks. -/
def unitCodewords (sp : NsSpec) (nsid u : Nat) (keyed : Option Nat) (writer : Nat) (bs : List (List Byte)) : List Codeword :=
  (List.range (unitCws sp)).map (fun j => { data := (bs.drop (j * cwBlocks sp)).take (cwBlocks sp), nsid := nsid, unit := u, sub := j, kind := 1, keyed := keyed, writer := writer })

/-- The key a namespace's data is stored under: none, or the number of the key in its slot NSID − 1 (R234). -/
def State.keyOf (s : State) (v : Ns) : Option Nat := if v.spec.encrypt then some (s.part.keys.get {} (v.nsid - 1)).gen else none

/-- A placed unit's data goes to its slots (R292). -/
def State.fillUnit (v : Ns) (port : Nat) (p : Placed) (slba : Nat) (bs : List (List Byte)) (s : State) : State :=
  let old := (s.unitBlocks v.spec v.nsid p.unit).getD []
  let new := unitCodewords v.spec v.nsid p.unit (s.keyOf v) (port + 1) (mergeUnit v.spec old p.unit slba bs)
  s.each (List.range (unitCws v.spec)) (fun j t =>
    t.setCodeword (p.mun + j) { (new[j]?).getD {} with epoch := (t.codeword (p.mun + j)).epoch, programmed := (t.codeword (p.mun + j)).programmed })

/-- The units of a command that carry no data: set by a record (R243, R163). -/
def setValue (q : Sqe) : MapVal := if q.opcode == 0x09 || q.cdw12.getLsbD 25 then .unmapped else .zeroes

/-- Whole units of a range. -/
def wholeUnits (sp : NsSpec) (slba nlb : Nat) : Nat × Nat :=
  let a := (slba + sp.perUnit - 1) / sp.perUnit
  let b := (slba + nlb) / sp.perUnit
  (a, b - a)

/-- The change of a write is in the map: a record for each placed unit, a Set record for whole units without data. -/
def State.commitMap (c : Ctx) (v : Ns) (s : State) : State :=
  let s := c.placed.foldl (fun t p => (t.keepOld c.stamp v.nsid p.unit 1).setUnit v.nsid p.unit (.map v.nsid p.unit p.mun)) s
  if c.sqe.opcode == 0x08 then
    let w := wholeUnits v.spec c.sqe.slba c.sqe.nlb
    if w.2 = 0 then s
    else (s.keepOld c.stamp v.nsid w.1 w.2).setRun v.nsid w.1 w.2 (lineSpan w.1 w.2) (setValue c.sqe)
  else s

/-- A write's overlap entries are released (R159). -/
def Ctx.released (c : Ctx) : Ctx := { c with ov := c.ov.map (fun e => if e.cls == .write then { e with committed := true } else e) }

/-- Lines of a command's destination. -/
def destLines (sp : NsSpec) (q : Sqe) : List Nat :=
  let r := unitRange sp (sqeDest q).1 (sqeDest q).2
  lineSpan r.1 r.2

/-- What a write's completion says: Success, or for a Compute Copy its outcome. -/
def State.ackWrite (c : Ctx) (s : State) : State :=
  (s.modCtx c.id Ctx.released).complete c.id .success c.dw0

/-- The units a write is given slots for: every unit of a Write, the partly covered ones of a Write Zeroes, those a Compute Copy wrote (R243, R481). -/
def Ctx.destUnits (c : Ctx) (sp : NsSpec) : List Nat :=
  let d := sqeDest c.sqe
  let r := unitRange sp d.1 d.2
  let all := (List.range r.2).map (fun i => r.1 + i)
  if c.sqe.opcode = 0x01 then all
  else if c.sqe.opcode = 0x08 then partialUnits sp d.1 d.2
  else all.filter (fun u => (List.range sp.perUnit).any (fun j => decide (d.1 ≤ u * sp.perUnit + j) && !((c.data[u * sp.perUnit + j - d.1]?).getD []).isEmpty))

/-- Of them, the units the write covers only in part. -/
def Ctx.partUnits (c : Ctx) (sp : NsSpec) : List Nat :=
  let d := sqeDest c.sqe
  if c.sqe.opcode = 0x84 then
    (c.destUnits sp).filter (fun u => (List.range sp.perUnit).any (fun j => decide (u * sp.perUnit + j < d.1) || ((c.data[u * sp.perUnit + j - d.1]?).getD []).isEmpty))
  else partialUnits sp d.1 d.2

/-- Partly written units whose current version is settled and must come from the media, or is marked (R304). -/
def State.mergeDue (c : Ctx) (v : Ns) (s : State) : List Nat :=
  (c.partUnits v.spec).filter (fun u => !c.merged.contains u && !c.merge.contains u && !s.blocked c.stamp v.nsid u &&
    (match s.mapAt v.nsid u with
      | .mun m => (List.range (unitCws v.spec)).any (fun j => !s.inStripe (m + j))
      | .uncorrectable => true
      | _ => false))

/-- Their merge reads are queued; a marked unit ends the write with Unrecovered Read Error (R304). -/
def State.startMerges (c : Ctx) (v : Ns) (s : State) : State :=
  let us := s.mergeDue c v
  if us.any (fun u => s.mapAt v.nsid u == .uncorrectable) then s.complete c.id stUnrecovered 0
  else
    let s := s.modCtx c.id (fun c => { c with merge := c.merge ++ us })
    s.each us (fun u t =>
      match t.mapAt v.nsid u with
      | .mun m => t.each (List.range (unitCws v.spec)) (fun j t => t.queueRead (m + j) (.merge c.id u j) c.stamp .host)
      | _ => t)

/-- A Write Zeroes in write-through mode: its records wait for their seal; until its completion it holds its overlap entry and can be undone
(R157, R163, R174). -/
def State.sealWrite (c : Ctx) (v : Ns) (s : State) : State :=
  let r := unitRange v.spec c.sqe.slba c.sqe.nlb
  let old := (List.range r.2).map (fun i => (r.1 + i, s.mapAt v.nsid (r.1 + i)))
  (s.commitMap c v).modCtx c.id (fun c => { c with phase := s.sealPhase, undo := old })

/-- A write whose data is there goes on as far as it can: after earlier overlapping writes, with its lines in T0, acknowledged at
once or after its stripes (R159, R162, R163, R271). -/
def State.tryWrite (id : Nat) (s : State) : State :=
  match s.ctx id with
  | none => s
  | some c =>
    if !(c.phase == .order || c.phase == .program) || !c.merge.isEmpty then s else
    match s.ns c.sqe.nsid with
    | none => s
    | some v =>
      let r := unitRange v.spec (sqeDest c.sqe).1 (sqeDest c.sqe).2
      if s.rangeBlocked c.stamp v.nsid r.1 r.2 then s else
      if c.phase == .order && !(s.mergeDue c v).isEmpty then s.startMerges c v else
      -- the unit's current version is settled: the data goes to its slots
      let fill := fun (t : State) => c.placed.foldl (fun t p => t.fillUnit v c.port p (sqeDest c.sqe).1 c.data) t
      if c.phase == .order && c.wt && !c.placed.isEmpty then (fill s).modCtx id (fun c => { c with phase := .program })
      else if c.phase == .program && c.placed.any (fun p => (List.range (unitCws v.spec)).any (fun j => s.inStripe (p.mun + j))) then s
      else if !s.mayAck then s
      else
        -- an update of a line that T0 lacks fills it first (R271)
        let l := s.lookups v.nsid id (destLines v.spec c.sqe)
        if !l.1 then l.2 else
        let s := if c.phase == .order then fill l.2 else l.2
        if c.wt && c.sqe.opcode == 0x08 then s.sealWrite c v else (s.commitMap c v).ackWrite c

/-- A write's data is in the protected cache: its slots take it, as far as its units' versions stand, and it commits in its turn (R159, R294). -/
def State.arrive (id : Nat) (s : State) : State :=
  let s := s.modCtx id (fun c => { c with phase := .order, held := false })
  (match s.ctx id with
    | none => s
    | some c => (match s.ns c.sqe.nsid with
      | none => s
      | some v => c.placed.foldl (fun t p => t.fillUnit v c.port p (sqeDest c.sqe).1 c.data) s)).tryWrite id

/-- A write's data goes through the namespace's write transform, or straight to the protected cache (R478, R477). -/
def State.streamWrite (id : Nat) (s : State) : State :=
  match s.ctx id with
  | none => s
  | some c =>
    match (if c.mover.isSome then none else s.xform c.sqe.nsid true) with
    | some n =>
      if s.stopOpen n then s.feedStop n id 2 c.sqe.slba 0
      else if (s.stop n).state == 4 then s.complete id stStopFenced 0
      else s.modCtx id (fun c => { c with held := true, stopNo := n })
    | none => s.arrive id

/-- A Dataset Management deallocates range by range in list order, each as a write of its own (05, R243). -/
def State.tryDsm (id : Nat) (s : State) : State :=
  match s.ctx id with
  | none => s
  | some c =>
    match s.ns c.sqe.nsid, c.sqe.data with
    | some v, .ranges rs =>
      if c.phase != .order || rs.any (fun r => let u := unitRange v.spec r.slba r.nlb; s.rangeBlocked c.stamp v.nsid u.1 u.2) then s
      else if !s.mayAck then s
      else
        let lines := rs.flatMap (fun r => lineSpan (wholeUnits v.spec r.slba r.nlb).1 (wholeUnits v.spec r.slba r.nlb).2)
        let l := s.lookups v.nsid id lines
        let s := l.2
        if !l.1 then s else
        let s := rs.foldl (fun t r =>
          let w := wholeUnits v.spec r.slba r.nlb
          if w.2 = 0 then t
          else (t.keepOld c.stamp v.nsid w.1 w.2).setRun v.nsid w.1 w.2 (lineSpan w.1 w.2) .unmapped) s
        if c.wt then s.modCtx id (fun c => { c with phase := s.sealPhase })
        else (s.modCtx id Ctx.released).complete id .success 0
    | _, _ => s

/-- A journal epoch is sealed. -/
def State.isSealed (s : State) (e : Nat) : Bool := decide (e < s.jrn.openEpoch) && !(s.jrn.sealing.isSome && e + 1 == s.jrn.openEpoch)

/-- A Flush that waits for stripes, and for the seal of Set records, completes with the last of them (R168, R169). -/
def State.tryFlush (id : Nat) (s : State) : State :=
  match s.ctx id with
  | none => s
  | some c =>
    if c.phase == .program && !c.placed.any (fun p => s.inStripe p.mun) && (c.sealBy == 0 || s.isSealed c.sealBy) then s.complete id .success 0 else s

/-- Every command that waits on another, in fetch order: reads for writes, writes for earlier writes, stripes and lines. -/
def State.retry (s : State) : State :=
  s.each (s.ctxs.map (·.id)) (fun id t =>
    match t.ctx id with
    | none => t
    | some c =>
      if c.admin then t
      else if c.sqe.opcode == 0x00 then t.tryFlush id
      else if c.sqe.opcode == 0x09 then t.tryDsm id
      else if c.phase == .media then t.serveRead id
      else t.tryWrite id)

/-! ## Commands that end early -/

/-- Whether a command has not passed its caught point (R173). -/
def State.catchable (s : State) (c : Ctx) : Bool :=
  if c.admin || c.phase == .posted then false
  else if c.sqe.opcode == 0x02 || c.sqe.opcode == 0x0C then
    c.phase == .admission || c.phase == .ready || (c.phase == .media && !c.begun && !s.readsIssued c.id)
  else if c.sqe.opcode == 0x09 then c.phase == .admission || c.phase == .ready || c.phase == .order
  else if c.sqe.opcode == 0x82 || c.sqe.opcode == 0x84 then
    match (s.stop c.stopNo).cmd c.stopTag with
    | some x => !(c.phase == .stop) || x.startAt.isNone
    | none => c.phase == .admission || c.phase == .ready || c.phase == .media
  else match c.phase with
    | .seal _ => c.sqe.opcode == 0x08   -- its records are logged, and undone
    | _ => true

/-- Operations still queued for a command are withdrawn with it. -/
def State.dropOps (id : Nat) (s : State) : State :=
  { s with
    ops := s.ops.filter (fun o => o.tag.isSome || !(match o.owner with
      | .ctx i _ _ => i == id
      | .merge i _ _ => i == id
      | _ => false))
    cache := { s.cache with waiting := s.cache.waiting.filter (fun x => !(x == id)) } }

/-- Commands of an instance at admission, in fetch order. -/
def State.waitingAt (s : State) (k : Nat) : List Ctx := s.ctxs.filter (fun c => !c.admin && c.key == k && c.phase == .admission)
/-- Cost units a quadrant could admit in 1 ms: the sequencer's 80 M per second (R38, R211). -/
def quadUnitsPerMs : Nat := 80000
/-- A capped allowance never exceeds one interval's growth and the cost of the next waiting command (R211); counted in 1/2,048 units. -/
def State.capTop (s : State) (k : Nat) : Nat :=
  (s.dinst k).share.tokenCap * quadUnitsPerMs + (match s.waitingAt k with
    | c :: _ => c.cost * 2048
    | [] => 0)
def State.capTrim (k : Nat) (s : State) : State := s.modInst k (fun i => { i with allowance := min i.allowance (s.capTop k) })

/-- A unit's map entry takes a value again. -/
def State.resetUnit (nsid u : Nat) (v : MapVal) (s : State) : State :=
  s.setUnit nsid u (match v with
    | .mun m => .map nsid u m
    | x => .set nsid u 1 x)
/-- A Write Zeroes that waits for its seal has changed nothing (R174). -/
def State.undoWrite (id : Nat) (s : State) : State :=
  match s.ctx id with
  | none => s
  | some c => c.undo.foldl (fun t x => t.resetUnit c.sqe.nsid x.1 x.2) s
/-- A command ends with a status before its caught point. -/
def State.endCaught (id : Nat) (st : Status) (s : State) : State :=
  let k := (s.ctx id).elim 0 Ctx.key
  ((((s.undoWrite id).leaveStop id).dropOps id).complete id st 0).capTrim k

/-- Whole units a write without data sets, each with its value: of a Write Zeroes, or of the ranges of a deallocation (R243). -/
def setUnits (sp : NsSpec) (q : Sqe) : List Nat :=
  let of := fun (a n : Nat) => let w := wholeUnits sp a n; (List.range w.2).map (fun i => w.1 + i)
  if q.opcode = 0x08 then of q.slba q.nlb
  else if q.opcode = 0x09 then (match q.data with
    | .ranges rs => rs.flatMap (fun r => of r.slba r.nlb)
    | _ => [])
  else []

/-- A write ended by a reset or a loss of power takes effect or not, unit by unit (R165): each unit by a free choice, where no earlier write holds it
back and, of a unit with data, the data is there. Whole units of a Write Zeroes, of a Dataset Management and of a Compute Copy's destination are
taken the same way (DESIGN CHOICE, log entry 7). -/
def State.endWrite (c : Ctx) (s : State) : State :=
  match s.ns c.sqe.nsid with
  | none => s
  | some v =>
    if !c.sqe.writes || c.phase == .posted then s
    else if !c.undo.isEmpty then
      c.undo.foldl (fun t x => if Config.freeChoice t.free % 2 == 1 then t.drew else t.drew.resetUnit v.nsid x.1 x.2) s
    else
      let free := fun (t : State) (u : Nat) => Config.freeChoice t.free % 2 == 1 && !t.blocked c.stamp v.nsid u
      let ready := (c.phase == .order || c.phase == .program) && c.merge.isEmpty && !c.data.isEmpty
      let s := if !ready then s else c.placed.foldl (fun t p =>
        if free t p.unit then ((t.drew.fillUnit v c.port p (sqeDest c.sqe).1 c.data).keepOld c.stamp v.nsid p.unit 1).setUnit v.nsid p.unit (.map v.nsid p.unit p.mun) else t.drew) s
      match c.phase with
      | .seal _ => s
      | _ => (setUnits v.spec c.sqe).foldl (fun t u => if free t u then (t.drew.keepOld c.stamp v.nsid u 1).resetUnit v.nsid u (setValue c.sqe) else t.drew) s

/-- A command ends without a completion: the instance's generation has passed it by (R176, R216). What still returns for it is late (R214); the
descriptor of a mover it was carried out for is discarded with its channel (R217). -/
def State.endSilent (id : Nat) (s : State) : State :=
  match s.ctx id with
  | none => s
  | some c =>
    let s := if c.admin then s else s.endWrite c
    let s := if c.owes.isEmpty then s else s.modInst c.key (fun i => { i with defLog := i.defLog.unclaim c.owes })
    let e : Ended := { id := id, key := c.key, gen := c.gen, stop := if c.phase == .stop then c.stopNo else 16, tag := c.stopTag }
    let s := ((s.leaveStop id).dropOps id).dropCtx id
    (if c.admin then s else { s with ended := e :: s.ended.filter s.inFlight }).capTrim c.key

/-- The contexts of an instance's I/O commands; of them, those not yet completed. -/
def State.running_ (s : State) (k : Nat) : List Nat := (s.ctxs.filter (fun c => !c.admin && c.key == k && c.phase != .posted)).map (·.id)
def State.instCtxs (s : State) (k : Nat) : List Nat := (s.ctxs.filter (fun c => !c.admin && c.key == k)).map (·.id)

/-- An instance's commands are charged to its share: the oldest SLOT_MIN to its reservation, the others to the unreserved slots (R207, R222). -/
def State.recharge (k : Nat) (s : State) : State :=
  let own := (s.instCtxs k).take (s.dinst k).share.slotMin
  { s with ctxs := s.ctxs.map (fun c => if !c.admin && c.key == k then { c with reserved := own.contains c.id } else c) }

/-- The new share of a Change Share is applied (R221 step 3): the range of vectors moves, the instance epoch steps on, and the
command waits for the seal. -/
def State.applyChange (k : Nat) (s : State) : State :=
  match (s.inst k).change with
  | none => s
  | some ch =>
    let us := s.now - ch.start
    let s := s.clearStops ((s.dinst k).share.stopMask &&& ~~~ch.share.stopMask) (some ch.ctx)
    let s := s.logInst k (fun d => { d with share := ch.share, vecBase := ch.base, epoch := d.epoch + 1 })
    let s := s.modInst k (fun i => { i with change := none, lastDrainUs := us, state := if i.state == .draining then .active else i.state })
    ((s.modCtx ch.ctx (fun c => { c with phase := s.sealPhase, dw0 := BitVec.ofNat 32 (min 0xFFFF (us / 100) + (s.gen k).toNat * 65536) })).recharge k).capTrim k

/-- An instance is isolated at once (R193): fetch stops, commands not past their caught point complete with Instance fenced,
the port is told. An instance in a share-change drain then takes its share (R224). -/
def State.isolate (k cause : Nat) (s : State) : State :=
  let i := s.inst k
  if i.state == .isolated || i.state == .free then s else
  let s := s.modInst k (fun i => { i with state := .isolated, cause := cause })
  let ids := (s.ctxs.filter (fun c => !c.admin && c.key == k && s.catchable c)).map (·.id)
  let s := (s.each ids (fun id t => t.endCaught id stInstFenced)).applyChange k
  let s := s.modPort (keyPort k) (fun t => { t with newIso := t.newIso ||| BitVec.ofNat 128 (2 ^ (k % 128)) })
  let s := s.report (srcSequencer (keyPort k)) (evUnnamed 3 8) k cause
  (s.postVendor (keyPort k) 0xEA).retry

/-- A counted host protocol violation (R192, R193); the admin queue's never count. -/
def State.violation (k : Nat) (s : State) : State :=
  let s := s.modInst k (fun i => { i with violWindow := i.violWindow + 1, violTotal := i.violTotal + 1 })
  if s.image.faults.hostViolLimit ≤ (s.inst k).violWindow then s.isolate k 1 else s

/-- The four channels of a stop held by an instance reset halt, and their descriptors in flight are late returns (R217, R523). -/
def State.resetChans (k n : Nat) (s : State) : State :=
  s.each (stopChans n) (fun c t => (if (t.chan c).flight.isSome then t.lateDiscard k 1 else t).haltChan c 4)

/-- A stop held by an instance reset: drained and fenced for its duration, at once or after the stop's epoch (R217, R498). -/
def State.resetStops (k : Nat) (s : State) : State :=
  s.each (stopNos.filter (fun n => s.holder n == some k)) (fun n t =>
    if (t.stop n).epoch.isSome then t.modStop n (fun x => { x with resetHold := true })
    else t.resetChans k n)

/-- A generation value is still carried by an operation in flight of an instance (R215). -/
def State.genBusy (s : State) (k : Nat) (g : W16) : Bool :=
  s.ctxs.any (fun c => !c.admin && c.key == k && c.gen == g) || s.ended.any (fun e => e.key == k && e.gen == g && s.inFlight e)
/-- Operations that carry a value are discarded, each counted (R214, R215); only a controller reset meets any, since Reset, Destroy and Create
Instance wait for them (DESIGN CHOICE, log entry 99). -/
def State.discardGen (k : Nat) (g : W16) (s : State) : State :=
  let ids := (s.ctxs.filter (fun c => !c.admin && c.key == k && c.gen == g)).map (·.id)
  let s := s.each ids (fun id t => ((t.lateDiscard k 1).leaveStop id).dropCtx id)
  let es := s.ended.filter (fun e => e.key == k && e.gen == g && s.inFlight e)
  { s.lateDiscard k es.length with ended := s.ended.filter (fun e => !(e.key == k && e.gen == g)) }

/-- The local instance a data write of an I/O command belongs to. -/
def Out.tenant : Out → Option Nat
  | .blocks _ n _ _ _ => some n
  | .buffer _ n _ _ _ _ => some n
  | _ => none
/-- Entries, data and interrupts of an instance's I/O commands that have not left are discarded (R216 step 3); a vector the admin queue shares keeps
its pending message. -/
def State.dropWithheld (k : Nat) (s : State) : State :=
  let p := keyPort k
  let n := k % 128
  let io := fun (q : Nat) => !(n == 0 && q == 0)
  let pt := s.port p
  let i := s.inst k
  let es := ((pt.held.filter (fun e => e.1 == n && io e.2.1)).map (fun e => e.2.2)) ++ (i.cqs.filter (fun e => io e.1)).flatMap (fun e => e.2.held)
  let vs := ((i.cqs.filter (fun e => io e.1)).filterMap (fun e => e.2.vector.map (s.vectorOf k e.1))).filter (fun v => v != 0)
  let s := es.foldl (fun (t : State) e => (t.lateDiscard k 1).dropCtx e.ctx) s
  let s := s.modInst k (fun i => { i with cqs := i.cqs.map (fun (e : Nat × Cq) => (e.1, if io e.1 then { e.2 with held := [] } else e.2)) })
  s.modPort p (fun t => { t with
    held := t.held.filter (fun e => !(e.1 == n && io e.2.1))
    heldIrq := t.heldIrq.filter (fun e => !(e.2 == some n))
    heldOut := t.heldOut.filter (fun o => !(o.tenant == some n))
    msix := t.msix.map (fun (e : Nat × Msix) => (e.1, if vs.contains e.1 then { e.2 with pending := false } else e.2)) })

/-- Steps 1 to 4 of an instance reset (R216, R213, R215): the generation steps on, commands end, its queues are gone. Commands past
their caught point return later and are discarded. -/
def State.resetInst (k : Nat) (s : State) : State :=
  let g := s.gen k + 1
  let s := ((s.discardGen k g).logInst k (fun d => { d with gen := g, epoch := d.epoch + 1 })).applyChange k
  let ids := s.instCtxs k
  let s := s.each ids (fun id t =>
    match t.ctx id with
    | some c => if t.catchable c || c.phase == .stop || c.phase == .media then t.endSilent id else t.modCtx id (fun c => { c with ov := [] })
    | none => t)
  let s := (s.dropWithheld k).resetStops k
  (s.modInst k (fun i => { i with sqs := i.sqs.filter (fun e => e.1 == 0), cqs := i.cqs.filter (fun e => e.1 == 0), violWindow := 0, cause := 0, deficit := 0, allowance := 0, state := if i.state == .free then .free else .active })).retry

end Sys2Proof.Machine
end

