-- ==== Sys2Proof/Machine/Operands.lean ====
section
/-! DEFINITION. The fields of submission entries, the sequencer's parse of them, and a command's cost (05, 06). -/
namespace Sys2Proof.Machine

/-! ## Fields of the vendor admin commands -/

/-- LOCAL_INDEX of the instance commands. -/
def Ctx.localIndex (c : Ctx) : Nat := bits c.sqe.cdw10 7 0
/-- EXPECT_GEN and MATCH (06, 14). -/
def matchFails (w : W32) (g : W16) : Bool := w.getLsbD 16 && !(BitVec.ofNat 16 (bits w 15 0) == g)
/-- STOP of the stop commands. -/
def Ctx.stopIndex (c : Ctx) : Nat := bits c.sqe.cdw10 3 0

/-! ## Supported commands (R189) -/

def adminOpcodes : List Nat :=
  [0x00, 0x01, 0x02, 0x04, 0x05, 0x06, 0x08, 0x09, 0x0A, 0x0C, 0x0D, 0x10, 0x11, 0x14, 0x15, 0x19, 0x1A, 0x1D, 0x1E, 0x80,
   0xC1, 0xC2, 0xC4, 0xC5, 0xC8, 0xCB, 0xCD, 0xD0, 0xD1, 0xD4, 0xD5, 0xD8, 0xDC, 0xDF]
def ioOpcodes : List Nat := [0x00, 0x01, 0x02, 0x08, 0x09, 0x0C, 0x82, 0x84]
/-- The commands accepted while the media is fenced (R63, R190). -/
def fencedOpcodes : List Nat := [0x02, 0x06, 0x10, 0x11, 0x80, 0xD8]

/-- Log pages listed in R189. -/
def logPages : List Nat := [0x01, 0x02, 0x03, 0x05, 0x06, 0xE0, 0xE1, 0xE2, 0xE3, 0xE4, 0xE5, 0xE6, 0xE7, 0xE8, 0xE9, 0xEA]
/-- Features listed in R189. -/
def featureIds : List Nat := [0x01, 0x02, 0x04, 0x05, 0x07, 0x08, 0x09, 0x0A, 0x0B, 0x0C, 0x0E]
/-- Fields of CDW11 each listed feature reserves are 0 (NVMe's layout, DEDUCED, log entry 52). -/
def featureFieldsOk (fid : Nat) (w : W32) : Bool :=
  match fid with
  | 0x01 => bits w 7 3 == 0
  | 0x02 => bits w 31 8 == 0
  | 0x04 => bits w 31 22 == 0
  | 0x05 => bits w 31 17 == 0
  | 0x08 => bits w 31 16 == 0
  | 0x09 => bits w 31 17 == 0
  | 0x0A => bits w 31 1 == 0
  | 0x0C => bits w 31 1 == 0
  | _ => true
/-- Command dwords from CDW n to CDW15 are 0. -/
def zeroFrom (q : Sqe) (n : Nat) : Bool := ([q.cdw10, q.cdw11, q.cdw12, q.cdw13, q.cdw14, q.cdw15].drop (n - 10)).all (· == 0)
/-- The dwords that the command's table, or NVMe's layout of it, does not use are 0 (R18, R656, log entry 13). -/
def sqeUnusedOk (admin : Bool) (q : Sqe) : Bool :=
  let low := q.cdw2 == 0 && q.cdw3 == 0
  if admin then
    match q.opcode with
    | 0x00 => low && bits q.cdw10 31 16 == 0 && zeroFrom q 11
    | 0x01 => low && bits q.cdw11 15 3 == 0 && zeroFrom q 13
    | 0x02 => low && zeroFrom q 15
    | 0x04 => low && bits q.cdw10 31 16 == 0 && zeroFrom q 11
    | 0x05 => low && bits q.cdw11 15 2 == 0 && zeroFrom q 12
    | 0x06 => low && q.cdw12 == 0 && q.cdw13 == 0 && q.cdw15 == 0
    | 0x08 => low && zeroFrom q 12
    | 0x0C => low && zeroFrom q 10
    | 0x0D => low && bits q.cdw10 31 4 == 0 && bits q.cdw11 23 0 == 0 && zeroFrom q 12
    | 0x10 => low && zeroFrom q 11
    | 0x11 => low && zeroFrom q 12
    | 0x14 => low && bits q.cdw10 31 4 == 0 && q.cdw11 == 0 && q.cdw12 == 0 && q.cdw13 == 0 && q.cdw14 == 0
    | 0x15 => low && bits q.cdw10 31 4 == 0 && zeroFrom q 11
    | 0x80 => low && zeroFrom q 11
    | 0xC1 => low && zeroFrom q 12
    | 0xC2 => low && zeroFrom q 12
    | 0xC4 => low && zeroFrom q 12
    | 0xC5 => low && zeroFrom q 12
    | 0xC8 => low && zeroFrom q 12
    | 0xCB => low && zeroFrom q 12
    | 0xCD => low && zeroFrom q 11
    | 0xD0 => low && zeroFrom q 11
    | 0xD1 => low && zeroFrom q 12
    | 0xD4 => low && zeroFrom q 12
    | 0xD5 => low && zeroFrom q 14
    | 0xD8 => low && zeroFrom q 11
    | 0xDC => low && zeroFrom q 11
    | 0xDF => low && zeroFrom q 10
    | _ => true
  else
    match q.opcode with
    | 0x00 => low && zeroFrom q 10
    | 0x01 => bits q.cdw12 25 25 == 0 && bits q.cdw13 15 8 == 0
    | 0x02 => bits q.cdw12 25 25 == 0 && bits q.cdw13 31 8 == 0
    | 0x08 => q.cdw13 == 0
    | 0x09 => low && zeroFrom q 12
    | 0x0C => bits q.cdw12 25 25 == 0 && q.cdw13 == 0
    | _ => true
/-- Reserved fields of the command dwords are 0 and listed encodings are used (R18, R656 and each command's table). -/
def sqeFieldsOk (admin : Bool) (q : Sqe) : Bool :=
  q.resvZero && sqeUnusedOk admin q &&
  if admin then
    match q.opcode with
    | 0x06 => bits q.cdw10 15 8 == 0 && [0x00, 0x01, 0x02, 0x03, 0x10, 0x11, 0x12, 0x13].contains (bits q.cdw10 7 0)
    | 0x08 => bits q.cdw11 31 7 == 0
    | 0x09 => bits q.cdw10 30 8 == 0 && featureIds.contains (bits q.cdw10 7 0) && featureFieldsOk (bits q.cdw10 7 0) q.cdw11
    | 0x0A => bits q.cdw10 31 11 == 0 && featureIds.contains (bits q.cdw10 7 0) && decide (bits q.cdw10 10 8 ≤ 3)
    | 0x10 => bits q.cdw10 7 6 == 0 && bits q.cdw10 31 9 == 0 && decide (bits q.cdw10 5 3 ≤ 3)
    | 0x14 => [1, 2, 0xF].contains (bits q.cdw10 3 0)
    | 0x19 => decide (bits q.cdw11 15 8 ≤ 1)
    | 0x1A => decide (bits q.cdw11 15 8 ≤ 1)
    | 0xC1 => bits q.cdw10 31 8 == 0 && q.cdw11 == 0
    | 0xC2 => bits q.cdw10 31 8 == 0 && q.cdw11 == 0
    | 0xC4 => bits q.cdw10 31 8 == 0 && bits q.cdw11 31 17 == 0
    | 0xC5 => bits q.cdw10 31 8 == 0 && bits q.cdw11 31 17 == 0
    | 0xC8 => bits q.cdw10 31 8 == 0 && bits q.cdw11 31 17 == 0
    | 0xCB => bits q.cdw10 31 8 == 0 && bits q.cdw11 31 17 == 0
    | 0xCD => q.cdw10 == 0
    | 0xD0 => bits q.cdw10 31 3 == 0
    | 0xD1 => bits q.cdw10 31 8 == 0 && bits q.cdw11 31 17 == 0 && decide (1 ≤ bits q.cdw10 6 4 ∧ bits q.cdw10 6 4 ≤ 5)
    | 0xD4 => bits q.cdw10 31 5 == 0 && bits q.cdw11 31 17 == 0
    | 0xD5 => bits q.cdw10 7 4 == 0 && bits q.cdw10 31 10 == 0 && bits q.cdw11 31 17 == 0
    | _ => true
  else
    match q.opcode with
    | 0x01 => bits q.cdw12 19 16 == 0 && decide (bits q.cdw12 23 20 ≤ 1)
    | 0x02 => bits q.cdw12 23 16 == 0
    | 0x08 => bits q.cdw12 23 16 == 0
    | 0x0C => bits q.cdw12 23 16 == 0
    | 0x09 => bits q.cdw10 31 8 == 0 && bits q.cdw11 31 3 == 0
    | 0x82 => bits q.cdw12 31 20 == 0 && bits q.cdw13 31 22 == 0 && q.cdw2 == 0 && q.cdw3 == 0
    | 0x84 => bits q.cdw12 31 20 == 0 && bits q.cdw13 31 16 == 0
    | _ => true

/-- The status of a malformed data pointer (R192). -/
def ptrStatus : PtrForm → Option Status
  | .ok => none
  | .prpOffset => some ⟨0, 0x13, true⟩
  | .sglType => some ⟨0, 0x11, true⟩
  | .sglCount => some ⟨0, 0x0E, true⟩
  | .sglLength => some ⟨0, 0x0F, true⟩
  | .sglSegment => some ⟨0, 0x0D, true⟩
  | .sglOffset => some ⟨0, 0x16, true⟩

/-- Data bytes a command moves to or from the host, against MDTS (2 MiB). -/
def State.transferBytes (s : State) (q : Sqe) : Nat :=
  if q.opcode = 0x01 ∨ q.opcode = 0x02 then s.userBytes q else if q.opcode = 0x82 then bits q.cdw13 21 0 else 0

/-- The block ranges a command names. -/
def sqeRanges (q : Sqe) : List DsmRange :=
  match q.opcode with
  | 0x00 => []
  | 0x09 => (match q.data with
    | .ranges rs => rs
    | _ => [])
  | 0x84 => [⟨q.slba, q.nlb⟩, ⟨(sqeDest q).1, (sqeDest q).2⟩]
  | _ => [⟨q.slba, q.nlb⟩]

/-- Logical blocks of a namespace. -/
def inNs (v : Ns) (r : DsmRange) : Bool := decide (r.slba + r.nlb ≤ v.spec.nsze)

/-- A namespace of an instance that cannot be used yet (R240): its key is not loaded; or a stop epoch holds its transform. -/
def State.keyState (s : State) (nsid : Nat) : KeySlot := s.part.keys.get {} (nsid - 1)
def State.nsState (s : State) (v : Ns) : Nat :=
  if s.ctxs.any (fun c => c.admin && c.sqe.opcode == 0x80 && c.sqe.nsid == v.nsid && c.phase != .ready && c.phase != .posted) then 3
  else if v.spec.encrypt && (s.keyState v.nsid).state != .active then 1
  else if stopNos.any (fun n => (s.binding n).nsid == v.nsid && xformDir (s.binding n).mode false && (s.stop n).epoch.isSome) ||
     stopNos.any (fun n => (s.binding n).nsid == v.nsid && xformDir (s.binding n).mode true && (s.stop n).epoch.isSome) then 2
  else 0
/-- A read meets its read transform, a write its write transform, inside a stop epoch (R240). -/
def State.xformLoading (s : State) (nsid : Nat) (write : Bool) : Bool :=
  match s.xform nsid write with
  | some n => (s.stop n).epoch.isSome
  | none => false

/-- What the parse of an I/O command finds: a status and whether it is a counted violation (R192, R661). A firmware's transfer, its key beyond the
slots, needs no attachment. -/
def State.parseIo (s : State) (k : Nat) (q : Sqe) : Option (Status × Bool) :=
  if !ioOpcodes.contains q.opcode then some (stInvalidOpcode, true)
  else if !(sqeFieldsOk false q) then some (stInvalidField, true)
  else match ptrStatus q.ptr with
  | some st => some (st, true)
  | none =>
    if q.opcode = 0x00 ∧ q.nsid = 0xFFFFFFFF then none
    else if decide (k < 1024) && !(s.attachedNs k).contains q.nsid then some (stInvalidNs, true)
    else match s.ns q.nsid with
    | none => some (stInvalidNs, true)
    | some v =>
      if 2 ^ 21 < s.transferBytes q then some (stInvalidField, true)
      else if q.opcode = 0x82 ∧ bits q.cdw13 1 0 ≠ 0 then some (stInvalidField, true)
      else if (q.opcode = 0x82 ∨ q.opcode = 0x84) ∧ !(sqeRanges q).all (inNs v) then some (stInvalidField, false)
      else if !(sqeRanges q).all (inNs v) then some (stLbaRange, false)
      else if s.nsState v = 3 then some (stFormatting, false)
      else if s.nsState v = 1 then some (stNsNotReady, false)
      else if q.opcode = 0x00 then none
      else if q.opcode = 0x02 ∧ s.xformLoading q.nsid false then some (stNsNotReady, false)
      else if q.opcode = 0x01 ∧ s.xformLoading q.nsid true then some (stNsNotReady, false)
      else none

/-- What the parse of an admin command finds: a status, and whether it is a violation of the table of R192. -/
def State.parseAdmin (s : State) (q : Sqe) : Option (Status × Bool) :=
  if s.modes.fenced && !fencedOpcodes.contains q.opcode then some (stMediaNotReady, false)
  else if !adminOpcodes.contains q.opcode then some (stInvalidOpcode, true)
  else if !(sqeFieldsOk true q) then some (stInvalidField, true)
  else if q.opcode = 0x02 ∧ !logPages.contains (bits q.cdw10 7 0) then some (stSpecific 0x09, false)
  else (ptrStatus q.ptr).map (fun st => (st, true))

/-! ## Cost and admission (R208) -/

def ceilDiv (a b : Nat) : Nat := (a + b - 1) / b

/-- Cost units of a command. -/
def State.costOf (s : State) (q : Sqe) : Nat :=
  let lba := match s.ns q.nsid with
    | some v => v.spec.lba
    | none => 4096
  match q.opcode with
  | 0x00 => 1
  | 0x08 => max 1 (ceilDiv (q.nlb * lba) 65536)
  | 0x09 => if q.cdw11.getLsbD 2 then max 1 ((sqeRanges q).foldl (fun n r => n + ceilDiv (r.nlb * lba) 65536) 0) else 1
  | 0x84 => max 2 (2 * ceilDiv (q.nlb * lba) 4096)
  | _ => max 1 (ceilDiv (q.nlb * lba) 4096)

/-- The overlap entries of an admitted command (R153). -/
def State.overlapOf (s : State) (q : Sqe) : List OvEntry :=
  match s.ns q.nsid with
  | none => []
  | some v =>
    let e := fun (cls : OvClass) (a n : Nat) => let r := unitRange v.spec a n; ({ cls := cls, nsid := q.nsid, first := r.1, count := r.2 } : OvEntry)
    match q.opcode with
    | 0x00 => []
    | 0x01 => [e .write q.slba q.nlb]
    | 0x08 => [e .write q.slba q.nlb]
    | 0x09 => if q.cdw11.getLsbD 2 then (sqeRanges q).map (fun r => e .write r.slba r.nlb) else []
    | 0x84 => [e .read q.slba q.nlb, e .write (sqeDest q).1 (sqeDest q).2]
    | _ => [e .read q.slba q.nlb]

/-- A context held by an instance. -/
def State.slotsHeld (s : State) (k : Nat) : Nat := (s.instCtxs k).length
/-- What an instance holds of a pool: its share, and the increases a Change Share in its drain has reserved (R219). -/
def State.claim (s : State) (k : Nat) (f : Share → Nat) : Nat :=
  match (s.inst k).change with
  | some ch => max (f (s.dinst k).share) (f ch.share)
  | none => f (s.dinst k).share
/-- Unreserved command slots of a port that are free (R207, R219). -/
def State.unreserved (s : State) (p : Nat) : Nat :=
  let all := (s.live.insts.filter (fun e => e.2.live && e.1 / 128 == p)).foldl (fun n e => n + s.claim e.1 (·.slotMin)) 0
  (s.vpool p).slots - all - (s.ctxs.filter (fun c => !c.admin && c.port == p && !c.reserved)).length
/-- Whether an instance may hold one more context: from its reservation, or a free unreserved slot. -/
def State.slotFor (s : State) (k : Nat) : Option Bool :=
  let sh := (s.dinst k).share
  let res := (s.ctxs.filter (fun c => !c.admin && c.key == k && c.reserved)).length
  if sh.slotMax ≤ s.slotsHeld k then none
  else if res < sh.slotMin then some true
  else if 0 < s.unreserved (k / 128) then some false else none

end Sys2Proof.Machine
end

