-- ==== Sys2Proof/Machine/Queueing.lean ====
section
/-! DEFINITION. Doorbells, fetch and admission (04, 05, 06). -/
namespace Sys2Proof.Machine

/-! ## Doorbells (R126 to R129, R192, R195, R660) -/

/-- The error event of a doorbell violation: type 0h, page 01h. -/
def doorbellEv (info : Nat) : AsyncEv := ⟨0, info, 1⟩
def evBadRegister : Nat := 0
def evBadValue : Nat := 1

/-- The tail doorbell of queue y is at offset 8y, the head doorbell at 8y + 4 (R126). -/
def tailDoorbell (w : DoorbellAt) : Bool := decide (w.off % 8 < 4)
/-- The queue a doorbell address names: instance and queue identifier; the first two of BAR2 page 0 are reserved (R128), as a queue that does not
exist. -/
def doorbellTarget : DoorbellAt → Nat × Option Nat
  | .bar0 o => (0, some (o.val / 8))
  | .bar2 n o => (n.val, if n.val = 0 ∧ o.val < 8 then none else some (o.val / 8))

/-- A doorbell write to a page that has no instance counts against the port (R195). -/
def State.strayDoorbell (p : Nat) (s : State) : State :=
  let sent := (s.port p).straySent
  let s := s.modPort p (fun t => { t with stray := sat64 (t.stray + 1), straySec := t.straySec + 1, straySent := true })
  if sent then s else s.postEvent p (doorbellEv evBadRegister)

/-- A doorbell violation of an instance's queue; the admin queue's is only recorded (R192). -/
def State.badDoorbell (p n : Nat) (admin : Bool) (ev : Option Nat) (s : State) : State :=
  let s := match ev with
    | some i => s.postEvent p (doorbellEv i)
    | none => s
  if admin then s.logError p 0 0xFFFF 0 ⟨0, 0, false⟩ else s.violation (instKey p n)

/-- The checks every doorbell write passes before its value is looked at. `some` the queue: go on with it. -/
def State.doorbell (p : Nat) (w : DoorbellAt) (aligned32 : Bool) (exists_ : Nat → Nat → Bool)
    (go : Nat → Nat → State → State) (s : State) : State :=
  let pt := s.port p
  let n := (doorbellTarget w).1
  let k := instKey p n
  if !pt.rdy || pt.cfs || s.hostFenced then s
  else if (s.vport p).instances ≤ n || (s.inst k).state == .free then s.strayDoorbell p
  else match (doorbellTarget w).2 with
  | none => if (s.inst k).state == .isolated then s else s.badDoorbell p n false (some evBadRegister)
  | some q =>
    let admin := n == 0 && q == 0
    if (s.inst k).state == .isolated && !admin then s
    else if !aligned32 || w.off % 4 != 0 then s.badDoorbell p n admin none
    else if !exists_ k q then s.badDoorbell p n admin (some evBadRegister)
    else go k q s

/-- SQ_TAIL_DOORBELL: a write to the tail doorbell of a queue. -/
def execSqTailDoorbell (p : PortId) (w : DoorbellAt) (aligned32 : Bool) (value : Nat) (s : State) : Host.Outcome State Fault Refusal :=
  if !tailDoorbell w then .next s else
  .next (s.doorbell p w aligned32 (fun k q => ((s.inst k).sqs.find q).isSome) (fun k q t =>
    let x := (t.inst k).sqs.get {} q
    if x.size ≤ value then t.badDoorbell p (k % 128) (k % 128 == 0 && q == 0) (some evBadValue)
    else
      -- the order of its oldest doorbell write not yet fully served (R146)
      let bell := if value = x.head then 0 else if x.bell = 0 then t.bells + 1 else x.bell
      let t := t.modInst k (fun i => { i with sqs := i.sqs.set q { x with tail := value, bell := bell } })
      { t with bells := t.bells + 1 }))

/-- Held completions are written while the queue has room (R152). -/
def State.releaseHeld (k cq : Nat) (fuel : Nat) (s : State) : State :=
  match fuel with
  | 0 => s
  | f + 1 =>
    let q := (s.inst k).cqs.get {} cq
    match q.held with
    | [] => s
    | e :: rest =>
      if q.full then s
      else ((s.modInst k (fun i => { i with cqs := i.cqs.set cq { q with held := rest } })).pushCqe k cq e).releaseHeld k cq f

/-- Completions of a queue that can no longer be written: their contexts are free. -/
def State.dropHeld (es : List Cqe) (s : State) : State := es.foldl (fun t e => t.dropCtx e.ctx) s

/-- CQ_HEAD_DOORBELL: entries held are written as room comes, and a Delete waits for no more than them (R152, R179). -/
def execCqHeadDoorbell (p : PortId) (w : DoorbellAt) (aligned32 : Bool) (value : Nat) (s : State) : Host.Outcome State Fault Refusal :=
  if tailDoorbell w then .next s else
  .next (s.doorbell p w aligned32 (fun k q => ((s.inst k).cqs.find q).isSome) (fun k q t =>
    let x := (t.inst k).cqs.get {} q
    -- a head beyond the entries posted
    if x.size ≤ value || decide ((x.tail + x.size - x.head) % x.size < (value + x.size - x.head) % x.size) then
      t.badDoorbell p (k % 128) (k % 128 == 0 && q == 0) (some evBadValue)
    else ((t.modInst k (fun i => { i with cqs := i.cqs.set q { x with head := value } })).releaseHeld k q x.held.length).settleDeletes))

/-! ## Fetch (R145 to R150) -/

/-- Fetch from a port is held: not ready, fenced, shut down (R86), in D3hot (R124), its link not at L0, or by QUIESCE (R92). -/
def State.fetchHeld (s : State) (p : Nat) (admin : Bool) : Bool :=
  let pt := s.port p
  !pt.rdy || pt.cfs || s.hostFenced || pt.shst != 0 || pt.d3hot || pt.link != .l0 || !s.active ||
    (s.modes.mode == .quiesce && (!admin || decide (s.modes.quiesceCause ≤ 4)))

/-- Contexts in use in a quadrant (R150). -/
def State.quadCtxs (s : State) (p : Nat) : Nat := (s.ctxs.filter (fun c => c.port / 2 == p / 2)).length

/-- The instance is held by admission: its allowance does not cover its next command (R211). -/
def State.capHeld (s : State) (k : Nat) : Bool :=
  decide (0 < (s.dinst k).share.tokenCap) && (match s.waitingAt k with
    | c :: _ => decide ((s.inst k).allowance < c.cost * 2048)
    | [] => false)

/-- Cost units a port may still have admitted in this 1 ms at M3 (R555). -/
def State.m3Held (s : State) (p : Nat) : Bool :=
  s.pw.mute == 3 && decide ((s.port p).refRate * s.pw.advice ≤ (s.port p).m3Used * 256 * 1000)

/-- The fetch rate of PS1 or PS2 is used up in the running 1 ms (R46). -/
def State.psHeld (s : State) : Bool :=
  (s.modes.ps == 1 || s.modes.ps == 2) && s.modes.psMs == s.now / 1000 && decide (Config.psFetch s.modes.ps < s.modes.psUsed)
/-- An entry fetched counts against it. -/
def Modes.countFetch (now : Nat) (m : Modes) : Modes := { m with psMs := now / 1000, psUsed := if m.psMs = now / 1000 then m.psUsed + 1 else 1 }

/-- A command fetched on a port ends a request of PS3 or PS4 and any entry in progress (R112, R141). -/
def State.wake (p : Nat) (s : State) : State :=
  let s := s.modPort p (fun t => { t with busyAt := s.now, psLapsed := t.psLapsed || decide (3 ≤ t.reqPs) })
  s.modModes (fun m => { m with psEntry := none, excursion := false, ps := if 3 ≤ m.ps then m.lastOpPs else m.ps })

/-- A mailbox request whose CODE the table of requests does not list: answered with RESULT 0x01, or queued while the partition restarts (R564). -/
def State.otherRequest (p : PortId) (id code : Nat) (seq : W32) (s : State) : State :=
  let h : MbHdr := { src := .port p id, seq := seq }
  let answer := fun (r : Nat) => (s.emit (.mailbox h.src code r seq false { size := 512, fields := [] })).complete id .success 0
  if !s.part.restarting then answer 1
  else if 8 ≤ s.part.queue.length then answer 8
  else (s.modPart (fun t => { t with queue := t.queue ++ [⟨h, .other code⟩] })).modCtx id (fun c => { c with phase := .drain })
/-- A write fetched now is acknowledged under write-through rules (R166). -/
def State.fetchedWt (s : State) (q : Sqe) : Bool :=
  match s.ns q.nsid with
  | some v => s.isWt v.spec
  | none => false
/-- An I/O command that has passed the parse: its ranges stand in the overlap order from its fetch (R148, R153); a Flush's cover and the deferred
errors it is the first to meet are fixed (R168, R186). -/
def State.enterIo (id k : Nat) (q : Sqe) (s : State) : State :=
  if q.opcode = 0x00 then
    let nss := s.flushCovers k q.nsid
    let owes := (s.inst k).defLog.claims q.nsid
    (s.modCtx id (fun c => { c with placed := (s.unprogrammed nss).map (fun m => ⟨0, m⟩), sealBy := s.setsOwed nss, owes := owes })).modInst k
      (fun i => { i with defLog := i.defLog.claim q.nsid })
  else s.modCtx id (fun c => { c with ov := s.overlapOf q })
/-- One entry is fetched, stamped and parsed (R147). On an admin queue a refusal that R192's table names is entered in the Error Information log, another
(an invalid log page, a fifth Abort, a command the mode does not take) is only answered. -/
def State.fetchOne (p n qid : Nat) (q : Sqe) (s : State) : State :=
  let k := instKey p n
  let admin := n == 0 && qid == 0
  let x := (s.inst k).sqs.get {} qid
  let slot := if admin then some true else s.slotFor k
  match slot with
  | none => s
  | some res =>
    if x.tail = x.head || (!admin && (s.inst k).state != .active) || x.failed || 16384 ≤ s.quadCtxs p || s.psHeld then s else
    let clash := s.ctxs.any (fun c => c.admin == admin && c.key == k && c.qid == qid && c.sqe.cid == q.cid && c.gen == s.gen k) ||
      (admin && (s.port p).aers.contains q.cid)
    let aborts := (s.ctxs.filter (fun c => c.admin && c.port == p && c.sqe.opcode == 0x08)).length
    let id := s.nextCtx
    let c : Ctx := { id := id, port := p, inst := n, gen := s.gen k, qid := qid, stamp := s.fetches + 1, time := s.now, sqe := q, admin := admin, phase := if admin then .ready else .admission, cost := if admin then 0 else s.costOf q, reserved := res, wt := q.writes && s.fetchedWt q }
    let s := s.modInst k (fun i => { i with fetched := i.fetched + (!admin).toNat, sqs := i.sqs.set qid { x with head := (x.head + 1) % x.size } })
    let s := { s with ctxs := s.ctxs ++ [c], nextCtx := id + 1, fetches := s.fetches + 1 }
    let s := (s.wake p).modModes (Modes.countFetch s.now)
    if admin then
      match (if clash then some (stCidConflict, true) else if q.opcode = 0x08 ∧ 4 ≤ aborts then some (stSpecific 0x03, false) else s.parseAdmin q) with
      | some (st, bad) => (if bad then s.logError p 0 q.cid q.nsid st else s).complete id st 0
      | none =>
        match q.data with
        | .otherRequest code seq => if q.opcode = 0xDF then s.otherRequest ⟨p % 8, Nat.mod_lt _ (by decide)⟩ id code seq else s
        | _ => s
    else
      match (if clash then some (stCidConflict, true) else s.parseIo k q) with
      | some (st, counted) =>
        let s := s.complete id st 0
        if counted then s.violation k else s
      | none => (s.enterIo id k q).modPort p (fun t => { t with m3Used := t.m3Used + c.cost })

/-- The fetch engine visits a queue: it holds unfetched entries and is not passed over (R146, R152, R192, R193). -/
def State.visits (s : State) (k qid : Nat) : Bool :=
  let p := k / 128
  let admin := k % 128 == 0 && qid == 0
  match (s.inst k).sqs.find qid with
  | none => false
  | some x =>
    let cq := (s.inst k).cqs.get {} x.cq
    !(s.fetchHeld p admin || x.failed || x.tail == x.head || cq.full || !cq.held.isEmpty ||
      (!admin && ((s.inst k).state != .active || s.capHeld k || s.m3Held p || (s.slotFor k).isNone)))
/-- It is a queue's turn: the admin queue's ahead of all, else of the queues visited that of the oldest doorbell write not yet fully served (R146). -/
def State.fetchTurn (s : State) (k qid : Nat) : Bool :=
  let p := k / 128
  let bell := ((s.inst k).sqs.get {} qid).bell
  s.visits k qid && ((k % 128 == 0 && qid == 0) ||
    (!s.visits (instKey p 0) 0 &&
      s.insts.all (fun e => e.1 / 128 != p || e.2.sqs.all (fun q => (e.1 == k && q.1 == qid) || decide (bell ≤ q.2.bell) || !s.visits e.1 q.1))))

/-- SQ_ENTRY_FETCH: a visit of the fetch engine, up to 8 entries, where it is the queue's turn. -/
def execSqEntryFetch (p : PortId) (n : LocalId) (qid : Nat) (entries : List Sqe) (s : State) : Host.Outcome State Fault Refusal :=
  let k := instKey p n
  if !s.fetchTurn k qid then .next s
  else
    let s := (entries.take 8).foldl (fun t e => t.fetchOne p n qid e) s
    -- the queue goes behind the others
    let s := s.modInst k (fun i =>
      match i.sqs.find qid with
      | some y => { i with sqs := i.sqs.set qid { y with bell := if y.head = y.tail then 0 else s.bells + 1 } }
      | none => i)
    .next { s with bells := s.bells + 1 }

/-- HOST_DMA_FAILURE: the four ways are answered alike (R192). The admin queue never isolates; a completion queue of it whose entry could not be
written takes no further entries (DESIGN CHOICE, log entry 97). -/
def execHostDmaFailure (p : PortId) (t : DmaTarget) (_f : DmaFault) (s : State) : Host.Outcome State Fault Refusal :=
  match t with
  | .data id =>
    match s.ctx id with
    | none => .next s
    | some c =>
      if c.port ≠ p.val || c.phase == .posted then .next s
      else if c.admin then .next ((s.logError p c.qid c.sqe.cid c.sqe.nsid stDataTransfer).complete id stDataTransfer 0)
      else .next ((s.endCaught id stDataTransfer).violation c.key)
  | .fetch n qid =>
    let k := instKey p n
    match (s.inst k).sqs.find qid with
    | none => .next s
    | some x =>
      let s := s.modInst k (fun i => { i with sqs := i.sqs.set qid { x with failed := true } })
      if n.val = 0 ∧ qid = 0 then .next (s.logError p 0 0xFFFF 0 stDataTransfer) else .next (s.isolate k 2)
  | .completion n cq =>
    let k := instKey p n
    match (s.inst k).cqs.find cq with
    | none => .next s
    | some x =>
      let s := (s.dropHeld x.held).modInst k (fun i => { i with cqs := i.cqs.set cq { x with size := 0, held := [] } })
      if n.val = 0 ∧ cq = 0 then .next (s.logError p 0 0xFFFF 0 stDataTransfer) else .next (s.isolate k 3)

/-! ## Admission (R208 to R212) -/

/-- A command passes step 2: charged to its instance. Its place in the overlap order has been fixed by its fetch stamp (R148). -/
def State.admitCmd (c : Ctx) (s : State) : State :=
  let s := s.modInst c.key (fun i => { i with
    admitted := i.admitted + c.cost
    allowance := i.allowance - c.cost * 2048
    counters := { i.counters with admitWaitUs := sat64 (i.counters.admitWaitUs + (s.now - c.time)) } })
  let s := s.modPort c.port (fun t => { t with admits := (s.now, c.cost) :: t.admits.filter (fun e => decide (s.now < e.1 + 1000000)) })
  s.modCtx c.id (fun c => { c with phase := .ready })

/-- The allowance of a capped instance covers a command (R211). -/
def State.capCovers (s : State) (c : Ctx) : Bool :=
  (s.dinst c.key).share.tokenCap == 0 || decide (c.cost * 2048 ≤ (s.inst c.key).allowance)

/-- An instance's commands in fetch order, while its deficit covers the next (R209). -/
def State.admitWhile (k : Nat) (fuel : Nat) (s : State) : Bool × State :=
  match fuel with
  | 0 => (false, s)
  | f + 1 =>
    match s.waitingAt k with
    | [] => (false, s)
    | c :: _ =>
      let top := 16 * (s.dinst k).share.tokens + 512
      let d := (s.inst k).deficit
      let beyond := decide (top < c.cost) && decide (top ≤ d)
      if (beyond || decide (c.cost ≤ d)) && s.capCovers c then
        let s := (s.admitCmd c).modInst k (fun i => { i with deficit := if beyond then 0 else d - c.cost })
        (true, (s.admitWhile k f).2)
      else (false, s)

/-- An instance's deficit covers its next command (R209), whether or not its allowance does. -/
def State.covered (s : State) (k : Nat) : Bool :=
  match s.waitingAt k with
  | [] => false
  | c :: _ => decide (min c.cost (16 * (s.dinst k).share.tokens + 512) ≤ (s.inst k).deficit)

/-- The instances of a quadrant that are not FREE. -/
def State.quadInsts (s : State) (q : Nat) : List Nat :=
  (s.live.insts.filter (fun e => e.2.live && e.1 / 256 == q)).map (·.1)

/-- ADMISSION_ROUND. -/
def execAdmissionRound (q : QuadId) (s : State) : Host.Outcome State Fault Refusal :=
  let ks := s.quadInsts q
  let r := ks.foldl (fun (a : Bool × State) k =>
    let t := a.2
    let tok := (t.dinst k).share.tokens
    if (t.waitingAt k).isEmpty then (a.1, t.modInst k (fun i => { i with deficit := 0 }))
    else if tok = 0 then a
    else
      let t := t.modInst k (fun i => { i with deficit := min (i.deficit + 16 * tok) (16 * tok + 512) })
      let u := t.admitWhile k (t.waitingAt k).length
      (a.1 || t.covered k, if (u.2.waitingAt k).isEmpty then u.2.modInst k (fun i => { i with deficit := 0 }) else u.2)) (false, s)
  -- instances without tokens, one command each, in a round in which no instance with tokens has a command its deficit covers (R210)
  if r.1 then .next r.2
  else .next (r.2.each (ks.filter (fun k => (r.2.dinst k).share.tokens == 0)) (fun k t =>
    match t.waitingAt k with
    | c :: _ => if t.capCovers c then t.admitCmd c else t
    | [] => t))

/-- CAP_ALLOWANCE_INTERVAL: a 1 ms interval begins (R211). -/
def execCapAllowanceInterval (q : QuadId) (s : State) : Host.Outcome State Fault Refusal :=
  .next (s.each ((s.quadInsts q).filter (fun k => decide (0 < (s.dinst k).share.tokenCap))) (fun k t =>
    (t.modInst k (fun i => { i with allowance := i.allowance + (t.dinst k).share.tokenCap * quadUnitsPerMs })).capTrim k))

/-- HOST_VIOL_WINDOW_ROLL: a 1 s window aligned to the RTC begins (R227); the last second's stray doorbells are recorded (R195). -/
def execHostViolWindowRoll (s : State) : Host.Outcome State Fault Refusal :=
  let s := { s with insts := s.insts.map (fun (e : Nat × Inst) => (e.1, { e.2 with violWindow := 0 })) }
  .next (s.allPorts (fun p t =>
    let n := (t.port p).straySec
    let t := if 0 < n then t.report (srcSequencer p) (evUnnamed 2 1) p n else t
    t.modPort p (fun x => { x with straySec := 0, straySent := false })))

/-- Entries undelivered on a port. -/
def State.undelivered (s : State) (p : Nat) : Bool :=
  s.insts.any (fun e => e.1 / 128 == p && !e.2.defLog.undelivered.isEmpty)

/-- Every undelivered error of an instance is delivered by the event (R184). -/
def DefLog.posted (d : DefLog) : DefLog :=
  DefLog.settle { d with
    entries := d.entries.map (fun x => if d.owed x.seq then { x with evented := true } else x)
    undelivered := [] }

/-- Time of recording of the oldest of them, µs. -/
def State.oldestOwed (s : State) (p : Nat) : Nat :=
  let ts := (s.insts.filter (fun e => e.1 / 128 == p)).flatMap (fun e => e.2.defLog.undelivered.map (fun u => u.2.2))
  ts.foldl min (ts.headD 0)

/-- DEFERRED_ERROR_EVENT_TIMEOUT: 1 s without a completion to carry the flag; one event covers the port's (R184). -/
def execDeferredErrorEventTimeout (p : PortId) (s : State) : Host.Outcome State Fault Refusal :=
  if !s.undelivered p || (s.port p).posted.e0 then .next s
  else
    let s := (s.notBefore (s.oldestOwed p + 1000000)).postVendor p 0xE0
    let ks := (s.insts.map (·.1)).filter (fun k => k / 128 == p.val)
    .next (s.each ks (fun k t => t.modInst k (fun i => { i with defLog := i.defLog.posted })))

end Sys2Proof.Machine
end

