-- ==== Sys2Proof/Machine/HostOps.lean ====
section
/-! DEFINITION. What the host ports share: power states, withheld completions, lends of map memory, the controller reset (03, 04, 07). -/
namespace Sys2Proof.Machine

/-! ## Power states (R110, R111, R141) -/

/-- The state a port counts as requesting. -/
def State.asksPs (s : State) (p : Nat) : Nat := if (s.port p).psLapsed then s.modes.lastOpPs else (s.port p).reqPs

/-- The state requested of the module: the lowest among the ports enabled and not shut down; PS2 for PS3 and PS4 while a stop runs free. With no
such port nothing is requested, and the state in force stays (DESIGN CHOICE, log entry 94). -/
def State.wantedPs (s : State) : Option Nat :=
  let ps := ((List.range 8).filter (fun p => (s.port p).ccEn && (s.port p).shst == 0)).map s.asksPs
  match ps with
  | [] => none
  | x :: r => let m := r.foldl min x; some (if 3 ≤ m ∧ s.freeRunning then 2 else m)

/-- An operational state is in force as soon as it is the one requested; PS3 and PS4 wait for their entry (R181). -/
def State.reviewPs (s : State) : State :=
  if !s.serving then s else
  match s.wantedPs with
  | none => s
  | some w =>
    if w ≤ 2 then s.modModes (fun m => { m with ps := w, lastOpPs := w, psEntry := none, excursion := false })
    else s.modModes (fun m => { m with psEntry := if m.psEntry == some w then m.psEntry else none })

/-! ## Withheld completions and interrupts (R118, R124, R134) -/

/-- Data, completions and interrupts withheld on a port leave in their order. -/
def State.release (p : Nat) (s : State) : State :=
  let pt := s.port p
  if pt.d3hot || pt.link == .recovery then s else
  let s := pt.heldOut.foldl (fun t o => t.hostWrite p o) (s.modPort p (fun t => { t with held := [], heldIrq := [], heldOut := [] }))
  let s := pt.held.foldl (fun t e => t.writeCqe (instKey p e.1) e.2.1 e.2.2) s
  (pt.heldIrq.foldl (fun t x => t.interrupt p x.1 x.2) s).settleDeletes

/-- Pending messages whose vector can send are sent. -/
def State.sendPending (p : Nat) (s : State) : State :=
  let pt := s.port p
  if !pt.msixEn || pt.fmask || s.hostFenced || pt.d3hot || pt.link == .recovery then s else
  let vs := (pt.msix.filter (fun e => e.2.pending && !e.2.masked)).map (·.1)
  s.each vs (fun v t => (t.modPort p (fun q => { q with msix := q.msix.set v { q.msix.get {} v with pending := false } })).emit (.msix p v ((pt.msix.get {} v).addr) ((pt.msix.get {} v).data)))

/-! ## Lends of map memory (R254 to R256) -/

/-- A new T2 layout with a new random key begins empty (R245, R256); a T2 fetch in flight is discarded, and its line comes from T3 (R253). -/
def State.newLayout (s : State) : State :=
  (s.modMc (fun m => { m with t2 := [], t2Key := some ((Config.freeDraw s.free).setWidth 256), parked := m.parked.map (fun f => { f with t2 := none }) })).drew

/-- Lends of a port come to an end. -/
def State.dropLends (p : Nat) (keep : Lend → Bool) (s : State) : State :=
  if (s.lendsOf p).all keep then s else { s with lends := s.lends.set p ((s.lendsOf p).filter keep) }.newLayout

/-! ## Controller reset (R122, R176, R198) -/

/-- The controller is enabled with these admin queues; sizes as in AQA, from 0. -/
def State.adminQueues (p asqs acqs : Nat) (s : State) : State :=
  s.modInst (instKey p 0) (fun i => { i with
    sqs := i.sqs.set 0 { size := asqs % 4096 + 1, cq := 0, base := (s.port p).asq }
    cqs := i.cqs.set 0 { size := acqs % 4096 + 1, vector := some 0, base := (s.port p).acq } })

/-- Keys of a port's instances that are not FREE. -/
def State.liveKeys (s : State) (p : Nat) : List Nat := (s.live.insts.filter (fun e => e.2.live && e.1 / 128 == p)).map (·.1)

/-- Admin commands of a port's queue end without completion; with HP0 what NVMe-MI carries over it, whichever controller it names (R144). -/
def State.dropAdmin (p : Nat) (s : State) : State :=
  { s with ctxs := s.ctxs.filter (fun c => !(c.admin && (if c.mi then p == 0 else c.port == p))) }

/-- No message of a command fetched before is sent any more (R176). The controller's registers and features return to their reset values; the saveable features to what was saved (DEDUCED, log entry 12). -/
def Port.controllerReset (t : Port) : Port := { t with
  msix := t.msix.map (fun (e : Nat × Msix) => (e.1, { e.2 with pending := false }))
  ccEn := false
  css := 0
  iosqes := 0
  iocqes := 0
  asqs := 0
  acqs := 0
  rdy := false
  cfs := false
  cfsKept := false
  shst := 0
  held := []
  heldIrq := []
  heldOut := []
  aers := []
  waitingEv := []
  miResp := none
  posted := {}
  reqPs := 0
  psLapsed := false
  apstEn := (t.saved.get 0 0x0C).getLsbD 0
  apst := t.savedApst.getD []
  tempOver := 368
  tempUnder := 0
  asyncCfg := 0x1F
  arb := t.saved.get 0 0x01
  errRec := t.saved.get 0 0x05
  atomicity := t.saved.get 0 0x0A
  queuesSet := none }

/-- The manager function's configuration space returns to its reset values. -/
def Port.configReset (t : Port) : Port := { t with pasidEn := false, relaxed := false, bars := [], asq := 0, acq := 0, msixEn := false, fmask := false, msix := [], d3hot := false }

/-- Interrupt Vector Configuration as saved, by vector index. -/
def savedVectors (t : Port) : Tbl W32 := (t.saved.filter (fun (e : Nat × W32) => e.1 / 65536 == 9)).map (fun (e : Nat × W32) => (e.1 % 65536, e.2))

/-- A controller reset of a port; `cfg`: its configuration space too. -/
def State.ctlReset (p : Nat) (cfg : Bool) (s : State) : State :=
  let s := s.dropAdmin p
  let s := s.each (s.liveKeys p) (fun k t => (t.resetInst k).modInst k (fun i => { i with coalesce := if k % 128 = 0 then (t.port p).saved.get 0 0x08 else 0, vecConfig := if k % 128 = 0 then savedVectors (t.port p) else [], waiting := [] }))
  let s := s.modInst (instKey p 0) (fun i => { i with sqs := [], cqs := [] })
  -- CSTS.CFS stays 1 in SAFE-HOLD and while MRST_N is low (R75, R653)
  let s := s.modPort p (fun t => { (if cfg then t.controllerReset.configReset else t.controllerReset) with cfs := s.modes.mode == .safeHold || s.modes.resetHeld })
  (s.dropLends p (fun _ => false)).reviewPs

end Sys2Proof.Machine
end

