-- ==== Sys2Proof/Machine/InstOps.lean ====
section
/-! DEFINITION. Admin commands as they run, pools and shares, Change Share, completions that wait for a seal, signatures and the release policy level (02, 05, 06, 17). -/
namespace Sys2Proof.Machine

/-! ## Running an admin command -/

/-- The module takes admin commands: a serving mode, no flush, nothing fenced. -/
def State.adminOn (s : State) : Bool := s.active && !s.hostFenced

/-- The module runs an admin command now; in SAFE-HOLD management still reads log pages, Identify data and features (R75). -/
def State.mayRun (s : State) (c : Ctx) : Bool := s.adminOn || (c.mi && s.modes.mode == .safeHold && [0x02, 0x06, 0x0A].contains c.sqe.opcode)

/-- The effect of an admin command of opcode `op` that is ready; any other context, and any other state, is left as it is (DESIGN CHOICE, log entry 4). -/
def State.admin (id op : Nat) (go : Ctx → State → State) (s : State) : State :=
  match s.ctx id with
  | none => s
  | some c => if c.admin && c.phase == .ready && c.sqe.opcode == op && s.mayRun c then go c s else s

/-- An instance boundary or a stop trigger waits while a device epoch is in progress (R104). -/
def State.boundary (id op : Nat) (go : Ctx → State → State) (s : State) : State :=
  if s.modes.epoch.isSome then s else s.admin id op go

/-! ## Seals a command waits for -/

/-- A command waits for the seal of the open epoch with the status and DW0 it will complete with. -/
def State.awaitSeal (id : Nat) (dw0 : W32) (s : State) : State := s.modCtx id (fun c => { c with phase := s.sealPhase, dw0 := dw0 })

/-- A stop epoch has still to end for a command. -/
def State.stopsOwed (s : State) (id : Nat) : Bool :=
  stopNos.any (fun n =>
    ((s.stop n).epoch.map (fun e => e.ctx)) == some (some id) || (s.stop n).waiting.any (fun w => w.2 == some id))

/-! ## Pools (06) -/

/-- Two ranges of vectors do not meet. -/
def apart (a b : Nat × Nat) : Bool := decide (a.2 = 0 ∨ b.2 = 0 ∨ a.1 + a.2 ≤ b.1 ∨ b.1 + b.2 ≤ a.1)

def State.claimStops (s : State) (k : Nat) : BitVec 16 :=
  match (s.inst k).change with
  | some ch => (s.dinst k).share.stopMask ||| ch.share.stopMask
  | none => (s.dinst k).share.stopMask
def State.vecRanges (s : State) (k : Nat) : List (Nat × Nat) :=
  ((s.dinst k).vecBase, (s.dinst k).share.vectors) :: (match (s.inst k).change with
    | some ch => [(ch.base, ch.share.vectors)]
    | none => [])

/-- The other instances of a port. -/
def State.others (s : State) (k : Nat) : List Nat := (s.liveKeys (k / 128)).filter (fun j => !(j == k))

/-- VEC_BASE for `n` vectors of an instance: where it stands if they fit there (R221), else the lowest free run (R205). -/
def State.vecFit (s : State) (k n : Nat) : Option Nat :=
  let taken := (s.others k).flatMap s.vecRanges
  let pool := (s.vpool (k / 128)).vectors
  let ok := fun b => decide (b + n ≤ pool) && taken.all (apart (b, n))
  if n = 0 then some (s.dinst k).vecBase
  else if (s.dinst k).live && ok (s.dinst k).vecBase then some (s.dinst k).vecBase
  else if k % 128 = 0 then none
  else (0 :: taken.map (fun r => r.1 + r.2)).foldl (fun best b =>
    if ok b then (match best with
      | some x => some (min x b)
      | none => some b) else best) none

/-- The pool that cannot supply a share to an instance, by its code, its present share counted as returned (R201, R219). -/
def State.shortOf (s : State) (k : Nat) (d : Share) : Option Nat :=
  let p := k / 128
  let v := s.vpool p
  let sum := fun (f : Share → Nat) => (s.others k).foldl (fun n j => n + s.claim j f) (f d)
  if v.queuePairs < sum (·.queuePairs) then some 1
  else if v.vectors < sum (·.vectors) then some 2
  else if (s.vecFit k d.vectors).isNone then some 3
  else if v.slots < sum (·.slotMin) ∨ v.slots < d.slotMax then some 4
  else if v.tokens < sum (·.tokens) then some 5
  else if v.nsQuota < sum (·.nsQuota) then some 6
  else if d.stopMask &&& ~~~v.stops ≠ 0 then some 7
  else if (s.live.insts.filter (fun e => e.2.live && !(e.1 == k))).any (fun e => s.claimStops e.1 &&& d.stopMask ≠ 0) then some 7
  else if stopNos.any (fun n => d.stopMask.getLsbD n && !(s.holder n == some k) && ((s.stop n).state != 0 || (s.stop n).epoch.isSome)) then some 7
  else if v.pinnedWays < sum (·.pinnedWays) then some 8
  else none

/-- The ranges of the share descriptor's fields (06). -/
def shareOk (d : Share) : Bool :=
  !d.reserved && decide (d.pasid < 2 ^ 20 ∧ d.queuePairs ≤ 511 ∧ d.vectors ≤ 511 ∧ (d.queuePairs = 0 ∨ 1 ≤ d.vectors) ∧
    d.slotMin ≤ 16384 ∧ 1 ≤ d.slotMax ∧ d.slotMax ≤ 16384 ∧ d.slotMin ≤ d.slotMax ∧ d.tokens ≤ 1024 ∧
    (d.tokenCap = 0 ∨ (d.tokens ≤ d.tokenCap ∧ d.tokenCap ≤ 2048)) ∧ d.nsQuota ≤ 4096 ∧ d.pinnedWays ≤ 8)

/-! ## Change Share (R219 to R224) -/

/-- Stops of an instance that are bound. -/
def State.boundStops (s : State) (k : Nat) : BitVec 16 :=
  stopNos.foldl (fun m n => if s.holder n == some k && (s.binding n).mode != 0 then m ||| BitVec.ofNat 16 (2 ^ n) else m) 0

/-- I/O queues an instance has created, as pairs. -/
def State.pairsUsed (s : State) (k : Nat) : Nat :=
  max ((s.inst k).sqs.filter (fun e => !(k % 128 == 0 && e.1 == 0))).length ((s.inst k).cqs.filter (fun e => !(k % 128 == 0 && e.1 == 0))).length

/-- The cases in which R220, and R205 for slot 0, refuse a share. -/
def State.shareRefused (s : State) (k : Nat) (d : Share) : Bool :=
  (k % 128 != 0 && d.pasid != (s.dinst k).share.pasid) || (k % 128 == 0 && d.vectors == 0) ||
  decide (d.queuePairs < s.pairsUsed k) ||
  (s.inst k).cqs.any (fun e => !(k % 128 == 0 && e.1 == 0) && (match e.2.vector with
    | some v => decide (d.vectors < v + 1)
    | none => false)) ||
  decide (d.nsQuota < (s.dinst k).attached.length) ||
  s.boundStops k &&& ~~~d.stopMask != 0 ||
  s.mc.slices.any (fun e => (List.range 256).any (fun set => decide (d.pinnedWays < e.2.lockedBy set k)))

/-- A Change Share of a slot is accepted or refused; one still on its way makes the next wait (R199, R224). -/
def State.startChange (id : Nat) (s : State) : State :=
  match s.ctx id with
  | none => s
  | some c =>
    let k := instKey c.port c.localIndex
    let busy := (s.inst k).change.isSome || s.ctxs.any (fun d => d.admin && d.sqe.opcode == 0xC5 && d.key == c.key && d.localIndex == c.localIndex &&
      (match d.phase with
        | .seal _ => true
        | _ => false))
    if (s.vport c.port).instances ≤ c.localIndex then s.complete id stInvalidField 0
    else if busy then
      (s.modInst k (fun i => { i with waiting := if i.waiting.contains id then i.waiting else i.waiting ++ [id] })).modCtx id (fun c => { c with phase := .drain })
    else if matchFails c.sqe.cdw11 (s.gen k) then s.complete id stSequence 0
    else if (s.inst k).state != .active then s.complete id stInvalidField 0
    else match c.sqe.data with
    | .share d =>
      if !shareOk d || s.shareRefused k d then s.complete id stInvalidField 0
      else match s.shortOf k d with
      | some code => s.complete id stPool (BitVec.ofNat 32 code)
      | none =>
        (s.modInst k (fun i => { i with
          state := .draining
          change := some { share := d, ctx := id, start := s.now, base := (s.vecFit k d.vectors).getD 0 } })).modCtx id (fun c => { c with phase := .drain })
    | _ => s.complete id stInvalidField 0

/-- The Change Share that waits next on a slot goes on (R105). -/
def State.nextChange (k : Nat) (s : State) : State :=
  match (s.inst k).waiting with
  | [] => s
  | id :: rest => (s.modInst k (fun i => { i with waiting := rest })).startChange id

/-- A command waits for the seal of its record. -/
def Ctx.sealing (c : Ctx) : Bool :=
  match c.phase with
  | .seal _ => true
  | _ => false
/-- A Change Share of the same slot has still to complete: a Reset Instance completes after it (R224). -/
def State.afterShare (s : State) (c : Ctx) : Bool :=
  c.sqe.opcode == 0xC8 && s.ctxs.any (fun d => d.admin && d.sqe.opcode == 0xC5 && d.sealing && d.port == c.port && d.localIndex == c.localIndex)
/-- Bands that held earlier key tables are still to be erased (R586). -/
def State.keysOwed (s : State) : Bool :=
  s.part.keyTab.old.any (fun k => (s.band (k / 65536) (k % 65536)).state == .system || (s.band (k / 65536) (k % 65536)).state == .erasePending)
/-- A Crypto Erase has completed: the old keys of its namespaces are gone for good. -/
def State.keysErased (nsid : W32) (s : State) : State :=
  s.modPart (fun p => { p with keyTab := { p.keyTab with undo := if nsid = 0xFFFFFFFF then [] else p.keyTab.undo.erase (nsid.toNat - 1) } })
/-- A Crypto Erase waits for the bands of earlier key tables, beside its seal (R586). -/
def State.eraseHeld (s : State) (c : Ctx) : Bool := c.admin && c.sqe.opcode == 0xDC && s.keysOwed
def State.sealOne (id : Nat) (s : State) : State :=
  match s.ctx id with
  | none => s
  | some c =>
    match c.phase with
    | .seal e =>
      if !s.isSealed e || s.stopsOwed id || (c.admin && s.afterShare c) || s.eraseHeld c then s
      else (if c.admin && c.sqe.opcode == 0xDC then s.keysErased c.sqe.nsid else s).complete id c.status c.dw0
    | _ => s
/-- A command whose record is sealed, and for which no stop epoch is still to end, completes; with a Change Share the Resets that waited for it, and
the next Change Share goes on. -/
def State.completeSealed (id : Nat) (s : State) : State :=
  match s.ctx id with
  | none => s
  | some c =>
    let t := s.sealOne id
    if !(c.admin && c.sqe.opcode == 0xC5 && c.sealing) || (t.ctx id).any Ctx.sealing then t
    else
      let rs := (t.ctxs.filter (fun d => d.admin && d.sqe.opcode == 0xC8 && d.sealing && d.port == c.port && d.localIndex == c.localIndex)).map (·.id)
      (t.each rs (fun i u => u.sealOne i)).nextChange (instKey c.port c.localIndex)

/-! ## Signatures (R58, R486, R576, R578) -/

/-- The release policy level in force. -/
def State.rpl (s : State) : Nat := if s.otp.rpl2 then 2 else if s.otp.lowers < s.otp.raises then 1 else 0

/-- The active operator key entry: the highest-numbered programmed one not revoked. -/
def State.operatorEntry (s : State) : Option Nat :=
  (List.range 4).foldl (fun b i => if i < s.otp.operatorKeys.length && !s.otp.operatorRevoke.getLsbD i then some i else b) none
def State.operatorHash (s : State) : Option (BitVec 384) :=
  match s.operatorEntry with
  | some i => s.otp.operatorKeys[i]?
  | none => none

/-- The compile signature holds under an image key not revoked; above RPL0 the operator's signature holds under the active key too. -/
def State.compileOk (s : State) (e : Option (Fin 4)) : Bool :=
  match e with
  | some i => !s.otp.imageRevoke.getLsbD i.val
  | none => false
def State.sigsOk (s : State) (e : Option (Fin 4)) (op : Option (BitVec 384)) : Bool :=
  s.compileOk e && (s.rpl == 0 || (op.isSome && op == s.operatorHash))

end Sys2Proof.Machine
end

