-- ==== Sys2Proof/Machine/StopEpochOps.lean ====
section
/-! DEFINITION. The stop epoch after its first step: the drain's end, the column check, the release, and what waited for it (14). -/
namespace Sys2Proof.Machine

/-- Columns an image may use: those not disabled, the spare among them (R459). -/
def Stop.usable (x : Stop) : List Nat := (List.range 33).filter (fun c => !x.colsOff.contains c)
/-- The physical columns an image is placed on (R459). -/
def Stop.placed (x : Stop) (img : Option StopImage) : List Nat :=
  match img with
  | some i => x.usable.take i.columns
  | none => []

/-- What a command on a stop becomes at step 3 (R495): held where it has delivered nothing, else ended with Stop fenced. -/
def State.settleCmd (n : Nat) (x : StopCmd) (s : State) : State :=
  let s := s.endTag n x.tag
  if x.startAt.isNone then
    s.modCtx x.ctx (fun c => { c with phase := if x.kind = 2 then .granted else .media, held := true, stopNo := n })
  else (s.markGone n x.tag).complete x.ctx stStopFenced 0

/-- Steps 2 to 4: the drain ends, the channels halt, commands are settled, the binding record is logged, SRAM is zeroized. -/
def State.endDrain (n : Nat) (s : State) : State :=
  match (s.stop n).epoch with
  | none => s
  | some e =>
    if e.drained then s else
    let s := (s.stop n).cmds.foldl (fun t x => t.settleCmd n x) s
    let s := s.each (stopChans n) (fun k t => (t.haltChan k 5).updChan k (fun c => { c.endDesc 2 0 with ring := [], written := [] }))
    let b := s.binding n
    let b' : Binding := match e.goal with
      | .unbind _ => { mode := 0, nsid := 0, window := false, image := e.image, epoch := b.epoch + 1 }
      | _ => { b with image := e.image, epoch := b.epoch + 1 }
    let rec_ := s.jrn.openEpoch
    -- CLEAR deletes the image from the store with the record that ends the binding (R493)
    let s := if e.goal = .unbind true then { s with store := s.store.erase n } else s
    let s := if b'.mode ≠ 0 then s else
      s.each ((s.live.insts.filter (fun (x : Nat × DurInst) => x.2.window == some n)).map (fun (x : Nat × DurInst) => x.1)) (fun k t => t.logInst k (fun d => { d with window := none }))
    ((s.endReads n).logRec (.binding n b')).modStop n (fun x => { x with
      epoch := some { e with drained := true, recEpoch := rec_ }
      used := x.placed e.image
      sram := [] })

/-- The drain ends by DRAIN_ACK once nothing is outstanding (R467). -/
def State.checkDrain (n : Nat) (s : State) : State :=
  let x := s.stop n
  if x.epoch.isSome && x.drainAck && x.cmds.isEmpty && x.ctlReads.isEmpty && 0x0301 ≤ s.image.shell then s.endDrain n else s

/-- Stop-local SRAM as an image leaves it: its TARGET 3 frames fill the banks of their columns, 128 KiB each, and the rest is zeroes (R458, step 5). -/
def StopImageSram (i : StopImage) : Tbl Byte :=
  (i.frames.filter (fun f => f.target == 3)).foldl (fun t f =>
    (List.range f.payload.length).foldl (fun t j => Tbl.set t (131072 * f.column + f.address + j) ((f.payload[j]?).getD 0)) t) []

/-- A command held for a stop goes on under the binding now in force (R479, R495). -/
def State.resume (n id : Nat) (s : State) : State :=
  match s.ctx id with
  | none => s
  | some c =>
    let st := (s.stop n).state
    if st = 4 then s.complete id stStopFenced 0
    else if c.sqe.opcode == 0x82 || c.sqe.opcode == 0x84 then
      if st = 0 then s.complete id stStopFenced 0
      else if st = 3 && (s.binding n).mode == 4 && s.holder n == some c.key then (s.modCtx id (fun c => { c with held := false })).finishRead id
      else s.complete id stInvalidField 0
    else if c.sqe.opcode == 0x01 then (s.modCtx id (fun c => { c with held := false })).streamWrite id
    else (s.modCtx id (fun c => { c with held := false })).finishRead id

/-- An Unbind Stop that waited for a release finds its stop neither BOUND nor FENCED (R493). -/
def State.unbindRefused (s : State) (n : Nat) (w : StopGoal × Option Nat) : Bool :=
  match w.2 with
  | none => false
  | some id => match s.ctx id with
    | some c => c.sqe.opcode == 0xD4 && (s.stop n).state != 3 && (s.stop n).state != 4
    | none => false

/-- The triggers that waited for a release act, the first of them at once (R105, R498); an Unbind Stop that now finds nothing to unbind is refused. -/
def State.startWaiting (n : Nat) (ws : List (StopGoal × Option Nat)) (s : State) : State :=
  let no := ws.takeWhile (s.unbindRefused n)
  let s := s.each (no.filterMap (·.2)) (fun id t => t.complete id stSequence 0)
  match ws.drop no.length with
  | [] => s.modStop n (fun x => { x with waiting := [] })
  | w :: rest => (s.modStop n (fun x => { x with waiting := rest })).startEpoch n w.1 w.2

/-- Step 7: release. `failed`: the column check left too few columns (R496). -/
def State.releaseStop (n : Nat) (failed : Bool) (s : State) : State :=
  match (s.stop n).epoch with
  | none => s
  | some e =>
    let st := if failed then (if (s.binding n).mode = 0 then 0 else 4) else e.back
    let rest := (s.stop n).waiting
    let reset := (s.stop n).resetHold
    let s := s.modStop n (fun x => { x with
      state := st
      before := if failed then 3 else x.before
      image := if st = 0 then none else e.image
      used := if st = 0 then [] else x.used
      sram := if failed || st = 0 then [] else (match e.image with
        | some i => StopImageSram i
        | none => [])
      epoch := none
      resetHold := false
      drainAck := false
      window := 0
      lastCode := 0
      fenceCause := if st = 4 then 3 else 0
      fenceTime := if st = 4 then s.rtc else x.fenceTime
      fenceEpoch := if st = 4 then (s.binding n).epoch else x.fenceEpoch
      violTotal := 0
      irqMap0 := 0
      irqMap1 := 0
      framesIn := 0
      framesOut := 0
      late := 0 })
    -- the fence of the column check is reported like any other (R501)
    let s := if st ≠ 4 then s else
      let s := s.report (24 + n) (evUnnamed 8 3) n 0
      (match s.holder n with
        | some k => s.postVendor (keyPort k) 0xE4
        | none => s)
    let s := match e.ctx with
      | none => s
      | some id =>
        let load := match s.ctx id with
          | some c => c.sqe.opcode == 0xD5 || c.sqe.opcode == 0x10
          | none => false
        let s := if load then s.modCtx id (fun c => { c with
            phase := .seal e.recEpoch
            status := if failed then stInvalidField else .success
            dw0 := BitVec.ofNat 32 ((if failed then 7 else 0) + (s.now - e.start) / 10 % 65536 * 65536)
            dw1 := (s.binding n).epoch })
          else s.modCtx id (fun c => if c.sqe.opcode == 0xD4 then { c with phase := .seal e.recEpoch } else c)
        s.completeSealed id
    let s := if reset then (match s.holder n with
      | some k => s.resetChans k n
      | none => s) else s
    let ids := (s.ctxs.filter (fun c => c.held && c.stopNo == n)).map (·.id)
    let s := s.each ids (fun id t => t.resume n id)
    s.startWaiting n rest

/-- Step 6: a column that fails its check is disabled and the spare taken; with too few columns left the stop is given up (R496). -/
def State.columnsChecked (n : Nat) (failing : List Nat) (s : State) : State :=
  match (s.stop n).epoch with
  | none => s
  | some e =>
    if !e.drained then s else
    let bad := failing.filter (fun c => (s.stop n).used.contains c)
    match bad with
    | [] => s.releaseStop n false
    | c :: _ =>
      let first := !(s.stop n).spareUsed
      let s := s.modStop n (fun x => { x with colsOff := x.colsOff ++ bad, spareUsed := true, colFailed := if x.colFailed.isSome then x.colFailed else some c })
      let s := if first then ((s.modSpares (fun x => { x with stopCols := x.stopCols - 1, colsTaken := x.colsTaken + 1, lastTime := s.rtc })).logRec (.sub (.package 5 n c))).report (24 + n) (evUnnamed 12 11) n c else s
      let x := s.stop n
      if x.usable.length < (e.image.map (·.columns)).getD 0 then s.releaseStop n true
      else s.modStop n (fun x => { x with used := x.placed e.image })

/-- The checks of R487 on the header of an image against a stop. -/
def stopImageFields (i : StopImage) : Bool :=
  decide (0x0300 ≤ i.shellMin ∧ i.shellMin ≤ i.shellMax ∧ i.shellMax ≤ 0x0302 ∧ 1 ≤ i.columns ∧ i.columns ≤ 32 ∧
    i.macTiles ≤ 18 * i.columns ∧ i.length ≤ 48 * 2 ^ 20) &&
  i.frames.map (fun f => f.index) == List.range i.frames.length &&
  i.frames.all (fun f => decide (f.column < i.columns ∧ 1 ≤ f.target ∧ f.target ≤ 3 ∧ 4 ≤ f.payload.length ∧ f.payload.length ≤ 4096 ∧ f.payload.length % 4 = 0) &&
    (f.target != 3 || decide (f.address + f.payload.length ≤ 131072)))

/-- How far staged pieces reach without a gap from an offset they reach already. -/
def piecesReach (ps : List Piece) (at_ : Nat) : Nat :=
  ps.foldl (fun at_ p => if p.off ≤ at_ then max at_ (p.off + p.len) else at_) at_
/-- Staged pieces, whatever their order, cover bytes 0 to IMAGE_LENGTH − 1 (R490). -/
def Stop.stagedComplete (x : Stop) (i : StopImage) : Bool :=
  i.length ≤ x.staging.foldl (fun at_ _ => piecesReach x.staging at_) 0

/-- REFUSAL of a LOAD after the common checks, 0 where it is accepted (R486, R487, R492). -/
def State.loadRefusal (s : State) (n : Nat) (i : Option StopImage) (bodyOk : Bool) (e : Option (Fin 4)) (op : Option (BitVec 384)) : Nat :=
  match i with
  | none => 4
  | some i =>
    if !bodyOk || !stopImageFields i then 4
    else if !s.sigsOk e op then 5
    else if s.image.shell < i.shellMin ∨ i.shellMax < s.image.shell then 6
    else if (s.stop n).usable.length < i.columns then 7
    else if (s.binding n).mode ≠ 0 ∧ !i.modes.getLsbD ((s.binding n).mode - 1) then 8
    else 0

/-- The status of a REFUSAL (14, Load Stop Image refusals). -/
def refusalStatus (r : Nat) : Status := if r = 2 ∨ r = 9 ∨ r = 10 then stSequence else stInvalidField

end Sys2Proof.Machine
end

