-- ==== Sys2Proof/Machine/MoverOps.lean ====
section
/-! DEFINITION. How a data-mover channel takes a descriptor, checks it and carries it out (15). -/
namespace Sys2Proof.Machine

/-- Channel key. -/
def chanKey (m k : Nat) : Nat := m * 4 + k
/-- The stop a channel belongs to. -/
def chanStop (ch : Nat) : Option Nat := moverStop (ch / 4)
/-- A mover held as its quadrant's spare: it does no work under its own number (R21, R23). -/
def spareMover (ch : Nat) : Bool := ch / 4 % 17 == 16
/-- A channel takes nothing: a spare mover's; or tenant logic's while its stop is fenced or held in reset (R465, R466). -/
def State.chanShut (s : State) (ch : Nat) : Bool :=
  spareMover ch || match chanStop ch with
  | some n => s.stopFence n || s.stopReset n
  | none => false

/-- Whom a namespace transfer of a channel runs as: the stop's holder; for a firmware channel no instance, on the quadrant's internal contexts
(R36, R204). -/
def State.chanInst (s : State) (ch : Nat) : Option Nat :=
  match chanStop ch with
  | some n => s.holder n
  | none => some (instKey (8 + ch / 4 / 17) 0)

/-- A channel's ring lies where R506 has it: a stop's in the banks of its own SRAM, firmware's in firmware SRAM, HBM or DDR5. -/
def State.ringOk (s : State) (ch : Nat) : Bool :=
  let c := s.chan ch
  match chanStop ch with
  | some n => c.space == 2 && decide (c.addr + 64 * c.size ≤ 131072 * ((s.stop n).image.map (·.columns)).getD 0)
  | none => decide (5 ≤ c.space)

/-- The engine may take a descriptor (R507). -/
def State.canTake (s : State) (ch : Nat) : Bool :=
  let c := s.chan ch
  c.enable && !c.pause && !c.quiesced && c.head != c.tail && c.flight.isNone
/-- The descriptor at HEAD. -/
def Chan.next (c : Chan) : MvDesc := c.ring.get { own := false } c.head

/-- A violation of the stop a channel belongs to. -/
def State.chanViolation (ch code : Nat) (s : State) : State :=
  match chanStop ch with
  | some n => s.stopViolation n code false
  | none => s

/-- A descriptor at HEAD that is not the engine's halts the channel (R508). -/
def State.checkOwned (ch : Nat) (s : State) : State :=
  if s.canTake ch && !s.chanShut ch && s.ringOk ch && !(s.chan ch).next.own then (s.haltChan ch 1).chanViolation ch 7 else s

/-- A descriptor ends, and the next one is looked at. -/
def State.endDesc (ch status nvme : Nat) (s : State) : State := (s.updChan ch (fun c => c.endDesc status nvme)).checkOwned ch

/-- The cases of R510. -/
def State.illegal (s : State) (ch : Nat) (d : MvDesc) : Bool :=
  let c := s.chan ch
  let firmware := (chanStop ch).isNone
  let sideBad := fun (space nsid : Nat) => space == 4 && (match s.ns nsid with
    | some v => decide (d.length % v.spec.lba ≠ 0 ∨ 2 ^ 21 < d.length)
    | none => false)
  !d.resvZero || decide (5 ≤ d.op) ||
  (decide (d.op ≤ 2) && decide (d.length = 0 ∨ 2 ^ 28 < d.length)) ||
  (decide (3 ≤ d.op) && (d.length != 0 || d.csum != 0 || d.result || d.srcSpace != 0 || d.dstSpace != 0)) ||
  (d.op == 0 && (d.srcSpace == 0 || d.dstSpace == 0)) || (d.op == 1 && d.srcSpace != 0) ||
  (d.op == 2 && d.dstSpace != 0) ||
  (d.srcSpace == 3 && d.dstSpace == 3) ||
  (firmware && (d.srcSpace == 2 || d.srcSpace == 3 || d.dstSpace == 2 || d.dstSpace == 3)) ||
  sideBad d.srcSpace d.srcNsid || sideBad d.dstSpace d.dstNsid ||
  (d.chain && (d.csum == 0 || d.csum != c.csumKind))

/-- One side lies outside what the channel may name (R483). -/
def State.outside (s : State) (ch : Nat) (space addr nsid length : Nat) : Bool :=
  if space = 4 then
    match s.ns nsid with
    | none => true
    | some v => decide (v.spec.nsze < addr + length / v.spec.lba) || (match chanStop ch, s.chanInst ch with
      | some _, some k => !(s.attachedNs k).contains nsid
      | some _, none => true
      | none, _ => false)
  else match chanStop ch with
    | none => false
    | some n =>
      (s.holder n).isNone || decide (5 ≤ space) ||
      (space == 2 && decide (131072 * ((s.stop n).image.map (·.columns)).getD 0 < addr + length))

/-- A descriptor names a space or range its channel may not; no space at all is one only where its table lists it (space codes). -/
def State.windowed (s : State) (ch : Nat) (d : MvDesc) : Bool :=
  (d.op == 1 && d.dstSpace == 0) || (d.op == 2 && d.srcSpace == 0) ||
  s.outside ch d.srcSpace d.src d.srcNsid d.length && d.srcSpace != 0 || s.outside ch d.dstSpace d.dst d.dstNsid d.length && d.dstSpace != 0

/-- Source and destination overlap (R516). -/
def State.mvOverlap (s : State) (d : MvDesc) : Bool :=
  d.op == 0 && d.srcSpace == d.dstSpace && d.srcSpace != 3 && (
    if d.srcSpace == 4 then
      let nlb := match s.ns d.srcNsid with
        | some v => d.length / v.spec.lba
        | none => 0
      d.srcNsid == d.dstNsid && decide (d.src < d.dst + nlb ∧ d.dst < d.src + nlb)
    else decide (d.src < d.dst + d.length ∧ d.dst < d.src + d.length))

/-- A descriptor has a stream side (R518). -/
def MvDescPaced (d : MvDesc) : Bool := decide (d.op ≤ 2) && (d.srcSpace == 3 || d.dstSpace == 3)

/-- The host port a host address of a channel lies on. -/
def State.chanPort (s : State) (ch addr : Nat) : Nat :=
  match chanStop ch with
  | some n => match s.holder n with
    | some k => keyPort k
    | none => 0
  | none => addr / 2 ^ 61 % 8

/-- The channel of a mover that has the next burst: round robin over those with work, from the one after the last served (R504). -/
def State.burstTurn (s : State) (ch : Nat) : Bool :=
  let m := ch / 4
  let last := ((List.range 4).find? (fun k => (s.chan (chanKey m k)).served)).getD 3
  ((List.range 4).map (fun i => chanKey m ((last + 1 + i) % 4))).find? (fun k => match (s.chan k).flight with
    | some f => f.moves
    | none => false) == some ch
/-- A channel was served the mover's last burst. -/
def State.markServed (ch : Nat) (s : State) : State :=
  s.each ((List.range 4).map (fun k => chanKey (ch / 4) k)) (fun k t => t.updChan k (fun c => { c with served := k == ch }))

/-- How a channel's write to host memory goes out: a stop's under the PASID of its holder (R133). -/
def State.chanDma (s : State) (ch p : Nat) : Dma :=
  match chanStop ch, s.chanInst ch with
  | some _, some k => s.dmaOf k
  | _, _ => { relaxed := (s.port p).relaxed }

/-- Zero-length reads go to each port written since the last fence (R514). -/
def State.fenceReads (ch : Nat) (s : State) : State :=
  let ps := (s.chan ch).ports
  let s := ps.foldl (fun t p => t.emit (.zeroRead p.1 p.2 (s.chanDma ch p.1).pasid)) s
  s.modChan ch (fun c => { c with ports := [], fenceReads := ps.length })

/-- The context a namespace transfer takes: one of the quadrant's internal ones for its firmware, else a command slot of the instance within the
quadrant's 16,384 (R36, R484); `true`: from the instance's reservation. -/
def State.moverSlot (s : State) (k : Nat) : Option Bool :=
  if 1024 ≤ k then (if s.internalUse (k / 128 - 8) s.health.nextOp < 8192 then some true else none)
  else if 16384 ≤ s.quadCtxs (k / 128) then none else s.slotFor k

/-- A namespace side is carried out as a Read or a Write of the channel's instance (R484). It waits where no command slot is free. -/
def State.moverCommand (ch : Nat) (write : Bool) (nsid slba : Nat) (bytes : List Byte) (s : State) : State :=
  match s.chanInst ch, s.ns nsid, (s.chan ch).flight with
  | some k, some v, some f =>
    let nlb := f.desc.length / v.spec.lba
    let q : Sqe := { opcode := if write then 0x01 else 0x02, nsid := nsid, cdw10 := BitVec.ofNat 32 slba, cdw11 := BitVec.ofNat 32 (slba / 2 ^ 32), cdw12 := BitVec.ofNat 32 (nlb - 1) }
    match s.parseIo k q with
    | some (st, _) =>
      -- a namespace destination has taken no byte
      if write then (s.modChan ch (fun c => { c with flight := some { f with done := 0, data := [] } })).endDesc ch 6 st.field else s.endDesc ch 5 st.field
    | none =>
      match s.moverSlot k with
      | none => s
      | some res =>
        let id := s.nextCtx
        let c : Ctx := { id := id, port := k / 128, inst := k % 128, gen := s.gen k, qid := 0, stamp := s.fetches + 1, time := s.now, sqe := q, admin := false, phase := if 1024 ≤ k then .ready else .admission, ov := s.overlapOf q, wt := write && s.isWt v.spec, cost := s.costOf q, reserved := res, mover := some ch, data := (List.range nlb).map (fun i => (bytes.drop (i * v.spec.lba)).take v.spec.lba) }
        let s := s.modChan ch (fun c => { c with flight := some { f with ctx := some id } })
        { s with ctxs := s.ctxs ++ [c], nextCtx := id + 1, fetches := s.fetches + 1 }
  | _, _, _ => s

/-- A descriptor begins: refused, done at once, or its bursts follow (R509 to R516, R521). -/
def State.beginDesc (ch : Nat) (s : State) : State :=
  let c := s.chan ch
  let d := c.next
  let reg := if d.chain then c.running else d.seed
  let ov := s.mvOverlap d
  let f : InFlight := { desc := d, index := c.head, overlap := ov, down := ov && d.srcSpace != 4 && decide (d.src < d.dst), reg := reg }
  let s := s.modChan ch (fun c => { c with flight := some f, valid := if d.result then false else c.valid })
  if s.illegal ch d then (s.endDesc ch 3 0).chanViolation ch 7
  else if s.windowed ch d then (s.endDesc ch 4 0).chanViolation ch 8
  else if d.op = 4 then s.endDesc ch 0 0
  else if d.op = 3 then
    (if c.ports.isEmpty then s.endDesc ch 0 0 else s.fenceReads ch)
  else if d.srcSpace = 4 then s.moverCommand ch false d.srcNsid d.src []
  else s

/-- The engine takes the descriptor at HEAD: one of the operation named, or one of no operation at all (R507, R513, R518). A ring that lies where
it may not cannot be read: the channel halts with cause 2 (R506, R523). -/
def State.takeDesc (ch op : Nat) (s : State) : State :=
  let c := s.chan ch
  let d := c.next
  if !s.canTake ch || s.chanShut ch then s
  else if !s.ringOk ch then s.haltChan ch 2
  else if !(d.op == op || decide (5 ≤ d.op)) then s
  else if !d.own then s.checkOwned ch
  else if MvDescPaced d && !c.request then s
  else if d.fenceBefore && !c.ports.isEmpty then
    (s.modChan ch (fun c => { c with flight := some { desc := d, index := c.head, started := false } })).fenceReads ch
  else s.beginDesc ch

/-- Bytes of the next burst: up to the next 4 KiB boundary of the destination's address, or of the source's where the destination has none; a side that
names no memory (a pattern, a stream, a namespace) is counted from the transfer's first byte (R504, R516). -/
def InFlight.burst (f : InFlight) : Nat :=
  let d := f.desc
  let left := d.length - f.done
  if f.down then
    let top := (d.dst + left) % 4096
    min left (if top = 0 then 4096 else top)
  else
    let base :=
      if d.dstSpace = 0 ∨ d.dstSpace = 3 then (if d.op = 1 ∨ d.srcSpace = 3 ∨ d.srcSpace = 4 then 0 else d.src)
      else if d.dstSpace = 4 then 0 else d.dst
    min left (4096 - (base + f.done) % 4096)

/-- Byte offset of that burst in the transfer. -/
def InFlight.offset (f : InFlight) : Nat := if f.down then f.desc.length - f.done - f.burst else f.done

/-- The bytes of a burst: the pattern of a FILL, what a namespace or a stream gave, or what the burst read. -/
def InFlight.bytes (f : InFlight) (got : List Byte) : List Byte :=
  let d := f.desc
  if d.op = 1 then (List.range f.burst).map (fun i => (leBytes 8 d.src)[(f.offset + i) % 8]?.getD 0)
  else if d.srcSpace = 3 then (f.src.getD []).take (d.length - f.done)
  else if d.srcSpace = 4 then ((f.src.getD []).drop f.offset).take f.burst
  else (List.range f.burst).map (fun i => (got[i]?).getD 0)

/-- The bytes of a burst; those of stop-local SRAM are the banks' own. -/
def State.burstBytes (s : State) (ch : Nat) (f : InFlight) (got : List Byte) : List Byte :=
  match (if f.desc.op ≠ 1 ∧ f.desc.srcSpace = 2 then chanStop ch else none) with
  | some n => (List.range f.burst).map (fun i => (s.stop n).sram.get 0 (f.desc.src + f.offset + i))
  | none => f.bytes got

/-- A channel writes nothing to host memory: its stop's holder is isolated, or above 0 without PASID (R196, R226). -/
def State.chanMute (s : State) (ch : Nat) : Bool :=
  match chanStop ch, s.chanInst ch with
  | some _, some k => (s.inst k).state == .isolated || !s.mayTag k
  | _, _ => false

/-- A burst's bytes go to the destination. -/
def State.writeBurst (ch : Nat) (f : InFlight) (bs : List Byte) (s : State) : State :=
  let d := f.desc
  let at_ := d.dst + f.offset
  if d.dstSpace = 1 then
    let p := s.chanPort ch at_
    let last := at_ + bs.length - 1
    let o : Out := .moverWrite (ch / 4) (ch % 4) 1 at_ bs.length (some (s.chanDma ch p))
    let s := if s.chanMute ch then s else s.hostWrite p o
    s.modChan ch (fun c => { c with ports := (p, last) :: c.ports.filter (fun e => !(e.1 == p)) })
  else if d.dstSpace = 2 then
    match chanStop ch with
    | some n => s.modStop n (fun x => { x with sram := (List.range bs.length).foldl (fun t i => Tbl.set t (at_ + i) ((bs[i]?).getD 0)) x.sram })
    | none => s
  else if d.dstSpace = 3 then
    match chanStop ch with
    | some n => s.emit (.toStop n { typ := 6, kind := 5, tag := f.index, length := bs.length, offset := f.offset, channel := ch % 4, payload := [bs] })
    | none => s
  else if d.dstSpace = 0 ∨ d.dstSpace = 4 then s
  else s.emit (.moverWrite (ch / 4) (ch % 4) d.dstSpace at_ bs.length none)

/-- A burst is done: the descriptor goes on, waits for its Write or its last beat, or ends (R512, R518, R523). -/
def State.afterBurst (ch : Nat) (s : State) : State :=
  match (s.chan ch).flight with
  | none => s
  | some f =>
    if f.stopping.isSome then s.endDesc ch 2 0
    else if f.desc.length ≤ f.done then
      (if f.desc.dstSpace = 4 then s.moverCommand ch true f.desc.dstNsid f.desc.dst f.data
       else if f.desc.dstSpace = 3 ∧ 0 < f.beats then s
       else s.endDesc ch 0 0)
    else if f.withdrawn then s.endDesc ch 1 0
    else s

end Sys2Proof.Machine
end

