-- ==== Sys2Proof/Machine/UpkeepOps.lean ====
section
/-! DEFINITION. Health events, media write-protect, the order of a relocation, the close and the seal of a journal epoch (03, 07, 11). -/
namespace Sys2Proof.Machine

/-! ## Health events (R387) -/

/-- A health event: a warning of log page 0xE3, an entry of the event journal, and, for vendor events, the event of page 0xE3.
Warnings beyond the 32 the page holds are not kept (DESIGN CHOICE, log entry 33). -/
def State.healthEvent (ev obj val : Nat) (vendor : Bool) (s : State) : State :=
  let s := s.modHealth (fun h => { h with warnings := if h.warnings.length < 32 then h.warnings ++ [(ev, obj, val, s.rtc)] else h.warnings })
  let s := s.report (srcFirmware 0) ev obj val
  if vendor then s.allPorts (fun p t => t.postOutstanding p 0xE3) else s

/-- A reserve of R26 is spent. -/
def Spares.spent (x : Spares) : Bool := x.cores == 0 || x.ldpc == 0 || x.movers == 0 || x.xcvr == 0
/-- DEGRADE_CAUSE bit 17 (R383). -/
def State.reviewSpares (s : State) : State :=
  s.setDegrade dgSpare (s.spares.spent || s.spares.pods == 0 || !s.live.lostMem.isEmpty)

/-! ## Write-closed groups and media write-protect (R384 to R386) -/

/-- Every group is write-closed: writes without cache space end, filling class stripes are closed. -/
def State.enterProtect (s : State) : State :=
  let s := (s.modHealth (fun h => { h with writeProtect := true })).setDegrade dgProtect true
  let s := (s.healthEvent 0x0B11 0 0 false).postSmart 3 0
  let ids := (s.ctxs.filter (fun c => c.phase == .space && c.placed.isEmpty)).map (·.id)
  let s := s.each ids (fun id t => (t.modCache (fun c => { c with waiting := c.waiting.filter (fun x => !(x == id)) })).complete id stExhausted 0)
  s.each (List.range s.cache.stripes.length) (fun i t =>
    match t.stripe i with
    | some x => (match x.stream with
      | .cls _ => t.closeStripe i
      | _ => t)
    | none => t)

def State.leaveProtect (s : State) : State :=
  if s.health.writeProtect then
    (((s.modHealth (fun h => { h with writeProtect := false })).setDegrade dgProtect false).healthEvent 0x0B12 0 0 false).postSmart 3 0
  else s

/-- A group becomes write-closed or stops being. -/
def State.setClosed (g : Nat) (on : Bool) (s : State) : State :=
  if (s.group g).closed == on then s else
  let s := (s.modGroup g (fun x => { x with closed := on })).healthEvent 0x0B10 g on.toNat true
  if on then (if s.groupList.all (fun g => (s.group g).closed) then s.enterProtect else s) else s.leaveProtect

/-! ## Relocation (R364 to R371) -/

/-- Units, with their media unit numbers, that map into a band. -/
def State.unitsIn (s : State) (g b : Nat) : List (Nat × Nat × Nat) :=
  s.live.map.filterMap (fun (e : Nat × MapVal) =>
    match e.2 with
    | .mun m =>
      match s.locate m with
      | some x => if x.group == g && x.band == b then some (e.1 / 2 ^ 40, e.1 % 2 ^ 40, m) else none
      | none => none
    | _ => none)
/-- Lines whose checkpoint record lies in a band. -/
def State.linesIn (s : State) (g b : Nat) : List (Nat × Nat × Nat) :=
  s.live.dir.filterMap (fun (e : Nat × DirEntry) =>
    match s.locate e.2.mun with
    | some x => if x.group == g && x.band == b then some (e.1 / 2 ^ 40, e.1 % 2 ^ 40, e.2.mun) else none
    | none => none)
/-- Codewords of a unit of a namespace. -/
def State.cwsOf (s : State) (nsid : Nat) : Nat :=
  match s.ns nsid with
  | some v => unitCws v.spec
  | none => 1
/-- Valid slots of a band (R365). -/
def State.validIn (s : State) (g b : Nat) : Nat :=
  (s.unitsIn g b).foldl (fun n u => n + s.cwsOf u.1) 0 + (s.linesIn g b).length
/-- Data slots of a band. -/
def State.bandSlots (s : State) (g : Nat) : Nat := (s.vmun g).rowsPerBand * (s.vmun g).dataMembers * (s.vmun g).slotsPerRow

/-- The relocation of a band, if one runs. -/
def State.reloc (s : State) (g b : Nat) : Option Reloc := s.health.relocs.find? (fun r => r.group == g && r.band == b)
def State.modReloc (g b : Nat) (f : Reloc → Reloc) (s : State) : State :=
  s.modHealth (fun h => { h with relocs := h.relocs.map (fun r => if r.group == g && r.band == b then f r else r) })
def State.dropReloc (g b : Nat) (s : State) : State :=
  s.modHealth (fun h => { h with relocs := h.relocs.filter (fun r => !(r.group == g && r.band == b)) })

/-- Chanter class of a relocation's reads (R327, R366) and of its erase. -/
def relocReadClass (why : Nat) : OpClass := if why = 0 then .gc else .drone
def relocEraseClass (why : Nat) : OpClass := if why = 0 then .gc else .write

/-- Codewords of a band that the map or the directory names. -/
def State.validCws (s : State) (g b : Nat) : List Nat :=
  ((s.unitsIn g b).flatMap (fun u => (List.range (s.cwsOf u.1)).map (fun j => u.2.2 + j))) ++ (s.linesIn g b).map (fun l => l.2.2)
/-- Its other programmed codewords, which are garbage. -/
def State.garbageCws (s : State) (g b : Nat) : List Nat :=
  (s.cw.filter (fun (e : Nat × Codeword) => e.2.programmed && e.2.kind != 0 && !(s.validCws g b).contains e.1 && (match s.locate e.1 with
    | some x => x.group == g && x.band == b
    | none => false))).map (·.1)
/-- Step 1: every codeword of the band is read, and copied where the map or the directory still names it; a band without a valid slot needs no copy
(R364, R366). -/
def State.startReloc (g b why : Nat) (s : State) : State :=
  let s := if (s.band g b).state == .victim then s else s.logBand g b .victim
  let s := s.modHealth (fun h => { h with relocs := h.relocs ++ [{ group := g, band := b, why := why }] })
  let ms := s.validCws g b
  if ms.isEmpty then s else
  s.each (ms ++ s.garbageCws g b) (fun m t => if t.inStripe m then t else t.queueRead m (.relocation g b) 0 (relocReadClass why))

/-- Step 4: the erase of every member's block of the band (R366); a member that is gone has none (R394). -/
def State.queueErase (g b : Nat) (cls : OpClass) (s : State) : State :=
  s.each ((List.range s.width).filter (fun p => !s.memberGone g b p)) (fun p t =>
    let slot := t.slotAt g p
    let die := t.dieAt slot (b % 16)
    t.addOp { id := 0, link := slot, die := die, cls := cls, kind := .erase, group := g, band := b, block := t.physBlock slot die (b / 16) })

/-- The erase of a band that holds nothing begins. -/
def State.startErase (g b : Nat) (s : State) : State :=
  (s.modHealth (fun h => { h with relocs := h.relocs ++ [{ group := g, band := b, why := 3, step := 4 }] })).queueErase g b .gc
/-- A band has an erase intent. -/
def State.intentOn (s : State) (g b : Nat) : Bool := (s.band g b).state == .erasePending || (s.band g b).intent
/-- Bands that held earlier format records and are still to be erased: they go before any other (R582). -/
def State.formatOwed (s : State) : List Nat :=
  match s.format with
  | some r => r.was.filter (fun k => s.intentOn (k / 65536) (k % 65536))
  | none => []
/-- A band of a die set with an erase intent and no erase under way (R369, R582). -/
def State.nextPending (s : State) (g d : Nat) : Option Nat :=
  let first := s.formatOwed
  ((List.range ((s.vmun g).bands / 16)).map (fun i => 16 * i + d)).find? (fun b =>
    s.intentOn g b && (s.reloc g b).isNone && (first.isEmpty || first.contains (bandKey g b)))
/-- Bands with an erase intent are erased one after another in each die set. -/
def State.erasePendingIn (g d : Nat) (s : State) : State :=
  if s.health.relocs.any (fun r => r.group == g && r.band % 16 == d && r.step == 4) then s else
  match s.nextPending g d with
  | some b => s.startErase g b
  | none => s
/-- Bands with an erase intent are erased, one after another in each die set (R71, R369). -/
def State.eraseOwed (s : State) : State := s.each s.groupList (fun g t => t.each (List.range 16) (fun d t => t.erasePendingIn g d))

/-- Relocations whose step waited for a seal go on (R366). -/
def State.stepRelocs (s : State) : State :=
  s.health.relocs.foldl (fun t r =>
    if r.step = 2 ∧ t.isSealed r.epoch then (t.logBand r.group r.band .intent).modReloc r.group r.band (fun x => { x with step := 3, epoch := t.jrn.openEpoch })
    else if r.step = 3 ∧ t.isSealed r.epoch then (t.modReloc r.group r.band (fun x => { x with step := 4 })).queueErase r.group r.band (relocEraseClass r.why)
    else if r.step = 5 ∧ t.isSealed r.epoch then t.dropReloc r.group r.band
    else t) s

/-! ## The journal epoch's close and seal (R99 to R107, R259 to R261, R319) -/

/-! ## Mirrored records: the key table, the format record (R319, R582, R585) -/

/-- A FREE band of a group for a mirrored record, of a die set no other copy lies in (which one is a DESIGN CHOICE, log entry 107). -/
def State.spareSystem (s : State) (g : Nat) (off : Option Nat) : Option Nat :=
  (List.range 16).findSome? (fun d => if (off.map (fun k => decide (k / 65536 = g) && k % 16 == d)).getD false then none else (s.freeIn g d).head?.map (bandKey g))
/-- Bands for the two copies of a mirrored record. -/
def State.spareSystems (s : State) (seq : Nat) : List Nat :=
  match s.copyPlaces seq with
  | none => []
  | some (a, b) => let x := s.spareSystem a none; x.toList ++ (s.spareSystem b x).toList
/-- A band that held a copy is given up: its erase intent, then, once that is sealed, its erase. -/
def State.giveUpBand (k : Nat) (s : State) : State :=
  (s.logBand (k / 65536) (k % 65536) .intent).modHealth (fun h =>
    { h with relocs := h.relocs ++ [{ group := k / 65536, band := k % 65536, why := 3, step := 3, epoch := s.jrn.openEpoch }] })
/-- The key table is written anew, and the bands of its earlier copies are given up (R585). Without a FREE band its copies stay where they are. -/
def State.rewriteKeys (s : State) : State :=
  let t := s.part.keyTab
  let new := s.spareSystems (t.seq + 1)
  if new.isEmpty then s.modPart (fun p => { p with keyTab := { t with seq := t.seq + 1, formats := s.writtenFormats } })
  else
    let s := s.each new (fun k u => u.logBand (k / 65536) (k % 65536) (.role .system))
    let s := s.each t.bands State.giveUpBand
    s.modPart (fun p => { p with keyTab := { t with seq := t.seq + 1, formats := s.writtenFormats, bands := new, old := t.old.filter (fun k => !new.contains k) ++ t.bands } })
/-- After a restart: bands of the key table whose last record was not sealed take it again. -/
def State.settleKeyBands (s : State) : State :=
  let s := s.each (s.part.keyTab.bands.filter (fun k => s.isFree (k / 65536) (k % 65536))) (fun k u => u.logBand (k / 65536) (k % 65536) (.role .system))
  s.each (s.part.keyTab.old.filter (fun k => (s.band (k / 65536) (k % 65536)).state == .system)) State.giveUpBand

/-- The format record takes its places among the SYSTEM bands of the groups R319 names; the bands of the record before it are erased first (R582). -/
def State.placeFormat (was : List Nat) (s : State) : State :=
  match s.format with
  | none => s
  | some r =>
    let sys := fun (g : Nat) => (s.bandsOf g).filter (fun b => (s.band g b).state == .system)
    let at_ := match s.copyPlaces (r.seq + 1) with
      | none => []
      | some (a, b) =>
        if a = b then (sys a).take 2 |>.map (bandKey a)
        else ((sys a).take 1).map (bandKey a) ++ ((sys b).take 1).map (bandKey b)
    { s with format := some { r with seq := r.seq + 1, bands := at_, was := was, formats := s.writtenFormats } }

/-- The open epoch closes and its seal starts; the next opens (R99, R106). -/
def State.closeEpoch (s : State) : State :=
  if s.jrn.sealing.isSome then s else
  s.modJrn (fun j => { j with sealing := some j.opened, opened := [], openEpoch := j.openEpoch + 1, openedAt := s.now, copies := s.copyPlaces j.openEpoch, closingLogs := s.insts.map (fun (x : Nat × Inst) => (x.1, x.2.defLog)) })

/-- A directory record is sealed: its line is clean, or lacks only what changed after the checkpoint (R260). -/
def State.lineSealed (nsid ln : Nat) (s : State) : State :=
  s.modLine nsid ln (fun x =>
    if !x.ckpt then x
    else { x with ckpt := false, dirty := x.later != 0, changed := x.later, later := 0, overlay := false })

/-- The seal's commit point: the epoch's records are durable, the event journal and log page 0xE0 as its epoch left them are persisted with it (R102, R655),
commands that waited for it complete, and bands, credits and relocations move on. -/
def State.commitSeal (s : State) : State :=
  match s.jrn.sealing with
  | none => s
  | some rs =>
    let s := { s with sealed := rs.foldl Durable.apply s.sealed }
    let e := s.jrn.openEpoch - 1
    let s := s.modJrn (fun j => { j with
      sealing := none
      sealedEpoch := e
      counts := j.counts ++ [(e, rs.length)]
      nonceKept := j.nonce
      defLogs := j.closingLogs })
    let s := rs.foldl (fun t r => match r with
      | .directory nsid ln _ _ _ => t.lineSealed nsid ln
      | _ => t) s
    let s := s.modJrn (fun j => { j with counts := j.counts.filter (fun x => decide (s.windowStart ≤ x.1)) })
    let evs := (s.ev.ring.filter (fun (x : JEntry) => decide (s.ev.persisted < x.seq))).reverse
    let s : State := { s with ev := { s.ev with
      persisted := s.ev.lastSeq
      history := (evs ++ s.ev.history).take 1048576 } }
    let s := s.each (s.ctxs.map (·.id)) (fun id t => t.completeSealed id)
    let s := s.each s.groupList (fun g t =>
      let t := t.reviewCredit g
      if (t.group g).closed && decide (7 ≤ t.freeCount g) then t.setClosed g false else t)
    (s.stepRelocs.reviewSpares).retry

/-- An epoch whose seal has to follow at once: what is being sealed first, then the open one (R106). -/
def State.sealNow (s : State) : State := s.commitSeal.closeEpoch.commitSeal

end Sys2Proof.Machine
end

