-- ==== Sys2Proof/Machine/EpochOps.lean ====
section
/-! DEFINITION. Entering and leaving QUIESCE, accepting a device epoch, and what formats and erasures do to a namespace (03, 07, 17). -/
namespace Sys2Proof.Machine

/-! ## QUIESCE (R92 to R98) -/

/-- A device epoch, an extended self-test or a maintenance hold is accepted or running (R95). -/
def State.quiesceBusy (s : State) : Bool :=
  s.modes.epoch.isSome || s.modes.hold.isSome || (match s.modes.selfTest with
    | some t => t.extended
    | none => false)

/-- Channels of the stops that run free (R93). -/
def State.freeChans (s : State) : List Nat := (stopNos.filter (fun n => (s.binding n).mode == 5)).flatMap stopChans

/-- QUIESCE is entered: PS0 first (R113), CSTS.PP on every port (R138), free-running stops paused (R93). -/
def State.enterQuiesce (cause : Nat) (s : State) : State :=
  let s := s.modModes (fun m => { m with mode := .quiesce, quiesceCause := cause, quiesceAt := s.now, ps := 0, lastOpPs := 0, psEntry := none, excursion := false })
  let s := s.allPorts (fun p t => t.modPort p (fun x => { x with pp := true }))
  s.each s.freeChans (fun k t => t.modChan k (fun c => { c with quiesced := true }))

/-- QUIESCE is left: fetch resumes (R98). -/
def State.leaveQuiesce (s : State) : State :=
  let s := s.modModes (fun m => { m with mode := if m.degrade = 0 then .service else .degraded, quiesceCause := 0 })
  let s := s.allPorts (fun p t => t.modPort p (fun x => { x with pp := false }))
  let paused := (stopNos.filter (fun n => !(s.stop n).resetHold)).flatMap stopChans
  let s := s.each (paused.filter (fun k => (s.chan k).quiesced)) (fun k t => (t.modChan k (fun c => { c with quiesced := false })).checkOwned k)
  s.reviewPs

/-- A device epoch is accepted; the command that started it is exempt from its drain (R92). -/
def State.startDevEpoch (cause : Nat) (act : EpochAct) (ctx : Option Nat) (s : State) : State :=
  let s := (s.enterQuiesce cause).modModes (fun m => { m with epoch := some { cause := cause, act := act, ctx := ctx, start := s.now } })
  match ctx with
  | some id => s.modCtx id (fun c => { c with phase := .epoch })
  | none => s

/-- An admin command asks for a device epoch: refused with Command Sequence Error while another runs (R95), or outside SERVICE and DEGRADED. -/
def State.askEpoch (id cause : Nat) (act : EpochAct) (s : State) : State :=
  if s.quiesceBusy || !s.serving then s.complete id stSequence 0 else s.startDevEpoch cause act (some id)

/-- The effect of an admin command whose row comes again while it waits for other commands. -/
def State.adminWait (id op : Nat) (go : Ctx → State → State) (s : State) : State :=
  match s.ctx id with
  | none => s
  | some c => if c.admin && (c.phase == .ready || c.phase == .drain) && c.sqe.opcode == op && s.adminOn then go c s else s

/-! ## Namespaces (R238, R239, R586) -/

/-- Commands already fetched for a namespace by some instances. -/
def State.nsBusy (s : State) (nsid : Nat) (ks : Nat → Bool) : Bool := s.ctxs.any (fun c => !c.admin && c.phase != .posted && c.sqe.nsid == nsid && ks c.key)

/-- Lines of a namespace that hold anything below T0. -/
def State.linesOf (s : State) (nsid : Nat) : List Nat :=
  (s.lines.filter (fun (e : Nat × Line) => e.1 / 2 ^ 40 == nsid)).map (fun e => e.1 % 2 ^ 40)

/-- Every unit of a namespace is set to 0xFF_FFFF_FFFF. -/
def State.unmapAll (v : Ns) (s : State) : State :=
  s.setRun v.nsid 0 v.units (s.linesOf v.nsid) .unmapped

/-- A namespace takes the other block size, its size in bytes kept (R239). -/
def State.formatNs (flbas : Nat) (v : Ns) (s : State) : State :=
  let s := s.unmapAll v
  let size := v.spec.nsze * v.spec.lba
  let n := size / (if flbas = 0 then 512 else 4096)
  s.logRec (.nsSet { v with spec := { v.spec with flbas := flbas, nsze := n, ncap := n } })

/-- A key is generated in a namespace's slot (R583). -/
def State.newKey (nsid : Nat) (s : State) : State :=
  let k := s.part.keys.get {} (nsid - 1)
  (s.modPart (fun p => { p with keys := p.keys.set (nsid - 1) { state := .active, persist := true, kcv := some ((Config.freeDraw s.free).setWidth 64), gen := k.gen + 1 } })).drew
/-- A slot is zeroized. -/
def State.zeroKey (nsid : Nat) (s : State) : State :=
  s.modPart (fun p => { p with keys := p.keys.set (nsid - 1) { gen := (p.keys.get {} (nsid - 1)).gen } })

/-- Steps 2 to 4 of Crypto Erase on one namespace; what its slot held is in force again if power is lost before the command completes (R586). -/
def State.eraseNs (new : Bool) (v : Ns) (s : State) : State :=
  let was := s.part.keys.get {} (v.nsid - 1)
  let s := s.modPart (fun p => { p with keyTab := { p.keyTab with undo := if (p.keyTab.undo.find (v.nsid - 1)).isSome then p.keyTab.undo else p.keyTab.undo.set (v.nsid - 1) was } })
  let s := s.zeroKey v.nsid
  let s := if new then s.newKey v.nsid
    else s.modPart (fun p => { p with keys := p.keys.set (v.nsid - 1) { p.keys.get {} (v.nsid - 1) with state := .locked } })
  (s.logRec (.nsSet { v with keyGen := v.keyGen + 1 })).unmapAll v
/-- Crypto Erase of namespaces, and step 5: the key table is rewritten. -/
def State.eraseKeys (new : Bool) (vs : List Ns) (s : State) : State := (vs.foldl (fun t v => t.eraseNs new v) s).rewriteKeys

end Sys2Proof.Machine
end

