-- ==== Sys2Proof/Machine/Flags.lean ====
section
/-! DEFINITION. The indications the module computes from its state: zone thresholds, the SMART critical warning, ALERT_N, the LEDs (03, 11, 16, 20). -/
namespace Sys2Proof.Machine

/-! ## Zones (R543, R559) -/

/-- Zone indices: 0 to 6 and the pods' 8 to 151. -/
def zoneNos : List Nat := List.range 7 ++ (List.range 144).map (fun l => 8 + l)
/-- The kind of a zone: junction, HBM, DDR5, board, pod. -/
def zoneKind (z : Nat) : Nat := if z ≤ 3 then 0 else if z = 4 then 1 else if z = 5 then 2 else if z = 6 then 3 else 4
/-- Sensors of a zone. -/
def zoneSensors (z : Nat) : Nat := [6, 2, 8, 6, 1].getD (zoneKind z) 1
/-- A reduction of KR_THRESH_OVR, °C. -/
def Keep.down (k : Keep) (i : Nat) : Nat := k.threshOvr.toNat / 2 ^ (4 * i) % 16
/-- Grace time in force, ms (R556). -/
def Keep.graceMs (k : Keep) : Nat := k.threshOvr.toNat / 2 ^ 40 % 512 * 100
/-- Thresholds in force and hysteresis of a zone, °C (16, Thermal zones). -/
def Keep.warn (k : Keep) (z : Nat) : Nat := [95, 85, 85, 80, 70].getD (zoneKind z) 0 - k.down (2 * zoneKind z)
def Keep.throttle (k : Keep) (z : Nat) : Nat := [105, 92, 90, 90, 77].getD (zoneKind z) 0 - k.down (2 * zoneKind z + 1)
def zoneShut (z : Nat) : Nat := [118, 100, 95, 100, 85].getD (zoneKind z) 0
def zoneHyst (z : Nat) : Nat := [5, 4, 3, 3, 3].getD (zoneKind z) 0

def State.zone (s : State) (z : Nat) : Zone := s.pw.zones.get {} z
/-- A pod without a working sensor does not raise the mute level (R550, R553). -/
def State.muteZone (s : State) (z : Nat) : Bool := z < 8 || (s.zone z).failed.isEmpty
/-- The highest level of the zones the mute level is decided from. -/
def State.zoneLevel (s : State) : Nat := ((zoneNos.filter s.muteZone).map (fun z => (s.zone z).level)).foldl max 0

/-! ## SMART (R89, R389, R540, R552) -/

/-- Bit 1 of the critical warning on a port (R552). -/
def State.tempWarn (s : State) (p : Nat) : Bool :=
  decide ((s.port p).tempOver ≤ s.pw.composite) || decide (s.pw.composite < (s.port p).tempUnder) || decide (1 ≤ s.zoneLevel)
/-- Usable energy below 24 J (R540). -/
def State.below24 (s : State) : Bool := decide (s.pw.energy < 240)
/-- The SMART critical warning of a port. -/
def State.smartWarning (s : State) (p : Nat) : Nat :=
  s.health.spareLow.toNat + 2 * (s.tempWarn p).toNat + 4 * (s.health.everRetired || s.health.writeProtect).toNat +
  8 * s.health.writeProtect.toNat + 16 * (s.below24 || s.keep.backupWarn).toNat

/-! ## What the power states switch (R46, R109) -/

/-- Share of a die's time operations may take, 1/1,024: PS1 and PS2 limit it (R46); the lower of this and of the mute level's limit governs (R110). -/
def State.psDuty (s : State) : Nat := if s.modes.ps = 1 ∨ s.modes.ps = 2 then min 1024 (Config.psDuty s.modes.ps) else 1024
def State.dutyOf (s : State) (l : Nat) : Nat := min (s.chanter l).duty s.psDuty
/-- In PS3 and PS4 the PCIe links stand in a low-power state and the stops are clock-gated; in PS4 the pods are parked. -/
def State.linksLow (s : State) : Bool := s.serving && decide (3 ≤ s.modes.ps)
def State.stopsGated (s : State) : Bool := s.serving && decide (3 ≤ s.modes.ps)
def State.podsParked (s : State) : Bool := s.serving && s.modes.ps == 4
/-- HBM is in self-refresh: in PS4, and where a clock fault holds the protected cache there (R80). -/
def State.selfRefresh (s : State) : Bool := s.podsParked || (s.modes.mode == .safeHold && s.part.clockFault && !s.part.dumped && s.pw.inputOk)

/-! ## Supply rails of a pod bay (R635) -/

/-- 3V3_AUX of the pod connectors, and 3V3_MG with it: on from bring-up step 1 until KEEP, and in SAFE-HOLD. -/
def State.auxOn (s : State) : Bool := s.modes.mode != .keep && (s.modes.mode != .bringUp || decide (1 ≤ s.modes.step))
/-- RAIL_OK of J2 is released: the pod rail is on, and no power stage or pod rail fault has been reported (R530, R632). -/
def State.railOk (s : State) : Bool := s.pw.rail && s.pw.state != 4
/-- The JTAG and UART pins of J41 are driven and read: at RPL0 only, from bring-up step 2 on (R578, R643). -/
def State.debugPins (s : State) : Bool := s.part.debugOn

/-! ## Pins (R640, R642) -/

/-- ALERT_N is driven low. -/
def State.alert (s : State) : Bool :=
  s.modes.mode == .safeHold || s.modes.mode == .degraded || decide (2 ≤ s.pw.mute) || decide (0 < s.mech.miWaiting)

/-- The latch counts as open (R641). -/
def Mech.latchOpen (m : Mech) : Bool := !m.latchModule || !m.latchEncl

/-- How an LED is driven. -/
inductive Led where
  | off | steady | slow | fast
  deriving DecidableEq, Repr

/-- All three are off from step 2 of a flush to the end of its step 6, and then on the bank. -/
def State.ledsOff (s : State) : Bool := s.modes.flush.isSome || s.modes.mode == .keep || (s.modes.mode == .safeHold && s.pw.bankOnBus)
/-- The PWR LED. -/
def State.ledPwr (s : State) : Led := if s.ledsOff then .off else if s.modes.mode == .bringUp then .slow else .steady
/-- The STATUS LED, and whether it is amber. -/
def State.ledStatus (s : State) : Led × Bool :=
  if s.ledsOff then (.off, false) else match s.modes.mode with
  | .keep | .bringUp => (.off, false)
  | .service => (.steady, false)
  | .degraded => (.steady, true)
  | .quiesce => (.slow, false)
  | .safeHold => (.fast, true)
/-- LED_EXT_N is driven low: the STATUS LED is amber (J40). -/
def State.ledExt (s : State) : Bool := s.ledStatus.2
/-- The FAULT LED: the latch before the cell, the cell before the spares (PRESUMED, log entry 40). -/
def State.ledFault (s : State) : Led :=
  if s.ledsOff then .off
  else if s.mech.latchOpen && s.modes.mode == .service then .fast
  else if s.keep.low then .slow
  else if !s.live.lostMem.isEmpty || s.modes.degrade.getLsbD dgSpare then .steady
  else .off

end Sys2Proof.Machine
end

