-- ==== Sys2Proof/Machine/NsAdmin.lean ====
section
/-! DEFINITION. Namespace Management and Attachment, Format NVM, Crypto Erase, lent map memory, the checkpoint of a line (07, 17). -/
namespace Sys2Proof.Machine

/-! ## Capacity (R44, R232) -/

/-- User capacity in bytes: the member pods' active dies, less P and Q, reserved bands and over-provisioning, in whole terabytes. -/
def State.userCapacity (s : State) : Nat :=
  let gb := (s.groupList.flatMap (fun g => (List.range s.width).map (fun p => s.slotAt g p))).foldl (fun n l =>
    n + (match (s.pod l).desc with
      | some d => if (s.pod l).failed || s.live.deadPods.contains l then 0 else 16 * d.dataGb
      | none => 0)) 0
  gb * s.dataMembers * 999 * 88 / (s.width * 1000 * 100 * 1000) * 10 ^ 12
/-- Bytes of every namespace. -/
def State.nsBytes (s : State) : Nat := s.live.nss.foldl (fun n (e : Nat × Ns) => n + e.2.spec.nsze * e.2.spec.lba) 0

/-- The lowest free NSID. -/
def State.freeNsid (s : State) : Option Nat := ((List.range 4096).map (· + 1)).find? (fun n => (s.ns n).isNone)

/-- The cases of R230. -/
def State.createInvalid (s : State) (n : NsSpec) : Bool :=
  decide (n.nsze = 0 ∨ n.ncap ≠ n.nsze ∨ 1 < n.flbas ∨ n.dps ≠ 0 ∨ 1 < n.nmic ∨ 2 < n.muCode) || !n.otherZero ||
  n.nsze * n.lba % n.unit != 0 || (n.keyProvided && !n.encrypt) ||
  (n.keyProvided && (match s.freeNsid with
    | some i => (s.keyState i).state != .loaded
    | none => false))

/-- NAMESPACE_CREATE (R229 to R233, R583): the first refusal that applies, in the order of R232. -/
def execNamespaceCreate (c : Nat) (s : State) : Host.Outcome State Fault Refusal :=
  .next (s.admin c 0x0D (fun x s =>
    let sel := bits x.sqe.cdw10 3 0
    if sel = 1 then s
    else if 2 ≤ sel then s.completeBad c
    else match (if sel = 0 then x.sqe.data else .none) with
    | .nsSpec n =>
      if s.createInvalid n then s.complete c stInvalidField 0
      else if !n.writeThrough && decide (s.pw.energy < 240) then s.complete c stWriteThrough 0
      else match s.freeNsid with
      | none => s.complete c (stSpecific 0x16) 0
      | some id =>
        if s.userCapacity < s.nsBytes + n.nsze * n.lba then s.complete c (stSpecific 0x15) 0
        else
          let s := if !n.encrypt then (if (s.keyState id).state == .loaded then (s.zeroKey id).rewriteKeys else s)
            else (if n.keyProvided then s.modPart (fun p => { p with keys := p.keys.set (id - 1) { p.keys.get {} (id - 1) with state := .active } })
              else s.newKey id).rewriteKeys
          (s.logRec (.nsSet { nsid := id, serial := s.live.nextSerial, spec := n })).awaitSeal c (BitVec.ofNat 32 id)
    | _ => s.complete c stInvalidField 0))

/-- Whether a stop transforms a namespace. -/
def State.transforms (s : State) (nsid : Nat) : List Nat :=
  stopNos.filter (fun n => (s.binding n).nsid == nsid && (s.binding n).mode != 0 && decide ((s.binding n).mode ≤ 3))

/-- A namespace leaves instances (R237). -/
def State.detach (nsid : Nat) (ks : List Nat) (s : State) : State :=
  let ks := ks.filter (fun k => (s.dinst k).attached.contains nsid)
  let s := s.each ks (fun k t => (t.logInst k (fun d => { d with attached := d.attached.filter (fun n => !(n == nsid)) })).unlockWays k (some nsid))
  s.reviewRegions

/-- Steps 2 to 4 of a delete (R238). -/
def State.deleteNs (nsid : Nat) (s : State) : State :=
  let own := match s.ns nsid with
    | some v => v.spec.encrypt
    | none => false
  let s := s.logRec (.nsDelete nsid)
  let s := if own then s.zeroKey nsid else s
  let s := s.maintain 3 nsid 0 (2 ^ 40 - 1)
  let s := s.modMc (fun m => { m with parked := m.parked.filter (fun f => !(f.nsid == nsid)), t2 := m.t2.filter (fun e => !(e.2.nsIndex == nsid - 1)) })
  State.issueFetches { s with lines := s.lines.filter (fun (e : Nat × Line) => !(e.1 / 2 ^ 40 == nsid)) }

/-- Namespaces are deleted, and the key table is written without the keys of those encrypted (R585). -/
def State.deleteAll (ids : List Nat) (s : State) : State :=
  let keyed := ids.any (fun n => ((s.ns n).map (fun v => v.spec.encrypt)).getD false)
  let t := s.each ids State.deleteNs
  if keyed then t.rewriteKeys else t

/-- NAMESPACE_DELETE (R238): detached at once; the rest once the commands already fetched have completed. -/
def execNamespaceDelete (c : Nat) (s : State) : Host.Outcome State Fault Refusal :=
  .next (s.admin c 0x0D (fun x s =>
    if bits x.sqe.cdw10 3 0 ≠ 1 then s
    else
      let ids := if x.sqe.nsid = 0xFFFFFFFF then s.live.nss.map (fun (e : Nat × Ns) => e.1) else [x.sqe.nsid]
      if ids.any (fun n => (s.ns n).isNone) then s.complete c stInvalidNs 0
      else if ids.any (fun n => !(s.transforms n).isEmpty) then s.complete c stSequence 0
      else
        let s := s.each ids (fun n t => t.detach n (t.live.insts.map (fun (e : Nat × DurInst) => e.1)))
        if ids.any (fun n => s.nsBusy n (fun _ => true)) then s else (s.deleteAll ids).awaitSeal c 0))

/-- The instances a Controller List names, where every identifier is a slot of the port that is not FREE (R236). -/
def State.listed (s : State) (p : Nat) (ids : List Nat) : Option (List Nat) :=
  if ids.all (fun i => decide (0x1000 + p * 128 ≤ i ∧ i < 0x1000 + p * 128 + (s.vport p).instances) && (s.dinst (i - 0x1000)).live)
  then some (ids.map (fun i => i - 0x1000)) else none

/-- What attach and detach check first. -/
def State.attachment (id sel : Nat) (go : Ctx → Ns → List Nat → State → State) (s : State) : State :=
  s.adminWait id 0x15 (fun x s =>
    let n := bits x.sqe.cdw10 3 0
    if 2 ≤ n then s.completeBad id
    else if n ≠ sel then s
    else match s.ns x.sqe.nsid, x.sqe.data with
    | none, _ => s.complete id stInvalidNs 0
    | some v, .ctrlList ids =>
      (match s.listed x.port ids with
      | none => s.complete id (stSpecific 0x1C) 0
      | some ks => go x v ks s)
    | _, _ => s.complete id stInvalidField 0)

/-- NAMESPACE_ATTACH (R236). -/
def execNamespaceAttach (c : Nat) (s : State) : Host.Outcome State Fault Refusal :=
  .next (s.attachment c 0 (fun _ v ks s =>
    if ks.any (fun k => (s.dinst k).attached.contains v.nsid) then s.complete c (stSpecific 0x18) 0
    else if v.spec.nmic = 0 ∧ 1 < (s.attachedTo v.nsid).length + ks.length then s.complete c (stSpecific 0x19) 0
    else if ks.any (fun k => decide ((s.dinst k).share.nsQuota < (s.dinst k).attached.length + 1)) then s.complete c (stSpecific 0x27) 0
    else
      let s := s.each ks (fun k t => t.logInst k (fun d => { d with attached := d.attached ++ [v.nsid] }))
      s.reviewRegions.complete c .success 0))

/-- NAMESPACE_DETACH (R237, R474): a transform stop of an instance that loses the namespace is unbound first; the detach then takes
effect at fetch, and completes after the last command already fetched. -/
def execNamespaceDetach (c : Nat) (s : State) : Host.Outcome State Fault Refusal :=
  .next (s.attachment c 1 (fun x v ks s =>
    if x.phase == .ready && ks.any (fun k => !(s.dinst k).attached.contains v.nsid) then s.complete c (stSpecific 0x1A) 0
    else
      let stops := (s.transforms v.nsid).filter (fun n => ks.any (fun k => s.holder n == some k))
      if !stops.isEmpty then
        (if x.phase == .drain then s
         else (s.each stops (fun n t => t.startEpoch n (.unbind false) none)).modCtx c (fun y => { y with phase := .drain }))
      else
        let s := (s.detach v.nsid ks).modCtx c (fun y => { y with phase := .drain })
        if s.nsBusy v.nsid ks.contains then s else s.complete c .success 0))

/-! ## Format and erase -/

/-- Fields of a Format NVM: its LBA format and whether everything else is 0. -/
def formatOk (q : Sqe) : Bool := decide (bits q.cdw10 3 0 ≤ 1) && bits q.cdw10 31 4 == 0

/-- FORMAT_NVM: an LBA format that is none completes with Invalid Field (DESIGN CHOICE, log entry 98) (R239): commands in flight for the namespace complete first. -/
def execFormatNvm (c : Nat) (s : State) : Host.Outcome State Fault Refusal :=
  .next (s.adminWait c 0x80 (fun x s =>
    if x.sqe.nsid = 0xFFFFFFFF then s
    else if !formatOk x.sqe then s.completeBad c
    else match s.ns x.sqe.nsid with
    | none => s.complete c stInvalidNs 0
    | some v =>
      if s.nsBusy v.nsid (fun _ => true) then s.modCtx c (fun y => { y with phase := .drain })
      else (s.formatNs (bits x.sqe.cdw10 3 0) v).awaitSeal c 0))

/-- FORMAT_NVM_ALL: a device epoch with QUIESCE cause 4. -/
def execFormatNvmAll (c : Nat) (s : State) : Host.Outcome State Fault Refusal :=
  .next (s.admin c 0x80 (fun x s =>
    if x.sqe.nsid ≠ 0xFFFFFFFF then s
    else if !formatOk x.sqe then s.completeBad c
    else s.askEpoch c 4 (.formatAll (bits x.sqe.cdw10 3 0))))

/-- CRYPTO_ERASE (R586): of one namespace, or of every encrypted one as a device epoch with QUIESCE cause 4. -/
def execCryptoErase (c : Nat) (s : State) : Host.Outcome State Fault Refusal :=
  .next (s.adminWait c 0xDC (fun x s =>
    let new := x.sqe.cdw10.getLsbD 0
    if bits x.sqe.cdw10 31 1 ≠ 0 then s.completeBad c
    else if x.sqe.nsid = 0xFFFFFFFF then s.askEpoch c 4 (.eraseAll new)
    else match s.ns x.sqe.nsid with
    | none => s.complete c stInvalidNs 0
    | some v =>
      if !v.spec.encrypt then s.complete c stInvalidField 0
      else if s.nsBusy v.nsid (fun _ => true) then s.modCtx c (fun y => { y with phase := .drain })
      else (s.eraseKeys new [v]).awaitSeal c 0))

/-! ## Lent map memory (R251 to R256) -/

/-- Two extents meet. -/
def extentsMeet (a b : Extent) : Bool :=
  decide (a.address < b.address + b.chunks * 2 ^ 21 ∧ b.address < a.address + a.chunks * 2 ^ 21)
/-- Some two extents of a list meet. -/
def anyMeet : List Extent → Bool
  | [] => false
  | e :: r => r.any (extentsMeet e) || anyMeet r

/-- LEND_MAP_MEMORY. -/
def execLendMapMemory (c : Nat) (s : State) : Host.Outcome State Fault Refusal :=
  .next (s.admin c 0xCD (fun x s =>
    let old := s.lendsOf x.port
    match x.sqe.data with
    | .extents count es reserved =>
      let all : List Extent := old.flatMap (fun (l : Lend) => l.extents) ++ es
      let total : Nat := all.foldl (fun n (e : Extent) => n + e.chunks) 0
      if reserved || count = 0 || decide (255 < count) || es.length ≠ count || decide (131072 < total) || decide (4 ≤ old.length) ||
          es.any (fun e => e.chunks == 0 || e.address % 2 ^ 21 != 0) || anyMeet all then s.complete c stInvalidField 0
      else
        let id := ((List.range 4).find? (fun i => !old.any (fun l => l.id == i))).getD 0
        let s := { s with lends := s.lends.set x.port (old ++ [({ id := id, extents := es } : Lend)]) }.newLayout
        s.complete c .success (BitVec.ofNat 32 (id + total * 256))
    | _ => s.complete c stInvalidField 0))

/-- Lends of a port end as a Reclaim ends them (R253): no DMA goes to them any more, and a zero-length read of each extent follows what was written there. -/
def State.endLends (p : Nat) (gone : Lend → Bool) (s : State) : State :=
  ((s.lendsOf p).filter gone).foldl (fun t l => l.extents.foldl (fun t e => t.emit (.zeroRead p e.address none)) t) (s.dropLends p (fun l => !gone l))

/-- RECLAIM_MAP_MEMORY: the lend ends, and the command completes once its zero-length reads have come back: when its row is given again (R253, log entry 4). -/
def execReclaimMapMemory (c : Nat) (s : State) : Host.Outcome State Fault Refusal :=
  .next (s.adminWait c 0xD0 (fun x s =>
    let all := x.sqe.cdw10.getLsbD 2
    let id := bits x.sqe.cdw10 1 0
    let gone := fun (l : Lend) => all || l.id == id
    if x.phase == .drain then s.complete c .success 0
    else if !all && !(s.lendsOf x.port).any gone then s.complete c stInvalidField 0
    else if !(s.lendsOf x.port).any gone then s.complete c .success 0
    else (s.endLends x.port gone).modCtx c (fun y => { y with phase := .drain })))

/-- An event for one port's manager: a warning of log page 0xE3 with its vendor event there, and an entry of the event journal. The manual names
neither the event nor its page (DESIGN CHOICE, log entry 103). -/
def State.managerEvent (p ev obj val : Nat) (s : State) : State :=
  ((s.modHealth (fun h => { h with warnings := if h.warnings.length < 32 then h.warnings ++ [(ev, obj, val, s.rtc)] else h.warnings })).report
    (srcFirmware (p / 2)) ev obj val).postOutstanding p 0xE3

/-- T2_ACCESS_FAILURE: the four ways end the lend alike, as a Reclaim does (R255). -/
def execT2AccessFailure (p : PortId) (lend : Fin 4) (_f : DmaFault) (s : State) : Host.Outcome State Fault Refusal :=
  if (s.lendsOf p).any (fun l => l.id == lend.val) then
    .next ((s.endLends p (fun l => l.id == lend.val)).managerEvent p (evUnnamed 4 1) p lend)
  else .next s

/-! ## Checkpoints (R260) -/

/-- A map codeword that still takes records: `sub` counts those it holds, up to ten (R245). -/
def State.mapSlot (s : State) : Option Nat :=
  (s.cw.find? (fun (e : Nat × Codeword) => e.2.kind == 2 && decide (e.2.sub < 9) && !e.2.programmed &&
    (match s.locate e.1 with
      | some x => s.cache.stripes.any (fun y => y.group == x.group && y.band == x.band && y.row == x.row && !y.closed)
      | none => false))).map (fun e => e.1)

/-- A line's record is written in a map codeword, with a new nonce (R244, R245). -/
def State.addRecord (mun index nsid ln : Nat) (s : State) : State :=
  let r := s.lineRecord s.mapKey (s.jrn.nonce + 1) s.jrn.openEpoch mun index nsid ln
  s.nextNonce.setCodeword mun { s.codeword mun with sub := index, recs := (s.codeword mun).recs ++ [r] }

/-- A record's place, and the record there: the map codeword being filled, or a new one in a map stream. -/
def State.recordPlace (nsid ln : Nat) (s : State) : Option (Nat × Nat) × State :=
  match s.mapSlot with
  | some m =>
    let i := (s.codeword m).sub + 1
    (some (m, i), s.addRecord m i nsid ln)
  | none =>
    let n := s.groupCount
    ((List.range n).map (fun i => (ln + i) % n)).foldl (fun (a : Option (Nat × Nat) × State) g =>
      match a.1 with
      | some _ => a
      | none =>
        match s.placeUnit g .map 1 false [{ nsid := nsid, unit := ln, kind := 2 }] with
        | (some m, t) => (some (m, 0), t.addRecord m 0 nsid ln)
        | (none, _) => a) (none, s)

/-- A line is written to T3: the record, then the directory record (R260, R272). -/
def State.writeRecord (nsid ln : Nat) (s : State) : State :=
  let s := s.writeBack nsid ln
  match s.recordPlace nsid ln with
  | (none, _) => s
  | (some p, t) =>
    let t := t.logRec (.directory nsid ln p.1 p.2 t.jrn.openEpoch)
    t.modLine nsid ln (fun x => { x with ckpt := true, later := 0 })

/-- CHECKPOINT_LINE. -/
def execCheckpointLine (nsid line : Nat) (s : State) : Host.Outcome State Fault Refusal :=
  let x := s.line nsid line
  if !s.active || s.hostFenced then .next s
  else .next (if x.dirty && !x.ckpt && (s.ns nsid).isSome then s.writeRecord nsid line else s).rewriteSegment

end Sys2Proof.Machine
end

