-- ==== Sys2Proof/Machine/MemberOps.lean ====
section
/-! DEFINITION. The decode ladder's later steps, suspect and failed dies and pods, the spares that take their places, and how rebuilds start (10, 12, 16). -/
namespace Sys2Proof.Machine

/-! ## Small reads of the state -/

/-- The descriptor of a slot's pod. -/
def State.desc (s : State) (l : Nat) : PodDesc := (s.pod l).desc.getD {}
/-- Quadrant of a link (01). -/
def quadOf (l : Nat) : Nat := l / 36
/-- Source number of a link's media aggregator (R624). -/
def srcAggregator (l : Nat) : Nat := 4 + 4 * (l / 36) + l % 36 / 9
/-- Number of a chanter class (10). -/
def OpClass.num : OpClass → Nat
  | .flush => 0
  | .host => 1
  | .write => 2
  | .gc => 3
  | .drone => 4
/-- The spot and member position an operation on a member works on. -/
def State.opPos (s : State) (o : Op) : Option Nat :=
  match o.kind with
  | .read _ _ _ _ =>
    (List.range s.width).find? (fun p => s.slotAt o.group p == o.link)
  | .program m => some m
  | .erase => none
def Op.isRead (o : Op) : Bool :=
  match o.kind with
  | .read _ _ _ _ => true
  | _ => false
def Op.isErase (o : Op) : Bool :=
  match o.kind with
  | .erase => true
  | _ => false
/-- Media unit number a read serves. -/
def Op.mun (o : Op) : Nat :=
  match o.kind with
  | .read m _ _ _ => m
  | _ => 0

def State.op (s : State) (id : Nat) : Option Op := s.ops.find? (fun o => o.id == id)
def State.modOp (id : Nat) (f : Op → Op) (s : State) : State := { s with ops := s.ops.map (fun o => if o.id == id then f o else o) }
def State.dropOp (id : Nat) (s : State) : State := { s with ops := s.ops.filter (fun o => !(o.id == id)) }

/-- A read is withdrawn; one already at the pod keeps its tag, and its result will be discarded (R340). -/
def State.withdraw (id : Nat) (s : State) : State :=
  match s.op id with
  | none => s
  | some o => if o.tag.isSome then s.modOp id (fun o => { o with owner := .none }) else s.dropOp id

/-! ## Frames to the pod (R432, R435, R436) -/

/-- Frames held for replay. -/
def Link.held (x : Link) : Nat := (x.nextSeq + 4095 - x.acked) % 4096
/-- A frame more can be sent. -/
def Link.open (x : Link) : Bool := x.state == 2 && decide (x.held < 32)
/-- A message leaves, in `frames` link frames with the units that follow it. -/
def State.sendPod (l frames : Nat) (m : ToPod) (s : State) : State :=
  (s.emit (.toPod l m)).modLink l (fun x => { x with nextSeq := (x.nextSeq + frames) % 4096 })

/-! ## Whom a codeword serves (R320, R345, R366) -/

/-- A unit read at step 3 or later is handed to retention refresh (R345, R377). -/
def State.handOver (mun : Nat) (s : State) : State :=
  match s.unitOf mun, s.locate mun with
  | some _, some x =>
    let first := mun - (s.codeword mun).sub
    if s.health.handed.contains first then s else
    let k := bandKey x.group x.band
    s.modHealth (fun h => { h with
      handed := h.handed ++ [first]
      handedBy := h.handedBy.set k (s.now :: (h.handedBy.get [] k).filter (fun t => decide (s.now < t + 86400000000))) })
  | _, _ => s

/-- The stream a relocated unit goes to: GC's, one class colder, or the class stripe of the stream that wrote the band (R366, R368, R406). -/
def copyStream (why : Nat) (st : Stream) : Stream :=
  let h : Nat := match st with
    | .cls h => h.val
    | .gc h => h.val + 1
    | .rebuild => 2
    | .map => 0
  match st with
  | .map => .map
  | _ => if why = 0 then .gc (Fin.ofNat 3 (min h 2)) else .cls (Fin.ofNat 4 h)

/-- Bytes of relocation copies in the protected cache (R368). -/
def State.relocHeld (s : State) : Nat :=
  s.health.relocs.foldl (fun n (r : Reloc) => n + (r.copies.filter (fun c => s.inStripe c.2.2.2)).foldl (fun m c => m + 4112 * s.cwsOf c.1) 0) 0

/-- Relocation takes space within the protected cache's limit; with a limit of 0 there is none to keep to (R306, R368; DESIGN CHOICE, log entry 106). -/
def State.relocRoom (s : State) (k : Nat) : Bool :=
  s.cache.limitMib == 0 || decide (s.occupancy + 4112 * k ≤ s.cache.limitMib * 2 ^ 20)

/-- Some codeword of a unit is still being read for a relocation. -/
def State.copyBusy (s : State) (g b mun k : Nat) : Bool :=
  s.ops.any (fun (o : Op) => o.isRead && o.owner == .relocation g b && decide (mun ≤ o.mun ∧ o.mun < mun + k)) ||
  s.solves.any (fun v => v.owner == .relocation g b && decide (mun ≤ v.mun ∧ v.mun < mun + k))

/-- Step 1 of a relocation for one unit: a copy is placed where every codeword has been read and the unit still maps to its slot. -/
def State.copyUnit (g b mun : Nat) (s : State) : State :=
  match s.reloc g b, s.unitOf mun with
  | some r, some (nsid, u) =>
    let k := s.cwsOf nsid
    if r.step != 1 || s.copyBusy g b mun k || r.copies.any (fun c => c.2.2.1 == mun) || decide (256 * 2 ^ 20 < s.relocHeld + 4112 * k) || !s.relocRoom k then s
    else
      match s.placeUnit g (copyStream r.why (s.band g b).stream) k false ((List.range k).map (fun j => { s.codeword (mun + j) with writer := 0, src := some mun })) with
      | (some m, t) =>
        let t := t.modReloc g b (fun r => { r with copies := r.copies ++ [(nsid, u, mun, m)], spent := r.spent + k })
        -- refresh and wear levelling take class stripes (R362)
        if r.why != 0 && (t.group g).pressed then t.modGroup g (fun x => { x with debt := x.debt + k }) else t
      | (none, t) => t
  | _, _ => s

/-- The same for the map checkpoint records of one codeword (R366). -/
def State.copyRecords (g b mun : Nat) (s : State) : State :=
  match s.reloc g b with
  | none => s
  | some r =>
    if r.step != 1 || s.copyBusy g b mun 1 then s else
    ((s.linesIn g b).filter (fun l => l.2.2 == mun && !r.recs.any (fun c => c.1 == l.1 && c.2.1 == l.2.1))).foldl (fun t l =>
      match t.recordPlace l.1 l.2.1 with
      | (some p, t) => t.modReloc g b (fun r => { r with recs := r.recs ++ [(l.1, l.2.1, p.1, p.2)] })
      | (none, t) => t) s

/-- A good codeword reaches whoever it was read for. -/
def State.served (mun : Nat) (owner : Owner) (s : State) : State :=
  match owner with
  | .ctx _ _ _ => s.deliver mun owner
  | .merge id _ _ => if (s.ctx id).isNone then s.lateReturn id else s
  | .relocation g b => (s.copyUnit g b (mun - (s.codeword mun).sub)).copyRecords g b mun
  | _ => s

/-! ## Steps 4 and 5 (R342, R343) and read-around (R352) -/

/-- Class of a solve's member reads. -/
def Owner.cls : Owner → OpClass
  | .drone => .drone
  | .relocation _ _ => .gc
  | .rebuild _ => .gc
  | _ => .host

def Solve.is (v w : Solve) : Bool := v.mun == w.mun && v.owner == w.owner && v.around == w.around && v.stamp == w.stamp
def State.modSolve (w : Solve) (f : Solve → Solve) (s : State) : State := { s with solves := s.solves.map (fun v => if v.is w then f v else v) }
def State.dropSolve (w : Solve) (s : State) : State := { s with solves := s.solves.filter (fun v => !v.is w) }

/-- The die that holds a codeword's own member: link and key. -/
def State.homeOf (s : State) (mun : Nat) : Option (Nat × Nat) :=
  (s.locate mun).map (fun x =>
    let pos := s.position x.band x.member
    (s.slotAt x.group pos, dieKey (s.slotAt x.group pos) (s.dieFor x.group x.band pos)))

/-- Counters of a ladder step at a chanter and a die (10, log page 0xE7). -/
def State.countStep (step l d : Nat) (s : State) : State :=
  let s := s.modChanter l (fun c =>
    if step = 2 then { c with ladder2 := sat64 (c.ladder2 + 1) }
    else if step = 3 then { c with ladder3 := sat64 (c.ladder3 + 1) }
    else if step = 4 then { c with ladder4 := min 0xFFFFFFFF (c.ladder4 + 1) }
    else if step = 5 then { c with ladder5 := min 0xFFFFFFFF (c.ladder5 + 1) } else c)
  s.modDie d (fun y => { y with ladder := y.ladder.mapIdx (fun i n => if i + 2 = step then min 0xFFFFFFFF (n + 1) else n) })
/-- The same for the member that holds a codeword. -/
def State.countHome (step mun : Nat) (s : State) : State :=
  match s.homeOf mun with
  | none => s
  | some (l, d) => s.countStep step l d

/-- A codeword that needed step 5 counts toward its block's retirement (R379). -/
def State.countDeep (mun : Nat) (s : State) : State :=
  match s.locate mun, s.homeOf mun with
  | some x, some (_, d) =>
    let week := 7 * 86400000000
    let ix := x.band / 16
    let ts := s.now :: ((s.die d).step5.get [] ix).filter (fun t => decide (s.now < t + week))
    (s.countHome 5 mun).modDie d (fun y => { y with
      step5 := y.step5.set ix ts
      candidates := if 4 < ts.length && !y.candidates.contains ix then ix :: y.candidates else y.candidates })
  | _, _ => s

/-- A solve has its codeword: solved at step 4, or recovered at step 5. -/
def State.solved (v : Solve) (s : State) : State :=
  let s := s.dropSolve v
  let s := if v.around then s else (if v.ladder = 5 then s else s.countHome 4 v.mun).handOver v.mun
  s.served v.mun v.owner

/-- Member reads of a solve that nobody waits for any longer. -/
def State.dropMembers (v : Solve) (s : State) : State :=
  s.each ((s.ops.filter (fun o => o.owner == .member v.mun v.around)).map (·.id)) (fun id t => t.withdraw id)

/-- Read-around gives up: the target is read again at the head of its plane's queue (R352). -/
def State.endAround (v : Solve) (s : State) : State :=
  let s := (s.dropMembers v).dropSolve v
  match s.locate v.mun with
  | none => s
  | some x => s.addOp (s.readOp x (s.position x.band x.member) v.mun .host v.owner 1 1)

/-- A solve goes on as far as its members allow. -/
def State.settleSolve (v : Solve) (s : State) : State :=
  match s.solves.find? (fun w => w.is v), s.locate v.mun with
  | some v, some x =>
    let target := s.position x.band x.member
    let v' := v
    let cls := v.owner.cls
    if !v.unknown.contains target then ((s.dropMembers v').solved v')
    else if 2 < v.unknown.length then
      if v.ladder = 4 then
        -- step 5 reads every failing member anew
        let deep := v.unknown.filter (fun p => !s.memberGone x.group x.band p)
        if deep.isEmpty then ((s.dropMembers v).dropSolve v).ladderFail v.mun v.owner 4
        else
          let s := (s.modSolve v (fun w => { w with ladder := 5, need := w.need ++ deep })).countDeep v.mun
          s.each deep (fun p t => t.addOp (t.deepOp x p v.mun cls v.stamp))
      else if v.need.isEmpty then (s.dropSolve v).ladderFail v.mun v.owner 4
      else s
    else
      let more := (s.solveSet x v.unknown).filter (fun p => !v.known.contains p && !v.need.contains p)
      if !more.isEmpty then
        let s := s.modSolve v (fun w => { w with need := w.need ++ more })
        s.each more (fun p t => t.addOp (t.readOp x p v.mun cls (.member v.mun v.around) v.stamp 1))
      else if v.need.isEmpty then s.solved v
      else s
  | _, _ => s

/-- A member read of a solve ends, good or failing its steps. -/
def State.memberRead (mun : Nat) (around : Bool) (pos : Nat) (good deep : Bool) (s : State) : State :=
  match s.solves.find? (fun v => v.mun == mun && v.around == around && v.need.contains pos), s.locate mun with
  | some v, some x =>
    let take := fun (w : Solve) => { w with need := w.need.filter (fun p => !(p == pos)) }
    if good then
      (s.modSolve v (fun w => { take w with known := pos :: w.known, unknown := w.unknown.filter (fun p => !(p == pos)) })).settleSolve v
    else if around then s.endAround v
    else if deep then (s.modSolve v take).settleSolve v
    else
      let s := s.modSolve v (fun w => { take w with unknown := if w.unknown.contains pos then w.unknown else w.unknown ++ [pos] })
      if v.ladder = 5 && !s.memberGone x.group x.band pos then
        (s.modSolve v (fun w => { w with need := w.need ++ [pos] })).addOp (s.deepOp x pos mun v.owner.cls v.stamp)
      else s.settleSolve v
  | _, _ => s

/-- A read that cannot come from its die goes to step 4 (R339, R340); a member read counts as failed. -/
def State.toStep4 (o : Op) (s : State) : State :=
  let s := s.withdraw o.id
  match o.owner with
  | .none => s
  | .member mun around => (match s.opPos o with
    | some p => s.memberRead mun around p false (o.ladder == 5)
    | none => s)
  | w => s.startSolve o.mun w false o.stamp o.cls

/-- The reads of a link or of one of its dies that someone waits for. -/
def State.waitingReads (s : State) (l : Nat) (die : Option Nat) : List Op :=
  s.ops.filter (fun o => o.isRead && o.link == l && (die.isNone || die == some o.die) && o.owner != .none)
def State.allToStep4 (os : List Op) (s : State) : State :=
  os.foldl (fun t o => match t.op o.id with
    | some o => t.toStep4 o
    | none => t) s

/-! ## Pod bays and pod sensors (R541, R542, R548, R550) -/

/-- The pod-bay switch of a slot is opened. -/
def State.podOff (l : Nat) (s : State) : State := (s.emit (.bay l false)).modPod l (fun p => { p with powered := false })

/-- A pod's sensor fails: its dies are held to a quarter of their time. -/
def State.podSensorFailed (l : Nat) (s : State) : State :=
  if (s.link l).sensorBad then s else
  let s := s.modLink l (fun x => { x with sensorBad := true })
  let s := s.modPw (fun p => { p with zones := p.zones.set (8 + l) { p.zones.get {} (8 + l) with failed := [0] } })
  (s.modChanter l (fun c => { c with duty := min c.duty 256 })).report srcPartition 0x0D11 (8 + l) 0

/-- A dump treats the member that a pod serves as failed (R419, R445). -/
def State.dumpWithout (l : Nat) (s : State) : State :=
  match s.memberOf l with
  | none => s
  | some m => { s with vault := s.vault.map (fun (v : Vault) => if v.failed.contains m then v else { v with failed := m :: v.failed }) }

/-! ## Spares and substitutions (R383, R391 to R404) -/

/-- Dies of a pod that can still take a position: they serve none and have not failed. -/
def State.spareDies (s : State) (l : Nat) : List Nat :=
  (List.range (s.desc l).dies).filter (fun d => (s.activePos l d).isNone && !s.live.deadDies.contains (dieKey l d))


/-- A pod's die geometry is its group's, as the format record holds it, in every field of R289 (R61, R400). -/
def State.fitsGroup (s : State) (g l : Nat) : Bool :=
  match s.format with
  | none => true
  | some f => match f.geometry[g]? with
    | some x => (s.desc l).geom.fields == x.fields
    | none => true

/-- Spare pods that can take a position. -/
def State.sparePods (s : State) : List Nat :=
  (List.range 144).filter (fun l => (s.pod l).role == 2 && (s.pod l).present && !(s.pod l).failed && (s.pod l).desc.isSome &&
    !s.live.deadPods.contains l && (s.memberOf l).isNone)

/-- A package spare is taken: the record, the event of R22, the reserve's health event (R26). -/
def State.packageSpare (kind unit new left : Nat) (src : Nat) (s : State) : State :=
  let s := (s.modSpares (fun x => { x with lastTime := s.rtc })).logRec (.sub (.package kind unit new))
  let s := s.report src (evUnnamed 12 (1 + kind)) unit left
  (if left = 0 then s.healthEvent (evUnnamed 11 kind) unit 0 true else s).reviewSpares

/-- Hard-decode engines a quadrant must keep (R54): 13.07 × 0.921 GB/s a link, 20 GB/s an engine. -/
def State.needEngines (s : State) (q : Nat) : Nat :=
  let links := ((List.range 144).filter (fun l => quadOf l == q && (s.memberOf l).isSome)).length
  (links * 1203747 + 1999999) / 2000000

/-- Engines of a quadrant in the hard-decode pool: 22, less the dedicated soft ones and those lost beyond the spares. -/
def State.hardEngines (s : State) (q : Nat) : Nat := 22 - s.spares.soft.get 0 q - s.spares.ldpcLost.get 0 q

/-- A quadrant short of engines takes its soft engines back (R400). -/
def State.reviewEngines (q : Nat) (s : State) : State :=
  if s.hardEngines q < s.needEngines q && s.spares.soft.get 0 q != 0 then
    (s.modSpares (fun x => { x with soft := x.soft.set q 0 })).report (srcFirmware q) (evUnnamed 12 1) q 0
  else s

/-- A rebuild runs, from its last progress record where it has one (R413). -/
def State.resumeRun (id : Nat) (s : State) : State :=
  match s.live.rebuilds.find? (fun r => r.id == id) with
  | none => s
  | some r =>
    let v := s.vmun r.group
    let bands := (s.bandsOf r.group).filter (fun b => (match r.diePos with
      | some d => b % 16 == d
      | none => true) && ((s.band r.group b).absent.contains r.pos || (s.band r.group b).kept.contains (r.pos, r.die)) && (s.memberAt b r.pos).isSome)
    let total := bands.foldl (fun n b => n + (s.band r.group b).mark * v.slotsPerRow) 0
    let s := s.modHealth (fun h => { h with runs := h.runs.set id { cursor := r.cursor, done := r.doneSlots, lost := r.lost, total := r.doneSlots + total, logged := r.doneSlots, start := s.now, before := r.elapsed } })
    s.setDegrade dgRebuild true
/-- A rebuild starts (R404). -/
def State.startRun (id : Nat) (s : State) : State :=
  match s.live.rebuilds.find? (fun r => r.id == id) with
  | none => s
  | some r => (s.healthEvent 0x0B0D r.group id true).resumeRun id

/-- Every stripe of a group that a failed member had still to program fails there; open bands of its die sets close early (R359, R398). -/
def State.failStripes (g pos : Nat) (inSet : Nat → Bool) (s : State) : State :=
  let mine := s.cache.stripes.filter (fun x => x.group == g && inSet (x.band % 16) && (x.members.get .filling pos == .filling || x.members.get .filling pos == .queued))
  let s := mine.foldl (fun t x => t.programEnded g x.band x.row pos false true) s
  s.each ((s.bandsOf g).filter (fun b => inSet (b % 16) && (s.band g b).state == .opened)) (fun b t => t.closeEarly g b)

/-- Vault bands whose block on a substitute is not erased are no longer armed (R316). -/
def State.unarmVault (g : Nat) (inSet : Nat → Bool) (s : State) : State :=
  s.modCache (fun c => { c with armed := c.armed.filter (fun k => !(k / 65536 == g && inSet (k % 16))) })

/-- The erases a part took with it are queued again on what serves its position now (R398). -/
def State.eraseAgain (os : List Op) (pos : Nat) (s : State) : State :=
  os.foldl (fun t o =>
    if !o.isErase || (t.band o.group o.band).state != .erasePending || t.memberGone o.group o.band pos then t else
    let slot := t.slotAt o.group pos
    let die := t.dieAt slot (o.band % 16)
    t.addOp { id := 0, link := slot, die := die, cls := o.cls, kind := .erase, group := o.group, band := o.band, block := t.physBlock slot die (o.band / 16) }) s

/-- SP reserves of pods after one is taken or lost. -/
def State.countPods (s : State) : State := (s.modSpares (fun x => { x with pods := min 8 s.sparePods.length })).reviewSpares

/-- AVAILABLE_SPARE (R388). -/
def State.spareBlocks (s : State) (l d : Nat) : Nat :=
  ((s.die (dieKey l d)).spareBlocks).getD ((s.desc l).blocks - (s.desc l).blocksInService - (s.die (dieKey l d)).badBlocks.length)
def State.activeDies (s : State) : List (Nat × Nat) :=
  (List.range 144).flatMap (fun l => if (s.memberOf l).isSome then (List.range 16).map (fun d => (l, s.dieAt l d)) else [])
def State.availableSpare (s : State) : Nat :=
  let blocks := s.activeDies.foldl (fun n x => min n (s.spareBlocks x.1 x.2 * 100 / max 1 ((s.desc x.1).blocks - (s.desc x.1).blocksInService))) 100
  let dies := (List.range 144).foldl (fun n l => if (s.memberOf l).isSome then min n ((s.spareDies l).length * 100 / 2) else n) 100
  let named := s.image.geometry.spares.length
  let pods := if named = 0 then 100 else s.spares.pods * 100 / named
  min blocks (min dies (min pods 100))
/-- AVAILABLE_SPARE changes; it is told when it falls below the threshold (R387, R389). -/
def State.reviewAvailable (s : State) : State :=
  let a := s.availableSpare
  let low := decide (a < 10)
  let was := s.health.spareLow
  let s := s.modHealth (fun h => { h with available := a, spareLow := low })
  if low && !was then (s.healthEvent 0x0B14 0 a false).postSmart 0 2 else s

/-- A pod that serves no group is failed: it leaves the spares (R393). -/
def State.failSparePod (l : Nat) (thermal : Bool) (s : State) : State :=
  let was := s.sparePods.contains l
  let s := ((s.podOff l).modPod l (fun p => { p with failed := true })).modLink l (fun x => { x with state := 4 })
  let s := { s with ops := s.ops.filter (fun o => !(o.link == l)) }
  let s := s.logRec (.sub (.deadPod l thermal))
  if was then ((s.report (srcAggregator l) 0x0C05 l 0).countPods).reviewAvailable else s

/-- A pod is failed (R397, R400, R402): its operations end, a spare pod takes its member position, a rebuild starts. -/
def State.failPod (l : Nat) (thermal : Bool) (s : State) : State :=
  if (s.pod l).failed || s.live.deadPods.contains l then s else
  match s.memberOf l with
  | none => s.failSparePod l thermal
  | some (g, pos) =>
    let mine := s.ops.filter (fun o => o.link == l)
    let s := ((s.podOff l).modPod l (fun p => { p with failed := true })).modLink l (fun x => { x with state := 4 })
    let s := s.modHealth (fun h => { h with podsRetired := h.podsRetired + 1 })
    let id := s.live.nextRebuild
    let pick := match (s.sparePods.filter (fun q => quadOf q == quadOf l && s.fitsGroup g q)).head? with
      | some q => some q
      | none => (s.sparePods.filter (s.fitsGroup g)).head?
    let s := match pick with
      | some q =>
        let s := s.logRec (.sub (.pod g pos l q id))
        let s := if thermal then s.logRec (.sub (.deadPod l true)) else s
        let s := s.each (List.range 16) (fun d t => t.modDie (dieKey q (t.dieAt q d)) (fun y => { y with eraseFirst := !y.verified }))
        let s := s.unarmVault g (fun d => (s.die (dieKey q (s.dieAt q d))).eraseFirst)
        let s := s.countPods
        ((s.healthEvent 0x0B06 q s.spares.pods true).reviewEngines (quadOf q))
      | none =>
        let s := s.logRec (.sub (.lost g pos l id))
        (if thermal then s.logRec (.sub (.deadPod l true)) else s).report (srcAggregator l) 0x0C01 g pos |>.reviewSpares
    let s := s.failStripes g pos (fun _ => true)
    let s := s.allToStep4 (mine.filter (fun o => o.isRead && o.owner != .none))
    let s := { s with ops := s.ops.filter (fun o => !(o.link == l)) }
    let s := s.eraseAgain mine pos
    let s := s.startRun id
    (s.reviewAvailable).retry

/-! ## Dies (R393 to R399) -/

/-- Operations of a failed die: what is with the pod waits only for its result to be discarded (R396). -/
def State.killOps (l die : Nat) (s : State) : State :=
  { s with ops := (s.ops.filter (fun o => !(o.link == l && o.die == die && o.tag.isNone))).map (fun o =>
      if o.link == l && o.die == die then { o with owner := .none, dead := true } else o) }

/-- A die that serves no position fails (R393), or one that was retiring stops answering (R407). -/
def State.failSpareDie (l die : Nat) (s : State) : State :=
  let k := dieKey l die
  let old := s.live.rebuilds.find? (fun r => r.slot == l && r.die == die && r.retiring)
  let s := s.modDie k (fun d => { d with health := .failed, probeAt := none })
  let mine := s.ops.filter (fun o => o.link == l && o.die == die)
  let pos := s.activePos l die
  let s := match old with
    | some r => s.logRec (.sub (.deadDie r.group r.pos l die))
    | none => s.logRec (.sub (.deadDie 255 255 l die))
  -- in a spare pod another die takes the position
  let s := match pos, (s.spareDies l).head? with
    | some p, some new => if (s.memberOf l).isNone then s.logRec (.sub (.die 255 255 l p die new 0 false)) else s
    | _, _ => s
  let s := s.allToStep4 (mine.filter (fun o => o.isRead && o.owner != .none))
  let s := s.killOps l die
  let s := if old.isSome then s else s.report (srcAggregator l) 0x0C04 (die * 256 + l) 0
  let s := if (s.spareDies l).isEmpty && old.isNone then s.healthEvent 0x0B05 l 0 true else s
  -- a spare pod needs sixteen usable dies
  let usable := ((List.range 18).filter (fun d => !s.live.deadDies.contains (dieKey l d))).length
  (if (s.memberOf l).isNone && decide (usable < 16) then s.failSparePod l false else s).reviewAvailable

/-- A spare die takes the place of a failed or retiring one (R399); with none left the pod is failed (R397). -/
def State.replaceDie (l die : Nat) (retiring : Bool) (s : State) : State :=
  match s.memberOf l, s.activePos l die with
  | some (g, m), some pos =>
    match (s.spareDies l).head? with
    | none => s.failPod l false
    | some new =>
      let k := dieKey l die
      let mine := s.ops.filter (fun o => o.link == l && o.die == die)
      let id := s.live.nextRebuild
      let s := s.modDie k (fun d => { d with health := if retiring then .retired else .failed, probeAt := none })
      let s := if retiring then s.modHealth (fun h => { h with diesRetired := h.diesRetired + 1 }) else s
      let s := s.logRec (.sub (.die g m l pos die new id retiring))
      let s := s.modDie (dieKey l new) (fun y => { y with health := .active, eraseFirst := !y.verified })
      let s := s.unarmVault g (fun d => d == pos && (s.die (dieKey l new)).eraseFirst)
      let s := s.healthEvent 0x0B04 (die * 256 + l) new true
      let s := if (s.spareDies l).isEmpty then s.healthEvent 0x0B05 l 0 true else s
      let s := if retiring then s else
        let s := s.failStripes g m (fun x => x == pos)
        let s := s.allToStep4 (mine.filter (fun o => o.isRead && o.owner != .none))
        let s := s.killOps l die
        s.eraseAgain mine m
      ((s.startRun id).reviewAvailable).retry
  | _, _ => s.failSpareDie l die

/-- A die is failed (R395). Three of a pod within 60 s fail the pod (R397). -/
def State.failDie (l die : Nat) (s : State) : State :=
  if s.live.deadDies.contains (dieKey l die) && (s.die (dieKey l die)).health != .retired then s else
  let s := s.modPod l (fun p => { p with failTimes := s.now :: p.failTimes.filter (fun t => decide (s.now < t + 60000000)) })
  if 3 ≤ (s.pod l).failTimes.length then (s.modDie (dieKey l die) (fun d => { d with health := .failed, probeAt := none })).failPod l false
  else s.replaceDie l die false

/-- A die becomes suspect: its reads go to step 4, and it is probed; the third time within 10 s it is failed (R395). -/
def State.suspectDie (l die : Nat) (s : State) : State :=
  let k := dieKey l die
  let d := s.die k
  if d.health == .suspect || d.health == .failed then s else
  let times := s.now :: d.suspects.filter (fun t => decide (s.now < t + 10000000))
  let s := s.modDie k (fun d => { d with suspects := times, health := .suspect, probeAt := some s.now })
  let s := s.allToStep4 (s.waitingReads l (some die))
  if 3 ≤ times.length then s.failDie l die else s.sendPod l 1 (.probe die)

/-- A die answers its probe as ready and healthy (R395). -/
def State.dieReturns (l die : Nat) (s : State) : State :=
  let k := dieKey l die
  let back : DieHealth := if (s.activePos l die).isSome then .active else if s.live.deadDies.contains k then .retired else .spare
  (s.modDie k (fun d => { d with health := back, probeAt := none })).report (srcAggregator l) 0x0C03 (die * 256 + l) 0

/-! ## Blocks (R379 to R382) -/

/-- Good blocks of a die that serve no index. -/
def State.freeBlocks (s : State) (l die : Nat) : List Nat :=
  let used := (List.range (s.desc l).blocksInService).map (s.physBlock l die)
  (List.range (s.desc l).blocks).filter (fun b => !used.contains b && !(s.die (dieKey l die)).badBlocks.contains b)

/-- A block is retired for a spare block of its die (R380, R381); with no spare block, die or pod left its band is RETIRED (R382). -/
def State.retireBlock (g b pos : Nat) (s : State) : State :=
  let l := s.slotAt g pos
  let die := s.dieAt l (b % 16)
  let k := dieKey l die
  let old := s.physBlock l die (b / 16)
  let cap := (s.desc l).blocks - (s.desc l).blocksInService
  let left := s.spareBlocks l die
  let s := s.modDie k (fun d => { d with badBlocks := old :: d.badBlocks, candidates := d.candidates.filter (fun c => !(c == b / 16)) })
  let s := s.modHealth (fun h => { h with blocksRetired := h.blocksRetired + 1 })
  match (s.freeBlocks l die).head? with
  | none =>
    if (s.spareDies l).isEmpty && !s.sparePods.any (s.fitsGroup g) then
      let first := !s.health.everRetired
      let s := s.logBand g b .retired
      let s := s.modHealth (fun h => { h with bandsRetired := h.bandsRetired + 1, everRetired := true })
      let s := (s.healthEvent 0x0B13 g b true).setDegrade dgSpare true
      if first then s.postSmart 2 0 else s
    else s.replaceDie l die true
  | some new =>
    let s := s.logBand g b (.remapped pos new)
    let s := s.modDie k (fun d => { d with spareBlocks := some (left - 1) })
    let at_ := fun (pc : Nat) => decide ((left - 1) * 100 ≤ cap * pc ∧ cap * pc < left * 100)
    let s := if at_ 50 then s.healthEvent 0x0B01 (die * 256 + l) 50 true else s
    let s := if at_ 25 then s.healthEvent 0x0B02 (die * 256 + l) 25 true else s
    let s := if at_ 10 then s.healthEvent 0x0B03 (die * 256 + l) 10 true else s
    let s := s.reviewAvailable
    -- the last spare block taken retires the die
    if left ≤ 1 then s.replaceDie l die true else s

end Sys2Proof.Machine
end

