-- ==== Sys2Proof/Machine/ModeOps.lean ====
section
/-! DEFINITION. The power-loss flush, SAFE-HOLD, the loss of what is volatile, the start of bring-up (03, 16, 17). -/
namespace Sys2Proof.Machine

/-- A keep register changes: the other image takes the change and becomes current (R572). -/
def State.keepWrite (f : Keep → Keep) (s : State) : State :=
  (s.modKeep f).modPart (fun p => { p with keepImage := !p.keepImage, keepSeq := p.keepSeq + 1, keepOther := s.keep })

/-- The bellows charger runs (R535). -/
def State.chargerMayRun (s : State) : Bool :=
  s.modes.mode != .keep && s.modes.mode != .safeHold && s.modes.flush.isNone && !s.pw.brownout && !s.pw.testLoad &&
  (s.modes.mode != .bringUp || decide (4 ≤ s.modes.step))

/-- Every pod bay is opened and the pod rail is off (R542). -/
def State.podsOff (s : State) : State :=
  (s.each ((s.pods.filter (fun (e : Nat × Pod) => e.2.powered)).map (·.1)) (fun l t => t.podOff l)).modPw (fun p => { p with rail := false })

/-! ## What does not outlive a power loss -/

/-- What of a die outlives a restart; of its record (log page 0xE7) what was last persisted, so that counts made since are lost (R620). -/
def Die.kept (r : DieStats) (d : Die) : Die :=
  { d with
    hostReads := r.hostReads, otherReads := r.otherReads, programs := r.programs, erases := r.erases, bitsRead := r.bitsRead, bitsFixed := r.bitsFixed, ladder := r.ladder
    progFails := r.progFails, eraseFails := r.eraseFails, progSusp := r.progSusp, eraseSusp := r.eraseSusp, tempMaxK := r.tempMaxK, resets := r.resets, podResets := 0
    health := if d.health = .suspect then .active else d.health
    suspects := [], busyUs := [], deficits := [], doneAt := 0, planeQ := [], hourReads := 0, hourSlow := 0, win10 := 0, busy10 := [], win100 := 0
    probeAt := none, doneReads := 0, doneFixed := 0 }
/-- The same of a line: nothing of it is in T1 or T2; a checkpoint whose directory record was not sealed is lost (R262). -/
def Line.kept (l : Line) : Line :=
  { l with inT1 := false, ckpt := false, dirty := l.dirty || l.ckpt, overlay := l.dirty || l.ckpt }
/-- Of a map-cache slice: its disabled ways (R287). -/
def Slice.kept (x : Slice) : Slice :=
  { ways := (x.ways.filter (fun (e : Nat × Way) => e.2.disabled)).map (fun (e : Nat × Way) => (e.1, ({ disabled := true } : Way)))
    spareFor := x.spareFor }
/-- Of a stop: its columns (R496). -/
def Stop.kept (x : Stop) : Stop := { spareUsed := x.spareUsed, colFailed := x.colFailed, colsOff := x.colsOff }

/-- Everything volatile is lost: what remains is on the media, in the vault, in boot flash, in the keep domain and in fuses.
`ports`: whether the host ports keep their state (a watchdog restart, R570). -/
def State.discard (ports : Bool) (s : State) : State :=
  let dumped := match s.vault with
    | some v => v.muns
    | none => []
  { s with
    -- a Crypto Erase that has not completed leaves the old key in force (R586)
    part := { s.part with
      keys := s.part.keyTab.undo.foldl (fun t (e : Nat × KeySlot) => t.set e.1 e.2) s.part.keys
      keyTab := { s.part.keyTab with undo := [] } }
    pw := { s.pw with zones := [], mute := 0, advice := 256, causeZone := 0, m2At := none, hwTrip := false, composite := 0, hotTimes := [], charged := false
                      charger := false, testing := false, testLoad := false, rail := false, energy := 0 }
    ports := if ports then s.ports else s.ports.map (fun (e : Nat × Port) => (e.1, ({ perst := e.2.perst, saved := e.2.saved, savedApst := e.2.savedApst, arb := e.2.saved.get 0 0x01, errRec := e.2.saved.get 0 0x05, atomicity := e.2.saved.get 0 0x0A, apstEn := (e.2.saved.get 0 0x0C).getLsbD 0, apst := e.2.savedApst.getD [] } : Port)))
    insts := []
    ctxs := []
    live := s.sealed
    jrn := { s.jrn with opened := [], sealing := none }
    lines := s.lines.map (fun (e : Nat × Line) => (e.1, e.2.kept))
    lends := []
    mc := { slices := s.mc.slices.map (fun (e : Nat × Slice) => (e.1, e.2.kept)) }
    cache := { pointers := s.cache.pointers }
    cw := s.cw.filter (fun (e : Nat × Codeword) => e.2.programmed || dumped.contains e.1)
    groups := s.groups.map (fun (e : Nat × Group) => (e.1, ({ clock := e.2.clock, freeSeq := e.2.freeSeq } : Group)))
    ops := []
    solves := []
    dies := s.dies.map (fun (e : Nat × Die) => (e.1, e.2.kept (s.jrn.dieStats.get {} e.1)))
    chanters := []
    links := s.links.map (fun (e : Nat × Link) => (e.1, ({ onSpare := e.2.onSpare } : Link)))
    pods := s.pods.map (fun (e : Nat × Pod) => (e.1, ({ present := e.2.present } : Pod)))
    stops := s.stops.map (fun (e : Nat × Stop) => (e.1, e.2.kept))
    chans := []
    drones := []
    spares := { s.spares with page := none }
    ev := { s.ev with sources := [], next := 0, ring := s.ev.ring.filter (fun e => decide (e.seq ≤ s.ev.persisted)), history := s.ev.history.filter (fun e => decide (e.seq ≤ s.ev.persisted)), lost := 0, coalesced := 0 }
    health := { s.health with writeProtect := false, spareLow := false, handed := [], handedBy := [], relocs := [], runs := [], rbTarget := 0 } }

/-! ## The bank to boot, and what a restart does to an update (R603, R612) -/

/-- R603, at bring-up step 3 and at every restart at step 5. -/
def State.chooseBank (s : State) : State :=
  let k := s.keep
  let ended : Nat → State → State := fun r s =>
    (((s.keepWrite (fun k => { k with stage := 0, result := r, trialValid := false, bootOnce := false, trialCount := 0, autoConfirm := false, trialStart := 0, oldArea := false })).modPart
      (fun p => { p with expiries := [] })).modModes (fun m => { m with restarts := 0 })).report srcPartition 0x0E0A 0 r
  let boot : Nat → State → State := fun b s => s.modFlash (fun f => { f with running := b })
  if k.stage = 3 then
    if k.bootOnce then boot k.fwActive (ended 5 s)
    else boot k.trialBank (s.keepWrite (fun k => { k with bootOnce := true }))
  else if k.stage = 4 then
    if k.trialCount = 3 then boot k.fwActive (ended (if k.bootOnce then 7 else 6) s)
    else boot k.trialBank (s.keepWrite (fun k => { k with trialCount := k.trialCount + 1 }))
  else if k.activateNext then boot k.trialBank (s.keepWrite (fun k => { k with stage := 3, bootOnce := true, activateNext := false, trialValid := true, oldArea := (s.fwBank k.trialBank).formatWrite != s.flash.formatSet }))
  else boot k.fwActive s

/-- Sectors of a package's bank that hold a block already programmed. -/
def Package.held (p : Package) (resume : Nat) : List Nat :=
  if p.kind = 1 then (List.range resume).map (fun i => 32 + i / 16)
  else (List.range (resume - 1)).map (fun i => (if p.target % 2 = 0 then 16 else 24) + (i * 4064 + 4063) / 65536)

/-- What a power failure or a restart leaves of an update (R612): a stop package's staging is lost, a flash package goes on at RESUME_BLOCK. -/
def State.cutUpdate (s : State) : State :=
  let lost := s.keep.kind = 3 ∧ s.flash.package.isSome ∧ s.keep.stage ≠ 2
  let s := if lost then
      (s.keepWrite (fun k => { k with stage := if k.stage = 1 then 0 else k.stage, result := 10, verifying := false, resumeBlock := 0, blocks := 0 })).modFlash (fun f => { f with package := none })
    else s
  s.modFlash (fun f => { f with
    partial_ := 0
    verify := none
    package := f.package.map (fun (p : Package) => { p with ctx := none, togo := 0, sectors := p.sectors.filter (fun x => (p.held s.keep.resumeBlock).contains x) })
    banks := f.banks.map (fun (e : Nat × Bank) => (e.1, { e.2 with queue := e.2.queue.filter (fun (x : Nat × Bool) => x.2) })) })

/-- The stop whose staging holds a package loses it. -/
def State.dropStaging (n : Nat) (s : State) : State :=
  if (s.stop n).stagedPkg then s.modStop n (fun y => { y with staging := [], staged := none, stagedPkg := false }) else s

/-- The package still in DOWNLOADING or VERIFIED is abandoned (R596). A firmware package's bank is no longer to be booted. -/
def State.abandonPackage (s : State) : State :=
  match s.flash.package with
  | none => s
  | some p =>
    let s := if p.kind = 3 then s.dropStaging p.target else s
    let s := s.modFlash (fun f => { f with package := none, partial_ := 0 })
    s.keepWrite (fun k => { k with
      stage := if k.stage = 1 ∨ k.stage = 2 then 0 else k.stage, result := 8, resumeBlock := 0, blocks := 0
      activateNext := if p.kind = 1 then false else k.activateNext })

/-! ## The start of bring-up -/

/-- BRING-UP begins at step 1. -/
def State.startBringup (s : State) : State :=
  let s := (s.discard false).cutUpdate
  let m := s.modes
  { s with
    modes := { deviceEpoch := m.deviceEpoch, lastShutdown := m.lastShutdown, testLog := m.testLog, startedAt := s.now }
    pw := { s.pw with inputOk := true, state := 0, bankOnBus := false, armed := false, brownout := false, switchOpen := false, j2Present := true }
    part := { s.part with lockstepOk := true, romOk := false, otpOk := false, keepA := false, keepB := false, debugOn := false, restarting := false, safe08 := false
                          queue := [], challenges := [], wdtRun := false, wdtLast := 0, ringClock := false, clockFault := false, goodWindows := 0, pllRetries := 0
                          dumped := false, coresHeld := true, readStatus := [] }
    flash := { s.flash with loaded := 0, source := 0, vstate := 0, failMask := 0 } }

/-- BRING-UP restarts at step 5 (R90, R570): the cores are still held, the watchdog counts from 0 again. -/
def State.restartBringup (s : State) : State :=
  let m := s.modes
  let s := (s.podsOff).discard true
  let s := { s with
    modes := { deviceEpoch := m.deviceEpoch, lastShutdown := m.lastShutdown, testLog := m.testLog, startedAt := m.startedAt
               step := 4, trialStart := s.now, restarts := if m.mode == Mode.bringUp then m.restarts else 0 }
    part := { s.part with wdtRun := true, wdtLast := 0, wdtAt := s.now, coresHeld := true }
    pw := { s.pw with charger := !s.pw.brownout }
    flash := { s.flash with loaded := 0, source := 0, vstate := 0, failMask := 0 } }
  let fatal := m.mode != .bringUp
  s.allPorts (fun p t => t.modPort p (fun x => { x with
    cfs := x.cfs || fatal, cfsKept := x.cfsKept || (fatal && x.ccEn), rdy := false, pp := false, posted := {}, waitingEv := [], aers := [], held := [], heldIrq := [], heldOut := []
    -- what is counted since BRING-UP (R132)
    run := {}, snap := {}, lats := [], stray := 0, straySec := 0, straySent := false }))

/-- Bring-up restarts at step 5, on the bank R603 chooses. -/
def State.restartAtFive (s : State) : State := ((s.restartBringup).cutUpdate).chooseBank

/-- Nothing but the keep domain is powered. -/
def State.enterKeep (s : State) : State :=
  let s := (s.podsOff).discard false
  { s with
    modes := { mode := .keep, deviceEpoch := s.modes.deviceEpoch, lastShutdown := s.modes.lastShutdown, testLog := s.modes.testLog }
    pw := { s.pw with bankOnBus := false, armed := false, brownout := false }
    flash := { s.flash with banks := s.flash.banks.map (fun (e : Nat × Bank) => (e.1, { e.2 with busy := none, queue := [] })) }
    part := { s.part with
      queue := [], challenges := [], wdtRun := false, coresHeld := true
      keys := s.part.keys.map (fun (e : Nat × KeySlot) => if e.2.persist then e else match e.2.state with
        | .loaded => (e.1, ({} : KeySlot))
        | .active => (e.1, { e.2 with state := .locked })
        | _ => e) } }

/-! ## SAFE-HOLD (R75, R77, R81) -/

/-- A cause is present. -/
def Modes.addCause (c : Nat) (m : Modes) : Modes := if m.causes.contains c then m else { m with causes := m.causes ++ [c] }

/-- A stop whose boundary is abandoned stays fenced (R77). -/
def Stop.abandoned (x : Stop) : Stop :=
  if x.epoch.isNone then x else { x with state := 4, before := x.state, epoch := none, waiting := [], cmds := [], ctlReads := [] }

/-- The module enters SAFE-HOLD: pods off, ports fenced with CFS, any boundary abandoned. -/
def State.enterSafe (cause : Nat) (s : State) : State :=
  let s := s.podsOff
  let s := s.modModes (fun m => { (m.addCause cause) with
    mode := .safeHold, safeCause := cause, flush := none, flushActive := false, quiesceCause := 0, ps := 0, psEntry := none, excursion := false
    epoch := none, hold := none, selfTest := none, stopped := false })
  let s := { s with
    pw := { s.pw with charger := false, testing := false, testLoad := false }
    part := { s.part with wdtRun := false, dumped := s.part.dumped || s.modes.step < 13 }
    insts := s.insts.map (fun (e : Nat × Inst) => (e.1, { e.2 with change := none, waiting := [], state := if e.2.state = SlotState.draining then SlotState.active else e.2.state }))
    stops := s.stops.map (fun (e : Nat × Stop) => (e.1, e.2.abandoned)) }
  s.allPorts (fun p t => t.modPort p (fun x => { x with cfs := true, pp := false }))

/-! ## The flush (R528 to R534, R653) -/

/-- Slots of a stripe's data codewords that a dump takes: those placed that no complete stripe holds, filler left out (R317). Rows of members already
programmed are dumped with the rest, since bring-up reads no row above its band's mark (R418; log entry 105). -/
def State.dumpMuns (s : State) (x : Stripe) : List Nat :=
  ((List.range (s.vmun x.group).dataMembers).flatMap (fun m => (List.range (s.vmun x.group).slotsPerRow).filterMap (fun a =>
    if x.acc.contains (a, m) then some (s.munOf ⟨x.group, x.band, x.row, m, a⟩) else none))).filter (fun m => !(s.codeword m).lost)
/-- The incomplete stripes, oldest journal epoch first (R317). -/
def State.dumpStripes (s : State) : List Stripe :=
  let age := fun x => (s.dumpMuns x).foldl (fun e m => min e (s.codeword m).epoch) s.jrn.openEpoch
  s.cache.stripes.mergeSort (fun a b => decide (age a ≤ age b))

/-- A flush begins: steps 1 to 4. Unacknowledged writes take effect or not, unit by unit, in fetch order (R165, R531). What it will
dump is the journal ring and every placed codeword no die holds (R317). -/
def State.startFlush (why : FlushWhy) (onBank : Bool) (s : State) : State :=
  let s := s.modModes (fun m => { m with
    flush := some { why := why, onBank := onBank, mode := m.mode }, flushActive := true, psEntry := none
    epoch := none, hold := none, selfTest := none })
  let s := s.modPw (fun p => { p with charger := false, testing := false, testLoad := false })
  let ws := s.ctxs.filter (fun c => !c.admin && c.sqe.writes)
  let s := ws.foldl (fun t c => t.endWrite c) s
  let s := { s with
    ctxs := []
    solves := []
    chans := s.chans.map (fun (e : Nat × Chan) => (e.1, { e.2 with enable := false, flight := none }))
    stops := s.stops.map (fun (e : Nat × Stop) => (e.1, if e.2.state = 0 ∨ e.2.state = 4 then e.2 else { e.2 with state := 4, before := e.2.state, epoch := none, cmds := [], ctlReads := [] }))
    ops := s.ops.filter (fun (o : Op) => o.tag.isSome && !o.isRead) }
  -- an erase in progress is suspended where its suspend count allows it, and finishes otherwise (R329)
  let s := (s.ops.filter (fun (o : Op) => o.isErase && !o.suspended && !o.dead && !o.askedSuspend && decide (o.suspends < 8))).foldl (fun (t : State) (o : Op) =>
    (t.modOp o.id (fun x => { x with askedSuspend := true, askedAt := t.now })).sendPod o.link 1 (.suspend o.die (o.tag.getD 0))) s
  let s := s.keepWrite (fun k => { k with dumpStarted := true, dumpId := k.dumpId + 1, flushComplete := false })
  let logs : Tbl DefLog := s.insts.filterMap (fun (e : Nat × Inst) => if e.2.defLog.seq = 0 then none else some (e.1, e.2.defLog))
  let muns := s.dumpStripes.flatMap s.dumpMuns
  { s with vault := some {
      dumpId := s.keep.dumpId.toNat, epoch := s.jrn.openEpoch, device := s.modes.deviceEpoch
      sealing := s.jrn.sealing.getD [], opened := s.jrn.opened, muns := muns
      defLogs := logs
      lastSeq := s.ev.lastSeq, ring := s.ev.ring.filter (fun e => decide (s.ev.persisted < e.seq)), complete := false } }

/-- The SAFE-HOLD cause a flush ends with; 0: none of its own (R653). -/
def FlushWhy.cause : FlushWhy → Nat
  | .power => 1 | .thermal => 2 | .overvoltage => 3 | .stage => 4 | .lockout => 5 | .clock => 6 | .safe08 => 8
  | .watchdog => 0 | .moduleReset => 0

/-- Step 6; while MRST_N stays low, BRING-UP holds at step 0 with CSTS.CFS = 1 on every port (R653, R75). -/
def State.endFlush (f : Flush) (s : State) : State :=
  let s := s.podsOff
  let extra := s.modes.causes.filter (fun c => !(c == 1 && s.modes.inputBack))
  let s := s.modModes (fun m => { m with causes := extra })
  if f.why = .power ∧ s.modes.inputBack ∧ (extra.filter (fun c => !(c == 1))).isEmpty then s.startBringup
  else if f.why.cause ≠ 0 then
    let s := s.enterSafe f.why.cause
    if s.modes.inputBack then s.modModes (fun m => { m with causes := m.causes.filter (fun c => !(c == 1)) }) else s
  else match extra with
    | c :: _ => s.enterSafe c
    | [] =>
      if f.why = .watchdog then { s with modes := { s.modes with flush := none } }.restartAtFive
      else if s.modes.resetHeld then
        ((s.startBringup).modModes (fun m => { m with resetHeld := true })).allPorts (fun p t => t.modPort p (fun x => { x with cfs := true }))
      else s.startBringup

/-- A SAFE-HOLD cause arises (R77, R81): while serving a flush first, where one is due; during a flush and in SAFE-HOLD it is added. -/
def State.causeArises (cause : Nat) (why : FlushWhy) (dump onBank : Bool) (s : State) : State :=
  if s.modes.mode == .keep then s
  else if s.modes.mode == .safeHold then
    (s.modModes (Modes.addCause cause)).report srcPartition (evUnnamed 3 cause) cause s.modes.safeCause
  else if s.modes.flush.isSome then s.modModes (Modes.addCause cause)
  else if s.active && dump then (s.modModes (Modes.addCause cause)).startFlush why onBank
  else s.enterSafe cause

/-- A condition for release is met: a cause is gone; with none left BRING-UP begins (R81). -/
def State.causeGone (cause : Nat) (s : State) : State :=
  if s.modes.mode != .safeHold || !s.modes.causes.contains cause then s else
  let s := s.modModes (fun m => { m with causes := m.causes.filter (fun c => !(c == cause)) })
  if s.modes.causes.isEmpty then s.startBringup else s

end Sys2Proof.Machine
end

