-- ==== Sys2Proof/Machine/Chanter.lean ====
section
/-! DEFINITION. The chanters: arbitration, suspends, read-around, timeouts of dies, and the ends of decodes (10, 12). -/
namespace Sys2Proof.Machine

/-! ## Die time (R331, R334) -/

/-- Die time charged to a class in the 100 ms window and in the 10 ms window that run now. -/
def Die.used100 (d : Die) (now c : Nat) : Nat := if d.win100 = now / 100000 then d.busyUs.get 0 c else 0
def Die.used10 (d : Die) (now c : Nat) : Nat := if d.win10 = now / 10000 then d.busy10.get 0 c else 0
def Die.all10 (d : Die) (now : Nat) : Nat := (List.range 5).foldl (fun n c => n + d.used10 now c) 0
/-- Die time is charged to a class. -/
def Die.charge (now c us : Nat) (d : Die) : Die :=
  let a : Tbl Nat := if d.win100 = now / 100000 then d.busyUs else []
  let b : Tbl Nat := if d.win10 = now / 10000 then d.busy10 else []
  { d with win100 := now / 100000, busyUs := a.set c (a.get 0 c + us), win10 := now / 10000, busy10 := b.set c (b.get 0 c + us) }

/-- Typical and greatest time of a program or an erase, µs (R324). -/
def opTyp (d : PodDesc) (o : Op) : Nat := if o.isErase then 10 * d.tEraseTyp else d.tProgTyp
def opMax (d : PodDesc) (o : Op) : Nat := if o.isErase then 10 * d.tEraseMax else d.tProgMax

/-- Time left in an operation (R338): as the pod last measured it, or as the chanter estimates it. -/
def State.remaining (s : State) (o : Op) : Nat :=
  match o.remain with
  | some r => r - (s.now - o.remainAt)
  | none =>
    let d := s.desc o.link
    let busy := s.now - o.start - o.suspTime
    if busy < opTyp d o then opTyp d o - busy else opMax d o - busy

/-- Progress of an operation since its last resume, or since it began. -/
def State.progress (s : State) (o : Op) : Nat := s.now - max o.start o.lastResume

/-- R335, R336: the operation gives way to a host read now. -/
def State.suspendOk (s : State) (o : Op) : Bool :=
  if o.isErase then decide (300 < s.remaining o ∧ o.suspends < 8 ∧ 150 ≤ s.progress o)
  else decide (o.suspends < 2 ∧ 100 < s.remaining o)

/-! ## What waits and what runs -/

/-- Operations at the pod for a die that may still end in a result. -/
def State.running (s : State) (l die : Nat) : Option Op :=
  s.ops.find? (fun o => o.link == l && o.die == die && o.tag.isSome && !o.isRead && !o.dead)
def State.readsOut (s : State) (l die : Nat) : List Op := s.ops.filter (fun o => o.link == l && o.die == die && o.isRead && o.tag.isSome)
def State.queued (s : State) (l die : Nat) : List Op := s.ops.filter (fun o => o.link == l && o.die == die && o.tag.isNone && !o.decoding)
def Op.plane (o : Op) : Nat :=
  match o.kind with
  | .read _ p _ _ => p
  | _ => 0

/-- A band holds a read reference (R323); a version kept for a read, or for a write that can still be undone, is one. -/
def State.readRef (s : State) (g b : Nat) : Bool :=
  s.ctxs.any (fun c => (c.kept ++ c.undo).any (fun x => match x.2 with
    | .mun m => (match s.locate m with
      | some y => y.group == g && y.band == b
      | none => false)
    | _ => false)) ||
  s.ops.any (fun o => o.isRead && o.group == g && o.band == b && o.owner != .none) ||
  s.solves.any (fun v => match s.locate v.mun with
    | some x => x.group == g && x.band == b
    | none => false)

/-- Program units of a member row (13, PROGRAM). -/
def codewords (d : PodDesc) : Nat := 16 * d.levels

/-- Reads whose codeword is staged in HBM: member reads, merges, and reads of a command whose data passes a stop (10). -/
def State.staged (s : State) (o : Op) : Bool :=
  match o.owner with
  | .member _ _ => true
  | .merge _ _ _ => true
  | .ctx id _ _ => (match s.ctx id with
    | some c => c.sqe.opcode == 0x82 || c.sqe.opcode == 0x84
    | none => false)
  | _ => false
/-- Bytes of read staging in use: write-through data (R313), codewords being read into it, and members of rows being solved. -/
def State.stagingUsed (s : State) : Nat :=
  s.stagedBytes + 4112 * ((s.ops.filter (fun o => o.isRead && (o.tag.isSome || o.decoding) && s.staged o)).length + s.solves.foldl (fun n v => n + v.known.length) 0)
/-- Read staging has room for one codeword more. -/
def State.stagingRoom (s : State) (o : Op) : Bool := !s.staged o || decide (s.stagingUsed + 4112 ≤ s.image.memory.stagingMib * 2 ^ 20)

/-- A queued operation can go to the pod now (R36, R323, R325, R326, R436). -/
def State.issuable (s : State) (o : Op) : Bool :=
  s.hasContext o && s.stagingRoom o &&
  if o.isRead then
    decide ((s.readsOut o.link o.die).length < 4) && !(s.readsOut o.link o.die).any (fun r => r.plane == o.plane) &&
    (match s.running o.link o.die with
      | none => true
      | some r => r.suspended && o.cls == .host)
  else
    (s.running o.link o.die).isNone &&
    (if o.isErase then !s.readRef o.group o.band else decide (codewords (s.desc o.link) ≤ (s.link o.link).writeCredits))

/-- A write whose slots wait for its data (R294). -/
def Ctx.owesData (c : Ctx) : Bool :=
  !c.admin && (c.sqe.opcode == 0x01 || c.sqe.opcode == 0x08 || c.sqe.opcode == 0x84) &&
  (c.phase == .space || c.phase == .merge || c.phase == .granted || c.phase == .media || c.phase == .stop)
/-- A member program waits for the data of a slot of its row; P's and Q's for that of every member (R295). -/
def State.dataDue (s : State) (o : Op) : Bool :=
  match o.kind with
  | .program pos => s.ctxs.any (fun c => c.owesData && c.placed.any (fun p => match s.locate p.mun with
      | some x => x.group == o.group && x.band == o.band && x.row == o.row && (match s.memberAt o.band pos with
        | some m => x.member == m
        | none => true)
      | none => false))
  | _ => false

/-- The next operation of a class on a die: host reads in fetch order (R328), programs and erases in the order they were queued, but for programs
whose data is still to come; the rows of a band keep their order (R288). -/
def State.nextOf (s : State) (l die : Nat) (c : OpClass) : Option Op :=
  let q := (s.queued l die).filter (fun o => o.cls == c)
  if c == .host then
    q.foldl (fun best o =>
      if !s.issuable o then best else
      match best with
      | none => some o
      | some b => if o.stamp < b.stamp then some o else some b) none
  else
    let late := q.filter (fun o => !o.isRead && s.dataDue o)
    let firstWrite := (q.find? (fun o => !o.isRead && !s.dataDue o && !late.any (fun e => e.id < o.id && e.group == o.group && e.band == o.band))).map (fun o => o.id)
    q.find? (fun o => s.issuable o && (o.isRead || firstWrite == some o.id))

/-- Sums of the die-time budgets of drones 0 to 5, 1/1,024 (R331, R332). -/
def State.droneMin (s : State) : Nat := (s.image.drones.take 6).foldl (fun n x => n + x.1) 0
def State.droneMax (s : State) : Nat := (s.image.drones.take 6).foldl (fun n x => n + x.2) 0

/-- GC weight of a group; a group with thin bands runs at 60 or more (R361, R409). -/
def State.isThin (s : State) (g b : Nat) : Bool :=
  (s.band g b).state == .full && !(s.band g b).absent.isEmpty &&
  !(s.unitsIn g b).any (fun u => match s.locate u.2.2 with
    | some x => (s.band g b).absent.contains (s.position b x.member)
    | none => false)
def State.thinIn (s : State) (g : Nat) : Nat := ((s.bandsOf g).filter (s.isThin g)).length
def State.gcWeight (s : State) (g : Nat) : Nat :=
  let n := s.freeCount g
  let w := if 7 ≤ n then 8 else if n = 6 then 60 else if n = 5 then 120 else if n = 4 then 180 else 240
  if w < 60 && s.thinIn g != 0 then 60 else w

/-- Weight of a class (R331). -/
def State.weight (s : State) (o : Op) : Nat :=
  match o.cls with
  | .write => if s.cache.held then 240 else if 3 * s.cache.limitMib < 4 * s.occupancyMib then 120 else 60
  | .gc => s.gcWeight o.group
  | _ => 8

/-- Die time an operation is expected to take, as it will be charged (R331). -/
def State.expected (s : State) (o : Op) : Nat :=
  let d := s.desc o.link
  if o.isRead then d.tReadTyp / 40 + (if o.ladder = 3 ∨ (o.ladder = 5 ∧ o.sweep = 0) then d.tSoftTyp / 40 else 0) else opTyp d o

/-- Deficit round robin over write, GC and drone work: the operation chosen, and the deficits after it (R331). -/
def State.weighted (s : State) (l die : Nat) (os : List Op) : Option (Op × Tbl Nat) :=
  let d := s.die (dieKey l die)
  let need := fun (o : Op) => ceilDiv (s.expected o - d.deficits.get 0 o.cls.num) (max 1 (s.weight o))
  match os.foldl (fun (b : Option Op) o => match b with
    | none => some o
    | some x => if need o < need x then some o else some x) none with
  | none => none
  | some o =>
    let n := need o
    let t : Tbl Nat := os.foldl (fun (t : Tbl Nat) x => t.set x.cls.num (d.deficits.get 0 x.cls.num + n * s.weight x)) []
    some (o, t.set o.cls.num (t.get 0 o.cls.num - s.expected o))

/-- What the chanter issues next to a die (R330, R332 to R334). -/
def State.pick (s : State) (l die : Nat) : Option (Op × Option (Tbl Nat)) :=
  let d := s.die (dieKey l die)
  let flush := s.nextOf l die .flush
  if s.modes.flush.isSome then flush.map (fun o => (o, none)) else
  match flush with
  | some o => some (o, none)
  | none =>
    -- a duty cap stops everything else (R334)
    if s.dutyOf l * 10000 ≤ d.all10 s.now * 1024 then none else
    let host := s.nextOf l die .host
    let write := s.nextOf l die .write
    let gc := s.nextOf l die .gc
    let droneUs := d.used100 s.now 4
    let drone := if s.droneMax * 100000 ≤ droneUs * 1024 || s.modes.ps == 4 then none else s.nextOf l die .drone
    -- under a cap the floors apply to the capped time
    let droneBehind := decide (droneUs * 1024 * 1024 < s.droneMin * (s.now % 100000) * s.dutyOf l)
    let writeBehind := decide (d.used10 s.now 2 * 1024 * 1024 < (if s.cache.held then 256 else 128) * 10000 * s.dutyOf l)
    match drone, write, host with
    | some o, w, h =>
      if droneBehind then some (o, none)
      else match w, h with
        | some x, y => if writeBehind then some (x, none) else (match y with
          | some r => some (r, none)
          | none => (s.weighted l die ([x] ++ gc.toList ++ [o])).map (fun e => (e.1, some e.2)))
        | none, some r => some (r, none)
        | none, none => (s.weighted l die (gc.toList ++ [o])).map (fun e => (e.1, some e.2))
    | none, some x, h =>
      if writeBehind then some (x, none) else (match h with
        | some r => some (r, none)
        | none => (s.weighted l die ([x] ++ gc.toList)).map (fun e => (e.1, some e.2)))
    | none, none, some r => some (r, none)
    | none, none, none => (s.weighted l die gc.toList).map (fun e => (e.1, some e.2))

/-! ## Issuing to the pod (R343, R346, R432, R436) -/

/-- A tag distinct from every outstanding one (R432). -/
def State.freeTag (s : State) (l : Nat) : Nat :=
  let x := s.link l
  (((List.range 256).map (fun i => (x.nextTag + i) % 65535)).find? (fun t =>
    !s.ops.any (fun o => o.link == l && o.tag == some t) && !x.mgmt.any (fun e => e.1 == t))).getD x.nextTag

/-- A host read is issued to a die of a group: one token for every 50 (R351). -/
def State.readToken (g : Nat) (s : State) : State :=
  s.modGroup g (fun x => if x.raCount + 1 = 50 then { x with raCount := 0, tokens := min 64 (x.tokens + 1) } else { x with raCount := x.raCount + 1 })

/-- OFFSET_SEL of a read: the pod's tables for version 3, inline before it and for shifted reads (R346, R439). -/
def offsetSel (version : Nat) (o : Op) : Nat := if version < 3 ∨ o.ladder = 5 then 3 else if o.ladder = 2 then 2 else 1
/-- Read levels of a die: 7 for TLC, 15 for QLC. -/
def readLevels (d : PodDesc) : Nat := 2 ^ d.levels - 1
/-- An offset set of a block group; all zero before its first calibration. -/
def Die.offsetSet (x : Die) (bg : Nat) (alternate : Bool) : List Byte := x.offsets.get [] (bg * 2 + alternate.toNat)
/-- An OFFSETS slot: a byte for each read level, 0 beyond the die's own. -/
def offsetSlot (xs : List Byte) (shift : Byte) (levels : Nat) : List Byte := (List.range 15).map (fun i => if i < levels then (xs[i]?).getD 0 + shift else 0)
/-- The OFFSETS slot of a read with OFFSET_SEL 3: the current set, at step 2 the alternate, at step 5 shifted (R343, R346). -/
def State.readOffsets (s : State) (o : Op) : List Byte :=
  if offsetSel (s.link o.link).version o = 3 then
    offsetSlot ((s.die (dieKey o.link o.die)).offsetSet (o.block / 64) (o.ladder == 2)) (if o.ladder = 5 then Config.sweepShift o.sweep else 0) (readLevels (s.desc o.link))
  else []
/-- A block group's two offset sets go to a version 3 pod. -/
def State.sendOffsets (l die bg : Nat) (s : State) : State :=
  let x := s.die (dieKey l die)
  let n := readLevels (s.desc l)
  (s.sendPod l 1 (.loadOffsets die bg false (offsetSlot (x.offsetSet bg false) 0 n))).sendPod l 1 (.loadOffsets die bg true (offsetSlot (x.offsetSet bg true) 0 n))
def softOf (o : Op) : Nat := if o.ladder = 3 then 1 else if o.ladder = 5 ∧ o.sweep = 0 then 2 else 0

/-- An operation goes to the pod. -/
def State.issue (o : Op) (s : State) : State :=
  let l := o.link
  let k := dieKey l o.die
  let tag := s.freeTag l
  let d := s.desc l
  let soft := softOf o
  let start := max s.now (s.die k).doneAt
  let s := s.modLink l (fun x => { x with nextTag := (tag + 1) % 65535 })
  let s := s.modOp o.id (fun o => { o with tag := some tag, issuedAt := s.now, start := start, units := 1 + soft, soft := soft, suspends := 0, suspTime := 0, suspended := false, windowAt := none, remain := none, askedSuspend := false })
  match o.kind with
  | .read _ plane level cw =>
    let s := s.modDie k (fun x => (if o.cls == OpClass.host then { x with hostReads := sat64 (x.hostReads + 1) } else { x with otherReads := sat64 (x.otherReads + 1) }).charge s.now o.cls.num (s.expected o))
    let s := if o.cls != .host then s else
      let wait := (s.now - o.queuedAt) * 10
      (s.modChanter l (fun c => { c with
        hostReads := sat64 (c.hostReads + 1)
        waitMax := if c.waitSec = s.now / 1000000 then max c.waitMax wait else wait
        waitSec := s.now / 1000000 })).readToken o.group
    s.sendPod l 1 (.read o.die o.block o.row level plane (2 ^ cw) (offsetSel (s.link l).version o) soft tag false (s.readOffsets o))
  | .program pos =>
    let n := codewords d
    let row := (s.cache.stripes.find? (fun x => x.group == o.group && x.band == o.band && x.row == o.row)).map (fun x => s.rowBytes x pos)
    let s := s.modLink l (fun x => { x with writeCredits := x.writeCredits - n, unitsSent := x.unitsSent + n })
    s.sendPod l ((1 + 279 * n + 78) / 79) (.program o.die o.block o.row n tag false (row.getD []))
  | .erase => s.sendPod l 1 (.erase o.die o.block tag false)

/-! ## Suspend and read-around (R335 to R337, R349 to R353) -/

/-- A suspended operation is resumed. -/
def State.resumeOp (o : Op) (s : State) : State :=
  let s := s.modOp o.id (fun o => { o with suspended := false, lastResume := s.now, suspTime := o.suspTime + (s.now - o.windowAt.getD s.now), windowAt := none })
  s.sendPod o.link 1 (.resume o.die (o.tag.getD 0))

/-- A member die may take part in a read-around (R350). -/
def State.eligible (s : State) (l die plane : Nat) : Bool :=
  (s.die (dieKey l die)).health == .active && (s.link l).state == 2 &&
  (match s.running l die with
    | none => true
    | some o => o.suspended || s.suspendOk o) &&
  (let reads := s.ops.filter (fun o => o.link == l && o.die == die && o.cls == .host && o.isRead && !o.decoding && o.plane == plane && o.owner != .none)
   -- what a version 3 pod holds of a plane is what its last BUSY says (R439)
   let atPod := if (s.link l).version = 3 then ((s.die (dieKey l die)).planeQ[plane]?).getD 0 else (reads.filter (fun o => o.tag.isSome)).length
   decide ((reads.filter (fun o => o.tag.isNone)).length + atPod ≤ 2))

/-- The instance a read is taken for. -/
def State.ownerInst (s : State) (w : Owner) : Option Nat :=
  match w with
  | .ctx id _ _ => (s.ctx id).map Ctx.key
  | .merge id _ _ => (s.ctx id).map Ctx.key
  | _ => none

/-- A waiting host read is served from the rest of its row, where R349 allows it. -/
def State.readAround (o run : Op) (s : State) : State :=
  match s.locate o.mun, s.ns (s.codeword o.mun).nsid, s.ownerInst o.owner with
  | some x, some v, some k =>
    let target := s.position x.band x.member
    let gone := ((List.range s.width).filter (fun p => s.memberGone x.group x.band p)).filter (fun p => !(p == target))
    let set := s.solveSet x (target :: gone)
    if !v.spec.readAround || o.ladder != 1 || s.remaining run ≤ 100 || s.suspendOk run || decide (1 < s.lostOf x.group) then s
    else if !set.all (fun p => let l := s.slotAt x.group p; s.eligible l (s.dieFor x.group x.band p) o.plane) then s
    else if (s.group x.group).tokens = 0 then s.modChanter o.link (fun c => { c with noToken := min 0xFFFFFFFF (c.noToken + 1) })
    else
      let s := s.modGroup x.group (fun g => { g with tokens := g.tokens - 1 })
      let s := s.modChanter o.link (fun c => { c with readAround := min 0xFFFFFFFF (c.readAround + 1) })
      let s := s.modInst k (fun i => { i with counters := { i.counters with readArounds := sat64 (i.counters.readArounds + 1) } })
      (s.dropOp o.id).startSolve o.mun o.owner true o.stamp .host
  | _, _, _ => s

/-- A host read waits behind a program or an erase: it is suspended, or the read goes round it. -/
def State.considerSuspend (run : Op) (s : State) : State :=
  let waiting := (s.queued run.link run.die).filter (fun o => o.cls == .host && o.isRead)
  match waiting.foldl (fun (b : Option Op) o => match b with
    | none => some o
    | some x => if o.stamp < x.stamp then some o else some x) none with
  | none => s
  | some o =>
    if run.askedSuspend then s
    else if s.suspendOk run then
      (s.modOp run.id (fun r => { r with askedSuspend := true, askedAt := s.now })).sendPod run.link 1 (.suspend run.die (run.tag.getD 0))
    else match o.owner with
      | .member _ _ => s
      | _ => s.readAround o run

/-- CHANTER_ISSUE (R330). -/
def execChanterIssue (l : LinkId) (die : Fin 18) (s : State) : Host.Outcome State Fault Refusal :=
  let d := s.die (dieKey l die)
  if !(s.link l).open || d.health == .suspect || d.health == .failed then .next s
  else match s.pick l die with
  | some (o, t) =>
    let s := match t with
      | some t => s.modDie (dieKey l die) (fun d => { d with deficits := t })
      | none => s
    .next (s.issue o)
  | none =>
    match s.running l die with
    | none => .next s
    | some r =>
      if s.modes.flush.isSome then .next s
      else if r.suspended then
        (if (s.queued l die).any (fun o => o.cls == .host && o.isRead) || !(s.readsOut l die).isEmpty then .next s else .next (s.resumeOp r))
      else .next (s.considerSuspend r)

/-- SUSPEND_WINDOW_EXPIRY: 150 µs for a program, 300 µs for an erase, from the SUSPEND_ACK (R337). -/
def execSuspendWindowExpiry (l : LinkId) (die : Fin 18) (s : State) : Host.Outcome State Fault Refusal :=
  match s.running l die with
  | none => .next s
  | some r =>
    match r.windowAt with
    | none => .next s
    | some t => if r.suspended && (s.link l).open && s.modes.flush.isNone then .next ((s.notBefore (t + (if r.isErase then 300 else 150))).resumeOp r) else .next s

/-! ## Timeouts of a die (R340, R396) -/

/-- The link's reads are not timed: lock is lost, for at most 200 µs (R442). -/
def State.timePaused (s : State) (l : Nat) : Bool :=
  match (s.link l).lostAt with
  | some t => decide (s.now < t + 200)
  | none => false

/-- DIE_READ_TIMEOUT: the die becomes suspect and the read goes to step 4; a read-around never reports a die (R340, R352, R353). -/
def execDieReadTimeout (l : LinkId) (tag : Nat) (s : State) : Host.Outcome State Fault Refusal :=
  match s.ops.find? (fun o => o.link == l.val && o.tag == some tag && o.isRead && o.owner != .none) with
  | none => .next s
  | some o =>
    if s.timePaused l then .next s
    else
      let s := s.notBefore (o.issuedAt + s.image.faults.dieTimeout)
      match o.owner with
      | .member _ true => .next (s.toStep4 o)
      | _ => .next (if (s.link l).lostAt.isSome then s.toStep4 o else (s.suspectDie l o.die).allToStep4 [o])

/-- DIE_OP_TIMEOUT: a program or an erase, a SUSPEND or a PROBE of the die has run out of time (R396). -/
def execDieOpTimeout (l : LinkId) (die : Fin 18) (s : State) : Host.Outcome State Fault Refusal :=
  let lim := s.image.faults.dieTimeout
  let k := dieKey l die
  match (s.die k).probeAt with
  | some t =>
    if (s.die k).health == .suspect then .next ((s.notBefore (t + lim)).failDie l die) else .next s
  | none =>
    match s.running l die with
    | none => .next s
    | some r =>
      -- the limit of the operation itself; that of a SUSPEND counts where it ends no later, or is over
      let end_ := r.issuedAt + r.suspTime + opMax (s.desc l) r + lim
      if r.askedSuspend && !r.suspended && decide (r.askedAt + lim ≤ max s.now end_) then
        .next (((s.notBefore (r.askedAt + lim)).modOp r.id (fun o => { o with askedSuspend := false })).suspectDie l die)
      else if !r.suspended then
        let s := (s.notBefore end_).modOp r.id (fun o => { o with dead := true, owner := .none })
        let s := match r.kind with
          | .program m => s.programEnded r.group r.band r.row m false true
          | _ => s.addOp { r with id := 0, tag := none, issuedAt := 0 }
        .next (s.suspectDie l die).retry
      else .next s

/-! ## Decodes (R339, R341, R422) -/

/-- Bits of a decode count toward the die's error rate, judged once a day (R387), and toward the step-1 target, judged once an hour (R347). -/
def State.countBits (o : Op) (bits fixed : Nat) (good : Bool) (s : State) : State :=
  let k := dieKey o.link o.die
  let d := s.die k
  let first := o.ladder == 1
  let day := 86400000000
  let hour := 3600000000
  let rate := if d.doneReads = 0 then 0 else d.doneFixed * 1000000000 / d.doneReads
  let fire := decide (d.dayAt + day ≤ s.now) && (decide (2500000 < rate) || (d.rberAt != 0 && decide (2 * d.rberAt ≤ rate)))
  let s := if fire then (s.healthEvent 0x0B0A (o.die * 256 + o.link) rate true).modDie k (fun d => { d with rberAt := rate }) else s
  let s := if d.dayAt + day ≤ s.now then s.modDie k (fun d => { d with dayAt := s.now, doneReads := 0, doneFixed := 0 }) else s
  let missed := decide (d.hourReads < 1000 * d.hourSlow)
  let s := if d.hourAt + hour ≤ s.now then
      let s := s.modDie k (fun d => { d with hourAt := s.now, hourReads := 0, hourSlow := 0, late := missed })
      if missed then (s.modDrone 1 (fun x => { x with raised := true })).healthEvent (evUnnamed 11 0) (o.die * 256 + o.link) 0 true else s
    else s
  let n := if first then fixed else 0
  s.modDie k (fun d => { d with
    bitsRead := sat64 (d.bitsRead + bits), bitsFixed := sat64 (d.bitsFixed + n)
    doneReads := d.doneReads + bits, doneFixed := d.doneFixed + n
    hourReads := d.hourReads + first.toNat, hourSlow := d.hourSlow + (first && !good).toNat
    slow := if first && !good then d.slow.set (o.block / 64) (d.slow.get 0 (o.block / 64) + 1) else d.slow })

/-- A read climbs to a step of its own die. -/
def State.reread (o : Op) (step : Nat) (s : State) : State :=
  s.modOp o.id (fun o => { o with ladder := step, tag := none, decoding := false, units := 0, queuedAt := s.now })

/-- A decode ends: the codeword is good, or climbs (R339). A result nobody waits for is discarded. -/
def State.decoded (o : Op) (e : DecodeEnd) (s : State) : State :=
  let member : Option (Nat × Bool) := match o.owner with
    | .member m a => some (m, a)
    | _ => none
  match e with
  | .good =>
    let s := s.dropOp o.id
    (match member with
      | some (m, a) => (match s.opPos o with
        | some p => s.memberRead m a p true false
        | none => s)
      | none => (if 3 ≤ o.ladder then s.handOver o.mun else s).served o.mun o.owner)
  | .misplaced =>
    let slot := ((s.locate o.mun).map (·.slot)).getD 0
    (s.report (srcAggregator o.link) (evUnnamed 6 2) (o.die * 256 + o.link) (o.block * 256 + slot)).toStep4 o
  | .fails =>
    if o.ladder = 1 then (s.countStep 2 o.link (dieKey o.link o.die)).reread o 2
    else if o.ladder = 2 then (s.countStep 3 o.link (dieKey o.link o.die)).reread o 3
    else s.toStep4 o

/-- A decode of the soft kind: step 3, and the 3-bit read of step 5. -/
def Op.softDecode (o : Op) : Bool := o.ladder == 3 || o.ladder == 5
/-- Decodes of a quadrant that began before one and wait for the same engines. -/
def State.decodesBefore (s : State) (o : Op) (soft : Bool) : Nat :=
  (s.ops.filter (fun p => p.decoding && quadOf p.link == quadOf o.link && p.softDecode == soft &&
    (decide (p.decodeAt < o.decodeAt) || (p.decodeAt == o.decodeAt && decide (p.id < o.id))))).length
/-- A decode has an engine: hard ones take the quadrant's pool, soft ones its dedicated engines, or, where it has none, one engine of the pool at a
time (R341). -/
def State.hasEngine (s : State) (o : Op) : Bool :=
  let q := quadOf o.link
  let soft := s.spares.soft.get 0 q
  if o.softDecode then decide (s.decodesBefore o true < max 1 soft)
  else
    let taken := if soft = 0 ∧ s.ops.any (fun p => p.decoding && quadOf p.link == q && p.softDecode) then 1 else 0
    decide (s.decodesBefore o false + taken < s.hardEngines q)

/-- LDPC_DECODE_COMPLETE. -/
def execLdpcDecodeComplete (op : Nat) (e : DecodeEnd) (bits fixed : Nat) (s : State) : Host.Outcome State Fault Refusal :=
  match s.op op with
  | none => .next s
  | some o =>
    if !o.decoding || !s.hasEngine o then .next s
    else if o.owner == .none then .next (s.dropOp op)
    else .next ((s.countBits o bits fixed (e == .good)).decoded o e).retry

/-- The decode of a quadrant that began first. -/
def State.oldestDecode (s : State) (q : Nat) : Option Op :=
  (s.ops.filter (fun o => o.decoding && quadOf o.link == q)).foldl (fun (b : Option Op) o => match b with
    | none => some o
    | some x => if o.decodeAt < x.decodeAt then some o else some x) none
/-- LDPC_DECODE_TIMEOUT: the codeword is dispatched again, the engine failed and a spare taken (R422). -/
def execLdpcDecodeTimeout (q : QuadId) (s : State) : Host.Outcome State Fault Refusal :=
  match s.oldestDecode q with
  | none => .next s
  | some o =>
    let s := s.notBefore (o.decodeAt + 30)
    let s := s.modOp o.id (fun o => { o with decodeAt := s.now })
    let used := s.spares.ldpcBy.get 0 q
    if used < 2 then
      let s := s.modSpares (fun x => { x with ldpc := x.ldpc - 1, ldpcBy := x.ldpcBy.set q (used + 1), ldpcDead := x.ldpcDead + 1 })
      .next (s.packageSpare 2 q used s.spares.ldpc (srcFirmware q))
    else
      let s := s.modSpares (fun x => { x with ldpcLost := x.ldpcLost.set q (x.ldpcLost.get 0 q + 1), ldpcDead := x.ldpcDead + 1 })
      .next ((s.report (srcFirmware q) (evUnnamed 12 0) q 0).reviewEngines q)

end Sys2Proof.Machine
end

