-- ==== Sys2Proof/Machine/Links.lean ====
section
/-! DEFINITION. Reed links: frames, messages and units from the pods, violations, training and recovery (13), with what DONEs and units set going (09 to 12). -/
namespace Sys2Proof.Machine

/-! ## Recovery (R441 to R444, R457) -/

/-- Spare transceiver group of a link (13, Registers). -/
def xcvrGroup (l : Nat) : Nat :=
  let k := l % 36
  if l / 36 = 0 then k / 8 else if l / 36 = 1 then 5 + k / 9 else if l / 36 = 2 then 9 + k / 8 else 14 + k / 9

/-- The group's spare can be switched onto a link. -/
def State.xcvrFree (s : State) (l : Nat) : Bool :=
  !s.spares.xcvrUse.getLsbD (xcvrGroup l) && !s.spares.xcvrBad.getLsbD (xcvrGroup l) && !(s.link l).onSpare

/-- A step of the recovery order is skipped: 2 the spare transceiver, 3 and 4 the next lower rate on either transceiver, 5 and 6
28.125 Gb/s on either. -/
def State.recSkip (s : State) (l step : Nat) : Bool :=
  let r := (s.link l).rate
  if step = 2 then !s.xcvrFree l
  else if step = 3 then decide (r ≤ 1)
  else if step = 4 then decide (r ≤ 1) || !s.xcvrFree l
  else if step = 5 then decide (r ≤ 2)
  else if step = 6 then decide (r ≤ 2) || !s.xcvrFree l
  else false
/-- The rate a step trains at. -/
def recRate (rate step : Nat) : Nat := if step ≤ 2 then rate else if step ≤ 4 then rate - 1 else 1

/-- A link that cannot be brought up loses its pod: at once, or in BRING-UP for its step 11 to find (R397, R419). -/
def State.linkDead (l : Nat) (s : State) : State :=
  if s.modes.mode == .bringUp then ((s.podOff l).modPod l (fun p => { p with failed := true })).modLink l (fun x => { x with state := 4 })
  else s.failPod l false

/-- Recovery goes on at a step, or at the next one not skipped. -/
def State.recGo (l : Nat) : Nat → Nat → State → State
  | 0, _, s => s.linkDead l
  | fuel + 1, step, s =>
    if 7 ≤ step then s.linkDead l
    else if s.recSkip l step then s.recGo l fuel (step + 1)
    else s.modLink l (fun x => { x with state := 3, recStep := step, trying := recRate x.rate step })

/-- Lock is lost, or the link is taken down to be retrained: operations wait (R442). -/
def State.startRecovery (l step : Nat) (s : State) : State :=
  if (s.link l).state != 2 then s else
  let s := s.modLink l (fun x => { x with recoveries := min 65535 (x.recoveries + 1), lostAt := some s.now })
  s.recGo l 7 step
/-- A recovery started by violations: the third within a second lowers the rate (R457). -/
def State.violRecovery (l : Nat) (s : State) : State :=
  let ts := s.now :: (s.link l).violRecov.filter (fun t => decide (s.now < t + 1000000))
  if 3 ≤ ts.length then (s.modLink l (fun x => { x with violRecov := [] })).startRecovery l 3
  else (s.modLink l (fun x => { x with violRecov := ts })).startRecovery l 1

/-- Frames not acknowledged are sent again; the third time without an advance starts recovery (R435, R457). -/
def State.replay (l : Nat) (s : State) : State :=
  let x := s.link l
  if x.held = 0 then s else
  let s := s.modLink l (fun x => { x with replays := min 0xFFFFFFFF (x.replays + min 32 x.held), replayRun := x.replayRun + 1, ackAt := s.now })
  if 3 ≤ x.replayRun + 1 then (s.modLink l (fun x => { x with replayRun := 0 })).violRecovery l else s

/-- A counted violation of the pod protocol (R456, R457). -/
def State.podViolation (l : Nat) (s : State) : State :=
  let s := s.modLink l (fun x => { x with violWindow := min 65535 (x.violWindow + 1) })
  if s.image.faults.podViolLimit ≤ (s.link l).violWindow then s.linkDead l else s

/-- FEC_LOCK_LOSS. -/
def execFecLockLoss (l : LinkId) (s : State) : Host.Outcome State Fault Refusal :=
  if (s.link l).state == 2 then .next (s.startRecovery l 1) else .next s

/-- The link is up again: frames are replayed, paused timers go on (R441, R442). -/
def State.linkBack (l : Nat) (s : State) : State :=
  let x := s.link l
  let d := min 200 (s.now - x.lostAt.getD s.now)
  let s := { s with ops := s.ops.map (fun (o : Op) => if o.link == l && o.tag.isSome then { o with issuedAt := o.issuedAt + d } else o) }
  s.modLink l (fun x => { x with state := 2, recStep := 0, lostAt := none, replays := min 0xFFFFFFFF (x.replays + min 32 x.held), ackAt := s.now })

/-- In a flush the recovery of a link has gone on for its 200 µs: it ends, and the dump treats the pod's members as failed (R445). -/
def State.recoveryOver (s : State) (l : Nat) : Bool :=
  s.modes.flush.isSome && (s.link l).state == 3 && (match (s.link l).lostAt with
    | some t => decide (t + 200 ≤ s.now)
    | none => false)

/-- LINK_RECOVERY_STEP_RESULT. -/
def execLinkRecoveryStepResult (l : LinkId) (restored : Bool) (s : State) : Host.Outcome State Fault Refusal :=
  let x := s.link l
  if x.state != 3 || s.recoveryOver l then .next s
  else if !restored then .next (s.recGo l 7 (x.recStep + 1)).retry
  else
    let g := xcvrGroup l
    let spare := x.recStep == 2 || x.recStep == 4 || x.recStep == 6
    let s := if spare then
        let s := s.modSpares (fun p => { p with xcvr := p.xcvr - 1, xcvrTaken := p.xcvrTaken + 1, xcvrUse := p.xcvrUse ||| BitVec.ofNat 18 (2 ^ g), lastTime := s.rtc })
        let s := (s.modLink l (fun x => { x with onSpare := true })).logRec (.sub (.xcvr g l))
        let s := s.report (srcAggregator l) (evUnnamed 12 7) l g
        (if s.spares.xcvr = 0 then s.healthEvent (evUnnamed 11 7) l 0 true else s).reviewSpares
      else s
    let s := if x.trying = x.rate then s
      else (s.modLink l (fun y => { y with rate := x.trying })).logRec (.sub (.rate l (if x.trying = 1 then 56 else 112)))
    .next (s.linkBack l).retry

/-- DIE_TIMEOUT_PAUSE_EXPIRY: after 200 µs every host read waiting on the pod goes to step 4; no die is reported (R442). -/
def execDieTimeoutPauseExpiry (l : LinkId) (s : State) : Host.Outcome State Fault Refusal :=
  match (s.link l).lostAt with
  | none => .next s
  | some t =>
    let s := s.notBefore (t + 200)
    let s := if s.recoveryOver l then s.dumpWithout l else s
    .next (s.allToStep4 ((s.waitingReads l none).filter (fun o => o.cls == .host))).retry

/-- REPLAY_TIMEOUT: 4 µs, or 32 frame times where that is longer (R435). -/
def execReplayTimeout (l : LinkId) (s : State) : Host.Outcome State Fault Refusal :=
  let x := s.link l
  let lim := if x.rate = 1 then 13 else if x.rate = 2 then 7 else 4
  if x.state == 2 && x.held != 0 then .next ((s.notBefore (x.ackAt + lim)).replay l).retry else .next s

/-- POD_VIOL_WINDOW_ROLL. -/
def execPodViolWindowRoll (s : State) : Host.Outcome State Fault Refusal :=
  .next { s with links := s.links.map (fun (e : Nat × Link) => (e.1, { e.2 with violWindow := 0 })) }

/-- POD_STATUS_MISSING: five STATUS messages, 50 ms (R451). -/
def execPodStatusMissing (l : LinkId) (s : State) : Host.Outcome State Fault Refusal :=
  if (s.link l).state == 2 then .next ((s.notBefore ((s.link l).statusAt + 50000)).podSensorFailed l) else .next s

/-- LANE_TRAINING_COMPLETE: FEC lock at the rate tried, or the next lower rate (R424, training of one link). -/
def execLaneTrainingComplete (l : LinkId) (ok : Bool) (s : State) : Host.Outcome State Fault Refusal :=
  let x := s.link l
  if x.state != 1 || x.rate != 0 then .next s
  else if ok then .next (s.modLink l (fun x => { x with rate := x.trying }))
  else if 2 ≤ x.trying then .next (s.modLink l (fun x => { x with trying := x.trying - 1 }))
  else .next (s.linkDead l)

/-- LINK_ADAPTATION (R428). -/
def execLinkAdaptation (l : LinkId) (s : State) : Host.Outcome State Fault Refusal :=
  if (s.link l).state == 2 then .next (s.modLink l (fun x => { x with adapted := s.now })) else .next s

/-! ## Operations that end (R433) -/

/-- An erase of a band has ended on every member (R366, R362, R316). -/
def State.bandErased (g b : Nat) (s : State) : State :=
  if s.ops.any (fun o => o.isErase && o.group == g && o.band == b && !o.dead) then s else
  let x := s.band g b
  let worn := (List.range s.width).foldl (fun n p =>
    let l := s.slotAt g p
    let die := s.dieAt l (b % 16)
    max n ((s.die (dieKey l die)).wear.get 0 (s.physBlock l die (b / 16)))) 0
  if x.state == .erasePending || x.intent then
    let spent := match s.reloc g b with
      | some r => r.spent
      | none => 0
    let s := s.logBand g b (.done worn s.jrn.openEpoch)
    let s := if x.state == .vault then s.modCache (fun c => { c with armed := if c.armed.contains (bandKey g b) then c.armed else bandKey g b :: c.armed }) else s
    let s := if (s.group g).pressed then s.modGroup g (fun y => { y with credit := y.credit + (s.bandSlots g - spent) }) else s
    let first := !s.formatOwed.isEmpty
    let s := s.modPart (fun p => { p with keyTab := { p.keyTab with old := p.keyTab.old.filter (fun k => !(k == bandKey g b)) } })
    let s := s.each ((s.ctxs.filter (fun c => c.admin && c.sqe.opcode == 0xDC)).map (·.id)) (fun id t => t.completeSealed id)
    let s := (s.modReloc g b (fun r => { r with step := 5, epoch := s.jrn.openEpoch })).erasePendingIn g (b % 16)
    -- the last band of an earlier format record is erased: the others follow (R582)
    if first && s.formatOwed.isEmpty then s.eraseOwed else s
  else if x.state == .vault then s.modCache (fun c => { c with armed := if c.armed.contains (bandKey g b) then c.armed else bandKey g b :: c.armed })
  else s

/-- The member position a queued program or erase works for. -/
def State.erasePos (s : State) (o : Op) : Option Nat := (List.range s.width).find? (fun p => s.slotAt o.group p == o.link)

/-- LIFE_USED: the highest life used of any active die, and its events (R374, R387). -/
def State.dieLife (s : State) (l die : Nat) : Nat :=
  let d := s.desc l
  let sum := (List.range d.blocksInService).foldl (fun n i => n + (s.die (dieKey l die)).wear.get 0 (s.physBlock l die i)) 0
  sum * 100 / max 1 (d.blocksInService * d.ratedCycles)
def State.reviewLife (s : State) : State :=
  let n := min 255 (s.activeDies.foldl (fun m x => max m (s.dieLife x.1 x.2)) 0)
  let was := s.health.lifeUsed
  let s := s.modHealth (fun h => { h with lifeUsed := n })
  let at_ := fun (k : Nat) => decide (was < k ∧ k ≤ n)
  let s := if at_ 80 then s.healthEvent 0x0B07 0 80 true else s
  let s := if at_ 90 then s.healthEvent 0x0B08 0 90 true else s
  if at_ 95 then (s.healthEvent 0x0B09 0 95 true).postSmart 2 0 else s

/-- A block's erase ends: a candidate, and one that failed, is retired and the spare that takes its index erased (R379, R380). -/
def State.eraseEnded (o : Op) (ok : Bool) (s : State) : State :=
  let k := dieKey o.link o.die
  let s := s.dropOp o.id
  let s := s.modDie k (fun d => { d with
    erases := d.erases + ok.toNat, eraseFails := min 65535 (d.eraseFails + (!ok).toNat)
    wear := if ok then d.wear.set o.block (d.wear.get 0 o.block + 1) else d.wear })
  match s.erasePos o with
  | none => s
  | some p =>
    let named := (s.die k).candidates.contains (o.band / 16)
    if ok && !named then (s.bandErased o.group o.band).reviewLife
    else
      let s := s.retireBlock o.group o.band p
      if (s.band o.group o.band).state == .retired then { s with ops := s.ops.filter (fun q => !(q.isErase && q.group == o.group && q.band == o.band && q.tag.isNone)) }
      else
        let l := s.slotAt o.group p
        let die := s.dieAt l (o.band % 16)
        s.addOp { id := 0, link := l, die := die, cls := o.cls, kind := .erase, group := o.group, band := o.band, block := s.physBlock l die (o.band / 16) }

/-- An erase that did not run because its die has failed or is faulty is queued again (R398). -/
def State.eraseLater (o : Op) (s : State) : State := (s.dropOp o.id).addOp { o with id := 0, tag := none }

/-- A DONE retires a program, an erase or a read that can return no data (R433, R396). -/
def State.done (o : Op) (status busyUs : Nat) (s : State) : State :=
  let k := dieKey o.link o.die
  let s := s.modDie k (fun d => { d with doneAt := s.now })
  if o.dead || (o.isRead && o.owner == .none) then s.dropOp o.id else
  let faulty := status == 3 || status == 4
  let s := if o.isRead then s else s.modDie k (fun d => d.charge s.now o.cls.num busyUs)
  match o.kind with
  | .read _ _ _ _ =>
    let s := s.modOp o.id (fun o => { o with tag := none, decoding := true })
    (if faulty then s.suspectDie o.link o.die else s).allToStep4 [o]
  | .program m =>
    let s := (s.dropOp o.id).modDie k (fun d => { d with programs := sat64 (d.programs + (status == 0).toNat), progFails := min 65535 (d.progFails + (status == 1).toNat) })
    let s := s.programEnded o.group o.band o.row m (status == 0) (status != 1)
    if faulty then s.suspectDie o.link o.die else s
  | .erase =>
    if status = 0 ∨ status = 2 then s.eraseEnded o (status == 0)
    else
      let s := s.eraseLater o
      if faulty then s.suspectDie o.link o.die else s

/-- The statuses a DONE may carry for each operation. -/
def doneFits (o : Op) (status : Nat) : Bool :=
  match o.kind with
  | .read _ _ _ _ => decide (3 ≤ status ∧ status ≤ 5)
  | .program _ => decide (status ≤ 5 ∧ status ≠ 2)
  | .erase => decide (status ≤ 5 ∧ status ≠ 1)

/-- Every unit of a READ is in: it goes to a decoder, on to its next shift, or, sensed as erased, to step 4 (R433, R343). -/
def State.unitsIn_ (o : Op) (s : State) : State :=
  if o.owner == .none then s.dropOp o.id
  else if 0 < o.sweep then s.modOp o.id (fun o => { o with tag := none, sweep := o.sweep - 1, queuedAt := s.now })
  else if o.erased then
    (if (s.unitOf o.mun).isSome || o.ladder != 1 then s.toStep4 { o with tag := none }
     else match o.owner with
      | .relocation _ _ => s.dropOp o.id
      | .drone => s.dropOp o.id
      | _ => s.toStep4 { o with tag := none })
  else s.modOp o.id (fun o => { o with tag := none, decoding := true, decodeAt := s.now })

/-! ## Messages (R432, R438, R440, R449, R451, R456) -/

/-- The operation a tag names on a link. -/
def State.tagged (s : State) (l tag : Nat) : Option Op := s.ops.find? (fun o => o.link == l && o.tag == some tag)

/-- A management read of the pod's register space. -/
def State.mgmtRead (l addr len : Nat) (s : State) : State :=
  let tag := s.freeTag l
  let s := s.modLink l (fun x => { x with mgmt := x.mgmt ++ [(tag, addr, len)], nextTag := (tag + 1) % 65535 })
  s.sendPod l 1 (.mgmtRead tag addr len)

/-- Every block group's two offset sets are loaded into a version 3 pod (R346, R439). -/
def State.loadOffsets (l : Nat) (s : State) : State :=
  let d := s.desc l
  s.each (List.range d.dies) (fun die t => t.each (List.range d.offsetGroups) (fun bg t =>
    t.sendOffsets l die bg))

/-- A pod inserted in a failed pod's slot becomes a spare, or takes at once the position of a member lost without substitute (R402, R403). -/
def State.podEntered (l : Nat) (s : State) : State :=
  let s := s.modPod l (fun p => { p with entering := false, failed := false, role := 2 })
  let s := (s.each (List.range 18) (fun d t => t.modDie (dieKey l d) (fun y => { y with verified := false, health := if d < 16 then .active else .spare }))).logRec (.sub (.entered l))
  let s := ((s.report (srcAggregator l) 0x0C02 l 0).each (List.range 18) (fun d t => t.mgmtRead l (0x1000 + 0x200 * d) 512)).countPods
  match s.live.lostMem.find? (fun x => s.fitsGroup x.1 l) with
  | none => s.reviewAvailable
  | some (g, pos) =>
    let s := s.logRec (.sub (.pod g pos (s.slotAt g pos) l 0))
    let s := s.each (List.range 16) (fun d t => t.modDie (dieKey l (t.dieAt l d)) (fun y => { y with eraseFirst := !y.verified }))
    ((s.countPods.healthEvent 0x0B06 l s.spares.pods true).reviewEngines (quadOf l)).reviewAvailable

/-- HELLO (R438, R439). -/
def State.hello (l : Nat) (versions : BitVec 8) (maxRate generation : Nat) (crc : W32) (s : State) : State :=
  let d := s.desc l
  let v := if versions.getLsbD 2 then 3 else if versions.getLsbD 1 then 2 else if versions.getLsbD 0 then 1 else 0
  if (s.pod l).desc.isNone || crc != d.crc || generation != d.generation || v == 0 then
    (((s.podOff l).modPod l (fun p => { p with refused := true, failed := true })).modLink l (fun x => { x with state := 5 })).report (srcAggregator l) (evUnnamed 7 1) l 0
  else
    let s := s.modLink l (fun x => { x with
      state := 2
      version := v
      podGen := generation
      rate := if v = 1 then min 2 (min x.rate (max 1 maxRate)) else min x.rate (max 1 maxRate)
      writeCredits := d.writeBuffer
      statusAt := s.now
      ackAt := s.now })
    let s := s.sendPod l 1 (.hello v)
    let s := if v = 3 then s.loadOffsets l else s
    if (s.pod l).entering then s.podEntered l else s

/-- The encodings of a message are listed in its table, and none belongs to a later version than the one selected (R18, R456). -/
def msgListed (v : Nat) : PodMsg → Bool
  | .done _ die status _ => decide (die < 18 ∧ status ≤ 5)
  | .suspendAck _ die status remainUs _ => decide (die < 18 ∧ status ≤ 1 ∧ (3 ≤ v ∨ remainUs = 0))
  | .probeResult die state => decide (die < 18 ∧ state ≤ 3)
  | .busy die op _ _ _ _ => decide (die < 18 ∧ op ≤ 2 ∧ 3 ≤ v)
  | .alert die cause => decide (1 ≤ cause ∧ cause ≤ 4 ∧ (die < 18 ∨ (3 ≤ cause ∧ die = 31)))
  | .hello _ maxRate generation _ => decide (1 ≤ maxRate ∧ maxRate ≤ 3 ∧ 1 ≤ generation ∧ generation ≤ 3)
  | .status _ _ _ => true
  | .malformed => false

/-- One message of an accepted frame; one that breaks R18 is discarded and counted (R456). -/
def State.podMsg (l : Nat) (m : PodMsg) (s : State) : State :=
  let v := (s.link l).version
  if !msgListed v m then s.podViolation l else
  match m with
  | .malformed => s.podViolation l
  | .done tag die status busyUs =>
    (match s.tagged l tag with
      | some o => if o.die == die && !o.decoding && doneFits o status then s.done o status busyUs else s.podViolation l
      | none => s.podViolation l)
  | .suspendAck tag die status remainUs used =>
    (match s.tagged l tag with
      | some o =>
        if o.isRead || o.die != die then s.podViolation l
        else if o.dead || !o.askedSuspend || o.suspended then s
        else if status = 1 then s.modOp o.id (fun o => { o with askedSuspend := false })
        else
          let s := s.modOp o.id (fun o => { o with askedSuspend := false, suspended := true, windowAt := some s.now, suspends := if v < 3 then o.suspends + 1 else used, remain := if v < 3 then none else some remainUs, remainAt := s.now })
          let s := s.modChanter l (fun c => if o.isErase then { c with eraseSusp := min 0xFFFFFFFF (c.eraseSusp + 1) } else { c with progSusp := min 0xFFFFFFFF (c.progSusp + 1) })
          s.modDie (dieKey l die) (fun d => if o.isErase then { d with eraseSusp := min 0xFFFFFFFF (d.eraseSusp + 1) } else { d with progSusp := min 0xFFFFFFFF (d.progSusp + 1) })
      | none => s.podViolation l)
  | .probeResult die state =>
    let k := dieKey l die
    if (s.die k).probeAt.isNone then s.podViolation l
    else if state = 0 then s.dieReturns l die
    -- a busy die is asked again
    else if state = 1 then (s.modDie k (fun d => { d with probeAt := some s.now })).sendPod l 1 (.probe die)
    else s.failDie l die
  | .status k ok mw =>
    let s := (s.modPod l (fun p => { p with compositeK := k, powerMw := mw })).modLink l (fun x => { x with statusAt := s.now })
    if ok then s else s.podSensorFailed l
  | .busy die op suspended remainUs used planes =>
    let s := s.modDie (dieKey l die) (fun d => { d with planeQ := planes })
    (match s.running l die with
      | none => s
      | some o =>
        if (op == 2) == o.isErase && op != 0 then s.modOp o.id (fun o => { o with remain := some remainUs, remainAt := s.now, suspends := used, suspended := o.suspended && suspended })
        else s)
  | .alert die cause =>
    if cause = 1 then s.suspectDie l die
    else if cause = 2 then s.report (srcAggregator l) (evUnnamed 7 2) (die * 256 + l) 0
    else if cause = 3 then s.linkDead l
    else if cause = 4 then s.podSensorFailed l
    else s.podViolation l
  | .hello versions maxRate generation crc =>
    if (s.link l).state == 1 then s.hello l versions maxRate generation crc else s.podViolation l

/-- Units of a link that wait for a decode engine: their credit is not returned yet (R436). -/
def State.unitsHeld (s : State) (l : Nat) : Nat :=
  (s.ops.filter (fun o => o.link == l && o.decoding && !s.hasEngine o)).foldl (fun n o => n + 1 + o.soft) 0
/-- Read credits the pod holds, of its 16. -/
def State.readCredits (s : State) (l : Nat) : Nat := 16 - min 16 (s.unitsHeld l)
/-- CREDIT_COUNT of the frames the module sends. -/
def State.creditCount (s : State) (l : Nat) : Nat := ((s.link l).unitsIn + 65536 - s.unitsHeld l % 65536) % 65536
/-- A READ is issued again, and keeps its DIE_TIMEOUT (R456). -/
def State.readAgain (o : Op) (s : State) : State := (s.issue o).modOp o.id (fun x => { x with issuedAt := o.issuedAt })

/-- One data unit of an accepted frame. One begun without read credit is discarded, and its READ issued again (R436, R456). -/
def State.podUnit (l : Nat) (u : PodUnit) (s : State) : State :=
  if s.readCredits l = 0 then
    let again := fun (tag : Nat) => (match s.tagged l tag with
      | some o => if o.isRead then s.readAgain o else s
      | none => s)
    (match u with
      | .mgmt _ _ => s
      | .read tag _ _ => again tag
      | .soft tag _ => again tag).podViolation l
  else
  let s := s.modLink l (fun x => { x with unitsIn := (x.unitsIn + 1) % 65536 })
  match u with
  | .mgmt tag bytes =>
    (match (s.link l).mgmt.find? (fun e => e.1 == tag) with
      | none => s.podViolation l
      | some e =>
        let s := s.modLink l (fun x => { x with mgmt := x.mgmt.filter (fun y => !(y.1 == tag)) })
        let die := (e.2.1 - 0x1000) / 0x200
        if 0x1000 ≤ e.2.1 ∧ die < 18 then
          s.modDie (dieKey l die) (fun d => { d with badBlocks := (List.range (s.desc l).blocks).filter (fun b => ((bytes[b / 8]?).getD 0).getLsbD (b % 8) || d.badBlocks.contains b) })
        else s)
  | .read tag cw erased =>
    (match s.tagged l tag with
      | some o =>
        (match o.kind with
          | .read _ _ _ c =>
            if c != cw || o.units != 1 + o.soft then s.podViolation l
            else
              let o' : Op := { o with units := o.units - 1, erased := erased }
              let s := s.modOp o.id (fun _ => o')
              if o'.units = 0 then s.unitsIn_ o' else s
          | _ => s.podViolation l)
      | none => s.podViolation l)
  | .soft tag cw =>
    (match s.tagged l tag with
      | some o =>
        (match o.kind with
          | .read _ _ _ c =>
            if c != cw || o.units == 0 || decide (o.soft < o.units) then s.podViolation l
            else
              let o' : Op := { o with units := o.units - 1 }
              let s := s.modOp o.id (fun _ => o')
              if o'.units = 0 then s.unitsIn_ o' else s
          | _ => s.podViolation l)
      | none => s.podViolation l)

/-! ## Frames (R434 to R436, R456) -/

/-- A frame is discarded: the link asks for a replay. -/
def State.nakFrame (l : Nat) (s : State) : State := (s.modLink l (fun x => { x with nakOut := true })).podViolation l

/-- What an accepted or an idle frame acknowledges and credits. -/
def State.ackFrame (l : Nat) (f : LinkFrame) (s : State) : State :=
  let x := s.link l
  let n := (f.ackSeq + 4096 - x.acked) % 4096
  let s := if n ≠ 0 ∧ n ≤ x.held then s.modLink l (fun x => { x with acked := f.ackSeq, replayRun := 0, ackAt := s.now }) else s
  let c := (f.credit + 65536 - x.creditSeen) % 65536
  let ok := min c x.unitsSent
  let s := s.modLink l (fun x => { x with creditSeen := (x.creditSeen + ok) % 65536, unitsSent := x.unitsSent - ok, writeCredits := x.writeCredits + ok })
  let s := if x.unitsSent < c then s.podViolation l else s
  if f.nak then s.replay l else s

/-- CH_LINK_FEC of a frame's two codewords. -/
def State.countFec (l : Nat) (f : LinkFrame) (s : State) : State :=
  s.modLink l (fun x => { x with corrected := min (2 ^ 48 - 1) (x.corrected + f.mended), uncorrectable := min 65535 (x.uncorrectable + f.spoilt) })

/-- LINK_FRAME_RECEIVED. -/
def execLinkFrameReceived (l : LinkId) (f : LinkFrame) (s : State) : Host.Outcome State Fault Refusal :=
  let x := s.link l
  let idle := f.msgSlots == 0 && f.dataSlots == 0
  let n := (f.ackSeq + 4096 - x.acked) % 4096
  let ahead := (f.seq + 4096 - x.lastAcc) % 4096
  if !(x.state == 2 || (x.state == 1 && x.rate != 0)) then .next s else
  let s := s.countFec l f
  if !f.crcOk then .next ((s.modLink l (fun x => { x with crcFails := min 0xFFFFFFFF (x.crcFails + 1) })).nakFrame l).retry
  else if decide (79 < f.msgSlots + f.dataSlots) || f.overlap then .next (s.nakFrame l).retry
  -- an acknowledgement of a frame not sent (R456)
  else if x.held < n ∧ n < 2048 then .next ((s.podViolation l).violRecovery l).retry
  else if idle then .next (if f.resvZero then s.ackFrame l f else (s.ackFrame l f).podViolation l).retry
  else if ahead ≠ 1 then
    -- an older frame is a duplicate
    (if ahead = 0 ∨ 2048 ≤ ahead then .next s else .next (s.nakFrame l).retry)
  else
    let s := s.modLink l (fun x => { x with lastAcc := f.seq, nakOut := false })
    let s := s.ackFrame l f
    let s := if f.resvZero then f.msgs.foldl (fun t m => t.podMsg l m) s else s.podViolation l
    .next (f.units.foldl (fun t u => t.podUnit l u) s).retry

end Sys2Proof.Machine
end

