-- ==== Sys2Proof/Machine/Power.lean ====
section
/-! DEFINITION. The supply, the bellows, the sensors, the mute level (16). -/
namespace Sys2Proof.Machine

/-! ## Usable energy and the cache limit (R307, R536) -/

/-- Usable energy in 0.1 J for a capacitance in µF, a resistance in mΩ and a bank voltage in 10 mV. -/
def energyOf (capUf esr bank : Nat) : Nat :=
  let v := bank * 100
  let cut := 400000 + 225 * (esr - 50)
  if v ≤ cut then 0 else (capUf * (v * v - cut * cut) + 10 ^ 13) / (2 * 10 ^ 13)

/-- The protected cache limit for an energy, MiB (R307). -/
def State.limitAt (s : State) (e : Nat) : Nat :=
  let region := s.image.memory.cacheMib
  let l := if e < 240 then 0 else if 538 ≤ e then region else 256 + 3840 * (e - 240) / 298
  min l (min region (s.armedMib - 64)) / 256 * 256

/-- The limit in force follows the energy and a test's hold (R307, R537). -/
def State.setLimit (s : State) : State :=
  let l := s.limitAt s.pw.energy
  (s.modCache (fun c => { c with limitMib := match c.testHold with
    | some h => min l h
    | none => l })).refreshHeld

/-- Energy falls below 24 J, or reaches it again: DEGRADE_CAUSE bit 18, and every namespace in or out of write-through (R166, R540). -/
def State.reviewEnergy (s : State) : State :=
  let low := s.below24
  let s := s.setDegrade dgBellows low
  if low == s.cache.wtAll then s
  else if low then
    let s := s.modCache (fun c => { c with wtAll := true })
    let s := { s with ctxs := s.ctxs.map (fun (c : Ctx) => if !c.admin && c.sqe.writes then { c with wt := true } else c) }
    s.each (List.range s.cache.stripes.length) (fun i t => t.closeStripe i)
  else s.modCache (fun c => { c with wtAll := false })

/-! ## Supply thresholds (R524 to R530) -/

/-- INPUT_START_THRESHOLD (R524, R79, R81, R528). -/
def execInputStartThreshold (s : State) : Host.Outcome State Fault Refusal :=
  let s := s.modPw (fun p => { p with inputOk := true })
  if s.modes.flush.isSome then .next (s.modModes (fun m => { m with inputBack := true }))
  else match s.modes.mode with
  | .keep => .next s.startBringup
  | .bringUp => .next (if s.modes.stopped then s.startBringup else s)
  | .safeHold => .next ((s.modPw (fun p => { p with bankOnBus := p.switchOpen })).causeGone 1)
  | _ => .next s

/-- BROWNOUT_WATCH_ENTRY (R525, R527): also while a flush runs from the input (R534). -/
def execBrownoutWatchEntry (s : State) : Host.Outcome State Fault Refusal :=
  if s.pw.brownout || !s.pw.inputOk || s.modes.mode == .keep || s.modes.flush.any (·.onBank) then .next s
  else
    let s := s.modPw (fun p => { p with brownout := true, brownoutAt := s.now, charger := false, armed := true, state := if p.state = 0 then 1 else p.state })
    .next (((s.modCache (fun c => { c with grantHold := true })).refreshHeld).report srcPartition 0x0D01 0 0)

/-- BROWNOUT_GRACE_EXPIRY (R525). -/
def execBrownoutGraceExpiry (s : State) : Host.Outcome State Fault Refusal :=
  .next (if s.pw.brownout then ((s.notBefore (s.pw.brownoutAt + 1000000)).modCache (fun c => { c with grantHold := false })).refreshHeld else s)

/-- BROWNOUT_WATCH_EXIT (R527). -/
def execBrownoutWatchExit (s : State) : Host.Outcome State Fault Refusal :=
  if !s.pw.brownout then .next s
  else
    let s := s.modPw (fun p => { p with brownout := false, armed := false, state := if p.state = 1 then 0 else p.state })
    let s := s.modPw (fun p => { p with charger := s.chargerMayRun })
    .next (((s.modCache (fun c => { c with grantHold := false })).refreshHeld).report srcPartition 0x0D02 0 0)

/-- BELLOWS_SWITCH_CONNECT: `recovered`: the input is back above 35.0 V within the debounce (R526). -/
def execBellowsSwitchConnect (recovered : Bool) (s : State) : Host.Outcome State Fault Refusal :=
  .next (if s.pw.armed && s.modes.mode != .keep then s.modPw (fun p => { p with bankOnBus := !recovered }) else s)

/-- POWER_FAIL_RECOGNISED (R528, R534, R81). -/
def execPowerFailRecognised (s : State) : Host.Outcome State Fault Refusal :=
  if s.modes.mode == .keep || !s.pw.inputOk then .next s
  else
    let s := s.modPw (fun p => { p with inputOk := false, bankOnBus := true, charger := false, brownout := false, state := if p.state ≤ 1 then 2 else p.state })
    let s := s.report srcPartition 0x0D03 0 0
    match s.modes.flush with
    | some f => .next (s.modModes (fun m => { (m.addCause 1) with flush := some { f with onBank := true }, inputBack := false }))
    | none =>
      if s.modes.mode == .bringUp then
        let s := s.podsOff.modModes (fun m => { m with stopped := true })
        let s := s.modPart (fun p => { p with coresHeld := true, wdtRun := false })
        .next (s.allPorts (fun p t => t.modPort p (fun x => { x with link := .detect, speed := 0, width := 0, cfgReady := false })))
      else if s.active then .next (s.startFlush .power true)
      -- in SAFE-HOLD the HBM hold ends with the input: what was not dumped is lost (R80)
      else .next ((s.modModes (Modes.addCause 1)).modPart (fun p => { p with dumped := true }))

/-- FLUSH_DUMP_COMPLETE: steps 5 and 6 (R317, R653, R79). -/
def execFlushDumpComplete (s : State) : Host.Outcome State Fault Refusal :=
  match s.modes.flush with
  | none => .next s
  | some f =>
    -- members whose link is still in recovery took no part (R445)
    let s := s.each ((List.range 144).filter (fun l => (s.link l).state == 3)) (fun l t => t.dumpWithout l)
    let s := { s with vault := s.vault.map (fun (v : Vault) => { v with complete := true }) }
    let s := s.keepWrite (fun k => { k with flushComplete := true, flushCause := f.why.cause })
    let s := s.modModes (fun m => { m with flushActive := false })
    if f.why = .clock then .next ((s.modModes (fun m => { m with flush := none })).modPart (fun p => { p with dumped := true }))
    else .next (s.endFlush f)

/-- POWER_STAGE_STOP: the bank no longer carries the module (R651, R533). -/
def execPowerStageStop (s : State) : Host.Outcome State Fault Refusal :=
  .next (if s.modes.mode != .keep && s.pw.bankOnBus then s.enterKeep else s)

/-- OVERVOLTAGE_TRIP (R529). -/
def execOvervoltageTrip (s : State) : Host.Outcome State Fault Refusal :=
  if s.modes.mode == .keep then .next s
  else
    let s := (s.modPw (fun p => { p with switchOpen := true, bankOnBus := true, charger := false, state := 3 })).report srcPartition 0x0D04 0 0
    .next (s.causeArises 3 .overvoltage true true)

/-- A power stage or pod rail fault: the flush first only where E is at least 24 J (R530). -/
def State.stageFault (code : Nat) (s : State) : State :=
  if s.modes.mode == .keep then s
  else
    let s := (s.modPw (fun p => { p with state := 4 })).report srcPartition 0x0D05 code 0
    s.causeArises 4 .stage (!s.below24) false

/-- Number of a power stage fault in its event. -/
def stageNum : StageFault → Nat
  | .bus => 0 | .converter => 1 | .railVoltage => 2 | .railCurrent => 3

/-- POWER_STAGE_FAULT (R530). -/
def execPowerStageFault (f : StageFault) (s : State) : Host.Outcome State Fault Refusal := .next (s.stageFault (stageNum f))

/-- POD_RAIL_PRESENCE_LOST: a fault while the rail is on (R632). -/
def execPodRailPresenceLost (s : State) : Host.Outcome State Fault Refusal :=
  let t := s.modPw (fun p => { p with j2Present := false })
  .next (if s.pw.rail then t.stageFault 4 else t)

/-! ## The bellows test (R537 to R540) -/

/-- Step 2: the charger is off and the load on. -/
def State.testStep2 (s : State) : State := s.modPw (fun p => { p with charger := false, testLoad := true })

/-- BELLOWS_TEST: it falls due, and reaches step 2 once the occupancy is within the limit it holds. -/
def execBellowsTest (s : State) : Host.Outcome State Fault Refusal :=
  if !s.active || s.modes.flush.isSome || s.pw.testLoad || s.pw.brownout then .next s
  else
    let s := s.modPw (fun p => { p with testDue := true, testing := true, testAt := if p.testing then p.testAt else s.now })
    let s := (s.modCache (fun c => { c with testHold := some (s.limitAt (energyOf s.pw.capUf s.pw.esr 7000)) })).setLimit
    .next (if s.occupancyMib ≤ s.cache.limitMib then s.testStep2 else s)

/-- BELLOWS_TEST_DEADLINE: 24 h on, the test runs with the limit held. -/
def execBellowsTestDeadline (s : State) : Host.Outcome State Fault Refusal :=
  .next (if s.active && s.modes.flush.isNone && s.pw.testing && !s.pw.testLoad then (s.notBefore (s.pw.testAt + 86400000000)).testStep2 else s)

/-- BELLOWS_TEST_MEASURED: steps 5 and 6; `ok`: the measurement could be completed (R540). -/
def execBellowsTestMeasured (capUf esr : Nat) (ok : Bool) (s : State) : Host.Outcome State Fault Refusal :=
  if !s.pw.testLoad then .next s
  else
    let s := s.modPw (fun p => { p with testLoad := false, testing := false, testDue := false })
    let s := s.modPw (fun p => { p with charger := s.chargerMayRun })
    let s := (s.modCache (fun c => { c with testHold := none })).setLimit
    let s := if ok then
        ((s.keepWrite (fun k => { k with capUf := capUf, esr := esr, testTime := s.rtc / 1000 })).modPw (fun p => { p with lastTest := s.rtc / 1000 })).report srcPartition 0x0D06 capUf esr
      else s
    let low := !ok || decide (capUf < 24000) || decide (100 < esr)
    let s := s.modPw (fun p => { p with healthLow := low })
    .next (if low then s.healthEvent 0x0B0B 0 capUf true else s)

/-! ## Zones (R543, R548, R549) -/

/-- A sensor fails. -/
def State.sensorFails (z i : Nat) (s : State) : State :=
  let x := s.zone z
  if x.failed.contains i then s
  else (s.modPw (fun p => { p with zones := p.zones.set z { x with failed := x.failed ++ [i] } })).report srcPartition 0x0D11 z i

/-- One sensor's answer to a sample. -/
def State.readSensor (tenMs : Bool) (r : Reading) (s : State) : State :=
  if 6 < r.zone ∨ zoneSensors r.zone ≤ r.sensor ∨ (s.zone r.zone).failed.contains r.sensor then s
  else
    let x := s.zone r.zone
    match r.answer with
    | none =>
      let n := x.misses.get 0 r.sensor + 1
      let s := s.modPw (fun p => { p with zones := p.zones.set r.zone { x with misses := x.misses.set r.sensor n } })
      if 3 ≤ n then s.sensorFails r.zone r.sensor else s
    | some t =>
      let jump := match x.read.find r.sensor with
        | some u => tenMs && decide (160 < (t - u).natAbs)
        | none => false
      if t < -640 || 2400 < t || jump then s.sensorFails r.zone r.sensor
      else s.modPw (fun p => { p with zones := p.zones.set r.zone { x with misses := x.misses.set r.sensor 0, read := x.read.set r.sensor t } })

/-- The level a temperature reaches, and how it falls back, level by level, below a threshold less the hysteresis (R543). -/
def Keep.levelOf (k : Keep) (z : Nat) (old : Nat) (t : Int) : Nat :=
  let at_ : Nat → Nat := fun l => if l = 1 then k.warn z else if l = 2 then k.throttle z else zoneShut z
  let reached := if (16 * zoneShut z : Int) ≤ t then 3 else if (16 * k.throttle z : Int) ≤ t then 2 else if (16 * k.warn z : Int) ≤ t then 1 else 0
  let fall : Nat → Nat := fun l => if 0 < l ∧ t < 16 * ((at_ l : Int) - zoneHyst z) then l - 1 else l
  if old < reached then reached else fall (fall (fall old))

/-- The least level failed sensors hold a zone 0 to 6 at (R549). -/
def Zone.heldAt (x : Zone) (z : Nat) : Nat :=
  let n := x.failed.length
  if n = 0 then 0 else if (z ≤ 4 ∧ 2 ≤ n) ∨ zoneSensors z ≤ n then 3 else 2

/-- A zone takes a level (EV0D10). -/
def State.setLevel (z : Nat) (t : Int) (l : Nat) (s : State) : State :=
  let x := s.zone z
  let s := s.modPw (fun p => { p with zones := p.zones.set z { x with temp := t, level := l } })
  if x.level = l then s else s.report srcPartition 0x0D10 z l

/-- A zone 0 to 6 after a sample. -/
def State.settleZone (z : Nat) (s : State) : State :=
  let x := s.zone z
  let good := (x.read.filter (fun (e : Nat × Int) => !x.failed.contains e.1)).map (fun (e : Nat × Int) => e.2)
  match good with
  | [] => s.setLevel z x.temp (max x.level (x.heldAt z))
  | a :: r =>
    let t := r.foldl max a
    s.setLevel z t (max (s.keep.levelOf z x.level t) (x.heldAt z))

/-- A pod that reports its temperature. -/
def State.podReports (s : State) (l : Nat) : Bool :=
  (s.pod l).powered && !(s.pod l).failed && (s.link l).state == 2 && !(s.link l).sensorBad && 0 < (s.pod l).compositeK
/-- A pod's zone takes the latest STATUS (R547). -/
def State.settlePod (l : Nat) (s : State) : State :=
  if s.podReports l then
    let t : Int := (((s.pod l).compositeK : Int) - 273) * 16
    s.setLevel (8 + l) t (s.keep.levelOf (8 + l) (s.zone (8 + l)).level t)
  else if (s.zone (8 + l)).level = 0 then s
  else s.setLevel (8 + l) (s.zone (8 + l)).temp 0

/-- A pod at its shutdown threshold is switched off and failed (R546). -/
def State.podTooHot (l : Nat) (s : State) : State :=
  let s := (s.setLevel (8 + l) (s.zone (8 + l)).temp 0).report srcPartition 0x0D13 l 0
  let s := if s.modes.mode == .bringUp then s.linkDead l else s.failPod l true
  s.modPw (fun p => { p with hotTimes := s.now :: p.hotTimes.filter (fun t => decide (s.now < t + 600000000)) })

/-! ## Composite temperature and mute level (R551 to R557) -/

/-- A zone's value on the composite's scale, kelvin (R551). -/
def Keep.scaled (k : Keep) (z : Nat) (t : Int) : Nat :=
  let w : Int := 16 * k.warn z
  let c : Int := if t < w then (t - w + 95 * 16) / 16 else 95 + 23 * (t - w) / (16 * zoneShut z - w)
  (273 + c).toNat
/-- Zones with a working sensor that has read. -/
def State.readZones (s : State) : List Nat :=
  (List.range 7).filter (fun z => ((s.zone z).read.any (fun (e : Nat × Int) => !(s.zone z).failed.contains e.1))) ++
  ((List.range 144).filter s.podReports).map (fun l => 8 + l)
def State.setComposite (s : State) : State :=
  let v := (s.readZones.map (fun z => s.keep.scaled z (s.zone z).temp)).foldl max 0
  s.modPw (fun p => { p with composite := v })

/-- The throttle fraction of a zone at throttle level (R554). -/
def State.fraction (s : State) (z : Nat) : Nat :=
  let thr : Int := 16 * s.keep.throttle z
  let t := (s.zone z).temp
  if t < thr then 192
  else
    let span := 16 * zoneShut z - 16 * s.keep.throttle z
    let x := (128 * (t - thr).toNat + span - 1) / span
    max 64 (min 192 (192 - x))

/-- GRACE_MS (HV_THROTTLE). -/
def State.graceMs (s : State) : Nat :=
  match s.pw.m2At with
  | some t => if s.pw.mute = 2 then s.keep.graceMs - (s.now - t) / 1000 else 0
  | none => 0

/-- Pods at throttle are held to the advice at M3, those without a sensor to a quarter (R555, R550). -/
def State.setDuty (s : State) : State :=
  { s with chanters := (List.range 144).foldl (fun (t : Tbl Chanter) l =>
      let base := if (s.link l).sensorBad then 256 else 1024
      let d := if s.pw.mute = 3 ∧ 2 ≤ (s.zone (8 + l)).level then min base (s.pw.advice * 4) else base
      let c := t.get {} l
      if c.duty = d then t else t.set l { c with duty := d }) s.chanters }

/-- The mute level changes (R555 to R557). -/
def State.setMute (m : Nat) (s : State) : State :=
  let old := s.pw.mute
  if old = m then s else
  let s := if m = 2 ∧ old < 2 then
      (s.modPw (fun p => { p with m2At := some s.now })).allPorts (fun p t => t.modPort p (fun x => { x with
        refRate := ((x.admits.filter (fun e => decide (s.now < e.1 + 1000000))).map (·.2)).foldl (· + ·) 0, m3Used := 0 }))
    else if m < 2 then s.modPw (fun p => { p with m2At := none }) else s
  let s := (s.modPw (fun p => { p with mute := m })).report srcPartition 0x0D12 m old
  let s := s.setDegrade dgMute (m == 3)
  if 2 ≤ m ∨ 2 ≤ old then s.allPorts (fun p t => t.postVendor p 0xE5) else s

/-- The mute level is decided (R553, R554). -/
def State.reviewMute (s : State) : State :=
  let zs := zoneNos.filter (fun z => s.muteZone z && 1 ≤ (s.zone z).level)
  let hot := zs.filter (fun z => 2 ≤ (s.zone z).level)
  let worst := pickMin s.fraction hot
  let advice := match worst with
    | some z => s.fraction z
    | none => 256
  let warmest := zs.foldl (fun (b : Option Nat) z => match b with
    | some y => if (s.zone y).temp < (s.zone z).temp then some z else b
    | none => some z) none
  let cz := match worst with
    | some z => z
    | none => warmest.getD 0
  let s := s.modPw (fun p => { p with advice := advice, causeZone := cz })
  let m := if hot.isEmpty then (if zs.isEmpty then 0 else 1) else max 2 s.pw.mute
  (s.setMute m).setDuty

/-- Changes of GRACE_MS as the milliseconds of M2 pass. -/
def State.graceTicks (s : State) : Nat := if s.pw.mute = 2 ∧ s.pw.m2At.isSome then s.keep.graceMs - s.graceMs else 0
/-- HV_THROTTLE counts every change of what it shows (R132): GRACE_MS's own, millisecond by millisecond, join the count when M2 is left. -/
def State.countThrottle (s : State) (old : State) : State :=
  if old.pw.advice = s.pw.advice ∧ old.pw.mute = s.pw.mute then s
  else
    let n := 1 + (if old.pw.mute = 2 ∧ s.pw.mute ≠ 2 then State.graceTicks { old with now := s.now } else 0)
    s.allPorts (fun p t => t.modPort p (fun x => { x with changeCount := x.changeCount + BitVec.ofNat 32 n }))

/-- Bit 1 of the SMART warning newly set on a port posts its event (R552). -/
def State.postTemp (s : State) (old : State) : State :=
  s.allPorts (fun p t => if !old.tempWarn p && t.tempWarn p && (t.port p).asyncCfg.getLsbD 1 then t.postEvent p (smartEv 1) else t)

/-- What a sample finds (R536, R543, R547 to R554). -/
def State.takeSample (x : Sample) (s : State) : State :=
  let s := s.modPw (fun p => { p with
    inputV := x.inputV, inputW := x.inputW, railA := x.railA, railV := x.railV, bankV := x.bankV
    capUf := s.keep.capUf, esr := s.keep.esr, energy := energyOf s.keep.capUf s.keep.esr x.bankV
    charged := p.charged || decide (7150 ≤ x.bankV) })
  let s := (s.reviewEnergy).setLimit
  let s := x.readings.foldl (fun t r => t.readSensor x.tenMs r) s
  let s := s.each (List.range 7) (fun z t => t.settleZone z)
  let s := s.each (s.pods.map (·.1)) (fun l t => t.settlePod l)
  s.setComposite

/-- Zones and pods at shutdown level (R545, R546). -/
def State.shutHot (s : State) : State :=
  let hot := (s.pods.map (·.1)).filter (fun l => 3 ≤ (s.zone (8 + l)).level)
  let s := s.each hot (fun l t => t.podTooHot l)
  let many := !hot.isEmpty && decide (3 ≤ (s.pw.hotTimes.filter (fun t => decide (s.now < t + 600000000))).length)
  if ((List.range 7).any (fun z => 3 ≤ (s.zone z).level) || many) && !s.modes.causes.contains 2 then s.causeArises 2 .thermal true false else s

/-- SENSOR_SAMPLE (R547). -/
def execSensorSample (x : Sample) (s : State) : Host.Outcome State Fault Refusal :=
  if s.modes.mode == .keep || (s.modes.mode == .bringUp && decide (s.modes.step < 1)) then .next s
  else
    let t := s.takeSample x
    let t := if s.active then t.reviewMute else t
    .next (((t.postTemp s).countThrottle s).shutHot)

/-- THERMAL_COMPARATOR_TRIP: a shutdown of its zone (R544, R545). -/
def execThermalComparatorTrip (zone : Fin 7) (s : State) : Host.Outcome State Fault Refusal :=
  if s.modes.mode == .keep then .next s
  else .next ((s.modPw (fun p => { p with hwTrip := true })).setLevel zone (s.zone zone).temp 3).shutHot

/-- GRACE_TIME_EXPIRY: M3 is enforced (R556). -/
def execGraceTimeExpiry (s : State) : Host.Outcome State Fault Refusal :=
  if s.pw.mute = 2 && s.active then
    let t := match s.pw.m2At with
      | some a => s.notBefore (a + 1000 * s.keep.graceMs)
      | none => s
    .next (((t.setMute 3).setDuty).countThrottle s)
  else .next s

/-- M3_ADMISSION_INTERVAL: the next 1 ms of R555 begins. -/
def execM3AdmissionInterval (s : State) : Host.Outcome State Fault Refusal :=
  .next (s.allPorts (fun p t => t.modPort p (fun x => { x with m3Used := 0 })))

end Sys2Proof.Machine
end

