-- ==== Sys2Proof/Machine/VoicingOps.lean ====
section
/-! DEFINITION. Voicing images: the factory image, the checks of the load, the class of a change, what applying one does, the format of the media (02, 06, 11, 17). -/
namespace Sys2Proof

/-! ## The factory image (R59, 01, 19) -/

/-- Spare pods of the factory image. -/
def factorySpares : List Nat := [34, 35, 70, 71, 106, 107, 142, 143]
/-- Active slots, in order. -/
def factoryActive : List Nat := (List.range 144).filter (fun l => !factorySpares.contains l)
/-- The default bore allocation (01). -/
def factoryBore : List BoreClient :=
  (List.range 16).map (fun b => .host (Fin.ofNat 8 (b / 2))) ++ (List.range 16).map (fun n => .stop (Fin.ofNat 16 n)) ++
  (List.range 16).map (fun n => .aggregator (Fin.ofNat 16 n)) ++ List.replicate 8 .hbm ++ List.replicate 4 .ddr ++
  [.cores 0, .cores 1, .movers 0, .movers 1]
/-- Bands, rows and data slots of a 17-wide group of reference dies. -/
def factoryMun (g : Nat) : VMun := { base := g * (40704 * 512 * 15 * 48), bands := 40704, rowsPerBand := 512, dataMembers := 15, slotsPerRow := 48 }

/-- The geometry section of the factory image. -/
def factoryGeometry : VGeometry := {
  width := 17
  groups := (List.range 8).map (fun g => (List.range 17).map (fun i => factoryActive.getD (8 * i + g) 0))
  spares := factorySpares }

/-- What FORMAT_KEY is computed from: the geometry section without its spare-pod list, and the MUN section (R57). -/
def VoicingImage.key (i : VoicingImage) : W64 := Config.formatDigest { i.geometry with spares := [] } i.mun

/-- The image in slot 0. -/
def factoryImage : VoicingImage := {
  serial := Config.factorySerial
  formatKey := Config.formatDigest { factoryGeometry with spares := [] } ((List.range 8).map factoryMun)
  ports := List.replicate 8 {}
  pools := (List.range 8).map (fun p => { stops := BitVec.ofNat 16 (3 * 4 ^ p) })
  bore := factoryBore
  geometry := factoryGeometry
  mun := (List.range 8).map factoryMun
  drones := [(8, 64), (6, 64), (3, 64), (2, 32), (1, 16), (1, 16), (32, 256), (8, 32), (4, 32), (1, 8), (1, 8)] }

/-! ## The checks of load steps 2 to 4 -/

/-- Limits of sections 0x01 and 0x02 (R49, R36, pool limits). -/
def VoicingImage.portsOk (i : VoicingImage) : Bool :=
  let sum := fun (f : VPool → Nat) => (i.pools.map f).foldl (· + ·) 0
  decide (i.ports.length = 8 ∧ i.pools.length = 8) && i.ports.any (·.enable) &&
  i.ports.all (fun p => decide (4 ≤ p.maxSpeed ∧ p.maxSpeed ≤ 7 ∧ 1 ≤ p.instances ∧ p.instances ≤ 128) && [1, 2, 4, 8, 16].contains p.maxWidth) &&
  i.pools.all (fun q => decide (q.queuePairs ≤ 2048 ∧ 1 ≤ q.vectors ∧ q.vectors ≤ 2048 ∧ q.slots ≤ 16384 ∧ q.tokens ≤ 1024 ∧ q.nsQuota ≤ 4096 ∧ q.pinnedWays ≤ 8)) &&
  decide (sum (·.tokens) ≤ 8192 ∧ sum (·.nsQuota) ≤ 4096 ∧ sum (·.pinnedWays) ≤ 8) &&
  (List.range 4).all (fun q => decide (((i.pools[2 * q]?).getD {}).slots + ((i.pools[2 * q + 1]?).getD {}).slots ≤ 16384)) &&
  (List.range 16).all (fun n => decide ((i.pools.filter (fun q => q.stops.getLsbD n)).length ≤ 1))

/-- Bore ports a host port needs (R52). -/
def VPort.boreNeed (p : VPort) : Nat := if !p.enable then 0 else if p.maxSpeed = 7 ∧ p.maxWidth = 16 then 2 else 1
/-- R52 and R53: only host-port ports are reassigned, to host ports, HBM and the data movers. -/
def VoicingImage.boreOk (i : VoicingImage) : Bool :=
  let free := i.bore.take 16
  decide (i.bore.length = 64) && i.bore.drop 16 == factoryBore.drop 16 &&
  free.all (fun c => match c with
    | .host _ | .hbm | .movers _ => true
    | _ => false) &&
  (List.range 8).all (fun p => decide (((i.ports[p]?).getD {}).boreNeed ≤ (free.filter (fun c => c == .host (Fin.ofNat 8 p))).length)) &&
  decide ((i.bore.filter (fun c => c == .hbm)).length ≤ 12 ∧ (i.bore.filter (fun c => c == .movers 0 || c == .movers 1)).length ≤ 4)

/-- R55 and the shape of section 0x05. A rotation period of 0 is refused too, for which the manual gives no range (DESIGN CHOICE, log entry 93). -/
def VoicingImage.geometryOk (i : VoicingImage) : Bool :=
  let g := i.geometry
  let all := g.groups.flatten ++ g.spares
  decide ((g.width = 17 ∧ 1 ≤ g.groups.length ∧ g.groups.length ≤ 8) ∨ (g.width = 9 ∧ 1 ≤ g.groups.length ∧ g.groups.length ≤ 16)) &&
  decide (g.spares.length ≤ 8 ∧ 1 ≤ g.period) && g.groups.all (fun x => x.length == g.width) && all.all (fun l => decide (l < 144)) &&
  (List.range 144).all (fun l => decide ((all.filter (fun x => x == l)).length ≤ 1))

/-- Section 0x06: the groups' ranges are contiguous, ascending and below the three reserved values (R56). At least 16 bands and one row a band,
which the manual does not state (DESIGN CHOICE, log entry 93). -/
def munFrom (at_ : Nat) : List VMun → Bool
  | [] => decide (at_ ≤ 0xFFFFFFFFFD)
  | v :: r => v.base == at_ && munFrom (at_ + v.bands * v.rowsPerBand * v.dataMembers * v.slotsPerRow) r
def VoicingImage.munOk (i : VoicingImage) : Bool :=
  i.mun.length == i.geometry.groups.length && munFrom ((i.mun.headD ⟨0, 0, 0, 0, 0⟩).base) i.mun &&
  i.mun.all (fun v => v.dataMembers + 2 == i.geometry.width && (v.slotsPerRow == 48 || v.slotsPerRow == 64) && decide (1 ≤ v.rowsPerBand ∧ 16 ≤ v.bands))

/-- Sections 0x07 to 0x0B (memory, heat, drones by R51 and R613, fault thresholds, shell). -/
def VoicingImage.restOk (i : VoicingImage) : Bool :=
  let m := i.memory
  let f := i.faults
  let sum := fun (a n : Nat) (h : Nat × Nat → Nat) => (((i.drones.drop a).take n).map h).foldl (· + ·) 0
  decide (m.cacheMib ≤ 4096 ∧ m.cacheMib % 256 = 0 ∧ 1024 ≤ m.stagingMib ∧ m.stagingMib ≤ 8192 ∧ m.stagingMib % 256 = 0 ∧
    768 ≤ m.stopMib ∧ m.stopMib ≤ 16384 ∧ m.stopMib % 256 = 0 ∧ m.hbmHeapMib = 2048 ∧
    8192 ≤ m.ddrHeapMib ∧ m.ddrHeapMib ≤ 32768 ∧ m.ddrHeapMib % 1024 = 0) &&
  decide (6 ≤ i.heatK ∧ i.heatK ≤ 16 ∧ 1 ≤ i.heatThreshold ∧ i.heatThreshold ≤ 15) &&
  i.drones.length == 11 && i.drones.all (fun d => decide (d.1 ≤ d.2)) &&
  decide (21 ≤ sum 0 6 (·.1) ∧ sum 0 6 (·.1) ≤ 256 ∧ sum 6 3 (·.1) ≤ 256) && ((i.drones.drop 6).take 3).all (fun d => decide (d.2 ≤ 256)) &&
  decide (150 ≤ f.dieTimeout ∧ f.dieTimeout ≤ 300 ∧ 4 ≤ f.wayErrLimit ∧ f.wayErrLimit ≤ 64 ∧ 16 ≤ f.hostViolLimit ∧ f.hostViolLimit ≤ 65535 ∧
    8 ≤ f.podViolLimit ∧ f.podViolLimit ≤ 4096 ∧ 10 ≤ f.stopViolLimit ∧ f.stopViolLimit ≤ 65535 ∧ 10 ≤ f.shareDrainLimit ∧ f.shareDrainLimit ≤ 1000) &&
  [0x0300, 0x0301, 0x0302].contains i.shell && i.sectionIds == [1, 2, 3, 4, 5, 6, 7, 8, 9, 10, 11] && i.softEngines.length == 4

/-- Every limit that the image alone decides. -/
def VoicingImage.limitsOk (i : VoicingImage) : Bool := i.portsOk && i.boreOk && i.geometryOk && i.munOk && i.restOk

/-- Bore ports of a host port, of B00 to B15. -/
def VoicingImage.boreOf (i : VoicingImage) (p : Nat) : List Nat := (List.range 16).filter (fun b => i.bore[b]? == some (.host (Fin.ofNat 8 p)))
end Sys2Proof

namespace Sys2Proof.Machine

/-- A voicing slot: slot 0 holds the factory image, and nothing writes it (R59). -/
def State.vslot (s : State) (n : Nat) : VSlot := if n = 0 then { image := some factoryImage } else s.flash.slots.get {} n

/-- R54: hard-decode engines cover each quadrant's active links. -/
def State.decodeOk (s : State) (i : VoicingImage) : Bool :=
  (List.range 4).all (fun q =>
    let links := (i.geometry.groups.flatten.filter (fun l => quadOf l == q)).length
    decide ((links * 1203747 + 1999999) / 2000000 + (i.softEngines[q]?).getD 0 + s.spares.ldpcLost.get 0 q ≤ 22))

/-- The FORMAT_KEY of an image is the format record's. -/
def State.keyMatches (s : State) (i : VoicingImage) : Bool := s.format.map (·.key) == some i.formatKey

/-- Members of a group present, described and consistent with its entry of the MUN section, in slots per row and rows per band (R61). -/
def State.fitting (s : State) (i : VoicingImage) (g : Nat) : List Nat :=
  match i.mun[g]? with
  | none => []
  | some v => (List.range 144).filter (fun l => ((i.geometry.groups[g]?).getD []).contains l && (s.pod l).present && (match (s.pod l).desc with
      | some d => d.geom.slots == v.slotsPerRow && d.rows == v.rowsPerBand
      | none => false))

/-- The die geometry most of some pods declare, the lowest-numbered deciding a tie (R61). -/
def mostDeclared (ds : List DieGeom) : Option DieGeom :=
  let count := fun (f : List Nat) => (ds.filter (fun x => x.fields == f)).length
  ds.foldl (fun b x => match b with
    | some y => if count y.fields < count x.fields then some x else b
    | none => some x) none

/-- A group's die geometry: the format record's; with none of the image's FORMAT_KEY, what most fitting pods declare (R61; DESIGN CHOICE where the
media carries a record of another key, log entry 93). -/
def State.groupGeom (s : State) (i : VoicingImage) (g : Nat) : Option DieGeom :=
  match (if s.keyMatches i then s.format.bind (fun f => f.geometry[g]?) else none) with
  | some x => some x
  | none => mostDeclared ((s.fitting i g).map (fun l => (s.desc l).geom))
/-- The die geometry of a group: the format record's where its key is the image's, else what most fitting pods declare; a record of another key is not
looked at (DESIGN CHOICE, log entry 93). Where no pod declares one, what the MUN section says of it. -/
def State.groupDies (s : State) (i : VoicingImage) (g : Nat) : DieGeom :=
  (s.groupGeom i g).getD (let v := (i.mun[g]?).getD ⟨0, 0, 0, 0, 0⟩; { levels := v.slotsPerRow / 16, rows := v.rowsPerBand, blocks := v.bands / 16 })

/-- R61: on media without a format record, every group needs a pod its MUN section fits. -/
def State.podsOk (s : State) (i : VoicingImage) : Bool :=
  s.format.isSome || (List.range i.geometry.groups.length).all (fun g => !(s.fitting i g).isEmpty)

/-- The MUN table is recomputed from the geometry section and the groups' die geometry; a group no present pod declares one for is taken as the image
gives it (R56). -/
def State.munTableOk (s : State) (i : VoicingImage) : Bool :=
  (List.range i.mun.length).all (fun g => match s.groupGeom i g, i.mun[g]? with
    | some x, some v => v.bands == 16 * x.blocks && v.rowsPerBand == x.rows && v.dataMembers + 2 == i.geometry.width && v.slotsPerRow == x.slots
    | _, _ => true)

/-- The check of load steps 2 to 4 a slot fails first, by its LAST_CHECK code; 0: none. -/
def State.checkSlot (s : State) (n : Nat) : Nat :=
  let v := s.vslot n
  match v.image with
  | none => 1
  | some i =>
    if !v.check.crcOk then 1
    else if !v.check.hashOk then 2
    else if !s.sigsOk v.check.compileSig v.check.operatorSig then 3
    else if (s.flash.fw.get { version := Config.factoryFw s.flash.running } s.flash.running).version.toNat < i.fwMin.toNat then 4
    else if !(i.limitsOk && s.munTableOk i && s.decodeOk i && s.podsOk i) then 5
    else if i.formatKey ≠ i.key then 6
    else 0

/-- A slot fails a check at a load or a Voicing Select (MD_VOICING_STATUS). -/
def State.failSlot (n code : Nat) (s : State) : State :=
  s.modFlash (fun f => { f with failMask := f.failMask ||| BitVec.ofNat 4 (2 ^ n), lastCheck := code })

/-! ## The class of a change (R66) -/

/-- 0 none, 1 E, 2 P, 3 F. -/
def changeClass (a b : VoicingImage) : Nat :=
  if { a.geometry with spares := [] } ≠ { b.geometry with spares := [] } ∨ a.mun ≠ b.mun then 3
  else if a.ports ≠ b.ports ∨ a.bore ≠ b.bore then 2
  else if a.pools ≠ b.pools ∨ a.softEngines ≠ b.softEngines ∨ a.geometry ≠ b.geometry ∨ a.memory ≠ b.memory ∨ a.heatK ≠ b.heatK ∨
      a.heatThreshold ≠ b.heatThreshold ∨ a.wearBias ≠ b.wearBias ∨ a.drones ≠ b.drones ∨ a.faults ≠ b.faults ∨ a.shell ≠ b.shell then 1
  else 0

/-- Ports a change retrains. -/
def changePorts (a b : VoicingImage) : List Nat :=
  (List.range 8).filter (fun p => a.ports[p]? != b.ports[p]? || a.boreOf p != b.boreOf p)

/-- Instance 0's share within a pool, beside what the other instances of the port hold (R206). -/
def State.shareZero (s : State) (i : VoicingImage) (p : Nat) : Share :=
  let k := instKey p 0
  let d := (s.dinst k).share
  let v := (i.pools[p]?).getD {}
  let left := fun (pool : Nat) (f : Share → Nat) => pool - (s.others k).foldl (fun n j => n + f (s.dinst j).share) 0
  { d with
    queuePairs := min d.queuePairs (left v.queuePairs (·.queuePairs)), vectors := min d.vectors (left v.vectors (·.vectors))
    slotMin := min d.slotMin (left v.slots (·.slotMin)), slotMax := min d.slotMax v.slots, tokens := min d.tokens (left v.tokens (·.tokens))
    nsQuota := min d.nsQuota (left v.nsQuota (·.nsQuota)), stopMask := d.stopMask &&& v.stops, pinnedWays := min d.pinnedWays (left v.pinnedWays (·.pinnedWays)) }

/-- A change would leave a port's instances and namespaces less than they hold (Voicing Select refusal 0x03). -/
def State.shrinks (s : State) (i : VoicingImage) : Bool :=
  (List.range 8).any (fun p =>
    let v := (i.pools[p]?).getD {}
    let q := (i.ports[p]?).getD {}
    let os := (s.liveKeys p).filter (fun k => k % 128 != 0)
    let sum := fun (f : Share → Nat) => os.foldl (fun n k => n + s.claim k f) 0
    let k0 := instKey p 0
    let z := s.shareZero i p
    os.any (fun k => decide (q.instances ≤ k % 128) || decide (v.slots < (s.dinst k).share.slotMax) || s.claimStops k &&& ~~~v.stops != 0 ||
      (s.vecRanges k).any (fun r => decide (0 < r.2 ∧ v.vectors < r.1 + r.2))) ||
    (!os.isEmpty && !q.enable) ||
    decide (v.queuePairs < sum (·.queuePairs) ∨ v.vectors < sum (·.vectors) ∨ v.slots < sum (·.slotMin) ∨ v.tokens < sum (·.tokens) ∨
      v.nsQuota < sum (·.nsQuota) ∨ v.pinnedWays < sum (·.pinnedWays)) ||
    ((s.dinst k0).live && (decide (z.queuePairs < s.pairsUsed k0) || decide (z.nsQuota < (s.dinst k0).attached.length) || s.boundStops k0 &&& ~~~z.stopMask != 0 ||
      (s.inst k0).cqs.any (fun e => e.1 != 0 && (match e.2.vector with
        | some x => decide (z.vectors < x + 1)
        | none => false)))))

/-! ## Applying an image (load step 6, R68, R73) -/

/-- The image in force: pools, memory split, decode allocation, drones, thresholds and shell follow from it. -/
def State.useImage (i : VoicingImage) (s : State) : State :=
  let s := s.modFlash (fun f => { f with image := i })
  s.modSpares (fun x => { x with soft := (List.range 4).map (fun q => (q, (i.softEngines[q]?).getD 0)) })

/-- Instance 0 of a port within the pool in force. -/
def State.fitZero (p : Nat) (s : State) : State :=
  let k := instKey p 0
  let z := s.shareZero s.image p
  if (s.dinst k).live && z ≠ (s.dinst k).share then s.logInst k (fun d => { d with share := z }) else s

/-- Instance 0 of an enabled port exists (R196, R206), its shares within the pools. -/
def State.makeZero (p : Nat) (s : State) : State :=
  let k := instKey p 0
  if (s.dinst k).live || !(s.vport p).enable then s.fitZero p
  else
    let s := s.logInst k (fun d => { d with live := true, share := { queuePairs := 64, vectors := 65, slotMin := 256, slotMax := 4096, tokens := 64, nsQuota := 16 } })
    (s.modInst k (fun i => { i with state := .active })).fitZero p

/-- A slot named as a further spare is powered and trained (R73). -/
def State.powerSpare (l : Nat) (s : State) : State :=
  match (s.pod l).desc with
  | none => s
  | some d => if !(s.pod l).present || (s.pod l).powered then s else
    ((s.emit (.bay l true)).modPod l (fun q => { q with powered := true, role := 3, failed := false })).modLink l (fun x =>
      { onSpare := x.onSpare, state := 1, trying := if d.protocolMax = 1 then 2 else 3 })

/-- A change of class E or P takes force while serving. -/
def State.applyImage (i : VoicingImage) (s : State) : State :=
  let old := s.image.geometry.spares
  let s := s.useImage i
  let s := s.allPorts (fun p t => t.makeZero p)
  let s := s.each (i.geometry.spares.filter (fun l => !old.contains l)) (fun l t => t.powerSpare l)
  let s := s.each (old.filter (fun l => !i.geometry.spares.contains l)) (fun l t => if (t.pod l).role = 0 ∨ (t.memberOf l).isSome then t else (t.podOff l).modPod l (fun q => { q with role := 0 }))
  (s.countPods).setLimit

/-! ## Formats of the whole media (R71, R582, R652, R659) -/

/-- The reserved bands of a group (R659). At a format they carry an erase intent beside their role (R71); at the first format no other bands than
these are free of one (R652). -/
def reservedBands (groups bands : Nat) : List (Nat × BandState) :=
  let n := bands / 16
  (List.range 16).flatMap (fun d => [(16 * (n - 1) + d, .reserve), (16 * (n - 2) + d, .reserve)]) ++
  [(16 * (n - 3), .vault), (16 * (n - 3) + 8, .vault), (16 * (n - 3) + 4, .system)] ++ (if groups = 1 then [(16 * (n - 3) + 12, .system)] else [])
def freshBands (i : VoicingImage) (intent : Bool) : Tbl Band :=
  (List.range i.mun.length).flatMap (fun g => (reservedBands i.mun.length ((i.mun[g]?).getD ⟨0, 0, 0, 0, 0⟩).bands).map (fun e => (bandKey g e.1, ({ state := e.2, intent := intent } : Band))))

/-- A new media secret is drawn; the media key generation counts it (R582). -/
def State.newSecret (s : State) : State := (s.keepWrite (fun k => { k with mediaGen := k.mediaGen + 1, secret := s.free + 1 })).drew

/-- The format record of an image. -/
def State.formatOf (s : State) (i : VoicingImage) : FormatRec := {
  key := i.formatKey, retention := s.health.retention, wearSpread := s.health.wearSpread, capHours := s.health.capHours
  fullPriority := s.health.fullPriority, updateLock := s.keep.updateLock, secret := s.keep.secret
  geometry := (List.range i.mun.length).map (s.groupDies i)
  seq := (s.format.map (fun (r : FormatRec) => r.seq)).getD 0 }

/-- The media holds `d` and nothing else: the journal, the map's tiers, the cache and the slots begin anew. -/
def State.freshMedia (d : Durable) (s : State) : State :=
  { s with
    live := d, sealed := d
    jrn := { s.jrn with opened := [], sealing := none, counts := [], defLogs := [], cleanRec := false, openEpoch := s.jrn.openEpoch + 1, sealedEpoch := s.jrn.openEpoch, openedAt := s.now }
    vault := none
    lines := []
    cw := []
    cache := { s.cache with stripes := [], closing := [], waiting := [], armed := [], pointers := [] }
    groups := s.groups.map (fun (e : Nat × Group) => (e.1, ({ clock := e.2.clock } : Group)))
    ops := []
    solves := []
    mc := { s.mc with slices := s.mc.slices.map (fun (e : Nat × Slice) => (e.1, e.2.kept)), parked := [], t2 := [], busy := false, waitOps := [] }
    health := { s.health with relocs := [], runs := [], handed := [], handedBy := [], ageFloors := [] } }

/-- Every vault band that is erased is armed; one with an erase intent follows when its erase is done (R71, R316). -/
def State.armVault (s : State) : State :=
  s.modCache (fun c => { c with armed := s.groupList.flatMap (fun g => ((s.vaultBands g).filter (fun b => !(s.band g b).intent)).map (bandKey g)) })

/-- A member position whose pod slot holds a failed pod takes a spare pod, or is lost without substitute. -/
def State.fillDead (g pos : Nat) (s : State) : State :=
  let l := s.slotAt g pos
  if !s.live.deadPods.contains l || s.live.lostMem.contains (g, pos) then s else
  match (s.sparePods.filter (s.fitsGroup g)).head? with
  | some q => s.logRec (.sub (.pod g pos l q 0))
  | none => s.logRec (.sub (.lost g pos l 0))

/-- A format of the whole media with an image (R71): namespaces gone, a new media secret, every band with an erase intent. Instances stay. -/
def State.formatMedia (i : VoicingImage) (s : State) : State :=
  let s := s.each (s.live.nss.map (fun (e : Nat × Ns) => e.1)) (fun n t => t.zeroKey n)
  let s := s.newSecret
  let was := (s.format.map (fun (r : FormatRec) => r.bands)).getD []
  let s := { s with format := some (s.formatOf i) }
  let s := s.modPart (fun p => { p with keyTab := { seq := p.keyTab.seq + 1 } })
  let l := s.live
  let d : Durable := {
    nextSerial := l.nextSerial
    bands := freshBands i true
    remap := l.remap
    insts := l.insts.map (fun (e : Nat × DurInst) => (e.1, { e.2 with attached := [] }))
    bindings := l.bindings.map (fun (e : Nat × Binding) => if e.2.nsid = 0 then e else (e.1, { e.2 with mode := 0, nsid := 0, window := false }))
    dieTab := l.dieTab, deadDies := l.deadDies, deadPods := l.deadPods, hotPods := l.hotPods, entered := l.entered, nextRebuild := l.nextRebuild }
  let s := ((s.freshMedia d).useImage i).placeFormat was
  let s := s.each s.groupList (fun g t => t.each (List.range t.width) (fun pos t => t.fillDead g pos))
  ((s.setDegrade dgRebuild false).newLayout).armVault

end Sys2Proof.Machine
end

