-- ==== Sys2Proof/Machine/FlashOps.lean ====
section
/-! DEFINITION. The boot-flash sequencers and their erase tallies; the ends of a raise and of a lowering of the readout protection level (17). -/
namespace Sys2Proof.Machine

/-! ## The flash sequencer (R587 to R590) -/

def State.bank (s : State) (b : Nat) : Bank := s.flash.banks.get {} b
def State.modBank (b : Nat) (f : Bank → Bank) (s : State) : State := s.modFlash (fun x => { x with banks := x.banks.set b (f (s.bank b)) })

/-- An erase takes an entry, its INTENT programmed first. With two entries left the other tally sector is erased and becomes current (R589). -/
def Bank.entry (sector : Nat) (b : Bank) : Bank :=
  let b := { b with intents := if b.intents.contains sector then b.intents else sector :: b.intents, entries := b.entries + 1 }
  if b.entries = 4093 then { b with entries := 0, tallyB := !b.tallyB, tallySeq := b.tallySeq + 1 } else b
/-- The erase has ended: DONE, with the sector's count. -/
def Bank.done (sector : Nat) (b : Bank) : Bank :=
  { b with intents := b.intents.filter (fun x => !(x == sector)), erases := b.erases.set sector (b.erases.get 0 sector + 1) }
/-- The sequencer takes its next operation; a program to a sector with INTENT and no DONE is refused. -/
def Bank.advance (b : Bank) : Bank :=
  match b.busy, b.queue with
  | none, x :: r =>
    if x.2 then { b with busy := some x, queue := r }.entry x.1
    else if b.intents.contains x.1 then { b with queue := r } else { b with busy := some x, queue := r }
  | _, _ => b
/-- The operation in progress has ended. -/
def Bank.clearBusy (b : Bank) : Bank := { b with busy := none }
/-- Operations are queued with a bank's sequencer. -/
def State.flashOps (b : Nat) (ops : List (Nat × Bool)) (s : State) : State := s.modBank b (fun x => { x with queue := x.queue ++ ops }.advance)

/-- Bank and first sector of a voicing slot. -/
def slotBank (n : Nat) : Nat := n / 2
def slotSector (n : Nat) : Nat := if n % 2 = 0 then 16 else 24
/-- The eight sectors of a voicing slot are erased. -/
def State.eraseSlot (n : Nat) (s : State) : State :=
  (s.modFlash (fun f => { f with slots := f.slots.erase n })).flashOps (slotBank n) ((List.range 8).map (fun i => (slotSector n + i, true)))

/-- Erases cut short are done again before the bank is read; so is a tally sector with a bad header (R590). -/
def State.reErase (b : Nat) (header : Bool) (s : State) : State :=
  let x := s.bank b
  let cut := x.intents.filter (fun n => !(x.busy == some (n, true)))
  let s := cut.foldl (fun t n => (t.modBank b (fun y => (y.entry n).done n)).report srcPartition 0x0E08 b n) s
  if header then s.report srcPartition 0x0E08 b (if x.tallyB then 0 else 1) else s

/-! ## Readout protection (R579 to R581) -/

/-- A raise after its commit point: slots and stored images at rest, then the fuses. -/
def State.finishRaise (s : State) : State :=
  let s := s.modFlash (fun f => { f with
    slots := f.slots.map (fun (e : Nat × VSlot) => (e.1, { e.2 with atRest := e.2.atRest || e.1 != 0 }))
    storeRest := s.store.map (·.1) })
  let two := s.keep.raiseTo2
  let s := { s with otp := { s.otp with
    raises := if s.rpl = 0 then s.otp.raises + 1 else s.otp.raises
    rpl2 := s.otp.rpl2 || two, debugOff := s.otp.debugOff || two } }
  ((s.keepWrite (fun k => { k with raising := false, raiseTo2 := false })).modPart (fun p => { p with debugOn := false })).report srcPartition 0x0E03 0 s.rpl

/-- A lowering after its commit point, steps 3 to 7: secrets, keys, media, slots, fuse. The media is formatted for the factory image,
which KR_VOICING_SEL names from then on. -/
def State.finishLower (s : State) : State :=
  let s := s.newSecret.keepWrite id
  let s := s.modPart (fun p => { p with keys := [], keyTab := { seq := p.keyTab.seq + 1 } })
  let i := factoryImage
  let was := (s.format.map (fun (r : FormatRec) => r.bands)).getD []
  let s := { s with format := some (s.formatOf i), store := [] }
  let s := s.modFlash (fun f => { f with storeRest := [] })
  let l := s.live
  let s := s.freshMedia {
    nextSerial := l.nextSerial, bands := freshBands i true, remap := l.remap
    insts := (l.insts.filter (fun (e : Nat × DurInst) => e.1 % 128 == 0)).map (fun (e : Nat × DurInst) => (e.1, { e.2 with attached := [] }))
    dieTab := l.dieTab, deadDies := l.deadDies, deadPods := l.deadPods, hotPods := l.hotPods, entered := l.entered, nextRebuild := l.nextRebuild }
  let s := s.placeFormat was
  let s := s.each [1, 2, 3] (fun n t => t.eraseSlot n)
  let s := s.keepWrite (fun k => { k with active := 0, previous := 0, pending := 0, pendingValid := false, formatIntent := false, pendingKey := 0 })
  let s := { s with otp := { s.otp with lowers := s.otp.lowers + 1 } }
  (s.keepWrite (fun k => { k with lowering := false })).report srcPartition 0x0E03 0 0

end Sys2Proof.Machine
end

