-- ==== Sys2Proof/Machine/Pods.lean ====
section
/-! DEFINITION. Pod bays, spares verified, cores and movers that fail, rebuilds (12, 20). -/
namespace Sys2Proof.Machine

/-! ## Bays (R403, R454, R636, R637) -/

/-- The checks on a pod descriptor (R454). -/
def descOk (d : PodDesc) : Bool :=
  d.magicOk && d.crcOk && !d.reserved &&
  decide (d.layout = 1 ∧ 1 ≤ d.generation ∧ d.generation ≤ 3 ∧ (d.dieType = 1 ∨ d.dieType = 2) ∧ d.dies = 18 ∧ d.planes = 4 ∧
    (d.levels = 3 ∨ d.levels = 4) ∧ 17856 ≤ d.pageBytes ∧ 1 ≤ d.rows ∧ d.rows ≤ 1024 ∧ 1 ≤ d.blocks ∧ d.blocks ≤ 4096 ∧
    d.blocksInService ≤ d.blocks ∧ d.channels = 4 ∧ 3600 ≤ d.channelMts ∧ 800 ≤ d.writeBuffer ∧ d.maxPower ≤ 44 ∧ 8 ≤ d.queueDepth ∧
    d.dataGb * 10 ^ 9 ≤ d.blocksInService * d.rows * d.levels * 4 * 16384)

/-- The groups a slot's pod can serve: its own where it is listed as a member, any for a spare slot. -/
def State.slotGroups (s : State) (l : Nat) : List Nat :=
  match s.groupList.find? (fun g => ((s.image.geometry.groups[g]?).getD []).contains l) with
  | some g => [g]
  | none => s.groupList

/-- POD_PRESENCE_CHANGE: a pod pulled fails its part; one inserted into a failed pod's slot is checked and powered (R397, R403). -/
def execPodPresenceChange (l : LinkId) (present : Bool) (desc : Option PodDesc) (s : State) : Host.Outcome State Fault Refusal :=
  let p := s.pod l
  if p.present == present then .next s
  else if !present then
    let s := s.modPod l (fun q => { q with present := false, desc := none, refused := false, mismatch := false, entering := false })
    .next (if !p.powered then s else if s.modes.mode == .bringUp then s.linkDead l else if s.active then (s.failPod l false).retry else s)
  else
    let s := s.modPod l (fun q => { q with present := true })
    match desc with
    | none => .next s
    | some d =>
      let bad := s.live.deadPods.contains l
      if !(bad && s.active && s.pw.rail && !s.hostFenced) then .next (if descOk d then s.modPod l (fun q => { q with desc := some d }) else s)
      else if !descOk d then .next ((s.modPod l (fun q => { q with refused := true })).report (srcAggregator l) (evUnnamed 7 3) l 0)
      else
        let s := s.modPod l (fun q => { q with desc := some d })
        if d.protocolMax < 1 ∨ 3 < d.protocolMax ∨ !(s.slotGroups l).any (fun g => s.fitsGroup g l) then .next ((s.modPod l (fun q => { q with mismatch := true })).report (srcAggregator l) (evUnnamed 7 3) l 1)
        else
          let s := (s.emit (.bay l true)).modPod l (fun q => { q with powered := true, entering := true, failed := false, failTimes := [] })
          .next (s.modLink l (fun x => { recoveries := x.recoveries, state := 1, trying := if d.protocolMax = 1 then 2 else 3 }))

/-- What a bay switch reports: overcurrent or a fault fails the pod (R397, R542). -/
def State.bayStatus (l : Nat) (st : BayStatus) (s : State) : State :=
  if (st.overcurrent || st.fault) && (s.pod l).powered then
    (if s.modes.mode == .bringUp then s.linkDead l else (s.failPod l false).retry)
  else s
/-- BAY_SWITCH_STATUS_POLL. -/
def execBaySwitchStatusPoll (l : LinkId) (st : BayStatus) (s : State) : Host.Outcome State Fault Refusal := .next (s.bayStatus l st)
/-- BAY_SWITCH_IBI. -/
def execBaySwitchIbi (l : LinkId) (st : BayStatus) (s : State) : Host.Outcome State Fault Refusal := .next (s.bayStatus l st)

/-! ## Spares (R392, R393, R420, R421) -/

/-- SPARE_MEDIA_VERIFY: a spare die, or a die of a spare pod, is erased and verified block by block. -/
def execSpareMediaVerify (l : LinkId) (die : Fin 18) (answers : Bool) (bad : List Nat) (s : State) : Host.Outcome State Fault Refusal :=
  let k := dieKey l die
  let d := s.desc l
  let spare := (s.spareDies l).contains die.val || ((s.memberOf l).isNone && decide (2 ≤ (s.pod l).role) && !s.live.deadDies.contains k && !s.live.deadPods.contains l.val)
  if (s.link l).state != 2 || !spare || !s.active || s.modes.ps == 4 then .next s
  else if !answers then .next (s.failSpareDie l die)
  else
    let all := bad ++ (s.die k).badBlocks.filter (fun b => !bad.contains b)
    let s := s.modDie k (fun y => { y with badBlocks := all, verified := true })
    if d.blocks - all.length < d.blocksInService then .next (s.failSpareDie l die)
    else
      let whole := (List.range 18).all (fun i => (s.die (dieKey l i)).verified || s.live.deadDies.contains (dieKey l i))
      if whole then
        let s := s.modPod l (fun p => { p with verified := true, role := if p.role = 3 then 2 else p.role })
        .next s.countPods
      else .next s

/-- CORE_HEARTBEAT_MISS: the quadrant's spare core takes the logical number; without one the quadrant runs on fewer (R420). -/
def execCoreHeartbeatMiss (q : QuadId) (core : Fin 16) (s : State) : Host.Outcome State Fault Refusal :=
  if s.spares.coresBy.get 0 q = 0 then
    let s := s.modSpares (fun x => { x with cores := x.cores - 1, coresBy := x.coresBy.set q 1, coreSub := x.coreSub.set q core })
    .next (s.packageSpare 1 (16 * q + core) 16 s.spares.cores (srcFirmware q))
  else .next ((s.modSpares (fun x => { x with coresLost := x.coresLost.set q (x.coresLost.get 0 q + 1) })).report (srcFirmware q) (evUnnamed 12 8) (16 * q + core) 0)

/-- MOVER_NO_PROGRESS: the spare mover continues each descriptor from the burst it holds, which then reports RESUMED (R421, R505);
with no spare the channels halt. -/
def execMoverNoProgress (m : MoverId) (s : State) : Host.Outcome State Fault Refusal :=
  let chs := (List.range 4).map (fun k => m.val * 4 + k)
  let q := m.val / 17
  if !chs.any (fun k => (s.chan k).flight.isSome) then .next s
  else if (s.spares.moverBy.find q).isNone then
    let s := s.modSpares (fun x => { x with movers := x.movers - 1, moverBy := x.moverBy.set q m })
    let s := s.each chs (fun k t => t.modChan k (fun c => { c with flight := c.flight.map (fun f => { f with resumed := true }) }))
    .next (s.packageSpare 3 m 17 s.spares.movers (40 + q))
  else .next ((s.each chs (fun k t => t.haltChan k 0)).report (40 + q) (evUnnamed 12 9) m 0)

/-- POD_STATS_READ (R622). -/
def execPodStatsRead (l : LinkId) (die : Fin 18) (resets tempMaxK : Nat) (s : State) : Host.Outcome State Fault Refusal :=
  if (s.link l).state == 2 then
    .next (s.modDie (dieKey l die) (fun d => { d with
      resets := min 65535 (d.resets + (if d.podResets ≤ resets then resets - d.podResets else resets))
      podResets := resets
      tempMaxK := max d.tempMaxK tempMaxK }))
  else .next s

/-! ## Rebuild (R405 to R408, R413 to R415) -/

/-- A rebuild that runs. -/
def State.rebuild (s : State) (id : Nat) : Option Rebuild := s.live.rebuilds.find? (fun r => r.id == id && !r.finished)
def State.rebuilding (s : State) (g : Nat) : Bool := s.live.rebuilds.any (fun r => r.group == g && !r.finished)

/-- Bands a rebuild has still to scan: those with the member absent, or still on the retiring die, where it holds data. -/
def State.rebuildScope (s : State) (r : Rebuild) : List Nat :=
  let run := s.health.runs.get {} r.id
  (s.bandsOf r.group).filter (fun b =>
    let x := s.band r.group b
    (x.state == .opened || x.state == .full || x.state == .victim) && !run.gone.contains b && decide (0 < x.mark) &&
    (match r.diePos with
      | some d => b % 16 == d
      | none => true) &&
    (x.absent.contains r.pos || x.kept.contains (r.pos, r.die)) && (s.memberAt b r.pos).isSome)

/-- The first row of a band from one on that a rebuild has still to solve. -/
def State.rebuildFrom (s : State) (r : Rebuild) (b row : Nat) : Option Nat :=
  (List.range (s.band r.group b).mark).find? (fun x => decide (row ≤ x) && !(s.health.runs.get {} r.id).shared.contains (b * 1024 + x))
/-- The next row of a rebuild: on from its cursor, then the oldest band. -/
def State.rebuildNext (s : State) (r : Rebuild) : Option (Nat × Nat) :=
  let scope := s.rebuildScope r
  let here := match (s.health.runs.get {} r.id).cursor with
    | some c => if scope.contains (c / 1024) then (s.rebuildFrom r (c / 1024) (c % 1024 + 1)).map (fun x => (c / 1024, x)) else none
    | none => none
  match here with
  | some x => some x
  | none =>
    let left := scope.filter (fun b => !((s.health.runs.get {} r.id).cursor.map (fun c => c / 1024) == some b) && (s.rebuildFrom r b 0).isSome)
    (pickMin (fun b => if (s.band r.group b).state == .opened then s.rtc + 1 else (s.band r.group b).fullTime) left).bind
      (fun b => (s.rebuildFrom r b 0).map (fun x => (b, x)))

/-- Groups a solved unit may go to, in the order tried (R406). -/
def State.rebuildTargets (s : State) (r : Rebuild) : List Nat :=
  let n := s.groupCount
  let round := (List.range n).map (fun i => (s.health.rbTarget + i) % n)
  let good := round.filter (fun g => s.lostOf g == 0 && !s.rebuilding g && decide (4 ≤ s.freeCount g))
  if good.isEmpty then r.group :: round.filter (fun g => !s.live.lostMem.any (fun x => x.1 == g)) else good

/-- A unit is placed whole in the rebuild stream, with a Relocate record (R405, R161). -/
def State.placeSolved (r : Rebuild) (mun : Nat) (s : State) : Option State :=
  match s.unitOf mun with
  | none => some s
  | some (nsid, u) =>
    let k := s.cwsOf nsid
    let cws := (List.range k).map (fun j => s.codeword (mun + j))
    (s.rebuildTargets r).foldl (fun (a : Option State) g => match a with
      | some t => some t
      | none => (match s.placeUnit g .rebuild k false cws with
        | (some m, t) => some ((t.modHealth (fun h => { h with rbTarget := (g + 1) % max 1 t.groupCount })).setUnit nsid u (.relocate nsid u m mun))
        | (none, _) => none)) none

/-- Units of the unknown codewords of a slot are lost (R415). -/
def State.loseSlot (g b row slot : Nat) (unknown : List Nat) (s : State) : Nat × State :=
  unknown.foldl (fun (a : Nat × State) p =>
    match a.2.memberAt b p with
    | none => a
    | some m =>
      match a.2.unitOf (a.2.munOf ⟨g, b, row, m, slot⟩) with
      | none => a
      | some (nsid, u) => (a.1 + 1, (a.2.markUnit nsid u).deferError nsid u 3 0)) (0, s)

/-- The rebuild's counters after a row: a progress record for each GiB of slots solved, the record of its end. -/
def State.rebuildLog (r : Rebuild) (b row slots lost : Nat) (s : State) : State :=
  let run := s.health.runs.get {} r.id
  let c := b * 1024 + row
  let last := (s.rebuildFrom r b (row + 1)).isNone
  let run := { run with cursor := some c, done := run.done + slots, lost := run.lost + lost, gone := if last then b :: run.gone else run.gone }
  let due := decide (run.logged + 262144 ≤ run.done)
  let s := s.modHealth (fun h => { h with runs := h.runs.set r.id (if due then { run with logged := run.done } else run) })
  if due then s.logRec (.sub (.progress r.id c run.done run.lost (run.before + (s.now - run.start) / 1000000))) else s

/-- Other rebuilds of the group that have the same row still to solve, with the data member each lost there (R414). -/
def State.rebuildsWith (s : State) (r : Rebuild) (b row : Nat) : List (Rebuild × Nat) :=
  (s.live.rebuilds.filter (fun o => o.id != r.id && !o.finished && o.group == r.group && o.pos != r.pos && (s.rebuildScope o).contains b)).filterMap (fun o =>
    let run := s.health.runs.get {} o.id
    let past := match run.cursor with
      | some c => c / 1024 == b && decide (row ≤ c % 1024)
      | none => false
    if past || run.shared.contains (b * 1024 + row) then none else (s.memberAt b o.pos).map (fun m => (o, m)))
/-- A row solved with another rebuild's counts for this one too. -/
def State.rebuildShare (o : Rebuild) (b row slots lost : Nat) (s : State) : State :=
  s.modHealth (fun h =>
    let run := h.runs.get {} o.id
    { h with runs := h.runs.set o.id { run with shared := (b * 1024 + row) :: run.shared, done := run.done + slots, lost := run.lost + lost } })

/-- Every band in scope is scanned (R408). -/
def State.rebuildEnd (r : Rebuild) (s : State) : State :=
  let s := (s.logRec (.sub (.finished r.id))).healthEvent 0x0B0E r.group r.id true
  if s.live.rebuilds.all (fun x => x.finished) then s.setDegrade dgRebuild false else s

/-- One row of a rebuild: slots beyond what P and Q solve are lost (R415), every unit of the lost member, and of one that another rebuild of the group has lost,
is placed again (R405, R414), checkpoint records found there are written again, the counters move; none where a unit finds no room. `found` gives, by slot, the members unknown after ladder step 5. -/
def State.rebuildRow (r : Rebuild) (b row m : Nat) (found : List SlotSolve) (s : State) : Option State :=
  let v := s.vmun r.group
  let x := s.band r.group b
  let unknown := fun (a : Nat) => x.absent ++ ((found.filter (fun f => f.slot == a)).flatMap (fun f => f.unknown)).filter (fun p => !x.absent.contains p)
  let lost := (List.range v.slotsPerRow).foldl (fun (a : Nat × State) slot =>
    if 2 < (unknown slot).length then
      let r := a.2.loseSlot r.group b row slot (unknown slot)
      (a.1 + r.1, r.2)
    else a) (0, s)
  let with_ := s.rebuildsWith r b row
  let muns := (m :: with_.map (·.2)).flatMap (fun m => (List.range v.slotsPerRow).map (fun a => s.munOf ⟨r.group, b, row, m, a⟩))
  let placed := muns.foldl (fun (a : Option State) mun => match a with
    | none => none
    | some t => if (t.codeword mun).sub = 0 && (t.codeword mun).kind == 1 then t.placeSolved r mun else some t) (some lost.2)
  placed.map (fun t =>
    let t := ((t.live.dir.filter (fun (e : Nat × DirEntry) => muns.contains e.2.mun)).foldl (fun t e => t.writeRecord (e.1 / 2 ^ 40) (e.1 % 2 ^ 40)) t)
    (with_.foldl (fun t o => t.rebuildShare o.1 b row v.slotsPerRow lost.1) t).rebuildLog r b row v.slotsPerRow lost.1)

/-- REBUILD_ROW_SOLVE (R408): the next row, and the end after the last. -/
def execRebuildRowSolve (id : Nat) (found : List SlotSolve) (s : State) : Host.Outcome State Fault Refusal :=
  match s.rebuild id with
  | none => .next s
  | some r =>
    if !s.active || s.hostFenced then .next s else
    match s.rebuildNext r with
    | none => .next (s.rebuildEnd r)
    | some (b, row) =>
      match (s.memberAt b r.pos).bind (fun m => s.rebuildRow r b row m found) with
      | none => .next s
      | some t => .next (if (t.rebuildNext r).isNone then t.rebuildEnd r else t).retry

end Sys2Proof.Machine
end

