-- ==== Sys2Proof/Machine/Records.lean ====
section
/-! DEFINITION. The journal's and the vault's records as they are written: 24 B journal records (07, 11, 12) and the vault segment header (09). -/
namespace Sys2Proof.Machine

/-! ## Journal records (R258, R358, R401) -/

/-- A record of 24 B: its fields, and the CRC-32C of bytes 0x00 to 0x13 at 0x14. -/
def sealRecord (fs : List Field) : List Byte :=
  let body := Layout.bytes { size := 20, fields := fs }
  body ++ leBytes 4 (crc32c body).toNat

/-- The journal record layout (R258). -/
def recordFields (type nsid count unit mun src : Nat) : List Field :=
  [⟨0x00, 0, 4, type⟩, ⟨0x00, 4, 12, nsid - 1⟩, ⟨0x02, 0, 16, count⟩, ⟨0x04, 0, 40, unit⟩, ⟨0x09, 0, 40, mun⟩, ⟨0x0E, 0, 40, src⟩]

/-- EVENT of a band-state record (11). -/
def BandEvent.code : BandEvent → Nat
  | .opened _ => 1
  | .rows _ => 2
  | .full _ _ _ => 3
  | .victim => 4
  | .intent => 5
  | .done _ _ => 6
  | .remapped _ _ => 7
  | .retired => 8
  | .role _ => 9
  | .released => 10
/-- STREAM of a band-state record: of the stream for event 1, of the role for event 9. -/
def BandEvent.streamField : BandEvent → Nat
  | .opened st => st.num
  | .role .system => 1
  | .role .reserve => 2
  | _ => 0
/-- ROW_MARK, ERASE_COUNT, MEMBER and PHYS_BLOCK of a band-state record. -/
def BandEvent.rowMark : BandEvent → Nat
  | .rows m => m
  | .full m _ _ => m
  | _ => 0
def BandEvent.eraseCount : BandEvent → Nat
  | .done n _ => n
  | _ => 0
def BandEvent.block : BandEvent → Nat × Nat
  | .remapped m p => (m, p)
  | _ => (0, 0)
/-- The band-state record layout (11). -/
def bandFields (g b : Nat) (e : BandEvent) : List Field :=
  [⟨0x00, 0, 4, 8⟩, ⟨0x00, 4, 4, e.code⟩, ⟨0x01, 0, 8, g⟩, ⟨0x02, 0, 16, b⟩, ⟨0x04, 0, 8, e.streamField⟩, ⟨0x05, 0, 8, e.block.1⟩,
    ⟨0x06, 0, 16, e.rowMark⟩, ⟨0x08, 0, 32, e.eraseCount⟩, ⟨0x0C, 0, 16, e.block.2⟩]

/-- The substitution record layout (12). -/
def subLayout (event group slot position old new cursor id : Nat) : List Field :=
  [⟨0x00, 0, 4, 0xB⟩, ⟨0x00, 4, 4, event⟩, ⟨0x01, 0, 8, group⟩, ⟨0x02, 0, 16, slot⟩, ⟨0x04, 0, 8, position⟩, ⟨0x05, 0, 8, old⟩,
    ⟨0x06, 0, 16, new⟩, ⟨0x08, 0, 40, cursor⟩, ⟨0x0D, 0, 32, id⟩]
/-- The fields of each substitution event; none for the two records of the model's own, of a failed die or pod that serves no position. -/
def subFields : SubEvent → Option (List Field)
  | .die g _ slot pos old new id _ => some (subLayout 1 g slot pos old new 0 id)
  | .pod g pos old new id => some (subLayout 2 g old pos 0 new 0 id)
  | .lost g pos slot id => some (subLayout 3 g slot pos 0 0 0 id)
  | .progress id c _ _ _ => some (subLayout 4 0 0 0 0 0 c id)
  | .finished id => some (subLayout 5 0 0 0 0 0 0 id)
  | .xcvr _ link => some (subLayout 6 0xFF link 0 0 0 0 0)
  | .rate link rate => some (subLayout 7 0xFF link 0 0 (2 * rate) 0 0)
  | .entered slot => some (subLayout 8 0xFF slot 0 0 0 0 0)
  | .package kind unit new => some (subLayout 9 0xFF (if kind = 4 then 0 else unit) kind 0 new (if kind = 4 then unit else 0) 0)
  | .deadDie _ _ _ _ => none
  | .deadPod _ _ => none

/-- The fields of a journal record. The content of types 4, 5, 9 and 0xA is the table entry written in the same epoch: their record names it. -/
def Rec.fields : Rec → Option (List Field)
  | .map nsid u m => some (recordFields 1 nsid 1 u m 0)
  | .set nsid u n v => some (recordFields 2 nsid n u v.code.toNat 0)
  | .relocate nsid u m src => some (recordFields 3 nsid 1 u m src)
  | .nsSet n => some (recordFields 4 n.nsid 1 0 0 0)
  | .nsDelete nsid => some (recordFields 5 nsid 1 0 0 0)
  | .directory nsid ln mun ix _ => some (recordFields 6 nsid 1 ln mun ix)
  | .band g b e => some (bandFields g b e)
  | .inst k _ => some (recordFields 9 1 1 k 0 0)
  | .binding n _ => some (recordFields 0xA 1 1 n 0 0)
  | .sub e => subFields e
/-- The 24 bytes of a journal record. -/
def Rec.bytes (r : Rec) : Option (List Byte) := r.fields.map sealRecord

/-! ## The vault (R317, R318) -/

/-- Segments of a vault's journal: 170 whole records to a codeword, 239 codewords to a segment. -/
def Vault.journalSegments (v : Vault) : Nat := ((v.sealing ++ v.opened).length + 40629) / 40630
/-- Segments of a dump: the journal's, then the payload's, 239 codewords to one. -/
def Vault.segments (v : Vault) : Nat := v.journalSegments + (v.muns.length + 238) / 239
/-- Payload codewords of segment `i`. -/
def Vault.entries (v : Vault) (i : Nat) : Nat :=
  if i < v.journalSegments then (min 40630 ((v.sealing ++ v.opened).length - 40630 * i) + 169) / 170
  else min 239 (v.muns.length - 239 * (i - v.journalSegments))
/-- MUN_OLD of payload codeword `j` of segment `i`; all ones for journal payload. -/
def Vault.munOld (v : Vault) (i j : Nat) : Nat :=
  if i < v.journalSegments then 0xFFFFFFFFFF else (v.muns[239 * (i - v.journalSegments) + j]?).getD 0
/-- Bytes 0x000 to 0x02B of the header of segment `i`. -/
def Vault.headFields (v : Vault) (i : Nat) : List Field :=
  [⟨0x000, 0, 32, 0x53564C4E⟩, ⟨0x004, 0, 16, 1⟩, ⟨0x006, 0, 16, v.entries i⟩, ⟨0x008, 0, 64, v.dumpId⟩, ⟨0x010, 0, 32, i⟩,
    ⟨0x014, 0, 1, (i + 1 == v.segments).toNat⟩, ⟨0x014, 1, 1, (decide (i < v.journalSegments)).toNat⟩, ⟨0x018, 0, 64, v.device⟩,
    ⟨0x020, 0, 64, v.epoch⟩, ⟨0x028, 0, 32, if i + 1 = v.segments then v.segments else 0⟩]
/-- The header codeword's data of segment `i`: the first codeword of its SLC stripe row. -/
def Vault.header (v : Vault) (i : Nat) : List Byte :=
  let head := Layout.bytes { size := 0x2C, fields := v.headFields i }
  head ++ leBytes 4 (crc32c head).toNat ++
    Layout.bytes { size := 4096 - 0x30, fields := (List.range (v.entries i)).map (fun j => ⟨0x010 + 8 * j, 0, 40, v.munOld i j⟩) }

end Sys2Proof.Machine
end

