-- ==== Sys2Proof/Machine/Resets.lean ====
section
/-! DEFINITION. Clock checks, the watchdogs, the module reset, the latch, motion and keep-cell inputs (01, 17, 18, 20). -/
namespace Sys2Proof.Machine

/-- Events the manual describes without naming an identifier are numbered by `evUnnamed` in class 0xE here: 1 the RTC disagrees. -/
def evRtc : Nat := evUnnamed 0xE 1

/-! ## Clocks (R33, R80) -/

/-- A clock fault: the partition moves to its ring oscillator; SAFE-HOLD with the protected cache held in HBM. -/
def State.clockFault (s : State) : State :=
  if s.modes.mode == .keep || s.part.clockFault then s
  else (s.modPart (fun p => { p with ringClock := true, clockFault := true, goodWindows := 0, pllRetries := 0 })).causeArises 6 .clock false false

/-- CLOCK_CHECK_WINDOW: which pairs of clocks agree within 0.5 %. -/
def execClockCheckWindow (houseRtc houseRing ringRtc : Bool) (s : State) : Host.Outcome State Fault Refusal :=
  if s.modes.mode == .keep || (s.modes.mode == .bringUp && decide (s.modes.step < 1)) then .next s
  else if houseRing && !houseRtc && !ringRtc then .next (s.healthEvent evRtc 0 0 true)
  else .next (if ringRtc && !houseRtc && !houseRing then s.clockFault else s)

/-- ROOT_PLL_LOSS_OF_LOCK. -/
def execRootPllLossOfLock (s : State) : Host.Outcome State Fault Refusal := .next s.clockFault

/-- PLL_RETRY: one retry in an RTC window; after ten good windows in a row the vault dump runs. -/
def execPllRetry (locks agrees : Bool) (s : State) : Host.Outcome State Fault Refusal :=
  if s.modes.mode != .safeHold || !s.part.clockFault || s.part.dumped || !s.pw.inputOk || s.modes.flush.isSome then .next s
  else
    let s := s.modPart (fun p => { p with pllRetries := p.pllRetries + 1, goodWindows := if locks && agrees then p.goodWindows + 1 else 0 })
    .next (if 10 ≤ s.part.goodWindows then s.startFlush .clock false else s)

/-! ## Module reset (R639, R653) -/

/-- MODULE_RESET_ASSERT. -/
def execModuleResetAssert (s : State) : Host.Outcome State Fault Refusal :=
  if s.modes.mode == .keep || s.modes.resetHeld then .next s
  else if s.modes.flush.isSome || s.modes.mode == .safeHold then .next (s.modModes (fun m => { m with resetHeld := true }))
  else if s.modes.mode == .bringUp then .next ((s.podsOff.startBringup).modModes (fun m => { m with resetHeld := true }))
  else
    let s := s.startFlush .moduleReset false
    .next ((s.modModes (fun m => { m with resetHeld := true })).allPorts (fun p t => t.modPort p (fun x => { x with cfs := true })))

/-- MODULE_RESET_RELEASE: bring-up step 1 begins; in SAFE-HOLD the reset counts as a power cycle. -/
def execModuleResetRelease (s : State) : Host.Outcome State Fault Refusal :=
  if !s.modes.resetHeld then .next s
  else if s.modes.flush.isSome then .next (s.modModes (fun m => { m with resetHeld := false }))
  else .next s.startBringup

/-! ## Mechanical inputs (R641, R648, R575) -/

/-- LATCH_CHANGE. -/
def execLatchChange (moduleClosed enclClosed : Bool) (s : State) : Host.Outcome State Fault Refusal :=
  let t := s.modMech (fun m => { m with latchModule := moduleClosed, latchEncl := enclClosed })
  .next (if t.mech.latchOpen == s.mech.latchOpen then t else t.report srcPartition 0x0E0B 0 t.mech.latchOpen.toNat)

/-- MOTION_WINDOW: the RMS of 1 s, in mg; the last ten are kept. -/
def execMotionWindow (mg : Nat) (s : State) : Host.Outcome State Fault Refusal :=
  let s := s.modMech (fun m => { m with motion := (mg :: m.motion).take 10 })
  .next (if 500 ≤ mg then (s.modMech (fun m => { m with movedAt := some (s.now / 1000000) })).report srcPartition 0x0E0C 0 mg else s)

/-- The keep cell under its load (R575). -/
def State.cellCheck (mv : Nat) (s : State) : State :=
  let s := s.keepWrite (fun k => { k with
    cellMv := mv % 4096, checkTime := s.rtc / 1000
    low := if mv ≤ 2700 then true else if 2800 ≤ mv then false else k.low
    critical := if mv ≤ 2500 then true else if 2800 ≤ mv then false else k.critical })
  let s := s.setDegrade dgCell s.keep.critical
  if mv ≤ 2700 then s.healthEvent 0x0B0C 0 mv true else s

/-- KEEP_CELL_CHECK. -/
def execKeepCellCheck (mv : Nat) (s : State) : Host.Outcome State Fault Refusal :=
  .next (if s.modes.mode == .keep then s else s.cellCheck mv)

/-! ## Watchdogs (R569 to R571, R561, R562) -/

/-- The 24 h of R608 begin again. -/
def State.restartTrial (s : State) : State :=
  if s.keep.stage = 4 ∧ s.keep.trialStart ≠ 0 then s.keepWrite (fun k => { k with trialStart := s.rtc / 1000 }) else s

/-- The firmware watchdog expires (R570, R90, R605). -/
def State.watchdogExpires (s : State) : State :=
  if !s.part.wdtRun || s.modes.flush.isSome then s else
  let trial := s.keep.stage = 3 ∨ s.keep.stage = 4
  let times := if trial then s.part.expiries else s.now :: s.part.expiries.filter (fun t => decide (s.now < t + 3600000000))
  let s := (s.modPart (fun p => { p with coresHeld := true, wdtRun := false, expiries := times })).report srcPartition 0x0E07 0 0
  let s := s.restartTrial
  match s.modes.mode with
  | .bringUp =>
    let s := s.modModes (fun m => { m with restarts := min 3 (m.restarts + 1) })
    if !trial ∧ 3 ≤ s.modes.restarts then s.causeArises 8 .safe08 true false else s.restartAtFive
  | .keep | .safeHold => s
  | _ =>
    let s := s.allPorts (fun p t => t.modPort p (fun x => { x with cfs := true }))
    if !trial ∧ 3 ≤ times.length then s.causeArises 8 .safe08 true false else s.startFlush .watchdog false

/-- FW_WATCHDOG_FEED (R569). -/
def execFwWatchdogFeed (value : W32) (s : State) : Host.Outcome State Fault Refusal :=
  if !s.part.wdtRun then .next s
  else if value = s.part.wdtLast + 1 then .next (s.modPart (fun p => { p with wdtLast := value, wdtAt := s.now }))
  else .next s.watchdogExpires

/-- FW_WATCHDOG_EXPIRY: 500 ms without an accepted feed (R569). -/
def execFwWatchdogExpiry (s : State) : Host.Outcome State Fault Refusal :=
  .next (if s.part.wdtRun && s.modes.flush.isNone then (s.notBefore (s.part.wdtAt + 500000)).watchdogExpires else s)

/-- The partition is reset: challenges expire, requests wait (R561, R565). The second within an hour leads to SAFE-HOLD (R562). -/
def State.partitionReset (mismatch : Bool) (s : State) : State :=
  if s.modes.mode == .keep then s else
  let times := s.now :: s.part.resets.filter (fun t => decide (s.now < t + 3600000000))
  let s := s.modPart (fun p => { p with
    lockstepOk := p.lockstepOk && !mismatch, restarting := true, challenges := [], resets := times, safe08 := p.safe08 || decide (2 ≤ times.length) })
  ((s.keepWrite (fun k => { k with spResets := min 255 times.length })).report srcPartition 0x0E06 0 mismatch.toNat).restartTrial

/-- SP_WATCHDOG_EXPIRY (R571). -/
def execSpWatchdogExpiry (s : State) : Host.Outcome State Fault Refusal := .next (s.partitionReset false)

/-- LOCKSTEP_MISMATCH (R561). -/
def execLockstepMismatch (s : State) : Host.Outcome State Fault Refusal := .next (s.partitionReset true)

end Sys2Proof.Machine
end

