-- ==== Sys2Proof/Machine/Bringup.lean ====
section
/-! DEFINITION. The steps of BRING-UP (02, 03, 07, 09, 11 to 14, 17, 18). -/
namespace Sys2Proof.Machine

/-- BRING-UP stands after step `n`, with nothing that holds it. -/
def State.atStep (s : State) (n : Nat) : Bool :=
  s.modes.mode == .bringUp && s.modes.step == n && !s.modes.resetHeld && !s.modes.stopped
def State.setStep (n : Nat) (s : State) : State := s.modModes (fun m => { m with step := n })

/-! ## Steps 1 to 4 (R572, R573, R578, R590, R591, R603) -/

/-- What becomes of the keep images: the one that passes and is newer is current; with neither, every register bears its reset value. -/
def State.checkKeep (f : Step2Found) (s : State) : State :=
  let cur := if s.part.keepImage then f.keepBOk else f.keepAOk
  let other := if s.part.keepImage then f.keepAOk else f.keepBOk
  let s := s.modPart (fun p => { p with keepA := f.keepAOk, keepB := f.keepBOk, keepsLost := false })
  if cur then s
  else if other then
    let k := s.part.keepOther
    { s with keep := k }.modPart (fun p => { p with keepImage := !p.keepImage, keepSeq := p.keepSeq - 1 })
  else
    let lock := decide (1 ≤ s.rpl)
    ({ s with keep := { lockout := lock } }.modPart (fun p => { p with keepsLost := true, keepSeq := 0, keepImage := false, keepOther := {} })).report srcPartition 0x0E05 0 0

/-- What steps 2 and 3 do once the self-tests have passed. -/
def State.stepTwo (f : Step2Found) (s : State) : State :=
  let s := if f.rtcLost then s.modPart (fun p => { p with rtcBase := 0, rtcZero := s.now, tsSet := false }) else s
  let s := s.checkKeep f
  let s := if s.keep.lowering then s.finishLower else if s.keep.raising then s.finishRaise else s
  let locked := s.keep.updateLock || (match s.format with
    | some r => r.updateLock
    | none => false)
  let s := if locked == s.keep.updateLock then s else s.keepWrite (fun k => { k with updateLock := locked })
  (s.modPart (fun p => { p with debugOn := s.rpl == 0 })).cellCheck f.cellMv

/-- ROOT_PLL_LOCK: steps 1 to 4. -/
def execRootPllLock (f : Step2Found) (s : State) : Host.Outcome State Fault Refusal :=
  if !s.atStep 0 || !s.pw.inputOk then .next s
  else
    let s := s.modPart (fun p => { p with romOk := f.romOk, lockstepOk := f.lockstepOk, otpOk := f.otpOk, strap := f.ppStrap })
    if !f.romOk || !f.lockstepOk || !f.otpOk then .next (s.enterSafe 8)
    else
      let s := (s.stepTwo f).setStep 2
      if s.keep.lockout then .next (s.enterSafe 5)
      else
        let s := s.each [0, 1] (fun b t => t.reErase b (f.tallyHeaderBad.contains b))
        let s := s.chooseBank
        .next (((s.modPw (fun p => { p with charger := true })).modModes (fun m => { m with trialStart := s.now })).setStep 4)

/-! ## Steps 5 to 8 -/

/-- FIRMWARE_BUNDLE_START: step 5. A bundle that fails falls back by R603 on trial; otherwise bring-up has failed. -/
def execFirmwareBundleStart (ok : Bool) (s : State) : Host.Outcome State Fault Refusal :=
  if !s.atStep 4 then .next s
  else if !ok then .next (if s.keep.stage = 3 ∨ s.keep.stage = 4 then s.restartAtFive else s.enterSafe 8)
  else
    let s := s.modPart (fun p => { p with coresHeld := false, wdtRun := true, wdtLast := 0, wdtAt := s.now })
    let s := s.allPorts (fun p t => t.modPort p (fun x =>
      if x.perst || x.link != .detect then x
      else { x with link := .training, common := (t.vport p).clocking == .common, measuring := (t.vport p).clocking == .automatic }))
    .next (s.setStep 5)

/-- MEMORY_TRAINING_COMPLETE: step 6. -/
def execMemoryTrainingComplete (s : State) : Host.Outcome State Fault Refusal :=
  .next (if s.atStep 5 then s.setStep 6 else s)

/-- POD_DESCRIPTOR_READ: step 7; `pods`: the slots whose presence line is low, with the descriptor read (R453, R454). -/
def execPodDescriptorRead (pods : List (LinkId × PodDesc)) (s : State) : Host.Outcome State Fault Refusal :=
  if !s.atStep 6 then .next s
  else
    let s := { s with pods := s.pods.map (fun (e : Nat × Pod) => (e.1, { e.2 with present := false, desc := none })) }
    let s := pods.foldl (fun t x =>
      if descOk x.2 then t.modPod x.1 (fun p => { p with present := true, desc := some x.2 })
      else (t.modPod x.1 (fun p => { p with present := true, refused := true })).report (srcAggregator x.1) (evUnnamed 7 3) x.1 0) s
    .next (s.setStep 7)

/-- Slots in the order R62 tries them, with their SOURCE. -/
def State.slotOrder (s : State) : List (Nat × Nat) :=
  let k := s.keep
  let xs := (if k.pendingValid then [(k.pending, 0)] else []) ++ [(k.active, 1), (k.previous, 2), (0, 3)]
  xs.foldl (fun acc x => if acc.any (fun y => y.1 == x.1) then acc else acc ++ [x]) []

/-- The check by which the load turns a slot down, FORMAT_KEY included (R63); 0: accepted. -/
def State.loadCheck (s : State) (x : Nat × Nat) : Nat :=
  match s.checkSlot x.1 with
  | 0 =>
    let fits := match (s.vslot x.1).image with
      | some i => s.keyMatches i
      | none => false
    if fits || s.format.isNone || (x.2 == 0 && s.keep.formatIntent) then 0 else 6
  | c => c

/-- A port that trained before the load meets the image loaded (R115, R119): one beyond its maximum speed or width, or of another clocking, trains
again; one not enabled is disabled (DESIGN CHOICE, log entry 102). -/
def State.fitLink (p : Nat) (old : Clocking) (s : State) : State :=
  let v := s.vport p
  s.modPort p (fun x =>
    if !v.enable then { x with link := .disabled, cfgReady := false }
    else if x.perst then x
    else if old ≠ v.clocking || x.link == .disabled || v.maxSpeed < x.speed || v.maxWidth < x.width then
      { x with link := .training, speed := 0, width := 0, common := v.clocking == .common, measuring := v.clocking == .automatic }
    else x)

/-- A slot is loaded; present pods whose die geometry differs from their group's are left out, with an event that names the slot and the first field of
R289 that differs (R61). -/
def State.useSlot (n source vstate : Nat) (s : State) : State :=
  match (s.vslot n).image with
  | none => s
  | some i =>
    let t := s.modFlash (fun f => { f with loaded := n, source := source, vstate := vstate })
    let t := t.useImage i
    let t := t.each (List.range i.geometry.groups.length) (fun g t =>
      let want := s.groupDies i g
      t.each ((i.geometry.groups[g]?).getD []) (fun l t =>
        match (t.pod l).desc with
        | some d =>
          if d.geom.fields = want.fields then t
          else (t.modPod l (fun p => { p with mismatch := true })).report (srcAggregator l) (evUnnamed 2 1) l ((d.geom.fields.zip want.fields).takeWhile (fun x => x.1 == x.2)).length
        | none => t))
    t.allPorts (fun p t => t.fitLink p (((s.image.ports[p]?).getD {}).clocking))

/-- VOICING_LOAD: step 8 (R61 to R65). A pending class F change formats the media first (R70, R71). Where no slot passes every step and slot 0 fails
steps 2 to 4 the module enters SAFE-HOLD with cause 0x07, also when another slot failed at step 5 only, a case the manual does not give (DESIGN
CHOICE, log entry 93). -/
def execVoicingLoad (s : State) : Host.Outcome State Fault Refusal :=
  if !s.atStep 7 then .next s
  else
    let order := s.slotOrder
    let bad := (order.takeWhile (fun x => s.loadCheck x != 0))
    let s := bad.foldl (fun t x => (t.failSlot x.1 (s.loadCheck x)).report (srcFirmware 0) (evUnnamed 2 3) x.1 (s.loadCheck x)) s
    let failedPending := bad.any (fun x => x.2 == 0)
    let s := if failedPending then s.keepWrite (fun k => { k with pendingValid := false, formatIntent := false }) else s
    match order.find? (fun x => !bad.contains x) with
    | some (n, src) =>
      let fmt := src == 0 && s.keep.formatIntent
      let s := if fmt then (match (s.vslot n).image with
        | some i => s.formatMedia i
        | none => s) else s
      let s := s.useSlot n src 1
      let s := if src = 0 then s.keepWrite (fun k => { k with previous := k.active, active := n, pendingValid := false, formatIntent := false }) else s
      .next (s.setStep 8)
    | none =>
      if s.checkSlot 0 = 0 then
        let s := (s.useSlot 0 3 2).modModes (fun m => { m with fenced := true })
        .next ((s.setDegrade dgFenced true).setStep 8)
      else .next (s.enterSafe 7)

/-! ## Step 9 (R403, R541, R632) -/

/-- Slots of the image in force that are powered: members and spares, but for pods failed, refused or of another geometry. -/
def State.toPower (s : State) (l : Nat) : Bool :=
  let x := s.pod l
  (s.image.geometry.groups.flatten.contains l || s.image.geometry.spares.contains l || s.live.podTab.any (fun (e : Nat × Nat) => e.2 == l)) &&
  x.present && x.desc.isSome && !x.refused && !x.mismatch && (!s.live.deadPods.contains l || s.live.hotPods.contains l)

/-- POD_POWER_WAVE: the next of eight waves, one bay of each connector. -/
def execPodPowerWave (s : State) : Host.Outcome State Fault Refusal :=
  if !s.atStep 8 then .next s
  else if !s.pw.j2Present && !s.pw.rail then .next (s.enterSafe 4)
  else
    let s := s.modPw (fun p => { p with rail := true })
    let ls := (List.range 144).filter (fun l => l % 8 == s.modes.wave && s.toPower l)
    let s := s.each ls (fun l t =>
      ((t.emit (.bay l true)).modPod l (fun p => { p with powered := true, role := if t.image.geometry.spares.contains l then 2 else 1 })).modLink l (fun x =>
        { onSpare := x.onSpare, state := 1, trying := if (t.desc l).protocolMax = 1 then 2 else 3 }))
    let s := s.modModes (fun m => { m with wave := m.wave + 1 })
    .next (if 8 ≤ s.modes.wave then s.setStep 9 else s)

/-! ## Step 11 -/

/-- The first format (R652): remap tables from the factory bad blocks, roles, the media secret, the format record. -/
def State.firstFormat (f : RecoveryFound) (s : State) : State :=
  let i := s.image
  let remap : Tbl Nat := f.badBlocks.flatMap (fun x =>
    let good := (List.range (s.desc x.1).blocks).filter (fun b => !x.2.2.contains b)
    ((List.range (s.desc x.1).blocksInService).zip good).filterMap (fun p => if p.1 = p.2 then none else some (dieKey x.1 x.2.1 * 4096 + p.1, p.2)))
  let s := f.badBlocks.foldl (fun t x => t.modDie (dieKey x.1 x.2.1) (fun d => { d with badBlocks := x.2.2 })) s
  let s := s.newSecret
  let s := { s with format := some (s.formatOf i) }
  (s.freshMedia { bands := freshBands i false, remap := remap }).placeFormat []

/-- Indications of R89. -/
def State.backupFailed (s : State) : State :=
  ((s.keepWrite (fun k => { k with backupWarn := true })).setDegrade dgBackup true).report (srcFirmware 0) (evUnnamed 3 8) 0 0

/-- Records of a vault's journal segments that pass, 40,630 to a segment (R317). -/
def Vault.records (v : Vault) (bad : List Nat) : List Rec :=
  ((v.sealing ++ v.opened).zipIdx.filter (fun x => !bad.contains (x.2 / 40630))).map (·.1)
/-- Its journal is whole: every epoch in it is recovered, and the deferred errors recorded in them with it (R655). -/
def Vault.journalOk (v : Vault) (bad : List Nat) : Bool := bad.all (fun b => decide (v.journalSegments ≤ b))
/-- Payload slots of its segments that pass, 239 to a segment, after the journal's. -/
def Vault.passing (v : Vault) (bad : List Nat) : List Nat :=
  (v.muns.zipIdx.filter (fun x => !bad.contains (v.journalSegments + x.2 / 239))).map (·.1)

/-- A unit found on the media goes before another: by epoch, then by programming order, then by slot (R264). -/
def foundBefore (a b : Nat × Codeword) : Bool :=
  decide (a.2.epoch < b.2.epoch ∨ (a.2.epoch = b.2.epoch ∧ (a.2.order < b.2.order ∨ (a.2.order = b.2.order ∧ a.1 ≤ b.1))))
/-- Map deltas are recovered from the in-band metadata of every unit programmed after epoch `e` began: namespace, logical tag and epoch (R163, R264).
A copy takes effect only where the unit still maps to what it copied (R161). -/
def State.applyInBand (e : Nat) (s : State) : State :=
  let found := (s.cw.filter (fun (x : Nat × Codeword) => x.2.kind == 1 && x.2.sub == 0 && x.2.programmed && decide (e ≤ x.2.epoch))).mergeSort foundBefore
  found.foldl (fun (t : State) (x : Nat × Codeword) => if (t.ns x.2.nsid).isNone then t else t.logRec (match x.2.src with
    | some m => .relocate x.2.nsid x.2.unit x.1 m
    | none => .map x.2.nsid x.2.unit x.1)) s

/-- A unit of the vault's payload is rewritten into a new stripe of its class, in its group or the next that can take it (R318). -/
def State.rewriteUnit (mun : Nat) (s : State) : State :=
  match s.unitOf mun, s.locate mun with
  | some (nsid, u), some x =>
    let k := s.cwsOf nsid
    let st := (s.band x.group x.band).stream
    let cws := (List.range k).map (fun j => { s.codeword (mun + j) with src := some mun })
    let r := s.placeAnywhere x.group st k cws
    match r.1 with
    | some m => r.2.logRec (.relocate nsid u m mun)
    | none => (r.2.markUnit nsid u).deferError nsid u 2 0
  | _, _ => s

/-- The payload of the vault: passing units are rewritten, the others lost (R318). -/
def State.restorePayload (good bad : List Nat) (all : List Nat) (s : State) : State :=
  let units := all.filter (fun m => (s.codeword m).kind == 1 && (s.codeword m).sub == 0)
  let s := s.each units (fun m t =>
    match t.unitOf m with
    | none => t
    | some (nsid, u) =>
      let mine := (List.range (t.cwsOf nsid)).map (fun j => m + j)
      if mine.all (fun x => good.contains x && !bad.contains x) then t.rewriteUnit m
      else (t.markUnit nsid u).deferError nsid u 2 0)
  -- map records that were in the cache are to be written again
  let dirs := (s.live.dir.filter (fun (e : Nat × DirEntry) => all.contains e.2.mun)).map (fun (e : Nat × DirEntry) => e.1)
  s.each dirs (fun k t => t.modLine (k / 2 ^ 40) (k % 2 ^ 40) (fun l => { l with dirty := true, overlay := true }))

/-- Every stripe begun in step 11 is filled and programmed before the step ends. -/
def State.finishStripes (s : State) : State :=
  let s := s.each (List.range s.cache.stripes.length) (fun i t => t.closeStripe i)
  let s := s.cache.stripes.foldl (fun t x =>
    t.each (List.range t.width) (fun p t => if t.live.lostMem.contains (x.group, p) then t else t.programEnded x.group x.band x.row p true false)) s
  { s.settleStripes with ops := [] }

/-- Each open band is closed at its mark (R418). -/
def State.closeAtMarks (s : State) : State :=
  s.each s.groupList (fun g t => t.each ((t.bandsOf g).filter (fun b => (t.band g b).state == .opened)) (fun b t => t.closeBand g b))

/-- Members and spares whose pod is absent, refused, of another geometry, or whose link is not up are failed by the rules of 12; pods failed at
their shutdown temperature count as newly inserted (R61, R401, R403, R419). -/
def State.findPods (s : State) : State :=
  let hot := s.live.hotPods.filter (fun l => (s.pod l).powered && (s.link l).state == 2)
  let s := s.each hot (fun l t => t.podEntered l)
  let ls := (s.groupList.flatMap (fun g => (List.range s.width).map (fun p => s.slotAt g p))) ++ s.image.geometry.spares
  let bad := ls.filter (fun l => !s.live.deadPods.contains l && !((s.pod l).powered && (s.link l).state == 2))
  let s := s.each bad (fun l t => (t.modPod l (fun p => { p with failed := false })).failPod l false)
  s.countPods

/-- Every instance slot in use is found, with its log page 0xE0 and its statistics (R197, R655, R620); instance 0 of each enabled port exists (R206). -/
def State.restoreInsts (logs : Tbl DefLog) (s : State) : State :=
  let s := s.allPorts (fun p t => t.makeZero p)
  s.each ((s.live.insts.filter (fun (e : Nat × DurInst) => e.2.live)).map (fun (e : Nat × DurInst) => e.1)) (fun k t =>
    let st := t.jrn.stats.get ({}, [], []) k
    t.modInst k (fun i => { i with state := .active, defLog := logs.get {} k, counters := st.1, histRead := st.2.1, histWrite := st.2.2 }))

/-- Persisted keys are ACTIVE again; the others are LOCKED, or gone where no namespace has them (R584). -/
def State.restoreKeys (s : State) : State :=
  s.modPart (fun p => { p with keys := p.keys.map (fun (e : Nat × KeySlot) =>
    (e.1, if e.2.state = .loaded ∧ !e.2.persist then ({} : KeySlot)
          else if e.2.state = .active ∨ e.2.state = .locked then { e.2 with state := if e.2.persist && e.2.kcv.isSome then .active else .locked }
          else e.2)) })

/-- What the format record restores (R390, R423), and what R378 adds where the time in KEEP is unknown. -/
def State.restoreConfig (s : State) : State :=
  let s := match s.format with
    | none => s
    | some r => s.modHealth (fun h => { h with retention := r.retention, wearSpread := r.wearSpread, capHours := r.capHours, fullPriority := r.fullPriority })
  if !s.part.keepsLost then s
  else
    let age := (s.health.retention - 7) * 86400
    let s := s.modHealth (fun h => { h with ageFloors := s.groupList.map (fun g =>
      let now := (s.group g).clock / 1000
      (g, (now, max age ((h.ageFloors.find g).elim 0 (fun x => x.2 + (now - x.1)))))) })
    s.report (srcFirmware 0) (evUnnamed 11 10) 0 s.health.retention

/-- Class of the last shutdown: 0 first, 1 clean, 2 flushed, 3 incomplete (03, Shutdown classes). -/
def State.shutdownClass (f : RecoveryFound) (s : State) : Nat :=
  if s.format.isNone || !f.formatRecord then 0 else if s.jrn.cleanRec then 1 else if s.keep.flushComplete then 2 else 3

/-- The event journal is found again (R626). -/
def State.restoreEvents (cls : Nat) (vault : Option Vault) (s : State) : State :=
  let base := s.ev.persisted
  let v := match vault with
    | some v => if cls = 2 then some v else none
    | none => none
  match v with
  | some v => { s with ev := { s.ev with ring := s.ev.ring ++ v.ring, lastSeq := max base v.lastSeq } }
  | none => { s with ev := { s.ev with lastSeq := if cls = 3 then base + 65536 else base } }

/-- Steps of recovery after the class is known: replay, pods, vault, seal. -/
def State.recover (cls : Nat) (f : RecoveryFound) (s : State) : State :=
  -- a vault whose content an earlier pass has sealed elsewhere is left as it is (R87)
  let vault := if cls = 2 ∨ cls = 3 then s.vault.filter (fun v => decide (s.jrn.sealedEpoch < v.epoch)) else none
  let badSegs := if cls = 3 then f.segmentsBad else []
  let before := s.jrn.sealedEpoch
  let s := s.modJrn (fun j => { j with
    openEpoch := if cls = 0 ∨ cls = 1 then j.sealedEpoch + 1 else max j.openEpoch ((vault.map (·.epoch)).getD 0) + 1
    sealedEpoch := if cls = 0 ∨ cls = 1 then j.sealedEpoch else max j.openEpoch ((vault.map (·.epoch)).getD 0)
    openedAt := s.now, nonce := j.nonceKept + 2 ^ 32 })
  -- what a lost sealed epoch held comes from the media, then the vault's journal; of a vault only partly there the media has the last word (R264)
  let s := if cls ≠ 3 ∧ !f.epochsLost.isEmpty then (s.applyInBand (f.epochsLost.foldl min before)).backupFailed else s
  let s := match vault with
    | some v => (v.records badSegs).foldl (fun (t : State) (r : Rec) => t.logRec r) s
    | none => s
  let s := if cls = 3 then (s.applyInBand (f.epochsLost.foldl min (before + 1))).backupFailed else s
  let s := s.restoreEvents cls vault
  -- the table of estimators was written with the clean-shutdown record (R299)
  let s : State := if cls = 1 then s else { s with lines := s.lines.map (fun (e : Nat × Line) => (e.1, { e.2 with est := 0, estPeriod := 0 })) }
  let s := s.findPods
  let s := s.closeAtMarks
  let s := s.restoreConfig
  let logs : Tbl DefLog := match vault with
    | some v => if cls = 2 ∨ v.journalOk badSegs then v.defLogs ++ s.jrn.defLogs else s.jrn.defLogs
    | none => s.jrn.defLogs
  let s := s.restoreInsts logs
  let s := match vault with
    | some v => (s.restorePayload (v.passing badSegs) f.payloadBad v.muns).finishStripes
    | none => s
  let s := s.sealNow
  let s := s.each ((s.live.rebuilds.filter (fun (r : Rebuild) => !r.finished && (s.health.runs.find r.id).isNone)).map (fun (r : Rebuild) => r.id)) (fun id t => t.resumeRun id)
  ((s.restoreKeys).newLayout).reviewAvailable

/-- SERVICE or DEGRADED is reached: the vault's content is sealed elsewhere, its bands are to be erased, and the others are armed; the flags that
named the class are cleared (R87). -/
def State.releaseVault (s : State) : State :=
  let used := s.vault.isSome
  let s := { s with vault := none }
  let s := if s.keep.flushComplete || s.keep.dumpStarted then s.keepWrite (fun k => { k with flushComplete := false, dumpStarted := false }) else s
  let s := if used then s.each s.groupList (fun g t => t.each (t.vaultBands g) (fun b t => t.logBand g b .intent)) else s
  s.armVault

/-- MAP_RECOVERY: step 11. Fenced media is left as it is (R63). -/
def execMapRecovery (f : RecoveryFound) (s : State) : Host.Outcome State Fault Refusal :=
  if !s.atStep 9 then .next s
  else if s.modes.fenced then .next ((s.restoreInsts s.jrn.defLogs).setStep 11)
  else
    let cls := s.shutdownClass f
    let s := s.modModes (fun m => { m with lastShutdown := cls })
    let s := if cls = 0 then s.firstFormat f else s
    .next ((s.recover cls f).setStep 11)

/-! ## Steps 12 and 13 -/

/-- A stop that an instance holds, at step 12: its image fails its check and it is fenced with cause 4, or the image of its binding is loaded by a stop epoch (R497). -/
def State.bringStop (bad : Bool) (n : Nat) (s : State) : State :=
  if bad then
    let s := (s.modStop n (fun y => { y with state := 4, image := none, fenceCause := 4, fenceTime := s.rtc, fenceEpoch := (s.binding n).epoch, before := s.epochBack n .bringUp })).report (24 + n) (evUnnamed 8 4) n 0
    match s.holder n with
    | some k => s.postVendor (keyPort k) 0xE4
    | none => s
  else match (s.binding n).image with
    | none => s
    | some i => if (s.store.find n).isNone then s else ({ s with store := s.store.set n i }.startEpoch n .bringUp none).endDrain n

/-- BRINGUP_FINAL_ROUND: step 12 (R91, R497, R558). -/
def execBringupFinalRound (x : Sample) (badImages : List StopId) (s : State) : Host.Outcome State Fault Refusal :=
  if !s.atStep 11 then .next s
  else
    let t := s.takeSample x
    if (List.range 7).any (fun z => 3 ≤ (t.zone z).level) then .next (t.enterSafe 2)
    else
      let t := t.reviewMute.setDegrade dgBackup t.keep.backupWarn
      let held := stopNos.filter (fun n => (t.holder n).isSome && !t.modes.fenced)
      .next ((t.each held (fun n t => t.bringStop (badImages.any (fun b => b.val == n)) n)).setStep 12)

/-- A slot in use begins SERVICE: its generation steps once, it has no I/O queues, it is ACTIVE (R197, R213); the number of its epoch stays (DESIGN
CHOICE, log entry 101). -/
def State.reopenInst (k : Nat) (s : State) : State :=
  let s := s.logInst k (fun d => { d with gen := d.gen + 1 })
  s.modInst k (fun i => { i with
    state := .active, cause := 0, change := none, waiting := []
    sqs := if k % 128 = 0 then i.sqs.filter (fun (e : Nat × Sq) => e.1 == 0) else []
    cqs := if k % 128 = 0 then i.cqs.filter (fun (e : Nat × Cq) => e.1 == 0) else [] })

/-- ACTIVATING has reached SERVICE: TRIAL begins; the 24 h of R608 begin at each entry. -/
def State.beginTrial (s : State) : State :=
  let start := fun (k : Keep) => if k.autoConfirm then s.rtc / 1000 else 0
  if s.keep.stage = 3 then s.keepWrite (fun k => { k with stage := 4, result := 2, bootOnce := false, trialCount := 0, trialStart := start k })
  else if s.keep.stage = 4 then s.keepWrite (fun k => { k with trialStart := start k })
  else s

/-- Work the media owes: relocations of VICTIM bands, erases of bands with an intent (R369, R371). -/
def State.resumeUpkeep (s : State) : State :=
  (s.each s.groupList (fun g t =>
    (t.each ((t.bandsOf g).filter (fun b => (t.band g b).state == .victim)) (fun b t => t.startReloc g b 0)).modGroup g
      (fun x => { x with tokens := 64, raCount := 0 }))).settleKeyBands.eraseOwed

/-- BRINGUP_COMPLETE: step 13 (R83, R197, R351, R371, R558, R603, R616). -/
def execBringupComplete (s : State) : Host.Outcome State Fault Refusal :=
  if !s.atStep 12 then .next s
  else
    let s := s.modModes (fun m => { m with
      step := 13, mode := if m.degrade = 0 then .service else .degraded, elapsedMs := min (2 ^ 24 - 1) ((s.now - m.startedAt) / 1000), served := true })
    let s := s.each ((s.live.insts.filter (fun (e : Nat × DurInst) => e.2.live)).map (fun (e : Nat × DurInst) => e.1)) (fun k t => t.reopenInst k)
    let s := s.allPorts (fun p t =>
      let x := t.port p
      let on := x.ccEn && x.css == 0
      -- its admin queues stand as the host set them with CC.EN
      let t := if on && ((t.inst (instKey p 0)).sqs.find 0).isNone then t.adminQueues p x.asqs x.acqs else t
      t.modPort p (fun x => { x with rdy := on, cfs := x.cfsKept || (x.ccEn && x.css != 0), pp := false }))
    let s := s.beginTrial
    let s := if s.modes.fenced then s else s.releaseVault.resumeUpkeep.setLimit.openAll
    let s := if s.pw.mute = 2 then s.modPw (fun p => { p with m2At := some s.now }) else s
    .next (s.setDegrade dgMute (s.pw.mute == 3)).reviewPs

/-- BRINGUP_TRIAL_TIMEOUT: 120 s from the start of step 5 (R604). -/
def execBringupTrialTimeout (s : State) : Host.Outcome State Fault Refusal :=
  .next (if s.modes.mode == .bringUp && decide (4 ≤ s.modes.step ∧ s.modes.step < 13) && s.keep.stage == 3 && !s.modes.stopped then
    (s.notBefore (s.modes.trialStart + 120000000)).restartAtFive else s)

end Sys2Proof.Machine
end

