-- ==== Sys2Proof/Machine/MapCacheRows.lean ====
section
/-! DEFINITION. Misses and map fetches, failing ways, regions and maintenance operations of the map cache (07, 08). -/
namespace Sys2Proof.Machine

/-- Event source of a slice: the map cache of its quadrant. -/
def srcMapCache (slice : Nat) : Nat := 20 + slice / 16

/-! ## Misses and fetches (R247 to R249, R268 to R270) -/

/-- T1_MISS_FILL_COMPLETE: the line is placed, or answered absent and parked (R268, R269). -/
def execT1MissFillComplete (x : SliceId) (s : State) : Host.Outcome State Fault Refusal :=
  match (s.slice x).miss with
  | none => .next s
  | some f =>
    let s := s.modSlice x (fun y => { y with miss := none })
    if (s.line f.nsid f.line).inT1 then .next (s.fill f.nsid f.line).retry
    else
      .next (((s.modSlice x (fun y => { y with parks := sat64 (y.parks + 1) })).countParks f.ctxs).park f.nsid f.line f.ctxs).retry

/-- T1 in MiB: what the memory section leaves of HBM and DDR5 (R37). -/
def State.t1Mib (s : State) : Nat :=
  let m := s.image.memory
  (bif Config.large then 432 else 240) * 1024 - (m.cacheMib + m.stagingMib + m.stopMib + m.hbmHeapMib + m.ddrHeapMib)
/-- Lines of every namespace. -/
def State.allLines (s : State) : Nat :=
  s.live.nss.foldl (fun n (e : Nat × Ns) => n + (e.2.spec.nsze / e.2.spec.perUnit + 63) / 64) 0
/-- Line records T1 has room for beside the directory and the replay reserve (R250). -/
def State.t1Lines (s : State) : Nat := (s.t1Mib * 2 ^ 20 - 8 * s.allLines - 16 * 2 ^ 30) / 384
def State.inT1 (s : State) : List Nat := (s.lines.filter (fun (e : Nat × Line) => e.2.inT1)).map (fun e => e.1)

/-- A line T1 may evict: clean, its T0 copy neither ahead nor locked (R248, R249, R266). -/
def State.evictable (s : State) (k : Nat) : Bool :=
  let nsid := k / 2 ^ 40
  let ln := k % 2 ^ 40
  !(s.line nsid ln).dirty && (match (s.slice (sliceOf nsid ln)).find (setOf nsid ln) nsid ln with
    | some w => !((s.slice (sliceOf nsid ln)).way (setOf nsid ln) w).ahead && !((s.slice (sliceOf nsid ln)).way (setOf nsid ln) w).locked
    | none => true)

/-- The lines of T1 in the order its clock comes to them. -/
def State.clockOrder (s : State) : List Nat := s.inT1.filter (fun k => decide (s.mc.hand < k)) ++ s.inT1.filter (fun k => decide (k ≤ s.mc.hand))
/-- T1 makes room for a line, or cannot while every candidate is dirty. An evicted line goes to its T2 set where that has space (R249). -/
def State.makeRoom (s : State) : Option State :=
  if s.inT1.length < s.t1Lines then some s else
  match s.clockOrder.find? s.evictable with
  | none => none
  | some k =>
    let nsid := k / 2 ^ 40
    let ln := k % 2 ^ 40
    some ((((s.maintWay 2 nsid ln).toT2 nsid ln).modLine nsid ln (fun x => { x with inT1 := false })).modMc (fun m => { m with hand := k }))

/-- A map entry is one of the valid values of R242. -/
def State.entryValid (s : State) (e : BitVec 40) : Bool :=
  decide (2 ^ 40 - 3 ≤ e.toNat) || s.groupList.any (fun g => decide (e.toNat < (s.vmun g).base + munSpan (s.vmun g)))
/-- A record is not damaged: its tag, its identity and every entry stand (R246). -/
def State.recordGood (s : State) (key : BitVec 256) (nsid line : Nat) (r : MapRecord) : Bool :=
  match s.ns nsid with
  | some v => r.nsIndex == nsid - 1 && r.serial == v.serial && r.line == line && r.muCode == v.spec.muCode &&
      r.entries.all s.entryValid && r.tag == Config.gcmTag key r.nonce (recordSigned r)
  | none => false

/-- A fetch no longer stands; the next of its fetcher begins. -/
def State.fetchOver (nsid line : Nat) (s : State) : State :=
  (s.modMc (fun m => { m with parked := m.parked.filter (fun f => !(f.nsid == nsid && f.line == line)) })).issueFetches
/-- T2 has no copy to take: the fetch goes on in T3 (R247); `bad`: it had a damaged one (R255). -/
def State.toT3 (nsid line : Nat) (bad : Bool) (s : State) : State :=
  s.modMc (fun m => { m with
    parked := m.parked.map (fun f => if f.nsid == nsid && f.line == line then { f with t2 := none } else f)
    t2Bad := if bad then sat64 (m.t2Bad + 1) else m.t2Bad })
/-- A line for which T1 has room lands in T1 and T0, and what was parked is presented (R247, R269). -/
def State.landLine (nsid line : Nat) (lost : Bool) (s : State) : State :=
  let s := (s.fetchOver nsid line).modLine nsid line (fun x => { x with inT1 := true })
  let s := if lost then s.loseLine nsid line else s
  ((s.writeT1 nsid line).fill nsid line).retry

/-- A fetched line lands; it waits while T1 has no room (R249, R269). -/
def State.installLine (nsid line : Nat) (lost : Bool) (s : State) : State := (s.makeRoom.map (State.landLine nsid line lost)).getD s

/-- MAP_FETCH_COMPLETE: a fetch in flight brings a copy. One from T2 is taken only where it is not damaged and is the line's latest checkpoint (R257);
otherwise T3 has it. A T3 record that no decoding repairs costs the line its content (R246); a line never checkpointed has none, and is made
from its overlay alone (R263). The install of a line of a namespace that is gone is dropped. -/
def execMapFetchComplete (nsid : Nat) (line : FetchedLine) (s : State) : Host.Outcome State Fault Refusal :=
  let copy := line.copy
  let line := line.line
  match s.mc.parked.find? (fun f => f.nsid == nsid && f.line == line && f.issued) with
  | none => .next s
  | some f =>
    if (s.ns nsid).isNone then .next (s.fetchOver nsid line)
    else match f.t2 with
    | some set =>
      match s.t2Way set nsid line, copy with
      | none, .asWritten => .next (s.toT3 nsid line false)
      | some _, .asWritten => .next (s.installLine nsid line false)
      | _, .unrepairable => .next (s.toT3 nsid line true)
      | _, .other r =>
        if !s.recordGood (s.mc.t2Key.getD 0) nsid line r then .next (s.toT3 nsid line true)
        else if s.isCurrent r then .next (s.installLine nsid line false)
        else .next (s.toT3 nsid line false)
    | none =>
      .next (s.installLine nsid line ((s.live.dir.find (nsKey nsid line)).isSome && (match copy with
        | .asWritten => false
        | .other r => !s.recordGood s.mapKey nsid line r
        | .unrepairable => true)))

/-! ## Failing ways (R284 to R287) -/

/-- Locks are released, the latest first, until a set keeps four unlocked ways (R286). -/
def State.keepFour (sl set fuel : Nat) (s : State) : State :=
  match fuel with
  | 0 => s
  | f + 1 =>
    let x := s.slice sl
    let locked := (x.usable set).filter (fun w => (x.way set w).locked)
    if locked.length + 4 ≤ (x.usable set).length then s
    else match pickMax (fun w => (x.way set w).lockSeq) locked with
    | none => s
    | some w => (((s.modSlice sl (fun x => Slice.setWay set w { x.way set w with locked := false } x)).report (srcMapCache sl) (evUnnamed 4 3) (sl * 8192 + set * 32 + w) 0)).keepFour sl set f

/-- A line moves to another way of its set, with its tag, its lock and its change records (R285). -/
def Slice.moveWay (set from_ to_ : Nat) (y : Way) (x : Slice) : Slice :=
  { Slice.setWay set to_ y x with changes := x.changes.map (fun c => if c.set == set && c.way == from_ then { c with way := to_ } else c) }

/-- A way is disabled; its line moves to the spare way, or into a way chosen by R270 (R285). `lost`: its identity cannot be read and
no change record names it. -/
def State.disableWay (sl set w : Nat) (lost : Bool) (s : State) : State :=
  let x := s.slice sl
  let y := x.way set w
  if y.disabled then s else
  let keep := (y.valid || y.locked) && !(lost && !y.ahead)
  let spare := w ≠ 16 && (x.spareFor.find set).isNone && !(x.way set 16).disabled
  let s := s.modSlice sl (fun x => { (Slice.setWay set w { disabled := true } x) with waysOff := min 65535 (x.waysOff + 1) })
  let s := if spare then
      (s.modSlice sl (fun x => { x with spareFor := x.spareFor.set set w })).modSpares (fun p => { p with setsSpent := p.setsSpent + 1 })
    else s
  let s := if !keep then s
    else if spare then s.modSlice sl (Slice.moveWay set w 16 { y with disabled := false, errs := 0, errWindow := false, errAt := 0 })
    else
      let x := s.slice sl
      match x.victim set y.nsid y.line with
      -- no way can take the line: its changes go to T1 (DESIGN CHOICE, log entry 104)
      | none => if y.ahead then (s.modSlice sl (fun x => { x with changes := x.changes.filter (fun c => !(c.set == set && c.way == w)) })).writeT1 y.nsid y.line else s
      | some v =>
        let o := x.way set v
        let s := if o.valid && o.ahead then s.writeBack o.nsid o.line else s
        s.modSlice sl (fun x => Slice.moveWay set w v { y with disabled := false, errs := (x.way set v).errs, errWindow := (x.way set v).errWindow, errAt := (x.way set v).errAt } x)
  let s := (s.modSpares (fun p => { p with waysOff := p.waysOff + 1, lastTime := s.rtc, waysList := p.waysList ++ [(sl, set, w, spare)] })).logRec (.sub (.package 4 (sl * 8192 + set * 32 + w) (if spare then 16 else 0)))
  (s.report (srcMapCache sl) (evUnnamed 4 2) (sl * 8192 + set * 32 + w) 0).keepFour sl set 17

/-- An error in a way (R284): corrected and counted, or uncorrectable. -/
def State.wayError (sl set w : Nat) (uncorrectable tagLost : Bool) (s : State) : State :=
  let y := (s.slice sl).way set w
  if y.disabled then s
  else if uncorrectable then (s.modSlice sl (fun x => { x with uncorr := min 65535 (x.uncorr + 1) })).disableWay sl set w tagLost
  else
    -- the window is the hour that starts at its first error
    let fresh := !y.errWindow || decide (y.errAt + 3600000000 ≤ s.now)
    let n := if fresh then 1 else y.errs + 1
    let s := s.modSlice sl (fun x => Slice.setWay set w { x.way set w with errs := n, errWindow := true, errAt := if fresh then s.now else y.errAt } { x with corrected := min 65535 (x.corrected + 1) })
    if s.image.faults.wayErrLimit ≤ n then s.disableWay sl set w false else s

/-- MAP_CACHE_WAY_ERROR. -/
def execMapCacheWayError (x : SliceId) (set : Fin 256) (way : Fin 17) (uncorrectable tagLost : Bool) (s : State) : Host.Outcome State Fault Refusal :=
  .next (s.wayError x set way uncorrectable tagLost)

/-- WAY_ERROR_WINDOW_EXPIRY: the hour closes below the limit. -/
def execWayErrorWindowExpiry (x : SliceId) (set : Fin 256) (way : Fin 17) (s : State) : Host.Outcome State Fault Refusal :=
  let w := (s.slice x).way set way
  if !w.errWindow then .next s
  else .next ((s.notBefore (w.errAt + 3600000000)).modSlice x (fun y => Slice.setWay set way { w with errs := 0, errWindow := false, errAt := 0 } y))

/-! ## Maintenance operations (R281 to R283) -/

/-- An operation begins: BUSY, and what it does to the lines of its range. -/
def State.startMaint (op : Nat) (r0 r1 : W64) (s : State) : State :=
  let nsid := r0.toNat / 2 ^ 40 % 4096 + 1
  let all := r0.getLsbD 52
  let first := if all then 0 else r0.toNat % 2 ^ 40
  let last := if all then 2 ^ 40 - 1 else r1.toNat % 2 ^ 40
  ((s.maintain op nsid first last).modMc (fun m => { m with busy := true })).retry

/-- A write of MC_MAINT_CMD; discarded while BUSY (R281). -/
def State.maintCmd (op : Nat) (s : State) : State :=
  if s.mc.busy then s.modMc (fun m => { m with refused := true }) else s.startMaint op s.mc.range0 s.mc.range1

/-- MC_CLEAN. -/
def execMcClean (s : State) : Host.Outcome State Fault Refusal := .next (s.maintCmd 1)
/-- MC_INVALIDATE. -/
def execMcInvalidate (s : State) : Host.Outcome State Fault Refusal := .next (s.maintCmd 2)
/-- MC_DISCARD. -/
def execMcDiscard (s : State) : Host.Outcome State Fault Refusal := .next (s.maintCmd 3)
/-- MC_UNLOCK. -/
def execMcUnlock (s : State) : Host.Outcome State Fault Refusal := .next (s.maintCmd 4)

/-! ## Regions (R274, R275, R280) -/

/-- An operation that a region change starts: lines of its range take their policy first (R274). -/
def State.regionMaint (op : Nat) (r0 r1 : W64) (s : State) : State :=
  (s.takePolicy (r0.toNat / 2 ^ 40 % 4096 + 1) (r0.toNat % 2 ^ 40) (r1.toNat % 2 ^ 40)).startMaint op r0 r1
/-- An operation a region change needs: at once, or after the one that runs. -/
def State.askMaint (op : Nat) (r0 r1 : W64) (s : State) : State :=
  if s.mc.busy then s.modMc (fun m => { m with waitOps := (op, r0, r1) :: m.waitOps }) else s.regionMaint op r0 r1

/-- RANGE0 and RANGE1 of a region. -/
def Region.range0 (r : Region) : W64 := BitVec.ofNat 64 (r.lo.toNat % 2 ^ 52)
def Region.range1 (r : Region) : W64 := BitVec.ofNat 64 r.last

/-- A written MC_REGION_LO_n takes effect with MC_REGION_HI_n as it stands (R275). -/
def State.putRegion (n : Nat) (value : W64) (s : State) : State :=
  let old := s.region n
  let new : Region := { old with lo := BitVec.ofNat 64 (value.toNat % 2 ^ 55), hiForce := old.hi }
  let on := s.regionLocks new
  let s := s.modMc (fun m => { m with regions := m.regions.set n { new with locks := on } })
  let s := if new.valid && new.lock && !on then s.report 20 0x04F0 n 0 else s
  let s := if new.valid && new.lock then s.each (s.cachedLines new.nsid new.first new.last) (fun ln t =>
      match t.cached new.nsid ln with
      | some w => t.modSlice (sliceOf new.nsid ln) (fun x => Slice.setWay (setOf new.nsid ln) w { x.way (setOf new.nsid ln) w with lockTry := true } x)
      | none => t) else s
  let s := if old.valid && ((old.lock && !new.lock) || !new.valid || old.owner != new.owner) then s.askMaint 4 old.range0 old.range1 else s
  if new.valid && new.writeThrough then s.askMaint 1 new.range0 new.range1 else s

/-- MC_REGION_LO_WRITE: by firmware or management (R276); it waits for a running operation (R275). -/
def execMcRegionLoWrite (w : Writer) (n : Fin 64) (value : W64) (s : State) : Host.Outcome State Fault Refusal :=
  if !(w == .firmware || w == .management) then .next s
  else if s.mc.busy then .next (s.modMc (fun m => { m with waitOps := m.waitOps ++ [(100 + n.val, value, 0)] }))
  else .next (s.putRegion n value)

/-- What waited for an operation goes on, up to the next operation that starts. -/
def State.nextMaint (fuel : Nat) (s : State) : State :=
  match fuel with
  | 0 => s
  | f + 1 =>
    if s.mc.busy then s else
    match s.mc.waitOps with
    | [] => s
    | w :: rest =>
      let s := s.modMc (fun m => { m with waitOps := rest })
      (if 100 ≤ w.1 then s.putRegion (w.1 - 100) w.2.1 else s.regionMaint w.1 w.2.1 w.2.2).nextMaint f

/-- MC_MAINT_DONE: every slice has finished. -/
def execMcMaintDone (s : State) : Host.Outcome State Fault Refusal :=
  if !s.mc.busy then .next s
  else .next ((s.modMc (fun m => { m with busy := false, done := true })).nextMaint (s.mc.waitOps.length + 1))

end Sys2Proof.Machine
end

