-- ==== Sys2Proof/Machine/PartRegs.lean ====
section
/-! DEFINITION. Register images of the safety partition and the keep domain (16 to 18). -/
namespace Sys2Proof.Machine

/-- A register image from its fields: lowest bit, width, value. -/
def image64 (fs : List (Nat × Nat × Nat)) : W64 := BitVec.ofNat 64 (fs.foldl (fun n f => n + f.2.2 % 2 ^ f.2.1 * 2 ^ f.1) 0)

/-- Times of a list within the last hour. -/
def State.lastHour (s : State) (ts : List Nat) : Nat := min 255 ((ts.filter (fun t => decide (s.now < t + 3600000000))).length)

def State.spStatus (s : State) : W64 := image64
  [(0, 1, s.part.lockstepOk.toNat), (1, 1, s.part.romOk.toNat), (2, 1, s.part.otpOk.toNat), (3, 1, s.part.keepA.toNat), (4, 1, s.part.keepB.toNat),
   (5, 1, s.part.strap.toNat), (6, 1, s.keep.lockout.toNat), (8, 8, s.part.queue.length), (32, 32, (s.flash.fw.get { version := Config.factoryFw s.flash.running } s.flash.running).version.toNat)]
def State.spRpl (s : State) : W64 := image64
  [(0, 2, s.rpl), (2, 5, s.otp.raises), (7, 5, s.otp.lowers), (12, 1, s.part.debugOn.toNat), (13, 2, s.operatorEntry.getD 0), (15, 1, s.operatorEntry.isSome.toNat)]
def State.spWdt (s : State) : W64 := image64 [(0, 16, 500), (16, 16, 50), (32, 8, s.lastHour s.part.expiries), (40, 8, s.lastHour s.part.resets)]
def State.spUpdateLock (s : State) : W64 := image64 [(0, 1, s.keep.updateLock.toNat), (32, 32, s.keep.lockTime)]

def State.krCell (s : State) : W64 := image64 [(0, 12, s.keep.cellMv), (12, 1, s.keep.low.toNat), (13, 1, s.keep.critical.toNat), (32, 32, s.keep.checkTime)]
def State.krFlush (s : State) : W64 := image64 [(0, 1, s.keep.flushComplete.toNat), (1, 1, s.keep.dumpStarted.toNat), (8, 8, s.keep.flushCause)]
def State.krVoicing (s : State) : W64 := image64
  [(0, 2, s.keep.active), (2, 2, s.keep.previous), (4, 2, s.keep.pending), (6, 1, s.keep.pendingValid.toNat), (7, 1, s.keep.formatIntent.toNat), (16, 48, s.keep.pendingKey.toNat)]
def State.krFwBank (s : State) : W64 := image64
  [(0, 1, s.keep.fwActive), (1, 1, s.keep.trialValid.toNat), (2, 1, s.keep.trialBank), (3, 2, s.keep.trialCount), (5, 1, s.keep.bootOnce.toNat),
   (6, 1, s.keep.activateNext.toNat), (7, 1, s.keep.autoConfirm.toNat), (32, 32, s.keep.trialVersion.toNat)]
def State.krStage (s : State) : W64 := image64
  [(0, 3, s.keep.stage), (3, 2, s.keep.kind), (5, 4, s.keep.target), (9, 1, s.keep.verifying.toNat), (16, 8, s.keep.result), (24, 8, s.keep.lastRefusal), (32, 32, s.keep.fwInForce.toNat)]
def State.krProgress (s : State) : W64 := image64 [(0, 16, s.keep.resumeBlock), (16, 16, s.keep.blocks)]
def State.krTimer (s : State) : W64 := BitVec.ofNat 64 s.keep.trialStart
def State.krSecurity (s : State) : W64 := image64
  [(0, 1, s.keep.lockout.toNat), (1, 1, s.keep.lowering.toNat), (2, 1, s.keep.raising.toNat), (3, 1, s.keep.raiseTo2.toNat), (4, 1, s.keep.backupWarn.toNat),
   (8, 8, s.keep.authFails), (16, 8, min s.keep.spResets (s.lastHour s.part.resets)), (32, 32, s.keep.lockoutTime)]
def State.krBellows (s : State) : W64 := image64 [(0, 16, s.keep.capUf), (16, 10, s.keep.esr), (26, 38, s.keep.testTime)]

end Sys2Proof.Machine
end

