-- ==== Sys2Proof/Machine/Mailbox.lean ====
section
/-! DEFINITION. The safety mailbox: challenges, authentication, the requests (17). -/
namespace Sys2Proof.Machine

/-! ## Responses (R564) -/

/-- Two requests come from one source: the same port, or management. -/
def sameSource : MbSource → MbSource → Bool
  | .port p _, .port q _ => p == q
  | .management, .management => true
  | _, _ => false

/-- The response is written, and a Safety Mailbox command completes with Success. -/
def State.mbAnswer (code : Nat) (h : MbHdr) (result : Nat) (signed : Bool) (fields : List Field) (s : State) : State :=
  let s := s.emit (.mailbox h.src code result h.seq signed { size := 512, fields := fields })
  match h.src with
  | .port _ id => s.complete id .success 0
  | .management => s

/-! ## Authentication (R565 to R568) -/

/-- A failed authentication is counted; the sixteenth sets the lockout and leads to SAFE-HOLD with cause 0x05. -/
def State.authFailed (s : State) : State :=
  let n := min 255 (s.keep.authFails + 1)
  let s := (s.keepWrite (fun k => { k with authFails := n })).report srcPartition 0x0E01 0 n
  if 16 ≤ n ∧ !s.keep.lockout then
    ((s.keepWrite (fun k => { k with lockout := true, lockoutTime := s.rtc / 1000 })).report srcPartition 0x0E02 0 1).causeArises 5 .lockout true false
  else s

/-- A privileged request under the rules of R565 to R568; `len` is the LENGTH its code asks. `go` answers its RESULT and its effect;
with no RESULT the answer follows later. -/
def State.privilegedLate (code len : Nat) (h : MbHdr) (go : State → Option Nat × State) (s : State) : State :=
  let limited := s.keep.lockout && (match s.part.lastPriv with
    | some t => decide (s.now < t + 10000000)
    | none => false)
  if limited then (s.modPart (fun p => { p with challenges := p.challenges.filter (fun d => !(d.index == h.challenge && sameSource d.src h.src)) })).mbAnswer code h 7 true []
  else
    let s := s.modPart (fun p => { p with lastPriv := some s.now })
    match s.part.challenges.find? (fun c => c.index == h.challenge && sameSource c.src h.src) with
    | none => s.mbAnswer code h 4 true []
    | some c =>
      let s := s.modPart (fun p => { p with challenges := p.challenges.filter (fun d => !(d.index == c.index)) })
      if !h.resvZero || h.length != len then s.mbAnswer code h 2 true []
      else if h.sigKey != some c.key then (s.mbAnswer code h 3 true []).authFailed
      else
        let s := if s.keep.authFails = 0 then s else s.keepWrite (fun k => { k with authFails := 0 })
        match go s with
        | (some r, t) => t.mbAnswer code h r true []
        | (none, t) => t
/-- A privileged request that is answered at once. -/
def State.privileged (code len : Nat) (h : MbHdr) (go : State → Nat × State) (s : State) : State :=
  s.privilegedLate code len h (fun t => let r := go t; (some r.1, r.2))

/-- An unprivileged request. -/
def State.unprivileged (code len : Nat) (h : MbHdr) (go : State → Nat × List Field × State) (s : State) : State :=
  if !h.resvZero || h.length != len then s.mbAnswer code h 2 false []
  else
    let r := go s
    r.2.2.mbAnswer code h r.1 false r.2.1

/-! ## The requests -/

/-- GET_CHALLENGE: the active operator key is bound to a nonce; the oldest of eight challenges gives way (R565). -/
def State.mbGetChallenge (key : BitVec 384) (h : MbHdr) (s : State) : State :=
  s.unprivileged 0x0001 96 h (fun s =>
    if s.operatorHash != some key then (3, [], s.report srcPartition 0x0E01 0 s.keep.authFails)
    else
      let cs := if s.part.challenges.length < 8 then s.part.challenges else s.part.challenges.drop 1
      let i := ((List.range 8).find? (fun i => !cs.any (fun c => c.index == i))).getD 0
      let nonce := (Config.freeDraw s.free).toNat % 2 ^ 256
      (0, [⟨0x020, 0, 8, i⟩, ⟨0x028, 0, 256, nonce⟩],
        (s.modPart (fun p => { p with challenges := cs ++ [⟨i, key, h.src, s.now⟩] })).drew))

/-- READ_IDENTITY: serial, SN, identity public key, SP_RPL. -/
def State.mbReadIdentity (h : MbHdr) (s : State) : State :=
  s.unprivileged 0x0002 0 h (fun s => (0, [⟨0x020, 0, 64, Config.serial.toNat⟩, ⟨0x028, 0, 160, Config.sn.toNat⟩, ⟨0x03C, 0, 768, Config.identityKey.toNat⟩, ⟨0x09C, 0, 64, s.spRpl.toNat⟩], s))

/-- READ_STATUS: SP_STATUS, KR_SECURITY, KR_CELL. -/
def State.mbReadStatus (h : MbHdr) (s : State) : State :=
  s.unprivileged 0x0003 0 h (fun s => (0, [⟨0x020, 0, 64, s.spStatus.toNat⟩, ⟨0x028, 0, 64, s.krSecurity.toNat⟩, ⟨0x030, 0, 64, s.krCell.toNat⟩], s))

/-- Thresholds a KR_THRESH_OVR value gives keep throttle at warning plus hysteresis or above in every zone (R559). -/
def threshOk (value : W64) : Bool :=
  let k : Keep := { threshOvr := value }
  let grace := value.toNat / 2 ^ 40 % 512
  value.toNat / 2 ^ 49 == 0 && decide (5 ≤ grace ∧ grace ≤ 300) && [0, 4, 5, 6, 8].all (fun z => decide (k.warn z + zoneHyst z ≤ k.throttle z))
/-- SET_THRESH_OVR: in force at the next sample (R559, R560). -/
def State.mbSetThreshOvr (value : W64) (h : MbHdr) (s : State) : State :=
  s.privileged 0x0010 8 h (fun s => if threshOk value then (0, s.keepWrite (fun k => { k with threshOvr := value })) else (2, s))

/-- CLEAR_BACKUP_WARNING: the indications of R89 end. -/
def State.mbClearBackup (h : MbHdr) (s : State) : State :=
  s.privileged 0x0011 0 h (fun s => (0, (s.keepWrite (fun k => { k with backupWarn := false })).setDegrade dgBackup false))

/-- The release conditions of a SAFE-HOLD cause an authenticated release can meet (R82). -/
def State.releaseOk (s : State) (fresh : Sample) (cause : Nat) : Bool :=
  if cause = 2 then
    let t := fresh.readings.foldl (fun t r => t.readSensor fresh.tenMs r) s
    (List.range 7).all (fun z =>
      let got := fresh.readings.filter (fun r => r.zone == z && r.answer.isSome)
      (t.zone z).failed.isEmpty && !got.isEmpty && got.all (fun r => match r.answer with
        | some x => decide (x < 16 * ((t.keep.warn z : Int) - zoneHyst z))
        | none => true))
  else if cause = 3 then decide (4000 ≤ fresh.inputV ∧ fresh.inputV ≤ 7400)
  else if cause = 5 then true
  else if cause = 7 then (List.range 4).any (fun n => s.checkSlot n == 0)
  else false

/-- RELEASE_SAFE_HOLD (R81, R82, R567): BRING-UP begins. -/
def State.mbRelease (fresh : Sample) (h : MbHdr) (s : State) : State :=
  s.privileged 0x0012 0 h (fun s =>
    if s.modes.mode != .safeHold || !s.modes.causes.all (s.releaseOk fresh) then (5, s)
    else
      let s := if s.keep.lockout then (s.keepWrite (fun k => { k with lockout := false, authFails := 0 })).report srcPartition 0x0E02 0 0 else s
      (0, s.startBringup))

/-- SET_UPDATE_LOCK (R591). -/
def State.mbUpdateLock (lock : Bool) (h : MbHdr) (s : State) : State :=
  s.privileged 0x0013 1 h (fun s =>
    let s := s.keepWrite (fun k => { k with updateLock := lock, lockTime := s.rtc / 1000 })
    (0, { s with format := s.format.map (fun (r : FormatRec) => { r with updateLock := lock }) }))

/-- RESULT by which a change of level is refused; 0: accepted (R578, R611, Level transitions). -/
def State.rplRefusal (s : State) (level : Nat) (strap : Bool) : Nat :=
  if 2 < level then 2
  else if s.keep.stage = 1 ∨ s.keep.stage = 3 ∨ s.keep.stage = 4 ∨ !s.serving ∨ s.quiesceBusy then 5
  else if s.rpl = 2 then 5
  else if level = 0 then (if !strap then 6 else if 16 ≤ s.otp.lowers then 5 else 0)
  else if s.operatorEntry.isNone ∨ (s.rpl = 0 ∧ 16 ≤ s.otp.raises) then 5 else 0
/-- SET_RPL: a device epoch of cause 3; the response follows its commit point (R579). From its acceptance a raise shuts the debug connector. -/
def State.mbSetRpl (level : Nat) (strap : Bool) (h : MbHdr) (s : State) : State :=
  s.privilegedLate 0x0020 1 h (fun s =>
    if level = s.rpl then (some 0, s)
    else
      let r := s.rplRefusal level strap
      if r ≠ 0 then (some r, s)
      else
        let s := if level = 0 then s else s.modPart (fun p => { p with debugOn := false })
        (none, s.startDevEpoch 3 (.rpl level h.src h.seq) (match h.src with
          | .port _ id => some id
          | .management => none)))

/-- LOAD_KEY (R584). -/
def State.mbLoadKey (slot : Nat) (keep unwraps : Bool) (kcv : BitVec 64) (h : MbHdr) (s : State) : State :=
  s.privileged 0x0021 80 h (fun s =>
    let k := s.part.keys.get {} slot
    let put := fun (x : KeySlot) (t : State) => t.modPart (fun p => { p with keys := p.keys.set slot x })
    let written := fun (t : State) => if keep || k.persist then t.rewriteKeys else t
    if 4096 ≤ slot then (2, s)
    else match k.state with
      | .empty =>
        if !unwraps then (9, s) else (0, written (put { state := .loaded, persist := keep, kcv := some kcv, gen := k.gen + 1 } s))
      | .locked =>
        if !unwraps || !(k.kcv.isNone || k.kcv == some kcv) then (9, s)
        else (0, written (put { k with state := .active, persist := keep, kcv := some kcv } s))
      | _ => (5, s))

/-- CLEAR_KEY: a slot in state LOADED is zeroized. -/
def State.mbClearKey (slot : Nat) (h : MbHdr) (s : State) : State :=
  s.privileged 0x0022 2 h (fun s =>
    let k := s.part.keys.get {} slot
    if 4096 ≤ slot then (2, s)
    else if k.state == .loaded then
      let s := s.modPart (fun p => { p with keys := p.keys.set slot { gen := k.gen } })
      (0, if k.persist then s.rewriteKeys else s)
    else (5, s))

/-- The given hash takes the next free OTP entry and the entry before it is revoked (R577). -/
def State.enrol (hash : BitVec 384) (s : State) : State :=
  let n := s.otp.operatorKeys.length
  let old : BitVec 4 := match s.operatorEntry with
    | some i => BitVec.ofNat 4 (2 ^ i)
    | none => 0
  { s with otp := { s.otp with operatorKeys := s.otp.operatorKeys ++ [hash], operatorRevoke := s.otp.operatorRevoke ||| old } }.report srcPartition 0x0E04 0 n
/-- ROTATE_OPERATOR_KEY; unauthenticated while no entry is programmed, at RPL0 with the strap asserted. -/
def State.mbRotate (hash : BitVec 384) (strap : Bool) (h : MbHdr) (s : State) : State :=
  if s.otp.operatorKeys.isEmpty then
    s.unprivileged 0x0030 48 h (fun s => if s.rpl ≠ 0 then (5, [], s) else if !strap then (6, [], s) else (0, [], s.enrol hash))
  else
    s.privileged 0x0030 48 h (fun s => if 4 ≤ s.otp.operatorKeys.length then (2, s) else (0, s.enrol hash))

/-- REVOKE_IMAGE_KEY: the last unrevoked entry stays. -/
def State.mbRevoke (entry : Fin 4) (h : MbHdr) (s : State) : State :=
  s.privileged 0x0031 1 h (fun s =>
    let new := s.otp.imageRevoke ||| BitVec.ofNat 4 (2 ^ entry.val)
    if s.otp.imageRevoke.getLsbD entry.val then (0, s)
    else if new = 15 then (2, s)
    else (0, { s with otp := { s.otp with imageRevoke := new } }.report srcPartition 0x0E04 1 entry.val))

/-! ## The queue (R561, R564) -/

/-- Code of a request. -/
def mbCode : MbBody → Nat
  | .getChallenge _ => 0x0001 | .readIdentity => 0x0002 | .readStatus => 0x0003
  | .setThreshOvr _ => 0x0010 | .clearBackupWarning => 0x0011 | .releaseSafeHold _ => 0x0012 | .setUpdateLock _ => 0x0013
  | .setRpl _ _ => 0x0020 | .loadKey _ _ _ _ => 0x0021 | .clearKey _ => 0x0022
  | .rotateOperatorKey _ _ => 0x0030 | .revokeImageKey _ => 0x0031
  | .other c => c

/-- A request is carried out. -/
def State.mbRun (h : MbHdr) (b : MbBody) (s : State) : State :=
  match b with
  | .getChallenge k => s.mbGetChallenge k h
  | .readIdentity => s.mbReadIdentity h
  | .readStatus => s.mbReadStatus h
  | .setThreshOvr v => s.mbSetThreshOvr v h
  | .clearBackupWarning => s.mbClearBackup h
  | .releaseSafeHold x => s.mbRelease x h
  | .setUpdateLock l => s.mbUpdateLock l h
  | .setRpl l st => s.mbSetRpl l st h
  | .loadKey n p u v => s.mbLoadKey n p u v h
  | .clearKey n => s.mbClearKey n h
  | .rotateOperatorKey k st => s.mbRotate k st h
  | .revokeImageKey e => s.mbRevoke e h
  | .other c => s.mbAnswer c h 1 false []

/-- Whether the source of a request can send it now: a Safety Mailbox command that is ready at its port, or management while the partition is powered. -/
def State.mbSource (h : MbHdr) (s : State) : Bool :=
  match h.src with
  | .management => s.modes.mode != .keep
  | .port p id => s.adminOn && (match s.ctx id with
    | some c => c.admin && c.phase == .ready && c.sqe.opcode == 0xDF && c.port == p.val
    | none => false)

/-- The partition takes no further request: it restarts (R561), or a SET_RPL it took waits for its commit point (R564, R579). -/
def State.mbBusy (s : State) : Bool :=
  s.part.restarting || (match s.modes.epoch with
    | some e => match e.act with
      | .rpl .. => !e.committed
      | _ => false
    | none => false)

/-- A request arrives: carried out (`run`), or queued while the partition takes none; a ninth is answered Queue Full (R564). -/
def State.mbArrives (h : MbHdr) (b : MbBody) (run : State → State) (s : State) : State :=
  if !s.mbSource h then s
  else if s.mbBusy then
    if 8 ≤ s.part.queue.length then s.mbAnswer (mbCode b) h 8 false []
    else
      let s := s.modPart (fun p => { p with queue := p.queue ++ [⟨h, b⟩] })
      match h.src with
      | .port _ id => s.modCtx id (fun c => { c with phase := .drain })
      | .management => s
  else run s
/-- The requests that waited are taken, in arrival order, up to one that makes the others wait again (R564). -/
def State.mbTakeQueue (s : State) : State :=
  s.part.queue.foldl (fun (t : State) (r : MbReq) =>
    if t.mbBusy then t else
    let t := t.modPart (fun p => { p with queue := p.queue.drop 1 })
    match r.hdr.src with
    | .port _ id => if (t.ctx id).isSome then t.mbRun r.hdr r.body else t
    | .management => t.mbRun r.hdr r.body) s

/-- A request of a row: taken after those that still wait. -/
def State.mailbox (h : MbHdr) (b : MbBody) (s : State) : State := s.mbArrives h b (fun t => t.mbTakeQueue.mbRun h b)

/-! ## The rows -/

def execGetChallenge (h : MbHdr) (key : BitVec 384) (s : State) : Host.Outcome State Fault Refusal := .next (s.mailbox h (.getChallenge key))
def execReadIdentity (h : MbHdr) (s : State) : Host.Outcome State Fault Refusal := .next (s.mailbox h .readIdentity)
def execReadStatus (h : MbHdr) (s : State) : Host.Outcome State Fault Refusal := .next (s.mailbox h .readStatus)
def execSetThreshOvr (h : MbHdr) (value : W64) (s : State) : Host.Outcome State Fault Refusal := .next (s.mailbox h (.setThreshOvr value))
def execClearBackupWarning (h : MbHdr) (s : State) : Host.Outcome State Fault Refusal := .next (s.mailbox h .clearBackupWarning)
def execReleaseSafeHold (h : MbHdr) (fresh : Sample) (s : State) : Host.Outcome State Fault Refusal := .next (s.mailbox h (.releaseSafeHold fresh))
def execSetUpdateLock (h : MbHdr) (lock : Bool) (s : State) : Host.Outcome State Fault Refusal := .next (s.mailbox h (.setUpdateLock lock))
def execSetRpl (h : MbHdr) (level : Nat) (strap : Bool) (s : State) : Host.Outcome State Fault Refusal := .next (s.mailbox h (.setRpl level strap))
def execLoadKey (h : MbHdr) (slot : Nat) (keep unwraps : Bool) (kcv : BitVec 64) (s : State) : Host.Outcome State Fault Refusal :=
  .next (s.mailbox h (.loadKey slot keep unwraps kcv))
def execClearKey (h : MbHdr) (slot : Nat) (s : State) : Host.Outcome State Fault Refusal := .next (s.mailbox h (.clearKey slot))
def execRotateOperatorKey (h : MbHdr) (hash : BitVec 384) (strap : Bool) (s : State) : Host.Outcome State Fault Refusal :=
  .next (s.mailbox h (.rotateOperatorKey hash strap))
def execRevokeImageKey (h : MbHdr) (entry : Fin 4) (s : State) : Host.Outcome State Fault Refusal := .next (s.mailbox h (.revokeImageKey entry))

/-- A challenge 60 s old expires (R565). -/
def State.challengeExpiry (i : Nat) (s : State) : State := s.modPart (fun p => { p with challenges := p.challenges.filter (fun c => !(c.index == i)) })
def execChallengeExpiry (i : Fin 8) (s : State) : Host.Outcome State Fault Refusal :=
  match s.part.challenges.find? (fun c => c.index == i.val) with
  | none => .next s
  | some c => .next ((s.notBefore (c.at_ + 60000000)).challengeExpiry i.val)

/-- The restart of the partition ends (R561, R562): the flush for cause 0x08 where it is due, then the requests that waited. -/
def State.spRestartComplete (s : State) : State :=
  if !s.part.restarting then s
  else
    let due := s.part.safe08
    let s := s.modPart (fun p => { p with restarting := false, lockstepOk := true, safe08 := false })
    (if due then s.causeArises 8 .safe08 true false else s).mbTakeQueue
def execSpRestartComplete (s : State) : Host.Outcome State Fault Refusal := .next s.spRestartComplete

end Sys2Proof.Machine
end

