-- ==== Sys2Proof/Machine/StopAdmin.lean ====
section
/-! DEFINITION. Bind Stop, Unbind Stop and Load Stop Image (14). -/
namespace Sys2Proof.Machine

/-- The holder of a stop, where it lies on a manager's port (R461). -/
def State.holderOn (s : State) (p n : Nat) : Option Nat :=
  match s.holder n with
  | some k => if k / 128 = p then some k else none
  | none => none

/-- BIND_STOP (R471, R472). -/
def execBindStop (c : Nat) (s : State) : Host.Outcome State Fault Refusal :=
  .next (s.boundary c 0xD1 (fun x s =>
    let n := x.stopIndex
    let m := bits x.sqe.cdw10 6 4
    match s.holderOn x.port n with
    | none => s.complete c stInvalidField 0
    | some k =>
      if matchFails x.sqe.cdw11 (s.gen k) then s.complete c stSequence 0
      else if (s.stop n).state != 2 then s.complete c stSequence 0
      else
        let modes := (((s.stop n).image.map (·.modes)).getD 0)
        let privOk := match s.ns x.sqe.nsid with
          | some v => v.spec.nmic == 0 && (s.dinst k).attached.contains x.sqe.nsid &&
              !(xformDir m false && (s.xform x.sqe.nsid false).isSome) && !(xformDir m true && (s.xform x.sqe.nsid true).isSome)
          | none => false
        if m = 0 || 5 < m || !modes.getLsbD (m - 1) || (m ≤ 3 && !privOk) || (4 ≤ m && x.sqe.nsid != 0) then s.complete c stInvalidField 0
        else
          let b := s.binding n
          let s := s.logRec (.binding n { b with mode := m, nsid := x.sqe.nsid, window := x.sqe.cdw10.getLsbD 7, image := (s.stop n).image })
          let s := if x.sqe.cdw10.getLsbD 7 then s.logInst k (fun d => { d with window := some n }) else s
          (s.modStop n (fun y => { y with state := 3 })).awaitSeal c 0))

/-- UNBIND_STOP (R493): inside another epoch it waits for release. -/
def execUnbindStop (c : Nat) (s : State) : Host.Outcome State Fault Refusal :=
  .next (s.boundary c 0xD4 (fun x s =>
    let n := x.stopIndex
    match s.holderOn x.port n with
    | none => s.complete c stInvalidField 0
    | some k =>
      if matchFails x.sqe.cdw11 (s.gen k) then s.complete c stSequence 0
      else if (s.stop n).epoch.isNone && (s.stop n).state != 3 && (s.stop n).state != 4 then s.complete c stSequence 0
      else
        let clear := x.sqe.cdw10.getLsbD 4
        (s.modCtx c (fun y => { y with phase := .drain })).startEpoch n (.unbind clear) (some c)))

/-- The checks common to the four actions of Load Stop Image (REFUSAL 1 and 2). -/
def State.loadStop (c action : Nat) (go : Ctx → Nat → State → State) (s : State) : State :=
  s.boundary c 0xD5 (fun x s =>
    if bits x.sqe.cdw10 9 8 ≠ action then s else
    match s.holderOn x.port x.stopIndex with
    | none => s.complete c stInvalidField 1
    | some k => if matchFails x.sqe.cdw11 (s.gen k) then s.complete c stSequence 2 else go x x.stopIndex s)

/-- LOAD_STOP_IMAGE_TRANSFER (R490). -/
def execLoadStopImageTransfer (c : Nat) (s : State) : Host.Outcome State Fault Refusal :=
  .next (s.loadStop c 0 (fun x n s =>
    let off := x.sqe.cdw12.toNat
    let len := x.sqe.cdw13.toNat
    if off % 4096 ≠ 0 ∨ len % 4 ≠ 0 ∨ len < 4 ∨ 2 ^ 21 < len ∨ 48 * 2 ^ 20 < off + len then s.complete c stInvalidField 3
    else
      -- a package in the staging is abandoned (18, Verification and commit)
      let s := if (s.stop n).stagedPkg then s.abandonPackage else s
      let s := s.modStop n (fun y => { y with
        staging := (y.staging.filter (fun p => !(decide (off ≤ p.off) && decide (p.off + p.len ≤ off + len)))) ++ [⟨off, len⟩]
        stagedPkg := false
        staged := match x.sqe.data with
          | .stopPiece (some i) => some i
          | _ => y.staged })
      s.complete c .success 0))

/-- An accepted LOAD stores the image and runs the stop epoch (R491). -/
def State.acceptLoad (n : Nat) (i : StopImage) (ctx : Option Nat) (s : State) : State :=
  let s := { s with store := s.store.set n i }
  let s := s.modFlash (fun f => { f with storeRest := if s.rpl = 0 then f.storeRest.filter (fun k => !(k == n)) else if f.storeRest.contains n then f.storeRest else n :: f.storeRest })
  let s := s.modStop n (fun y => { y with staging := [], staged := none, stagedPkg := false })
  (match ctx with
    | some c => s.modCtx c (fun y => { y with phase := .drain })
    | none => s).startEpoch n .load ctx

/-- LOAD_STOP_IMAGE_LOAD. -/
def execLoadStopImageLoad (c : Nat) (bodyOk : Bool) (compileSig : Option (Fin 4)) (operatorSig : Option (BitVec 384)) (s : State) :
    Host.Outcome State Fault Refusal :=
  .next (s.loadStop c 1 (fun _ n s =>
    if !s.serving then s.complete c stSequence 10
    else
      let y := s.stop n
      let img := match y.staged with
        | some i => if y.stagedComplete i then some i else none
        | none => none
      let r := s.loadRefusal n img bodyOk compileSig operatorSig
      if r ≠ 0 then s.complete c (refusalStatus r) (BitVec.ofNat 32 r)
      else match img with
        | some i => s.acceptLoad n i (some c)
        | none => s))

/-- LOAD_STOP_IMAGE_RELOAD. -/
def execLoadStopImageReload (c : Nat) (s : State) : Host.Outcome State Fault Refusal :=
  .next (s.loadStop c 2 (fun _ n s =>
    if !s.serving then s.complete c stSequence 10
    else if (s.store.find n).isNone then s.complete c stSequence 9
    else (s.modCtx c (fun y => { y with phase := .drain })).startEpoch n .reload (some c)))

/-- LOAD_STOP_IMAGE_DISCARD. -/
def execLoadStopImageDiscard (c : Nat) (s : State) : Host.Outcome State Fault Refusal :=
  .next (s.loadStop c 3 (fun _ n s =>
    let s := if (s.stop n).stagedPkg then s.abandonPackage else s
    (s.modStop n (fun y => { y with staging := [], staged := none, stagedPkg := false })).complete c .success 0))

end Sys2Proof.Machine
end

