-- ==== Sys2Proof/Machine/Update.lean ====
section
/-! DEFINITION. Packages, their download and verification, trials and their end (18). -/
namespace Sys2Proof.Machine

/-! ## What an update rests on -/

/-- An update refusal of codes 0x01 to 0x04; 0: none (R594). -/
def State.updateBarred (s : State) : Nat :=
  let moved := match s.mech.movedAt with
    | some t => decide (s.now / 1000000 < t + 10)
    | none => false
  if s.mech.latchOpen || moved then 1
  else if s.keep.low then 2
  else if s.below24 then 3
  else if s.keep.updateLock then 4
  else 0

/-- The status of a refused download piece. -/
def downloadStatus (code : Nat) : Status := if code ≤ 5 then stSequence else stInvalidField
/-- The status of a refused commit. -/
def commitStatus (code : Nat) : Status :=
  if code ≤ 4 then stSpecific 0x13 else if code = 5 then stSequence else if code = 6 then stSpecific 0x06 else stSpecific 0x07

/-- A refusal: LAST_REFUSAL, and the code in DW0[7:0]. -/
def State.refuseUpdate (id code : Nat) (st : Status) (s : State) : State :=
  (s.keepWrite (fun k => { k with lastRefusal := code })).complete id st (BitVec.ofNat 32 code)

/-- The stage is ACTIVATING or TRIAL. -/
def State.onTrial (s : State) : Bool := s.keep.stage == 3 || s.keep.stage == 4

/-! ## Download (R593, R596 to R598) -/

/-- Bank of boot flash a package goes to. -/
def Package.bank (p : Package) : Nat := if p.kind = 1 then p.target else slotBank p.target

/-- Flash sectors a block's bytes lie in; the headers of a voicing package are left out. -/
def Package.sectorsOf (p : Package) (i : Nat) : List Nat :=
  if p.kind = 1 then [32 + i / 16]
  else if p.kind = 3 ∨ i = 0 then []
  else
    let a := slotSector p.target + (i - 1) * 4064 / 65536
    let b := slotSector p.target + ((i - 1) * 4064 + 4063) / 65536
    if a = b then [a] else [a, b]

/-- Most blocks of a package. -/
def kindBlocks (kind : Nat) : Nat := if kind = 1 then 8192 else if kind = 2 then 1 + 524288 / 4064 else 1 + (48 * 2 ^ 20 + 4063) / 4064

/-- A block continues a package at its position. -/
def blockFits (b : PkgBlock) (i blocks kind : Nat) (serial : BitVec 64) : Bool :=
  b.crcOk && b.index == i && decide (i < blocks) && b.blocks == blocks && b.kind == kind && b.serial == serial &&
    decide (1 ≤ b.payload ∧ b.payload ≤ 4064) && (i + 1 == blocks || b.payload == 4064)

/-- Block 0 and its manifest hold together (R592). -/
def firstFits (b : PkgBlock) (m : Manifest) : Bool :=
  blockFits b 0 b.blocks b.kind b.serial && m.kind == b.kind && decide (1 ≤ b.kind ∧ b.kind ≤ 3) &&
    b.blocks == 1 + (m.payloadLength + 4063) / 4064 && decide (b.blocks ≤ kindBlocks b.kind)

/-- A TARGET a package may name (refusal 0x06). -/
def State.targetOk (s : State) (p kind target : Nat) : Bool :=
  if kind = 1 then target == 0
  else if kind = 2 then decide (1 ≤ target ∧ target ≤ 3) && target != s.keep.active && !(s.keep.pendingValid && target == s.keep.pending)
  else decide (target < 16) && (s.holderOn p target).isSome

/-- Good blocks at the front of a piece. -/
def goodBlocks (i blocks kind : Nat) (serial : BitVec 64) : List PkgBlock → Nat
  | [] => 0
  | b :: r => if blockFits b i blocks kind serial then 1 + goodBlocks (i + 1) blocks kind serial r else 0

/-- A new package comes into being with its block 0: the stage is DOWNLOADING, the keep registers name it. What its target held is gone. -/
def State.newPackage (b : PkgBlock) (m : Manifest) (s : State) : State :=
  let target := if b.kind = 1 then 1 - s.keep.fwActive else m.target
  let s := (s.abandonPackage).keepWrite (fun k => { k with
    stage := if k.stage = 3 ∨ k.stage = 4 then k.stage else 1
    kind := b.kind, target := target, verifying := false, resumeBlock := 0, blocks := b.blocks, serial := b.serial, hash := m.payloadHash
    activateNext := if b.kind = 1 then false else k.activateNext })
  let s := s.modFlash (fun f => { f with package := some { manifest := m, kind := b.kind, target := target }, partial_ := 0 })
  if b.kind = 1 then s.modFlash (fun f => { f with fw := f.fw.set target { s.fwBank target with valid := false } })
  else if b.kind = 2 then s.modFlash (fun f => { f with slots := f.slots.erase target })
  else s.modStop target (fun y => { y with staging := [], staged := none, stagedPkg := true })

/-- Blocks of a piece are written from position `i`: each sector's erase before its first block. The download completes with its last
program, or at once for a stop package. -/
def State.writeBlocks (id i n : Nat) (st : Status) (dw0 : Nat) (s : State) : State :=
  match s.flash.package with
  | none => s.complete id st (BitVec.ofNat 32 dw0)
  | some p =>
    let at_ := List.range n |>.map (fun j => i + j)
    let r := at_.foldl (fun (a : List Nat × List (Nat × Bool) × Nat) j =>
      let xs := p.sectorsOf j
      let new := xs.filter (fun x => !a.1.contains x)
      (a.1 ++ new, a.2.1 ++ new.map (fun x => (x, true)) ++ (match xs.getLast? with
        | some x => [(x, false)]
        | none => []), if xs.isEmpty then a.2.2 else a.2.2 + 1)) (p.sectors, [], 0)
    let s := s.keepWrite (fun k => { k with resumeBlock := k.resumeBlock + (n - r.2.2) })
    let s := if p.kind = 3 then s.modStop p.target (fun y => { y with staging := y.staging ++ (at_.filter (fun j => j != 0)).map (fun j => ⟨(j - 1) * 4064, 4064⟩) }) else s
    if r.2.2 = 0 then s.complete id st (BitVec.ofNat 32 dw0)
    else
      let s := s.modFlash (fun f => { f with package := some { p with sectors := r.1, togo := r.2.2, ctx := some id, status := st, dw0 := dw0 } })
      (s.modCtx id (fun c => { c with phase := .drain })).flashOps p.bank r.2.1

/-- The resume point: the first byte not yet received (R596). -/
def State.resumePoint (s : State) : Nat := 4096 * s.keep.resumeBlock + s.flash.partial_

/-- A piece: its blocks are checked once they are whole (R596, R597). Bytes after a failed block are discarded with it. -/
def State.takePiece (c : Ctx) (s : State) : State :=
  let len := (c.sqe.cdw10.toNat + 1) * 4
  let off := c.sqe.cdw11.toNat * 4
  let start := off = 0
  let held := if start then 0 else s.flash.partial_
  let n := (held + len) / 4096
  let bs := match c.sqe.data with
    | .package bs => bs.take n
    | _ => []
  let kind := if start then (bs.head?.map (fun (x : PkgBlock × Manifest) => x.1.kind)).getD 0 else s.keep.kind
  let safe := s.modes.mode == .safeHold
  let refuse := fun (code : Nat) => s.refuseUpdate c.id code (downloadStatus code)
  if 2 ^ 21 < len then s.complete c.id stInvalidField 0
  else if s.updateBarred ≠ 0 then refuse s.updateBarred
  else if (s.onTrial && (kind == 1 || kind == 2)) || (safe && kind != 2 && kind != 0) then refuse 5
  else if start then
    match bs with
    | [] => if n = 0 then (s.abandonPackage.modFlash (fun f => { f with partial_ := len })).complete c.id .success 0 else refuse 7
    | (b, m) :: rest =>
      if !firstFits b m then refuse 7
      else if !s.targetOk c.port b.kind m.target then refuse 6
      else
        let good := 1 + goodBlocks 1 b.blocks b.kind b.serial (rest.map (fun (x : PkgBlock × Manifest) => x.1))
        let bad := decide (good < n)
        let s := (s.newPackage b m).modFlash (fun f => { f with partial_ := if bad then 0 else len % 4096 })
        let s := if bad then s.keepWrite (fun k => { k with lastRefusal := 7 }) else s
        s.writeBlocks c.id 0 good (if bad then downloadStatus 7 else .success) (if bad then 7 else 0)
  else if off ≠ s.resumePoint then refuse 7
  else if s.flash.package.isNone then
    -- block 0 itself came in pieces
    match bs with
    | [] => if n = 0 then (s.modFlash (fun f => { f with partial_ := f.partial_ + len })).complete c.id .success 0 else refuse 7
    | (b, m) :: rest =>
      if !firstFits b m then refuse 7
      else if (s.onTrial && (b.kind == 1 || b.kind == 2)) || (safe && b.kind != 2) then refuse 5
      else if !s.targetOk c.port b.kind m.target then refuse 6
      else
        let good := 1 + goodBlocks 1 b.blocks b.kind b.serial (rest.map (fun (x : PkgBlock × Manifest) => x.1))
        let bad := decide (good < n)
        let s := (s.newPackage b m).modFlash (fun f => { f with partial_ := if bad then 0 else (held + len) % 4096 })
        let s := if bad then s.keepWrite (fun k => { k with lastRefusal := 7 }) else s
        s.writeBlocks c.id 0 good (if bad then downloadStatus 7 else .success) (if bad then 7 else 0)
  else
    let good := goodBlocks s.keep.resumeBlock s.keep.blocks s.keep.kind s.keep.serial (bs.map (fun (x : PkgBlock × Manifest) => x.1))
    if good < n then
      let s := (s.modFlash (fun f => { f with partial_ := 0 })).keepWrite (fun k => { k with lastRefusal := 7 })
      s.writeBlocks c.id s.keep.resumeBlock good (downloadStatus 7) 7
    else if s.keep.blocks ≤ s.keep.resumeBlock + n ∧ (held + len) % 4096 ≠ 0 then refuse 7
    else (s.modFlash (fun f => { f with partial_ := (held + len) % 4096 })).writeBlocks c.id s.keep.resumeBlock n .success 0

/-- An update command runs: as any admin command, and in SAFE-HOLD entered by R65 where management carries it. While blocks are being
programmed or a package is being verified it waits. -/
def State.updateAdmin (id op : Nat) (go : Ctx → State → State) (s : State) : State :=
  match s.ctx id with
  | none => s
  | some c =>
    let on := s.adminOn || (c.mi && s.modes.mode == .safeHold && s.modes.causes.contains 7)
    let busy := s.keep.verifying || (match s.flash.package with
      | some p => decide (0 < p.togo)
      | none => false)
    if c.admin && c.phase == .ready && c.sqe.opcode == op && on && !busy then go c s else s

/-- FIRMWARE_IMAGE_DOWNLOAD. -/
def execFirmwareImageDownload (c : Nat) (s : State) : Host.Outcome State Fault Refusal := .next (s.updateAdmin c 0x11 (fun x s => s.takePiece x))

/-- A block is programmed: RESUME_BLOCK advances, and with the piece's last the download completes (R598). -/
def State.blockProgrammed (b : Nat) (s : State) : State :=
  match s.flash.package with
  | none => s
  | some p =>
    if p.togo = 0 ∨ p.bank ≠ b ∨ p.kind = 3 then s else
    let s := s.keepWrite (fun k => { k with resumeBlock := k.resumeBlock + 1 })
    let last := p.togo = 1
    let s := s.modFlash (fun f => { f with package := some { p with togo := p.togo - 1, ctx := if last then none else p.ctx } })
    match p.ctx with
    | some id => if last then s.complete id p.status (BitVec.ofNat 32 p.dw0) else s
    | none => s

/-- FLASH_OPERATION_COMPLETE: DONE is recorded for an erase, and the sequencer goes on (R587, R589, R598). -/
def execFlashOperationComplete (bank : Fin 2) (s : State) : Host.Outcome State Fault Refusal :=
  if s.modes.mode == .keep then .next s
  else match (s.bank bank.val).busy with
  | none => .next s
  | some (sector, erase) =>
    let s := s.modBank bank.val (fun b => ((if erase then b.done sector else b).clearBusy).advance)
    .next (if erase then s else s.blockProgrammed bank.val)

/-- BOOT_FLASH_READ: of a busy bank it ends with a bus error (R588); else the bytes, which the manual does not give. -/
def execBootFlashRead (bank : Fin 2) (_off : Nat) (s : State) : Host.Outcome State Fault Refusal :=
  if s.part.coresHeld || s.modes.mode == .keep then .next s
  else if (s.bank bank.val).busy.isSome then .next ((s.emit (.busError bank.val)).report srcPartition 0x0E09 bank.val 0)
  else .next ((s.emit (.regValue 0 (Config.freeWord s.free))).drew)

/-! ## Firmware Commit (R599) -/

/-- Fields of a Firmware Commit. -/
def Ctx.fs (c : Ctx) : Nat := bits c.sqe.cdw10 2 0
def Ctx.ca (c : Ctx) : Nat := bits c.sqe.cdw10 5 3
def Ctx.autoConfirm (c : Ctx) : Bool := c.sqe.cdw10.getLsbD 8

/-- A Firmware Commit of one commit action. -/
def State.commitOf (id action : Nat) (go : Ctx → State → State) (s : State) : State :=
  s.updateAdmin id 0x10 (fun x s => if x.ca ≠ action then s else go x s)

/-- Verification begins. -/
def State.startVerify (c : Ctx) (bank : Nat) (s : State) : State :=
  let s := (s.keepWrite (fun k => { k with verifying := true })).modFlash (fun f => { f with verify := some { ctx := c.id, action := c.ca, bank := bank, auto := c.autoConfirm } })
  s.modCtx c.id (fun y => { y with phase := .drain })

/-- What every commit of a downloaded package meets first: codes 0x01 to 0x06. -/
def State.commitBarred (c : Ctx) (s : State) : Nat :=
  if s.updateBarred ≠ 0 then s.updateBarred
  else match s.flash.package with
  | none => 5
  | some p =>
    if (s.onTrial && p.kind != 3) || s.keep.resumeBlock ≠ s.keep.blocks then 5
    else if c.fs ≠ (if p.kind = 1 then p.target + 1 else 0) then 6
    else 0

/-- A commit of a downloaded package is verified, or refused; `kinds`: those the action is for. -/
def State.commitPackage (kinds : List Nat) (c : Ctx) (s : State) : State :=
  let code := s.commitBarred c
  if s.flash.package.isSome && !kinds.contains s.keep.kind then s.complete c.id stInvalidField 0
  else if code ≠ 0 then s.refuseUpdate c.id code (commitStatus code)
  else s.startVerify c (match s.flash.package with
    | some p => p.target
    | none => 0)

/-- FIRMWARE_COMMIT_VERIFY: CA 0. -/
def execFirmwareCommitVerify (c : Nat) (s : State) : Host.Outcome State Fault Refusal := .next (s.commitOf c 0 (State.commitPackage [1, 2, 3]))
/-- FIRMWARE_COMMIT_NEXT_BOOT: CA 1. -/
def execFirmwareCommitNextBoot (c : Nat) (s : State) : Host.Outcome State Fault Refusal := .next (s.commitOf c 1 (State.commitPackage [1]))

/-- EV0E0A with the result. -/
def State.reportResult (s : State) : State := s.report srcPartition 0x0E0A 0 s.keep.result

/-- The trial is confirmed (R606, R608, R610). -/
def State.confirmTrial (result : Nat) (s : State) : State :=
  let b := s.keep.trialBank
  let s := s.keepWrite (fun k => { k with
    fwActive := b, trialValid := false, stage := 5, result := result, fwInForce := (s.fwBank b).version
    autoConfirm := false, trialStart := 0, trialCount := 0, bootOnce := false, oldArea := false })
  (s.modFlash (fun f => { f with formatSet := (s.fwBank b).formatWrite })).reportResult

/-- FIRMWARE_COMMIT_CONFIRM: CA 2. In TRIAL it confirms or reverts, whatever R594 finds (R595); else the image of bank FS − 1 is verified
for the next bring-up. -/
def execFirmwareCommitConfirm (c : Nat) (s : State) : Host.Outcome State Fault Refusal :=
  .next (s.commitOf c 2 (fun x s =>
    if x.fs ≠ 0 ∧ s.keep.stage = 4 ∧ x.fs = s.keep.trialBank + 1 then (s.confirmTrial 3).complete c .success 0
    else if s.keep.stage = 4 ∧ x.fs = s.keep.fwActive + 1 then
      (s.keepWrite (fun k => { k with bootOnce := true, trialCount := 3 })).complete c .success 0
    else if s.flash.package.isSome && (s.keep.kind == 2 || s.keep.kind == 3) && x.fs = 0 then s.complete c stInvalidField 0
    else if s.updateBarred ≠ 0 then s.refuseUpdate c s.updateBarred (commitStatus s.updateBarred)
    else if s.onTrial then s.refuseUpdate c (if s.keep.stage = 4 then 6 else 5) (commitStatus (if s.keep.stage = 4 then 6 else 5))
    else if x.fs = 0 ∨ 2 < x.fs then s.refuseUpdate c 6 (commitStatus 6)
    else if x.fs = s.flash.running + 1 then
      (s.keepWrite (fun k => { k with activateNext := true, trialBank := x.fs - 1, trialVersion := (s.fwBank (x.fs - 1)).version })).complete c .success 0
    else s.startVerify x (x.fs - 1)))

/-- FIRMWARE_COMMIT_ACTIVATE: CA 3. In TRIAL with FS naming the bank in force the revert is a device epoch (R607); a firmware bundle is
refused while QUIESCE is entered for anything else (R95). -/
def execFirmwareCommitActivate (c : Nat) (s : State) : Host.Outcome State Fault Refusal :=
  .next (s.commitOf c 3 (fun x s =>
    if s.keep.stage = 4 ∧ x.fs = s.keep.fwActive + 1 then s.askEpoch c 1 .revert
    else if s.keep.kind = 1 ∧ s.flash.package.isSome ∧ (s.quiesceBusy || !s.serving) then s.complete c stSequence 0
    else s.commitPackage [1, 3] x))

/-! ## The end of a verification (R592, R599) -/

/-- The refusal code a package earns; 0: it passes. -/
def State.verifyCode (p : Package) (f : VerifyFound) (s : State) : Nat :=
  if !f.blocksOk then 7
  else if p.kind = 1 then
    if !s.sigsOk f.compileSig f.operatorSig then 8
    else if (s.fwBank s.keep.fwActive).version.toNat < p.manifest.fwMinFrom.toNat then 9
    else if s.flash.formatSet < p.manifest.formatCompatMin then 10
    else 0
  else if p.kind = 2 then
    match f.voicing with
    | none => 7
    | some (i, chk) =>
      let t := s.modFlash (fun x => { x with slots := x.slots.set p.target { image := some i, check := chk } })
      if t.checkSlot p.target = 0 then 0 else 9
  else
    match f.stop with
    | none => 7
    | some i => if !s.sigsOk f.compileSig f.operatorSig then 8 else if s.loadRefusal p.target (some i) true f.compileSig f.operatorSig = 0 then 0 else 9

/-- What the target holds once the package is read back. -/
def State.placePackage (p : Package) (f : VerifyFound) (ok : Bool) (s : State) : State :=
  if p.kind = 1 then
    let m := p.manifest
    let b : FwBank := { version := m.fwVersion, formatWrite := m.formatWrite, formatCompat := m.formatCompatMin, minFrom := m.fwMinFrom, valid := ok }
    s.modFlash (fun x => { x with fw := x.fw.set p.target b })
  else if p.kind = 2 then
    (match f.voicing with
    | some (i, chk) => s.modFlash (fun x => { x with slots := x.slots.set p.target { image := some i, check := chk, verified := ok, atRest := false } })
    | none => s)
  else s.modStop p.target (fun y => { y with staged := if ok then f.stop else none })

/-- A package that passed: VERIFIED, and what its commit action adds. -/
def State.verified (p : Package) (v : Option Verify) (f : VerifyFound) (s : State) : State :=
  let s := (s.placePackage p f true).keepWrite (fun k => { k with verifying := false, stage := if k.stage = 3 ∨ k.stage = 4 then k.stage else 2, result := 1 })
  let s := s.modFlash (fun x => { x with verify := none })
  match v with
  | none => s
  | some v =>
    if v.action = 1 then
      (s.keepWrite (fun k => { k with activateNext := true, trialBank := p.target, trialVersion := (s.fwBank p.target).version, autoConfirm := v.auto })).complete v.ctx .success 0
    else if v.action = 3 ∧ p.kind = 1 then
      if s.quiesceBusy || !s.serving then s.complete v.ctx stSequence 0 else s.startDevEpoch 1 (.activate p.target v.auto) (some v.ctx)
    else if v.action = 3 ∧ p.kind = 3 then
      (match f.stop with
      | some i =>
        if !s.serving || s.modes.epoch.isSome then s.refuseUpdate v.ctx 5 stSequence
        else
          let s := (s.keepWrite (fun k => { k with stage := if k.stage = 3 ∨ k.stage = 4 then k.stage else 0, result := 11 })).modFlash (fun x => { x with package := none })
          s.acceptLoad p.target i (some v.ctx)
      | none => s)
    else s.complete v.ctx .success 0

/-- A package that failed stays in flash: IDLE with RESULT 9. -/
def State.notVerified (code : Nat) (v : Option Verify) (s : State) : State :=
  -- a Commit of CA 2 verifies a bank: a package being received beside it goes on
  let other := match v, s.flash.package with
    | some v, some p => v.action == 2 && !(p.kind == 1 && p.target == v.bank)
    | _, _ => false
  let s := s.keepWrite (fun k => { k with verifying := false, stage := if k.stage = 3 ∨ k.stage = 4 ∨ other = true then k.stage else 0, result := 9 })
  let s := s.modFlash (fun x => { x with verify := none, package := if other then x.package else none })
  match v with
  | none => s
  | some v => s.refuseUpdate v.ctx code (commitStatus code)

/-- UPDATE_VERIFICATION_COMPLETE; without a Commit it is the one resumed after a restart, as a drone while serving (R612). -/
def execUpdateVerificationComplete (f : VerifyFound) (s : State) : Host.Outcome State Fault Refusal :=
  let on := s.active && s.modes.flush.isNone || (s.flash.verify.isSome && s.modes.mode == .safeHold)
  if !s.keep.verifying || !on then .next s
  else
    let v := s.flash.verify
    if (v.map (fun x => x.action)) == some 2 then
      let b := (v.map (fun x => x.bank)).getD 0
      let k := s.fwBank b
      let code := if !f.blocksOk then 7 else if !s.sigsOk f.compileSig f.operatorSig then 8
        else if (s.fwBank s.keep.fwActive).version.toNat < k.minFrom.toNat then 9 else if s.flash.formatSet < k.formatCompat then 10 else 0
      if code ≠ 0 then .next (s.notVerified code v)
      else
        let s := s.keepWrite (fun y => { y with verifying := false, result := 1, activateNext := true, trialBank := b, trialVersion := k.version })
        let s := s.modFlash (fun x => { x with verify := none })
        .next (match v with
          | some y => s.complete y.ctx .success 0
          | none => s)
    else match s.flash.package with
    | none => .next (s.notVerified 5 v)
    | some p =>
      let code := s.verifyCode p f
      if code = 0 then .next (s.verified p v f)
      else .next (s.placePackage p f false |>.notVerified code v)

/-- TRIAL_AUTO_CONFIRM: 24 h without a fault (R608). -/
def execTrialAutoConfirm (s : State) : Host.Outcome State Fault Refusal :=
  if s.keep.stage = 4 ∧ s.keep.autoConfirm = true ∧ s.keep.trialStart ≠ 0 ∧ s.active = true then
    .next ((s.notBefore (s.part.rtcZero + ((s.keep.trialStart + 86400) * 1000 - s.part.rtcBase) * 1000)).confirmTrial 4)
  else .next s

end Sys2Proof.Machine
end

