-- ==== Sys2Proof/Machine/DevEpochs.lean ====
section
/-! DEFINITION. Device epochs, maintenance holds, self-tests and Voicing Select (02, 03, 17, 18). -/
namespace Sys2Proof.Machine

/-! ## Maintenance hold (R92, R95, R97) -/

/-- A hold of 1 to 600 s, asked by management: its status, and the state after. -/
def State.hold (seconds : Nat) (s : State) : Status × State :=
  if seconds = 0 ∨ 600 < seconds then (stInvalidField, s)
  else if s.quiesceBusy || !s.serving || s.hostFenced then (stSequence, s)
  else (.success, (s.enterQuiesce 6).modModes (fun m => { m with hold := some (s.now + seconds * 1000000) }))

/-- QUIESCE ends with the hold. -/
def State.endHold (s : State) : State := (s.modModes (fun m => { m with hold := none })).leaveQuiesce
def State.releaseHold (s : State) : Status × State :=
  if s.modes.hold.isSome then (.success, s.endHold) else (stSequence, s)

/-- What management asked is answered. -/
def answerMi (r : Status × State) : State := r.2.emit (.mi r.1 0)
/-- MAINTENANCE_HOLD: management's, from the end of bring-up step 2 (R24). -/
def execMaintenanceHold (seconds : Nat) (s : State) : Host.Outcome State Fault Refusal := .next (if s.miThere then answerMi (s.hold seconds) else s)
/-- MAINTENANCE_HOLD_RELEASE. -/
def execMaintenanceHoldRelease (s : State) : Host.Outcome State Fault Refusal := .next (if s.miThere then answerMi s.releaseHold else s)

/-- MAINTENANCE_HOLD_EXPIRY. -/
def execMaintenanceHoldExpiry (s : State) : Host.Outcome State Fault Refusal :=
  match s.modes.hold with
  | some t => .next (s.notBefore t).endHold
  | none => .next s

/-! ## Device self-test (R96) -/

/-- A Device Self-test of one code. -/
def State.selfTestOf (id code : Nat) (go : State → State) (s : State) : State :=
  s.admin id 0x14 (fun x s => if bits x.sqe.cdw10 3 0 ≠ code then s else go s)

/-- DEVICE_SELF_TEST_SHORT: patrol scrub of a sample of rows, while serving. -/
def execDeviceSelfTestShort (c : Nat) (s : State) : Host.Outcome State Fault Refusal :=
  .next (s.selfTestOf c 1 (fun s =>
    if s.modes.selfTest.isSome then s.complete c (stSpecific 0x1D) 0
    else if !s.serving then s.complete c stSequence 0
    else (s.modModes (fun m => { m with selfTest := some { extended := false, start := s.now } })).complete c .success 0))

/-- DEVICE_SELF_TEST_EXTENDED. -/
def execDeviceSelfTestExtended (c : Nat) (s : State) : Host.Outcome State Fault Refusal :=
  .next (s.selfTestOf c 2 (fun s =>
    if s.quiesceBusy || !s.serving then s.complete c stSequence 0
    else if s.modes.selfTest.isSome then s.complete c (stSpecific 0x1D) 0
    else ((s.enterQuiesce 5).modModes (fun m => { m with selfTest := some { extended := true, start := s.now } })).complete c .success 0))

/-- A self-test ends with a result, and the QUIESCE of an extended one with it. -/
def State.endTest (result : Nat) (s : State) : State :=
  match s.modes.selfTest with
  | none => s
  | some t =>
    let s := s.modModes (fun m => { m with selfTest := none, testLog := ((if t.extended then 2 else 1, result) :: m.testLog).take 20 })
    if t.extended then s.leaveQuiesce else s

/-- DEVICE_SELF_TEST_ABORT. -/
def execDeviceSelfTestAbort (c : Nat) (s : State) : Host.Outcome State Fault Refusal :=
  .next (s.selfTestOf c 15 (fun s => (s.complete c .success 0).endTest 1))

/-- EXTENDED_SELF_TEST_END: finished, or 10 minutes are over. -/
def execExtendedSelfTestEnd (result : Nat) (s : State) : Host.Outcome State Fault Refusal :=
  match s.modes.selfTest with
  | some t => .next (if t.extended then s.endTest (result % 16) else s)
  | none => .next s

/-! ## The drain (R92 to R94, R104) -/

/-- Commands that begin a boundary of an instance or of a stop: one that has not begun waits until QUIESCE is left. -/
def boundaryOpcodes : List Nat := [0xC1, 0xC4, 0xC5, 0xC8, 0xD1, 0xD4, 0xD5]
/-- A command the drain of a device epoch does not wait for: the one that started it, one that waits for its boundary, and a Change
Share whose drain the epoch absorbs. -/
def State.drainExempt (s : State) (c : Ctx) : Bool :=
  (match s.modes.epoch with
    | some e => e.ctx == some c.id
    | none => false) ||
  (c.admin && boundaryOpcodes.contains c.sqe.opcode && c.phase == .ready) || (c.admin && c.sqe.opcode == 0xC5 && c.phase == .drain)
/-- The drain is over: every other command has completed and no stop load is under way. -/
def State.drained (s : State) : Bool :=
  s.ctxs.all (fun c => c.phase == .posted || s.drainExempt c) && stopNos.all (fun n => (s.stop n).epoch.isNone)

/-- A command whose service waits on something other than the media (R94); an admin command, on commands that wait so. -/
def State.waitsElsewhere (s : State) (c : Ctx) : Bool :=
  let parked := s.makeRoom.isNone && s.mc.parked.any (fun f => f.ctxs.contains c.id)
  match c.phase with
  | .stop => true
  | .space => true
  | .order => !s.mayAck || parked
  | .program => (!s.mayAck || parked) && !c.placed.any (fun p => s.inStripe p.mun)
  | .drain => c.admin && [0x00, 0x0D, 0x80, 0xCB].contains c.sqe.opcode && !s.drainExempt c
  | .media => parked
  | _ => false

/-- DRAIN_INTERRUPT_TIMEOUT: 100 ms after fetch stopped, they complete with Command Interrupted; a write may have taken effect unit by unit. -/
def execDrainInterruptTimeout (s : State) : Host.Outcome State Fault Refusal :=
  if s.modes.mode != .quiesce then .next s
  else
    let s := s.notBefore (s.modes.quiesceAt + 100000)
    let cs := s.ctxs.filter (fun c => c.mover.isNone && s.waitsElsewhere c)
    .next ((cs.foldl (fun t c =>
      if c.admin then t.complete c.id stInterrupted 0 else
      let t := if c.undo.isEmpty then t.endWrite c else t
      (t.modCache (fun x => { x with waiting := x.waiting.filter (fun i => !(i == c.id)) })).endCaught c.id stInterrupted) s).retry)

/-! ## What a device epoch applies -/

/-- Step 7 of every device epoch: its number increments, unless it did so at an earlier commit point, and the module serves again. -/
def State.endDevEpoch (s : State) : State :=
  let counted := (s.modes.epoch.map (·.committed)).getD false
  (s.modModes (fun m => { m with epoch := none, deviceEpoch := if counted then m.deviceEpoch else m.deviceEpoch + 1 })).leaveQuiesce

/-- The command that started the epoch completes. -/
def State.answerEpoch (e : DevEpoch) (dw0 : Nat) (s : State) : State :=
  match e.ctx with
  | some id => s.complete id .success (BitVec.ofNat 32 dw0)
  | none => s

/-- A Crypto Erase of every namespace completes once the bands of earlier key tables are erased (R586). -/
def State.answerErase (e : DevEpoch) (s : State) : State :=
  match e.ctx with
  | some id => (s.modCtx id (fun c => { c with phase := .seal s.jrn.sealedEpoch, dw0 := 0 })).completeSealed id
  | none => s

/-- A port retrains: its link goes through Detect, which resets every instance on it (R118, R122, R198). -/
def State.retrain (p : Nat) (s : State) : State :=
  let s := s.ctlReset p true
  let v := s.vport p
  s.modPort p (fun t => if t.perst then t else { t with
    link := if v.enable then .training else .disabled, speed := 0, width := 0, cfgReady := t.cfgReady && v.enable
    common := v.clocking == .common, measuring := v.enable && v.clocking == .automatic })

/-- Bays of a new geometry: its members and spares are powered and trained, the others opened. -/
def State.placePods (s : State) : State :=
  s.each (List.range 144) (fun l t =>
    if t.toPower l then
      let spare := t.image.geometry.spares.contains l
      if (t.pod l).powered then t.modPod l (fun p => { p with role := if spare then (if p.verified then 2 else 3) else 1 })
      else ((t.emit (.bay l true)).modPod l (fun p => { p with powered := true, role := if spare then 3 else 1 })).modLink l (fun x =>
        { onSpare := x.onSpare, state := 1, trying := if (t.desc l).protocolMax = 1 then 2 else 3 })
    else if (t.pod l).powered then
      ((t.podOff l).modPod l (fun p => { p with role := 0 })).modLink l (fun x => { onSpare := x.onSpare })
    else t.modPod l (fun p => { p with role := 0 }))

/-- Bindings that a class F change ended: their stops stand READY (R474). -/
def State.unboundReady (s : State) : State :=
  s.each stopNos (fun n t => if (t.stop n).state = 3 ∧ (t.binding n).mode = 0 then t.modStop n (fun x => { x with state := 2 }) else t)

/-- A voicing change: recorded, answered, applied (R64, R69, R71 to R73). -/
def State.applyVoicing (e : DevEpoch) (slot cls ports : Nat) (s : State) : State :=
  match (s.vslot slot).image with
  | none => s.endDevEpoch
  | some i =>
    let s := s.keepWrite (fun k => { k with pending := slot, pendingValid := true, formatIntent := cls == 3, pendingKey := i.formatKey.setWidth 48 })
    let s := s.answerEpoch e (cls + ports * 65536)
    let s := if cls = 3 then
        let t := (s.formatMedia i).useSlot slot 0 1
        let t := (t.modModes (fun m => { m with fenced := false })).setDegrade dgFenced false
        let t := t.allPorts (fun p u => u.fitZero p)
        ((t.unboundReady.placePods).countPods).eraseOwed.setLimit
      else (s.applyImage i).modFlash (fun f => { f with loaded := slot, source := 0, vstate := 1 })
    let s := s.keepWrite (fun k => { k with previous := k.active, active := slot, pendingValid := false, formatIntent := false })
    let s := s.each ((List.range 8).filter (fun p => ports / 2 ^ p % 2 == 1)) (fun p t => t.retrain p)
    s.endDevEpoch

/-- The commit point of an activation or a revert in place: the next bring-up runs the new device epoch (R107); the partition then restarts from ROM, uncounted (R600, R601, R607, R609). -/
def State.commitActivation (e : DevEpoch) (f : Keep → Keep) (s : State) : State :=
  let s := s.keepWrite f
  let s := s.modPart (fun p => { p with restarting := true, challenges := [] })
  s.modModes (fun m => { m with epoch := some { e with committed := true, start := s.now }, deviceEpoch := m.deviceEpoch + 1 })

/-- A change of readout protection level: commit point, response, then the change itself (R579 to R581). -/
def State.applyRpl (level : Nat) (src : MbSource) (seq : W32) (s : State) : State :=
  let hdr : MbHdr := { src := src, seq := seq }
  if level = 0 then
    let s := (s.keepWrite (fun k => { k with lowering := true })).mbAnswer 0x0020 hdr 0 true []
    let s := s.finishLower
    (s.modModes (fun m => { m with epoch := none, deviceEpoch := m.deviceEpoch + 1 })).startBringup
  else
    let s := (s.keepWrite (fun k => { k with raising := true, raiseTo2 := level == 2 })).mbAnswer 0x0020 hdr 0 true []
    s.finishRaise.endDevEpoch.mbTakeQueue

/-- DEVICE_EPOCH_DRAIN_END: the journal epoch is sealed, the device epoch record follows it, the change is applied and a share change under
way with it (R104, R106). -/
def execDeviceEpochDrainEnd (s : State) : Host.Outcome State Fault Refusal :=
  match s.modes.epoch with
  | none => .next s
  | some e =>
    if e.committed || s.modes.mode != .quiesce || !s.drained then .next s
    else
      let s := s.sealNow
      let s := s.each ((s.insts.filter (fun (x : Nat × Inst) => x.2.change.isSome)).map (fun (x : Nat × Inst) => x.1)) (fun k t => t.applyChange k)
      match e.act with
      | .formatAll f =>
        let s := (s.live.nss.map (fun (x : Nat × Ns) => x.2)).foldl (fun t v => t.formatNs f v) s
        .next ((s.sealNow.answerEpoch e 0).endDevEpoch)
      | .eraseAll new =>
        let s := s.eraseKeys new ((s.live.nss.map (fun (x : Nat × Ns) => x.2)).filter (fun v => v.spec.encrypt))
        .next ((s.sealNow.answerErase e).endDevEpoch)
      | .voicing slot cls ports => .next (s.applyVoicing e slot cls ports)
      | .rpl level src seq => .next (s.applyRpl level src seq)
      | .activate bank auto =>
        .next (s.commitActivation e (fun k => { k with
          stage := 3, trialValid := true, trialBank := bank, trialVersion := (s.fwBank bank).version, trialCount := 0, bootOnce := false
          activateNext := false, autoConfirm := auto, oldArea := (s.fwBank bank).formatWrite != s.flash.formatSet }))
      | .revert => .next (s.commitActivation e (fun k => { k with bootOnce := true, trialCount := 3 }))

/-- ACTIVATION_SERVE: the new firmware serves (R600, R601, R607). -/
def execActivationServe (s : State) : Host.Outcome State Fault Refusal :=
  match s.modes.epoch with
  | none => .next s
  | some e =>
    if !e.committed then .next s
    else
      let s := s.spRestartComplete
      let s := match e.act with
        | .revert =>
          let s := s.keepWrite (fun k => { k with stage := 0, result := 7, trialValid := false, bootOnce := false, trialCount := 0, autoConfirm := false, trialStart := 0, oldArea := false })
          (s.modFlash (fun f => { f with running := s.keep.fwActive })).modPart (fun p => { p with expiries := [] })
        | _ =>
          let s := s.keepWrite (fun k => { k with stage := 4, result := 2, bootOnce := false, trialCount := 0, trialStart := if k.autoConfirm then s.rtc / 1000 else 0 })
          s.modFlash (fun f => { f with running := s.keep.trialBank })
      let s := s.modPart (fun p => { p with wdtLast := 0, wdtAt := s.now })
      .next ((s.reportResult.answerEpoch e 0).endDevEpoch)

/-- ACTIVATION_TIMEOUT: 1 s after the commit point the partition handles it as a watchdog expiry in ACTIVATING (R602). -/
def execActivationTimeout (s : State) : Host.Outcome State Fault Refusal :=
  match s.modes.epoch with
  | none => .next s
  | some e => .next (if e.committed then (s.notBefore (e.start + 1000000)).watchdogExpires else s)

/-! ## Voicing Select (R66 to R69) -/

/-- CLASS, PORTS and REFUSAL of a change to a slot. -/
def State.voicingAnswer (slot : Nat) (ack : Bool) (s : State) : Nat × Nat × Nat :=
  match (s.vslot slot).image with
  | none => (0, 0, 1)
  | some i =>
    let cls := changeClass s.image i
    let ports := (changePorts s.image i).foldl (fun n p => n + 2 ^ p) 0
    let other := match s.modes.epoch with
      | some e => e.cause == 2
      | none => false
    let r :=
      if s.checkSlot slot ≠ 0 then 1
      else if cls = 3 ∧ !ack then 2
      else if s.shrinks i then 3
      else if other then 5
      else if !s.serving ∨ (s.modes.fenced ∧ cls ≠ 3) then 4
      else if s.onTrial then 5
      else 0
    (cls, ports, r)

/-- Both forms of Voicing Select; reserved bits are checked first. FAIL_MASK and LAST_CHECK keep the check a slot failed (02); nothing else of a refused
or dry one stays (R67). -/
def State.voicingSelect (id : Nat) (dry : Bool) (s : State) : State :=
  s.admin id 0xD8 (fun x s =>
    if x.sqe.cdw10.getLsbD 9 != dry then s
    else if bits x.sqe.cdw10 7 2 ≠ 0 ∨ bits x.sqe.cdw10 31 10 ≠ 0 then s.completeBad id
    else
      let slot := bits x.sqe.cdw10 1 0
      let a := s.voicingAnswer slot (x.sqe.cdw10.getLsbD 8)
      let s := if a.2.2 = 1 then s.failSlot slot (s.checkSlot slot) else if a.2.2 = 3 then s.failSlot slot 7 else s
      let dw0 := BitVec.ofNat 32 (a.1 + a.2.2 * 256 + a.2.1 * 65536)
      if a.2.2 ≠ 0 then s.complete id (if a.2.2 ≤ 3 then stInvalidField else stSequence) dw0
      else if dry ∨ a.1 = 0 then s.complete id .success dw0
      else s.startDevEpoch 2 (.voicing slot a.1 a.2.1) (some id))

/-- VOICING_SELECT. -/
def execVoicingSelect (c : Nat) (s : State) : Host.Outcome State Fault Refusal := .next (s.voicingSelect c false)
/-- VOICING_SELECT_DRY_RUN. -/
def execVoicingSelectDryRun (c : Nat) (s : State) : Host.Outcome State Fault Refusal := .next (s.voicingSelect c true)

end Sys2Proof.Machine
end

