-- ==== Sys2Proof/Machine/Drones.lean ====
section
/-! DEFINITION. Drones, the telemetry snapshot and the event recorder (03, 04, 19). -/
namespace Sys2Proof.Machine

/-! ## Drones (R614 to R616) -/

/-- Drones 0 to 10 do no work: before SERVICE or DEGRADED, in SAFE-HOLD, in a flush, in PS4 (R616). -/
def State.droneHeld (s : State) : Bool := !s.active || !s.modes.served || s.modes.flush.isSome || s.modes.ps == 4
/-- Minimum and maximum budget of a drone. -/
def State.droneBudget (s : State) (d : Nat) : Nat × Nat := s.image.drones.getD d (0, 0)
/-- A drone its own chapter raises to its maximum: checkpoints past 12 GiB of journal window (R261), calibration of a slow die (R347). -/
def State.droneRaised (s : State) (d : Nat) : Bool :=
  if d = 6 then decide (12 * 2 ^ 30 < s.windowBytes) else d == 1 && ((s.drone 1).raised || s.dies.any (fun (e : Nat × Die) => e.2.late))
/-- A drone is late (R615). -/
def State.droneLate (s : State) (d : Nat) : Bool := decide (3600 < (s.drone d).lagS) || s.droneRaised d

/-- One drone's stand in a pass: its number, its weight, what it may still take, what it has. -/
structure Claim where
  d : Nat
  weight : Nat
  limit : Nat
  got : Nat
  deriving DecidableEq, Repr

/-- The drone served next: the one whose next unit stands least against its weight (DESIGN CHOICE, log entry 50). -/
def nextClaim (cs : List Claim) : Option Claim :=
  (cs.filter (fun c => decide (c.got < c.limit))).foldl (fun b c => match b with
    | none => some c
    | some x => if (c.got + 1) * x.weight < (x.got + 1) * c.weight then some c else some x) none
/-- A pass shares at most `n` units. Answers the claims and the units left. -/
def dronePass : Nat → List Claim → List Claim × Nat
  | 0, cs => (cs, 0)
  | n + 1, cs => match nextClaim cs with
    | none => (cs, n + 1)
    | some c => dronePass n (cs.map (fun (x : Claim) => if x.d == c.d then { x with got := x.got + 1 } else x))

/-- The three passes of R614 over drones of one kind of time. -/
def State.shareTime (s : State) (time : Nat) (want : List (Nat × Nat)) : List Claim :=
  let cap := fun (lim : Claim → Nat) (cs : List Claim) => cs.map (fun (c : Claim) => { c with limit := lim c })
  let wanted := fun (d : Nat) => ((want.find? (fun w => w.1 == d)).map (·.2)).getD 0
  let cs := want.map (fun w => ({ d := w.1, weight := (s.droneBudget w.1).1, limit := 0, got := 0 } : Claim))
  let p1 := dronePass time (cap (fun c => min (wanted c.d) (s.droneBudget c.d).1) cs)
  let full := fun (c : Claim) => min (wanted c.d) (s.droneBudget c.d).2
  let p2 := dronePass p1.2 (cap (fun c => if s.droneLate c.d then full c else c.got) p1.1)
  (dronePass p2.2 (cap full p2.1)).1

/-- A drone's lag is taken, and a change of LATE is posted (R615). -/
def State.noteLag (d lag : Nat) (s : State) : State :=
  let was := (s.drone d).late
  let s := s.modDrone d (fun x => { x with lagS := min lag 0xFFFFFFFF, raised := false })
  let now := s.droneLate d
  let s := s.modDrone d (fun x => { x with late := now, raised := s.droneRaised d })
  if now && !was then s.report (srcFirmware 0) 0x0F01 d lag
  else if was && !now then s.report (srcFirmware 0) 0x0F02 d lag else s

/-- DRONE_WINDOW: a window of 100 ms begins. `drones`: each drone's lag and the time its work would take; `dieTime`, `coreTime`: the
time the drone class and the core-time drones are given in it. -/
def execDroneWindow (dieTime coreTime : Nat) (drones : List (Nat × Nat)) (s : State) : Host.Outcome State Fault Refusal :=
  if s.modes.mode == .keep || s.modes.flush.isSome then .next s else
  let s := s.each (List.range 11) (fun d t => t.noteLag d ((drones.getD d (0, 0)).1))
  let want := fun (ds : List Nat) => ds.map (fun (d : Nat) => (d, (drones.getD d (0, 0)).2))
  let got := if s.droneHeld then []
    else (s.shareTime (min dieTime 1024) (want [0, 1, 2, 3, 4, 5]) ++ s.shareTime (min coreTime 1024) (want [6, 7, 8])).map (fun (c : Claim) => (c.d, c.got)) ++
      (want [9, 10]).map (fun (w : Nat × Nat) => (w.1, min w.2 (s.droneBudget w.1).2))
  .next (s.each (List.range 11) (fun d t => t.modDrone d (fun x => { x with grant := ((got.find? (fun (g : Nat × Nat) => g.1 == d)).map (·.2)).getD 0 })))

/-- PS4_DRONE_EXCURSION: a drone more than 1 h behind takes the module to PS3 until it has run (R113). -/
def execPs4DroneExcursion (finished : Bool) (s : State) : Host.Outcome State Fault Refusal :=
  let far := (List.range 11).any (fun d => decide (3600 < (s.drone d).lagS))
  if !s.active || s.modes.flush.isSome then .next s
  else if finished then
    .next (if s.modes.excursion && s.modes.ps == 3 then s.modModes (fun m => { m with ps := 4, excursion := false }) else s)
  else .next (if s.modes.ps == 4 && far then s.modModes (fun m => { m with ps := 3, excursion := true }) else s)

/-! ## Telemetry (R132, R619, R623) -/

/-- A number put into an ascending list. -/
def insertNat (x : Nat) : List Nat → List Nat
  | [] => [x]
  | y :: r => if x ≤ y then x :: y :: r else y :: insertNat x r
def sortNat (xs : List Nat) : List Nat := xs.foldr insertNat []

/-- The value a fraction of the list does not exceed, by nearest rank (DEDUCED, log entry 51); 0 for an empty list. -/
def percentile (num den : Nat) (xs : List Nat) : Nat := (sortNat xs).getD ((xs.length * num + den - 1) / den - 1) 0

/-- HV_RD_LAT: median and 99.99 % of the 4 KiB reads of the last second, 100 ns. -/
def State.readLat (s : State) (p : Nat) : W64 :=
  let xs := ((s.port p).lats.filter (fun x => decide (s.now < x.1 + 1000000))).map (·.2)
  image64 [(0, 32, min (percentile 1 2 xs * 10) 0xFFFFFFFF), (32, 32, min (percentile 9999 10000 xs * 10) 0xFFFFFFFF)]

/-- ID_SPARE_RESERVE: a field reads 0 until it has been restored (R25). -/
def State.idSpareReserve (s : State) : W64 :=
  let x := s.spares
  let on := s.modes.step ≥ 3
  let f := fun (n : Nat) => if on then n else 0
  image64 [(0, 3, f x.cores), (3, 4, f x.ldpc), (7, 3, f x.movers), (10, 5, f x.xcvr), (15, 4, if s.modes.step ≥ 11 then x.pods else 0),
    (19, 5, f x.stopCols), (32, 15, f x.setsSpent)]

/-- Log page 0xE9, as the state stands now. -/
def State.sparePage (s : State) : Layout :=
  let x := s.spares
  let low := ((s.links.filter (fun (e : Nat × Link) => e.2.state == 2 && e.2.rate < 3)).length)
  { size := 64
    fields := [⟨0x00, 0, 64, s.idSpareReserve.toNat⟩, ⟨0x08, 0, 8, 4 - x.cores⟩, ⟨0x09, 0, 8, 8 - x.ldpc⟩, ⟨0x0A, 0, 8, 4 - x.movers⟩,
      ⟨0x0B, 0, 8, x.xcvrTaken⟩, ⟨0x0C, 0, 8, x.colsTaken⟩, ⟨0x0D, 0, 8, x.ddrSpared⟩, ⟨0x0E, 0, 16, min x.sramRows 65535⟩, ⟨0x10, 0, 32, x.waysOff⟩,
      ⟨0x14, 0, 16, low⟩, ⟨0x16, 0, 8, (x.cores == 0).toNat + 2 * (x.ldpc == 0).toNat + 4 * (x.movers == 0).toNat + 8 * (x.xcvr == 0).toNat⟩,
      ⟨0x38, 0, 64, x.lastTime⟩] }

/-- TELEMETRY_SNAPSHOT: every 100 ms, by drone 7. HV_TELEM_SEQ is odd only while the row runs. -/
def execTelemetrySnapshot (s : State) : Host.Outcome State Fault Refusal :=
  if s.droneHeld then .next s else
  let s := s.allPorts (fun p t => t.modPort p (fun q => { q with seqNo := q.seqNo + 2, snap := { q.run with rdLat := t.readLat p } }))
  .next (s.modSpares (fun x => { x with page := some s.sparePage }))

/-! ## The recorder (R625, R626) -/

/-- Entries of the ring. -/
def ringSize : Nat := 65536

/-- The ring can take an entry without overwriting one that has not been persisted. -/
def Events.room (v : Events) : Bool :=
  decide (v.ring.length < ringSize) || (match v.ring with
    | [] => true
    | e :: _ => decide (e.seq ≤ v.persisted))

/-- An entry is written; it carries its source's lost count and clears it. -/
def Events.write (r : Report) (folded : Nat) (v : Events) : Events :=
  let q := v.sources.get {} r.source
  let e : JEntry := { seq := v.lastSeq + 1, report := r, coalesced := folded, lost := min q.lost 65535 }
  let ring := if v.ring.length < ringSize then v.ring else v.ring.drop 1
  { v with ring := ring ++ [e], lastSeq := v.lastSeq + 1, sources := v.sources.set r.source { q with lost := 0 } }

/-- The coalescing counters a source owes are written and cleared, while the ring has room. -/
def Events.writeCoals (src : Nat) : List Coal → Events → Events
  | [], v => { v with sources := v.sources.set src { v.sources.get {} src with coals := [], owes := false } }
  | c :: r, v =>
    if v.room then Events.writeCoals src r (v.write c.report c.count)
    else { v with sources := v.sources.set src { v.sources.get {} src with coals := c :: r, owes := true } }

/-- The entry a source has waited longest to hand over, with its counters after it. -/
def Events.takeFrom (src : Nat) (v : Events) : Events :=
  let q := v.sources.get {} src
  let v := if q.owes then v.writeCoals src q.coals else v
  let q := v.sources.get {} src
  match q.fifo with
  | [] => v
  | r :: rest =>
    if !v.room || q.owes then v else
    let v := { v with sources := v.sources.set src { q with fifo := rest } }
    let v := v.write r 0
    v.writeCoals src (v.sources.get {} src).coals

/-- Sources in round-robin order from a position. -/
def Events.order (v : Events) : List Nat := (List.range 52).map (fun i => (v.next + i) % 52)

/-- EVENT_RECORDER_TAKE: from the next source that holds entries. -/
def execEventRecorderTake (s : State) : Host.Outcome State Fault Refusal :=
  if s.modes.mode == .keep || !s.ev.room then .next s else
  match s.ev.order.find? (fun i => let q := s.ev.sources.get {} i; q.owes || !q.fifo.isEmpty) with
  | none => .next s
  | some i => .next { s with ev := { s.ev.takeFrom i with next := (i + 1) % 52 } }

end Sys2Proof.Machine
end

