-- ==== Sys2Proof/Machine/Features.lean ====
section
/-! DEFINITION. Features, Abort, asynchronous event requests, and the power states' autonomous transitions and entries (03 to 05, 16, 17). -/
namespace Sys2Proof.Machine

/-! ## Keeping values -/

/-- Features whose value can be saved: those the manual gives no value after a controller reset, the queue count and the clock left out (DEDUCED, log entry 52). -/
def saveable (fid : Nat) : Bool := [0x01, 0x05, 0x08, 0x09, 0x0A, 0x0C].contains fid

/-- A feature's value is kept over controller resets and power. -/
def State.save (p key : Nat) (v : W32) (s : State) : State := s.modPort p (fun t => { t with saved := t.saved.set key v })

/-- The effect of Set Features of one identifier; SV on a feature that cannot be saved is refused (R661). -/
def State.setFeature (id fid : Nat) (go : Ctx → State → State) (s : State) : State :=
  s.admin id 0x09 (fun c s =>
    if c.sqe.fid ≠ fid then s
    else if c.sqe.sv && !saveable fid then s.complete id (stSpecific 0x0D) 0
    else go c s)

/-- Set Features of a feature that only keeps its value. -/
def State.keepFeature (id fid : Nat) (f : W32 → Port → Port) (s : State) : State :=
  s.setFeature id fid (fun c s =>
    let s := if c.sqe.sv then s.save c.port fid c.sqe.cdw11 else s
    (s.modPort c.port (f c.sqe.cdw11)).complete id .success 0)

/-! ## Set Features (R189 and the rules it names) -/

/-- SET_FEATURES_ARBITRATION: accepted; arbitration stays round robin (R135). -/
def execSetFeaturesArbitration (c : Nat) (s : State) : Host.Outcome State Fault Refusal :=
  .next (s.keepFeature c 0x01 (fun v t => { t with arb := v }))

/-- SET_FEATURES_POWER_MGMT: complete once recorded (R181). -/
def execSetFeaturesPowerMgmt (c : Nat) (s : State) : Host.Outcome State Fault Refusal :=
  .next (s.setFeature c 0x02 (fun x s =>
    let ps := bits x.sqe.cdw11 4 0
    if 4 < ps then s.complete c stInvalidField 0
    else ((s.modPort x.port (fun t => { t with reqPs := ps, psLapsed := false })).complete c .success 0).reviewPs))

/-- TMPSEL and THSEL name a threshold kept: of the composite, over or under (R552). -/
def tempSel (w : W32) : Option Bool :=
  if bits w 19 16 = 0 ∧ bits w 21 20 ≤ 1 then some (decide (bits w 21 20 = 1)) else none

/-- SET_FEATURES_TEMP_THRESHOLD. -/
def execSetFeaturesTempThreshold (c : Nat) (s : State) : Host.Outcome State Fault Refusal :=
  .next (s.setFeature c 0x04 (fun x s =>
    let k := bits x.sqe.cdw11 15 0
    match tempSel x.sqe.cdw11 with
    | none => if 2 ≤ bits x.sqe.cdw11 21 20 then s.completeBad c else s.complete c stInvalidField 0
    | some under => ((s.modPort x.port (fun t => if under then { t with tempUnder := k } else { t with tempOver := k })).postTemp s).complete c .success 0))

/-- SET_FEATURES_ERROR_RECOVERY: TLER is ignored, DULBE stays 0. -/
def execSetFeaturesErrorRecovery (c : Nat) (s : State) : Host.Outcome State Fault Refusal :=
  .next (match s.ctx c with
    | some x => if x.sqe.cdw11.getLsbD 16 then s.setFeature c 0x05 (fun _ s => s.complete c stInvalidField 0)
      else s.keepFeature c 0x05 (fun v t => { t with errRec := v })
    | none => s)

/-- Queues of an instance, each kind less 1, where its share bounds what was asked for (R127). -/
def grantQueues (share asked : Nat) : Nat := min asked (share - 1)
def queuesWord (a b : Nat) : W32 := BitVec.ofNat 32 (b * 65536 + a)

/-- SET_FEATURES_NUMBER_OF_QUEUES: of instance 0. -/
def execSetFeaturesNumberOfQueues (c : Nat) (s : State) : Host.Outcome State Fault Refusal :=
  .next (s.setFeature c 0x07 (fun x s =>
    let a := bits x.sqe.cdw11 15 0
    let b := bits x.sqe.cdw11 31 16
    let share := (s.dinst (instKey x.port 0)).share.queuePairs
    if a = 65535 ∨ b = 65535 then s.complete c stInvalidField 0
    else
      let g := (grantQueues share a, grantQueues share b)
      (s.modPort x.port (fun t => { t with queuesSet := some g })).complete c .success (queuesWord g.1 g.2)))

/-- Interrupt Coalescing and Interrupt Vector Configuration of an instance. -/
def State.setCoalesce (k : Nat) (v : W32) (s : State) : State := s.modInst k (fun i => { i with coalesce := v })
def State.setVector (k : Nat) (v : W32) (s : State) : State := s.modInst k (fun i => { i with vecConfig := i.vecConfig.set (bits v 15 0) v })
/-- The vector index a command names is within the instance's share. -/
def State.vectorOk (s : State) (k : Nat) (v : W32) : Bool := decide (bits v 15 0 < (s.dinst k).share.vectors)

/-- SET_FEATURES_INT_COALESCING. -/
def execSetFeaturesIntCoalescing (c : Nat) (s : State) : Host.Outcome State Fault Refusal :=
  .next (s.setFeature c 0x08 (fun x s =>
    let s := if x.sqe.sv then s.save x.port 0x08 x.sqe.cdw11 else s
    (s.setCoalesce (instKey x.port 0) x.sqe.cdw11).complete c .success 0))

/-- SET_FEATURES_INT_VECTOR_CONFIG. -/
def execSetFeaturesIntVectorConfig (c : Nat) (s : State) : Host.Outcome State Fault Refusal :=
  .next (s.setFeature c 0x09 (fun x s =>
    let k := instKey x.port 0
    if !s.vectorOk k x.sqe.cdw11 then s.complete c stInvalidField 0
    else
      let s := if x.sqe.sv then s.save x.port (9 * 65536 + bits x.sqe.cdw11 15 0) x.sqe.cdw11 else s
      (s.setVector k x.sqe.cdw11).complete c .success 0))

/-- SET_FEATURES_WRITE_ATOMICITY: accepted; atomicity stays the mapping unit (R164). -/
def execSetFeaturesWriteAtomicity (c : Nat) (s : State) : Host.Outcome State Fault Refusal :=
  .next (s.keepFeature c 0x0A (fun v t => { t with atomicity := v }))

/-- SET_FEATURES_ASYNC_EVENT_CONFIG: bits 7:0 are kept, every other bit reads 0. -/
def execSetFeaturesAsyncEventConfig (c : Nat) (s : State) : Host.Outcome State Fault Refusal :=
  .next (s.keepFeature c 0x0B (fun v t => { t with asyncCfg := v &&& 0xFF }))

/-- SET_FEATURES_APST (R142). -/
def execSetFeaturesApst (c : Nat) (s : State) : Host.Outcome State Fault Refusal :=
  .next (s.setFeature c 0x0C (fun x s =>
    let es := match x.sqe.data with
      | .apst es => es
      | _ => []
    let s := if x.sqe.sv then (s.save x.port 0x0C x.sqe.cdw11).modPort x.port (fun t => { t with savedApst := some es }) else s
    (s.modPort x.port (fun t => { t with apstEn := x.sqe.cdw11.getLsbD 0, apst := es })).complete c .success 0))

/-- SET_FEATURES_TIMESTAMP: the RTC counts on from the time given (R573). -/
def execSetFeaturesTimestamp (c : Nat) (s : State) : Host.Outcome State Fault Refusal :=
  .next (s.setFeature c 0x0E (fun x s =>
    match x.sqe.data with
    | .timestamp ms => (s.modPart (fun p => { p with rtcBase := ms % 2 ^ 48, rtcZero := s.now, tsSet := true })).complete c .success 0
    | _ => s.complete c stInvalidField 0))

/-! ## Get Features (R141) -/

/-- The default value of a feature of instance `k`, with what selects within it. -/
def State.featureDefault (s : State) (k fid : Nat) (w : W32) : W32 :=
  match fid with
  | 0x04 => if tempSel w = some true then 0 else 368
  | 0x07 => let n := (s.dinst k).share.queuePairs - 1; queuesWord n n
  | 0x09 => BitVec.ofNat 32 (bits w 15 0)
  | 0x0B => 0x1F
  | _ => 0
/-- The value in force; of Power Management the state last set or entered by APST (R110, R141). -/
def State.featureNow (s : State) (k fid : Nat) (w : W32) : W32 :=
  let t := s.port (k / 128)
  match fid with
  | 0x01 => t.arb
  | 0x02 => BitVec.ofNat 32 t.reqPs
  | 0x04 => BitVec.ofNat 32 (if tempSel w = some true then t.tempUnder else t.tempOver)
  | 0x05 => t.errRec
  | 0x07 => (match t.queuesSet with
    | some g => queuesWord g.1 g.2
    | none => s.featureDefault k fid w)
  | 0x08 => (s.inst k).coalesce
  | 0x09 => (s.inst k).vecConfig.get (s.featureDefault k fid w) (bits w 15 0)
  | 0x0A => t.atomicity
  | 0x0B => t.asyncCfg
  | 0x0C => BitVec.ofNat 32 t.apstEn.toNat
  | _ => 0
/-- The value SEL asks for: current, default, saved (the default where none was saved), supported capabilities. -/
def State.featureSel (s : State) (k : Nat) (q : Sqe) : W32 :=
  match q.sel with
  | 0 => s.featureNow k q.fid q.cdw11
  | 1 => s.featureDefault k q.fid q.cdw11
  | 2 => ((s.port (k / 128)).saved.find (if q.fid = 9 then 9 * 65536 + bits q.cdw11 15 0 else q.fid)).getD (s.featureDefault k q.fid q.cdw11)
  | _ => BitVec.ofNat 32 (4 + (saveable q.fid).toNat)

/-- The APST table: entry i at 8 × i, target state and idle time. -/
def apstLayout (es : List (Nat × Nat)) : Layout :=
  ⟨256, (List.range (min es.length 32)).flatMap (fun i => let e := es.getD i (0, 0); [⟨8 * i, 3, 5, e.1⟩, ⟨8 * i, 8, 24, e.2⟩])⟩
/-- The Timestamp: RTC time, and whether a Set Features has set its origin. -/
def State.timeLayout (s : State) : Layout := ⟨8, [⟨0, 0, 48, s.rtc⟩, ⟨6, 1, 3, s.part.tsSet.toNat⟩]⟩

/-- GET_FEATURES: the value in DW0; the APST table and the Timestamp as data. -/
def execGetFeatures (c : Nat) (s : State) : Host.Outcome State Fault Refusal :=
  .next (s.admin c 0x0A (fun x s =>
    let k := instKey x.port 0
    let q := x.sqe
    let t := s.port x.port
    if q.fid = 0x04 ∧ 2 ≤ bits q.cdw11 21 20 then s.completeBad c
    else if (q.fid = 0x04 ∧ (tempSel q.cdw11).isNone) ∨ (q.fid = 0x09 ∧ !s.vectorOk k q.cdw11) then s.complete c stInvalidField 0
    else
      let s := if q.sel = 3 then s
        else if q.fid = 0x0C then s.toHost x (apstLayout (if q.sel = 0 then t.apst else if q.sel = 2 then t.savedApst.getD [] else []))
        else if q.fid = 0x0E then s.toHost x (if q.sel = 0 then s.timeLayout else ⟨8, []⟩)
        else s
      s.complete c .success (s.featureSel k q)))

/-! ## Power states (R109 to R113, R142, R181) -/

/-- A port's own commands in flight; asynchronous event requests do not count (DEDUCED, log entry 53). -/
def State.portBusy (s : State) (p : Nat) : Bool := s.ctxs.any (fun c => c.port == p && c.mover.isNone)

/-- APST_IDLE_EXPIRY. -/
def execApstIdleExpiry (p : PortId) (s : State) : Host.Outcome State Fault Refusal :=
  let t := s.port p
  let e := t.apst.getD (s.asksPs p) (0, 0)
  if s.serving && t.rdy && t.apstEn && !s.portBusy p && decide (3 ≤ e.1 ∧ e.1 ≤ 4 ∧ 0 < e.2) then
    .next (((s.notBefore (t.busyAt + e.2 * 1000)).modPort p (fun x => { x with reqPs := e.1, psLapsed := false })).reviewPs)
  else .next s

/-- No command is in flight on any port, and no submission queue holds an unfetched entry (R181). -/
def State.portsIdle (s : State) : Bool :=
  !(s.ctxs.any (fun c => c.mover.isNone)) &&
  s.insts.all (fun e => !(s.port (e.1 / 128)).rdy || e.2.sqs.all (fun q => q.2.failed || q.2.head == q.2.tail))

/-- No operation is with a pod (R109). -/
def State.diesIdle (s : State) : Bool := s.ops.all (fun (o : Op) => o.tag.isNone)
/-- The state an entry goes to: PS3 or PS4, requested and not in force; from PS3 the module goes on to PS4 (R110). -/
def State.entryTo (s : State) : Option Nat :=
  match s.wantedPs with
  | some w => if 3 ≤ w && s.modes.ps != w && !s.modes.excursion && s.serving then some w else none
  | none => none

/-- POWER_STATE_ENTRY_START: entry to PS4 begins with the write-out of the protected cache. -/
def execPowerStateEntryStart (s : State) : Host.Outcome State Fault Refusal :=
  match s.entryTo with
  | none => .next s
  | some w =>
    if !s.portsIdle || s.modes.psEntry.isSome || s.hostFenced then .next s
    else
      let s := s.modModes (fun m => { m with psEntry := some w })
      if w ≠ 4 then .next s
      else .next (s.each (List.range s.cache.stripes.length) (fun i t =>
        match t.stripe i with
        | some x => if x.used.isEmpty then t else t.closeStripe i
        | none => t))

/-- POWER_STATE_ENTRY_COMPLETE: dies idle; for PS4 the protected cache written out and the journal sealed (R109). -/
def execPowerStateEntryComplete (s : State) : Host.Outcome State Fault Refusal :=
  match s.modes.psEntry with
  | none => .next s
  | some w =>
    if s.entryTo ≠ some w ∨ !s.portsIdle ∨ !s.diesIdle then .next s
    else if w = 4 then
      if s.cache.stripes.any (fun x => !x.used.isEmpty) then .next s
      else .next (s.sealNow.modModes (fun m => { m with ps := 4, psEntry := none }))
    else .next (s.modModes (fun m => { m with ps := w, psEntry := none }))

/-! ## Asynchronous Event Request -/

/-- ASYNC_EVENT_REQUEST: up to 16 outstanding; an event that waits completes it at once. -/
def execAsyncEventRequest (c : Nat) (s : State) : Host.Outcome State Fault Refusal :=
  .next (s.admin c 0x0C (fun x s =>
    let t := s.port x.port
    if x.mi then s.complete c stInvalidField 0
    else if 16 ≤ t.aers.length then s.complete c (stSpecific 0x05) 0
    else
      let s := (s.dropCtx c).modPort x.port (fun t => { t with aers := t.aers ++ [x.sqe.cid], waitingEv := t.waitingEv.drop 1 })
      match t.waitingEv with
      | [] => s
      | e :: _ => s.answerAer x.port e))

/-! ## Abort (R171 to R175) -/

/-- A completion withheld or behind a full queue: decided, its entry not written. -/
def State.heldCqe (s : State) (k sqid cid : Nat) : Bool :=
  (s.port (k / 128)).held.any (fun e => e.1 == k % 128 && e.2.2.sqid == sqid && e.2.2.cid == cid) ||
  (s.inst k).cqs.any (fun q => q.2.held.any (fun e => e.sqid == sqid && e.cid == cid))

/-- What an Abort finds of a target: FOUND, and the context it catches. -/
def State.abortFinds (s : State) (k sqid cid : Nat) : Nat × Option Nat :=
  let admin := k % 128 == 0 && sqid == 0
  match s.ctxs.find? (fun c => c.key == k && c.qid == sqid && c.sqe.cid == cid && c.admin == admin && c.mover.isNone && !c.mi && (admin || c.gen == s.gen k)) with
  | some c => if s.catchable c then (3, some c.id) else (2, none)
  | none =>
    if s.heldCqe k sqid cid || (admin && (s.port (k / 128)).aers.contains cid) then (2, none)
    else if ((s.inst k).sqs.get {} sqid).done.contains cid then (1, none) else (0, none)

/-- An Abort of entry `q` on port `p` runs: DW0 is NOT_ABORTED and FOUND; it always completes with Success. -/
def State.abort (c p : Nat) (q : Sqe) (s : State) : State :=
  let f := s.abortFinds (instKey p (bits q.cdw11 6 0)) (bits q.cdw10 15 0) (bits q.cdw10 31 16)
  match f.2 with
  | some id => ((s.endCaught id stAborted).retry).complete c .success 6
  | none => s.complete c .success (BitVec.ofNat 32 (1 + 2 * f.1))
/-- ABORT. -/
def execAbort (c : Nat) (s : State) : Host.Outcome State Fault Refusal := .next (s.admin c 0x08 (fun x s => s.abort c x.port x.sqe))

end Sys2Proof.Machine
end

