-- ==== Sys2Proof/Machine/HostPort.lean ====
section
/-! DEFINITION. PCIe links, resets, the controller's enable and shutdown, power of the function, PASID and MSI-X (04). -/
namespace Sys2Proof.Machine

/-! ## Resets (R122) -/

/-- PERST_ASSERT. -/
def execPerstAssert (p : PortId) (s : State) : Host.Outcome State Fault Refusal :=
  .next ((s.ctlReset p true).modPort p (fun t => { t with perst := true, link := .detect, speed := 0, width := 0, cfgReady := false, measuring := false }))

/-- PERST_DEASSERT: training starts and the clocking mode is chosen; automatic mode measures first (R119). -/
def execPerstDeassert (p : PortId) (s : State) : Host.Outcome State Fault Refusal :=
  let v := s.vport p
  .next (s.modPort p (fun t =>
    if !t.perst then t
    else { t with perst := false, link := .training, common := v.clocking == .common, measuring := v.clocking == .automatic }))

/-- REFCLK_MEASURE_COMPLETE: common mode within 100 MHz ± 300 ppm, separate otherwise (R119). -/
def execRefclkMeasureComplete (p : PortId) (ppm : Option Int) (s : State) : Host.Outcome State Fault Refusal :=
  .next (s.modPort p (fun t =>
    if !t.measuring then t
    else { t with measuring := false, common := match ppm with
      | some x => decide (-300 ≤ x ∧ x ≤ 300)
      | none => false }))

/-- CONFIG_SPACE_READY. -/
def execConfigSpaceReady (p : PortId) (s : State) : Host.Outcome State Fault Refusal :=
  .next (s.modPort p (fun t => if t.perst then t else { t with cfgReady := true }))

/-- HOT_RESET. -/
def execHotReset (p : PortId) (s : State) : Host.Outcome State Fault Refusal :=
  if (s.port p).perst then .next s
  else .next ((s.ctlReset p true).modPort p (fun t => { t with link := .training, speed := 0, width := 0 }))

/-- LINK_DOWN: L0 left for Detect or Disabled (R118). -/
def execLinkDown (p : PortId) (disabled : Bool) (s : State) : Host.Outcome State Fault Refusal :=
  if (s.port p).link == .l0 || (s.port p).link == .recovery then
    .next ((s.ctlReset p true).modPort p (fun t => { t with link := if disabled then .disabled else .detect, speed := 0, width := 0 }))
  else .next s

/-- LINK_RECOVERY_ENTRY: commands stay in flight (R118). -/
def execLinkRecoveryEntry (p : PortId) (s : State) : Host.Outcome State Fault Refusal :=
  .next (s.modPort p (fun t => if t.link == .l0 then { t with link := .recovery } else t))

/-- LINK_RETURN_TO_L0: the held DMA and completions resume (R118). -/
def execLinkReturnToL0 (p : PortId) (s : State) : Host.Outcome State Fault Refusal :=
  if (s.port p).link == .recovery then .next (((s.modPort p (fun t => { t with link := .l0 })).release p).sendPending p) else .next s

/-- FLIT mode at 64 and 128 GT/s, 128b/130b at 16 and 32 GT/s (R116). -/
def Port.encoding (t : Port) : Encoding := if 6 ≤ t.speed then .flit else if 4 ≤ t.speed then .e128b130b else .none

/-- Widths of a link (R115). -/
def linkWidths : List Nat := [1, 2, 4, 8, 16]

/-- PCIE_LINK_TRAINED: an event below the voicing maximum, and one more when such a link retrains higher (R115, R117). -/
def execPcieLinkTrained (p : PortId) (gen width : Nat) (s : State) : Host.Outcome State Fault Refusal :=
  let v := s.vport p
  let pt := s.port p
  if pt.perst || !v.enable || !linkWidths.contains width || gen < 4 || v.maxSpeed < gen || v.maxWidth < width then .next s
  else
    let below := decide (gen < v.maxSpeed ∨ width < v.maxWidth)
    let higher := decide (pt.speed ≠ 0 ∧ (pt.speed < v.maxSpeed ∨ pt.width < v.maxWidth) ∧ (pt.speed < gen ∨ pt.width < width))
    let s := s.modPort p (fun t => { t with link := .l0, speed := gen, width := width })
    let s := if pt.link == .recovery then (s.release p).sendPending p else s
    .next (if below || higher then s.report (srcSequencer p) (evUnnamed 2 2) p (gen * 256 + width) else s)

/-- FUNCTION_LEVEL_RESET: the link stays as it is. -/
def execFunctionLevelReset (p : PortId) (s : State) : Host.Outcome State Fault Refusal := .next (s.ctlReset p true)

/-! ## CC.EN and shutdown (R86, R135 to R137) -/

/-- A write of the controller registers reaches the port. -/
def Port.reachable (t : Port) : Bool := t.cfgReady && !t.d3hot && (t.link == .l0 || t.link == .recovery)

/-- CC_EN_SET: another command set fails the enable with CSTS.CFS = 1 (R135); ready in SERVICE, DEGRADED and QUIESCE (R83, R137). -/
def execCcEnSet (p : PortId) (css iosqes iocqes asqs acqs : Nat) (s : State) : Host.Outcome State Fault Refusal :=
  if !(s.port p).reachable || (s.port p).ccEn then .next s
  else
    let s := s.modPort p (fun t => { t with
      ccEn := true, everEn := true, css := css % 8, iosqes := iosqes % 16, iocqes := iocqes % 16, asqs := asqs % 4096, acqs := acqs % 4096 })
    if css ≠ 0 then .next (s.modPort p (fun t => { t with cfs := true }))
    else
      let ready := s.active && !s.hostFenced
      .next (((s.adminQueues p asqs acqs).modPort p (fun t => { t with rdy := ready })).reviewPs)

/-- CC_EN_CLEAR: a controller reset that changes no configuration space (R122). -/
def execCcEnClear (p : PortId) (s : State) : Host.Outcome State Fault Refusal :=
  if !(s.port p).reachable || !(s.port p).ccEn then .next s else .next (s.ctlReset p false)

/-- SHUTDOWN_NOTIFICATION: CSTS.SHST = 01b; the port counts no longer towards the power state (R86, R110). -/
def execShutdownNotification (p : PortId) (s : State) : Host.Outcome State Fault Refusal :=
  if (s.port p).reachable && (s.port p).rdy && (s.port p).shst == 0 then .next ((s.modPort p (fun t => { t with shst := 1 })).reviewPs) else .next s

/-! ## D states, PASID, MSI-X -/

/-- D3HOT_ENTRY: completions and interrupts are withheld until D0 (R124). -/
def execD3hotEntry (p : PortId) (s : State) : Host.Outcome State Fault Refusal :=
  .next (s.modPort p (fun t => if t.cfgReady then { t with d3hot := true } else t))

/-- D0_RETURN. -/
def execD0Return (p : PortId) (s : State) : Host.Outcome State Fault Refusal :=
  if (s.port p).d3hot then .next (((s.modPort p (fun t => { t with d3hot := false })).release p).sendPending p) else .next s

/-- PASID Enable is cleared: every instance above 0 with I/O queues is isolated with cause 4 (R226). -/
def State.clearPasid (p : Nat) (s : State) : State :=
  if !(s.port p).pasidEn then s
  else
    let s := s.modPort p (fun t => { t with pasidEn := false })
    let ks := (s.liveKeys p).filter (fun k => k % 128 != 0 && (!(s.inst k).sqs.isEmpty || !(s.inst k).cqs.isEmpty))
    s.each ks (fun k t => t.isolate k 4)
/-- PASID_ENABLE_CLEAR. -/
def execPasidEnableClear (p : PortId) (s : State) : Host.Outcome State Fault Refusal :=
  .next (if (s.port p).cfgReady then s.clearPasid p else if (s.port p).perst then s else s.emit (.cfgRetry p))

/-- MSIX_VECTOR_UNMASK: what is pending and can send is sent (R134). MSI-X control stands in configuration space, which answers with Request Retry
Status until it is loaded (R123). -/
def execMsixVectorUnmask (p : PortId) (u : Unmask) (s : State) : Host.Outcome State Fault Refusal :=
  let control := match u with
    | .vector _ => false
    | _ => true
  if control && !(s.port p).cfgReady then .next (if (s.port p).perst then s else s.emit (.cfgRetry p)) else
  let s := s.modPort p (fun t =>
    match u with
    | .enable => { t with msixEn := true }
    | .function => { t with fmask := false }
    | .vector v => if v < 2048 then { t with msix := t.msix.set v { t.msix.get {} v with masked := false } } else t)
  .next (s.sendPending p)

end Sys2Proof.Machine
end

