-- ==== Sys2Proof/Machine/CtlRegs.lean ====
section
/-! DEFINITION. Reading control space: every register of the blocks of chapter 00's map, as an image of the state. -/
namespace Sys2Proof.Machine

/-! ## Identity (01, R24) -/

/-- The Model Number: 40 ASCII bytes, space-padded (R4). -/
def modelBytes : List Nat :=
  [77, 97, 114, 119, 101, 118, 101, 108, 32, 78, 76, 84, 45, 49, 52, 52, 48, 45] ++ (bif Config.large then [51, 56, 52] else [49, 57, 50]) ++ [67] ++ List.replicate 18 32
/-- Bytes `o` to `o` + 7 of a list as a register. -/
def word8 (bs : List Nat) (o : Nat) : W64 := image64 ((List.range 8).map (fun i => (8 * i, 8, bs.getD (o + i) 0)))
/-- ID_REVISION: VARIANT takes the two values shown; the steppings are the factory's. -/
def idRevision : W64 := image64 [(0, 32, Config.revision.toNat), (32, 16, bif Config.large then 0x0384 else 0x0192)]
/-- FW_VERSION of a firmware bank. -/
def State.bankVersion (s : State) (b : Nat) : W32 := (s.flash.fw.get { version := Config.factoryFw b } b).version

def State.idReg (s : State) (o : Nat) : W64 :=
  if o ≤ 0x20 then word8 modelBytes o
  else match o with
  | 0x28 => idRevision
  | 0x30 => Config.serial
  | 0x38 => image64 [(0, 32, (s.bankVersion s.flash.running).toNat)]
  | 0x100 => s.idSpareReserve
  | _ => 0

/-! ## Modes and epochs (03, 02, 19) -/

/-- Code of a mode in MD_MODE. -/
def Mode.code : Mode → Nat
  | .keep => 0
  | .bringUp => 1
  | .service => 2
  | .degraded => 3
  | .quiesce => 4
  | .safeHold => 5
def State.mdMode (s : State) : W64 := image64
  [(0, 3, s.modes.mode.code), (3, 1, s.modes.flushActive.toNat), (4, 1, s.keep.flushComplete.toNat),
   (8, 8, if s.modes.mode = .safeHold then s.modes.safeCause else 0), (16, 16, s.modes.degrade.toNat), (32, 4, s.modes.quiesceCause), (36, 3, s.modes.ps)]
def State.mdBringup (s : State) : W64 := image64
  [(0, 4, s.modes.step), (4, 2, s.modes.lastShutdown), (6, 2, s.modes.restarts),
   (8, 24, if 13 ≤ s.modes.step then s.modes.elapsedMs else (s.now - s.modes.startedAt) / 1000)]
/-- The epoch numbers are restored at bring-up step 11 (R107). -/
def State.mdJournalEpoch (s : State) : W64 := BitVec.ofNat 64 (if 11 ≤ s.modes.step then s.jrn.openEpoch else 0)
def State.mdDeviceEpoch (s : State) : W64 := BitVec.ofNat 64 (if 11 ≤ s.modes.step then s.modes.deviceEpoch else 0)
/-- STATE: loaded, loaded fenced, a change in progress, a format in progress: that of a class F change (02). -/
def State.voicingState (s : State) : Nat :=
  match s.modes.epoch with
  | some { act := .voicing _ cls _, .. } => if cls = 3 then 4 else 3
  | _ => s.flash.vstate
def State.mdVoicingStatus (s : State) : W64 := image64
  [(0, 2, s.flash.loaded), (2, 2, s.flash.source), (4, 4, s.voicingState), (8, 4, s.flash.failMask.toNat), (12, 4, s.flash.lastCheck), (32, 32, s.image.serial.toNat)]
def State.mdEventSeq (s : State) : W64 := image64 [(0, 48, if 11 ≤ s.modes.step then s.ev.lastSeq else 0)]
def State.mdEventCount (s : State) : W64 := image64 [(0, 32, s.ev.lost), (32, 32, s.ev.coalesced)]

def State.mdReg (s : State) (o : Nat) : W64 :=
  match o with
  | 0x00 => s.mdMode
  | 0x08 => s.mdBringup
  | 0x10 => s.mdJournalEpoch
  | 0x18 => s.mdDeviceEpoch
  | 0x40 => s.mdVoicingStatus
  | 0x100 => s.mdEventSeq
  | 0x108 => s.mdEventCount
  | _ => 0

/-! ## Sequencers (09) -/

/-- E in units of 0.25 J. -/
def State.quarterJ (s : State) : Nat := s.pw.energy * 2 / 5
def State.sqPcacheStatus (s : State) : W64 := image64
  [(0, 13, s.cache.limitMib), (13, 13, s.occupancyMib), (26, 1, s.cache.held.toNat), (27, 1, s.cache.wtAll.toNat), (32, 8, s.quarterJ), (40, 4, s.vaultGroups)]
def State.sqWriteStats (s : State) : W64 := image64
  [(0, 32, s.cache.filler), (32, 16, min s.cache.replaced 65535), (48, 16, min s.cache.repairs 65535)]
def State.sqReg (s : State) (o : Nat) : W64 :=
  match o with
  | 0x100 => s.sqPcacheStatus
  | 0x108 => s.sqWriteStats
  | _ => 0

/-! ## Map cache (08) -/

def State.mcConfig (s : State) : W64 := image64 [(0, 8, 64), (8, 10, 256), (18, 5, 16), (23, 1, 1), (24, 4, lockCap), (28, 7, s.image.faults.wayErrLimit)]
def State.mcMaintStatus (s : State) : W64 := image64
  [(0, 1, s.mc.busy.toNat), (1, 1, s.mc.refused.toNat), (2, 1, s.mc.done.toNat), (3, 29, s.mc.lines), (32, 16, min s.mc.fillWaits 65535)]
/-- MC_SLICE_STATUS; a write-back buffer is empty again when the row that filled it ends (log entry 91). -/
def Slice.status (x : Slice) : W64 := image64 [(0, 1, x.miss.isSome.toNat), (1, 9, x.changes.length)]
/-- MC_WAY_STATUS of the set selected. -/
def Slice.wayStatus (x : Slice) : W64 :=
  let mask := fun (f : Way → Bool) => (List.range 17).foldl (fun n w => if f (x.way x.setSel w) then n + 2 ^ w else n) 0
  image64 [(0, 17, mask (·.valid)), (17, 17, mask (·.locked)), (34, 17, mask (·.disabled)), (51, 1, (x.spareFor.find x.setSel).isSome.toNat),
    (52, 4, (x.spareFor.find x.setSel).getD 0)]
def Slice.errCount (x : Slice) : W64 := image64 [(0, 16, x.corrected), (16, 16, x.uncorr), (32, 16, x.waysOff)]
def State.sliceReg (s : State) (n o : Nat) : W64 :=
  let x := s.slice n
  match o with
  | 0x00 => x.status
  | 0x08 => BitVec.ofNat 64 x.setSel
  | 0x10 => x.wayStatus
  | 0x18 => BitVec.ofNat 64 x.hits
  | 0x20 => BitVec.ofNat 64 x.misses
  | 0x28 => BitVec.ofNat 64 x.parks
  | 0x30 => BitVec.ofNat 64 x.denied
  | 0x38 => x.errCount
  | _ => 0
def State.mcReg (s : State) (o : Nat) : W64 :=
  if 0x1000 ≤ o ∧ o < 0x1400 then (let r := s.region ((o - 0x1000) / 16); if o % 16 = 0 then r.lo else r.hi)
  else if 0x2000 ≤ o ∧ o < 0x6000 then s.sliceReg ((o - 0x2000) / 0x100) (o % 0x100)
  else match o with
  | 0x00 => s.mcConfig
  | 0x10 => s.mc.range0
  | 0x18 => s.mc.range1
  | 0x28 => s.mcMaintStatus
  | _ => 0

/-! ## Chanters and links (10 to 13, 19) -/

def State.chArbConfig (s : State) : W64 := image64 [(0, 8, 60), (8, 8, 240), (16, 10, 128), (26, 10, 256), (36, 10, s.droneMin), (46, 10, min s.droneMax 1023)]
def chSuspendConfig : W64 := image64 [(0, 10, 300), (10, 4, 8), (14, 10, 150), (24, 4, 2), (28, 10, 100), (38, 10, 150), (48, 10, 300)]
def State.chRaConfig (s : State) : W64 := image64 [(0, 10, 100), (10, 6, 50), (16, 7, 64), (24, 16, s.image.faults.dieTimeout)]
def State.chXcvrSpares (s : State) : W64 := image64 (if 3 ≤ s.modes.step then [(0, 18, s.spares.xcvrUse.toNat), (18, 18, s.spares.xcvrBad.toNat)] else [])
/-- Lowest rated cycle count among the active dies. -/
def State.ratedCycles (s : State) : Nat :=
  ((List.range 144).filter (fun l => (s.memberOf l).isSome && (s.pod l).desc.isSome)).foldl (fun n l =>
    if n = 0 then (s.desc l).ratedCycles else min n (s.desc l).ratedCycles) 0
def State.chUpkeepConfig (s : State) : W64 := image64 [(0, 8, s.health.retention), (8, 8, s.health.wearSpread), (16, 8, 10), (32, 16, s.ratedCycles)]
/-- A bit for each group with a property. -/
def State.groupMask (s : State) (f : Nat → Bool) : Nat := s.groupList.foldl (fun n g => if f g then n + 2 ^ g else n) 0
/-- The group with the lowest free count, and that count. -/
def State.minFree (s : State) : Nat × Nat :=
  match pickMin s.freeCount s.groupList with
  | some g => (g, s.freeCount g)
  | none => (0, 0)
def State.chUpkeepStatus (s : State) : W64 := image64
  [(0, 16, s.groupMask (fun g => (s.group g).closed)), (16, 1, s.health.writeProtect.toNat), (17, 1, s.health.spareLow.toNat), (18, 8, min s.health.lifeUsed 255),
   (26, 8, s.health.available), (34, 8, min s.minFree.2 255), (42, 4, s.minFree.1)]
def State.chRebuildConfig (s : State) : W64 := image64 [(0, 4, s.health.capHours), (4, 1, s.health.fullPriority.toNat), (16, 11, 448), (27, 4, 7)]
def State.chRedundancy (s : State) : W64 := image64
  [(0, 16, s.groupMask (fun g => decide (1 ≤ s.lostOf g))), (16, 16, s.groupMask (fun g => decide (2 ≤ s.lostOf g))),
   (32, 32, min ((s.groupList.map s.thinIn).foldl (· + ·) 0) 0xFFFFFFFF)]

/-- The rebuilds shown: those that run, and those finished since BRING-UP. -/
def State.shownRebuilds (s : State) : List Rebuild := s.live.rebuilds.filter (fun r => !r.finished || (s.health.runs.find r.id).isSome)
/-- One of the four words of CH_REBUILD_n; the pace behind ETA_S is not given (a free reading). -/
def State.chRebuild (s : State) (n word : Nat) : W64 :=
  match s.shownRebuilds[n]? with
  | none => 0
  | some r =>
    let x := s.health.runs.get { cursor := r.cursor, done := r.doneSlots, lost := r.lost, before := r.elapsed } r.id
    let state := if r.finished then 3 else if r.noSub then 2 else 1
    let kind := if r.retiring then 2 else if r.diePos.isSome then 0 else 1
    match word with
    | 0 => image64 [(0, 2, state), (2, 2, kind), (4, 4, r.group), (8, 8, r.slot), (16, 5, if r.diePos.isSome then r.die else 0), (32, 32, r.id)]
    | 1 => image64 [(0, 32, x.done / 256), (32, 32, x.total / 256)]
    | 2 => image64 [(0, 32, if r.finished then r.elapsed else x.before + (s.now - x.start) / 1000000), (32, 32, if r.finished then 0 else Config.freeReading s.free)]
    | _ => image64 [(0, 32, x.lost)]

def State.chDrone (s : State) (d : Nat) : W64 := image64
  [(0, 10, (s.droneBudget d).1), (10, 10, (s.droneBudget d).2), (20, 1, (s.drone d).late.toNat), (21, 1, s.droneHeld.toNat), (32, 32, (s.drone d).lagS)]
def State.chCounter (s : State) (l o : Nat) : W64 :=
  let c := s.chanter l
  match o with
  | 0x00 => BitVec.ofNat 64 c.hostReads
  | 0x08 => BitVec.ofNat 64 c.ladder2
  | 0x10 => BitVec.ofNat 64 c.ladder3
  | 0x18 => image64 [(0, 32, c.ladder4), (32, 32, c.ladder5)]
  | 0x20 => BitVec.ofNat 64 c.ladder6
  | 0x28 => image64 [(0, 32, c.progSusp), (32, 32, c.eraseSusp)]
  | 0x30 => image64 [(0, 32, c.readAround), (32, 32, c.noToken)]
  | 0x38 => image64 [(0, 32, if s.now / 1000000 ≤ c.waitSec + 1 then min c.waitMax 0xFFFFFFFF else 0)]
  | _ => 0
def State.linkReg (s : State) (l o : Nat) : W64 :=
  let x := s.link l
  match o with
  | 0x00 => image64 [(0, 3, x.state), (3, 2, x.rate), (5, 2, x.version), (7, 2, x.podGen), (9, 1, x.onSpare.toNat), (16, 16, min x.recoveries 65535), (32, 16, min x.violWindow 65535)]
  | 0x08 => image64 [(0, 32, min x.crcFails 0xFFFFFFFF), (32, 32, min x.replays 0xFFFFFFFF)]
  | 0x10 => image64 [(0, 48, min x.corrected (2 ^ 48 - 1)), (48, 16, min x.uncorrectable 65535)]
  | 0x18 => image64 [(0, 16, x.writeCredits), (16, 5, if x.state = 2 then s.readCredits l else 0), (21, 6, x.held)]
  | _ => 0
def State.chReg (s : State) (o : Nat) : W64 :=
  if 0x300 ≤ o ∧ o < 0x500 then s.chRebuild ((o - 0x300) / 0x20) (o % 0x20 / 8)
  else if 0x600 ≤ o ∧ o < 0x658 then s.chDrone ((o - 0x600) / 8)
  else if 0x2000 ≤ o ∧ o < 0x4400 then s.chCounter ((o - 0x2000) / 0x40) (o % 0x40)
  else if 0x5000 ≤ o ∧ o < 0x6200 then s.linkReg ((o - 0x5000) / 0x20) (o % 0x20)
  else match o with
  | 0x00 => s.chArbConfig
  | 0x08 => chSuspendConfig
  | 0x10 => s.chRaConfig
  | 0x20 => s.chXcvrSpares
  | 0x100 => s.chUpkeepConfig
  | 0x108 => s.chUpkeepStatus
  | 0x200 => s.chRebuildConfig
  | 0x208 => s.chRedundancy
  | _ => 0

/-! ## Safety partition window and keep registers (16 to 18) -/

/-- Code of a key slot's state. -/
def KeyState.code : KeyState → Nat
  | .empty => 0
  | .loaded => 1
  | .active => 2
  | .locked => 3
def State.spKeyState (s : State) (n : Nat) : W64 := image64 ((List.range 32).map (fun i => (2 * i, 2, (s.part.keys.get {} (32 * n + i)).state.code)))
def State.spPodPower (s : State) (n : Nat) : W64 := image64 ((List.range 64).map (fun i => (i, 1, (s.pod (64 * n + i)).powered.toNat)))
/-- A register of the window; none where the manual gives it no layout: the supply thresholds, the grace time, the bellows control
and the thresholds per zone kind. -/
def State.spReg (s : State) (o : Nat) : Option W64 :=
  if 0x400 ≤ o ∧ o < 0x800 then some (s.spKeyState ((o - 0x400) / 8))
  else if 0x60 ≤ o ∧ o < 0x78 then some (s.spPodPower ((o - 0x60) / 8))
  else if 0x100 ≤ o ∧ o < 0x140 then s.part.window.find o
  else match o with
  | 0x00 => some s.spStatus
  | 0x08 => some s.spRpl
  | 0x20 => some s.spWdt
  | 0x30 => some s.spUpdateLock
  | 0x38 => some s.krStage
  | 0x40 => s.part.window.find 0x40
  | 0x48 => s.part.window.find 0x48
  | 0x50 => s.part.window.find 0x50
  | _ => some 0
/-- A keep register; the settings areas have no layout and bear what the partition wrote. KR_MEDIA_SECRET reads as 0 outside the partition. -/
def State.krReg (s : State) (o : Nat) : Option W64 :=
  if 0x200 ≤ o ∧ o < 0xFF0 then s.keep.words.find o
  else if 0x78 ≤ o ∧ o < 0xA8 then some (BitVec.ofNat 64 (s.keep.hash.toNat / 2 ^ (8 * (o - 0x78))))
  else some (match o with
  | 0x00 => image64 [(0, 1, s.part.keepImage.toNat)]
  | 0x08 => image64 [(0, 48, s.rtc)]
  | 0x10 => s.krCell
  | 0x20 => s.krFlush
  | 0x28 => s.keep.dumpId
  | 0x40 => s.krVoicing
  | 0x50 => s.krFwBank
  | 0x60 => s.krStage
  | 0x68 => s.krProgress
  | 0x70 => s.keep.serial
  | 0xA8 => s.krTimer
  | 0x100 => s.keep.threshOvr
  | 0x110 => s.krBellows
  | 0x120 => s.krSecurity
  | 0x130 => image64 [(0, 32, s.keep.mediaGen.toNat)]
  | _ => 0)

/-! ## Data movers (15) -/

def State.dmId (s : State) (m : Nat) : W64 := image64
  [(0, 7, m), (7, 2, m / 17), (9, 1, (s.spares.moverBy.find (m / 17) == some m).toNat), (10, 1, (moverStop m).isSome.toNat), (11, 4, (moverStop m).getD 0)]
/-- DM_RING_STATUS.STATE. -/
def Chan.runState (c : Chan) : Nat :=
  if !c.enable && c.haltCause != 0 then 3
  else if c.flight.isSome then 1
  else if c.enable && (c.pause || c.quiesced) then 2
  else if c.enable && c.head != c.tail then 1 else 0
def Chan.ctrl (c : Chan) : W64 := image64
  [(0, 1, c.enable.toNat), (1, 5, c.sizeLog2), (6, 1, c.halfIe.toNat), (7, 1, c.fullIe.toNat), (8, 1, c.errIe.toNat), (9, 1, c.haltIe.toNat), (10, 1, c.pause.toNat)]
/-- A channel's register; from offset 0x50 on they read 0. -/
def Chan.reg (c : Chan) (o : Nat) : W64 :=
  match o with
  | 0x00 => image64 [(0, 3, c.space), (6, 58, c.addr / 64)]
  | 0x08 => c.ctrl
  | 0x10 => BitVec.ofNat 64 c.head
  | 0x18 => BitVec.ofNat 64 c.tail
  | 0x20 => image64 [(0, 2, c.runState), (2, 4, c.haltCause), (16, 32, c.completed.toNat)]
  | 0x28 => image64 [(0, 4, c.irq.toNat)]
  | 0x30 => image64 [(0, 1, c.request.toNat)]
  | 0x38 => c.value
  | 0x40 => image64 [(0, 1, c.valid.toNat), (8, 8, c.status), (16, 16, c.index), (32, 32, c.seq.toNat)]
  | 0x48 => BitVec.ofNat 64 c.bytes
  | _ => 0
def State.dmReg (s : State) (m o : Nat) : W64 :=
  if 0x100 ≤ o ∧ o < 0x500 then (s.chan (chanKey m ((o - 0x100) / 0x100))).reg (o % 0x100)
  else if o = 0 then s.dmId m else 0

/-! ## Stops (14) -/

/-- Stops bound for an instance. -/
def State.boundFor (s : State) (k : Nat) : List Nat := stopNos.filter (fun n => s.holder n == some k && (s.binding n).mode != 0)
/-- The stop a BAR4 window presents (R472): the one that last bound with WINDOW; where it is no longer bound, the lowest bound. -/
def State.windowStop (s : State) (k : Nat) : Option Nat :=
  match (s.dinst k).window with
  | some n => if (s.boundFor k).contains n then some n else (s.boundFor k).head?
  | none => (s.boundFor k).head?

def State.stState (s : State) (n : Nat) : W64 :=
  let x := s.stop n
  let b := s.binding n
  let draining := match x.epoch with
    | some e => !e.drained
    | none => false
  image64 [(0, 3, x.state), (3, 3, b.mode), (6, 1, (match s.holder n with
      | some k => s.windowStop k == some n
      | none => false).toNat), (7, 1, (match x.image with
      | some i => i.halfClock
      | none => false).toNat),
    (8, 1, x.resetHold.toNat), (9, 1, draining.toNat), (16, 7, ((s.holder n).getD 0) % 128), (23, 1, (s.holder n).isSome.toNat), (24, 3, ((s.holder n).getD 0) / 128),
    (32, 32, b.epoch.toNat)]
def Stop.columns (x : Stop) : W64 := image64
  [(0, 33, x.used.foldl (fun m c => m + 2 ^ c) 0), (33, 1, x.spareUsed.toNat), (34, 6, x.colFailed.getD 0x3F), (40, 6, (match x.image with
    | some i => i.columns
    | none => 0))]
/-- A shell register of a stop; the limits of chapter 14. -/
def State.stReg (s : State) (n o : Nat) : W64 :=
  let x := s.stop n
  match o with
  | 0x000 => image64 [(0, 16, s.image.shell), (16, 4, n), (20, 2, n / 4), (32, 16, 0x0302)]
  | 0x008 => s.stState n
  | 0x010 => (match x.image with
    | some i => if x.state = 0 then 0 else i.serial
    | none => 0)
  | 0x018 => x.columns
  | 0x020 => image64 [(0, 16, min x.window 65535), (16, 16, s.image.faults.stopViolLimit), (32, 8, x.lastCode), (40, 8, x.fenceCause)]
  | 0x028 => BitVec.ofNat 64 x.violTotal
  | 0x030 => x.irqMap0
  | 0x038 => x.irqMap1
  | 0x040 => image64 [(0, 16, 1000), (16, 16, 10), (32, 16, 10), (48, 16, 1000)]
  | 0x048 => BitVec.ofNat 64 x.framesIn
  | 0x050 => BitVec.ofNat 64 x.framesOut
  | 0x058 => BitVec.ofNat 64 x.late
  | _ => 0

/-! ## Sensors and power (16) -/

def State.snSupply (s : State) : W64 := image64
  [(0, 16, s.pw.inputV), (16, 16, s.pw.inputW), (32, 3, s.pw.state), (35, 1, s.pw.bankOnBus.toNat), (36, 12, s.pw.railA), (48, 12, s.pw.railV)]
def State.snBellows (s : State) : W64 := image64
  [(0, 16, s.pw.bankV), (16, 16, s.pw.capUf), (32, 10, s.pw.esr), (42, 8, s.quarterJ), (50, 1, (s.pw.charger && decide (s.pw.bankV < 7200)).toNat),
   (51, 1, s.pw.testing.toNat), (52, 1, s.pw.healthLow.toNat), (53, 1, s.below24.toNat), (54, 10, min ((s.rtc / 1000 - s.pw.lastTest) / 86400) 1023)]
def State.snMute (s : State) : W64 := image64
  [(0, 2, s.pw.mute), (2, 9, s.pw.advice), (11, 16, s.graceMs), (27, 8, s.pw.causeZone), (35, 15, s.keep.graceMs), (50, 1, s.pw.hwTrip.toNat), (51, 10, s.pw.composite)]
/-- Two's complement in 16 bits. -/
def int16 (t : Int) : Nat := (t % 65536).toNat
/-- SN_ZONE_n; an unused index reads 0. -/
def State.snZone (s : State) (z : Nat) : W64 :=
  if z = 7 ∨ 151 < z then 0 else
  let x := s.zone z
  let pod := 8 ≤ z
  let bad := pod && (s.link (z - 8)).sensorBad
  let held := if pod then bad else decide (0 < x.heldAt z)
  let sensors := if pod then (s.pod (z - 8)).powered.toNat else zoneSensors z
  image64 [(0, 16, int16 x.temp), (16, 2, x.level), (18, 1, held.toNat), (19, 4, if pod then bad.toNat else x.failed.length), (23, 4, sensors),
    (27, 8, s.keep.warn z), (35, 8, s.keep.throttle z), (43, 8, zoneShut z), (51, 4, zoneHyst z)]
def State.snReg (s : State) (o : Nat) : W64 :=
  if 0x100 ≤ o ∧ o < 0x5C0 then s.snZone ((o - 0x100) / 8)
  else match o with
  | 0x00 => s.snSupply
  | 0x08 => s.snBellows
  | 0x10 => s.snMute
  | _ => 0

/-! ## The map (00, Control space blocks) -/

/-- The aligned 64-bit word at an address: reserved ones read 0; none where the manual gives a register no layout. Tenant logic's
offsets of a stop's block are not read here. -/
def State.readReg (s : State) (addr : Nat) : Option W64 :=
  let a := addr / 8 * 8
  if a < 0x10000 then some (s.idReg a)
  else if a < 0x20000 then some (s.mdReg (a - 0x10000))
  else if a < 0x40000 then some (s.sqReg (a - 0x20000))
  else if a < 0x80000 then some (s.mcReg (a - 0x40000))
  else if a < 0x100000 then some (s.chReg (a - 0x80000))
  else if a < 0x200000 then s.spReg (a - 0x100000)
  else if a < 0x244000 then some (s.dmReg ((a - 0x200000) / 0x1000) (a % 0x1000))
  else if 0x400000 ≤ a ∧ a < 0x500000 then some (s.stReg ((a - 0x400000) / 0x10000) (a % 0x10000))
  else if 0x600000 ≤ a ∧ a < 0x700000 then some (s.snReg (a - 0x600000))
  else if 0x700000 ≤ a ∧ a < 0x701000 then s.krReg (a - 0x700000)
  else some 0

/-- The value a read returns; a register without a layout returns a free one. -/
def State.regValue (s : State) (addr : Nat) : W64 := (s.readReg addr).getD (Config.freeWord s.free)

end Sys2Proof.Machine
end

