-- ==== Sys2Proof/Machine/Movers.lean ====
section
/-! DEFINITION. The data movers' register writes, descriptors and bursts (15). -/
namespace Sys2Proof.Machine

/-- A register write of the engine's user. A stop's channel is its tenant logic's: what that writes behind FENCE or in reset is discarded (R465, R466);
firmware writes a stop's channel by REGISTER_WRITE, whatever its stop's state (15, Registers). -/
def State.onChan (ch : Nat) (f : State → State) (s : State) : State := if s.chanShut ch then s else f s

/-- A write of DM_RING_TAIL, with the descriptors software has put in the ring (R507). -/
def State.writeTail (ch tail : Nat) (descs : List (Nat × MvDesc)) (s : State) : State :=
  if spareMover ch then s
  else
    (s.modChan ch (fun c => { c with
      ring := descs.foldl (fun r e => if e.1 < c.size then Tbl.set r e.1 e.2 else r) c.ring
      tail := if tail < c.size then tail else c.tail })).checkOwned ch

/-- DM_RING_TAIL_WRITE. -/
def execDmRingTailWrite (m : MoverId) (k : ChanId) (tail : Nat) (descs : List (Nat × MvDesc)) (s : State) : Host.Outcome State Fault Refusal :=
  .next (s.onChan (chanKey m k) (fun s => s.writeTail (chanKey m k) tail descs))

/-- A write of DM_RING_BASE: HEAD and TAIL return to 0; SPACE keeps its value while ENABLE is 1 (DEDUCED, log entry 108). -/
def State.writeBase (ch : Nat) (value : W64) (s : State) : State :=
  if spareMover ch then s
  else s.modChan ch (fun c => { c with space := if c.enable then c.space else value.toNat % 8, addr := value.toNat / 64 * 64, head := 0, tail := 0, ring := [], written := [] })

/-- DM_RING_BASE_WRITE. -/
def execDmRingBaseWrite (m : MoverId) (k : ChanId) (value : W64) (s : State) : Host.Outcome State Fault Refusal := .next (s.onChan (chanKey m k) (fun s => s.writeBase (chanKey m k) value))

/-- A write of ENABLE: of 1 clears HALT_CAUSE (R523). -/
def State.writeEnable (ch : Nat) (on : Bool) (s : State) : State :=
  if spareMover ch then s
  else (s.modChan ch (fun c => if on then { c with enable := true, haltCause := 0 } else { c with enable := false })).checkOwned ch

/-- DM_ENABLE_WRITE. -/
def execDmEnableWrite (m : MoverId) (k : ChanId) (on : Bool) (s : State) : Host.Outcome State Fault Refusal := .next (s.onChan (chanKey m k) (fun s => s.writeEnable (chanKey m k) on))

/-- A write of PAUSE. -/
def State.writePause (ch : Nat) (on : Bool) (s : State) : State :=
  if spareMover ch then s else (s.modChan ch (fun c => { c with pause := on })).checkOwned ch

/-- DM_PAUSE_WRITE. -/
def execDmPauseWrite (m : MoverId) (k : ChanId) (on : Bool) (s : State) : Host.Outcome State Fault Refusal := .next (s.onChan (chanKey m k) (fun s => s.writePause (chanKey m k) on))

/-- A write of DM_PACE.REQUEST: a fall withdraws the paced descriptor after its burst, or at once between bursts (R518). -/
def State.writePace (ch : Nat) (on : Bool) (s : State) : State :=
  if spareMover ch then s
  else
    let s := s.modChan ch (fun c => { c with request := on })
    match (s.chan ch).flight with
    | none => s
    | some f =>
      if on || !f.started || !MvDescPaced f.desc then s
      else if f.busy then s.modChan ch (fun c => { c with flight := some { f with withdrawn := true } })
      else s.endDesc ch 1 0

/-- DM_PACE_REQUEST_WRITE. -/
def execDmPaceRequestWrite (m : MoverId) (k : ChanId) (on : Bool) (s : State) : Host.Outcome State Fault Refusal := .next (s.onChan (chanKey m k) (fun s => s.writePace (chanKey m k) on))

/-- DM_COPY. -/
def execDmCopy (m : MoverId) (k : ChanId) (s : State) : Host.Outcome State Fault Refusal := .next (s.takeDesc (chanKey m k) 0)
/-- DM_FILL. -/
def execDmFill (m : MoverId) (k : ChanId) (s : State) : Host.Outcome State Fault Refusal := .next (s.takeDesc (chanKey m k) 1)
/-- DM_CHECK. -/
def execDmCheck (m : MoverId) (k : ChanId) (s : State) : Host.Outcome State Fault Refusal := .next (s.takeDesc (chanKey m k) 2)
/-- DM_FENCE. -/
def execDmFence (m : MoverId) (k : ChanId) (s : State) : Host.Outcome State Fault Refusal := .next (s.takeDesc (chanKey m k) 3)
/-- DM_NOP. -/
def execDmNop (m : MoverId) (k : ChanId) (s : State) : Host.Outcome State Fault Refusal := .next (s.takeDesc (chanKey m k) 4)

/-- DM_BURST_COMPLETE: the burst of the channel whose turn it is (R504); of a namespace side that waits for a command slot, the next try. -/
def execDmBurstComplete (m : MoverId) (k : ChanId) (bytes : List Byte) (e : BurstEnd) (s : State) : Host.Outcome State Fault Refusal :=
  let ch := chanKey m k
  match (s.chan ch).flight with
  | none => .next s
  | some f =>
    if !f.busy || f.ctx.isSome then .next s
    else if f.desc.srcSpace == 4 && f.src.isNone then .next (s.moverCommand ch false f.desc.srcNsid f.desc.src [])
    else if f.desc.length ≤ f.done then .next (if f.desc.dstSpace = 4 then s.afterBurst ch else s)
    else if !s.burstTurn ch then .next s
    else
    let s := s.markServed ch
    match e with
    | .srcError st => .next (s.endDesc ch 5 st.toNat)
    | .dstError st => .next (s.endDesc ch 6 st.toNat)
    | .moved =>
      let bs := s.burstBytes ch f bytes
      let s := s.writeBurst ch f bs
      let written := f.desc.dstSpace != 0 && f.desc.dstSpace != 4
      let s := s.modChan ch (fun c => { c with
        bytes := if written then sat64 (c.bytes + bs.length) else c.bytes
        flight := some { f with
          done := f.done + bs.length
          data := if f.down then bs ++ f.data else f.data ++ bs
          src := if f.desc.srcSpace = 3 then none else f.src
          beats := if f.desc.dstSpace = 3 then f.beats + 1 else f.beats } })
      .next (s.afterBurst ch)

/-- DM_FENCE_READ_COMPLETE: the fence's reads are back: a FENCE completes, a descriptor that waited begins (R513, R514). -/
def execDmFenceReadComplete (m : MoverId) (k : ChanId) (s : State) : Host.Outcome State Fault Refusal :=
  let ch := chanKey m k
  if (s.chan ch).fenceReads = 0 then .next s
  else
    let s := s.modChan ch (fun c => { c with fenceReads := 0 })
    match (s.chan ch).flight with
    | none => .next s
    | some f =>
      if f.stopping.isSome then .next (s.endDesc ch 2 0)
      else if !f.started then .next (s.beginDesc ch)
      else .next (s.endDesc ch 0 0)

/-- DM_RING_READ_FAILURE: the channel halts with cause 2 (R523). -/
def execDmRingReadFailure (m : MoverId) (k : ChanId) (s : State) : Host.Outcome State Fault Refusal :=
  let ch := chanKey m k
  if s.canTake ch && !s.chanShut ch then .next (s.haltChan ch 2) else .next s

end Sys2Proof.Machine
end

