-- ==== Sys2Proof/Machine/RegWrites.lean ====
section
/-! DEFINITION. Writing registers by their access types, and the stops' control windows (00, 04, 08, 11, 12, 14, 15, 17). -/
namespace Sys2Proof.Machine

/-- Bits [hi:lo] of a 64-bit value. -/
def bits64 (w : W64) (hi lo : Nat) : Nat := w.toNat / 2 ^ lo % 2 ^ (hi + 1 - lo)

/-! ## Map cache (R276, R281): management reaches the region table alone -/

def State.writeMc (w : Writer) (o : Nat) (v : W64) (s : State) : State :=
  if 0x1000 ≤ o ∧ o < 0x1400 then
    let n := (o - 0x1000) / 16
    if o % 16 ≠ 0 then s.modMc (fun m => { m with regions := m.regions.set n { m.regions.get {} n with hi := image64 [(0, 50, v.toNat)] } })
    else if s.mc.busy then s.modMc (fun m => { m with waitOps := m.waitOps ++ [(100 + n, v, 0)] })
    else s.putRegion n v
  else if w = .management then s
  else if 0x2000 ≤ o ∧ o < 0x6000 ∧ o % 0x100 = 0x08 then s.modSlice ((o - 0x2000) / 0x100) (fun x => { x with setSel := bits64 v 7 0 })
  else match o with
  | 0x10 => s.modMc (fun m => { m with range0 := image64 [(0, 53, v.toNat)] })
  | 0x18 => s.modMc (fun m => { m with range1 := image64 [(0, 40, v.toNat)] })
  | 0x20 => let op := bits64 v 2 0
    if 1 ≤ op ∧ op ≤ 4 then s.maintCmd op else s.modMc (fun m => { m with refused := true })
  | 0x28 => s.modMc (fun m => { m with refused := m.refused && !v.getLsbD 1, done := m.done && !v.getLsbD 2 })
  | _ => s

/-! ## Chanters (R390, R423) -/

/-- A field written outside its range is left as it was (DEDUCED, log entry 55). -/
def State.writeCh (o : Nat) (v : W64) (s : State) : State :=
  match o with
  | 0x100 =>
    let d := bits64 v 7 0
    let w := bits64 v 15 8
    let s := s.modHealth (fun h => { h with
      retention := if 30 ≤ d ∧ d ≤ 180 then d else h.retention
      wearSpread := if 1 ≤ w ∧ w ≤ 20 then w else h.wearSpread })
    { s with format := s.format.map (fun f => { f with retention := s.health.retention, wearSpread := s.health.wearSpread }) }
  | 0x200 =>
    let c := bits64 v 3 0
    let s := s.modHealth (fun h => { h with capHours := if 1 ≤ c ∧ c ≤ 8 then c else h.capHours, fullPriority := v.getLsbD 4 })
    { s with format := s.format.map (fun f => { f with capHours := s.health.capHours, fullPriority := s.health.fullPriority }) }
  | _ => s

/-! ## Data movers (15) -/

/-- DM_RING_CTRL, whole: the size where it may change, the enables, then ENABLE and PAUSE. -/
def State.writeCtrl (ch : Nat) (v : W64) (s : State) : State :=
  if spareMover ch then s else
  let c := s.chan ch
  let n := bits64 v 5 1
  let s := s.updChan ch (fun c => { c with
    sizeLog2 := if 4 ≤ n ∧ n ≤ 16 ∧ !c.enable then n else c.sizeLog2
    halfIe := v.getLsbD 6, fullIe := v.getLsbD 7, errIe := v.getLsbD 8, haltIe := v.getLsbD 9 })
  let s := if v.getLsbD 10 == c.pause then s else s.writePause ch (v.getLsbD 10)
  if v.getLsbD 0 == c.enable && !(v.getLsbD 0 && c.haltCause != 0) then s else s.writeEnable ch (v.getLsbD 0)
def State.writeDm (m o : Nat) (v : W64) (s : State) : State :=
  if o < 0x100 ∨ 0x500 ≤ o then s else
  let ch := chanKey m ((o - 0x100) / 0x100)
  match o % 0x100 with
  | 0x00 => s.writeBase ch v
  | 0x08 => s.writeCtrl ch v
  | 0x18 => s.writeTail ch v.toNat []
  | 0x28 => if spareMover ch then s else s.updChan ch (fun c => { c with irq := c.irq &&& ~~~(v.setWidth 4) })
  | 0x30 => s.writePace ch (v.getLsbD 0)
  | _ => s

/-! ## Stops (14) -/

/-- Bits of ST_IRQ_MAP0 and ST_IRQ_MAP1 that are not reserved. -/
def irqMapMask : W64 := 0x81FF81FF81FF81FF
/-- A shell register. -/
def State.writeShell (n o : Nat) (v : W64) (s : State) : State :=
  match o with
  | 0x030 => s.modStop n (fun x => { x with irqMap0 := v &&& irqMapMask })
  | 0x038 => s.modStop n (fun x => { x with irqMap1 := v &&& irqMapMask })
  | _ => s

/-- The control port answers nothing: fenced, in a stop epoch, held in reset, or without logic. -/
def State.ctlShut (s : State) (n : Nat) : Bool :=
  s.stopFence n || s.stopReset n || (s.stop n).epoch.isSome || (s.stop n).state == 0

/-- A read of tenant logic takes a free tag; `who`: the port that asked, none for control space. With every tag taken it waits. -/
def State.ctlRead (n o : Nat) (who : Option Nat) (s : State) : State :=
  let zero := match who with
    | some p => s.emit (.cpl p 0)
    | none => s.emit (.regValue (0x00400000 + 0x10000 * n + o) 0)
  if s.ctlShut n then zero else
  match (List.range 16).find? (fun t => !(s.stop n).ctlReads.any (fun r => r.1 == t)) with
  | none => s
  | some t => (s.modStop n (fun x => { x with ctlReads := x.ctlReads ++ [(t, o, who)], ctlAt := x.ctlAt.set t s.now })).emit (.ctlReq n o t false 0)
/-- A write to tenant logic. -/
def State.ctlWrite (n o : Nat) (v : W64) (s : State) : State := if s.ctlShut n then s else s.emit (.ctlReq n o 0 true v)

/-- STOP_WINDOW_ACCESS: the shell's offsets and tenant logic's (R131). -/
def execStopWindowAccess (p : PortId) (n : LocalId) (off : Nat) (write : Option W64) (s : State) : Host.Outcome State Fault Refusal :=
  let none_ := match write with
    | some _ => s
    | none => s.emit (.cpl p 0)
  let o := off % 0x10000 / 8 * 8
  match (if s.adminOn then s.windowStop (instKey p n) else none) with
  | none => .next none_
  | some x =>
    if (s.stop x).state == 4 || (s.stop x).epoch.isSome then .next none_
    else match write with
    | some v => .next (if o < 0x1000 then s.writeShell x o v else s.ctlWrite x o v)
    | none => .next (if o < 0x1000 then s.emit (.cpl p (s.stReg x o)) else s.ctlRead x o (some p.val))

/-! ## The partition's registers and the keep registers: the partition alone (R20, R563) -/

/-- Eight bytes of a hash replaced, from byte `o`. -/
def putWord (o : Nat) (v : W64) (h : BitVec 384) : BitVec 384 :=
  (h &&& ~~~((0xFFFFFFFFFFFFFFFF : BitVec 384) <<< (8 * o))) ||| (v.setWidth 384 <<< (8 * o))
/-- State of a key slot by its code. -/
def keyStateOf (n : Nat) : KeyState := if n = 0 then .empty else if n = 1 then .loaded else if n = 2 then .active else .locked
/-- A bay switch as SP_POD_POWER has it. -/
def State.setBay (l : Nat) (on : Bool) (s : State) : State :=
  if (s.pod l).powered == on then s else (s.emit (.bay l on)).modPod l (fun p => { p with powered := on })

/-- A register of the partition window. Fields that are copies of others, fuses or constants keep what they are copies of. -/
def State.writeSp (o : Nat) (v : W64) (s : State) : State :=
  if 0x400 ≤ o ∧ o < 0x800 then
    s.modPart (fun p => { p with keys := (List.range 32).foldl (fun t i =>
      let n := 32 * ((o - 0x400) / 8) + i
      t.set n { t.get {} n with state := keyStateOf (bits64 v (2 * i + 1) (2 * i)) }) p.keys })
  else if 0x60 ≤ o ∧ o < 0x78 then
    s.each ((List.range 64).filter (fun i => decide (8 * (o - 0x60) + i < 144))) (fun i t => t.setBay (8 * (o - 0x60) + i) (v.getLsbD i))
  else if 0x100 ≤ o ∧ o < 0x140 then s.modPart (fun p => { p with window := p.window.set o v })
  else match o with
  | 0x00 => s.modPart (fun p => { p with
      lockstepOk := v.getLsbD 0, romOk := v.getLsbD 1, otpOk := v.getLsbD 2, keepA := v.getLsbD 3, keepB := v.getLsbD 4, strap := v.getLsbD 5 })
  | 0x08 => s.modPart (fun p => { p with debugOn := v.getLsbD 12 })
  | 0x30 => s.keepWrite (fun k => { k with updateLock := v.getLsbD 0, lockTime := bits64 v 63 32 })
  | 0x40 => s.modPart (fun p => { p with window := p.window.set 0x40 v })
  | 0x48 => s.modPart (fun p => { p with window := p.window.set 0x48 v })
  | 0x50 => s.modPart (fun p => { p with window := p.window.set 0x50 v })
  | _ => s

/-- KR_VOICING_SEL changes only at the steps of a load and of a change (R60): no write of it stands here. -/
def State.writeKr (o : Nat) (v : W64) (s : State) : State :=
  if 0x78 ≤ o ∧ o < 0xA8 then s.keepWrite (fun k => { k with hash := putWord (o - 0x78) v k.hash })
  else if (0x138 ≤ o ∧ o < 0x158) ∨ (0x200 ≤ o ∧ o < 0xFF0) then s.keepWrite (fun k => { k with words := k.words.set o v })
  else match o with
  | 0x10 => s.keepWrite (fun k => { k with cellMv := bits64 v 11 0, low := v.getLsbD 12, critical := v.getLsbD 13, checkTime := bits64 v 63 32 })
  | 0x20 => s.keepWrite (fun k => { k with flushComplete := v.getLsbD 0, dumpStarted := v.getLsbD 1, flushCause := bits64 v 15 8 })
  | 0x28 => s.keepWrite (fun k => { k with dumpId := v })
  | 0x50 => s.keepWrite (fun k => { k with
      fwActive := bits64 v 0 0, trialValid := v.getLsbD 1, trialBank := bits64 v 2 2, trialCount := bits64 v 4 3, bootOnce := v.getLsbD 5
      activateNext := v.getLsbD 6, autoConfirm := v.getLsbD 7, trialVersion := BitVec.ofNat 32 (bits64 v 63 32) })
  | 0x60 => s.keepWrite (fun k => { k with
      stage := bits64 v 2 0, kind := bits64 v 4 3, target := bits64 v 8 5, verifying := v.getLsbD 9, result := bits64 v 23 16
      lastRefusal := bits64 v 31 24, fwInForce := BitVec.ofNat 32 (bits64 v 63 32) })
  | 0x68 => s.keepWrite (fun k => { k with resumeBlock := bits64 v 15 0, blocks := bits64 v 31 16 })
  | 0x70 => s.keepWrite (fun k => { k with serial := v })
  | 0xA8 => s.keepWrite (fun k => { k with trialStart := v.toNat })
  | 0x100 => s.keepWrite (fun k => { k with threshOvr := image64 [(0, 49, v.toNat)] })
  | 0x110 => s.keepWrite (fun k => { k with capUf := bits64 v 15 0, esr := bits64 v 25 16, testTime := bits64 v 63 26 })
  | 0x120 => s.keepWrite (fun k => { k with
      lockout := v.getLsbD 0, lowering := v.getLsbD 1, raising := v.getLsbD 2, raiseTo2 := v.getLsbD 3, backupWarn := v.getLsbD 4
      authFails := bits64 v 15 8, spResets := bits64 v 23 16, lockoutTime := bits64 v 63 32 })
  | 0x130 => s.keepWrite (fun k => { k with mediaGen := BitVec.ofNat 32 (bits64 v 31 0) })
  | _ => s

/-! ## The host: what of BAR0 and configuration space has no row of its own (R125, R132, R134; DESIGN CHOICE, log entry 56 places them) -/

/-- Bytes of a BAR (R125). -/
def barSize (n : Nat) : Nat := if n = 0 then 128 * 1024 else if n = 2 then 512 * 1024 else if n = 4 then 8 * 1024 * 1024 else 0
/-- A 64-bit word with its low or high half replaced. -/
def putHalf (x : W64) (high : Bool) (v : W32) : W64 :=
  BitVec.ofNat 64 (if high then x.toNat % 2 ^ 32 + v.toNat * 2 ^ 32 else x.toNat / 2 ^ 32 * 2 ^ 32 + v.toNat)
/-- A dword of the MSI-X table: address low and high, data, vector control (R134). -/
def State.writeVector (p o : Nat) (v : W32) (s : State) : State :=
  let n := o / 16
  let put := fun (f : Msix → Msix) => s.modPort p (fun t => { t with msix := t.msix.set n (f (t.msix.get {} n)) })
  match o % 16 / 4 with
  | 0 => put (fun m => { m with addr := putHalf m.addr false v })
  | 1 => put (fun m => { m with addr := putHalf m.addr true v })
  | 2 => put (fun m => { m with data := v })
  | _ => (put (fun m => { m with masked := v.getLsbD 0 })).sendPending p
/-- A dword of BAR0: the admin queues' bases while the controller is disabled, and the MSI-X table; the vendor area is read-only. -/
def State.writeBar0 (p o : Nat) (v : W32) (s : State) : State :=
  if 0x10000 ≤ o ∧ o < 0x18000 then s.writeVector p (o - 0x10000) v
  else if (s.port p).ccEn then s
  else match o with
  | 0x28 => s.modPort p (fun t => { t with asq := putHalf t.asq false v })
  | 0x2C => s.modPort p (fun t => { t with asq := putHalf t.asq true v })
  | 0x30 => s.modPort p (fun t => { t with acq := putHalf t.acq false v })
  | 0x34 => s.modPort p (fun t => { t with acq := putHalf t.acq true v })
  | _ => s
/-- A dword of configuration space: the three BARs (R125), MSI-X control (R134), PASID Enable (R133), Device Control (R121). Until it is loaded it
answers with Request Retry Status (R123). -/
def State.writeConfig (p o : Nat) (v : W32) (s : State) : State :=
  if (s.port p).perst then s
  else if !(s.port p).cfgReady then s.emit (.cfgRetry p)
  else if 0x10 ≤ o ∧ o < 0x28 then
    let n := (o - 0x10) / 8 * 2
    s.modPort p (fun t => { t with bars := t.bars.set n (let x := putHalf (t.bars.get 0 n) (decide ((o - 0x10) % 8 = 4)) v; BitVec.ofNat 64 (x.toNat / barSize n * barSize n)) })
  else match o with
  | 0x50 => (s.modPort p (fun t => { t with msixEn := v.getLsbD 31, fmask := v.getLsbD 30 })).sendPending p
  | 0x60 => if v.getLsbD 0 then s.modPort p (fun t => { t with pasidEn := true }) else s.clearPasid p
  | 0x70 => s.modPort p (fun t => { t with relaxed := v.getLsbD 4 })
  | _ => s
def State.writeHostDword (addr : Nat) (v : W32) (s : State) : State :=
  let a := addr / 4 * 4
  if 0x1_0000_0000 ≤ a ∧ a < 0x1_0010_0000 then s.writeBar0 ((a - 0x1_0000_0000) / 0x20000) (a % 0x20000) v
  else if 0x2_0000_0000 ≤ a ∧ a < 0x2_0000_8000 then s.writeConfig ((a - 0x2_0000_0000) / 0x1000) (a % 0x1000) v
  else s
/-- A host's write: a dword, or two. -/
def State.writeHost (addr : Nat) (wide : Bool) (v : W64) (s : State) : State :=
  if wide then (s.writeHostDword (addr / 8 * 8) (BitVec.ofNat 32 v.toNat)).writeHostDword (addr / 8 * 8 + 4) (BitVec.ofNat 32 (v.toNat / 2 ^ 32))
  else s.writeHostDword addr (BitVec.ofNat 32 v.toNat)

/-- A write to control space. RO, WO and reserved bits, SPW and RWK fields written from elsewhere than the partition, and addresses
that hold no register take no effect (R17, R20). -/
def State.writeReg (w : Writer) (addr : Nat) (v : W64) (s : State) : State :=
  let a := addr / 8 * 8
  match w with
  | .host wide => s.writeHost addr wide v
  | .partition =>
    if 0x700000 ≤ a ∧ a < 0x701000 then s.writeKr (a - 0x700000) v
    else if 0x100000 ≤ a ∧ a < 0x100800 then s.writeSp (a - 0x100000) v else s
  | _ =>
    if a = 0x10040 then s.modFlash (fun f => { f with failMask := f.failMask &&& ~~~(BitVec.ofNat 4 (bits64 v 11 8)) })
    else if 0x40000 ≤ a ∧ a < 0x80000 then s.writeMc w (a - 0x40000) v
    else if 0x80000 ≤ a ∧ a < 0x100000 then s.writeCh (a - 0x80000) v
    else if 0x200000 ≤ a ∧ a < 0x244000 then s.writeDm ((a - 0x200000) / 0x1000) (a % 0x1000) v
    else if 0x400000 ≤ a ∧ a < 0x500000 then
      (if a % 0x10000 < 0x1000 then s.writeShell ((a - 0x400000) / 0x10000) (a % 0x10000) v
       else s.ctlWrite ((a - 0x400000) / 0x10000) (a % 0x10000) v)
    else s

/-- REGISTER_WRITE: nothing is written while only the keep domain is powered. -/
def execRegisterWrite (w : Writer) (addr : Nat) (value : W64) (s : State) : Host.Outcome State Fault Refusal :=
  if s.modes.mode == .keep then .next s else .next (s.writeReg w addr value)

end Sys2Proof.Machine
end

