-- ==== Sys2Proof/Machine/MiOps.lean ====
section
/-! DEFINITION. The management service: NVMe-MI over PCIe and in band, and the Identify and Streams directives (04, 05, 07, 19). -/
namespace Sys2Proof.Machine

/-! ## The service (R24, R75, R143, R619) -/

/-- Admin commands management carries while the module is in SAFE-HOLD (R75, 18 Download). -/
def safeHoldOpcodes : List Nat := [0x02, 0x06, 0x0A, 0x10, 0x11]
/-- An admin command carried to a port's controller: its context answers to management. -/
def State.miAdmin (p : Nat) (e : Sqe) (s : State) : State :=
  let held := s.modes.mode == .safeHold && !safeHoldOpcodes.contains e.opcode
  if held || !(s.active || s.modes.mode == .safeHold) then s.emit (.mi stSequence 0)
  else match s.parseAdmin e with
  | some (st, _) => s.emit (.mi st 0)
  | none =>
    let c : Ctx := { id := s.nextCtx, port := p, inst := 0, gen := s.gen (instKey p 0), qid := 0, stamp := s.fetches, time := s.now, sqe := e, admin := true, phase := .ready, mi := true }
    { s with ctxs := s.ctxs ++ [c], nextCtx := s.nextCtx + 1 }

/-- Tenant logic's offsets of a stop's block: the stop, and the offset. -/
def tenantAt (addr : Nat) : Option (Nat × Nat) :=
  if 0x400000 ≤ addr ∧ addr < 0x500000 ∧ 0x1000 ≤ addr % 0x10000 then some ((addr - 0x400000) / 0x10000, addr % 0x10000 / 8 * 8) else none

/-- The requests answered at once: a status and a value. -/
def State.miDirect (r : MiRequest) (s : State) : Option (Status × W64) × State :=
  match r with
  | .adminCommand p e => (none, s.miAdmin p.val e)
  | .readRegister a =>
    (match tenantAt a with
    | some t => (none, s.ctlRead t.1 t.2 none)
    | none => (some (.success, s.regValue a), s.drew))
  | .writeRegister a v => (some (.success, 0), s.writeReg .management a v)
  | .hold n => let x := s.hold n; (some (x.1, 0), x.2)
  | .releaseHold => let x := s.releaseHold; (some (x.1, 0), x.2)
  | .readConfig n off =>
    -- the status of the refusal is a DESIGN CHOICE, log entry 95
    if s.rpl ≠ 0 then (some (stSequence, 0), s)
    else (match (s.stop n.val).image with
    | some i => if off < i.length then (some (.success, 0), (s.emit (.configRead n.val off (Config.freeWord s.free))).drew) else (some (stInvalidField, 0), s)
    | none => (some (stInvalidField, 0), s))
  | .mailbox code seq => 
    let h : MbHdr := { src := .management, seq := seq }
    (none, s.mbArrives h (.other code) (fun t => t.mbAnswer code h 1 false []))

/-- A request is served and its answer leaves the module. -/
def State.miServe (r : MiRequest) (s : State) : State :=
  let x := s.miDirect r
  match x.1, r with
  | none, _ => x.2
  | some a, .readRegister addr => (x.2.emit (.regValue addr a.2)).emit (.mi a.1 0)
  | some a, _ => x.2.emit (.mi a.1 0)

/-- MCTP_VDM_MESSAGE: the endpoint stands on HP0 alone (R143). -/
def execMctpVdmMessage (p : PortId) (r : MiRequest) (s : State) : Host.Outcome State Fault Refusal :=
  .next (if p.val = 0 ∧ s.miThere ∧ (s.port 0).link = .l0 then s.miServe r else s)

/-- NVME_MI_SEND: a request in band; its answer is kept for the next NVMe-MI Receive. An admin command and a mailbox request
are not carried so, and the host has no readback of a stop's configuration (R489). -/
def execNvmeMiSend (c : Nat) (r : MiRequest) (s : State) : Host.Outcome State Fault Refusal :=
  .next (s.admin c 0x1D (fun x s =>
    match r with
    | .adminCommand _ _ => s.complete c stInvalidField 0
    | .mailbox _ _ => s.complete c stInvalidField 0
    | .readConfig _ _ => s.complete c stInvalidField 0
    | _ =>
      let a := s.miDirect r
      (a.2.modPort x.port (fun t => { t with miResp := a.1 })).complete c .success 0))

/-- The answer as bytes: status at 0, value at 8 (DESIGN CHOICE, log entry 57). -/
def miLayout (a : Option (Status × W64)) : Layout :=
  match a with
  | some r => ⟨16, [⟨0, 0, 16, r.1.field⟩, ⟨8, 0, 64, r.2.toNat⟩]⟩
  | none => ⟨0, []⟩
/-- NVME_MI_RECEIVE. -/
def execNvmeMiReceive (c : Nat) (s : State) : Host.Outcome State Fault Refusal :=
  .next (s.admin c 0x1E (fun x s =>
    ((s.toHost x (miLayout (s.port x.port).miResp)).modPort x.port (fun t => { t with miResp := none })).complete c .success 0))

/-! ## Directives (R189, R235) -/

/-- DTYPE and DOPER of CDW11. -/
def dtype (q : Sqe) : Nat := bits q.cdw11 15 8
def doper (q : Sqe) : Nat := bits q.cdw11 7 0
/-- Streams of a namespace. -/
def Ns.streams (v : Ns) : Nat := if v.spec.useStreams then 8 else 0
/-- Identify directive: supported, enabled and persistent types, a bit each; Streams is type 1 (PRESUMED, log entry 58). -/
def directiveLayout (v : Ns) : Layout :=
  let m := if v.spec.useStreams then 3 else 1
  ⟨4096, [⟨0, 0, 8, 3⟩, ⟨32, 0, 8, m⟩, ⟨64, 0, 8, m⟩]⟩
/-- Streams directive, Return Parameters: the limit and the streams of the namespace. -/
def streamsLayout (v : Ns) : Layout := ⟨32, [⟨0, 0, 16, 8⟩, ⟨2, 0, 16, 8 - v.streams⟩, ⟨4, 0, 16, 0⟩, ⟨22, 0, 16, v.streams⟩]⟩

/-- DIRECTIVE_SEND: Streams are fixed at creation; their release has no effect, for placement needs no stream resources. -/
def execDirectiveSend (c : Nat) (s : State) : Host.Outcome State Fault Refusal :=
  .next (s.admin c 0x19 (fun x s =>
    match s.ns x.sqe.nsid with
    | none => s.complete c stInvalidNs 0
    | some v =>
      if dtype x.sqe = 0 ∧ doper x.sqe = 1 then
        let on := x.sqe.cdw12.getLsbD 0
        if bits x.sqe.cdw12 15 8 ≠ 1 ∨ on ≠ v.spec.useStreams then s.complete c stInvalidField 0 else s.complete c .success 0
      else if dtype x.sqe = 1 ∧ (doper x.sqe = 1 ∨ doper x.sqe = 2) then s.complete c .success 0
      else s.complete c stInvalidField 0))

/-- DIRECTIVE_RECEIVE: Return Parameters of either directive; Get Status and Allocate Resources of Streams. -/
def execDirectiveReceive (c : Nat) (s : State) : Host.Outcome State Fault Refusal :=
  .next (s.admin c 0x1A (fun x s =>
    match s.ns x.sqe.nsid with
    | none => s.complete c stInvalidNs 0
    | some v =>
      if dtype x.sqe = 0 ∧ doper x.sqe = 1 then (s.toHost x (directiveLayout v)).complete c .success 0
      else if dtype x.sqe = 1 ∧ doper x.sqe = 1 then (s.toHost x (streamsLayout v)).complete c .success 0
      else if dtype x.sqe = 1 ∧ doper x.sqe = 2 then (s.toHost x ⟨2, []⟩).complete c .success 0
      else if dtype x.sqe = 1 ∧ doper x.sqe = 3 then s.complete c .success (BitVec.ofNat 32 (min (bits x.sqe.cdw12 15 0) v.streams))
      else s.complete c stInvalidField 0))

end Sys2Proof.Machine
end

