-- ==== Sys2Proof/Machine/Identify.lean ====
section
/-! DEFINITION. Identify (04, 05, 07). -/
namespace Sys2Proof.Machine

/-! ## Identify Controller (R139, R140) -/

/-- Bytes at an offset, a field each. -/
def byteFields (off : Nat) (bs : List Nat) : List Field := (List.range bs.length).map (fun i => ⟨off + i, 0, 8, bs.getD i 0⟩)
/-- SN of the OTP row, 20 ASCII bytes, space-padded. -/
def snBytes : List Nat := (List.range 20).map (fun i => Config.sn.toNat / 2 ^ (8 * i) % 256)
/-- A list of bytes without the spaces at its end. -/
def unpadded (bs : List Nat) : List Nat := (bs.reverse.dropWhile (fun b => b == 32)).reverse
/-- Eight uppercase hexadecimal digits, most significant first. -/
def hexDigits (w : W32) : List Nat :=
  (List.range 8).map (fun i => let d := bits w (31 - 4 * i) (28 - 4 * i); if d < 10 then 48 + d else 55 + d)
/-- "nqn.2019-04.com.marwevel:nlt-1440:". -/
def nqnPrefix : List Nat := [110, 113, 110, 46, 50, 48, 49, 57, 45, 48, 52, 46, 99, 111, 109, 46, 109, 97, 114, 119, 101, 118, 101, 108, 58, 110, 108, 116, 45, 49, 52, 52, 48, 58]

/-- A power state descriptor at its offset: MP, NOPS, ENLAT, EXLAT and the four relative ranks. -/
def psFields (n mp nops en ex rank : Nat) : List Field :=
  let o := 2048 + 32 * n
  [⟨o, 0, 16, mp⟩, ⟨o + 3, 1, 1, nops⟩, ⟨o + 4, 0, 32, en⟩, ⟨o + 8, 0, 32, ex⟩, ⟨o + 12, 0, 5, rank⟩, ⟨o + 13, 0, 5, rank⟩, ⟨o + 14, 0, 5, rank⟩, ⟨o + 15, 0, 5, rank⟩]
def powerFields : List Field :=
  psFields 0 0xFFFF 0 0 0 0 ++ psFields 1 65000 0 1000 1000 1 ++ psFields 2 40000 0 2000 2000 2 ++ psFields 3 30000 1 10000 5000 0 ++ psFields 4 11000 1 100000 30000 0
/-- Input power limits of PS0 to PS4, W. -/
def limitFields : List Field := [⟨3072, 0, 32, 1250⟩, ⟨3076, 0, 32, 650⟩, ⟨3080, 0, 32, 400⟩, ⟨3084, 0, 32, 300⟩, ⟨3088, 0, 32, 110⟩]
/-- The fields of R139 of one value on every module. -/
def controllerConsts : List Field :=
  [⟨0, 0, 16, 0x1F9E⟩, ⟨2, 0, 16, 0x1F9E⟩, ⟨77, 0, 8, 9⟩, ⟨84, 0, 32, 45000000⟩, ⟨88, 0, 32, 500000⟩, ⟨111, 0, 8, 1⟩, ⟨256, 0, 16, 0x007E⟩,
   ⟨258, 0, 8, 3⟩, ⟨259, 0, 8, 15⟩, ⟨260, 0, 8, 0x14⟩, ⟨263, 0, 8, 4⟩, ⟨265, 0, 8, 1⟩, ⟨266, 0, 16, 368⟩, ⟨268, 0, 16, 391⟩, ⟨270, 0, 16, 3⟩,
   ⟨512, 0, 8, 0x66⟩, ⟨513, 0, 8, 0x44⟩, ⟨516, 0, 32, 4096⟩, ⟨520, 0, 16, 0x00DC⟩, ⟨525, 0, 8, 0⟩, ⟨540, 0, 32, 4096⟩]
/-- Identify Controller of a port. -/
def State.controllerLayout (s : State) (p : Nat) : Layout :=
  ⟨4096, controllerConsts ++ byteFields 4 snBytes ++ byteFields 24 modelBytes ++ byteFields 64 (hexDigits (s.bankVersion s.flash.running)) ++
    [⟨78, 0, 16, p + 1⟩, ⟨280, 0, 128, s.userCapacity⟩, ⟨296, 0, 128, s.userCapacity - s.nsBytes⟩] ++
    byteFields 768 (nqnPrefix ++ unpadded snBytes) ++ powerFields ++ limitFields⟩

/-! ## Namespaces (R229, R657, R658) -/

/-- Units of a namespace whose entry is not 0xFF_FFFF_FFFF. -/
def State.mappedUnits (s : State) (nsid : Nat) : Nat := (s.live.map.filter (fun (e : Nat × MapVal) => e.1 / 2 ^ 40 == nsid)).length
/-- NGUID as a number of 128 bits. -/
def Ns.nguid (v : Ns) : Nat := Config.serial.toNat + 2 ^ 64 * (v.serial % 2 ^ 32)
/-- The fields that every namespace has. -/
def nsConsts : List Field := [⟨24, 0, 8, 0x12⟩, ⟨25, 0, 8, 1⟩, ⟨33, 0, 8, 9⟩, ⟨130, 0, 8, 9⟩, ⟨134, 0, 8, 12⟩]
/-- Identify Namespace. -/
def State.nsLayout (s : State) (v : Ns) : Layout :=
  let u := v.spec.perUnit
  let n := s.mappedUnits v.nsid
  let stopNo := fun w => (s.xform v.nsid w).getD 0xFF
  let b := fun (off lsb : Nat) (x : Bool) => (⟨off, lsb, 1, x.toNat⟩ : Field)
  { size := 4096
    fields := nsConsts ++
      [⟨0, 0, 64, v.spec.nsze⟩, ⟨8, 0, 64, v.spec.ncap⟩, ⟨16, 0, 64, n * u⟩, ⟨26, 0, 8, v.spec.flbas⟩, ⟨30, 0, 8, v.spec.nmic⟩] ++
      [34, 36, 64, 66, 68, 70, 72].map (fun o => (⟨o, 0, 16, u - 1⟩ : Field)) ++ [⟨104, 0, 128, v.nguid⟩,
       ⟨3072, 0, 2, v.spec.muCode⟩, b 3072 2 v.spec.writeThrough, b 3072 3 v.spec.readAround, b 3072 4 v.spec.encrypt, b 3072 5 v.spec.keyProvided,
       b 3072 6 v.spec.useStreams, b 3072 7 v.spec.heatDefault, ⟨3076, 0, 16, if v.spec.encrypt then v.nsid - 1 else 0xFFFF⟩,
       ⟨3078, 0, 8, stopNo false⟩, ⟨3079, 0, 8, stopNo true⟩, ⟨3080, 0, 8, s.nsState v⟩, ⟨3084, 0, 32, v.serial⟩, ⟨3088, 0, 64, n⟩] }

/-- Active namespaces of an instance, allocated namespaces of the module. -/
def State.activeNs (s : State) (k : Nat) : List Nat := s.attachedNs k
def State.allocatedNs (s : State) : List Nat := s.live.nss.map (fun (e : Nat × Ns) => e.1)
/-- The numbers of a list above a bound, rising, each once. -/
def above (bound top : Nat) (xs : List Nat) : List Nat := (List.range (top + 1)).filter (fun n => decide (bound < n) && xs.contains n)

/-- The data of a CNS for instance `k`, or a status. The structure of a namespace that is not active is zero (PRESUMED, log entry 59). -/
def State.identify (s : State) (k : Nat) (q : Sqe) : Except Status Layout :=
  let cns := bits q.cdw10 7 0
  let known := fun (ids : List Nat) =>
    if q.nsid = 0xFFFFFFFF ∧ cns = 0 then Except.ok ⟨4096, nsConsts⟩
    else if q.nsid = 0 ∨ 4096 < q.nsid then Except.error stInvalidNs
    else match (if ids.contains q.nsid then s.ns q.nsid else none) with
      | some v => Except.ok (s.nsLayout v)
      | none => Except.ok ⟨4096, []⟩
  let list := fun (ids : List Nat) =>
    if 0xFFFFFFFE ≤ q.nsid then Except.error stInvalidNs
    else
      let xs := (above q.nsid 4096 ids).take 1024
      Except.ok ⟨4096, (List.range xs.length).map (fun i => ⟨4 * i, 0, 32, xs.getD i 0⟩)⟩
  let controllers := fun (ks : List Nat) =>
    let from_ := bits q.cdw10 31 16
    let xs := ((List.range 1024).filter (fun n => ks.contains n && decide (from_ ≤ 0x1000 + n))).take 2047
    (⟨4096, ⟨0, 0, 16, xs.length⟩ :: (List.range xs.length).map (fun i => ⟨2 + 2 * i, 0, 16, 0x1000 + xs.getD i 0⟩)⟩ : Layout)
  match cns with
  | 0x00 => known (s.activeNs k)
  | 0x01 => .ok (s.controllerLayout (k / 128))
  | 0x02 => list (s.activeNs k)
  | 0x03 => (match (if (s.activeNs k).contains q.nsid then s.ns q.nsid else none) with
    | some v => .ok ⟨4096, [⟨0, 0, 8, 2⟩, ⟨1, 0, 8, 16⟩, ⟨4, 0, 128, v.nguid⟩]⟩
    | none => .error stInvalidNs)
  | 0x10 => list s.allocatedNs
  | 0x11 => known s.allocatedNs
  | 0x12 => if q.nsid = 0 ∨ 4096 < q.nsid then .error stInvalidNs else .ok (controllers (s.attachedTo q.nsid))
  | 0x13 => .ok (controllers ((s.live.insts.filter (fun e => e.2.live)).map (·.1)))
  | _ => .error stInvalidField

/-- Identify of one of the CNS values a row names, on a manager function's queue. -/
def State.identifyRow (id : Nat) (which : List Nat) (s : State) : State :=
  s.admin id 0x06 (fun x s =>
    if !which.contains (bits x.sqe.cdw10 7 0) then s
    else match s.identify (instKey x.port 0) x.sqe with
    | .ok l => (s.toHost x l).complete id .success 0
    | .error st => s.complete id st 0)

def execIdentifyController (c : Nat) (s : State) : Host.Outcome State Fault Refusal := .next (s.identifyRow c [0x01])
def execIdentifyNamespace (c : Nat) (s : State) : Host.Outcome State Fault Refusal := .next (s.identifyRow c [0x00, 0x11])
def execIdentifyNsList (c : Nat) (s : State) : Host.Outcome State Fault Refusal := .next (s.identifyRow c [0x02, 0x10, 0x11])
def execIdentifyNsDescriptors (c : Nat) (s : State) : Host.Outcome State Fault Refusal := .next (s.identifyRow c [0x03])
def execIdentifyControllerList (c : Nat) (s : State) : Host.Outcome State Fault Refusal := .next (s.identifyRow c [0x12, 0x13])

end Sys2Proof.Machine
end

