-- ==== Sys2Proof/Machine/QueueAdmin.lean ====
section
/-! DEFINITION. Creation and deletion of I/O queues, for instance 0 and through Proxy Admin (04, 05, 06), and the instance commands (06). -/
namespace Sys2Proof.Machine

/-! ## Queues. `id` is the command, `k` the instance whose queues it acts on, `q` the entry. -/

/-- What both creates check: identifier, size, contiguity (R127, R135, R202, R203). -/
def State.queueRefused (k : Nat) (q : Sqe) (present : Bool) (count : Nat) (s : State) : Option Status :=
  let qid := bits q.cdw10 15 0
  let size := bits q.cdw10 31 16 + 1
  if k % 128 ≠ 0 ∧ !(s.port (k / 128)).pasidEn then some stSequence
  else if qid = 0 ∨ 511 < qid ∨ present ∨ (s.dinst k).share.queuePairs ≤ count then some (stSpecific 0x01)
  else if size < 2 ∨ 4096 < size then some (stSpecific 0x02)
  else if !q.cdw11.getLsbD 0 then some stInvalidField
  else none

/-- I/O queues of a table, the admin queue left out. -/
def State.ioCount (_s : State) (k : Nat) {α : Type} (t : Tbl α) : Nat := (t.filter (fun e => !(k % 128 == 0 && e.1 == 0))).length

/-- Create I/O Completion Queue. -/
def State.createCq (id k : Nat) (q : Sqe) (s : State) : State :=
  let qid := bits q.cdw10 15 0
  let i := s.inst k
  match s.queueRefused k q (i.cqs.find qid).isSome (s.ioCount k i.cqs) with
  | some st => s.complete id st 0
  | none =>
    let iv := bits q.cdw11 31 16
    let ien := q.cdw11.getLsbD 1
    if bits q.cdw11 15 2 ≠ 0 then s.complete id stInvalidField 0
    else if ien ∧ (s.dinst k).share.vectors ≤ iv then s.complete id (stSpecific 0x08) 0
    else
      (s.modInst k (fun i => { i with cqs := i.cqs.set qid { size := bits q.cdw10 31 16 + 1, base := q.prp1, vector := if ien then some iv else none } })).complete id .success 0

/-- Create I/O Submission Queue. -/
def State.createSq (id k : Nat) (q : Sqe) (s : State) : State :=
  let qid := bits q.cdw10 15 0
  let i := s.inst k
  match s.queueRefused k q (i.sqs.find qid).isSome (s.ioCount k i.sqs) with
  | some st => s.complete id st 0
  | none =>
    let cq := bits q.cdw11 31 16
    if bits q.cdw11 15 3 ≠ 0 then s.complete id stInvalidField 0
    else if cq = 0 ∨ (i.cqs.find cq).isNone then s.complete id (stSpecific 0x00) 0
    else (s.modInst k (fun i => { i with sqs := i.sqs.set qid { size := bits q.cdw10 31 16 + 1, base := q.prp1, cq := cq } })).complete id .success 0

/-- Delete I/O Completion Queue. -/
def State.deleteCq (id k : Nat) (q : Sqe) (s : State) : State :=
  let qid := bits q.cdw10 15 0
  let i := s.inst k
  if qid = 0 ∨ (i.cqs.find qid).isNone then s.complete id (stSpecific 0x01) 0
  else if i.sqs.any (fun e => e.2.cq == qid) then s.complete id (stSpecific 0x0C) 0
  else (s.modInst k (fun i => { i with cqs := i.cqs.erase qid })).complete id .success 0

/-- Delete I/O Submission Queue (R179): commands not caught complete first, and the Delete after them. -/
def State.deleteSq (id k : Nat) (q : Sqe) (s : State) : State :=
  let qid := bits q.cdw10 15 0
  if qid = 0 ∨ ((s.inst k).sqs.find qid).isNone then s.complete id (stSpecific 0x01) 0
  else
    let s := s.modInst k (fun i => { i with sqs := i.sqs.set qid { i.sqs.get {} qid with failed := true } })
    let s := s.modCtx id (fun c => { c with phase := .drain, stopNo := k % 128, stopTag := qid })
    let ids := (s.ctxs.filter (fun c => !c.admin && c.key == k && c.qid == qid && c.mover.isNone && s.catchable c)).map (·.id)
    (s.each ids (fun i t => t.endCaught i stSqDeleted)).retry.settleDeletes

/-- CREATE_IO_SQ, CREATE_IO_CQ, DELETE_IO_SQ, DELETE_IO_CQ: queues of instance 0. -/
def execCreateIoSq (c : Nat) (s : State) : Host.Outcome State Fault Refusal :=
  .next (s.admin c 0x01 (fun x s => s.createSq c (instKey x.port 0) x.sqe))
def execDeleteIoSq (c : Nat) (s : State) : Host.Outcome State Fault Refusal :=
  .next (s.admin c 0x00 (fun x s => s.deleteSq c (instKey x.port 0) x.sqe))
def execCreateIoCq (c : Nat) (s : State) : Host.Outcome State Fault Refusal :=
  .next (s.admin c 0x05 (fun x s => s.createCq c (instKey x.port 0) x.sqe))
def execDeleteIoCq (c : Nat) (s : State) : Host.Outcome State Fault Refusal :=
  .next (s.admin c 0x04 (fun x s => s.deleteCq c (instKey x.port 0) x.sqe))

/-! ## Instance commands -/

/-- CREATE_INSTANCE (R199 to R201): the slot becomes ACTIVE with its next generation (R218), once nothing in flight carries it (R215). -/
def execCreateInstance (c : Nat) (s : State) : Host.Outcome State Fault Refusal :=
  .next (s.boundary c 0xC1 (fun x s =>
    let p := x.port
    let n := x.localIndex
    let count := (s.vport p).instances
    match x.sqe.data with
    | .share d =>
      let free := fun n => !(s.dinst (instKey p n)).live
      if !shareOk d || !(s.port p).pasidEn ||
          (s.liveKeys p).any (fun k => k % 128 != 0 && (s.dinst k).share.pasid == d.pasid) then s.complete c stInvalidField 0
      else if n ≠ 0xFF ∧ (n = 0 ∨ count ≤ n ∨ !free n) then s.complete c stInvalidField 0
      else
        match (if n = 0xFF then ((List.range count).drop 1).find? free else some n) with
        | none => s.complete c stPool 9
        | some n =>
          let k := instKey p n
          if s.genBusy k (s.gen k + 1) then s else
          match s.shortOf k d with
          | some code => s.complete c stPool (BitVec.ofNat 32 code)
          | none =>
            let base := (s.vecFit k d.vectors).getD 0
            let g := s.gen k + 1
            let s := s.logInst k (fun e => { e with live := true, gen := g, share := d, vecBase := base, attached := [], window := none })
            let s := (s.modInst k (fun _ => { state := .active })).modJrn (fun j => { j with stats := j.stats.erase k })
            s.reviewRegions.awaitSeal c (BitVec.ofNat 32 (n + g.toNat * 65536))
    | _ => s.complete c stInvalidField 0))

/-- The fields of a share descriptor at an offset. -/
def shareFields (o : Nat) (d : Share) : List Field :=
  [⟨o, 0, 20, d.pasid⟩, ⟨o + 4, 0, 16, d.queuePairs⟩, ⟨o + 6, 0, 16, d.vectors⟩, ⟨o + 8, 0, 16, d.slotMin⟩, ⟨o + 10, 0, 16, d.slotMax⟩,
   ⟨o + 12, 0, 16, d.tokens⟩, ⟨o + 14, 0, 16, d.tokenCap⟩, ⟨o + 16, 0, 16, d.nsQuota⟩, ⟨o + 18, 0, 16, d.stopMask.toNat⟩, ⟨o + 20, 0, 4, d.pinnedWays⟩]

/-- Code of a slot's state in the Instance Report. -/
def SlotState.code : SlotState → Nat
  | .free => 0
  | .active => 1
  | .draining => 2
  | .isolated => 3

/-- Instance Report data. -/
def State.instReport (s : State) (k : Nat) : Layout :=
  let i := s.inst k
  let d := s.dinst k
  if !d.live then ⟨256, [⟨0, 0, 2, 0⟩, ⟨2, 0, 16, d.gen.toNat⟩]⟩
  else
    { size := 256
      fields :=
        [⟨0, 0, 2, i.state.code⟩, ⟨1, 0, 8, i.cause⟩, ⟨2, 0, 16, d.gen.toNat⟩, ⟨4, 0, 32, d.epoch.toNat⟩, ⟨8, 0, 16, d.vecBase⟩,
         ⟨10, 0, 16, s.pairsUsed k⟩, ⟨12, 0, 16, s.slotsHeld k⟩, ⟨14, 0, 16, (s.attachedNs k).length⟩, ⟨16, 0, 16, (s.boundStops k).toNat⟩,
         ⟨18, 0, 16, min i.defLog.pending 65535⟩, ⟨20, 0, 32, i.violWindow⟩, ⟨24, 0, 64, i.violTotal⟩, ⟨32, 0, 64, i.late⟩,
         ⟨40, 0, 64, i.admitted⟩, ⟨48, 0, 64, i.fetched⟩, ⟨56, 0, 32, i.lastDrainUs⟩] ++ shareFields 64 d.share }

/-- INSTANCE_REPORT. -/
def execInstanceReport (c : Nat) (s : State) : Host.Outcome State Fault Refusal :=
  .next (s.admin c 0xC2 (fun x s =>
    if (s.vport x.port).instances ≤ x.localIndex then s.complete c stInvalidField 0
    else (s.toHost x (s.instReport (instKey x.port x.localIndex))).complete c .success 0))

/-- What the commands that name a slot and a generation check before anything else (R199). -/
def slotChecks (id : Nat) (zero : Bool) (go : Ctx → Nat → State → State) (x : Ctx) (s : State) : State :=
  let k := instKey x.port x.localIndex
  if (s.vport x.port).instances ≤ x.localIndex || (!zero && x.localIndex == 0) then s.complete id stInvalidField 0
  else if matchFails x.sqe.cdw11 (s.gen k) then s.complete id stSequence 0
  else if !(s.dinst k).live then s.complete id stInvalidField 0
  else go x k s
/-- The same for a boundary of the slot that resets it: it waits while an operation in flight carries the generation to come (R215). -/
def State.slotCommand (id op : Nat) (zero : Bool) (go : Ctx → Nat → State → State) (s : State) : State :=
  s.boundary id op (slotChecks id zero (fun x k s => if s.genBusy k (s.gen k + 1) then s else go x k s))

/-- A Change Share in its drain completes without effect (R224). -/
def State.dropChange (k : Nat) (s : State) : State :=
  match (s.inst k).change with
  | none => s
  | some ch => (s.modInst k (fun i => { i with change := none })).complete ch.ctx stSequence 0

/-- DESTROY_INSTANCE (R218, R224): the slot is FREE, its shares are back, its stops are cleared. -/
def execDestroyInstance (c : Nat) (s : State) : Host.Outcome State Fault Refusal :=
  .next (s.slotCommand c 0xC4 false (fun _ k s =>
    let s := (s.dropChange k).resetInst k
    let mask := (s.dinst k).share.stopMask
    let s := s.modCtx c (fun x => { x with phase := .drain })
    let s := s.clearStops mask (some c)
    let s := s.unlockWays k none
    let s := s.logInst k (fun d => { d with live := false, share := {}, vecBase := 0, attached := [], window := none })
    let ws := (s.inst k).waiting
    let s := (s.modInst k (fun _ => {})).awaitSeal c 0
    (s.each ws (fun i t => t.complete i stInvalidField 0)).reviewRegions))

/-- CHANGE_SHARE: at slot states ACTIVE and DRAINING; a second one waits for the first (R199, R219 to R224). -/
def execChangeShare (c : Nat) (s : State) : Host.Outcome State Fault Refusal :=
  .next (s.boundary c 0xC5 (fun _ s => s.startChange c))

/-- SHARE_DRAIN_END: none of the instance's commands remains (R221); during a device epoch the share waits for its apply step (R104, R225). -/
def execShareDrainEnd (p : PortId) (n : LocalId) (s : State) : Host.Outcome State Fault Refusal :=
  let k := instKey p n
  if (s.running_ k).isEmpty && s.modes.epoch.isNone then .next ((s.applyChange k).reviewRegions) else .next s

/-- SHARE_DRAIN_LIMIT_EXPIRY: the new share is applied with commands still in flight (R222). -/
def execShareDrainLimitExpiry (p : PortId) (n : LocalId) (s : State) : Host.Outcome State Fault Refusal :=
  match (s.inst (instKey p n)).change with
  | none => .next s
  | some ch => .next (if s.modes.epoch.isSome then s
    else ((s.notBefore (ch.start + s.image.faults.shareDrainLimit * 1000)).applyChange (instKey p n)).reviewRegions)

/-- RESET_INSTANCE (R216, R224, R227). -/
def execResetInstance (c : Nat) (s : State) : Host.Outcome State Fault Refusal :=
  .next (s.slotCommand c 0xC8 true (fun _ k s => (s.resetInst k).awaitSeal c 0))

end Sys2Proof.Machine
end

