-- ==== Sys2Proof/Machine/LogPages.lean ====
section
/-! DEFINITION. Log pages as images of the state, and Get Log Page (03, 05, 06, 11, 14, 16, 18, 19). -/
namespace Sys2Proof.Machine

/-! ## The part of a page a command asks for -/

/-- NUMD, from 0, as bytes; the Log Page Offset; RAE; the Log Specific Identifier. -/
def logBytes (q : Sqe) : Nat := 4 * (bits q.cdw10 31 16 + 65536 * bits q.cdw11 15 0 + 1)
def logOffset (q : Sqe) : Nat := q.cdw12.toNat + 2 ^ 32 * q.cdw13.toNat
def rae (q : Sqe) : Bool := q.cdw10.getLsbD 15
def lsi (q : Sqe) : Nat := bits q.cdw11 31 16
/-- The part of a field that lies in a window of bits; fields are cut at its ends. -/
def Field.cut (lo hi : Nat) (f : Field) : Option Field :=
  let start := 8 * f.off + f.lsb
  let a := max start lo
  let b := min (start + f.width) hi
  if a < b then some ⟨(a - lo) / 8, (a - lo) % 8, b - a, f.val / 2 ^ (a - start) % 2 ^ (b - a)⟩ else none
/-- `len` bytes of a structure from byte `lo` on, no further than its end (DEDUCED, log entry 60). -/
def Layout.window (lo len : Nat) (l : Layout) : Layout :=
  let n := min len (l.size - lo)
  ⟨n, l.fields.filterMap (Field.cut (8 * lo) (8 * (lo + n)))⟩
/-- The part of a page that goes to the host. -/
def logPart (q : Sqe) (l : Layout) : Layout := l.window (logOffset q) (logBytes q)

/-! ## Standard pages; the layouts are NVMe's (PRESUMED, log entry 61) -/

/-- 01h: the entries of an admin queue's violations; an instance has none. -/
def State.pageError (s : State) (k : Nat) : Layout :=
  let es := if k % 128 = 0 then (s.port (k / 128)).errLog else []
  ⟨4096, (List.range es.length).flatMap (fun i =>
    match es[i]? with
    | some e => let o := 64 * i
      [⟨o, 0, 64, e.count⟩, ⟨o + 8, 0, 16, e.sqid⟩, ⟨o + 10, 0, 16, e.cid⟩, ⟨o + 12, 1, 15, e.status.field⟩, ⟨o + 14, 0, 16, Config.freeReading s.free⟩, ⟨o + 24, 0, 32, e.nsid⟩]
    | none => [])⟩

/-- 02h (R389): the fields the manual gives; the others are free readings. -/
def State.pageSmart (s : State) (p : Nat) : Layout :=
  ⟨512, [⟨0, 0, 8, s.smartWarning p⟩, ⟨1, 0, 16, s.pw.composite⟩, ⟨3, 0, 8, s.health.available⟩, ⟨4, 0, 8, 10⟩, ⟨5, 0, 8, min s.health.lifeUsed 255⟩,
    ⟨160, 0, 128, s.health.integrity⟩, ⟨176, 0, 128, (s.port p).errCount⟩] ++
    [32, 48, 64, 80, 96, 112, 128, 144].map (fun o => (⟨o, 0, 128, Config.freeReading (s.free + o)⟩ : Field)) ++
    [⟨192, 0, 32, Config.freeReading (s.free + 192)⟩, ⟨196, 0, 32, Config.freeReading (s.free + 196)⟩]⟩

/-- The bank the next bring-up boots, where it is the trial bank (R603). -/
def State.nextTrial (s : State) : Option Nat :=
  let k := s.keep
  if k.stage = 3 then (if k.bootOnce then none else some k.trialBank)
  else if k.stage = 4 then (if k.trialCount = 3 then none else some k.trialBank)
  else if k.activateNext then some k.trialBank else none
/-- 03h (18): AFI, and the revisions of the two slots. -/
def State.pageFwSlot (s : State) : Layout :=
  let next := match s.nextTrial with
    | some b => b + 1
    | none => 0
  ⟨512, [⟨0, 0, 3, s.keep.fwActive + 1⟩, ⟨0, 4, 3, next⟩] ++ byteFields 8 (hexDigits (s.bankVersion 0)) ++ byteFields 16 (hexDigits (s.bankVersion 1))⟩

/-- 05h: CSUPP of every command of R189; what else a supported command's entry says is free. -/
def State.pageEffects (s : State) : Layout :=
  let entry := fun (base op : Nat) => ([⟨base + 4 * op, 0, 1, 1⟩, ⟨base + 4 * op, 1, 31, Config.freeReading (s.free + base + op)⟩] : List Field)
  ⟨4096, adminOpcodes.flatMap (entry 0) ++ ioOpcodes.flatMap (entry 1024)⟩

/-- 06h: the operation that runs, and the results, newest first. -/
def State.pageSelfTest (s : State) : Layout :=
  let cur := match s.modes.selfTest with
    | some t => if t.extended then 2 else 1
    | none => 0
  ⟨564, [⟨0, 0, 4, cur⟩, ⟨1, 0, 7, if cur = 0 then 0 else Config.freeReading s.free % 101⟩] ++
    (List.range 20).flatMap (fun i =>
      match s.modes.testLog[i]? with
      | some r => ([⟨4 + 28 * i, 0, 4, r.2⟩, ⟨4 + 28 * i, 4, 4, r.1⟩, ⟨8 + 28 * i, 0, 64, Config.freeReading (s.free + 1 + i)⟩] : List Field)
      | none => [⟨4 + 28 * i, 0, 4, 0xF⟩])⟩

/-! ## Deferred errors (R187) -/

def defEntry (i : Nat) (e : DefErr) : List Field :=
  let o := 64 + 64 * i
  [⟨o, 0, 64, e.seq⟩, ⟨o + 8, 0, 64, e.time⟩, ⟨o + 0x10, 0, 32, e.nsid⟩, ⟨o + 0x14, 0, 16, e.gen.toNat⟩, ⟨o + 0x16, 0, 16, e.event⟩, ⟨o + 0x18, 0, 64, e.slba⟩,
   ⟨o + 0x20, 0, 32, e.nlb⟩, ⟨o + 0x24, 0, 8, e.cause⟩, ⟨o + 0x25, 0, 1, e.flagged.toNat⟩, ⟨o + 0x25, 1, 1, e.evented.toNat⟩, ⟨o + 0x25, 2, 1, e.flushed.toNat⟩,
   ⟨o + 0x28, 0, 64, e.epoch⟩]
/-- 0xE0 of an instance. -/
def DefLog.layout (d : DefLog) : Layout :=
  ⟨64 + 64 * d.entries.length, [⟨0, 0, 16, d.entries.length⟩, ⟨2, 0, 16, min d.pending 65535⟩, ⟨4, 0, 1, d.overflow.toNat⟩, ⟨8, 0, 64, d.lost⟩] ++
    (List.range d.entries.length).flatMap (fun i =>
      match d.entries[i]? with
      | some e => defEntry i e
      | none => [])⟩
/-- The entries a read returns whole; one returned in part stays in the log (DESIGN CHOICE, log entry 96). -/
def DefLog.returned (d : DefLog) (lo len : Nat) : List Nat :=
  ((List.range d.entries.length).filter (fun i => decide (lo ≤ 64 + 64 * i ∧ 64 + 64 * i + 64 ≤ lo + len))).filterMap (fun i => d.entries[i]?.map (fun e => e.seq))
/-- Entries leave the log; one not delivered counts as delivered (R187). -/
def DefLog.remove (d : DefLog) (qs : List Nat) : DefLog :=
  DefLog.settle { d with
    entries := d.entries.filter (fun e => !qs.contains e.seq)
    undelivered := d.undelivered.filter (fun u => !qs.contains u.1)
    removed := d.removed ++ qs }
/-- 0xE0 is read for an instance. -/
def State.readDeferred (id p k : Nat) (q : Sqe) (s : State) : State :=
  match s.ctx id with
  | none => s
  | some c =>
    let d := (s.inst k).defLog
    let s := s.toHost c (logPart q d.layout)
    let s := if rae q then s
      else (s.modInst k (fun i => { i with defLog := i.defLog.remove (d.returned (logOffset q) (logBytes q)) })).modPort p (fun t => { t with posted := t.posted.set 0xE0 false })
    s.complete id .success 0

/-! ## Counters and histograms (R620, R621) -/

def InstCounters.layout (c : InstCounters) : Layout :=
  ⟨128, ([c.reads, c.writes, c.readBytes, c.writeBytes, c.flushes, c.computes, c.errors, c.admitWaitUs, c.cacheWaitUs, c.mapParks, c.readArounds].zipIdx).map
    (fun x => (⟨8 * x.2, 0, 64, sat64 x.1⟩ : Field))⟩
def Inst.histLayout (i : Inst) : Layout :=
  ⟨1024, (List.range 64).map (fun b => (⟨8 * b, 0, 64, sat64 (i.histRead.get 0 b)⟩ : Field)) ++ (List.range 64).map (fun b => (⟨512 + 8 * b, 0, 64, sat64 (i.histWrite.get 0 b)⟩ : Field))⟩

/-! ## Media health (11), stops (14), power and thermal (16), update (18) -/

/-- Bands of a group, all of them. -/
def State.allBands (s : State) (g : Nat) : List Nat := List.range (s.vmun g).bands
/-- The fields of group `g` of 0xE3. -/
def State.groupFields (s : State) (g : Nat) : List Field :=
  let o := 0x100 + 32 * g
  let er := (s.allBands g).map (fun b => (s.band g b).erases)
  let sum := er.foldl (· + ·) 0
  let full := (s.bandsOf g).filter (fun b => (s.band g b).state == .full)
  let valid := (full.map (s.validIn g)).foldl (· + ·) 0
  let gone := ((s.bandsOf g).filter (fun b => (s.band g b).state == .retired)).length
  [⟨o, 0, 16, s.freeCount g⟩, ⟨o + 2, 0, 8, s.worstSet g⟩, ⟨o + 3, 0, 1, (s.group g).closed.toNat⟩, ⟨o + 3, 1, 1, (s.creditHeld g).toNat⟩,
   ⟨o + 4, 0, 32, er.foldl min (er.headD 0)⟩, ⟨o + 8, 0, 32, er.foldl max 0⟩, ⟨o + 0xC, 0, 32, sum / max 1 er.length⟩,
   ⟨o + 0x10, 0, 16, valid * 1000 / max 1 (full.length * s.bandSlots g)⟩, ⟨o + 0x12, 0, 16, gone⟩]
def warnFields (i : Nat) (w : Nat × Nat × Nat × Nat) : List Field :=
  let o := 0x300 + 16 * i
  [⟨o, 0, 16, w.1⟩, ⟨o + 2, 0, 16, w.2.1⟩, ⟨o + 4, 0, 32, w.2.2.1⟩, ⟨o + 8, 0, 64, w.2.2.2⟩]
/-- 0xE3. -/
def State.pageHealth (s : State) : Layout :=
  let h := s.health
  let ws := h.warnings.take 32
  let least := match s.activeDies.map (fun x => s.spareBlocks x.1 x.2) with
    | [] => 0
    | x :: r => r.foldl min x
  { size := 1280
    fields :=
      [⟨0, 0, 8, min h.lifeUsed 255⟩, ⟨1, 0, 8, h.available⟩, ⟨2, 0, 8, 10⟩, ⟨3, 0, 1, h.writeProtect.toNat⟩, ⟨3, 1, 1, h.spareLow.toNat⟩,
       ⟨4, 0, 16, s.groupMask (fun g => (s.group g).closed)⟩, ⟨6, 0, 16, ws.length⟩, ⟨8, 0, 64, sat64 h.hostBytes⟩, ⟨16, 0, 64, sat64 h.mediaBytes⟩,
       ⟨24, 0, 64, sat64 h.gcBytes⟩, ⟨32, 0, 64, sat64 h.refreshBytes⟩, ⟨40, 0, 64, sat64 h.wearBytes⟩, ⟨0x30, 0, 32, h.blocksRetired⟩,
       ⟨0x34, 0, 16, h.diesRetired⟩, ⟨0x36, 0, 16, h.podsRetired⟩, ⟨0x38, 0, 32, h.bandsRetired⟩, ⟨0x3C, 0, 16, least⟩] ++
      s.groupList.flatMap s.groupFields ++
      (List.range ws.length).flatMap (fun i =>
        match ws[i]? with
        | some w => warnFields i w
        | none => []) }

/-- The entry of stop `n` in 0xE4, as port `p` reads it. -/
def State.stopFields (s : State) (p n : Nat) : List Field :=
  let x := s.stop n
  let o := 32 * n
  if !(s.vpool p).stops.getLsbD n then [] else
  let h := match s.holder n with
    | some k => k % 128
    | none => 0xFF
  [⟨o, 0, 3, x.state⟩, ⟨o + 1, 0, 8, x.fenceCause⟩, ⟨o + 2, 0, 8, h⟩, ⟨o + 3, 0, 8, x.lastCode⟩, ⟨o + 4, 0, 32, x.fenceEpoch.toNat⟩,
   ⟨o + 8, 0, 64, x.violTotal⟩, ⟨o + 16, 0, 64, x.fenceTime⟩]
def State.pageStops (s : State) (p : Nat) : Layout := ⟨512, stopNos.flatMap (s.stopFields p)⟩
/-- 0xE5: SN_SUPPLY, SN_BELLOWS, SN_MUTE, SN_ZONE_0 to SN_ZONE_151. -/
def State.pagePower (s : State) : Layout :=
  ⟨1240, [⟨0, 0, 64, s.snSupply.toNat⟩, ⟨8, 0, 64, s.snBellows.toNat⟩, ⟨16, 0, 64, s.snMute.toNat⟩] ++
    (List.range 152).map (fun z => (⟨24 + 8 * z, 0, 64, (s.snZone z).toNat⟩ : Field))⟩
/-- 0xE6. -/
def State.pageUpdate (s : State) : Layout :=
  ⟨32, [⟨0, 0, 64, s.krStage.toNat⟩, ⟨8, 0, 64, s.krProgress.toNat⟩, ⟨16, 0, 64, s.keep.serial.toNat⟩, ⟨24, 0, 64, s.krTimer.toNat⟩]⟩

/-! ## Dies (R622), the event journal (R627), module state (R654) -/

/-- STATE of a die's record: a suspect die is active still. -/
def DieHealth.code : DieHealth → Nat
  | .spare => 0
  | .active => 1
  | .suspect => 1
  | .failed => 2
  | .retired => 3
def State.dieFields (s : State) (l d : Nat) : List Field :=
  let x := s.die (dieKey l d)
  let o := 128 * d
  let st := match x.health with
    | .active => if (s.activePos l d).isSome then 1 else 0
    | h => h.code
  let pos := if st = 1 then (s.activePos l d).getD 0xFF else 0xFF
  [⟨o, 0, 64, sat64 x.hostReads⟩, ⟨o + 8, 0, 64, sat64 x.otherReads⟩, ⟨o + 16, 0, 64, sat64 x.programs⟩, ⟨o + 24, 0, 64, sat64 x.erases⟩, ⟨o + 32, 0, 64, sat64 x.bitsRead⟩,
   ⟨o + 40, 0, 64, sat64 x.bitsFixed⟩] ++ (List.range 5).map (fun i => (⟨o + 0x30 + 4 * i, 0, 32, min (x.ladder.getD i 0) 0xFFFFFFFF⟩ : Field)) ++
  [⟨o + 0x44, 0, 16, min x.progFails 65535⟩, ⟨o + 0x46, 0, 16, min x.eraseFails 65535⟩, ⟨o + 0x48, 0, 32, min x.progSusp 0xFFFFFFFF⟩,
   ⟨o + 0x4C, 0, 32, min x.eraseSusp 0xFFFFFFFF⟩, ⟨o + 0x50, 0, 16, s.spareBlocks l d⟩, ⟨o + 0x52, 0, 8, st⟩, ⟨o + 0x53, 0, 8, pos⟩,
   ⟨o + 0x54, 0, 16, x.tempMaxK⟩, ⟨o + 0x56, 0, 16, min x.resets 65535⟩, ⟨o + 0x58, 0, 32, min (x.doneFixed * 10 ^ 9 / max 1 x.doneReads) 0xFFFFFFFF⟩]
def State.pageDies (s : State) (l : Nat) : Layout := ⟨2304, (List.range 18).flatMap (s.dieFields l)⟩

def entryFields (o : Nat) (e : JEntry) : List Field :=
  [⟨o, 0, 48, e.seq⟩, ⟨o, 48, 16, e.report.event⟩, ⟨o + 8, 0, 48, e.report.time⟩, ⟨o + 8, 48, 8, e.report.source⟩, ⟨o + 8, 56, 3, Config.severity e.report.event⟩,
   ⟨o + 16, 0, 32, e.report.object⟩, ⟨o + 16, 32, 32, e.report.value⟩, ⟨o + 24, 0, 32, e.coalesced⟩, ⟨o + 24, 32, 16, e.lost⟩]
/-- 0xE8: header and entries, oldest first; the offset skips whole entries. -/
def State.pageEvents (s : State) (history : Bool) (lo len : Nat) : Layout :=
  let all := if history then s.ev.history.reverse else s.ev.ring
  let es := (all.drop (lo / 32)).take ((len - 64) / 32)
  let first := match es with
    | e :: _ => e.seq
    | [] => 0
  ⟨64 + 32 * es.length, [⟨0, 0, 64, first⟩, ⟨8, 0, 64, es.length⟩, ⟨16, 0, 64, s.ev.lastSeq⟩] ++
    (List.range es.length).flatMap (fun i =>
      match es[i]? with
      | some e => entryFields (64 + 32 * i) e
      | none => [])⟩

/-- Instances of a port that are isolated, a bit each. -/
def State.isolatedMask (s : State) (p : Nat) : Nat :=
  (List.range 128).foldl (fun m n => if (s.inst (instKey p n)).state == .isolated then m + 2 ^ n else m) 0
/-- 0xEA. -/
def State.pageModule (s : State) (p : Nat) : Layout :=
  let t := s.port p
  ⟨48, [⟨0, 0, 64, s.mdMode.toNat⟩, ⟨8, 0, 16, t.degSet.toNat⟩, ⟨10, 0, 16, t.degCleared.toNat⟩, ⟨16, 0, 128, s.isolatedMask p⟩, ⟨32, 0, 128, t.newIso.toNat⟩]⟩

/-! ## Get Log Page -/

/-- Get Log Page of one identifier on a manager function's queue. -/
def State.getLog (id lid : Nat) (go : Ctx → State → State) (s : State) : State :=
  s.admin id 0x02 (fun x s => if bits x.sqe.cdw10 7 0 ≠ lid then s else go x s)
/-- A page is sent, and the command completes. -/
def State.sendPage (x : Ctx) (l : Layout) (s : State) : State := ((s.toHost x (logPart x.sqe l)).drew).complete x.id .success 0
/-- The event of a page may be posted again once the page has been read with RAE cleared. -/
def State.pageRead (x : Ctx) (lid : Nat) (s : State) : State :=
  if rae x.sqe then s else s.modPort x.port (fun t => { t with posted := t.posted.set lid false })
/-- A page of one instance of the port, named by the Log Specific Identifier. -/
def State.instPage (x : Ctx) (go : Nat → State → State) (s : State) : State :=
  if (s.vport x.port).instances ≤ lsi x.sqe then s.complete x.id stInvalidField 0 else go (instKey x.port (lsi x.sqe)) s

def execGetLogErrorInfo (c : Nat) (s : State) : Host.Outcome State Fault Refusal :=
  .next (s.getLog c 0x01 (fun x s => s.sendPage x (s.pageError (instKey x.port 0))))
def execGetLogSmart (c : Nat) (s : State) : Host.Outcome State Fault Refusal :=
  .next (s.getLog c 0x02 (fun x s => s.sendPage x (s.pageSmart x.port)))
def execGetLogFwSlot (c : Nat) (s : State) : Host.Outcome State Fault Refusal :=
  .next (s.getLog c 0x03 (fun x s => s.sendPage x s.pageFwSlot))
def execGetLogCommandsEffects (c : Nat) (s : State) : Host.Outcome State Fault Refusal :=
  .next (s.getLog c 0x05 (fun x s => s.sendPage x s.pageEffects))
def execGetLogSelfTest (c : Nat) (s : State) : Host.Outcome State Fault Refusal :=
  .next (s.getLog c 0x06 (fun x s => s.sendPage x s.pageSelfTest))
/-- GET_LOG_DEFERRED_ERRORS: RAE cleared, the entries returned leave the log (R187). -/
def execGetLogDeferredErrors (c : Nat) (s : State) : Host.Outcome State Fault Refusal :=
  .next (s.getLog c 0xE0 (fun x s => s.instPage x (fun k s => s.readDeferred c x.port k x.sqe)))
def execGetLogInstanceCounters (c : Nat) (s : State) : Host.Outcome State Fault Refusal :=
  .next (s.getLog c 0xE1 (fun x s => s.instPage x (fun k s => s.sendPage x (s.inst k).counters.layout)))
def execGetLogLatencyHistograms (c : Nat) (s : State) : Host.Outcome State Fault Refusal :=
  .next (s.getLog c 0xE2 (fun x s => s.instPage x (fun k s => s.sendPage x (s.inst k).histLayout)))
/-- GET_LOG_MEDIA_HEALTH: the warnings remain until they are read (R387); those returned leave with RAE cleared. -/
def execGetLogMediaHealth (c : Nat) (s : State) : Host.Outcome State Fault Refusal :=
  .next (s.getLog c 0xE3 (fun x s =>
    let l := s.pageHealth
    let s := if rae x.sqe then s else s.modHealth (fun h => { h with warnings := h.warnings.drop 32 })
    (s.pageRead x 0xE3).sendPage x l))
def execGetLogStops (c : Nat) (s : State) : Host.Outcome State Fault Refusal :=
  .next (s.getLog c 0xE4 (fun x s => (s.pageRead x 0xE4).sendPage x (s.pageStops x.port)))
def execGetLogPowerThermal (c : Nat) (s : State) : Host.Outcome State Fault Refusal :=
  .next (s.getLog c 0xE5 (fun x s => (s.pageRead x 0xE5).sendPage x s.pagePower))
def execGetLogUpdateState (c : Nat) (s : State) : Host.Outcome State Fault Refusal :=
  .next (s.getLog c 0xE6 (fun x s => s.sendPage x s.pageUpdate))
def execGetLogDieStatistics (c : Nat) (s : State) : Host.Outcome State Fault Refusal :=
  .next (s.getLog c 0xE7 (fun x s => if 144 ≤ lsi x.sqe then s.complete c stInvalidField 0 else s.sendPage x (s.pageDies (lsi x.sqe))))
/-- GET_LOG_EVENT_JOURNAL: identifier 0 the ring, 1 the persisted history. -/
def execGetLogEventJournal (c : Nat) (s : State) : Host.Outcome State Fault Refusal :=
  .next (s.getLog c 0xE8 (fun x s =>
    if 2 ≤ lsi x.sqe then s.complete c stInvalidField 0
    else (s.toHost x ((s.pageEvents (lsi x.sqe == 1) (logOffset x.sqe) (logBytes x.sqe)).window 0 (logBytes x.sqe))).complete c .success 0))
def execGetLogSpareReserves (c : Nat) (s : State) : Host.Outcome State Fault Refusal :=
  .next (s.getLog c 0xE9 (fun x s => s.sendPage x (s.spares.page.getD s.sparePage)))
/-- GET_LOG_MODULE_STATE: with RAE cleared, what counts changes since the last read starts again (R654). -/
def execGetLogModuleState (c : Nat) (s : State) : Host.Outcome State Fault Refusal :=
  .next (s.getLog c 0xEA (fun x s =>
    let l := s.pageModule x.port
    let s := if rae x.sqe then s else s.modPort x.port (fun t => { t with degSet := 0, degCleared := 0, newIso := 0 })
    (s.pageRead x 0xEA).sendPage x l))

/-! ## Proxy Admin (R202, R203) -/

/-- The inner entry; its CID and pointer are ignored. -/
def innerSqe (q : Sqe) : Option Sqe :=
  q.inner.map (fun i => { opcode := i.1, cid := q.cid, nsid := i.2.1, cdw10 := i.2.2.1, cdw11 := i.2.2.2.1, cdw12 := i.2.2.2.2.1, data := q.innerData, prp1 := q.innerPrp1 })
/-- Opcodes accepted inside Proxy Admin: those of its table, and the Abort that R171 forwards (DEDUCED, log entry 100). -/
def proxyOpcodes : List Nat := [0x00, 0x01, 0x04, 0x05, 0x02, 0x06, 0x08, 0x09, 0x0A]

/-- Get Log Page of 01h, 02h and 0xE0 for the instance. -/
def State.proxyLog (x : Ctx) (k : Nat) (q : Sqe) (s : State) : State :=
  match bits q.cdw10 7 0 with
  | 0x01 => ((s.toHost x (logPart q (s.pageError k))).drew).complete x.id .success 0
  | 0x02 => ((s.toHost x (logPart q (s.pageSmart x.port))).drew).complete x.id .success 0
  | 0xE0 => s.readDeferred x.id x.port k q
  | _ => s.complete x.id stInvalidField 0
/-- Identify over the instance's attached namespaces. -/
def State.proxyIdentify (x : Ctx) (k : Nat) (q : Sqe) (s : State) : State :=
  if !([0x00, 0x01, 0x02].contains (bits q.cdw10 7 0)) then s.complete x.id stInvalidField 0
  else match s.identify k q with
  | .ok l => (s.toHost x l).complete x.id .success 0
  | .error st => s.complete x.id st 0
/-- Set Features of the instance: 0x07 within its share, 0x08, 0x09. None of its values is saved. -/
def State.proxySet (x : Ctx) (k : Nat) (q : Sqe) (s : State) : State :=
  let share := (s.dinst k).share.queuePairs
  if !([0x07, 0x08, 0x09].contains q.fid) then s.complete x.id stInvalidField 0
  else if q.sv then s.complete x.id (stSpecific 0x0D) 0
  else if q.fid = 0x07 then
    if share ≤ bits q.cdw11 15 0 ∨ share ≤ bits q.cdw11 31 16 then s.complete x.id stInvalidField 0
    else s.complete x.id .success (queuesWord (share - 1) (share - 1))
  else if q.fid = 0x08 then (s.setCoalesce k q.cdw11).complete x.id .success 0
  else if !s.vectorOk k q.cdw11 then s.complete x.id stInvalidField 0
  else (s.setVector k q.cdw11).complete x.id .success 0
/-- Get Features of the instance. -/
def State.proxyGet (x : Ctx) (k : Nat) (q : Sqe) (s : State) : State :=
  if !([0x07, 0x08, 0x09].contains q.fid) || (q.fid = 0x09 && !s.vectorOk k q.cdw11) then s.complete x.id stInvalidField 0
  else if q.sel = 3 then s.complete x.id .success 4
  else if q.sel ≠ 0 ∨ q.fid = 0x07 then s.complete x.id .success (s.featureDefault k q.fid q.cdw11)
  else s.complete x.id .success (s.featureNow k q.fid q.cdw11)

/-- A forwarded Abort: like the port's own, and one of the four it runs at once (R171). -/
def State.proxyAbort (x : Ctx) (q : Sqe) (s : State) : State :=
  if 4 ≤ (s.ctxs.filter (fun c => c.admin && c.port == x.port && c.sqe.opcode == 0x08)).length then s.complete x.id (stSpecific 0x03) 0
  else s.abort x.id x.port q

/-- PROXY_ADMIN: the completion carries the inner command's status and DW0. -/
def execProxyAdmin (c : Nat) (s : State) : Host.Outcome State Fault Refusal :=
  .next (s.admin c 0xCB (slotChecks c false (fun x k s =>
    if (s.inst k).state != .active then s.complete c stInvalidField 0
    else match innerSqe x.sqe with
    | none => s.complete c stInvalidField 0
    | some q =>
      if !proxyOpcodes.contains q.opcode then s.complete c stInvalidOpcode 0
      else if !sqeFieldsOk true q then s.complete c stInvalidField 0
      else match q.opcode with
      | 0x00 => s.deleteSq c k q
      | 0x01 => s.createSq c k q
      | 0x04 => s.deleteCq c k q
      | 0x05 => s.createCq c k q
      | 0x02 => s.proxyLog x k q
      | 0x06 => s.proxyIdentify x k q
      | 0x08 => s.proxyAbort x q
      | 0x09 => s.proxySet x k q
      | _ => s.proxyGet x k q)))

end Sys2Proof.Machine
end

