-- ==== Sys2Proof/Machine/WritePath.lean ====
section
/-! DEFINITION. Writes from cache space to acknowledgement, stripes that close, HBM errors, journal epochs, the completion of a shutdown (03, 05, 09). -/
namespace Sys2Proof.Machine

/-- The effect of an I/O command of opcode `op` once admitted; any other context is left as it is (DESIGN CHOICE, log entry 4). -/
def State.io (id op : Nat) (go : Ctx → Ns → State → State) (s : State) : State :=
  match s.ctx id with
  | none => s
  | some c =>
    if !c.admin && c.phase == .ready && c.sqe.opcode == op && s.active && !s.hostFenced then
      (match s.ns c.sqe.nsid with
        | some v => go c v s
        | none => s.complete id stInvalidNs 0)
    else s

/-- A write waits for cache space (R303). -/
def State.askSpace (id : Nat) (wt : Bool) (s : State) : State :=
  ((s.modCtx id (fun c => { c with phase := .space, wt := wt, askedAt := s.now })).modCache (fun x => { x with waiting := x.waiting ++ [id] })).refreshHeld

/-- WRITE (R162, R303, R385). -/
def execWrite (c : Nat) (s : State) : Host.Outcome State Fault Refusal :=
  .next (s.io c 0x01 (fun x _ s => if s.health.writeProtect then s.complete c stExhausted 0 else s.askSpace c x.wt))

/-- WRITE_ZEROES: whole units by records, a partly covered unit by a new version of it (R163, R243, R304). -/
def execWriteZeroes (c : Nat) (s : State) : Host.Outcome State Fault Refusal :=
  .next (s.io c 0x08 (fun x v s =>
    if s.health.writeProtect then s.complete c stExhausted 0
    else
      let s := s.modCtx c (fun y => { y with data := List.replicate x.sqe.nlb (zeroBlock v.spec) })
      if (x.destUnits v.spec).isEmpty then (s.modCtx c (fun y => { y with phase := .order })).tryWrite c
      else s.askSpace c x.wt))

/-- DATASET_MANAGEMENT: only Deallocate changes anything (R243, R662). -/
def execDatasetManagement (c : Nat) (s : State) : Host.Outcome State Fault Refusal :=
  .next (s.io c 0x09 (fun x _ s =>
    if x.sqe.cdw11.getLsbD 2 then (s.modCtx c (fun y => { y with phase := .order })).tryDsm c else s.complete c .success 0))

/-- A read takes its units as far as it can (R156, R320). -/
def State.beginRead (id : Nat) (v : Ns) (s : State) : State :=
  (s.modCtx id (fun c =>
    let r := unitRange v.spec c.sqe.slba c.sqe.nlb
    { c with phase := .media, data := List.replicate c.sqe.nlb [], merge := (List.range r.2).map (fun i => r.1 + i) })).serveRead id

/-- READ (R320). -/
def execRead (c : Nat) (s : State) : Host.Outcome State Fault Refusal := .next (s.io c 0x02 (fun _ v s => s.beginRead c v))
/-- VERIFY: the whole decode ladder, no data to the host (R339). -/
def execVerify (c : Nat) (s : State) : Host.Outcome State Fault Refusal := .next (s.io c 0x0C (fun _ v s => s.beginRead c v))

/-- What a compute command meets at its stop (R479): Invalid Field where it is not bound to the instance in mode 4, Stop fenced
where it is FENCED; at LOADING it waits when its data is there. -/
def State.computeStop (c : Ctx) (s : State) : Option Status :=
  let n := bits c.sqe.cdw12 19 16
  if !(s.holder n == some c.key) || !((s.binding n).mode == 4) then some stInvalidField
  else if (s.stop n).state == 4 then some stStopFenced
  else if (s.stop n).state == 3 || (s.stop n).state == 1 then none else some stInvalidField

/-- COMPUTE (R479, R480). -/
def execCompute (c : Nat) (s : State) : Host.Outcome State Fault Refusal :=
  .next (s.io c 0x82 (fun x v s =>
    match s.computeStop x with
    | some st => s.complete c st 0
    | none => s.beginRead c v))

/-- COMPUTE_COPY (R385, R479, R481). -/
def execComputeCopy (c : Nat) (s : State) : Host.Outcome State Fault Refusal :=
  .next (s.io c 0x84 (fun x v s =>
    if s.health.writeProtect then s.complete c stExhausted 0
    else match s.computeStop x with
    | some st => s.complete c st 0
    | none => s.beginRead c v))

/-! ## Flush (R168 to R170) -/

/-- Filling stripes that hold some of these are closed at once. -/
def State.closeHolding (ms : List Nat) (s : State) : State :=
  s.each (List.range s.cache.stripes.length) (fun i t =>
    match t.stripe i with
    | some x => if ms.any (fun m => match t.locate m with
        | some y => y.group == x.group && y.band == x.band && y.row == x.row
        | none => false) then t.closeStripe i else t
    | none => t)

/-- FLUSH: what it covers was fixed at its fetch (R168, R169). -/
def execFlush (c : Nat) (s : State) : Host.Outcome State Fault Refusal :=
  match s.ctx c with
  | none => .next s
  | some x =>
    if x.admin || x.phase != .ready || x.sqe.opcode != 0x00 || !s.active || s.hostFenced then .next s
    else if s.bellowsReady then .next (s.complete c .success 0)
    else .next (((s.modCtx c (fun y => { y with phase := .program })).closeHolding ((x.placed.map (·.mun)).filter s.inStripe)).tryFlush c)

/-! ## Cache space (R297 to R300, R303, R306, R313) -/

/-- A line's estimator as it stands, halved once for each decay period it missed (R300). -/
def State.estimator (s : State) (nsid ln : Nat) : Nat :=
  let x := s.line nsid ln
  x.est / 2 ^ (s.jrn.openEpoch / 2 ^ s.image.heatK - x.estPeriod)

/-- The class of a unit of a host write (R299). -/
def State.heatClass (s : State) (v : Ns) (q : Sqe) (u : Nat) : Fin 4 :=
  let id := if q.opcode = 0x01 ∧ bits q.cdw12 23 20 = 1 ∧ v.spec.useStreams then bits q.cdw13 31 16 else 0
  let est := s.estimator v.nsid (u / 64)
  if 1 ≤ id ∧ id ≤ 4 then 0
  else if 5 ≤ id ∧ id ≤ 8 then 1
  else if est = 0 then (if v.spec.heatDefault then 0 else 1)
  else if s.image.heatThreshold ≤ est then 0
  else 1

/-- The write updates the line's estimator, once, with its last unit there. -/
def State.heatUp (nsid ln : Nat) (s : State) : State :=
  let e := s.estimator nsid ln
  s.modLine nsid ln (fun x => { x with est := min 15 (e + 4), estPeriod := s.jrn.openEpoch / 2 ^ s.image.heatK })

/-- The group a class's pointer names, passing over groups that are held (R297). -/
def State.pointerGroup (s : State) (h : Nat) : Option Nat :=
  let n := s.groupCount
  ((List.range n).map (fun i => ((s.cache.pointers.get (0, 0) h).1 + i) % n)).find? (fun g => !s.groupHeld g)

/-- The pointer after `k` more slots in group `g`: on after one member row's worth (R297). -/
def State.movePointer (h g k : Nat) (s : State) : State :=
  let old := s.cache.pointers.get (0, 0) h
  let n := (if old.1 = g then old.2 else 0) + k
  let new := if (s.vmun g).slotsPerRow ≤ n then ((g + 1) % s.groupCount, 0) else (g, n)
  s.modCache (fun c => { c with pointers := c.pointers.set h new })

/-- A unit's codewords in slots from `mun` on are staged in read staging. -/
def State.stage (mun k : Nat) (s : State) : State :=
  match s.locate mun with
  | none => s
  | some x => s.modCache (fun c => { c with stripes := c.stripes.map (fun y => if y.group == x.group && y.band == x.band && y.row == x.row then { y with staged := y.staged + k } else y) })
/-- Space for the `k` codewords of a unit just placed at `mun`: within the limit (R306), or for write-through in the write region, and in at most
1 GiB of read staging when that is full (R313). -/
def State.spaceFor (mun k : Nat) (wt : Bool) (s : State) : Option State :=
  if !wt then (if s.occupancyMib ≤ s.cache.limitMib then some s else none)
  else if s.occupancy ≤ s.image.memory.cacheMib * 2 ^ 20 then some s
  else if (s.stage mun k).stagedBytes ≤ 2 ^ 30 then some (s.stage mun k) else none

/-- One unit of a write takes its slots, if the space can be granted. -/
def State.grantUnit (id u : Nat) (last : Bool) (s : State) : Option State :=
  match s.ctx id with
  | none => none
  | some c =>
    match s.ns c.sqe.nsid with
    | none => none
    | some v =>
      let h := s.heatClass v c.sqe u
      match s.pointerGroup h.val with
      | none => none
      | some g =>
        let k := unitCws v.spec
        match s.placeUnit g (.cls h) k c.wt ((List.range k).map (fun j => { nsid := v.nsid, unit := u, sub := j, kind := 1, keyed := s.keyOf v, writer := c.port + 1 })) with
        | (none, _) => none
        | (some m, t) =>
          match t.spaceFor m k c.wt with
          | none => none
          | some t =>
            let t := t.movePointer h.val g k
            let t := if (t.group g).pressed then t.modGroup g (fun x => { x with debt := x.debt + k }) else t
            let t := if last || (u + 1) % 64 == 0 then t.heatUp v.nsid (u / 64) else t
            some (t.modCtx id (fun c => { c with placed := c.placed ++ [⟨u, m⟩] }))

/-- A write whose units all have slots goes on: to its merge reads, its data, or its order. -/
def State.spaceGranted (id : Nat) (s : State) : State :=
  match s.ctx id with
  | none => s
  | some c =>
    match s.ns c.sqe.nsid with
    | none => s
    | some v =>
      let s := s.modCache (fun x => { x with waiting := x.waiting.filter (fun y => !(y == id)) })
      let s := if 8 ≤ c.port then s else s.modInst c.key (fun i => { i with counters := { i.counters with cacheWaitUs := sat64 (i.counters.cacheWaitUs + (s.now - c.askedAt)) } })
      let s := s.modCtx id (fun c => { c with phase := .merge })
      let s := s.startMerges c v
      match s.ctx id with
      | none => s
      | some c =>
        if !c.merge.isEmpty then s
        else if c.sqe.opcode = 0x01 then s.modCtx id (fun c => { c with phase := .granted })
        else s.arrive id

/-- Units of a waiting write take slots while they can. -/
def State.grantWrite (id : Nat) (us : List Nat) (s : State) : Bool × State :=
  match us with
  | [] => (true, s.spaceGranted id)
  | u :: rest =>
    match s.grantUnit id u rest.isEmpty with
    | none => (false, s)
    | some t => t.grantWrite id rest

/-- The waiting write fetched first. -/
def State.nextWaiting (s : State) : Option Ctx :=
  s.ctxs.foldl (fun b c =>
    if c.phase == .space && s.cache.waiting.contains c.id then
      (match b with
        | some x => if x.stamp ≤ c.stamp then some x else some c
        | none => some c)
    else b) none

/-- Waiting writes are served in fetch order until one has to wait (R303). -/
def State.grantAll (fuel : Nat) (s : State) : State :=
  match fuel with
  | 0 => s
  | f + 1 =>
    match s.nextWaiting with
    | none => s
    | some c =>
      match s.ns c.sqe.nsid with
      | none => s
      | some v =>
        let r := s.grantWrite c.id ((c.destUnits v.spec).filter (fun u => !c.placed.any (fun p => p.unit == u)))
        if r.1 then r.2.grantAll f else r.2

/-- CACHE_SPACE_GRANT; held in the first second of a brownout watch (R525). -/
def execCacheSpaceGrant (s : State) : Host.Outcome State Fault Refusal :=
  if s.cache.grantHold || s.hostFenced then .next s else .next (s.grantAll s.cache.waiting.length).refreshHeld

/-! ## Commit -/

/-- WRITE_COMMIT: the data is in HBM; the write goes through its transform, then commits by R159 and is acknowledged. -/
def execWriteCommit (c : Nat) (blocks : List (List Byte)) (s : State) : Host.Outcome State Fault Refusal :=
  match s.ctx c with
  | none => .next s
  | some x =>
    if x.phase != .granted || s.hostFenced || x.held then .next s
    else if x.mover.isSome then .next (s.streamWrite c).retry
    else if blocks.length ≠ x.sqe.nlb then .next s
    else .next ((s.modCtx c (fun y => { y with data := blocks })).streamWrite c).retry

/-- MERGE_READ_COMPLETE: every codeword of the unit has been read (R304); a command that is itself a read of the unit is no merge, and is left alone. -/
def execMergeReadComplete (c : Nat) (unit : Nat) (s : State) : Host.Outcome State Fault Refusal :=
  match s.ctx c with
  | none => .next s
  | some x =>
    let mine := fun (o : Owner) => (match o with
      | .merge i u _ => i == c && u == unit
      | _ => false)
    if x.phase == .media || x.phase == .stop then .next s
    else if !x.merge.contains unit || s.ops.any (fun o => mine o.owner) || s.solves.any (fun o => mine o.owner) then .next s
    else
      let s := s.modCtx c (fun y => { y with merge := y.merge.filter (fun u => !(u == unit)), merged := unit :: y.merged })
      if x.phase == .merge then
        match s.ctx c with
        | none => .next s
        | some y =>
          if !y.merge.isEmpty then .next s
          else if y.sqe.opcode = 0x01 then .next (s.modCtx c (fun y => { y with phase := .granted }))
          else .next (s.arrive c).retry
      else .next (s.tryWrite c).retry

/-! ## Stripes and the write region -/

/-- STRIPE_IDLE_CLOSE: nothing has been placed for 1 s (R302). -/
def execStripeIdleClose (i : Nat) (s : State) : Host.Outcome State Fault Refusal :=
  match s.stripe i with
  | none => .next s
  | some x => if !x.closed && !x.used.isEmpty then .next ((s.notBefore (x.placedAt + 1000000)).closeStripe i).refreshHeld else .next s

/-- WRITE_THROUGH_STRIPE_CLOSE: 100 µs after the first write-through codeword (R314). -/
def execWriteThroughStripeClose (i : Nat) (s : State) : Host.Outcome State Fault Refusal :=
  match s.stripe i with
  | none => .next s
  | some x =>
    match x.firstWt with
    | none => .next s
    | some t => if !x.closed then .next ((s.notBefore (t + 100)).closeStripe i).refreshHeld else .next s

/-- HBM_UNCORRECTABLE_ERROR: data codewords `muns` and some accumulators of one slot; up to two in all are solved (R311). -/
def execHbmUncorrectableError (muns : List Nat) (accumulators : Nat) (s : State) : Host.Outcome State Fault Refusal :=
  let lost := muns.filter s.inStripe
  if lost.length + accumulators ≤ 2 then
    .next (s.modCache (fun c => { c with repairs := min 65535 (c.repairs + lost.length + accumulators) }))
  else
    .next (s.each lost (fun m t =>
      let t := t.setCodeword m { t.codeword m with lost := true }
      match t.unitOf m with
      | some (nsid, u) => (t.deferError nsid u 1 (t.codeword m).epoch).markUnit nsid u
      | none =>
        let first := m - (t.codeword m).sub
        let ids := (t.ctxs.filter (fun c => c.placed.any (fun p => p.mun == first) && c.sqe.opcode != 0x00)).map (·.id)
        t.each ids (fun id t => ((t.leaveStop id).dropOps id).complete id stWriteFault 0))).retry

/-! ## Journal epochs -/

/-- JOURNAL_EPOCH_CLOSE: 10 ms after it opened or at 64 MiB, and never before the preceding epoch's commit point (R99). -/
def execJournalEpochClose (s : State) : Host.Outcome State Fault Refusal :=
  if s.hostFenced then .next s
  else if s.jrn.sealing.isNone then .next (if s.ringFull then s else s.notBefore (s.jrn.openedAt + 10000)).closeEpoch else .next s

/-- JOURNAL_SEAL_COMMIT (R259); in SAFE-HOLD and in a flush the media takes no seal (R77). -/
def execJournalSealCommit (s : State) : Host.Outcome State Fault Refusal := .next (if s.hostFenced then s else s.commitSeal)

/-! ## Shutdown (R85, R86) -/

/-- A port counts as shut down for the clean-shutdown record. -/
def State.portQuiet (s : State) (p : Nat) : Bool :=
  !(s.vport p).enable || !(s.port p).everEn || !(s.port p).ccEn || (s.port p).shst == 2

/-- SHUTDOWN_COMPLETE: every completed write of the port is on media (R86); the last port's writes out the whole protected cache and, after a sealed
epoch and a checkpoint root, the clean-shutdown record (R85). -/
def execShutdownComplete (p : PortId) (s : State) : Host.Outcome State Fault Refusal :=
  if (s.port p).shst != 1 || s.hostFenced || (s.unprogrammed (s.live.nss.map (fun e => e.1))).any (fun m => (s.codeword m).writer == p.val + 1) then .next s
  else
    let t := s.modPort p (fun t => { t with shst := 2 })
    if !(List.range 8).all t.portQuiet then .next t
    else if s.cache.stripes.any (fun x => !x.used.isEmpty) then .next s
    else
      let s := t.sealNow
      .next (s.writeRoot.modJrn (fun j => { j with cleanRec := true }))

end Sys2Proof.Machine
end

