-- ==== Sys2Proof/Machine/Stops.lean ====
section
/-! DEFINITION. What tenant logic sends, and what the shell times: egress frames, control responses, interrupts, drains, timeouts, the column check (14). -/
namespace Sys2Proof.Machine

/-- Tenant logic is there and heard: an image is loaded, no reset and no fence (R465, R466). -/
def State.heard (s : State) (n : Nat) : Bool :=
  (s.stop n).image.isSome && !s.stopReset n && !s.stopFence n

/-- The types of egress frame a binding mode allows (R468). -/
def typeAllowed (mode typ : Nat) : Bool :=
  if mode = 0 then false
  else if typ = 2 then decide (mode ≤ 4)
  else if typ = 3 then mode == 4
  else typ == 7

/-- A violation falls on the active compute command its frame names (R481, DW0 OUTCOME 2). -/
def State.violated (n tag : Nat) (s : State) : State :=
  s.modStopCmd n tag (fun x => if 3 ≤ x.kind then { x with violated := true } else x)

/-- What every egress frame is checked for, in the order of the violation codes (R499); `go`: what a good frame of type `typ` does. -/
def State.egress (n typ : Nat) (f : OutFrame) (most : Nat) (go : State → State) (s : State) : State :=
  if !s.heard n || (f.typ != typ && (f.typ == 2 || f.typ == 3 || f.typ == 7)) then s
  else
    let code :=
      if !f.stable then 1
      else if most < f.length || f.extra then 2
      else if !f.resvZero || !typeAllowed (s.binding n).mode f.typ || (f.typ == 3 && decide (63 < f.code)) then 3
      else 0
    if code = 0 then go s
    else ((if f.typ = 7 then s else s.violated n f.tag)).stopViolation n code true

/-- A frame of a command: late where the module ended it (R482), a violation where its TAG is not active or its SEQ repeats. -/
def State.ofCommand (n : Nat) (f : OutFrame) (go : StopCmd → State → State) (s : State) : State :=
  match (s.stop n).cmd f.tag with
  | none =>
    if (s.stop n).gone.contains f.tag then
      let s := s.modStop n (fun x => { x with late := sat64 (x.late + 1) })
      match s.holder n with
      | some k => s.lateDiscard k 1
      | none => s
    else s.stopViolation n 4 true
  | some x =>
    if x.seqs.contains f.seq then (s.violated n f.tag).stopViolation n 4 true
    else go x ((s.modStopCmd n f.tag (fun x => { x with seqs := f.seq :: x.seqs })))

/-- A transform fault: counted, and the stop is fenced at once (R476). -/
def State.xformFault (n : Nat) (s : State) : State := (s.countViolation n 5).fenceStop n 2

/-- A frame is used (ST_FRAMES_OUT). -/
def State.used (n : Nat) (s : State) : State := s.modStop n (fun x => { x with framesOut := sat64 (x.framesOut + 1) })

/-- The blocks of a frame of so many blocks. -/
def OutFrameBlocks (f : OutFrame) (nblk : Nat) : List (List Byte) := (List.range nblk).map (fun i => (f.payload[i]?).getD [])

/-- Every answer of a transform is in: a Read's data goes to the host, a Write's to the protected cache (R475, R478). -/
def State.xformDone (n : Nat) (x : StopCmd) (s : State) : State :=
  let data := (List.range x.total).flatMap (fun i => ((x.staged.find? (fun e => e.1 == i)).map (·.2)).getD [])
  let s := s.endTag n x.tag
  let s := match s.ctx x.ctx with
    | none => s
    | some c =>
      if x.kind = 1 then
        let s := if c.gen != s.gen c.key then s else s.toTenant c (.blocks c.port c.inst c.sqe.cid data (s.dmaOf c.key))
        s.complete c.id .success 0
      else (s.modCtx c.id (fun c => { c with data := data })).arrive c.id
  s.checkDrain n

/-- A transform's answer to one DATA_IN frame (R475). -/
def State.xformOut (n : Nat) (f : OutFrame) (x : StopCmd) (s : State) : State :=
  match x.lens.find? (fun e => e.1 == f.seq) with
  | none => s.xformFault n
  | some (_, lba, len) =>
    if f.kind != x.kind || f.lba != lba || f.length != len then s.xformFault n
    else
      let bsz := match s.ctx x.ctx with
        | some c => match s.ns c.sqe.nsid with
          | some v => v.spec.lba
          | none => 512
        | none => 512
      let y := { x with answered := f.seq :: x.answered, seqs := f.seq :: x.seqs, staged := (f.seq, OutFrameBlocks f (len / bsz)) :: x.staged }
      let s := (s.modStopCmd n f.tag (fun _ => y)).used n
      if y.answered.length = y.total then s.xformDone n y else s

/-- Block size of a command's namespace. -/
def State.blockOf (s : State) (c : Ctx) : Nat :=
  match s.ns c.sqe.nsid with
  | some v => v.spec.lba
  | none => 512

/-- A result of a Compute, or destination blocks of a Compute Copy (R480, R481). -/
def State.computeOut (n : Nat) (f : OutFrame) (x : StopCmd) (s : State) : State :=
  match s.ctx x.ctx with
  | none => s
  | some c =>
    if x.kind = 3 then
      if bits c.sqe.cdw13 21 0 < f.offset + f.length then (s.violated n f.tag).stopViolation n 6 true
      else
        let s := if c.gen != s.gen c.key then s else s.toTenant c (.buffer c.port c.inst c.sqe.cid f.offset f.payload (s.dmaOf c.key))
        (s.modStopCmd n f.tag (fun x => { x with highest := max x.highest (f.offset + f.length) })).used n
    else
      let b := s.blockOf c
      let first := f.offset / b
      let count := f.length / b
      let ix := (List.range count).map (fun i => first + i)
      if f.offset % b ≠ 0 ∨ f.length % b ≠ 0 ∨ bits c.sqe.cdw13 15 0 + 1 < first + count ∨ ix.any x.blocks.contains then
        (s.violated n f.tag).stopViolation n 6 true
      else
        (s.modStopCmd n f.tag (fun x => { x with blocks := x.blocks ++ ix, staged := x.staged ++ ix.mapIdx (fun i j => (j, [(f.payload[i]?).getD []])) })).used n

/-- STOP_DATA_OUT: a DATA_OUT frame, checked and used (R468, R475, R480, R481, R499). -/
def execStopDataOut (n : StopId) (f : OutFrame) (s : State) : Host.Outcome State Fault Refusal :=
  .next (s.egress n 2 f s.maxPayload (fun s => s.ofCommand n f (fun x s =>
    if x.kind ≤ 2 then s.xformOut n f x else s.computeOut n f x)))

/-- DW0 of a compute command's completion (14). -/
def computeDw0 (outcome amount code : Nat) : W32 := BitVec.ofNat 32 (outcome + amount % 2 ^ 22 * 8 + code * 2 ^ 25)

/-- An END frame ends a compute command: a Compute completes, a Compute Copy commits what it staged (R480, R481). -/
def State.computeEnd (n : Nat) (f : OutFrame) (x : StopCmd) (s : State) : State :=
  if x.kind ≤ 2 then s.xformFault n
  else
    let s := (s.used n).endTag n x.tag
    let s := match s.ctx x.ctx with
      | none => s
      | some c =>
        let out := if x.violated then 2 else if f.code = 0 then 0 else 1
        let code := if out = 2 then 0 else f.code
        let word : W32 := if out = 2 then 0 else f.result
        let amount := if x.kind = 3 then x.highest else if out = 0 then x.blocks.length else 0
        let dw0 := computeDw0 out amount code
        let s := s.modCtx c.id (fun c => { c with dw0 := dw0, dw1 := word, held := false })
        if x.kind = 3 ∨ out ≠ 0 ∨ x.blocks.isEmpty then s.complete c.id .success dw0
        else if s.health.writeProtect then s.complete c.id stExhausted 0
        else
          let dst := (List.range (bits c.sqe.cdw13 15 0 + 1)).map (fun i => (((x.staged.find? (fun (e : Nat × List (List Byte)) => e.1 == i)).map (fun (e : Nat × List (List Byte)) => e.2)).getD [[]]).flatten)
          match s.ns c.sqe.nsid with
          | some v => (s.modCtx c.id (fun c => { c with data := dst })).askSpace c.id (s.isWt v.spec)
          | none => s.complete c.id stInvalidNs 0
    s.checkDrain n

/-- STOP_END_FRAME (R480, R481). -/
def execStopEndFrame (n : StopId) (f : OutFrame) (s : State) : Host.Outcome State Fault Refusal :=
  .next (s.egress n 3 f s.maxPayload (fun s => s.ofCommand n f (fun x s => s.computeEnd n f x)))

/-- STOP_MOVER_OUT: the data of a burst of a stream source (R511, R519). -/
def execStopMoverOut (n : StopId) (f : OutFrame) (s : State) : Host.Outcome State Fault Refusal :=
  .next (s.egress n 7 f 4096 (fun s =>
    let ch := stopMover n * 4 + f.channel
    match (if f.channel < 4 then (s.chan ch).flight else none) with
    | none => s.stopViolation n 4 true
    | some g =>
      if !g.started || g.desc.srcSpace != 3 || decide (2 < g.desc.op) || f.tag != g.index then s.stopViolation n 4 true
      else if g.src.isSome then s
      else if f.offset != g.done then s.stopViolation n 4 true
      else if f.length = 0 then s.used n
      else
        let bs := f.payload.flatten
        let data := (List.range f.length).map (fun i => (bs[i]?).getD 0)
        (s.modChan ch (fun c => { c with flight := some { g with src := some data } })).used n))

/-- A control read's answer goes to whoever asked: a port through BAR4, or the control space. -/
def State.ctlAnswer (n : Nat) (r : Nat × Nat × Option Nat) (value : W64) (s : State) : State :=
  let s := s.modStop n (fun x => { x with ctlReads := x.ctlReads.filter (fun e => !(e.1 == r.1)) })
  let s := match r.2.2 with
    | some p => s.emit (.cpl p value)
    | none => s.emit (.regValue (0x00400000 + 0x10000 * n + r.2.1) value)
  s.checkDrain n

/-- STOP_CONTROL_RESPONSE (R499, codes 0x01 and 0x09). -/
def execStopControlResponse (n : StopId) (tag : Fin 16) (value : W64) (stable : Bool) (s : State) : Host.Outcome State Fault Refusal :=
  if !s.heard n then .next s
  else if !stable then .next (s.stopViolation n 1 true)
  else match (s.stop n).ctlReads.find? (fun e => e.1 == tag.val) with
  | none => .next (s.stopViolation n 9 false)
  | some r => .next (s.ctlAnswer n r value)

/-- The map of an interrupt line (ST_IRQ_MAP0, ST_IRQ_MAP1). -/
def Stop.irqMap (x : Stop) (line : Nat) : Nat :=
  (if line < 4 then x.irqMap0 else x.irqMap1).toNat / 2 ^ (16 * (line % 4)) % 65536

/-- STOP_IRQ_EDGE (R485); none from a stop of an isolated instance (R196). -/
def execStopIrqEdge (n : StopId) (line : Fin 8) (s : State) : Host.Outcome State Fault Refusal :=
  if !s.heard n || (decide (4 ≤ line.val) && decide (s.image.shell < 0x0301)) then .next s
  else match s.holder n with
  | none => .next s
  | some k =>
    let m := (s.stop n).irqMap line
    let v := m % 512
    if (s.dinst k).share.vectors ≤ v then .next (s.stopViolation n 0x0B false)
    else if m / 32768 = 0 then .next s
    else
      let pv := (s.dinst k).vecBase + v
      .next (if (s.inst k).state == .isolated || (s.port (keyPort k)).heldIrq.any (fun x => x.1 == pv) then s else s.interrupt (keyPort k) pv none)

/-- STOP_DRAIN_ACK (R467). -/
def execStopDrainAck (n : StopId) (s : State) : Host.Outcome State Fault Refusal :=
  match (s.stop n).epoch with
  | none => .next s
  | some e =>
    .next (if e.drained || decide (s.image.shell < 0x0301) then s else (s.modStop n (fun x => { x with drainAck := true })).checkDrain n)

/-- STOP_DRAIN_LIMIT_EXPIRY (R467). -/
def execStopDrainLimitExpiry (n : StopId) (s : State) : Host.Outcome State Fault Refusal :=
  match (s.stop n).epoch with
  | none => .next s
  | some e => .next (if e.drained then s else (s.notBefore (e.start + 1000)).endDrain n)

/-- STOP_XFORM_TIMEOUT (R476). -/
def execStopXformTimeout (n : StopId) (tag : Nat) (s : State) : Host.Outcome State Fault Refusal :=
  match (s.stop n).cmd tag with
  | none => .next s
  | some x =>
    match (List.range x.accepted).find? (fun i => !x.answered.contains i) with
    | none => .next s
    | some i => .next (if x.kind ≤ 2 && s.heard n then (s.notBefore ((x.acceptAt[i]?).getD 0 + 10000)).xformFault n else s)

/-- STOP_COMPUTE_TIMEOUT: ABORT is sent and the command ends with OUTCOME 3 (R482). -/
def execStopComputeTimeout (n : StopId) (tag : Nat) (s : State) : Host.Outcome State Fault Refusal :=
  match (s.stop n).cmd tag with
  | none => .next s
  | some x =>
    match x.startAt with
    | none => .next s
    | some t =>
      if x.kind ≤ 2 then .next s else
      let s := (s.notBefore (t + 1000000)).emit (.toStop n { typ := 5, tag := tag })
      let s := (s.endTag n tag).markGone n tag
      let s := s.complete x.ctx .success (computeDw0 3 (if x.kind = 3 then x.highest else 0) 0)
      .next ((s.stopViolation n 0x0A false).checkDrain n)

/-- STOP_CONTROL_READ_TIMEOUT: the read returns all ones (R499). -/
def execStopControlReadTimeout (n : StopId) (tag : Fin 16) (s : State) : Host.Outcome State Fault Refusal :=
  match (s.stop n).ctlReads.find? (fun e => e.1 == tag.val) with
  | none => .next s
  | some r => .next (((s.notBefore ((s.stop n).ctlAt.get 0 tag + 10)).stopViolation n 9 false).ctlAnswer n r 0xFFFFFFFFFFFFFFFF)

/-- STOP_CONFIG_WRITTEN: the column check, and the release (R496). -/
def execStopConfigWritten (n : StopId) (failing : List Nat) (s : State) : Host.Outcome State Fault Refusal :=
  .next (s.columnsChecked n failing)

/-- STOP_VIOL_WINDOW_ROLL (R500). -/
def execStopViolWindowRoll (s : State) : Host.Outcome State Fault Refusal :=
  .next (s.each stopNos (fun n t => t.modStop n (fun x => { x with window := 0 })))

/-- INGRESS_BEAT_ACCEPTED: tenant logic accepts the last beat of an ingress frame: a command's timers run from it (R476, R482), a stream
destination may be done with it (R512). -/
def execIngressBeatAccepted (n : StopId) (mover : Option ChanId) (tag seq : Nat) (s : State) : Host.Outcome State Fault Refusal :=
  if !s.heard n then .next s
  else
    let t := s.modStop n (fun x => { x with framesIn := sat64 (x.framesIn + 1) })
    match mover with
    | some k =>
      let ch := stopMover n * 4 + k.val
      match (s.chan ch).flight with
      | none => .next t
      | some f =>
        if f.index != tag || f.beats = 0 then .next t
        else
          let t := t.modChan ch (fun c => { c with flight := some { f with beats := f.beats - 1 } })
          .next (if f.beats = 1 && decide (f.desc.length ≤ f.done) && f.ctx.isNone then t.afterBurst ch else t)
    | none =>
      match (s.stop n).cmd tag with
      | none => .next t
      | some x =>
        if seq != x.accepted || x.framesOut ≤ x.accepted then .next s
        else .next (t.modStopCmd n tag (fun x => { x with accepted := x.accepted + 1, acceptAt := x.acceptAt ++ [s.now], startAt := some (x.startAt.getD s.now) }))

end Sys2Proof.Machine
end

