-- ==== Sys2Proof/Machine/Upkeep.lean ====
section
/-! DEFINITION. Garbage collection, retention, wear, write-closed groups, scrubs and calibration (10, 11, 19). -/
namespace Sys2Proof.Machine

/-- The media can be worked on. -/
def State.mediaOn (s : State) : Bool := s.active && !s.hostFenced
/-- A media drone may work: not in PS4 (R113). -/
def State.mediaDrone (s : State) : Bool := s.mediaOn && s.modes.ps != 4

/-! ## Relocations (R364 to R371) -/

/-- Score of a FULL band as a fraction, and its rank above it: a band without valid data first, then the bad-block candidates,
then thin bands (R364, R379, R409). -/
def State.gcRank (s : State) (g b : Nat) : Nat :=
  if s.validIn g b = 0 then 3
  else if (List.range s.width).any (fun p => let l := s.slotAt g p; (s.die (dieKey l (s.dieFor g b p))).candidates.contains (b / 16)) then 2
  else if s.isThin g b then 1 else 0
def State.gcScore (s : State) (g b : Nat) : Nat × Nat :=
  let n := s.bandSlots g
  let v := s.validIn g b
  ((n - v) * (s.rtc - (s.band g b).fullTime + 3600000), n + v)
/-- `a` is a better victim than `b`. -/
def State.gcBetter (s : State) (g a b : Nat) : Bool :=
  let x := s.gcScore g a
  let y := s.gcScore g b
  if s.gcRank g a = s.gcRank g b then decide (y.1 * x.2 < x.1 * y.2) else decide (s.gcRank g b < s.gcRank g a)

/-- GC_VICTIM_START: one victim at a time in the die set with the fewest FREE bands (R364). -/
def execGcVictimStart (g : Fin 16) (s : State) : Host.Outcome State Fault Refusal :=
  let d := s.worstSet g
  if !s.mediaOn || s.health.relocs.any (fun r => r.group == g.val && r.band % 16 == d && r.why == 0) then .next s else
  let full := (s.bandsOf g).filter (fun b => b % 16 == d && (s.band g b).state == .full && (s.gcRank g b != 0 || decide (s.validIn g b < s.bandSlots g)))
  match full.foldl (fun (best : Option Nat) b => match best with
    | none => some b
    | some x => if s.gcBetter g b x then some b else some x) none with
  | none => .next s
  | some b => .next (s.startReloc g b 0)

/-- Step 1 still to be done for a band. -/
def State.copyLeft (s : State) (r : Reloc) : Bool :=
  s.ops.any (fun o => o.owner == .relocation r.group r.band) || s.solves.any (fun v => v.owner == .relocation r.group r.band) ||
  (s.unitsIn r.group r.band).any (fun u => !r.copies.any (fun c => c.2.2.1 == u.2.2)) ||
  (s.linesIn r.group r.band).any (fun l => !r.recs.any (fun c => c.1 == l.1 && c.2.1 == l.2.1)) ||
  r.copies.any (fun c => s.inStripe c.2.2.2) || r.recs.any (fun c => s.inStripe c.2.2.1)

/-- A whole band was read: it is the one scrubbed last (R617). -/
def State.noteScrubbed (g band : Nat) (s : State) : State :=
  s.modHealth (fun h => { h with scrubSeq := h.scrubSeq + 1, scrubbed := h.scrubbed.set (bandKey g band) (h.scrubSeq + 1) })

/-- RELOCATION_COPY_COMPLETE: every stripe that holds a copy is complete; the records of step 2 are logged (R366). -/
def execRelocationCopyComplete (g : Fin 16) (band : Nat) (s : State) : Host.Outcome State Fault Refusal :=
  match s.reloc g band with
  | none => .next s
  | some r =>
    if r.step != 1 || !s.mediaOn then .next s else
    -- copies that found no room before are placed first
    let s := (s.unitsIn g band).foldl (fun t u => t.copyUnit g band u.2.2) s
    let s := (s.linesIn g band).foldl (fun t l => t.copyRecords g band l.2.2) s
    match s.reloc g band with
    | none => .next s
    | some r =>
      if s.copyLeft r then .next s
      else
        -- its copies read every row: that counts as a scrub (R617)
        let s := s.noteScrubbed g band
        let n := 4096 * r.spent
        let s := s.modHealth (fun h => if r.why = 1 then { h with refreshBytes := h.refreshBytes + n } else if r.why = 2 then { h with wearBytes := h.wearBytes + n } else h)
        let s := r.copies.foldl (fun t c => t.setUnit c.1 c.2.1 (.relocate c.1 c.2.1 c.2.2.2 c.2.2.1)) s
        let s := r.recs.foldl (fun t c => t.logRec (.directory c.1 c.2.1 c.2.2.1 c.2.2.2 ((t.live.dir.get ⟨0, 0, 0⟩ (nsKey c.1 c.2.1)).epoch))) s
        if r.copies.isEmpty && r.recs.isEmpty then
          .next ((s.logBand g band .intent).modReloc g band (fun x => { x with step := 3, epoch := s.jrn.openEpoch }))
        else .next (s.modReloc g band (fun x => { x with step := 2, epoch := s.jrn.openEpoch, copies := [], recs := [] }))

/-! ## Retention (R375 to R378) -/

/-- e^y for small y, both in units of 10^−12. -/
def expSmall (y : Nat) : Nat :=
  let o := 10 ^ 12
  o + y + y * y / (2 * o) + y * y * y / (6 * o * o) + y * y * y * y / (24 * o * o * o)
def sqrUp (k x : Nat) : Nat :=
  match k with
  | 0 => x
  | k + 1 => sqrUp k (x * x / 10 ^ 12)
/-- The acceleration factor at a temperature in kelvin, in 1/1,000 (R375), by fixed-point arithmetic of 12 digits. -/
def accel (t : Nat) : Nat :=
  let o := 10 ^ 12
  -- |12,766 × (1 / 313.15 − 1 / t)|, a sixty-fourth of it
  let num := if 31315 ≤ 100 * t then 100 * t - 31315 else 31315 - 100 * t
  let y := 12766 * num * o / (31315 * max 1 t) / 64
  let e := sqrUp 6 (expSmall y)
  if 31315 ≤ 100 * t then e * 1000 / o else 1000 * o / e

/-- The hottest pod of a group, kelvin. -/
def State.hotPod (s : State) (g : Nat) : Nat := (List.range s.width).foldl (fun m p => max m (s.pod (s.slotAt g p)).compositeK) 0

/-- RETENTION_CLOCK_TICK: one second (R375). -/
def execRetentionClockTick (s : State) : Host.Outcome State Fault Refusal :=
  if !s.mediaOn then .next s
  else .next (s.each s.groupList (fun g t => t.modGroup g (fun x => { x with clock := x.clock + accel (s.hotPod g) })))

/-- Effective age of a band, s. -/
def State.ageOf (s : State) (g b : Nat) : Nat :=
  let now := (s.group g).clock / 1000
  let age := now - (s.band g b).fullAt
  match s.health.ageFloors.find g with
  | some (at_, floor) => if (s.band g b).fullAt ≤ at_ then max age (floor + (now - at_)) else age
  | none => age
/-- A band is due: too old, or more than 64 of its units were handed over within 24 h (R376, R377). -/
def State.refreshDue (s : State) (g b : Nat) : Bool :=
  decide (s.health.retention * 86400 < s.ageOf g b) ||
  decide (64 < ((s.health.handedBy.get [] (bandKey g b)).filter (fun t => decide (s.now < t + 86400000000))).length)

/-- RETENTION_REFRESH: the oldest FULL band that is due (R376). -/
def execRetentionRefresh (g : Fin 16) (s : State) : Host.Outcome State Fault Refusal :=
  if !s.mediaDrone then .next s else
  match pickMax (s.ageOf g) ((s.bandsOf g).filter (fun b => (s.band g b).state == .full && s.refreshDue g b)) with
  | none => .next s
  | some b => .next ((s.modHealth (fun h => { h with handedBy := h.handedBy.erase (bandKey g b) })).startReloc g b 1)

/-- LADDER_UNIT_REWRITE: a unit handed over is written again in its class's stripe (R377). -/
def execLadderUnitRewrite (mun : Nat) (s : State) : Host.Outcome State Fault Refusal :=
  if !s.mediaDrone || !s.health.handed.contains mun then .next s else
  let off := fun (t : State) => t.modHealth (fun h => { h with handed := h.handed.filter (fun x => !(x == mun)) })
  match s.unitOf mun, s.locate mun with
  | some (nsid, u), some x =>
    let k := s.cwsOf nsid
    if (s.band x.group x.band).state == .victim then .next (off s) else
    (match s.placeUnit x.group (copyStream 1 (s.band x.group x.band).stream) k false ((List.range k).map (fun j => { s.codeword (mun + j) with writer := 0, src := some mun })) with
      | (some m, t) =>
        -- slots that retention refresh takes count against the credit (R362)
        let t := if (t.group x.group).pressed then t.modGroup x.group (fun y => { y with debt := y.debt + k }) else t
        .next ((off t).setUnit nsid u (.relocate nsid u m mun))
      | (none, _) => .next s)
  | _, _ => .next (off s)

/-! ## Wear (R373) -/

/-- WEAR_LEVELLING. -/
def execWearLevelling (g : Fin 16) (dieSet : Fin 16) (s : State) : Host.Outcome State Fault Refusal :=
  let bs := (s.bandsOf g).filter (fun b => b % 16 == dieSet.val)
  let er := fun b => (s.band g b).erases
  let hi := bs.foldl (fun m b => max m (er b)) 0
  let lo := bs.foldl (fun m b => min m (er b)) hi
  let rated := (s.desc (s.slotAt g 0)).ratedCycles
  if !s.mediaDrone || s.freeCount g < 7 || s.health.relocs.any (fun r => r.group == g.val && r.band % 16 == dieSet.val && r.why == 2) ||
     decide ((hi - lo) * 100 ≤ s.health.wearSpread * rated) then .next s else
  let full := bs.filter (fun b => (s.band g b).state == .full)
  let least := full.foldl (fun m b => min m (er b)) hi
  match pickMin (fun b => (s.band g b).fullTime) (full.filter (fun b => er b == least)) with
  | none => .next s
  | some b => .next (s.startReloc g b 2)

/-! ## Write-closed groups (R384) -/

/-- The conditions of R384. -/
def State.closeDue (s : State) (g : Nat) : Bool :=
  decide (s.freeCount g ≤ 3) && s.creditHeld g && (s.bandsOf g).any (fun b => (s.band g b).state == .retired) &&
  !(s.bandsOf g).any (fun b => b % 16 == s.worstSet g && (s.band g b).state == .full && decide (s.validIn g b * 100 < 95 * s.bandSlots g))
/-- WRITE_CLOSED_TIMER: they have held for 10 s. -/
def execWriteClosedTimer (g : Fin 16) (s : State) : Host.Outcome State Fault Refusal :=
  if s.mediaOn && decide (g.val < s.groupCount) && s.closeDue g then .next (s.setClosed g true).retry else .next s

/-! ## Vault and reserve bands (R316, R360) -/

/-- VAULT_REARM: a vault band is erased again. -/
def execVaultRearm (g : Fin 16) (band : Nat) (s : State) : Host.Outcome State Fault Refusal :=
  if s.mediaDrone && (s.band g band).state == .vault && !s.cache.armed.contains (bandKey g band) && decide (s.lostOf g ≤ 1) &&
     !s.ops.any (fun o => o.isErase && o.group == g.val && o.band == band) then .next (s.queueErase g band .drone)
  else .next s

/-- RESERVE_BAND_RETURN: a FREE band of a die set short of its two RESERVE bands becomes one. -/
def execReserveBandReturn (g : Fin 16) (band : Nat) (s : State) : Host.Outcome State Fault Refusal :=
  let held := ((s.bandsOf g).filter (fun b => b % 16 == band % 16 && (s.band g b).state == .reserve)).length
  if s.mediaDrone && s.isFree g band && decide (held < 2) then .next (s.logBand g band (.role .reserve)) else .next s

/-! ## Scrubs and calibration (R347, R617, R618) -/

/-- What a scrub finds of one codeword. -/
def State.scrubFind (f : ScrubFind) (s : State) : State :=
  match s.locate f.mun with
  | none => s
  | some x =>
    let pos := s.position x.band x.member
    let l := s.slotAt x.group pos
    let k := dieKey l (s.dieFor x.group x.band pos)
    let valid := (s.unitOf f.mun).isSome
    let s := if f.step = 2 then (s.countStep 2 l k).modDie k (fun d => { d with hourSlow := d.hourSlow + 1, slow := d.slow.set (x.band / 16 / 64) (d.slow.get 0 (x.band / 16 / 64) + 1) })
      else if f.step = 5 then s.countDeep f.mun
      else if f.step = 3 ∨ f.step = 4 then s.countStep f.step l k else s
    if f.step ≤ 2 then s
    else if f.step ≤ 5 then (if valid then s.handOver f.mun else s)
    else if valid then s.ladderFail f.mun .drone 4 else s

/-- A row of a short device self-test's sample has been read; its last row ends the test (R96, 19). -/
def State.testRow (bad : Bool) (s : State) : State :=
  match s.modes.selfTest with
  | none => s
  | some t =>
    if t.extended then s
    else
      let t := { t with rows := t.rows + 1, bad := t.bad || bad }
      if t.rows < Config.selfTestRows then s.modModes (fun m => { m with selfTest := some t })
      else s.modModes (fun m => { m with selfTest := none, testLog := ((1, if t.bad then 6 else 0) :: m.testLog).take 20 })

/-- A band patrol scrub may read: FULL, OPEN or SYSTEM, with a programmed row, in no running rebuild's scope (R616, R617). -/
def State.scrubbable (s : State) (g band : Nat) : Bool :=
  let x := s.band g band
  (x.state == .full || x.state == .opened || x.state == .system) && decide (0 < x.mark) &&
    !s.live.rebuilds.any (fun r => r.group == g && !r.finished && (s.rebuildScope r).contains band)

/-- The row patrol scrub reads next in a group: the next of the band it is in, else the first of the band scrubbed longest ago (R617). -/
def State.scrubNext (s : State) (g : Nat) : Option (Nat × Nat) :=
  let at_ := fun (b : Nat) => s.health.scrubbed.get 0 (bandKey g b)
  let oldest := ((s.bandsOf g).filter (fun b => s.scrubbable g b)).foldl (fun (o : Option Nat) b => match o with
    | none => some b
    | some y => if at_ b < at_ y then some b else some y) none
  match (s.group g).scrub with
  | some (b, row) => if s.scrubbable g b && decide (row < (s.band g b).mark) then some (b, row) else oldest.map (fun b => (b, 0))
  | none => oldest.map (fun b => (b, 0))

/-- Patrol scrub goes on to the next row below the mark; past the last one its band is done. -/
def State.scrubOn (g band row : Nat) (s : State) : State :=
  if row + 1 < (s.band g band).mark then s.modGroup g (fun x => { x with scrub := some (band, row + 1) })
  else (s.modGroup g (fun x => { x with scrub := none })).noteScrubbed g band

/-- PATROL_SCRUB: one row, the one R617 makes the next of its group. -/
def execPatrolScrub (g : Fin 16) (band row : Nat) (finds : List ScrubFind) (s : State) : Host.Outcome State Fault Refusal :=
  if !s.mediaDrone || s.scrubNext g != some (band, row) then .next s
  else
    let mine := finds.filter (fun f => match s.locate f.mun with
      | some y => y.group == g.val && y.band == band && y.row == row
      | none => false)
    let s := mine.foldl (fun t f => t.scrubFind f) s
    .next ((s.testRow (mine.any (fun f => decide (6 ≤ f.step)))).scrubOn g band row)

/-- The sets a calibration leaves: a free value for each read level, and the same with the retention correction (10, Read offsets). -/
def Die.calibrate (bg levels draw : Nat) (x : Die) : Die :=
  let cur := (List.range levels).map (fun i => Config.freeOffset draw i)
  { x with offsets := (x.offsets.set (bg * 2) cur).set (bg * 2 + 1) (cur.map (fun b => b + Config.retentionShift draw)) }
/-- READ_OFFSET_CALIBRATION (R346, R347). -/
def execReadOffsetCalibration (l : LinkId) (die : Fin 18) (blockGroup : Nat) (s : State) : Host.Outcome State Fault Refusal :=
  if (s.link l).state != 2 || (s.die (dieKey l die)).health != .active || !s.mediaDrone || decide ((s.desc l).blocks ≤ 64 * blockGroup) then .next s
  else
    let s := (s.modDie (dieKey l die) (fun d =>
      { d with offsetsAt := d.offsetsAt.set blockGroup s.now, slow := d.slow.set blockGroup 0 }.calibrate blockGroup (readLevels (s.desc l)) s.free)).drew
    .next (if (s.link l).version = 3 then s.sendOffsets l die blockGroup else s)

/-- MEMORY_SCRUB (R618). -/
def execMemoryScrub (h : ScrubHit) (s : State) : Host.Outcome State Fault Refusal :=
  match h with
  | .corrected => .next s
  | .sramRow =>
    let s := s.modSpares (fun x => { x with sramRows := min 65535 (x.sramRows + 1), lastTime := s.rtc })
    .next ((s.logRec (.sub (.package 6 0 0))).report srcMemory (evUnnamed 12 6) 0 s.spares.sramRows)
  | .ddrChip =>
    .next ((s.modSpares (fun x => { x with ddrSpared := min 255 (x.ddrSpared + 1), lastTime := s.rtc })).report srcMemory (evUnnamed 12 10) 0 0)
  | .cacheCodeword mun =>
    if s.inStripe mun then .next (s.modCache (fun c => { c with repairs := min 65535 (c.repairs + 1) })) else .next s
  | .t1Record nsid line =>
    -- a dirty line is rebuilt where it stands
    if (s.line nsid line).dirty then .next s else .next (s.modLine nsid line (fun x => { x with inT1 := false }))
  | .way slice set way => .next (s.wayError slice set way true false)
  | .firmwareData task =>
    -- the task of an admin command, by its context: its second failure ends the command (R191; DESIGN CHOICE, log entry 92)
    let s := s.report (srcFirmware 0) 0x0F03 task 0
    match s.ctx task with
    | none => .next s
    | some c =>
      if !c.admin || c.phase == .posted then .next s
      else if c.fails = 0 then .next (s.modCtx task (fun c => { c with fails := 1 }))
      else .next (s.complete task stInternal 0)

end Sys2Proof.Machine
end

