-- ==== Sys2Proof/Machine/Dispatch.lean ====
section
/-! DEFINITION. exec: one arm per constructor of Instr. -/
namespace Sys2Proof.Machine

/-- The effect of a command on everything but the queue: one arm per row of the table, each a call of its meaning. -/
def exec (i : Instr) (s : State) : Host.Outcome State Fault Refusal :=
  match i with
  | .inputStartThreshold => Sys2Proof.Machine.execInputStartThreshold s
  | .brownoutWatchEntry => Sys2Proof.Machine.execBrownoutWatchEntry s
  | .brownoutGraceExpiry => Sys2Proof.Machine.execBrownoutGraceExpiry s
  | .brownoutWatchExit => Sys2Proof.Machine.execBrownoutWatchExit s
  | .bellowsSwitchConnect recovered => Sys2Proof.Machine.execBellowsSwitchConnect recovered s
  | .powerFailRecognised => Sys2Proof.Machine.execPowerFailRecognised s
  | .flushDumpComplete => Sys2Proof.Machine.execFlushDumpComplete s
  | .powerStageStop => Sys2Proof.Machine.execPowerStageStop s
  | .overvoltageTrip => Sys2Proof.Machine.execOvervoltageTrip s
  | .powerStageFault f => Sys2Proof.Machine.execPowerStageFault f s
  | .podRailPresenceLost => Sys2Proof.Machine.execPodRailPresenceLost s
  | .bellowsTest => Sys2Proof.Machine.execBellowsTest s
  | .bellowsTestMeasured capUf esr ok => Sys2Proof.Machine.execBellowsTestMeasured capUf esr ok s
  | .sensorSample x => Sys2Proof.Machine.execSensorSample x s
  | .thermalComparatorTrip zone => Sys2Proof.Machine.execThermalComparatorTrip zone s
  | .graceTimeExpiry => Sys2Proof.Machine.execGraceTimeExpiry s
  | .m3AdmissionInterval => Sys2Proof.Machine.execM3AdmissionInterval s
  | .clockCheckWindow houseRtc houseRing ringRtc => Sys2Proof.Machine.execClockCheckWindow houseRtc houseRing ringRtc s
  | .rootPllLossOfLock => Sys2Proof.Machine.execRootPllLossOfLock s
  | .pllRetry locks agrees => Sys2Proof.Machine.execPllRetry locks agrees s
  | .moduleResetAssert => Sys2Proof.Machine.execModuleResetAssert s
  | .moduleResetRelease => Sys2Proof.Machine.execModuleResetRelease s
  | .latchChange moduleClosed enclClosed => Sys2Proof.Machine.execLatchChange moduleClosed enclClosed s
  | .motionWindow mg => Sys2Proof.Machine.execMotionWindow mg s
  | .keepCellCheck mv => Sys2Proof.Machine.execKeepCellCheck mv s
  | .fwWatchdogFeed value => Sys2Proof.Machine.execFwWatchdogFeed value s
  | .fwWatchdogExpiry => Sys2Proof.Machine.execFwWatchdogExpiry s
  | .spWatchdogExpiry => Sys2Proof.Machine.execSpWatchdogExpiry s
  | .lockstepMismatch => Sys2Proof.Machine.execLockstepMismatch s
  | .spRestartComplete => Sys2Proof.Machine.execSpRestartComplete s
  | .rootPllLock f => Sys2Proof.Machine.execRootPllLock f s
  | .firmwareBundleStart ok => Sys2Proof.Machine.execFirmwareBundleStart ok s
  | .memoryTrainingComplete => Sys2Proof.Machine.execMemoryTrainingComplete s
  | .podDescriptorRead pods => Sys2Proof.Machine.execPodDescriptorRead pods s
  | .voicingLoad => Sys2Proof.Machine.execVoicingLoad s
  | .podPowerWave => Sys2Proof.Machine.execPodPowerWave s
  | .laneTrainingComplete l ok => Sys2Proof.Machine.execLaneTrainingComplete l ok s
  | .mapRecovery f => Sys2Proof.Machine.execMapRecovery f s
  | .bringupFinalRound x badImages => Sys2Proof.Machine.execBringupFinalRound x badImages s
  | .bringupComplete => Sys2Proof.Machine.execBringupComplete s
  | .bringupTrialTimeout => Sys2Proof.Machine.execBringupTrialTimeout s
  | .perstAssert p => Sys2Proof.Machine.execPerstAssert p s
  | .perstDeassert p => Sys2Proof.Machine.execPerstDeassert p s
  | .refclkMeasureComplete p ppm => Sys2Proof.Machine.execRefclkMeasureComplete p ppm s
  | .configSpaceReady p => Sys2Proof.Machine.execConfigSpaceReady p s
  | .hotReset p => Sys2Proof.Machine.execHotReset p s
  | .linkDown p disabled => Sys2Proof.Machine.execLinkDown p disabled s
  | .linkRecoveryEntry p => Sys2Proof.Machine.execLinkRecoveryEntry p s
  | .linkReturnToL0 p => Sys2Proof.Machine.execLinkReturnToL0 p s
  | .pcieLinkTrained p gen width => Sys2Proof.Machine.execPcieLinkTrained p gen width s
  | .functionLevelReset p => Sys2Proof.Machine.execFunctionLevelReset p s
  | .ccEnSet p css iosqes iocqes asqs acqs => Sys2Proof.Machine.execCcEnSet p css iosqes iocqes asqs acqs s
  | .ccEnClear p => Sys2Proof.Machine.execCcEnClear p s
  | .shutdownNotification p => Sys2Proof.Machine.execShutdownNotification p s
  | .shutdownComplete p => Sys2Proof.Machine.execShutdownComplete p s
  | .d3hotEntry p => Sys2Proof.Machine.execD3hotEntry p s
  | .d0Return p => Sys2Proof.Machine.execD0Return p s
  | .pasidEnableClear p => Sys2Proof.Machine.execPasidEnableClear p s
  | .msixVectorUnmask p u => Sys2Proof.Machine.execMsixVectorUnmask p u s
  | .sqTailDoorbell p w aligned32 value => Sys2Proof.Machine.execSqTailDoorbell p w aligned32 value s
  | .cqHeadDoorbell p w aligned32 value => Sys2Proof.Machine.execCqHeadDoorbell p w aligned32 value s
  | .mctpVdmMessage p r => Sys2Proof.Machine.execMctpVdmMessage p r s
  | .stopWindowAccess p n off write => Sys2Proof.Machine.execStopWindowAccess p n off write s
  | .sqEntryFetch p n qid entries => Sys2Proof.Machine.execSqEntryFetch p n qid entries s
  | .hostDmaFailure p t f => Sys2Proof.Machine.execHostDmaFailure p t f s
  | .admissionRound q => Sys2Proof.Machine.execAdmissionRound q s
  | .capAllowanceInterval q => Sys2Proof.Machine.execCapAllowanceInterval q s
  | .hostViolWindowRoll => Sys2Proof.Machine.execHostViolWindowRoll s
  | .deferredErrorEventTimeout p => Sys2Proof.Machine.execDeferredErrorEventTimeout p s
  | .createIoSq c => Sys2Proof.Machine.execCreateIoSq c s
  | .deleteIoSq c => Sys2Proof.Machine.execDeleteIoSq c s
  | .createIoCq c => Sys2Proof.Machine.execCreateIoCq c s
  | .deleteIoCq c => Sys2Proof.Machine.execDeleteIoCq c s
  | .getLogErrorInfo c => Sys2Proof.Machine.execGetLogErrorInfo c s
  | .getLogSmart c => Sys2Proof.Machine.execGetLogSmart c s
  | .getLogFwSlot c => Sys2Proof.Machine.execGetLogFwSlot c s
  | .getLogCommandsEffects c => Sys2Proof.Machine.execGetLogCommandsEffects c s
  | .getLogSelfTest c => Sys2Proof.Machine.execGetLogSelfTest c s
  | .getLogDeferredErrors c => Sys2Proof.Machine.execGetLogDeferredErrors c s
  | .getLogInstanceCounters c => Sys2Proof.Machine.execGetLogInstanceCounters c s
  | .getLogLatencyHistograms c => Sys2Proof.Machine.execGetLogLatencyHistograms c s
  | .getLogMediaHealth c => Sys2Proof.Machine.execGetLogMediaHealth c s
  | .getLogStops c => Sys2Proof.Machine.execGetLogStops c s
  | .getLogPowerThermal c => Sys2Proof.Machine.execGetLogPowerThermal c s
  | .getLogUpdateState c => Sys2Proof.Machine.execGetLogUpdateState c s
  | .getLogDieStatistics c => Sys2Proof.Machine.execGetLogDieStatistics c s
  | .getLogEventJournal c => Sys2Proof.Machine.execGetLogEventJournal c s
  | .getLogSpareReserves c => Sys2Proof.Machine.execGetLogSpareReserves c s
  | .getLogModuleState c => Sys2Proof.Machine.execGetLogModuleState c s
  | .identifyController c => Sys2Proof.Machine.execIdentifyController c s
  | .identifyNamespace c => Sys2Proof.Machine.execIdentifyNamespace c s
  | .identifyNsList c => Sys2Proof.Machine.execIdentifyNsList c s
  | .identifyNsDescriptors c => Sys2Proof.Machine.execIdentifyNsDescriptors c s
  | .identifyControllerList c => Sys2Proof.Machine.execIdentifyControllerList c s
  | .abort c => Sys2Proof.Machine.execAbort c s
  | .setFeaturesArbitration c => Sys2Proof.Machine.execSetFeaturesArbitration c s
  | .setFeaturesPowerMgmt c => Sys2Proof.Machine.execSetFeaturesPowerMgmt c s
  | .setFeaturesTempThreshold c => Sys2Proof.Machine.execSetFeaturesTempThreshold c s
  | .setFeaturesErrorRecovery c => Sys2Proof.Machine.execSetFeaturesErrorRecovery c s
  | .setFeaturesNumberOfQueues c => Sys2Proof.Machine.execSetFeaturesNumberOfQueues c s
  | .setFeaturesIntCoalescing c => Sys2Proof.Machine.execSetFeaturesIntCoalescing c s
  | .setFeaturesIntVectorConfig c => Sys2Proof.Machine.execSetFeaturesIntVectorConfig c s
  | .setFeaturesWriteAtomicity c => Sys2Proof.Machine.execSetFeaturesWriteAtomicity c s
  | .setFeaturesAsyncEventConfig c => Sys2Proof.Machine.execSetFeaturesAsyncEventConfig c s
  | .setFeaturesApst c => Sys2Proof.Machine.execSetFeaturesApst c s
  | .setFeaturesTimestamp c => Sys2Proof.Machine.execSetFeaturesTimestamp c s
  | .getFeatures c => Sys2Proof.Machine.execGetFeatures c s
  | .apstIdleExpiry p => Sys2Proof.Machine.execApstIdleExpiry p s
  | .powerStateEntryStart => Sys2Proof.Machine.execPowerStateEntryStart s
  | .ps4DroneExcursion finished => Sys2Proof.Machine.execPs4DroneExcursion finished s
  | .asyncEventRequest c => Sys2Proof.Machine.execAsyncEventRequest c s
  | .namespaceCreate c => Sys2Proof.Machine.execNamespaceCreate c s
  | .namespaceDelete c => Sys2Proof.Machine.execNamespaceDelete c s
  | .namespaceAttach c => Sys2Proof.Machine.execNamespaceAttach c s
  | .namespaceDetach c => Sys2Proof.Machine.execNamespaceDetach c s
  | .firmwareImageDownload c => Sys2Proof.Machine.execFirmwareImageDownload c s
  | .firmwareCommitVerify c => Sys2Proof.Machine.execFirmwareCommitVerify c s
  | .firmwareCommitNextBoot c => Sys2Proof.Machine.execFirmwareCommitNextBoot c s
  | .firmwareCommitConfirm c => Sys2Proof.Machine.execFirmwareCommitConfirm c s
  | .firmwareCommitActivate c => Sys2Proof.Machine.execFirmwareCommitActivate c s
  | .updateVerificationComplete f => Sys2Proof.Machine.execUpdateVerificationComplete f s
  | .activationServe => Sys2Proof.Machine.execActivationServe s
  | .activationTimeout => Sys2Proof.Machine.execActivationTimeout s
  | .trialAutoConfirm => Sys2Proof.Machine.execTrialAutoConfirm s
  | .flashOperationComplete bank => Sys2Proof.Machine.execFlashOperationComplete bank s
  | .deviceSelfTestShort c => Sys2Proof.Machine.execDeviceSelfTestShort c s
  | .deviceSelfTestExtended c => Sys2Proof.Machine.execDeviceSelfTestExtended c s
  | .deviceSelfTestAbort c => Sys2Proof.Machine.execDeviceSelfTestAbort c s
  | .extendedSelfTestEnd result => Sys2Proof.Machine.execExtendedSelfTestEnd result s
  | .directiveSend c => Sys2Proof.Machine.execDirectiveSend c s
  | .directiveReceive c => Sys2Proof.Machine.execDirectiveReceive c s
  | .nvmeMiSend c r => Sys2Proof.Machine.execNvmeMiSend c r s
  | .nvmeMiReceive c => Sys2Proof.Machine.execNvmeMiReceive c s
  | .formatNvm c => Sys2Proof.Machine.execFormatNvm c s
  | .formatNvmAll c => Sys2Proof.Machine.execFormatNvmAll c s
  | .createInstance c => Sys2Proof.Machine.execCreateInstance c s
  | .instanceReport c => Sys2Proof.Machine.execInstanceReport c s
  | .destroyInstance c => Sys2Proof.Machine.execDestroyInstance c s
  | .changeShare c => Sys2Proof.Machine.execChangeShare c s
  | .shareDrainEnd p n => Sys2Proof.Machine.execShareDrainEnd p n s
  | .shareDrainLimitExpiry p n => Sys2Proof.Machine.execShareDrainLimitExpiry p n s
  | .resetInstance c => Sys2Proof.Machine.execResetInstance c s
  | .proxyAdmin c => Sys2Proof.Machine.execProxyAdmin c s
  | .lendMapMemory c => Sys2Proof.Machine.execLendMapMemory c s
  | .reclaimMapMemory c => Sys2Proof.Machine.execReclaimMapMemory c s
  | .t2AccessFailure p lend f => Sys2Proof.Machine.execT2AccessFailure p lend f s
  | .bindStop c => Sys2Proof.Machine.execBindStop c s
  | .unbindStop c => Sys2Proof.Machine.execUnbindStop c s
  | .loadStopImageTransfer c => Sys2Proof.Machine.execLoadStopImageTransfer c s
  | .loadStopImageLoad c bodyOk compileSig operatorSig => Sys2Proof.Machine.execLoadStopImageLoad c bodyOk compileSig operatorSig s
  | .loadStopImageReload c => Sys2Proof.Machine.execLoadStopImageReload c s
  | .loadStopImageDiscard c => Sys2Proof.Machine.execLoadStopImageDiscard c s
  | .voicingSelect c => Sys2Proof.Machine.execVoicingSelect c s
  | .voicingSelectDryRun c => Sys2Proof.Machine.execVoicingSelectDryRun c s
  | .cryptoErase c => Sys2Proof.Machine.execCryptoErase c s
  | .getChallenge h key => Sys2Proof.Machine.execGetChallenge h key s
  | .challengeExpiry n => Sys2Proof.Machine.execChallengeExpiry n s
  | .readIdentity h => Sys2Proof.Machine.execReadIdentity h s
  | .readStatus h => Sys2Proof.Machine.execReadStatus h s
  | .setThreshOvr h value => Sys2Proof.Machine.execSetThreshOvr h value s
  | .clearBackupWarning h => Sys2Proof.Machine.execClearBackupWarning h s
  | .releaseSafeHold h fresh => Sys2Proof.Machine.execReleaseSafeHold h fresh s
  | .setUpdateLock h lock => Sys2Proof.Machine.execSetUpdateLock h lock s
  | .setRpl h level strap => Sys2Proof.Machine.execSetRpl h level strap s
  | .loadKey h slot persist unwraps kcv => Sys2Proof.Machine.execLoadKey h slot persist unwraps kcv s
  | .clearKey h slot => Sys2Proof.Machine.execClearKey h slot s
  | .rotateOperatorKey h hash strap => Sys2Proof.Machine.execRotateOperatorKey h hash strap s
  | .revokeImageKey h entry => Sys2Proof.Machine.execRevokeImageKey h entry s
  | .maintenanceHold seconds => Sys2Proof.Machine.execMaintenanceHold seconds s
  | .maintenanceHoldRelease => Sys2Proof.Machine.execMaintenanceHoldRelease s
  | .maintenanceHoldExpiry => Sys2Proof.Machine.execMaintenanceHoldExpiry s
  | .deviceEpochDrainEnd => Sys2Proof.Machine.execDeviceEpochDrainEnd s
  | .drainInterruptTimeout => Sys2Proof.Machine.execDrainInterruptTimeout s
  | .flush c => Sys2Proof.Machine.execFlush c s
  | .write c => Sys2Proof.Machine.execWrite c s
  | .read c => Sys2Proof.Machine.execRead c s
  | .writeZeroes c => Sys2Proof.Machine.execWriteZeroes c s
  | .datasetManagement c => Sys2Proof.Machine.execDatasetManagement c s
  | .verify c => Sys2Proof.Machine.execVerify c s
  | .compute c => Sys2Proof.Machine.execCompute c s
  | .computeCopy c => Sys2Proof.Machine.execComputeCopy c s
  | .cacheSpaceGrant => Sys2Proof.Machine.execCacheSpaceGrant s
  | .writeCommit c blocks => Sys2Proof.Machine.execWriteCommit c blocks s
  | .mergeReadComplete c unit => Sys2Proof.Machine.execMergeReadComplete c unit s
  | .stripeIdleClose n => Sys2Proof.Machine.execStripeIdleClose n s
  | .writeThroughStripeClose n => Sys2Proof.Machine.execWriteThroughStripeClose n s
  | .hbmUncorrectableError muns accumulators => Sys2Proof.Machine.execHbmUncorrectableError muns accumulators s
  | .journalEpochClose => Sys2Proof.Machine.execJournalEpochClose s
  | .journalSealCommit => Sys2Proof.Machine.execJournalSealCommit s
  | .chanterIssue l die => Sys2Proof.Machine.execChanterIssue l die s
  | .suspendWindowExpiry l die => Sys2Proof.Machine.execSuspendWindowExpiry l die s
  | .dieReadTimeout l tag => Sys2Proof.Machine.execDieReadTimeout l tag s
  | .dieOpTimeout l die => Sys2Proof.Machine.execDieOpTimeout l die s
  | .linkFrameReceived l f => Sys2Proof.Machine.execLinkFrameReceived l f s
  | .replayTimeout l => Sys2Proof.Machine.execReplayTimeout l s
  | .podViolWindowRoll => Sys2Proof.Machine.execPodViolWindowRoll s
  | .fecLockLoss l => Sys2Proof.Machine.execFecLockLoss l s
  | .linkRecoveryStepResult l restored => Sys2Proof.Machine.execLinkRecoveryStepResult l restored s
  | .dieTimeoutPauseExpiry l => Sys2Proof.Machine.execDieTimeoutPauseExpiry l s
  | .podStatusMissing l => Sys2Proof.Machine.execPodStatusMissing l s
  | .ldpcDecodeComplete op e bits fixed => Sys2Proof.Machine.execLdpcDecodeComplete op e bits fixed s
  | .ldpcDecodeTimeout q => Sys2Proof.Machine.execLdpcDecodeTimeout q s
  | .coreHeartbeatMiss q core => Sys2Proof.Machine.execCoreHeartbeatMiss q core s
  | .moverNoProgress m => Sys2Proof.Machine.execMoverNoProgress m s
  | .t1MissFillComplete n => Sys2Proof.Machine.execT1MissFillComplete n s
  | .mapFetchComplete nsid line => Sys2Proof.Machine.execMapFetchComplete nsid line s
  | .mapCacheWayError n set way uncorrectable tagLost => Sys2Proof.Machine.execMapCacheWayError n set way uncorrectable tagLost s
  | .wayErrorWindowExpiry n set way => Sys2Proof.Machine.execWayErrorWindowExpiry n set way s
  | .mcRegionLoWrite w n value => Sys2Proof.Machine.execMcRegionLoWrite w n value s
  | .mcClean => Sys2Proof.Machine.execMcClean s
  | .mcInvalidate => Sys2Proof.Machine.execMcInvalidate s
  | .mcDiscard => Sys2Proof.Machine.execMcDiscard s
  | .mcUnlock => Sys2Proof.Machine.execMcUnlock s
  | .mcMaintDone => Sys2Proof.Machine.execMcMaintDone s
  | .checkpointLine nsid line => Sys2Proof.Machine.execCheckpointLine nsid line s
  | .gcVictimStart g => Sys2Proof.Machine.execGcVictimStart g s
  | .relocationCopyComplete g band => Sys2Proof.Machine.execRelocationCopyComplete g band s
  | .retentionClockTick => Sys2Proof.Machine.execRetentionClockTick s
  | .retentionRefresh g => Sys2Proof.Machine.execRetentionRefresh g s
  | .ladderUnitRewrite mun => Sys2Proof.Machine.execLadderUnitRewrite mun s
  | .wearLevelling g dieSet => Sys2Proof.Machine.execWearLevelling g dieSet s
  | .writeClosedTimer g => Sys2Proof.Machine.execWriteClosedTimer g s
  | .rebuildRowSolve id found => Sys2Proof.Machine.execRebuildRowSolve id found s
  | .podPresenceChange l present desc => Sys2Proof.Machine.execPodPresenceChange l present desc s
  | .baySwitchStatusPoll l st => Sys2Proof.Machine.execBaySwitchStatusPoll l st s
  | .baySwitchIbi l st => Sys2Proof.Machine.execBaySwitchIbi l st s
  | .droneWindow dieTime coreTime drones => Sys2Proof.Machine.execDroneWindow dieTime coreTime drones s
  | .patrolScrub g band row finds => Sys2Proof.Machine.execPatrolScrub g band row finds s
  | .readOffsetCalibration l die blockGroup => Sys2Proof.Machine.execReadOffsetCalibration l die blockGroup s
  | .memoryScrub h => Sys2Proof.Machine.execMemoryScrub h s
  | .linkAdaptation l => Sys2Proof.Machine.execLinkAdaptation l s
  | .spareMediaVerify l die answers bad => Sys2Proof.Machine.execSpareMediaVerify l die answers bad s
  | .vaultRearm g band => Sys2Proof.Machine.execVaultRearm g band s
  | .reserveBandReturn g band => Sys2Proof.Machine.execReserveBandReturn g band s
  | .podStatsRead l die resets tempMaxK => Sys2Proof.Machine.execPodStatsRead l die resets tempMaxK s
  | .telemetrySnapshot => Sys2Proof.Machine.execTelemetrySnapshot s
  | .eventRecorderTake => Sys2Proof.Machine.execEventRecorderTake s
  | .stopDataOut n f => Sys2Proof.Machine.execStopDataOut n f s
  | .stopEndFrame n f => Sys2Proof.Machine.execStopEndFrame n f s
  | .stopMoverOut n f => Sys2Proof.Machine.execStopMoverOut n f s
  | .stopControlResponse n tag value stable => Sys2Proof.Machine.execStopControlResponse n tag value stable s
  | .stopIrqEdge n line => Sys2Proof.Machine.execStopIrqEdge n line s
  | .stopDrainAck n => Sys2Proof.Machine.execStopDrainAck n s
  | .stopDrainLimitExpiry n => Sys2Proof.Machine.execStopDrainLimitExpiry n s
  | .stopXformTimeout n tag => Sys2Proof.Machine.execStopXformTimeout n tag s
  | .stopComputeTimeout n tag => Sys2Proof.Machine.execStopComputeTimeout n tag s
  | .stopControlReadTimeout n tag => Sys2Proof.Machine.execStopControlReadTimeout n tag s
  | .stopConfigWritten n failing => Sys2Proof.Machine.execStopConfigWritten n failing s
  | .stopViolWindowRoll => Sys2Proof.Machine.execStopViolWindowRoll s
  | .dmRingTailWrite m k tail descs => Sys2Proof.Machine.execDmRingTailWrite m k tail descs s
  | .dmRingBaseWrite m k value => Sys2Proof.Machine.execDmRingBaseWrite m k value s
  | .dmEnableWrite m k on => Sys2Proof.Machine.execDmEnableWrite m k on s
  | .dmPauseWrite m k on => Sys2Proof.Machine.execDmPauseWrite m k on s
  | .dmPaceRequestWrite m k on => Sys2Proof.Machine.execDmPaceRequestWrite m k on s
  | .dmCopy m k => Sys2Proof.Machine.execDmCopy m k s
  | .dmFill m k => Sys2Proof.Machine.execDmFill m k s
  | .dmCheck m k => Sys2Proof.Machine.execDmCheck m k s
  | .dmFence m k => Sys2Proof.Machine.execDmFence m k s
  | .dmNop m k => Sys2Proof.Machine.execDmNop m k s
  | .dmBurstComplete m k bytes e => Sys2Proof.Machine.execDmBurstComplete m k bytes e s
  | .dmFenceReadComplete m k => Sys2Proof.Machine.execDmFenceReadComplete m k s
  | .dmRingReadFailure m k => Sys2Proof.Machine.execDmRingReadFailure m k s
  | .registerWrite w addr value => Sys2Proof.Machine.execRegisterWrite w addr value s
  | .ingressBeatAccepted n mover tag seq => Sys2Proof.Machine.execIngressBeatAccepted n mover tag seq s
  | .powerStateEntryComplete => Sys2Proof.Machine.execPowerStateEntryComplete s
  | .bellowsTestDeadline => Sys2Proof.Machine.execBellowsTestDeadline s
  | .bootFlashRead bank off => Sys2Proof.Machine.execBootFlashRead bank off s

end Sys2Proof.Machine
end

