-- ==== Sys2Proof/Machine/HostRegs.lean ====
section
/-! DEFINITION. What a host reads in BAR0 of a port: the NVMe controller registers and the vendor area (04). No row of the table is a host's read; these are views of the state. -/

namespace Sys2Proof.Machine

/-! ## Controller registers (R135 to R138; offsets and the bits of CSTS by NVMe 2.0, PRESUMED, log entry 91) -/

/-- CAP. -/
def capReg : W64 := image64 [(0, 16, 4095), (16, 1, 1), (24, 8, 255), (37, 8, 1), (46, 2, 3), (52, 4, 4), (59, 1, 1)]
/-- CSTS: RDY, CFS, SHST and PP. -/
def Port.csts (t : Port) : W64 := image64 [(0, 1, t.rdy.toNat), (1, 1, t.cfs.toNat), (2, 2, t.shst), (5, 1, t.pp.toNat)]
def ctlRegAt (t : Port) (o : Nat) : W64 :=
  match o with
  | 0x00 => capReg
  | 0x08 => 0x00020000
  | 0x14 => image64 [(0, 1, t.ccEn.toNat), (4, 3, t.css), (16, 4, t.iosqes), (20, 4, t.iocqes)]
  | 0x1C => t.csts
  | 0x24 => image64 [(0, 12, t.asqs), (16, 12, t.acqs)]
  | 0x28 => t.asq
  | 0x30 => t.acq
  | 0x68 => 480
  | _ => 0

/-! ## Vendor area (R132) -/

/-- HV_THROTTLE. -/
def State.hvThrottle (s : State) (p : Nat) : W64 :=
  image64 [(0, 9, s.pw.advice), (9, 2, s.pw.mute), (16, 16, s.graceMs), (32, 32, ((s.port p).changeCount + BitVec.ofNat 32 s.graceTicks).toNat)]
/-- HV_STATE. -/
def State.hvState (s : State) : W64 :=
  image64 [(0, 16, s.pw.composite), (16, 3, s.modes.ps), (19, 3, s.modes.mode.code), (22, 16, s.modes.degrade.toNat), (38, 8, min s.health.lifeUsed 255)]
/-- What the instances of a port have pending: local instance and its part of log page 0xE0. -/
def State.deferredOf (s : State) (p : Nat) : List (Nat × DefLog) := (s.insts.filter (fun e => e.1 / 128 == p)).map (fun e => (e.1 % 128, e.2.defLog))
/-- HV_DEFERRED. -/
def State.hvDeferred (s : State) (p : Nat) : W64 :=
  let ds := (s.deferredOf p).map (·.2)
  image64 [(0, 16, min 65535 ((ds.map (·.pending)).foldl (· + ·) 0)), (16, 1, (ds.any (·.overflow)).toNat)]
/-- HV_DEFERRED_MAP0 and MAP1: a bit for each local instance from `base` on. -/
def State.hvDeferredMap (s : State) (p base : Nat) : W64 :=
  image64 (((s.deferredOf p).filter (fun e => decide (base ≤ e.1 ∧ e.1 < base + 64 ∧ 0 < e.2.pending))).map (fun e => (e.1 - base, 1, 1)))
/-- Times of an instance's pending errors, ms of the RTC: those of its entries, and of errors not delivered that are no entries. -/
def DefLog.times (d : DefLog) (rtcOf : Nat → Nat) : List Nat :=
  d.entries.map (·.time) ++ (d.undelivered.filter (fun u => d.removed.contains u.1)).map (fun u => rtcOf u.2.2)
/-- HV_DEFERRED_OLDEST. -/
def State.hvOldest (s : State) (p : Nat) : W64 :=
  BitVec.ofNat 64 (((s.deferredOf p).flatMap (fun e => e.2.times (fun t => s.part.rtcBase + (t - s.part.rtcZero) / 1000))).foldl (fun b t => if b = 0 ∨ t < b then t else b) 0)
def State.vendorReg (s : State) (p o : Nat) : W64 :=
  let t := s.port p
  match o with
  | 0x2000 => s.hvThrottle p
  | 0x2040 => BitVec.ofNat 64 t.seqNo
  | 0x2048 => BitVec.ofNat 64 t.snap.rdCmds
  | 0x2050 => BitVec.ofNat 64 t.snap.wrCmds
  | 0x2058 => BitVec.ofNat 64 t.snap.rdBytes
  | 0x2060 => BitVec.ofNat 64 t.snap.wrBytes
  | 0x2068 => t.snap.rdLat
  | 0x2070 => s.hvState
  | 0x2078 => BitVec.ofNat 64 t.stray
  | 0x2100 => s.hvDeferred p
  | 0x2108 => s.hvDeferredMap p 0
  | 0x2110 => s.hvDeferredMap p 64
  | 0x2118 => s.hvOldest p
  | _ => 0

/-- A 64-bit word of the MSI-X table, and of its pending bits (R134). -/
def Port.msixWord (t : Port) (o : Nat) : W64 :=
  let m := t.msix.get {} (o / 16)
  if o % 16 < 8 then m.addr else image64 [(0, 32, m.data.toNat), (32, 1, m.masked.toNat)]
def Port.pendingWord (t : Port) (o : Nat) : W64 := image64 ((List.range 64).map (fun i => (i, 1, (t.msix.get {} (8 * o + i)).pending.toNat)))

/-- The word at offset `o` of BAR0 of port `p`; doorbells read 0 (R129). -/
def State.hostReg (s : State) (p o : Nat) : W64 :=
  let t := s.port p
  if o < 0x1000 then ctlRegAt t o else if 0x2000 ≤ o ∧ o < 0x3000 then s.vendorReg p o
  else if 0x10000 ≤ o ∧ o < 0x18000 then t.msixWord (o - 0x10000) else if 0x18000 ≤ o ∧ o < 0x18100 then t.pendingWord (o - 0x18000) else 0

/-! ## Configuration space (04, Function identity; R125; offsets as PCI Express has them or as log entry 56 places them) -/

/-- The dword at offset `o`; a BAR is a 64-bit, non-prefetchable memory BAR. -/
def State.cfgReg (s : State) (p o : Nat) : W32 :=
  let t := s.port p
  if 0x10 ≤ o ∧ o < 0x28 then
    let b := (t.bars.get 0 ((o - 0x10) / 8 * 2)).toNat
    BitVec.ofNat 32 (if (o - 0x10) % 8 < 4 then b % 2 ^ 32 + 4 else b / 2 ^ 32)
  else match o with
  | 0x00 => 0x14401F9E
  | 0x08 => BitVec.ofNat 32 (0x01080200 + Config.revision.toNat % 256)
  | 0x2C => if Config.large then 0x03841F9E else 0x01921F9E
  | 0x50 => BitVec.ofNat 32 (t.fmask.toNat * 2 ^ 30 + t.msixEn.toNat * 2 ^ 31 + 2047 * 2 ^ 16)
  | 0x60 => BitVec.ofNat 32 t.pasidEn.toNat
  | 0x70 => BitVec.ofNat 32 (t.relaxed.toNat * 16)
  | _ => 0

end Sys2Proof.Machine
end

