-- ==== Sys2Proof/WellFormed.lean ====
section
/-! DEFINITION. The ranges the manual gives the operands that are numbers: a command outside them stands for nothing the module can meet. -/
namespace Sys2Proof

/-- A number fits a field of `w` bits. -/
def fits (w n : Nat) : Bool := decide (n < 2 ^ w)

/-- The request codes the table of mailbox requests lists (17). -/
def mailboxCodes : List Nat := [0x0001, 0x0002, 0x0003, 0x0010, 0x0011, 0x0012, 0x0013, 0x0020, 0x0021, 0x0022, 0x0030, 0x0031]
/-- Fields of a submission entry (05): opcode, CID, NSID; the inner entry of Proxy Admin. -/
def Sqe.ok (q : Sqe) : Bool :=
  fits 8 q.opcode && fits 16 q.cid && fits 32 q.nsid && (match q.inner with
    | some i => fits 8 i.1 && fits 32 i.2.1
    | none => true) && (match q.data with
    | .otherRequest code _ => fits 16 code && !mailboxCodes.contains code
    | _ => true)

/-- Fields of a management request. -/
def MiRequest.ok : MiRequest → Bool
  | .adminCommand _ e => e.ok
  | .readConfig _ off => fits 32 off
  | .mailbox code _ => fits 16 code && !mailboxCodes.contains code
  | _ => true

/-- Fields of a map record (R244). -/
def MapCopy.ok : MapCopy → Bool
  | .other r => fits 16 r.nsIndex && fits 16 r.version && fits 32 r.serial && fits 40 r.line && fits 2 r.muCode && fits 64 r.epoch &&
      fits 40 r.ckptMun && fits 4 r.ckptIndex && decide (r.entries.length = 64)
  | _ => true

/-- Zones 0 to 6 and 8 to 151, at most eight sensors each (16). -/
def Reading.ok (r : Reading) : Bool :=
  decide (r.zone ≤ 6 ∨ (8 ≤ r.zone ∧ r.zone ≤ 151)) && decide (r.sensor < 8)
/-- A sample of the sensors and of the supply channels: 16 bits each, the rail 12. -/
def Sample.ok (x : Sample) : Bool :=
  x.readings.all Reading.ok && fits 16 x.inputV && fits 16 x.inputW && fits 12 x.railA && fits 12 x.railV && fits 16 x.bankV

/-- Fields of a link frame (13); RS(544,514) corrects at most 15 symbols in each of its two codewords. -/
def LinkFrame.ok (f : LinkFrame) : Bool := fits 12 f.seq && fits 12 f.ackSeq && fits 16 f.credit && fits 7 f.msgSlots && fits 7 f.dataSlots && fits 5 f.mended && decide (f.spoilt ≤ 2)
/-- Fields of a stream frame (14). -/
def OutFrame.ok (f : OutFrame) : Bool :=
  fits 4 f.typ && fits 4 f.kind && fits 16 f.tag && fits 16 f.seq && fits 32 f.length && fits 64 f.lba && fits 64 f.offset && fits 16 f.code && fits 2 f.channel
/-- Fields of a mover descriptor (15). -/
def MvDesc.ok (d : MvDesc) : Bool :=
  fits 8 d.op && fits 3 d.csum && fits 3 d.srcSpace && fits 3 d.dstSpace && fits 32 d.length && fits 64 d.src && fits 64 d.dst && fits 32 d.srcNsid && fits 32 d.dstNsid
/-- A pod descriptor's geometry leaves something to address. -/
def PodDesc.ok (d : PodDesc) : Bool := fits 16 d.blocks && fits 16 d.blocksInService && fits 16 d.rows && fits 8 d.dies
/-- Link widths of a host port. -/
def widthOk (n : Nat) : Bool := [1, 2, 4, 8, 16].contains n

/-- A command whose operands lie in the ranges the manual gives them. -/
def Instr.wellFormed : Instr → Bool
  | .bellowsTestMeasured c e _ => fits 16 c && fits 10 e
  | .sensorSample x => x.ok
  | .bringupFinalRound x _ => x.ok
  | .releaseSafeHold _ x => x.ok
  | .keepCellCheck mv => fits 12 mv
  | .podDescriptorRead ds => ds.all (fun d => d.2.ok) && decide ((ds.map (·.1)).Nodup)
  | .pcieLinkTrained _ g w => decide (1 ≤ g ∧ g ≤ 7) && widthOk w
  | .ccEnSet _ css sq cq a b => fits 3 css && fits 4 sq && fits 4 cq && fits 12 a && fits 12 b
  | .sqTailDoorbell _ _ _ v => fits 32 v
  | .cqHeadDoorbell _ _ _ v => fits 32 v
  | .stopWindowAccess _ _ off _ => fits 16 off
  | .sqEntryFetch _ _ qid es => decide (qid ≤ 511 ∧ es.length ≤ 8) && es.all Sqe.ok
  | .mctpVdmMessage _ r => r.ok
  | .nvmeMiSend _ r => r.ok
  | .maintenanceHold n => fits 16 n
  | .loadKey _ slot _ _ _ => fits 16 slot
  | .clearKey _ slot => fits 16 slot
  | .setRpl _ level _ => fits 8 level
  | .linkFrameReceived _ f => f.ok
  | .droneWindow d c xs => decide (d ≤ 1024 ∧ c ≤ 1024 ∧ xs.length ≤ 11)
  | .stopDataOut _ f => f.ok
  | .stopEndFrame _ f => f.ok
  | .stopMoverOut _ f => f.ok
  | .dmRingTailWrite _ _ t ds => fits 64 t && ds.all (fun d => fits 16 d.1 && d.2.ok)
  | .dmBurstComplete _ _ bs _ => decide (bs.length ≤ 4096)
  | .bootFlashRead _ off => decide (off < 2 ^ 26)
  | .checkpointLine n l => decide (1 ≤ n ∧ n ≤ 4096) && fits 40 l
  | .mapFetchComplete n l => decide (1 ≤ n ∧ n ≤ 4096) && fits 40 l.line && l.copy.ok
  | .patrolScrub _ b _ fs => fits 16 b && fs.all (fun f => decide (1 ≤ f.step ∧ f.step ≤ 6))
  | .relocationCopyComplete _ b => fits 16 b
  | .vaultRearm _ b => fits 16 b
  | .reserveBandReturn _ b => fits 16 b
  | .podStatsRead _ _ r k => fits 32 r && fits 16 k
  | .extendedSelfTestEnd r => fits 4 r
  | _ => true

end Sys2Proof
end

