-- ==== Sys2Proof/Safety.lean ====
section
/-! DEFINITION. The terms claims are stated in: completion, readiness of an admin or an I/O command, what a replay of the journal gives, the invariants. -/
namespace Sys2Proof.Machine

/-! ## Completion -/

/-- A command answers a next state of which `P` holds. -/
def Runs (i : Instr) (s : State) (P : State → Prop) : Prop := ∃ t, exec i s = .next t ∧ P t

/-- The admin command of context `c`, opcode `op`, is fetched, has not begun, and the module takes it (DESIGN CHOICE, log entry 4). -/
def AdminReady (s : State) (c op : Nat) (x : Ctx) : Prop :=
  s.ctx c = some x ∧ x.admin = true ∧ x.phase = .ready ∧ x.sqe.opcode = op ∧ s.mayRun x = true

/-- The same of a command that waits for the end of a device epoch (R104). -/
def BoundaryReady (s : State) (c op : Nat) (x : Ctx) : Prop := AdminReady s c op x ∧ s.modes.epoch = none

/-- The same of a command that names a slot and a generation: they are accepted (R199). -/
def SlotReady (s : State) (c op : Nat) (x : Ctx) (k : Nat) : Prop :=
  BoundaryReady s c op x ∧ k = instKey x.port x.localIndex ∧ x.localIndex < (s.vport x.port).instances ∧
    matchFails x.sqe.cdw11 (s.gen k) = false ∧ (s.dinst k).live = true

/-- The same of a command that may also wait for the commands already fetched (R238, R239). -/
def WaitReady (s : State) (c op : Nat) (x : Ctx) : Prop :=
  s.ctx c = some x ∧ x.admin = true ∧ (x.phase = .ready ∨ x.phase = .drain) ∧ x.sqe.opcode = op ∧ s.adminOn = true

/-- An update command is taken: as any admin command, and no block is being programmed and no package verified (R593, R599). -/
def UpdateReady (s : State) (c op : Nat) (x : Ctx) : Prop :=
  s.ctx c = some x ∧ x.admin = true ∧ x.phase = .ready ∧ x.sqe.opcode = op ∧ s.adminOn = true ∧ s.keep.verifying = false ∧ (∀ p, s.flash.package = some p → p.togo = 0)

/-- An I/O command of context `c`, opcode `op`, is admitted and has not begun; its namespace is `v`. -/
def IoReady (s : State) (c op : Nat) (x : Ctx) (v : Ns) : Prop :=
  s.ctx c = some x ∧ x.admin = false ∧ x.phase = .ready ∧ x.sqe.opcode = op ∧ s.active = true ∧ s.hostFenced = false ∧ s.ns x.sqe.nsid = some v

/-- A Load Stop Image of one action names a stop its instance holds, at the generation it expects (R490). -/
def LoadReady (s : State) (c action : Nat) (x : Ctx) (n k : Nat) : Prop :=
  BoundaryReady s c 0xD5 x ∧ bits x.sqe.cdw10 9 8 = action ∧ n = x.stopIndex ∧ s.holderOn x.port n = some k ∧ matchFails x.sqe.cdw11 (s.gen k) = false

/-! ## The mailbox (R564 to R568) -/

/-- A request can be sent by its source, the partition takes requests (it does not restart, and no change of level waits for its commit point, R561, R564), and none waits before it. -/
def MailReady (s : State) (h : MbHdr) : Prop := s.mbSource h = true ∧ s.mbBusy = false ∧ s.part.queue = []
/-- A privileged request passes every check: not limited by the lockout, its challenge outstanding for its source, its form right, its signature by the key of the challenge. -/
def Authentic (s : State) (h : MbHdr) (len : Nat) : Prop :=
  MailReady s h ∧ (s.keep.lockout = false ∨ ∀ t, s.part.lastPriv = some t → t + 10000000 ≤ s.now) ∧ h.resvZero = true ∧ h.length = len ∧
    ∃ c, s.part.challenges.find? (fun c => c.index == h.challenge && sameSource c.src h.src) = some c ∧ h.sigKey = some c.key
/-- What a request that passes uses up: its challenge; and the count of failed authentications returns to 0 (R566). -/
def State.authenticated (h : MbHdr) (s : State) : State :=
  let s := (s.modPart (fun p => { p with lastPriv := some s.now })).modPart (fun p => { p with challenges := p.challenges.filter (fun d => !(d.index == h.challenge)) })
  if s.keep.authFails = 0 then s else s.keepWrite (fun k => { k with authFails := 0 })

/-- A completion entry of an admin command can be written to its port's queue now. -/
def AdminQueueOpen (s : State) (p : Nat) : Prop :=
  s.hostFenced = false ∧ (s.port p).rdy = true ∧ (s.port p).d3hot = false ∧ (s.port p).link ≠ .recovery ∧
    (s.port p).cfs = false ∧ ∃ q, (s.inst (instKey p 0)).cqs.find 0 = some q ∧ q.size ≠ 0 ∧ q.full = false ∧ q.held = []

/-! ## The journal (R99, R101, R263) -/

/-- What a replay of the records not yet sealed makes of the sealed state. -/
def State.replayed (s : State) : Durable := ((s.jrn.sealing.getD []) ++ s.jrn.opened).foldl Durable.apply s.sealed
/-- Every journalled change in force is in the sealed state or in a record that is still to be sealed. -/
def State.Journalled (s : State) : Prop := s.live = s.replayed

/-! ## Fuses (17, OTP) -/

/-- One-time-programmable entries are only ever added to. -/
def Otp.grows (a b : Otp) : Prop :=
  a.operatorKeys <+: b.operatorKeys ∧ a.imageRevoke &&& b.imageRevoke = a.imageRevoke ∧ a.operatorRevoke &&& b.operatorRevoke = a.operatorRevoke ∧
    a.raises ≤ b.raises ∧ a.lowers ≤ b.lowers ∧ (a.rpl2 = true → b.rpl2 = true) ∧ (a.debugOff = true → b.debugOff = true)
/-- An image key is always left unrevoked (R576). -/
def Otp.Usable (o : Otp) : Prop := o.imageRevoke ≠ 15 ∧ o.operatorKeys.length ≤ 4

/-! ## The few commands that can touch a part of the state (a whole-machine reading of 00 to 20) -/

/-- They can blow fuses: the mailbox's requests, the step that completes a change of level a power fail cut short, and the events that serve a request that waits. -/
def burns : Instr → Bool
  | .getChallenge .. | .readIdentity .. | .readStatus .. | .setThreshOvr .. | .clearBackupWarning .. | .releaseSafeHold .. | .setUpdateLock .. | .setRpl .. | .loadKey ..
  | .clearKey .. | .rotateOperatorKey .. | .revokeImageKey .. | .rootPllLock .. | .spRestartComplete | .activationServe | .deviceEpochDrainEnd => true
  | _ => false
/-- They can make records durable: the seal's commit point, the ends of a shutdown, of a device epoch and of a PS4 entry, and bring-up where it formats or recovers the media. -/
def seals : Instr → Bool
  | .journalSealCommit | .shutdownComplete .. | .deviceEpochDrainEnd | .powerStateEntryComplete | .rootPllLock .. | .voicingLoad | .mapRecovery .. => true
  | _ => false
/-- They can write the format record: the commands of `burns`, the load of a voicing and the map's recovery, and the writers of the registers it copies. -/
def formats (c : Instr) : Bool :=
  burns c || (match c with
    | .voicingLoad | .mapRecovery .. | .registerWrite .. | .mctpVdmMessage .. | .nvmeMiSend .. => true
    | _ => false)
/-- They can fetch a command: a fetch, and the steps of a data mover that act on a namespace. -/
def fetches : Instr → Bool
  | .sqEntryFetch .. | .dmCopy .. | .dmFill .. | .dmCheck .. | .dmFence .. | .dmNop .. | .dmBurstComplete .. | .dmFenceReadComplete .. | .ingressBeatAccepted .. => true
  | _ => false
/-- They are the end of a timer whose beginning the state holds: time moves on to it (log entry 2). -/
def timed : Instr → Bool
  | .suspendWindowExpiry .. | .dieReadTimeout .. | .dieOpTimeout .. | .ldpcDecodeTimeout .. | .maintenanceHoldExpiry | .drainInterruptTimeout | .activationTimeout
  | .apstIdleExpiry .. | .dieTimeoutPauseExpiry .. | .replayTimeout .. | .podStatusMissing .. | .stripeIdleClose .. | .writeThroughStripeClose .. | .journalEpochClose
  | .trialAutoConfirm | .shareDrainLimitExpiry .. | .challengeExpiry .. | .stopComputeTimeout .. | .stopXformTimeout .. | .stopControlReadTimeout .. | .stopDrainLimitExpiry ..
  | .fwWatchdogExpiry | .bringupTrialTimeout | .bellowsTestDeadline | .brownoutGraceExpiry | .graceTimeExpiry | .deferredErrorEventTimeout .. | .wayErrorWindowExpiry .. => true
  | _ => false

end Sys2Proof.Machine
end

