-- ==== Sys2Proof/Certificates/Slice0/Obligations.lean ====
section
/-! DEFINITION. The statements about the model, for the provers. -/
open Sys2Proof Sys2Proof.Machine


/-! ## The queue, reset -/

/-- A step takes the command at the front of the queue and runs it on the state with the rest of the queue (the model's form of a block's step; 00); with nothing
waiting it lets 1 µs pass and changes nothing else, which is the model's own (log entry 2). -/
def Obligations.StepRunsTheFrontCommand : Prop :=
  (∀ (c : Instr) (rest : List Instr) (s : State), s.pending = c :: rest → step s = exec c { s with pending := rest }) ∧
  (∀ s : State, s.pending = [] → step s = .next { s with now := s.now + 1 })

/-- After reset the module is in BRING-UP step 0 with the reset values the register tables give (MD_MODE, MD_BRINGUP, MD_VOICING_STATUS, MD_EVENT_SEQ,
MD_EVENT_COUNT, CH_UPKEEP_CONFIG, CH_REBUILD_CONFIG, MC_MAINT_STATUS, ST_STATE, DM_RING_STATUS and DM_PACE.REQUEST), nothing waits and nothing is journalled.
That it is in BRING-UP and not in KEEP is the model's choice (log entry 1). -/
def Obligations.ResetLeavesTheTablesValues : Prop :=
  State.reset.modes.mode = .bringUp ∧ State.reset.modes.step = 0 ∧ State.reset.pending = [] ∧ State.reset.out = [] ∧
  State.reset.readReg 0x10008 = some 0 ∧ State.reset.readReg 0x10040 = some 0 ∧ State.reset.readReg 0x10100 = some 0 ∧ State.reset.readReg 0x10108 = some 0 ∧
  State.reset.readReg 0x40028 = some 0 ∧
  (∀ n : StopId, (State.reset.stop n).state = 0 ∧ State.reset.holder n = none) ∧
  (∀ ch : Nat, (State.reset.chan ch).enable = false ∧ (State.reset.chan ch).request = true ∧ (State.reset.chan ch).runState = 0) ∧
  State.reset.health.retention = 90 ∧ State.reset.health.wearSpread = 5 ∧ State.reset.health.capHours = 2

/-! ## Supply and bellows (16) -/

/-- The input rises through 40.0 V: a flush remembers it, KEEP and a bring-up stopped by a power fail begin at step 1 with only what was sealed in force, SAFE-HOLD loses
its power-fail cause, a serving module notes it. The brownout watch: grants are held and the bellows armed on entry, grants go on after the grace, everything is as
before on exit; the switch puts the bank on the bus and takes it off. -/
def Obligations.InputAndBrownout : Prop :=
  (∀ s : State,
     let u := s.modPw (fun p => { p with inputOk := true })
     (s.modes.flush.isSome = true → exec .inputStartThreshold s = .next (u.modModes (fun m => { m with inputBack := true }))) ∧
     (s.modes.flush = none → (s.modes.mode = .keep ∨ (s.modes.mode = .bringUp ∧ s.modes.stopped = true)) →
       exec .inputStartThreshold s = .next u.startBringup ∧ u.startBringup.modes.mode = .bringUp ∧ u.startBringup.modes.step = 0 ∧ u.startBringup.ctxs = [] ∧
       u.startBringup.live = s.sealed ∧ u.startBringup.sealed = s.sealed ∧ u.startBringup.otp = s.otp ∧ u.startBringup.format = s.format ∧ u.startBringup.now = s.now) ∧
     (s.modes.flush = none → s.modes.mode = .safeHold →
       exec .inputStartThreshold s = .next ((u.modPw (fun p => { p with bankOnBus := p.switchOpen })).causeGone 1)) ∧
     (s.modes.flush = none → (s.active = true ∨ (s.modes.mode = .bringUp ∧ s.modes.stopped = false)) → exec .inputStartThreshold s = .next u)) ∧
  (∀ s : State,
     (s.pw.brownout = false → s.pw.inputOk = true → s.modes.mode ≠ .keep → (∀ f, s.modes.flush = some f → f.onBank = false) →
       let u := s.modPw (fun p => { p with brownout := true, brownoutAt := s.now, charger := false, armed := true, state := if p.state = 0 then 1 else p.state })
       exec .brownoutWatchEntry s = .next (((u.modCache (fun c => { c with grantHold := true })).refreshHeld).report srcPartition 0x0D01 0 0)) ∧
     (s.pw.brownout = true → exec .brownoutGraceExpiry s = .next (((s.notBefore (s.pw.brownoutAt + 1000000)).modCache (fun c => { c with grantHold := false })).refreshHeld)) ∧
     (s.pw.brownout = true →
       let u := s.modPw (fun p => { p with brownout := false, armed := false, state := if p.state = 1 then 0 else p.state })
       exec .brownoutWatchExit s =
         .next ((((u.modPw (fun p => { p with charger := u.chargerMayRun })).modCache (fun c => { c with grantHold := false })).refreshHeld).report srcPartition 0x0D02 0 0)) ∧
     (∀ r : Bool, s.pw.armed = true → s.modes.mode ≠ .keep → exec (.bellowsSwitchConnect r) s = .next (s.modPw (fun p => { p with bankOnBus := !r }))))

/-- A power fail: while serving it starts the flush on the bank, during a flush it is one more cause and the bank feeds the flush, in bring-up the module stops, in SAFE-HOLD
it is one more cause. A completed dump sets the flush-complete flag with the cause and ends the flush, which a clock fault's dump does by staying in SAFE-HOLD; the end
of the bank's energy drops the module into KEEP; the faults that trip the supply are causes. -/
def Obligations.PowerFailsAndSupplyFaults : Prop :=
  (∀ s : State, s.modes.mode ≠ .keep → s.pw.inputOk = true →
     let u := (s.modPw (fun p => { p with inputOk := false, bankOnBus := true, charger := false, brownout := false, state := if p.state ≤ 1 then 2 else p.state })).report srcPartition 0x0D03 0 0
     (s.modes.flush = none → s.active = true → exec .powerFailRecognised s = .next (u.startFlush .power true)) ∧
     (∀ f, s.modes.flush = some f → exec .powerFailRecognised s =
       .next (u.modModes (fun m => { (m.addCause 1) with flush := some { f with onBank := true }, inputBack := false }))) ∧
     (s.modes.flush = none → s.modes.mode = .safeHold → exec .powerFailRecognised s = .next ((u.modModes (Modes.addCause 1)).modPart (fun p => { p with dumped := true }))) ∧
     (s.modes.flush = none → s.modes.mode = .bringUp → ∃ t, exec .powerFailRecognised s = .next t ∧
       t.modes.stopped = true ∧ t.part.coresHeld = true ∧ t.pw.rail = false ∧ t.live = s.live ∧ t.sealed = s.sealed ∧ t.jrn = s.jrn ∧ t.otp = s.otp ∧
       ∀ p : PortId, (t.port p).link = .detect)) ∧
  (∀ s : State,
     (∀ f, s.modes.flush = some f →
       let d := s.each ((List.range 144).filter (fun l => (s.link l).state == 3)) (fun l t => t.dumpWithout l)
       let v := ({ d with vault := d.vault.map (fun (v : Vault) => { v with complete := true }) }.keepWrite (fun k => { k with flushComplete := true, flushCause := f.why.cause })).modModes
         (fun m => { m with flushActive := false })
       v.keep.flushComplete = true ∧ v.keep.flushCause = f.why.cause ∧
       (f.why = .clock → exec .flushDumpComplete s = .next ((v.modModes (fun m => { m with flush := none })).modPart (fun p => { p with dumped := true }))) ∧
       (f.why ≠ .clock → exec .flushDumpComplete s = .next (v.endFlush f))) ∧
     (s.modes.mode ≠ .keep → s.pw.bankOnBus = true → exec .powerStageStop s = .next s.enterKeep ∧ s.enterKeep.modes.mode = .keep ∧ s.enterKeep.live = s.sealed ∧
       s.enterKeep.sealed = s.sealed ∧ s.enterKeep.otp = s.otp ∧ s.enterKeep.format = s.format ∧ s.enterKeep.keep = s.keep) ∧
     (s.modes.mode ≠ .keep → exec .overvoltageTrip s = .next
       (((s.modPw (fun p => { p with switchOpen := true, bankOnBus := true, charger := false, state := 3 })).report srcPartition 0x0D04 0 0).causeArises 3 .overvoltage true true)) ∧
     (∀ f : StageFault, s.modes.mode ≠ .keep → exec (.powerStageFault f) s = .next
       (((s.modPw (fun p => { p with state := 4 })).report srcPartition 0x0D05 (stageNum f) 0).causeArises 4 .stage (!s.below24) false)) ∧
     (s.pw.rail = false → exec .podRailPresenceLost s = .next (s.modPw (fun p => { p with j2Present := false }))) ∧
     (s.pw.rail = true → s.modes.mode ≠ .keep → exec .podRailPresenceLost s = .next
       (((s.modPw (fun p => { p with j2Present := false, state := 4 })).report srcPartition 0x0D05 4 0).causeArises 4 .stage (!s.below24) false)))

/-- The bellows test: it holds the limit and waits for the occupancy, runs after 24 h with the limit held, and leaves the measured capacitance and resistance in KR_BELLOWS; the
health warning stands below 24,000 µF, above 100 mΩ, or where the measurement could not be completed. Samples, the comparators and the mute level (R543 to R556). -/
def Obligations.BellowsTestAndSamples : Prop :=
  (∀ s : State,
     (s.active = true → s.modes.flush = none → s.pw.testLoad = false → s.pw.brownout = false →
       let u := s.modPw (fun p => { p with testDue := true, testing := true, testAt := if p.testing then p.testAt else s.now })
       let v := (u.modCache (fun c => { c with testHold := some (u.limitAt (energyOf u.pw.capUf u.pw.esr 7000)) })).setLimit
       exec .bellowsTest s = .next (if v.occupancyMib ≤ v.cache.limitMib then v.modPw (fun p => { p with charger := false, testLoad := true }) else v)) ∧
     (s.active = true → s.modes.flush = none → s.pw.testing = true → s.pw.testLoad = false → exec .bellowsTestDeadline s =
       .next ((s.notBefore (s.pw.testAt + 86400000000)).modPw (fun p => { p with charger := false, testLoad := true }))) ∧
     (∀ c e ok, s.pw.testLoad = true → ∃ t, exec (.bellowsTestMeasured c e ok) s = .next t ∧
       t.keep = (if ok then { s.keep with capUf := c, esr := e, testTime := s.rtc / 1000 } else s.keep) ∧ t.pw.testLoad = false ∧ t.pw.testing = false ∧
       t.cache.testHold = none ∧ (t.pw.healthLow = true ↔ ok = false ∨ c < 24000 ∨ 100 < e) ∧ t.live = s.live ∧ t.sealed = s.sealed ∧ t.otp = s.otp)) ∧
  (∀ s : State,
     (∀ x : Sample, s.modes.mode ≠ .keep → (s.modes.mode = .bringUp → 1 ≤ s.modes.step) → exec (.sensorSample x) s =
       .next ((((if s.active then (s.takeSample x).reviewMute else s.takeSample x).postTemp s).countThrottle s).shutHot)) ∧
     (∀ z : Fin 7, s.modes.mode ≠ .keep → exec (.thermalComparatorTrip z) s =
       .next ((s.modPw (fun p => { p with hwTrip := true })).setLevel z (s.zone z).temp 3).shutHot) ∧
     (∀ a, s.pw.mute = 2 → s.active = true → s.pw.m2At = some a →
       exec .graceTimeExpiry s = .next ((((s.notBefore (a + 1000 * s.keep.graceMs)).setMute 3).setDuty).countThrottle s)) ∧
     (s.pw.mute = 2 → s.active = true → s.pw.m2At = none → exec .graceTimeExpiry s = .next (((s.setMute 3).setDuty).countThrottle s)) ∧
     exec .m3AdmissionInterval s = .next (s.allPorts (fun p t => t.modPort p (fun x => { x with m3Used := 0 }))))

/-! ## Temperatures, clocks, resets, firmware (03, 16) -/

/-- Clock faults and their retries, the module reset, the latches, the vibration sensor and the keep cell; the firmware watchdog takes only the last value plus 1; its expiry
and the partition's own faults; the partition's restart. -/
def Obligations.ClocksResetsAndWatchdogs : Prop :=
  (∀ s : State,
     (s.modes.mode ≠ .keep → (s.modes.mode = .bringUp → 1 ≤ s.modes.step) → exec (.clockCheckWindow false true false) s = .next (s.healthEvent evRtc 0 0 true) ∧
       exec (.clockCheckWindow false false true) s = .next s.clockFault ∧
       ∀ a b c, ¬(a = false ∧ b = true ∧ c = false) → ¬(a = false ∧ b = false ∧ c = true) → exec (.clockCheckWindow a b c) s = .next s) ∧
     exec .rootPllLossOfLock s = .next s.clockFault ∧
     (∀ a b, s.modes.mode = .safeHold → s.part.clockFault = true → s.part.dumped = false → s.pw.inputOk = true → s.modes.flush = none →
       let u := s.modPart (fun p => { p with pllRetries := p.pllRetries + 1, goodWindows := if a && b then p.goodWindows + 1 else 0 })
       exec (.pllRetry a b) s = .next (if 10 ≤ u.part.goodWindows then u.startFlush .clock false else u)) ∧
     (s.modes.resetHeld = false → s.modes.mode ≠ .keep → s.modes.flush = none →
       (s.modes.mode = .safeHold → exec .moduleResetAssert s = .next (s.modModes (fun m => { m with resetHeld := true }))) ∧
       (s.modes.mode = .bringUp → exec .moduleResetAssert s = .next ((s.podsOff.startBringup).modModes (fun m => { m with resetHeld := true }))) ∧
       (s.active = true → exec .moduleResetAssert s = .next (((s.startFlush .moduleReset false).modModes (fun m => { m with resetHeld := true })).allPorts
         (fun p t => t.modPort p (fun x => { x with cfs := true }))))) ∧
     (s.modes.resetHeld = true → (s.modes.flush = none → exec .moduleResetRelease s = .next s.startBringup) ∧
       (s.modes.flush.isSome = true → exec .moduleResetRelease s = .next (s.modModes (fun m => { m with resetHeld := false })))) ∧
     (∀ a b, let t := s.modMech (fun m => { m with latchModule := a, latchEncl := b })
       exec (.latchChange a b) s = .next (if t.mech.latchOpen = s.mech.latchOpen then t else t.report srcPartition 0x0E0B 0 t.mech.latchOpen.toNat)) ∧
     (∀ mg, let t := s.modMech (fun m => { m with motion := (mg :: m.motion).take 10 })
       exec (.motionWindow mg) s = .next (if 500 ≤ mg then (t.modMech (fun m => { m with movedAt := some (s.now / 1000000) })).report srcPartition 0x0E0C 0 mg else t)) ∧
     (∀ mv, s.modes.mode ≠ .keep → exec (.keepCellCheck mv) s = .next (s.cellCheck mv))) ∧
  (∀ s : State,
     (s.part.wdtRun = true → exec (.fwWatchdogFeed (s.part.wdtLast + 1)) s = .next (s.modPart (fun p => { p with wdtLast := s.part.wdtLast + 1, wdtAt := s.now })) ∧
       ∀ v, v ≠ s.part.wdtLast + 1 → exec (.fwWatchdogFeed v) s = .next s.watchdogExpires) ∧
     (s.part.wdtRun = false → ∀ v, exec (.fwWatchdogFeed v) s = .next s) ∧
     (s.part.wdtRun = true → s.modes.flush = none → exec .fwWatchdogExpiry s = .next ((s.notBefore (s.part.wdtAt + 500000)).watchdogExpires)) ∧
     ((s.part.wdtRun = false ∨ s.modes.flush.isSome = true) → exec .fwWatchdogExpiry s = .next s) ∧
     exec .spWatchdogExpiry s = .next (s.partitionReset false) ∧
     exec .lockstepMismatch s = .next (s.partitionReset true) ∧
     exec .spRestartComplete s = .next s.spRestartComplete)

/-! ## Bring-up (03) -/

/-- Step 2 with the power-on checks: a failed ROM, lockstep or OTP check is SAFE-HOLD cause 0x08, a lockout in the keep domain cause 0x05; otherwise the erases in progress
run again (R590), the bank to boot is chosen (R603), and the charger starts: step 4. Steps 5 to 7: the firmware starts and the ports begin to train (R119); a bundle that
fails ends an update on trial, or is SAFE-HOLD cause 0x08; memory training; the pods' descriptors. -/
def Obligations.PowerOnChecksAndFirmware : Prop :=
  (∀ (s : State) (f : Step2Found), s.modes.mode = .bringUp → s.atStep 0 = true → s.pw.inputOk = true →
     let u := s.modPart (fun p => { p with romOk := f.romOk, lockstepOk := f.lockstepOk, otpOk := f.otpOk, strap := f.ppStrap })
     let v := (u.stepTwo f).setStep 2
     (¬(f.romOk = true ∧ f.lockstepOk = true ∧ f.otpOk = true) → exec (.rootPllLock f) s = .next (u.enterSafe 8)) ∧
     (f.romOk = true → f.lockstepOk = true → f.otpOk = true →
       (v.keep.lockout = true → exec (.rootPllLock f) s = .next (v.enterSafe 5)) ∧
       (v.keep.lockout = false → exec (.rootPllLock f) s = .next
         (let w := (v.each [0, 1] (fun b t => t.reErase b (f.tallyHeaderBad.contains b))).chooseBank
         ((w.modPw (fun p => { p with charger := true })).modModes (fun m => { m with trialStart := w.now })).setStep 4)))) ∧
  (∀ s : State,
     (s.atStep 4 = true →
       exec (.firmwareBundleStart true) s = .next (((s.modPart (fun p => { p with coresHeld := false, wdtRun := true, wdtLast := 0, wdtAt := s.now })).allPorts (fun p t => t.modPort p (fun x =>
         if x.perst || x.link != .detect then x
         else { x with link := .training, common := (t.vport p).clocking == .common, measuring := (t.vport p).clocking == .automatic }))).setStep 5) ∧
       exec (.firmwareBundleStart false) s = .next (if s.keep.stage = 3 ∨ s.keep.stage = 4 then s.restartAtFive else s.enterSafe 8)) ∧
     (s.atStep 5 = true → exec .memoryTrainingComplete s = .next (s.setStep 6)) ∧
     (∀ pods, s.atStep 6 = true → exec (.podDescriptorRead pods) s = .next
       ((pods.foldl (fun (t : State) (x : LinkId × PodDesc) =>
         if descOk x.2 then t.modPod x.1 (fun p => { p with present := true, desc := some x.2 })
         else (t.modPod x.1 (fun p => { p with present := true, refused := true })).report (srcAggregator x.1) (evUnnamed 7 3) x.1 0)
         { s with pods := s.pods.map (fun (e : Nat × Pod) => (e.1, { e.2 with present := false, desc := none })) }).setStep 7)))

/-- Step 8: the slots are tried in R62's order and the first that passes is loaded, a pending one becoming active; none leaves the factory image with fenced media, or SAFE-HOLD
cause 0x07. Steps 9 and 10: the pods are powered in eight waves of the slots whose number is the wave's modulo 8 and their links begin to train; a lane's training fixes
its rate, falls back one version, or leaves the link dead (R438, R541). -/
def Obligations.VoicingAndPodPower : Prop :=
  (∀ s : State, s.atStep 7 = true → ∃ t, exec .voicingLoad s = .next t ∧
     (∀ n src, s.slotOrder.find? (fun x => s.loadCheck x == 0) = some (n, src) →
       t.modes.step = 8 ∧ t.flash.loaded = n ∧ t.flash.source = src ∧ t.flash.vstate = 1 ∧
       (src = 0 → t.keep.active = n ∧ t.keep.pendingValid = false ∧ t.keep.formatIntent = false)) ∧
     (s.slotOrder.find? (fun x => s.loadCheck x == 0) = none → s.checkSlot 0 = 0 → t.modes.step = 8 ∧ t.flash.loaded = 0 ∧ t.flash.source = 3 ∧ t.modes.fenced = true) ∧
     (s.slotOrder.find? (fun x => s.loadCheck x == 0) = none → s.checkSlot 0 ≠ 0 → t.modes.mode = .safeHold ∧ t.modes.safeCause = 7)) ∧
  (∀ s : State,
     (s.atStep 8 = true → s.pw.j2Present = false → s.pw.rail = false → exec .podPowerWave s = .next (s.enterSafe 4)) ∧
     (s.atStep 8 = true → (s.pw.j2Present = true ∨ s.pw.rail = true) →
       let u := s.modPw (fun p => { p with rail := true })
       let v := (u.each ((List.range 144).filter (fun l => l % 8 == u.modes.wave && u.toPower l)) (fun l t =>
         ((t.emit (.bay l true)).modPod l (fun p => { p with powered := true, role := if t.image.geometry.spares.contains l then 2 else 1 })).modLink l (fun x =>
           { onSpare := x.onSpare, state := 1, trying := if (t.desc l).protocolMax = 1 then 2 else 3 }))).modModes (fun m => { m with wave := m.wave + 1 })
       exec .podPowerWave s = .next (if 8 ≤ v.modes.wave then v.setStep 9 else v)) ∧
     (∀ l : LinkId, (s.link l).state = 1 → (s.link l).rate = 0 →
       exec (.laneTrainingComplete l true) s = .next (s.modLink l (fun x => { x with rate := x.trying })) ∧
       (2 ≤ (s.link l).trying → exec (.laneTrainingComplete l false) s = .next (s.modLink l (fun x => { x with trying := x.trying - 1 }))) ∧
       ((s.link l).trying < 2 → exec (.laneTrainingComplete l false) s = .next (s.linkDead l))))

/-- Steps 11 to 13: recovery by the class of the last shutdown (R85, R652; with fenced media only the instances), the final round of samples with the stops that
are held, each loaded with its binding's image or, where that fails its check, fenced with cause 4 (R91, R497), and service; the end of a trial's 120 s (R604). -/
def Obligations.RecoveryAndServiceEntry : Prop :=
  ∀ s : State,
    (∀ f, s.atStep 9 = true →
      (s.modes.fenced = true → exec (.mapRecovery f) s = .next ((s.restoreInsts s.jrn.defLogs).setStep 11)) ∧
      (s.modes.fenced = false →
        let u := s.modModes (fun m => { m with lastShutdown := s.shutdownClass f })
        exec (.mapRecovery f) s = .next (((if s.shutdownClass f = 0 then u.firstFormat f else u).recover (s.shutdownClass f) f).setStep 11))) ∧
    (∀ x bad, s.atStep 11 = true →
      ((List.range 7).any (fun z => decide (3 ≤ ((s.takeSample x).zone z).level)) = true → exec (.bringupFinalRound x bad) s = .next ((s.takeSample x).enterSafe 2)) ∧
      ((List.range 7).any (fun z => decide (3 ≤ ((s.takeSample x).zone z).level)) = false →
        let t := (s.takeSample x).reviewMute.setDegrade dgBackup (s.takeSample x).reviewMute.keep.backupWarn
        exec (.bringupFinalRound x bad) s = .next ((t.each (stopNos.filter (fun n => (t.holder n).isSome && !t.modes.fenced)) (fun n t =>
          t.bringStop (bad.any (fun b => b.val == n)) n)).setStep 12))) ∧
    (∀ n : StopId,
      (((s.bringStop true n).stop n).state = 4 ∧ ((s.bringStop true n).stop n).image = none ∧ ((s.bringStop true n).stop n).fenceCause = 4 ∧ (s.bringStop true n).live = s.live) ∧
      ((s.binding n).image = none → s.bringStop false n = s) ∧
      (∀ i, (s.binding n).image = some i → (s.store.find n).isSome = true →
        s.bringStop false n = ({ s with store := s.store.set n i }.startEpoch n .bringUp none).endDrain n)) ∧
    (s.atStep 12 = true → ∃ t, exec .bringupComplete s = .next t ∧ t.modes.served = true ∧
      (t.modes.mode = .service ∨ t.modes.mode = .degraded)) ∧
    (s.modes.mode = .bringUp → 4 ≤ s.modes.step → s.modes.step < 13 → s.keep.stage = 3 → s.modes.stopped = false → exec .bringupTrialTimeout s = .next (s.notBefore (s.modes.trialStart + 120000000)).restartAtFive)

/-! ## Host ports (04) -/

/-- What every reset of a controller does (R122, R176, R198, R254): the port's admin commands end without a completion, its instances are reset, its lends end, its admin queues
and every register and feature but the saved ones return to their reset values. -/
def Obligations.ControllerResetEndsThePortsWork : Prop :=
  ∀ (s : State) (p : PortId) (cfg : Bool),
    (∀ c ∈ (s.ctlReset p cfg).ctxs, ¬(c.admin = true ∧ c.mi = false ∧ c.port = p.val) ∧ ¬(c.mi = true ∧ c.admin = true ∧ p.val = 0)) ∧ (s.ctlReset p cfg).lendsOf p = [] ∧
    ((s.ctlReset p cfg).inst (instKey p 0)).sqs = [] ∧ ((s.ctlReset p cfg).inst (instKey p 0)).cqs = [] ∧
    ((s.ctlReset p cfg).port p).ccEn = false ∧ ((s.ctlReset p cfg).port p).rdy = false ∧ ((s.ctlReset p cfg).port p).shst = 0 ∧ ((s.ctlReset p cfg).port p).aers = [] ∧
    ((s.ctlReset p cfg).port p).held = [] ∧ ((s.ctlReset p cfg).port p).cfs = (s.modes.mode == .safeHold || s.modes.resetHeld) ∧ ((s.ctlReset p cfg).port p).saved = (s.port p).saved ∧
    (cfg = true → ((s.ctlReset p cfg).port p).msixEn = false ∧ ((s.ctlReset p cfg).port p).pasidEn = false ∧ ((s.ctlReset p cfg).port p).d3hot = false)

/-- The resets a link or the host makes, each in full, and what each leaves of the link (R118, R122, R226). Training: PERST# released begins it with the clocking the image gives;
automatic mode measures the reference clock and takes common mode within 300 ppm (R119); configuration space answers; a trained link is at L0 (out of Recovery with what
it withheld posted), and one below the
image's speed or width is reported. -/
def Obligations.LinkEventsAndTraining : Prop :=
  (∀ (s : State) (p : PortId),
     exec (.perstAssert p) s = .next ((s.ctlReset p true).modPort p (fun t => { t with perst := true, link := .detect, speed := 0, width := 0, cfgReady := false, measuring := false })) ∧
     ((s.port p).perst = false → exec (.hotReset p) s = .next ((s.ctlReset p true).modPort p (fun t => { t with link := .training, speed := 0, width := 0 }))) ∧
     (∀ d, (s.port p).link = .l0 ∨ (s.port p).link = .recovery →
       exec (.linkDown p d) s = .next ((s.ctlReset p true).modPort p (fun t => { t with link := if d then .disabled else .detect, speed := 0, width := 0 }))) ∧
     exec (.functionLevelReset p) s = .next (s.ctlReset p true) ∧
     ((s.port p).cfgReady = false → (s.port p).perst = false → exec (.pasidEnableClear p) s = .next (s.emit (.cfgRetry p))) ∧
     ((s.port p).cfgReady = true → (s.port p).pasidEn = true → let u := s.modPort p (fun t => { t with pasidEn := false })
       exec (.pasidEnableClear p) s = .next (u.each ((u.liveKeys p).filter (fun k => k % 128 != 0 && (!(u.inst k).sqs.isEmpty || !(u.inst k).cqs.isEmpty))) (fun k t => t.isolate k 4)))) ∧
  (∀ (s : State) (p : PortId),
     ((s.port p).perst = true → ∃ t, exec (.perstDeassert p) s = .next t ∧ (∀ q ≠ p.val, t.port q = s.port q) ∧ t.port p = { s.port p with
       perst := false, link := .training, common := (s.vport p).clocking == .common, measuring := (s.vport p).clocking == .automatic }) ∧
     (∀ x : Int, (s.port p).measuring = true → ∃ t, exec (.refclkMeasureComplete p (some x)) s = .next t ∧ (∀ q ≠ p.val, t.port q = s.port q) ∧
       t.port p = { s.port p with measuring := false, common := decide (-300 ≤ x ∧ x ≤ 300) }) ∧
     ((s.port p).measuring = true → ∃ t, exec (.refclkMeasureComplete p none) s = .next t ∧ t.port p = { s.port p with measuring := false, common := false }) ∧
     ((s.port p).perst = false → ∃ t, exec (.configSpaceReady p) s = .next t ∧ t.port p = { s.port p with cfgReady := true } ∧ ∀ q ≠ p.val, t.port q = s.port q) ∧
     (∀ gen width, (s.port p).perst = false → (s.vport p).enable = true → linkWidths.contains width = true → 4 ≤ gen → gen ≤ (s.vport p).maxSpeed → width ≤ (s.vport p).maxWidth →
       let u := s.modPort p (fun t => { t with link := .l0, speed := gen, width := width })
       let v := if (s.port p).link = .recovery then (u.release p).sendPending p else u
       (gen = (s.vport p).maxSpeed → width = (s.vport p).maxWidth → (s.port p).speed = 0 → exec (.pcieLinkTrained p gen width) s = .next v) ∧
       (gen < (s.vport p).maxSpeed ∨ width < (s.vport p).maxWidth →
         exec (.pcieLinkTrained p gen width) s = .next (v.report (srcSequencer p) (evUnnamed 2 2) p (gen * 256 + width)))))

/-- Recovery and D3hot: entry, and the return with what was withheld posted in its order (R118, R124); MSI-X messages whose mask goes are sent (R134). -/
def Obligations.WithheldMessagesFollowTheReturn : Prop :=
  ∀ (s : State) (p : PortId),
    ((s.port p).link = .l0 → ∃ t, exec (.linkRecoveryEntry p) s = .next t ∧ t.port p = { s.port p with link := .recovery } ∧ (∀ q ≠ p.val, t.port q = s.port q) ∧ t.out = s.out) ∧
    ((s.port p).link = .recovery → exec (.linkReturnToL0 p) s = .next (((s.modPort p (fun t => { t with link := .l0 })).release p).sendPending p)) ∧
    ((s.port p).cfgReady = true → ∃ t, exec (.d3hotEntry p) s = .next t ∧ t.port p = { s.port p with d3hot := true } ∧ (∀ q ≠ p.val, t.port q = s.port q) ∧ t.out = s.out) ∧
    ((s.port p).d3hot = true → exec (.d0Return p) s = .next (((s.modPort p (fun t => { t with d3hot := false })).release p).sendPending p)) ∧
    ((s.port p).cfgReady = false → (s.port p).perst = false →
      exec (.msixVectorUnmask p .enable) s = .next (s.emit (.cfgRetry p)) ∧ exec (.msixVectorUnmask p .function) s = .next (s.emit (.cfgRetry p))) ∧
    ((s.port p).cfgReady = true → exec (.msixVectorUnmask p .enable) s = .next ((s.modPort p (fun t => { t with msixEn := true })).sendPending p) ∧
      exec (.msixVectorUnmask p .function) s = .next ((s.modPort p (fun t => { t with fmask := false })).sendPending p)) ∧
    (∀ v : Nat, v < 2048 → exec (.msixVectorUnmask p (.vector v)) s =
      .next ((s.modPort p (fun t => { t with msix := t.msix.set v { t.msix.get {} v with masked := false } })).sendPending p))

/-- CC.EN and the shutdown notification: a command set other than NVM is CFS (R135); the admin queues are created and the controller is ready once the module serves;
CC.EN cleared is a controller reset without the configuration space; shutdown is noted, and is complete when nothing of the port is unprogrammed, with a clean
record when every port is quiet (R86). -/
def Obligations.EnableAndShutdown : Prop :=
  ∀ (s : State) (p : PortId),
    (∀ css a b q r, (s.port p).reachable = true → (s.port p).ccEn = false →
      let u := s.modPort p (fun t => { t with
        ccEn := true, everEn := true, css := css % 8, iosqes := a % 16, iocqes := b % 16, asqs := q % 4096, acqs := r % 4096 })
      (css ≠ 0 → exec (.ccEnSet p css a b q r) s = .next (u.modPort p (fun t => { t with cfs := true }))) ∧
      (css = 0 → exec (.ccEnSet p css a b q r) s =
        .next (((u.adminQueues p q r).modPort p (fun t => { t with rdy := s.active && !s.hostFenced })).reviewPs))) ∧
    ((s.port p).reachable = true → (s.port p).ccEn = true → exec (.ccEnClear p) s = .next (s.ctlReset p false)) ∧
    ((s.port p).reachable = true → (s.port p).rdy = true → (s.port p).shst = 0 → exec (.shutdownNotification p) s = .next ((s.modPort p (fun t => { t with shst := 1 })).reviewPs)) ∧
    ((s.port p).shst = 1 → s.hostFenced = false → (∀ m ∈ s.unprogrammed (s.live.nss.map (fun e => e.1)), (s.codeword m).writer ≠ p.val + 1) →
      let t := s.modPort p (fun t => { t with shst := 2 })
      ((List.range 8).all t.portQuiet = false → exec (.shutdownComplete p) s = .next t) ∧
      ((List.range 8).all t.portQuiet = true → (∀ x ∈ s.cache.stripes, x.used = []) → exec (.shutdownComplete p) s = .next (t.sealNow.writeRoot.modJrn (fun j => { j with cleanRec := true }))))

/-! ## Doorbells, fetch, admission (04, 05, 06) -/

/-- While a port is not ready every doorbell write on it is discarded and changes nothing (R660). A doorbell to a page that has no instance counts against the port and
never against an instance: no violation, no isolation, the event at most once a second, the second's count in the event journal (R195). -/
def Obligations.StrayDoorbellsCountAgainstThePort : Prop :=
  (∀ (s : State) (p : PortId) (w : DoorbellAt) (a : Bool) (v : Nat), (s.port p).rdy = false →
    exec (.sqTailDoorbell p w a v) s = .next s ∧ exec (.cqHeadDoorbell p w a v) s = .next s) ∧
  (∀ (s : State) (p : PortId) (w : DoorbellAt) (a : Bool) (v : Nat), (s.port p).rdy = true → (s.port p).cfs = false → s.hostFenced = false →
    ((s.vport p).instances ≤ (doorbellTarget w).1 ∨ (s.inst (instKey p (doorbellTarget w).1)).state = .free) →
    ∃ t, (tailDoorbell w = true → exec (.sqTailDoorbell p w a v) s = .next t) ∧ (tailDoorbell w = false → exec (.cqHeadDoorbell p w a v) s = .next t) ∧ (t.port p).stray = sat64 ((s.port p).stray + 1) ∧
      (t.port p).straySent = true ∧
      ((s.port p).straySent = true → t = s.modPort p (fun x => { x with stray := sat64 (x.stray + 1), straySec := x.straySec + 1, straySent := true })) ∧
      ((s.port p).straySent = false → t = (s.modPort p (fun x => { x with stray := sat64 (x.stray + 1), straySec := x.straySec + 1, straySent := true })).postEvent p ⟨0, 0, 1⟩) ∧
      (∀ k, (t.inst k).state = (s.inst k).state ∧ (t.inst k).violWindow = (s.inst k).violWindow ∧ (k ≠ instKey p 0 → t.inst k = s.inst k)) ∧
      ((∀ q : PortId, q ≠ p → (t.port q).straySec = 0) → ∃ u, exec .hostViolWindowRoll t = .next u ∧ (u.port p).straySec = 0 ∧ (u.port p).straySent = false ∧
        (u.port p).stray = (t.port p).stray ∧ u.ev = (t.report (srcSequencer p) (evUnnamed 2 1) p (t.port p).straySec).ev))

/-- A good doorbell moves its tail or its head; one with a value beyond the queue, to a queue that does not exist or not as one aligned dword is a violation (R192), and to an
isolated instance nothing (R193). A queue that may be fetched from and whose turn it is (the admin queue first,
else the queue with the oldest doorbell write not yet served) has up to eight of its entries fetched, in order, and goes behind the others (R146). -/
def Obligations.DoorbellsAndFetch : Prop :=
  (∀ (s : State) (p : PortId) (w : DoorbellAt) (q v : Nat), (s.port p).rdy = true → (s.port p).cfs = false → s.hostFenced = false →
     (doorbellTarget w).1 < (s.vport p).instances →
     let k := instKey p (doorbellTarget w).1
     (s.inst k).state = .active → (doorbellTarget w).2 = some q → w.off % 4 = 0 →
     (∀ x, tailDoorbell w = true → (s.inst k).sqs.find q = some x →
       (v < x.size → ∃ t, exec (.sqTailDoorbell p w true v) s = .next t ∧ ((t.inst k).sqs.get {} q).tail = v ∧ ((t.inst k).sqs.get {} q).head = x.head ∧
         ((t.inst k).sqs.get {} q).bell = (if v = x.head then 0 else if x.bell = 0 then s.bells + 1 else x.bell) ∧
         (∀ j ≠ q, (t.inst k).sqs.find j = (s.inst k).sqs.find j) ∧ (t.inst k).cqs = (s.inst k).cqs ∧ (∀ j ≠ k, t.inst j = s.inst j) ∧ t.ctxs = s.ctxs ∧ t.out = s.out) ∧
       (x.size ≤ v → exec (.sqTailDoorbell p w true v) s = .next (s.badDoorbell p (k % 128) (k % 128 == 0 && q == 0) (some evBadValue))) ∧
       exec (.sqTailDoorbell p w false v) s = .next (s.badDoorbell p (doorbellTarget w).1 ((doorbellTarget w).1 == 0 && q == 0) none)) ∧
     (∀ x, tailDoorbell w = false → (s.inst k).cqs.find q = some x →
       (v < x.size → (v + x.size - x.head) % x.size ≤ (x.tail + x.size - x.head) % x.size → exec (.cqHeadDoorbell p w true v) s =
         .next (((s.modInst k (fun i => { i with cqs := i.cqs.set q { x with head := v } })).releaseHeld k q x.held.length).settleDeletes)) ∧
       (x.size ≤ v → exec (.cqHeadDoorbell p w true v) s = .next (s.badDoorbell p (k % 128) (k % 128 == 0 && q == 0) (some evBadValue)))) ∧
     (tailDoorbell w = true → (s.inst k).sqs.find q = none → exec (.sqTailDoorbell p w true v) s =
       .next (s.badDoorbell p (doorbellTarget w).1 ((doorbellTarget w).1 == 0 && q == 0) (some evBadRegister)))) ∧
  (∀ (s : State) (p : PortId) (n : LocalId) (qid : Nat) (es : List Sqe),
     let k := instKey p n
     let admin := n.val == 0 && qid == 0
     s.fetchHeld p admin = false → (∃ x, (s.inst k).sqs.find qid = some x ∧ x.failed = false ∧ x.tail ≠ x.head ∧ ((s.inst k).cqs.get {} x.cq).full = false ∧ ((s.inst k).cqs.get {} x.cq).held = []) →
     (admin = true ∨ ((s.inst k).state = .active ∧ s.capHeld k = false ∧ s.m3Held p = false ∧ (s.slotFor k).isSome = true ∧ s.visits (instKey p 0) 0 = false ∧
       ∀ e ∈ s.insts, e.1 / 128 = p.val → ∀ y ∈ e.2.sqs, (e.1 = k ∧ y.1 = qid) ∨ ((s.inst k).sqs.get {} qid).bell ≤ y.2.bell ∨ s.visits e.1 y.1 = false)) →
     let u := (es.take 8).foldl (fun t e => t.fetchOne p n qid e) s
     ∃ t, exec (.sqEntryFetch p n qid es) s = .next t ∧ t.ctxs = u.ctxs ∧ t.out = u.out ∧ t.bells = u.bells + 1 ∧
       (t.inst k).sqs.find qid = ((u.inst k).sqs.find qid).map (fun y => { y with bell := if y.head = y.tail then 0 else u.bells + 1 }) ∧ t.live = u.live)

/-- A DMA that fails: a data transfer ends its command with Data Transfer Error, an admin command's in the error log and an I/O command's as a violation; a fetch stops
its queue and a completion write retires its queue: on an admin queue only recorded, otherwise the instance is isolated (R192, R193). -/
def Obligations.FailedHostDma : Prop :=
  ∀ (s : State) (p : PortId) (f : DmaFault),
    (∀ id c, s.ctx id = some c → c.port = p.val → c.phase ≠ .posted →
      (c.admin = true → exec (.hostDmaFailure p (.data id) f) s = .next ((s.logError p c.qid c.sqe.cid c.sqe.nsid stDataTransfer).complete id stDataTransfer 0)) ∧
      (c.admin = false → exec (.hostDmaFailure p (.data id) f) s = .next ((s.endCaught id stDataTransfer).violation c.key))) ∧
    (∀ (n : LocalId) qid x, (s.inst (instKey p n)).sqs.find qid = some x →
      let u := s.modInst (instKey p n) (fun i => { i with sqs := i.sqs.set qid { x with failed := true } })
      exec (.hostDmaFailure p (.fetch n qid) f) s = .next (if n.val = 0 ∧ qid = 0 then u.logError p 0 0xFFFF 0 stDataTransfer else u.isolate (instKey p n) 2)) ∧
    (∀ (n : LocalId) cq x, (s.inst (instKey p n)).cqs.find cq = some x →
      let u := (s.dropHeld x.held).modInst (instKey p n) (fun i => { i with cqs := i.cqs.set cq { x with size := 0, held := [] } })
      exec (.hostDmaFailure p (.completion n cq) f) s = .next (if n.val = 0 ∧ cq = 0 then u.logError p 0 0xFFFF 0 stDataTransfer else u.isolate (instKey p n) 3))

/-- The rounds and windows of the sequencer: an admission round (R209, R210), the allowances of capped instances (R211), the violation window (R195, R227) and the
event of undelivered deferred errors (R184). -/
def Obligations.SequencerRoundsAndWindows : Prop :=
  ∀ s : State,
    (∀ q : QuadId, (∀ k ∈ s.quadInsts q, s.waitingAt k = [] ∧ (s.inst k).deficit = 0) → ∃ t, exec (.admissionRound q) s = .next t ∧ t.ctxs = s.ctxs ∧ t.out = s.out ∧ ∀ k, t.inst k = s.inst k) ∧
    (∀ (q : QuadId) k c rest, s.quadInsts q = [k] → s.waitingAt k = c :: rest → s.capCovers c = true →
      let tok := (s.dinst k).share.tokens
      (tok = 0 → exec (.admissionRound q) s = .next (s.admitCmd c)) ∧
      (0 < tok → c.cost ≤ min ((s.inst k).deficit + 16 * tok) (16 * tok + 512) → ∃ t y, exec (.admissionRound q) s = .next t ∧ t.ctx c.id = some y ∧ y.phase = .ready)) ∧
    (∀ q, exec (.capAllowanceInterval q) s = .next (s.each ((s.quadInsts q).filter (fun k => decide (0 < (s.dinst k).share.tokenCap))) (fun k t =>
      let g := (t.dinst k).share.tokenCap * quadUnitsPerMs
      let u := t.modInst k (fun i => { i with allowance := i.allowance + g })
      let next := match u.waitingAt k with
        | c :: _ => c.cost * 2048
        | [] => 0
      u.modInst k (fun i => { i with allowance := min i.allowance ((u.dinst k).share.tokenCap * quadUnitsPerMs + next) })))) ∧
    (∃ t, exec .hostViolWindowRoll s = .next t ∧ (∀ p : PortId, (t.port p).straySec = 0 ∧ (t.port p).straySent = false) ∧ (∀ k, (t.inst k).violWindow = 0) ∧
      t.ctxs = s.ctxs ∧ t.live = s.live ∧ t.out = s.out) ∧
    (∀ p : PortId, s.undelivered p = true → (s.port p).posted.e0 = false → ∃ t, exec (.deferredErrorEventTimeout p) s = .next t ∧ (t.port p).posted.e0 = true)

/-! ## Admin commands: completion, queues (04, 05) -/

/-- A completion of an admin command (R150, R152): with its port's admin queue open its entry is the next thing that leaves the module, to its place in the queue, with
that status and those dwords and no PASID, and its context is free; the journal, the fuses, the keep domain and the cache are untouched, and no other instance changes. -/
def Obligations.AdminCompletionAnswersTheHost : Prop :=
  ∀ (s : State) (id : Nat) (x : Ctx) (st : Status) (d : W32), s.ctx id = some x → x.admin = true → x.mi = false → x.mover = none → x.phase ≠ .posted → x.owes = [] →
    (s.finish id st d).live = s.live ∧ (s.finish id st d).sealed = s.sealed ∧ (s.finish id st d).jrn = s.jrn ∧
    (s.finish id st d).cache = s.cache ∧ (s.finish id st d).otp = s.otp ∧ (s.finish id st d).keep = s.keep ∧ (∀ k, k ≠ x.key → (s.finish id st d).inst k = s.inst k) ∧
    (x.inst = 0 → AdminQueueOpen s x.port → (s.finish id st d).ctx id = none ∧
      [Out.cqe x.port 0 0 x.qid x.sqe.cid st d x.dw1 (((s.inst (instKey x.port 0)).cqs.get {} 0).base.toNat + 16 * ((s.inst (instKey x.port 0)).cqs.get {} 0).tail)
        { pasid := none, relaxed := false }] <+: ((s.finish id st d).out.drop s.out.length) ∧ s.out <+: (s.finish id st d).out)

/-- Create and Delete of I/O queues of instance 0: what is refused completes with its status and changes no queue (R127, R203); what is accepted adds or removes
exactly that queue; a Delete I/O Submission Queue waits for its queue's commands (R179). -/
def Obligations.QueueCommandsMakeAndDeleteQueues : Prop :=
  ∀ (s : State) (c : Nat) (x : Ctx),
    let k := instKey x.port 0
    let q := x.sqe
    let qid := bits q.cdw10 15 0
    (AdminReady s c 0x05 x → exec (.createIoCq c) s = .next (match s.queueRefused k q ((s.inst k).cqs.find qid).isSome (s.ioCount k (s.inst k).cqs) with
      | some st => s.complete c st 0
      | none =>
        if bits q.cdw11 15 2 ≠ 0 then s.complete c stInvalidField 0
        else if q.cdw11.getLsbD 1 = true ∧ (s.dinst k).share.vectors ≤ bits q.cdw11 31 16 then s.complete c (stSpecific 0x08) 0
        else (s.modInst k (fun i => { i with cqs := i.cqs.set qid { size := bits q.cdw10 31 16 + 1, base := q.prp1, vector := if q.cdw11.getLsbD 1 then some (bits q.cdw11 31 16) else none } })).complete c .success 0)) ∧
    (AdminReady s c 0x01 x → exec (.createIoSq c) s = .next (match s.queueRefused k q ((s.inst k).sqs.find qid).isSome (s.ioCount k (s.inst k).sqs) with
      | some st => s.complete c st 0
      | none =>
        if bits q.cdw11 15 3 ≠ 0 then s.complete c stInvalidField 0
        else if bits q.cdw11 31 16 = 0 ∨ ((s.inst k).cqs.find (bits q.cdw11 31 16)).isNone = true then s.complete c (stSpecific 0x00) 0
        else (s.modInst k (fun i => { i with sqs := i.sqs.set qid { size := bits q.cdw10 31 16 + 1, base := q.prp1, cq := bits q.cdw11 31 16 } })).complete c .success 0)) ∧
    (AdminReady s c 0x04 x → exec (.deleteIoCq c) s = .next (
      if qid = 0 ∨ ((s.inst k).cqs.find qid).isNone = true then s.complete c (stSpecific 0x01) 0
      else if (s.inst k).sqs.any (fun e => e.2.cq == qid) then s.complete c (stSpecific 0x0C) 0
      else (s.modInst k (fun i => { i with cqs := i.cqs.erase qid })).complete c .success 0)) ∧
    (AdminReady s c 0x00 x → exec (.deleteIoSq c) s = .next (
      if qid = 0 ∨ ((s.inst k).sqs.find qid).isNone = true then s.complete c (stSpecific 0x01) 0
      else
        let u := (s.modInst k (fun i => { i with sqs := i.sqs.set qid { i.sqs.get {} qid with failed := true } })).modCtx c (fun y => { y with phase := .drain, stopNo := k % 128, stopTag := qid })
        ((u.each ((u.ctxs.filter (fun y => !y.admin && y.key == k && y.qid == qid && y.mover.isNone && u.catchable y)).map (·.id)) (fun i t => t.endCaught i stSqDeleted)).retry).settleDeletes))

/-! ## Log pages (05, 19) -/

/-- The pages that reading does not change are each sent as they stand, cut to the bytes asked for, and the command completes; the standard pages' layouts are the model's
(log entries 60, 61). The pages a read with RAE cleared changes: the event may be posted again, the warnings returned leave 0xE3, the changes counted leave 0xEA (R654), the
entries returned leave 0xE0 (R187). With RAE set nothing of them changes. -/
def Obligations.LogPagesAreSent : Prop :=
  (∀ (s : State) (c : Nat) (x : Ctx), AdminReady s c 0x02 x →
     let send := fun (l : Layout) => (.next (((s.toHost x (logPart x.sqe l)).drew).complete c .success 0) : Host.Outcome State Fault Refusal)
     let lid := bits x.sqe.cdw10 7 0
     (lid = 0x01 → exec (.getLogErrorInfo c) s = send (s.pageError (instKey x.port 0))) ∧
     (lid = 0x02 → exec (.getLogSmart c) s = send (s.pageSmart x.port)) ∧
     (lid = 0x03 → exec (.getLogFwSlot c) s = send s.pageFwSlot) ∧
     (lid = 0x05 → exec (.getLogCommandsEffects c) s = send s.pageEffects) ∧
     (lid = 0x06 → exec (.getLogSelfTest c) s = send s.pageSelfTest) ∧
     (lid = 0xE6 → exec (.getLogUpdateState c) s = send s.pageUpdate) ∧
     (lid = 0xE9 → exec (.getLogSpareReserves c) s = send (s.spares.page.getD s.sparePage)) ∧
     (lid = 0xE7 → lsi x.sqe < 144 → exec (.getLogDieStatistics c) s = send (s.pageDies (lsi x.sqe))) ∧
     (lid = 0xE7 → 144 ≤ lsi x.sqe → exec (.getLogDieStatistics c) s = .next (s.complete c stInvalidField 0)) ∧
     (lid = 0xE1 → lsi x.sqe < (s.vport x.port).instances → exec (.getLogInstanceCounters c) s = send (s.inst (instKey x.port (lsi x.sqe))).counters.layout) ∧
     (lid = 0xE2 → lsi x.sqe < (s.vport x.port).instances → exec (.getLogLatencyHistograms c) s = send (s.inst (instKey x.port (lsi x.sqe))).histLayout) ∧
     ((lid = 0xE1 → (s.vport x.port).instances ≤ lsi x.sqe → exec (.getLogInstanceCounters c) s = .next (s.complete c stInvalidField 0)) ∧
      (lid = 0xE2 → (s.vport x.port).instances ≤ lsi x.sqe → exec (.getLogLatencyHistograms c) s = .next (s.complete c stInvalidField 0))) ∧
     (lid = 0xE8 → exec (.getLogEventJournal c) s = (if lsi x.sqe < 2
       then .next ((s.toHost x ((s.pageEvents (lsi x.sqe == 1) (logOffset x.sqe) (logBytes x.sqe)).window 0 (logBytes x.sqe))).complete c .success 0)
       else .next (s.complete c stInvalidField 0)))) ∧
  (∀ (s : State) (c : Nat) (x : Ctx), AdminReady s c 0x02 x →
     let send := fun (u : State) (l : Layout) => (.next (((u.toHost x (logPart x.sqe l)).drew).complete c .success 0) : Host.Outcome State Fault Refusal)
     let lid := bits x.sqe.cdw10 7 0
     let read := fun (u : State) => u.modPort x.port (fun t => { t with posted := t.posted.set lid false })
     (lid = 0xE4 → exec (.getLogStops c) s = send (if rae x.sqe then s else read s) (s.pageStops x.port)) ∧
     (lid = 0xE5 → exec (.getLogPowerThermal c) s = send (if rae x.sqe then s else read s) s.pagePower) ∧
     (lid = 0xE3 → exec (.getLogMediaHealth c) s = send (if rae x.sqe then s else read (s.modHealth (fun h => { h with warnings := h.warnings.drop 32 }))) s.pageHealth) ∧
     (lid = 0xEA → exec (.getLogModuleState c) s =
       send (if rae x.sqe then s else read (s.modPort x.port (fun t => { t with degSet := 0, degCleared := 0, newIso := 0 }))) (s.pageModule x.port)) ∧
     (lid = 0xE0 → lsi x.sqe < (s.vport x.port).instances → exec (.getLogDeferredErrors c) s = .next (s.readDeferred c x.port (instKey x.port (lsi x.sqe)) x.sqe)) ∧
     (lid = 0xE0 → (s.vport x.port).instances ≤ lsi x.sqe → exec (.getLogDeferredErrors c) s = .next (s.complete c stInvalidField 0)))

/-- Identify answers each CNS with its structure, or the status its table gives (R657); the standard structures' layouts are the model's (log entry 59). Get Features answers the
value selected in DW0, and the APST table and the Timestamp as data as well; it changes nothing. -/
def Obligations.IdentifyAndGetFeatures : Prop :=
  (∀ (s : State) (c : Nat) (x : Ctx), AdminReady s c 0x06 x →
     let answer : Host.Outcome State Fault Refusal := match s.identify (instKey x.port 0) x.sqe with
       | .ok l => .next ((s.toHost x l).complete c .success 0)
       | .error st => .next (s.complete c st 0)
     let cns := bits x.sqe.cdw10 7 0
     (cns = 0x01 → exec (.identifyController c) s = .next ((s.toHost x (s.controllerLayout ((instKey x.port 0) / 128))).complete c .success 0)) ∧
     (cns = 0x00 ∨ cns = 0x11 → exec (.identifyNamespace c) s = answer) ∧
     (cns = 0x02 ∨ cns = 0x10 ∨ cns = 0x11 → exec (.identifyNsList c) s = answer) ∧
     (cns = 0x03 → exec (.identifyNsDescriptors c) s = answer) ∧
     (cns = 0x12 ∨ cns = 0x13 → exec (.identifyControllerList c) s = answer)) ∧
  (∀ (s : State) (c : Nat) (x : Ctx), AdminReady s c 0x0A x →
     let k := instKey x.port 0
     (x.sqe.fid = 0x04 → 2 ≤ bits x.sqe.cdw11 21 20 → exec (.getFeatures c) s = .next (s.completeBad c)) ∧
     ((x.sqe.fid = 0x04 ∧ bits x.sqe.cdw11 21 20 < 2 ∧ (tempSel x.sqe.cdw11).isNone = true) ∨ (x.sqe.fid = 0x09 ∧ s.vectorOk k x.sqe.cdw11 = false) → exec (.getFeatures c) s = .next (s.complete c stInvalidField 0)) ∧
     (x.sqe.fid ≠ 0x04 → x.sqe.fid ≠ 0x09 → x.sqe.fid ≠ 0x0C → x.sqe.fid ≠ 0x0E → exec (.getFeatures c) s = .next (s.complete c .success (s.featureSel k x.sqe))) ∧
     (x.sqe.fid = 0x04 → (tempSel x.sqe.cdw11).isSome = true → exec (.getFeatures c) s = .next (s.complete c .success (s.featureSel k x.sqe))) ∧
     (x.sqe.fid = 0x09 → s.vectorOk k x.sqe.cdw11 = true → exec (.getFeatures c) s = .next (s.complete c .success (s.featureSel k x.sqe))) ∧
     (x.sqe.fid = 0x0E → x.sqe.sel = 0 → ∃ t, exec (.getFeatures c) s = .next (t.complete c .success (t.featureSel k x.sqe)) ∧ t = s.toHost x s.timeLayout) ∧
     (x.sqe.fid = 0x0C → x.sqe.sel = 0 → ∃ t, exec (.getFeatures c) s = .next (t.complete c .success (t.featureSel k x.sqe)) ∧ t = s.toHost x (apstLayout (s.port x.port).apst)) ∧
     (x.sqe.sel = 3 → s.featureSel k x.sqe = BitVec.ofNat 32 (4 + (saveable x.sqe.fid).toNat)))

/-! ## Features, power states, asynchronous events, Abort (03, 05) -/

/-- The features that only keep a value keep it on their port, saved with SV, and change nothing else. The features with an effect: power state, temperature threshold, number of
queues, APST and the Timestamp. Of these none but APST is saved (R661). -/
def Obligations.SetFeatures : Prop :=
  (∀ (s : State) (c : Nat) (x : Ctx), AdminReady s c 0x09 x →
     let v := x.sqe.cdw11
     let u := if x.sqe.sv then s.modPort x.port (fun t => { t with saved := t.saved.set x.sqe.fid v }) else s
     (x.sqe.fid = 0x01 → exec (.setFeaturesArbitration c) s = .next ((u.modPort x.port (fun t => { t with arb := v })).complete c .success 0)) ∧
     (x.sqe.fid = 0x05 → v.getLsbD 16 = false → exec (.setFeaturesErrorRecovery c) s = .next ((u.modPort x.port (fun t => { t with errRec := v })).complete c .success 0)) ∧
     (x.sqe.fid = 0x05 → v.getLsbD 16 = true → exec (.setFeaturesErrorRecovery c) s = .next (s.complete c stInvalidField 0)) ∧
     (x.sqe.fid = 0x0A → exec (.setFeaturesWriteAtomicity c) s = .next ((u.modPort x.port (fun t => { t with atomicity := v })).complete c .success 0)) ∧
     (x.sqe.fid = 0x0B → exec (.setFeaturesAsyncEventConfig c) s =
       .next (if x.sqe.sv then s.complete c (stSpecific 0x0D) 0 else (s.modPort x.port (fun t => { t with asyncCfg := v &&& 0xFF })).complete c .success 0)) ∧
     (x.sqe.fid = 0x08 → exec (.setFeaturesIntCoalescing c) s = .next ((u.setCoalesce (instKey x.port 0) v).complete c .success 0)) ∧
     (x.sqe.fid = 0x09 → exec (.setFeaturesIntVectorConfig c) s = .next (
       if s.vectorOk (instKey x.port 0) v then
         ((if x.sqe.sv then s.modPort x.port (fun t => { t with saved := t.saved.set (9 * 65536 + bits v 15 0) v }) else s).setVector (instKey x.port 0) v).complete c .success 0
       else s.complete c stInvalidField 0))) ∧
  (∀ (s : State) (c : Nat) (x : Ctx), AdminReady s c 0x09 x →
     let v := x.sqe.cdw11
     (x.sqe.fid = 0x02 → x.sqe.sv = false → exec (.setFeaturesPowerMgmt c) s = .next (if 4 < bits v 4 0 then s.complete c stInvalidField 0
       else ((s.modPort x.port (fun t => { t with reqPs := bits v 4 0, psLapsed := false })).complete c .success 0).reviewPs)) ∧
     (x.sqe.fid = 0x04 → x.sqe.sv = false → exec (.setFeaturesTempThreshold c) s = .next (match tempSel v with
       | none => if 2 ≤ bits v 21 20 then s.completeBad c else s.complete c stInvalidField 0
       | some under => ((s.modPort x.port (fun t => if under then { t with tempUnder := bits v 15 0 } else { t with tempOver := bits v 15 0 })).postTemp s).complete c .success 0)) ∧
     (x.sqe.fid = 0x07 → x.sqe.sv = false → exec (.setFeaturesNumberOfQueues c) s = .next (
       if bits v 15 0 = 65535 ∨ bits v 31 16 = 65535 then s.complete c stInvalidField 0
       else
         let g := (grantQueues (s.dinst (instKey x.port 0)).share.queuePairs (bits v 15 0), grantQueues (s.dinst (instKey x.port 0)).share.queuePairs (bits v 31 16))
         (s.modPort x.port (fun t => { t with queuesSet := some g })).complete c .success (queuesWord g.1 g.2))) ∧
     (∀ es, x.sqe.fid = 0x0C → x.sqe.data = .apst es → exec (.setFeaturesApst c) s = .next (
       ((if x.sqe.sv then s.modPort x.port (fun t => { t with saved := t.saved.set 0x0C v, savedApst := some es }) else s).modPort x.port
         (fun t => { t with apstEn := v.getLsbD 0, apst := es })).complete c .success 0)) ∧
     (∀ ms, x.sqe.fid = 0x0E → x.sqe.sv = false → x.sqe.data = .timestamp ms → exec (.setFeaturesTimestamp c) s =
       .next ((s.modPart (fun p => { p with rtcBase := ms % 2 ^ 48, rtcZero := s.now, tsSet := true })).complete c .success 0)) ∧
     (∀ f : Nat, (f = 0x02 ∨ f = 0x04 ∨ f = 0x07 ∨ f = 0x0B ∨ f = 0x0E) → x.sqe.fid = f → x.sqe.sv = true →
       exec (if f = 0x02 then .setFeaturesPowerMgmt c else if f = 0x04 then .setFeaturesTempThreshold c else if f = 0x07 then .setFeaturesNumberOfQueues c
         else if f = 0x0B then .setFeaturesAsyncEventConfig c else .setFeaturesTimestamp c) s = .next (s.complete c (stSpecific 0x0D) 0)))

/-- Asynchronous Event Requests wait or take the oldest waiting event, at most sixteen; Abort ends a command not yet caught, or says what became of it (R171 to R175). -/
def Obligations.EventRequestsAndAbort : Prop :=
  ∀ (s : State) (c : Nat) (x : Ctx),
    (AdminReady s c 0x0C x → x.mi = false →
      ((s.port x.port).aers.length < 16 → (s.port x.port).waitingEv = [] → exec (.asyncEventRequest c) s =
        .next ((s.dropCtx c).modPort x.port (fun t => { t with aers := t.aers ++ [x.sqe.cid], waitingEv := t.waitingEv.drop 1 }))) ∧
      (∀ e es, (s.port x.port).aers.length < 16 → (s.port x.port).waitingEv = e :: es → exec (.asyncEventRequest c) s =
        .next (((s.dropCtx c).modPort x.port (fun t => { t with aers := t.aers ++ [x.sqe.cid], waitingEv := t.waitingEv.drop 1 })).answerAer x.port e)) ∧
      (16 ≤ (s.port x.port).aers.length → exec (.asyncEventRequest c) s = .next (s.complete c (stSpecific 0x05) 0))) ∧
    (AdminReady s c 0x08 x →
      let f := s.abortFinds (instKey x.port (bits x.sqe.cdw11 6 0)) (bits x.sqe.cdw10 15 0) (bits x.sqe.cdw10 31 16)
      (∀ id, f.2 = some id → exec (.abort c) s = .next (((s.endCaught id stAborted).retry).complete c .success 6)) ∧
      (f.2 = none → exec (.abort c) s = .next (s.complete c .success (BitVec.ofNat 32 (1 + 2 * f.1)))))

/-- Power states: an idle port asks for its APST target, an entry begins once every port is idle, closes the stripes for PS4, and ends in the state asked for, in PS4
with the journal sealed (R110, R111, R142, R181); PS4 is left for the drones in arrears of an hour and taken again after (R113). -/
def Obligations.PowerStateEntries : Prop :=
  ∀ s : State,
    (∀ p : PortId, let e := (s.port p).apst.getD (s.asksPs p) (0, 0)
      s.serving = true → (s.port p).rdy = true → (s.port p).apstEn = true → s.portBusy p = false → 3 ≤ e.1 → e.1 ≤ 4 → 0 < e.2 →
      exec (.apstIdleExpiry p) s = .next (((s.notBefore ((s.port p).busyAt + e.2 * 1000)).modPort p (fun x => { x with reqPs := e.1, psLapsed := false })).reviewPs)) ∧
    (∀ w, s.entryTo = some w → s.portsIdle = true → s.modes.psEntry = none → s.hostFenced = false →
      let u := s.modModes (fun m => { m with psEntry := some w })
      (w ≠ 4 → exec .powerStateEntryStart s = .next u) ∧
      (w = 4 → exec .powerStateEntryStart s = .next (u.each (List.range u.cache.stripes.length) (fun i t =>
        match t.stripe i with
        | some x => if x.used.isEmpty then t else t.closeStripe i
        | none => t)))) ∧
    (∀ w, s.modes.psEntry = some w → s.entryTo = some w → s.portsIdle = true → s.diesIdle = true →
      (w ≠ 4 → exec .powerStateEntryComplete s = .next (s.modModes (fun m => { m with ps := w, psEntry := none }))) ∧
      (w = 4 → (∀ x ∈ s.cache.stripes, x.used = []) → exec .powerStateEntryComplete s = .next (s.sealNow.modModes (fun m => { m with ps := 4, psEntry := none })))) ∧
    (s.active = true → s.modes.flush = none →
      (s.modes.ps = 4 → (∃ d, d < 11 ∧ 3600 < (s.drone d).lagS) → exec (.ps4DroneExcursion false) s = .next (s.modModes (fun m => { m with ps := 3, excursion := true }))) ∧
      (s.modes.ps = 3 → s.modes.excursion = true → exec (.ps4DroneExcursion true) s = .next (s.modModes (fun m => { m with ps := 4, excursion := false }))))

/-! ## Namespaces, formats, erasures (07) -/

/-- Namespace Create: a namespace that meets no case of R230, R232 takes the lowest free NSID and the next serial number, in force at once, and its command waits for
the seal; a key provided becomes ACTIVE, and a change of the keys rewrites the key table first (R582). -/
def Obligations.NamespaceCreateTakesTheLowestNsid : Prop :=
  ∀ (s : State) (c : Nat) (x : Ctx) (n : NsSpec), AdminReady s c 0x0D x → bits x.sqe.cdw10 3 0 = 0 → x.sqe.data = .nsSpec n →
    (s.createInvalid n = true → exec (.namespaceCreate c) s = .next (s.complete c stInvalidField 0)) ∧
    (s.createInvalid n = false → n.writeThrough = false → s.pw.energy < 240 → exec (.namespaceCreate c) s = .next (s.complete c stWriteThrough 0)) ∧
    (s.createInvalid n = false → (n.writeThrough = true ∨ 240 ≤ s.pw.energy) →
      (s.freeNsid = none → exec (.namespaceCreate c) s = .next (s.complete c (stSpecific 0x16) 0)) ∧
      (∀ id, s.freeNsid = some id →
        (s.userCapacity < s.nsBytes + n.nsze * n.lba → exec (.namespaceCreate c) s = .next (s.complete c (stSpecific 0x15) 0)) ∧
        (s.nsBytes + n.nsze * n.lba ≤ s.userCapacity →
          let u := if n.encrypt = false then (if (s.keyState id).state = .loaded then (s.zeroKey id).rewriteKeys else s)
            else if n.keyProvided = true then (s.modPart (fun p => { p with keys := p.keys.set (id - 1) { p.keys.get {} (id - 1) with state := .active } })).rewriteKeys
            else (s.newKey id).rewriteKeys
          let t := (u.logRec (.nsSet { nsid := id, serial := u.live.nextSerial, spec := n })).awaitSeal c (BitVec.ofNat 32 id)
          exec (.namespaceCreate c) s = .next t ∧ t.ns id = some { nsid := id, serial := u.live.nextSerial, spec := n } ∧
          t.jrn.opened = u.jrn.opened ++ [.nsSet { nsid := id, serial := u.live.nextSerial, spec := n }] ∧
          (n.encrypt = true → n.keyProvided = true → (t.keyState id).state = .active) ∧ (∀ m, m ≠ id → t.keyState m = s.keyState m ∨ m = 0))))

/-- Namespace Delete (R238): an unknown namespace, or one a stop transforms, is refused; otherwise it is detached everywhere at once, and once no command for it remains it is
deleted and the command waits for the seal. Namespace Attachment (R236, R237): every identifier a live slot of the port, and for attach no instance that has it, no second
instance of a private namespace, no quota exceeded; a detach ends a transform stop's binding first and waits for the commands already fetched. -/
def Obligations.NamespaceDeleteAttachAndDetach : Prop :=
  (∀ (s : State) (c : Nat) (x : Ctx), AdminReady s c 0x0D x → bits x.sqe.cdw10 3 0 = 1 →
     let ids := if x.sqe.nsid = 0xFFFFFFFF then s.live.nss.map (fun (e : Nat × Ns) => e.1) else [x.sqe.nsid]
     let u := s.each ids (fun n t => t.detach n (t.live.insts.map (fun (e : Nat × DurInst) => e.1)))
     ((∃ n ∈ ids, s.ns n = none) → exec (.namespaceDelete c) s = .next (s.complete c stInvalidNs 0)) ∧
     ((∀ n ∈ ids, s.ns n ≠ none) → (∃ n ∈ ids, s.transforms n ≠ []) → exec (.namespaceDelete c) s = .next (s.complete c stSequence 0)) ∧
     ((∀ n ∈ ids, s.ns n ≠ none) → (∀ n ∈ ids, s.transforms n = []) →
       ((∃ n ∈ ids, u.nsBusy n (fun _ => true) = true) → exec (.namespaceDelete c) s = .next u) ∧
       ((∀ n ∈ ids, u.nsBusy n (fun _ => true) = false) → exec (.namespaceDelete c) s = .next ((u.deleteAll ids).awaitSeal c 0)))) ∧
  (∀ (s : State) (c : Nat) (x : Ctx) (v : Ns) (ids : List Nat), WaitReady s c 0x15 x → s.ns x.sqe.nsid = some v → x.sqe.data = .ctrlList ids →
     (bits x.sqe.cdw10 3 0 = 0 → s.listed x.port ids = none → exec (.namespaceAttach c) s = .next (s.complete c (stSpecific 0x1C) 0)) ∧
     (bits x.sqe.cdw10 3 0 = 1 → s.listed x.port ids = none → exec (.namespaceDetach c) s = .next (s.complete c (stSpecific 0x1C) 0)) ∧
     (∀ ks, s.listed x.port ids = some ks →
       (bits x.sqe.cdw10 3 0 = 0 →
         exec (.namespaceAttach c) s = .next (
           if ks.any (fun k => (s.dinst k).attached.contains v.nsid) then s.complete c (stSpecific 0x18) 0
           else if v.spec.nmic = 0 ∧ 1 < (s.attachedTo v.nsid).length + ks.length then s.complete c (stSpecific 0x19) 0
           else if ks.any (fun k => decide ((s.dinst k).share.nsQuota < (s.dinst k).attached.length + 1)) then s.complete c (stSpecific 0x27) 0
           else ((s.each ks (fun k t => t.logInst k (fun d => { d with attached := d.attached ++ [v.nsid] }))).reviewRegions).complete c .success 0)) ∧
       (bits x.sqe.cdw10 3 0 = 1 → x.phase = .ready → (∃ k ∈ ks, v.nsid ∉ (s.dinst k).attached) → exec (.namespaceDetach c) s = .next (s.complete c (stSpecific 0x1A) 0)) ∧
       (bits x.sqe.cdw10 3 0 = 1 → (x.phase = .drain ∨ ∀ k ∈ ks, v.nsid ∈ (s.dinst k).attached) → (s.transforms v.nsid).filter (fun n => ks.any (fun k => s.holder n == some k)) = [] →
         let u := (s.detach v.nsid ks).modCtx c (fun y => { y with phase := .drain })
         exec (.namespaceDetach c) s = .next (if u.nsBusy v.nsid ks.contains then u else u.complete c .success 0))))

/-- Format NVM and Crypto Erase of one namespace wait for its commands and then change it; of all namespaces they are device epochs of cause 4 (R239, R586). Lends of map
memory: what R251 refuses changes nothing; a lend starts a new empty T2 layout; a reclaim ends the lends and reads their extents with zero length, and completes once those reads
have come back; a failed access ends its lend and is an event for the port's manager (R251, R253, R255, R256). -/
def Obligations.FormatEraseAndLends : Prop :=
  (∀ (s : State) (c : Nat) (x : Ctx) (v : Ns),
     (WaitReady s c 0x80 x → x.sqe.nsid ≠ 0xFFFFFFFF → formatOk x.sqe = true → s.ns x.sqe.nsid = some v → exec (.formatNvm c) s = .next (
       if s.nsBusy v.nsid (fun _ => true) then s.modCtx c (fun y => { y with phase := .drain }) else (s.formatNs (bits x.sqe.cdw10 3 0) v).awaitSeal c 0)) ∧
     (WaitReady s c 0x80 x → x.sqe.nsid ≠ 0xFFFFFFFF → s.ns x.sqe.nsid = none → formatOk x.sqe = true → exec (.formatNvm c) s = .next (s.complete c stInvalidNs 0)) ∧
     (AdminReady s c 0x80 x → x.sqe.nsid = 0xFFFFFFFF → formatOk x.sqe = true → s.quiesceBusy = false → s.serving = true →
       exec (.formatNvmAll c) s = .next (s.startDevEpoch 4 (.formatAll (bits x.sqe.cdw10 3 0)) (some c))) ∧
     (AdminReady s c 0x80 x → x.sqe.nsid = 0xFFFFFFFF → formatOk x.sqe = true → (s.quiesceBusy = true ∨ s.serving = false) → exec (.formatNvmAll c) s = .next (s.complete c stSequence 0)) ∧
     (WaitReady s c 0xDC x → bits x.sqe.cdw10 31 1 = 0 →
       (x.sqe.nsid = 0xFFFFFFFF → s.quiesceBusy = false → s.serving = true → exec (.cryptoErase c) s = .next (s.startDevEpoch 4 (.eraseAll (x.sqe.cdw10.getLsbD 0)) (some c))) ∧
       (x.sqe.nsid ≠ 0xFFFFFFFF → s.ns x.sqe.nsid = none → exec (.cryptoErase c) s = .next (s.complete c stInvalidNs 0)) ∧
       (x.sqe.nsid ≠ 0xFFFFFFFF → s.ns x.sqe.nsid = some v →
         (v.spec.encrypt = false → exec (.cryptoErase c) s = .next (s.complete c stInvalidField 0)) ∧
         (v.spec.encrypt = true → exec (.cryptoErase c) s = .next (
           if s.nsBusy v.nsid (fun _ => true) then s.modCtx c (fun y => { y with phase := .drain }) else (s.eraseKeys (x.sqe.cdw10.getLsbD 0) [v]).awaitSeal c 0))))) ∧
  (∀ (s : State),
     (∀ c x count es r, AdminReady s c 0xCD x → x.sqe.data = .extents count es r →
       let old := s.lendsOf x.port
       let all : List Extent := old.flatMap (fun (l : Lend) => l.extents) ++ es
       let total : Nat := all.foldl (fun n (e : Extent) => n + e.chunks) 0
       let refused := r = true ∨ count = 0 ∨ 255 < count ∨ es.length ≠ count ∨ 131072 < total ∨ 4 ≤ old.length ∨ (∃ e ∈ es, e.chunks = 0 ∨ e.address % 2 ^ 21 ≠ 0) ∨ anyMeet all = true
       (refused → exec (.lendMapMemory c) s = .next (s.complete c stInvalidField 0)) ∧
       (¬refused →
         let id := ((List.range 4).find? (fun i => !old.any (fun l => l.id == i))).getD 0
         exec (.lendMapMemory c) s = .next (({ s with lends := s.lends.set x.port (old ++ [({ id := id, extents := es } : Lend)]) }.newLayout).complete c .success (BitVec.ofNat 32 (id + total * 256))))) ∧
     (∀ c x, WaitReady s c 0xD0 x →
       let gone := (s.lendsOf x.port).filter (fun l => x.sqe.cdw10.getLsbD 2 || l.id == bits x.sqe.cdw10 1 0)
       (x.phase = .drain → exec (.reclaimMapMemory c) s = .next (s.complete c .success 0)) ∧
       (x.phase = .ready → x.sqe.cdw10.getLsbD 2 = false → gone = [] → exec (.reclaimMapMemory c) s = .next (s.complete c stInvalidField 0)) ∧
       (x.phase = .ready → x.sqe.cdw10.getLsbD 2 = true → gone = [] → exec (.reclaimMapMemory c) s = .next (s.complete c .success 0)) ∧
       (x.phase = .ready → gone ≠ [] → exec (.reclaimMapMemory c) s = .next (
         (gone.foldl (fun (t : State) (l : Lend) => l.extents.foldl (fun (t : State) (e : Extent) => t.emit (.zeroRead x.port e.address none)) t)
           (s.dropLends x.port (fun l => !(x.sqe.cdw10.getLsbD 2 || l.id == bits x.sqe.cdw10 1 0)))).modCtx c (fun y => { y with phase := .drain })))) ∧
     (∀ (p : PortId) (lend : Fin 4) f, (∃ l ∈ s.lendsOf p, l.id = lend.val) →
       let t := (s.endLends p (fun l => l.id == lend.val)).managerEvent p (evUnnamed 4 1) p lend
       exec (.t2AccessFailure p lend f) s = .next t ∧ (∀ l ∈ t.lendsOf p, l.id ≠ lend.val) ∧ t.live = s.live))

/-! ## Updates (18) -/

/-- Download, the flash sequencer and the processor's reads of a bank (R588, R593, R596 to R598). Firmware Commit by its action: a package that may not be committed is refused
with its code, otherwise verification begins and the command waits for it; a trial is confirmed or turned back without one (R594, R599, R606, R607). -/
def Obligations.DownloadsAndCommits : Prop :=
  (∀ s : State,
     (∀ c x, UpdateReady s c 0x11 x → exec (.firmwareImageDownload c) s = .next (s.takePiece x)) ∧
     (∀ c x, UpdateReady s c 0x11 x → 2 ^ 21 < (x.sqe.cdw10.toNat + 1) * 4 → exec (.firmwareImageDownload c) s = .next (s.complete x.id stInvalidField 0)) ∧
     (∀ c x, UpdateReady s c 0x11 x → (x.sqe.cdw10.toNat + 1) * 4 ≤ 2 ^ 21 → s.updateBarred ≠ 0 →
       exec (.firmwareImageDownload c) s = .next ((s.keepWrite (fun k => { k with lastRefusal := s.updateBarred })).complete x.id stSequence (BitVec.ofNat 32 s.updateBarred))) ∧
     (∀ (b : Fin 2) sector erase, s.modes.mode ≠ .keep → (s.bank b.val).busy = some (sector, erase) →
       let u := s.modBank b.val (fun y => ((if erase then y.done sector else y).clearBusy).advance)
       exec (.flashOperationComplete b) s = .next (if erase then u else u.blockProgrammed b.val)) ∧
     (∀ (b : Fin 2) off, s.part.coresHeld = false → s.modes.mode ≠ .keep →
       ((s.bank b.val).busy.isSome = true → exec (.bootFlashRead b off) s = .next ((s.emit (.busError b.val)).report srcPartition 0x0E09 b.val 0)) ∧
       ((s.bank b.val).busy = none → exec (.bootFlashRead b off) s = .next ((s.emit (.regValue 0 (Config.freeWord s.free))).drew)))) ∧
  (∀ (s : State) (c : Nat) (x : Ctx), UpdateReady s c 0x10 x →
     (x.ca = 0 → exec (.firmwareCommitVerify c) s = .next (s.commitPackage [1, 2, 3] x)) ∧
     (x.ca = 1 → exec (.firmwareCommitNextBoot c) s = .next (s.commitPackage [1] x)) ∧
     (x.ca = 2 → s.keep.stage = 4 →
       (x.fs ≠ 0 → x.fs = s.keep.trialBank + 1 → exec (.firmwareCommitConfirm c) s = .next ((s.confirmTrial 3).complete c .success 0)) ∧
       (¬(x.fs ≠ 0 ∧ x.fs = s.keep.trialBank + 1) → x.fs = s.keep.fwActive + 1 →
         exec (.firmwareCommitConfirm c) s = .next ((s.keepWrite (fun k => { k with bootOnce := true, trialCount := 3 })).complete c .success 0))) ∧
     (x.ca = 2 → s.onTrial = false → s.flash.package = none → s.updateBarred = 0 → (x.fs = 1 ∨ x.fs = 2) →
       (x.fs = s.flash.running + 1 → exec (.firmwareCommitConfirm c) s = .next
         ((s.keepWrite (fun k => { k with activateNext := true, trialBank := x.fs - 1, trialVersion := (s.fwBank (x.fs - 1)).version })).complete c .success 0)) ∧
       (x.fs ≠ s.flash.running + 1 → exec (.firmwareCommitConfirm c) s = .next (s.startVerify x (x.fs - 1)))) ∧
     (x.ca = 3 →
       (s.keep.stage = 4 → x.fs = s.keep.fwActive + 1 → exec (.firmwareCommitActivate c) s = .next (s.askEpoch c 1 .revert)) ∧
       (¬(s.keep.stage = 4 ∧ x.fs = s.keep.fwActive + 1) → s.keep.kind = 1 → s.flash.package.isSome = true → (s.quiesceBusy = true ∨ s.serving = false) →
         exec (.firmwareCommitActivate c) s = .next (s.complete c stSequence 0)) ∧
       (¬(s.keep.stage = 4 ∧ x.fs = s.keep.fwActive + 1) → s.quiesceBusy = false → s.serving = true → exec (.firmwareCommitActivate c) s = .next (s.commitPackage [1, 3] x))))

/-- Verification ends: a package that fails keeps its code, one that passes goes to its use; a trial that lasts a day with automatic confirmation is confirmed; an
activation whose watchdog restart is not served within a second expires (R599, R600, R602, R608). -/
def Obligations.VerificationAndTrials : Prop :=
  ∀ s : State,
    (∀ f, s.keep.verifying = true → s.active = true → s.modes.flush = none → s.flash.verify.map (fun x => x.action) ≠ some 2 →
      (∀ p, s.flash.package = some p → exec (.updateVerificationComplete f) s = .next (if s.verifyCode p f = 0 then s.verified p s.flash.verify f
        else (s.placePackage p f false).notVerified (s.verifyCode p f) s.flash.verify)) ∧
      (s.flash.package = none → exec (.updateVerificationComplete f) s = .next (s.notVerified 5 s.flash.verify))) ∧
    (∀ f y, s.keep.verifying = true → s.active = true → s.modes.flush = none → s.flash.verify = some y → y.action = 2 → f.blocksOk = true → s.sigsOk f.compileSig f.operatorSig = true →
      (s.fwBank s.keep.fwActive).version.toNat ≥ (s.fwBank y.bank).minFrom.toNat → (s.fwBank y.bank).formatCompat ≤ s.flash.formatSet →
      exec (.updateVerificationComplete f) s = .next (((s.keepWrite (fun k => { k with verifying := false, result := 1, activateNext := true, trialBank := y.bank, trialVersion := (s.fwBank y.bank).version })).modFlash
        (fun x => { x with verify := none })).complete y.ctx .success 0)) ∧
    (s.keep.stage = 4 → s.keep.autoConfirm = true → s.keep.trialStart ≠ 0 → s.active = true →
      let u := s.notBefore (s.part.rtcZero + ((s.keep.trialStart + 86400) * 1000 - s.part.rtcBase) * 1000)
      exec .trialAutoConfirm s = .next (u.confirmTrial 4) ∧ s.keep.trialStart + 86400 ≤ u.rtc / 1000) ∧
    (∀ e, s.modes.epoch = some e → e.committed = true → exec .activationTimeout s = .next (s.notBefore (e.start + 1000000)).watchdogExpires) ∧
    (∀ e, s.modes.epoch = some e → e.committed = true → ∃ t, exec .activationServe s = .next t ∧ t.modes.epoch = none ∧
      (e.act = .revert → t.keep.stage = 0 ∧ t.keep.result = 7) ∧ (∀ b a, e.act = .activate b a → t.keep.stage = 4 ∧ t.keep.result = 2))

/-! ## Holds, self-tests, device epochs (03) -/

/-- A maintenance hold of 1 to 600 s enters QUIESCE with cause 6 and ends with its release or its time (R95, R97); the answers go to management. Device Self-test: the short
one runs while serving, the extended one in QUIESCE with cause 5, neither beside another; an abort or its end is logged and, for the extended one, leaves QUIESCE (R96). -/
def Obligations.HoldsAndSelfTests : Prop :=
  (∀ s : State, s.miThere = true →
     (∀ n, (n = 0 ∨ 600 < n) → exec (.maintenanceHold n) s = .next (s.emit (.mi stInvalidField 0))) ∧
     (∀ n, 1 ≤ n → n ≤ 600 → s.quiesceBusy = false → s.serving = true → s.hostFenced = false → ∃ t, exec (.maintenanceHold n) s = .next t ∧
       t.modes.mode = .quiesce ∧ t.modes.quiesceCause = 6 ∧ t.modes.hold = some (s.now + n * 1000000) ∧ t.modes.ps = 0 ∧ (∀ p : PortId, (t.port p).pp = true) ∧ t.out = s.out ++ [.mi .success 0] ∧
       t.live = s.live ∧ t.ctxs = s.ctxs) ∧
     (∀ n, 1 ≤ n → n ≤ 600 → (s.quiesceBusy = true ∨ s.serving = false ∨ s.hostFenced = true) → exec (.maintenanceHold n) s = .next (s.emit (.mi stSequence 0))) ∧
     (s.modes.hold.isSome = true → exec .maintenanceHoldRelease s = .next (((s.modModes (fun m => { m with hold := none })).leaveQuiesce).emit (.mi .success 0))) ∧
     (s.modes.hold = none → exec .maintenanceHoldRelease s = .next (s.emit (.mi stSequence 0))) ∧
     (∀ t, s.modes.hold = some t → exec .maintenanceHoldExpiry s = .next (((s.notBefore t).modModes (fun m => { m with hold := none })).leaveQuiesce))) ∧
  (∀ (s : State) (c : Nat) (x : Ctx),
     (AdminReady s c 0x14 x → bits x.sqe.cdw10 3 0 = 1 →
       (s.modes.selfTest.isSome = true → exec (.deviceSelfTestShort c) s = .next (s.complete c (stSpecific 0x1D) 0)) ∧
       (s.modes.selfTest = none → s.serving = false → exec (.deviceSelfTestShort c) s = .next (s.complete c stSequence 0)) ∧
       (s.modes.selfTest = none → s.serving = true → exec (.deviceSelfTestShort c) s =
         .next ((s.modModes (fun m => { m with selfTest := some { extended := false, start := s.now } })).complete c .success 0))) ∧
     (AdminReady s c 0x14 x → bits x.sqe.cdw10 3 0 = 2 →
       ((s.quiesceBusy = true ∨ s.serving = false) → exec (.deviceSelfTestExtended c) s = .next (s.complete c stSequence 0)) ∧
       (s.quiesceBusy = false → s.serving = true → s.modes.selfTest = none → exec (.deviceSelfTestExtended c) s =
         .next (((s.enterQuiesce 5).modModes (fun m => { m with selfTest := some { extended := true, start := s.now } })).complete c .success 0))) ∧
     (AdminReady s c 0x14 x → bits x.sqe.cdw10 3 0 = 15 → exec (.deviceSelfTestAbort c) s = .next ((s.complete c .success 0).endTest 1)) ∧
     (∀ t r, s.modes.selfTest = some t → t.extended = true → ∃ u, exec (.extendedSelfTestEnd r) s = .next u ∧ u.modes.selfTest = none ∧
       u.modes.testLog = ((2, r % 16) :: s.modes.testLog).take 20 ∧ (u.modes.mode = .service ∨ u.modes.mode = .degraded)))

/-- Once every command is drained an epoch is committed: the journal sealed, its act done, its command answered, QUIESCE left (R93, R98, R106); after 100 ms commands
that wait elsewhere are interrupted (R94). -/
def Obligations.DeviceEpochsCommit : Prop :=
  ∀ (s : State) (e : DevEpoch), s.modes.epoch = some e → e.committed = false → s.modes.mode = .quiesce →
    (let u := s.notBefore (s.modes.quiesceAt + 100000); exec .drainInterruptTimeout s = .next
      (((u.ctxs.filter (fun x => x.mover.isNone && u.waitsElsewhere x)).foldl (fun (t : State) (x : Ctx) =>
        if x.admin then t.complete x.id stInterrupted 0
        else ((if x.undo.isEmpty then t.endWrite x else t).modCache (fun y => { y with waiting := y.waiting.filter (fun i => !(i == x.id)) })).endCaught x.id stInterrupted) u).retry)) ∧
    (s.drained = true →
      let u := s.sealNow
      let v := u.each ((u.insts.filter (fun (x : Nat × Inst) => x.2.change.isSome)).map (fun (x : Nat × Inst) => x.1)) (fun k t => t.applyChange k)
      (∀ f, e.act = .formatAll f → exec .deviceEpochDrainEnd s =
        .next (((((v.live.nss.map (fun (x : Nat × Ns) => x.2)).foldl (fun t n => t.formatNs f n) v).sealNow).answerEpoch e 0).endDevEpoch)) ∧
      (∀ new, e.act = .eraseAll new → exec .deviceEpochDrainEnd s =
        .next ((((v.eraseKeys new ((v.live.nss.map (fun (x : Nat × Ns) => x.2)).filter (fun n => n.spec.encrypt))).sealNow).answerErase e).endDevEpoch)) ∧
      (∀ slot cls ports, e.act = .voicing slot cls ports → exec .deviceEpochDrainEnd s = .next (v.applyVoicing e slot cls ports)) ∧
      (∀ l src seq, e.act = .rpl l src seq → exec .deviceEpochDrainEnd s = .next (v.applyRpl l src seq)) ∧
      (∀ b auto, e.act = .activate b auto → ∃ t, exec .deviceEpochDrainEnd s = .next t ∧ t.keep.stage = 3 ∧ t.keep.trialBank = b ∧ t.keep.trialValid = true ∧ t.keep.autoConfirm = auto ∧
        t.part.restarting = true ∧ t.modes.epoch = some { e with committed := true, start := v.now }) ∧
      (e.act = .revert → ∃ t, exec .deviceEpochDrainEnd s = .next t ∧ t.keep.bootOnce = true ∧ t.keep.trialCount = 3 ∧ t.part.restarting = true))

/-! ## Directives, management (04, 05, 18) -/

/-- Directives and NVMe-MI. The directives' layouts are NVMe's (log entry 58), the in-band answer's the model's (log entry 57). -/
def Obligations.DirectivesAndManagement : Prop :=
  ∀ (s : State) (c : Nat) (x : Ctx) (v : Ns),
    (AdminReady s c 0x19 x → s.ns x.sqe.nsid = some v →
      (dtype x.sqe = 0 → doper x.sqe = 1 → bits x.sqe.cdw12 15 8 = 1 → x.sqe.cdw12.getLsbD 0 = v.spec.useStreams → exec (.directiveSend c) s = .next (s.complete c .success 0)) ∧
      (dtype x.sqe = 1 → (doper x.sqe = 1 ∨ doper x.sqe = 2) → exec (.directiveSend c) s = .next (s.complete c .success 0))) ∧
    (AdminReady s c 0x1A x → s.ns x.sqe.nsid = some v →
      (dtype x.sqe = 0 → doper x.sqe = 1 → exec (.directiveReceive c) s = .next ((s.toHost x (directiveLayout v)).complete c .success 0)) ∧
      (dtype x.sqe = 1 → doper x.sqe = 1 → exec (.directiveReceive c) s = .next ((s.toHost x (streamsLayout v)).complete c .success 0)) ∧
      (dtype x.sqe = 1 → doper x.sqe = 3 → exec (.directiveReceive c) s = .next (s.complete c .success (BitVec.ofNat 32 (min (bits x.sqe.cdw12 15 0) v.streams))))) ∧
    (∀ r, AdminReady s c 0x1D x → (∀ p e, r ≠ .adminCommand p e) → exec (.nvmeMiSend c r) s =
      .next (((s.miDirect r).2.modPort x.port (fun t => { t with miResp := (s.miDirect r).1 })).complete c .success 0)) ∧
    (∀ p e, AdminReady s c 0x1D x → exec (.nvmeMiSend c (.adminCommand p e)) s = .next (s.complete c stInvalidField 0)) ∧
    (AdminReady s c 0x1E x → exec (.nvmeMiReceive c) s =
      .next (((s.toHost x (miLayout (s.port x.port).miResp)).modPort x.port (fun t => { t with miResp := none })).complete c .success 0)) ∧
    (∀ r, s.miThere = true → (s.port 0).link = .l0 → exec (.mctpVdmMessage ⟨0, by decide⟩ r) s = .next (s.miServe r)) ∧
    (∀ (p : PortId) r, p.val ≠ 0 → exec (.mctpVdmMessage p r) s = .next s) ∧
    (∀ a w, s.miServe (.writeRegister a w) = (s.writeReg .management a w).emit (.mi .success 0))

/-! ## Instances (06) -/

/-- Create Instance: the slot named, or the lowest free one, becomes ACTIVE with the next generation of its slot (R201, R213), its share and the lowest run of vectors, all
journalled, and its command waits for the seal with the slot and the generation; a share the pools cannot give is refused with the code of the pool (R199, R204). -/
def Obligations.CreateInstanceTakesASlot : Prop :=
  ∀ (s : State) (c : Nat) (x : Ctx) (d : Share), BoundaryReady s c 0xC1 x → x.sqe.data = .share d → shareOk d = true → (s.port x.port).pasidEn = true →
    (∀ k ∈ s.liveKeys x.port, k % 128 ≠ 0 → (s.dinst k).share.pasid ≠ d.pasid) →
    ∀ n, (x.localIndex = n ∧ n ≠ 0xFF ∧ n ≠ 0 ∧ n < (s.vport x.port).instances ∧ (s.dinst (instKey x.port n)).live = false ∨
      x.localIndex = 0xFF ∧ ((List.range (s.vport x.port).instances).drop 1).find? (fun n => !(s.dinst (instKey x.port n)).live) = some n) →
    let k := instKey x.port n
    s.genBusy k (s.gen k + 1) = false →
    (∀ code, s.shortOf k d = some code → exec (.createInstance c) s = .next (s.complete c stPool (BitVec.ofNat 32 code))) ∧
    (s.shortOf k d = none → ∃ t, exec (.createInstance c) s = .next t ∧ (t.dinst k).live = true ∧ t.gen k = s.gen k + 1 ∧ (t.dinst k).share = d ∧ (t.dinst k).attached = [] ∧
      (t.inst k).state = .active ∧ (∀ j ≠ k, t.dinst j = s.dinst j) ∧ ∃ y, t.ctx c = some y ∧ y.phase = .seal s.jrn.openEpoch ∧ y.dw0 = BitVec.ofNat 32 (n + (s.gen k + 1).toNat * 65536))

/-- The other instance commands on a slot and generation they match: a report, a destroy, a reset, each in full (the last two wait while work of the
slot's next generation is still in flight, R215); and what a wrong slot or generation answers (R199). Proxy Admin runs
a queue command, a log page, Identify or a feature for an ACTIVE instance (R203). -/
def Obligations.InstanceCommands : Prop :=
  (∀ (s : State) (c : Nat) (x : Ctx) (k : Nat),
     (AdminReady s c 0xC2 x → exec (.instanceReport c) s = .next (if (s.vport x.port).instances ≤ x.localIndex then s.complete c stInvalidField 0
       else (s.toHost x (s.instReport (instKey x.port x.localIndex))).complete c .success 0)) ∧
     (SlotReady s c 0xC4 x k → x.localIndex ≠ 0 → s.genBusy k (s.gen k + 1) = false → ∃ t, exec (.destroyInstance c) s = .next t ∧ (t.dinst k).live = false ∧ (t.dinst k).share = {} ∧ (t.dinst k).attached = [] ∧
       (t.dinst k).gen = s.gen k + 1 ∧ (t.inst k).state = .free) ∧
     (SlotReady s c 0xC8 x k → s.genBusy k (s.gen k + 1) = true → exec (.resetInstance c) s = .next s) ∧
     (SlotReady s c 0xC8 x k → s.genBusy k (s.gen k + 1) = false → exec (.resetInstance c) s = .next ((s.resetInst k).awaitSeal c 0) ∧ (s.resetInst k).gen k = s.gen k + 1 ∧
       ((s.resetInst k).dinst k).epoch = (s.dinst k).epoch + (if (s.inst k).change = none then 1 else 2)) ∧
     (BoundaryReady s c 0xC4 x → x.localIndex < (s.vport x.port).instances → x.localIndex ≠ 0 → matchFails x.sqe.cdw11 (s.gen (instKey x.port x.localIndex)) = true →
       exec (.destroyInstance c) s = .next (s.complete c stSequence 0)) ∧
     (BoundaryReady s c 0xC8 x → (s.vport x.port).instances ≤ x.localIndex → exec (.resetInstance c) s = .next (s.complete c stInvalidField 0))) ∧
  (∀ (s : State) (c : Nat) (x : Ctx) (k : Nat) (q : Sqe), SlotReady s c 0xCB x k → x.localIndex ≠ 0 →
     ((s.inst k).state ≠ .active → exec (.proxyAdmin c) s = .next (s.complete c stInvalidField 0)) ∧
     ((s.inst k).state = .active → innerSqe x.sqe = none → exec (.proxyAdmin c) s = .next (s.complete c stInvalidField 0)) ∧
     ((s.inst k).state = .active → innerSqe x.sqe = some q →
       (proxyOpcodes.contains q.opcode = false → exec (.proxyAdmin c) s = .next (s.complete c stInvalidOpcode 0)) ∧
       (proxyOpcodes.contains q.opcode = true → sqeFieldsOk true q = false → exec (.proxyAdmin c) s = .next (s.complete c stInvalidField 0)) ∧
       (sqeFieldsOk true q = true →
         (q.opcode = 0x00 → exec (.proxyAdmin c) s = .next (s.deleteSq c k q)) ∧ (q.opcode = 0x01 → exec (.proxyAdmin c) s = .next (s.createSq c k q)) ∧
         (q.opcode = 0x04 → exec (.proxyAdmin c) s = .next (s.deleteCq c k q)) ∧ (q.opcode = 0x05 → exec (.proxyAdmin c) s = .next (s.createCq c k q)) ∧
         (q.opcode = 0x08 → exec (.proxyAdmin c) s = .next (s.proxyAbort x q)) ∧
         (q.opcode = 0x02 → exec (.proxyAdmin c) s = .next (s.proxyLog x k q)) ∧ (q.opcode = 0x06 → exec (.proxyAdmin c) s = .next (s.proxyIdentify x k q)) ∧
         (q.opcode = 0x09 → exec (.proxyAdmin c) s = .next (s.proxySet x k q)) ∧ (q.opcode = 0x0A → exec (.proxyAdmin c) s = .next (s.proxyGet x k q)))))

/-- Change Share: the slot drains with the new share reserved; when none of its commands remains, or its time is over, the share is in force (during a device epoch only with that epoch's apply step, R104), journalled, and the
command waits for the seal with the drain time and the generation (R219 to R223). -/
def Obligations.ChangeShareDrainsTheSlot : Prop :=
  ∀ s : State,
    (∀ c x d, BoundaryReady s c 0xC5 x → x.sqe.data = .share d →
      let k := instKey x.port x.localIndex
      x.localIndex < (s.vport x.port).instances → (s.inst k).change = none →
      (∀ y ∈ s.ctxs, ¬(y.admin = true ∧ y.sqe.opcode = 0xC5 ∧ y.key = x.key ∧ y.localIndex = x.localIndex ∧ ∃ e, y.phase = .seal e)) →
      matchFails x.sqe.cdw11 (s.gen k) = false → (s.inst k).state = .active → shareOk d = true → s.shareRefused k d = false → s.shortOf k d = none →
      exec (.changeShare c) s = .next ((s.modInst k (fun i => { i with
        state := .draining, change := some { share := d, ctx := c, start := s.now, base := (s.vecFit k d.vectors).getD 0 } })).modCtx c (fun y => { y with phase := .drain }))) ∧
    (∀ (p : PortId) (n : LocalId) ch, (s.inst (instKey p n)).change = some ch →
      (s.modes.epoch.isSome = true → exec (.shareDrainEnd p n) s = .next s ∧ exec (.shareDrainLimitExpiry p n) s = .next s) ∧
      (s.modes.epoch = none → s.running_ (instKey p n) = [] → exec (.shareDrainEnd p n) s = .next ((s.applyChange (instKey p n)).reviewRegions)) ∧
      (s.modes.epoch = none → exec (.shareDrainLimitExpiry p n) s = .next (((s.notBefore (ch.start + s.image.faults.shareDrainLimit * 1000)).applyChange (instKey p n)).reviewRegions)) ∧
      ((s.applyChange (instKey p n)).dinst (instKey p n)).share = ch.share ∧ ((s.applyChange (instKey p n)).dinst (instKey p n)).epoch = (s.dinst (instKey p n)).epoch + 1 ∧
      ((s.applyChange (instKey p n)).inst (instKey p n)).change = none)

/-! ## Stops, admin side (14) -/

/-- Bind Stop: at READY, of a mode the image serves, in a private mode to a namespace the instance has alone, it is BOUND, journalled, and its command waits for the seal; every
other case is refused and changes nothing (R471, R472). Unbind Stop and the actions of Load Stop Image: a piece is staged, the staged image is loaded if it passes every
check, the stored one is loaded again, the staging is dropped (R486, R487, R490 to R493). -/
def Obligations.StopsAreBoundAndLoaded : Prop :=
  (∀ (s : State) (c : Nat) (x : Ctx) (k : Nat), BoundaryReady s c 0xD1 x → s.holderOn x.port x.stopIndex = some k → matchFails x.sqe.cdw11 (s.gen k) = false →
     let n := x.stopIndex
     let m := bits x.sqe.cdw10 6 4
     let modes := (((s.stop n).image.map (·.modes)).getD 0)
     ((s.stop n).state ≠ 2 → exec (.bindStop c) s = .next (s.complete c stSequence 0)) ∧
     ((s.stop n).state = 2 → modes.getLsbD (m - 1) = false → exec (.bindStop c) s = .next (s.complete c stInvalidField 0)) ∧
     ((s.stop n).state = 2 → modes.getLsbD (m - 1) = true → 4 ≤ m → x.sqe.nsid ≠ 0 → exec (.bindStop c) s = .next (s.complete c stInvalidField 0)) ∧
     ((s.stop n).state = 2 → modes.getLsbD (m - 1) = true → ((4 ≤ m ∧ x.sqe.nsid = 0) ∨ (m ≤ 3 ∧ ∃ v, s.ns x.sqe.nsid = some v ∧ v.spec.nmic = 0 ∧ x.sqe.nsid ∈ (s.dinst k).attached ∧
         (xformDir m false = true → s.xform x.sqe.nsid false = none) ∧ (xformDir m true = true → s.xform x.sqe.nsid true = none))) →
       ∃ t, exec (.bindStop c) s = .next t ∧ (t.stop n).state = 3 ∧ (t.binding n).mode = m ∧ (t.binding n).nsid = x.sqe.nsid ∧ (t.binding n).window = x.sqe.cdw10.getLsbD 7 ∧
         (t.binding n).image = (s.stop n).image ∧ (∀ j ≠ n, t.binding j = s.binding j ∧ t.stop j = s.stop j) ∧ ∃ y, t.ctx c = some y ∧ y.phase = .seal s.jrn.openEpoch)) ∧
  (∀ (s : State) (c : Nat) (x : Ctx) (n k : Nat),
     (BoundaryReady s c 0xD4 x → n = x.stopIndex → s.holderOn x.port n = some k → matchFails x.sqe.cdw11 (s.gen k) = false →
       ((s.stop n).epoch.isSome = true ∨ (s.stop n).state = 3 ∨ (s.stop n).state = 4) →
       let clear := x.sqe.cdw10.getLsbD 4
       exec (.unbindStop c) s = .next ((s.modCtx c (fun y => { y with phase := .drain })).startEpoch n (.unbind clear) (some c))) ∧
     (LoadReady s c 0 x n k →
       let off := x.sqe.cdw12.toNat
       let len := x.sqe.cdw13.toNat
       ((off % 4096 ≠ 0 ∨ len % 4 ≠ 0 ∨ len < 4 ∨ 2 ^ 21 < len ∨ 48 * 2 ^ 20 < off + len) → exec (.loadStopImageTransfer c) s = .next (s.complete c stInvalidField 3)) ∧
       (¬(off % 4096 ≠ 0 ∨ len % 4 ≠ 0 ∨ len < 4 ∨ 2 ^ 21 < len ∨ 48 * 2 ^ 20 < off + len) → (s.stop n).stagedPkg = false → exec (.loadStopImageTransfer c) s = .next
         ((s.modStop n (fun y => { y with
           staging := (y.staging.filter (fun p => !(decide (off ≤ p.off) && decide (p.off + p.len ≤ off + len)))) ++ [⟨off, len⟩]
           stagedPkg := false
           staged := match x.sqe.data with
             | .stopPiece (some i) => some i
             | _ => y.staged })).complete c .success 0))) ∧
     (∀ ok cs os, LoadReady s c 1 x n k →
       let img := match (s.stop n).staged with
         | some i => if (s.stop n).stagedComplete i then some i else none
         | none => none
       let r := s.loadRefusal n img ok cs os
       (s.serving = false → exec (.loadStopImageLoad c ok cs os) s = .next (s.complete c stSequence 10)) ∧
       (s.serving = true → r ≠ 0 → exec (.loadStopImageLoad c ok cs os) s = .next (s.complete c (refusalStatus r) (BitVec.ofNat 32 r))) ∧
       (∀ i, s.serving = true → r = 0 → img = some i → exec (.loadStopImageLoad c ok cs os) s = .next (s.acceptLoad n i (some c)))) ∧
     (LoadReady s c 2 x n k →
       (s.serving = false → exec (.loadStopImageReload c) s = .next (s.complete c stSequence 10)) ∧
       (s.serving = true → s.store.find n = none → exec (.loadStopImageReload c) s = .next (s.complete c stSequence 9)) ∧
       (s.serving = true → (s.store.find n).isSome = true → exec (.loadStopImageReload c) s = .next ((s.modCtx c (fun y => { y with phase := .drain })).startEpoch n .reload (some c)))) ∧
     (LoadReady s c 3 x n k → exec (.loadStopImageDiscard c) s = .next
       (((if (s.stop n).stagedPkg then s.abandonPackage else s).modStop n (fun y => { y with staging := [], staged := none, stagedPkg := false })).complete c .success 0)))

/-! ## Voicing Select (02) -/

/-- A dry run, and a change that is refused or of class 0, changes nothing (but the failed slot MD_VOICING_STATUS tells of) and completes with CLASS, PORTS and REFUSAL filled in (R67, R68); an accepted change is a
device epoch of cause 2. -/
def Obligations.VoicingSelectAnswersFirst : Prop :=
  ∀ (s : State) (c : Nat) (x : Ctx), AdminReady s c 0xD8 x → bits x.sqe.cdw10 7 2 = 0 → bits x.sqe.cdw10 31 10 = 0 →
    let a := s.voicingAnswer (bits x.sqe.cdw10 1 0) (x.sqe.cdw10.getLsbD 8)
    let u := if a.2.2 = 1 then s.failSlot (bits x.sqe.cdw10 1 0) (s.checkSlot (bits x.sqe.cdw10 1 0)) else if a.2.2 = 3 then s.failSlot (bits x.sqe.cdw10 1 0) 7 else s
    let dw0 : W32 := BitVec.ofNat 32 (a.1 + a.2.2 * 256 + a.2.1 * 65536)
    (a.2.2 ≠ 0 → x.sqe.cdw10.getLsbD 9 = false → exec (.voicingSelect c) s = .next (u.complete c (if a.2.2 ≤ 3 then stInvalidField else stSequence) dw0)) ∧
    (a.2.2 ≠ 0 → x.sqe.cdw10.getLsbD 9 = true → exec (.voicingSelectDryRun c) s = .next (u.complete c (if a.2.2 ≤ 3 then stInvalidField else stSequence) dw0)) ∧
    (a.2.2 = 0 → x.sqe.cdw10.getLsbD 9 = true → exec (.voicingSelectDryRun c) s = .next (s.complete c .success dw0)) ∧
    (a.2.2 = 0 → x.sqe.cdw10.getLsbD 9 = false → a.1 = 0 → exec (.voicingSelect c) s = .next (s.complete c .success dw0)) ∧
    (a.2.2 = 0 → x.sqe.cdw10.getLsbD 9 = false → a.1 ≠ 0 → exec (.voicingSelect c) s = .next (s.startDevEpoch 2 (.voicing (bits x.sqe.cdw10 1 0) a.1 a.2.1) (some c)))

/-! ## The safety mailbox (17) -/

/-- Unprivileged requests: a challenge bound to the active operator key, the identity, the status; a malformed one is RESULT 2 and a wrong key RESULT 3 (R564, R565, R568). What a
privileged request is turned away with, in this order: 7 within 10 s of the last under lockout, 4 without its challenge, 2 for its form, 3 for its signature, which is
counted; and a challenge expires (R565 to R568). A request that comes while the partition takes none waits behind those that wait, and a ninth is RESULT 8 (R564). -/
def Obligations.MailboxRequestsAreChecked : Prop :=
  (∀ (s : State) (h : MbHdr) (b : MbBody) (run : State → State), s.mbSource h = true → s.mbBusy = true →
     (8 ≤ s.part.queue.length → s.mbArrives h b run = s.mbAnswer (mbCode b) h 8 false []) ∧
     (s.part.queue.length < 8 → (s.mbArrives h b run).part.queue = s.part.queue ++ [⟨h, b⟩] ∧ (s.mbArrives h b run).otp = s.otp ∧ (s.mbArrives h b run).keep = s.keep)) ∧
  (∀ (s : State) (h : MbHdr), MailReady s h → h.resvZero = true →
     (∀ key, h.length = 96 → s.operatorHash = some key → ∃ (t : State) (f : List Field), exec (.getChallenge h key) s = .next (t.mbAnswer 0x0001 h 0 false f) ∧
       t.part.challenges.length ≤ max 8 s.part.challenges.length ∧ (∃ i, (⟨i, key, h.src, s.now⟩ : Challenge) ∈ t.part.challenges) ∧ t.otp = s.otp ∧ t.keep = s.keep ∧ t.live = s.live) ∧
     (∀ key, h.length = 96 → s.operatorHash ≠ some key → exec (.getChallenge h key) s = .next ((s.report srcPartition 0x0E01 0 s.keep.authFails).mbAnswer 0x0001 h 3 false [])) ∧
     (h.length = 0 → exec (.readIdentity h) s = .next (s.mbAnswer 0x0002 h 0 false
       [⟨0x020, 0, 64, Config.serial.toNat⟩, ⟨0x028, 0, 160, Config.sn.toNat⟩, ⟨0x03C, 0, 768, Config.identityKey.toNat⟩, ⟨0x09C, 0, 64, s.spRpl.toNat⟩])) ∧
     (h.length = 0 → exec (.readStatus h) s = .next (s.mbAnswer 0x0003 h 0 false [⟨0x020, 0, 64, s.spStatus.toNat⟩, ⟨0x028, 0, 64, s.krSecurity.toNat⟩, ⟨0x030, 0, 64, s.krCell.toNat⟩])) ∧
     (h.length ≠ 0 → exec (.readIdentity h) s = .next (s.mbAnswer 0x0002 h 2 false []) ∧ exec (.readStatus h) s = .next (s.mbAnswer 0x0003 h 2 false []))) ∧
  (∀ (s : State) (h : MbHdr), MailReady s h →
     (∀ (v : W64) (x : Sample) (lock st p w : Bool) (l slot : Nat) (kcv : BitVec 64) (hash : BitVec 384) (e : Fin 4),
       ∀ r ∈ ([(Instr.setThreshOvr h v, 0x10, 8), (Instr.clearBackupWarning h, 0x11, 0), (Instr.releaseSafeHold h x, 0x12, 0), (Instr.setUpdateLock h lock, 0x13, 1),
           (Instr.setRpl h l st, 0x20, 1), (Instr.loadKey h slot p w kcv, 0x21, 80), (Instr.clearKey h slot, 0x22, 2), (Instr.revokeImageKey h e, 0x31, 1)] ++
         (if s.otp.operatorKeys.isEmpty then [] else [(Instr.rotateOperatorKey h hash st, 0x30, 48)]) : List (Instr × Nat × Nat)),
       (∀ t, s.keep.lockout = true → s.part.lastPriv = some t → s.now < t + 10000000 → exec r.1 s = .next
         ((s.modPart (fun p => { p with challenges := p.challenges.filter (fun d => !(d.index == h.challenge && sameSource d.src h.src)) })).mbAnswer r.2.1 h 7 true [])) ∧
       ((s.keep.lockout = false ∨ ∀ t, s.part.lastPriv = some t → t + 10000000 ≤ s.now) →
         let v := s.modPart (fun p => { p with lastPriv := some s.now })
         (s.part.challenges.find? (fun c => c.index == h.challenge && sameSource c.src h.src) = none → exec r.1 s = .next (v.mbAnswer r.2.1 h 4 true [])) ∧
         (∀ c, s.part.challenges.find? (fun c => c.index == h.challenge && sameSource c.src h.src) = some c →
           let w := v.modPart (fun p => { p with challenges := p.challenges.filter (fun d => !(d.index == c.index)) })
           ((h.resvZero = false ∨ h.length ≠ r.2.2) → exec r.1 s = .next (w.mbAnswer r.2.1 h 2 true [])) ∧
           (h.resvZero = true → h.length = r.2.2 → h.sigKey ≠ some c.key → exec r.1 s = .next ((w.mbAnswer r.2.1 h 3 true []).authFailed))))) ∧
     (∀ (i : Fin 8) c, s.part.challenges.find? (fun c => c.index == i.val) = some c → exec (.challengeExpiry i) s = .next ((s.notBefore (c.at_ + 60000000)).modPart (fun p => { p with challenges := p.challenges.filter (fun c => !(c.index == i.val)) }))))

/-- Privileged requests that pass every check have their effect and answer RESULT 0: thresholds, the backup warning, the update lock, the release from SAFE-HOLD once every
cause's condition is met, and the change of level as a device epoch of cause 3 (R82, R89, R559, R579, R591). -/
def Obligations.AuthenticRequestsTakeEffect : Prop :=
  ∀ (s : State) (h : MbHdr),
    let u := s.authenticated h
    (∀ v, Authentic s h 8 → exec (.setThreshOvr h v) s = .next (if threshOk v then (u.keepWrite (fun k => { k with threshOvr := v })).mbAnswer 0x0010 h 0 true [] else u.mbAnswer 0x0010 h 2 true [])) ∧
    (Authentic s h 0 → exec (.clearBackupWarning h) s = .next (((u.keepWrite (fun k => { k with backupWarn := false })).setDegrade dgBackup false).mbAnswer 0x0011 h 0 true [])) ∧
    (∀ l, Authentic s h 1 →
      let w := u.keepWrite (fun k => { k with updateLock := l, lockTime := s.rtc / 1000 })
      exec (.setUpdateLock h l) s = .next ({ w with format := w.format.map (fun (r : FormatRec) => { r with updateLock := l }) }.mbAnswer 0x0013 h 0 true [])) ∧
    (∀ x, Authentic s h 0 → (s.modes.mode ≠ .safeHold ∨ u.modes.causes.all (u.releaseOk x) = false) → exec (.releaseSafeHold h x) s = .next (u.mbAnswer 0x0012 h 5 true [])) ∧
    (∀ x, Authentic s h 0 → s.modes.mode = .safeHold → u.modes.causes.all (u.releaseOk x) = true →
      let w := if u.keep.lockout then (u.keepWrite (fun k => { k with lockout := false, authFails := 0 })).report srcPartition 0x0E02 0 0 else u
      exec (.releaseSafeHold h x) s = .next (w.startBringup.mbAnswer 0x0012 h 0 true []) ∧ w.startBringup.modes.mode = .bringUp) ∧
    (∀ l st, Authentic s h 1 →
      (l = u.rpl → exec (.setRpl h l st) s = .next (u.mbAnswer 0x0020 h 0 true [])) ∧
      (l ≠ u.rpl → u.rplRefusal l st ≠ 0 → exec (.setRpl h l st) s = .next (u.mbAnswer 0x0020 h (u.rplRefusal l st) true [])) ∧
      (l ≠ u.rpl → u.rplRefusal l st = 0 → ∃ t, exec (.setRpl h l st) s = .next t ∧ t.modes.mode = .quiesce ∧ t.modes.quiesceCause = 3 ∧ t.otp = s.otp ∧ t.live = s.live))

/-- Keys and fuses: a key that unwraps makes an empty slot LOADED and a locked one ACTIVE, a LOADED one is cleared, each of them that is kept rewrites the key table, the operator key rotates into the next free entry,
and an image key is revoked unless it is the last (R576, R577, R584). -/
def Obligations.KeysAndFuses : Prop :=
  ∀ (s : State) (h : MbHdr),
    let u := s.authenticated h
    (∀ slot p kcv, Authentic s h 80 → slot < 4096 →
      let k := s.part.keys.get {} slot
      let written := fun (t : State) => if p = true ∨ k.persist = true then t.rewriteKeys else t
      (k.state = .empty → exec (.loadKey h slot p true kcv) s =
        .next ((written (u.modPart (fun y => { y with keys := y.keys.set slot { state := .loaded, persist := p, kcv := some kcv, gen := k.gen + 1 } }))).mbAnswer 0x0021 h 0 true [])) ∧
      (k.state = .locked → (k.kcv = none ∨ k.kcv = some kcv) → exec (.loadKey h slot p true kcv) s =
        .next ((written (u.modPart (fun y => { y with keys := y.keys.set slot { k with state := .active, persist := p, kcv := some kcv } }))).mbAnswer 0x0021 h 0 true [])) ∧
      ((k.state = .empty ∨ k.state = .locked) → exec (.loadKey h slot p false kcv) s = .next (u.mbAnswer 0x0021 h 9 true []))) ∧
    (∀ slot, Authentic s h 2 → slot < 4096 →
      ((s.part.keys.get {} slot).state = .loaded → exec (.clearKey h slot) s =
        let w := u.modPart (fun y => { y with keys := y.keys.set slot { gen := (s.part.keys.get {} slot).gen } })
        .next ((if (s.part.keys.get {} slot).persist then w.rewriteKeys else w).mbAnswer 0x0022 h 0 true [])) ∧
      ((s.part.keys.get {} slot).state ≠ .loaded → exec (.clearKey h slot) s = .next (u.mbAnswer 0x0022 h 5 true []))) ∧
    (∀ hash st, s.otp.operatorKeys = [] → MailReady s h → h.resvZero = true → h.length = 48 →
      (s.rpl = 0 → st = true → exec (.rotateOperatorKey h hash st) s = .next ((s.enrol hash).mbAnswer 0x0030 h 0 false []) ∧ (s.enrol hash).otp.operatorKeys = [hash]) ∧
      (s.rpl = 0 → st = false → exec (.rotateOperatorKey h hash st) s = .next (s.mbAnswer 0x0030 h 6 false []))) ∧
    (∀ hash st, s.otp.operatorKeys ≠ [] → Authentic s h 48 →
      (s.otp.operatorKeys.length < 4 → exec (.rotateOperatorKey h hash st) s = .next ((u.enrol hash).mbAnswer 0x0030 h 0 true []) ∧ (u.enrol hash).otp.operatorKeys = s.otp.operatorKeys ++ [hash]) ∧
      (4 ≤ s.otp.operatorKeys.length → exec (.rotateOperatorKey h hash st) s = .next (u.mbAnswer 0x0030 h 2 true []))) ∧
    (∀ e : Fin 4, Authentic s h 1 →
      let new := s.otp.imageRevoke ||| BitVec.ofNat 4 (2 ^ e.val)
      (s.otp.imageRevoke.getLsbD e.val = true → exec (.revokeImageKey h e) s = .next (u.mbAnswer 0x0031 h 0 true [])) ∧
      (s.otp.imageRevoke.getLsbD e.val = false → new = 15 → exec (.revokeImageKey h e) s = .next (u.mbAnswer 0x0031 h 2 true [])) ∧
      (s.otp.imageRevoke.getLsbD e.val = false → new ≠ 15 → exec (.revokeImageKey h e) s =
        .next (({ u with otp := { u.otp with imageRevoke := new } }.report srcPartition 0x0E04 1 e.val).mbAnswer 0x0031 h 0 true [])))

/-! ## I/O commands and the write path (05, 07, 09) -/

/-- The I/O commands begin: writes wait for cache space, or are refused under media write-protect (R303, R385); a Write Zeroes of whole units only waits for its order; reads
and computes look their units up; a Dataset Management without Deallocate, and a Flush with the bellows ready, complete at once (R168, R169, R243). A write that asks for
space stands behind those that asked before; it is not past its caught point and nothing of it is visible (R303): only its phase and the queue for space change. -/
def Obligations.IoCommandsBegin : Prop :=
  (∀ (s : State) (c : Nat) (x : Ctx) (v : Ns),
     (IoReady s c 0x01 x v → exec (.write c) s = .next (if s.health.writeProtect then s.complete c stExhausted 0 else s.askSpace c x.wt)) ∧
     (IoReady s c 0x08 x v → s.health.writeProtect = false →
       let u := s.modCtx c (fun y => { y with data := List.replicate x.sqe.nlb (zeroBlock v.spec) })
       exec (.writeZeroes c) s = .next (if (x.destUnits v.spec).isEmpty then (u.modCtx c (fun y => { y with phase := .order })).tryWrite c else u.askSpace c x.wt)) ∧
     (IoReady s c 0x08 x v → s.health.writeProtect = true → exec (.writeZeroes c) s = .next (s.complete c stExhausted 0)) ∧
     (IoReady s c 0x09 x v → exec (.datasetManagement c) s =
       .next (if x.sqe.cdw11.getLsbD 2 then (s.modCtx c (fun y => { y with phase := .order })).tryDsm c else s.complete c .success 0)) ∧
     (IoReady s c 0x02 x v → exec (.read c) s = .next (s.beginRead c v)) ∧
     (IoReady s c 0x0C x v → exec (.verify c) s = .next (s.beginRead c v)) ∧
     (IoReady s c 0x82 x v → exec (.compute c) s = .next (match s.computeStop x with
       | some st => s.complete c st 0
       | none => s.beginRead c v)) ∧
     (IoReady s c 0x84 x v → exec (.computeCopy c) s = .next (if s.health.writeProtect then s.complete c stExhausted 0 else match s.computeStop x with
       | some st => s.complete c st 0
       | none => s.beginRead c v)) ∧
     (s.ctx c = some x → x.admin = false → x.phase = .ready → x.sqe.opcode = 0x00 → s.active = true → s.hostFenced = false →
       (s.bellowsReady = true → exec (.flush c) s = .next (s.complete c .success 0)) ∧
       (s.bellowsReady = false → exec (.flush c) s = .next
         (((s.modCtx c (fun y => { y with phase := .program })).closeHolding ((x.placed.map (fun p => p.mun)).filter s.inStripe)).tryFlush c)))) ∧
  (∀ (s : State) (c : Nat) (x : Ctx) (v : Ns), IoReady s c 0x01 x v → s.health.writeProtect = false →
     ∃ t, exec (.write c) s = .next t ∧ t.cache.waiting = s.cache.waiting ++ [c] ∧ t.cache.stripes = s.cache.stripes ∧ t.cw = s.cw ∧ t.live = s.live ∧ t.out = s.out ∧ t.insts = s.insts ∧
       t.ports = s.ports ∧ (∃ y, t.ctx c = some y ∧ y.phase = .space ∧ y.askedAt = s.now ∧ y.wt = x.wt ∧ y.sqe = x.sqe) ∧ (∀ d, d ≠ c → t.ctx d = s.ctx d))

/-- The write path's engines: space is granted in fetch order (R303) unless it is held; a write whose data is there goes through its transform and commits; a merge read
lets its write go on; stripes close when idle for 1 s, or 100 µs after their first write-through codeword (R302, R314); memory errors beyond two of a slot lose
codewords (R311). -/
def Obligations.WritePathEngines : Prop :=
  ∀ s : State,
    (s.cache.grantHold = false → s.hostFenced = false → exec .cacheSpaceGrant s = .next (s.grantAll s.cache.waiting.length).refreshHeld) ∧
    (∀ c x bs, s.ctx c = some x → x.phase = .granted → s.hostFenced = false → x.held = false →
      (x.mover = none → bs.length = x.sqe.nlb → exec (.writeCommit c bs) s = .next ((s.modCtx c (fun y => { y with data := bs })).streamWrite c).retry) ∧
      (x.mover.isSome = true → exec (.writeCommit c bs) s = .next (s.streamWrite c).retry)) ∧
    (∀ c x u, s.ctx c = some x → x.merge.contains u = true → s.ops = [] → s.solves = [] →
      let t := s.modCtx c (fun y => { y with merge := y.merge.filter (fun w => !(w == u)), merged := u :: y.merged })
      ((x.phase = .media ∨ x.phase = .stop) → exec (.mergeReadComplete c u) s = .next s) ∧
      (x.phase ≠ .merge → x.phase ≠ .media → x.phase ≠ .stop → exec (.mergeReadComplete c u) s = .next (t.tryWrite c).retry) ∧
      (x.phase = .merge → (∃ w ∈ x.merge, w ≠ u) → exec (.mergeReadComplete c u) s = .next t) ∧
      (x.phase = .merge → (∀ w ∈ x.merge, w = u) → x.sqe.opcode = 0x01 → exec (.mergeReadComplete c u) s = .next (t.modCtx c (fun y => { y with phase := .granted }))) ∧
      (x.phase = .merge → (∀ w ∈ x.merge, w = u) → x.sqe.opcode ≠ 0x01 → exec (.mergeReadComplete c u) s = .next (t.arrive c).retry)) ∧
    (∀ i x, s.stripe i = some x → x.closed = false →
      (x.used ≠ [] → exec (.stripeIdleClose i) s = .next ((s.notBefore (x.placedAt + 1000000)).closeStripe i).refreshHeld) ∧
      (∀ t, x.firstWt = some t → exec (.writeThroughStripeClose i) s = .next ((s.notBefore (t + 100)).closeStripe i).refreshHeld)) ∧
    (∀ muns n,
      ((muns.filter s.inStripe).length + n ≤ 2 → exec (.hbmUncorrectableError muns n) s =
        .next (s.modCache (fun c => { c with repairs := min 65535 (c.repairs + (muns.filter s.inStripe).length + n) }))) ∧
      (∀ m nsid u, muns.filter s.inStripe = [m] → 2 < 1 + n → s.unitOf m = some (nsid, u) →
        let t := s.setCodeword m { s.codeword m with lost := true }
        t.unitOf m = some (nsid, u) → exec (.hbmUncorrectableError muns n) s = .next ((t.deferError nsid u 1 (t.codeword m).epoch).markUnit nsid u).retry))

/-- The journal's epochs (R99, R101, R259): an epoch closes 10 ms after it opened or with a full ring, and not before (log entry 2), never beside another that is sealing; its commit point makes its
records durable, and only then; what is in force does not change. -/
def Obligations.JournalEpochsSeal : Prop :=
  ∀ s : State,
    (s.hostFenced = false → s.jrn.sealing = none → ∃ t, exec .journalEpochClose s = .next t ∧ s.now ≤ t.now ∧ (s.ringFull = false → s.jrn.openedAt + 10000 ≤ t.now) ∧ t.jrn.openedAt = t.now ∧
      t.jrn.sealing = some s.jrn.opened ∧ t.jrn.opened = [] ∧ t.jrn.openEpoch = s.jrn.openEpoch + 1 ∧ t.live = s.live ∧ t.sealed = s.sealed) ∧
    (s.jrn.sealing.isSome = true → exec .journalEpochClose s = .next s) ∧
    (∀ rs, s.hostFenced = false → s.jrn.sealing = some rs → ∃ t, exec .journalSealCommit s = .next t ∧ t.sealed = rs.foldl Durable.apply s.sealed ∧ t.jrn.sealing = none) ∧
    (s.jrn.sealing = none → exec .journalSealCommit s = .next s)

/-! ## Chanters and reed links (10, 13) -/

/-- The chanter of a link: it issues what it picks, resumes or suspends the operation that runs, and gives a die that does not answer over to the decode ladder or the
die's failure (R330, R335 to R340, R346, R396). -/
def Obligations.ChantersIssueAndTimeOut : Prop :=
  ∀ (s : State) (l : LinkId) (d : Fin 18),
    ((s.link l).open = true → (s.die (dieKey l d)).health ≠ .suspect → (s.die (dieKey l d)).health ≠ .failed →
      (∀ o, s.pick l d = some (o, none) → exec (.chanterIssue l d) s = .next (s.issue o)) ∧
      (∀ o t, s.pick l d = some (o, some t) → exec (.chanterIssue l d) s = .next ((s.modDie (dieKey l d) (fun x => { x with deficits := t })).issue o)) ∧
      (∀ r, s.pick l d = none → s.running l d = some r → s.modes.flush = none → r.suspended = false → exec (.chanterIssue l d) s = .next (s.considerSuspend r)) ∧
      (∀ r, s.pick l d = none → s.running l d = some r → s.modes.flush = none → r.suspended = true → (s.queued l d).any (fun o => o.cls == .host && o.isRead) = false →
        (s.readsOut l d) = [] → exec (.chanterIssue l d) s = .next (s.resumeOp r))) ∧
    (∀ r t, s.running l d = some r → r.windowAt = some t → r.suspended = true → (s.link l).open = true → s.modes.flush = none →
      exec (.suspendWindowExpiry l d) s = .next ((s.notBefore (t + (if r.isErase then 300 else 150))).resumeOp r)) ∧
    (∀ tag o, s.ops.find? (fun o => o.link == l.val && o.tag == some tag && o.isRead && o.owner != .none) = some o → s.timePaused l = false →
      (∀ i, o.owner ≠ .member i true) →
      (let u := s.notBefore (o.issuedAt + s.image.faults.dieTimeout); exec (.dieReadTimeout l tag) s = .next (if (s.link l).lostAt.isSome then u.toStep4 o else (u.suspectDie l o.die).allToStep4 [o]))) ∧
    (∀ t, (s.die (dieKey l d)).probeAt = some t → (s.die (dieKey l d)).health = .suspect → exec (.dieOpTimeout l d) s = .next ((s.notBefore (t + s.image.faults.dieTimeout)).failDie l d)) ∧
    (∀ r, (s.die (dieKey l d)).probeAt = none → s.running l d = some r → r.askedSuspend = true → r.suspended = false → r.askedAt + s.image.faults.dieTimeout ≤ max s.now (r.issuedAt + r.suspTime + opMax (s.desc l) r + s.image.faults.dieTimeout) →
      exec (.dieOpTimeout l d) s = .next (((s.notBefore (r.askedAt + s.image.faults.dieTimeout)).modOp r.id (fun o => { o with askedSuspend := false })).suspectDie l d)) ∧
    ((s.link l).state = 2 → exec (.linkAdaptation l) s = .next (s.modLink l (fun x => { x with adapted := s.now }))) ∧
    ((s.link l).state = 2 → s.mediaDrone = true → (s.die (dieKey l d)).health = .active → ∀ b, 64 * b < (s.desc l).blocks →
      let u := (s.modDie (dieKey l d) (fun x => { x with offsetsAt := x.offsetsAt.set b s.now, slow := x.slow.set b 0 }.calibrate b (readLevels (s.desc l)) s.free)).drew
      let slots := fun (second : Bool) => offsetSlot ((u.die (dieKey l d)).offsetSet b second) 0 (readLevels (u.desc l))
      exec (.readOffsetCalibration l d b) s = .next (if (s.link l).version = 3
        then (u.sendPod l 1 (.loadOffsets d b false (slots false))).sendPod l 1 (.loadOffsets d b true (slots true)) else u))

/-- Frames of a reed link (R430, R432, R434, R456): a bad CRC and a gap are answered by a NAK, an overfull or overlapping frame too, an acknowledgement of a frame never sent is a violation
of the pod, a duplicate is dropped, and the frame next in sequence is taken with its messages and units in order; what its codewords needed corrected is counted first. The timers and the recovery: replay, the loss of FEC lock,
each step of the recovery, the pause of the die timeouts (over for good 200 µs after power fails, R445), a status that stays away, the window of a pod's violations, a pod's statistics (R426, R435, R441, R442, R451, R456, R457). -/
def Obligations.ReedLinks : Prop :=
  (∀ (s : State) (l : LinkId) (f : LinkFrame), (s.link l).state = 2 →
     let n := (f.ackSeq + 4096 - (s.link l).acked) % 4096
     let ahead := (f.seq + 4096 - (s.link l).lastAcc) % 4096
     let r := s.countFec l f
     (f.crcOk = false → exec (.linkFrameReceived l f) s = .next ((r.modLink l (fun x => { x with crcFails := min 0xFFFFFFFF (x.crcFails + 1) })).nakFrame l).retry) ∧
     (f.crcOk = true → (79 < f.msgSlots + f.dataSlots ∨ f.overlap = true) → exec (.linkFrameReceived l f) s = .next (r.nakFrame l).retry) ∧
     (f.crcOk = true → f.msgSlots + f.dataSlots ≤ 79 → f.overlap = false →
       ((s.link l).held < n → n < 2048 → exec (.linkFrameReceived l f) s = .next ((r.podViolation l).violRecovery l).retry) ∧
       (¬((s.link l).held < n ∧ n < 2048) →
         (f.msgSlots = 0 → f.dataSlots = 0 → exec (.linkFrameReceived l f) s = .next (if f.resvZero then r.ackFrame l f else (r.ackFrame l f).podViolation l).retry) ∧
         (¬(f.msgSlots = 0 ∧ f.dataSlots = 0) →
           ((ahead = 0 ∨ 2048 ≤ ahead) → exec (.linkFrameReceived l f) s = .next r) ∧
           (1 < ahead → ahead < 2048 → exec (.linkFrameReceived l f) s = .next (r.nakFrame l).retry) ∧
           (ahead = 1 →
             let u := (r.modLink l (fun x => { x with lastAcc := f.seq, nakOut := false })).ackFrame l f
             exec (.linkFrameReceived l f) s = .next (f.units.foldl (fun (t : State) y => t.podUnit l y)
               (if f.resvZero then f.msgs.foldl (fun (t : State) m => t.podMsg l m) u else u.podViolation l)).retry))))) ∧
  (∀ (s : State) (l : LinkId),
     ((s.link l).state = 2 → (s.link l).held ≠ 0 →
       exec (.replayTimeout l) s = .next ((s.notBefore ((s.link l).ackAt + (if (s.link l).rate = 1 then 13 else if (s.link l).rate = 2 then 7 else 4))).replay l).retry) ∧
     ((s.link l).state = 2 → exec (.fecLockLoss l) s = .next (s.startRecovery l 1)) ∧
     ((s.link l).state = 3 → s.recoveryOver l = true → ∀ b, exec (.linkRecoveryStepResult l b) s = .next s) ∧
     ((s.link l).state = 3 → s.recoveryOver l = false → exec (.linkRecoveryStepResult l false) s = .next (s.recGo l 7 ((s.link l).recStep + 1)).retry) ∧
     ((s.link l).state = 3 → s.recoveryOver l = false → (s.link l).recStep ≠ 2 → (s.link l).recStep ≠ 4 → (s.link l).recStep ≠ 6 →
       exec (.linkRecoveryStepResult l true) s = .next ((if (s.link l).trying = (s.link l).rate then s
         else (s.modLink l (fun y => { y with rate := (s.link l).trying })).logRec (.sub (.rate l (if (s.link l).trying = 1 then 56 else 112)))).linkBack l).retry) ∧
     (∀ t, (s.link l).lostAt = some t → 
       let u := if (s.notBefore (t + 200)).recoveryOver l then (s.notBefore (t + 200)).dumpWithout l else s.notBefore (t + 200)
       exec (.dieTimeoutPauseExpiry l) s = .next (u.allToStep4 ((u.waitingReads l none).filter (fun o => o.cls == .host))).retry) ∧
     ((s.link l).state = 2 → exec (.podStatusMissing l) s = .next ((s.notBefore ((s.link l).statusAt + 50000)).podSensorFailed l)) ∧
     (∃ t, exec .podViolWindowRoll s = .next t ∧ (∀ j, (t.link j).violWindow = 0 ∧ (t.link j).state = (s.link j).state) ∧ t.live = s.live ∧ t.out = s.out) ∧
     (∀ (d : Fin 18) n k, (s.link l).state = 2 → exec (.podStatsRead l d n k) s = .next (s.modDie (dieKey l d) (fun x => { x with
       resets := min 65535 (x.resets + (if x.podResets ≤ n then n - x.podResets else n)), podResets := n, tempMaxK := max x.tempMaxK k }))))

/-! ## Decode engines, cores, movers: packaged spares (01, 12) -/

/-- The ends of decodes, and the units that fail: an engine, a core or a mover that fails is replaced by its package's spare, once, and after that its work is left to
what remains (R22, R23, R420 to R422). -/
def Obligations.PackagedUnitsFailOver : Prop :=
  ∀ s : State,
    (∀ id o e b f, s.op id = some o → o.decoding = true → s.hasEngine o = true →
      (o.owner = .none → exec (.ldpcDecodeComplete id e b f) s = .next (s.dropOp id)) ∧
      (o.owner ≠ .none → exec (.ldpcDecodeComplete id e b f) s = .next ((s.countBits o b f (e == .good)).decoded o e).retry)) ∧
    (∀ (q : QuadId) o, s.oldestDecode q = some o →
      let u := (s.notBefore (o.decodeAt + 30)).modOp o.id (fun y => { y with decodeAt := max s.now (o.decodeAt + 30) })
      (s.spares.ldpcBy.get 0 q < 2 →
        let w := u.modSpares (fun x => { x with ldpc := x.ldpc - 1, ldpcBy := x.ldpcBy.set q (s.spares.ldpcBy.get 0 q + 1), ldpcDead := x.ldpcDead + 1 })
        exec (.ldpcDecodeTimeout q) s = .next (w.packageSpare 2 q (s.spares.ldpcBy.get 0 q) w.spares.ldpc (srcFirmware q))) ∧
      (2 ≤ s.spares.ldpcBy.get 0 q → exec (.ldpcDecodeTimeout q) s = .next (((u.modSpares (fun x => { x with
        ldpcLost := x.ldpcLost.set q (x.ldpcLost.get 0 q + 1), ldpcDead := x.ldpcDead + 1 })).report (srcFirmware q) (evUnnamed 12 0) q 0).reviewEngines q))) ∧
    (∀ (q : QuadId) (core : Fin 16),
      (s.spares.coresBy.get 0 q = 0 →
        let w := s.modSpares (fun x => { x with cores := x.cores - 1, coresBy := x.coresBy.set q 1, coreSub := x.coreSub.set q core })
        exec (.coreHeartbeatMiss q core) s = .next (w.packageSpare 1 (16 * q + core) 16 w.spares.cores (srcFirmware q))) ∧
      (s.spares.coresBy.get 0 q ≠ 0 → exec (.coreHeartbeatMiss q core) s = .next ((s.modSpares (fun x => { x with coresLost := x.coresLost.set q (x.coresLost.get 0 q + 1) })).report
        (srcFirmware q) (evUnnamed 12 8) (16 * q + core) 0))) ∧
    (∀ m : MoverId,
      let chs := (List.range 4).map (fun k => m.val * 4 + k)
      let q := m.val / 17
      (∃ k ∈ chs, (s.chan k).flight.isSome = true) →
      ((s.spares.moverBy.find q) = none →
        let w := (s.modSpares (fun x => { x with movers := x.movers - 1, moverBy := x.moverBy.set q m })).each chs (fun k t => t.modChan k (fun c => { c with flight := c.flight.map (fun f => { f with resumed := true }) }))
        exec (.moverNoProgress m) s = .next (w.packageSpare 3 m 17 w.spares.movers (40 + q))) ∧
      ((s.spares.moverBy.find q).isSome = true → exec (.moverNoProgress m) s = .next ((s.each chs (fun k t => t.haltChan k 0)).report (40 + q) (evUnnamed 12 9) m 0)))

/-! ## The map caches (08) -/

/-- Misses and fetches: a T1 miss is filled, or parked for T2 and T3 with the commands that wait on its line; a T2 copy that is not the line's current
record, or fails R246, goes on to T3, a T3 record that fails it loses its line, and a fetched line enters T1 once there is room (R246, R247, R257, R268 to R271). Errors of a
way are counted within a window that a way's first error opens; the window's end forgets them (R284). Maintenance operations run one at a time: a command while one runs is
only refused (MC_MAINT_STATUS.REFUSED), a region written by firmware or management is in force at once or after it, and its end starts what waits (R275, R276, R281). -/
def Obligations.MapCaches : Prop :=
  (∀ s : State,
     (∀ (x : SliceId) f, (s.slice x).miss = some f →
       let u := s.modSlice x (fun y => { y with miss := none })
       ((s.line f.nsid f.line).inT1 = true → exec (.t1MissFillComplete x) s = .next (u.fill f.nsid f.line).retry) ∧
       ((s.line f.nsid f.line).inT1 = false → exec (.t1MissFillComplete x) s = .next (((u.modSlice x (fun y => { y with parks := sat64 (y.parks + 1) })).countParks f.ctxs).park f.nsid f.line f.ctxs).retry)) ∧
     (∀ nsid line f, s.mc.parked.find? (fun f => f.nsid == nsid && f.line == line && f.issued) = some f →
       (∀ c, s.ns nsid = none → exec (.mapFetchComplete nsid ⟨line, c⟩) s = .next (s.fetchOver nsid line)) ∧
       (∀ v, s.ns nsid = some v → f.t2 = none →
         exec (.mapFetchComplete nsid ⟨line, .asWritten⟩) s = .next (s.installLine nsid line false) ∧
         exec (.mapFetchComplete nsid ⟨line, .unrepairable⟩) s = .next (s.installLine nsid line (s.live.dir.find (nsKey nsid line)).isSome) ∧
         (∀ r, exec (.mapFetchComplete nsid ⟨line, .other r⟩) s = .next (s.installLine nsid line ((s.live.dir.find (nsKey nsid line)).isSome && !s.recordGood s.mapKey nsid line r)))) ∧
       (∀ v set, s.ns nsid = some v → f.t2 = some set →
         (s.t2Way set nsid line = none → exec (.mapFetchComplete nsid ⟨line, .asWritten⟩) s = .next (s.toT3 nsid line false)) ∧
         (∀ w, s.t2Way set nsid line = some w → exec (.mapFetchComplete nsid ⟨line, .asWritten⟩) s = .next (s.installLine nsid line false)) ∧
         exec (.mapFetchComplete nsid ⟨line, .unrepairable⟩) s = .next (s.toT3 nsid line true) ∧
         (∀ r, exec (.mapFetchComplete nsid ⟨line, .other r⟩) s = .next (
           if s.recordGood (s.mc.t2Key.getD 0) nsid line r = false then s.toT3 nsid line true
           else if s.isCurrent r then s.installLine nsid line false else s.toT3 nsid line false)))) ∧
     (∀ nsid line lost, (s.makeRoom = none → s.installLine nsid line lost = s) ∧
       ∀ t, s.makeRoom = some t →
         let u := (t.fetchOver nsid line).modLine nsid line (fun x => { x with inT1 := true })
         s.installLine nsid line lost = (((if lost then u.loseLine nsid line else u).writeT1 nsid line).fill nsid line).retry)) ∧
  (∀ (s : State) (x : SliceId) (set : Fin 256) (way : Fin 17),
     (∀ u t, exec (.mapCacheWayError x set way u t) s = .next (s.wayError x set way u t)) ∧
     (((s.slice x).way set way).errWindow = true → ∃ t, exec (.wayErrorWindowExpiry x set way) s = .next t ∧ ((s.slice x).way set way).errAt + 3600000000 ≤ t.now ∧ ((t.slice x).way set way).errs = 0 ∧ ((t.slice x).way set way).errWindow = false ∧
       ((t.slice x).way set way).disabled = ((s.slice x).way set way).disabled ∧ ((t.slice x).way set way).locked = ((s.slice x).way set way).locked ∧
       (∀ j ≠ x.val, t.slice j = s.slice j) ∧ t.live = s.live)) ∧
  (∀ s : State,
     (s.mc.busy = true → ∀ i ∈ [Instr.mcClean, .mcInvalidate, .mcDiscard, .mcUnlock], exec i s = .next (s.modMc (fun m => { m with refused := true }))) ∧
     (s.mc.busy = false → exec .mcClean s = .next (s.startMaint 1 s.mc.range0 s.mc.range1) ∧ exec .mcInvalidate s = .next (s.startMaint 2 s.mc.range0 s.mc.range1) ∧
       exec .mcDiscard s = .next (s.startMaint 3 s.mc.range0 s.mc.range1) ∧ exec .mcUnlock s = .next (s.startMaint 4 s.mc.range0 s.mc.range1)) ∧
     (∀ (n : Fin 64) v w, (w = .firmware ∨ w = .management) →
       (s.mc.busy = true → exec (.mcRegionLoWrite w n v) s = .next (s.modMc (fun m => { m with waitOps := m.waitOps ++ [(100 + n.val, v, 0)] }))) ∧
       (s.mc.busy = false → exec (.mcRegionLoWrite w n v) s = .next (s.putRegion n v))) ∧
     (∀ (n : Fin 64) v w, w ≠ .firmware → w ≠ .management → exec (.mcRegionLoWrite w n v) s = .next s) ∧
     (s.mc.busy = true → exec .mcMaintDone s = .next ((s.modMc (fun m => { m with busy := false, done := true })).nextMaint (s.mc.waitOps.length + 1))))

/-! ## Upkeep of the media (07, 11) -/

/-- Garbage collection, refresh, wear levelling and the rewrites of the ladder start on what their rule picks, and not without media (R364, R366, R373 to R377, R384). -/
def Obligations.UpkeepPicksItsBands : Prop :=
  ∀ (s : State) (g : Fin 16), s.mediaOn = true → s.mediaDrone = true →
    (s.health.relocs = [] → ∀ b, s.bandsOf g = [b] → b % 16 = s.worstSet g → (s.band g b).state = .full → (s.gcRank g b ≠ 0 ∨ s.validIn g b < s.bandSlots g) →
      exec (.gcVictimStart g) s = .next (s.startReloc g b 0)) ∧
    (∀ b, pickMax (s.ageOf g) ((s.bandsOf g).filter (fun b => (s.band g b).state == .full && s.refreshDue g b)) = some b → exec (.retentionRefresh g) s =
      .next ((s.modHealth (fun h => { h with handedBy := h.handedBy.erase (bandKey g b) })).startReloc g b 1)) ∧
    (s.groupCount > g.val → s.closeDue g = true → exec (.writeClosedTimer g) s = .next (s.setClosed g true).retry) ∧
    (∀ b, (s.band g b).state = .vault → s.cache.armed.contains (bandKey g b) = false → s.lostOf g ≤ 1 → s.ops = [] → exec (.vaultRearm g b) s = .next (s.queueErase g b .drone)) ∧
    (∀ b, s.isFree g b = true → ((s.bandsOf g).filter (fun c => c % 16 == b % 16 && (s.band g c).state == .reserve)).length < 2 → exec (.reserveBandReturn g b) s = .next (s.logBand g b (.role .reserve))) ∧
    exec .retentionClockTick s = .next (s.each s.groupList (fun g t => t.modGroup g (fun x => { x with clock := x.clock + accel (s.hotPod g) }))) ∧
    (∀ mun, s.health.handed.contains mun = true → s.unitOf mun = none → exec (.ladderUnitRewrite mun) s = .next (s.modHealth (fun h => { h with handed := h.handed.filter (fun x => !(x == mun)) }))) ∧
    (∀ mun nsid u x m t, s.health.handed.contains mun = true → s.unitOf mun = some (nsid, u) → s.locate mun = some x → (s.band x.group x.band).state ≠ .victim →
      s.placeUnit x.group (copyStream 1 (s.band x.group x.band).stream) (s.cwsOf nsid) false ((List.range (s.cwsOf nsid)).map (fun j => { s.codeword (mun + j) with writer := 0, src := some mun })) = (some m, t) →
      let w := if (t.group x.group).pressed then t.modGroup x.group (fun y => { y with debt := y.debt + s.cwsOf nsid }) else t
      exec (.ladderUnitRewrite mun) s = .next ((w.modHealth (fun h => { h with handed := h.handed.filter (fun x => !(x == mun)) })).setUnit nsid u (.relocate nsid u m mun))) ∧
    (∀ (d : Fin 16) b c, 7 ≤ s.freeCount g → (∀ r ∈ s.health.relocs, ¬(r.group = g.val ∧ r.band % 16 = d.val ∧ r.why = 2)) →
      b ∈ s.bandsOf g → b % 16 = d.val → (s.band g b).state = .full → c ∈ s.bandsOf g → c % 16 = d.val →
      (∀ e ∈ s.bandsOf g, e % 16 = d.val → (s.band g e).erases ≤ (s.band g c).erases ∧ (e ≠ b → (s.band g b).erases < (s.band g e).erases)) →
      s.health.wearSpread * (s.desc (s.slotAt g 0)).ratedCycles < ((s.band g c).erases - (s.band g b).erases) * 100 →
      exec (.wearLevelling g d) s = .next (s.startReloc g b 2)) ∧
    (∀ (d : Fin 16) b, s.bandsOf g = [b] → b % 16 = d.val → exec (.wearLevelling g d) s = .next s)

/-- A relocation whose copies are all placed is journalled unit by unit, each taking effect only where its unit still lies where it was copied from (R161), and with nothing left to
copy the band waits for its erase; a checkpoint writes a dirty line's record and a segment (R260, R262). Scrubs: patrol scrub counts the row and hands on what it finds, not inside a rebuild's
scope; a memory scrub takes a spare row or chip, solves a codeword of the cache, drops a clean line, and reports the rest (R34, R311, R617, R618). -/
def Obligations.RelocationsAndScrubs : Prop :=
  (∀ s : State,
     (∀ (g : Fin 16) b r, s.reloc g b = some r → r.step = 1 → s.mediaOn = true → s.unitsIn g b = [] → s.linesIn g b = [] → r.copies = [] → r.recs = [] → s.copyLeft r = false → r.why = 0 →
       (s.band g b).state ≠ .vault → (s.band g b).state ≠ .reserve →
       ∃ t, exec (.relocationCopyComplete g b) s = .next t ∧ (t.band g b).state = .erasePending ∧ t.live = s.live.apply (.band g b .intent)) ∧
     (∀ nsid line, (s.line nsid line).dirty = true → (s.line nsid line).ckpt = false → (s.ns nsid).isSome = true → s.active = true → s.hostFenced = false →
       exec (.checkpointLine nsid line) s = .next (s.writeRecord nsid line).rewriteSegment) ∧
     (∀ nsid line, (s.line nsid line).dirty = false → s.active = true → s.hostFenced = false → exec (.checkpointLine nsid line) s = .next s.rewriteSegment) ∧
     (∀ (d : Durable) nsid u m src, d.map.get .unmapped (nsKey nsid u) ≠ .mun src → d.apply (.relocate nsid u m src) = d) ∧
     (∀ (d : Durable) nsid u m src, d.map.get .unmapped (nsKey nsid u) = .mun src → (d.apply (.relocate nsid u m src)).map.get .unmapped (nsKey nsid u) = .mun m)) ∧
  (∀ s : State,
     (∀ (g : Fin 16) b row, s.mediaDrone = true → s.scrubNext g = some (b, row) →
       (((s.band g b).state = .full ∨ (s.band g b).state = .opened ∨ (s.band g b).state = .system) ∧ row < (s.band g b).mark) ∧
       exec (.patrolScrub g b row []) s = .next ((s.testRow false).scrubOn g b row)) ∧
     (∀ (g : Fin 16) b row fs, s.scrubNext g ≠ some (b, row) → exec (.patrolScrub g b row fs) s = .next s) ∧
     (let u := s.modSpares (fun x => { x with sramRows := min 65535 (x.sramRows + 1), lastTime := s.rtc })
      exec (.memoryScrub .sramRow) s = .next ((u.logRec (.sub (.package 6 0 0))).report srcMemory (evUnnamed 12 6) 0 u.spares.sramRows)) ∧
     exec (.memoryScrub .ddrChip) s = .next ((s.modSpares (fun x => { x with ddrSpared := min 255 (x.ddrSpared + 1), lastTime := s.rtc })).report srcMemory (evUnnamed 12 10) 0 0) ∧
     (∀ mun, s.inStripe mun = true → exec (.memoryScrub (.cacheCodeword mun)) s = .next (s.modCache (fun c => { c with repairs := min 65535 (c.repairs + 1) }))) ∧
     (∀ nsid line, (s.line nsid line).dirty = false → exec (.memoryScrub (.t1Record nsid line)) s = .next (s.modLine nsid line (fun x => { x with inT1 := false }))) ∧
     (∀ nsid line, (s.line nsid line).dirty = true → exec (.memoryScrub (.t1Record nsid line)) s = .next s) ∧
     (∀ x set way, exec (.memoryScrub (.way x set way)) s = .next (s.wayError x set way true false)) ∧
     (∀ task, (s.report (srcFirmware 0) 0x0F03 task 0).ctx task = none → exec (.memoryScrub (.firmwareData task)) s = .next (s.report (srcFirmware 0) 0x0F03 task 0)) ∧
     (∀ task x, let u := s.report (srcFirmware 0) 0x0F03 task 0
       u.ctx task = some x → x.admin = true → x.phase ≠ .posted →
         (x.fails = 0 → exec (.memoryScrub (.firmwareData task)) s = .next (u.modCtx task (fun y => { y with fails := 1 }))) ∧
         (x.fails ≠ 0 → exec (.memoryScrub (.firmwareData task)) s = .next (u.complete task stInternal 0))) ∧
     exec (.memoryScrub .corrected) s = .next s)

/-! ## Members, pods, bays (12, 13) -/

/-- A pod leaves its bay, or its bay's switch reports overcurrent or a fault: the member fails; a pod that comes into the bay of a failed one is powered and trained, or refused
(R397, R403, R541, R542). A rebuild solves its next row, or ends; a spare die is verified block by block and fails with too few good ones (R392, R393, R405, R408). -/
def Obligations.PodsRebuildsAndSpareDies : Prop :=
  (∀ (s : State) (l : LinkId),
     (∀ d, (s.pod l).present = true →
       let u := s.modPod l (fun q => { q with present := false, desc := none, refused := false, mismatch := false, entering := false })
       exec (.podPresenceChange l false d) s = .next (if !(s.pod l).powered then u else if u.modes.mode == .bringUp then u.linkDead l else if u.active then (u.failPod l false).retry else u)) ∧
     (∀ d, (s.pod l).present = false → l.val ∈ s.live.deadPods → s.active = true → s.pw.rail = true → s.hostFenced = false →
       let u := s.modPod l (fun q => { q with present := true })
       (descOk d = false → exec (.podPresenceChange l true (some d)) s = .next ((u.modPod l (fun q => { q with refused := true })).report (srcAggregator l) (evUnnamed 7 3) l 0)) ∧
       (descOk d = true → 1 ≤ d.protocolMax → d.protocolMax ≤ 3 →
         let w := u.modPod l (fun q => { q with desc := some d })
         (w.slotGroups l).any (fun g => w.fitsGroup g l) = true → ∃ t, exec (.podPresenceChange l true (some d)) s = .next t ∧ (t.pod l).powered = true ∧ (t.pod l).entering = true ∧
           (t.link l).state = 1 ∧ t.out = s.out ++ [.bay l true] ∧ t.live = s.live)) ∧
     (∀ st : BayStatus, (st.overcurrent = true ∨ st.fault = true) → (s.pod l).powered = true →
       let t := if s.modes.mode = .bringUp then s.linkDead l else (s.failPod l false).retry
       exec (.baySwitchStatusPoll l st) s = .next t ∧ exec (.baySwitchIbi l st) s = .next t) ∧
     (∀ st : BayStatus, st.overcurrent = false → st.fault = false → exec (.baySwitchStatusPoll l st) s = .next s ∧ exec (.baySwitchIbi l st) s = .next s)) ∧
  (∀ s : State,
     (∀ id r, s.rebuild id = some r → s.active = true → s.hostFenced = false → s.rebuildNext r = none → ∀ found, exec (.rebuildRowSolve id found) s = .next (s.rebuildEnd r)) ∧
     (∀ id r b row m found t, s.rebuild id = some r → s.active = true → s.hostFenced = false → s.rebuildNext r = some (b, row) → s.memberAt b r.pos = some m →
       s.rebuildRow r b row m found = some t → exec (.rebuildRowSolve id found) s = .next (if (t.rebuildNext r).isNone then t.rebuildEnd r else t).retry) ∧
     (∀ (l : LinkId) (d : Fin 18) bad, (s.link l).state = 2 → (s.spareDies l).contains d.val = true → s.active = true → s.modes.ps ≠ 4 →
       exec (.spareMediaVerify l d false bad) s = .next (s.failSpareDie l d) ∧
       (let all := bad ++ (s.die (dieKey l d)).badBlocks.filter (fun b => !bad.contains b)
        let u := s.modDie (dieKey l d) (fun y => { y with badBlocks := all, verified := true })
        ((s.desc l).blocks - all.length < (s.desc l).blocksInService → exec (.spareMediaVerify l d true bad) s = .next (u.failSpareDie l d)) ∧
        ((s.desc l).blocksInService ≤ (s.desc l).blocks - all.length → ∃ t, exec (.spareMediaVerify l d true bad) s = .next t ∧ (t.die (dieKey l d)).verified = true ∧ (t.die (dieKey l d)).badBlocks = all))))

/-! ## Drones, telemetry, the event journal (19) -/

/-- Drones get nothing while they are held; the snapshot takes each port's running counters and steps its sequence number by two (odd only while it runs); the recorder
takes from one source at a time, round robin (R614 to R616, R619, R624, R625). -/
def Obligations.DronesTelemetryRecorder : Prop :=
  ∀ s : State,
    (∀ a b ds, s.modes.mode ≠ .keep → s.modes.flush = none → ∃ t, exec (.droneWindow a b ds) s = .next t ∧ t.live = s.live ∧ t.ctxs = s.ctxs ∧
      ∀ d, d < 11 → (t.drone d).lagS = min (ds.getD d (0, 0)).1 0xFFFFFFFF ∧ (s.droneHeld = true → (t.drone d).grant = 0) ∧
        (s.droneHeld = false → (t.drone d).grant ≤ (ds.getD d (0, 0)).2 ∧ (t.drone d).grant ≤ max (s.droneBudget d).1 (s.droneBudget d).2) ∧
        (s.droneHeld = false → 9 ≤ d → (t.drone d).grant = min (ds.getD d (0, 0)).2 (s.droneBudget d).2)) ∧
    (s.droneHeld = false → ∃ t, exec .telemetrySnapshot s = .next t ∧ (∀ p : PortId, (t.port p).seqNo = (s.port p).seqNo + 2 ∧ (t.port p).run = (s.port p).run ∧
      (t.port p).snap.rdCmds = (s.port p).run.rdCmds ∧ (t.port p).snap.wrBytes = (s.port p).run.wrBytes ∧
      t.hostReg p 0x2040 = BitVec.ofNat 64 ((s.port p).seqNo + 2) ∧ t.hostReg p 0x2048 = BitVec.ofNat 64 (s.port p).run.rdCmds ∧ t.hostReg p 0x2068 = s.readLat p) ∧ t.spares.page.isSome = true ∧ t.live = s.live ∧ t.out = s.out) ∧
    (∀ i, s.modes.mode ≠ .keep → s.ev.room = true → s.ev.order.find? (fun i => let q := s.ev.sources.get {} i; q.owes || !q.fifo.isEmpty) = some i →
      exec .eventRecorderTake s = .next { s with ev := { s.ev.takeFrom i with next := (i + 1) % 52 } }) ∧
    (∀ r : Report, ∀ q : Source, (q.fifo.length < 256 → (q.take r).fifo = q.fifo ++ [r] ∧ (q.take r).lost = q.lost) ∧
      (256 ≤ q.fifo.length → (q.take r).fifo = q.fifo ∧ ((q.take r).lost = q.lost ∨ ((q.take r).lost = q.lost + 1 ∧ 8 ≤ q.coals.length))))

/-! ## Stops, tenant side (14) -/

/-- A stop's frames: an unstable, overlong or malformed frame is a violation of its code, a good one goes on to its command or its mover; while the stop is fenced or in reset nothing
is heard (R466, R468, R499). A response answers its outstanding read, a read that stays away answers all ones and is a violation (R485, R499); an interrupt edge takes
the vector the map gives while it is on; a transform that stays away is a fault of the stop, a compute ends with OUTCOME 3 (R476, R482). -/
def Obligations.StopFramesAndControl : Prop :=
  (∀ (s : State) (n : StopId) (f : OutFrame),
     (s.heard n = false → exec (.stopDataOut n f) s = .next s ∧ exec (.stopEndFrame n f) s = .next s ∧ exec (.stopMoverOut n f) s = .next s) ∧
     (s.heard n = true → f.typ = 2 → f.stable = true → f.length ≤ s.maxPayload → f.extra = false → f.resvZero = true → typeAllowed (s.binding n).mode 2 = true →
       exec (.stopDataOut n f) s = .next (s.ofCommand n f (fun x s => if x.kind ≤ 2 then s.xformOut n f x else s.computeOut n f x))) ∧
     (s.heard n = true → f.typ = 3 → f.stable = true → f.length ≤ s.maxPayload → f.extra = false → f.resvZero = true → typeAllowed (s.binding n).mode 3 = true → f.code ≤ 63 →
       exec (.stopEndFrame n f) s = .next (s.ofCommand n f (fun x s => s.computeEnd n f x))) ∧
     (∀ g, s.heard n = true → f.typ = 7 → f.stable = true → f.length ≤ 4096 → f.extra = false → f.resvZero = true → typeAllowed (s.binding n).mode 7 = true → f.channel < 4 →
       (s.chan (stopMover n * 4 + f.channel)).flight = some g → g.started = true → g.desc.srcSpace = 3 → g.desc.op ≤ 2 → f.tag = g.index → g.src = none → f.offset = g.done → f.length ≠ 0 →
       exec (.stopMoverOut n f) s = .next ((s.modChan (stopMover n * 4 + f.channel) (fun c => { c with flight := some { g with
         src := some ((List.range f.length).map (fun i => (f.payload.flatten[i]?).getD 0)) } })).used n)) ∧
     (s.heard n = true → f.typ = 2 → f.stable = false → exec (.stopDataOut n f) s = .next ((s.violated n f.tag).stopViolation n 1 true)) ∧
     (s.heard n = true → f.typ = 2 → f.stable = true → (s.maxPayload < f.length ∨ f.extra = true) → exec (.stopDataOut n f) s = .next ((s.violated n f.tag).stopViolation n 2 true))) ∧
  (∀ (s : State) (n : StopId),
     (∀ (tag : Fin 16) v, s.heard n = true →
       (exec (.stopControlResponse n tag v false) s = .next (s.stopViolation n 1 true)) ∧
       (∀ r, (s.stop n).ctlReads.find? (fun e => e.1 == tag.val) = some r → exec (.stopControlResponse n tag v true) s = .next (s.ctlAnswer n r v)) ∧
       ((s.stop n).ctlReads.find? (fun e => e.1 == tag.val) = none → exec (.stopControlResponse n tag v true) s = .next (s.stopViolation n 9 false))) ∧
     (∀ (tag : Fin 16) r, (s.stop n).ctlReads.find? (fun e => e.1 == tag.val) = some r → exec (.stopControlReadTimeout n tag) s = .next (((s.notBefore ((s.stop n).ctlAt.get 0 tag + 10)).stopViolation n 9 false).ctlAnswer n r 0xFFFFFFFFFFFFFFFF)) ∧
     (∀ (line : Fin 8) k, s.heard n = true → (line.val < 4 ∨ 0x0301 ≤ s.image.shell) → s.holder n = some k →
       let m := (s.stop n).irqMap line
       let pv := (s.dinst k).vecBase + m % 512
       ((s.dinst k).share.vectors ≤ m % 512 → exec (.stopIrqEdge n line) s = .next (s.stopViolation n 0x0B false)) ∧
       (m % 512 < (s.dinst k).share.vectors → m / 32768 = 0 → exec (.stopIrqEdge n line) s = .next s) ∧
       (m % 512 < (s.dinst k).share.vectors → m / 32768 ≠ 0 → (s.inst k).state ≠ .isolated → (s.port (keyPort k)).heldIrq.any (fun x => x.1 == pv) = false →
         exec (.stopIrqEdge n line) s = .next (s.interrupt (keyPort k) pv none)) ∧
       (m % 512 < (s.dinst k).share.vectors → (s.inst k).state = .isolated → exec (.stopIrqEdge n line) s = .next s)) ∧
     (∀ tag x, (s.stop n).cmd tag = some x →
       (∀ i, x.kind ≤ 2 → s.heard n = true → (List.range x.accepted).find? (fun i => !x.answered.contains i) = some i →
         exec (.stopXformTimeout n tag) s = .next ((s.notBefore ((x.acceptAt[i]?).getD 0 + 10000)).xformFault n)) ∧
       (∀ t0, 2 < x.kind → x.startAt = some t0 → exec (.stopComputeTimeout n tag) s = .next
         (((((((s.notBefore (t0 + 1000000)).emit (.toStop n { typ := 5, tag := tag })).endTag n tag).markGone n tag).complete x.ctx .success (computeDw0 3 (if x.kind = 3 then x.highest else 0) 0)).stopViolation n 0x0A false).checkDrain n)) ∧
       (∀ seq, s.heard n = true → seq = x.accepted → x.accepted < x.framesOut → exec (.ingressBeatAccepted n none tag seq) s = .next
         ((s.modStop n (fun y => { y with framesIn := sat64 (y.framesIn + 1) })).modStopCmd n tag (fun y => { y with accepted := y.accepted + 1, acceptAt := y.acceptAt ++ [s.now], startAt := some (y.startAt.getD s.now) })))))

/-- Stop epochs: a drain acknowledged by shell 3.1 counts only before the drain is over, the limit ends it, and the columns' check releases the stop or takes the spare
column (R467, R491, R496); the violation windows roll together. -/
def Obligations.StopEpochsDrainAndLoad : Prop :=
  ∀ (s : State) (n : StopId),
    (∀ e, (s.stop n).epoch = some e → e.drained = false → 0x0301 ≤ s.image.shell → exec (.stopDrainAck n) s = .next ((s.modStop n (fun x => { x with drainAck := true })).checkDrain n)) ∧
    (∀ e, (s.stop n).epoch = some e → (e.drained = true ∨ s.image.shell < 0x0301) → exec (.stopDrainAck n) s = .next s) ∧
    (∀ e, (s.stop n).epoch = some e → e.drained = false → exec (.stopDrainLimitExpiry n) s = .next ((s.notBefore (e.start + 1000)).endDrain n)) ∧
    (∀ e failing, (s.stop n).epoch = some e → e.drained = true → (∀ c ∈ failing, c ∉ (s.stop n).used) → exec (.stopConfigWritten n failing) s = .next (s.releaseStop n false)) ∧
    (∃ t, exec .stopViolWindowRoll s = .next t ∧ (∀ m : StopId, t.stop m = { s.stop m with window := 0 }) ∧ t.live = s.live ∧ t.out = s.out) ∧
    (∀ (p : PortId) (i : LocalId) off v x, s.adminOn = true → s.windowStop (instKey p i) = some x → (s.stop x).state ≠ 4 → (s.stop x).epoch = none →
      exec (.stopWindowAccess p i off (some v)) s = .next (if off % 0x10000 / 8 * 8 < 0x1000 then s.writeShell x (off % 0x10000 / 8 * 8) v else s.ctlWrite x (off % 0x10000 / 8 * 8) v) ∧
      exec (.stopWindowAccess p i off none) s = .next (if off % 0x10000 / 8 * 8 < 0x1000 then s.emit (.cpl p (s.stReg x (off % 0x10000 / 8 * 8))) else s.ctlRead x (off % 0x10000 / 8 * 8) (some p.val))) ∧
    (∀ (p : PortId) (i : LocalId) off, (s.adminOn = false ∨ s.windowStop (instKey p i) = none) → exec (.stopWindowAccess p i off none) s = .next (s.emit (.cpl p 0)) ∧
      ∀ v, exec (.stopWindowAccess p i off (some v)) s = .next s)

/-! ## Data movers (15) -/

/-- The control registers of a channel whose stop is neither fenced nor in reset: TAIL with the descriptors it covers, BASE (its SPACE only while disabled), ENABLE, PAUSE,
PACE.REQUEST (R506, R507, R518, R523; that a write of BASE returns HEAD and TAIL to 0 is the model's reading, log entry 108); a channel of a stop fenced or in reset, and a spare mover's,
takes nothing (R21, R465, R466). A descriptor: its ring lies where R506 has it, or the channel halts; it is taken at HEAD when its row names its operation, with OWN set, paced only while
REQUEST is 1 and after its fence where it asks for one; its bursts, in the channel's turn (R504), go to their destination until it ends; a fence's reads end the fence (R509 to R518). -/
def Obligations.DataMovers : Prop :=
  (∀ (s : State) (m : MoverId) (k : ChanId), s.chanShut (chanKey m k) = false →
     let ch := chanKey m k
     (∀ tail ds, exec (.dmRingTailWrite m k tail ds) s = .next ((s.modChan ch (fun c => { c with
       ring := ds.foldl (fun (r : Tbl MvDesc) (e : Nat × MvDesc) => if e.1 < c.size then Tbl.set r e.1 e.2 else r) c.ring
       tail := if tail < c.size then tail else c.tail })).checkOwned ch)) ∧
     (∀ v, exec (.dmRingBaseWrite m k v) s = .next (s.modChan ch (fun c => { c with
       space := if c.enable then c.space else v.toNat % 8, addr := v.toNat / 64 * 64, head := 0, tail := 0, ring := [], written := [] }))) ∧
     exec (.dmEnableWrite m k true) s = .next ((s.modChan ch (fun c => { c with enable := true, haltCause := 0 })).checkOwned ch) ∧
     exec (.dmEnableWrite m k false) s = .next ((s.modChan ch (fun c => { c with enable := false })).checkOwned ch) ∧
     (∀ b, exec (.dmPauseWrite m k b) s = .next ((s.modChan ch (fun c => { c with pause := b })).checkOwned ch)) ∧
     (∀ b, exec (.dmPaceRequestWrite m k b) s = .next (s.writePace ch b)) ∧
     (s.canTake ch = true → exec (.dmRingReadFailure m k) s = .next (s.haltChan ch 2))) ∧
  (∀ (s : State) (m : MoverId) (k : ChanId), s.chanShut (chanKey m k) = true →
     (∀ tail ds, exec (.dmRingTailWrite m k tail ds) s = .next s) ∧ (∀ v, exec (.dmRingBaseWrite m k v) s = .next s) ∧
     (∀ b, exec (.dmEnableWrite m k b) s = .next s ∧ exec (.dmPauseWrite m k b) s = .next s ∧ exec (.dmPaceRequestWrite m k b) s = .next s) ∧
     exec (.dmCopy m k) s = .next s ∧ exec (.dmFill m k) s = .next s ∧ exec (.dmCheck m k) s = .next s ∧ exec (.dmFence m k) s = .next s ∧ exec (.dmNop m k) s = .next s ∧
     exec (.dmRingReadFailure m k) s = .next s) ∧
  (∀ (s : State) (m : MoverId) (k : ChanId),
     let ch := chanKey m k
     (∀ op i, (op = 0 ∧ i = Instr.dmCopy m k ∨ op = 1 ∧ i = .dmFill m k ∨ op = 2 ∧ i = .dmCheck m k ∨ op = 3 ∧ i = .dmFence m k ∨ op = 4 ∧ i = .dmNop m k) →
       s.canTake ch = true → s.chanShut ch = false → (s.ringOk ch = false → exec i s = .next (s.haltChan ch 2)) ∧ (s.ringOk ch = true → (s.chan ch).next.op = op →
       ((s.chan ch).next.own = false → exec i s = .next (s.checkOwned ch)) ∧
       ((s.chan ch).next.own = true → (MvDescPaced (s.chan ch).next = false ∨ (s.chan ch).request = true) → ((s.chan ch).next.fenceBefore = false ∨ (s.chan ch).ports = []) →
         exec i s = .next (s.beginDesc ch)) ∧
       ((s.chan ch).next.own = true → MvDescPaced (s.chan ch).next = true → (s.chan ch).request = false → exec i s = .next s))) ∧
     (∀ f bytes, (s.chan ch).flight = some f → f.busy = true → f.ctx = none → ¬(f.desc.srcSpace = 4 ∧ f.src = none) → f.done < f.desc.length → s.burstTurn ch = false →
       ∀ e, exec (.dmBurstComplete m k bytes e) s = .next s) ∧
     (∀ f bytes st, (s.chan ch).flight = some f → f.busy = true → f.ctx = none → ¬(f.desc.srcSpace = 4 ∧ f.src = none) → f.done < f.desc.length → s.burstTurn ch = true →
       let u := s.markServed ch
       exec (.dmBurstComplete m k bytes (.srcError st)) s = .next (u.endDesc ch 5 st.toNat) ∧ exec (.dmBurstComplete m k bytes (.dstError st)) s = .next (u.endDesc ch 6 st.toNat) ∧
       let bs := u.burstBytes ch f bytes
       exec (.dmBurstComplete m k bytes .moved) s = .next (((u.writeBurst ch f bs).modChan ch (fun c => { c with
         bytes := if f.desc.dstSpace != 0 && f.desc.dstSpace != 4 then sat64 (c.bytes + bs.length) else c.bytes
         flight := some { f with
           done := f.done + bs.length
           data := if f.down then bs ++ f.data else f.data ++ bs
           src := if f.desc.srcSpace = 3 then none else f.src
           beats := if f.desc.dstSpace = 3 then f.beats + 1 else f.beats } })).afterBurst ch)) ∧
     (∀ f, (s.chan ch).fenceReads ≠ 0 → (s.chan ch).flight = some f →
       let u := s.modChan ch (fun c => { c with fenceReads := 0 })
       exec (.dmFenceReadComplete m k) s = .next (if f.stopping.isSome then u.endDesc ch 2 0 else if f.started then u.endDesc ch 0 0 else u.beginDesc ch)) ∧
     (∀ (n : StopId) f tag seq, s.heard n = true → (s.chan (stopMover n * 4 + k.val)).flight = some f → f.index = tag → 1 < f.beats →
       exec (.ingressBeatAccepted n (some k) tag seq) s = .next ((s.modStop n (fun x => { x with framesIn := sat64 (x.framesIn + 1) })).modChan (stopMover n * 4 + k.val)
         (fun c => { c with flight := some { f with beats := f.beats - 1 } }))))

/-- A register write outside KEEP reaches the block its address names, and only its owner's: the host its BARs, the partition its own and its keep registers, firmware and management
the rest; a write to an address no block has changes nothing (R17, R20, R563). -/
def Obligations.RegisterWritesReachTheirBlock : Prop :=
  ∀ (s : State) (a : Nat) (v : W64), s.modes.mode ≠ .keep →
    (∀ wide, exec (.registerWrite (.host wide) a v) s = .next (s.writeHost a wide v)) ∧
    (0x700000 ≤ a → a < 0x701000 → exec (.registerWrite .partition a v) s = .next (s.writeKr (a / 8 * 8 - 0x700000) v)) ∧
    (0x100000 ≤ a → a < 0x100800 → exec (.registerWrite .partition a v) s = .next (s.writeSp (a / 8 * 8 - 0x100000) v)) ∧
    (¬(0x700000 ≤ a ∧ a < 0x701000) → ¬(0x100000 ≤ a ∧ a < 0x100800) → exec (.registerWrite .partition a v) s = .next s) ∧
    (∀ w, (w = .firmware ∨ w = .management) →
      (0x80000 ≤ a → a < 0x100000 → exec (.registerWrite w a v) s = .next (s.writeCh (a / 8 * 8 - 0x80000) v)) ∧
      (0x40000 ≤ a → a < 0x80000 → exec (.registerWrite w a v) s = .next (s.writeMc w (a / 8 * 8 - 0x40000) v)) ∧
      (0x200000 ≤ a → a < 0x244000 → exec (.registerWrite w a v) s = .next (s.writeDm ((a / 8 * 8 - 0x200000) / 0x1000) (a / 8 * 8 % 0x1000) v)) ∧
      (0x500000 ≤ a → exec (.registerWrite w a v) s = .next s) ∧
      (a / 8 * 8 = 0x10040 → ∃ t, exec (.registerWrite w a v) s = .next t ∧ t.flash.failMask = s.flash.failMask &&& ~~~(BitVec.ofNat 4 (bits64 v 11 8)) ∧ t.live = s.live))

/-! ## Every step (03, 07, 17) -/

/-- The journal is kept (R99, R101, R259): whatever every step does, what is in force is what a replay makes of the sealed state and of the records written and not yet
sealed; so a power fail loses exactly the records that are not sealed, and nothing else. -/
def Obligations.EveryStepKeepsTheJournal : Prop :=
  ∀ s t : State, s.Journalled → step s = .next t → t.Journalled

/-- The journal's invariant holds after reset. -/
def Obligations.ResetIsJournalled : Prop :=
  State.reset.Journalled ∧ State.reset.otp.Usable

/-- Fuses are only ever added to, and an image key always stays unrevoked (R576 to R578, 17 OTP). -/
def Obligations.EveryStepOnlyAddsFuses : Prop :=
  ∀ s t : State, s.otp.Usable → step s = .next t → Otp.grows s.otp t.otp ∧ t.otp.Usable

/-- No command changes the commands that wait, and none is a fault or a refusal: every command answers a next state (the model's own form of a block's queue; 00). -/
def Obligations.CommandsRunAndLeaveTheQueue : Prop :=
  ∀ (c : Instr) (s : State), ∃ t, exec c s = .next t ∧ t.pending = s.pending

/-- The parts of the state few commands can touch, over every command in every state: fuses, what is durable, the format record, the order of fetches, the latch and motion
inputs; and only the ends of timers move the time, forward, which is the model's own (log entry 2). So no host command, and no event of the media, blows a fuse or makes a record durable (R563, R99). -/
def Obligations.FewCommandsTouchFusesAndSealedState : Prop :=
  ∀ (c : Instr) (s t : State), exec c s = .next t →
    s.now ≤ t.now ∧ (timed c = false → t.now = s.now) ∧ (burns c = false → t.otp = s.otp) ∧ (seals c = false → t.sealed = s.sealed) ∧ (formats c = false → t.format = s.format) ∧
    (fetches c = false → t.fetches = s.fetches) ∧ ((∀ a b, c ≠ .latchChange a b) → (∀ m, c ≠ .motionWindow m) → t.mech = s.mech)
end

