-- ==== Sys2Proof/Laws/Exec.lean ====
section
/-! SUPPORT. exec at each constructor is its meaning. -/
namespace Sys2Proof.Machine

@[simp] theorem exec_inputStartThreshold (s : State) : exec (.inputStartThreshold) s = execInputStartThreshold s := rfl
@[simp] theorem exec_brownoutWatchEntry (s : State) : exec (.brownoutWatchEntry) s = execBrownoutWatchEntry s := rfl
@[simp] theorem exec_brownoutGraceExpiry (s : State) : exec (.brownoutGraceExpiry) s = execBrownoutGraceExpiry s := rfl
@[simp] theorem exec_brownoutWatchExit (s : State) : exec (.brownoutWatchExit) s = execBrownoutWatchExit s := rfl
@[simp] theorem exec_bellowsSwitchConnect (recovered : Bool) (s : State) : exec (.bellowsSwitchConnect recovered) s = execBellowsSwitchConnect recovered s := rfl
@[simp] theorem exec_powerFailRecognised (s : State) : exec (.powerFailRecognised) s = execPowerFailRecognised s := rfl
@[simp] theorem exec_flushDumpComplete (s : State) : exec (.flushDumpComplete) s = execFlushDumpComplete s := rfl
@[simp] theorem exec_powerStageStop (s : State) : exec (.powerStageStop) s = execPowerStageStop s := rfl
@[simp] theorem exec_overvoltageTrip (s : State) : exec (.overvoltageTrip) s = execOvervoltageTrip s := rfl
@[simp] theorem exec_powerStageFault (f : StageFault) (s : State) : exec (.powerStageFault f) s = execPowerStageFault f s := rfl
@[simp] theorem exec_podRailPresenceLost (s : State) : exec (.podRailPresenceLost) s = execPodRailPresenceLost s := rfl
@[simp] theorem exec_bellowsTest (s : State) : exec (.bellowsTest) s = execBellowsTest s := rfl
@[simp] theorem exec_bellowsTestMeasured (capUf : Nat) (esr : Nat) (ok : Bool) (s : State) : exec (.bellowsTestMeasured capUf esr ok) s = execBellowsTestMeasured capUf esr ok s := rfl
@[simp] theorem exec_sensorSample (x : Sample) (s : State) : exec (.sensorSample x) s = execSensorSample x s := rfl
@[simp] theorem exec_thermalComparatorTrip (zone : Fin 7) (s : State) : exec (.thermalComparatorTrip zone) s = execThermalComparatorTrip zone s := rfl
@[simp] theorem exec_graceTimeExpiry (s : State) : exec (.graceTimeExpiry) s = execGraceTimeExpiry s := rfl
@[simp] theorem exec_m3AdmissionInterval (s : State) : exec (.m3AdmissionInterval) s = execM3AdmissionInterval s := rfl
@[simp] theorem exec_clockCheckWindow (houseRtc : Bool) (houseRing : Bool) (ringRtc : Bool) (s : State) : exec (.clockCheckWindow houseRtc houseRing ringRtc) s = execClockCheckWindow houseRtc houseRing ringRtc s := rfl
@[simp] theorem exec_rootPllLossOfLock (s : State) : exec (.rootPllLossOfLock) s = execRootPllLossOfLock s := rfl
@[simp] theorem exec_pllRetry (locks : Bool) (agrees : Bool) (s : State) : exec (.pllRetry locks agrees) s = execPllRetry locks agrees s := rfl
@[simp] theorem exec_moduleResetAssert (s : State) : exec (.moduleResetAssert) s = execModuleResetAssert s := rfl
@[simp] theorem exec_moduleResetRelease (s : State) : exec (.moduleResetRelease) s = execModuleResetRelease s := rfl
@[simp] theorem exec_latchChange (moduleClosed : Bool) (enclClosed : Bool) (s : State) : exec (.latchChange moduleClosed enclClosed) s = execLatchChange moduleClosed enclClosed s := rfl
@[simp] theorem exec_motionWindow (mg : Nat) (s : State) : exec (.motionWindow mg) s = execMotionWindow mg s := rfl
@[simp] theorem exec_keepCellCheck (mv : Nat) (s : State) : exec (.keepCellCheck mv) s = execKeepCellCheck mv s := rfl
@[simp] theorem exec_fwWatchdogFeed (value : W32) (s : State) : exec (.fwWatchdogFeed value) s = execFwWatchdogFeed value s := rfl
@[simp] theorem exec_fwWatchdogExpiry (s : State) : exec (.fwWatchdogExpiry) s = execFwWatchdogExpiry s := rfl
@[simp] theorem exec_spWatchdogExpiry (s : State) : exec (.spWatchdogExpiry) s = execSpWatchdogExpiry s := rfl
@[simp] theorem exec_lockstepMismatch (s : State) : exec (.lockstepMismatch) s = execLockstepMismatch s := rfl
@[simp] theorem exec_spRestartComplete (s : State) : exec (.spRestartComplete) s = execSpRestartComplete s := rfl
@[simp] theorem exec_rootPllLock (f : Step2Found) (s : State) : exec (.rootPllLock f) s = execRootPllLock f s := rfl
@[simp] theorem exec_firmwareBundleStart (ok : Bool) (s : State) : exec (.firmwareBundleStart ok) s = execFirmwareBundleStart ok s := rfl
@[simp] theorem exec_memoryTrainingComplete (s : State) : exec (.memoryTrainingComplete) s = execMemoryTrainingComplete s := rfl
@[simp] theorem exec_podDescriptorRead (pods : List (LinkId × PodDesc)) (s : State) : exec (.podDescriptorRead pods) s = execPodDescriptorRead pods s := rfl
@[simp] theorem exec_voicingLoad (s : State) : exec (.voicingLoad) s = execVoicingLoad s := rfl
@[simp] theorem exec_podPowerWave (s : State) : exec (.podPowerWave) s = execPodPowerWave s := rfl
@[simp] theorem exec_laneTrainingComplete (l : LinkId) (ok : Bool) (s : State) : exec (.laneTrainingComplete l ok) s = execLaneTrainingComplete l ok s := rfl
@[simp] theorem exec_mapRecovery (f : RecoveryFound) (s : State) : exec (.mapRecovery f) s = execMapRecovery f s := rfl
@[simp] theorem exec_bringupFinalRound (x : Sample) (badImages : List StopId) (s : State) : exec (.bringupFinalRound x badImages) s = execBringupFinalRound x badImages s := rfl
@[simp] theorem exec_bringupComplete (s : State) : exec (.bringupComplete) s = execBringupComplete s := rfl
@[simp] theorem exec_bringupTrialTimeout (s : State) : exec (.bringupTrialTimeout) s = execBringupTrialTimeout s := rfl
@[simp] theorem exec_perstAssert (p : PortId) (s : State) : exec (.perstAssert p) s = execPerstAssert p s := rfl
@[simp] theorem exec_perstDeassert (p : PortId) (s : State) : exec (.perstDeassert p) s = execPerstDeassert p s := rfl
@[simp] theorem exec_refclkMeasureComplete (p : PortId) (ppm : Option Int) (s : State) : exec (.refclkMeasureComplete p ppm) s = execRefclkMeasureComplete p ppm s := rfl
@[simp] theorem exec_configSpaceReady (p : PortId) (s : State) : exec (.configSpaceReady p) s = execConfigSpaceReady p s := rfl
@[simp] theorem exec_hotReset (p : PortId) (s : State) : exec (.hotReset p) s = execHotReset p s := rfl
@[simp] theorem exec_linkDown (p : PortId) (disabled : Bool) (s : State) : exec (.linkDown p disabled) s = execLinkDown p disabled s := rfl
@[simp] theorem exec_linkRecoveryEntry (p : PortId) (s : State) : exec (.linkRecoveryEntry p) s = execLinkRecoveryEntry p s := rfl
@[simp] theorem exec_linkReturnToL0 (p : PortId) (s : State) : exec (.linkReturnToL0 p) s = execLinkReturnToL0 p s := rfl
@[simp] theorem exec_pcieLinkTrained (p : PortId) (gen : Nat) (width : Nat) (s : State) : exec (.pcieLinkTrained p gen width) s = execPcieLinkTrained p gen width s := rfl
@[simp] theorem exec_functionLevelReset (p : PortId) (s : State) : exec (.functionLevelReset p) s = execFunctionLevelReset p s := rfl
@[simp] theorem exec_ccEnSet (p : PortId) (css : Nat) (iosqes : Nat) (iocqes : Nat) (asqs : Nat) (acqs : Nat) (s : State) : exec (.ccEnSet p css iosqes iocqes asqs acqs) s = execCcEnSet p css iosqes iocqes asqs acqs s := rfl
@[simp] theorem exec_ccEnClear (p : PortId) (s : State) : exec (.ccEnClear p) s = execCcEnClear p s := rfl
@[simp] theorem exec_shutdownNotification (p : PortId) (s : State) : exec (.shutdownNotification p) s = execShutdownNotification p s := rfl
@[simp] theorem exec_shutdownComplete (p : PortId) (s : State) : exec (.shutdownComplete p) s = execShutdownComplete p s := rfl
@[simp] theorem exec_d3hotEntry (p : PortId) (s : State) : exec (.d3hotEntry p) s = execD3hotEntry p s := rfl
@[simp] theorem exec_d0Return (p : PortId) (s : State) : exec (.d0Return p) s = execD0Return p s := rfl
@[simp] theorem exec_pasidEnableClear (p : PortId) (s : State) : exec (.pasidEnableClear p) s = execPasidEnableClear p s := rfl
@[simp] theorem exec_msixVectorUnmask (p : PortId) (u : Unmask) (s : State) : exec (.msixVectorUnmask p u) s = execMsixVectorUnmask p u s := rfl
@[simp] theorem exec_sqTailDoorbell (p : PortId) (w : DoorbellAt) (aligned32 : Bool) (value : Nat) (s : State) : exec (.sqTailDoorbell p w aligned32 value) s = execSqTailDoorbell p w aligned32 value s := rfl
@[simp] theorem exec_cqHeadDoorbell (p : PortId) (w : DoorbellAt) (aligned32 : Bool) (value : Nat) (s : State) : exec (.cqHeadDoorbell p w aligned32 value) s = execCqHeadDoorbell p w aligned32 value s := rfl
@[simp] theorem exec_mctpVdmMessage (p : PortId) (r : MiRequest) (s : State) : exec (.mctpVdmMessage p r) s = execMctpVdmMessage p r s := rfl
@[simp] theorem exec_stopWindowAccess (p : PortId) (n : LocalId) (off : Nat) (write : Option W64) (s : State) : exec (.stopWindowAccess p n off write) s = execStopWindowAccess p n off write s := rfl
@[simp] theorem exec_sqEntryFetch (p : PortId) (n : LocalId) (qid : Nat) (entries : List Sqe) (s : State) : exec (.sqEntryFetch p n qid entries) s = execSqEntryFetch p n qid entries s := rfl
@[simp] theorem exec_hostDmaFailure (p : PortId) (t : DmaTarget) (f : DmaFault) (s : State) : exec (.hostDmaFailure p t f) s = execHostDmaFailure p t f s := rfl
@[simp] theorem exec_admissionRound (q : QuadId) (s : State) : exec (.admissionRound q) s = execAdmissionRound q s := rfl
@[simp] theorem exec_capAllowanceInterval (q : QuadId) (s : State) : exec (.capAllowanceInterval q) s = execCapAllowanceInterval q s := rfl
@[simp] theorem exec_hostViolWindowRoll (s : State) : exec (.hostViolWindowRoll) s = execHostViolWindowRoll s := rfl
@[simp] theorem exec_deferredErrorEventTimeout (p : PortId) (s : State) : exec (.deferredErrorEventTimeout p) s = execDeferredErrorEventTimeout p s := rfl
@[simp] theorem exec_createIoSq (c : Nat) (s : State) : exec (.createIoSq c) s = execCreateIoSq c s := rfl
@[simp] theorem exec_deleteIoSq (c : Nat) (s : State) : exec (.deleteIoSq c) s = execDeleteIoSq c s := rfl
@[simp] theorem exec_createIoCq (c : Nat) (s : State) : exec (.createIoCq c) s = execCreateIoCq c s := rfl
@[simp] theorem exec_deleteIoCq (c : Nat) (s : State) : exec (.deleteIoCq c) s = execDeleteIoCq c s := rfl
@[simp] theorem exec_getLogErrorInfo (c : Nat) (s : State) : exec (.getLogErrorInfo c) s = execGetLogErrorInfo c s := rfl
@[simp] theorem exec_getLogSmart (c : Nat) (s : State) : exec (.getLogSmart c) s = execGetLogSmart c s := rfl
@[simp] theorem exec_getLogFwSlot (c : Nat) (s : State) : exec (.getLogFwSlot c) s = execGetLogFwSlot c s := rfl
@[simp] theorem exec_getLogCommandsEffects (c : Nat) (s : State) : exec (.getLogCommandsEffects c) s = execGetLogCommandsEffects c s := rfl
@[simp] theorem exec_getLogSelfTest (c : Nat) (s : State) : exec (.getLogSelfTest c) s = execGetLogSelfTest c s := rfl
@[simp] theorem exec_getLogDeferredErrors (c : Nat) (s : State) : exec (.getLogDeferredErrors c) s = execGetLogDeferredErrors c s := rfl
@[simp] theorem exec_getLogInstanceCounters (c : Nat) (s : State) : exec (.getLogInstanceCounters c) s = execGetLogInstanceCounters c s := rfl
@[simp] theorem exec_getLogLatencyHistograms (c : Nat) (s : State) : exec (.getLogLatencyHistograms c) s = execGetLogLatencyHistograms c s := rfl
@[simp] theorem exec_getLogMediaHealth (c : Nat) (s : State) : exec (.getLogMediaHealth c) s = execGetLogMediaHealth c s := rfl
@[simp] theorem exec_getLogStops (c : Nat) (s : State) : exec (.getLogStops c) s = execGetLogStops c s := rfl
@[simp] theorem exec_getLogPowerThermal (c : Nat) (s : State) : exec (.getLogPowerThermal c) s = execGetLogPowerThermal c s := rfl
@[simp] theorem exec_getLogUpdateState (c : Nat) (s : State) : exec (.getLogUpdateState c) s = execGetLogUpdateState c s := rfl
@[simp] theorem exec_getLogDieStatistics (c : Nat) (s : State) : exec (.getLogDieStatistics c) s = execGetLogDieStatistics c s := rfl
@[simp] theorem exec_getLogEventJournal (c : Nat) (s : State) : exec (.getLogEventJournal c) s = execGetLogEventJournal c s := rfl
@[simp] theorem exec_getLogSpareReserves (c : Nat) (s : State) : exec (.getLogSpareReserves c) s = execGetLogSpareReserves c s := rfl
@[simp] theorem exec_getLogModuleState (c : Nat) (s : State) : exec (.getLogModuleState c) s = execGetLogModuleState c s := rfl
@[simp] theorem exec_identifyController (c : Nat) (s : State) : exec (.identifyController c) s = execIdentifyController c s := rfl
@[simp] theorem exec_identifyNamespace (c : Nat) (s : State) : exec (.identifyNamespace c) s = execIdentifyNamespace c s := rfl
@[simp] theorem exec_identifyNsList (c : Nat) (s : State) : exec (.identifyNsList c) s = execIdentifyNsList c s := rfl
@[simp] theorem exec_identifyNsDescriptors (c : Nat) (s : State) : exec (.identifyNsDescriptors c) s = execIdentifyNsDescriptors c s := rfl
@[simp] theorem exec_identifyControllerList (c : Nat) (s : State) : exec (.identifyControllerList c) s = execIdentifyControllerList c s := rfl
@[simp] theorem exec_abort (c : Nat) (s : State) : exec (.abort c) s = execAbort c s := rfl
@[simp] theorem exec_setFeaturesArbitration (c : Nat) (s : State) : exec (.setFeaturesArbitration c) s = execSetFeaturesArbitration c s := rfl
@[simp] theorem exec_setFeaturesPowerMgmt (c : Nat) (s : State) : exec (.setFeaturesPowerMgmt c) s = execSetFeaturesPowerMgmt c s := rfl
@[simp] theorem exec_setFeaturesTempThreshold (c : Nat) (s : State) : exec (.setFeaturesTempThreshold c) s = execSetFeaturesTempThreshold c s := rfl
@[simp] theorem exec_setFeaturesErrorRecovery (c : Nat) (s : State) : exec (.setFeaturesErrorRecovery c) s = execSetFeaturesErrorRecovery c s := rfl
@[simp] theorem exec_setFeaturesNumberOfQueues (c : Nat) (s : State) : exec (.setFeaturesNumberOfQueues c) s = execSetFeaturesNumberOfQueues c s := rfl
@[simp] theorem exec_setFeaturesIntCoalescing (c : Nat) (s : State) : exec (.setFeaturesIntCoalescing c) s = execSetFeaturesIntCoalescing c s := rfl
@[simp] theorem exec_setFeaturesIntVectorConfig (c : Nat) (s : State) : exec (.setFeaturesIntVectorConfig c) s = execSetFeaturesIntVectorConfig c s := rfl
@[simp] theorem exec_setFeaturesWriteAtomicity (c : Nat) (s : State) : exec (.setFeaturesWriteAtomicity c) s = execSetFeaturesWriteAtomicity c s := rfl
@[simp] theorem exec_setFeaturesAsyncEventConfig (c : Nat) (s : State) : exec (.setFeaturesAsyncEventConfig c) s = execSetFeaturesAsyncEventConfig c s := rfl
@[simp] theorem exec_setFeaturesApst (c : Nat) (s : State) : exec (.setFeaturesApst c) s = execSetFeaturesApst c s := rfl
@[simp] theorem exec_setFeaturesTimestamp (c : Nat) (s : State) : exec (.setFeaturesTimestamp c) s = execSetFeaturesTimestamp c s := rfl
@[simp] theorem exec_getFeatures (c : Nat) (s : State) : exec (.getFeatures c) s = execGetFeatures c s := rfl
@[simp] theorem exec_apstIdleExpiry (p : PortId) (s : State) : exec (.apstIdleExpiry p) s = execApstIdleExpiry p s := rfl
@[simp] theorem exec_powerStateEntryStart (s : State) : exec (.powerStateEntryStart) s = execPowerStateEntryStart s := rfl
@[simp] theorem exec_ps4DroneExcursion (finished : Bool) (s : State) : exec (.ps4DroneExcursion finished) s = execPs4DroneExcursion finished s := rfl
@[simp] theorem exec_asyncEventRequest (c : Nat) (s : State) : exec (.asyncEventRequest c) s = execAsyncEventRequest c s := rfl
@[simp] theorem exec_namespaceCreate (c : Nat) (s : State) : exec (.namespaceCreate c) s = execNamespaceCreate c s := rfl
@[simp] theorem exec_namespaceDelete (c : Nat) (s : State) : exec (.namespaceDelete c) s = execNamespaceDelete c s := rfl
@[simp] theorem exec_namespaceAttach (c : Nat) (s : State) : exec (.namespaceAttach c) s = execNamespaceAttach c s := rfl
@[simp] theorem exec_namespaceDetach (c : Nat) (s : State) : exec (.namespaceDetach c) s = execNamespaceDetach c s := rfl
@[simp] theorem exec_firmwareImageDownload (c : Nat) (s : State) : exec (.firmwareImageDownload c) s = execFirmwareImageDownload c s := rfl
@[simp] theorem exec_firmwareCommitVerify (c : Nat) (s : State) : exec (.firmwareCommitVerify c) s = execFirmwareCommitVerify c s := rfl
@[simp] theorem exec_firmwareCommitNextBoot (c : Nat) (s : State) : exec (.firmwareCommitNextBoot c) s = execFirmwareCommitNextBoot c s := rfl
@[simp] theorem exec_firmwareCommitConfirm (c : Nat) (s : State) : exec (.firmwareCommitConfirm c) s = execFirmwareCommitConfirm c s := rfl
@[simp] theorem exec_firmwareCommitActivate (c : Nat) (s : State) : exec (.firmwareCommitActivate c) s = execFirmwareCommitActivate c s := rfl
@[simp] theorem exec_updateVerificationComplete (f : VerifyFound) (s : State) : exec (.updateVerificationComplete f) s = execUpdateVerificationComplete f s := rfl
@[simp] theorem exec_activationServe (s : State) : exec (.activationServe) s = execActivationServe s := rfl
@[simp] theorem exec_activationTimeout (s : State) : exec (.activationTimeout) s = execActivationTimeout s := rfl
@[simp] theorem exec_trialAutoConfirm (s : State) : exec (.trialAutoConfirm) s = execTrialAutoConfirm s := rfl
@[simp] theorem exec_flashOperationComplete (bank : Fin 2) (s : State) : exec (.flashOperationComplete bank) s = execFlashOperationComplete bank s := rfl
@[simp] theorem exec_deviceSelfTestShort (c : Nat) (s : State) : exec (.deviceSelfTestShort c) s = execDeviceSelfTestShort c s := rfl
@[simp] theorem exec_deviceSelfTestExtended (c : Nat) (s : State) : exec (.deviceSelfTestExtended c) s = execDeviceSelfTestExtended c s := rfl
@[simp] theorem exec_deviceSelfTestAbort (c : Nat) (s : State) : exec (.deviceSelfTestAbort c) s = execDeviceSelfTestAbort c s := rfl
@[simp] theorem exec_extendedSelfTestEnd (result : Nat) (s : State) : exec (.extendedSelfTestEnd result) s = execExtendedSelfTestEnd result s := rfl
@[simp] theorem exec_directiveSend (c : Nat) (s : State) : exec (.directiveSend c) s = execDirectiveSend c s := rfl
@[simp] theorem exec_directiveReceive (c : Nat) (s : State) : exec (.directiveReceive c) s = execDirectiveReceive c s := rfl
@[simp] theorem exec_nvmeMiSend (c : Nat) (r : MiRequest) (s : State) : exec (.nvmeMiSend c r) s = execNvmeMiSend c r s := rfl
@[simp] theorem exec_nvmeMiReceive (c : Nat) (s : State) : exec (.nvmeMiReceive c) s = execNvmeMiReceive c s := rfl
@[simp] theorem exec_formatNvm (c : Nat) (s : State) : exec (.formatNvm c) s = execFormatNvm c s := rfl
@[simp] theorem exec_formatNvmAll (c : Nat) (s : State) : exec (.formatNvmAll c) s = execFormatNvmAll c s := rfl
@[simp] theorem exec_createInstance (c : Nat) (s : State) : exec (.createInstance c) s = execCreateInstance c s := rfl
@[simp] theorem exec_instanceReport (c : Nat) (s : State) : exec (.instanceReport c) s = execInstanceReport c s := rfl
@[simp] theorem exec_destroyInstance (c : Nat) (s : State) : exec (.destroyInstance c) s = execDestroyInstance c s := rfl
@[simp] theorem exec_changeShare (c : Nat) (s : State) : exec (.changeShare c) s = execChangeShare c s := rfl
@[simp] theorem exec_shareDrainEnd (p : PortId) (n : LocalId) (s : State) : exec (.shareDrainEnd p n) s = execShareDrainEnd p n s := rfl
@[simp] theorem exec_shareDrainLimitExpiry (p : PortId) (n : LocalId) (s : State) : exec (.shareDrainLimitExpiry p n) s = execShareDrainLimitExpiry p n s := rfl
@[simp] theorem exec_resetInstance (c : Nat) (s : State) : exec (.resetInstance c) s = execResetInstance c s := rfl
@[simp] theorem exec_proxyAdmin (c : Nat) (s : State) : exec (.proxyAdmin c) s = execProxyAdmin c s := rfl
@[simp] theorem exec_lendMapMemory (c : Nat) (s : State) : exec (.lendMapMemory c) s = execLendMapMemory c s := rfl
@[simp] theorem exec_reclaimMapMemory (c : Nat) (s : State) : exec (.reclaimMapMemory c) s = execReclaimMapMemory c s := rfl
@[simp] theorem exec_t2AccessFailure (p : PortId) (lend : Fin 4) (f : DmaFault) (s : State) : exec (.t2AccessFailure p lend f) s = execT2AccessFailure p lend f s := rfl
@[simp] theorem exec_bindStop (c : Nat) (s : State) : exec (.bindStop c) s = execBindStop c s := rfl
@[simp] theorem exec_unbindStop (c : Nat) (s : State) : exec (.unbindStop c) s = execUnbindStop c s := rfl
@[simp] theorem exec_loadStopImageTransfer (c : Nat) (s : State) : exec (.loadStopImageTransfer c) s = execLoadStopImageTransfer c s := rfl
@[simp] theorem exec_loadStopImageLoad (c : Nat) (bodyOk : Bool) (compileSig : Option (Fin 4)) (operatorSig : Option (BitVec 384)) (s : State) : exec (.loadStopImageLoad c bodyOk compileSig operatorSig) s = execLoadStopImageLoad c bodyOk compileSig operatorSig s := rfl
@[simp] theorem exec_loadStopImageReload (c : Nat) (s : State) : exec (.loadStopImageReload c) s = execLoadStopImageReload c s := rfl
@[simp] theorem exec_loadStopImageDiscard (c : Nat) (s : State) : exec (.loadStopImageDiscard c) s = execLoadStopImageDiscard c s := rfl
@[simp] theorem exec_voicingSelect (c : Nat) (s : State) : exec (.voicingSelect c) s = execVoicingSelect c s := rfl
@[simp] theorem exec_voicingSelectDryRun (c : Nat) (s : State) : exec (.voicingSelectDryRun c) s = execVoicingSelectDryRun c s := rfl
@[simp] theorem exec_cryptoErase (c : Nat) (s : State) : exec (.cryptoErase c) s = execCryptoErase c s := rfl
@[simp] theorem exec_getChallenge (h : MbHdr) (key : BitVec 384) (s : State) : exec (.getChallenge h key) s = execGetChallenge h key s := rfl
@[simp] theorem exec_challengeExpiry (n : Fin 8) (s : State) : exec (.challengeExpiry n) s = execChallengeExpiry n s := rfl
@[simp] theorem exec_readIdentity (h : MbHdr) (s : State) : exec (.readIdentity h) s = execReadIdentity h s := rfl
@[simp] theorem exec_readStatus (h : MbHdr) (s : State) : exec (.readStatus h) s = execReadStatus h s := rfl
@[simp] theorem exec_setThreshOvr (h : MbHdr) (value : W64) (s : State) : exec (.setThreshOvr h value) s = execSetThreshOvr h value s := rfl
@[simp] theorem exec_clearBackupWarning (h : MbHdr) (s : State) : exec (.clearBackupWarning h) s = execClearBackupWarning h s := rfl
@[simp] theorem exec_releaseSafeHold (h : MbHdr) (fresh : Sample) (s : State) : exec (.releaseSafeHold h fresh) s = execReleaseSafeHold h fresh s := rfl
@[simp] theorem exec_setUpdateLock (h : MbHdr) (lock : Bool) (s : State) : exec (.setUpdateLock h lock) s = execSetUpdateLock h lock s := rfl
@[simp] theorem exec_setRpl (h : MbHdr) (level : Nat) (strap : Bool) (s : State) : exec (.setRpl h level strap) s = execSetRpl h level strap s := rfl
@[simp] theorem exec_loadKey (h : MbHdr) (slot : Nat) (persist : Bool) (unwraps : Bool) (kcv : BitVec 64) (s : State) : exec (.loadKey h slot persist unwraps kcv) s = execLoadKey h slot persist unwraps kcv s := rfl
@[simp] theorem exec_clearKey (h : MbHdr) (slot : Nat) (s : State) : exec (.clearKey h slot) s = execClearKey h slot s := rfl
@[simp] theorem exec_rotateOperatorKey (h : MbHdr) (hash : BitVec 384) (strap : Bool) (s : State) : exec (.rotateOperatorKey h hash strap) s = execRotateOperatorKey h hash strap s := rfl
@[simp] theorem exec_revokeImageKey (h : MbHdr) (entry : Fin 4) (s : State) : exec (.revokeImageKey h entry) s = execRevokeImageKey h entry s := rfl
@[simp] theorem exec_maintenanceHold (seconds : Nat) (s : State) : exec (.maintenanceHold seconds) s = execMaintenanceHold seconds s := rfl
@[simp] theorem exec_maintenanceHoldRelease (s : State) : exec (.maintenanceHoldRelease) s = execMaintenanceHoldRelease s := rfl
@[simp] theorem exec_maintenanceHoldExpiry (s : State) : exec (.maintenanceHoldExpiry) s = execMaintenanceHoldExpiry s := rfl
@[simp] theorem exec_deviceEpochDrainEnd (s : State) : exec (.deviceEpochDrainEnd) s = execDeviceEpochDrainEnd s := rfl
@[simp] theorem exec_drainInterruptTimeout (s : State) : exec (.drainInterruptTimeout) s = execDrainInterruptTimeout s := rfl
@[simp] theorem exec_flush (c : Nat) (s : State) : exec (.flush c) s = execFlush c s := rfl
@[simp] theorem exec_write (c : Nat) (s : State) : exec (.write c) s = execWrite c s := rfl
@[simp] theorem exec_read (c : Nat) (s : State) : exec (.read c) s = execRead c s := rfl
@[simp] theorem exec_writeZeroes (c : Nat) (s : State) : exec (.writeZeroes c) s = execWriteZeroes c s := rfl
@[simp] theorem exec_datasetManagement (c : Nat) (s : State) : exec (.datasetManagement c) s = execDatasetManagement c s := rfl
@[simp] theorem exec_verify (c : Nat) (s : State) : exec (.verify c) s = execVerify c s := rfl
@[simp] theorem exec_compute (c : Nat) (s : State) : exec (.compute c) s = execCompute c s := rfl
@[simp] theorem exec_computeCopy (c : Nat) (s : State) : exec (.computeCopy c) s = execComputeCopy c s := rfl
@[simp] theorem exec_cacheSpaceGrant (s : State) : exec (.cacheSpaceGrant) s = execCacheSpaceGrant s := rfl
@[simp] theorem exec_writeCommit (c : Nat) (blocks : List (List Byte)) (s : State) : exec (.writeCommit c blocks) s = execWriteCommit c blocks s := rfl
@[simp] theorem exec_mergeReadComplete (c : Nat) (unit : Nat) (s : State) : exec (.mergeReadComplete c unit) s = execMergeReadComplete c unit s := rfl
@[simp] theorem exec_stripeIdleClose (n : Nat) (s : State) : exec (.stripeIdleClose n) s = execStripeIdleClose n s := rfl
@[simp] theorem exec_writeThroughStripeClose (n : Nat) (s : State) : exec (.writeThroughStripeClose n) s = execWriteThroughStripeClose n s := rfl
@[simp] theorem exec_hbmUncorrectableError (muns : List Nat) (accumulators : Nat) (s : State) : exec (.hbmUncorrectableError muns accumulators) s = execHbmUncorrectableError muns accumulators s := rfl
@[simp] theorem exec_journalEpochClose (s : State) : exec (.journalEpochClose) s = execJournalEpochClose s := rfl
@[simp] theorem exec_journalSealCommit (s : State) : exec (.journalSealCommit) s = execJournalSealCommit s := rfl
@[simp] theorem exec_chanterIssue (l : LinkId) (die : Fin 18) (s : State) : exec (.chanterIssue l die) s = execChanterIssue l die s := rfl
@[simp] theorem exec_suspendWindowExpiry (l : LinkId) (die : Fin 18) (s : State) : exec (.suspendWindowExpiry l die) s = execSuspendWindowExpiry l die s := rfl
@[simp] theorem exec_dieReadTimeout (l : LinkId) (tag : Nat) (s : State) : exec (.dieReadTimeout l tag) s = execDieReadTimeout l tag s := rfl
@[simp] theorem exec_dieOpTimeout (l : LinkId) (die : Fin 18) (s : State) : exec (.dieOpTimeout l die) s = execDieOpTimeout l die s := rfl
@[simp] theorem exec_linkFrameReceived (l : LinkId) (f : LinkFrame) (s : State) : exec (.linkFrameReceived l f) s = execLinkFrameReceived l f s := rfl
@[simp] theorem exec_replayTimeout (l : LinkId) (s : State) : exec (.replayTimeout l) s = execReplayTimeout l s := rfl
@[simp] theorem exec_podViolWindowRoll (s : State) : exec (.podViolWindowRoll) s = execPodViolWindowRoll s := rfl
@[simp] theorem exec_fecLockLoss (l : LinkId) (s : State) : exec (.fecLockLoss l) s = execFecLockLoss l s := rfl
@[simp] theorem exec_linkRecoveryStepResult (l : LinkId) (restored : Bool) (s : State) : exec (.linkRecoveryStepResult l restored) s = execLinkRecoveryStepResult l restored s := rfl
@[simp] theorem exec_dieTimeoutPauseExpiry (l : LinkId) (s : State) : exec (.dieTimeoutPauseExpiry l) s = execDieTimeoutPauseExpiry l s := rfl
@[simp] theorem exec_podStatusMissing (l : LinkId) (s : State) : exec (.podStatusMissing l) s = execPodStatusMissing l s := rfl
@[simp] theorem exec_ldpcDecodeComplete (op : Nat) (e : DecodeEnd) (bits : Nat) (fixed : Nat) (s : State) : exec (.ldpcDecodeComplete op e bits fixed) s = execLdpcDecodeComplete op e bits fixed s := rfl
@[simp] theorem exec_ldpcDecodeTimeout (q : QuadId) (s : State) : exec (.ldpcDecodeTimeout q) s = execLdpcDecodeTimeout q s := rfl
@[simp] theorem exec_coreHeartbeatMiss (q : QuadId) (core : Fin 16) (s : State) : exec (.coreHeartbeatMiss q core) s = execCoreHeartbeatMiss q core s := rfl
@[simp] theorem exec_moverNoProgress (m : MoverId) (s : State) : exec (.moverNoProgress m) s = execMoverNoProgress m s := rfl
@[simp] theorem exec_t1MissFillComplete (n : SliceId) (s : State) : exec (.t1MissFillComplete n) s = execT1MissFillComplete n s := rfl
@[simp] theorem exec_mapFetchComplete (nsid : Nat) (line : FetchedLine) (s : State) : exec (.mapFetchComplete nsid line) s = execMapFetchComplete nsid line s := rfl
@[simp] theorem exec_mapCacheWayError (n : SliceId) (set : Fin 256) (way : Fin 17) (uncorrectable : Bool) (tagLost : Bool) (s : State) : exec (.mapCacheWayError n set way uncorrectable tagLost) s = execMapCacheWayError n set way uncorrectable tagLost s := rfl
@[simp] theorem exec_wayErrorWindowExpiry (n : SliceId) (set : Fin 256) (way : Fin 17) (s : State) : exec (.wayErrorWindowExpiry n set way) s = execWayErrorWindowExpiry n set way s := rfl
@[simp] theorem exec_mcRegionLoWrite (w : Writer) (n : Fin 64) (value : W64) (s : State) : exec (.mcRegionLoWrite w n value) s = execMcRegionLoWrite w n value s := rfl
@[simp] theorem exec_mcClean (s : State) : exec (.mcClean) s = execMcClean s := rfl
@[simp] theorem exec_mcInvalidate (s : State) : exec (.mcInvalidate) s = execMcInvalidate s := rfl
@[simp] theorem exec_mcDiscard (s : State) : exec (.mcDiscard) s = execMcDiscard s := rfl
@[simp] theorem exec_mcUnlock (s : State) : exec (.mcUnlock) s = execMcUnlock s := rfl
@[simp] theorem exec_mcMaintDone (s : State) : exec (.mcMaintDone) s = execMcMaintDone s := rfl
@[simp] theorem exec_checkpointLine (nsid : Nat) (line : Nat) (s : State) : exec (.checkpointLine nsid line) s = execCheckpointLine nsid line s := rfl
@[simp] theorem exec_gcVictimStart (g : Fin 16) (s : State) : exec (.gcVictimStart g) s = execGcVictimStart g s := rfl
@[simp] theorem exec_relocationCopyComplete (g : Fin 16) (band : Nat) (s : State) : exec (.relocationCopyComplete g band) s = execRelocationCopyComplete g band s := rfl
@[simp] theorem exec_retentionClockTick (s : State) : exec (.retentionClockTick) s = execRetentionClockTick s := rfl
@[simp] theorem exec_retentionRefresh (g : Fin 16) (s : State) : exec (.retentionRefresh g) s = execRetentionRefresh g s := rfl
@[simp] theorem exec_ladderUnitRewrite (mun : Nat) (s : State) : exec (.ladderUnitRewrite mun) s = execLadderUnitRewrite mun s := rfl
@[simp] theorem exec_wearLevelling (g : Fin 16) (dieSet : Fin 16) (s : State) : exec (.wearLevelling g dieSet) s = execWearLevelling g dieSet s := rfl
@[simp] theorem exec_writeClosedTimer (g : Fin 16) (s : State) : exec (.writeClosedTimer g) s = execWriteClosedTimer g s := rfl
@[simp] theorem exec_rebuildRowSolve (id : Nat) (found : List SlotSolve) (s : State) : exec (.rebuildRowSolve id found) s = execRebuildRowSolve id found s := rfl
@[simp] theorem exec_podPresenceChange (l : LinkId) (present : Bool) (desc : Option PodDesc) (s : State) : exec (.podPresenceChange l present desc) s = execPodPresenceChange l present desc s := rfl
@[simp] theorem exec_baySwitchStatusPoll (l : LinkId) (st : BayStatus) (s : State) : exec (.baySwitchStatusPoll l st) s = execBaySwitchStatusPoll l st s := rfl
@[simp] theorem exec_baySwitchIbi (l : LinkId) (st : BayStatus) (s : State) : exec (.baySwitchIbi l st) s = execBaySwitchIbi l st s := rfl
@[simp] theorem exec_droneWindow (dieTime : Nat) (coreTime : Nat) (drones : List (Nat × Nat)) (s : State) : exec (.droneWindow dieTime coreTime drones) s = execDroneWindow dieTime coreTime drones s := rfl
@[simp] theorem exec_patrolScrub (g : Fin 16) (band : Nat) (row : Nat) (finds : List ScrubFind) (s : State) : exec (.patrolScrub g band row finds) s = execPatrolScrub g band row finds s := rfl
@[simp] theorem exec_readOffsetCalibration (l : LinkId) (die : Fin 18) (blockGroup : Nat) (s : State) : exec (.readOffsetCalibration l die blockGroup) s = execReadOffsetCalibration l die blockGroup s := rfl
@[simp] theorem exec_memoryScrub (h : ScrubHit) (s : State) : exec (.memoryScrub h) s = execMemoryScrub h s := rfl
@[simp] theorem exec_linkAdaptation (l : LinkId) (s : State) : exec (.linkAdaptation l) s = execLinkAdaptation l s := rfl
@[simp] theorem exec_spareMediaVerify (l : LinkId) (die : Fin 18) (answers : Bool) (bad : List Nat) (s : State) : exec (.spareMediaVerify l die answers bad) s = execSpareMediaVerify l die answers bad s := rfl
@[simp] theorem exec_vaultRearm (g : Fin 16) (band : Nat) (s : State) : exec (.vaultRearm g band) s = execVaultRearm g band s := rfl
@[simp] theorem exec_reserveBandReturn (g : Fin 16) (band : Nat) (s : State) : exec (.reserveBandReturn g band) s = execReserveBandReturn g band s := rfl
@[simp] theorem exec_podStatsRead (l : LinkId) (die : Fin 18) (resets : Nat) (tempMaxK : Nat) (s : State) : exec (.podStatsRead l die resets tempMaxK) s = execPodStatsRead l die resets tempMaxK s := rfl
@[simp] theorem exec_telemetrySnapshot (s : State) : exec (.telemetrySnapshot) s = execTelemetrySnapshot s := rfl
@[simp] theorem exec_eventRecorderTake (s : State) : exec (.eventRecorderTake) s = execEventRecorderTake s := rfl
@[simp] theorem exec_stopDataOut (n : StopId) (f : OutFrame) (s : State) : exec (.stopDataOut n f) s = execStopDataOut n f s := rfl
@[simp] theorem exec_stopEndFrame (n : StopId) (f : OutFrame) (s : State) : exec (.stopEndFrame n f) s = execStopEndFrame n f s := rfl
@[simp] theorem exec_stopMoverOut (n : StopId) (f : OutFrame) (s : State) : exec (.stopMoverOut n f) s = execStopMoverOut n f s := rfl
@[simp] theorem exec_stopControlResponse (n : StopId) (tag : Fin 16) (value : W64) (stable : Bool) (s : State) : exec (.stopControlResponse n tag value stable) s = execStopControlResponse n tag value stable s := rfl
@[simp] theorem exec_stopIrqEdge (n : StopId) (line : Fin 8) (s : State) : exec (.stopIrqEdge n line) s = execStopIrqEdge n line s := rfl
@[simp] theorem exec_stopDrainAck (n : StopId) (s : State) : exec (.stopDrainAck n) s = execStopDrainAck n s := rfl
@[simp] theorem exec_stopDrainLimitExpiry (n : StopId) (s : State) : exec (.stopDrainLimitExpiry n) s = execStopDrainLimitExpiry n s := rfl
@[simp] theorem exec_stopXformTimeout (n : StopId) (tag : Nat) (s : State) : exec (.stopXformTimeout n tag) s = execStopXformTimeout n tag s := rfl
@[simp] theorem exec_stopComputeTimeout (n : StopId) (tag : Nat) (s : State) : exec (.stopComputeTimeout n tag) s = execStopComputeTimeout n tag s := rfl
@[simp] theorem exec_stopControlReadTimeout (n : StopId) (tag : Fin 16) (s : State) : exec (.stopControlReadTimeout n tag) s = execStopControlReadTimeout n tag s := rfl
@[simp] theorem exec_stopConfigWritten (n : StopId) (failing : List Nat) (s : State) : exec (.stopConfigWritten n failing) s = execStopConfigWritten n failing s := rfl
@[simp] theorem exec_stopViolWindowRoll (s : State) : exec (.stopViolWindowRoll) s = execStopViolWindowRoll s := rfl
@[simp] theorem exec_dmRingTailWrite (m : MoverId) (k : ChanId) (tail : Nat) (descs : List (Nat × MvDesc)) (s : State) : exec (.dmRingTailWrite m k tail descs) s = execDmRingTailWrite m k tail descs s := rfl
@[simp] theorem exec_dmRingBaseWrite (m : MoverId) (k : ChanId) (value : W64) (s : State) : exec (.dmRingBaseWrite m k value) s = execDmRingBaseWrite m k value s := rfl
@[simp] theorem exec_dmEnableWrite (m : MoverId) (k : ChanId) (on : Bool) (s : State) : exec (.dmEnableWrite m k on) s = execDmEnableWrite m k on s := rfl
@[simp] theorem exec_dmPauseWrite (m : MoverId) (k : ChanId) (on : Bool) (s : State) : exec (.dmPauseWrite m k on) s = execDmPauseWrite m k on s := rfl
@[simp] theorem exec_dmPaceRequestWrite (m : MoverId) (k : ChanId) (on : Bool) (s : State) : exec (.dmPaceRequestWrite m k on) s = execDmPaceRequestWrite m k on s := rfl
@[simp] theorem exec_dmCopy (m : MoverId) (k : ChanId) (s : State) : exec (.dmCopy m k) s = execDmCopy m k s := rfl
@[simp] theorem exec_dmFill (m : MoverId) (k : ChanId) (s : State) : exec (.dmFill m k) s = execDmFill m k s := rfl
@[simp] theorem exec_dmCheck (m : MoverId) (k : ChanId) (s : State) : exec (.dmCheck m k) s = execDmCheck m k s := rfl
@[simp] theorem exec_dmFence (m : MoverId) (k : ChanId) (s : State) : exec (.dmFence m k) s = execDmFence m k s := rfl
@[simp] theorem exec_dmNop (m : MoverId) (k : ChanId) (s : State) : exec (.dmNop m k) s = execDmNop m k s := rfl
@[simp] theorem exec_dmBurstComplete (m : MoverId) (k : ChanId) (bytes : List Byte) (e : BurstEnd) (s : State) : exec (.dmBurstComplete m k bytes e) s = execDmBurstComplete m k bytes e s := rfl
@[simp] theorem exec_dmFenceReadComplete (m : MoverId) (k : ChanId) (s : State) : exec (.dmFenceReadComplete m k) s = execDmFenceReadComplete m k s := rfl
@[simp] theorem exec_dmRingReadFailure (m : MoverId) (k : ChanId) (s : State) : exec (.dmRingReadFailure m k) s = execDmRingReadFailure m k s := rfl
@[simp] theorem exec_registerWrite (w : Writer) (addr : Nat) (value : W64) (s : State) : exec (.registerWrite w addr value) s = execRegisterWrite w addr value s := rfl
@[simp] theorem exec_ingressBeatAccepted (n : StopId) (mover : Option ChanId) (tag : Nat) (seq : Nat) (s : State) : exec (.ingressBeatAccepted n mover tag seq) s = execIngressBeatAccepted n mover tag seq s := rfl
@[simp] theorem exec_powerStateEntryComplete (s : State) : exec (.powerStateEntryComplete) s = execPowerStateEntryComplete s := rfl
@[simp] theorem exec_bellowsTestDeadline (s : State) : exec (.bellowsTestDeadline) s = execBellowsTestDeadline s := rfl
@[simp] theorem exec_bootFlashRead (bank : Fin 2) (off : Nat) (s : State) : exec (.bootFlashRead bank off) s = execBootFlashRead bank off s := rfl

end Sys2Proof.Machine
end

