-- ==== Sys2Proof/Laws/Kept.lean ====
section
/-! SUPPORT. What every operation of the module keeps: the journal's invariant, the queue of commands, and the fuses. One lemma an operation, in the files after this one. -/
namespace Sys2Proof.Machine

/-- From `a` on: the journal's invariant still holds, the commands that wait are the same, and fuses have only been added. -/
structure Kept (a b : State) : Prop where
  jrn : a.Journalled → b.Journalled
  queue : b.pending = a.pending
  fuses : a.otp.Usable → Otp.grows a.otp b.otp ∧ b.otp.Usable

/-- A command answers a next state and keeps it. -/
def KeptX (a : State) (o : Host.Outcome State Fault Refusal) : Prop := ∃ t, o = .next t ∧ Kept a t

theorem Otp.grows_refl (o : Otp) : Otp.grows o o := by simp [Otp.grows]
theorem Otp.grows_trans {a b c : Otp} (h : Otp.grows a b) (g : Otp.grows b c) : Otp.grows a c := by
  obtain ⟨h1, h2, h3, h4, h5, h6, h7⟩ := h
  obtain ⟨g1, g2, g3, g4, g5, g6, g7⟩ := g
  refine ⟨h1.trans g1, ?_, ?_, h4.trans g4, h5.trans g5, fun e => g6 (h6 e), fun e => g7 (h7 e)⟩
  · rw [← h2, BitVec.and_assoc, g2]
  · rw [← h3, BitVec.and_assoc, g3]

theorem Otp.and_or (x y : BitVec 4) : x &&& (x ||| y) = x := by revert x y; decide

theorem Kept.refl (s : State) : Kept s s := ⟨id, rfl, fun h => ⟨Otp.grows_refl _, h⟩⟩
theorem Kept.trans {a b c : State} (h : Kept a b) (g : Kept b c) : Kept a c :=
  ⟨fun e => g.jrn (h.jrn e), g.queue.trans h.queue, fun e => ⟨Otp.grows_trans (h.fuses e).1 (g.fuses (h.fuses e).2).1, (g.fuses (h.fuses e).2).2⟩⟩

/-- An update that leaves what the invariants speak of. -/
theorem Kept.same {a s t : State} (h : Kept a s) (h1 : t.live = s.live) (h2 : t.sealed = s.sealed) (h3 : t.jrn.opened = s.jrn.opened)
    (h4 : t.jrn.sealing = s.jrn.sealing) (h5 : t.otp = s.otp) (h6 : t.pending = s.pending) : Kept a t :=
  ⟨fun e => by have := h.jrn e; simpa [State.Journalled, State.replayed, h1, h2, h3, h4] using this, h6.trans h.queue, fun e => by rw [h5]; exact h.fuses e⟩
/-- A record update that leaves the sealed state, the journal, the fuses and the queue. -/
theorem Kept.upd {a s : State} (h : Kept a s) f_now f_modes f_pw f_part f_keep f_flash f_format f_spares f_ports f_insts f_ctxs f_ended f_nextCtx f_fetches f_bells f_vault f_lines f_lends f_mc f_cache f_cw f_groups f_ops f_solves f_dies f_chanters f_links f_pods f_stops f_store f_chans f_drones f_ev f_health f_mech f_free f_out :
    Kept a (State.mk f_now f_modes f_pw f_part f_keep s.otp f_flash f_format f_spares f_ports f_insts f_ctxs f_ended f_nextCtx f_fetches f_bells s.live s.sealed s.jrn f_vault f_lines f_lends f_mc f_cache f_cw f_groups f_ops f_solves f_dies f_chanters f_links f_pods f_stops f_store f_chans f_drones f_ev f_health f_mech f_free f_out s.pending) :=
  h.same rfl rfl rfl rfl rfl rfl
theorem Kept.modJrn {a s : State} (h : Kept a s) (f : Journal → Journal) (h1 : ∀ j, (f j).opened = j.opened) (h2 : ∀ j, (f j).sealing = j.sealing) : Kept a (s.modJrn f) :=
  h.same rfl rfl (h1 _) (h2 _) rfl rfl

/-! ## Choices and repetitions -/

theorem Kept.each {a s : State} (h : Kept a s) (xs : List Nat) (f : Nat → State → State) (hf : ∀ x t, Kept a t → Kept a (f x t)) : Kept a (s.each xs f) := by
  unfold State.each
  induction xs generalizing s with
  | nil => exact h
  | cons x xs ih => exact ih (hf x s h)
theorem Kept.allPorts {a s : State} (h : Kept a s) (f : Nat → State → State) (hf : ∀ x t, Kept a t → Kept a (f x t)) : Kept a (s.allPorts f) := h.each _ f hf
theorem Kept.foldl {α : Type} {a s : State} (xs : List α) (f : State → α → State) (hf : ∀ t x, Kept a t → Kept a (f t x)) (h : Kept a s) : Kept a (xs.foldl f s) := by
  induction xs generalizing s with
  | nil => exact h
  | cons x xs ih => exact ih (hf s x h)
theorem Kept.foldl_snd {α β : Type} {a : State} (xs : List α) (f : β × State → α → β × State) (p : β × State)
    (hf : ∀ p x, Kept a p.2 → Kept a (f p x).2) (h : Kept a p.2) : Kept a (xs.foldl f p).2 := by
  induction xs generalizing p with
  | nil => exact h
  | cons x xs ih => exact ih (f p x) (hf p x h)
theorem Kept.foldl_option {α : Type} {a : State} (xs : List α) (f : Option State → α → Option State) (o : Option State)
    (hf : ∀ o x t, (∀ t, o = some t → Kept a t) → f o x = some t → Kept a t) (h : ∀ t, o = some t → Kept a t) : ∀ t, xs.foldl f o = some t → Kept a t := by
  induction xs generalizing o with
  | nil => exact h
  | cons x xs ih => exact ih (f o x) (fun t e => hf o x t h e)
theorem Kept.ite {c : Prop} [Decidable c] {a x y : State} (h : c → Kept a x) (g : ¬ c → Kept a y) : Kept a (if c then x else y) := by split <;> simp_all
theorem KeptX.next {a t : State} (h : Kept a t) : KeptX a (.next t) := ⟨t, rfl, h⟩

/-! ## The journal -/

theorem Kept.logRec {a s : State} (h : Kept a s) (r : Rec) : Kept a (s.logRec r) :=
  ⟨fun e => by have := h.jrn e; simp only [State.Journalled, State.replayed, State.logRec] at *; rw [this, ← List.append_assoc, List.foldl_append (l' := [r])]; rfl, h.queue, h.fuses⟩
theorem Kept.closeEpoch {a s : State} (h : Kept a s) : Kept a s.closeEpoch := by
  unfold State.closeEpoch
  split
  · exact h
  · rename_i hn
    refine ⟨fun e => ?_, h.queue, h.fuses⟩
    have := h.jrn e
    have hs : s.jrn.sealing = none := by simpa using hn
    simpa [State.Journalled, State.replayed, State.modJrn, hs] using this
/-- The seal's commit point itself: the sealing epoch's records are in the sealed state. -/
theorem Kept.sealedIn {a s : State} {rs : List Rec} (h : Kept a s) (hs : s.jrn.sealing = some rs) (f : Journal → Journal)
    (h1 : ∀ j, (f j).opened = j.opened) (h2 : ∀ j, (f j).sealing = none) : Kept a (({ s with sealed := rs.foldl Durable.apply s.sealed } : State).modJrn f) := by
  refine ⟨fun e => ?_, h.queue, h.fuses⟩
  have := h.jrn e
  simpa [State.Journalled, State.replayed, State.modJrn, hs, h1, h2] using this
theorem Kept.discard {a s : State} (h : Kept a s) (ports : Bool) : Kept a (s.discard ports) :=
  ⟨fun _ => by simp [State.Journalled, State.replayed, State.discard], h.queue, h.fuses⟩
theorem Kept.freshMedia {a s : State} (h : Kept a s) (d : Durable) : Kept a (s.freshMedia d) :=
  ⟨fun _ => by simp [State.Journalled, State.replayed, State.freshMedia], h.queue, h.fuses⟩

/-! ## Fuses -/

theorem Kept.fuse {a s t : State} (h : Kept a s) (h1 : t.live = s.live) (h2 : t.sealed = s.sealed) (h3 : t.jrn = s.jrn) (h6 : t.pending = s.pending)
    (h5 : s.otp.Usable → Otp.grows s.otp t.otp ∧ t.otp.Usable) : Kept a t :=
  h.trans ⟨fun e => by simpa [State.Journalled, State.replayed, h1, h2, h3] using e, h6, h5⟩

end Sys2Proof.Machine
end

