-- ==== Sys2Proof/Laws/KeptOps.lean ====
section
/-! SUPPORT. One lemma for each shared operation: it keeps the journal's invariant, the queue and the fuses. -/
namespace Sys2Proof.Machine
theorem Kept.modFlash {a s : State} (h : Kept a s) (x0 : Flash → Flash) : Kept a (State.modFlash x0 s) := h.upd ..
theorem Kept.modBank {a s : State} (h : Kept a s) (x0 : Nat) (x1 : Bank → Bank) : Kept a (State.modBank x0 x1 s) := by
  unfold State.modBank
  repeat' first | with_reducible assumption | intro _ | with_reducible apply Kept.modFlash
theorem Kept.flashOps {a s : State} (h : Kept a s) (x0 : Nat) (x1 : List (Nat × Bool)) : Kept a (State.flashOps x0 x1 s) := by
  unfold State.flashOps
  repeat' first | with_reducible assumption | intro _ | with_reducible apply Kept.modBank
theorem Kept.modPort {a s : State} (h : Kept a s) (x0 : Nat) (x1 : Port → Port) : Kept a (State.modPort x0 x1 s) := h.upd ..
theorem Kept.modPw {a s : State} (h : Kept a s) (x0 : Power → Power) : Kept a (State.modPw x0 s) := h.upd ..
theorem Kept.modCache {a s : State} (h : Kept a s) (x0 : Cache → Cache) : Kept a (State.modCache x0 s) := h.upd ..
theorem Kept.refreshHeld {a s : State} (h : Kept a s) : Kept a (State.refreshHeld s) := by
  unfold State.refreshHeld
  repeat' first | with_reducible assumption | intro _ | with_reducible apply Kept.modCache
theorem Kept.setLimit {a s : State} (h : Kept a s) : Kept a (State.setLimit s) := by
  unfold State.setLimit
  repeat' first | with_reducible assumption | intro _ | with_reducible apply Kept.refreshHeld | with_reducible apply Kept.modCache
theorem Kept.modModes {a s : State} (h : Kept a s) (x0 : Modes → Modes) : Kept a (State.modModes x0 s) := h.upd ..
theorem Kept.dropCtx {a s : State} (h : Kept a s) (x0 : Nat) : Kept a (State.dropCtx x0 s) := h.upd ..
theorem Kept.modCtx {a s : State} (h : Kept a s) (x0 : Nat) (x1 : Ctx → Ctx) : Kept a (State.modCtx x0 x1 s) := h.upd ..
theorem Kept.modInst {a s : State} (h : Kept a s) (x0 : Nat) (x1 : Inst → Inst) : Kept a (State.modInst x0 x1 s) := h.upd ..
theorem Kept.emit {a s : State} (h : Kept a s) (x0 : Out) : Kept a (State.emit x0 s) := h.upd ..
theorem Kept.noteDone {a s : State} (h : Kept a s) (x0 : Nat) (x1 : Nat) (x2 : Nat) : Kept a (State.noteDone x0 x1 x2 s) := by
  unfold State.noteDone
  repeat' first | with_reducible assumption | intro _ | with_reducible apply Kept.modPort | with_reducible apply Kept.modInst
theorem Kept.interrupt {a s : State} (h : Kept a s) (x0 : Nat) (x1 : Nat) (x2 : Option Nat) : Kept a (State.interrupt x0 x1 x2 s) := by
  unfold State.interrupt
  repeat' first | with_reducible assumption | intro _ | with_reducible apply Kept.modPort | with_reducible apply Kept.emit | with_reducible apply Kept.foldl | with_reducible apply Kept.foldl_snd | extract_lets | with_reducible refine Kept.ite ?_ ?_
theorem Kept.pushCqe {a s : State} (h : Kept a s) (x0 : Nat) (x1 : Nat) (x2 : Cqe) : Kept a (State.pushCqe x0 x1 x2 s) := by
  unfold State.pushCqe
  repeat' first | with_reducible assumption | intro _ | with_reducible apply Kept.modInst | with_reducible apply Kept.emit | with_reducible apply Kept.dropCtx | with_reducible apply Kept.noteDone | with_reducible apply Kept.interrupt | with_reducible apply Kept.foldl | with_reducible apply Kept.foldl_snd | extract_lets | with_reducible refine Kept.ite ?_ ?_ | split
theorem Kept.writeCqe {a s : State} (h : Kept a s) (x0 : Nat) (x1 : Nat) (x2 : Cqe) : Kept a (State.writeCqe x0 x1 x2 s) := by
  unfold State.writeCqe
  repeat' first | with_reducible assumption | intro _ | with_reducible apply Kept.dropCtx | with_reducible apply Kept.modCtx | with_reducible apply Kept.modPort | with_reducible apply Kept.modInst | with_reducible apply Kept.pushCqe | with_reducible apply Kept.foldl | with_reducible apply Kept.foldl_snd | extract_lets | with_reducible refine Kept.ite ?_ ?_ | split
theorem Kept.answerAer {a s : State} (h : Kept a s) (x0 : Nat) (x1 : AsyncEv) : Kept a (State.answerAer x0 x1 s) := by
  unfold State.answerAer
  repeat' first | with_reducible assumption | intro _ | with_reducible apply Kept.writeCqe | with_reducible apply Kept.modPort | with_reducible apply Kept.foldl | with_reducible apply Kept.foldl_snd | extract_lets | with_reducible refine Kept.ite ?_ ?_ | split
theorem Kept.postEvent {a s : State} (h : Kept a s) (x0 : Nat) (x1 : AsyncEv) : Kept a (State.postEvent x0 x1 s) := by
  unfold State.postEvent
  repeat' first | with_reducible assumption | intro _ | with_reducible apply Kept.modPort | with_reducible apply Kept.answerAer | with_reducible apply Kept.foldl | with_reducible apply Kept.foldl_snd | extract_lets | with_reducible refine Kept.ite ?_ ?_
theorem Kept.postVendor {a s : State} (h : Kept a s) (x0 : Nat) (x1 : Nat) : Kept a (State.postVendor x0 x1 s) := by
  unfold State.postVendor
  repeat' first | with_reducible assumption | intro _ | with_reducible apply Kept.postEvent | with_reducible apply Kept.modPort | with_reducible apply Kept.foldl | with_reducible apply Kept.foldl_snd | extract_lets | with_reducible refine Kept.ite ?_ ?_
theorem Kept.postOutstanding {a s : State} (h : Kept a s) (x0 : Nat) (x1 : Nat) : Kept a (State.postOutstanding x0 x1 s) := by
  unfold State.postOutstanding
  repeat' first | with_reducible assumption | intro _ | with_reducible apply Kept.postVendor | with_reducible apply Kept.foldl | with_reducible apply Kept.foldl_snd | extract_lets | with_reducible refine Kept.ite ?_ ?_
theorem Kept.setMode {a s : State} (h : Kept a s) (x0 : Mode) : Kept a (State.setMode x0 s) := by
  unfold State.setMode
  repeat' first | with_reducible assumption | intro _ | with_reducible apply Kept.modModes
theorem Kept.settleMode {a s : State} (h : Kept a s) : Kept a (State.settleMode s) := by
  unfold State.settleMode
  repeat' first | with_reducible assumption | intro _ | with_reducible apply Kept.setMode | with_reducible apply Kept.foldl | with_reducible apply Kept.foldl_snd | extract_lets | with_reducible refine Kept.ite ?_ ?_
theorem Kept.setDegrade {a s : State} (h : Kept a s) (x0 : Nat) (x1 : Bool) : Kept a (State.setDegrade x0 x1 s) := by
  unfold State.setDegrade
  repeat' first | with_reducible assumption | intro _ | with_reducible apply Kept.modModes | with_reducible apply Kept.allPorts | with_reducible apply Kept.postOutstanding | with_reducible apply Kept.modPort | with_reducible apply Kept.settleMode | with_reducible apply Kept.foldl | with_reducible apply Kept.foldl_snd | extract_lets | with_reducible refine Kept.ite ?_ ?_
theorem Kept.modGroup {a s : State} (h : Kept a s) (x0 : Nat) (x1 : Group → Group) : Kept a (State.modGroup x0 x1 s) := h.upd ..
theorem Kept.modStripe {a s : State} (h : Kept a s) (x0 : Nat) (x1 : Stripe → Stripe) : Kept a (State.modStripe x0 x1 s) := by
  unfold State.modStripe
  repeat' first | with_reducible assumption | intro _ | with_reducible apply Kept.modCache
theorem Kept.addOp {a s : State} (h : Kept a s) (x0 : Op) : Kept a (State.addOp x0 s) := h.upd ..
theorem Kept.queueProgram {a s : State} (h : Kept a s) (x0 : Nat) (x1 : Nat) : Kept a (State.queueProgram x0 x1 s) := by
  unfold State.queueProgram
  repeat' first | with_reducible assumption | intro _ | with_reducible apply Kept.modStripe | with_reducible apply Kept.addOp | with_reducible apply Kept.foldl | with_reducible apply Kept.foldl_snd | extract_lets | with_reducible refine Kept.ite ?_ ?_ | split
theorem Kept.eraseSubs {a s : State} (h : Kept a s) (x0 : Nat) (x1 : Nat) (x2 : OpClass) : Kept a (State.eraseSubs x0 x1 x2 s) := by
  unfold State.eraseSubs
  repeat' first | with_reducible assumption | intro _ | with_reducible apply Kept.each | with_reducible apply Kept.addOp | with_reducible apply Kept.foldl | with_reducible apply Kept.foldl_snd | extract_lets | with_reducible refine Kept.ite ?_ ?_
theorem Kept.logBand {a s : State} (h : Kept a s) (x0 : Nat) (x1 : Nat) (x2 : BandEvent) : Kept a (State.logBand x0 x1 x2 s) := by
  unfold State.logBand
  repeat' first | with_reducible assumption | intro _ | with_reducible apply Kept.logRec
theorem Kept.openStripe {a s : State} (h : Kept a s) (x0 : Nat) (x1 : Stream) : Kept a (State.openStripe x0 x1 s) := by
  unfold State.openStripe
  repeat' first | with_reducible assumption | intro _ | with_reducible apply Kept.eraseSubs | with_reducible apply Kept.logBand | with_reducible apply Kept.modGroup | with_reducible apply Kept.modCache | with_reducible apply Kept.foldl | with_reducible apply Kept.foldl_snd | extract_lets | with_reducible refine Kept.ite ?_ ?_ | split | dsimp +zetaDelta only
theorem Kept.needStripe {a s : State} (h : Kept a s) (x0 : Nat) (x1 : Stream) : Kept a (State.needStripe x0 x1 s) := by
  unfold State.needStripe
  repeat' first | with_reducible assumption | intro _ | with_reducible apply Kept.openStripe | with_reducible apply Kept.foldl | with_reducible apply Kept.foldl_snd | extract_lets | with_reducible refine Kept.ite ?_ ?_
theorem Kept.keepOpen {a s : State} (h : Kept a s) (x0 : Nat) (x1 : Stream) : Kept a (State.keepOpen x0 x1 s) := by
  unfold State.keepOpen
  repeat' first | with_reducible assumption | intro _ | with_reducible apply Kept.needStripe | with_reducible apply Kept.foldl | with_reducible apply Kept.foldl_snd | extract_lets | with_reducible refine Kept.ite ?_ ?_
theorem Kept.queueFull {a s : State} (h : Kept a s) (x0 : Nat) : Kept a (State.queueFull x0 s) := by
  unfold State.queueFull
  repeat' first | with_reducible assumption | intro _ | with_reducible apply Kept.each | with_reducible apply Kept.queueProgram | with_reducible apply Kept.keepOpen | with_reducible apply Kept.modStripe | with_reducible apply Kept.foldl | with_reducible apply Kept.foldl_snd | extract_lets | with_reducible refine Kept.ite ?_ ?_ | split
theorem Kept.closeStripe {a s : State} (h : Kept a s) (x0 : Nat) : Kept a (State.closeStripe x0 s) := by
  unfold State.closeStripe
  repeat' first | with_reducible assumption | intro _ | with_reducible apply Kept.modCache | with_reducible apply Kept.modGroup | with_reducible apply Kept.queueFull | with_reducible apply Kept.modStripe | with_reducible apply Kept.foldl | with_reducible apply Kept.foldl_snd | extract_lets | with_reducible refine Kept.ite ?_ ?_ | split | dsimp +zetaDelta only
theorem Kept.reviewEnergy {a s : State} (h : Kept a s) : Kept a (State.reviewEnergy s) := by
  unfold State.reviewEnergy
  repeat' first | with_reducible assumption | intro _ | with_reducible apply Kept.setDegrade | with_reducible apply Kept.modCache | with_reducible apply Kept.each | with_reducible apply Kept.closeStripe | with_reducible apply Kept.foldl | with_reducible apply Kept.foldl_snd | (with_reducible apply Kept.upd; first | with_reducible assumption | with_reducible apply Kept.setDegrade | with_reducible apply Kept.modCache | with_reducible apply Kept.each | with_reducible apply Kept.closeStripe | with_reducible apply Kept.foldl | with_reducible refine Kept.ite ?_ ?_)
theorem Kept.report {a s : State} (h : Kept a s) (x0 : Nat) (x1 : Nat) (x2 : Nat) (x3 : Nat) : Kept a (State.report x0 x1 x2 x3 s) := h.upd ..
theorem Kept.sensorFails {a s : State} (h : Kept a s) (x0 : Nat) (x1 : Nat) : Kept a (State.sensorFails x0 x1 s) := by
  unfold State.sensorFails
  repeat' first | with_reducible assumption | intro _ | with_reducible apply Kept.report | with_reducible apply Kept.modPw | with_reducible apply Kept.foldl | with_reducible apply Kept.foldl_snd | extract_lets | with_reducible refine Kept.ite ?_ ?_
theorem Kept.readSensor {a s : State} (h : Kept a s) (x0 : Bool) (x1 : Reading) : Kept a (State.readSensor x0 x1 s) := by
  unfold State.readSensor
  repeat' first | with_reducible assumption | intro _ | with_reducible apply Kept.modPw | with_reducible apply Kept.sensorFails | with_reducible apply Kept.foldl | with_reducible apply Kept.foldl_snd | extract_lets | with_reducible refine Kept.ite ?_ ?_ | split
theorem Kept.setLevel {a s : State} (h : Kept a s) (x0 : Nat) (x1 : Int) (x2 : Nat) : Kept a (State.setLevel x0 x1 x2 s) := by
  unfold State.setLevel
  repeat' first | with_reducible assumption | intro _ | with_reducible apply Kept.modPw | with_reducible apply Kept.report | with_reducible apply Kept.foldl | with_reducible apply Kept.foldl_snd | extract_lets | with_reducible refine Kept.ite ?_ ?_
theorem Kept.settleZone {a s : State} (h : Kept a s) (x0 : Nat) : Kept a (State.settleZone x0 s) := by
  unfold State.settleZone
  repeat' first | with_reducible assumption | intro _ | with_reducible apply Kept.setLevel | with_reducible apply Kept.foldl | with_reducible apply Kept.foldl_snd | extract_lets | with_reducible refine Kept.ite ?_ ?_ | split | dsimp +zetaDelta only
theorem Kept.settlePod {a s : State} (h : Kept a s) (x0 : Nat) : Kept a (State.settlePod x0 s) := by
  unfold State.settlePod
  repeat' first | with_reducible assumption | intro _ | with_reducible apply Kept.setLevel | with_reducible apply Kept.foldl | with_reducible apply Kept.foldl_snd | extract_lets | with_reducible refine Kept.ite ?_ ?_
theorem Kept.setComposite {a s : State} (h : Kept a s) : Kept a (State.setComposite s) := by
  unfold State.setComposite
  repeat' first | with_reducible assumption | intro _ | with_reducible apply Kept.modPw
theorem Kept.takeSample {a s : State} (h : Kept a s) (x0 : Sample) : Kept a (State.takeSample x0 s) := by
  unfold State.takeSample
  repeat' first | with_reducible assumption | intro _ | with_reducible apply Kept.modPw | with_reducible apply Kept.setLimit | with_reducible apply Kept.reviewEnergy | with_reducible apply Kept.readSensor | with_reducible apply Kept.each | with_reducible apply Kept.settleZone | with_reducible apply Kept.settlePod | with_reducible apply Kept.setComposite | with_reducible apply Kept.foldl
theorem Kept.modPod {a s : State} (h : Kept a s) (x0 : Nat) (x1 : Pod → Pod) : Kept a (State.modPod x0 x1 s) := h.upd ..
theorem Kept.podOff {a s : State} (h : Kept a s) (x0 : Nat) : Kept a (State.podOff x0 s) := by
  unfold State.podOff
  repeat' first | with_reducible assumption | intro _ | with_reducible apply Kept.modPod | with_reducible apply Kept.emit
theorem Kept.podsOff {a s : State} (h : Kept a s) : Kept a (State.podsOff s) := by
  unfold State.podsOff
  repeat' first | with_reducible assumption | intro _ | with_reducible apply Kept.modPw | with_reducible apply Kept.each | with_reducible apply Kept.podOff
theorem Kept.enterSafe {a s : State} (h : Kept a s) (x0 : Nat) : Kept a (State.enterSafe x0 s) := by
  unfold State.enterSafe
  repeat' first | with_reducible assumption | intro _ | with_reducible apply Kept.podsOff | with_reducible apply Kept.modModes | with_reducible apply Kept.allPorts | with_reducible apply Kept.modPort | with_reducible apply Kept.foldl | with_reducible apply Kept.foldl_snd | (with_reducible apply Kept.upd; first | with_reducible assumption | with_reducible apply Kept.podsOff | with_reducible apply Kept.modModes | with_reducible apply Kept.allPorts | with_reducible apply Kept.modPort | with_reducible apply Kept.foldl | with_reducible refine Kept.ite ?_ ?_)
theorem Kept.setDuty {a s : State} (h : Kept a s) : Kept a (State.setDuty s) := h.upd ..
theorem Kept.setMute {a s : State} (h : Kept a s) (x0 : Nat) : Kept a (State.setMute x0 s) := by
  unfold State.setMute
  repeat' first | with_reducible assumption | intro _ | with_reducible apply Kept.allPorts | with_reducible apply Kept.modPort | with_reducible apply Kept.modPw | with_reducible apply Kept.report | with_reducible apply Kept.setDegrade | with_reducible apply Kept.postVendor | with_reducible apply Kept.foldl | with_reducible apply Kept.foldl_snd | extract_lets | with_reducible refine Kept.ite ?_ ?_
theorem Kept.reviewMute {a s : State} (h : Kept a s) : Kept a (State.reviewMute s) := by
  unfold State.reviewMute
  repeat' first | with_reducible assumption | intro _ | with_reducible apply Kept.modPw | with_reducible apply Kept.setDuty | with_reducible apply Kept.setMute
theorem Kept.setStep {a s : State} (h : Kept a s) (x0 : Nat) : Kept a (State.setStep x0 s) := by
  unfold State.setStep
  repeat' first | with_reducible assumption | intro _ | with_reducible apply Kept.modModes
theorem Kept.modStop {a s : State} (h : Kept a s) (x0 : Nat) (x1 : Stop → Stop) : Kept a (State.modStop x0 x1 s) := h.upd ..
theorem Kept.endTag {a s : State} (h : Kept a s) (x0 : Nat) (x1 : Nat) : Kept a (State.endTag x0 x1 s) := by
  unfold State.endTag
  repeat' first | with_reducible assumption | intro _ | with_reducible apply Kept.modStop
theorem Kept.lateDiscard {a s : State} (h : Kept a s) (x0 : Nat) (x1 : Nat) : Kept a (State.lateDiscard x0 x1 s) := by
  unfold State.lateDiscard
  repeat' first | with_reducible assumption | intro _ | with_reducible apply Kept.modInst
theorem Kept.modChan {a s : State} (h : Kept a s) (x0 : Nat) (x1 : Chan → Chan) : Kept a (State.modChan x0 x1 s) := h.upd ..
theorem Kept.updChan {a s : State} (h : Kept a s) (x0 : Nat) (x1 : Chan → Chan) : Kept a (State.updChan x0 x1 s) := by
  unfold State.updChan
  repeat' first | with_reducible assumption | intro _ | with_reducible apply Kept.modChan | with_reducible apply Kept.emit | with_reducible apply Kept.foldl | with_reducible apply Kept.foldl_snd | extract_lets | with_reducible refine Kept.ite ?_ ?_
theorem Kept.moverDone {a s : State} (h : Kept a s) (x0 : Nat) (x1 : Nat) (x2 : Status) (x3 : List Byte) : Kept a (State.moverDone x0 x1 x2 x3 s) := by
  unfold State.moverDone
  repeat' first | with_reducible assumption | intro _ | with_reducible apply Kept.updChan
theorem Kept.modHealth {a s : State} (h : Kept a s) (x0 : Health → Health) : Kept a (State.modHealth x0 s) := h.upd ..
theorem Kept.countIo {a s : State} (h : Kept a s) (x0 : Ctx) (x1 : Status) : Kept a (State.countIo x0 x1 s) := by
  unfold State.countIo
  repeat' first | with_reducible assumption | intro _ | with_reducible apply Kept.modInst | with_reducible apply Kept.modHealth | with_reducible apply Kept.modPort | with_reducible apply Kept.foldl | with_reducible apply Kept.foldl_snd | extract_lets | with_reducible refine Kept.ite ?_ ?_
theorem Kept.finish {a s : State} (h : Kept a s) (x0 : Nat) (x1 : Status) (x2 : W32) : Kept a (State.finish x0 x1 x2 s) := by
  unfold State.finish
  repeat' first | with_reducible assumption | intro _ | with_reducible apply Kept.dropCtx | with_reducible apply Kept.lateDiscard | with_reducible apply Kept.emit | with_reducible refine Kept.modJrn ?_ _ (fun _ => rfl) (fun _ => rfl) | with_reducible apply Kept.moverDone | with_reducible apply Kept.countIo | with_reducible apply Kept.modInst | with_reducible apply Kept.writeCqe | with_reducible apply Kept.foldl | with_reducible apply Kept.foldl_snd | extract_lets | with_reducible refine Kept.ite ?_ ?_ | split
theorem Kept.settleDeletes {a s : State} (h : Kept a s) : Kept a (State.settleDeletes s) := by
  unfold State.settleDeletes
  repeat' first | with_reducible assumption | intro _ | with_reducible apply Kept.each | with_reducible apply Kept.finish | with_reducible apply Kept.modInst | with_reducible apply Kept.foldl | with_reducible apply Kept.foldl_snd | extract_lets | with_reducible refine Kept.ite ?_ ?_ | split
theorem Kept.complete {a s : State} (h : Kept a s) (x0 : Nat) (x1 : Status) (x2 : W32) : Kept a (State.complete x0 x1 x2 s) := by
  unfold State.complete
  repeat' first | with_reducible assumption | intro _ | with_reducible apply Kept.settleDeletes | with_reducible apply Kept.finish
theorem Kept.markGone {a s : State} (h : Kept a s) (x0 : Nat) (x1 : Nat) : Kept a (State.markGone x0 x1 s) := by
  unfold State.markGone
  repeat' first | with_reducible assumption | intro _ | with_reducible apply Kept.modStop
theorem Kept.settleCmd {a s : State} (h : Kept a s) (x0 : Nat) (x1 : StopCmd) : Kept a (State.settleCmd x0 x1 s) := by
  unfold State.settleCmd
  repeat' first | with_reducible assumption | intro _ | with_reducible apply Kept.endTag | with_reducible apply Kept.modCtx | with_reducible apply Kept.complete | with_reducible apply Kept.markGone | with_reducible apply Kept.foldl | with_reducible apply Kept.foldl_snd | extract_lets | with_reducible refine Kept.ite ?_ ?_
theorem Kept.haltChan {a s : State} (h : Kept a s) (x0 : Nat) (x1 : Nat) : Kept a (State.haltChan x0 x1 s) := by
  unfold State.haltChan
  repeat' first | with_reducible assumption | intro _ | with_reducible apply Kept.updChan
theorem Kept.logInst {a s : State} (h : Kept a s) (x0 : Nat) (x1 : DurInst → DurInst) : Kept a (State.logInst x0 x1 s) := by
  unfold State.logInst
  repeat' first | with_reducible assumption | intro _ | with_reducible apply Kept.logRec
theorem Kept.endReads {a s : State} (h : Kept a s) (x0 : Nat) : Kept a (State.endReads x0 s) := by
  unfold State.endReads
  repeat' first | with_reducible assumption | intro _ | with_reducible apply Kept.emit | with_reducible apply Kept.modStop | with_reducible apply Kept.foldl | with_reducible apply Kept.foldl_snd | extract_lets | with_reducible refine Kept.ite ?_ ?_ | split
theorem Kept.endDrain {a s : State} (h : Kept a s) (x0 : Nat) : Kept a (State.endDrain x0 s) := by
  unfold State.endDrain
  repeat' first | with_reducible assumption | intro _ | with_reducible apply Kept.settleCmd | with_reducible apply Kept.each | with_reducible apply Kept.updChan | with_reducible apply Kept.haltChan | with_reducible apply Kept.logInst | with_reducible apply Kept.modStop | with_reducible apply Kept.logRec | with_reducible apply Kept.endReads | with_reducible apply Kept.foldl | with_reducible apply Kept.foldl_snd | (with_reducible apply Kept.upd; first | with_reducible assumption | with_reducible apply Kept.settleCmd | with_reducible apply Kept.each | with_reducible apply Kept.updChan | with_reducible apply Kept.haltChan | with_reducible apply Kept.logInst | with_reducible apply Kept.modStop | with_reducible apply Kept.logRec | with_reducible apply Kept.endReads | with_reducible apply Kept.foldl | with_reducible refine Kept.ite ?_ ?_) | extract_lets | with_reducible refine Kept.ite ?_ ?_ | split
theorem Kept.startEpoch {a s : State} (h : Kept a s) (x0 : Nat) (x1 : StopGoal) (x2 : Option Nat) : Kept a (State.startEpoch x0 x1 x2 s) := by
  unfold State.startEpoch
  repeat' first | with_reducible assumption | intro _ | with_reducible apply Kept.modStop | with_reducible apply Kept.foldl | with_reducible apply Kept.foldl_snd | extract_lets | with_reducible refine Kept.ite ?_ ?_
theorem Kept.bringStop {a s : State} (h : Kept a s) (x0 : Bool) (x1 : Nat) : Kept a (State.bringStop x0 x1 s) := by
  unfold State.bringStop
  repeat' first | with_reducible assumption | intro _ | with_reducible apply Kept.report | with_reducible apply Kept.modStop | with_reducible apply Kept.postVendor | with_reducible apply Kept.endDrain | with_reducible apply Kept.startEpoch | with_reducible apply Kept.foldl | with_reducible apply Kept.foldl_snd | (with_reducible apply Kept.upd; first | with_reducible assumption | with_reducible apply Kept.report | with_reducible apply Kept.modStop | with_reducible apply Kept.postVendor | with_reducible apply Kept.endDrain | with_reducible apply Kept.startEpoch | with_reducible apply Kept.foldl | with_reducible refine Kept.ite ?_ ?_) | extract_lets | with_reducible refine Kept.ite ?_ ?_ | split
theorem Kept.feedStop {a s : State} (h : Kept a s) (x0 : Nat) (x1 : Nat) (x2 : Nat) (x3 : Nat) (x4 : W64) : Kept a (State.feedStop x0 x1 x2 x3 x4 s) := by
  unfold State.feedStop
  split
  · exact h
  · dsimp only
    split
    · exact h
    · refine Kept.each ((h.modStop _ _).modCtx _ _) _ _ (fun i t ht => ?_)
      split
      · exact ht
      · exact ht.emit _
theorem Kept.hostWrite {a s : State} (h : Kept a s) (x0 : Nat) (x1 : Out) : Kept a (State.hostWrite x0 x1 s) := by
  unfold State.hostWrite
  repeat' first | with_reducible assumption | intro _ | with_reducible apply Kept.modPort | with_reducible apply Kept.emit | with_reducible apply Kept.foldl | with_reducible apply Kept.foldl_snd | extract_lets | with_reducible refine Kept.ite ?_ ?_
theorem Kept.toTenant {a s : State} (h : Kept a s) (x0 : Ctx) (x1 : Out) : Kept a (State.toTenant x0 x1 s) := by
  unfold State.toTenant
  repeat' first | with_reducible assumption | intro _ | with_reducible apply Kept.hostWrite | with_reducible apply Kept.foldl | with_reducible apply Kept.foldl_snd | extract_lets | with_reducible refine Kept.ite ?_ ?_
theorem Kept.finishRead {a s : State} (h : Kept a s) (x0 : Nat) : Kept a (State.finishRead x0 s) := by
  unfold State.finishRead
  repeat' first | with_reducible assumption | intro _ | with_reducible apply Kept.feedStop | with_reducible apply Kept.complete | with_reducible apply Kept.modCtx | with_reducible apply Kept.toTenant | with_reducible apply Kept.foldl | with_reducible apply Kept.foldl_snd | extract_lets | with_reducible refine Kept.ite ?_ ?_ | split
theorem Kept.modSlice {a s : State} (h : Kept a s) (x0 : Nat) (x1 : Slice → Slice) : Kept a (State.modSlice x0 x1 s) := h.upd ..
theorem Kept.modMc {a s : State} (h : Kept a s) (x0 : MapCache → MapCache) : Kept a (State.modMc x0 s) := h.upd ..
theorem Kept.tryLock {a s : State} (h : Kept a s) (x0 : Nat) (x1 : Nat) (x2 : Nat) : Kept a (State.tryLock x0 x1 x2 s) := by
  unfold State.tryLock
  repeat' first | with_reducible assumption | intro _ | with_reducible apply Kept.modMc | with_reducible apply Kept.modSlice | with_reducible apply Kept.foldl | with_reducible apply Kept.foldl_snd | extract_lets | with_reducible refine Kept.ite ?_ ?_ | split
theorem Kept.accessLock {a s : State} (h : Kept a s) (x0 : Nat) (x1 : Nat) (x2 : Nat) : Kept a (State.accessLock x0 x1 x2 s) := by
  unfold State.accessLock
  repeat' first | with_reducible assumption | intro _ | with_reducible apply Kept.tryLock | with_reducible apply Kept.foldl | with_reducible apply Kept.foldl_snd | extract_lets | with_reducible refine Kept.ite ?_ ?_
theorem Kept.hitLine {a s : State} (h : Kept a s) (x0 : Nat) (x1 : Nat) (x2 : Nat) : Kept a (State.hitLine x0 x1 x2 s) := by
  unfold State.hitLine
  repeat' first | with_reducible assumption | intro _ | with_reducible apply Kept.modSlice | with_reducible apply Kept.accessLock | with_reducible apply Kept.modMc
theorem Kept.missLine {a s : State} (h : Kept a s) (x0 : Nat) (x1 : Nat) (x2 : Nat) : Kept a (State.missLine x0 x1 x2 s) := by
  unfold State.missLine
  repeat' first | with_reducible assumption | intro _ | with_reducible apply Kept.modSlice | with_reducible apply Kept.foldl | with_reducible apply Kept.foldl_snd | extract_lets | with_reducible refine Kept.ite ?_ ?_ | split
theorem Kept.lookup {a s : State} (h : Kept a s) (x0 : Nat) (x1 : Nat) (x2 : Nat) : Kept a (State.lookup x0 x1 x2 s).2 := by
  unfold State.lookup
  repeat' first | with_reducible assumption | intro _ | with_reducible apply Kept.hitLine | with_reducible apply Kept.missLine | with_reducible apply Kept.foldl | with_reducible apply Kept.foldl_snd | extract_lets | with_reducible refine Kept.ite ?_ ?_ | split
theorem Kept.lookup_eq {a s : State} (h : Kept a s) (x0 : Nat) (x1 : Nat) (x2 : Nat) {r t} (e : State.lookup x0 x1 x2 s = (r, t)) : Kept a t := by
  have := Kept.lookup h x0 x1 x2; rw [e] at this; exact this
theorem Kept.modDie {a s : State} (h : Kept a s) (x0 : Nat) (x1 : Die → Die) : Kept a (State.modDie x0 x1 s) := h.upd ..
theorem Kept.modChanter {a s : State} (h : Kept a s) (x0 : Nat) (x1 : Chanter → Chanter) : Kept a (State.modChanter x0 x1 s) := h.upd ..
theorem Kept.modLine {a s : State} (h : Kept a s) (x0 : Nat) (x1 : Nat) (x2 : Line → Line) : Kept a (State.modLine x0 x1 x2 s) := h.upd ..
theorem Kept.nextNonce {a s : State} (h : Kept a s) : Kept a (State.nextNonce s) := by
  unfold State.nextNonce
  repeat' first | with_reducible assumption | intro _ | with_reducible refine Kept.modJrn ?_ _ (fun _ => rfl) (fun _ => rfl)
theorem Kept.writeT1 {a s : State} (h : Kept a s) (x0 : Nat) (x1 : Nat) : Kept a (State.writeT1 x0 x1 s) := by
  unfold State.writeT1
  repeat' first | with_reducible assumption | intro _ | with_reducible apply Kept.modLine | with_reducible apply Kept.nextNonce
theorem Kept.writeBack {a s : State} (h : Kept a s) (x0 : Nat) (x1 : Nat) : Kept a (State.writeBack x0 x1 s) := by
  unfold State.writeBack
  repeat' first | with_reducible assumption | intro _ | with_reducible apply Kept.writeT1 | with_reducible apply Kept.modSlice | with_reducible apply Kept.foldl | with_reducible apply Kept.foldl_snd | extract_lets | with_reducible refine Kept.ite ?_ ?_ | split
theorem Kept.fill {a s : State} (h : Kept a s) (x0 : Nat) (x1 : Nat) : Kept a (State.fill x0 x1 s) := by
  unfold State.fill
  repeat' first | with_reducible assumption | intro _ | with_reducible apply Kept.writeBack | with_reducible apply Kept.modSlice | with_reducible apply Kept.tryLock | with_reducible apply Kept.modMc | with_reducible apply Kept.foldl | with_reducible apply Kept.foldl_snd | extract_lets | with_reducible refine Kept.ite ?_ ?_ | split
theorem Kept.drainChanges {a s : State} (h : Kept a s) (x0 : Nat) (x1 : Nat) : Kept a (State.drainChanges x0 x1 s) := by
  induction x1 generalizing s with
  | zero => exact h
  | succ f ih =>
    unfold State.drainChanges
    split
    · exact h
    · split
      · exact ih (h.writeBack ..)
      · exact h
theorem Kept.touchLine {a s : State} (h : Kept a s) (x0 : Nat) (x1 : Nat) (x2 : List Nat) : Kept a (State.touchLine x0 x1 x2 s) := by
  unfold State.touchLine
  repeat' first | with_reducible assumption | intro _ | with_reducible apply Kept.modLine | with_reducible apply Kept.fill | with_reducible apply Kept.writeT1 | with_reducible apply Kept.drainChanges | with_reducible apply Kept.modSlice | with_reducible apply Kept.foldl | with_reducible apply Kept.foldl_snd | extract_lets | with_reducible refine Kept.ite ?_ ?_ | split
theorem Kept.setUnit {a s : State} (h : Kept a s) (x0 : Nat) (x1 : Nat) (x2 : Rec) : Kept a (State.setUnit x0 x1 x2 s) := by
  unfold State.setUnit
  repeat' first | with_reducible assumption | intro _ | with_reducible apply Kept.touchLine | with_reducible apply Kept.logRec
theorem Kept.markUnit {a s : State} (h : Kept a s) (x0 : Nat) (x1 : Nat) : Kept a (State.markUnit x0 x1 s) := by
  unfold State.markUnit
  repeat' first | with_reducible assumption | intro _ | with_reducible apply Kept.setUnit
theorem Kept.deferError {a s : State} (h : Kept a s) (x0 : Nat) (x1 : Nat) (x2 : Nat) (x3 : Nat) : Kept a (State.deferError x0 x1 x2 x3 s) := by
  unfold State.deferError
  repeat' first | with_reducible assumption | intro _ | with_reducible apply Kept.report | with_reducible apply Kept.modHealth | with_reducible apply Kept.each | with_reducible apply Kept.modInst | with_reducible apply Kept.foldl | with_reducible apply Kept.foldl_snd | extract_lets | with_reducible refine Kept.ite ?_ ?_ | split
theorem Kept.setRun {a s : State} (h : Kept a s) (x0 : Nat) (x1 : Nat) (x2 : Nat) (x3 : List Nat) (x4 : MapVal) : Kept a (State.setRun x0 x1 x2 x3 x4 s) := by
  unfold State.setRun
  repeat' first | with_reducible assumption | intro _ | with_reducible apply Kept.logRec | with_reducible apply Kept.each | with_reducible apply Kept.touchLine | with_reducible apply Kept.foldl
theorem Kept.loseLine {a s : State} (h : Kept a s) (x0 : Nat) (x1 : Nat) : Kept a (State.loseLine x0 x1 s) := by
  unfold State.loseLine
  repeat' first | with_reducible assumption | intro _ | with_reducible apply Kept.each | with_reducible apply Kept.deferError | with_reducible apply Kept.setRun | with_reducible apply Kept.foldl | with_reducible apply Kept.foldl_snd | extract_lets | with_reducible refine Kept.ite ?_ ?_ | split
theorem Kept.lostRecords {a s : State} (h : Kept a s) (x0 : Nat) : Kept a (State.lostRecords x0 s) := by
  unfold State.lostRecords
  repeat' first | with_reducible assumption | intro _ | with_reducible apply Kept.modLine | with_reducible apply Kept.loseLine | with_reducible apply Kept.foldl | with_reducible apply Kept.foldl_snd | extract_lets | with_reducible refine Kept.ite ?_ ?_
theorem Kept.leaveStop {a s : State} (h : Kept a s) (x0 : Nat) : Kept a (State.leaveStop x0 s) := by
  unfold State.leaveStop
  repeat' first | with_reducible assumption | intro _ | with_reducible apply Kept.markGone | with_reducible apply Kept.endTag | with_reducible apply Kept.emit | with_reducible apply Kept.foldl | with_reducible apply Kept.foldl_snd | extract_lets | with_reducible refine Kept.ite ?_ ?_ | split
theorem Kept.ladderFail {a s : State} (h : Kept a s) (x0 : Nat) (x1 : Owner) (x2 : Nat) : Kept a (State.ladderFail x0 x1 x2 s) := by
  unfold State.ladderFail
  repeat' first | with_reducible assumption | intro _ | with_reducible apply Kept.modDie | with_reducible apply Kept.modChanter | with_reducible apply Kept.report | with_reducible apply Kept.modHealth | with_reducible apply Kept.markUnit | with_reducible apply Kept.deferError | with_reducible apply Kept.lostRecords | with_reducible apply Kept.complete | with_reducible apply Kept.leaveStop | with_reducible apply Kept.foldl | with_reducible apply Kept.foldl_snd | extract_lets | with_reducible refine Kept.ite ?_ ?_ | split | dsimp +zetaDelta only
theorem Kept.startSolve {a s : State} (h : Kept a s) (x0 : Nat) (x1 : Owner) (x2 : Bool) (x3 : Nat) (x4 : OpClass) : Kept a (State.startSolve x0 x1 x2 x3 x4 s) := by
  unfold State.startSolve
  repeat' first | with_reducible assumption | intro _ | with_reducible apply Kept.ladderFail | with_reducible apply Kept.addOp | with_reducible apply Kept.each | with_reducible apply Kept.foldl | with_reducible apply Kept.foldl_snd | (with_reducible apply Kept.upd; first | with_reducible assumption | with_reducible apply Kept.ladderFail | with_reducible apply Kept.addOp | with_reducible apply Kept.each | with_reducible apply Kept.foldl | with_reducible refine Kept.ite ?_ ?_) | extract_lets | with_reducible refine Kept.ite ?_ ?_ | split
theorem Kept.queueRead {a s : State} (h : Kept a s) (x0 : Nat) (x1 : Owner) (x2 : Nat) (x3 : OpClass) : Kept a (State.queueRead x0 x1 x2 x3 s) := by
  unfold State.queueRead
  repeat' first | with_reducible assumption | intro _ | with_reducible apply Kept.startSolve | with_reducible apply Kept.addOp | with_reducible apply Kept.foldl | with_reducible apply Kept.foldl_snd | extract_lets | with_reducible refine Kept.ite ?_ ?_ | split
theorem Kept.serveUnit {a s : State} (h : Kept a s) (x0 : Nat) (x1 : Nat) : Kept a (State.serveUnit x0 x1 s) := by
  unfold State.serveUnit
  repeat' first | with_reducible assumption | intro _ | with_reducible apply Kept.lookup | refine Kept.lookup_eq (h := ?_) (e := by with_reducible assumption) .. | with_reducible apply Kept.complete | with_reducible apply Kept.modCtx | with_reducible apply Kept.each | with_reducible apply Kept.queueRead | with_reducible apply Kept.foldl | with_reducible apply Kept.foldl_snd | extract_lets | with_reducible refine Kept.ite ?_ ?_ | split | dsimp +zetaDelta only
theorem Kept.serveRead {a s : State} (h : Kept a s) (x0 : Nat) : Kept a (State.serveRead x0 s) := by
  unfold State.serveRead
  repeat' first | with_reducible assumption | intro _ | with_reducible apply Kept.finishRead | with_reducible apply Kept.each | with_reducible apply Kept.serveUnit | with_reducible apply Kept.foldl | with_reducible apply Kept.foldl_snd | extract_lets | with_reducible refine Kept.ite ?_ ?_ | split
theorem Kept.reportResult {a s : State} (h : Kept a s) : Kept a (State.reportResult s) := by
  unfold State.reportResult
  repeat' first | with_reducible assumption | intro _ | with_reducible apply Kept.report
theorem Kept.modPart {a s : State} (h : Kept a s) (x0 : Part → Part) : Kept a (State.modPart x0 s) := h.upd ..
theorem Kept.drew {a s : State} (h : Kept a s) : Kept a (State.drew s) := h.upd ..
theorem Kept.resetUnit {a s : State} (h : Kept a s) (x0 : Nat) (x1 : Nat) (x2 : MapVal) : Kept a (State.resetUnit x0 x1 x2 s) := by
  unfold State.resetUnit
  repeat' first | with_reducible assumption | intro _ | with_reducible apply Kept.setUnit
theorem Kept.keepOld {a s : State} (h : Kept a s) (x0 : Nat) (x1 : Nat) (x2 : Nat) (x3 : Nat) : Kept a (State.keepOld x0 x1 x2 x3 s) := h.upd ..
theorem Kept.setCodeword {a s : State} (h : Kept a s) (x0 : Nat) (x1 : Codeword) : Kept a (State.setCodeword x0 x1 s) := h.upd ..
theorem Kept.fillUnit {a s : State} (h : Kept a s) (x0 : Ns) (x1 : Nat) (x2 : Placed) (x3 : Nat) (x4 : List (List Byte)) : Kept a (State.fillUnit x0 x1 x2 x3 x4 s) := by
  unfold State.fillUnit
  repeat' first | with_reducible assumption | intro _ | with_reducible apply Kept.each | with_reducible apply Kept.setCodeword
theorem Kept.endWrite {a s : State} (h : Kept a s) (x0 : Ctx) : Kept a (State.endWrite x0 s) := by
  unfold State.endWrite
  repeat' first | with_reducible assumption | intro _ | with_reducible apply Kept.drew | with_reducible apply Kept.resetUnit | with_reducible apply Kept.setUnit | with_reducible apply Kept.keepOld | with_reducible apply Kept.fillUnit | with_reducible apply Kept.foldl | with_reducible apply Kept.foldl_snd | extract_lets | with_reducible refine Kept.ite ?_ ?_ | split
theorem Kept.modLink {a s : State} (h : Kept a s) (x0 : Nat) (x1 : Link → Link) : Kept a (State.modLink x0 x1 s) := h.upd ..
theorem Kept.sendPod {a s : State} (h : Kept a s) (x0 : Nat) (x1 : Nat) (x2 : ToPod) : Kept a (State.sendPod x0 x1 x2 s) := by
  unfold State.sendPod
  repeat' first | with_reducible assumption | intro _ | with_reducible apply Kept.modLink | with_reducible apply Kept.emit
theorem Kept.modOp {a s : State} (h : Kept a s) (x0 : Nat) (x1 : Op → Op) : Kept a (State.modOp x0 x1 s) := h.upd ..
theorem Kept.modKeep {a s : State} (h : Kept a s) (x0 : Keep → Keep) : Kept a (State.modKeep x0 s) := h.upd ..
theorem Kept.keepWrite {a s : State} (h : Kept a s) (x0 : Keep → Keep) : Kept a (State.keepWrite x0 s) := by
  unfold State.keepWrite
  repeat' first | with_reducible assumption | intro _ | with_reducible apply Kept.modPart | with_reducible apply Kept.modKeep
theorem Kept.startFlush {a s : State} (h : Kept a s) (x0 : FlushWhy) (x1 : Bool) : Kept a (State.startFlush x0 x1 s) := by
  unfold State.startFlush
  repeat' first | with_reducible assumption | intro _ | with_reducible apply Kept.modModes | with_reducible apply Kept.modPw | with_reducible apply Kept.endWrite | with_reducible apply Kept.sendPod | with_reducible apply Kept.modOp | with_reducible apply Kept.keepWrite | with_reducible apply Kept.foldl | with_reducible apply Kept.foldl_snd | (with_reducible apply Kept.upd; first | with_reducible assumption | with_reducible apply Kept.modModes | with_reducible apply Kept.modPw | with_reducible apply Kept.endWrite | with_reducible apply Kept.sendPod | with_reducible apply Kept.modOp | with_reducible apply Kept.keepWrite | with_reducible apply Kept.foldl | with_reducible refine Kept.ite ?_ ?_)
theorem Kept.refuseUpdate {a s : State} (h : Kept a s) (x0 : Nat) (x1 : Nat) (x2 : Status) : Kept a (State.refuseUpdate x0 x1 x2 s) := by
  unfold State.refuseUpdate
  repeat' first | with_reducible assumption | intro _ | with_reducible apply Kept.complete | with_reducible apply Kept.keepWrite
theorem Kept.heatUp {a s : State} (h : Kept a s) (x0 : Nat) (x1 : Nat) : Kept a (State.heatUp x0 x1 s) := by
  unfold State.heatUp
  repeat' first | with_reducible assumption | intro _ | with_reducible apply Kept.modLine
theorem Kept.clearStops {a s : State} (h : Kept a s) (x0 : BitVec 16) (x1 : Option Nat) : Kept a (State.clearStops x0 x1 s) := by
  unfold State.clearStops
  repeat' first | with_reducible assumption | intro _ | with_reducible apply Kept.each | with_reducible apply Kept.startEpoch
theorem Kept.capTrim {a s : State} (h : Kept a s) (x0 : Nat) : Kept a (State.capTrim x0 s) := by
  unfold State.capTrim
  repeat' first | with_reducible assumption | intro _ | with_reducible apply Kept.modInst
theorem Kept.recharge {a s : State} (h : Kept a s) (x0 : Nat) : Kept a (State.recharge x0 s) := h.upd ..
theorem Kept.applyChange {a s : State} (h : Kept a s) (x0 : Nat) : Kept a (State.applyChange x0 s) := by
  unfold State.applyChange
  repeat' first | with_reducible assumption | intro _ | with_reducible apply Kept.clearStops | with_reducible apply Kept.logInst | with_reducible apply Kept.modInst | with_reducible apply Kept.capTrim | with_reducible apply Kept.recharge | with_reducible apply Kept.modCtx | with_reducible apply Kept.foldl | with_reducible apply Kept.foldl_snd | extract_lets | with_reducible refine Kept.ite ?_ ?_ | split
theorem Kept.dropOps {a s : State} (h : Kept a s) (x0 : Nat) : Kept a (State.dropOps x0 s) := h.upd ..
theorem Kept.undoWrite {a s : State} (h : Kept a s) (x0 : Nat) : Kept a (State.undoWrite x0 s) := by
  unfold State.undoWrite
  repeat' first | with_reducible assumption | intro _ | with_reducible apply Kept.resetUnit | with_reducible apply Kept.foldl | with_reducible apply Kept.foldl_snd | extract_lets | with_reducible refine Kept.ite ?_ ?_ | split
theorem Kept.endCaught {a s : State} (h : Kept a s) (x0 : Nat) (x1 : Status) : Kept a (State.endCaught x0 x1 s) := by
  unfold State.endCaught
  repeat' first | with_reducible assumption | intro _ | with_reducible apply Kept.capTrim | with_reducible apply Kept.complete | with_reducible apply Kept.dropOps | with_reducible apply Kept.leaveStop | with_reducible apply Kept.undoWrite
theorem Kept.tryFlush {a s : State} (h : Kept a s) (x0 : Nat) : Kept a (State.tryFlush x0 s) := by
  unfold State.tryFlush
  repeat' first | with_reducible assumption | intro _ | with_reducible apply Kept.complete | with_reducible apply Kept.foldl | with_reducible apply Kept.foldl_snd | extract_lets | with_reducible refine Kept.ite ?_ ?_ | split
theorem Kept.lookups {a s : State} (h : Kept a s) (x0 : Nat) (x1 : Nat) (x2 : List Nat) : Kept a (State.lookups x0 x1 x2 s).2 := by
  unfold State.lookups
  repeat' first | with_reducible assumption | intro _ | with_reducible apply Kept.lookup | refine Kept.lookup_eq (h := ?_) (e := by with_reducible assumption) .. | with_reducible apply Kept.modCtx | with_reducible apply Kept.foldl | with_reducible apply Kept.foldl_snd | extract_lets | with_reducible refine Kept.ite ?_ ?_
theorem Kept.lookups_eq {a s : State} (h : Kept a s) (x0 : Nat) (x1 : Nat) (x2 : List Nat) {r t} (e : State.lookups x0 x1 x2 s = (r, t)) : Kept a t := by
  have := Kept.lookups h x0 x1 x2; rw [e] at this; exact this
theorem Kept.tryDsm {a s : State} (h : Kept a s) (x0 : Nat) : Kept a (State.tryDsm x0 s) := by
  unfold State.tryDsm
  repeat' first | with_reducible assumption | intro _ | with_reducible apply Kept.lookups | refine Kept.lookups_eq (h := ?_) (e := by with_reducible assumption) .. | with_reducible apply Kept.setRun | with_reducible apply Kept.keepOld | with_reducible apply Kept.modCtx | with_reducible apply Kept.complete | with_reducible apply Kept.foldl | with_reducible apply Kept.foldl_snd | extract_lets | with_reducible refine Kept.ite ?_ ?_ | split
theorem Kept.startMerges {a s : State} (h : Kept a s) (x0 : Ctx) (x1 : Ns) : Kept a (State.startMerges x0 x1 s) := by
  unfold State.startMerges
  repeat' first | with_reducible assumption | intro _ | with_reducible apply Kept.complete | with_reducible apply Kept.modCtx | with_reducible apply Kept.each | with_reducible apply Kept.queueRead | with_reducible apply Kept.foldl | with_reducible apply Kept.foldl_snd | extract_lets | with_reducible refine Kept.ite ?_ ?_ | split
theorem Kept.commitMap {a s : State} (h : Kept a s) (x0 : Ctx) (x1 : Ns) : Kept a (State.commitMap x0 x1 s) := by
  unfold State.commitMap
  repeat' first | with_reducible assumption | intro _ | with_reducible apply Kept.setUnit | with_reducible apply Kept.keepOld | with_reducible apply Kept.setRun | with_reducible apply Kept.foldl | with_reducible apply Kept.foldl_snd | extract_lets | with_reducible refine Kept.ite ?_ ?_
theorem Kept.sealWrite {a s : State} (h : Kept a s) (x0 : Ctx) (x1 : Ns) : Kept a (State.sealWrite x0 x1 s) := by
  unfold State.sealWrite
  repeat' first | with_reducible assumption | intro _ | with_reducible apply Kept.modCtx | with_reducible apply Kept.commitMap
theorem Kept.ackWrite {a s : State} (h : Kept a s) (x0 : Ctx) : Kept a (State.ackWrite x0 s) := by
  unfold State.ackWrite
  refine Kept.complete (Kept.modCtx ?_ ..) ..
  refine Kept.modJrn h _ (fun _ => rfl) (fun _ => rfl)
theorem Kept.tryWrite {a s : State} (h : Kept a s) (x0 : Nat) : Kept a (State.tryWrite x0 s) := by
  unfold State.tryWrite
  repeat' first | with_reducible assumption | intro _ | with_reducible apply Kept.startMerges | with_reducible apply Kept.fillUnit | with_reducible apply Kept.modCtx | with_reducible apply Kept.lookups | refine Kept.lookups_eq (h := ?_) (e := by with_reducible assumption) .. | with_reducible apply Kept.sealWrite | with_reducible apply Kept.ackWrite | with_reducible apply Kept.commitMap | with_reducible apply Kept.foldl | with_reducible apply Kept.foldl_snd | extract_lets | with_reducible refine Kept.ite ?_ ?_ | split
theorem Kept.retry {a s : State} (h : Kept a s) : Kept a (State.retry s) := by
  unfold State.retry
  repeat' first | with_reducible assumption | intro _ | with_reducible apply Kept.each | with_reducible apply Kept.tryFlush | with_reducible apply Kept.tryDsm | with_reducible apply Kept.serveRead | with_reducible apply Kept.tryWrite | with_reducible apply Kept.foldl | with_reducible apply Kept.foldl_snd | extract_lets | with_reducible refine Kept.ite ?_ ?_ | split
theorem Kept.isolate {a s : State} (h : Kept a s) (x0 : Nat) (x1 : Nat) : Kept a (State.isolate x0 x1 s) := by
  unfold State.isolate
  repeat' first | with_reducible assumption | intro _ | with_reducible apply Kept.modInst | with_reducible apply Kept.applyChange | with_reducible apply Kept.each | with_reducible apply Kept.endCaught | with_reducible apply Kept.modPort | with_reducible apply Kept.report | with_reducible apply Kept.retry | with_reducible apply Kept.postVendor | with_reducible apply Kept.foldl | with_reducible apply Kept.foldl_snd | extract_lets | with_reducible refine Kept.ite ?_ ?_
theorem Kept.clearPasid {a s : State} (h : Kept a s) (x0 : Nat) : Kept a (State.clearPasid x0 s) := by
  unfold State.clearPasid
  repeat' first | with_reducible assumption | intro _ | with_reducible apply Kept.modPort | with_reducible apply Kept.each | with_reducible apply Kept.isolate | with_reducible apply Kept.foldl | with_reducible apply Kept.foldl_snd | extract_lets | with_reducible refine Kept.ite ?_ ?_
theorem Kept.mbAnswer {a s : State} (h : Kept a s) (x0 : Nat) (x1 : MbHdr) (x2 : Nat) (x3 : Bool) (x4 : List Field) : Kept a (State.mbAnswer x0 x1 x2 x3 x4 s) := by
  unfold State.mbAnswer
  repeat' first | with_reducible assumption | intro _ | with_reducible apply Kept.emit | with_reducible apply Kept.complete | with_reducible apply Kept.foldl | with_reducible apply Kept.foldl_snd | extract_lets | with_reducible refine Kept.ite ?_ ?_ | split
theorem Kept.postSmart {a s : State} (h : Kept a s) (x0 : Nat) (x1 : Nat) : Kept a (State.postSmart x0 x1 s) := by
  unfold State.postSmart
  repeat' first | with_reducible assumption | intro _ | with_reducible apply Kept.allPorts | with_reducible apply Kept.postEvent | with_reducible apply Kept.foldl | with_reducible apply Kept.foldl_snd | extract_lets | with_reducible refine Kept.ite ?_ ?_
theorem Kept.healthEvent {a s : State} (h : Kept a s) (x0 : Nat) (x1 : Nat) (x2 : Nat) (x3 : Bool) : Kept a (State.healthEvent x0 x1 x2 x3 s) := by
  unfold State.healthEvent
  repeat' first | with_reducible assumption | intro _ | with_reducible apply Kept.modHealth | with_reducible apply Kept.report | with_reducible apply Kept.allPorts | with_reducible apply Kept.postOutstanding | with_reducible apply Kept.foldl | with_reducible apply Kept.foldl_snd | extract_lets | with_reducible refine Kept.ite ?_ ?_
theorem Kept.reviewAvailable {a s : State} (h : Kept a s) : Kept a (State.reviewAvailable s) := by
  unfold State.reviewAvailable
  repeat' first | with_reducible assumption | intro _ | with_reducible apply Kept.modHealth | with_reducible apply Kept.postSmart | with_reducible apply Kept.healthEvent | with_reducible apply Kept.foldl | with_reducible apply Kept.foldl_snd | extract_lets | with_reducible refine Kept.ite ?_ ?_
theorem Kept.reviewSpares {a s : State} (h : Kept a s) : Kept a (State.reviewSpares s) := by
  unfold State.reviewSpares
  repeat' first | with_reducible assumption | intro _ | with_reducible apply Kept.setDegrade
theorem Kept.modSpares {a s : State} (h : Kept a s) (x0 : Spares → Spares) : Kept a (State.modSpares x0 s) := h.upd ..
theorem Kept.countPods {a s : State} (h : Kept a s) : Kept a (State.countPods s) := by
  unfold State.countPods
  repeat' first | with_reducible assumption | intro _ | with_reducible apply Kept.reviewSpares | with_reducible apply Kept.modSpares
theorem Kept.failSparePod {a s : State} (h : Kept a s) (x0 : Nat) (x1 : Bool) : Kept a (State.failSparePod x0 x1 s) := by
  unfold State.failSparePod
  repeat' first | with_reducible assumption | intro _ | with_reducible apply Kept.modLink | with_reducible apply Kept.modPod | with_reducible apply Kept.podOff | with_reducible apply Kept.logRec | with_reducible apply Kept.reviewAvailable | with_reducible apply Kept.countPods | with_reducible apply Kept.report | with_reducible apply Kept.foldl | with_reducible apply Kept.foldl_snd | (with_reducible apply Kept.upd; first | with_reducible assumption | with_reducible apply Kept.modLink | with_reducible apply Kept.modPod | with_reducible apply Kept.podOff | with_reducible apply Kept.logRec | with_reducible apply Kept.reviewAvailable | with_reducible apply Kept.countPods | with_reducible apply Kept.report | with_reducible apply Kept.foldl | with_reducible refine Kept.ite ?_ ?_)
theorem Kept.unarmVault {a s : State} (h : Kept a s) (x0 : Nat) (x1 : Nat → Bool) : Kept a (State.unarmVault x0 x1 s) := by
  unfold State.unarmVault
  repeat' first | with_reducible assumption | intro _ | with_reducible apply Kept.modCache
theorem Kept.reviewEngines {a s : State} (h : Kept a s) (x0 : Nat) : Kept a (State.reviewEngines x0 s) := by
  unfold State.reviewEngines
  repeat' first | with_reducible assumption | intro _ | with_reducible apply Kept.report | with_reducible apply Kept.modSpares | with_reducible apply Kept.foldl | with_reducible apply Kept.foldl_snd | extract_lets | with_reducible refine Kept.ite ?_ ?_
theorem Kept.closeBand {a s : State} (h : Kept a s) (x0 : Nat) (x1 : Nat) : Kept a (State.closeBand x0 x1 s) := by
  unfold State.closeBand
  repeat' first | with_reducible assumption | intro _ | with_reducible apply Kept.logBand | with_reducible apply Kept.foldl | with_reducible apply Kept.foldl_snd | extract_lets | with_reducible refine Kept.ite ?_ ?_
theorem Kept.closeEarly {a s : State} (h : Kept a s) (x0 : Nat) (x1 : Nat) : Kept a (State.closeEarly x0 x1 s) := by
  unfold State.closeEarly
  repeat' first | with_reducible assumption | intro _ | with_reducible apply Kept.modCache | with_reducible apply Kept.each | with_reducible apply Kept.closeStripe | with_reducible apply Kept.closeBand | with_reducible apply Kept.foldl | with_reducible apply Kept.foldl_snd | extract_lets | with_reducible refine Kept.ite ?_ ?_ | split
theorem Kept.place {a s : State} (h : Kept a s) (x0 : Nat) (x1 : Stream) (x2 : Nat) (x3 : Bool) (x4 : List Codeword) : Kept a (State.place x0 x1 x2 x3 x4 s).2 := by
  unfold State.place
  repeat' first | with_reducible assumption | intro _ | with_reducible apply Kept.needStripe | with_reducible apply Kept.queueFull | with_reducible apply Kept.modStripe | with_reducible apply Kept.each | with_reducible apply Kept.setCodeword | with_reducible apply Kept.foldl | with_reducible apply Kept.foldl_snd | extract_lets | with_reducible refine Kept.ite ?_ ?_ | split
theorem Kept.place_eq {a s : State} (h : Kept a s) (x0 : Nat) (x1 : Stream) (x2 : Nat) (x3 : Bool) (x4 : List Codeword) {r t} (e : State.place x0 x1 x2 x3 x4 s = (r, t)) : Kept a t := by
  have := Kept.place h x0 x1 x2 x3 x4; rw [e] at this; exact this
theorem Kept.placeUnit {a s : State} (h : Kept a s) (x0 : Nat) (x1 : Stream) (x2 : Nat) (x3 : Bool) (x4 : List Codeword) : Kept a (State.placeUnit x0 x1 x2 x3 x4 s).2 := by
  unfold State.placeUnit
  repeat' first | with_reducible assumption | intro _ | with_reducible apply Kept.place | refine Kept.place_eq (h := ?_) (e := by with_reducible assumption) .. | with_reducible apply Kept.foldl | with_reducible apply Kept.foldl_snd | extract_lets | with_reducible refine Kept.ite ?_ ?_ | split
theorem Kept.placeUnit_eq {a s : State} (h : Kept a s) (x0 : Nat) (x1 : Stream) (x2 : Nat) (x3 : Bool) (x4 : List Codeword) {r t} (e : State.placeUnit x0 x1 x2 x3 x4 s = (r, t)) : Kept a t := by
  have := Kept.placeUnit h x0 x1 x2 x3 x4; rw [e] at this; exact this
theorem Kept.placeAnywhere {a s : State} (h : Kept a s) (x0 : Nat) (x1 : Stream) (x2 : Nat) (x3 : List Codeword) : Kept a (State.placeAnywhere x0 x1 x2 x3 s).2 := by
  unfold State.placeAnywhere
  repeat' first | with_reducible assumption | intro _ | with_reducible apply Kept.placeUnit | refine Kept.placeUnit_eq (h := ?_) (e := by with_reducible assumption) .. | with_reducible apply Kept.foldl | with_reducible apply Kept.foldl_snd | extract_lets | with_reducible refine Kept.ite ?_ ?_ | split
theorem Kept.placeAnywhere_eq {a s : State} (h : Kept a s) (x0 : Nat) (x1 : Stream) (x2 : Nat) (x3 : List Codeword) {r t} (e : State.placeAnywhere x0 x1 x2 x3 s = (r, t)) : Kept a t := by
  have := Kept.placeAnywhere h x0 x1 x2 x3; rw [e] at this; exact this
theorem Kept.replaceRow {a s : State} (h : Kept a s) (x0 : Stripe) (x1 : Nat) : Kept a (State.replaceRow x0 x1 s) := by
  unfold State.replaceRow
  repeat' first | with_reducible assumption | intro _ | with_reducible apply Kept.modCache | with_reducible apply Kept.each | with_reducible apply Kept.modLine | with_reducible apply Kept.placeAnywhere | refine Kept.placeAnywhere_eq (h := ?_) (e := by with_reducible assumption) .. | with_reducible apply Kept.setUnit | with_reducible apply Kept.markUnit | with_reducible apply Kept.deferError | with_reducible apply Kept.complete | with_reducible apply Kept.foldl | with_reducible apply Kept.foldl_snd | (with_reducible apply Kept.upd; first | with_reducible assumption | with_reducible apply Kept.modCache | with_reducible apply Kept.each | with_reducible apply Kept.modLine | with_reducible apply Kept.placeAnywhere | refine Kept.placeAnywhere_eq (h := ?_) (e := by with_reducible assumption) .. | with_reducible apply Kept.setUnit | with_reducible apply Kept.markUnit | with_reducible apply Kept.deferError | with_reducible apply Kept.complete | with_reducible apply Kept.foldl | with_reducible refine Kept.ite ?_ ?_) | extract_lets | with_reducible refine Kept.ite ?_ ?_ | split
theorem Kept.retireStripe {a s : State} (h : Kept a s) (x0 : Stripe) : Kept a (State.retireStripe x0 s) := by
  unfold State.retireStripe
  repeat' first | with_reducible assumption | intro _ | with_reducible apply Kept.modCache | with_reducible apply Kept.logBand | with_reducible apply Kept.each | with_reducible apply Kept.setCodeword | with_reducible apply Kept.modHealth | with_reducible apply Kept.foldl | with_reducible apply Kept.foldl_snd | extract_lets | with_reducible refine Kept.ite ?_ ?_ | split
theorem Kept.settlePass {a s : State} (h : Kept a s) : Kept a (State.settlePass s) := by
  unfold State.settlePass
  repeat' first | with_reducible assumption | intro _ | with_reducible apply Kept.retireStripe | with_reducible apply Kept.foldl | with_reducible apply Kept.foldl_snd | extract_lets | with_reducible refine Kept.ite ?_ ?_
theorem Kept.settleStripes {a s : State} (h : Kept a s) : Kept a (State.settleStripes s) := by
  unfold State.settleStripes
  repeat' first | with_reducible assumption | intro _ | with_reducible apply Kept.settlePass
theorem Kept.programEnded {a s : State} (h : Kept a s) (x0 : Nat) (x1 : Nat) (x2 : Nat) (x3 : Nat) (x4 : Bool) (x5 : Bool) : Kept a (State.programEnded x0 x1 x2 x3 x4 x5 s) := by
  unfold State.programEnded
  repeat' first | with_reducible assumption | intro _ | with_reducible apply Kept.modStripe | with_reducible apply Kept.closeEarly | with_reducible apply Kept.modDie | with_reducible apply Kept.replaceRow | with_reducible apply Kept.settleStripes | with_reducible apply Kept.foldl | with_reducible apply Kept.foldl_snd | extract_lets | with_reducible refine Kept.ite ?_ ?_ | split
theorem Kept.failStripes {a s : State} (h : Kept a s) (x0 : Nat) (x1 : Nat) (x2 : Nat → Bool) : Kept a (State.failStripes x0 x1 x2 s) := by
  unfold State.failStripes
  repeat' first | with_reducible assumption | intro _ | with_reducible apply Kept.programEnded | with_reducible apply Kept.each | with_reducible apply Kept.closeEarly | with_reducible apply Kept.foldl
theorem Kept.dropOp {a s : State} (h : Kept a s) (x0 : Nat) : Kept a (State.dropOp x0 s) := h.upd ..
theorem Kept.withdraw {a s : State} (h : Kept a s) (x0 : Nat) : Kept a (State.withdraw x0 s) := by
  unfold State.withdraw
  repeat' first | with_reducible assumption | intro _ | with_reducible apply Kept.modOp | with_reducible apply Kept.dropOp | with_reducible apply Kept.foldl | with_reducible apply Kept.foldl_snd | extract_lets | with_reducible refine Kept.ite ?_ ?_ | split
theorem Kept.dropSolve {a s : State} (h : Kept a s) (x0 : Solve) : Kept a (State.dropSolve x0 s) := h.upd ..
theorem Kept.handOver {a s : State} (h : Kept a s) (x0 : Nat) : Kept a (State.handOver x0 s) := by
  unfold State.handOver
  repeat' first | with_reducible assumption | intro _ | with_reducible apply Kept.modHealth | with_reducible apply Kept.foldl | with_reducible apply Kept.foldl_snd | extract_lets | with_reducible refine Kept.ite ?_ ?_ | split
theorem Kept.countStep {a s : State} (h : Kept a s) (x0 : Nat) (x1 : Nat) (x2 : Nat) : Kept a (State.countStep x0 x1 x2 s) := by
  unfold State.countStep
  repeat' first | with_reducible assumption | intro _ | with_reducible apply Kept.modChanter | with_reducible apply Kept.modDie
theorem Kept.countHome {a s : State} (h : Kept a s) (x0 : Nat) (x1 : Nat) : Kept a (State.countHome x0 x1 s) := by
  unfold State.countHome
  repeat' first | with_reducible assumption | intro _ | with_reducible apply Kept.countStep | with_reducible apply Kept.foldl | with_reducible apply Kept.foldl_snd | extract_lets | with_reducible refine Kept.ite ?_ ?_ | split
theorem Kept.lateReturn {a s : State} (h : Kept a s) (x0 : Nat) : Kept a (State.lateReturn x0 s) := by
  unfold State.lateReturn
  repeat' first | with_reducible assumption | intro _ | with_reducible apply Kept.lateDiscard | with_reducible apply Kept.foldl | with_reducible apply Kept.foldl_snd | extract_lets | with_reducible refine Kept.ite ?_ ?_ | split
theorem Kept.deliver {a s : State} (h : Kept a s) (x0 : Nat) (x1 : Owner) : Kept a (State.deliver x0 x1 s) := by
  unfold State.deliver
  repeat' first | with_reducible assumption | intro _ | with_reducible apply Kept.lateReturn | with_reducible apply Kept.lateDiscard | with_reducible apply Kept.finishRead | with_reducible apply Kept.modCtx | with_reducible apply Kept.foldl | with_reducible apply Kept.foldl_snd | extract_lets | with_reducible refine Kept.ite ?_ ?_ | split
theorem Kept.addRecord {a s : State} (h : Kept a s) (x0 : Nat) (x1 : Nat) (x2 : Nat) (x3 : Nat) : Kept a (State.addRecord x0 x1 x2 x3 s) := by
  unfold State.addRecord
  repeat' first | with_reducible assumption | intro _ | with_reducible apply Kept.setCodeword | with_reducible apply Kept.nextNonce
theorem Kept.recordPlace {a s : State} (h : Kept a s) (x0 : Nat) (x1 : Nat) : Kept a (State.recordPlace x0 x1 s).2 := by
  unfold State.recordPlace
  repeat' first | with_reducible assumption | intro _ | with_reducible apply Kept.addRecord | with_reducible apply Kept.placeUnit | refine Kept.placeUnit_eq (h := ?_) (e := by with_reducible assumption) .. | with_reducible apply Kept.foldl | with_reducible apply Kept.foldl_snd | extract_lets | with_reducible refine Kept.ite ?_ ?_ | split
theorem Kept.recordPlace_eq {a s : State} (h : Kept a s) (x0 : Nat) (x1 : Nat) {r t} (e : State.recordPlace x0 x1 s = (r, t)) : Kept a t := by
  have := Kept.recordPlace h x0 x1; rw [e] at this; exact this
theorem Kept.modReloc {a s : State} (h : Kept a s) (x0 : Nat) (x1 : Nat) (x2 : Reloc → Reloc) : Kept a (State.modReloc x0 x1 x2 s) := by
  unfold State.modReloc
  repeat' first | with_reducible assumption | intro _ | with_reducible apply Kept.modHealth
theorem Kept.copyRecords {a s : State} (h : Kept a s) (x0 : Nat) (x1 : Nat) (x2 : Nat) : Kept a (State.copyRecords x0 x1 x2 s) := by
  unfold State.copyRecords
  repeat' first | with_reducible assumption | intro _ | with_reducible apply Kept.recordPlace | refine Kept.recordPlace_eq (h := ?_) (e := by with_reducible assumption) .. | with_reducible apply Kept.modReloc | with_reducible apply Kept.foldl | with_reducible apply Kept.foldl_snd | extract_lets | with_reducible refine Kept.ite ?_ ?_ | split
theorem Kept.copyUnit {a s : State} (h : Kept a s) (x0 : Nat) (x1 : Nat) (x2 : Nat) : Kept a (State.copyUnit x0 x1 x2 s) := by
  unfold State.copyUnit
  repeat' first | with_reducible assumption | intro _ | with_reducible apply Kept.placeUnit | refine Kept.placeUnit_eq (h := ?_) (e := by with_reducible assumption) .. | with_reducible apply Kept.modReloc | with_reducible apply Kept.modGroup | with_reducible apply Kept.foldl | with_reducible apply Kept.foldl_snd | extract_lets | with_reducible refine Kept.ite ?_ ?_ | split
theorem Kept.served {a s : State} (h : Kept a s) (x0 : Nat) (x1 : Owner) : Kept a (State.served x0 x1 s) := by
  unfold State.served
  repeat' first | with_reducible assumption | intro _ | with_reducible apply Kept.deliver | with_reducible apply Kept.lateReturn | with_reducible apply Kept.copyRecords | with_reducible apply Kept.copyUnit | with_reducible apply Kept.foldl | with_reducible apply Kept.foldl_snd | extract_lets | with_reducible refine Kept.ite ?_ ?_ | split
theorem Kept.solved {a s : State} (h : Kept a s) (x0 : Solve) : Kept a (State.solved x0 s) := by
  unfold State.solved
  repeat' first | with_reducible assumption | intro _ | with_reducible apply Kept.dropSolve | with_reducible apply Kept.handOver | with_reducible apply Kept.countHome | with_reducible apply Kept.served | with_reducible apply Kept.foldl | with_reducible apply Kept.foldl_snd | extract_lets | with_reducible refine Kept.ite ?_ ?_
theorem Kept.dropMembers {a s : State} (h : Kept a s) (x0 : Solve) : Kept a (State.dropMembers x0 s) := by
  unfold State.dropMembers
  repeat' first | with_reducible assumption | intro _ | with_reducible apply Kept.each | with_reducible apply Kept.withdraw
theorem Kept.countDeep {a s : State} (h : Kept a s) (x0 : Nat) : Kept a (State.countDeep x0 s) := by
  unfold State.countDeep
  repeat' first | with_reducible assumption | intro _ | with_reducible apply Kept.modDie | with_reducible apply Kept.countHome | with_reducible apply Kept.foldl | with_reducible apply Kept.foldl_snd | extract_lets | with_reducible refine Kept.ite ?_ ?_ | split
theorem Kept.modSolve {a s : State} (h : Kept a s) (x0 : Solve) (x1 : Solve → Solve) : Kept a (State.modSolve x0 x1 s) := h.upd ..
theorem Kept.settleSolve {a s : State} (h : Kept a s) (x0 : Solve) : Kept a (State.settleSolve x0 s) := by
  unfold State.settleSolve
  repeat' first | with_reducible assumption | intro _ | with_reducible apply Kept.solved | with_reducible apply Kept.dropMembers | with_reducible apply Kept.ladderFail | with_reducible apply Kept.dropSolve | with_reducible apply Kept.countDeep | with_reducible apply Kept.modSolve | with_reducible apply Kept.each | with_reducible apply Kept.addOp | with_reducible apply Kept.foldl | with_reducible apply Kept.foldl_snd | extract_lets | with_reducible refine Kept.ite ?_ ?_ | split
theorem Kept.endAround {a s : State} (h : Kept a s) (x0 : Solve) : Kept a (State.endAround x0 s) := by
  unfold State.endAround
  repeat' first | with_reducible assumption | intro _ | with_reducible apply Kept.dropSolve | with_reducible apply Kept.dropMembers | with_reducible apply Kept.addOp | with_reducible apply Kept.foldl | with_reducible apply Kept.foldl_snd | extract_lets | with_reducible refine Kept.ite ?_ ?_ | split
theorem Kept.memberRead {a s : State} (h : Kept a s) (x0 : Nat) (x1 : Bool) (x2 : Nat) (x3 : Bool) (x4 : Bool) : Kept a (State.memberRead x0 x1 x2 x3 x4 s) := by
  unfold State.memberRead
  repeat' first | with_reducible assumption | intro _ | with_reducible apply Kept.settleSolve | with_reducible apply Kept.modSolve | with_reducible apply Kept.endAround | with_reducible apply Kept.addOp | with_reducible apply Kept.foldl | with_reducible apply Kept.foldl_snd | extract_lets | with_reducible refine Kept.ite ?_ ?_ | split
theorem Kept.toStep4 {a s : State} (h : Kept a s) (x0 : Op) : Kept a (State.toStep4 x0 s) := by
  unfold State.toStep4
  repeat' first | with_reducible assumption | intro _ | with_reducible apply Kept.withdraw | with_reducible apply Kept.memberRead | with_reducible apply Kept.startSolve | with_reducible apply Kept.foldl | with_reducible apply Kept.foldl_snd | extract_lets | with_reducible refine Kept.ite ?_ ?_ | split
theorem Kept.allToStep4 {a s : State} (h : Kept a s) (x0 : List Op) : Kept a (State.allToStep4 x0 s) := by
  unfold State.allToStep4
  repeat' first | with_reducible assumption | intro _ | with_reducible apply Kept.toStep4 | with_reducible apply Kept.foldl | with_reducible apply Kept.foldl_snd | extract_lets | with_reducible refine Kept.ite ?_ ?_ | split
theorem Kept.eraseAgain {a s : State} (h : Kept a s) (x0 : List Op) (x1 : Nat) : Kept a (State.eraseAgain x0 x1 s) := by
  unfold State.eraseAgain
  repeat' first | with_reducible assumption | intro _ | with_reducible apply Kept.addOp | with_reducible apply Kept.foldl | with_reducible apply Kept.foldl_snd | extract_lets | with_reducible refine Kept.ite ?_ ?_
theorem Kept.resumeRun {a s : State} (h : Kept a s) (x0 : Nat) : Kept a (State.resumeRun x0 s) := by
  unfold State.resumeRun
  repeat' first | with_reducible assumption | intro _ | with_reducible apply Kept.modHealth | with_reducible apply Kept.setDegrade | with_reducible apply Kept.foldl | with_reducible apply Kept.foldl_snd | extract_lets | with_reducible refine Kept.ite ?_ ?_ | split
theorem Kept.startRun {a s : State} (h : Kept a s) (x0 : Nat) : Kept a (State.startRun x0 s) := by
  unfold State.startRun
  repeat' first | with_reducible assumption | intro _ | with_reducible apply Kept.resumeRun | with_reducible apply Kept.healthEvent | with_reducible apply Kept.foldl | with_reducible apply Kept.foldl_snd | extract_lets | with_reducible refine Kept.ite ?_ ?_ | split
theorem Kept.failPod {a s : State} (h : Kept a s) (x0 : Nat) (x1 : Bool) : Kept a (State.failPod x0 x1 s) := by
  unfold State.failPod
  repeat' first | with_reducible assumption | intro _ | with_reducible apply Kept.failSparePod | with_reducible apply Kept.modLink | with_reducible apply Kept.modPod | with_reducible apply Kept.podOff | with_reducible apply Kept.modHealth | with_reducible apply Kept.logRec | with_reducible apply Kept.each | with_reducible apply Kept.modDie | with_reducible apply Kept.unarmVault | with_reducible apply Kept.countPods | with_reducible apply Kept.reviewEngines | with_reducible apply Kept.healthEvent | with_reducible apply Kept.reviewSpares | with_reducible apply Kept.report | with_reducible apply Kept.failStripes | with_reducible apply Kept.allToStep4 | with_reducible apply Kept.eraseAgain | with_reducible apply Kept.startRun | with_reducible apply Kept.retry | with_reducible apply Kept.reviewAvailable | with_reducible apply Kept.foldl | with_reducible apply Kept.foldl_snd | (with_reducible apply Kept.upd; first | with_reducible assumption | with_reducible apply Kept.failSparePod | with_reducible apply Kept.modLink | with_reducible apply Kept.modPod | with_reducible apply Kept.podOff | with_reducible apply Kept.modHealth | with_reducible apply Kept.logRec | with_reducible apply Kept.each | with_reducible apply Kept.modDie | with_reducible apply Kept.unarmVault | with_reducible apply Kept.countPods | with_reducible apply Kept.reviewEngines | with_reducible apply Kept.healthEvent | with_reducible apply Kept.reviewSpares | with_reducible apply Kept.report | with_reducible apply Kept.failStripes | with_reducible apply Kept.allToStep4 | with_reducible apply Kept.eraseAgain | with_reducible apply Kept.startRun | with_reducible apply Kept.retry | with_reducible apply Kept.reviewAvailable | with_reducible apply Kept.foldl | with_reducible refine Kept.ite ?_ ?_) | extract_lets | with_reducible refine Kept.ite ?_ ?_ | split
theorem Kept.linkDead {a s : State} (h : Kept a s) (x0 : Nat) : Kept a (State.linkDead x0 s) := by
  unfold State.linkDead
  repeat' first | with_reducible assumption | intro _ | with_reducible apply Kept.modLink | with_reducible apply Kept.modPod | with_reducible apply Kept.podOff | with_reducible apply Kept.failPod | with_reducible apply Kept.foldl | with_reducible apply Kept.foldl_snd | extract_lets | with_reducible refine Kept.ite ?_ ?_
theorem Kept.podTooHot {a s : State} (h : Kept a s) (x0 : Nat) : Kept a (State.podTooHot x0 s) := by
  unfold State.podTooHot
  repeat' first | with_reducible assumption | intro _ | with_reducible apply Kept.report | with_reducible apply Kept.setLevel | with_reducible apply Kept.linkDead | with_reducible apply Kept.failPod | with_reducible apply Kept.modPw | with_reducible apply Kept.foldl | with_reducible apply Kept.foldl_snd | extract_lets | with_reducible refine Kept.ite ?_ ?_
theorem Kept.admin {a s : State} (h : Kept a s) (x0 : Nat) (x1 : Nat) (x2 : Ctx → State → State) (hg : ∀ y0 t, Kept a t → Kept a (x2 y0 t)) : Kept a (State.admin x0 x1 x2 s) := by
  unfold State.admin
  repeat' first | with_reducible assumption | intro _ | with_reducible apply hg | with_reducible apply Kept.foldl | with_reducible apply Kept.foldl_snd | extract_lets | with_reducible refine Kept.ite ?_ ?_ | split
theorem Kept.boundary {a s : State} (h : Kept a s) (x0 : Nat) (x1 : Nat) (x2 : Ctx → State → State) (hg : ∀ y0 t, Kept a t → Kept a (x2 y0 t)) : Kept a (State.boundary x0 x1 x2 s) := by
  unfold State.boundary
  repeat' first | with_reducible assumption | intro _ | with_reducible apply hg | with_reducible apply Kept.admin | with_reducible apply Kept.foldl | with_reducible apply Kept.foldl_snd | extract_lets | with_reducible refine Kept.ite ?_ ?_
theorem Kept.io {a s : State} (h : Kept a s) (x0 : Nat) (x1 : Nat) (x2 : Ctx → Ns → State → State) (hg : ∀ y0 y1 t, Kept a t → Kept a (x2 y0 y1 t)) : Kept a (State.io x0 x1 x2 s) := by
  unfold State.io
  repeat' first | with_reducible assumption | intro _ | with_reducible apply hg | with_reducible apply Kept.complete | with_reducible apply Kept.foldl | with_reducible apply Kept.foldl_snd | extract_lets | with_reducible refine Kept.ite ?_ ?_ | split
theorem Kept.beginRead {a s : State} (h : Kept a s) (x0 : Nat) (x1 : Ns) : Kept a (State.beginRead x0 x1 s) := by
  unfold State.beginRead
  repeat' first | with_reducible assumption | intro _ | with_reducible apply Kept.serveRead | with_reducible apply Kept.modCtx
theorem Kept.confirmTrial {a s : State} (h : Kept a s) (x0 : Nat) : Kept a (State.confirmTrial x0 s) := by
  unfold State.confirmTrial
  repeat' first | with_reducible assumption | intro _ | with_reducible apply Kept.keepWrite | with_reducible apply Kept.reportResult | with_reducible apply Kept.modFlash
theorem Kept.scrubFind {a s : State} (h : Kept a s) (x0 : ScrubFind) : Kept a (State.scrubFind x0 s) := by
  unfold State.scrubFind
  repeat' first | with_reducible assumption | intro _ | with_reducible apply Kept.modDie | with_reducible apply Kept.countStep | with_reducible apply Kept.countDeep | with_reducible apply Kept.handOver | with_reducible apply Kept.ladderFail | with_reducible apply Kept.foldl | with_reducible apply Kept.foldl_snd | extract_lets | with_reducible refine Kept.ite ?_ ?_ | split
theorem Kept.miAdmin {a s : State} (h : Kept a s) (x0 : Nat) (x1 : Sqe) : Kept a (State.miAdmin x0 x1 s) := by
  unfold State.miAdmin
  repeat' first | with_reducible assumption | intro _ | with_reducible apply Kept.emit | with_reducible apply Kept.foldl | with_reducible apply Kept.foldl_snd | (with_reducible apply Kept.upd; first | with_reducible assumption | with_reducible apply Kept.emit | with_reducible apply Kept.foldl | with_reducible refine Kept.ite ?_ ?_) | extract_lets | with_reducible refine Kept.ite ?_ ?_ | split
theorem Kept.onChan {a s : State} (h : Kept a s) (x0 : Nat) (x1 : State → State) (hg : ∀  t, Kept a t → Kept a (x1 t)) : Kept a (State.onChan x0 x1 s) := by
  unfold State.onChan
  repeat' first | with_reducible assumption | intro _ | with_reducible apply hg | with_reducible apply Kept.foldl | with_reducible apply Kept.foldl_snd | extract_lets | with_reducible refine Kept.ite ?_ ?_
theorem Kept.countViolation {a s : State} (h : Kept a s) (x0 : Nat) (x1 : Nat) : Kept a (State.countViolation x0 x1 s) := by
  unfold State.countViolation
  repeat' first | with_reducible assumption | intro _ | with_reducible apply Kept.modStop
theorem Kept.fenceStop {a s : State} (h : Kept a s) (x0 : Nat) (x1 : Nat) : Kept a (State.fenceStop x0 x1 s) := by
  unfold State.fenceStop
  repeat' first | with_reducible assumption | intro _ | with_reducible apply Kept.each | with_reducible apply Kept.complete | with_reducible apply Kept.leaveStop | with_reducible apply Kept.modStop | with_reducible apply Kept.endReads | with_reducible apply Kept.haltChan | with_reducible apply Kept.report | with_reducible apply Kept.postVendor | with_reducible apply Kept.foldl | with_reducible apply Kept.foldl_snd | extract_lets | with_reducible refine Kept.ite ?_ ?_ | split
theorem Kept.stopViolation {a s : State} (h : Kept a s) (x0 : Nat) (x1 : Nat) (x2 : Bool) : Kept a (State.stopViolation x0 x1 x2 s) := by
  unfold State.stopViolation
  repeat' first | with_reducible assumption | intro _ | with_reducible apply Kept.countViolation | with_reducible apply Kept.emit | with_reducible apply Kept.fenceStop | with_reducible apply Kept.foldl | with_reducible apply Kept.foldl_snd | extract_lets | with_reducible refine Kept.ite ?_ ?_
theorem Kept.chanViolation {a s : State} (h : Kept a s) (x0 : Nat) (x1 : Nat) : Kept a (State.chanViolation x0 x1 s) := by
  unfold State.chanViolation
  repeat' first | with_reducible assumption | intro _ | with_reducible apply Kept.stopViolation | with_reducible apply Kept.foldl | with_reducible apply Kept.foldl_snd | extract_lets | with_reducible refine Kept.ite ?_ ?_ | split
theorem Kept.checkOwned {a s : State} (h : Kept a s) (x0 : Nat) : Kept a (State.checkOwned x0 s) := by
  unfold State.checkOwned
  repeat' first | with_reducible assumption | intro _ | with_reducible apply Kept.chanViolation | with_reducible apply Kept.haltChan | with_reducible apply Kept.foldl | with_reducible apply Kept.foldl_snd | extract_lets | with_reducible refine Kept.ite ?_ ?_
theorem Kept.writeEnable {a s : State} (h : Kept a s) (x0 : Nat) (x1 : Bool) : Kept a (State.writeEnable x0 x1 s) := by
  unfold State.writeEnable
  repeat' first | with_reducible assumption | intro _ | with_reducible apply Kept.checkOwned | with_reducible apply Kept.modChan | with_reducible apply Kept.foldl | with_reducible apply Kept.foldl_snd | extract_lets | with_reducible refine Kept.ite ?_ ?_
theorem Kept.checkKeep {a s : State} (h : Kept a s) (x0 : Step2Found) : Kept a (State.checkKeep x0 s) := by
  unfold State.checkKeep
  repeat' first | with_reducible assumption | intro _ | with_reducible apply Kept.modPart | with_reducible apply Kept.report | with_reducible apply Kept.foldl | with_reducible apply Kept.foldl_snd | (with_reducible apply Kept.upd; first | with_reducible assumption | with_reducible apply Kept.modPart | with_reducible apply Kept.report | with_reducible apply Kept.foldl | with_reducible refine Kept.ite ?_ ?_)
theorem Kept.readAround {a s : State} (h : Kept a s) (x0 : Op) (x1 : Op) : Kept a (State.readAround x0 x1 s) := by
  unfold State.readAround
  repeat' first | with_reducible assumption | intro _ | with_reducible apply Kept.modChanter | with_reducible apply Kept.modGroup | with_reducible apply Kept.modInst | with_reducible apply Kept.startSolve | with_reducible apply Kept.dropOp | with_reducible apply Kept.foldl | with_reducible apply Kept.foldl_snd | extract_lets | with_reducible refine Kept.ite ?_ ?_ | split
theorem Kept.mbArrives {a s : State} (h : Kept a s) (x0 : MbHdr) (x1 : MbBody) (x2 : State → State) (hg : ∀  t, Kept a t → Kept a (x2 t)) : Kept a (State.mbArrives x0 x1 x2 s) := by
  unfold State.mbArrives
  repeat' first | with_reducible assumption | intro _ | with_reducible apply hg | with_reducible apply Kept.mbAnswer | with_reducible apply Kept.modPart | with_reducible apply Kept.modCtx | with_reducible apply Kept.foldl | with_reducible apply Kept.foldl_snd | extract_lets | with_reducible refine Kept.ite ?_ ?_ | split
theorem Kept.unprivileged {a s : State} (h : Kept a s) (x0 : Nat) (x1 : Nat) (x2 : MbHdr) (x3 : State → Nat × List Field × State) (hg : ∀  t, Kept a t → Kept a (x3 t).2.2) : Kept a (State.unprivileged x0 x1 x2 x3 s) := by
  unfold State.unprivileged
  repeat' first | with_reducible assumption | intro _ | with_reducible apply hg | with_reducible apply Kept.mbAnswer | with_reducible apply Kept.foldl | with_reducible apply Kept.foldl_snd | extract_lets | with_reducible refine Kept.ite ?_ ?_
theorem Kept.mbGetChallenge {a s : State} (h : Kept a s) (x0 : BitVec 384) (x1 : MbHdr) : Kept a (State.mbGetChallenge x0 x1 s) := by
  unfold State.mbGetChallenge
  repeat' first | with_reducible assumption | intro _ | with_reducible apply Kept.unprivileged | with_reducible apply Kept.report | with_reducible apply Kept.drew | with_reducible apply Kept.modPart | with_reducible apply Kept.foldl | with_reducible apply Kept.foldl_snd | extract_lets | with_reducible refine Kept.ite ?_ ?_ | split
theorem Kept.mbReadIdentity {a s : State} (h : Kept a s) (x0 : MbHdr) : Kept a (State.mbReadIdentity x0 s) := by
  unfold State.mbReadIdentity
  repeat' first | with_reducible assumption | intro _ | with_reducible apply Kept.unprivileged
theorem Kept.mbReadStatus {a s : State} (h : Kept a s) (x0 : MbHdr) : Kept a (State.mbReadStatus x0 s) := by
  unfold State.mbReadStatus
  repeat' first | with_reducible assumption | intro _ | with_reducible apply Kept.unprivileged
theorem Kept.causeArises {a s : State} (h : Kept a s) (x0 : Nat) (x1 : FlushWhy) (x2 : Bool) (x3 : Bool) : Kept a (State.causeArises x0 x1 x2 x3 s) := by
  unfold State.causeArises
  repeat' first | with_reducible assumption | intro _ | with_reducible apply Kept.report | with_reducible apply Kept.modModes | with_reducible apply Kept.startFlush | with_reducible apply Kept.enterSafe | with_reducible apply Kept.foldl | with_reducible apply Kept.foldl_snd | extract_lets | with_reducible refine Kept.ite ?_ ?_
theorem Kept.authFailed {a s : State} (h : Kept a s) : Kept a (State.authFailed s) := by
  unfold State.authFailed
  repeat' first | with_reducible assumption | intro _ | with_reducible apply Kept.report | with_reducible apply Kept.keepWrite | with_reducible apply Kept.causeArises | with_reducible apply Kept.foldl | with_reducible apply Kept.foldl_snd | extract_lets | with_reducible refine Kept.ite ?_ ?_
theorem Kept.privilegedLate {a s : State} (h : Kept a s) (x0 : Nat) (x1 : Nat) (x2 : MbHdr) (x3 : State → Option Nat × State) (hg : ∀  t, Kept a t → Kept a (x3 t).2) : Kept a (State.privilegedLate x0 x1 x2 x3 s) := by
  have hm : ∀ {t r u}, Kept a t → x3 t = (r, u) → Kept a u := fun {t r u} ht e => by have := hg t ht; rw [e] at this; exact this
  unfold State.privilegedLate
  repeat' first | with_reducible assumption | intro _ | with_reducible apply Kept.mbAnswer | with_reducible apply Kept.authFailed | with_reducible apply Kept.modPart | with_reducible apply Kept.keepWrite | with_reducible refine Kept.ite ?_ ?_ | refine hm ?_ (by with_reducible assumption) | split | dsimp only
theorem Kept.privileged {a s : State} (h : Kept a s) (x0 : Nat) (x1 : Nat) (x2 : MbHdr) (x3 : State → Nat × State) (hg : ∀  t, Kept a t → Kept a (x3 t).2) : Kept a (State.privileged x0 x1 x2 x3 s) := by
  unfold State.privileged
  repeat' first | with_reducible assumption | intro _ | with_reducible apply hg | with_reducible apply Kept.privilegedLate
theorem Kept.mbSetThreshOvr {a s : State} (h : Kept a s) (x0 : W64) (x1 : MbHdr) : Kept a (State.mbSetThreshOvr x0 x1 s) := by
  unfold State.mbSetThreshOvr
  repeat' first | with_reducible assumption | intro _ | with_reducible apply Kept.privileged | with_reducible apply Kept.keepWrite | with_reducible apply Kept.foldl | with_reducible apply Kept.foldl_snd | extract_lets | with_reducible refine Kept.ite ?_ ?_ | split
theorem Kept.mbClearBackup {a s : State} (h : Kept a s) (x0 : MbHdr) : Kept a (State.mbClearBackup x0 s) := by
  unfold State.mbClearBackup
  repeat' first | with_reducible assumption | intro _ | with_reducible apply Kept.privileged | with_reducible apply Kept.setDegrade | with_reducible apply Kept.keepWrite
theorem Kept.cutUpdate {a s : State} (h : Kept a s) : Kept a (State.cutUpdate s) := by
  unfold State.cutUpdate
  repeat' first | with_reducible assumption | intro _ | with_reducible apply Kept.modFlash | with_reducible apply Kept.keepWrite | with_reducible apply Kept.foldl | with_reducible apply Kept.foldl_snd | extract_lets | with_reducible refine Kept.ite ?_ ?_
theorem Kept.startBringup {a s : State} (h : Kept a s) : Kept a (State.startBringup s) := by
  unfold State.startBringup
  repeat' first | with_reducible assumption | intro _ | with_reducible apply Kept.cutUpdate | with_reducible apply Kept.discard | with_reducible apply Kept.foldl | with_reducible apply Kept.foldl_snd | (with_reducible apply Kept.upd; first | with_reducible assumption | with_reducible apply Kept.cutUpdate | with_reducible apply Kept.discard | with_reducible apply Kept.foldl | with_reducible refine Kept.ite ?_ ?_)
theorem Kept.mbRelease {a s : State} (h : Kept a s) (x0 : Sample) (x1 : MbHdr) : Kept a (State.mbRelease x0 x1 s) := by
  unfold State.mbRelease
  repeat' first | with_reducible assumption | intro _ | with_reducible apply Kept.privileged | with_reducible apply Kept.report | with_reducible apply Kept.keepWrite | with_reducible apply Kept.startBringup | with_reducible apply Kept.foldl | with_reducible apply Kept.foldl_snd | extract_lets | with_reducible refine Kept.ite ?_ ?_ | split
theorem Kept.mbUpdateLock {a s : State} (h : Kept a s) (x0 : Bool) (x1 : MbHdr) : Kept a (State.mbUpdateLock x0 x1 s) := by
  unfold State.mbUpdateLock
  repeat' first | with_reducible assumption | intro _ | with_reducible apply Kept.privileged | with_reducible apply Kept.keepWrite | with_reducible apply Kept.foldl | with_reducible apply Kept.foldl_snd | (with_reducible apply Kept.upd; first | with_reducible assumption | with_reducible apply Kept.privileged | with_reducible apply Kept.keepWrite | with_reducible apply Kept.foldl | with_reducible refine Kept.ite ?_ ?_)
theorem Kept.enterQuiesce {a s : State} (h : Kept a s) (x0 : Nat) : Kept a (State.enterQuiesce x0 s) := by
  unfold State.enterQuiesce
  repeat' first | with_reducible assumption | intro _ | with_reducible apply Kept.modModes | with_reducible apply Kept.allPorts | with_reducible apply Kept.modPort | with_reducible apply Kept.each | with_reducible apply Kept.modChan
theorem Kept.startDevEpoch {a s : State} (h : Kept a s) (x0 : Nat) (x1 : EpochAct) (x2 : Option Nat) : Kept a (State.startDevEpoch x0 x1 x2 s) := by
  unfold State.startDevEpoch
  repeat' first | with_reducible assumption | intro _ | with_reducible apply Kept.modModes | with_reducible apply Kept.enterQuiesce | with_reducible apply Kept.modCtx | with_reducible apply Kept.foldl | with_reducible apply Kept.foldl_snd | extract_lets | with_reducible refine Kept.ite ?_ ?_ | split
theorem Kept.mbSetRpl {a s : State} (h : Kept a s) (x0 : Nat) (x1 : Bool) (x2 : MbHdr) : Kept a (State.mbSetRpl x0 x1 x2 s) := by
  unfold State.mbSetRpl
  repeat' first | with_reducible assumption | intro _ | with_reducible apply Kept.privilegedLate | with_reducible apply Kept.modPart | with_reducible apply Kept.startDevEpoch | with_reducible apply Kept.foldl | with_reducible apply Kept.foldl_snd | extract_lets | with_reducible refine Kept.ite ?_ ?_ | split
theorem Kept.giveUpBand {a s : State} (h : Kept a s) (x0 : Nat) : Kept a (State.giveUpBand x0 s) := by
  unfold State.giveUpBand
  repeat' first | with_reducible assumption | intro _ | with_reducible apply Kept.modHealth | with_reducible apply Kept.logBand
theorem Kept.rewriteKeys {a s : State} (h : Kept a s) : Kept a (State.rewriteKeys s) := by
  unfold State.rewriteKeys
  repeat' first | with_reducible assumption | intro _ | with_reducible apply Kept.modPart | with_reducible apply Kept.each | with_reducible apply Kept.logBand | with_reducible apply Kept.giveUpBand | with_reducible apply Kept.foldl | with_reducible apply Kept.foldl_snd | extract_lets | with_reducible refine Kept.ite ?_ ?_
theorem Kept.mbLoadKey {a s : State} (h : Kept a s) (x0 : Nat) (x1 : Bool) (x2 : Bool) (x3 : BitVec 64) (x4 : MbHdr) : Kept a (State.mbLoadKey x0 x1 x2 x3 x4 s) := by
  unfold State.mbLoadKey
  repeat' first | with_reducible assumption | intro _ | with_reducible apply Kept.privileged | with_reducible apply Kept.modPart | with_reducible apply Kept.rewriteKeys | with_reducible apply Kept.foldl | with_reducible apply Kept.foldl_snd | extract_lets | with_reducible refine Kept.ite ?_ ?_ | split
theorem Kept.mbClearKey {a s : State} (h : Kept a s) (x0 : Nat) (x1 : MbHdr) : Kept a (State.mbClearKey x0 x1 s) := by
  unfold State.mbClearKey
  repeat' first | with_reducible assumption | intro _ | with_reducible apply Kept.privileged | with_reducible apply Kept.modPart | with_reducible apply Kept.rewriteKeys | with_reducible apply Kept.foldl | with_reducible apply Kept.foldl_snd | extract_lets | with_reducible refine Kept.ite ?_ ?_ | split
theorem Kept.enrol {a s : State} (h : Kept a s) (hash : BitVec 384) (hl : s.otp.operatorKeys.length < 4) : Kept a (State.enrol hash s) := by
  unfold State.enrol
  refine Kept.report ?_ ..
  refine h.fuse rfl rfl rfl rfl (fun hu => ⟨⟨List.prefix_append _ _, BitVec.and_self, ?_, Nat.le_refl _, Nat.le_refl _, id, id⟩, hu.1, ?_⟩)
  · exact Otp.and_or _ _
  · simp; omega

theorem Kept.mbRotate {a s : State} (h : Kept a s) (x0 : BitVec 384) (x1 : Bool) (x2 : MbHdr) : Kept a (State.mbRotate x0 x1 x2 s) := by
  unfold State.mbRotate
  split
  · rename_i he
    have hl : s.otp.operatorKeys.length < 4 := by rw [List.isEmpty_iff.mp he]; decide
    unfold State.unprivileged
    split
    · exact h.mbAnswer ..
    · refine Kept.mbAnswer ?_ ..
      dsimp only
      split
      · exact h
      · split
        · exact h
        · exact h.enrol _ hl
  · refine h.privileged _ _ _ _ (fun t ht => ?_)
    split
    · exact ht
    · exact ht.enrol _ (by omega)
theorem Kept.mbRevoke {a s : State} (h : Kept a s) (x0 : Fin 4) (x1 : MbHdr) : Kept a (State.mbRevoke x0 x1 s) := by
  unfold State.mbRevoke
  apply Kept.privileged h
  intro t ht
  dsimp only
  split
  · exact ht
  · split
    · exact ht
    · rename_i hn
      refine Kept.report ?_ ..
      refine ht.fuse rfl rfl rfl rfl (fun hu => ⟨?_, hn, hu.2⟩)
      refine ⟨List.prefix_rfl, ?_, BitVec.and_self, Nat.le_refl _, Nat.le_refl _, id, id⟩
      exact Otp.and_or _ _
theorem Kept.mbRun {a s : State} (h : Kept a s) (x0 : MbHdr) (x1 : MbBody) : Kept a (State.mbRun x0 x1 s) := by
  unfold State.mbRun
  repeat' first | with_reducible assumption | intro _ | with_reducible apply Kept.mbGetChallenge | with_reducible apply Kept.mbReadIdentity | with_reducible apply Kept.mbReadStatus | with_reducible apply Kept.mbSetThreshOvr | with_reducible apply Kept.mbClearBackup | with_reducible apply Kept.mbRelease | with_reducible apply Kept.mbUpdateLock | with_reducible apply Kept.mbSetRpl | with_reducible apply Kept.mbLoadKey | with_reducible apply Kept.mbClearKey | with_reducible apply Kept.mbRotate | with_reducible apply Kept.mbRevoke | with_reducible apply Kept.mbAnswer | with_reducible apply Kept.foldl | with_reducible apply Kept.foldl_snd | extract_lets | with_reducible refine Kept.ite ?_ ?_ | split
theorem Kept.mbTakeQueue {a s : State} (h : Kept a s) : Kept a (State.mbTakeQueue s) := by
  unfold State.mbTakeQueue
  repeat' first | with_reducible assumption | intro _ | with_reducible apply Kept.modPart | with_reducible apply Kept.mbRun | with_reducible apply Kept.foldl | with_reducible apply Kept.foldl_snd | extract_lets | with_reducible refine Kept.ite ?_ ?_ | split
theorem Kept.mailbox {a s : State} (h : Kept a s) (x0 : MbHdr) (x1 : MbBody) : Kept a (State.mailbox x0 x1 s) := by
  unfold State.mailbox
  repeat' first | with_reducible assumption | intro _ | with_reducible apply Kept.mbArrives | with_reducible apply Kept.mbRun | with_reducible apply Kept.mbTakeQueue
theorem Kept.ctlRead {a s : State} (h : Kept a s) (x0 : Nat) (x1 : Nat) (x2 : Option Nat) : Kept a (State.ctlRead x0 x1 x2 s) := by
  unfold State.ctlRead
  repeat' first | with_reducible assumption | intro _ | with_reducible apply Kept.emit | with_reducible apply Kept.modStop | with_reducible apply Kept.foldl | with_reducible apply Kept.foldl_snd | extract_lets | with_reducible refine Kept.ite ?_ ?_ | split | dsimp +zetaDelta only
theorem Kept.sendPending {a s : State} (h : Kept a s) (x0 : Nat) : Kept a (State.sendPending x0 s) := by
  unfold State.sendPending
  repeat' first | with_reducible assumption | intro _ | with_reducible apply Kept.each | with_reducible apply Kept.emit | with_reducible apply Kept.modPort | with_reducible apply Kept.foldl | with_reducible apply Kept.foldl_snd | extract_lets | with_reducible refine Kept.ite ?_ ?_
theorem Kept.writeVector {a s : State} (h : Kept a s) (x0 : Nat) (x1 : Nat) (x2 : W32) : Kept a (State.writeVector x0 x1 x2 s) := by
  unfold State.writeVector
  repeat' first | with_reducible assumption | intro _ | with_reducible apply Kept.modPort | with_reducible apply Kept.sendPending | with_reducible apply Kept.foldl | with_reducible apply Kept.foldl_snd | extract_lets | with_reducible refine Kept.ite ?_ ?_ | split
theorem Kept.writeBar0 {a s : State} (h : Kept a s) (x0 : Nat) (x1 : Nat) (x2 : W32) : Kept a (State.writeBar0 x0 x1 x2 s) := by
  unfold State.writeBar0
  repeat' first | with_reducible assumption | intro _ | with_reducible apply Kept.writeVector | with_reducible apply Kept.modPort | with_reducible apply Kept.foldl | with_reducible apply Kept.foldl_snd | extract_lets | with_reducible refine Kept.ite ?_ ?_ | split
theorem Kept.writeConfig {a s : State} (h : Kept a s) (x0 : Nat) (x1 : Nat) (x2 : W32) : Kept a (State.writeConfig x0 x1 x2 s) := by
  unfold State.writeConfig
  repeat' first | with_reducible assumption | intro _ | with_reducible apply Kept.emit | with_reducible apply Kept.modPort | with_reducible apply Kept.sendPending | with_reducible apply Kept.clearPasid | with_reducible apply Kept.foldl | with_reducible apply Kept.foldl_snd | extract_lets | with_reducible refine Kept.ite ?_ ?_ | split
theorem Kept.writeHostDword {a s : State} (h : Kept a s) (x0 : Nat) (x1 : W32) : Kept a (State.writeHostDword x0 x1 s) := by
  unfold State.writeHostDword
  repeat' first | with_reducible assumption | intro _ | with_reducible apply Kept.writeBar0 | with_reducible apply Kept.writeConfig | with_reducible apply Kept.foldl | with_reducible apply Kept.foldl_snd | extract_lets | with_reducible refine Kept.ite ?_ ?_
theorem Kept.writeHost {a s : State} (h : Kept a s) (x0 : Nat) (x1 : Bool) (x2 : W64) : Kept a (State.writeHost x0 x1 x2 s) := by
  unfold State.writeHost
  repeat' first | with_reducible assumption | intro _ | with_reducible apply Kept.writeHostDword | with_reducible apply Kept.foldl | with_reducible apply Kept.foldl_snd | extract_lets | with_reducible refine Kept.ite ?_ ?_
theorem Kept.writeKr {a s : State} (h : Kept a s) (x0 : Nat) (x1 : W64) : Kept a (State.writeKr x0 x1 s) := by
  unfold State.writeKr
  repeat' first | with_reducible assumption | intro _ | with_reducible apply Kept.keepWrite | with_reducible apply Kept.foldl | with_reducible apply Kept.foldl_snd | extract_lets | with_reducible refine Kept.ite ?_ ?_ | split
theorem Kept.setBay {a s : State} (h : Kept a s) (x0 : Nat) (x1 : Bool) : Kept a (State.setBay x0 x1 s) := by
  unfold State.setBay
  repeat' first | with_reducible assumption | intro _ | with_reducible apply Kept.modPod | with_reducible apply Kept.emit | with_reducible apply Kept.foldl | with_reducible apply Kept.foldl_snd | extract_lets | with_reducible refine Kept.ite ?_ ?_
theorem Kept.writeSp {a s : State} (h : Kept a s) (x0 : Nat) (x1 : W64) : Kept a (State.writeSp x0 x1 s) := by
  unfold State.writeSp
  repeat' first | with_reducible assumption | intro _ | with_reducible apply Kept.modPart | with_reducible apply Kept.each | with_reducible apply Kept.setBay | with_reducible apply Kept.keepWrite | with_reducible apply Kept.foldl | with_reducible apply Kept.foldl_snd | extract_lets | with_reducible refine Kept.ite ?_ ?_ | split
theorem Kept.maintWay {a s : State} (h : Kept a s) (x0 : Nat) (x1 : Nat) (x2 : Nat) : Kept a (State.maintWay x0 x1 x2 s) := by
  unfold State.maintWay
  repeat' first | with_reducible assumption | intro _ | with_reducible apply Kept.writeBack | with_reducible apply Kept.modSlice | with_reducible apply Kept.foldl | with_reducible apply Kept.foldl_snd | extract_lets | with_reducible refine Kept.ite ?_ ?_ | split
theorem Kept.maintain {a s : State} (h : Kept a s) (x0 : Nat) (x1 : Nat) (x2 : Nat) (x3 : Nat) : Kept a (State.maintain x0 x1 x2 x3 s) := by
  unfold State.maintain
  repeat' first | with_reducible assumption | intro _ | with_reducible apply Kept.each | with_reducible apply Kept.modSlice | with_reducible apply Kept.fill | with_reducible apply Kept.maintWay | with_reducible apply Kept.modMc
theorem Kept.startMaint {a s : State} (h : Kept a s) (x0 : Nat) (x1 : W64) (x2 : W64) : Kept a (State.startMaint x0 x1 x2 s) := by
  unfold State.startMaint
  repeat' first | with_reducible assumption | intro _ | with_reducible apply Kept.retry | with_reducible apply Kept.modMc | with_reducible apply Kept.maintain
theorem Kept.takePolicy {a s : State} (h : Kept a s) (x0 : Nat) (x1 : Nat) (x2 : Nat) : Kept a (State.takePolicy x0 x1 x2 s) := by
  unfold State.takePolicy
  repeat' first | with_reducible assumption | intro _ | with_reducible apply Kept.each | with_reducible apply Kept.writeBack | with_reducible apply Kept.modSlice | with_reducible apply Kept.foldl | with_reducible apply Kept.foldl_snd | extract_lets | with_reducible refine Kept.ite ?_ ?_ | split
theorem Kept.regionMaint {a s : State} (h : Kept a s) (x0 : Nat) (x1 : W64) (x2 : W64) : Kept a (State.regionMaint x0 x1 x2 s) := by
  unfold State.regionMaint
  repeat' first | with_reducible assumption | intro _ | with_reducible apply Kept.startMaint | with_reducible apply Kept.takePolicy
theorem Kept.askMaint {a s : State} (h : Kept a s) (x0 : Nat) (x1 : W64) (x2 : W64) : Kept a (State.askMaint x0 x1 x2 s) := by
  unfold State.askMaint
  repeat' first | with_reducible assumption | intro _ | with_reducible apply Kept.modMc | with_reducible apply Kept.regionMaint | with_reducible apply Kept.foldl | with_reducible apply Kept.foldl_snd | extract_lets | with_reducible refine Kept.ite ?_ ?_
theorem Kept.putRegion {a s : State} (h : Kept a s) (x0 : Nat) (x1 : W64) : Kept a (State.putRegion x0 x1 s) := by
  unfold State.putRegion
  repeat' first | with_reducible assumption | intro _ | with_reducible apply Kept.modMc | with_reducible apply Kept.report | with_reducible apply Kept.each | with_reducible apply Kept.modSlice | with_reducible apply Kept.askMaint | with_reducible apply Kept.foldl | with_reducible apply Kept.foldl_snd | extract_lets | with_reducible refine Kept.ite ?_ ?_ | split
theorem Kept.maintCmd {a s : State} (h : Kept a s) (x0 : Nat) : Kept a (State.maintCmd x0 s) := by
  unfold State.maintCmd
  repeat' first | with_reducible assumption | intro _ | with_reducible apply Kept.modMc | with_reducible apply Kept.startMaint | with_reducible apply Kept.foldl | with_reducible apply Kept.foldl_snd | extract_lets | with_reducible refine Kept.ite ?_ ?_
theorem Kept.writeMc {a s : State} (h : Kept a s) (x0 : Writer) (x1 : Nat) (x2 : W64) : Kept a (State.writeMc x0 x1 x2 s) := by
  unfold State.writeMc
  repeat' first | with_reducible assumption | intro _ | with_reducible apply Kept.modMc | with_reducible apply Kept.putRegion | with_reducible apply Kept.modSlice | with_reducible apply Kept.maintCmd | with_reducible apply Kept.foldl | with_reducible apply Kept.foldl_snd | extract_lets | with_reducible refine Kept.ite ?_ ?_ | split
theorem Kept.writeCh {a s : State} (h : Kept a s) (x0 : Nat) (x1 : W64) : Kept a (State.writeCh x0 x1 s) := by
  unfold State.writeCh
  repeat' first | with_reducible assumption | intro _ | with_reducible apply Kept.modHealth | with_reducible apply Kept.foldl | with_reducible apply Kept.foldl_snd | (with_reducible apply Kept.upd; first | with_reducible assumption | with_reducible apply Kept.modHealth | with_reducible apply Kept.foldl | with_reducible refine Kept.ite ?_ ?_) | extract_lets | with_reducible refine Kept.ite ?_ ?_ | split
theorem Kept.writeBase {a s : State} (h : Kept a s) (x0 : Nat) (x1 : W64) : Kept a (State.writeBase x0 x1 s) := by
  unfold State.writeBase
  repeat' first | with_reducible assumption | intro _ | with_reducible apply Kept.modChan | with_reducible apply Kept.foldl | with_reducible apply Kept.foldl_snd | extract_lets | with_reducible refine Kept.ite ?_ ?_
theorem Kept.writePause {a s : State} (h : Kept a s) (x0 : Nat) (x1 : Bool) : Kept a (State.writePause x0 x1 s) := by
  unfold State.writePause
  repeat' first | with_reducible assumption | intro _ | with_reducible apply Kept.checkOwned | with_reducible apply Kept.modChan | with_reducible apply Kept.foldl | with_reducible apply Kept.foldl_snd | extract_lets | with_reducible refine Kept.ite ?_ ?_
theorem Kept.writeCtrl {a s : State} (h : Kept a s) (x0 : Nat) (x1 : W64) : Kept a (State.writeCtrl x0 x1 s) := by
  unfold State.writeCtrl
  repeat' first | with_reducible assumption | intro _ | with_reducible apply Kept.updChan | with_reducible apply Kept.writePause | with_reducible apply Kept.writeEnable | with_reducible apply Kept.foldl | with_reducible apply Kept.foldl_snd | extract_lets | with_reducible refine Kept.ite ?_ ?_
theorem Kept.writeTail {a s : State} (h : Kept a s) (x0 : Nat) (x1 : Nat) (x2 : List (Nat × MvDesc)) : Kept a (State.writeTail x0 x1 x2 s) := by
  unfold State.writeTail
  repeat' first | with_reducible assumption | intro _ | with_reducible apply Kept.checkOwned | with_reducible apply Kept.modChan | with_reducible apply Kept.foldl | with_reducible apply Kept.foldl_snd | extract_lets | with_reducible refine Kept.ite ?_ ?_
theorem Kept.endDesc {a s : State} (h : Kept a s) (x0 : Nat) (x1 : Nat) (x2 : Nat) : Kept a (State.endDesc x0 x1 x2 s) := by
  unfold State.endDesc
  repeat' first | with_reducible assumption | intro _ | with_reducible apply Kept.checkOwned | with_reducible apply Kept.updChan
theorem Kept.writePace {a s : State} (h : Kept a s) (x0 : Nat) (x1 : Bool) : Kept a (State.writePace x0 x1 s) := by
  unfold State.writePace
  repeat' first | with_reducible assumption | intro _ | with_reducible apply Kept.modChan | with_reducible apply Kept.endDesc | with_reducible apply Kept.foldl | with_reducible apply Kept.foldl_snd | extract_lets | with_reducible refine Kept.ite ?_ ?_ | split
theorem Kept.writeDm {a s : State} (h : Kept a s) (x0 : Nat) (x1 : Nat) (x2 : W64) : Kept a (State.writeDm x0 x1 x2 s) := by
  unfold State.writeDm
  repeat' first | with_reducible assumption | intro _ | with_reducible apply Kept.writeBase | with_reducible apply Kept.writeCtrl | with_reducible apply Kept.writeTail | with_reducible apply Kept.updChan | with_reducible apply Kept.writePace | with_reducible apply Kept.foldl | with_reducible apply Kept.foldl_snd | extract_lets | with_reducible refine Kept.ite ?_ ?_ | split
theorem Kept.writeShell {a s : State} (h : Kept a s) (x0 : Nat) (x1 : Nat) (x2 : W64) : Kept a (State.writeShell x0 x1 x2 s) := by
  unfold State.writeShell
  repeat' first | with_reducible assumption | intro _ | with_reducible apply Kept.modStop | with_reducible apply Kept.foldl | with_reducible apply Kept.foldl_snd | extract_lets | with_reducible refine Kept.ite ?_ ?_ | split
theorem Kept.ctlWrite {a s : State} (h : Kept a s) (x0 : Nat) (x1 : Nat) (x2 : W64) : Kept a (State.ctlWrite x0 x1 x2 s) := by
  unfold State.ctlWrite
  repeat' first | with_reducible assumption | intro _ | with_reducible apply Kept.emit | with_reducible apply Kept.foldl | with_reducible apply Kept.foldl_snd | extract_lets | with_reducible refine Kept.ite ?_ ?_
theorem Kept.writeReg {a s : State} (h : Kept a s) (x0 : Writer) (x1 : Nat) (x2 : W64) : Kept a (State.writeReg x0 x1 x2 s) := by
  unfold State.writeReg
  repeat' first | with_reducible assumption | intro _ | with_reducible apply Kept.writeHost | with_reducible apply Kept.writeKr | with_reducible apply Kept.writeSp | with_reducible apply Kept.modFlash | with_reducible apply Kept.writeMc | with_reducible apply Kept.writeCh | with_reducible apply Kept.writeDm | with_reducible apply Kept.writeShell | with_reducible apply Kept.ctlWrite | with_reducible apply Kept.foldl | with_reducible apply Kept.foldl_snd | extract_lets | with_reducible refine Kept.ite ?_ ?_ | split
theorem Kept.hold {a s : State} (h : Kept a s) (x0 : Nat) : Kept a (State.hold x0 s).2 := by
  unfold State.hold
  repeat' first | with_reducible assumption | intro _ | with_reducible apply Kept.modModes | with_reducible apply Kept.enterQuiesce | with_reducible apply Kept.foldl | with_reducible apply Kept.foldl_snd | extract_lets | with_reducible refine Kept.ite ?_ ?_ | split
theorem Kept.hold_eq {a s : State} (h : Kept a s) (x0 : Nat) {r t} (e : State.hold x0 s = (r, t)) : Kept a t := by
  have := Kept.hold h x0; rw [e] at this; exact this
theorem Kept.reviewPs {a s : State} (h : Kept a s) : Kept a (State.reviewPs s) := by
  unfold State.reviewPs
  repeat' first | with_reducible assumption | intro _ | with_reducible apply Kept.modModes | with_reducible apply Kept.foldl | with_reducible apply Kept.foldl_snd | extract_lets | with_reducible refine Kept.ite ?_ ?_ | split
theorem Kept.leaveQuiesce {a s : State} (h : Kept a s) : Kept a (State.leaveQuiesce s) := by
  unfold State.leaveQuiesce
  repeat' first | with_reducible assumption | intro _ | with_reducible apply Kept.modModes | with_reducible apply Kept.allPorts | with_reducible apply Kept.modPort | with_reducible apply Kept.each | with_reducible apply Kept.checkOwned | with_reducible apply Kept.modChan | with_reducible apply Kept.reviewPs
theorem Kept.endHold {a s : State} (h : Kept a s) : Kept a (State.endHold s) := by
  unfold State.endHold
  repeat' first | with_reducible assumption | intro _ | with_reducible apply Kept.leaveQuiesce | with_reducible apply Kept.modModes
theorem Kept.releaseHold {a s : State} (h : Kept a s) : Kept a (State.releaseHold s).2 := by
  unfold State.releaseHold
  repeat' first | with_reducible assumption | intro _ | with_reducible apply Kept.endHold | with_reducible apply Kept.foldl | with_reducible apply Kept.foldl_snd | extract_lets | with_reducible refine Kept.ite ?_ ?_ | split
theorem Kept.releaseHold_eq {a s : State} (h : Kept a s)  {r t} (e : State.releaseHold s = (r, t)) : Kept a t := by
  have := Kept.releaseHold h ; rw [e] at this; exact this
theorem Kept.miDirect {a s : State} (h : Kept a s) (x0 : MiRequest) : Kept a (State.miDirect x0 s).2 := by
  unfold State.miDirect
  repeat' first | with_reducible assumption | intro _ | with_reducible apply Kept.miAdmin | with_reducible apply Kept.ctlRead | with_reducible apply Kept.drew | with_reducible apply Kept.writeReg | with_reducible apply Kept.hold | refine Kept.hold_eq (h := ?_) (e := by with_reducible assumption) .. | with_reducible apply Kept.releaseHold | refine Kept.releaseHold_eq (h := ?_) (e := by with_reducible assumption) .. | with_reducible apply Kept.emit | with_reducible apply Kept.mbArrives | with_reducible apply Kept.mbAnswer | with_reducible apply Kept.foldl | with_reducible apply Kept.foldl_snd | extract_lets | with_reducible refine Kept.ite ?_ ?_ | split
theorem Kept.miDirect_eq {a s : State} (h : Kept a s) (x0 : MiRequest) {r t} (e : State.miDirect x0 s = (r, t)) : Kept a t := by
  have := Kept.miDirect h x0; rw [e] at this; exact this
theorem Kept.miServe {a s : State} (h : Kept a s) (x0 : MiRequest) : Kept a (State.miServe x0 s) := by
  unfold State.miServe
  repeat' first | with_reducible assumption | intro _ | with_reducible apply Kept.miDirect | refine Kept.miDirect_eq (h := ?_) (e := by with_reducible assumption) .. | with_reducible apply Kept.emit | with_reducible apply Kept.foldl | with_reducible apply Kept.foldl_snd | extract_lets | with_reducible refine Kept.ite ?_ ?_ | split
theorem Kept.linkBack {a s : State} (h : Kept a s) (x0 : Nat) : Kept a (State.linkBack x0 s) := h.upd ..
theorem Kept.selfTestOf {a s : State} (h : Kept a s) (x0 : Nat) (x1 : Nat) (x2 : State → State) (hg : ∀  t, Kept a t → Kept a (x2 t)) : Kept a (State.selfTestOf x0 x1 x2 s) := by
  unfold State.selfTestOf
  repeat' first | with_reducible assumption | intro _ | with_reducible apply hg | with_reducible apply Kept.admin | with_reducible apply Kept.foldl | with_reducible apply Kept.foldl_snd | extract_lets | with_reducible refine Kept.ite ?_ ?_
theorem Kept.wake {a s : State} (h : Kept a s) (x0 : Nat) : Kept a (State.wake x0 s) := by
  unfold State.wake
  repeat' first | with_reducible assumption | intro _ | with_reducible apply Kept.modPort | with_reducible apply Kept.modModes
theorem Kept.adminQueues {a s : State} (h : Kept a s) (x0 : Nat) (x1 : Nat) (x2 : Nat) : Kept a (State.adminQueues x0 x1 x2 s) := by
  unfold State.adminQueues
  repeat' first | with_reducible assumption | intro _ | with_reducible apply Kept.modInst
theorem Kept.dropAdmin {a s : State} (h : Kept a s) (x0 : Nat) : Kept a (State.dropAdmin x0 s) := h.upd ..
theorem Kept.discardGen {a s : State} (h : Kept a s) (x0 : Nat) (x1 : W16) : Kept a (State.discardGen x0 x1 s) := by
  unfold State.discardGen
  repeat' first | with_reducible assumption | intro _ | with_reducible apply Kept.each | with_reducible apply Kept.dropCtx | with_reducible apply Kept.leaveStop | with_reducible apply Kept.lateDiscard | with_reducible apply Kept.foldl | with_reducible apply Kept.foldl_snd | (with_reducible apply Kept.upd; first | with_reducible assumption | with_reducible apply Kept.each | with_reducible apply Kept.dropCtx | with_reducible apply Kept.leaveStop | with_reducible apply Kept.lateDiscard | with_reducible apply Kept.foldl | with_reducible refine Kept.ite ?_ ?_)
theorem Kept.endSilent {a s : State} (h : Kept a s) (x0 : Nat) : Kept a (State.endSilent x0 s) := by
  unfold State.endSilent
  repeat' first | with_reducible assumption | intro _ | with_reducible apply Kept.endWrite | with_reducible apply Kept.modInst | with_reducible apply Kept.dropCtx | with_reducible apply Kept.dropOps | with_reducible apply Kept.leaveStop | with_reducible apply Kept.capTrim | with_reducible apply Kept.foldl | with_reducible apply Kept.foldl_snd | (with_reducible apply Kept.upd; first | with_reducible assumption | with_reducible apply Kept.endWrite | with_reducible apply Kept.modInst | with_reducible apply Kept.dropCtx | with_reducible apply Kept.dropOps | with_reducible apply Kept.leaveStop | with_reducible apply Kept.capTrim | with_reducible apply Kept.foldl | with_reducible refine Kept.ite ?_ ?_) | extract_lets | with_reducible refine Kept.ite ?_ ?_ | split
theorem Kept.resetChans {a s : State} (h : Kept a s) (x0 : Nat) (x1 : Nat) : Kept a (State.resetChans x0 x1 s) := by
  unfold State.resetChans
  repeat' first | with_reducible assumption | intro _ | with_reducible apply Kept.each | with_reducible apply Kept.haltChan | with_reducible apply Kept.lateDiscard | with_reducible apply Kept.foldl | with_reducible apply Kept.foldl_snd | extract_lets | with_reducible refine Kept.ite ?_ ?_
theorem Kept.resetStops {a s : State} (h : Kept a s) (x0 : Nat) : Kept a (State.resetStops x0 s) := by
  unfold State.resetStops
  repeat' first | with_reducible assumption | intro _ | with_reducible apply Kept.each | with_reducible apply Kept.modStop | with_reducible apply Kept.resetChans | with_reducible apply Kept.foldl | with_reducible apply Kept.foldl_snd | extract_lets | with_reducible refine Kept.ite ?_ ?_
theorem Kept.dropWithheld {a s : State} (h : Kept a s) (x0 : Nat) : Kept a (State.dropWithheld x0 s) := by
  unfold State.dropWithheld
  repeat' first | with_reducible assumption | intro _ | with_reducible apply Kept.dropCtx | with_reducible apply Kept.lateDiscard | with_reducible apply Kept.modInst | with_reducible apply Kept.modPort | with_reducible apply Kept.foldl
theorem Kept.resetInst {a s : State} (h : Kept a s) (x0 : Nat) : Kept a (State.resetInst x0 s) := by
  unfold State.resetInst
  repeat' first | with_reducible assumption | intro _ | with_reducible apply Kept.applyChange | with_reducible apply Kept.logInst | with_reducible apply Kept.discardGen | with_reducible apply Kept.each | with_reducible apply Kept.endSilent | with_reducible apply Kept.modCtx | with_reducible apply Kept.resetStops | with_reducible apply Kept.dropWithheld | with_reducible apply Kept.retry | with_reducible apply Kept.modInst | with_reducible apply Kept.foldl | with_reducible apply Kept.foldl_snd | extract_lets | with_reducible refine Kept.ite ?_ ?_ | split
theorem Kept.newLayout {a s : State} (h : Kept a s) : Kept a (State.newLayout s) := by
  unfold State.newLayout
  repeat' first | with_reducible assumption | intro _ | with_reducible apply Kept.drew | with_reducible apply Kept.modMc
theorem Kept.dropLends {a s : State} (h : Kept a s) (x0 : Nat) (x1 : Lend → Bool) : Kept a (State.dropLends x0 x1 s) := by
  unfold State.dropLends
  repeat' first | with_reducible assumption | intro _ | with_reducible apply Kept.newLayout | with_reducible apply Kept.foldl | with_reducible apply Kept.foldl_snd | (with_reducible apply Kept.upd; first | with_reducible assumption | with_reducible apply Kept.newLayout | with_reducible apply Kept.foldl | with_reducible refine Kept.ite ?_ ?_)
theorem Kept.ctlReset {a s : State} (h : Kept a s) (x0 : Nat) (x1 : Bool) : Kept a (State.ctlReset x0 x1 s) := by
  unfold State.ctlReset
  repeat' first | with_reducible assumption | intro _ | with_reducible apply Kept.dropAdmin | with_reducible apply Kept.each | with_reducible apply Kept.modInst | with_reducible apply Kept.resetInst | with_reducible apply Kept.modPort | with_reducible apply Kept.reviewPs | with_reducible apply Kept.dropLends
theorem Kept.queueErase {a s : State} (h : Kept a s) (x0 : Nat) (x1 : Nat) (x2 : OpClass) : Kept a (State.queueErase x0 x1 x2 s) := by
  unfold State.queueErase
  repeat' first | with_reducible assumption | intro _ | with_reducible apply Kept.each | with_reducible apply Kept.addOp
theorem Kept.startErase {a s : State} (h : Kept a s) (x0 : Nat) (x1 : Nat) : Kept a (State.startErase x0 x1 s) := by
  unfold State.startErase
  repeat' first | with_reducible assumption | intro _ | with_reducible apply Kept.queueErase | with_reducible apply Kept.modHealth
theorem Kept.erasePendingIn {a s : State} (h : Kept a s) (x0 : Nat) (x1 : Nat) : Kept a (State.erasePendingIn x0 x1 s) := by
  unfold State.erasePendingIn
  repeat' first | with_reducible assumption | intro _ | with_reducible apply Kept.startErase | with_reducible apply Kept.foldl | with_reducible apply Kept.foldl_snd | extract_lets | with_reducible refine Kept.ite ?_ ?_ | split
theorem Kept.eraseOwed {a s : State} (h : Kept a s) : Kept a (State.eraseOwed s) := by
  unfold State.eraseOwed
  repeat' first | with_reducible assumption | intro _ | with_reducible apply Kept.each | with_reducible apply Kept.erasePendingIn
theorem Kept.settleKeyBands {a s : State} (h : Kept a s) : Kept a (State.settleKeyBands s) := by
  unfold State.settleKeyBands
  repeat' first | with_reducible assumption | intro _ | with_reducible apply Kept.each | with_reducible apply Kept.logBand | with_reducible apply Kept.giveUpBand
theorem Kept.startReloc {a s : State} (h : Kept a s) (x0 : Nat) (x1 : Nat) (x2 : Nat) : Kept a (State.startReloc x0 x1 x2 s) := by
  unfold State.startReloc
  repeat' first | with_reducible assumption | intro _ | with_reducible apply Kept.logBand | with_reducible apply Kept.modHealth | with_reducible apply Kept.each | with_reducible apply Kept.queueRead | with_reducible apply Kept.foldl | with_reducible apply Kept.foldl_snd | extract_lets | with_reducible refine Kept.ite ?_ ?_
theorem Kept.resumeUpkeep {a s : State} (h : Kept a s) : Kept a (State.resumeUpkeep s) := by
  unfold State.resumeUpkeep
  repeat' first | with_reducible assumption | intro _ | with_reducible apply Kept.eraseOwed | with_reducible apply Kept.settleKeyBands | with_reducible apply Kept.each | with_reducible apply Kept.modGroup | with_reducible apply Kept.startReloc
theorem Kept.podViolation {a s : State} (h : Kept a s) (x0 : Nat) : Kept a (State.podViolation x0 s) := by
  unfold State.podViolation
  repeat' first | with_reducible assumption | intro _ | with_reducible apply Kept.modLink | with_reducible apply Kept.linkDead | with_reducible apply Kept.foldl | with_reducible apply Kept.foldl_snd | extract_lets | with_reducible refine Kept.ite ?_ ?_
theorem Kept.nakFrame {a s : State} (h : Kept a s) (x0 : Nat) : Kept a (State.nakFrame x0 s) := by
  unfold State.nakFrame
  repeat' first | with_reducible assumption | intro _ | with_reducible apply Kept.podViolation | with_reducible apply Kept.modLink
theorem Kept.setFeature {a s : State} (h : Kept a s) (x0 : Nat) (x1 : Nat) (x2 : Ctx → State → State) (hg : ∀ y0 t, Kept a t → Kept a (x2 y0 t)) : Kept a (State.setFeature x0 x1 x2 s) := by
  unfold State.setFeature
  repeat' first | with_reducible assumption | intro _ | with_reducible apply hg | with_reducible apply Kept.admin | with_reducible apply Kept.complete | with_reducible apply Kept.foldl | with_reducible apply Kept.foldl_snd | extract_lets | with_reducible refine Kept.ite ?_ ?_
theorem Kept.placeFormat {a s : State} (h : Kept a s) (x0 : List Nat) : Kept a (State.placeFormat x0 s) := by
  unfold State.placeFormat
  repeat' first | with_reducible assumption | intro _ | with_reducible apply Kept.foldl | with_reducible apply Kept.foldl_snd | (with_reducible apply Kept.upd; first | with_reducible assumption | with_reducible apply Kept.foldl | with_reducible refine Kept.ite ?_ ?_) | extract_lets | with_reducible refine Kept.ite ?_ ?_ | split
theorem Kept.setCoalesce {a s : State} (h : Kept a s) (x0 : Nat) (x1 : W32) : Kept a (State.setCoalesce x0 x1 s) := by
  unfold State.setCoalesce
  repeat' first | with_reducible assumption | intro _ | with_reducible apply Kept.modInst
theorem Kept.adminWait {a s : State} (h : Kept a s) (x0 : Nat) (x1 : Nat) (x2 : Ctx → State → State) (hg : ∀ y0 t, Kept a t → Kept a (x2 y0 t)) : Kept a (State.adminWait x0 x1 x2 s) := by
  unfold State.adminWait
  repeat' first | with_reducible assumption | intro _ | with_reducible apply hg | with_reducible apply Kept.foldl | with_reducible apply Kept.foldl_snd | extract_lets | with_reducible refine Kept.ite ?_ ?_ | split
theorem Kept.logError {a s : State} (h : Kept a s) (x0 : Nat) (x1 : Nat) (x2 : Nat) (x3 : Nat) (x4 : Status) : Kept a (State.logError x0 x1 x2 x3 x4 s) := by
  unfold State.logError
  repeat' first | with_reducible assumption | intro _ | with_reducible apply Kept.modPort
theorem Kept.completeBad {a s : State} (h : Kept a s) (x0 : Nat) : Kept a (State.completeBad x0 s) := by
  unfold State.completeBad
  repeat' first | with_reducible assumption | intro _ | with_reducible apply Kept.complete | with_reducible apply Kept.logError | with_reducible apply Kept.foldl | with_reducible apply Kept.foldl_snd | extract_lets | with_reducible refine Kept.ite ?_ ?_ | split
theorem Kept.awaitSeal {a s : State} (h : Kept a s) (x0 : Nat) (x1 : W32) : Kept a (State.awaitSeal x0 x1 s) := by
  unfold State.awaitSeal
  repeat' first | with_reducible assumption | intro _ | with_reducible apply Kept.modCtx
theorem Kept.unmapAll {a s : State} (h : Kept a s) (x0 : Ns) : Kept a (State.unmapAll x0 s) := by
  unfold State.unmapAll
  repeat' first | with_reducible assumption | intro _ | with_reducible apply Kept.setRun
theorem Kept.formatNs {a s : State} (h : Kept a s) (x0 : Nat) (x1 : Ns) : Kept a (State.formatNs x0 x1 s) := by
  unfold State.formatNs
  repeat' first | with_reducible assumption | intro _ | with_reducible apply Kept.unmapAll | with_reducible apply Kept.logRec
theorem Kept.modStopCmd {a s : State} (h : Kept a s) (x0 : Nat) (x1 : Nat) (x2 : StopCmd → StopCmd) : Kept a (State.modStopCmd x0 x1 x2 s) := by
  unfold State.modStopCmd
  repeat' first | with_reducible assumption | intro _ | with_reducible apply Kept.modStop
theorem Kept.violated {a s : State} (h : Kept a s) (x0 : Nat) (x1 : Nat) : Kept a (State.violated x0 x1 s) := by
  unfold State.violated
  repeat' first | with_reducible assumption | intro _ | with_reducible apply Kept.modStopCmd
theorem Kept.used {a s : State} (h : Kept a s) (x0 : Nat) : Kept a (State.used x0 s) := by
  unfold State.used
  repeat' first | with_reducible assumption | intro _ | with_reducible apply Kept.modStop
theorem Kept.computeOut {a s : State} (h : Kept a s) (x0 : Nat) (x1 : OutFrame) (x2 : StopCmd) : Kept a (State.computeOut x0 x1 x2 s) := by
  unfold State.computeOut
  repeat' first | with_reducible assumption | intro _ | with_reducible apply Kept.stopViolation | with_reducible apply Kept.violated | with_reducible apply Kept.toTenant | with_reducible apply Kept.used | with_reducible apply Kept.modStopCmd | with_reducible apply Kept.foldl | with_reducible apply Kept.foldl_snd | extract_lets | with_reducible refine Kept.ite ?_ ?_ | split
theorem Kept.modDrone {a s : State} (h : Kept a s) (x0 : Nat) (x1 : Drone → Drone) : Kept a (State.modDrone x0 x1 s) := h.upd ..
theorem Kept.countBits {a s : State} (h : Kept a s) (x0 : Op) (x1 : Nat) (x2 : Nat) (x3 : Bool) : Kept a (State.countBits x0 x1 x2 x3 s) := by
  unfold State.countBits
  repeat' first | with_reducible assumption | intro _ | with_reducible apply Kept.modDie | with_reducible apply Kept.healthEvent | with_reducible apply Kept.modDrone | with_reducible apply Kept.foldl | with_reducible apply Kept.foldl_snd | extract_lets | with_reducible refine Kept.ite ?_ ?_
theorem Kept.retrain {a s : State} (h : Kept a s) (x0 : Nat) : Kept a (State.retrain x0 s) := by
  unfold State.retrain
  repeat' first | with_reducible assumption | intro _ | with_reducible apply Kept.ctlReset | with_reducible apply Kept.modPort
theorem Kept.toHost {a s : State} (h : Kept a s) (x0 : Ctx) (x1 : Layout) : Kept a (State.toHost x0 x1 s) := by
  unfold State.toHost
  repeat' first | with_reducible assumption | intro _ | with_reducible apply Kept.emit | with_reducible apply Kept.hostWrite | with_reducible apply Kept.foldl | with_reducible apply Kept.foldl_snd | extract_lets | with_reducible refine Kept.ite ?_ ?_
theorem Kept.readDeferred {a s : State} (h : Kept a s) (x0 : Nat) (x1 : Nat) (x2 : Nat) (x3 : Sqe) : Kept a (State.readDeferred x0 x1 x2 x3 s) := by
  unfold State.readDeferred
  repeat' first | with_reducible assumption | intro _ | with_reducible apply Kept.toHost | with_reducible apply Kept.modPort | with_reducible apply Kept.modInst | with_reducible apply Kept.complete | with_reducible apply Kept.foldl | with_reducible apply Kept.foldl_snd | extract_lets | with_reducible refine Kept.ite ?_ ?_ | split
theorem Kept.proxyLog {a s : State} (h : Kept a s) (x0 : Ctx) (x1 : Nat) (x2 : Sqe) : Kept a (State.proxyLog x0 x1 x2 s) := by
  unfold State.proxyLog
  repeat' first | with_reducible assumption | intro _ | with_reducible apply Kept.complete | with_reducible apply Kept.drew | with_reducible apply Kept.toHost | with_reducible apply Kept.readDeferred | with_reducible apply Kept.foldl | with_reducible apply Kept.foldl_snd | extract_lets | with_reducible refine Kept.ite ?_ ?_ | split
theorem Kept.clockFault {a s : State} (h : Kept a s) : Kept a (State.clockFault s) := by
  unfold State.clockFault
  repeat' first | with_reducible assumption | intro _ | with_reducible apply Kept.causeArises | with_reducible apply Kept.modPart | with_reducible apply Kept.foldl | with_reducible apply Kept.foldl_snd | extract_lets | with_reducible refine Kept.ite ?_ ?_
theorem Kept.sendOffsets {a s : State} (h : Kept a s) (x0 : Nat) (x1 : Nat) (x2 : Nat) : Kept a (State.sendOffsets x0 x1 x2 s) := by
  unfold State.sendOffsets
  repeat' first | with_reducible assumption | intro _ | with_reducible apply Kept.sendPod
theorem Kept.writeBlocks {a s : State} (h : Kept a s) (x0 : Nat) (x1 : Nat) (x2 : Nat) (x3 : Status) (x4 : Nat) : Kept a (State.writeBlocks x0 x1 x2 x3 x4 s) := by
  unfold State.writeBlocks
  repeat' first | with_reducible assumption | intro _ | with_reducible apply Kept.complete | with_reducible apply Kept.keepWrite | with_reducible apply Kept.modStop | with_reducible apply Kept.modFlash | with_reducible apply Kept.flashOps | with_reducible apply Kept.modCtx | with_reducible apply Kept.foldl | with_reducible apply Kept.foldl_snd | extract_lets | with_reducible refine Kept.ite ?_ ?_ | split
theorem Kept.killOps {a s : State} (h : Kept a s) (x0 : Nat) (x1 : Nat) : Kept a (State.killOps x0 x1 s) := h.upd ..
theorem Kept.failSpareDie {a s : State} (h : Kept a s) (x0 : Nat) (x1 : Nat) : Kept a (State.failSpareDie x0 x1 s) := by
  unfold State.failSpareDie
  repeat' first | with_reducible assumption | intro _ | with_reducible apply Kept.modDie | with_reducible apply Kept.logRec | with_reducible apply Kept.allToStep4 | with_reducible apply Kept.killOps | with_reducible apply Kept.report | with_reducible apply Kept.healthEvent | with_reducible apply Kept.reviewAvailable | with_reducible apply Kept.failSparePod | with_reducible apply Kept.foldl | with_reducible apply Kept.foldl_snd | extract_lets | with_reducible refine Kept.ite ?_ ?_ | split
theorem Kept.replaceDie {a s : State} (h : Kept a s) (x0 : Nat) (x1 : Nat) (x2 : Bool) : Kept a (State.replaceDie x0 x1 x2 s) := by
  unfold State.replaceDie
  repeat' first | with_reducible assumption | intro _ | with_reducible apply Kept.failPod | with_reducible apply Kept.modDie | with_reducible apply Kept.modHealth | with_reducible apply Kept.logRec | with_reducible apply Kept.unarmVault | with_reducible apply Kept.healthEvent | with_reducible apply Kept.failStripes | with_reducible apply Kept.allToStep4 | with_reducible apply Kept.killOps | with_reducible apply Kept.eraseAgain | with_reducible apply Kept.retry | with_reducible apply Kept.reviewAvailable | with_reducible apply Kept.startRun | with_reducible apply Kept.failSpareDie | with_reducible apply Kept.foldl | with_reducible apply Kept.foldl_snd | extract_lets | with_reducible refine Kept.ite ?_ ?_ | split
theorem Kept.failDie {a s : State} (h : Kept a s) (x0 : Nat) (x1 : Nat) : Kept a (State.failDie x0 x1 s) := by
  unfold State.failDie
  repeat' first | with_reducible assumption | intro _ | with_reducible apply Kept.modPod | with_reducible apply Kept.failPod | with_reducible apply Kept.modDie | with_reducible apply Kept.replaceDie | with_reducible apply Kept.foldl | with_reducible apply Kept.foldl_snd | extract_lets | with_reducible refine Kept.ite ?_ ?_
theorem Kept.notBefore {a s : State} (h : Kept a s) (x0 : Nat) : Kept a (State.notBefore x0 s) := h.upd ..
theorem Kept.suspectDie {a s : State} (h : Kept a s) (x0 : Nat) (x1 : Nat) : Kept a (State.suspectDie x0 x1 s) := by
  unfold State.suspectDie
  repeat' first | with_reducible assumption | intro _ | with_reducible apply Kept.modDie | with_reducible apply Kept.allToStep4 | with_reducible apply Kept.failDie | with_reducible apply Kept.sendPod | with_reducible apply Kept.foldl | with_reducible apply Kept.foldl_snd | extract_lets | with_reducible refine Kept.ite ?_ ?_
theorem Kept.egress {a s : State} (h : Kept a s) (x0 : Nat) (x1 : Nat) (x2 : OutFrame) (x3 : Nat) (x4 : State → State) (hg : ∀  t, Kept a t → Kept a (x4 t)) : Kept a (State.egress x0 x1 x2 x3 x4 s) := by
  unfold State.egress
  repeat' first | with_reducible assumption | intro _ | with_reducible apply hg | with_reducible apply Kept.stopViolation | with_reducible apply Kept.violated | with_reducible apply Kept.foldl | with_reducible apply Kept.foldl_snd | extract_lets | with_reducible refine Kept.ite ?_ ?_
theorem Kept.backupFailed {a s : State} (h : Kept a s) : Kept a (State.backupFailed s) := by
  unfold State.backupFailed
  repeat' first | with_reducible assumption | intro _ | with_reducible apply Kept.report | with_reducible apply Kept.setDegrade | with_reducible apply Kept.keepWrite
theorem Kept.applyInBand {a s : State} (h : Kept a s) (x0 : Nat) : Kept a (State.applyInBand x0 s) := by
  unfold State.applyInBand
  repeat' first | with_reducible assumption | intro _ | with_reducible apply Kept.logRec | with_reducible apply Kept.foldl | with_reducible apply Kept.foldl_snd | extract_lets | with_reducible refine Kept.ite ?_ ?_
theorem Kept.restoreEvents {a s : State} (h : Kept a s) (x0 : Nat) (x1 : Option Vault) : Kept a (State.restoreEvents x0 x1 s) := by
  unfold State.restoreEvents
  repeat' first | with_reducible assumption | intro _ | with_reducible apply Kept.foldl | with_reducible apply Kept.foldl_snd | (with_reducible apply Kept.upd; first | with_reducible assumption | with_reducible apply Kept.foldl | with_reducible refine Kept.ite ?_ ?_) | extract_lets | with_reducible refine Kept.ite ?_ ?_ | split | dsimp +zetaDelta only
theorem Kept.mgmtRead {a s : State} (h : Kept a s) (x0 : Nat) (x1 : Nat) (x2 : Nat) : Kept a (State.mgmtRead x0 x1 x2 s) := by
  unfold State.mgmtRead
  repeat' first | with_reducible assumption | intro _ | with_reducible apply Kept.modLink | with_reducible apply Kept.sendPod
theorem Kept.podEntered {a s : State} (h : Kept a s) (x0 : Nat) : Kept a (State.podEntered x0 s) := by
  unfold State.podEntered
  repeat' first | with_reducible assumption | intro _ | with_reducible apply Kept.modPod | with_reducible apply Kept.logRec | with_reducible apply Kept.each | with_reducible apply Kept.modDie | with_reducible apply Kept.countPods | with_reducible apply Kept.mgmtRead | with_reducible apply Kept.report | with_reducible apply Kept.reviewAvailable | with_reducible apply Kept.reviewEngines | with_reducible apply Kept.healthEvent | with_reducible apply Kept.foldl | with_reducible apply Kept.foldl_snd | extract_lets | with_reducible refine Kept.ite ?_ ?_ | split
theorem Kept.findPods {a s : State} (h : Kept a s) : Kept a (State.findPods s) := by
  unfold State.findPods
  repeat' first | with_reducible assumption | intro _ | with_reducible apply Kept.each | with_reducible apply Kept.podEntered | with_reducible apply Kept.failPod | with_reducible apply Kept.modPod | with_reducible apply Kept.countPods
theorem Kept.closeAtMarks {a s : State} (h : Kept a s) : Kept a (State.closeAtMarks s) := by
  unfold State.closeAtMarks
  repeat' first | with_reducible assumption | intro _ | with_reducible apply Kept.each | with_reducible apply Kept.closeBand
theorem Kept.restoreConfig {a s : State} (h : Kept a s) : Kept a (State.restoreConfig s) := by
  unfold State.restoreConfig
  repeat' first | with_reducible assumption | intro _ | with_reducible apply Kept.modHealth | with_reducible apply Kept.report | with_reducible apply Kept.foldl | with_reducible apply Kept.foldl_snd | extract_lets | with_reducible refine Kept.ite ?_ ?_ | split | dsimp +zetaDelta only
theorem Kept.fitZero {a s : State} (h : Kept a s) (x0 : Nat) : Kept a (State.fitZero x0 s) := by
  unfold State.fitZero
  repeat' first | with_reducible assumption | intro _ | with_reducible apply Kept.logInst | with_reducible apply Kept.foldl | with_reducible apply Kept.foldl_snd | extract_lets | with_reducible refine Kept.ite ?_ ?_
theorem Kept.makeZero {a s : State} (h : Kept a s) (x0 : Nat) : Kept a (State.makeZero x0 s) := by
  unfold State.makeZero
  repeat' first | with_reducible assumption | intro _ | with_reducible apply Kept.fitZero | with_reducible apply Kept.logInst | with_reducible apply Kept.modInst | with_reducible apply Kept.foldl | with_reducible apply Kept.foldl_snd | extract_lets | with_reducible refine Kept.ite ?_ ?_
theorem Kept.restoreInsts {a s : State} (h : Kept a s) (x0 : Tbl DefLog) : Kept a (State.restoreInsts x0 s) := by
  unfold State.restoreInsts
  repeat' first | with_reducible assumption | intro _ | with_reducible apply Kept.allPorts | with_reducible apply Kept.makeZero | with_reducible apply Kept.each | with_reducible apply Kept.modInst
theorem Kept.finishStripes {a s : State} (h : Kept a s) : Kept a (State.finishStripes s) := by
  unfold State.finishStripes
  repeat' first | with_reducible assumption | intro _ | with_reducible apply Kept.each | with_reducible apply Kept.closeStripe | with_reducible apply Kept.programEnded | with_reducible apply Kept.settleStripes | with_reducible apply Kept.foldl | with_reducible apply Kept.foldl_snd | (with_reducible apply Kept.upd; first | with_reducible assumption | with_reducible apply Kept.each | with_reducible apply Kept.closeStripe | with_reducible apply Kept.programEnded | with_reducible apply Kept.settleStripes | with_reducible apply Kept.foldl | with_reducible refine Kept.ite ?_ ?_)
theorem Kept.rewriteUnit {a s : State} (h : Kept a s) (x0 : Nat) : Kept a (State.rewriteUnit x0 s) := by
  unfold State.rewriteUnit
  repeat' first | with_reducible assumption | intro _ | with_reducible apply Kept.placeAnywhere | refine Kept.placeAnywhere_eq (h := ?_) (e := by with_reducible assumption) .. | with_reducible apply Kept.logRec | with_reducible apply Kept.deferError | with_reducible apply Kept.markUnit | with_reducible apply Kept.foldl | with_reducible apply Kept.foldl_snd | extract_lets | with_reducible refine Kept.ite ?_ ?_ | split
theorem Kept.restorePayload {a s : State} (h : Kept a s) (x0 : List Nat) (x1 : List Nat) (x2 : List Nat) : Kept a (State.restorePayload x0 x1 x2 s) := by
  unfold State.restorePayload
  repeat' first | with_reducible assumption | intro _ | with_reducible apply Kept.each | with_reducible apply Kept.rewriteUnit | with_reducible apply Kept.deferError | with_reducible apply Kept.markUnit | with_reducible apply Kept.modLine | with_reducible apply Kept.foldl | with_reducible apply Kept.foldl_snd | extract_lets | with_reducible refine Kept.ite ?_ ?_ | split
theorem Kept.lineSealed {a s : State} (h : Kept a s) (x0 : Nat) (x1 : Nat) : Kept a (State.lineSealed x0 x1 s) := by
  unfold State.lineSealed
  repeat' first | with_reducible assumption | intro _ | with_reducible apply Kept.modLine
theorem Kept.keysErased {a s : State} (h : Kept a s) (x0 : W32) : Kept a (State.keysErased x0 s) := by
  unfold State.keysErased
  repeat' first | with_reducible assumption | intro _ | with_reducible apply Kept.modPart
theorem Kept.sealOne {a s : State} (h : Kept a s) (x0 : Nat) : Kept a (State.sealOne x0 s) := by
  unfold State.sealOne
  repeat' first | with_reducible assumption | intro _ | with_reducible apply Kept.complete | with_reducible apply Kept.keysErased | with_reducible apply Kept.foldl | with_reducible apply Kept.foldl_snd | extract_lets | with_reducible refine Kept.ite ?_ ?_ | split
theorem Kept.startChange {a s : State} (h : Kept a s) (x0 : Nat) : Kept a (State.startChange x0 s) := by
  unfold State.startChange
  repeat' first | with_reducible assumption | intro _ | with_reducible apply Kept.complete | with_reducible apply Kept.modCtx | with_reducible apply Kept.modInst | with_reducible apply Kept.foldl | with_reducible apply Kept.foldl_snd | extract_lets | with_reducible refine Kept.ite ?_ ?_ | split
theorem Kept.nextChange {a s : State} (h : Kept a s) (x0 : Nat) : Kept a (State.nextChange x0 s) := by
  unfold State.nextChange
  repeat' first | with_reducible assumption | intro _ | with_reducible apply Kept.startChange | with_reducible apply Kept.modInst | with_reducible apply Kept.foldl | with_reducible apply Kept.foldl_snd | extract_lets | with_reducible refine Kept.ite ?_ ?_ | split
theorem Kept.completeSealed {a s : State} (h : Kept a s) (x0 : Nat) : Kept a (State.completeSealed x0 s) := by
  unfold State.completeSealed
  repeat' first | with_reducible assumption | intro _ | with_reducible apply Kept.sealOne | with_reducible apply Kept.nextChange | with_reducible apply Kept.each | with_reducible apply Kept.foldl | with_reducible apply Kept.foldl_snd | extract_lets | with_reducible refine Kept.ite ?_ ?_ | split
theorem Kept.reviewCredit {a s : State} (h : Kept a s) (x0 : Nat) : Kept a (State.reviewCredit x0 s) := by
  unfold State.reviewCredit
  repeat' first | with_reducible assumption | intro _ | with_reducible apply Kept.modGroup | with_reducible apply Kept.foldl | with_reducible apply Kept.foldl_snd | extract_lets | with_reducible refine Kept.ite ?_ ?_
theorem Kept.enterProtect {a s : State} (h : Kept a s) : Kept a (State.enterProtect s) := by
  unfold State.enterProtect
  repeat' first | with_reducible assumption | intro _ | with_reducible apply Kept.setDegrade | with_reducible apply Kept.modHealth | with_reducible apply Kept.postSmart | with_reducible apply Kept.healthEvent | with_reducible apply Kept.each | with_reducible apply Kept.complete | with_reducible apply Kept.modCache | with_reducible apply Kept.closeStripe | with_reducible apply Kept.foldl | with_reducible apply Kept.foldl_snd | extract_lets | with_reducible refine Kept.ite ?_ ?_ | split
theorem Kept.leaveProtect {a s : State} (h : Kept a s) : Kept a (State.leaveProtect s) := by
  unfold State.leaveProtect
  repeat' first | with_reducible assumption | intro _ | with_reducible apply Kept.postSmart | with_reducible apply Kept.healthEvent | with_reducible apply Kept.setDegrade | with_reducible apply Kept.modHealth | with_reducible apply Kept.foldl | with_reducible apply Kept.foldl_snd | extract_lets | with_reducible refine Kept.ite ?_ ?_
theorem Kept.setClosed {a s : State} (h : Kept a s) (x0 : Nat) (x1 : Bool) : Kept a (State.setClosed x0 x1 s) := by
  unfold State.setClosed
  repeat' first | with_reducible assumption | intro _ | with_reducible apply Kept.healthEvent | with_reducible apply Kept.modGroup | with_reducible apply Kept.enterProtect | with_reducible apply Kept.leaveProtect | with_reducible apply Kept.foldl | with_reducible apply Kept.foldl_snd | extract_lets | with_reducible refine Kept.ite ?_ ?_
theorem Kept.dropReloc {a s : State} (h : Kept a s) (x0 : Nat) (x1 : Nat) : Kept a (State.dropReloc x0 x1 s) := by
  unfold State.dropReloc
  repeat' first | with_reducible assumption | intro _ | with_reducible apply Kept.modHealth
theorem Kept.stepRelocs {a s : State} (h : Kept a s) : Kept a (State.stepRelocs s) := by
  unfold State.stepRelocs
  repeat' first | with_reducible assumption | intro _ | with_reducible apply Kept.modReloc | with_reducible apply Kept.logBand | with_reducible apply Kept.queueErase | with_reducible apply Kept.dropReloc | with_reducible apply Kept.foldl | with_reducible apply Kept.foldl_snd | extract_lets | with_reducible refine Kept.ite ?_ ?_
theorem Kept.commitSeal {a s : State} (h : Kept a s) : Kept a (State.commitSeal s) := by
  unfold State.commitSeal
  split
  · exact h
  · rename_i rs hs
    extract_lets s1 e s2 s3 s4 evs src s5 s6 s7
    have h2 : Kept a s2 := h.sealedIn hs _ (fun _ => rfl) (fun _ => rfl)
    have h3 : Kept a s3 := Kept.foldl _ _ (fun t r ht => by split; exacts [ht.lineSealed .., ht]) h2
    have h4 : Kept a s4 := h3.modJrn _ (fun _ => rfl) (fun _ => rfl)
    have h5 : Kept a s5 := h4.upd ..
    have h6 : Kept a s6 := h5.each _ _ (fun _ _ ht => ht.completeSealed _)
    have h7 : Kept a s7 := h6.each _ _ (fun _ _ ht => Kept.ite (fun _ => (ht.reviewCredit _).setClosed ..) (fun _ => ht.reviewCredit _))
    exact h7.stepRelocs.reviewSpares.retry
theorem Kept.sealNow {a s : State} (h : Kept a s) : Kept a (State.sealNow s) := by
  unfold State.sealNow
  repeat' first | with_reducible assumption | intro _ | with_reducible apply Kept.commitSeal | with_reducible apply Kept.closeEpoch
theorem Kept.restoreKeys {a s : State} (h : Kept a s) : Kept a (State.restoreKeys s) := by
  unfold State.restoreKeys
  repeat' first | with_reducible assumption | intro _ | with_reducible apply Kept.modPart
theorem Kept.recover {a s : State} (h : Kept a s) (x0 : Nat) (x1 : RecoveryFound) : Kept a (State.recover x0 x1 s) := by
  unfold State.recover
  extract_lets vault badSegs before s1 s2 s3 s4 s5 s6 s7 s8 s9 logs s10 s11 s12 s13
  clear_value vault logs before
  have h1 : Kept a s1 := h.modJrn _ (fun _ => rfl) (fun _ => rfl)
  have h2 : Kept a s2 := Kept.ite (fun _ => (h1.applyInBand _).backupFailed) (fun _ => h1)
  have h3 : Kept a s3 := by dsimp only [s3]; split; exacts [Kept.foldl _ _ (fun _ _ ht => ht.logRec _) h2, h2]
  have h4 : Kept a s4 := Kept.ite (fun _ => (h3.applyInBand _).backupFailed) (fun _ => h3)
  have h6 : Kept a s6 := Kept.ite (fun _ => h4.restoreEvents ..) (fun _ => (h4.restoreEvents ..).upd ..)
  have h9 : Kept a s9 := h6.findPods.closeAtMarks.restoreConfig
  have h10 : Kept a s10 := h9.restoreInsts _
  have h11 : Kept a s11 := by dsimp only [s11]; split; exacts [(h10.restorePayload ..).finishStripes, h10]
  have h12 : Kept a s12 := h11.sealNow
  have h13 : Kept a s13 := h12.each _ _ (fun _ _ ht => ht.resumeRun _)
  exact h13.restoreKeys.newLayout.reviewAvailable
theorem Kept.admitCmd {a s : State} (h : Kept a s) (x0 : Ctx) : Kept a (State.admitCmd x0 s) := by
  unfold State.admitCmd
  repeat' first | with_reducible assumption | intro _ | with_reducible apply Kept.modInst | with_reducible apply Kept.modPort | with_reducible apply Kept.modCtx
theorem Kept.admitWhile {a s : State} (h : Kept a s) (x0 : Nat) (x1 : Nat) : Kept a (State.admitWhile x0 x1 s).2 := by
  induction x1 generalizing s with
  | zero => exact h
  | succ f ih =>
    unfold State.admitWhile
    split
    · exact h
    · dsimp only
      split
      · exact ih ((h.admitCmd _).modInst _ _)
      · exact h
theorem Kept.admitWhile_eq {a s : State} (h : Kept a s) (x0 : Nat) (x1 : Nat) {r t} (e : State.admitWhile x0 x1 s = (r, t)) : Kept a t := by
  have := Kept.admitWhile h x0 x1; rw [e] at this; exact this
theorem Kept.dropChange {a s : State} (h : Kept a s) (x0 : Nat) : Kept a (State.dropChange x0 s) := by
  unfold State.dropChange
  repeat' first | with_reducible assumption | intro _ | with_reducible apply Kept.complete | with_reducible apply Kept.modInst | with_reducible apply Kept.foldl | with_reducible apply Kept.foldl_snd | extract_lets | with_reducible refine Kept.ite ?_ ?_ | split
theorem Kept.notVerified {a s : State} (h : Kept a s) (x0 : Nat) (x1 : Option Verify) : Kept a (State.notVerified x0 x1 s) := by
  unfold State.notVerified
  repeat' first | with_reducible assumption | intro _ | with_reducible apply Kept.keepWrite | with_reducible apply Kept.modFlash | with_reducible apply Kept.refuseUpdate | with_reducible apply Kept.foldl | with_reducible apply Kept.foldl_snd | extract_lets | with_reducible refine Kept.ite ?_ ?_ | split
theorem Kept.loadOffsets {a s : State} (h : Kept a s) (x0 : Nat) : Kept a (State.loadOffsets x0 s) := by
  unfold State.loadOffsets
  repeat' first | with_reducible assumption | intro _ | with_reducible apply Kept.each | with_reducible apply Kept.sendOffsets
theorem Kept.hello {a s : State} (h : Kept a s) (x0 : Nat) (x1 : BitVec 8) (x2 : Nat) (x3 : Nat) (x4 : W32) : Kept a (State.hello x0 x1 x2 x3 x4 s) := by
  unfold State.hello
  repeat' first | with_reducible assumption | intro _ | with_reducible apply Kept.report | with_reducible apply Kept.modLink | with_reducible apply Kept.modPod | with_reducible apply Kept.podOff | with_reducible apply Kept.sendPod | with_reducible apply Kept.loadOffsets | with_reducible apply Kept.podEntered | with_reducible apply Kept.foldl | with_reducible apply Kept.foldl_snd | extract_lets | with_reducible refine Kept.ite ?_ ?_
theorem Kept.movePointer {a s : State} (h : Kept a s) (x0 : Nat) (x1 : Nat) (x2 : Nat) : Kept a (State.movePointer x0 x1 x2 s) := by
  unfold State.movePointer
  repeat' first | with_reducible assumption | intro _ | with_reducible apply Kept.modCache
theorem Kept.getLog {a s : State} (h : Kept a s) (x0 : Nat) (x1 : Nat) (x2 : Ctx → State → State) (hg : ∀ y0 t, Kept a t → Kept a (x2 y0 t)) : Kept a (State.getLog x0 x1 x2 s) := by
  unfold State.getLog
  repeat' first | with_reducible assumption | intro _ | with_reducible apply hg | with_reducible apply Kept.admin | with_reducible apply Kept.foldl | with_reducible apply Kept.foldl_snd | extract_lets | with_reducible refine Kept.ite ?_ ?_
theorem Kept.sendPage {a s : State} (h : Kept a s) (x0 : Ctx) (x1 : Layout) : Kept a (State.sendPage x0 x1 s) := by
  unfold State.sendPage
  repeat' first | with_reducible assumption | intro _ | with_reducible apply Kept.complete | with_reducible apply Kept.drew | with_reducible apply Kept.toHost
theorem slotChecks_kept {a s : State} (h : Kept a s) (x0 : Nat) (x1 : Bool) (x2 : Ctx → Nat → State → State) (x3 : Ctx) (hg : ∀ y0 y1 t, Kept a t → Kept a (x2 y0 y1 t)) : Kept a (slotChecks x0 x1 x2 x3 s) := by
  unfold slotChecks
  repeat' first | with_reducible assumption | intro _ | with_reducible apply hg | with_reducible apply Kept.complete | with_reducible apply Kept.foldl | with_reducible apply Kept.foldl_snd | extract_lets | with_reducible refine Kept.ite ?_ ?_
theorem Kept.deleteSq {a s : State} (h : Kept a s) (x0 : Nat) (x1 : Nat) (x2 : Sqe) : Kept a (State.deleteSq x0 x1 x2 s) := by
  unfold State.deleteSq
  repeat' first | with_reducible assumption | intro _ | with_reducible apply Kept.complete | with_reducible apply Kept.modInst | with_reducible apply Kept.modCtx | with_reducible apply Kept.settleDeletes | with_reducible apply Kept.retry | with_reducible apply Kept.each | with_reducible apply Kept.endCaught | with_reducible apply Kept.foldl | with_reducible apply Kept.foldl_snd | extract_lets | with_reducible refine Kept.ite ?_ ?_
theorem Kept.createSq {a s : State} (h : Kept a s) (x0 : Nat) (x1 : Nat) (x2 : Sqe) : Kept a (State.createSq x0 x1 x2 s) := by
  unfold State.createSq
  repeat' first | with_reducible assumption | intro _ | with_reducible apply Kept.complete | with_reducible apply Kept.modInst | with_reducible apply Kept.foldl | with_reducible apply Kept.foldl_snd | extract_lets | with_reducible refine Kept.ite ?_ ?_ | split
theorem Kept.deleteCq {a s : State} (h : Kept a s) (x0 : Nat) (x1 : Nat) (x2 : Sqe) : Kept a (State.deleteCq x0 x1 x2 s) := by
  unfold State.deleteCq
  repeat' first | with_reducible assumption | intro _ | with_reducible apply Kept.complete | with_reducible apply Kept.modInst | with_reducible apply Kept.foldl | with_reducible apply Kept.foldl_snd | extract_lets | with_reducible refine Kept.ite ?_ ?_
theorem Kept.createCq {a s : State} (h : Kept a s) (x0 : Nat) (x1 : Nat) (x2 : Sqe) : Kept a (State.createCq x0 x1 x2 s) := by
  unfold State.createCq
  repeat' first | with_reducible assumption | intro _ | with_reducible apply Kept.complete | with_reducible apply Kept.modInst | with_reducible apply Kept.foldl | with_reducible apply Kept.foldl_snd | extract_lets | with_reducible refine Kept.ite ?_ ?_ | split
theorem Kept.proxyIdentify {a s : State} (h : Kept a s) (x0 : Ctx) (x1 : Nat) (x2 : Sqe) : Kept a (State.proxyIdentify x0 x1 x2 s) := by
  unfold State.proxyIdentify
  repeat' first | with_reducible assumption | intro _ | with_reducible apply Kept.complete | with_reducible apply Kept.toHost | with_reducible apply Kept.foldl | with_reducible apply Kept.foldl_snd | extract_lets | with_reducible refine Kept.ite ?_ ?_ | split
theorem Kept.abort {a s : State} (h : Kept a s) (x0 : Nat) (x1 : Nat) (x2 : Sqe) : Kept a (State.abort x0 x1 x2 s) := by
  unfold State.abort
  repeat' first | with_reducible assumption | intro _ | with_reducible apply Kept.complete | with_reducible apply Kept.retry | with_reducible apply Kept.endCaught | with_reducible apply Kept.foldl | with_reducible apply Kept.foldl_snd | extract_lets | with_reducible refine Kept.ite ?_ ?_ | split
theorem Kept.proxyAbort {a s : State} (h : Kept a s) (x0 : Ctx) (x1 : Sqe) : Kept a (State.proxyAbort x0 x1 s) := by
  unfold State.proxyAbort
  repeat' first | with_reducible assumption | intro _ | with_reducible apply Kept.complete | with_reducible apply Kept.abort | with_reducible apply Kept.foldl | with_reducible apply Kept.foldl_snd | extract_lets | with_reducible refine Kept.ite ?_ ?_
theorem Kept.setVector {a s : State} (h : Kept a s) (x0 : Nat) (x1 : W32) : Kept a (State.setVector x0 x1 s) := by
  unfold State.setVector
  repeat' first | with_reducible assumption | intro _ | with_reducible apply Kept.modInst
theorem Kept.proxySet {a s : State} (h : Kept a s) (x0 : Ctx) (x1 : Nat) (x2 : Sqe) : Kept a (State.proxySet x0 x1 x2 s) := by
  unfold State.proxySet
  repeat' first | with_reducible assumption | intro _ | with_reducible apply Kept.complete | with_reducible apply Kept.setCoalesce | with_reducible apply Kept.setVector | with_reducible apply Kept.foldl | with_reducible apply Kept.foldl_snd | extract_lets | with_reducible refine Kept.ite ?_ ?_
theorem Kept.proxyGet {a s : State} (h : Kept a s) (x0 : Ctx) (x1 : Nat) (x2 : Sqe) : Kept a (State.proxyGet x0 x1 x2 s) := by
  unfold State.proxyGet
  repeat' first | with_reducible assumption | intro _ | with_reducible apply Kept.complete | with_reducible apply Kept.foldl | with_reducible apply Kept.foldl_snd | extract_lets | with_reducible refine Kept.ite ?_ ?_
theorem Kept.countFec {a s : State} (h : Kept a s) (x0 : Nat) (x1 : LinkFrame) : Kept a (State.countFec x0 x1 s) := by
  unfold State.countFec
  repeat' first | with_reducible assumption | intro _ | with_reducible apply Kept.modLink
theorem Kept.recGo {a s : State} (h : Kept a s) (l fuel step : Nat) : Kept a (State.recGo l fuel step s) := by
  induction fuel generalizing step with
  | zero => exact h.linkDead _
  | succ f ih => exact Kept.ite (fun _ => h.linkDead _) (fun _ => Kept.ite (fun _ => ih _) (fun _ => h.modLink _ _))

theorem Kept.startRecovery {a s : State} (h : Kept a s) (x0 : Nat) (x1 : Nat) : Kept a (State.startRecovery x0 x1 s) := by
  unfold State.startRecovery
  repeat' first | with_reducible assumption | intro _ | with_reducible apply Kept.recGo | with_reducible apply Kept.modLink | with_reducible apply Kept.recGo | with_reducible apply Kept.foldl | with_reducible apply Kept.foldl_snd | extract_lets | with_reducible refine Kept.ite ?_ ?_
theorem Kept.violRecovery {a s : State} (h : Kept a s) (x0 : Nat) : Kept a (State.violRecovery x0 s) := by
  unfold State.violRecovery
  repeat' first | with_reducible assumption | intro _ | with_reducible apply Kept.startRecovery | with_reducible apply Kept.modLink | with_reducible apply Kept.foldl | with_reducible apply Kept.foldl_snd | extract_lets | with_reducible refine Kept.ite ?_ ?_
theorem Kept.replay {a s : State} (h : Kept a s) (x0 : Nat) : Kept a (State.replay x0 s) := by
  unfold State.replay
  repeat' first | with_reducible assumption | intro _ | with_reducible apply Kept.modLink | with_reducible apply Kept.violRecovery | with_reducible apply Kept.foldl | with_reducible apply Kept.foldl_snd | extract_lets | with_reducible refine Kept.ite ?_ ?_
theorem Kept.ackFrame {a s : State} (h : Kept a s) (x0 : Nat) (x1 : LinkFrame) : Kept a (State.ackFrame x0 x1 s) := by
  unfold State.ackFrame
  repeat' first | with_reducible assumption | intro _ | with_reducible apply Kept.modLink | with_reducible apply Kept.podViolation | with_reducible apply Kept.replay | with_reducible apply Kept.foldl | with_reducible apply Kept.foldl_snd | extract_lets | with_reducible refine Kept.ite ?_ ?_
theorem Kept.reviewLife {a s : State} (h : Kept a s) : Kept a (State.reviewLife s) := by
  unfold State.reviewLife
  repeat' first | with_reducible assumption | intro _ | with_reducible apply Kept.modHealth | with_reducible apply Kept.healthEvent | with_reducible apply Kept.postSmart | with_reducible apply Kept.foldl | with_reducible apply Kept.foldl_snd | extract_lets | with_reducible refine Kept.ite ?_ ?_
theorem Kept.bandErased {a s : State} (h : Kept a s) (x0 : Nat) (x1 : Nat) : Kept a (State.bandErased x0 x1 s) := by
  unfold State.bandErased
  repeat' first | with_reducible assumption | intro _ | with_reducible apply Kept.logBand | with_reducible apply Kept.modCache | with_reducible apply Kept.modGroup | with_reducible apply Kept.modPart | with_reducible apply Kept.each | with_reducible apply Kept.completeSealed | with_reducible apply Kept.erasePendingIn | with_reducible apply Kept.modReloc | with_reducible apply Kept.eraseOwed | with_reducible apply Kept.foldl | with_reducible apply Kept.foldl_snd | extract_lets | with_reducible refine Kept.ite ?_ ?_
theorem Kept.retireBlock {a s : State} (h : Kept a s) (x0 : Nat) (x1 : Nat) (x2 : Nat) : Kept a (State.retireBlock x0 x1 x2 s) := by
  unfold State.retireBlock
  repeat' first | with_reducible assumption | intro _ | with_reducible apply Kept.modDie | with_reducible apply Kept.modHealth | with_reducible apply Kept.logBand | with_reducible apply Kept.setDegrade | with_reducible apply Kept.healthEvent | with_reducible apply Kept.postSmart | with_reducible apply Kept.replaceDie | with_reducible apply Kept.reviewAvailable | with_reducible apply Kept.foldl | with_reducible apply Kept.foldl_snd | extract_lets | with_reducible refine Kept.ite ?_ ?_ | split
theorem Kept.eraseEnded {a s : State} (h : Kept a s) (x0 : Op) (x1 : Bool) : Kept a (State.eraseEnded x0 x1 s) := by
  unfold State.eraseEnded
  repeat' first | with_reducible assumption | intro _ | with_reducible apply Kept.dropOp | with_reducible apply Kept.modDie | with_reducible apply Kept.reviewLife | with_reducible apply Kept.bandErased | with_reducible apply Kept.retireBlock | with_reducible apply Kept.addOp | with_reducible apply Kept.foldl | with_reducible apply Kept.foldl_snd | (with_reducible apply Kept.upd; first | with_reducible assumption | with_reducible apply Kept.dropOp | with_reducible apply Kept.modDie | with_reducible apply Kept.reviewLife | with_reducible apply Kept.bandErased | with_reducible apply Kept.retireBlock | with_reducible apply Kept.addOp | with_reducible apply Kept.foldl | with_reducible refine Kept.ite ?_ ?_) | extract_lets | with_reducible refine Kept.ite ?_ ?_ | split
theorem Kept.eraseLater {a s : State} (h : Kept a s) (x0 : Op) : Kept a (State.eraseLater x0 s) := by
  unfold State.eraseLater
  repeat' first | with_reducible assumption | intro _ | with_reducible apply Kept.addOp | with_reducible apply Kept.dropOp
theorem Kept.done {a s : State} (h : Kept a s) (x0 : Op) (x1 : Nat) (x2 : Nat) : Kept a (State.done x0 x1 x2 s) := by
  unfold State.done
  repeat' first | with_reducible assumption | intro _ | with_reducible apply Kept.modDie | with_reducible apply Kept.dropOp | with_reducible apply Kept.modOp | with_reducible apply Kept.allToStep4 | with_reducible apply Kept.suspectDie | with_reducible apply Kept.programEnded | with_reducible apply Kept.eraseEnded | with_reducible apply Kept.eraseLater | with_reducible apply Kept.foldl | with_reducible apply Kept.foldl_snd | extract_lets | with_reducible refine Kept.ite ?_ ?_ | split
theorem Kept.dieReturns {a s : State} (h : Kept a s) (x0 : Nat) (x1 : Nat) : Kept a (State.dieReturns x0 x1 s) := by
  unfold State.dieReturns
  repeat' first | with_reducible assumption | intro _ | with_reducible apply Kept.report | with_reducible apply Kept.modDie
theorem Kept.podSensorFailed {a s : State} (h : Kept a s) (x0 : Nat) : Kept a (State.podSensorFailed x0 s) := by
  unfold State.podSensorFailed
  repeat' first | with_reducible assumption | intro _ | with_reducible apply Kept.modLink | with_reducible apply Kept.modPw | with_reducible apply Kept.report | with_reducible apply Kept.modChanter | with_reducible apply Kept.foldl | with_reducible apply Kept.foldl_snd | extract_lets | with_reducible refine Kept.ite ?_ ?_
theorem Kept.podMsg {a s : State} (h : Kept a s) (x0 : Nat) (x1 : PodMsg) : Kept a (State.podMsg x0 x1 s) := by
  unfold State.podMsg
  repeat' first | with_reducible assumption | intro _ | with_reducible apply Kept.podViolation | with_reducible apply Kept.done | with_reducible apply Kept.modOp | with_reducible apply Kept.modChanter | with_reducible apply Kept.modDie | with_reducible apply Kept.dieReturns | with_reducible apply Kept.sendPod | with_reducible apply Kept.failDie | with_reducible apply Kept.modLink | with_reducible apply Kept.modPod | with_reducible apply Kept.podSensorFailed | with_reducible apply Kept.suspectDie | with_reducible apply Kept.report | with_reducible apply Kept.linkDead | with_reducible apply Kept.hello | with_reducible apply Kept.foldl | with_reducible apply Kept.foldl_snd | extract_lets | with_reducible refine Kept.ite ?_ ?_ | split
theorem Kept.readToken {a s : State} (h : Kept a s) (x0 : Nat) : Kept a (State.readToken x0 s) := by
  unfold State.readToken
  repeat' first | with_reducible assumption | intro _ | with_reducible apply Kept.modGroup
theorem Kept.issue {a s : State} (h : Kept a s) (x0 : Op) : Kept a (State.issue x0 s) := by
  unfold State.issue
  repeat' first | with_reducible assumption | intro _ | with_reducible apply Kept.modLink | with_reducible apply Kept.modOp | with_reducible apply Kept.modDie | with_reducible apply Kept.readToken | with_reducible apply Kept.modChanter | with_reducible apply Kept.sendPod | with_reducible apply Kept.foldl | with_reducible apply Kept.foldl_snd | extract_lets | with_reducible refine Kept.ite ?_ ?_ | split
theorem Kept.readAgain {a s : State} (h : Kept a s) (x0 : Op) : Kept a (State.readAgain x0 s) := by
  unfold State.readAgain
  repeat' first | with_reducible assumption | intro _ | with_reducible apply Kept.modOp | with_reducible apply Kept.issue
theorem Kept.unitsIn_ {a s : State} (h : Kept a s) (x0 : Op) : Kept a (State.unitsIn_ x0 s) := by
  unfold State.unitsIn_
  repeat' first | with_reducible assumption | intro _ | with_reducible apply Kept.dropOp | with_reducible apply Kept.modOp | with_reducible apply Kept.toStep4 | with_reducible apply Kept.foldl | with_reducible apply Kept.foldl_snd | extract_lets | with_reducible refine Kept.ite ?_ ?_ | split
theorem Kept.podUnit {a s : State} (h : Kept a s) (x0 : Nat) (x1 : PodUnit) : Kept a (State.podUnit x0 x1 s) := by
  unfold State.podUnit
  repeat' first | with_reducible assumption | intro _ | with_reducible apply Kept.readAgain | with_reducible apply Kept.podViolation | with_reducible apply Kept.modLink | with_reducible apply Kept.modDie | with_reducible apply Kept.modOp | with_reducible apply Kept.unitsIn_ | with_reducible apply Kept.foldl | with_reducible apply Kept.foldl_snd | extract_lets | with_reducible refine Kept.ite ?_ ?_ | split | dsimp +zetaDelta only
theorem Kept.fenceReads {a s : State} (h : Kept a s) (x0 : Nat) : Kept a (State.fenceReads x0 s) := by
  unfold State.fenceReads
  repeat' first | with_reducible assumption | intro _ | with_reducible apply Kept.emit | with_reducible apply Kept.modChan | with_reducible apply Kept.foldl
theorem Kept.moverCommand {a s : State} (h : Kept a s) (x0 : Nat) (x1 : Bool) (x2 : Nat) (x3 : Nat) (x4 : List Byte) : Kept a (State.moverCommand x0 x1 x2 x3 x4 s) := by
  unfold State.moverCommand
  repeat' first | with_reducible assumption | intro _ | with_reducible apply Kept.endDesc | with_reducible apply Kept.modChan | with_reducible apply Kept.foldl | with_reducible apply Kept.foldl_snd | (with_reducible apply Kept.upd; first | with_reducible assumption | with_reducible apply Kept.endDesc | with_reducible apply Kept.modChan | with_reducible apply Kept.foldl | with_reducible refine Kept.ite ?_ ?_) | extract_lets | with_reducible refine Kept.ite ?_ ?_ | split
theorem Kept.beginDesc {a s : State} (h : Kept a s) (x0 : Nat) : Kept a (State.beginDesc x0 s) := by
  unfold State.beginDesc
  repeat' first | with_reducible assumption | intro _ | with_reducible apply Kept.modChan | with_reducible apply Kept.chanViolation | with_reducible apply Kept.endDesc | with_reducible apply Kept.fenceReads | with_reducible apply Kept.moverCommand | with_reducible apply Kept.foldl | with_reducible apply Kept.foldl_snd | extract_lets | with_reducible refine Kept.ite ?_ ?_
theorem Kept.takeDesc {a s : State} (h : Kept a s) (x0 : Nat) (x1 : Nat) : Kept a (State.takeDesc x0 x1 s) := by
  unfold State.takeDesc
  repeat' first | with_reducible assumption | intro _ | with_reducible apply Kept.haltChan | with_reducible apply Kept.checkOwned | with_reducible apply Kept.fenceReads | with_reducible apply Kept.modChan | with_reducible apply Kept.beginDesc | with_reducible apply Kept.foldl | with_reducible apply Kept.foldl_snd | extract_lets | with_reducible refine Kept.ite ?_ ?_
theorem Kept.arrive {a s : State} (h : Kept a s) (x0 : Nat) : Kept a (State.arrive x0 s) := by
  unfold State.arrive
  repeat' first | with_reducible assumption | intro _ | with_reducible apply Kept.modCtx | with_reducible apply Kept.tryWrite | with_reducible apply Kept.fillUnit | with_reducible apply Kept.foldl | with_reducible apply Kept.foldl_snd | extract_lets | with_reducible refine Kept.ite ?_ ?_ | split
theorem Kept.checkDrain {a s : State} (h : Kept a s) (x0 : Nat) : Kept a (State.checkDrain x0 s) := by
  unfold State.checkDrain
  repeat' first | with_reducible assumption | intro _ | with_reducible apply Kept.endDrain | with_reducible apply Kept.foldl | with_reducible apply Kept.foldl_snd | extract_lets | with_reducible refine Kept.ite ?_ ?_
theorem Kept.xformDone {a s : State} (h : Kept a s) (x0 : Nat) (x1 : StopCmd) : Kept a (State.xformDone x0 x1 s) := by
  unfold State.xformDone
  repeat' first | with_reducible assumption | intro _ | with_reducible apply Kept.endTag | with_reducible apply Kept.toTenant | with_reducible apply Kept.complete | with_reducible apply Kept.arrive | with_reducible apply Kept.modCtx | with_reducible apply Kept.checkDrain | with_reducible apply Kept.foldl | with_reducible apply Kept.foldl_snd | extract_lets | with_reducible refine Kept.ite ?_ ?_ | split
theorem Kept.attachment {a s : State} (h : Kept a s) (x0 : Nat) (x1 : Nat) (x2 : Ctx → Ns → List Nat → State → State) (hg : ∀ y0 y1 y2 t, Kept a t → Kept a (x2 y0 y1 y2 t)) : Kept a (State.attachment x0 x1 x2 s) := by
  unfold State.attachment
  repeat' first | with_reducible assumption | intro _ | with_reducible apply hg | with_reducible apply Kept.adminWait | with_reducible apply Kept.completeBad | with_reducible apply Kept.complete | with_reducible apply Kept.foldl | with_reducible apply Kept.foldl_snd | extract_lets | with_reducible refine Kept.ite ?_ ?_ | split
theorem Kept.idle {a s : State} (h : Kept a s) : Kept a (State.idle s) := h.upd ..
theorem Kept.stage {a s : State} (h : Kept a s) (x0 : Nat) (x1 : Nat) : Kept a (State.stage x0 x1 s) := by
  unfold State.stage
  repeat' first | with_reducible assumption | intro _ | with_reducible apply Kept.modCache | with_reducible apply Kept.foldl | with_reducible apply Kept.foldl_snd | extract_lets | with_reducible refine Kept.ite ?_ ?_ | split
theorem Kept.spaceFor {a s : State} (h : Kept a s) (x0 : Nat) (x1 : Nat) (x2 : Bool) : ∀ t, State.spaceFor x0 x1 x2 s = some t → Kept a t := by
  unfold State.spaceFor
  intro t ht
  split at ht
  · split at ht
    · cases ht; exact h
    · cases ht
  · split at ht
    · cases ht; exact h
    · split at ht
      · cases ht; exact h.stage ..
      · cases ht
theorem Kept.spaceFor_eq {a s : State} (h : Kept a s) (x0 : Nat) (x1 : Nat) (x2 : Bool) {t} (e : State.spaceFor x0 x1 x2 s = some t) : Kept a t := Kept.spaceFor h x0 x1 x2 _ e
theorem Kept.grantUnit {a s : State} (h : Kept a s) (x0 : Nat) (x1 : Nat) (x2 : Bool) : ∀ t, State.grantUnit x0 x1 x2 s = some t → Kept a t := by
  intro t ht
  unfold State.grantUnit at ht
  split at ht; · cases ht
  split at ht; · cases ht
  dsimp only at ht
  split at ht; · cases ht
  split at ht; · cases ht
  rename_i m u hp
  split at ht
  · cases ht
  · rename_i w hw
    injection ht with ht
    subst ht
    refine Kept.modCtx ?_ _ _
    refine Kept.ite (fun _ => Kept.heatUp ?_ _ _) (fun _ => ?_)
    all_goals refine Kept.ite (fun _ => Kept.modGroup ?_ _ _) (fun _ => ?_)
    all_goals exact ((Kept.placeUnit_eq (h := h) (e := hp) ..).spaceFor_eq (e := hw) ..).movePointer _ _ _
theorem Kept.grantUnit_eq {a s : State} (h : Kept a s) (x0 : Nat) (x1 : Nat) (x2 : Bool) {t} (e : State.grantUnit x0 x1 x2 s = some t) : Kept a t := Kept.grantUnit h x0 x1 x2 _ e
theorem Kept.finishRaise {a s : State} (h : Kept a s) : Kept a (State.finishRaise s) := by
  unfold State.finishRaise
  extract_lets s1 two src s2
  have h1 : Kept a s1 := h.modFlash _
  have h2 : Kept a s2 := h1.fuse rfl rfl rfl rfl (fun hu => ⟨⟨List.prefix_rfl, BitVec.and_self, BitVec.and_self, by dsimp only [s2]; split <;> omega, Nat.le_refl _, by intro e; simp [s2, e], by intro e; simp [s2, e]⟩, hu⟩)
  exact ((h2.keepWrite _).modPart _).report ..
theorem Kept.openAll {a s : State} (h : Kept a s) : Kept a (State.openAll s) := by
  unfold State.openAll
  repeat' first | with_reducible assumption | intro _ | with_reducible apply Kept.each | with_reducible apply Kept.needStripe | with_reducible apply Kept.foldl
theorem Kept.armVault {a s : State} (h : Kept a s) : Kept a (State.armVault s) := by
  unfold State.armVault
  repeat' first | with_reducible assumption | intro _ | with_reducible apply Kept.modCache
theorem Kept.bayStatus {a s : State} (h : Kept a s) (x0 : Nat) (x1 : BayStatus) : Kept a (State.bayStatus x0 x1 s) := by
  unfold State.bayStatus
  repeat' first | with_reducible assumption | intro _ | with_reducible apply Kept.linkDead | with_reducible apply Kept.retry | with_reducible apply Kept.failPod | with_reducible apply Kept.foldl | with_reducible apply Kept.foldl_snd | extract_lets | with_reducible refine Kept.ite ?_ ?_
theorem Kept.strayDoorbell {a s : State} (h : Kept a s) (x0 : Nat) : Kept a (State.strayDoorbell x0 s) := by
  unfold State.strayDoorbell
  repeat' first | with_reducible assumption | intro _ | with_reducible apply Kept.modPort | with_reducible apply Kept.postEvent | with_reducible apply Kept.foldl | with_reducible apply Kept.foldl_snd | extract_lets | with_reducible refine Kept.ite ?_ ?_
theorem Kept.violation {a s : State} (h : Kept a s) (x0 : Nat) : Kept a (State.violation x0 s) := by
  unfold State.violation
  repeat' first | with_reducible assumption | intro _ | with_reducible apply Kept.modInst | with_reducible apply Kept.isolate | with_reducible apply Kept.foldl | with_reducible apply Kept.foldl_snd | extract_lets | with_reducible refine Kept.ite ?_ ?_
theorem Kept.badDoorbell {a s : State} (h : Kept a s) (x0 : Nat) (x1 : Nat) (x2 : Bool) (x3 : Option Nat) : Kept a (State.badDoorbell x0 x1 x2 x3 s) := by
  unfold State.badDoorbell
  repeat' first | with_reducible assumption | intro _ | with_reducible apply Kept.postEvent | with_reducible apply Kept.logError | with_reducible apply Kept.violation | with_reducible apply Kept.foldl | with_reducible apply Kept.foldl_snd | extract_lets | with_reducible refine Kept.ite ?_ ?_ | split | dsimp +zetaDelta only
theorem Kept.doorbell {a s : State} (h : Kept a s) (x0 : Nat) (x1 : DoorbellAt) (x2 : Bool) (x3 : Nat → Nat → Bool) (x4 : Nat → Nat → State → State) (hg : ∀ y0 y1 t, Kept a t → Kept a (x4 y0 y1 t)) : Kept a (State.doorbell x0 x1 x2 x3 x4 s) := by
  unfold State.doorbell
  repeat' first | with_reducible assumption | intro _ | with_reducible apply hg | with_reducible apply Kept.strayDoorbell | with_reducible apply Kept.badDoorbell | with_reducible apply Kept.foldl | with_reducible apply Kept.foldl_snd | extract_lets | with_reducible refine Kept.ite ?_ ?_ | split
theorem Kept.useImage {a s : State} (h : Kept a s) (x0 : VoicingImage) : Kept a (State.useImage x0 s) := by
  unfold State.useImage
  repeat' first | with_reducible assumption | intro _ | with_reducible apply Kept.modFlash | with_reducible apply Kept.modSpares
theorem Kept.powerSpare {a s : State} (h : Kept a s) (x0 : Nat) : Kept a (State.powerSpare x0 s) := by
  unfold State.powerSpare
  repeat' first | with_reducible assumption | intro _ | with_reducible apply Kept.modLink | with_reducible apply Kept.modPod | with_reducible apply Kept.emit | with_reducible apply Kept.foldl | with_reducible apply Kept.foldl_snd | extract_lets | with_reducible refine Kept.ite ?_ ?_ | split
theorem Kept.applyImage {a s : State} (h : Kept a s) (x0 : VoicingImage) : Kept a (State.applyImage x0 s) := by
  unfold State.applyImage
  repeat' first | with_reducible assumption | intro _ | with_reducible apply Kept.useImage | with_reducible apply Kept.allPorts | with_reducible apply Kept.makeZero | with_reducible apply Kept.each | with_reducible apply Kept.powerSpare | with_reducible apply Kept.modPod | with_reducible apply Kept.podOff | with_reducible apply Kept.setLimit | with_reducible apply Kept.countPods | with_reducible apply Kept.foldl | with_reducible apply Kept.foldl_snd | extract_lets | with_reducible refine Kept.ite ?_ ?_
theorem Kept.resumeOp {a s : State} (h : Kept a s) (x0 : Op) : Kept a (State.resumeOp x0 s) := by
  unfold State.resumeOp
  repeat' first | with_reducible assumption | intro _ | with_reducible apply Kept.modOp | with_reducible apply Kept.sendPod
theorem Kept.considerSuspend {a s : State} (h : Kept a s) (x0 : Op) : Kept a (State.considerSuspend x0 s) := by
  unfold State.considerSuspend
  repeat' first | with_reducible assumption | intro _ | with_reducible apply Kept.sendPod | with_reducible apply Kept.modOp | with_reducible apply Kept.readAround | with_reducible apply Kept.foldl | with_reducible apply Kept.foldl_snd | extract_lets | with_reducible refine Kept.ite ?_ ?_ | split
theorem Kept.fitLink {a s : State} (h : Kept a s) (x0 : Nat) (x1 : Clocking) : Kept a (State.fitLink x0 x1 s) := by
  unfold State.fitLink
  repeat' first | with_reducible assumption | intro _ | with_reducible apply Kept.modPort
theorem Kept.save {a s : State} (h : Kept a s) (x0 : Nat) (x1 : Nat) (x2 : W32) : Kept a (State.save x0 x1 x2 s) := by
  unfold State.save
  repeat' first | with_reducible assumption | intro _ | with_reducible apply Kept.modPort
theorem Kept.keepFeature {a s : State} (h : Kept a s) (x0 : Nat) (x1 : Nat) (x2 : W32 → Port → Port) : Kept a (State.keepFeature x0 x1 x2 s) := by
  unfold State.keepFeature
  repeat' first | with_reducible assumption | intro _ | with_reducible apply Kept.setFeature | with_reducible apply Kept.save | with_reducible apply Kept.complete | with_reducible apply Kept.modPort | with_reducible apply Kept.foldl | with_reducible apply Kept.foldl_snd | extract_lets | with_reducible refine Kept.ite ?_ ?_
theorem Kept.askEpoch {a s : State} (h : Kept a s) (x0 : Nat) (x1 : Nat) (x2 : EpochAct) : Kept a (State.askEpoch x0 x1 x2 s) := by
  unfold State.askEpoch
  repeat' first | with_reducible assumption | intro _ | with_reducible apply Kept.complete | with_reducible apply Kept.startDevEpoch | with_reducible apply Kept.foldl | with_reducible apply Kept.foldl_snd | extract_lets | with_reducible refine Kept.ite ?_ ?_
theorem Kept.placePackage {a s : State} (h : Kept a s) (x0 : Package) (x1 : VerifyFound) (x2 : Bool) : Kept a (State.placePackage x0 x1 x2 s) := by
  unfold State.placePackage
  repeat' first | with_reducible assumption | intro _ | with_reducible apply Kept.modFlash | with_reducible apply Kept.modStop | with_reducible apply Kept.foldl | with_reducible apply Kept.foldl_snd | extract_lets | with_reducible refine Kept.ite ?_ ?_ | split
theorem Kept.acceptLoad {a s : State} (h : Kept a s) (x0 : Nat) (x1 : StopImage) (x2 : Option Nat) : Kept a (State.acceptLoad x0 x1 x2 s) := by
  unfold State.acceptLoad
  repeat' first | with_reducible assumption | intro _ | with_reducible apply Kept.modFlash | with_reducible apply Kept.modStop | with_reducible apply Kept.startEpoch | with_reducible apply Kept.modCtx | with_reducible apply Kept.foldl | with_reducible apply Kept.foldl_snd | (with_reducible apply Kept.upd; first | with_reducible assumption | with_reducible apply Kept.modFlash | with_reducible apply Kept.modStop | with_reducible apply Kept.startEpoch | with_reducible apply Kept.modCtx | with_reducible apply Kept.foldl | with_reducible refine Kept.ite ?_ ?_) | extract_lets | with_reducible refine Kept.ite ?_ ?_ | split
theorem Kept.verified {a s : State} (h : Kept a s) (x0 : Package) (x1 : Option Verify) (x2 : VerifyFound) : Kept a (State.verified x0 x1 x2 s) := by
  unfold State.verified
  repeat' first | with_reducible assumption | intro _ | with_reducible apply Kept.keepWrite | with_reducible apply Kept.placePackage | with_reducible apply Kept.modFlash | with_reducible apply Kept.complete | with_reducible apply Kept.startDevEpoch | with_reducible apply Kept.refuseUpdate | with_reducible apply Kept.acceptLoad | with_reducible apply Kept.foldl | with_reducible apply Kept.foldl_snd | extract_lets | with_reducible refine Kept.ite ?_ ?_ | split
theorem Kept.blockProgrammed {a s : State} (h : Kept a s) (x0 : Nat) : Kept a (State.blockProgrammed x0 s) := by
  unfold State.blockProgrammed
  repeat' first | with_reducible assumption | intro _ | with_reducible apply Kept.keepWrite | with_reducible apply Kept.modFlash | with_reducible apply Kept.complete | with_reducible apply Kept.foldl | with_reducible apply Kept.foldl_snd | extract_lets | with_reducible refine Kept.ite ?_ ?_ | split
theorem Kept.spRestartComplete {a s : State} (h : Kept a s) : Kept a (State.spRestartComplete s) := by
  unfold State.spRestartComplete
  repeat' first | with_reducible assumption | intro _ | with_reducible apply Kept.modPart | with_reducible apply Kept.mbTakeQueue | with_reducible apply Kept.causeArises | with_reducible apply Kept.foldl | with_reducible apply Kept.foldl_snd | extract_lets | with_reducible refine Kept.ite ?_ ?_
theorem Kept.endDevEpoch {a s : State} (h : Kept a s) : Kept a (State.endDevEpoch s) := by
  unfold State.endDevEpoch
  repeat' first | with_reducible assumption | intro _ | with_reducible apply Kept.leaveQuiesce | with_reducible apply Kept.modModes
theorem Kept.answerEpoch {a s : State} (h : Kept a s) (x0 : DevEpoch) (x1 : Nat) : Kept a (State.answerEpoch x0 x1 s) := by
  unfold State.answerEpoch
  repeat' first | with_reducible assumption | intro _ | with_reducible apply Kept.complete | with_reducible apply Kept.foldl | with_reducible apply Kept.foldl_snd | extract_lets | with_reducible refine Kept.ite ?_ ?_ | split
theorem Kept.noteScrubbed {a s : State} (h : Kept a s) (x0 : Nat) (x1 : Nat) : Kept a (State.noteScrubbed x0 x1 s) := by
  unfold State.noteScrubbed
  repeat' first | with_reducible assumption | intro _ | with_reducible apply Kept.modHealth
theorem Kept.reviewRegions {a s : State} (h : Kept a s) : Kept a (State.reviewRegions s) := by
  unfold State.reviewRegions
  repeat' first | with_reducible assumption | intro _ | with_reducible apply Kept.each | with_reducible apply Kept.report | with_reducible apply Kept.modMc | with_reducible apply Kept.foldl | with_reducible apply Kept.foldl_snd | extract_lets | with_reducible refine Kept.ite ?_ ?_
theorem Kept.issueFetch {a s : State} (h : Kept a s) (x0 : Fetch) : Kept a (State.issueFetch x0 s) := by
  unfold State.issueFetch
  repeat' first | with_reducible assumption | intro _ | with_reducible apply Kept.modMc | with_reducible apply Kept.emit | with_reducible apply Kept.foldl | with_reducible apply Kept.foldl_snd | extract_lets | with_reducible refine Kept.ite ?_ ?_ | split
theorem Kept.issueFetches {a s : State} (h : Kept a s) : Kept a (State.issueFetches s) := by
  unfold State.issueFetches
  repeat' first | with_reducible assumption | intro _ | with_reducible apply Kept.issueFetch | with_reducible apply Kept.foldl
theorem Kept.fetchOver {a s : State} (h : Kept a s) (x0 : Nat) (x1 : Nat) : Kept a (State.fetchOver x0 x1 s) := by
  unfold State.fetchOver
  repeat' first | with_reducible assumption | intro _ | with_reducible apply Kept.issueFetches | with_reducible apply Kept.modMc
theorem Kept.spaceGranted {a s : State} (h : Kept a s) (x0 : Nat) : Kept a (State.spaceGranted x0 s) := by
  unfold State.spaceGranted
  repeat' first | with_reducible assumption | intro _ | with_reducible apply Kept.modCache | with_reducible apply Kept.modInst | with_reducible apply Kept.modCtx | with_reducible apply Kept.startMerges | with_reducible apply Kept.arrive | with_reducible apply Kept.foldl | with_reducible apply Kept.foldl_snd | extract_lets | with_reducible refine Kept.ite ?_ ?_ | split
theorem Kept.grantWrite {a s : State} (h : Kept a s) (x0 : Nat) (x1 : List Nat) : Kept a (State.grantWrite x0 x1 s).2 := by
  induction x1 generalizing s with
  | nil => exact h.spaceGranted _
  | cons u rest ih =>
    unfold State.grantWrite
    split
    · exact h
    · rename_i t ht
      exact ih (h.grantUnit_eq (e := ht) ..)
theorem Kept.grantWrite_eq {a s : State} (h : Kept a s) (x0 : Nat) (x1 : List Nat) {r t} (e : State.grantWrite x0 x1 s = (r, t)) : Kept a t := by
  have := Kept.grantWrite h x0 x1; rw [e] at this; exact this
theorem Kept.grantAll {a s : State} (h : Kept a s) (x0 : Nat) : Kept a (State.grantAll x0 s) := by
  induction x0 generalizing s with
  | zero => exact h
  | succ f ih =>
    unfold State.grantAll
    split
    · exact h
    · split
      · exact h
      · exact Kept.ite (fun _ => ih (h.grantWrite _ _)) (fun _ => h.grantWrite _ _)
theorem Kept.ofCommand {a s : State} (h : Kept a s) (x0 : Nat) (x1 : OutFrame) (x2 : StopCmd → State → State) (hg : ∀ y0 t, Kept a t → Kept a (x2 y0 t)) : Kept a (State.ofCommand x0 x1 x2 s) := by
  unfold State.ofCommand
  repeat' first | with_reducible assumption | intro _ | with_reducible apply hg | with_reducible apply Kept.modStop | with_reducible apply Kept.lateDiscard | with_reducible apply Kept.stopViolation | with_reducible apply Kept.violated | with_reducible apply Kept.modStopCmd | with_reducible apply Kept.foldl | with_reducible apply Kept.foldl_snd | extract_lets | with_reducible refine Kept.ite ?_ ?_ | split
theorem Kept.xformFault {a s : State} (h : Kept a s) (x0 : Nat) : Kept a (State.xformFault x0 s) := by
  unfold State.xformFault
  repeat' first | with_reducible assumption | intro _ | with_reducible apply Kept.fenceStop | with_reducible apply Kept.countViolation
theorem Kept.xformOut {a s : State} (h : Kept a s) (x0 : Nat) (x1 : OutFrame) (x2 : StopCmd) : Kept a (State.xformOut x0 x1 x2 s) := by
  unfold State.xformOut
  repeat' first | with_reducible assumption | intro _ | with_reducible apply Kept.xformFault | with_reducible apply Kept.used | with_reducible apply Kept.modStopCmd | with_reducible apply Kept.xformDone | with_reducible apply Kept.foldl | with_reducible apply Kept.foldl_snd | extract_lets | with_reducible refine Kept.ite ?_ ?_ | split
theorem Kept.newSecret {a s : State} (h : Kept a s) : Kept a (State.newSecret s) := by
  unfold State.newSecret
  repeat' first | with_reducible assumption | intro _ | with_reducible apply Kept.drew | with_reducible apply Kept.keepWrite
theorem Kept.eraseSlot {a s : State} (h : Kept a s) (x0 : Nat) : Kept a (State.eraseSlot x0 s) := by
  unfold State.eraseSlot
  repeat' first | with_reducible assumption | intro _ | with_reducible apply Kept.flashOps | with_reducible apply Kept.modFlash
theorem Kept.finishLower {a s : State} (h : Kept a s) : Kept a (State.finishLower s) := by
  unfold State.finishLower
  extract_lets s1 s2 i was s3 s4 l s5 s6 s7 s8 o s9 src s10
  have h4 : Kept a s4 := (((h.newSecret.keepWrite _).modPart _).upd ..).modFlash _
  have h8 : Kept a s8 := (((h4.freshMedia _).placeFormat _).each _ _ (fun _ _ ht => ht.eraseSlot _)).keepWrite _
  have h9 : Kept a s9 := h8.fuse rfl rfl rfl rfl (fun hu => ⟨⟨List.prefix_rfl, BitVec.and_self, BitVec.and_self, Nat.le_refl _, Nat.le_succ _, id, id⟩, hu⟩)
  exact (h9.keepWrite _).report ..
theorem Kept.applyRpl {a s : State} (h : Kept a s) (x0 : Nat) (x1 : MbSource) (x2 : W32) : Kept a (State.applyRpl x0 x1 x2 s) := by
  unfold State.applyRpl
  repeat' first | with_reducible assumption | intro _ | with_reducible apply Kept.mbAnswer | with_reducible apply Kept.keepWrite | with_reducible apply Kept.finishLower | with_reducible apply Kept.startBringup | with_reducible apply Kept.modModes | with_reducible apply Kept.mbTakeQueue | with_reducible apply Kept.endDevEpoch | with_reducible apply Kept.finishRaise | with_reducible apply Kept.foldl | with_reducible apply Kept.foldl_snd | extract_lets | with_reducible refine Kept.ite ?_ ?_
theorem Kept.startVerify {a s : State} (h : Kept a s) (x0 : Ctx) (x1 : Nat) : Kept a (State.startVerify x0 x1 s) := by
  unfold State.startVerify
  repeat' first | with_reducible assumption | intro _ | with_reducible apply Kept.modFlash | with_reducible apply Kept.keepWrite | with_reducible apply Kept.modCtx
theorem Kept.commitPackage {a s : State} (h : Kept a s) (x0 : List Nat) (x1 : Ctx) : Kept a (State.commitPackage x0 x1 s) := by
  unfold State.commitPackage
  repeat' first | with_reducible assumption | intro _ | with_reducible apply Kept.complete | with_reducible apply Kept.refuseUpdate | with_reducible apply Kept.startVerify | with_reducible apply Kept.foldl | with_reducible apply Kept.foldl_snd | extract_lets | with_reducible refine Kept.ite ?_ ?_
theorem Kept.packageSpare {a s : State} (h : Kept a s) (x0 : Nat) (x1 : Nat) (x2 : Nat) (x3 : Nat) (x4 : Nat) : Kept a (State.packageSpare x0 x1 x2 x3 x4 s) := by
  unfold State.packageSpare
  repeat' first | with_reducible assumption | intro _ | with_reducible apply Kept.logRec | with_reducible apply Kept.modSpares | with_reducible apply Kept.report | with_reducible apply Kept.reviewSpares | with_reducible apply Kept.healthEvent | with_reducible apply Kept.foldl | with_reducible apply Kept.foldl_snd | extract_lets | with_reducible refine Kept.ite ?_ ?_
theorem Kept.challengeExpiry {a s : State} (h : Kept a s) (x0 : Nat) : Kept a (State.challengeExpiry x0 s) := by
  unfold State.challengeExpiry
  repeat' first | with_reducible assumption | intro _ | with_reducible apply Kept.modPart
theorem Kept.nextMaint {a s : State} (h : Kept a s) (x0 : Nat) : Kept a (State.nextMaint x0 s) := by
  induction x0 generalizing s with
  | zero => exact h
  | succ f ih =>
    unfold State.nextMaint
    split
    · exact h
    · split
      · exact h
      · dsimp only
        exact ih (Kept.ite (fun _ => (h.modMc _).putRegion _ _) (fun _ => (h.modMc _).regionMaint ..))
theorem Kept.chooseBank {a s : State} (h : Kept a s) : Kept a (State.chooseBank s) := by
  unfold State.chooseBank
  repeat' first | with_reducible assumption | intro _ | with_reducible apply Kept.report | with_reducible apply Kept.modModes | with_reducible apply Kept.modPart | with_reducible apply Kept.keepWrite | with_reducible apply Kept.modFlash | with_reducible apply Kept.foldl | with_reducible apply Kept.foldl_snd | extract_lets | with_reducible refine Kept.ite ?_ ?_
theorem Kept.cellCheck {a s : State} (h : Kept a s) (x0 : Nat) : Kept a (State.cellCheck x0 s) := by
  unfold State.cellCheck
  repeat' first | with_reducible assumption | intro _ | with_reducible apply Kept.keepWrite | with_reducible apply Kept.setDegrade | with_reducible apply Kept.healthEvent | with_reducible apply Kept.foldl | with_reducible apply Kept.foldl_snd | extract_lets | with_reducible refine Kept.ite ?_ ?_
theorem Kept.countThrottle {a s : State} (h : Kept a s) (x1 : State) : Kept a (State.countThrottle s x1) := by
  unfold State.countThrottle
  repeat' first | with_reducible assumption | intro _ | with_reducible apply Kept.allPorts | with_reducible apply Kept.modPort | with_reducible apply Kept.foldl | with_reducible apply Kept.foldl_snd | (with_reducible apply Kept.upd; first | with_reducible assumption | with_reducible apply Kept.allPorts | with_reducible apply Kept.modPort | with_reducible apply Kept.foldl | with_reducible refine Kept.ite ?_ ?_)
theorem Kept.park {a s : State} (h : Kept a s) (x0 : Nat) (x1 : Nat) (x2 : List Nat) : Kept a (State.park x0 x1 x2 s) := by
  unfold State.park
  repeat' first | with_reducible assumption | intro _ | with_reducible apply Kept.modMc | with_reducible apply Kept.issueFetches | with_reducible apply Kept.foldl | with_reducible apply Kept.foldl_snd | extract_lets | with_reducible refine Kept.ite ?_ ?_
theorem Kept.countParks {a s : State} (h : Kept a s) (x0 : List Nat) : Kept a (State.countParks x0 s) := by
  unfold State.countParks
  repeat' first | with_reducible assumption | intro _ | with_reducible apply Kept.each | with_reducible apply Kept.modInst | with_reducible apply Kept.foldl | with_reducible apply Kept.foldl_snd | extract_lets | with_reducible refine Kept.ite ?_ ?_ | split
theorem Kept.pageRead {a s : State} (h : Kept a s) (x0 : Ctx) (x1 : Nat) : Kept a (State.pageRead x0 x1 s) := by
  unfold State.pageRead
  repeat' first | with_reducible assumption | intro _ | with_reducible apply Kept.modPort | with_reducible apply Kept.foldl | with_reducible apply Kept.foldl_snd | extract_lets | with_reducible refine Kept.ite ?_ ?_
theorem Kept.restartTrial {a s : State} (h : Kept a s) : Kept a (State.restartTrial s) := by
  unfold State.restartTrial
  repeat' first | with_reducible assumption | intro _ | with_reducible apply Kept.keepWrite | with_reducible apply Kept.foldl | with_reducible apply Kept.foldl_snd | extract_lets | with_reducible refine Kept.ite ?_ ?_
theorem Kept.partitionReset {a s : State} (h : Kept a s) (x0 : Bool) : Kept a (State.partitionReset x0 s) := by
  unfold State.partitionReset
  repeat' first | with_reducible assumption | intro _ | with_reducible apply Kept.modPart | with_reducible apply Kept.restartTrial | with_reducible apply Kept.report | with_reducible apply Kept.keepWrite | with_reducible apply Kept.foldl | with_reducible apply Kept.foldl_snd | extract_lets | with_reducible refine Kept.ite ?_ ?_
theorem Kept.testStep2 {a s : State} (h : Kept a s) : Kept a (State.testStep2 s) := by
  unfold State.testStep2
  repeat' first | with_reducible assumption | intro _ | with_reducible apply Kept.modPw
theorem Kept.dumpWithout {a s : State} (h : Kept a s) (x0 : Nat) : Kept a (State.dumpWithout x0 s) := by
  unfold State.dumpWithout
  repeat' first | with_reducible assumption | intro _ | with_reducible apply Kept.foldl | with_reducible apply Kept.foldl_snd | (with_reducible apply Kept.upd; first | with_reducible assumption | with_reducible apply Kept.foldl | with_reducible refine Kept.ite ?_ ?_) | extract_lets | with_reducible refine Kept.ite ?_ ?_ | split
theorem Kept.restartBringup {a s : State} (h : Kept a s) : Kept a (State.restartBringup s) := by
  unfold State.restartBringup
  repeat' first | with_reducible assumption | intro _ | with_reducible apply Kept.discard | with_reducible apply Kept.podsOff | with_reducible apply Kept.allPorts | with_reducible apply Kept.modPort | with_reducible apply Kept.foldl | with_reducible apply Kept.foldl_snd | (with_reducible apply Kept.upd; first | with_reducible assumption | with_reducible apply Kept.discard | with_reducible apply Kept.podsOff | with_reducible apply Kept.allPorts | with_reducible apply Kept.modPort | with_reducible apply Kept.foldl | with_reducible refine Kept.ite ?_ ?_)
theorem Kept.restartAtFive {a s : State} (h : Kept a s) : Kept a (State.restartAtFive s) := by
  unfold State.restartAtFive
  repeat' first | with_reducible assumption | intro _ | with_reducible apply Kept.chooseBank | with_reducible apply Kept.cutUpdate | with_reducible apply Kept.restartBringup
theorem Kept.endFlush {a s : State} (h : Kept a s) (x0 : Flush) : Kept a (State.endFlush x0 s) := by
  unfold State.endFlush
  repeat' first | with_reducible assumption | intro _ | with_reducible apply Kept.podsOff | with_reducible apply Kept.modModes | with_reducible apply Kept.startBringup | with_reducible apply Kept.enterSafe | with_reducible apply Kept.restartAtFive | with_reducible apply Kept.allPorts | with_reducible apply Kept.modPort | with_reducible apply Kept.foldl | with_reducible apply Kept.foldl_snd | (with_reducible apply Kept.upd; first | with_reducible assumption | with_reducible apply Kept.podsOff | with_reducible apply Kept.modModes | with_reducible apply Kept.startBringup | with_reducible apply Kept.enterSafe | with_reducible apply Kept.restartAtFive | with_reducible apply Kept.allPorts | with_reducible apply Kept.modPort | with_reducible apply Kept.foldl | with_reducible refine Kept.ite ?_ ?_) | extract_lets | with_reducible refine Kept.ite ?_ ?_ | split
theorem Kept.scrubOn {a s : State} (h : Kept a s) (x0 : Nat) (x1 : Nat) (x2 : Nat) : Kept a (State.scrubOn x0 x1 x2 s) := by
  unfold State.scrubOn
  repeat' first | with_reducible assumption | intro _ | with_reducible apply Kept.modGroup | with_reducible apply Kept.noteScrubbed | with_reducible apply Kept.foldl | with_reducible apply Kept.foldl_snd | extract_lets | with_reducible refine Kept.ite ?_ ?_
theorem Kept.writeBurst {a s : State} (h : Kept a s) (x0 : Nat) (x1 : InFlight) (x2 : List Byte) : Kept a (State.writeBurst x0 x1 x2 s) := by
  unfold State.writeBurst
  repeat' first | with_reducible assumption | intro _ | with_reducible apply Kept.hostWrite | with_reducible apply Kept.modChan | with_reducible apply Kept.modStop | with_reducible apply Kept.emit | with_reducible apply Kept.foldl | with_reducible apply Kept.foldl_snd | extract_lets | with_reducible refine Kept.ite ?_ ?_ | split
theorem Kept.keepFour {a s : State} (h : Kept a s) (x0 : Nat) (x1 : Nat) (x2 : Nat) : Kept a (State.keepFour x0 x1 x2 s) := by
  induction x2 generalizing s with
  | zero => exact h
  | succ f ih =>
    unfold State.keepFour
    dsimp only
    split
    · exact h
    · split
      · exact h
      · exact ih ((h.modSlice _ _).report ..)
theorem Kept.disableWay {a s : State} (h : Kept a s) (x0 : Nat) (x1 : Nat) (x2 : Nat) (x3 : Bool) : Kept a (State.disableWay x0 x1 x2 x3 s) := by
  unfold State.disableWay
  repeat' first | with_reducible assumption | intro _ | with_reducible apply Kept.modSlice | with_reducible apply Kept.modSpares | with_reducible apply Kept.writeT1 | with_reducible apply Kept.writeBack | with_reducible apply Kept.logRec | with_reducible apply Kept.keepFour | with_reducible apply Kept.report | with_reducible apply Kept.foldl | with_reducible apply Kept.foldl_snd | extract_lets | with_reducible refine Kept.ite ?_ ?_ | split
theorem Kept.wayError {a s : State} (h : Kept a s) (x0 : Nat) (x1 : Nat) (x2 : Nat) (x3 : Bool) (x4 : Bool) : Kept a (State.wayError x0 x1 x2 x3 x4 s) := by
  unfold State.wayError
  repeat' first | with_reducible assumption | intro _ | with_reducible apply Kept.disableWay | with_reducible apply Kept.modSlice | with_reducible apply Kept.foldl | with_reducible apply Kept.foldl_snd | extract_lets | with_reducible refine Kept.ite ?_ ?_
theorem Kept.reErase {a s : State} (h : Kept a s) (x0 : Nat) (x1 : Bool) : Kept a (State.reErase x0 x1 s) := by
  unfold State.reErase
  repeat' first | with_reducible assumption | intro _ | with_reducible apply Kept.report | with_reducible apply Kept.modBank | with_reducible apply Kept.foldl | with_reducible apply Kept.foldl_snd | extract_lets | with_reducible refine Kept.ite ?_ ?_
theorem Kept.instPage {a s : State} (h : Kept a s) (x0 : Ctx) (x1 : Nat → State → State) (hg : ∀ y0 t, Kept a t → Kept a (x1 y0 t)) : Kept a (State.instPage x0 x1 s) := by
  unfold State.instPage
  repeat' first | with_reducible assumption | intro _ | with_reducible apply hg | with_reducible apply Kept.complete | with_reducible apply Kept.foldl | with_reducible apply Kept.foldl_snd | extract_lets | with_reducible refine Kept.ite ?_ ?_
theorem Kept.stageFault {a s : State} (h : Kept a s) (x0 : Nat) : Kept a (State.stageFault x0 s) := by
  unfold State.stageFault
  repeat' first | with_reducible assumption | intro _ | with_reducible apply Kept.report | with_reducible apply Kept.modPw | with_reducible apply Kept.causeArises | with_reducible apply Kept.foldl | with_reducible apply Kept.foldl_snd | extract_lets | with_reducible refine Kept.ite ?_ ?_
theorem Kept.enterIo {a s : State} (h : Kept a s) (x0 : Nat) (x1 : Nat) (x2 : Sqe) : Kept a (State.enterIo x0 x1 x2 s) := by
  unfold State.enterIo
  repeat' first | with_reducible assumption | intro _ | with_reducible apply Kept.modInst | with_reducible apply Kept.modCtx | with_reducible apply Kept.foldl | with_reducible apply Kept.foldl_snd | extract_lets | with_reducible refine Kept.ite ?_ ?_
theorem Kept.dropStaging {a s : State} (h : Kept a s) (x0 : Nat) : Kept a (State.dropStaging x0 s) := by
  unfold State.dropStaging
  repeat' first | with_reducible assumption | intro _ | with_reducible apply Kept.modStop | with_reducible apply Kept.foldl | with_reducible apply Kept.foldl_snd | extract_lets | with_reducible refine Kept.ite ?_ ?_
theorem Kept.abandonPackage {a s : State} (h : Kept a s) : Kept a (State.abandonPackage s) := by
  unfold State.abandonPackage
  repeat' first | with_reducible assumption | intro _ | with_reducible apply Kept.dropStaging | with_reducible apply Kept.modFlash | with_reducible apply Kept.keepWrite | with_reducible apply Kept.foldl | with_reducible apply Kept.foldl_snd | extract_lets | with_reducible refine Kept.ite ?_ ?_ | split
theorem Kept.closeHolding {a s : State} (h : Kept a s) (x0 : List Nat) : Kept a (State.closeHolding x0 s) := by
  unfold State.closeHolding
  repeat' first | with_reducible assumption | intro _ | with_reducible apply Kept.each | with_reducible apply Kept.closeStripe | with_reducible apply Kept.foldl | with_reducible apply Kept.foldl_snd | extract_lets | with_reducible refine Kept.ite ?_ ?_ | split
theorem Kept.loadStop {a s : State} (h : Kept a s) (x0 : Nat) (x1 : Nat) (x2 : Ctx → Nat → State → State) (hg : ∀ y0 y1 t, Kept a t → Kept a (x2 y0 y1 t)) : Kept a (State.loadStop x0 x1 x2 s) := by
  unfold State.loadStop
  repeat' first | with_reducible assumption | intro _ | with_reducible apply hg | with_reducible apply Kept.boundary | with_reducible apply Kept.complete | with_reducible apply Kept.foldl | with_reducible apply Kept.foldl_snd | extract_lets | with_reducible refine Kept.ite ?_ ?_ | split
theorem Kept.streamWrite {a s : State} (h : Kept a s) (x0 : Nat) : Kept a (State.streamWrite x0 s) := by
  unfold State.streamWrite
  repeat' first | with_reducible assumption | intro _ | with_reducible apply Kept.feedStop | with_reducible apply Kept.complete | with_reducible apply Kept.modCtx | with_reducible apply Kept.arrive | with_reducible apply Kept.foldl | with_reducible apply Kept.foldl_snd | extract_lets | with_reducible refine Kept.ite ?_ ?_ | split
theorem Kept.modMech {a s : State} (h : Kept a s) (x0 : Mech → Mech) : Kept a (State.modMech x0 s) := h.upd ..
theorem Kept.dropHeld {a s : State} (h : Kept a s) (x0 : List Cqe) : Kept a (State.dropHeld x0 s) := by
  unfold State.dropHeld
  repeat' first | with_reducible assumption | intro _ | with_reducible apply Kept.dropCtx | with_reducible apply Kept.foldl
theorem Kept.release {a s : State} (h : Kept a s) (x0 : Nat) : Kept a (State.release x0 s) := by
  unfold State.release
  repeat' first | with_reducible assumption | intro _ | with_reducible apply Kept.hostWrite | with_reducible apply Kept.modPort | with_reducible apply Kept.writeCqe | with_reducible apply Kept.settleDeletes | with_reducible apply Kept.interrupt | with_reducible apply Kept.foldl | with_reducible apply Kept.foldl_snd | extract_lets | with_reducible refine Kept.ite ?_ ?_
theorem Kept.releaseHeld {a s : State} (h : Kept a s) (x0 : Nat) (x1 : Nat) (x2 : Nat) : Kept a (State.releaseHeld x0 x1 x2 s) := by
  induction x2 generalizing s with
  | zero => exact h
  | succ f ih =>
    unfold State.releaseHeld
    dsimp only
    split
    · exact h
    · split
      · exact h
      · exact ih ((h.modInst _ _).pushCqe ..)
theorem Kept.slotCommand {a s : State} (h : Kept a s) (x0 : Nat) (x1 : Nat) (x2 : Bool) (x3 : Ctx → Nat → State → State) (hg : ∀ y0 y1 t, Kept a t → Kept a (x3 y0 y1 t)) : Kept a (State.slotCommand x0 x1 x2 x3 s) := by
  unfold State.slotCommand
  repeat' first | with_reducible assumption | intro _ | with_reducible apply hg | with_reducible apply Kept.boundary | with_reducible apply slotChecks_kept | with_reducible apply Kept.foldl | with_reducible apply Kept.foldl_snd | extract_lets | with_reducible refine Kept.ite ?_ ?_
theorem Kept.unlockWays {a s : State} (h : Kept a s) (x0 : Nat) (x1 : Option Nat) : Kept a (State.unlockWays x0 x1 s) := by
  unfold State.unlockWays
  repeat' first | with_reducible assumption | intro _ | with_reducible apply Kept.modMc
theorem Kept.endTest {a s : State} (h : Kept a s) (x0 : Nat) : Kept a (State.endTest x0 s) := by
  unfold State.endTest
  repeat' first | with_reducible assumption | intro _ | with_reducible apply Kept.modModes | with_reducible apply Kept.leaveQuiesce | with_reducible apply Kept.foldl | with_reducible apply Kept.foldl_snd | extract_lets | with_reducible refine Kept.ite ?_ ?_ | split
theorem Kept.afterBurst {a s : State} (h : Kept a s) (x0 : Nat) : Kept a (State.afterBurst x0 s) := by
  unfold State.afterBurst
  repeat' first | with_reducible assumption | intro _ | with_reducible apply Kept.endDesc | with_reducible apply Kept.moverCommand | with_reducible apply Kept.foldl | with_reducible apply Kept.foldl_snd | extract_lets | with_reducible refine Kept.ite ?_ ?_ | split
theorem Kept.markServed {a s : State} (h : Kept a s) (x0 : Nat) : Kept a (State.markServed x0 s) := by
  unfold State.markServed
  repeat' first | with_reducible assumption | intro _ | with_reducible apply Kept.each | with_reducible apply Kept.updChan
theorem Kept.askSpace {a s : State} (h : Kept a s) (x0 : Nat) (x1 : Bool) : Kept a (State.askSpace x0 x1 s) := by
  unfold State.askSpace
  repeat' first | with_reducible assumption | intro _ | with_reducible apply Kept.refreshHeld | with_reducible apply Kept.modCache | with_reducible apply Kept.modCtx
theorem Kept.toT2 {a s : State} (h : Kept a s) (x0 : Nat) (x1 : Nat) : Kept a (State.toT2 x0 x1 s) := by
  unfold State.toT2
  repeat' first | with_reducible assumption | intro _ | with_reducible apply Kept.emit | with_reducible apply Kept.modMc | with_reducible apply Kept.nextNonce | with_reducible apply Kept.foldl | with_reducible apply Kept.foldl_snd | extract_lets | with_reducible refine Kept.ite ?_ ?_ | split
theorem Kept.writeRoot {a s : State} (h : Kept a s) : Kept a (State.writeRoot s) := by
  unfold State.writeRoot
  repeat' first | with_reducible assumption | intro _ | with_reducible refine Kept.modJrn ?_ _ (fun _ => rfl) (fun _ => rfl)
theorem Kept.postTemp {a s : State} (h : Kept a s) (x1 : State) : Kept a (State.postTemp s x1) := by
  unfold State.postTemp
  repeat' first | with_reducible assumption | intro _ | with_reducible apply Kept.allPorts | with_reducible apply Kept.postEvent | with_reducible apply Kept.foldl | with_reducible apply Kept.foldl_snd | extract_lets | with_reducible refine Kept.ite ?_ ?_
theorem Kept.endLends {a s : State} (h : Kept a s) (x0 : Nat) (x1 : Lend → Bool) : Kept a (State.endLends x0 x1 s) := by
  unfold State.endLends
  repeat' first | with_reducible assumption | intro _ | with_reducible apply Kept.emit | with_reducible apply Kept.dropLends | with_reducible apply Kept.foldl
theorem Kept.updateAdmin {a s : State} (h : Kept a s) (x0 : Nat) (x1 : Nat) (x2 : Ctx → State → State) (hg : ∀ y0 t, Kept a t → Kept a (x2 y0 t)) : Kept a (State.updateAdmin x0 x1 x2 s) := by
  unfold State.updateAdmin
  repeat' first | with_reducible assumption | intro _ | with_reducible apply hg | with_reducible apply Kept.foldl | with_reducible apply Kept.foldl_snd | extract_lets | with_reducible refine Kept.ite ?_ ?_ | split
theorem Kept.commitOf {a s : State} (h : Kept a s) (x0 : Nat) (x1 : Nat) (x2 : Ctx → State → State) (hg : ∀ y0 t, Kept a t → Kept a (x2 y0 t)) : Kept a (State.commitOf x0 x1 x2 s) := by
  unfold State.commitOf
  repeat' first | with_reducible assumption | intro _ | with_reducible apply hg | with_reducible apply Kept.updateAdmin | with_reducible apply Kept.foldl | with_reducible apply Kept.foldl_snd | extract_lets | with_reducible refine Kept.ite ?_ ?_
theorem Kept.zeroKey {a s : State} (h : Kept a s) (x0 : Nat) : Kept a (State.zeroKey x0 s) := by
  unfold State.zeroKey
  repeat' first | with_reducible assumption | intro _ | with_reducible apply Kept.modPart
theorem Kept.toT3 {a s : State} (h : Kept a s) (x0 : Nat) (x1 : Nat) (x2 : Bool) : Kept a (State.toT3 x0 x1 x2 s) := by
  unfold State.toT3
  repeat' first | with_reducible assumption | intro _ | with_reducible apply Kept.modMc
theorem Kept.landLine {a s : State} (h : Kept a s) (x0 : Nat) (x1 : Nat) (x2 : Bool) : Kept a (State.landLine x0 x1 x2 s) := by
  unfold State.landLine
  repeat' first | with_reducible assumption | intro _ | with_reducible apply Kept.modLine | with_reducible apply Kept.fetchOver | with_reducible apply Kept.loseLine | with_reducible apply Kept.retry | with_reducible apply Kept.fill | with_reducible apply Kept.writeT1 | with_reducible apply Kept.foldl | with_reducible apply Kept.foldl_snd | extract_lets | with_reducible refine Kept.ite ?_ ?_
theorem Kept.makeRoom {a s : State} (h : Kept a s) : ∀ t, State.makeRoom s = some t → Kept a t := by
  intro t ht
  unfold State.makeRoom at ht
  split at ht
  · cases ht; exact h
  · split at ht
    · cases ht
    · cases ht; exact (((h.maintWay ..).toT2 ..).modLine ..).modMc _
theorem Kept.makeRoom_eq {a s : State} (h : Kept a s)  {t} (e : State.makeRoom s = some t) : Kept a t := Kept.makeRoom h  _ e
theorem Kept.installLine {a s : State} (h : Kept a s) (x0 : Nat) (x1 : Nat) (x2 : Bool) : Kept a (State.installLine x0 x1 x2 s) := by
  unfold State.installLine
  have hm : ∀ t, s.makeRoom = some t → Kept a t := fun t e => h.makeRoom_eq (e := e)
  revert hm
  generalize s.makeRoom = o
  intro hm
  cases o with
  | none => exact h
  | some t => exact (hm t rfl).landLine ..
theorem Kept.reread {a s : State} (h : Kept a s) (x0 : Op) (x1 : Nat) : Kept a (State.reread x0 x1 s) := by
  unfold State.reread
  repeat' first | with_reducible assumption | intro _ | with_reducible apply Kept.modOp
theorem Kept.otherRequest {a s : State} (h : Kept a s) (x0 : PortId) (x1 : Nat) (x2 : Nat) (x3 : W32) : Kept a (State.otherRequest x0 x1 x2 x3 s) := by
  unfold State.otherRequest
  repeat' first | with_reducible assumption | intro _ | with_reducible apply Kept.complete | with_reducible apply Kept.emit | with_reducible apply Kept.modCtx | with_reducible apply Kept.modPart | with_reducible apply Kept.foldl | with_reducible apply Kept.foldl_snd | extract_lets | with_reducible refine Kept.ite ?_ ?_
theorem Kept.fetchOne {a s : State} (h : Kept a s) (x0 : Nat) (x1 : Nat) (x2 : Nat) (x3 : Sqe) : Kept a (State.fetchOne x0 x1 x2 x3 s) := by
  unfold State.fetchOne
  repeat' first | with_reducible assumption | intro _ | with_reducible apply Kept.modInst | with_reducible apply Kept.modModes | with_reducible apply Kept.wake | with_reducible apply Kept.complete | with_reducible apply Kept.logError | with_reducible apply Kept.otherRequest | with_reducible apply Kept.violation | with_reducible apply Kept.modPort | with_reducible apply Kept.enterIo | with_reducible apply Kept.foldl | with_reducible apply Kept.foldl_snd | (with_reducible apply Kept.upd; first | with_reducible assumption | with_reducible apply Kept.modInst | with_reducible apply Kept.modModes | with_reducible apply Kept.wake | with_reducible apply Kept.complete | with_reducible apply Kept.logError | with_reducible apply Kept.otherRequest | with_reducible apply Kept.violation | with_reducible apply Kept.modPort | with_reducible apply Kept.enterIo | with_reducible apply Kept.foldl | with_reducible refine Kept.ite ?_ ?_) | extract_lets | with_reducible refine Kept.ite ?_ ?_ | split | dsimp +zetaDelta only
theorem Kept.stepTwo {a s : State} (h : Kept a s) (x0 : Step2Found) : Kept a (State.stepTwo x0 s) := by
  unfold State.stepTwo
  repeat' first | with_reducible assumption | intro _ | with_reducible apply Kept.modPart | with_reducible apply Kept.checkKeep | with_reducible apply Kept.finishLower | with_reducible apply Kept.finishRaise | with_reducible apply Kept.keepWrite | with_reducible apply Kept.cellCheck | with_reducible apply Kept.foldl | with_reducible apply Kept.foldl_snd | extract_lets | with_reducible refine Kept.ite ?_ ?_
theorem Kept.ctlAnswer {a s : State} (h : Kept a s) (x0 : Nat) (x1 : Nat × Nat × Option Nat) (x2 : W64) : Kept a (State.ctlAnswer x0 x1 x2 s) := by
  unfold State.ctlAnswer
  repeat' first | with_reducible assumption | intro _ | with_reducible apply Kept.modStop | with_reducible apply Kept.emit | with_reducible apply Kept.checkDrain | with_reducible apply Kept.foldl | with_reducible apply Kept.foldl_snd | extract_lets | with_reducible refine Kept.ite ?_ ?_ | split
theorem Kept.writeRecord {a s : State} (h : Kept a s) (x0 : Nat) (x1 : Nat) : Kept a (State.writeRecord x0 x1 s) := by
  unfold State.writeRecord
  dsimp only
  split
  · exact h.writeBack ..
  · rename_i p t hp
    refine Kept.modLine ?_ ..
    exact (Kept.recordPlace_eq (h := h.writeBack ..) (e := hp) ..).logRec _
theorem Kept.rewriteSegment {a s : State} (h : Kept a s) : Kept a (State.rewriteSegment s) := by
  unfold State.rewriteSegment
  repeat' first | with_reducible assumption | intro _ | with_reducible apply Kept.writeRoot | with_reducible refine Kept.modJrn ?_ _ (fun _ => rfl) (fun _ => rfl) | with_reducible apply Kept.foldl | with_reducible apply Kept.foldl_snd | extract_lets | with_reducible refine Kept.ite ?_ ?_
theorem Kept.newPackage {a s : State} (h : Kept a s) (x0 : PkgBlock) (x1 : Manifest) : Kept a (State.newPackage x0 x1 s) := by
  unfold State.newPackage
  repeat' first | with_reducible assumption | intro _ | with_reducible apply Kept.keepWrite | with_reducible apply Kept.abandonPackage | with_reducible apply Kept.modFlash | with_reducible apply Kept.modStop | with_reducible apply Kept.foldl | with_reducible apply Kept.foldl_snd | extract_lets | with_reducible refine Kept.ite ?_ ?_
theorem Kept.deleteNs {a s : State} (h : Kept a s) (x0 : Nat) : Kept a (State.deleteNs x0 s) := by
  unfold State.deleteNs
  repeat' first | with_reducible assumption | intro _ | with_reducible apply Kept.logRec | with_reducible apply Kept.zeroKey | with_reducible apply Kept.maintain | with_reducible apply Kept.modMc | with_reducible apply Kept.issueFetches | with_reducible apply Kept.foldl | with_reducible apply Kept.foldl_snd | (with_reducible apply Kept.upd; first | with_reducible assumption | with_reducible apply Kept.logRec | with_reducible apply Kept.zeroKey | with_reducible apply Kept.maintain | with_reducible apply Kept.modMc | with_reducible apply Kept.issueFetches | with_reducible apply Kept.foldl | with_reducible refine Kept.ite ?_ ?_)
theorem Kept.deleteAll {a s : State} (h : Kept a s) (x0 : List Nat) : Kept a (State.deleteAll x0 s) := by
  unfold State.deleteAll
  repeat' first | with_reducible assumption | intro _ | with_reducible apply Kept.each | with_reducible apply Kept.deleteNs | with_reducible apply Kept.rewriteKeys | with_reducible apply Kept.foldl | with_reducible apply Kept.foldl_snd | extract_lets | with_reducible refine Kept.ite ?_ ?_
theorem Kept.takePiece {a s : State} (h : Kept a s) (x0 : Ctx) : Kept a (State.takePiece x0 s) := by
  unfold State.takePiece
  repeat' first | with_reducible assumption | intro _ | with_reducible apply Kept.refuseUpdate | with_reducible apply Kept.complete | with_reducible apply Kept.modFlash | with_reducible apply Kept.abandonPackage | with_reducible apply Kept.newPackage | with_reducible apply Kept.keepWrite | with_reducible apply Kept.writeBlocks | with_reducible apply Kept.foldl | with_reducible apply Kept.foldl_snd | extract_lets | with_reducible refine Kept.ite ?_ ?_ | split | dsimp +zetaDelta only
theorem Kept.rebuildLog {a s : State} (h : Kept a s) (x0 : Rebuild) (x1 : Nat) (x2 : Nat) (x3 : Nat) (x4 : Nat) : Kept a (State.rebuildLog x0 x1 x2 x3 x4 s) := by
  unfold State.rebuildLog
  repeat' first | with_reducible assumption | intro _ | with_reducible apply Kept.modHealth | with_reducible apply Kept.logRec | with_reducible apply Kept.foldl | with_reducible apply Kept.foldl_snd | extract_lets | with_reducible refine Kept.ite ?_ ?_
theorem Kept.identifyRow {a s : State} (h : Kept a s) (x0 : Nat) (x1 : List Nat) : Kept a (State.identifyRow x0 x1 s) := by
  unfold State.identifyRow
  repeat' first | with_reducible assumption | intro _ | with_reducible apply Kept.admin | with_reducible apply Kept.complete | with_reducible apply Kept.toHost | with_reducible apply Kept.foldl | with_reducible apply Kept.foldl_snd | extract_lets | with_reducible refine Kept.ite ?_ ?_ | split
theorem Kept.failSlot {a s : State} (h : Kept a s) (x0 : Nat) (x1 : Nat) : Kept a (State.failSlot x0 x1 s) := by
  unfold State.failSlot
  repeat' first | with_reducible assumption | intro _ | with_reducible apply Kept.modFlash
theorem Kept.voicingSelect {a s : State} (h : Kept a s) (x0 : Nat) (x1 : Bool) : Kept a (State.voicingSelect x0 x1 s) := by
  unfold State.voicingSelect
  repeat' first | with_reducible assumption | intro _ | with_reducible apply Kept.admin | with_reducible apply Kept.completeBad | with_reducible apply Kept.failSlot | with_reducible apply Kept.complete | with_reducible apply Kept.startDevEpoch | with_reducible apply Kept.foldl | with_reducible apply Kept.foldl_snd | extract_lets | with_reducible refine Kept.ite ?_ ?_
theorem Kept.watchdogExpires {a s : State} (h : Kept a s) : Kept a (State.watchdogExpires s) := by
  unfold State.watchdogExpires
  repeat' first | with_reducible assumption | intro _ | with_reducible apply Kept.report | with_reducible apply Kept.modPart | with_reducible apply Kept.restartTrial | with_reducible apply Kept.modModes | with_reducible apply Kept.causeArises | with_reducible apply Kept.restartAtFive | with_reducible apply Kept.allPorts | with_reducible apply Kept.modPort | with_reducible apply Kept.startFlush | with_reducible apply Kept.foldl | with_reducible apply Kept.foldl_snd | extract_lets | with_reducible refine Kept.ite ?_ ?_ | split
theorem Kept.detach {a s : State} (h : Kept a s) (x0 : Nat) (x1 : List Nat) : Kept a (State.detach x0 x1 s) := by
  unfold State.detach
  repeat' first | with_reducible assumption | intro _ | with_reducible apply Kept.each | with_reducible apply Kept.unlockWays | with_reducible apply Kept.logInst | with_reducible apply Kept.reviewRegions
theorem Kept.fillDead {a s : State} (h : Kept a s) (x0 : Nat) (x1 : Nat) : Kept a (State.fillDead x0 x1 s) := by
  unfold State.fillDead
  repeat' first | with_reducible assumption | intro _ | with_reducible apply Kept.logRec | with_reducible apply Kept.foldl | with_reducible apply Kept.foldl_snd | extract_lets | with_reducible refine Kept.ite ?_ ?_ | split
theorem Kept.newKey {a s : State} (h : Kept a s) (x0 : Nat) : Kept a (State.newKey x0 s) := by
  unfold State.newKey
  repeat' first | with_reducible assumption | intro _ | with_reducible apply Kept.drew | with_reducible apply Kept.modPart
theorem Kept.eraseNs {a s : State} (h : Kept a s) (x0 : Bool) (x1 : Ns) : Kept a (State.eraseNs x0 x1 s) := by
  unfold State.eraseNs
  repeat' first | with_reducible assumption | intro _ | with_reducible apply Kept.modPart | with_reducible apply Kept.zeroKey | with_reducible apply Kept.newKey | with_reducible apply Kept.unmapAll | with_reducible apply Kept.logRec | with_reducible apply Kept.foldl | with_reducible apply Kept.foldl_snd | extract_lets | with_reducible refine Kept.ite ?_ ?_
theorem Kept.eraseKeys {a s : State} (h : Kept a s) (x0 : Bool) (x1 : List Ns) : Kept a (State.eraseKeys x0 x1 s) := by
  unfold State.eraseKeys
  repeat' first | with_reducible assumption | intro _ | with_reducible apply Kept.rewriteKeys | with_reducible apply Kept.eraseNs | with_reducible apply Kept.foldl
theorem Kept.causeGone {a s : State} (h : Kept a s) (x0 : Nat) : Kept a (State.causeGone x0 s) := by
  unfold State.causeGone
  repeat' first | with_reducible assumption | intro _ | with_reducible apply Kept.modModes | with_reducible apply Kept.startBringup | with_reducible apply Kept.foldl | with_reducible apply Kept.foldl_snd | extract_lets | with_reducible refine Kept.ite ?_ ?_
theorem Kept.enterKeep {a s : State} (h : Kept a s) : Kept a (State.enterKeep s) := by
  unfold State.enterKeep
  repeat' first | with_reducible assumption | intro _ | with_reducible apply Kept.discard | with_reducible apply Kept.podsOff | with_reducible apply Kept.foldl | with_reducible apply Kept.foldl_snd | (with_reducible apply Kept.upd; first | with_reducible assumption | with_reducible apply Kept.discard | with_reducible apply Kept.podsOff | with_reducible apply Kept.foldl | with_reducible refine Kept.ite ?_ ?_)
theorem Kept.shutHot {a s : State} (h : Kept a s) : Kept a (State.shutHot s) := by
  unfold State.shutHot
  repeat' first | with_reducible assumption | intro _ | with_reducible apply Kept.each | with_reducible apply Kept.podTooHot | with_reducible apply Kept.causeArises | with_reducible apply Kept.foldl | with_reducible apply Kept.foldl_snd | extract_lets | with_reducible refine Kept.ite ?_ ?_
theorem Kept.formatMedia {a s : State} (h : Kept a s) (x0 : VoicingImage) : Kept a (State.formatMedia x0 s) := by
  unfold State.formatMedia
  repeat' first | with_reducible assumption | intro _ | with_reducible apply Kept.each | with_reducible apply Kept.zeroKey | with_reducible apply Kept.newSecret | with_reducible apply Kept.modPart | with_reducible apply Kept.placeFormat | with_reducible apply Kept.useImage | with_reducible apply Kept.freshMedia | with_reducible apply Kept.fillDead | with_reducible apply Kept.armVault | with_reducible apply Kept.newLayout | with_reducible apply Kept.setDegrade | with_reducible apply Kept.foldl | with_reducible apply Kept.foldl_snd | (with_reducible apply Kept.upd; first | with_reducible assumption | with_reducible apply Kept.each | with_reducible apply Kept.zeroKey | with_reducible apply Kept.newSecret | with_reducible apply Kept.modPart | with_reducible apply Kept.placeFormat | with_reducible apply Kept.useImage | with_reducible apply Kept.freshMedia | with_reducible apply Kept.fillDead | with_reducible apply Kept.armVault | with_reducible apply Kept.newLayout | with_reducible apply Kept.setDegrade | with_reducible apply Kept.foldl | with_reducible refine Kept.ite ?_ ?_)
theorem Kept.useSlot {a s : State} (h : Kept a s) (x0 : Nat) (x1 : Nat) (x2 : Nat) : Kept a (State.useSlot x0 x1 x2 s) := by
  unfold State.useSlot
  repeat' first | with_reducible assumption | intro _ | with_reducible apply Kept.modFlash | with_reducible apply Kept.useImage | with_reducible apply Kept.each | with_reducible apply Kept.report | with_reducible apply Kept.modPod | with_reducible apply Kept.allPorts | with_reducible apply Kept.fitLink | with_reducible apply Kept.foldl | with_reducible apply Kept.foldl_snd | extract_lets | with_reducible refine Kept.ite ?_ ?_ | split
theorem Kept.firstFormat {a s : State} (h : Kept a s) (x0 : RecoveryFound) : Kept a (State.firstFormat x0 s) := by
  unfold State.firstFormat
  repeat' first | with_reducible assumption | intro _ | with_reducible apply Kept.modDie | with_reducible apply Kept.newSecret | with_reducible apply Kept.placeFormat | with_reducible apply Kept.freshMedia | with_reducible apply Kept.foldl | with_reducible apply Kept.foldl_snd | (with_reducible apply Kept.upd; first | with_reducible assumption | with_reducible apply Kept.modDie | with_reducible apply Kept.newSecret | with_reducible apply Kept.placeFormat | with_reducible apply Kept.freshMedia | with_reducible apply Kept.foldl | with_reducible refine Kept.ite ?_ ?_)
theorem Kept.reopenInst {a s : State} (h : Kept a s) (x0 : Nat) : Kept a (State.reopenInst x0 s) := by
  unfold State.reopenInst
  repeat' first | with_reducible assumption | intro _ | with_reducible apply Kept.logInst | with_reducible apply Kept.modInst
theorem Kept.beginTrial {a s : State} (h : Kept a s) : Kept a (State.beginTrial s) := by
  unfold State.beginTrial
  repeat' first | with_reducible assumption | intro _ | with_reducible apply Kept.keepWrite | with_reducible apply Kept.foldl | with_reducible apply Kept.foldl_snd | extract_lets | with_reducible refine Kept.ite ?_ ?_
theorem Kept.releaseVault {a s : State} (h : Kept a s) : Kept a (State.releaseVault s) := by
  unfold State.releaseVault
  repeat' first | with_reducible assumption | intro _ | with_reducible apply Kept.keepWrite | with_reducible apply Kept.each | with_reducible apply Kept.logBand | with_reducible apply Kept.armVault | with_reducible apply Kept.foldl | with_reducible apply Kept.foldl_snd | (with_reducible apply Kept.upd; first | with_reducible assumption | with_reducible apply Kept.keepWrite | with_reducible apply Kept.each | with_reducible apply Kept.logBand | with_reducible apply Kept.armVault | with_reducible apply Kept.foldl | with_reducible refine Kept.ite ?_ ?_)
theorem Kept.managerEvent {a s : State} (h : Kept a s) (x0 : Nat) (x1 : Nat) (x2 : Nat) (x3 : Nat) : Kept a (State.managerEvent x0 x1 x2 x3 s) := by
  unfold State.managerEvent
  repeat' first | with_reducible assumption | intro _ | with_reducible apply Kept.postOutstanding | with_reducible apply Kept.report | with_reducible apply Kept.modHealth
theorem Kept.answerErase {a s : State} (h : Kept a s) (x0 : DevEpoch) : Kept a (State.answerErase x0 s) := by
  unfold State.answerErase
  repeat' first | with_reducible assumption | intro _ | with_reducible apply Kept.completeSealed | with_reducible apply Kept.modCtx | with_reducible apply Kept.foldl | with_reducible apply Kept.foldl_snd | extract_lets | with_reducible refine Kept.ite ?_ ?_ | split
theorem Kept.placePods {a s : State} (h : Kept a s) : Kept a (State.placePods s) := by
  unfold State.placePods
  repeat' first | with_reducible assumption | intro _ | with_reducible apply Kept.each | with_reducible apply Kept.modPod | with_reducible apply Kept.modLink | with_reducible apply Kept.emit | with_reducible apply Kept.podOff | with_reducible apply Kept.foldl | with_reducible apply Kept.foldl_snd | extract_lets | with_reducible refine Kept.ite ?_ ?_
theorem Kept.unboundReady {a s : State} (h : Kept a s) : Kept a (State.unboundReady s) := by
  unfold State.unboundReady
  repeat' first | with_reducible assumption | intro _ | with_reducible apply Kept.each | with_reducible apply Kept.modStop | with_reducible apply Kept.foldl | with_reducible apply Kept.foldl_snd | extract_lets | with_reducible refine Kept.ite ?_ ?_
theorem Kept.applyVoicing {a s : State} (h : Kept a s) (x0 : DevEpoch) (x1 : Nat) (x2 : Nat) (x3 : Nat) : Kept a (State.applyVoicing x0 x1 x2 x3 s) := by
  unfold State.applyVoicing
  repeat' first | with_reducible assumption | intro _ | with_reducible apply Kept.endDevEpoch | with_reducible apply Kept.keepWrite | with_reducible apply Kept.answerEpoch | with_reducible apply Kept.useSlot | with_reducible apply Kept.formatMedia | with_reducible apply Kept.setDegrade | with_reducible apply Kept.modModes | with_reducible apply Kept.allPorts | with_reducible apply Kept.fitZero | with_reducible apply Kept.setLimit | with_reducible apply Kept.eraseOwed | with_reducible apply Kept.countPods | with_reducible apply Kept.placePods | with_reducible apply Kept.unboundReady | with_reducible apply Kept.modFlash | with_reducible apply Kept.applyImage | with_reducible apply Kept.each | with_reducible apply Kept.retrain | with_reducible apply Kept.foldl | with_reducible apply Kept.foldl_snd | extract_lets | with_reducible refine Kept.ite ?_ ?_ | split
theorem Kept.commitActivation {a s : State} (h : Kept a s) (x0 : DevEpoch) (x1 : Keep → Keep) : Kept a (State.commitActivation x0 x1 s) := by
  unfold State.commitActivation
  repeat' first | with_reducible assumption | intro _ | with_reducible apply Kept.keepWrite | with_reducible apply Kept.modPart | with_reducible apply Kept.modModes
theorem Kept.decoded {a s : State} (h : Kept a s) (x0 : Op) (x1 : DecodeEnd) : Kept a (State.decoded x0 x1 s) := by
  unfold State.decoded
  repeat' first | with_reducible assumption | intro _ | with_reducible apply Kept.dropOp | with_reducible apply Kept.memberRead | with_reducible apply Kept.served | with_reducible apply Kept.handOver | with_reducible apply Kept.toStep4 | with_reducible apply Kept.report | with_reducible apply Kept.reread | with_reducible apply Kept.countStep | with_reducible apply Kept.foldl | with_reducible apply Kept.foldl_snd | extract_lets | with_reducible refine Kept.ite ?_ ?_ | split | dsimp +zetaDelta only
theorem Kept.rebuildEnd {a s : State} (h : Kept a s) (x0 : Rebuild) : Kept a (State.rebuildEnd x0 s) := by
  unfold State.rebuildEnd
  repeat' first | with_reducible assumption | intro _ | with_reducible apply Kept.healthEvent | with_reducible apply Kept.logRec | with_reducible apply Kept.setDegrade | with_reducible apply Kept.foldl | with_reducible apply Kept.foldl_snd | extract_lets | with_reducible refine Kept.ite ?_ ?_
theorem Kept.loseSlot {a s : State} (h : Kept a s) (x0 : Nat) (x1 : Nat) (x2 : Nat) (x3 : Nat) (x4 : List Nat) : Kept a (State.loseSlot x0 x1 x2 x3 x4 s).2 := by
  unfold State.loseSlot
  repeat' first | with_reducible assumption | intro _ | with_reducible apply Kept.deferError | with_reducible apply Kept.markUnit | with_reducible apply Kept.foldl | with_reducible apply Kept.foldl_snd | extract_lets | with_reducible refine Kept.ite ?_ ?_ | split
theorem Kept.loseSlot_eq {a s : State} (h : Kept a s) (x0 : Nat) (x1 : Nat) (x2 : Nat) (x3 : Nat) (x4 : List Nat) {r t} (e : State.loseSlot x0 x1 x2 x3 x4 s = (r, t)) : Kept a t := by
  have := Kept.loseSlot h x0 x1 x2 x3 x4; rw [e] at this; exact this
theorem Kept.placeSolved {a s : State} (h : Kept a s) (x0 : Rebuild) (x1 : Nat) : ∀ t, State.placeSolved x0 x1 s = some t → Kept a t := by
  unfold State.placeSolved
  intro t ht
  split at ht
  · cases ht; exact h
  · dsimp only at ht
    refine Kept.foldl_option _ _ none (fun x u w hx hu => ?_) (fun _ e => nomatch e) t ht
    split at hu
    · cases hu; exact hx _ rfl
    · split at hu
      · rename_i hp; cases hu
        exact ((Kept.placeUnit_eq (h := h) (e := hp) ..).modHealth _).setUnit ..
      · cases hu
theorem Kept.placeSolved_eq {a s : State} (h : Kept a s) (x0 : Rebuild) (x1 : Nat) {t} (e : State.placeSolved x0 x1 s = some t) : Kept a t := Kept.placeSolved h x0 x1 _ e
theorem Kept.rebuildShare {a s : State} (h : Kept a s) (x0 : Rebuild) (x1 : Nat) (x2 : Nat) (x3 : Nat) (x4 : Nat) : Kept a (State.rebuildShare x0 x1 x2 x3 x4 s) := by
  unfold State.rebuildShare
  repeat' first | with_reducible assumption | intro _ | with_reducible apply Kept.modHealth
theorem Kept.rebuildRow {a s : State} (h : Kept a s) (x0 : Rebuild) (x1 : Nat) (x2 : Nat) (x3 : Nat) (x4 : List SlotSolve) : ∀ t, State.rebuildRow x0 x1 x2 x3 x4 s = some t → Kept a t := by
  unfold State.rebuildRow
  intro t ht
  dsimp only at ht
  obtain ⟨u, hu, rfl⟩ := Option.map_eq_some_iff.mp ht
  refine Kept.rebuildLog (Kept.foldl _ _ (fun _ _ hk => hk.rebuildShare ..) (Kept.foldl _ _ (fun _ _ hk => hk.writeRecord ..) ?_)) ..
  refine Kept.foldl_option _ _ _ (fun x v w hx hv => ?_) (fun y e => ?_) u hu
  · split at hv
    · cases hv
    · split at hv
      · exact (hx _ rfl).placeSolved_eq (e := hv) ..
      · cases hv; exact hx _ rfl
  · cases e
    refine Kept.foldl_snd _ _ _ (fun p x hp => ?_) h
    split
    · exact hp.loseSlot ..
    · exact hp
theorem Kept.rebuildRow_eq {a s : State} (h : Kept a s) (x0 : Rebuild) (x1 : Nat) (x2 : Nat) (x3 : Nat) (x4 : List SlotSolve) {t} (e : State.rebuildRow x0 x1 x2 x3 x4 s = some t) : Kept a t := Kept.rebuildRow h x0 x1 x2 x3 x4 _ e
theorem Kept.noteLag {a s : State} (h : Kept a s) (x0 : Nat) (x1 : Nat) : Kept a (State.noteLag x0 x1 s) := by
  unfold State.noteLag
  repeat' first | with_reducible assumption | intro _ | with_reducible apply Kept.modDrone | with_reducible apply Kept.report | with_reducible apply Kept.foldl | with_reducible apply Kept.foldl_snd | extract_lets | with_reducible refine Kept.ite ?_ ?_
theorem Kept.testRow {a s : State} (h : Kept a s) (x0 : Bool) : Kept a (State.testRow x0 s) := by
  unfold State.testRow
  repeat' first | with_reducible assumption | intro _ | with_reducible apply Kept.modModes | with_reducible apply Kept.foldl | with_reducible apply Kept.foldl_snd | extract_lets | with_reducible refine Kept.ite ?_ ?_ | split
theorem Kept.computeEnd {a s : State} (h : Kept a s) (x0 : Nat) (x1 : OutFrame) (x2 : StopCmd) : Kept a (State.computeEnd x0 x1 x2 s) := by
  unfold State.computeEnd
  repeat' first | with_reducible assumption | intro _ | with_reducible apply Kept.xformFault | with_reducible apply Kept.endTag | with_reducible apply Kept.used | with_reducible apply Kept.modCtx | with_reducible apply Kept.complete | with_reducible apply Kept.askSpace | with_reducible apply Kept.checkDrain | with_reducible apply Kept.foldl | with_reducible apply Kept.foldl_snd | extract_lets | with_reducible refine Kept.ite ?_ ?_ | split | dsimp +zetaDelta only
theorem Kept.resume {a s : State} (h : Kept a s) (x0 : Nat) (x1 : Nat) : Kept a (State.resume x0 x1 s) := by
  unfold State.resume
  repeat' first | with_reducible assumption | intro _ | with_reducible apply Kept.complete | with_reducible apply Kept.finishRead | with_reducible apply Kept.modCtx | with_reducible apply Kept.streamWrite | with_reducible apply Kept.foldl | with_reducible apply Kept.foldl_snd | extract_lets | with_reducible refine Kept.ite ?_ ?_ | split
theorem Kept.startWaiting {a s : State} (h : Kept a s) (x0 : Nat) (x1 : List (StopGoal × Option Nat)) : Kept a (State.startWaiting x0 x1 s) := by
  unfold State.startWaiting
  repeat' first | with_reducible assumption | intro _ | with_reducible apply Kept.each | with_reducible apply Kept.complete | with_reducible apply Kept.modStop | with_reducible apply Kept.startEpoch | with_reducible apply Kept.foldl | with_reducible apply Kept.foldl_snd | extract_lets | with_reducible refine Kept.ite ?_ ?_ | split
theorem Kept.releaseStop {a s : State} (h : Kept a s) (x0 : Nat) (x1 : Bool) : Kept a (State.releaseStop x0 x1 s) := by
  unfold State.releaseStop
  repeat' first | with_reducible assumption | intro _ | with_reducible apply Kept.modStop | with_reducible apply Kept.report | with_reducible apply Kept.postVendor | with_reducible apply Kept.modCtx | with_reducible apply Kept.completeSealed | with_reducible apply Kept.resetChans | with_reducible apply Kept.each | with_reducible apply Kept.resume | with_reducible apply Kept.startWaiting | with_reducible apply Kept.foldl | with_reducible apply Kept.foldl_snd | extract_lets | with_reducible refine Kept.ite ?_ ?_ | split
theorem Kept.columnsChecked {a s : State} (h : Kept a s) (x0 : Nat) (x1 : List Nat) : Kept a (State.columnsChecked x0 x1 s) := by
  unfold State.columnsChecked
  repeat' first | with_reducible assumption | intro _ | with_reducible apply Kept.releaseStop | with_reducible apply Kept.modStop | with_reducible apply Kept.report | with_reducible apply Kept.logRec | with_reducible apply Kept.modSpares | with_reducible apply Kept.foldl | with_reducible apply Kept.foldl_snd | extract_lets | with_reducible refine Kept.ite ?_ ?_ | split | dsimp +zetaDelta only

end Sys2Proof.Machine
end

