-- ==== Sys2Proof/Laws/KeptCommands.lean ====
section
/-! SUPPORT. One lemma for each command's meaning: it answers a next state, and keeps the journal's invariant, the queue and the fuses. -/
namespace Sys2Proof.Machine
theorem execPerstDeassert_kept {a s : State} (h : Kept a s) (x0 : PortId) : KeptX a (execPerstDeassert x0 s) := by
  unfold execPerstDeassert
  repeat' first | with_reducible assumption | intro _ | with_reducible apply Kept.modPort | with_reducible apply Kept.foldl | with_reducible apply Kept.foldl_snd | with_reducible apply KeptX.next
theorem execBringupFinalRound_kept {a s : State} (h : Kept a s) (x0 : Sample) (x1 : List StopId) : KeptX a (execBringupFinalRound x0 x1 s) := by
  unfold execBringupFinalRound
  repeat' first | with_reducible assumption | intro _ | with_reducible apply Kept.takeSample | with_reducible apply Kept.enterSafe | with_reducible apply Kept.setDegrade | with_reducible apply Kept.reviewMute | with_reducible apply Kept.setStep | with_reducible apply Kept.each | with_reducible apply Kept.bringStop | with_reducible apply Kept.foldl | with_reducible apply Kept.foldl_snd | with_reducible apply KeptX.next | extract_lets | with_reducible refine Kept.ite ?_ ?_ | split
theorem execPllRetry_kept {a s : State} (h : Kept a s) (x0 : Bool) (x1 : Bool) : KeptX a (execPllRetry x0 x1 s) := by
  unfold execPllRetry
  repeat' first | with_reducible assumption | intro _ | with_reducible apply Kept.modPart | with_reducible apply Kept.startFlush | with_reducible apply Kept.foldl | with_reducible apply Kept.foldl_snd | with_reducible apply KeptX.next | extract_lets | with_reducible refine Kept.ite ?_ ?_ | split
theorem execPasidEnableClear_kept {a s : State} (h : Kept a s) (x0 : PortId) : KeptX a (execPasidEnableClear x0 s) := by
  unfold execPasidEnableClear
  repeat' first | with_reducible assumption | intro _ | with_reducible apply Kept.clearPasid | with_reducible apply Kept.emit | with_reducible apply Kept.foldl | with_reducible apply Kept.foldl_snd | with_reducible apply KeptX.next | extract_lets | with_reducible refine Kept.ite ?_ ?_
theorem execUnbindStop_kept {a s : State} (h : Kept a s) (x0 : Nat) : KeptX a (execUnbindStop x0 s) := by
  unfold execUnbindStop
  repeat' first | with_reducible assumption | intro _ | with_reducible apply Kept.boundary | with_reducible apply Kept.complete | with_reducible apply Kept.startEpoch | with_reducible apply Kept.modCtx | with_reducible apply Kept.foldl | with_reducible apply Kept.foldl_snd | with_reducible apply KeptX.next | extract_lets | with_reducible refine Kept.ite ?_ ?_ | split
theorem execRead_kept {a s : State} (h : Kept a s) (x0 : Nat) : KeptX a (execRead x0 s) := by
  unfold execRead
  repeat' first | with_reducible assumption | intro _ | with_reducible apply Kept.io | with_reducible apply Kept.beginRead | with_reducible apply Kept.foldl | with_reducible apply Kept.foldl_snd | with_reducible apply KeptX.next
theorem execDmEnableWrite_kept {a s : State} (h : Kept a s) (x0 : MoverId) (x1 : ChanId) (x2 : Bool) : KeptX a (execDmEnableWrite x0 x1 x2 s) := by
  unfold execDmEnableWrite
  repeat' first | with_reducible assumption | intro _ | with_reducible apply Kept.onChan | with_reducible apply Kept.writeEnable | with_reducible apply Kept.foldl | with_reducible apply Kept.foldl_snd | with_reducible apply KeptX.next
theorem execClearBackupWarning_kept {a s : State} (h : Kept a s) (x0 : MbHdr) : KeptX a (execClearBackupWarning x0 s) := by
  unfold execClearBackupWarning
  repeat' first | with_reducible assumption | intro _ | with_reducible apply Kept.mailbox | with_reducible apply Kept.foldl | with_reducible apply Kept.foldl_snd | with_reducible apply KeptX.next
theorem execMctpVdmMessage_kept {a s : State} (h : Kept a s) (x0 : PortId) (x1 : MiRequest) : KeptX a (execMctpVdmMessage x0 x1 s) := by
  unfold execMctpVdmMessage
  repeat' first | with_reducible assumption | intro _ | with_reducible apply Kept.miServe | with_reducible apply Kept.foldl | with_reducible apply Kept.foldl_snd | with_reducible apply KeptX.next | extract_lets | with_reducible refine Kept.ite ?_ ?_
theorem execDeviceSelfTestExtended_kept {a s : State} (h : Kept a s) (x0 : Nat) : KeptX a (execDeviceSelfTestExtended x0 s) := by
  unfold execDeviceSelfTestExtended
  repeat' first | with_reducible assumption | intro _ | with_reducible apply Kept.selfTestOf | with_reducible apply Kept.complete | with_reducible apply Kept.modModes | with_reducible apply Kept.enterQuiesce | with_reducible apply Kept.foldl | with_reducible apply Kept.foldl_snd | with_reducible apply KeptX.next | extract_lets | with_reducible refine Kept.ite ?_ ?_
theorem execCcEnSet_kept {a s : State} (h : Kept a s) (x0 : PortId) (x1 : Nat) (x2 : Nat) (x3 : Nat) (x4 : Nat) (x5 : Nat) : KeptX a (execCcEnSet x0 x1 x2 x3 x4 x5 s) := by
  unfold execCcEnSet
  repeat' first | with_reducible assumption | intro _ | with_reducible apply Kept.modPort | with_reducible apply Kept.reviewPs | with_reducible apply Kept.adminQueues | with_reducible apply Kept.foldl | with_reducible apply Kept.foldl_snd | with_reducible apply KeptX.next | extract_lets | with_reducible refine Kept.ite ?_ ?_ | split
theorem execComputeCopy_kept {a s : State} (h : Kept a s) (x0 : Nat) : KeptX a (execComputeCopy x0 s) := by
  unfold execComputeCopy
  repeat' first | with_reducible assumption | intro _ | with_reducible apply Kept.io | with_reducible apply Kept.complete | with_reducible apply Kept.beginRead | with_reducible apply Kept.foldl | with_reducible apply Kept.foldl_snd | with_reducible apply KeptX.next | extract_lets | with_reducible refine Kept.ite ?_ ?_ | split
theorem execHotReset_kept {a s : State} (h : Kept a s) (x0 : PortId) : KeptX a (execHotReset x0 s) := by
  unfold execHotReset
  repeat' first | with_reducible assumption | intro _ | with_reducible apply Kept.modPort | with_reducible apply Kept.ctlReset | with_reducible apply Kept.foldl | with_reducible apply Kept.foldl_snd | with_reducible apply KeptX.next | extract_lets | with_reducible refine Kept.ite ?_ ?_ | split
theorem execModuleResetAssert_kept {a s : State} (h : Kept a s) : KeptX a (execModuleResetAssert s) := by
  unfold execModuleResetAssert
  repeat' first | with_reducible assumption | intro _ | with_reducible apply Kept.modModes | with_reducible apply Kept.startBringup | with_reducible apply Kept.podsOff | with_reducible apply Kept.startFlush | with_reducible apply Kept.allPorts | with_reducible apply Kept.modPort | with_reducible apply Kept.foldl | with_reducible apply Kept.foldl_snd | with_reducible apply KeptX.next | extract_lets | with_reducible refine Kept.ite ?_ ?_ | split
theorem execFormatNvm_kept {a s : State} (h : Kept a s) (x0 : Nat) : KeptX a (execFormatNvm x0 s) := by
  unfold execFormatNvm
  repeat' first | with_reducible assumption | intro _ | with_reducible apply Kept.adminWait | with_reducible apply Kept.completeBad | with_reducible apply Kept.complete | with_reducible apply Kept.modCtx | with_reducible apply Kept.awaitSeal | with_reducible apply Kept.formatNs | with_reducible apply Kept.foldl | with_reducible apply Kept.foldl_snd | with_reducible apply KeptX.next | extract_lets | with_reducible refine Kept.ite ?_ ?_ | split
theorem execBellowsTestMeasured_kept {a s : State} (h : Kept a s) (x0 : Nat) (x1 : Nat) (x2 : Bool) : KeptX a (execBellowsTestMeasured x0 x1 x2 s) := by
  unfold execBellowsTestMeasured
  repeat' first | with_reducible assumption | intro _ | with_reducible apply Kept.modPw | with_reducible apply Kept.setLimit | with_reducible apply Kept.modCache | with_reducible apply Kept.report | with_reducible apply Kept.keepWrite | with_reducible apply Kept.healthEvent | with_reducible apply Kept.foldl | with_reducible apply Kept.foldl_snd | with_reducible apply KeptX.next | extract_lets | with_reducible refine Kept.ite ?_ ?_ | split
theorem execRootPllLossOfLock_kept {a s : State} (h : Kept a s) : KeptX a (execRootPllLossOfLock s) := by
  unfold execRootPllLossOfLock
  repeat' first | with_reducible assumption | intro _ | with_reducible apply Kept.clockFault | with_reducible apply Kept.foldl | with_reducible apply Kept.foldl_snd | with_reducible apply KeptX.next
theorem execDeviceSelfTestShort_kept {a s : State} (h : Kept a s) (x0 : Nat) : KeptX a (execDeviceSelfTestShort x0 s) := by
  unfold execDeviceSelfTestShort
  repeat' first | with_reducible assumption | intro _ | with_reducible apply Kept.selfTestOf | with_reducible apply Kept.complete | with_reducible apply Kept.modModes | with_reducible apply Kept.foldl | with_reducible apply Kept.foldl_snd | with_reducible apply KeptX.next | extract_lets | with_reducible refine Kept.ite ?_ ?_
theorem execReadOffsetCalibration_kept {a s : State} (h : Kept a s) (x0 : LinkId) (x1 : Fin 18) (x2 : Nat) : KeptX a (execReadOffsetCalibration x0 x1 x2 s) := by
  unfold execReadOffsetCalibration
  repeat' first | with_reducible assumption | intro _ | with_reducible apply Kept.drew | with_reducible apply Kept.modDie | with_reducible apply Kept.sendOffsets | with_reducible apply Kept.foldl | with_reducible apply Kept.foldl_snd | with_reducible apply KeptX.next | extract_lets | with_reducible refine Kept.ite ?_ ?_ | split
theorem execDieOpTimeout_kept {a s : State} (h : Kept a s) (x0 : LinkId) (x1 : Fin 18) : KeptX a (execDieOpTimeout x0 x1 s) := by
  unfold execDieOpTimeout
  repeat' first | with_reducible assumption | intro _ | with_reducible apply Kept.failDie | with_reducible apply Kept.notBefore | with_reducible apply Kept.suspectDie | with_reducible apply Kept.modOp | with_reducible apply Kept.programEnded | with_reducible apply Kept.addOp | with_reducible apply Kept.retry | with_reducible apply Kept.foldl | with_reducible apply Kept.foldl_snd | with_reducible apply KeptX.next | extract_lets | with_reducible refine Kept.ite ?_ ?_ | split | dsimp +zetaDelta only
theorem execPodDescriptorRead_kept {a s : State} (h : Kept a s) (x0 : List (LinkId × PodDesc)) : KeptX a (execPodDescriptorRead x0 s) := by
  unfold execPodDescriptorRead
  repeat' first | with_reducible assumption | intro _ | with_reducible apply Kept.modPod | with_reducible apply Kept.report | with_reducible apply Kept.setStep | with_reducible apply Kept.foldl | with_reducible apply Kept.foldl_snd | with_reducible apply KeptX.next | (with_reducible apply Kept.upd; first | with_reducible assumption | with_reducible apply Kept.modPod | with_reducible apply Kept.report | with_reducible apply Kept.setStep | with_reducible apply Kept.foldl | with_reducible refine Kept.ite ?_ ?_) | extract_lets | with_reducible refine Kept.ite ?_ ?_ | split
theorem execLadderUnitRewrite_kept {a s : State} (h : Kept a s) (x0 : Nat) : KeptX a (execLadderUnitRewrite x0 s) := by
  unfold execLadderUnitRewrite
  dsimp only
  split
  · exact .next h
  · split
    · split
      · exact .next (h.modHealth _)
      · split
        · rename_i hp
          refine .next (Kept.setUnit (Kept.modHealth ?_ _) ..)
          exact Kept.ite (fun _ => (Kept.placeUnit_eq (h := h) (e := hp) ..).modGroup ..) (fun _ => Kept.placeUnit_eq (h := h) (e := hp) ..)
        · exact .next h
    · exact .next (h.modHealth _)
theorem execAdmissionRound_kept {a s : State} (h : Kept a s) (x0 : QuadId) : KeptX a (execAdmissionRound x0 s) := by
  unfold execAdmissionRound
  repeat' first | with_reducible assumption | intro _ | with_reducible apply Kept.modInst | with_reducible apply Kept.admitWhile | refine Kept.admitWhile_eq (h := ?_) (e := by with_reducible assumption) .. | with_reducible apply Kept.each | with_reducible apply Kept.admitCmd | with_reducible apply Kept.foldl | with_reducible apply Kept.foldl_snd | with_reducible apply KeptX.next | extract_lets | with_reducible refine Kept.ite ?_ ?_ | split
theorem execBindStop_kept {a s : State} (h : Kept a s) (x0 : Nat) : KeptX a (execBindStop x0 s) := by
  unfold execBindStop
  repeat' first | with_reducible assumption | intro _ | with_reducible apply Kept.boundary | with_reducible apply Kept.complete | with_reducible apply Kept.logRec | with_reducible apply Kept.logInst | with_reducible apply Kept.awaitSeal | with_reducible apply Kept.modStop | with_reducible apply Kept.foldl | with_reducible apply Kept.foldl_snd | with_reducible apply KeptX.next | extract_lets | with_reducible refine Kept.ite ?_ ?_ | split
theorem execMcInvalidate_kept {a s : State} (h : Kept a s) : KeptX a (execMcInvalidate s) := by
  unfold execMcInvalidate
  repeat' first | with_reducible assumption | intro _ | with_reducible apply Kept.maintCmd | with_reducible apply Kept.foldl | with_reducible apply Kept.foldl_snd | with_reducible apply KeptX.next
theorem execGetLogUpdateState_kept {a s : State} (h : Kept a s) (x0 : Nat) : KeptX a (execGetLogUpdateState x0 s) := by
  unfold execGetLogUpdateState
  repeat' first | with_reducible assumption | intro _ | with_reducible apply Kept.getLog | with_reducible apply Kept.sendPage | with_reducible apply Kept.foldl | with_reducible apply Kept.foldl_snd | with_reducible apply KeptX.next
theorem execProxyAdmin_kept {a s : State} (h : Kept a s) (x0 : Nat) : KeptX a (execProxyAdmin x0 s) := by
  unfold execProxyAdmin
  repeat' first | with_reducible assumption | intro _ | with_reducible apply Kept.admin | with_reducible apply slotChecks_kept | with_reducible apply Kept.complete | with_reducible apply Kept.deleteSq | with_reducible apply Kept.createSq | with_reducible apply Kept.deleteCq | with_reducible apply Kept.createCq | with_reducible apply Kept.proxyLog | with_reducible apply Kept.proxyIdentify | with_reducible apply Kept.proxyAbort | with_reducible apply Kept.proxySet | with_reducible apply Kept.proxyGet | with_reducible apply Kept.foldl | with_reducible apply Kept.foldl_snd | with_reducible apply KeptX.next | extract_lets | with_reducible refine Kept.ite ?_ ?_ | split
theorem execLinkFrameReceived_kept {a s : State} (h : Kept a s) (x0 : LinkId) (x1 : LinkFrame) : KeptX a (execLinkFrameReceived x0 x1 s) := by
  unfold execLinkFrameReceived
  repeat' first | with_reducible assumption | intro _ | with_reducible apply Kept.countFec | with_reducible apply Kept.retry | with_reducible apply Kept.nakFrame | with_reducible apply Kept.modLink | with_reducible apply Kept.violRecovery | with_reducible apply Kept.podViolation | with_reducible apply Kept.ackFrame | with_reducible apply Kept.podMsg | with_reducible apply Kept.podUnit | with_reducible apply Kept.foldl | with_reducible apply Kept.foldl_snd | with_reducible apply KeptX.next | extract_lets | with_reducible refine Kept.ite ?_ ?_ | split
theorem execDmNop_kept {a s : State} (h : Kept a s) (x0 : MoverId) (x1 : ChanId) : KeptX a (execDmNop x0 x1 s) := by
  unfold execDmNop
  repeat' first | with_reducible assumption | intro _ | with_reducible apply Kept.takeDesc | with_reducible apply Kept.foldl | with_reducible apply Kept.foldl_snd | with_reducible apply KeptX.next
theorem execBrownoutWatchExit_kept {a s : State} (h : Kept a s) : KeptX a (execBrownoutWatchExit s) := by
  unfold execBrownoutWatchExit
  repeat' first | with_reducible assumption | intro _ | with_reducible apply Kept.modPw | with_reducible apply Kept.report | with_reducible apply Kept.refreshHeld | with_reducible apply Kept.modCache | with_reducible apply Kept.foldl | with_reducible apply Kept.foldl_snd | with_reducible apply KeptX.next | extract_lets | with_reducible refine Kept.ite ?_ ?_ | split
theorem execFunctionLevelReset_kept {a s : State} (h : Kept a s) (x0 : PortId) : KeptX a (execFunctionLevelReset x0 s) := by
  unfold execFunctionLevelReset
  repeat' first | with_reducible assumption | intro _ | with_reducible apply Kept.ctlReset | with_reducible apply Kept.foldl | with_reducible apply Kept.foldl_snd | with_reducible apply KeptX.next
theorem execBaySwitchIbi_kept {a s : State} (h : Kept a s) (x0 : LinkId) (x1 : BayStatus) : KeptX a (execBaySwitchIbi x0 x1 s) := by
  unfold execBaySwitchIbi
  repeat' first | with_reducible assumption | intro _ | with_reducible apply Kept.bayStatus | with_reducible apply Kept.foldl | with_reducible apply Kept.foldl_snd | with_reducible apply KeptX.next
theorem execSqTailDoorbell_kept {a s : State} (h : Kept a s) (x0 : PortId) (x1 : DoorbellAt) (x2 : Bool) (x3 : Nat) : KeptX a (execSqTailDoorbell x0 x1 x2 x3 s) := by
  unfold execSqTailDoorbell
  repeat' first | with_reducible assumption | intro _ | with_reducible apply Kept.doorbell | with_reducible apply Kept.badDoorbell | with_reducible apply Kept.modInst | with_reducible apply Kept.foldl | with_reducible apply Kept.foldl_snd | with_reducible apply KeptX.next | (with_reducible apply Kept.upd; first | with_reducible assumption | with_reducible apply Kept.doorbell | with_reducible apply Kept.badDoorbell | with_reducible apply Kept.modInst | with_reducible apply Kept.foldl | with_reducible refine Kept.ite ?_ ?_) | extract_lets | with_reducible refine Kept.ite ?_ ?_ | split
theorem execDmRingTailWrite_kept {a s : State} (h : Kept a s) (x0 : MoverId) (x1 : ChanId) (x2 : Nat) (x3 : List (Nat × MvDesc)) : KeptX a (execDmRingTailWrite x0 x1 x2 x3 s) := by
  unfold execDmRingTailWrite
  repeat' first | with_reducible assumption | intro _ | with_reducible apply Kept.onChan | with_reducible apply Kept.writeTail | with_reducible apply Kept.foldl | with_reducible apply Kept.foldl_snd | with_reducible apply KeptX.next
theorem execChanterIssue_kept {a s : State} (h : Kept a s) (x0 : LinkId) (x1 : Fin 18) : KeptX a (execChanterIssue x0 x1 s) := by
  unfold execChanterIssue
  repeat' first | with_reducible assumption | intro _ | with_reducible apply Kept.modDie | with_reducible apply Kept.issue | with_reducible apply Kept.resumeOp | with_reducible apply Kept.considerSuspend | with_reducible apply Kept.foldl | with_reducible apply Kept.foldl_snd | with_reducible apply KeptX.next | extract_lets | with_reducible refine Kept.ite ?_ ?_ | split
theorem execRegisterWrite_kept {a s : State} (h : Kept a s) (x0 : Writer) (x1 : Nat) (x2 : W64) : KeptX a (execRegisterWrite x0 x1 x2 s) := by
  unfold execRegisterWrite
  repeat' first | with_reducible assumption | intro _ | with_reducible apply Kept.writeReg | with_reducible apply Kept.foldl | with_reducible apply Kept.foldl_snd | with_reducible apply KeptX.next | extract_lets | with_reducible refine Kept.ite ?_ ?_ | split
theorem execMaintenanceHoldExpiry_kept {a s : State} (h : Kept a s) : KeptX a (execMaintenanceHoldExpiry s) := by
  unfold execMaintenanceHoldExpiry
  repeat' first | with_reducible assumption | intro _ | with_reducible apply Kept.endHold | with_reducible apply Kept.notBefore | with_reducible apply Kept.foldl | with_reducible apply Kept.foldl_snd | with_reducible apply KeptX.next | extract_lets | with_reducible refine Kept.ite ?_ ?_ | split
theorem execSetFeaturesAsyncEventConfig_kept {a s : State} (h : Kept a s) (x0 : Nat) : KeptX a (execSetFeaturesAsyncEventConfig x0 s) := by
  unfold execSetFeaturesAsyncEventConfig
  repeat' first | with_reducible assumption | intro _ | with_reducible apply Kept.keepFeature | with_reducible apply Kept.foldl | with_reducible apply Kept.foldl_snd | with_reducible apply KeptX.next
theorem execFlashOperationComplete_kept {a s : State} (h : Kept a s) (x0 : Fin 2) : KeptX a (execFlashOperationComplete x0 s) := by
  unfold execFlashOperationComplete
  repeat' first | with_reducible assumption | intro _ | with_reducible apply Kept.modBank | with_reducible apply Kept.blockProgrammed | with_reducible apply Kept.foldl | with_reducible apply Kept.foldl_snd | with_reducible apply KeptX.next | extract_lets | with_reducible refine Kept.ite ?_ ?_ | split
theorem execActivationServe_kept {a s : State} (h : Kept a s) : KeptX a (execActivationServe s) := by
  unfold execActivationServe
  repeat' first | with_reducible assumption | intro _ | with_reducible apply Kept.spRestartComplete | with_reducible apply Kept.keepWrite | with_reducible apply Kept.modPart | with_reducible apply Kept.modFlash | with_reducible apply Kept.endDevEpoch | with_reducible apply Kept.answerEpoch | with_reducible apply Kept.reportResult | with_reducible apply Kept.foldl | with_reducible apply Kept.foldl_snd | with_reducible apply KeptX.next | extract_lets | with_reducible refine Kept.ite ?_ ?_ | split | dsimp +zetaDelta only
theorem execBrownoutGraceExpiry_kept {a s : State} (h : Kept a s) : KeptX a (execBrownoutGraceExpiry s) := by
  unfold execBrownoutGraceExpiry
  repeat' first | with_reducible assumption | intro _ | with_reducible apply Kept.refreshHeld | with_reducible apply Kept.modCache | with_reducible apply Kept.notBefore | with_reducible apply Kept.foldl | with_reducible apply Kept.foldl_snd | with_reducible apply KeptX.next | extract_lets | with_reducible refine Kept.ite ?_ ?_
theorem execCreateInstance_kept {a s : State} (h : Kept a s) (x0 : Nat) : KeptX a (execCreateInstance x0 s) := by
  unfold execCreateInstance
  repeat' first | with_reducible assumption | intro _ | with_reducible apply Kept.boundary | with_reducible apply Kept.complete | with_reducible apply Kept.logInst | with_reducible refine Kept.modJrn ?_ _ (fun _ => rfl) (fun _ => rfl) | with_reducible apply Kept.modInst | with_reducible apply Kept.awaitSeal | with_reducible apply Kept.reviewRegions | with_reducible apply Kept.foldl | with_reducible apply Kept.foldl_snd | with_reducible apply KeptX.next | extract_lets | with_reducible refine Kept.ite ?_ ?_ | split
theorem execJournalSealCommit_kept {a s : State} (h : Kept a s) : KeptX a (execJournalSealCommit s) := by
  unfold execJournalSealCommit
  repeat' first | with_reducible assumption | intro _ | with_reducible apply Kept.commitSeal | with_reducible apply Kept.foldl | with_reducible apply Kept.foldl_snd | with_reducible apply KeptX.next | extract_lets | with_reducible refine Kept.ite ?_ ?_
theorem execGetChallenge_kept {a s : State} (h : Kept a s) (x0 : MbHdr) (x1 : BitVec 384) : KeptX a (execGetChallenge x0 x1 s) := by
  unfold execGetChallenge
  repeat' first | with_reducible assumption | intro _ | with_reducible apply Kept.mailbox | with_reducible apply Kept.foldl | with_reducible apply Kept.foldl_snd | with_reducible apply KeptX.next
theorem execBootFlashRead_kept {a s : State} (h : Kept a s) (x0 : Fin 2) (x1 : Nat) : KeptX a (execBootFlashRead x0 x1 s) := by
  unfold execBootFlashRead
  repeat' first | with_reducible assumption | intro _ | with_reducible apply Kept.report | with_reducible apply Kept.emit | with_reducible apply Kept.drew | with_reducible apply Kept.foldl | with_reducible apply Kept.foldl_snd | with_reducible apply KeptX.next | extract_lets | with_reducible refine Kept.ite ?_ ?_ | split
theorem execStopDataOut_kept {a s : State} (h : Kept a s) (x0 : StopId) (x1 : OutFrame) : KeptX a (execStopDataOut x0 x1 s) := by
  unfold execStopDataOut
  repeat' first | with_reducible assumption | intro _ | with_reducible apply Kept.egress | with_reducible apply Kept.ofCommand | with_reducible apply Kept.xformOut | with_reducible apply Kept.computeOut | with_reducible apply Kept.foldl | with_reducible apply Kept.foldl_snd | with_reducible apply KeptX.next | extract_lets | with_reducible refine Kept.ite ?_ ?_
theorem execPodPresenceChange_kept {a s : State} (h : Kept a s) (x0 : LinkId) (x1 : Bool) (x2 : Option PodDesc) : KeptX a (execPodPresenceChange x0 x1 x2 s) := by
  unfold execPodPresenceChange
  repeat' first | with_reducible assumption | intro _ | with_reducible apply Kept.modPod | with_reducible apply Kept.linkDead | with_reducible apply Kept.retry | with_reducible apply Kept.failPod | with_reducible apply Kept.report | with_reducible apply Kept.emit | with_reducible apply Kept.modLink | with_reducible apply Kept.foldl | with_reducible apply Kept.foldl_snd | with_reducible apply KeptX.next | extract_lets | with_reducible refine Kept.ite ?_ ?_ | split
theorem execMoverNoProgress_kept {a s : State} (h : Kept a s) (x0 : MoverId) : KeptX a (execMoverNoProgress x0 s) := by
  unfold execMoverNoProgress
  repeat' first | with_reducible assumption | intro _ | with_reducible apply Kept.modSpares | with_reducible apply Kept.each | with_reducible apply Kept.modChan | with_reducible apply Kept.packageSpare | with_reducible apply Kept.report | with_reducible apply Kept.haltChan | with_reducible apply Kept.foldl | with_reducible apply Kept.foldl_snd | with_reducible apply KeptX.next | extract_lets | with_reducible refine Kept.ite ?_ ?_ | split
theorem execChallengeExpiry_kept {a s : State} (h : Kept a s) (x0 : Fin 8) : KeptX a (execChallengeExpiry x0 s) := by
  unfold execChallengeExpiry
  repeat' first | with_reducible assumption | intro _ | with_reducible apply Kept.challengeExpiry | with_reducible apply Kept.notBefore | with_reducible apply Kept.foldl | with_reducible apply Kept.foldl_snd | with_reducible apply KeptX.next | extract_lets | with_reducible refine Kept.ite ?_ ?_ | split
theorem execKeepCellCheck_kept {a s : State} (h : Kept a s) (x0 : Nat) : KeptX a (execKeepCellCheck x0 s) := by
  unfold execKeepCellCheck
  repeat' first | with_reducible assumption | intro _ | with_reducible apply Kept.cellCheck | with_reducible apply Kept.foldl | with_reducible apply Kept.foldl_snd | with_reducible apply KeptX.next | extract_lets | with_reducible refine Kept.ite ?_ ?_
theorem execBellowsSwitchConnect_kept {a s : State} (h : Kept a s) (x0 : Bool) : KeptX a (execBellowsSwitchConnect x0 s) := by
  unfold execBellowsSwitchConnect
  repeat' first | with_reducible assumption | intro _ | with_reducible apply Kept.modPw | with_reducible apply Kept.foldl | with_reducible apply Kept.foldl_snd | with_reducible apply KeptX.next | extract_lets | with_reducible refine Kept.ite ?_ ?_
theorem execT1MissFillComplete_kept {a s : State} (h : Kept a s) (x0 : SliceId) : KeptX a (execT1MissFillComplete x0 s) := by
  unfold execT1MissFillComplete
  repeat' first | with_reducible assumption | intro _ | with_reducible apply Kept.modSlice | with_reducible apply Kept.retry | with_reducible apply Kept.fill | with_reducible apply Kept.park | with_reducible apply Kept.countParks | with_reducible apply Kept.foldl | with_reducible apply Kept.foldl_snd | with_reducible apply KeptX.next | extract_lets | with_reducible refine Kept.ite ?_ ?_ | split
theorem execGetLogModuleState_kept {a s : State} (h : Kept a s) (x0 : Nat) : KeptX a (execGetLogModuleState x0 s) := by
  unfold execGetLogModuleState
  repeat' first | with_reducible assumption | intro _ | with_reducible apply Kept.getLog | with_reducible apply Kept.modPort | with_reducible apply Kept.sendPage | with_reducible apply Kept.pageRead | with_reducible apply Kept.foldl | with_reducible apply Kept.foldl_snd | with_reducible apply KeptX.next | extract_lets | with_reducible refine Kept.ite ?_ ?_
theorem execGetLogEventJournal_kept {a s : State} (h : Kept a s) (x0 : Nat) : KeptX a (execGetLogEventJournal x0 s) := by
  unfold execGetLogEventJournal
  repeat' first | with_reducible assumption | intro _ | with_reducible apply Kept.getLog | with_reducible apply Kept.complete | with_reducible apply Kept.toHost | with_reducible apply Kept.foldl | with_reducible apply Kept.foldl_snd | with_reducible apply KeptX.next | extract_lets | with_reducible refine Kept.ite ?_ ?_
theorem execFlushDumpComplete_kept {a s : State} (h : Kept a s) : KeptX a (execFlushDumpComplete s) := by
  unfold execFlushDumpComplete
  repeat' first | with_reducible assumption | intro _ | with_reducible apply Kept.each | with_reducible apply Kept.dumpWithout | with_reducible apply Kept.keepWrite | with_reducible apply Kept.modModes | with_reducible apply Kept.modPart | with_reducible apply Kept.endFlush | with_reducible apply Kept.foldl | with_reducible apply Kept.foldl_snd | with_reducible apply KeptX.next | (with_reducible apply Kept.upd; first | with_reducible assumption | with_reducible apply Kept.each | with_reducible apply Kept.dumpWithout | with_reducible apply Kept.keepWrite | with_reducible apply Kept.modModes | with_reducible apply Kept.modPart | with_reducible apply Kept.endFlush | with_reducible apply Kept.foldl | with_reducible refine Kept.ite ?_ ?_) | extract_lets | with_reducible refine Kept.ite ?_ ?_ | split
theorem execWearLevelling_kept {a s : State} (h : Kept a s) (x0 : Fin 16) (x1 : Fin 16) : KeptX a (execWearLevelling x0 x1 s) := by
  unfold execWearLevelling
  repeat' first | with_reducible assumption | intro _ | with_reducible apply Kept.startReloc | with_reducible apply Kept.foldl | with_reducible apply Kept.foldl_snd | with_reducible apply KeptX.next | extract_lets | with_reducible refine Kept.ite ?_ ?_ | split
theorem execFormatNvmAll_kept {a s : State} (h : Kept a s) (x0 : Nat) : KeptX a (execFormatNvmAll x0 s) := by
  unfold execFormatNvmAll
  repeat' first | with_reducible assumption | intro _ | with_reducible apply Kept.admin | with_reducible apply Kept.completeBad | with_reducible apply Kept.askEpoch | with_reducible apply Kept.foldl | with_reducible apply Kept.foldl_snd | with_reducible apply KeptX.next | extract_lets | with_reducible refine Kept.ite ?_ ?_
theorem execMemoryScrub_kept {a s : State} (h : Kept a s) (x0 : ScrubHit) : KeptX a (execMemoryScrub x0 s) := by
  unfold execMemoryScrub
  repeat' first | with_reducible assumption | intro _ | with_reducible apply Kept.modSpares | with_reducible apply Kept.report | with_reducible apply Kept.logRec | with_reducible apply Kept.modCache | with_reducible apply Kept.modLine | with_reducible apply Kept.wayError | with_reducible apply Kept.modCtx | with_reducible apply Kept.complete | with_reducible apply Kept.foldl | with_reducible apply Kept.foldl_snd | with_reducible apply KeptX.next | extract_lets | with_reducible refine Kept.ite ?_ ?_ | split
theorem execChangeShare_kept {a s : State} (h : Kept a s) (x0 : Nat) : KeptX a (execChangeShare x0 s) := by
  unfold execChangeShare
  repeat' first | with_reducible assumption | intro _ | with_reducible apply Kept.boundary | with_reducible apply Kept.startChange | with_reducible apply Kept.foldl | with_reducible apply Kept.foldl_snd | with_reducible apply KeptX.next
theorem execD3hotEntry_kept {a s : State} (h : Kept a s) (x0 : PortId) : KeptX a (execD3hotEntry x0 s) := by
  unfold execD3hotEntry
  repeat' first | with_reducible assumption | intro _ | with_reducible apply Kept.modPort | with_reducible apply Kept.foldl | with_reducible apply Kept.foldl_snd | with_reducible apply KeptX.next
theorem execReadIdentity_kept {a s : State} (h : Kept a s) (x0 : MbHdr) : KeptX a (execReadIdentity x0 s) := by
  unfold execReadIdentity
  repeat' first | with_reducible assumption | intro _ | with_reducible apply Kept.mailbox | with_reducible apply Kept.foldl | with_reducible apply Kept.foldl_snd | with_reducible apply KeptX.next
theorem execSetFeaturesErrorRecovery_kept {a s : State} (h : Kept a s) (x0 : Nat) : KeptX a (execSetFeaturesErrorRecovery x0 s) := by
  unfold execSetFeaturesErrorRecovery
  repeat' first | with_reducible assumption | intro _ | with_reducible apply Kept.setFeature | with_reducible apply Kept.complete | with_reducible apply Kept.keepFeature | with_reducible apply Kept.foldl | with_reducible apply Kept.foldl_snd | with_reducible apply KeptX.next | extract_lets | with_reducible refine Kept.ite ?_ ?_ | split
theorem execLoadStopImageDiscard_kept {a s : State} (h : Kept a s) (x0 : Nat) : KeptX a (execLoadStopImageDiscard x0 s) := by
  unfold execLoadStopImageDiscard
  repeat' first | with_reducible assumption | intro _ | with_reducible apply Kept.loadStop | with_reducible apply Kept.abandonPackage | with_reducible apply Kept.complete | with_reducible apply Kept.modStop | with_reducible apply Kept.foldl | with_reducible apply Kept.foldl_snd | with_reducible apply KeptX.next | extract_lets | with_reducible refine Kept.ite ?_ ?_
theorem execGetLogSelfTest_kept {a s : State} (h : Kept a s) (x0 : Nat) : KeptX a (execGetLogSelfTest x0 s) := by
  unfold execGetLogSelfTest
  repeat' first | with_reducible assumption | intro _ | with_reducible apply Kept.getLog | with_reducible apply Kept.sendPage | with_reducible apply Kept.foldl | with_reducible apply Kept.foldl_snd | with_reducible apply KeptX.next
theorem execPowerStateEntryStart_kept {a s : State} (h : Kept a s) : KeptX a (execPowerStateEntryStart s) := by
  unfold execPowerStateEntryStart
  repeat' first | with_reducible assumption | intro _ | with_reducible apply Kept.modModes | with_reducible apply Kept.each | with_reducible apply Kept.closeStripe | with_reducible apply Kept.foldl | with_reducible apply Kept.foldl_snd | with_reducible apply KeptX.next | extract_lets | with_reducible refine Kept.ite ?_ ?_ | split
theorem execBrownoutWatchEntry_kept {a s : State} (h : Kept a s) : KeptX a (execBrownoutWatchEntry s) := by
  unfold execBrownoutWatchEntry
  repeat' first | with_reducible assumption | intro _ | with_reducible apply Kept.modPw | with_reducible apply Kept.report | with_reducible apply Kept.refreshHeld | with_reducible apply Kept.modCache | with_reducible apply Kept.foldl | with_reducible apply Kept.foldl_snd | with_reducible apply KeptX.next | extract_lets | with_reducible refine Kept.ite ?_ ?_ | split
theorem execWriteCommit_kept {a s : State} (h : Kept a s) (x0 : Nat) (x1 : List (List Byte)) : KeptX a (execWriteCommit x0 x1 s) := by
  unfold execWriteCommit
  repeat' first | with_reducible assumption | intro _ | with_reducible apply Kept.retry | with_reducible apply Kept.streamWrite | with_reducible apply Kept.modCtx | with_reducible apply Kept.foldl | with_reducible apply Kept.foldl_snd | with_reducible apply KeptX.next | extract_lets | with_reducible refine Kept.ite ?_ ?_ | split
theorem execCompute_kept {a s : State} (h : Kept a s) (x0 : Nat) : KeptX a (execCompute x0 s) := by
  unfold execCompute
  repeat' first | with_reducible assumption | intro _ | with_reducible apply Kept.io | with_reducible apply Kept.complete | with_reducible apply Kept.beginRead | with_reducible apply Kept.foldl | with_reducible apply Kept.foldl_snd | with_reducible apply KeptX.next | extract_lets | with_reducible refine Kept.ite ?_ ?_ | split
theorem execLinkReturnToL0_kept {a s : State} (h : Kept a s) (x0 : PortId) : KeptX a (execLinkReturnToL0 x0 s) := by
  unfold execLinkReturnToL0
  repeat' first | with_reducible assumption | intro _ | with_reducible apply Kept.sendPending | with_reducible apply Kept.release | with_reducible apply Kept.modPort | with_reducible apply Kept.foldl | with_reducible apply Kept.foldl_snd | with_reducible apply KeptX.next | extract_lets | with_reducible refine Kept.ite ?_ ?_ | split
theorem execSetThreshOvr_kept {a s : State} (h : Kept a s) (x0 : MbHdr) (x1 : W64) : KeptX a (execSetThreshOvr x0 x1 s) := by
  unfold execSetThreshOvr
  repeat' first | with_reducible assumption | intro _ | with_reducible apply Kept.mailbox | with_reducible apply Kept.foldl | with_reducible apply Kept.foldl_snd | with_reducible apply KeptX.next
theorem execHbmUncorrectableError_kept {a s : State} (h : Kept a s) (x0 : List Nat) (x1 : Nat) : KeptX a (execHbmUncorrectableError x0 x1 s) := by
  unfold execHbmUncorrectableError
  repeat' first | with_reducible assumption | intro _ | with_reducible apply Kept.modCache | with_reducible apply Kept.retry | with_reducible apply Kept.each | with_reducible apply Kept.setCodeword | with_reducible apply Kept.markUnit | with_reducible apply Kept.deferError | with_reducible apply Kept.complete | with_reducible apply Kept.dropOps | with_reducible apply Kept.leaveStop | with_reducible apply Kept.foldl | with_reducible apply Kept.foldl_snd | with_reducible apply KeptX.next | extract_lets | with_reducible refine Kept.ite ?_ ?_ | split
theorem execDestroyInstance_kept {a s : State} (h : Kept a s) (x0 : Nat) : KeptX a (execDestroyInstance x0 s) := by
  unfold execDestroyInstance
  repeat' first | with_reducible assumption | intro _ | with_reducible apply Kept.slotCommand | with_reducible apply Kept.resetInst | with_reducible apply Kept.dropChange | with_reducible apply Kept.modCtx | with_reducible apply Kept.clearStops | with_reducible apply Kept.unlockWays | with_reducible apply Kept.logInst | with_reducible apply Kept.awaitSeal | with_reducible apply Kept.modInst | with_reducible apply Kept.reviewRegions | with_reducible apply Kept.each | with_reducible apply Kept.complete | with_reducible apply Kept.foldl | with_reducible apply Kept.foldl_snd | with_reducible apply KeptX.next
theorem execCoreHeartbeatMiss_kept {a s : State} (h : Kept a s) (x0 : QuadId) (x1 : Fin 16) : KeptX a (execCoreHeartbeatMiss x0 x1 s) := by
  unfold execCoreHeartbeatMiss
  repeat' first | with_reducible assumption | intro _ | with_reducible apply Kept.modSpares | with_reducible apply Kept.packageSpare | with_reducible apply Kept.report | with_reducible apply Kept.foldl | with_reducible apply Kept.foldl_snd | with_reducible apply KeptX.next | extract_lets | with_reducible refine Kept.ite ?_ ?_ | split
theorem execLdpcDecodeTimeout_kept {a s : State} (h : Kept a s) (x0 : QuadId) : KeptX a (execLdpcDecodeTimeout x0 s) := by
  unfold execLdpcDecodeTimeout
  repeat' first | with_reducible assumption | intro _ | with_reducible apply Kept.notBefore | with_reducible apply Kept.modOp | with_reducible apply Kept.modSpares | with_reducible apply Kept.packageSpare | with_reducible apply Kept.reviewEngines | with_reducible apply Kept.report | with_reducible apply Kept.foldl | with_reducible apply Kept.foldl_snd | with_reducible apply KeptX.next | extract_lets | with_reducible refine Kept.ite ?_ ?_ | split
theorem execExtendedSelfTestEnd_kept {a s : State} (h : Kept a s) (x0 : Nat) : KeptX a (execExtendedSelfTestEnd x0 s) := by
  unfold execExtendedSelfTestEnd
  repeat' first | with_reducible assumption | intro _ | with_reducible apply Kept.endTest | with_reducible apply Kept.foldl | with_reducible apply Kept.foldl_snd | with_reducible apply KeptX.next | extract_lets | with_reducible refine Kept.ite ?_ ?_ | split
theorem execFecLockLoss_kept {a s : State} (h : Kept a s) (x0 : LinkId) : KeptX a (execFecLockLoss x0 s) := by
  unfold execFecLockLoss
  repeat' first | with_reducible assumption | intro _ | with_reducible apply Kept.startRecovery | with_reducible apply Kept.foldl | with_reducible apply Kept.foldl_snd | with_reducible apply KeptX.next | extract_lets | with_reducible refine Kept.ite ?_ ?_ | split
theorem execSpareMediaVerify_kept {a s : State} (h : Kept a s) (x0 : LinkId) (x1 : Fin 18) (x2 : Bool) (x3 : List Nat) : KeptX a (execSpareMediaVerify x0 x1 x2 x3 s) := by
  unfold execSpareMediaVerify
  repeat' first | with_reducible assumption | intro _ | with_reducible apply Kept.failSpareDie | with_reducible apply Kept.modDie | with_reducible apply Kept.modPod | with_reducible apply Kept.countPods | with_reducible apply Kept.foldl | with_reducible apply Kept.foldl_snd | with_reducible apply KeptX.next | extract_lets | with_reducible refine Kept.ite ?_ ?_ | split
theorem execDmBurstComplete_kept {a s : State} (h : Kept a s) (x0 : MoverId) (x1 : ChanId) (x2 : List Byte) (x3 : BurstEnd) : KeptX a (execDmBurstComplete x0 x1 x2 x3 s) := by
  unfold execDmBurstComplete
  repeat' first | with_reducible assumption | intro _ | with_reducible apply Kept.moverCommand | with_reducible apply Kept.afterBurst | with_reducible apply Kept.markServed | with_reducible apply Kept.endDesc | with_reducible apply Kept.writeBurst | with_reducible apply Kept.modChan | with_reducible apply Kept.foldl | with_reducible apply Kept.foldl_snd | with_reducible apply KeptX.next | extract_lets | with_reducible refine Kept.ite ?_ ?_ | split
theorem execRetentionRefresh_kept {a s : State} (h : Kept a s) (x0 : Fin 16) : KeptX a (execRetentionRefresh x0 s) := by
  unfold execRetentionRefresh
  repeat' first | with_reducible assumption | intro _ | with_reducible apply Kept.startReloc | with_reducible apply Kept.modHealth | with_reducible apply Kept.foldl | with_reducible apply Kept.foldl_snd | with_reducible apply KeptX.next | extract_lets | with_reducible refine Kept.ite ?_ ?_ | split
theorem execWrite_kept {a s : State} (h : Kept a s) (x0 : Nat) : KeptX a (execWrite x0 s) := by
  unfold execWrite
  repeat' first | with_reducible assumption | intro _ | with_reducible apply Kept.io | with_reducible apply Kept.complete | with_reducible apply Kept.askSpace | with_reducible apply Kept.foldl | with_reducible apply Kept.foldl_snd | with_reducible apply KeptX.next | extract_lets | with_reducible refine Kept.ite ?_ ?_
theorem execStripeIdleClose_kept {a s : State} (h : Kept a s) (x0 : Nat) : KeptX a (execStripeIdleClose x0 s) := by
  unfold execStripeIdleClose
  repeat' first | with_reducible assumption | intro _ | with_reducible apply Kept.refreshHeld | with_reducible apply Kept.closeStripe | with_reducible apply Kept.notBefore | with_reducible apply Kept.foldl | with_reducible apply Kept.foldl_snd | with_reducible apply KeptX.next | extract_lets | with_reducible refine Kept.ite ?_ ?_ | split
theorem execShutdownComplete_kept {a s : State} (h : Kept a s) (x0 : PortId) : KeptX a (execShutdownComplete x0 s) := by
  unfold execShutdownComplete
  repeat' first | with_reducible assumption | intro _ | with_reducible apply Kept.modPort | with_reducible apply Kept.sealNow | with_reducible refine Kept.modJrn ?_ _ (fun _ => rfl) (fun _ => rfl) | with_reducible apply Kept.writeRoot | with_reducible apply Kept.foldl | with_reducible apply Kept.foldl_snd | with_reducible apply KeptX.next | extract_lets | with_reducible refine Kept.ite ?_ ?_ | split
theorem execSetFeaturesTempThreshold_kept {a s : State} (h : Kept a s) (x0 : Nat) : KeptX a (execSetFeaturesTempThreshold x0 s) := by
  unfold execSetFeaturesTempThreshold
  repeat' first | with_reducible assumption | intro _ | with_reducible apply Kept.setFeature | with_reducible apply Kept.completeBad | with_reducible apply Kept.complete | with_reducible apply Kept.postTemp | with_reducible apply Kept.modPort | with_reducible apply Kept.foldl | with_reducible apply Kept.foldl_snd | with_reducible apply KeptX.next | extract_lets | with_reducible refine Kept.ite ?_ ?_ | split
theorem execShareDrainEnd_kept {a s : State} (h : Kept a s) (x0 : PortId) (x1 : LocalId) : KeptX a (execShareDrainEnd x0 x1 s) := by
  unfold execShareDrainEnd
  repeat' first | with_reducible assumption | intro _ | with_reducible apply Kept.reviewRegions | with_reducible apply Kept.applyChange | with_reducible apply Kept.foldl | with_reducible apply Kept.foldl_snd | with_reducible apply KeptX.next | extract_lets | with_reducible refine Kept.ite ?_ ?_ | split
theorem execAsyncEventRequest_kept {a s : State} (h : Kept a s) (x0 : Nat) : KeptX a (execAsyncEventRequest x0 s) := by
  unfold execAsyncEventRequest
  repeat' first | with_reducible assumption | intro _ | with_reducible apply Kept.admin | with_reducible apply Kept.complete | with_reducible apply Kept.modPort | with_reducible apply Kept.dropCtx | with_reducible apply Kept.answerAer | with_reducible apply Kept.foldl | with_reducible apply Kept.foldl_snd | with_reducible apply KeptX.next | extract_lets | with_reducible refine Kept.ite ?_ ?_ | split
theorem execFirmwareCommitActivate_kept {a s : State} (h : Kept a s) (x0 : Nat) : KeptX a (execFirmwareCommitActivate x0 s) := by
  unfold execFirmwareCommitActivate
  repeat' first | with_reducible assumption | intro _ | with_reducible apply Kept.commitOf | with_reducible apply Kept.askEpoch | with_reducible apply Kept.complete | with_reducible apply Kept.commitPackage | with_reducible apply Kept.foldl | with_reducible apply Kept.foldl_snd | with_reducible apply KeptX.next | extract_lets | with_reducible refine Kept.ite ?_ ?_
theorem execCacheSpaceGrant_kept {a s : State} (h : Kept a s) : KeptX a (execCacheSpaceGrant s) := by
  unfold execCacheSpaceGrant
  repeat' first | with_reducible assumption | intro _ | with_reducible apply Kept.refreshHeld | with_reducible apply Kept.grantAll | with_reducible apply Kept.foldl | with_reducible apply Kept.foldl_snd | with_reducible apply KeptX.next | extract_lets | with_reducible refine Kept.ite ?_ ?_ | split
theorem execMcMaintDone_kept {a s : State} (h : Kept a s) : KeptX a (execMcMaintDone s) := by
  unfold execMcMaintDone
  repeat' first | with_reducible assumption | intro _ | with_reducible apply Kept.nextMaint | with_reducible apply Kept.modMc | with_reducible apply Kept.foldl | with_reducible apply Kept.foldl_snd | with_reducible apply KeptX.next | extract_lets | with_reducible refine Kept.ite ?_ ?_ | split
theorem execModuleResetRelease_kept {a s : State} (h : Kept a s) : KeptX a (execModuleResetRelease s) := by
  unfold execModuleResetRelease
  repeat' first | with_reducible assumption | intro _ | with_reducible apply Kept.modModes | with_reducible apply Kept.startBringup | with_reducible apply Kept.foldl | with_reducible apply Kept.foldl_snd | with_reducible apply KeptX.next | extract_lets | with_reducible refine Kept.ite ?_ ?_ | split
theorem execMapFetchComplete_kept {a s : State} (h : Kept a s) (x0 : Nat) (x1 : FetchedLine) : KeptX a (execMapFetchComplete x0 x1 s) := by
  unfold execMapFetchComplete
  repeat' first | with_reducible assumption | intro _ | with_reducible apply Kept.fetchOver | with_reducible apply Kept.toT3 | with_reducible apply Kept.installLine | with_reducible apply Kept.foldl | with_reducible apply Kept.foldl_snd | with_reducible apply KeptX.next | extract_lets | with_reducible refine Kept.ite ?_ ?_ | split
theorem execTrialAutoConfirm_kept {a s : State} (h : Kept a s) : KeptX a (execTrialAutoConfirm s) := by
  unfold execTrialAutoConfirm
  repeat' first | with_reducible assumption | intro _ | with_reducible apply Kept.confirmTrial | with_reducible apply Kept.notBefore | with_reducible apply Kept.foldl | with_reducible apply Kept.foldl_snd | with_reducible apply KeptX.next | extract_lets | with_reducible refine Kept.ite ?_ ?_ | split
theorem execDeviceSelfTestAbort_kept {a s : State} (h : Kept a s) (x0 : Nat) : KeptX a (execDeviceSelfTestAbort x0 s) := by
  unfold execDeviceSelfTestAbort
  repeat' first | with_reducible assumption | intro _ | with_reducible apply Kept.selfTestOf | with_reducible apply Kept.endTest | with_reducible apply Kept.complete | with_reducible apply Kept.foldl | with_reducible apply Kept.foldl_snd | with_reducible apply KeptX.next
theorem execGetLogSpareReserves_kept {a s : State} (h : Kept a s) (x0 : Nat) : KeptX a (execGetLogSpareReserves x0 s) := by
  unfold execGetLogSpareReserves
  repeat' first | with_reducible assumption | intro _ | with_reducible apply Kept.getLog | with_reducible apply Kept.sendPage | with_reducible apply Kept.foldl | with_reducible apply Kept.foldl_snd | with_reducible apply KeptX.next
theorem execGetLogInstanceCounters_kept {a s : State} (h : Kept a s) (x0 : Nat) : KeptX a (execGetLogInstanceCounters x0 s) := by
  unfold execGetLogInstanceCounters
  repeat' first | with_reducible assumption | intro _ | with_reducible apply Kept.getLog | with_reducible apply Kept.instPage | with_reducible apply Kept.sendPage | with_reducible apply Kept.foldl | with_reducible apply Kept.foldl_snd | with_reducible apply KeptX.next
theorem execSetFeaturesApst_kept {a s : State} (h : Kept a s) (x0 : Nat) : KeptX a (execSetFeaturesApst x0 s) := by
  unfold execSetFeaturesApst
  repeat' first | with_reducible assumption | intro _ | with_reducible apply Kept.setFeature | with_reducible apply Kept.modPort | with_reducible apply Kept.save | with_reducible apply Kept.complete | with_reducible apply Kept.foldl | with_reducible apply Kept.foldl_snd | with_reducible apply KeptX.next | extract_lets | with_reducible refine Kept.ite ?_ ?_
theorem execDmFence_kept {a s : State} (h : Kept a s) (x0 : MoverId) (x1 : ChanId) : KeptX a (execDmFence x0 x1 s) := by
  unfold execDmFence
  repeat' first | with_reducible assumption | intro _ | with_reducible apply Kept.takeDesc | with_reducible apply Kept.foldl | with_reducible apply Kept.foldl_snd | with_reducible apply KeptX.next
theorem execNvmeMiReceive_kept {a s : State} (h : Kept a s) (x0 : Nat) : KeptX a (execNvmeMiReceive x0 s) := by
  unfold execNvmeMiReceive
  repeat' first | with_reducible assumption | intro _ | with_reducible apply Kept.admin | with_reducible apply Kept.complete | with_reducible apply Kept.modPort | with_reducible apply Kept.toHost | with_reducible apply Kept.foldl | with_reducible apply Kept.foldl_snd | with_reducible apply KeptX.next
theorem execRootPllLock_kept {a s : State} (h : Kept a s) (x0 : Step2Found) : KeptX a (execRootPllLock x0 s) := by
  unfold execRootPllLock
  repeat' first | with_reducible assumption | intro _ | with_reducible apply Kept.modPart | with_reducible apply Kept.enterSafe | with_reducible apply Kept.setStep | with_reducible apply Kept.stepTwo | with_reducible apply Kept.each | with_reducible apply Kept.reErase | with_reducible apply Kept.chooseBank | with_reducible apply Kept.modModes | with_reducible apply Kept.modPw | with_reducible apply Kept.foldl | with_reducible apply Kept.foldl_snd | with_reducible apply KeptX.next | extract_lets | with_reducible refine Kept.ite ?_ ?_ | split
theorem execTelemetrySnapshot_kept {a s : State} (h : Kept a s) : KeptX a (execTelemetrySnapshot s) := by
  unfold execTelemetrySnapshot
  repeat' first | with_reducible assumption | intro _ | with_reducible apply Kept.allPorts | with_reducible apply Kept.modPort | with_reducible apply Kept.modSpares | with_reducible apply Kept.foldl | with_reducible apply Kept.foldl_snd | with_reducible apply KeptX.next | extract_lets | with_reducible refine Kept.ite ?_ ?_ | split
theorem execSetFeaturesPowerMgmt_kept {a s : State} (h : Kept a s) (x0 : Nat) : KeptX a (execSetFeaturesPowerMgmt x0 s) := by
  unfold execSetFeaturesPowerMgmt
  repeat' first | with_reducible assumption | intro _ | with_reducible apply Kept.setFeature | with_reducible apply Kept.complete | with_reducible apply Kept.reviewPs | with_reducible apply Kept.modPort | with_reducible apply Kept.foldl | with_reducible apply Kept.foldl_snd | with_reducible apply KeptX.next | extract_lets | with_reducible refine Kept.ite ?_ ?_
theorem execMapCacheWayError_kept {a s : State} (h : Kept a s) (x0 : SliceId) (x1 : Fin 256) (x2 : Fin 17) (x3 : Bool) (x4 : Bool) : KeptX a (execMapCacheWayError x0 x1 x2 x3 x4 s) := by
  unfold execMapCacheWayError
  repeat' first | with_reducible assumption | intro _ | with_reducible apply Kept.wayError | with_reducible apply Kept.foldl | with_reducible apply Kept.foldl_snd | with_reducible apply KeptX.next
theorem execDeleteIoSq_kept {a s : State} (h : Kept a s) (x0 : Nat) : KeptX a (execDeleteIoSq x0 s) := by
  unfold execDeleteIoSq
  repeat' first | with_reducible assumption | intro _ | with_reducible apply Kept.admin | with_reducible apply Kept.deleteSq | with_reducible apply Kept.foldl | with_reducible apply Kept.foldl_snd | with_reducible apply KeptX.next
theorem execLendMapMemory_kept {a s : State} (h : Kept a s) (x0 : Nat) : KeptX a (execLendMapMemory x0 s) := by
  unfold execLendMapMemory
  repeat' first | with_reducible assumption | intro _ | with_reducible apply Kept.admin | with_reducible apply Kept.complete | with_reducible apply Kept.newLayout | with_reducible apply Kept.foldl | with_reducible apply Kept.foldl_snd | with_reducible apply KeptX.next | (with_reducible apply Kept.upd; first | with_reducible assumption | with_reducible apply Kept.admin | with_reducible apply Kept.complete | with_reducible apply Kept.newLayout | with_reducible apply Kept.foldl | with_reducible refine Kept.ite ?_ ?_) | extract_lets | with_reducible refine Kept.ite ?_ ?_ | split
theorem execWayErrorWindowExpiry_kept {a s : State} (h : Kept a s) (x0 : SliceId) (x1 : Fin 256) (x2 : Fin 17) : KeptX a (execWayErrorWindowExpiry x0 x1 x2 s) := by
  unfold execWayErrorWindowExpiry
  repeat' first | with_reducible assumption | intro _ | with_reducible apply Kept.modSlice | with_reducible apply Kept.notBefore | with_reducible apply Kept.foldl | with_reducible apply Kept.foldl_snd | with_reducible apply KeptX.next | extract_lets | with_reducible refine Kept.ite ?_ ?_ | split
theorem answerMi_kept {a : State} {r : Status × State} (h : Kept a r.2) : Kept a (answerMi r) := h.emit _

theorem execMaintenanceHold_kept {a s : State} (h : Kept a s) (x0 : Nat) : KeptX a (execMaintenanceHold x0 s) := by
  unfold execMaintenanceHold
  repeat' first | with_reducible assumption | intro _ | with_reducible apply answerMi_kept | with_reducible apply Kept.hold | refine Kept.hold_eq (h := ?_) (e := by with_reducible assumption) .. | with_reducible apply Kept.foldl | with_reducible apply Kept.foldl_snd | with_reducible apply KeptX.next | extract_lets | with_reducible refine Kept.ite ?_ ?_
theorem execAbort_kept {a s : State} (h : Kept a s) (x0 : Nat) : KeptX a (execAbort x0 s) := by
  unfold execAbort
  repeat' first | with_reducible assumption | intro _ | with_reducible apply Kept.admin | with_reducible apply Kept.abort | with_reducible apply Kept.foldl | with_reducible apply Kept.foldl_snd | with_reducible apply KeptX.next
theorem execD0Return_kept {a s : State} (h : Kept a s) (x0 : PortId) : KeptX a (execD0Return x0 s) := by
  unfold execD0Return
  repeat' first | with_reducible assumption | intro _ | with_reducible apply Kept.sendPending | with_reducible apply Kept.release | with_reducible apply Kept.modPort | with_reducible apply Kept.foldl | with_reducible apply Kept.foldl_snd | with_reducible apply KeptX.next | extract_lets | with_reducible refine Kept.ite ?_ ?_ | split
theorem execIdentifyNsList_kept {a s : State} (h : Kept a s) (x0 : Nat) : KeptX a (execIdentifyNsList x0 s) := by
  unfold execIdentifyNsList
  repeat' first | with_reducible assumption | intro _ | with_reducible apply Kept.identifyRow | with_reducible apply Kept.foldl | with_reducible apply Kept.foldl_snd | with_reducible apply KeptX.next
theorem execBringupTrialTimeout_kept {a s : State} (h : Kept a s) : KeptX a (execBringupTrialTimeout s) := by
  unfold execBringupTrialTimeout
  repeat' first | with_reducible assumption | intro _ | with_reducible apply Kept.restartAtFive | with_reducible apply Kept.notBefore | with_reducible apply Kept.foldl | with_reducible apply Kept.foldl_snd | with_reducible apply KeptX.next | extract_lets | with_reducible refine Kept.ite ?_ ?_
theorem execReadStatus_kept {a s : State} (h : Kept a s) (x0 : MbHdr) : KeptX a (execReadStatus x0 s) := by
  unfold execReadStatus
  repeat' first | with_reducible assumption | intro _ | with_reducible apply Kept.mailbox | with_reducible apply Kept.foldl | with_reducible apply Kept.foldl_snd | with_reducible apply KeptX.next
theorem execStopIrqEdge_kept {a s : State} (h : Kept a s) (x0 : StopId) (x1 : Fin 8) : KeptX a (execStopIrqEdge x0 x1 s) := by
  unfold execStopIrqEdge
  repeat' first | with_reducible assumption | intro _ | with_reducible apply Kept.stopViolation | with_reducible apply Kept.interrupt | with_reducible apply Kept.foldl | with_reducible apply Kept.foldl_snd | with_reducible apply KeptX.next | extract_lets | with_reducible refine Kept.ite ?_ ?_ | split
theorem execFirmwareCommitConfirm_kept {a s : State} (h : Kept a s) (x0 : Nat) : KeptX a (execFirmwareCommitConfirm x0 s) := by
  unfold execFirmwareCommitConfirm
  repeat' first | with_reducible assumption | intro _ | with_reducible apply Kept.commitOf | with_reducible apply Kept.complete | with_reducible apply Kept.confirmTrial | with_reducible apply Kept.keepWrite | with_reducible apply Kept.refuseUpdate | with_reducible apply Kept.startVerify | with_reducible apply Kept.foldl | with_reducible apply Kept.foldl_snd | with_reducible apply KeptX.next | extract_lets | with_reducible refine Kept.ite ?_ ?_
theorem execJournalEpochClose_kept {a s : State} (h : Kept a s) : KeptX a (execJournalEpochClose s) := by
  unfold execJournalEpochClose
  repeat' first | with_reducible assumption | intro _ | with_reducible apply Kept.closeEpoch | with_reducible apply Kept.notBefore | with_reducible apply Kept.foldl | with_reducible apply Kept.foldl_snd | with_reducible apply KeptX.next | extract_lets | with_reducible refine Kept.ite ?_ ?_ | split
theorem execMaintenanceHoldRelease_kept {a s : State} (h : Kept a s) : KeptX a (execMaintenanceHoldRelease s) := by
  unfold execMaintenanceHoldRelease
  repeat' first | with_reducible assumption | intro _ | with_reducible apply answerMi_kept | with_reducible apply Kept.releaseHold | refine Kept.releaseHold_eq (h := ?_) (e := by with_reducible assumption) .. | with_reducible apply Kept.foldl | with_reducible apply Kept.foldl_snd | with_reducible apply KeptX.next | extract_lets | with_reducible refine Kept.ite ?_ ?_
theorem execVoicingSelectDryRun_kept {a s : State} (h : Kept a s) (x0 : Nat) : KeptX a (execVoicingSelectDryRun x0 s) := by
  unfold execVoicingSelectDryRun
  repeat' first | with_reducible assumption | intro _ | with_reducible apply Kept.voicingSelect | with_reducible apply Kept.foldl | with_reducible apply Kept.foldl_snd | with_reducible apply KeptX.next
theorem execActivationTimeout_kept {a s : State} (h : Kept a s) : KeptX a (execActivationTimeout s) := by
  unfold execActivationTimeout
  repeat' first | with_reducible assumption | intro _ | with_reducible apply Kept.watchdogExpires | with_reducible apply Kept.notBefore | with_reducible apply Kept.foldl | with_reducible apply Kept.foldl_snd | with_reducible apply KeptX.next | extract_lets | with_reducible refine Kept.ite ?_ ?_ | split
theorem execReserveBandReturn_kept {a s : State} (h : Kept a s) (x0 : Fin 16) (x1 : Nat) : KeptX a (execReserveBandReturn x0 x1 s) := by
  unfold execReserveBandReturn
  repeat' first | with_reducible assumption | intro _ | with_reducible apply Kept.logBand | with_reducible apply Kept.foldl | with_reducible apply Kept.foldl_snd | with_reducible apply KeptX.next | extract_lets | with_reducible refine Kept.ite ?_ ?_ | split
theorem execDmFill_kept {a s : State} (h : Kept a s) (x0 : MoverId) (x1 : ChanId) : KeptX a (execDmFill x0 x1 s) := by
  unfold execDmFill
  repeat' first | with_reducible assumption | intro _ | with_reducible apply Kept.takeDesc | with_reducible apply Kept.foldl | with_reducible apply Kept.foldl_snd | with_reducible apply KeptX.next
theorem execNvmeMiSend_kept {a s : State} (h : Kept a s) (x0 : Nat) (x1 : MiRequest) : KeptX a (execNvmeMiSend x0 x1 s) := by
  unfold execNvmeMiSend
  repeat' first | with_reducible assumption | intro _ | with_reducible apply Kept.admin | with_reducible apply Kept.complete | with_reducible apply Kept.miDirect | refine Kept.miDirect_eq (h := ?_) (e := by with_reducible assumption) .. | with_reducible apply Kept.modPort | with_reducible apply Kept.foldl | with_reducible apply Kept.foldl_snd | with_reducible apply KeptX.next | extract_lets | with_reducible refine Kept.ite ?_ ?_ | split
theorem execFwWatchdogFeed_kept {a s : State} (h : Kept a s) (x0 : W32) : KeptX a (execFwWatchdogFeed x0 s) := by
  unfold execFwWatchdogFeed
  repeat' first | with_reducible assumption | intro _ | with_reducible apply Kept.modPart | with_reducible apply Kept.watchdogExpires | with_reducible apply Kept.foldl | with_reducible apply Kept.foldl_snd | with_reducible apply KeptX.next | extract_lets | with_reducible refine Kept.ite ?_ ?_ | split
theorem execNamespaceDelete_kept {a s : State} (h : Kept a s) (x0 : Nat) : KeptX a (execNamespaceDelete x0 s) := by
  unfold execNamespaceDelete
  repeat' first | with_reducible assumption | intro _ | with_reducible apply Kept.admin | with_reducible apply Kept.complete | with_reducible apply Kept.each | with_reducible apply Kept.detach | with_reducible apply Kept.awaitSeal | with_reducible apply Kept.deleteAll | with_reducible apply Kept.foldl | with_reducible apply Kept.foldl_snd | with_reducible apply KeptX.next | extract_lets | with_reducible refine Kept.ite ?_ ?_
theorem execNamespaceCreate_kept {a s : State} (h : Kept a s) (x0 : Nat) : KeptX a (execNamespaceCreate x0 s) := by
  unfold execNamespaceCreate
  repeat' first | with_reducible assumption | intro _ | with_reducible apply Kept.admin | with_reducible apply Kept.completeBad | with_reducible apply Kept.complete | with_reducible apply Kept.rewriteKeys | with_reducible apply Kept.zeroKey | with_reducible apply Kept.modPart | with_reducible apply Kept.newKey | with_reducible apply Kept.awaitSeal | with_reducible apply Kept.logRec | with_reducible apply Kept.foldl | with_reducible apply Kept.foldl_snd | with_reducible apply KeptX.next | extract_lets | with_reducible refine Kept.ite ?_ ?_ | split
theorem execVaultRearm_kept {a s : State} (h : Kept a s) (x0 : Fin 16) (x1 : Nat) : KeptX a (execVaultRearm x0 x1 s) := by
  unfold execVaultRearm
  repeat' first | with_reducible assumption | intro _ | with_reducible apply Kept.queueErase | with_reducible apply Kept.foldl | with_reducible apply Kept.foldl_snd | with_reducible apply KeptX.next | extract_lets | with_reducible refine Kept.ite ?_ ?_ | split
theorem execFwWatchdogExpiry_kept {a s : State} (h : Kept a s) : KeptX a (execFwWatchdogExpiry s) := by
  unfold execFwWatchdogExpiry
  repeat' first | with_reducible assumption | intro _ | with_reducible apply Kept.watchdogExpires | with_reducible apply Kept.notBefore | with_reducible apply Kept.foldl | with_reducible apply Kept.foldl_snd | with_reducible apply KeptX.next | extract_lets | with_reducible refine Kept.ite ?_ ?_
theorem execGetFeatures_kept {a s : State} (h : Kept a s) (x0 : Nat) : KeptX a (execGetFeatures x0 s) := by
  unfold execGetFeatures
  repeat' first | with_reducible assumption | intro _ | with_reducible apply Kept.admin | with_reducible apply Kept.completeBad | with_reducible apply Kept.complete | with_reducible apply Kept.toHost | with_reducible apply Kept.foldl | with_reducible apply Kept.foldl_snd | with_reducible apply KeptX.next | extract_lets | with_reducible refine Kept.ite ?_ ?_
theorem execPodStatusMissing_kept {a s : State} (h : Kept a s) (x0 : LinkId) : KeptX a (execPodStatusMissing x0 s) := by
  unfold execPodStatusMissing
  repeat' first | with_reducible assumption | intro _ | with_reducible apply Kept.podSensorFailed | with_reducible apply Kept.notBefore | with_reducible apply Kept.foldl | with_reducible apply Kept.foldl_snd | with_reducible apply KeptX.next | extract_lets | with_reducible refine Kept.ite ?_ ?_ | split
theorem execDieTimeoutPauseExpiry_kept {a s : State} (h : Kept a s) (x0 : LinkId) : KeptX a (execDieTimeoutPauseExpiry x0 s) := by
  unfold execDieTimeoutPauseExpiry
  repeat' first | with_reducible assumption | intro _ | with_reducible apply Kept.notBefore | with_reducible apply Kept.dumpWithout | with_reducible apply Kept.retry | with_reducible apply Kept.allToStep4 | with_reducible apply Kept.foldl | with_reducible apply Kept.foldl_snd | with_reducible apply KeptX.next | extract_lets | with_reducible refine Kept.ite ?_ ?_ | split
theorem execDatasetManagement_kept {a s : State} (h : Kept a s) (x0 : Nat) : KeptX a (execDatasetManagement x0 s) := by
  unfold execDatasetManagement
  repeat' first | with_reducible assumption | intro _ | with_reducible apply Kept.io | with_reducible apply Kept.tryDsm | with_reducible apply Kept.modCtx | with_reducible apply Kept.complete | with_reducible apply Kept.foldl | with_reducible apply Kept.foldl_snd | with_reducible apply KeptX.next | extract_lets | with_reducible refine Kept.ite ?_ ?_
theorem execDirectiveSend_kept {a s : State} (h : Kept a s) (x0 : Nat) : KeptX a (execDirectiveSend x0 s) := by
  unfold execDirectiveSend
  repeat' first | with_reducible assumption | intro _ | with_reducible apply Kept.admin | with_reducible apply Kept.complete | with_reducible apply Kept.foldl | with_reducible apply Kept.foldl_snd | with_reducible apply KeptX.next | extract_lets | with_reducible refine Kept.ite ?_ ?_ | split
theorem execDmPauseWrite_kept {a s : State} (h : Kept a s) (x0 : MoverId) (x1 : ChanId) (x2 : Bool) : KeptX a (execDmPauseWrite x0 x1 x2 s) := by
  unfold execDmPauseWrite
  repeat' first | with_reducible assumption | intro _ | with_reducible apply Kept.onChan | with_reducible apply Kept.writePause | with_reducible apply Kept.foldl | with_reducible apply Kept.foldl_snd | with_reducible apply KeptX.next
theorem execCryptoErase_kept {a s : State} (h : Kept a s) (x0 : Nat) : KeptX a (execCryptoErase x0 s) := by
  unfold execCryptoErase
  repeat' first | with_reducible assumption | intro _ | with_reducible apply Kept.adminWait | with_reducible apply Kept.completeBad | with_reducible apply Kept.askEpoch | with_reducible apply Kept.complete | with_reducible apply Kept.modCtx | with_reducible apply Kept.awaitSeal | with_reducible apply Kept.eraseKeys | with_reducible apply Kept.foldl | with_reducible apply Kept.foldl_snd | with_reducible apply KeptX.next | extract_lets | with_reducible refine Kept.ite ?_ ?_ | split
theorem execSetFeaturesTimestamp_kept {a s : State} (h : Kept a s) (x0 : Nat) : KeptX a (execSetFeaturesTimestamp x0 s) := by
  unfold execSetFeaturesTimestamp
  repeat' first | with_reducible assumption | intro _ | with_reducible apply Kept.setFeature | with_reducible apply Kept.complete | with_reducible apply Kept.modPart | with_reducible apply Kept.foldl | with_reducible apply Kept.foldl_snd | with_reducible apply KeptX.next | extract_lets | with_reducible refine Kept.ite ?_ ?_ | split
theorem execReleaseSafeHold_kept {a s : State} (h : Kept a s) (x0 : MbHdr) (x1 : Sample) : KeptX a (execReleaseSafeHold x0 x1 s) := by
  unfold execReleaseSafeHold
  repeat' first | with_reducible assumption | intro _ | with_reducible apply Kept.mailbox | with_reducible apply Kept.foldl | with_reducible apply Kept.foldl_snd | with_reducible apply KeptX.next
theorem execInputStartThreshold_kept {a s : State} (h : Kept a s) : KeptX a (execInputStartThreshold s) := by
  unfold execInputStartThreshold
  repeat' first | with_reducible assumption | intro _ | with_reducible apply Kept.modPw | with_reducible apply Kept.modModes | with_reducible apply Kept.startBringup | with_reducible apply Kept.causeGone | with_reducible apply Kept.foldl | with_reducible apply Kept.foldl_snd | with_reducible apply KeptX.next | extract_lets | with_reducible refine Kept.ite ?_ ?_ | split
theorem execPowerFailRecognised_kept {a s : State} (h : Kept a s) : KeptX a (execPowerFailRecognised s) := by
  unfold execPowerFailRecognised
  repeat' first | with_reducible assumption | intro _ | with_reducible apply Kept.modPw | with_reducible apply Kept.report | with_reducible apply Kept.modModes | with_reducible apply Kept.podsOff | with_reducible apply Kept.modPart | with_reducible apply Kept.allPorts | with_reducible apply Kept.modPort | with_reducible apply Kept.startFlush | with_reducible apply Kept.foldl | with_reducible apply Kept.foldl_snd | with_reducible apply KeptX.next | extract_lets | with_reducible refine Kept.ite ?_ ?_ | split
theorem execPowerStageStop_kept {a s : State} (h : Kept a s) : KeptX a (execPowerStageStop s) := by
  unfold execPowerStageStop
  repeat' first | with_reducible assumption | intro _ | with_reducible apply Kept.enterKeep | with_reducible apply Kept.foldl | with_reducible apply Kept.foldl_snd | with_reducible apply KeptX.next | extract_lets | with_reducible refine Kept.ite ?_ ?_
theorem execOvervoltageTrip_kept {a s : State} (h : Kept a s) : KeptX a (execOvervoltageTrip s) := by
  unfold execOvervoltageTrip
  repeat' first | with_reducible assumption | intro _ | with_reducible apply Kept.report | with_reducible apply Kept.modPw | with_reducible apply Kept.causeArises | with_reducible apply Kept.foldl | with_reducible apply Kept.foldl_snd | with_reducible apply KeptX.next | extract_lets | with_reducible refine Kept.ite ?_ ?_ | split
theorem execPowerStageFault_kept {a s : State} (h : Kept a s) (x0 : StageFault) : KeptX a (execPowerStageFault x0 s) := by
  unfold execPowerStageFault
  repeat' first | with_reducible assumption | intro _ | with_reducible apply Kept.stageFault | with_reducible apply Kept.foldl | with_reducible apply Kept.foldl_snd | with_reducible apply KeptX.next
theorem execPodRailPresenceLost_kept {a s : State} (h : Kept a s) : KeptX a (execPodRailPresenceLost s) := by
  unfold execPodRailPresenceLost
  repeat' first | with_reducible assumption | intro _ | with_reducible apply Kept.modPw | with_reducible apply Kept.stageFault | with_reducible apply Kept.foldl | with_reducible apply Kept.foldl_snd | with_reducible apply KeptX.next | extract_lets | with_reducible refine Kept.ite ?_ ?_
theorem execBellowsTest_kept {a s : State} (h : Kept a s) : KeptX a (execBellowsTest s) := by
  unfold execBellowsTest
  repeat' first | with_reducible assumption | intro _ | with_reducible apply Kept.modPw | with_reducible apply Kept.setLimit | with_reducible apply Kept.modCache | with_reducible apply Kept.testStep2 | with_reducible apply Kept.foldl | with_reducible apply Kept.foldl_snd | with_reducible apply KeptX.next | extract_lets | with_reducible refine Kept.ite ?_ ?_ | split
theorem execSensorSample_kept {a s : State} (h : Kept a s) (x0 : Sample) : KeptX a (execSensorSample x0 s) := by
  unfold execSensorSample
  repeat' first | with_reducible assumption | intro _ | with_reducible apply Kept.takeSample | with_reducible apply Kept.reviewMute | with_reducible apply Kept.shutHot | with_reducible apply Kept.countThrottle | with_reducible apply Kept.postTemp | with_reducible apply Kept.foldl | with_reducible apply Kept.foldl_snd | with_reducible apply KeptX.next | extract_lets | with_reducible refine Kept.ite ?_ ?_ | split
theorem execThermalComparatorTrip_kept {a s : State} (h : Kept a s) (x0 : Fin 7) : KeptX a (execThermalComparatorTrip x0 s) := by
  unfold execThermalComparatorTrip
  repeat' first | with_reducible assumption | intro _ | with_reducible apply Kept.shutHot | with_reducible apply Kept.setLevel | with_reducible apply Kept.modPw | with_reducible apply Kept.foldl | with_reducible apply Kept.foldl_snd | with_reducible apply KeptX.next | extract_lets | with_reducible refine Kept.ite ?_ ?_ | split
theorem execGraceTimeExpiry_kept {a s : State} (h : Kept a s) : KeptX a (execGraceTimeExpiry s) := by
  unfold execGraceTimeExpiry
  repeat' first | with_reducible assumption | intro _ | with_reducible apply Kept.notBefore | with_reducible apply Kept.countThrottle | with_reducible apply Kept.setDuty | with_reducible apply Kept.setMute | with_reducible apply Kept.foldl | with_reducible apply Kept.foldl_snd | with_reducible apply KeptX.next | extract_lets | with_reducible refine Kept.ite ?_ ?_ | split | dsimp +zetaDelta only
theorem execM3AdmissionInterval_kept {a s : State} (h : Kept a s) : KeptX a (execM3AdmissionInterval s) := by
  unfold execM3AdmissionInterval
  repeat' first | with_reducible assumption | intro _ | with_reducible apply Kept.allPorts | with_reducible apply Kept.modPort | with_reducible apply Kept.foldl | with_reducible apply Kept.foldl_snd | with_reducible apply KeptX.next
theorem execClockCheckWindow_kept {a s : State} (h : Kept a s) (x0 : Bool) (x1 : Bool) (x2 : Bool) : KeptX a (execClockCheckWindow x0 x1 x2 s) := by
  unfold execClockCheckWindow
  repeat' first | with_reducible assumption | intro _ | with_reducible apply Kept.healthEvent | with_reducible apply Kept.clockFault | with_reducible apply Kept.foldl | with_reducible apply Kept.foldl_snd | with_reducible apply KeptX.next | extract_lets | with_reducible refine Kept.ite ?_ ?_ | split
theorem execLatchChange_kept {a s : State} (h : Kept a s) (x0 : Bool) (x1 : Bool) : KeptX a (execLatchChange x0 x1 s) := by
  unfold execLatchChange
  repeat' first | with_reducible assumption | intro _ | with_reducible apply Kept.modMech | with_reducible apply Kept.report | with_reducible apply Kept.foldl | with_reducible apply Kept.foldl_snd | with_reducible apply KeptX.next | extract_lets | with_reducible refine Kept.ite ?_ ?_
theorem execMotionWindow_kept {a s : State} (h : Kept a s) (x0 : Nat) : KeptX a (execMotionWindow x0 s) := by
  unfold execMotionWindow
  repeat' first | with_reducible assumption | intro _ | with_reducible apply Kept.modMech | with_reducible apply Kept.report | with_reducible apply Kept.foldl | with_reducible apply Kept.foldl_snd | with_reducible apply KeptX.next | extract_lets | with_reducible refine Kept.ite ?_ ?_
theorem execSpWatchdogExpiry_kept {a s : State} (h : Kept a s) : KeptX a (execSpWatchdogExpiry s) := by
  unfold execSpWatchdogExpiry
  repeat' first | with_reducible assumption | intro _ | with_reducible apply Kept.partitionReset | with_reducible apply Kept.foldl | with_reducible apply Kept.foldl_snd | with_reducible apply KeptX.next
theorem execLockstepMismatch_kept {a s : State} (h : Kept a s) : KeptX a (execLockstepMismatch s) := by
  unfold execLockstepMismatch
  repeat' first | with_reducible assumption | intro _ | with_reducible apply Kept.partitionReset | with_reducible apply Kept.foldl | with_reducible apply Kept.foldl_snd | with_reducible apply KeptX.next
theorem execSpRestartComplete_kept {a s : State} (h : Kept a s) : KeptX a (execSpRestartComplete s) := by
  unfold execSpRestartComplete
  repeat' first | with_reducible assumption | intro _ | with_reducible apply Kept.spRestartComplete | with_reducible apply Kept.foldl | with_reducible apply Kept.foldl_snd | with_reducible apply KeptX.next
theorem execFirmwareBundleStart_kept {a s : State} (h : Kept a s) (x0 : Bool) : KeptX a (execFirmwareBundleStart x0 s) := by
  unfold execFirmwareBundleStart
  repeat' first | with_reducible assumption | intro _ | with_reducible apply Kept.restartAtFive | with_reducible apply Kept.enterSafe | with_reducible apply Kept.modPart | with_reducible apply Kept.allPorts | with_reducible apply Kept.modPort | with_reducible apply Kept.setStep | with_reducible apply Kept.foldl | with_reducible apply Kept.foldl_snd | with_reducible apply KeptX.next | extract_lets | with_reducible refine Kept.ite ?_ ?_ | split
theorem execMemoryTrainingComplete_kept {a s : State} (h : Kept a s) : KeptX a (execMemoryTrainingComplete s) := by
  unfold execMemoryTrainingComplete
  repeat' first | with_reducible assumption | intro _ | with_reducible apply Kept.setStep | with_reducible apply Kept.foldl | with_reducible apply Kept.foldl_snd | with_reducible apply KeptX.next | extract_lets | with_reducible refine Kept.ite ?_ ?_
theorem execVoicingLoad_kept {a s : State} (h : Kept a s) : KeptX a (execVoicingLoad s) := by
  unfold execVoicingLoad
  repeat' first | with_reducible assumption | intro _ | with_reducible apply Kept.report | with_reducible apply Kept.failSlot | with_reducible apply Kept.keepWrite | with_reducible apply Kept.formatMedia | with_reducible apply Kept.useSlot | with_reducible apply Kept.setStep | with_reducible apply Kept.modModes | with_reducible apply Kept.setDegrade | with_reducible apply Kept.enterSafe | with_reducible apply Kept.foldl | with_reducible apply Kept.foldl_snd | with_reducible apply KeptX.next | extract_lets | with_reducible refine Kept.ite ?_ ?_ | split
theorem execPodPowerWave_kept {a s : State} (h : Kept a s) : KeptX a (execPodPowerWave s) := by
  unfold execPodPowerWave
  repeat' first | with_reducible assumption | intro _ | with_reducible apply Kept.enterSafe | with_reducible apply Kept.modPw | with_reducible apply Kept.each | with_reducible apply Kept.modLink | with_reducible apply Kept.modPod | with_reducible apply Kept.emit | with_reducible apply Kept.modModes | with_reducible apply Kept.setStep | with_reducible apply Kept.foldl | with_reducible apply Kept.foldl_snd | with_reducible apply KeptX.next | extract_lets | with_reducible refine Kept.ite ?_ ?_ | split
theorem execLaneTrainingComplete_kept {a s : State} (h : Kept a s) (x0 : LinkId) (x1 : Bool) : KeptX a (execLaneTrainingComplete x0 x1 s) := by
  unfold execLaneTrainingComplete
  repeat' first | with_reducible assumption | intro _ | with_reducible apply Kept.modLink | with_reducible apply Kept.linkDead | with_reducible apply Kept.foldl | with_reducible apply Kept.foldl_snd | with_reducible apply KeptX.next | extract_lets | with_reducible refine Kept.ite ?_ ?_ | split
theorem execMapRecovery_kept {a s : State} (h : Kept a s) (x0 : RecoveryFound) : KeptX a (execMapRecovery x0 s) := by
  unfold execMapRecovery
  repeat' first | with_reducible assumption | intro _ | with_reducible apply Kept.setStep | with_reducible apply Kept.restoreInsts | with_reducible apply Kept.modModes | with_reducible apply Kept.firstFormat | with_reducible apply Kept.recover | with_reducible apply Kept.foldl | with_reducible apply Kept.foldl_snd | with_reducible apply KeptX.next | extract_lets | with_reducible refine Kept.ite ?_ ?_ | split
theorem execBringupComplete_kept {a s : State} (h : Kept a s) : KeptX a (execBringupComplete s) := by
  unfold execBringupComplete
  repeat' first | with_reducible assumption | intro _ | with_reducible apply Kept.modModes | with_reducible apply Kept.each | with_reducible apply Kept.reopenInst | with_reducible apply Kept.allPorts | with_reducible apply Kept.adminQueues | with_reducible apply Kept.modPort | with_reducible apply Kept.beginTrial | with_reducible apply Kept.openAll | with_reducible apply Kept.setLimit | with_reducible apply Kept.resumeUpkeep | with_reducible apply Kept.releaseVault | with_reducible apply Kept.modPw | with_reducible apply Kept.reviewPs | with_reducible apply Kept.setDegrade | with_reducible apply Kept.foldl | with_reducible apply Kept.foldl_snd | with_reducible apply KeptX.next | extract_lets | with_reducible refine Kept.ite ?_ ?_ | split
theorem execPerstAssert_kept {a s : State} (h : Kept a s) (x0 : PortId) : KeptX a (execPerstAssert x0 s) := by
  unfold execPerstAssert
  repeat' first | with_reducible assumption | intro _ | with_reducible apply Kept.modPort | with_reducible apply Kept.ctlReset | with_reducible apply Kept.foldl | with_reducible apply Kept.foldl_snd | with_reducible apply KeptX.next
theorem execRefclkMeasureComplete_kept {a s : State} (h : Kept a s) (x0 : PortId) (x1 : Option Int) : KeptX a (execRefclkMeasureComplete x0 x1 s) := by
  unfold execRefclkMeasureComplete
  repeat' first | with_reducible assumption | intro _ | with_reducible apply Kept.modPort | with_reducible apply Kept.foldl | with_reducible apply Kept.foldl_snd | with_reducible apply KeptX.next
theorem execConfigSpaceReady_kept {a s : State} (h : Kept a s) (x0 : PortId) : KeptX a (execConfigSpaceReady x0 s) := by
  unfold execConfigSpaceReady
  repeat' first | with_reducible assumption | intro _ | with_reducible apply Kept.modPort | with_reducible apply Kept.foldl | with_reducible apply Kept.foldl_snd | with_reducible apply KeptX.next
theorem execLinkDown_kept {a s : State} (h : Kept a s) (x0 : PortId) (x1 : Bool) : KeptX a (execLinkDown x0 x1 s) := by
  unfold execLinkDown
  repeat' first | with_reducible assumption | intro _ | with_reducible apply Kept.modPort | with_reducible apply Kept.ctlReset | with_reducible apply Kept.foldl | with_reducible apply Kept.foldl_snd | with_reducible apply KeptX.next | extract_lets | with_reducible refine Kept.ite ?_ ?_ | split
theorem execLinkRecoveryEntry_kept {a s : State} (h : Kept a s) (x0 : PortId) : KeptX a (execLinkRecoveryEntry x0 s) := by
  unfold execLinkRecoveryEntry
  repeat' first | with_reducible assumption | intro _ | with_reducible apply Kept.modPort | with_reducible apply Kept.foldl | with_reducible apply Kept.foldl_snd | with_reducible apply KeptX.next
theorem execPcieLinkTrained_kept {a s : State} (h : Kept a s) (x0 : PortId) (x1 : Nat) (x2 : Nat) : KeptX a (execPcieLinkTrained x0 x1 x2 s) := by
  unfold execPcieLinkTrained
  repeat' first | with_reducible assumption | intro _ | with_reducible apply Kept.modPort | with_reducible apply Kept.sendPending | with_reducible apply Kept.release | with_reducible apply Kept.report | with_reducible apply Kept.foldl | with_reducible apply Kept.foldl_snd | with_reducible apply KeptX.next | extract_lets | with_reducible refine Kept.ite ?_ ?_ | split
theorem execCcEnClear_kept {a s : State} (h : Kept a s) (x0 : PortId) : KeptX a (execCcEnClear x0 s) := by
  unfold execCcEnClear
  repeat' first | with_reducible assumption | intro _ | with_reducible apply Kept.ctlReset | with_reducible apply Kept.foldl | with_reducible apply Kept.foldl_snd | with_reducible apply KeptX.next | extract_lets | with_reducible refine Kept.ite ?_ ?_ | split
theorem execShutdownNotification_kept {a s : State} (h : Kept a s) (x0 : PortId) : KeptX a (execShutdownNotification x0 s) := by
  unfold execShutdownNotification
  repeat' first | with_reducible assumption | intro _ | with_reducible apply Kept.reviewPs | with_reducible apply Kept.modPort | with_reducible apply Kept.foldl | with_reducible apply Kept.foldl_snd | with_reducible apply KeptX.next | extract_lets | with_reducible refine Kept.ite ?_ ?_ | split
theorem execMsixVectorUnmask_kept {a s : State} (h : Kept a s) (x0 : PortId) (x1 : Unmask) : KeptX a (execMsixVectorUnmask x0 x1 s) := by
  unfold execMsixVectorUnmask
  repeat' first | with_reducible assumption | intro _ | with_reducible apply Kept.emit | with_reducible apply Kept.modPort | with_reducible apply Kept.sendPending | with_reducible apply Kept.foldl | with_reducible apply Kept.foldl_snd | with_reducible apply KeptX.next | extract_lets | with_reducible refine Kept.ite ?_ ?_ | split
theorem execCqHeadDoorbell_kept {a s : State} (h : Kept a s) (x0 : PortId) (x1 : DoorbellAt) (x2 : Bool) (x3 : Nat) : KeptX a (execCqHeadDoorbell x0 x1 x2 x3 s) := by
  unfold execCqHeadDoorbell
  repeat' first | with_reducible assumption | intro _ | with_reducible apply Kept.doorbell | with_reducible apply Kept.badDoorbell | with_reducible apply Kept.settleDeletes | with_reducible apply Kept.releaseHeld | with_reducible apply Kept.modInst | with_reducible apply Kept.foldl | with_reducible apply Kept.foldl_snd | with_reducible apply KeptX.next | extract_lets | with_reducible refine Kept.ite ?_ ?_ | split
theorem execStopWindowAccess_kept {a s : State} (h : Kept a s) (x0 : PortId) (x1 : LocalId) (x2 : Nat) (x3 : Option W64) : KeptX a (execStopWindowAccess x0 x1 x2 x3 s) := by
  unfold execStopWindowAccess
  repeat' first | with_reducible assumption | intro _ | with_reducible apply Kept.emit | with_reducible apply Kept.writeShell | with_reducible apply Kept.ctlWrite | with_reducible apply Kept.ctlRead | with_reducible apply Kept.foldl | with_reducible apply Kept.foldl_snd | with_reducible apply KeptX.next | extract_lets | with_reducible refine Kept.ite ?_ ?_ | split | dsimp +zetaDelta only
theorem execSqEntryFetch_kept {a s : State} (h : Kept a s) (x0 : PortId) (x1 : LocalId) (x2 : Nat) (x3 : List Sqe) : KeptX a (execSqEntryFetch x0 x1 x2 x3 s) := by
  unfold execSqEntryFetch
  repeat' first | with_reducible assumption | intro _ | with_reducible apply Kept.fetchOne | with_reducible apply Kept.modInst | with_reducible apply Kept.foldl | with_reducible apply Kept.foldl_snd | with_reducible apply KeptX.next | (with_reducible apply Kept.upd; first | with_reducible assumption | with_reducible apply Kept.fetchOne | with_reducible apply Kept.modInst | with_reducible apply Kept.foldl | with_reducible refine Kept.ite ?_ ?_) | extract_lets | with_reducible refine Kept.ite ?_ ?_ | split
theorem execHostDmaFailure_kept {a s : State} (h : Kept a s) (x0 : PortId) (x1 : DmaTarget) (x2 : DmaFault) : KeptX a (execHostDmaFailure x0 x1 x2 s) := by
  unfold execHostDmaFailure
  repeat' first | with_reducible assumption | intro _ | with_reducible apply Kept.complete | with_reducible apply Kept.logError | with_reducible apply Kept.violation | with_reducible apply Kept.endCaught | with_reducible apply Kept.modInst | with_reducible apply Kept.isolate | with_reducible apply Kept.dropHeld | with_reducible apply Kept.foldl | with_reducible apply Kept.foldl_snd | with_reducible apply KeptX.next | extract_lets | with_reducible refine Kept.ite ?_ ?_ | split
theorem execCapAllowanceInterval_kept {a s : State} (h : Kept a s) (x0 : QuadId) : KeptX a (execCapAllowanceInterval x0 s) := by
  unfold execCapAllowanceInterval
  repeat' first | with_reducible assumption | intro _ | with_reducible apply Kept.each | with_reducible apply Kept.capTrim | with_reducible apply Kept.modInst | with_reducible apply Kept.foldl | with_reducible apply Kept.foldl_snd | with_reducible apply KeptX.next
theorem execHostViolWindowRoll_kept {a s : State} (h : Kept a s) : KeptX a (execHostViolWindowRoll s) := by
  unfold execHostViolWindowRoll
  repeat' first | with_reducible assumption | intro _ | with_reducible apply Kept.allPorts | with_reducible apply Kept.report | with_reducible apply Kept.modPort | with_reducible apply Kept.foldl | with_reducible apply Kept.foldl_snd | with_reducible apply KeptX.next | (with_reducible apply Kept.upd; first | with_reducible assumption | with_reducible apply Kept.allPorts | with_reducible apply Kept.report | with_reducible apply Kept.modPort | with_reducible apply Kept.foldl | with_reducible refine Kept.ite ?_ ?_)
theorem execDeferredErrorEventTimeout_kept {a s : State} (h : Kept a s) (x0 : PortId) : KeptX a (execDeferredErrorEventTimeout x0 s) := by
  unfold execDeferredErrorEventTimeout
  repeat' first | with_reducible assumption | intro _ | with_reducible apply Kept.postVendor | with_reducible apply Kept.notBefore | with_reducible apply Kept.each | with_reducible apply Kept.modInst | with_reducible apply Kept.foldl | with_reducible apply Kept.foldl_snd | with_reducible apply KeptX.next | extract_lets | with_reducible refine Kept.ite ?_ ?_ | split
theorem execCreateIoSq_kept {a s : State} (h : Kept a s) (x0 : Nat) : KeptX a (execCreateIoSq x0 s) := by
  unfold execCreateIoSq
  repeat' first | with_reducible assumption | intro _ | with_reducible apply Kept.admin | with_reducible apply Kept.createSq | with_reducible apply Kept.foldl | with_reducible apply Kept.foldl_snd | with_reducible apply KeptX.next
theorem execCreateIoCq_kept {a s : State} (h : Kept a s) (x0 : Nat) : KeptX a (execCreateIoCq x0 s) := by
  unfold execCreateIoCq
  repeat' first | with_reducible assumption | intro _ | with_reducible apply Kept.admin | with_reducible apply Kept.createCq | with_reducible apply Kept.foldl | with_reducible apply Kept.foldl_snd | with_reducible apply KeptX.next
theorem execDeleteIoCq_kept {a s : State} (h : Kept a s) (x0 : Nat) : KeptX a (execDeleteIoCq x0 s) := by
  unfold execDeleteIoCq
  repeat' first | with_reducible assumption | intro _ | with_reducible apply Kept.admin | with_reducible apply Kept.deleteCq | with_reducible apply Kept.foldl | with_reducible apply Kept.foldl_snd | with_reducible apply KeptX.next
theorem execGetLogErrorInfo_kept {a s : State} (h : Kept a s) (x0 : Nat) : KeptX a (execGetLogErrorInfo x0 s) := by
  unfold execGetLogErrorInfo
  repeat' first | with_reducible assumption | intro _ | with_reducible apply Kept.getLog | with_reducible apply Kept.sendPage | with_reducible apply Kept.foldl | with_reducible apply Kept.foldl_snd | with_reducible apply KeptX.next
theorem execGetLogSmart_kept {a s : State} (h : Kept a s) (x0 : Nat) : KeptX a (execGetLogSmart x0 s) := by
  unfold execGetLogSmart
  repeat' first | with_reducible assumption | intro _ | with_reducible apply Kept.getLog | with_reducible apply Kept.sendPage | with_reducible apply Kept.foldl | with_reducible apply Kept.foldl_snd | with_reducible apply KeptX.next
theorem execGetLogFwSlot_kept {a s : State} (h : Kept a s) (x0 : Nat) : KeptX a (execGetLogFwSlot x0 s) := by
  unfold execGetLogFwSlot
  repeat' first | with_reducible assumption | intro _ | with_reducible apply Kept.getLog | with_reducible apply Kept.sendPage | with_reducible apply Kept.foldl | with_reducible apply Kept.foldl_snd | with_reducible apply KeptX.next
theorem execGetLogCommandsEffects_kept {a s : State} (h : Kept a s) (x0 : Nat) : KeptX a (execGetLogCommandsEffects x0 s) := by
  unfold execGetLogCommandsEffects
  repeat' first | with_reducible assumption | intro _ | with_reducible apply Kept.getLog | with_reducible apply Kept.sendPage | with_reducible apply Kept.foldl | with_reducible apply Kept.foldl_snd | with_reducible apply KeptX.next
theorem execGetLogDeferredErrors_kept {a s : State} (h : Kept a s) (x0 : Nat) : KeptX a (execGetLogDeferredErrors x0 s) := by
  unfold execGetLogDeferredErrors
  repeat' first | with_reducible assumption | intro _ | with_reducible apply Kept.getLog | with_reducible apply Kept.instPage | with_reducible apply Kept.readDeferred | with_reducible apply Kept.foldl | with_reducible apply Kept.foldl_snd | with_reducible apply KeptX.next
theorem execGetLogLatencyHistograms_kept {a s : State} (h : Kept a s) (x0 : Nat) : KeptX a (execGetLogLatencyHistograms x0 s) := by
  unfold execGetLogLatencyHistograms
  repeat' first | with_reducible assumption | intro _ | with_reducible apply Kept.getLog | with_reducible apply Kept.instPage | with_reducible apply Kept.sendPage | with_reducible apply Kept.foldl | with_reducible apply Kept.foldl_snd | with_reducible apply KeptX.next
theorem execGetLogMediaHealth_kept {a s : State} (h : Kept a s) (x0 : Nat) : KeptX a (execGetLogMediaHealth x0 s) := by
  unfold execGetLogMediaHealth
  repeat' first | with_reducible assumption | intro _ | with_reducible apply Kept.getLog | with_reducible apply Kept.modHealth | with_reducible apply Kept.sendPage | with_reducible apply Kept.pageRead | with_reducible apply Kept.foldl | with_reducible apply Kept.foldl_snd | with_reducible apply KeptX.next | extract_lets | with_reducible refine Kept.ite ?_ ?_
theorem execGetLogStops_kept {a s : State} (h : Kept a s) (x0 : Nat) : KeptX a (execGetLogStops x0 s) := by
  unfold execGetLogStops
  repeat' first | with_reducible assumption | intro _ | with_reducible apply Kept.getLog | with_reducible apply Kept.sendPage | with_reducible apply Kept.pageRead | with_reducible apply Kept.foldl | with_reducible apply Kept.foldl_snd | with_reducible apply KeptX.next
theorem execGetLogPowerThermal_kept {a s : State} (h : Kept a s) (x0 : Nat) : KeptX a (execGetLogPowerThermal x0 s) := by
  unfold execGetLogPowerThermal
  repeat' first | with_reducible assumption | intro _ | with_reducible apply Kept.getLog | with_reducible apply Kept.sendPage | with_reducible apply Kept.pageRead | with_reducible apply Kept.foldl | with_reducible apply Kept.foldl_snd | with_reducible apply KeptX.next
theorem execGetLogDieStatistics_kept {a s : State} (h : Kept a s) (x0 : Nat) : KeptX a (execGetLogDieStatistics x0 s) := by
  unfold execGetLogDieStatistics
  repeat' first | with_reducible assumption | intro _ | with_reducible apply Kept.getLog | with_reducible apply Kept.complete | with_reducible apply Kept.sendPage | with_reducible apply Kept.foldl | with_reducible apply Kept.foldl_snd | with_reducible apply KeptX.next | extract_lets | with_reducible refine Kept.ite ?_ ?_
theorem execIdentifyController_kept {a s : State} (h : Kept a s) (x0 : Nat) : KeptX a (execIdentifyController x0 s) := by
  unfold execIdentifyController
  repeat' first | with_reducible assumption | intro _ | with_reducible apply Kept.identifyRow | with_reducible apply Kept.foldl | with_reducible apply Kept.foldl_snd | with_reducible apply KeptX.next
theorem execIdentifyNamespace_kept {a s : State} (h : Kept a s) (x0 : Nat) : KeptX a (execIdentifyNamespace x0 s) := by
  unfold execIdentifyNamespace
  repeat' first | with_reducible assumption | intro _ | with_reducible apply Kept.identifyRow | with_reducible apply Kept.foldl | with_reducible apply Kept.foldl_snd | with_reducible apply KeptX.next
theorem execIdentifyNsDescriptors_kept {a s : State} (h : Kept a s) (x0 : Nat) : KeptX a (execIdentifyNsDescriptors x0 s) := by
  unfold execIdentifyNsDescriptors
  repeat' first | with_reducible assumption | intro _ | with_reducible apply Kept.identifyRow | with_reducible apply Kept.foldl | with_reducible apply Kept.foldl_snd | with_reducible apply KeptX.next
theorem execIdentifyControllerList_kept {a s : State} (h : Kept a s) (x0 : Nat) : KeptX a (execIdentifyControllerList x0 s) := by
  unfold execIdentifyControllerList
  repeat' first | with_reducible assumption | intro _ | with_reducible apply Kept.identifyRow | with_reducible apply Kept.foldl | with_reducible apply Kept.foldl_snd | with_reducible apply KeptX.next
theorem execSetFeaturesArbitration_kept {a s : State} (h : Kept a s) (x0 : Nat) : KeptX a (execSetFeaturesArbitration x0 s) := by
  unfold execSetFeaturesArbitration
  repeat' first | with_reducible assumption | intro _ | with_reducible apply Kept.keepFeature | with_reducible apply Kept.foldl | with_reducible apply Kept.foldl_snd | with_reducible apply KeptX.next
theorem execSetFeaturesNumberOfQueues_kept {a s : State} (h : Kept a s) (x0 : Nat) : KeptX a (execSetFeaturesNumberOfQueues x0 s) := by
  unfold execSetFeaturesNumberOfQueues
  repeat' first | with_reducible assumption | intro _ | with_reducible apply Kept.setFeature | with_reducible apply Kept.complete | with_reducible apply Kept.modPort | with_reducible apply Kept.foldl | with_reducible apply Kept.foldl_snd | with_reducible apply KeptX.next | extract_lets | with_reducible refine Kept.ite ?_ ?_
theorem execSetFeaturesIntCoalescing_kept {a s : State} (h : Kept a s) (x0 : Nat) : KeptX a (execSetFeaturesIntCoalescing x0 s) := by
  unfold execSetFeaturesIntCoalescing
  repeat' first | with_reducible assumption | intro _ | with_reducible apply Kept.setFeature | with_reducible apply Kept.save | with_reducible apply Kept.complete | with_reducible apply Kept.setCoalesce | with_reducible apply Kept.foldl | with_reducible apply Kept.foldl_snd | with_reducible apply KeptX.next | extract_lets | with_reducible refine Kept.ite ?_ ?_
theorem execSetFeaturesIntVectorConfig_kept {a s : State} (h : Kept a s) (x0 : Nat) : KeptX a (execSetFeaturesIntVectorConfig x0 s) := by
  unfold execSetFeaturesIntVectorConfig
  repeat' first | with_reducible assumption | intro _ | with_reducible apply Kept.setFeature | with_reducible apply Kept.complete | with_reducible apply Kept.save | with_reducible apply Kept.setVector | with_reducible apply Kept.foldl | with_reducible apply Kept.foldl_snd | with_reducible apply KeptX.next | extract_lets | with_reducible refine Kept.ite ?_ ?_
theorem execSetFeaturesWriteAtomicity_kept {a s : State} (h : Kept a s) (x0 : Nat) : KeptX a (execSetFeaturesWriteAtomicity x0 s) := by
  unfold execSetFeaturesWriteAtomicity
  repeat' first | with_reducible assumption | intro _ | with_reducible apply Kept.keepFeature | with_reducible apply Kept.foldl | with_reducible apply Kept.foldl_snd | with_reducible apply KeptX.next
theorem execApstIdleExpiry_kept {a s : State} (h : Kept a s) (x0 : PortId) : KeptX a (execApstIdleExpiry x0 s) := by
  unfold execApstIdleExpiry
  repeat' first | with_reducible assumption | intro _ | with_reducible apply Kept.reviewPs | with_reducible apply Kept.modPort | with_reducible apply Kept.notBefore | with_reducible apply Kept.foldl | with_reducible apply Kept.foldl_snd | with_reducible apply KeptX.next | extract_lets | with_reducible refine Kept.ite ?_ ?_ | split
theorem execPs4DroneExcursion_kept {a s : State} (h : Kept a s) (x0 : Bool) : KeptX a (execPs4DroneExcursion x0 s) := by
  unfold execPs4DroneExcursion
  repeat' first | with_reducible assumption | intro _ | with_reducible apply Kept.modModes | with_reducible apply Kept.foldl | with_reducible apply Kept.foldl_snd | with_reducible apply KeptX.next | extract_lets | with_reducible refine Kept.ite ?_ ?_ | split
theorem execNamespaceAttach_kept {a s : State} (h : Kept a s) (x0 : Nat) : KeptX a (execNamespaceAttach x0 s) := by
  unfold execNamespaceAttach
  repeat' first | with_reducible assumption | intro _ | with_reducible apply Kept.attachment | with_reducible apply Kept.complete | with_reducible apply Kept.each | with_reducible apply Kept.logInst | with_reducible apply Kept.reviewRegions | with_reducible apply Kept.foldl | with_reducible apply Kept.foldl_snd | with_reducible apply KeptX.next | extract_lets | with_reducible refine Kept.ite ?_ ?_
theorem execNamespaceDetach_kept {a s : State} (h : Kept a s) (x0 : Nat) : KeptX a (execNamespaceDetach x0 s) := by
  unfold execNamespaceDetach
  repeat' first | with_reducible assumption | intro _ | with_reducible apply Kept.attachment | with_reducible apply Kept.complete | with_reducible apply Kept.modCtx | with_reducible apply Kept.each | with_reducible apply Kept.startEpoch | with_reducible apply Kept.detach | with_reducible apply Kept.foldl | with_reducible apply Kept.foldl_snd | with_reducible apply KeptX.next | extract_lets | with_reducible refine Kept.ite ?_ ?_
theorem execFirmwareImageDownload_kept {a s : State} (h : Kept a s) (x0 : Nat) : KeptX a (execFirmwareImageDownload x0 s) := by
  unfold execFirmwareImageDownload
  repeat' first | with_reducible assumption | intro _ | with_reducible apply Kept.updateAdmin | with_reducible apply Kept.takePiece | with_reducible apply Kept.foldl | with_reducible apply Kept.foldl_snd | with_reducible apply KeptX.next
theorem execFirmwareCommitVerify_kept {a s : State} (h : Kept a s) (x0 : Nat) : KeptX a (execFirmwareCommitVerify x0 s) := by
  unfold execFirmwareCommitVerify
  repeat' first | with_reducible assumption | intro _ | with_reducible apply Kept.commitOf | with_reducible apply Kept.commitPackage | with_reducible apply Kept.foldl | with_reducible apply Kept.foldl_snd | with_reducible apply KeptX.next
theorem execFirmwareCommitNextBoot_kept {a s : State} (h : Kept a s) (x0 : Nat) : KeptX a (execFirmwareCommitNextBoot x0 s) := by
  unfold execFirmwareCommitNextBoot
  repeat' first | with_reducible assumption | intro _ | with_reducible apply Kept.commitOf | with_reducible apply Kept.commitPackage | with_reducible apply Kept.foldl | with_reducible apply Kept.foldl_snd | with_reducible apply KeptX.next
theorem execUpdateVerificationComplete_kept {a s : State} (h : Kept a s) (x0 : VerifyFound) : KeptX a (execUpdateVerificationComplete x0 s) := by
  unfold execUpdateVerificationComplete
  repeat' first | with_reducible assumption | intro _ | with_reducible apply Kept.notVerified | with_reducible apply Kept.keepWrite | with_reducible apply Kept.modFlash | with_reducible apply Kept.complete | with_reducible apply Kept.verified | with_reducible apply Kept.placePackage | with_reducible apply Kept.foldl | with_reducible apply Kept.foldl_snd | with_reducible apply KeptX.next | extract_lets | with_reducible refine Kept.ite ?_ ?_ | split | dsimp +zetaDelta only
theorem execDirectiveReceive_kept {a s : State} (h : Kept a s) (x0 : Nat) : KeptX a (execDirectiveReceive x0 s) := by
  unfold execDirectiveReceive
  repeat' first | with_reducible assumption | intro _ | with_reducible apply Kept.admin | with_reducible apply Kept.complete | with_reducible apply Kept.toHost | with_reducible apply Kept.foldl | with_reducible apply Kept.foldl_snd | with_reducible apply KeptX.next | extract_lets | with_reducible refine Kept.ite ?_ ?_ | split
theorem execInstanceReport_kept {a s : State} (h : Kept a s) (x0 : Nat) : KeptX a (execInstanceReport x0 s) := by
  unfold execInstanceReport
  repeat' first | with_reducible assumption | intro _ | with_reducible apply Kept.admin | with_reducible apply Kept.complete | with_reducible apply Kept.toHost | with_reducible apply Kept.foldl | with_reducible apply Kept.foldl_snd | with_reducible apply KeptX.next | extract_lets | with_reducible refine Kept.ite ?_ ?_
theorem execShareDrainLimitExpiry_kept {a s : State} (h : Kept a s) (x0 : PortId) (x1 : LocalId) : KeptX a (execShareDrainLimitExpiry x0 x1 s) := by
  unfold execShareDrainLimitExpiry
  repeat' first | with_reducible assumption | intro _ | with_reducible apply Kept.reviewRegions | with_reducible apply Kept.applyChange | with_reducible apply Kept.notBefore | with_reducible apply Kept.foldl | with_reducible apply Kept.foldl_snd | with_reducible apply KeptX.next | extract_lets | with_reducible refine Kept.ite ?_ ?_ | split
theorem execResetInstance_kept {a s : State} (h : Kept a s) (x0 : Nat) : KeptX a (execResetInstance x0 s) := by
  unfold execResetInstance
  repeat' first | with_reducible assumption | intro _ | with_reducible apply Kept.slotCommand | with_reducible apply Kept.awaitSeal | with_reducible apply Kept.resetInst | with_reducible apply Kept.foldl | with_reducible apply Kept.foldl_snd | with_reducible apply KeptX.next
theorem execReclaimMapMemory_kept {a s : State} (h : Kept a s) (x0 : Nat) : KeptX a (execReclaimMapMemory x0 s) := by
  unfold execReclaimMapMemory
  repeat' first | with_reducible assumption | intro _ | with_reducible apply Kept.adminWait | with_reducible apply Kept.complete | with_reducible apply Kept.modCtx | with_reducible apply Kept.endLends | with_reducible apply Kept.foldl | with_reducible apply Kept.foldl_snd | with_reducible apply KeptX.next | extract_lets | with_reducible refine Kept.ite ?_ ?_
theorem execT2AccessFailure_kept {a s : State} (h : Kept a s) (x0 : PortId) (x1 : Fin 4) (x2 : DmaFault) : KeptX a (execT2AccessFailure x0 x1 x2 s) := by
  unfold execT2AccessFailure
  repeat' first | with_reducible assumption | intro _ | with_reducible apply Kept.managerEvent | with_reducible apply Kept.endLends | with_reducible apply Kept.foldl | with_reducible apply Kept.foldl_snd | with_reducible apply KeptX.next | extract_lets | with_reducible refine Kept.ite ?_ ?_ | split
theorem execLoadStopImageTransfer_kept {a s : State} (h : Kept a s) (x0 : Nat) : KeptX a (execLoadStopImageTransfer x0 s) := by
  unfold execLoadStopImageTransfer
  repeat' first | with_reducible assumption | intro _ | with_reducible apply Kept.loadStop | with_reducible apply Kept.complete | with_reducible apply Kept.abandonPackage | with_reducible apply Kept.modStop | with_reducible apply Kept.foldl | with_reducible apply Kept.foldl_snd | with_reducible apply KeptX.next | extract_lets | with_reducible refine Kept.ite ?_ ?_
theorem execLoadStopImageLoad_kept {a s : State} (h : Kept a s) (x0 : Nat) (x1 : Bool) (x2 : Option (Fin 4)) (x3 : Option (BitVec 384)) : KeptX a (execLoadStopImageLoad x0 x1 x2 x3 s) := by
  unfold execLoadStopImageLoad
  repeat' first | with_reducible assumption | intro _ | with_reducible apply Kept.loadStop | with_reducible apply Kept.complete | with_reducible apply Kept.acceptLoad | with_reducible apply Kept.foldl | with_reducible apply Kept.foldl_snd | with_reducible apply KeptX.next | extract_lets | with_reducible refine Kept.ite ?_ ?_ | split | dsimp +zetaDelta only
theorem execLoadStopImageReload_kept {a s : State} (h : Kept a s) (x0 : Nat) : KeptX a (execLoadStopImageReload x0 s) := by
  unfold execLoadStopImageReload
  repeat' first | with_reducible assumption | intro _ | with_reducible apply Kept.loadStop | with_reducible apply Kept.complete | with_reducible apply Kept.startEpoch | with_reducible apply Kept.modCtx | with_reducible apply Kept.foldl | with_reducible apply Kept.foldl_snd | with_reducible apply KeptX.next | extract_lets | with_reducible refine Kept.ite ?_ ?_
theorem execVoicingSelect_kept {a s : State} (h : Kept a s) (x0 : Nat) : KeptX a (execVoicingSelect x0 s) := by
  unfold execVoicingSelect
  repeat' first | with_reducible assumption | intro _ | with_reducible apply Kept.voicingSelect | with_reducible apply Kept.foldl | with_reducible apply Kept.foldl_snd | with_reducible apply KeptX.next
theorem execSetUpdateLock_kept {a s : State} (h : Kept a s) (x0 : MbHdr) (x1 : Bool) : KeptX a (execSetUpdateLock x0 x1 s) := by
  unfold execSetUpdateLock
  repeat' first | with_reducible assumption | intro _ | with_reducible apply Kept.mailbox | with_reducible apply Kept.foldl | with_reducible apply Kept.foldl_snd | with_reducible apply KeptX.next
theorem execSetRpl_kept {a s : State} (h : Kept a s) (x0 : MbHdr) (x1 : Nat) (x2 : Bool) : KeptX a (execSetRpl x0 x1 x2 s) := by
  unfold execSetRpl
  repeat' first | with_reducible assumption | intro _ | with_reducible apply Kept.mailbox | with_reducible apply Kept.foldl | with_reducible apply Kept.foldl_snd | with_reducible apply KeptX.next
theorem execLoadKey_kept {a s : State} (h : Kept a s) (x0 : MbHdr) (x1 : Nat) (x2 : Bool) (x3 : Bool) (x4 : BitVec 64) : KeptX a (execLoadKey x0 x1 x2 x3 x4 s) := by
  unfold execLoadKey
  repeat' first | with_reducible assumption | intro _ | with_reducible apply Kept.mailbox | with_reducible apply Kept.foldl | with_reducible apply Kept.foldl_snd | with_reducible apply KeptX.next
theorem execClearKey_kept {a s : State} (h : Kept a s) (x0 : MbHdr) (x1 : Nat) : KeptX a (execClearKey x0 x1 s) := by
  unfold execClearKey
  repeat' first | with_reducible assumption | intro _ | with_reducible apply Kept.mailbox | with_reducible apply Kept.foldl | with_reducible apply Kept.foldl_snd | with_reducible apply KeptX.next
theorem execRotateOperatorKey_kept {a s : State} (h : Kept a s) (x0 : MbHdr) (x1 : BitVec 384) (x2 : Bool) : KeptX a (execRotateOperatorKey x0 x1 x2 s) := by
  unfold execRotateOperatorKey
  repeat' first | with_reducible assumption | intro _ | with_reducible apply Kept.mailbox | with_reducible apply Kept.foldl | with_reducible apply Kept.foldl_snd | with_reducible apply KeptX.next
theorem execRevokeImageKey_kept {a s : State} (h : Kept a s) (x0 : MbHdr) (x1 : Fin 4) : KeptX a (execRevokeImageKey x0 x1 s) := by
  unfold execRevokeImageKey
  repeat' first | with_reducible assumption | intro _ | with_reducible apply Kept.mailbox | with_reducible apply Kept.foldl | with_reducible apply Kept.foldl_snd | with_reducible apply KeptX.next
theorem execDeviceEpochDrainEnd_kept {a s : State} (h : Kept a s) : KeptX a (execDeviceEpochDrainEnd s) := by
  unfold execDeviceEpochDrainEnd
  repeat' first | with_reducible assumption | intro _ | with_reducible apply Kept.sealNow | with_reducible apply Kept.each | with_reducible apply Kept.applyChange | with_reducible apply Kept.formatNs | with_reducible apply Kept.endDevEpoch | with_reducible apply Kept.answerEpoch | with_reducible apply Kept.eraseKeys | with_reducible apply Kept.answerErase | with_reducible apply Kept.applyVoicing | with_reducible apply Kept.applyRpl | with_reducible apply Kept.commitActivation | with_reducible apply Kept.foldl | with_reducible apply Kept.foldl_snd | with_reducible apply KeptX.next | extract_lets | with_reducible refine Kept.ite ?_ ?_ | split
theorem execDrainInterruptTimeout_kept {a s : State} (h : Kept a s) : KeptX a (execDrainInterruptTimeout s) := by
  unfold execDrainInterruptTimeout
  repeat' first | with_reducible assumption | intro _ | with_reducible apply Kept.notBefore | with_reducible apply Kept.retry | with_reducible apply Kept.complete | with_reducible apply Kept.endWrite | with_reducible apply Kept.endCaught | with_reducible apply Kept.modCache | with_reducible apply Kept.foldl | with_reducible apply Kept.foldl_snd | with_reducible apply KeptX.next | extract_lets | with_reducible refine Kept.ite ?_ ?_ | split
theorem execFlush_kept {a s : State} (h : Kept a s) (x0 : Nat) : KeptX a (execFlush x0 s) := by
  unfold execFlush
  repeat' first | with_reducible assumption | intro _ | with_reducible apply Kept.complete | with_reducible apply Kept.tryFlush | with_reducible apply Kept.closeHolding | with_reducible apply Kept.modCtx | with_reducible apply Kept.foldl | with_reducible apply Kept.foldl_snd | with_reducible apply KeptX.next | extract_lets | with_reducible refine Kept.ite ?_ ?_ | split
theorem execWriteZeroes_kept {a s : State} (h : Kept a s) (x0 : Nat) : KeptX a (execWriteZeroes x0 s) := by
  unfold execWriteZeroes
  repeat' first | with_reducible assumption | intro _ | with_reducible apply Kept.io | with_reducible apply Kept.complete | with_reducible apply Kept.modCtx | with_reducible apply Kept.tryWrite | with_reducible apply Kept.askSpace | with_reducible apply Kept.foldl | with_reducible apply Kept.foldl_snd | with_reducible apply KeptX.next | extract_lets | with_reducible refine Kept.ite ?_ ?_
theorem execVerify_kept {a s : State} (h : Kept a s) (x0 : Nat) : KeptX a (execVerify x0 s) := by
  unfold execVerify
  repeat' first | with_reducible assumption | intro _ | with_reducible apply Kept.io | with_reducible apply Kept.beginRead | with_reducible apply Kept.foldl | with_reducible apply Kept.foldl_snd | with_reducible apply KeptX.next
theorem execMergeReadComplete_kept {a s : State} (h : Kept a s) (x0 : Nat) (x1 : Nat) : KeptX a (execMergeReadComplete x0 x1 s) := by
  unfold execMergeReadComplete
  repeat' first | with_reducible assumption | intro _ | with_reducible apply Kept.modCtx | with_reducible apply Kept.retry | with_reducible apply Kept.arrive | with_reducible apply Kept.tryWrite | with_reducible apply Kept.foldl | with_reducible apply Kept.foldl_snd | with_reducible apply KeptX.next | extract_lets | with_reducible refine Kept.ite ?_ ?_ | split
theorem execWriteThroughStripeClose_kept {a s : State} (h : Kept a s) (x0 : Nat) : KeptX a (execWriteThroughStripeClose x0 s) := by
  unfold execWriteThroughStripeClose
  repeat' first | with_reducible assumption | intro _ | with_reducible apply Kept.refreshHeld | with_reducible apply Kept.closeStripe | with_reducible apply Kept.notBefore | with_reducible apply Kept.foldl | with_reducible apply Kept.foldl_snd | with_reducible apply KeptX.next | extract_lets | with_reducible refine Kept.ite ?_ ?_ | split
theorem execSuspendWindowExpiry_kept {a s : State} (h : Kept a s) (x0 : LinkId) (x1 : Fin 18) : KeptX a (execSuspendWindowExpiry x0 x1 s) := by
  unfold execSuspendWindowExpiry
  repeat' first | with_reducible assumption | intro _ | with_reducible apply Kept.resumeOp | with_reducible apply Kept.notBefore | with_reducible apply Kept.foldl | with_reducible apply Kept.foldl_snd | with_reducible apply KeptX.next | extract_lets | with_reducible refine Kept.ite ?_ ?_ | split
theorem execDieReadTimeout_kept {a s : State} (h : Kept a s) (x0 : LinkId) (x1 : Nat) : KeptX a (execDieReadTimeout x0 x1 s) := by
  unfold execDieReadTimeout
  repeat' first | with_reducible assumption | intro _ | with_reducible apply Kept.notBefore | with_reducible apply Kept.toStep4 | with_reducible apply Kept.allToStep4 | with_reducible apply Kept.suspectDie | with_reducible apply Kept.foldl | with_reducible apply Kept.foldl_snd | with_reducible apply KeptX.next | extract_lets | with_reducible refine Kept.ite ?_ ?_ | split
theorem execReplayTimeout_kept {a s : State} (h : Kept a s) (x0 : LinkId) : KeptX a (execReplayTimeout x0 s) := by
  unfold execReplayTimeout
  repeat' first | with_reducible assumption | intro _ | with_reducible apply Kept.retry | with_reducible apply Kept.replay | with_reducible apply Kept.notBefore | with_reducible apply Kept.foldl | with_reducible apply Kept.foldl_snd | with_reducible apply KeptX.next | extract_lets | with_reducible refine Kept.ite ?_ ?_ | split
theorem execPodViolWindowRoll_kept {a s : State} (h : Kept a s) : KeptX a (execPodViolWindowRoll s) := by
  unfold execPodViolWindowRoll
  repeat' first | with_reducible assumption | intro _ | with_reducible apply Kept.foldl | with_reducible apply Kept.foldl_snd | with_reducible apply KeptX.next | (with_reducible apply Kept.upd; first | with_reducible assumption | with_reducible apply Kept.foldl | with_reducible refine Kept.ite ?_ ?_)
theorem execLinkRecoveryStepResult_kept {a s : State} (h : Kept a s) (x0 : LinkId) (x1 : Bool) : KeptX a (execLinkRecoveryStepResult x0 x1 s) := by
  unfold execLinkRecoveryStepResult
  repeat' first | with_reducible assumption | intro _ | with_reducible apply Kept.recGo | with_reducible apply Kept.retry | with_reducible apply Kept.recGo | with_reducible apply Kept.modSpares | with_reducible apply Kept.logRec | with_reducible apply Kept.modLink | with_reducible apply Kept.report | with_reducible apply Kept.reviewSpares | with_reducible apply Kept.healthEvent | with_reducible apply Kept.linkBack | with_reducible apply Kept.foldl | with_reducible apply Kept.foldl_snd | with_reducible apply KeptX.next | extract_lets | with_reducible refine Kept.ite ?_ ?_ | split
theorem execLdpcDecodeComplete_kept {a s : State} (h : Kept a s) (x0 : Nat) (x1 : DecodeEnd) (x2 : Nat) (x3 : Nat) : KeptX a (execLdpcDecodeComplete x0 x1 x2 x3 s) := by
  unfold execLdpcDecodeComplete
  repeat' first | with_reducible assumption | intro _ | with_reducible apply Kept.dropOp | with_reducible apply Kept.retry | with_reducible apply Kept.decoded | with_reducible apply Kept.countBits | with_reducible apply Kept.foldl | with_reducible apply Kept.foldl_snd | with_reducible apply KeptX.next | extract_lets | with_reducible refine Kept.ite ?_ ?_ | split
theorem execMcRegionLoWrite_kept {a s : State} (h : Kept a s) (x0 : Writer) (x1 : Fin 64) (x2 : W64) : KeptX a (execMcRegionLoWrite x0 x1 x2 s) := by
  unfold execMcRegionLoWrite
  repeat' first | with_reducible assumption | intro _ | with_reducible apply Kept.modMc | with_reducible apply Kept.putRegion | with_reducible apply Kept.foldl | with_reducible apply Kept.foldl_snd | with_reducible apply KeptX.next | extract_lets | with_reducible refine Kept.ite ?_ ?_ | split
theorem execMcClean_kept {a s : State} (h : Kept a s) : KeptX a (execMcClean s) := by
  unfold execMcClean
  repeat' first | with_reducible assumption | intro _ | with_reducible apply Kept.maintCmd | with_reducible apply Kept.foldl | with_reducible apply Kept.foldl_snd | with_reducible apply KeptX.next
theorem execMcDiscard_kept {a s : State} (h : Kept a s) : KeptX a (execMcDiscard s) := by
  unfold execMcDiscard
  repeat' first | with_reducible assumption | intro _ | with_reducible apply Kept.maintCmd | with_reducible apply Kept.foldl | with_reducible apply Kept.foldl_snd | with_reducible apply KeptX.next
theorem execMcUnlock_kept {a s : State} (h : Kept a s) : KeptX a (execMcUnlock s) := by
  unfold execMcUnlock
  repeat' first | with_reducible assumption | intro _ | with_reducible apply Kept.maintCmd | with_reducible apply Kept.foldl | with_reducible apply Kept.foldl_snd | with_reducible apply KeptX.next
theorem execCheckpointLine_kept {a s : State} (h : Kept a s) (x0 : Nat) (x1 : Nat) : KeptX a (execCheckpointLine x0 x1 s) := by
  unfold execCheckpointLine
  repeat' first | with_reducible assumption | intro _ | with_reducible apply Kept.rewriteSegment | with_reducible apply Kept.writeRecord | with_reducible apply Kept.foldl | with_reducible apply Kept.foldl_snd | with_reducible apply KeptX.next | extract_lets | with_reducible refine Kept.ite ?_ ?_ | split
theorem execGcVictimStart_kept {a s : State} (h : Kept a s) (x0 : Fin 16) : KeptX a (execGcVictimStart x0 s) := by
  unfold execGcVictimStart
  repeat' first | with_reducible assumption | intro _ | with_reducible apply Kept.startReloc | with_reducible apply Kept.foldl | with_reducible apply Kept.foldl_snd | with_reducible apply KeptX.next | extract_lets | with_reducible refine Kept.ite ?_ ?_ | split
theorem execRelocationCopyComplete_kept {a s : State} (h : Kept a s) (x0 : Fin 16) (x1 : Nat) : KeptX a (execRelocationCopyComplete x0 x1 s) := by
  unfold execRelocationCopyComplete
  repeat' first | with_reducible assumption | intro _ | with_reducible apply Kept.copyUnit | with_reducible apply Kept.copyRecords | with_reducible apply Kept.noteScrubbed | with_reducible apply Kept.modHealth | with_reducible apply Kept.setUnit | with_reducible apply Kept.logRec | with_reducible apply Kept.modReloc | with_reducible apply Kept.logBand | with_reducible apply Kept.foldl | with_reducible apply Kept.foldl_snd | with_reducible apply KeptX.next | extract_lets | with_reducible refine Kept.ite ?_ ?_ | split
theorem execRetentionClockTick_kept {a s : State} (h : Kept a s) : KeptX a (execRetentionClockTick s) := by
  unfold execRetentionClockTick
  repeat' first | with_reducible assumption | intro _ | with_reducible apply Kept.each | with_reducible apply Kept.modGroup | with_reducible apply Kept.foldl | with_reducible apply Kept.foldl_snd | with_reducible apply KeptX.next | extract_lets | with_reducible refine Kept.ite ?_ ?_ | split
theorem execWriteClosedTimer_kept {a s : State} (h : Kept a s) (x0 : Fin 16) : KeptX a (execWriteClosedTimer x0 s) := by
  unfold execWriteClosedTimer
  repeat' first | with_reducible assumption | intro _ | with_reducible apply Kept.retry | with_reducible apply Kept.setClosed | with_reducible apply Kept.foldl | with_reducible apply Kept.foldl_snd | with_reducible apply KeptX.next | extract_lets | with_reducible refine Kept.ite ?_ ?_ | split
theorem execRebuildRowSolve_kept {a s : State} (h : Kept a s) (x0 : Nat) (x1 : List SlotSolve) : KeptX a (execRebuildRowSolve x0 x1 s) := by
  unfold execRebuildRowSolve
  split
  · exact .next h
  · split
    · exact .next h
    · split
      · exact .next (h.rebuildEnd _)
      · split
        · exact .next h
        · rename_i t ht
          obtain ⟨m, _, hm⟩ := Option.bind_eq_some_iff.mp ht
          have := h.rebuildRow_eq (e := hm) ..
          exact .next (Kept.ite (fun _ => this.rebuildEnd _) (fun _ => this)).retry
theorem execBaySwitchStatusPoll_kept {a s : State} (h : Kept a s) (x0 : LinkId) (x1 : BayStatus) : KeptX a (execBaySwitchStatusPoll x0 x1 s) := by
  unfold execBaySwitchStatusPoll
  repeat' first | with_reducible assumption | intro _ | with_reducible apply Kept.bayStatus | with_reducible apply Kept.foldl | with_reducible apply Kept.foldl_snd | with_reducible apply KeptX.next
theorem execDroneWindow_kept {a s : State} (h : Kept a s) (x0 : Nat) (x1 : Nat) (x2 : List (Nat × Nat)) : KeptX a (execDroneWindow x0 x1 x2 s) := by
  unfold execDroneWindow
  repeat' first | with_reducible assumption | intro _ | with_reducible apply Kept.each | with_reducible apply Kept.noteLag | with_reducible apply Kept.modDrone | with_reducible apply Kept.foldl | with_reducible apply Kept.foldl_snd | with_reducible apply KeptX.next | extract_lets | with_reducible refine Kept.ite ?_ ?_ | split
theorem execPatrolScrub_kept {a s : State} (h : Kept a s) (x0 : Fin 16) (x1 : Nat) (x2 : Nat) (x3 : List ScrubFind) : KeptX a (execPatrolScrub x0 x1 x2 x3 s) := by
  unfold execPatrolScrub
  repeat' first | with_reducible assumption | intro _ | with_reducible apply Kept.scrubFind | with_reducible apply Kept.scrubOn | with_reducible apply Kept.testRow | with_reducible apply Kept.foldl | with_reducible apply Kept.foldl_snd | with_reducible apply KeptX.next | extract_lets | with_reducible refine Kept.ite ?_ ?_ | split
theorem execLinkAdaptation_kept {a s : State} (h : Kept a s) (x0 : LinkId) : KeptX a (execLinkAdaptation x0 s) := by
  unfold execLinkAdaptation
  repeat' first | with_reducible assumption | intro _ | with_reducible apply Kept.modLink | with_reducible apply Kept.foldl | with_reducible apply Kept.foldl_snd | with_reducible apply KeptX.next | extract_lets | with_reducible refine Kept.ite ?_ ?_ | split
theorem execPodStatsRead_kept {a s : State} (h : Kept a s) (x0 : LinkId) (x1 : Fin 18) (x2 : Nat) (x3 : Nat) : KeptX a (execPodStatsRead x0 x1 x2 x3 s) := by
  unfold execPodStatsRead
  repeat' first | with_reducible assumption | intro _ | with_reducible apply Kept.modDie | with_reducible apply Kept.foldl | with_reducible apply Kept.foldl_snd | with_reducible apply KeptX.next | extract_lets | with_reducible refine Kept.ite ?_ ?_ | split
theorem execEventRecorderTake_kept {a s : State} (h : Kept a s) : KeptX a (execEventRecorderTake s) := by
  unfold execEventRecorderTake
  repeat' first | with_reducible assumption | intro _ | with_reducible apply Kept.foldl | with_reducible apply Kept.foldl_snd | with_reducible apply KeptX.next | (with_reducible apply Kept.upd; first | with_reducible assumption | with_reducible apply Kept.foldl | with_reducible refine Kept.ite ?_ ?_) | extract_lets | with_reducible refine Kept.ite ?_ ?_ | split
theorem execStopEndFrame_kept {a s : State} (h : Kept a s) (x0 : StopId) (x1 : OutFrame) : KeptX a (execStopEndFrame x0 x1 s) := by
  unfold execStopEndFrame
  repeat' first | with_reducible assumption | intro _ | with_reducible apply Kept.egress | with_reducible apply Kept.ofCommand | with_reducible apply Kept.computeEnd | with_reducible apply Kept.foldl | with_reducible apply Kept.foldl_snd | with_reducible apply KeptX.next
theorem execStopMoverOut_kept {a s : State} (h : Kept a s) (x0 : StopId) (x1 : OutFrame) : KeptX a (execStopMoverOut x0 x1 s) := by
  unfold execStopMoverOut
  repeat' first | with_reducible assumption | intro _ | with_reducible apply Kept.egress | with_reducible apply Kept.stopViolation | with_reducible apply Kept.used | with_reducible apply Kept.modChan | with_reducible apply Kept.foldl | with_reducible apply Kept.foldl_snd | with_reducible apply KeptX.next | extract_lets | with_reducible refine Kept.ite ?_ ?_ | split
theorem execStopControlResponse_kept {a s : State} (h : Kept a s) (x0 : StopId) (x1 : Fin 16) (x2 : W64) (x3 : Bool) : KeptX a (execStopControlResponse x0 x1 x2 x3 s) := by
  unfold execStopControlResponse
  repeat' first | with_reducible assumption | intro _ | with_reducible apply Kept.stopViolation | with_reducible apply Kept.ctlAnswer | with_reducible apply Kept.foldl | with_reducible apply Kept.foldl_snd | with_reducible apply KeptX.next | extract_lets | with_reducible refine Kept.ite ?_ ?_ | split
theorem execStopDrainAck_kept {a s : State} (h : Kept a s) (x0 : StopId) : KeptX a (execStopDrainAck x0 s) := by
  unfold execStopDrainAck
  repeat' first | with_reducible assumption | intro _ | with_reducible apply Kept.checkDrain | with_reducible apply Kept.modStop | with_reducible apply Kept.foldl | with_reducible apply Kept.foldl_snd | with_reducible apply KeptX.next | extract_lets | with_reducible refine Kept.ite ?_ ?_ | split
theorem execStopDrainLimitExpiry_kept {a s : State} (h : Kept a s) (x0 : StopId) : KeptX a (execStopDrainLimitExpiry x0 s) := by
  unfold execStopDrainLimitExpiry
  repeat' first | with_reducible assumption | intro _ | with_reducible apply Kept.endDrain | with_reducible apply Kept.notBefore | with_reducible apply Kept.foldl | with_reducible apply Kept.foldl_snd | with_reducible apply KeptX.next | extract_lets | with_reducible refine Kept.ite ?_ ?_ | split
theorem execStopXformTimeout_kept {a s : State} (h : Kept a s) (x0 : StopId) (x1 : Nat) : KeptX a (execStopXformTimeout x0 x1 s) := by
  unfold execStopXformTimeout
  repeat' first | with_reducible assumption | intro _ | with_reducible apply Kept.xformFault | with_reducible apply Kept.notBefore | with_reducible apply Kept.foldl | with_reducible apply Kept.foldl_snd | with_reducible apply KeptX.next | extract_lets | with_reducible refine Kept.ite ?_ ?_ | split
theorem execStopComputeTimeout_kept {a s : State} (h : Kept a s) (x0 : StopId) (x1 : Nat) : KeptX a (execStopComputeTimeout x0 x1 s) := by
  unfold execStopComputeTimeout
  repeat' first | with_reducible assumption | intro _ | with_reducible apply Kept.emit | with_reducible apply Kept.notBefore | with_reducible apply Kept.markGone | with_reducible apply Kept.endTag | with_reducible apply Kept.complete | with_reducible apply Kept.checkDrain | with_reducible apply Kept.stopViolation | with_reducible apply Kept.foldl | with_reducible apply Kept.foldl_snd | with_reducible apply KeptX.next | extract_lets | with_reducible refine Kept.ite ?_ ?_ | split
theorem execStopControlReadTimeout_kept {a s : State} (h : Kept a s) (x0 : StopId) (x1 : Fin 16) : KeptX a (execStopControlReadTimeout x0 x1 s) := by
  unfold execStopControlReadTimeout
  repeat' first | with_reducible assumption | intro _ | with_reducible apply Kept.ctlAnswer | with_reducible apply Kept.stopViolation | with_reducible apply Kept.notBefore | with_reducible apply Kept.foldl | with_reducible apply Kept.foldl_snd | with_reducible apply KeptX.next | extract_lets | with_reducible refine Kept.ite ?_ ?_ | split
theorem execStopConfigWritten_kept {a s : State} (h : Kept a s) (x0 : StopId) (x1 : List Nat) : KeptX a (execStopConfigWritten x0 x1 s) := by
  unfold execStopConfigWritten
  repeat' first | with_reducible assumption | intro _ | with_reducible apply Kept.columnsChecked | with_reducible apply Kept.foldl | with_reducible apply Kept.foldl_snd | with_reducible apply KeptX.next
theorem execStopViolWindowRoll_kept {a s : State} (h : Kept a s) : KeptX a (execStopViolWindowRoll s) := by
  unfold execStopViolWindowRoll
  repeat' first | with_reducible assumption | intro _ | with_reducible apply Kept.each | with_reducible apply Kept.modStop | with_reducible apply Kept.foldl | with_reducible apply Kept.foldl_snd | with_reducible apply KeptX.next
theorem execDmRingBaseWrite_kept {a s : State} (h : Kept a s) (x0 : MoverId) (x1 : ChanId) (x2 : W64) : KeptX a (execDmRingBaseWrite x0 x1 x2 s) := by
  unfold execDmRingBaseWrite
  repeat' first | with_reducible assumption | intro _ | with_reducible apply Kept.onChan | with_reducible apply Kept.writeBase | with_reducible apply Kept.foldl | with_reducible apply Kept.foldl_snd | with_reducible apply KeptX.next
theorem execDmPaceRequestWrite_kept {a s : State} (h : Kept a s) (x0 : MoverId) (x1 : ChanId) (x2 : Bool) : KeptX a (execDmPaceRequestWrite x0 x1 x2 s) := by
  unfold execDmPaceRequestWrite
  repeat' first | with_reducible assumption | intro _ | with_reducible apply Kept.onChan | with_reducible apply Kept.writePace | with_reducible apply Kept.foldl | with_reducible apply Kept.foldl_snd | with_reducible apply KeptX.next
theorem execDmCopy_kept {a s : State} (h : Kept a s) (x0 : MoverId) (x1 : ChanId) : KeptX a (execDmCopy x0 x1 s) := by
  unfold execDmCopy
  repeat' first | with_reducible assumption | intro _ | with_reducible apply Kept.takeDesc | with_reducible apply Kept.foldl | with_reducible apply Kept.foldl_snd | with_reducible apply KeptX.next
theorem execDmCheck_kept {a s : State} (h : Kept a s) (x0 : MoverId) (x1 : ChanId) : KeptX a (execDmCheck x0 x1 s) := by
  unfold execDmCheck
  repeat' first | with_reducible assumption | intro _ | with_reducible apply Kept.takeDesc | with_reducible apply Kept.foldl | with_reducible apply Kept.foldl_snd | with_reducible apply KeptX.next
theorem execDmFenceReadComplete_kept {a s : State} (h : Kept a s) (x0 : MoverId) (x1 : ChanId) : KeptX a (execDmFenceReadComplete x0 x1 s) := by
  unfold execDmFenceReadComplete
  repeat' first | with_reducible assumption | intro _ | with_reducible apply Kept.modChan | with_reducible apply Kept.endDesc | with_reducible apply Kept.beginDesc | with_reducible apply Kept.foldl | with_reducible apply Kept.foldl_snd | with_reducible apply KeptX.next | extract_lets | with_reducible refine Kept.ite ?_ ?_ | split
theorem execDmRingReadFailure_kept {a s : State} (h : Kept a s) (x0 : MoverId) (x1 : ChanId) : KeptX a (execDmRingReadFailure x0 x1 s) := by
  unfold execDmRingReadFailure
  repeat' first | with_reducible assumption | intro _ | with_reducible apply Kept.haltChan | with_reducible apply Kept.foldl | with_reducible apply Kept.foldl_snd | with_reducible apply KeptX.next | extract_lets | with_reducible refine Kept.ite ?_ ?_ | split
theorem execIngressBeatAccepted_kept {a s : State} (h : Kept a s) (x0 : StopId) (x1 : Option ChanId) (x2 : Nat) (x3 : Nat) : KeptX a (execIngressBeatAccepted x0 x1 x2 x3 s) := by
  unfold execIngressBeatAccepted
  repeat' first | with_reducible assumption | intro _ | with_reducible apply Kept.modStop | with_reducible apply Kept.modChan | with_reducible apply Kept.afterBurst | with_reducible apply Kept.modStopCmd | with_reducible apply Kept.foldl | with_reducible apply Kept.foldl_snd | with_reducible apply KeptX.next | extract_lets | with_reducible refine Kept.ite ?_ ?_ | split
theorem execPowerStateEntryComplete_kept {a s : State} (h : Kept a s) : KeptX a (execPowerStateEntryComplete s) := by
  unfold execPowerStateEntryComplete
  repeat' first | with_reducible assumption | intro _ | with_reducible apply Kept.modModes | with_reducible apply Kept.sealNow | with_reducible apply Kept.foldl | with_reducible apply Kept.foldl_snd | with_reducible apply KeptX.next | extract_lets | with_reducible refine Kept.ite ?_ ?_ | split
theorem execBellowsTestDeadline_kept {a s : State} (h : Kept a s) : KeptX a (execBellowsTestDeadline s) := by
  unfold execBellowsTestDeadline
  repeat' first | with_reducible assumption | intro _ | with_reducible apply Kept.testStep2 | with_reducible apply Kept.notBefore | with_reducible apply Kept.foldl | with_reducible apply Kept.foldl_snd | with_reducible apply KeptX.next | extract_lets | with_reducible refine Kept.ite ?_ ?_

end Sys2Proof.Machine
end

