-- ==== Sys2Proof/Laws/Only.lean ====
section
/-! SUPPORT. Which parts of the state an operation can change: `Only T a b` says that `b` differs from `a` in the fields of `T` at most. -/
namespace Sys2Proof.Machine

/-- The fields of the state, by name. -/
inductive Fld where
  | now | modes | pw | part | keep | otp | flash | format | spares | ports | insts | ctxs | ended | nextCtx | fetches | bells | live | sealed | jrn | vault | lines | lends | mc | cache | cw | groups | ops | solves | dies | chanters | links | pods | stops | store | chans | drones | ev | health | mech | free | out | pending
  deriving DecidableEq, Repr

/-- Two states have the same value in a field. -/
def Fld.same (a b : State) : Fld → Prop
  | .now => b.now = a.now
  | .modes => b.modes = a.modes
  | .pw => b.pw = a.pw
  | .part => b.part = a.part
  | .keep => b.keep = a.keep
  | .otp => b.otp = a.otp
  | .flash => b.flash = a.flash
  | .format => b.format = a.format
  | .spares => b.spares = a.spares
  | .ports => b.ports = a.ports
  | .insts => b.insts = a.insts
  | .ctxs => b.ctxs = a.ctxs
  | .ended => b.ended = a.ended
  | .nextCtx => b.nextCtx = a.nextCtx
  | .fetches => b.fetches = a.fetches
  | .bells => b.bells = a.bells
  | .live => b.live = a.live
  | .sealed => b.sealed = a.sealed
  | .jrn => b.jrn = a.jrn
  | .vault => b.vault = a.vault
  | .lines => b.lines = a.lines
  | .lends => b.lends = a.lends
  | .mc => b.mc = a.mc
  | .cache => b.cache = a.cache
  | .cw => b.cw = a.cw
  | .groups => b.groups = a.groups
  | .ops => b.ops = a.ops
  | .solves => b.solves = a.solves
  | .dies => b.dies = a.dies
  | .chanters => b.chanters = a.chanters
  | .links => b.links = a.links
  | .pods => b.pods = a.pods
  | .stops => b.stops = a.stops
  | .store => b.store = a.store
  | .chans => b.chans = a.chans
  | .drones => b.drones = a.drones
  | .ev => b.ev = a.ev
  | .health => b.health = a.health
  | .mech => b.mech = a.mech
  | .free => b.free = a.free
  | .out => b.out = a.out
  | .pending => b.pending = a.pending

/-- `b` differs from `a` in the fields of `T` at most. -/
structure Only (T : List Fld) (a b : State) : Prop where
  same : ∀ f : Fld, T.contains f = false → f.same a b
/-- A command answers a next state that differs in the fields of `T` at most. -/
def OnlyX (T : List Fld) (a : State) (o : Host.Outcome State Fault Refusal) : Prop := ∃ t, o = .next t ∧ Only T a t

theorem Only.refl (T : List Fld) (s : State) : Only T s s := ⟨fun f _ => by cases f <;> rfl⟩
theorem Fld.all_sub {T U V : List Fld} (h : U.all T.contains = true) (g : V.all U.contains = true) : V.all T.contains = true := by
  simp only [List.all_eq_true, List.contains_iff_mem] at *
  exact fun x hx => h x (g x hx)
theorem Only.step {T U : List Fld} {a s t : State} (h : Only T a s) (g : Only U s t) (hT : U.all T.contains = true) : Only T a t := by
  refine ⟨fun f hf => ?_⟩
  have hs := h.same f hf
  have ht := g.same f (by
    by_contra hc
    have : f ∈ U := by simpa using hc
    have := List.all_eq_true.mp hT f this
    rw [hf] at this; cases this)
  revert hs ht; cases f <;> simp only [Fld.same] <;> exact fun hs ht => ht.trans hs
theorem OnlyX.next {T : List Fld} {a t : State} (h : Only T a t) : OnlyX T a (.next t) := ⟨t, rfl, h⟩
/-- The frame of a command's answer, whatever next state it is. -/
theorem OnlyX.of_next {T : List Fld} {a t : State} {o : Host.Outcome State Fault Refusal} (h : OnlyX T a o) (e : o = .next t) : Only T a t := by
  obtain ⟨u, hu, hk⟩ := h; rw [e] at hu; cases hu; exact hk

/-! ## One field at a time -/

theorem Only.now {T : List Fld} {a b : State} (h : Only T a b) (hT : T.contains .now = false := by decide) : b.now = a.now := h.same .now hT
theorem Only.modes {T : List Fld} {a b : State} (h : Only T a b) (hT : T.contains .modes = false := by decide) : b.modes = a.modes := h.same .modes hT
theorem Only.pw {T : List Fld} {a b : State} (h : Only T a b) (hT : T.contains .pw = false := by decide) : b.pw = a.pw := h.same .pw hT
theorem Only.part {T : List Fld} {a b : State} (h : Only T a b) (hT : T.contains .part = false := by decide) : b.part = a.part := h.same .part hT
theorem Only.keep {T : List Fld} {a b : State} (h : Only T a b) (hT : T.contains .keep = false := by decide) : b.keep = a.keep := h.same .keep hT
theorem Only.otp {T : List Fld} {a b : State} (h : Only T a b) (hT : T.contains .otp = false := by decide) : b.otp = a.otp := h.same .otp hT
theorem Only.flash {T : List Fld} {a b : State} (h : Only T a b) (hT : T.contains .flash = false := by decide) : b.flash = a.flash := h.same .flash hT
theorem Only.format {T : List Fld} {a b : State} (h : Only T a b) (hT : T.contains .format = false := by decide) : b.format = a.format := h.same .format hT
theorem Only.spares {T : List Fld} {a b : State} (h : Only T a b) (hT : T.contains .spares = false := by decide) : b.spares = a.spares := h.same .spares hT
theorem Only.ports {T : List Fld} {a b : State} (h : Only T a b) (hT : T.contains .ports = false := by decide) : b.ports = a.ports := h.same .ports hT
theorem Only.insts {T : List Fld} {a b : State} (h : Only T a b) (hT : T.contains .insts = false := by decide) : b.insts = a.insts := h.same .insts hT
theorem Only.ctxs {T : List Fld} {a b : State} (h : Only T a b) (hT : T.contains .ctxs = false := by decide) : b.ctxs = a.ctxs := h.same .ctxs hT
theorem Only.ended {T : List Fld} {a b : State} (h : Only T a b) (hT : T.contains .ended = false := by decide) : b.ended = a.ended := h.same .ended hT
theorem Only.nextCtx {T : List Fld} {a b : State} (h : Only T a b) (hT : T.contains .nextCtx = false := by decide) : b.nextCtx = a.nextCtx := h.same .nextCtx hT
theorem Only.fetches {T : List Fld} {a b : State} (h : Only T a b) (hT : T.contains .fetches = false := by decide) : b.fetches = a.fetches := h.same .fetches hT
theorem Only.bells {T : List Fld} {a b : State} (h : Only T a b) (hT : T.contains .bells = false := by decide) : b.bells = a.bells := h.same .bells hT
theorem Only.live {T : List Fld} {a b : State} (h : Only T a b) (hT : T.contains .live = false := by decide) : b.live = a.live := h.same .live hT
theorem Only.sealed {T : List Fld} {a b : State} (h : Only T a b) (hT : T.contains .sealed = false := by decide) : b.sealed = a.sealed := h.same .sealed hT
theorem Only.jrn {T : List Fld} {a b : State} (h : Only T a b) (hT : T.contains .jrn = false := by decide) : b.jrn = a.jrn := h.same .jrn hT
theorem Only.vault {T : List Fld} {a b : State} (h : Only T a b) (hT : T.contains .vault = false := by decide) : b.vault = a.vault := h.same .vault hT
theorem Only.lines {T : List Fld} {a b : State} (h : Only T a b) (hT : T.contains .lines = false := by decide) : b.lines = a.lines := h.same .lines hT
theorem Only.lends {T : List Fld} {a b : State} (h : Only T a b) (hT : T.contains .lends = false := by decide) : b.lends = a.lends := h.same .lends hT
theorem Only.mc {T : List Fld} {a b : State} (h : Only T a b) (hT : T.contains .mc = false := by decide) : b.mc = a.mc := h.same .mc hT
theorem Only.cache {T : List Fld} {a b : State} (h : Only T a b) (hT : T.contains .cache = false := by decide) : b.cache = a.cache := h.same .cache hT
theorem Only.cw {T : List Fld} {a b : State} (h : Only T a b) (hT : T.contains .cw = false := by decide) : b.cw = a.cw := h.same .cw hT
theorem Only.groups {T : List Fld} {a b : State} (h : Only T a b) (hT : T.contains .groups = false := by decide) : b.groups = a.groups := h.same .groups hT
theorem Only.ops {T : List Fld} {a b : State} (h : Only T a b) (hT : T.contains .ops = false := by decide) : b.ops = a.ops := h.same .ops hT
theorem Only.solves {T : List Fld} {a b : State} (h : Only T a b) (hT : T.contains .solves = false := by decide) : b.solves = a.solves := h.same .solves hT
theorem Only.dies {T : List Fld} {a b : State} (h : Only T a b) (hT : T.contains .dies = false := by decide) : b.dies = a.dies := h.same .dies hT
theorem Only.chanters {T : List Fld} {a b : State} (h : Only T a b) (hT : T.contains .chanters = false := by decide) : b.chanters = a.chanters := h.same .chanters hT
theorem Only.links {T : List Fld} {a b : State} (h : Only T a b) (hT : T.contains .links = false := by decide) : b.links = a.links := h.same .links hT
theorem Only.pods {T : List Fld} {a b : State} (h : Only T a b) (hT : T.contains .pods = false := by decide) : b.pods = a.pods := h.same .pods hT
theorem Only.stops {T : List Fld} {a b : State} (h : Only T a b) (hT : T.contains .stops = false := by decide) : b.stops = a.stops := h.same .stops hT
theorem Only.store {T : List Fld} {a b : State} (h : Only T a b) (hT : T.contains .store = false := by decide) : b.store = a.store := h.same .store hT
theorem Only.chans {T : List Fld} {a b : State} (h : Only T a b) (hT : T.contains .chans = false := by decide) : b.chans = a.chans := h.same .chans hT
theorem Only.drones {T : List Fld} {a b : State} (h : Only T a b) (hT : T.contains .drones = false := by decide) : b.drones = a.drones := h.same .drones hT
theorem Only.ev {T : List Fld} {a b : State} (h : Only T a b) (hT : T.contains .ev = false := by decide) : b.ev = a.ev := h.same .ev hT
theorem Only.health {T : List Fld} {a b : State} (h : Only T a b) (hT : T.contains .health = false := by decide) : b.health = a.health := h.same .health hT
theorem Only.mech {T : List Fld} {a b : State} (h : Only T a b) (hT : T.contains .mech = false := by decide) : b.mech = a.mech := h.same .mech hT
theorem Only.free {T : List Fld} {a b : State} (h : Only T a b) (hT : T.contains .free = false := by decide) : b.free = a.free := h.same .free hT
theorem Only.out {T : List Fld} {a b : State} (h : Only T a b) (hT : T.contains .out = false := by decide) : b.out = a.out := h.same .out hT
theorem Only.pending {T : List Fld} {a b : State} (h : Only T a b) (hT : T.contains .pending = false := by decide) : b.pending = a.pending := h.same .pending hT

/-! ## Choices and repetitions -/

theorem Only.each {T : List Fld} {a s : State} (xs : List Nat) (f : Nat → State → State) (hf : ∀ x t, Only T a t → Only T a (f x t)) (h : Only T a s) : Only T a (s.each xs f) := by
  unfold State.each
  induction xs generalizing s with
  | nil => exact h
  | cons x xs ih => exact ih (hf x s h)
theorem Only.allPorts {T : List Fld} {a s : State} (f : Nat → State → State) (hf : ∀ x t, Only T a t → Only T a (f x t)) (h : Only T a s) : Only T a (s.allPorts f) := Only.each _ f hf h
theorem Only.foldl {T : List Fld} {α : Type} {a s : State} (xs : List α) (f : State → α → State) (hf : ∀ t x, Only T a t → Only T a (f t x)) (h : Only T a s) : Only T a (xs.foldl f s) := by
  induction xs generalizing s with
  | nil => exact h
  | cons x xs ih => exact ih (hf s x h)
theorem Only.foldl_snd {T : List Fld} {α β : Type} {a : State} (xs : List α) (f : β × State → α → β × State) (p : β × State)
    (hf : ∀ p x, Only T a p.2 → Only T a (f p x).2) (h : Only T a p.2) : Only T a (xs.foldl f p).2 := by
  induction xs generalizing p with
  | nil => exact h
  | cons x xs ih => exact ih (f p x) (hf p x h)
theorem Only.foldl_option {T : List Fld} {α : Type} {a : State} (xs : List α) (f : Option State → α → Option State) (o : Option State)
    (hf : ∀ o x t, (∀ t, o = some t → Only T a t) → f o x = some t → Only T a t) (h : ∀ t, o = some t → Only T a t) : ∀ t, xs.foldl f o = some t → Only T a t := by
  induction xs generalizing o with
  | nil => exact h
  | cons x xs ih => exact ih (f o x) (fun t e => hf o x t h e)
theorem Only.ite {T : List Fld} {c : Prop} [Decidable c] {a x y : State} (h : c → Only T a x) (g : ¬ c → Only T a y) : Only T a (if c then x else y) := by split <;> simp_all

/-! ## Record updates -/

theorem Only.upd_flash {T : List Fld} {a s : State} (h : Only T a s) (hT : [.flash].all T.contains = true) v_flash : Only T a (State.mk s.now s.modes s.pw s.part s.keep s.otp v_flash s.format s.spares s.ports s.insts s.ctxs s.ended s.nextCtx s.fetches s.bells s.live s.sealed s.jrn s.vault s.lines s.lends s.mc s.cache s.cw s.groups s.ops s.solves s.dies s.chanters s.links s.pods s.stops s.store s.chans s.drones s.ev s.health s.mech s.free s.out s.pending) :=
  h.step (U := [.flash]) ⟨fun f hf => by cases f <;> first | rfl | cases hf⟩ hT
theorem Only.upd_ports {T : List Fld} {a s : State} (h : Only T a s) (hT : [.ports].all T.contains = true) v_ports : Only T a (State.mk s.now s.modes s.pw s.part s.keep s.otp s.flash s.format s.spares v_ports s.insts s.ctxs s.ended s.nextCtx s.fetches s.bells s.live s.sealed s.jrn s.vault s.lines s.lends s.mc s.cache s.cw s.groups s.ops s.solves s.dies s.chanters s.links s.pods s.stops s.store s.chans s.drones s.ev s.health s.mech s.free s.out s.pending) :=
  h.step (U := [.ports]) ⟨fun f hf => by cases f <;> first | rfl | cases hf⟩ hT
theorem Only.upd_pw {T : List Fld} {a s : State} (h : Only T a s) (hT : [.pw].all T.contains = true) v_pw : Only T a (State.mk s.now s.modes v_pw s.part s.keep s.otp s.flash s.format s.spares s.ports s.insts s.ctxs s.ended s.nextCtx s.fetches s.bells s.live s.sealed s.jrn s.vault s.lines s.lends s.mc s.cache s.cw s.groups s.ops s.solves s.dies s.chanters s.links s.pods s.stops s.store s.chans s.drones s.ev s.health s.mech s.free s.out s.pending) :=
  h.step (U := [.pw]) ⟨fun f hf => by cases f <;> first | rfl | cases hf⟩ hT
theorem Only.upd_cache {T : List Fld} {a s : State} (h : Only T a s) (hT : [.cache].all T.contains = true) v_cache : Only T a (State.mk s.now s.modes s.pw s.part s.keep s.otp s.flash s.format s.spares s.ports s.insts s.ctxs s.ended s.nextCtx s.fetches s.bells s.live s.sealed s.jrn s.vault s.lines s.lends s.mc v_cache s.cw s.groups s.ops s.solves s.dies s.chanters s.links s.pods s.stops s.store s.chans s.drones s.ev s.health s.mech s.free s.out s.pending) :=
  h.step (U := [.cache]) ⟨fun f hf => by cases f <;> first | rfl | cases hf⟩ hT
theorem Only.upd_modes {T : List Fld} {a s : State} (h : Only T a s) (hT : [.modes].all T.contains = true) v_modes : Only T a (State.mk s.now v_modes s.pw s.part s.keep s.otp s.flash s.format s.spares s.ports s.insts s.ctxs s.ended s.nextCtx s.fetches s.bells s.live s.sealed s.jrn s.vault s.lines s.lends s.mc s.cache s.cw s.groups s.ops s.solves s.dies s.chanters s.links s.pods s.stops s.store s.chans s.drones s.ev s.health s.mech s.free s.out s.pending) :=
  h.step (U := [.modes]) ⟨fun f hf => by cases f <;> first | rfl | cases hf⟩ hT
theorem Only.upd_ctxs {T : List Fld} {a s : State} (h : Only T a s) (hT : [.ctxs].all T.contains = true) v_ctxs : Only T a (State.mk s.now s.modes s.pw s.part s.keep s.otp s.flash s.format s.spares s.ports s.insts v_ctxs s.ended s.nextCtx s.fetches s.bells s.live s.sealed s.jrn s.vault s.lines s.lends s.mc s.cache s.cw s.groups s.ops s.solves s.dies s.chanters s.links s.pods s.stops s.store s.chans s.drones s.ev s.health s.mech s.free s.out s.pending) :=
  h.step (U := [.ctxs]) ⟨fun f hf => by cases f <;> first | rfl | cases hf⟩ hT
theorem Only.upd_insts {T : List Fld} {a s : State} (h : Only T a s) (hT : [.insts].all T.contains = true) v_insts : Only T a (State.mk s.now s.modes s.pw s.part s.keep s.otp s.flash s.format s.spares s.ports v_insts s.ctxs s.ended s.nextCtx s.fetches s.bells s.live s.sealed s.jrn s.vault s.lines s.lends s.mc s.cache s.cw s.groups s.ops s.solves s.dies s.chanters s.links s.pods s.stops s.store s.chans s.drones s.ev s.health s.mech s.free s.out s.pending) :=
  h.step (U := [.insts]) ⟨fun f hf => by cases f <;> first | rfl | cases hf⟩ hT
theorem Only.upd_out {T : List Fld} {a s : State} (h : Only T a s) (hT : [.out].all T.contains = true) v_out : Only T a (State.mk s.now s.modes s.pw s.part s.keep s.otp s.flash s.format s.spares s.ports s.insts s.ctxs s.ended s.nextCtx s.fetches s.bells s.live s.sealed s.jrn s.vault s.lines s.lends s.mc s.cache s.cw s.groups s.ops s.solves s.dies s.chanters s.links s.pods s.stops s.store s.chans s.drones s.ev s.health s.mech s.free v_out s.pending) :=
  h.step (U := [.out]) ⟨fun f hf => by cases f <;> first | rfl | cases hf⟩ hT
theorem Only.upd_groups {T : List Fld} {a s : State} (h : Only T a s) (hT : [.groups].all T.contains = true) v_groups : Only T a (State.mk s.now s.modes s.pw s.part s.keep s.otp s.flash s.format s.spares s.ports s.insts s.ctxs s.ended s.nextCtx s.fetches s.bells s.live s.sealed s.jrn s.vault s.lines s.lends s.mc s.cache s.cw v_groups s.ops s.solves s.dies s.chanters s.links s.pods s.stops s.store s.chans s.drones s.ev s.health s.mech s.free s.out s.pending) :=
  h.step (U := [.groups]) ⟨fun f hf => by cases f <;> first | rfl | cases hf⟩ hT
theorem Only.upd_ops_health {T : List Fld} {a s : State} (h : Only T a s) (hT : [.ops, .health].all T.contains = true) v_ops v_health : Only T a (State.mk s.now s.modes s.pw s.part s.keep s.otp s.flash s.format s.spares s.ports s.insts s.ctxs s.ended s.nextCtx s.fetches s.bells s.live s.sealed s.jrn s.vault s.lines s.lends s.mc s.cache s.cw s.groups v_ops s.solves s.dies s.chanters s.links s.pods s.stops s.store s.chans s.drones s.ev v_health s.mech s.free s.out s.pending) :=
  h.step (U := [.ops, .health]) ⟨fun f hf => by cases f <;> first | rfl | cases hf⟩ hT
theorem Only.upd_live_jrn {T : List Fld} {a s : State} (h : Only T a s) (hT : [.live, .jrn].all T.contains = true) v_live v_jrn : Only T a (State.mk s.now s.modes s.pw s.part s.keep s.otp s.flash s.format s.spares s.ports s.insts s.ctxs s.ended s.nextCtx s.fetches s.bells v_live s.sealed v_jrn s.vault s.lines s.lends s.mc s.cache s.cw s.groups s.ops s.solves s.dies s.chanters s.links s.pods s.stops s.store s.chans s.drones s.ev s.health s.mech s.free s.out s.pending) :=
  h.step (U := [.live, .jrn]) ⟨fun f hf => by cases f <;> first | rfl | cases hf⟩ hT
theorem Only.upd_ev {T : List Fld} {a s : State} (h : Only T a s) (hT : [.ev].all T.contains = true) v_ev : Only T a (State.mk s.now s.modes s.pw s.part s.keep s.otp s.flash s.format s.spares s.ports s.insts s.ctxs s.ended s.nextCtx s.fetches s.bells s.live s.sealed s.jrn s.vault s.lines s.lends s.mc s.cache s.cw s.groups s.ops s.solves s.dies s.chanters s.links s.pods s.stops s.store s.chans s.drones v_ev s.health s.mech s.free s.out s.pending) :=
  h.step (U := [.ev]) ⟨fun f hf => by cases f <;> first | rfl | cases hf⟩ hT
theorem Only.upd_pods {T : List Fld} {a s : State} (h : Only T a s) (hT : [.pods].all T.contains = true) v_pods : Only T a (State.mk s.now s.modes s.pw s.part s.keep s.otp s.flash s.format s.spares s.ports s.insts s.ctxs s.ended s.nextCtx s.fetches s.bells s.live s.sealed s.jrn s.vault s.lines s.lends s.mc s.cache s.cw s.groups s.ops s.solves s.dies s.chanters s.links v_pods s.stops s.store s.chans s.drones s.ev s.health s.mech s.free s.out s.pending) :=
  h.step (U := [.pods]) ⟨fun f hf => by cases f <;> first | rfl | cases hf⟩ hT
theorem Only.upd_pw_part_insts_stops {T : List Fld} {a s : State} (h : Only T a s) (hT : [.pw, .part, .insts, .stops].all T.contains = true) v_pw v_part v_insts v_stops : Only T a (State.mk s.now s.modes v_pw v_part s.keep s.otp s.flash s.format s.spares s.ports v_insts s.ctxs s.ended s.nextCtx s.fetches s.bells s.live s.sealed s.jrn s.vault s.lines s.lends s.mc s.cache s.cw s.groups s.ops s.solves s.dies s.chanters s.links s.pods v_stops s.store s.chans s.drones s.ev s.health s.mech s.free s.out s.pending) :=
  h.step (U := [.pw, .part, .insts, .stops]) ⟨fun f hf => by cases f <;> first | rfl | cases hf⟩ hT
theorem Only.upd_chanters {T : List Fld} {a s : State} (h : Only T a s) (hT : [.chanters].all T.contains = true) v_chanters : Only T a (State.mk s.now s.modes s.pw s.part s.keep s.otp s.flash s.format s.spares s.ports s.insts s.ctxs s.ended s.nextCtx s.fetches s.bells s.live s.sealed s.jrn s.vault s.lines s.lends s.mc s.cache s.cw s.groups s.ops s.solves s.dies v_chanters s.links s.pods s.stops s.store s.chans s.drones s.ev s.health s.mech s.free s.out s.pending) :=
  h.step (U := [.chanters]) ⟨fun f hf => by cases f <;> first | rfl | cases hf⟩ hT
theorem Only.upd_stops {T : List Fld} {a s : State} (h : Only T a s) (hT : [.stops].all T.contains = true) v_stops : Only T a (State.mk s.now s.modes s.pw s.part s.keep s.otp s.flash s.format s.spares s.ports s.insts s.ctxs s.ended s.nextCtx s.fetches s.bells s.live s.sealed s.jrn s.vault s.lines s.lends s.mc s.cache s.cw s.groups s.ops s.solves s.dies s.chanters s.links s.pods v_stops s.store s.chans s.drones s.ev s.health s.mech s.free s.out s.pending) :=
  h.step (U := [.stops]) ⟨fun f hf => by cases f <;> first | rfl | cases hf⟩ hT
theorem Only.upd_jrn {T : List Fld} {a s : State} (h : Only T a s) (hT : [.jrn].all T.contains = true) v_jrn : Only T a (State.mk s.now s.modes s.pw s.part s.keep s.otp s.flash s.format s.spares s.ports s.insts s.ctxs s.ended s.nextCtx s.fetches s.bells s.live s.sealed v_jrn s.vault s.lines s.lends s.mc s.cache s.cw s.groups s.ops s.solves s.dies s.chanters s.links s.pods s.stops s.store s.chans s.drones s.ev s.health s.mech s.free s.out s.pending) :=
  h.step (U := [.jrn]) ⟨fun f hf => by cases f <;> first | rfl | cases hf⟩ hT
theorem Only.upd_chans {T : List Fld} {a s : State} (h : Only T a s) (hT : [.chans].all T.contains = true) v_chans : Only T a (State.mk s.now s.modes s.pw s.part s.keep s.otp s.flash s.format s.spares s.ports s.insts s.ctxs s.ended s.nextCtx s.fetches s.bells s.live s.sealed s.jrn s.vault s.lines s.lends s.mc s.cache s.cw s.groups s.ops s.solves s.dies s.chanters s.links s.pods s.stops s.store v_chans s.drones s.ev s.health s.mech s.free s.out s.pending) :=
  h.step (U := [.chans]) ⟨fun f hf => by cases f <;> first | rfl | cases hf⟩ hT
theorem Only.upd_health {T : List Fld} {a s : State} (h : Only T a s) (hT : [.health].all T.contains = true) v_health : Only T a (State.mk s.now s.modes s.pw s.part s.keep s.otp s.flash s.format s.spares s.ports s.insts s.ctxs s.ended s.nextCtx s.fetches s.bells s.live s.sealed s.jrn s.vault s.lines s.lends s.mc s.cache s.cw s.groups s.ops s.solves s.dies s.chanters s.links s.pods s.stops s.store s.chans s.drones s.ev v_health s.mech s.free s.out s.pending) :=
  h.step (U := [.health]) ⟨fun f hf => by cases f <;> first | rfl | cases hf⟩ hT
theorem Only.upd_store {T : List Fld} {a s : State} (h : Only T a s) (hT : [.store].all T.contains = true) v_store : Only T a (State.mk s.now s.modes s.pw s.part s.keep s.otp s.flash s.format s.spares s.ports s.insts s.ctxs s.ended s.nextCtx s.fetches s.bells s.live s.sealed s.jrn s.vault s.lines s.lends s.mc s.cache s.cw s.groups s.ops s.solves s.dies s.chanters s.links s.pods s.stops v_store s.chans s.drones s.ev s.health s.mech s.free s.out s.pending) :=
  h.step (U := [.store]) ⟨fun f hf => by cases f <;> first | rfl | cases hf⟩ hT
theorem Only.upd_mc {T : List Fld} {a s : State} (h : Only T a s) (hT : [.mc].all T.contains = true) v_mc : Only T a (State.mk s.now s.modes s.pw s.part s.keep s.otp s.flash s.format s.spares s.ports s.insts s.ctxs s.ended s.nextCtx s.fetches s.bells s.live s.sealed s.jrn s.vault s.lines s.lends v_mc s.cache s.cw s.groups s.ops s.solves s.dies s.chanters s.links s.pods s.stops s.store s.chans s.drones s.ev s.health s.mech s.free s.out s.pending) :=
  h.step (U := [.mc]) ⟨fun f hf => by cases f <;> first | rfl | cases hf⟩ hT
theorem Only.upd_dies {T : List Fld} {a s : State} (h : Only T a s) (hT : [.dies].all T.contains = true) v_dies : Only T a (State.mk s.now s.modes s.pw s.part s.keep s.otp s.flash s.format s.spares s.ports s.insts s.ctxs s.ended s.nextCtx s.fetches s.bells s.live s.sealed s.jrn s.vault s.lines s.lends s.mc s.cache s.cw s.groups s.ops s.solves v_dies s.chanters s.links s.pods s.stops s.store s.chans s.drones s.ev s.health s.mech s.free s.out s.pending) :=
  h.step (U := [.dies]) ⟨fun f hf => by cases f <;> first | rfl | cases hf⟩ hT
theorem Only.upd_lines {T : List Fld} {a s : State} (h : Only T a s) (hT : [.lines].all T.contains = true) v_lines : Only T a (State.mk s.now s.modes s.pw s.part s.keep s.otp s.flash s.format s.spares s.ports s.insts s.ctxs s.ended s.nextCtx s.fetches s.bells s.live s.sealed s.jrn s.vault v_lines s.lends s.mc s.cache s.cw s.groups s.ops s.solves s.dies s.chanters s.links s.pods s.stops s.store s.chans s.drones s.ev s.health s.mech s.free s.out s.pending) :=
  h.step (U := [.lines]) ⟨fun f hf => by cases f <;> first | rfl | cases hf⟩ hT
theorem Only.upd_solves {T : List Fld} {a s : State} (h : Only T a s) (hT : [.solves].all T.contains = true) v_solves : Only T a (State.mk s.now s.modes s.pw s.part s.keep s.otp s.flash s.format s.spares s.ports s.insts s.ctxs s.ended s.nextCtx s.fetches s.bells s.live s.sealed s.jrn s.vault s.lines s.lends s.mc s.cache s.cw s.groups s.ops v_solves s.dies s.chanters s.links s.pods s.stops s.store s.chans s.drones s.ev s.health s.mech s.free s.out s.pending) :=
  h.step (U := [.solves]) ⟨fun f hf => by cases f <;> first | rfl | cases hf⟩ hT
theorem Only.upd_part {T : List Fld} {a s : State} (h : Only T a s) (hT : [.part].all T.contains = true) v_part : Only T a (State.mk s.now s.modes s.pw v_part s.keep s.otp s.flash s.format s.spares s.ports s.insts s.ctxs s.ended s.nextCtx s.fetches s.bells s.live s.sealed s.jrn s.vault s.lines s.lends s.mc s.cache s.cw s.groups s.ops s.solves s.dies s.chanters s.links s.pods s.stops s.store s.chans s.drones s.ev s.health s.mech s.free s.out s.pending) :=
  h.step (U := [.part]) ⟨fun f hf => by cases f <;> first | rfl | cases hf⟩ hT
theorem Only.upd_free {T : List Fld} {a s : State} (h : Only T a s) (hT : [.free].all T.contains = true) v_free : Only T a (State.mk s.now s.modes s.pw s.part s.keep s.otp s.flash s.format s.spares s.ports s.insts s.ctxs s.ended s.nextCtx s.fetches s.bells s.live s.sealed s.jrn s.vault s.lines s.lends s.mc s.cache s.cw s.groups s.ops s.solves s.dies s.chanters s.links s.pods s.stops s.store s.chans s.drones s.ev s.health s.mech v_free s.out s.pending) :=
  h.step (U := [.free]) ⟨fun f hf => by cases f <;> first | rfl | cases hf⟩ hT
theorem Only.upd_cw {T : List Fld} {a s : State} (h : Only T a s) (hT : [.cw].all T.contains = true) v_cw : Only T a (State.mk s.now s.modes s.pw s.part s.keep s.otp s.flash s.format s.spares s.ports s.insts s.ctxs s.ended s.nextCtx s.fetches s.bells s.live s.sealed s.jrn s.vault s.lines s.lends s.mc s.cache v_cw s.groups s.ops s.solves s.dies s.chanters s.links s.pods s.stops s.store s.chans s.drones s.ev s.health s.mech s.free s.out s.pending) :=
  h.step (U := [.cw]) ⟨fun f hf => by cases f <;> first | rfl | cases hf⟩ hT
theorem Only.upd_links {T : List Fld} {a s : State} (h : Only T a s) (hT : [.links].all T.contains = true) v_links : Only T a (State.mk s.now s.modes s.pw s.part s.keep s.otp s.flash s.format s.spares s.ports s.insts s.ctxs s.ended s.nextCtx s.fetches s.bells s.live s.sealed s.jrn s.vault s.lines s.lends s.mc s.cache s.cw s.groups s.ops s.solves s.dies s.chanters v_links s.pods s.stops s.store s.chans s.drones s.ev s.health s.mech s.free s.out s.pending) :=
  h.step (U := [.links]) ⟨fun f hf => by cases f <;> first | rfl | cases hf⟩ hT
theorem Only.upd_ops {T : List Fld} {a s : State} (h : Only T a s) (hT : [.ops].all T.contains = true) v_ops : Only T a (State.mk s.now s.modes s.pw s.part s.keep s.otp s.flash s.format s.spares s.ports s.insts s.ctxs s.ended s.nextCtx s.fetches s.bells s.live s.sealed s.jrn s.vault s.lines s.lends s.mc s.cache s.cw s.groups v_ops s.solves s.dies s.chanters s.links s.pods s.stops s.store s.chans s.drones s.ev s.health s.mech s.free s.out s.pending) :=
  h.step (U := [.ops]) ⟨fun f hf => by cases f <;> first | rfl | cases hf⟩ hT
theorem Only.upd_keep {T : List Fld} {a s : State} (h : Only T a s) (hT : [.keep].all T.contains = true) v_keep : Only T a (State.mk s.now s.modes s.pw s.part v_keep s.otp s.flash s.format s.spares s.ports s.insts s.ctxs s.ended s.nextCtx s.fetches s.bells s.live s.sealed s.jrn s.vault s.lines s.lends s.mc s.cache s.cw s.groups s.ops s.solves s.dies s.chanters s.links s.pods s.stops s.store s.chans s.drones s.ev s.health s.mech s.free s.out s.pending) :=
  h.step (U := [.keep]) ⟨fun f hf => by cases f <;> first | rfl | cases hf⟩ hT
theorem Only.upd5 {T : List Fld} {a s : State} (h : Only T a s) (hT : [.ctxs, .ops, .solves, .stops, .chans].all T.contains = true) v_ctxs v_ops v_solves v_stops v_chans : Only T a (State.mk s.now s.modes s.pw s.part s.keep s.otp s.flash s.format s.spares s.ports s.insts v_ctxs s.ended s.nextCtx s.fetches s.bells s.live s.sealed s.jrn s.vault s.lines s.lends s.mc s.cache s.cw s.groups v_ops v_solves s.dies s.chanters s.links s.pods v_stops s.store v_chans s.drones s.ev s.health s.mech s.free s.out s.pending) :=
  h.step (U := [.ctxs, .ops, .solves, .stops, .chans]) ⟨fun f hf => by cases f <;> first | rfl | cases hf⟩ hT
theorem Only.upd_vault {T : List Fld} {a s : State} (h : Only T a s) (hT : [.vault].all T.contains = true) v_vault : Only T a (State.mk s.now s.modes s.pw s.part s.keep s.otp s.flash s.format s.spares s.ports s.insts s.ctxs s.ended s.nextCtx s.fetches s.bells s.live s.sealed s.jrn v_vault s.lines s.lends s.mc s.cache s.cw s.groups s.ops s.solves s.dies s.chanters s.links s.pods s.stops s.store s.chans s.drones s.ev s.health s.mech s.free s.out s.pending) :=
  h.step (U := [.vault]) ⟨fun f hf => by cases f <;> first | rfl | cases hf⟩ hT
theorem Only.upd_cache_ops {T : List Fld} {a s : State} (h : Only T a s) (hT : [.cache, .ops].all T.contains = true) v_cache v_ops : Only T a (State.mk s.now s.modes s.pw s.part s.keep s.otp s.flash s.format s.spares s.ports s.insts s.ctxs s.ended s.nextCtx s.fetches s.bells s.live s.sealed s.jrn s.vault s.lines s.lends s.mc v_cache s.cw s.groups v_ops s.solves s.dies s.chanters s.links s.pods s.stops s.store s.chans s.drones s.ev s.health s.mech s.free s.out s.pending) :=
  h.step (U := [.cache, .ops]) ⟨fun f hf => by cases f <;> first | rfl | cases hf⟩ hT
theorem Only.upd_spares {T : List Fld} {a s : State} (h : Only T a s) (hT : [.spares].all T.contains = true) v_spares : Only T a (State.mk s.now s.modes s.pw s.part s.keep s.otp s.flash s.format v_spares s.ports s.insts s.ctxs s.ended s.nextCtx s.fetches s.bells s.live s.sealed s.jrn s.vault s.lines s.lends s.mc s.cache s.cw s.groups s.ops s.solves s.dies s.chanters s.links s.pods s.stops s.store s.chans s.drones s.ev s.health s.mech s.free s.out s.pending) :=
  h.step (U := [.spares]) ⟨fun f hf => by cases f <;> first | rfl | cases hf⟩ hT
theorem Only.upd_ctxs_nextCtx {T : List Fld} {a s : State} (h : Only T a s) (hT : [.ctxs, .nextCtx].all T.contains = true) v_ctxs v_nextCtx : Only T a (State.mk s.now s.modes s.pw s.part s.keep s.otp s.flash s.format s.spares s.ports s.insts v_ctxs s.ended v_nextCtx s.fetches s.bells s.live s.sealed s.jrn s.vault s.lines s.lends s.mc s.cache s.cw s.groups s.ops s.solves s.dies s.chanters s.links s.pods s.stops s.store s.chans s.drones s.ev s.health s.mech s.free s.out s.pending) :=
  h.step (U := [.ctxs, .nextCtx]) ⟨fun f hf => by cases f <;> first | rfl | cases hf⟩ hT
theorem Only.upd25 {T : List Fld} {a s : State} (h : Only T a s) (hT : [.pw, .part, .spares, .ports, .insts, .ctxs, .live, .jrn, .lines, .lends, .mc, .cache, .cw, .groups, .ops, .solves, .dies, .chanters, .links, .pods, .stops, .chans, .drones, .ev, .health].all T.contains = true) v_pw v_part v_spares v_ports v_insts v_ctxs v_live v_jrn v_lines v_lends v_mc v_cache v_cw v_groups v_ops v_solves v_dies v_chanters v_links v_pods v_stops v_chans v_drones v_ev v_health : Only T a (State.mk s.now s.modes v_pw v_part s.keep s.otp s.flash s.format v_spares v_ports v_insts v_ctxs s.ended s.nextCtx s.fetches s.bells v_live s.sealed v_jrn s.vault v_lines v_lends v_mc v_cache v_cw v_groups v_ops v_solves v_dies v_chanters v_links v_pods v_stops s.store v_chans v_drones v_ev v_health s.mech s.free s.out s.pending) :=
  h.step (U := [.pw, .part, .spares, .ports, .insts, .ctxs, .live, .jrn, .lines, .lends, .mc, .cache, .cw, .groups, .ops, .solves, .dies, .chanters, .links, .pods, .stops, .chans, .drones, .ev, .health]) ⟨fun f hf => by cases f <;> first | rfl | cases hf⟩ hT
theorem Only.upd_modes_pw_part_flash {T : List Fld} {a s : State} (h : Only T a s) (hT : [.modes, .pw, .part, .flash].all T.contains = true) v_modes v_pw v_part v_flash : Only T a (State.mk s.now v_modes v_pw v_part s.keep s.otp v_flash s.format s.spares s.ports s.insts s.ctxs s.ended s.nextCtx s.fetches s.bells s.live s.sealed s.jrn s.vault s.lines s.lends s.mc s.cache s.cw s.groups s.ops s.solves s.dies s.chanters s.links s.pods s.stops s.store s.chans s.drones s.ev s.health s.mech s.free s.out s.pending) :=
  h.step (U := [.modes, .pw, .part, .flash]) ⟨fun f hf => by cases f <;> first | rfl | cases hf⟩ hT
theorem Only.upd_format {T : List Fld} {a s : State} (h : Only T a s) (hT : [.format].all T.contains = true) v_format : Only T a (State.mk s.now s.modes s.pw s.part s.keep s.otp s.flash v_format s.spares s.ports s.insts s.ctxs s.ended s.nextCtx s.fetches s.bells s.live s.sealed s.jrn s.vault s.lines s.lends s.mc s.cache s.cw s.groups s.ops s.solves s.dies s.chanters s.links s.pods s.stops s.store s.chans s.drones s.ev s.health s.mech s.free s.out s.pending) :=
  h.step (U := [.format]) ⟨fun f hf => by cases f <;> first | rfl | cases hf⟩ hT
theorem Only.upd_otp {T : List Fld} {a s : State} (h : Only T a s) (hT : [.otp].all T.contains = true) v_otp : Only T a (State.mk s.now s.modes s.pw s.part s.keep v_otp s.flash s.format s.spares s.ports s.insts s.ctxs s.ended s.nextCtx s.fetches s.bells s.live s.sealed s.jrn s.vault s.lines s.lends s.mc s.cache s.cw s.groups s.ops s.solves s.dies s.chanters s.links s.pods s.stops s.store s.chans s.drones s.ev s.health s.mech s.free s.out s.pending) :=
  h.step (U := [.otp]) ⟨fun f hf => by cases f <;> first | rfl | cases hf⟩ hT
theorem Only.upd_ended {T : List Fld} {a s : State} (h : Only T a s) (hT : [.ended].all T.contains = true) v_ended : Only T a (State.mk s.now s.modes s.pw s.part s.keep s.otp s.flash s.format s.spares s.ports s.insts s.ctxs v_ended s.nextCtx s.fetches s.bells s.live s.sealed s.jrn s.vault s.lines s.lends s.mc s.cache s.cw s.groups s.ops s.solves s.dies s.chanters s.links s.pods s.stops s.store s.chans s.drones s.ev s.health s.mech s.free s.out s.pending) :=
  h.step (U := [.ended]) ⟨fun f hf => by cases f <;> first | rfl | cases hf⟩ hT
theorem Only.upd_lends {T : List Fld} {a s : State} (h : Only T a s) (hT : [.lends].all T.contains = true) v_lends : Only T a (State.mk s.now s.modes s.pw s.part s.keep s.otp s.flash s.format s.spares s.ports s.insts s.ctxs s.ended s.nextCtx s.fetches s.bells s.live s.sealed s.jrn s.vault s.lines v_lends s.mc s.cache s.cw s.groups s.ops s.solves s.dies s.chanters s.links s.pods s.stops s.store s.chans s.drones s.ev s.health s.mech s.free s.out s.pending) :=
  h.step (U := [.lends]) ⟨fun f hf => by cases f <;> first | rfl | cases hf⟩ hT
theorem Only.upd_drones {T : List Fld} {a s : State} (h : Only T a s) (hT : [.drones].all T.contains = true) v_drones : Only T a (State.mk s.now s.modes s.pw s.part s.keep s.otp s.flash s.format s.spares s.ports s.insts s.ctxs s.ended s.nextCtx s.fetches s.bells s.live s.sealed s.jrn s.vault s.lines s.lends s.mc s.cache s.cw s.groups s.ops s.solves s.dies s.chanters s.links s.pods s.stops s.store s.chans v_drones s.ev s.health s.mech s.free s.out s.pending) :=
  h.step (U := [.drones]) ⟨fun f hf => by cases f <;> first | rfl | cases hf⟩ hT
theorem Only.upd_pending {T : List Fld} {a s : State} (h : Only T a s) (hT : [.pending].all T.contains = true) v_pending : Only T a (State.mk s.now s.modes s.pw s.part s.keep s.otp s.flash s.format s.spares s.ports s.insts s.ctxs s.ended s.nextCtx s.fetches s.bells s.live s.sealed s.jrn s.vault s.lines s.lends s.mc s.cache s.cw s.groups s.ops s.solves s.dies s.chanters s.links s.pods s.stops s.store s.chans s.drones s.ev s.health s.mech s.free s.out v_pending) :=
  h.step (U := [.pending]) ⟨fun f hf => by cases f <;> first | rfl | cases hf⟩ hT
theorem Only.upd_now {T : List Fld} {a s : State} (h : Only T a s) (hT : [.now].all T.contains = true) v_now : Only T a (State.mk v_now s.modes s.pw s.part s.keep s.otp s.flash s.format s.spares s.ports s.insts s.ctxs s.ended s.nextCtx s.fetches s.bells s.live s.sealed s.jrn s.vault s.lines s.lends s.mc s.cache s.cw s.groups s.ops s.solves s.dies s.chanters s.links s.pods s.stops s.store s.chans s.drones s.ev s.health s.mech s.free s.out s.pending) :=
  h.step (U := [.now]) ⟨fun f hf => by cases f <;> first | rfl | cases hf⟩ hT
theorem Only.upd_sealed {T : List Fld} {a s : State} (h : Only T a s) (hT : [.sealed].all T.contains = true) v_sealed : Only T a (State.mk s.now s.modes s.pw s.part s.keep s.otp s.flash s.format s.spares s.ports s.insts s.ctxs s.ended s.nextCtx s.fetches s.bells s.live v_sealed s.jrn s.vault s.lines s.lends s.mc s.cache s.cw s.groups s.ops s.solves s.dies s.chanters s.links s.pods s.stops s.store s.chans s.drones s.ev s.health s.mech s.free s.out s.pending) :=
  h.step (U := [.sealed]) ⟨fun f hf => by cases f <;> first | rfl | cases hf⟩ hT
theorem Only.upd12 {T : List Fld} {a s : State} (h : Only T a s) (hT : [.live, .sealed, .jrn, .vault, .lines, .mc, .cache, .cw, .groups, .ops, .solves, .health].all T.contains = true) v_live v_sealed v_jrn v_vault v_lines v_mc v_cache v_cw v_groups v_ops v_solves v_health : Only T a (State.mk s.now s.modes s.pw s.part s.keep s.otp s.flash s.format s.spares s.ports s.insts s.ctxs s.ended s.nextCtx s.fetches s.bells v_live v_sealed v_jrn v_vault v_lines s.lends v_mc v_cache v_cw v_groups v_ops v_solves s.dies s.chanters s.links s.pods s.stops s.store s.chans s.drones s.ev v_health s.mech s.free s.out s.pending) :=
  h.step (U := [.live, .sealed, .jrn, .vault, .lines, .mc, .cache, .cw, .groups, .ops, .solves, .health]) ⟨fun f hf => by cases f <;> first | rfl | cases hf⟩ hT
theorem Only.upd_ctxs_nextCtx_fetches {T : List Fld} {a s : State} (h : Only T a s) (hT : [.ctxs, .nextCtx, .fetches].all T.contains = true) v_ctxs v_nextCtx v_fetches : Only T a (State.mk s.now s.modes s.pw s.part s.keep s.otp s.flash s.format s.spares s.ports s.insts v_ctxs s.ended v_nextCtx v_fetches s.bells s.live s.sealed s.jrn s.vault s.lines s.lends s.mc s.cache s.cw s.groups s.ops s.solves s.dies s.chanters s.links s.pods s.stops s.store s.chans s.drones s.ev s.health s.mech s.free s.out s.pending) :=
  h.step (U := [.ctxs, .nextCtx, .fetches]) ⟨fun f hf => by cases f <;> first | rfl | cases hf⟩ hT
theorem Only.upd_bells {T : List Fld} {a s : State} (h : Only T a s) (hT : [.bells].all T.contains = true) v_bells : Only T a (State.mk s.now s.modes s.pw s.part s.keep s.otp s.flash s.format s.spares s.ports s.insts s.ctxs s.ended s.nextCtx s.fetches v_bells s.live s.sealed s.jrn s.vault s.lines s.lends s.mc s.cache s.cw s.groups s.ops s.solves s.dies s.chanters s.links s.pods s.stops s.store s.chans s.drones s.ev s.health s.mech s.free s.out s.pending) :=
  h.step (U := [.bells]) ⟨fun f hf => by cases f <;> first | rfl | cases hf⟩ hT
theorem Only.upd_format_store {T : List Fld} {a s : State} (h : Only T a s) (hT : [.format, .store].all T.contains = true) v_format v_store : Only T a (State.mk s.now s.modes s.pw s.part s.keep s.otp s.flash v_format s.spares s.ports s.insts s.ctxs s.ended s.nextCtx s.fetches s.bells s.live s.sealed s.jrn s.vault s.lines s.lends s.mc s.cache s.cw s.groups s.ops s.solves s.dies s.chanters s.links s.pods s.stops v_store s.chans s.drones s.ev s.health s.mech s.free s.out s.pending) :=
  h.step (U := [.format, .store]) ⟨fun f hf => by cases f <;> first | rfl | cases hf⟩ hT
theorem Only.upd_ {T : List Fld} {a s : State} (h : Only T a s) (hT : [].all T.contains = true)  : Only T a (State.mk s.now s.modes s.pw s.part s.keep s.otp s.flash s.format s.spares s.ports s.insts s.ctxs s.ended s.nextCtx s.fetches s.bells s.live s.sealed s.jrn s.vault s.lines s.lends s.mc s.cache s.cw s.groups s.ops s.solves s.dies s.chanters s.links s.pods s.stops s.store s.chans s.drones s.ev s.health s.mech s.free s.out s.pending) :=
  h.step (U := []) ⟨fun f hf => by cases f <;> first | rfl | cases hf⟩ hT
theorem Only.upd_mech {T : List Fld} {a s : State} (h : Only T a s) (hT : [.mech].all T.contains = true) v_mech : Only T a (State.mk s.now s.modes s.pw s.part s.keep s.otp s.flash s.format s.spares s.ports s.insts s.ctxs s.ended s.nextCtx s.fetches s.bells s.live s.sealed s.jrn s.vault s.lines s.lends s.mc s.cache s.cw s.groups s.ops s.solves s.dies s.chanters s.links s.pods s.stops s.store s.chans s.drones s.ev s.health v_mech s.free s.out s.pending) :=
  h.step (U := [.mech]) ⟨fun f hf => by cases f <;> first | rfl | cases hf⟩ hT

end Sys2Proof.Machine
end

