-- ==== Sys2Proof/Laws/OnlyOps.lean ====
section
/-! SUPPORT. The frame of every shared operation: the fields it can change, with the form that continues a chain of operations. -/
namespace Sys2Proof.Machine

theorem State.modFlash_only (x0 : Flash → Flash) (s : State) : Only [.flash] s (State.modFlash x0 s) := by
  have h : Only [.flash] s s := Only.refl _ _
  unfold State.modFlash
  repeat' first | with_reducible assumption | intro _ | with_reducible apply Only.foldl | with_reducible apply Only.foldl_snd | (with_reducible apply Only.upd_flash; first | with_reducible assumption | with_reducible apply Only.foldl | with_reducible apply Only.foldl_snd | with_reducible refine Only.ite ?_ ?_) | extract_lets | with_reducible refine Only.ite ?_ ?_ | split | decide
theorem Only.modFlash {T : List Fld} {a s : State} (h : Only T a s) (hT : [.flash].all T.contains = true) (x0 : Flash → Flash) : Only T a (State.modFlash x0 s) := h.step (State.modFlash_only x0 s) hT
theorem State.modBank_only (x0 : Nat) (x1 : Bank → Bank) (s : State) : Only [.flash] s (State.modBank x0 x1 s) := by
  have h : Only [.flash] s s := Only.refl _ _
  unfold State.modBank
  repeat' first | with_reducible assumption | intro _ | with_reducible apply Only.modFlash | with_reducible apply Only.foldl | with_reducible apply Only.foldl_snd | extract_lets | with_reducible refine Only.ite ?_ ?_ | split | decide
theorem Only.modBank {T : List Fld} {a s : State} (h : Only T a s) (hT : [.flash].all T.contains = true) (x0 : Nat) (x1 : Bank → Bank) : Only T a (State.modBank x0 x1 s) := h.step (State.modBank_only x0 x1 s) hT
theorem State.flashOps_only (x0 : Nat) (x1 : List (Nat × Bool)) (s : State) : Only [.flash] s (State.flashOps x0 x1 s) := by
  have h : Only [.flash] s s := Only.refl _ _
  unfold State.flashOps
  repeat' first | with_reducible assumption | intro _ | with_reducible apply Only.modBank | with_reducible apply Only.foldl | with_reducible apply Only.foldl_snd | extract_lets | with_reducible refine Only.ite ?_ ?_ | split | decide
theorem Only.flashOps {T : List Fld} {a s : State} (h : Only T a s) (hT : [.flash].all T.contains = true) (x0 : Nat) (x1 : List (Nat × Bool)) : Only T a (State.flashOps x0 x1 s) := h.step (State.flashOps_only x0 x1 s) hT
theorem State.modPort_only (x0 : Nat) (x1 : Port → Port) (s : State) : Only [.ports] s (State.modPort x0 x1 s) := by
  have h : Only [.ports] s s := Only.refl _ _
  unfold State.modPort
  repeat' first | with_reducible assumption | intro _ | with_reducible apply Only.foldl | with_reducible apply Only.foldl_snd | (with_reducible apply Only.upd_ports; first | with_reducible assumption | with_reducible apply Only.foldl | with_reducible apply Only.foldl_snd | with_reducible refine Only.ite ?_ ?_) | extract_lets | with_reducible refine Only.ite ?_ ?_ | split | decide
theorem Only.modPort {T : List Fld} {a s : State} (h : Only T a s) (hT : [.ports].all T.contains = true) (x0 : Nat) (x1 : Port → Port) : Only T a (State.modPort x0 x1 s) := h.step (State.modPort_only x0 x1 s) hT
theorem State.modPw_only (x0 : Power → Power) (s : State) : Only [.pw] s (State.modPw x0 s) := by
  have h : Only [.pw] s s := Only.refl _ _
  unfold State.modPw
  repeat' first | with_reducible assumption | intro _ | with_reducible apply Only.foldl | with_reducible apply Only.foldl_snd | (with_reducible apply Only.upd_pw; first | with_reducible assumption | with_reducible apply Only.foldl | with_reducible apply Only.foldl_snd | with_reducible refine Only.ite ?_ ?_) | extract_lets | with_reducible refine Only.ite ?_ ?_ | split | decide
theorem Only.modPw {T : List Fld} {a s : State} (h : Only T a s) (hT : [.pw].all T.contains = true) (x0 : Power → Power) : Only T a (State.modPw x0 s) := h.step (State.modPw_only x0 s) hT
theorem State.modCache_only (x0 : Cache → Cache) (s : State) : Only [.cache] s (State.modCache x0 s) := by
  have h : Only [.cache] s s := Only.refl _ _
  unfold State.modCache
  repeat' first | with_reducible assumption | intro _ | with_reducible apply Only.foldl | with_reducible apply Only.foldl_snd | (with_reducible apply Only.upd_cache; first | with_reducible assumption | with_reducible apply Only.foldl | with_reducible apply Only.foldl_snd | with_reducible refine Only.ite ?_ ?_) | extract_lets | with_reducible refine Only.ite ?_ ?_ | split | decide
theorem Only.modCache {T : List Fld} {a s : State} (h : Only T a s) (hT : [.cache].all T.contains = true) (x0 : Cache → Cache) : Only T a (State.modCache x0 s) := h.step (State.modCache_only x0 s) hT
theorem State.refreshHeld_only (s : State) : Only [.cache] s (State.refreshHeld s) := by
  have h : Only [.cache] s s := Only.refl _ _
  unfold State.refreshHeld
  repeat' first | with_reducible assumption | intro _ | with_reducible apply Only.modCache | with_reducible apply Only.foldl | with_reducible apply Only.foldl_snd | extract_lets | with_reducible refine Only.ite ?_ ?_ | split | decide
theorem Only.refreshHeld {T : List Fld} {a s : State} (h : Only T a s) (hT : [.cache].all T.contains = true) : Only T a (State.refreshHeld s) := h.step (State.refreshHeld_only s) hT
theorem State.setLimit_only (s : State) : Only [.cache] s (State.setLimit s) := by
  have h : Only [.cache] s s := Only.refl _ _
  unfold State.setLimit
  repeat' first | with_reducible assumption | intro _ | with_reducible apply Only.refreshHeld | with_reducible apply Only.modCache | with_reducible apply Only.foldl | with_reducible apply Only.foldl_snd | extract_lets | with_reducible refine Only.ite ?_ ?_ | split | decide
theorem Only.setLimit {T : List Fld} {a s : State} (h : Only T a s) (hT : [.cache].all T.contains = true) : Only T a (State.setLimit s) := h.step (State.setLimit_only s) hT
theorem State.modModes_only (x0 : Modes → Modes) (s : State) : Only [.modes] s (State.modModes x0 s) := by
  have h : Only [.modes] s s := Only.refl _ _
  unfold State.modModes
  repeat' first | with_reducible assumption | intro _ | with_reducible apply Only.foldl | with_reducible apply Only.foldl_snd | (with_reducible apply Only.upd_modes; first | with_reducible assumption | with_reducible apply Only.foldl | with_reducible apply Only.foldl_snd | with_reducible refine Only.ite ?_ ?_) | extract_lets | with_reducible refine Only.ite ?_ ?_ | split | decide
theorem Only.modModes {T : List Fld} {a s : State} (h : Only T a s) (hT : [.modes].all T.contains = true) (x0 : Modes → Modes) : Only T a (State.modModes x0 s) := h.step (State.modModes_only x0 s) hT
theorem State.dropCtx_only (x0 : Nat) (s : State) : Only [.ctxs] s (State.dropCtx x0 s) := by
  have h : Only [.ctxs] s s := Only.refl _ _
  unfold State.dropCtx
  repeat' first | with_reducible assumption | intro _ | with_reducible apply Only.foldl | with_reducible apply Only.foldl_snd | (with_reducible apply Only.upd_ctxs; first | with_reducible assumption | with_reducible apply Only.foldl | with_reducible apply Only.foldl_snd | with_reducible refine Only.ite ?_ ?_) | extract_lets | with_reducible refine Only.ite ?_ ?_ | split | decide
theorem Only.dropCtx {T : List Fld} {a s : State} (h : Only T a s) (hT : [.ctxs].all T.contains = true) (x0 : Nat) : Only T a (State.dropCtx x0 s) := h.step (State.dropCtx_only x0 s) hT
theorem State.modCtx_only (x0 : Nat) (x1 : Ctx → Ctx) (s : State) : Only [.ctxs] s (State.modCtx x0 x1 s) := by
  have h : Only [.ctxs] s s := Only.refl _ _
  unfold State.modCtx
  repeat' first | with_reducible assumption | intro _ | with_reducible apply Only.foldl | with_reducible apply Only.foldl_snd | (with_reducible apply Only.upd_ctxs; first | with_reducible assumption | with_reducible apply Only.foldl | with_reducible apply Only.foldl_snd | with_reducible refine Only.ite ?_ ?_) | extract_lets | with_reducible refine Only.ite ?_ ?_ | split | decide
theorem Only.modCtx {T : List Fld} {a s : State} (h : Only T a s) (hT : [.ctxs].all T.contains = true) (x0 : Nat) (x1 : Ctx → Ctx) : Only T a (State.modCtx x0 x1 s) := h.step (State.modCtx_only x0 x1 s) hT
theorem State.modInst_only (x0 : Nat) (x1 : Inst → Inst) (s : State) : Only [.insts] s (State.modInst x0 x1 s) := by
  have h : Only [.insts] s s := Only.refl _ _
  unfold State.modInst
  repeat' first | with_reducible assumption | intro _ | with_reducible apply Only.foldl | with_reducible apply Only.foldl_snd | (with_reducible apply Only.upd_insts; first | with_reducible assumption | with_reducible apply Only.foldl | with_reducible apply Only.foldl_snd | with_reducible refine Only.ite ?_ ?_) | extract_lets | with_reducible refine Only.ite ?_ ?_ | split | decide
theorem Only.modInst {T : List Fld} {a s : State} (h : Only T a s) (hT : [.insts].all T.contains = true) (x0 : Nat) (x1 : Inst → Inst) : Only T a (State.modInst x0 x1 s) := h.step (State.modInst_only x0 x1 s) hT
theorem State.emit_only (x0 : Out) (s : State) : Only [.out] s (State.emit x0 s) := by
  have h : Only [.out] s s := Only.refl _ _
  unfold State.emit
  repeat' first | with_reducible assumption | intro _ | with_reducible apply Only.foldl | with_reducible apply Only.foldl_snd | (with_reducible apply Only.upd_out; first | with_reducible assumption | with_reducible apply Only.foldl | with_reducible apply Only.foldl_snd | with_reducible refine Only.ite ?_ ?_) | extract_lets | with_reducible refine Only.ite ?_ ?_ | split | decide
theorem Only.emit {T : List Fld} {a s : State} (h : Only T a s) (hT : [.out].all T.contains = true) (x0 : Out) : Only T a (State.emit x0 s) := h.step (State.emit_only x0 s) hT
theorem State.noteDone_only (x0 : Nat) (x1 : Nat) (x2 : Nat) (s : State) : Only [.ports, .insts] s (State.noteDone x0 x1 x2 s) := by
  have h : Only [.ports, .insts] s s := Only.refl _ _
  unfold State.noteDone
  repeat' first | with_reducible assumption | intro _ | with_reducible apply Only.modPort | with_reducible apply Only.modInst | with_reducible apply Only.foldl | with_reducible apply Only.foldl_snd | extract_lets | with_reducible refine Only.ite ?_ ?_ | split | decide
theorem Only.noteDone {T : List Fld} {a s : State} (h : Only T a s) (hT : [.ports, .insts].all T.contains = true) (x0 : Nat) (x1 : Nat) (x2 : Nat) : Only T a (State.noteDone x0 x1 x2 s) := h.step (State.noteDone_only x0 x1 x2 s) hT
theorem State.interrupt_only (x0 : Nat) (x1 : Nat) (x2 : Option Nat) (s : State) : Only [.ports, .out] s (State.interrupt x0 x1 x2 s) := by
  have h : Only [.ports, .out] s s := Only.refl _ _
  unfold State.interrupt
  repeat' first | with_reducible assumption | intro _ | with_reducible apply Only.modPort | with_reducible apply Only.emit | with_reducible apply Only.foldl | with_reducible apply Only.foldl_snd | extract_lets | with_reducible refine Only.ite ?_ ?_ | split | decide
theorem Only.interrupt {T : List Fld} {a s : State} (h : Only T a s) (hT : [.ports, .out].all T.contains = true) (x0 : Nat) (x1 : Nat) (x2 : Option Nat) : Only T a (State.interrupt x0 x1 x2 s) := h.step (State.interrupt_only x0 x1 x2 s) hT
theorem State.pushCqe_only (x0 : Nat) (x1 : Nat) (x2 : Cqe) (s : State) : Only [.ports, .insts, .ctxs, .out] s (State.pushCqe x0 x1 x2 s) := by
  have h : Only [.ports, .insts, .ctxs, .out] s s := Only.refl _ _
  unfold State.pushCqe
  repeat' first | with_reducible assumption | intro _ | with_reducible apply Only.modInst | with_reducible apply Only.emit | with_reducible apply Only.dropCtx | with_reducible apply Only.noteDone | with_reducible apply Only.interrupt | with_reducible apply Only.foldl | with_reducible apply Only.foldl_snd | extract_lets | with_reducible refine Only.ite ?_ ?_ | split | decide
theorem Only.pushCqe {T : List Fld} {a s : State} (h : Only T a s) (hT : [.ports, .insts, .ctxs, .out].all T.contains = true) (x0 : Nat) (x1 : Nat) (x2 : Cqe) : Only T a (State.pushCqe x0 x1 x2 s) := h.step (State.pushCqe_only x0 x1 x2 s) hT
theorem State.writeCqe_only (x0 : Nat) (x1 : Nat) (x2 : Cqe) (s : State) : Only [.ports, .insts, .ctxs, .out] s (State.writeCqe x0 x1 x2 s) := by
  have h : Only [.ports, .insts, .ctxs, .out] s s := Only.refl _ _
  unfold State.writeCqe
  repeat' first | with_reducible assumption | intro _ | with_reducible apply Only.dropCtx | with_reducible apply Only.modCtx | with_reducible apply Only.modPort | with_reducible apply Only.modInst | with_reducible apply Only.pushCqe | with_reducible apply Only.foldl | with_reducible apply Only.foldl_snd | extract_lets | with_reducible refine Only.ite ?_ ?_ | split | decide
theorem Only.writeCqe {T : List Fld} {a s : State} (h : Only T a s) (hT : [.ports, .insts, .ctxs, .out].all T.contains = true) (x0 : Nat) (x1 : Nat) (x2 : Cqe) : Only T a (State.writeCqe x0 x1 x2 s) := h.step (State.writeCqe_only x0 x1 x2 s) hT
theorem State.answerAer_only (x0 : Nat) (x1 : AsyncEv) (s : State) : Only [.ports, .insts, .ctxs, .out] s (State.answerAer x0 x1 s) := by
  have h : Only [.ports, .insts, .ctxs, .out] s s := Only.refl _ _
  unfold State.answerAer
  repeat' first | with_reducible assumption | intro _ | with_reducible apply Only.writeCqe | with_reducible apply Only.modPort | with_reducible apply Only.foldl | with_reducible apply Only.foldl_snd | extract_lets | with_reducible refine Only.ite ?_ ?_ | split | decide
theorem Only.answerAer {T : List Fld} {a s : State} (h : Only T a s) (hT : [.ports, .insts, .ctxs, .out].all T.contains = true) (x0 : Nat) (x1 : AsyncEv) : Only T a (State.answerAer x0 x1 s) := h.step (State.answerAer_only x0 x1 s) hT
theorem State.postEvent_only (x0 : Nat) (x1 : AsyncEv) (s : State) : Only [.ports, .insts, .ctxs, .out] s (State.postEvent x0 x1 s) := by
  have h : Only [.ports, .insts, .ctxs, .out] s s := Only.refl _ _
  unfold State.postEvent
  repeat' first | with_reducible assumption | intro _ | with_reducible apply Only.modPort | with_reducible apply Only.answerAer | with_reducible apply Only.foldl | with_reducible apply Only.foldl_snd | extract_lets | with_reducible refine Only.ite ?_ ?_ | split | decide
theorem Only.postEvent {T : List Fld} {a s : State} (h : Only T a s) (hT : [.ports, .insts, .ctxs, .out].all T.contains = true) (x0 : Nat) (x1 : AsyncEv) : Only T a (State.postEvent x0 x1 s) := h.step (State.postEvent_only x0 x1 s) hT
theorem State.postVendor_only (x0 : Nat) (x1 : Nat) (s : State) : Only [.ports, .insts, .ctxs, .out] s (State.postVendor x0 x1 s) := by
  have h : Only [.ports, .insts, .ctxs, .out] s s := Only.refl _ _
  unfold State.postVendor
  repeat' first | with_reducible assumption | intro _ | with_reducible apply Only.postEvent | with_reducible apply Only.modPort | with_reducible apply Only.foldl | with_reducible apply Only.foldl_snd | extract_lets | with_reducible refine Only.ite ?_ ?_ | split | decide
theorem Only.postVendor {T : List Fld} {a s : State} (h : Only T a s) (hT : [.ports, .insts, .ctxs, .out].all T.contains = true) (x0 : Nat) (x1 : Nat) : Only T a (State.postVendor x0 x1 s) := h.step (State.postVendor_only x0 x1 s) hT
theorem State.postOutstanding_only (x0 : Nat) (x1 : Nat) (s : State) : Only [.ports, .insts, .ctxs, .out] s (State.postOutstanding x0 x1 s) := by
  have h : Only [.ports, .insts, .ctxs, .out] s s := Only.refl _ _
  unfold State.postOutstanding
  repeat' first | with_reducible assumption | intro _ | with_reducible apply Only.postVendor | with_reducible apply Only.foldl | with_reducible apply Only.foldl_snd | extract_lets | with_reducible refine Only.ite ?_ ?_ | split | decide
theorem Only.postOutstanding {T : List Fld} {a s : State} (h : Only T a s) (hT : [.ports, .insts, .ctxs, .out].all T.contains = true) (x0 : Nat) (x1 : Nat) : Only T a (State.postOutstanding x0 x1 s) := h.step (State.postOutstanding_only x0 x1 s) hT
theorem State.setMode_only (x0 : Mode) (s : State) : Only [.modes] s (State.setMode x0 s) := by
  have h : Only [.modes] s s := Only.refl _ _
  unfold State.setMode
  repeat' first | with_reducible assumption | intro _ | with_reducible apply Only.modModes | with_reducible apply Only.foldl | with_reducible apply Only.foldl_snd | extract_lets | with_reducible refine Only.ite ?_ ?_ | split | decide
theorem Only.setMode {T : List Fld} {a s : State} (h : Only T a s) (hT : [.modes].all T.contains = true) (x0 : Mode) : Only T a (State.setMode x0 s) := h.step (State.setMode_only x0 s) hT
theorem State.settleMode_only (s : State) : Only [.modes] s (State.settleMode s) := by
  have h : Only [.modes] s s := Only.refl _ _
  unfold State.settleMode
  repeat' first | with_reducible assumption | intro _ | with_reducible apply Only.setMode | with_reducible apply Only.foldl | with_reducible apply Only.foldl_snd | extract_lets | with_reducible refine Only.ite ?_ ?_ | split | decide
theorem Only.settleMode {T : List Fld} {a s : State} (h : Only T a s) (hT : [.modes].all T.contains = true) : Only T a (State.settleMode s) := h.step (State.settleMode_only s) hT
theorem State.setDegrade_only (x0 : Nat) (x1 : Bool) (s : State) : Only [.modes, .ports, .insts, .ctxs, .out] s (State.setDegrade x0 x1 s) := by
  have h : Only [.modes, .ports, .insts, .ctxs, .out] s s := Only.refl _ _
  unfold State.setDegrade
  repeat' first | with_reducible assumption | intro _ | with_reducible apply Only.modModes | with_reducible apply Only.allPorts | with_reducible apply Only.postOutstanding | with_reducible apply Only.modPort | with_reducible apply Only.settleMode | with_reducible apply Only.foldl | with_reducible apply Only.foldl_snd | extract_lets | with_reducible refine Only.ite ?_ ?_ | split | decide
theorem Only.setDegrade {T : List Fld} {a s : State} (h : Only T a s) (hT : [.modes, .ports, .insts, .ctxs, .out].all T.contains = true) (x0 : Nat) (x1 : Bool) : Only T a (State.setDegrade x0 x1 s) := h.step (State.setDegrade_only x0 x1 s) hT
theorem State.modGroup_only (x0 : Nat) (x1 : Group → Group) (s : State) : Only [.groups] s (State.modGroup x0 x1 s) := by
  have h : Only [.groups] s s := Only.refl _ _
  unfold State.modGroup
  repeat' first | with_reducible assumption | intro _ | with_reducible apply Only.foldl | with_reducible apply Only.foldl_snd | (with_reducible apply Only.upd_groups; first | with_reducible assumption | with_reducible apply Only.foldl | with_reducible apply Only.foldl_snd | with_reducible refine Only.ite ?_ ?_) | extract_lets | with_reducible refine Only.ite ?_ ?_ | split | decide
theorem Only.modGroup {T : List Fld} {a s : State} (h : Only T a s) (hT : [.groups].all T.contains = true) (x0 : Nat) (x1 : Group → Group) : Only T a (State.modGroup x0 x1 s) := h.step (State.modGroup_only x0 x1 s) hT
theorem State.modStripe_only (x0 : Nat) (x1 : Stripe → Stripe) (s : State) : Only [.cache] s (State.modStripe x0 x1 s) := by
  have h : Only [.cache] s s := Only.refl _ _
  unfold State.modStripe
  repeat' first | with_reducible assumption | intro _ | with_reducible apply Only.modCache | with_reducible apply Only.foldl | with_reducible apply Only.foldl_snd | extract_lets | with_reducible refine Only.ite ?_ ?_ | split | decide
theorem Only.modStripe {T : List Fld} {a s : State} (h : Only T a s) (hT : [.cache].all T.contains = true) (x0 : Nat) (x1 : Stripe → Stripe) : Only T a (State.modStripe x0 x1 s) := h.step (State.modStripe_only x0 x1 s) hT
theorem State.addOp_only (x0 : Op) (s : State) : Only [.ops, .health] s (State.addOp x0 s) := by
  have h : Only [.ops, .health] s s := Only.refl _ _
  unfold State.addOp
  repeat' first | with_reducible assumption | intro _ | with_reducible apply Only.foldl | with_reducible apply Only.foldl_snd | (with_reducible apply Only.upd_ops_health; first | with_reducible assumption | with_reducible apply Only.foldl | with_reducible apply Only.foldl_snd | with_reducible refine Only.ite ?_ ?_) | extract_lets | with_reducible refine Only.ite ?_ ?_ | split | decide
theorem Only.addOp {T : List Fld} {a s : State} (h : Only T a s) (hT : [.ops, .health].all T.contains = true) (x0 : Op) : Only T a (State.addOp x0 s) := h.step (State.addOp_only x0 s) hT
theorem State.queueProgram_only (x0 : Nat) (x1 : Nat) (s : State) : Only [.cache, .ops, .health] s (State.queueProgram x0 x1 s) := by
  have h : Only [.cache, .ops, .health] s s := Only.refl _ _
  unfold State.queueProgram
  repeat' first | with_reducible assumption | intro _ | with_reducible apply Only.modStripe | with_reducible apply Only.addOp | with_reducible apply Only.foldl | with_reducible apply Only.foldl_snd | extract_lets | with_reducible refine Only.ite ?_ ?_ | split | decide
theorem Only.queueProgram {T : List Fld} {a s : State} (h : Only T a s) (hT : [.cache, .ops, .health].all T.contains = true) (x0 : Nat) (x1 : Nat) : Only T a (State.queueProgram x0 x1 s) := h.step (State.queueProgram_only x0 x1 s) hT
theorem State.eraseSubs_only (x0 : Nat) (x1 : Nat) (x2 : OpClass) (s : State) : Only [.ops, .health] s (State.eraseSubs x0 x1 x2 s) := by
  have h : Only [.ops, .health] s s := Only.refl _ _
  unfold State.eraseSubs
  repeat' first | with_reducible assumption | intro _ | with_reducible apply Only.each | with_reducible apply Only.addOp | with_reducible apply Only.foldl | with_reducible apply Only.foldl_snd | extract_lets | with_reducible refine Only.ite ?_ ?_ | split | decide
theorem Only.eraseSubs {T : List Fld} {a s : State} (h : Only T a s) (hT : [.ops, .health].all T.contains = true) (x0 : Nat) (x1 : Nat) (x2 : OpClass) : Only T a (State.eraseSubs x0 x1 x2 s) := h.step (State.eraseSubs_only x0 x1 x2 s) hT
theorem State.logRec_only (x0 : Rec) (s : State) : Only [.live, .jrn] s (State.logRec x0 s) := by
  have h : Only [.live, .jrn] s s := Only.refl _ _
  unfold State.logRec
  repeat' first | with_reducible assumption | intro _ | with_reducible apply Only.foldl | with_reducible apply Only.foldl_snd | (with_reducible apply Only.upd_live_jrn; first | with_reducible assumption | with_reducible apply Only.foldl | with_reducible apply Only.foldl_snd | with_reducible refine Only.ite ?_ ?_) | extract_lets | with_reducible refine Only.ite ?_ ?_ | split | decide
theorem Only.logRec {T : List Fld} {a s : State} (h : Only T a s) (hT : [.live, .jrn].all T.contains = true) (x0 : Rec) : Only T a (State.logRec x0 s) := h.step (State.logRec_only x0 s) hT
theorem State.logBand_only (x0 : Nat) (x1 : Nat) (x2 : BandEvent) (s : State) : Only [.live, .jrn] s (State.logBand x0 x1 x2 s) := by
  have h : Only [.live, .jrn] s s := Only.refl _ _
  unfold State.logBand
  repeat' first | with_reducible assumption | intro _ | with_reducible apply Only.logRec | with_reducible apply Only.foldl | with_reducible apply Only.foldl_snd | extract_lets | with_reducible refine Only.ite ?_ ?_ | split | decide
theorem Only.logBand {T : List Fld} {a s : State} (h : Only T a s) (hT : [.live, .jrn].all T.contains = true) (x0 : Nat) (x1 : Nat) (x2 : BandEvent) : Only T a (State.logBand x0 x1 x2 s) := h.step (State.logBand_only x0 x1 x2 s) hT
theorem State.openStripe_only (x0 : Nat) (x1 : Stream) (s : State) : Only [.live, .jrn, .cache, .groups, .ops, .health] s (State.openStripe x0 x1 s) := by
  have h : Only [.live, .jrn, .cache, .groups, .ops, .health] s s := Only.refl _ _
  unfold State.openStripe
  repeat' first | with_reducible assumption | intro _ | with_reducible apply Only.eraseSubs | with_reducible apply Only.logBand | with_reducible apply Only.modGroup | with_reducible apply Only.modCache | with_reducible apply Only.foldl | with_reducible apply Only.foldl_snd | extract_lets | with_reducible refine Only.ite ?_ ?_ | split | decide | dsimp +zetaDelta only
theorem Only.openStripe {T : List Fld} {a s : State} (h : Only T a s) (hT : [.live, .jrn, .cache, .groups, .ops, .health].all T.contains = true) (x0 : Nat) (x1 : Stream) : Only T a (State.openStripe x0 x1 s) := h.step (State.openStripe_only x0 x1 s) hT
theorem State.needStripe_only (x0 : Nat) (x1 : Stream) (s : State) : Only [.live, .jrn, .cache, .groups, .ops, .health] s (State.needStripe x0 x1 s) := by
  have h : Only [.live, .jrn, .cache, .groups, .ops, .health] s s := Only.refl _ _
  unfold State.needStripe
  repeat' first | with_reducible assumption | intro _ | with_reducible apply Only.openStripe | with_reducible apply Only.foldl | with_reducible apply Only.foldl_snd | extract_lets | with_reducible refine Only.ite ?_ ?_ | split | decide
theorem Only.needStripe {T : List Fld} {a s : State} (h : Only T a s) (hT : [.live, .jrn, .cache, .groups, .ops, .health].all T.contains = true) (x0 : Nat) (x1 : Stream) : Only T a (State.needStripe x0 x1 s) := h.step (State.needStripe_only x0 x1 s) hT
theorem State.keepOpen_only (x0 : Nat) (x1 : Stream) (s : State) : Only [.live, .jrn, .cache, .groups, .ops, .health] s (State.keepOpen x0 x1 s) := by
  have h : Only [.live, .jrn, .cache, .groups, .ops, .health] s s := Only.refl _ _
  unfold State.keepOpen
  repeat' first | with_reducible assumption | intro _ | with_reducible apply Only.needStripe | with_reducible apply Only.foldl | with_reducible apply Only.foldl_snd | extract_lets | with_reducible refine Only.ite ?_ ?_ | split | decide
theorem Only.keepOpen {T : List Fld} {a s : State} (h : Only T a s) (hT : [.live, .jrn, .cache, .groups, .ops, .health].all T.contains = true) (x0 : Nat) (x1 : Stream) : Only T a (State.keepOpen x0 x1 s) := h.step (State.keepOpen_only x0 x1 s) hT
theorem State.queueFull_only (x0 : Nat) (s : State) : Only [.live, .jrn, .cache, .groups, .ops, .health] s (State.queueFull x0 s) := by
  have h : Only [.live, .jrn, .cache, .groups, .ops, .health] s s := Only.refl _ _
  unfold State.queueFull
  repeat' first | with_reducible assumption | intro _ | with_reducible apply Only.each | with_reducible apply Only.queueProgram | with_reducible apply Only.keepOpen | with_reducible apply Only.modStripe | with_reducible apply Only.foldl | with_reducible apply Only.foldl_snd | extract_lets | with_reducible refine Only.ite ?_ ?_ | split | decide
theorem Only.queueFull {T : List Fld} {a s : State} (h : Only T a s) (hT : [.live, .jrn, .cache, .groups, .ops, .health].all T.contains = true) (x0 : Nat) : Only T a (State.queueFull x0 s) := h.step (State.queueFull_only x0 s) hT
theorem State.closeStripe_only (x0 : Nat) (s : State) : Only [.live, .jrn, .cache, .groups, .ops, .health] s (State.closeStripe x0 s) := by
  have h : Only [.live, .jrn, .cache, .groups, .ops, .health] s s := Only.refl _ _
  unfold State.closeStripe
  repeat' first | with_reducible assumption | intro _ | with_reducible apply Only.modCache | with_reducible apply Only.modGroup | with_reducible apply Only.queueFull | with_reducible apply Only.modStripe | with_reducible apply Only.foldl | with_reducible apply Only.foldl_snd | extract_lets | with_reducible refine Only.ite ?_ ?_ | split | decide | dsimp +zetaDelta only
theorem Only.closeStripe {T : List Fld} {a s : State} (h : Only T a s) (hT : [.live, .jrn, .cache, .groups, .ops, .health].all T.contains = true) (x0 : Nat) : Only T a (State.closeStripe x0 s) := h.step (State.closeStripe_only x0 s) hT
theorem State.reviewEnergy_only (s : State) : Only [.modes, .ports, .insts, .ctxs, .live, .jrn, .cache, .groups, .ops, .health, .out] s (State.reviewEnergy s) := by
  have h : Only [.modes, .ports, .insts, .ctxs, .live, .jrn, .cache, .groups, .ops, .health, .out] s s := Only.refl _ _
  unfold State.reviewEnergy
  repeat' first | with_reducible assumption | intro _ | with_reducible apply Only.setDegrade | with_reducible apply Only.modCache | with_reducible apply Only.each | with_reducible apply Only.closeStripe | with_reducible apply Only.foldl | with_reducible apply Only.foldl_snd | (with_reducible apply Only.upd_ctxs; first | with_reducible assumption | with_reducible apply Only.setDegrade | with_reducible apply Only.modCache | with_reducible apply Only.each | with_reducible apply Only.closeStripe | with_reducible apply Only.foldl | with_reducible apply Only.foldl_snd | with_reducible refine Only.ite ?_ ?_) | extract_lets | with_reducible refine Only.ite ?_ ?_ | split | decide
theorem Only.reviewEnergy {T : List Fld} {a s : State} (h : Only T a s) (hT : [.modes, .ports, .insts, .ctxs, .live, .jrn, .cache, .groups, .ops, .health, .out].all T.contains = true) : Only T a (State.reviewEnergy s) := h.step (State.reviewEnergy_only s) hT
theorem State.report_only (x0 : Nat) (x1 : Nat) (x2 : Nat) (x3 : Nat) (s : State) : Only [.ev] s (State.report x0 x1 x2 x3 s) := by
  have h : Only [.ev] s s := Only.refl _ _
  unfold State.report
  repeat' first | with_reducible assumption | intro _ | with_reducible apply Only.foldl | with_reducible apply Only.foldl_snd | (with_reducible apply Only.upd_ev; first | with_reducible assumption | with_reducible apply Only.foldl | with_reducible apply Only.foldl_snd | with_reducible refine Only.ite ?_ ?_) | extract_lets | with_reducible refine Only.ite ?_ ?_ | split | decide
theorem Only.report {T : List Fld} {a s : State} (h : Only T a s) (hT : [.ev].all T.contains = true) (x0 : Nat) (x1 : Nat) (x2 : Nat) (x3 : Nat) : Only T a (State.report x0 x1 x2 x3 s) := h.step (State.report_only x0 x1 x2 x3 s) hT
theorem State.sensorFails_only (x0 : Nat) (x1 : Nat) (s : State) : Only [.pw, .ev] s (State.sensorFails x0 x1 s) := by
  have h : Only [.pw, .ev] s s := Only.refl _ _
  unfold State.sensorFails
  repeat' first | with_reducible assumption | intro _ | with_reducible apply Only.report | with_reducible apply Only.modPw | with_reducible apply Only.foldl | with_reducible apply Only.foldl_snd | extract_lets | with_reducible refine Only.ite ?_ ?_ | split | decide
theorem Only.sensorFails {T : List Fld} {a s : State} (h : Only T a s) (hT : [.pw, .ev].all T.contains = true) (x0 : Nat) (x1 : Nat) : Only T a (State.sensorFails x0 x1 s) := h.step (State.sensorFails_only x0 x1 s) hT
theorem State.readSensor_only (x0 : Bool) (x1 : Reading) (s : State) : Only [.pw, .ev] s (State.readSensor x0 x1 s) := by
  have h : Only [.pw, .ev] s s := Only.refl _ _
  unfold State.readSensor
  repeat' first | with_reducible assumption | intro _ | with_reducible apply Only.modPw | with_reducible apply Only.sensorFails | with_reducible apply Only.foldl | with_reducible apply Only.foldl_snd | extract_lets | with_reducible refine Only.ite ?_ ?_ | split | decide
theorem Only.readSensor {T : List Fld} {a s : State} (h : Only T a s) (hT : [.pw, .ev].all T.contains = true) (x0 : Bool) (x1 : Reading) : Only T a (State.readSensor x0 x1 s) := h.step (State.readSensor_only x0 x1 s) hT
theorem State.setLevel_only (x0 : Nat) (x1 : Int) (x2 : Nat) (s : State) : Only [.pw, .ev] s (State.setLevel x0 x1 x2 s) := by
  have h : Only [.pw, .ev] s s := Only.refl _ _
  unfold State.setLevel
  repeat' first | with_reducible assumption | intro _ | with_reducible apply Only.modPw | with_reducible apply Only.report | with_reducible apply Only.foldl | with_reducible apply Only.foldl_snd | extract_lets | with_reducible refine Only.ite ?_ ?_ | split | decide
theorem Only.setLevel {T : List Fld} {a s : State} (h : Only T a s) (hT : [.pw, .ev].all T.contains = true) (x0 : Nat) (x1 : Int) (x2 : Nat) : Only T a (State.setLevel x0 x1 x2 s) := h.step (State.setLevel_only x0 x1 x2 s) hT
theorem State.settleZone_only (x0 : Nat) (s : State) : Only [.pw, .ev] s (State.settleZone x0 s) := by
  have h : Only [.pw, .ev] s s := Only.refl _ _
  unfold State.settleZone
  repeat' first | with_reducible assumption | intro _ | with_reducible apply Only.setLevel | with_reducible apply Only.foldl | with_reducible apply Only.foldl_snd | extract_lets | with_reducible refine Only.ite ?_ ?_ | split | decide | dsimp +zetaDelta only
theorem Only.settleZone {T : List Fld} {a s : State} (h : Only T a s) (hT : [.pw, .ev].all T.contains = true) (x0 : Nat) : Only T a (State.settleZone x0 s) := h.step (State.settleZone_only x0 s) hT
theorem State.settlePod_only (x0 : Nat) (s : State) : Only [.pw, .ev] s (State.settlePod x0 s) := by
  have h : Only [.pw, .ev] s s := Only.refl _ _
  unfold State.settlePod
  repeat' first | with_reducible assumption | intro _ | with_reducible apply Only.setLevel | with_reducible apply Only.foldl | with_reducible apply Only.foldl_snd | extract_lets | with_reducible refine Only.ite ?_ ?_ | split | decide
theorem Only.settlePod {T : List Fld} {a s : State} (h : Only T a s) (hT : [.pw, .ev].all T.contains = true) (x0 : Nat) : Only T a (State.settlePod x0 s) := h.step (State.settlePod_only x0 s) hT
theorem State.setComposite_only (s : State) : Only [.pw] s (State.setComposite s) := by
  have h : Only [.pw] s s := Only.refl _ _
  unfold State.setComposite
  repeat' first | with_reducible assumption | intro _ | with_reducible apply Only.modPw | with_reducible apply Only.foldl | with_reducible apply Only.foldl_snd | extract_lets | with_reducible refine Only.ite ?_ ?_ | split | decide
theorem Only.setComposite {T : List Fld} {a s : State} (h : Only T a s) (hT : [.pw].all T.contains = true) : Only T a (State.setComposite s) := h.step (State.setComposite_only s) hT
theorem State.takeSample_only (x0 : Sample) (s : State) : Only [.modes, .pw, .ports, .insts, .ctxs, .live, .jrn, .cache, .groups, .ops, .ev, .health, .out] s (State.takeSample x0 s) := by
  have h : Only [.modes, .pw, .ports, .insts, .ctxs, .live, .jrn, .cache, .groups, .ops, .ev, .health, .out] s s := Only.refl _ _
  unfold State.takeSample
  repeat' first | with_reducible assumption | intro _ | with_reducible apply Only.modPw | with_reducible apply Only.setLimit | with_reducible apply Only.reviewEnergy | with_reducible apply Only.readSensor | with_reducible apply Only.each | with_reducible apply Only.settleZone | with_reducible apply Only.settlePod | with_reducible apply Only.setComposite | with_reducible apply Only.foldl | with_reducible apply Only.foldl_snd | extract_lets | with_reducible refine Only.ite ?_ ?_ | split | decide
theorem Only.takeSample {T : List Fld} {a s : State} (h : Only T a s) (hT : [.modes, .pw, .ports, .insts, .ctxs, .live, .jrn, .cache, .groups, .ops, .ev, .health, .out].all T.contains = true) (x0 : Sample) : Only T a (State.takeSample x0 s) := h.step (State.takeSample_only x0 s) hT
theorem State.modPod_only (x0 : Nat) (x1 : Pod → Pod) (s : State) : Only [.pods] s (State.modPod x0 x1 s) := by
  have h : Only [.pods] s s := Only.refl _ _
  unfold State.modPod
  repeat' first | with_reducible assumption | intro _ | with_reducible apply Only.foldl | with_reducible apply Only.foldl_snd | (with_reducible apply Only.upd_pods; first | with_reducible assumption | with_reducible apply Only.foldl | with_reducible apply Only.foldl_snd | with_reducible refine Only.ite ?_ ?_) | extract_lets | with_reducible refine Only.ite ?_ ?_ | split | decide
theorem Only.modPod {T : List Fld} {a s : State} (h : Only T a s) (hT : [.pods].all T.contains = true) (x0 : Nat) (x1 : Pod → Pod) : Only T a (State.modPod x0 x1 s) := h.step (State.modPod_only x0 x1 s) hT
theorem State.podOff_only (x0 : Nat) (s : State) : Only [.pods, .out] s (State.podOff x0 s) := by
  have h : Only [.pods, .out] s s := Only.refl _ _
  unfold State.podOff
  repeat' first | with_reducible assumption | intro _ | with_reducible apply Only.modPod | with_reducible apply Only.emit | with_reducible apply Only.foldl | with_reducible apply Only.foldl_snd | extract_lets | with_reducible refine Only.ite ?_ ?_ | split | decide
theorem Only.podOff {T : List Fld} {a s : State} (h : Only T a s) (hT : [.pods, .out].all T.contains = true) (x0 : Nat) : Only T a (State.podOff x0 s) := h.step (State.podOff_only x0 s) hT
theorem State.podsOff_only (s : State) : Only [.pw, .pods, .out] s (State.podsOff s) := by
  have h : Only [.pw, .pods, .out] s s := Only.refl _ _
  unfold State.podsOff
  repeat' first | with_reducible assumption | intro _ | with_reducible apply Only.modPw | with_reducible apply Only.each | with_reducible apply Only.podOff | with_reducible apply Only.foldl | with_reducible apply Only.foldl_snd | extract_lets | with_reducible refine Only.ite ?_ ?_ | split | decide
theorem Only.podsOff {T : List Fld} {a s : State} (h : Only T a s) (hT : [.pw, .pods, .out].all T.contains = true) : Only T a (State.podsOff s) := h.step (State.podsOff_only s) hT
theorem State.enterSafe_only (x0 : Nat) (s : State) : Only [.modes, .pw, .part, .ports, .insts, .pods, .stops, .out] s (State.enterSafe x0 s) := by
  have h : Only [.modes, .pw, .part, .ports, .insts, .pods, .stops, .out] s s := Only.refl _ _
  unfold State.enterSafe
  repeat' first | with_reducible assumption | intro _ | with_reducible apply Only.podsOff | with_reducible apply Only.modModes | with_reducible apply Only.allPorts | with_reducible apply Only.modPort | with_reducible apply Only.foldl | with_reducible apply Only.foldl_snd | (with_reducible apply Only.upd_pw_part_insts_stops; first | with_reducible assumption | with_reducible apply Only.podsOff | with_reducible apply Only.modModes | with_reducible apply Only.allPorts | with_reducible apply Only.modPort | with_reducible apply Only.foldl | with_reducible apply Only.foldl_snd | with_reducible refine Only.ite ?_ ?_) | extract_lets | with_reducible refine Only.ite ?_ ?_ | split | decide
theorem Only.enterSafe {T : List Fld} {a s : State} (h : Only T a s) (hT : [.modes, .pw, .part, .ports, .insts, .pods, .stops, .out].all T.contains = true) (x0 : Nat) : Only T a (State.enterSafe x0 s) := h.step (State.enterSafe_only x0 s) hT
theorem State.setDuty_only (s : State) : Only [.chanters] s (State.setDuty s) := by
  have h : Only [.chanters] s s := Only.refl _ _
  unfold State.setDuty
  repeat' first | with_reducible assumption | intro _ | with_reducible apply Only.foldl | with_reducible apply Only.foldl_snd | (with_reducible apply Only.upd_chanters; first | with_reducible assumption | with_reducible apply Only.foldl | with_reducible apply Only.foldl_snd | with_reducible refine Only.ite ?_ ?_) | extract_lets | with_reducible refine Only.ite ?_ ?_ | split | decide
theorem Only.setDuty {T : List Fld} {a s : State} (h : Only T a s) (hT : [.chanters].all T.contains = true) : Only T a (State.setDuty s) := h.step (State.setDuty_only s) hT
theorem State.setMute_only (x0 : Nat) (s : State) : Only [.modes, .pw, .ports, .insts, .ctxs, .ev, .out] s (State.setMute x0 s) := by
  have h : Only [.modes, .pw, .ports, .insts, .ctxs, .ev, .out] s s := Only.refl _ _
  unfold State.setMute
  repeat' first | with_reducible assumption | intro _ | with_reducible apply Only.allPorts | with_reducible apply Only.modPort | with_reducible apply Only.modPw | with_reducible apply Only.report | with_reducible apply Only.setDegrade | with_reducible apply Only.postVendor | with_reducible apply Only.foldl | with_reducible apply Only.foldl_snd | extract_lets | with_reducible refine Only.ite ?_ ?_ | split | decide
theorem Only.setMute {T : List Fld} {a s : State} (h : Only T a s) (hT : [.modes, .pw, .ports, .insts, .ctxs, .ev, .out].all T.contains = true) (x0 : Nat) : Only T a (State.setMute x0 s) := h.step (State.setMute_only x0 s) hT
theorem State.reviewMute_only (s : State) : Only [.modes, .pw, .ports, .insts, .ctxs, .chanters, .ev, .out] s (State.reviewMute s) := by
  have h : Only [.modes, .pw, .ports, .insts, .ctxs, .chanters, .ev, .out] s s := Only.refl _ _
  unfold State.reviewMute
  repeat' first | with_reducible assumption | intro _ | with_reducible apply Only.modPw | with_reducible apply Only.setDuty | with_reducible apply Only.setMute | with_reducible apply Only.foldl | with_reducible apply Only.foldl_snd | extract_lets | with_reducible refine Only.ite ?_ ?_ | split | decide
theorem Only.reviewMute {T : List Fld} {a s : State} (h : Only T a s) (hT : [.modes, .pw, .ports, .insts, .ctxs, .chanters, .ev, .out].all T.contains = true) : Only T a (State.reviewMute s) := h.step (State.reviewMute_only s) hT
theorem State.setStep_only (x0 : Nat) (s : State) : Only [.modes] s (State.setStep x0 s) := by
  have h : Only [.modes] s s := Only.refl _ _
  unfold State.setStep
  repeat' first | with_reducible assumption | intro _ | with_reducible apply Only.modModes | with_reducible apply Only.foldl | with_reducible apply Only.foldl_snd | extract_lets | with_reducible refine Only.ite ?_ ?_ | split | decide
theorem Only.setStep {T : List Fld} {a s : State} (h : Only T a s) (hT : [.modes].all T.contains = true) (x0 : Nat) : Only T a (State.setStep x0 s) := h.step (State.setStep_only x0 s) hT
theorem State.modStop_only (x0 : Nat) (x1 : Stop → Stop) (s : State) : Only [.stops] s (State.modStop x0 x1 s) := by
  have h : Only [.stops] s s := Only.refl _ _
  unfold State.modStop
  repeat' first | with_reducible assumption | intro _ | with_reducible apply Only.foldl | with_reducible apply Only.foldl_snd | (with_reducible apply Only.upd_stops; first | with_reducible assumption | with_reducible apply Only.foldl | with_reducible apply Only.foldl_snd | with_reducible refine Only.ite ?_ ?_) | extract_lets | with_reducible refine Only.ite ?_ ?_ | split | decide
theorem Only.modStop {T : List Fld} {a s : State} (h : Only T a s) (hT : [.stops].all T.contains = true) (x0 : Nat) (x1 : Stop → Stop) : Only T a (State.modStop x0 x1 s) := h.step (State.modStop_only x0 x1 s) hT
theorem State.endTag_only (x0 : Nat) (x1 : Nat) (s : State) : Only [.stops] s (State.endTag x0 x1 s) := by
  have h : Only [.stops] s s := Only.refl _ _
  unfold State.endTag
  repeat' first | with_reducible assumption | intro _ | with_reducible apply Only.modStop | with_reducible apply Only.foldl | with_reducible apply Only.foldl_snd | extract_lets | with_reducible refine Only.ite ?_ ?_ | split | decide
theorem Only.endTag {T : List Fld} {a s : State} (h : Only T a s) (hT : [.stops].all T.contains = true) (x0 : Nat) (x1 : Nat) : Only T a (State.endTag x0 x1 s) := h.step (State.endTag_only x0 x1 s) hT
theorem State.lateDiscard_only (x0 : Nat) (x1 : Nat) (s : State) : Only [.insts] s (State.lateDiscard x0 x1 s) := by
  have h : Only [.insts] s s := Only.refl _ _
  unfold State.lateDiscard
  repeat' first | with_reducible assumption | intro _ | with_reducible apply Only.modInst | with_reducible apply Only.foldl | with_reducible apply Only.foldl_snd | extract_lets | with_reducible refine Only.ite ?_ ?_ | split | decide
theorem Only.lateDiscard {T : List Fld} {a s : State} (h : Only T a s) (hT : [.insts].all T.contains = true) (x0 : Nat) (x1 : Nat) : Only T a (State.lateDiscard x0 x1 s) := h.step (State.lateDiscard_only x0 x1 s) hT
theorem State.modJrn_only (x0 : Journal → Journal) (s : State) : Only [.jrn] s (State.modJrn x0 s) := by
  have h : Only [.jrn] s s := Only.refl _ _
  unfold State.modJrn
  repeat' first | with_reducible assumption | intro _ | with_reducible apply Only.foldl | with_reducible apply Only.foldl_snd | (with_reducible apply Only.upd_jrn; first | with_reducible assumption | with_reducible apply Only.foldl | with_reducible apply Only.foldl_snd | with_reducible refine Only.ite ?_ ?_) | extract_lets | with_reducible refine Only.ite ?_ ?_ | split | decide
theorem Only.modJrn {T : List Fld} {a s : State} (h : Only T a s) (hT : [.jrn].all T.contains = true) (x0 : Journal → Journal) : Only T a (State.modJrn x0 s) := h.step (State.modJrn_only x0 s) hT
theorem State.modChan_only (x0 : Nat) (x1 : Chan → Chan) (s : State) : Only [.chans] s (State.modChan x0 x1 s) := by
  have h : Only [.chans] s s := Only.refl _ _
  unfold State.modChan
  repeat' first | with_reducible assumption | intro _ | with_reducible apply Only.foldl | with_reducible apply Only.foldl_snd | (with_reducible apply Only.upd_chans; first | with_reducible assumption | with_reducible apply Only.foldl | with_reducible apply Only.foldl_snd | with_reducible refine Only.ite ?_ ?_) | extract_lets | with_reducible refine Only.ite ?_ ?_ | split | decide
theorem Only.modChan {T : List Fld} {a s : State} (h : Only T a s) (hT : [.chans].all T.contains = true) (x0 : Nat) (x1 : Chan → Chan) : Only T a (State.modChan x0 x1 s) := h.step (State.modChan_only x0 x1 s) hT
theorem State.updChan_only (x0 : Nat) (x1 : Chan → Chan) (s : State) : Only [.chans, .out] s (State.updChan x0 x1 s) := by
  have h : Only [.chans, .out] s s := Only.refl _ _
  unfold State.updChan
  repeat' first | with_reducible assumption | intro _ | with_reducible apply Only.modChan | with_reducible apply Only.emit | with_reducible apply Only.foldl | with_reducible apply Only.foldl_snd | extract_lets | with_reducible refine Only.ite ?_ ?_ | split | decide
theorem Only.updChan {T : List Fld} {a s : State} (h : Only T a s) (hT : [.chans, .out].all T.contains = true) (x0 : Nat) (x1 : Chan → Chan) : Only T a (State.updChan x0 x1 s) := h.step (State.updChan_only x0 x1 s) hT
theorem State.moverDone_only (x0 : Nat) (x1 : Nat) (x2 : Status) (x3 : List Byte) (s : State) : Only [.chans, .out] s (State.moverDone x0 x1 x2 x3 s) := by
  have h : Only [.chans, .out] s s := Only.refl _ _
  unfold State.moverDone
  repeat' first | with_reducible assumption | intro _ | with_reducible apply Only.updChan | with_reducible apply Only.foldl | with_reducible apply Only.foldl_snd | extract_lets | with_reducible refine Only.ite ?_ ?_ | split | decide
theorem Only.moverDone {T : List Fld} {a s : State} (h : Only T a s) (hT : [.chans, .out].all T.contains = true) (x0 : Nat) (x1 : Nat) (x2 : Status) (x3 : List Byte) : Only T a (State.moverDone x0 x1 x2 x3 s) := h.step (State.moverDone_only x0 x1 x2 x3 s) hT
theorem State.modHealth_only (x0 : Health → Health) (s : State) : Only [.health] s (State.modHealth x0 s) := by
  have h : Only [.health] s s := Only.refl _ _
  unfold State.modHealth
  repeat' first | with_reducible assumption | intro _ | with_reducible apply Only.foldl | with_reducible apply Only.foldl_snd | (with_reducible apply Only.upd_health; first | with_reducible assumption | with_reducible apply Only.foldl | with_reducible apply Only.foldl_snd | with_reducible refine Only.ite ?_ ?_) | extract_lets | with_reducible refine Only.ite ?_ ?_ | split | decide
theorem Only.modHealth {T : List Fld} {a s : State} (h : Only T a s) (hT : [.health].all T.contains = true) (x0 : Health → Health) : Only T a (State.modHealth x0 s) := h.step (State.modHealth_only x0 s) hT
theorem State.countIo_only (x0 : Ctx) (x1 : Status) (s : State) : Only [.ports, .insts, .health] s (State.countIo x0 x1 s) := by
  have h : Only [.ports, .insts, .health] s s := Only.refl _ _
  unfold State.countIo
  repeat' first | with_reducible assumption | intro _ | with_reducible apply Only.modInst | with_reducible apply Only.modHealth | with_reducible apply Only.modPort | with_reducible apply Only.foldl | with_reducible apply Only.foldl_snd | extract_lets | with_reducible refine Only.ite ?_ ?_ | split | decide
theorem Only.countIo {T : List Fld} {a s : State} (h : Only T a s) (hT : [.ports, .insts, .health].all T.contains = true) (x0 : Ctx) (x1 : Status) : Only T a (State.countIo x0 x1 s) := h.step (State.countIo_only x0 x1 s) hT
theorem State.finish_only (x0 : Nat) (x1 : Status) (x2 : W32) (s : State) : Only [.ports, .insts, .ctxs, .jrn, .chans, .health, .out] s (State.finish x0 x1 x2 s) := by
  have h : Only [.ports, .insts, .ctxs, .jrn, .chans, .health, .out] s s := Only.refl _ _
  unfold State.finish
  repeat' first | with_reducible assumption | intro _ | with_reducible apply Only.dropCtx | with_reducible apply Only.lateDiscard | with_reducible apply Only.emit | with_reducible apply Only.modJrn | with_reducible apply Only.moverDone | with_reducible apply Only.countIo | with_reducible apply Only.modInst | with_reducible apply Only.writeCqe | with_reducible apply Only.foldl | with_reducible apply Only.foldl_snd | extract_lets | with_reducible refine Only.ite ?_ ?_ | split | decide
theorem Only.finish {T : List Fld} {a s : State} (h : Only T a s) (hT : [.ports, .insts, .ctxs, .jrn, .chans, .health, .out].all T.contains = true) (x0 : Nat) (x1 : Status) (x2 : W32) : Only T a (State.finish x0 x1 x2 s) := h.step (State.finish_only x0 x1 x2 s) hT
theorem State.settleDeletes_only (s : State) : Only [.ports, .insts, .ctxs, .jrn, .chans, .health, .out] s (State.settleDeletes s) := by
  have h : Only [.ports, .insts, .ctxs, .jrn, .chans, .health, .out] s s := Only.refl _ _
  unfold State.settleDeletes
  repeat' first | with_reducible assumption | intro _ | with_reducible apply Only.each | with_reducible apply Only.finish | with_reducible apply Only.modInst | with_reducible apply Only.foldl | with_reducible apply Only.foldl_snd | extract_lets | with_reducible refine Only.ite ?_ ?_ | split | decide
theorem Only.settleDeletes {T : List Fld} {a s : State} (h : Only T a s) (hT : [.ports, .insts, .ctxs, .jrn, .chans, .health, .out].all T.contains = true) : Only T a (State.settleDeletes s) := h.step (State.settleDeletes_only s) hT
theorem State.complete_only (x0 : Nat) (x1 : Status) (x2 : W32) (s : State) : Only [.ports, .insts, .ctxs, .jrn, .chans, .health, .out] s (State.complete x0 x1 x2 s) := by
  have h : Only [.ports, .insts, .ctxs, .jrn, .chans, .health, .out] s s := Only.refl _ _
  unfold State.complete
  repeat' first | with_reducible assumption | intro _ | with_reducible apply Only.settleDeletes | with_reducible apply Only.finish | with_reducible apply Only.foldl | with_reducible apply Only.foldl_snd | extract_lets | with_reducible refine Only.ite ?_ ?_ | split | decide
theorem Only.complete {T : List Fld} {a s : State} (h : Only T a s) (hT : [.ports, .insts, .ctxs, .jrn, .chans, .health, .out].all T.contains = true) (x0 : Nat) (x1 : Status) (x2 : W32) : Only T a (State.complete x0 x1 x2 s) := h.step (State.complete_only x0 x1 x2 s) hT
theorem State.markGone_only (x0 : Nat) (x1 : Nat) (s : State) : Only [.stops] s (State.markGone x0 x1 s) := by
  have h : Only [.stops] s s := Only.refl _ _
  unfold State.markGone
  repeat' first | with_reducible assumption | intro _ | with_reducible apply Only.modStop | with_reducible apply Only.foldl | with_reducible apply Only.foldl_snd | extract_lets | with_reducible refine Only.ite ?_ ?_ | split | decide
theorem Only.markGone {T : List Fld} {a s : State} (h : Only T a s) (hT : [.stops].all T.contains = true) (x0 : Nat) (x1 : Nat) : Only T a (State.markGone x0 x1 s) := h.step (State.markGone_only x0 x1 s) hT
theorem State.settleCmd_only (x0 : Nat) (x1 : StopCmd) (s : State) : Only [.ports, .insts, .ctxs, .jrn, .stops, .chans, .health, .out] s (State.settleCmd x0 x1 s) := by
  have h : Only [.ports, .insts, .ctxs, .jrn, .stops, .chans, .health, .out] s s := Only.refl _ _
  unfold State.settleCmd
  repeat' first | with_reducible assumption | intro _ | with_reducible apply Only.endTag | with_reducible apply Only.modCtx | with_reducible apply Only.complete | with_reducible apply Only.markGone | with_reducible apply Only.foldl | with_reducible apply Only.foldl_snd | extract_lets | with_reducible refine Only.ite ?_ ?_ | split | decide
theorem Only.settleCmd {T : List Fld} {a s : State} (h : Only T a s) (hT : [.ports, .insts, .ctxs, .jrn, .stops, .chans, .health, .out].all T.contains = true) (x0 : Nat) (x1 : StopCmd) : Only T a (State.settleCmd x0 x1 s) := h.step (State.settleCmd_only x0 x1 s) hT
theorem State.haltChan_only (x0 : Nat) (x1 : Nat) (s : State) : Only [.chans, .out] s (State.haltChan x0 x1 s) := by
  have h : Only [.chans, .out] s s := Only.refl _ _
  unfold State.haltChan
  repeat' first | with_reducible assumption | intro _ | with_reducible apply Only.updChan | with_reducible apply Only.foldl | with_reducible apply Only.foldl_snd | extract_lets | with_reducible refine Only.ite ?_ ?_ | split | decide
theorem Only.haltChan {T : List Fld} {a s : State} (h : Only T a s) (hT : [.chans, .out].all T.contains = true) (x0 : Nat) (x1 : Nat) : Only T a (State.haltChan x0 x1 s) := h.step (State.haltChan_only x0 x1 s) hT
theorem State.logInst_only (x0 : Nat) (x1 : DurInst → DurInst) (s : State) : Only [.live, .jrn] s (State.logInst x0 x1 s) := by
  have h : Only [.live, .jrn] s s := Only.refl _ _
  unfold State.logInst
  repeat' first | with_reducible assumption | intro _ | with_reducible apply Only.logRec | with_reducible apply Only.foldl | with_reducible apply Only.foldl_snd | extract_lets | with_reducible refine Only.ite ?_ ?_ | split | decide
theorem Only.logInst {T : List Fld} {a s : State} (h : Only T a s) (hT : [.live, .jrn].all T.contains = true) (x0 : Nat) (x1 : DurInst → DurInst) : Only T a (State.logInst x0 x1 s) := h.step (State.logInst_only x0 x1 s) hT
theorem State.endReads_only (x0 : Nat) (s : State) : Only [.stops, .out] s (State.endReads x0 s) := by
  have h : Only [.stops, .out] s s := Only.refl _ _
  unfold State.endReads
  repeat' first | with_reducible assumption | intro _ | with_reducible apply Only.emit | with_reducible apply Only.modStop | with_reducible apply Only.foldl | with_reducible apply Only.foldl_snd | extract_lets | with_reducible refine Only.ite ?_ ?_ | split | decide
theorem Only.endReads {T : List Fld} {a s : State} (h : Only T a s) (hT : [.stops, .out].all T.contains = true) (x0 : Nat) : Only T a (State.endReads x0 s) := h.step (State.endReads_only x0 s) hT
theorem State.endDrain_only (x0 : Nat) (s : State) : Only [.ports, .insts, .ctxs, .live, .jrn, .stops, .store, .chans, .health, .out] s (State.endDrain x0 s) := by
  have h : Only [.ports, .insts, .ctxs, .live, .jrn, .stops, .store, .chans, .health, .out] s s := Only.refl _ _
  unfold State.endDrain
  repeat' first | with_reducible assumption | intro _ | with_reducible apply Only.settleCmd | with_reducible apply Only.each | with_reducible apply Only.updChan | with_reducible apply Only.haltChan | with_reducible apply Only.logInst | with_reducible apply Only.modStop | with_reducible apply Only.logRec | with_reducible apply Only.endReads | with_reducible apply Only.foldl | with_reducible apply Only.foldl_snd | (with_reducible apply Only.upd_store; first | with_reducible assumption | with_reducible apply Only.settleCmd | with_reducible apply Only.each | with_reducible apply Only.updChan | with_reducible apply Only.haltChan | with_reducible apply Only.logInst | with_reducible apply Only.modStop | with_reducible apply Only.logRec | with_reducible apply Only.endReads | with_reducible apply Only.foldl | with_reducible apply Only.foldl_snd | with_reducible refine Only.ite ?_ ?_) | extract_lets | with_reducible refine Only.ite ?_ ?_ | split | decide
theorem Only.endDrain {T : List Fld} {a s : State} (h : Only T a s) (hT : [.ports, .insts, .ctxs, .live, .jrn, .stops, .store, .chans, .health, .out].all T.contains = true) (x0 : Nat) : Only T a (State.endDrain x0 s) := h.step (State.endDrain_only x0 s) hT
theorem State.startEpoch_only (x0 : Nat) (x1 : StopGoal) (x2 : Option Nat) (s : State) : Only [.stops] s (State.startEpoch x0 x1 x2 s) := by
  have h : Only [.stops] s s := Only.refl _ _
  unfold State.startEpoch
  repeat' first | with_reducible assumption | intro _ | with_reducible apply Only.modStop | with_reducible apply Only.foldl | with_reducible apply Only.foldl_snd | extract_lets | with_reducible refine Only.ite ?_ ?_ | split | decide
theorem Only.startEpoch {T : List Fld} {a s : State} (h : Only T a s) (hT : [.stops].all T.contains = true) (x0 : Nat) (x1 : StopGoal) (x2 : Option Nat) : Only T a (State.startEpoch x0 x1 x2 s) := h.step (State.startEpoch_only x0 x1 x2 s) hT
theorem State.bringStop_only (x0 : Bool) (x1 : Nat) (s : State) : Only [.ports, .insts, .ctxs, .live, .jrn, .stops, .store, .chans, .ev, .health, .out] s (State.bringStop x0 x1 s) := by
  have h : Only [.ports, .insts, .ctxs, .live, .jrn, .stops, .store, .chans, .ev, .health, .out] s s := Only.refl _ _
  unfold State.bringStop
  repeat' first | with_reducible assumption | intro _ | with_reducible apply Only.report | with_reducible apply Only.modStop | with_reducible apply Only.postVendor | with_reducible apply Only.endDrain | with_reducible apply Only.startEpoch | with_reducible apply Only.foldl | with_reducible apply Only.foldl_snd | (with_reducible apply Only.upd_store; first | with_reducible assumption | with_reducible apply Only.report | with_reducible apply Only.modStop | with_reducible apply Only.postVendor | with_reducible apply Only.endDrain | with_reducible apply Only.startEpoch | with_reducible apply Only.foldl | with_reducible apply Only.foldl_snd | with_reducible refine Only.ite ?_ ?_) | extract_lets | with_reducible refine Only.ite ?_ ?_ | split | decide
theorem Only.bringStop {T : List Fld} {a s : State} (h : Only T a s) (hT : [.ports, .insts, .ctxs, .live, .jrn, .stops, .store, .chans, .ev, .health, .out].all T.contains = true) (x0 : Bool) (x1 : Nat) : Only T a (State.bringStop x0 x1 s) := h.step (State.bringStop_only x0 x1 s) hT
theorem State.feedStop_only (x0 : Nat) (x1 : Nat) (x2 : Nat) (x3 : Nat) (x4 : W64) (s : State) : Only [.ctxs, .stops, .out] s (State.feedStop x0 x1 x2 x3 x4 s) := by
  unfold State.feedStop
  split
  · exact .refl _ _
  · dsimp only
    split
    · exact .refl _ _
    · refine Only.each _ _ (fun i t ht => ?_) (((Only.refl _ _).modStop (by decide) _ _).modCtx (by decide) _ _)
      split
      · exact ht
      · exact ht.emit (by decide) _
theorem Only.feedStop {T : List Fld} {a s : State} (h : Only T a s) (hT : [.ctxs, .stops, .out].all T.contains = true) (x0 : Nat) (x1 : Nat) (x2 : Nat) (x3 : Nat) (x4 : W64) : Only T a (State.feedStop x0 x1 x2 x3 x4 s) := h.step (State.feedStop_only x0 x1 x2 x3 x4 s) hT
theorem State.hostWrite_only (x0 : Nat) (x1 : Out) (s : State) : Only [.ports, .out] s (State.hostWrite x0 x1 s) := by
  have h : Only [.ports, .out] s s := Only.refl _ _
  unfold State.hostWrite
  repeat' first | with_reducible assumption | intro _ | with_reducible apply Only.modPort | with_reducible apply Only.emit | with_reducible apply Only.foldl | with_reducible apply Only.foldl_snd | extract_lets | with_reducible refine Only.ite ?_ ?_ | split | decide
theorem Only.hostWrite {T : List Fld} {a s : State} (h : Only T a s) (hT : [.ports, .out].all T.contains = true) (x0 : Nat) (x1 : Out) : Only T a (State.hostWrite x0 x1 s) := h.step (State.hostWrite_only x0 x1 s) hT
theorem State.toTenant_only (x0 : Ctx) (x1 : Out) (s : State) : Only [.ports, .out] s (State.toTenant x0 x1 s) := by
  have h : Only [.ports, .out] s s := Only.refl _ _
  unfold State.toTenant
  repeat' first | with_reducible assumption | intro _ | with_reducible apply Only.hostWrite | with_reducible apply Only.foldl | with_reducible apply Only.foldl_snd | extract_lets | with_reducible refine Only.ite ?_ ?_ | split | decide
theorem Only.toTenant {T : List Fld} {a s : State} (h : Only T a s) (hT : [.ports, .out].all T.contains = true) (x0 : Ctx) (x1 : Out) : Only T a (State.toTenant x0 x1 s) := h.step (State.toTenant_only x0 x1 s) hT
theorem State.finishRead_only (x0 : Nat) (s : State) : Only [.ports, .insts, .ctxs, .jrn, .stops, .chans, .health, .out] s (State.finishRead x0 s) := by
  have h : Only [.ports, .insts, .ctxs, .jrn, .stops, .chans, .health, .out] s s := Only.refl _ _
  unfold State.finishRead
  repeat' first | with_reducible assumption | intro _ | with_reducible apply Only.feedStop | with_reducible apply Only.complete | with_reducible apply Only.modCtx | with_reducible apply Only.toTenant | with_reducible apply Only.foldl | with_reducible apply Only.foldl_snd | extract_lets | with_reducible refine Only.ite ?_ ?_ | split | decide
theorem Only.finishRead {T : List Fld} {a s : State} (h : Only T a s) (hT : [.ports, .insts, .ctxs, .jrn, .stops, .chans, .health, .out].all T.contains = true) (x0 : Nat) : Only T a (State.finishRead x0 s) := h.step (State.finishRead_only x0 s) hT
theorem State.modSlice_only (x0 : Nat) (x1 : Slice → Slice) (s : State) : Only [.mc] s (State.modSlice x0 x1 s) := by
  have h : Only [.mc] s s := Only.refl _ _
  unfold State.modSlice
  repeat' first | with_reducible assumption | intro _ | with_reducible apply Only.foldl | with_reducible apply Only.foldl_snd | (with_reducible apply Only.upd_mc; first | with_reducible assumption | with_reducible apply Only.foldl | with_reducible apply Only.foldl_snd | with_reducible refine Only.ite ?_ ?_) | extract_lets | with_reducible refine Only.ite ?_ ?_ | split | decide
theorem Only.modSlice {T : List Fld} {a s : State} (h : Only T a s) (hT : [.mc].all T.contains = true) (x0 : Nat) (x1 : Slice → Slice) : Only T a (State.modSlice x0 x1 s) := h.step (State.modSlice_only x0 x1 s) hT
theorem State.modMc_only (x0 : MapCache → MapCache) (s : State) : Only [.mc] s (State.modMc x0 s) := by
  have h : Only [.mc] s s := Only.refl _ _
  unfold State.modMc
  repeat' first | with_reducible assumption | intro _ | with_reducible apply Only.foldl | with_reducible apply Only.foldl_snd | (with_reducible apply Only.upd_mc; first | with_reducible assumption | with_reducible apply Only.foldl | with_reducible apply Only.foldl_snd | with_reducible refine Only.ite ?_ ?_) | extract_lets | with_reducible refine Only.ite ?_ ?_ | split | decide
theorem Only.modMc {T : List Fld} {a s : State} (h : Only T a s) (hT : [.mc].all T.contains = true) (x0 : MapCache → MapCache) : Only T a (State.modMc x0 s) := h.step (State.modMc_only x0 s) hT
theorem State.tryLock_only (x0 : Nat) (x1 : Nat) (x2 : Nat) (s : State) : Only [.mc] s (State.tryLock x0 x1 x2 s) := by
  have h : Only [.mc] s s := Only.refl _ _
  unfold State.tryLock
  repeat' first | with_reducible assumption | intro _ | with_reducible apply Only.modMc | with_reducible apply Only.modSlice | with_reducible apply Only.foldl | with_reducible apply Only.foldl_snd | extract_lets | with_reducible refine Only.ite ?_ ?_ | split | decide
theorem Only.tryLock {T : List Fld} {a s : State} (h : Only T a s) (hT : [.mc].all T.contains = true) (x0 : Nat) (x1 : Nat) (x2 : Nat) : Only T a (State.tryLock x0 x1 x2 s) := h.step (State.tryLock_only x0 x1 x2 s) hT
theorem State.accessLock_only (x0 : Nat) (x1 : Nat) (x2 : Nat) (s : State) : Only [.mc] s (State.accessLock x0 x1 x2 s) := by
  have h : Only [.mc] s s := Only.refl _ _
  unfold State.accessLock
  repeat' first | with_reducible assumption | intro _ | with_reducible apply Only.tryLock | with_reducible apply Only.foldl | with_reducible apply Only.foldl_snd | extract_lets | with_reducible refine Only.ite ?_ ?_ | split | decide
theorem Only.accessLock {T : List Fld} {a s : State} (h : Only T a s) (hT : [.mc].all T.contains = true) (x0 : Nat) (x1 : Nat) (x2 : Nat) : Only T a (State.accessLock x0 x1 x2 s) := h.step (State.accessLock_only x0 x1 x2 s) hT
theorem State.hitLine_only (x0 : Nat) (x1 : Nat) (x2 : Nat) (s : State) : Only [.mc] s (State.hitLine x0 x1 x2 s) := by
  have h : Only [.mc] s s := Only.refl _ _
  unfold State.hitLine
  repeat' first | with_reducible assumption | intro _ | with_reducible apply Only.modSlice | with_reducible apply Only.accessLock | with_reducible apply Only.modMc | with_reducible apply Only.foldl | with_reducible apply Only.foldl_snd | extract_lets | with_reducible refine Only.ite ?_ ?_ | split | decide
theorem Only.hitLine {T : List Fld} {a s : State} (h : Only T a s) (hT : [.mc].all T.contains = true) (x0 : Nat) (x1 : Nat) (x2 : Nat) : Only T a (State.hitLine x0 x1 x2 s) := h.step (State.hitLine_only x0 x1 x2 s) hT
theorem State.missLine_only (x0 : Nat) (x1 : Nat) (x2 : Nat) (s : State) : Only [.mc] s (State.missLine x0 x1 x2 s) := by
  have h : Only [.mc] s s := Only.refl _ _
  unfold State.missLine
  repeat' first | with_reducible assumption | intro _ | with_reducible apply Only.modSlice | with_reducible apply Only.foldl | with_reducible apply Only.foldl_snd | extract_lets | with_reducible refine Only.ite ?_ ?_ | split | decide
theorem Only.missLine {T : List Fld} {a s : State} (h : Only T a s) (hT : [.mc].all T.contains = true) (x0 : Nat) (x1 : Nat) (x2 : Nat) : Only T a (State.missLine x0 x1 x2 s) := h.step (State.missLine_only x0 x1 x2 s) hT
theorem State.lookup_only (x0 : Nat) (x1 : Nat) (x2 : Nat) (s : State) : Only [.mc] s (State.lookup x0 x1 x2 s).2 := by
  have h : Only [.mc] s s := Only.refl _ _
  unfold State.lookup
  repeat' first | with_reducible assumption | intro _ | with_reducible apply Only.hitLine | with_reducible apply Only.missLine | with_reducible apply Only.foldl | with_reducible apply Only.foldl_snd | extract_lets | with_reducible refine Only.ite ?_ ?_ | split | decide
theorem Only.lookup {T : List Fld} {a s : State} (h : Only T a s) (hT : [.mc].all T.contains = true) (x0 : Nat) (x1 : Nat) (x2 : Nat) : Only T a (State.lookup x0 x1 x2 s).2 := h.step (State.lookup_only x0 x1 x2 s) hT
theorem Only.lookup_eq {T : List Fld} {a s : State} (h : Only T a s) (hT : [.mc].all T.contains = true) (x0 : Nat) (x1 : Nat) (x2 : Nat) {r t} (e : State.lookup x0 x1 x2 s = (r, t)) : Only T a t := h.step (by have := State.lookup_only x0 x1 x2 s; rw [e] at this; exact this) hT
theorem State.modDie_only (x0 : Nat) (x1 : Die → Die) (s : State) : Only [.dies] s (State.modDie x0 x1 s) := by
  have h : Only [.dies] s s := Only.refl _ _
  unfold State.modDie
  repeat' first | with_reducible assumption | intro _ | with_reducible apply Only.foldl | with_reducible apply Only.foldl_snd | (with_reducible apply Only.upd_dies; first | with_reducible assumption | with_reducible apply Only.foldl | with_reducible apply Only.foldl_snd | with_reducible refine Only.ite ?_ ?_) | extract_lets | with_reducible refine Only.ite ?_ ?_ | split | decide
theorem Only.modDie {T : List Fld} {a s : State} (h : Only T a s) (hT : [.dies].all T.contains = true) (x0 : Nat) (x1 : Die → Die) : Only T a (State.modDie x0 x1 s) := h.step (State.modDie_only x0 x1 s) hT
theorem State.modChanter_only (x0 : Nat) (x1 : Chanter → Chanter) (s : State) : Only [.chanters] s (State.modChanter x0 x1 s) := by
  have h : Only [.chanters] s s := Only.refl _ _
  unfold State.modChanter
  repeat' first | with_reducible assumption | intro _ | with_reducible apply Only.foldl | with_reducible apply Only.foldl_snd | (with_reducible apply Only.upd_chanters; first | with_reducible assumption | with_reducible apply Only.foldl | with_reducible apply Only.foldl_snd | with_reducible refine Only.ite ?_ ?_) | extract_lets | with_reducible refine Only.ite ?_ ?_ | split | decide
theorem Only.modChanter {T : List Fld} {a s : State} (h : Only T a s) (hT : [.chanters].all T.contains = true) (x0 : Nat) (x1 : Chanter → Chanter) : Only T a (State.modChanter x0 x1 s) := h.step (State.modChanter_only x0 x1 s) hT
theorem State.modLine_only (x0 : Nat) (x1 : Nat) (x2 : Line → Line) (s : State) : Only [.lines] s (State.modLine x0 x1 x2 s) := by
  have h : Only [.lines] s s := Only.refl _ _
  unfold State.modLine
  repeat' first | with_reducible assumption | intro _ | with_reducible apply Only.foldl | with_reducible apply Only.foldl_snd | (with_reducible apply Only.upd_lines; first | with_reducible assumption | with_reducible apply Only.foldl | with_reducible apply Only.foldl_snd | with_reducible refine Only.ite ?_ ?_) | extract_lets | with_reducible refine Only.ite ?_ ?_ | split | decide
theorem Only.modLine {T : List Fld} {a s : State} (h : Only T a s) (hT : [.lines].all T.contains = true) (x0 : Nat) (x1 : Nat) (x2 : Line → Line) : Only T a (State.modLine x0 x1 x2 s) := h.step (State.modLine_only x0 x1 x2 s) hT
theorem State.nextNonce_only (s : State) : Only [.jrn] s (State.nextNonce s) := by
  have h : Only [.jrn] s s := Only.refl _ _
  unfold State.nextNonce
  repeat' first | with_reducible assumption | intro _ | with_reducible apply Only.modJrn | with_reducible apply Only.foldl | with_reducible apply Only.foldl_snd | extract_lets | with_reducible refine Only.ite ?_ ?_ | split | decide
theorem Only.nextNonce {T : List Fld} {a s : State} (h : Only T a s) (hT : [.jrn].all T.contains = true) : Only T a (State.nextNonce s) := h.step (State.nextNonce_only s) hT
theorem State.writeT1_only (x0 : Nat) (x1 : Nat) (s : State) : Only [.jrn, .lines] s (State.writeT1 x0 x1 s) := by
  have h : Only [.jrn, .lines] s s := Only.refl _ _
  unfold State.writeT1
  repeat' first | with_reducible assumption | intro _ | with_reducible apply Only.modLine | with_reducible apply Only.nextNonce | with_reducible apply Only.foldl | with_reducible apply Only.foldl_snd | extract_lets | with_reducible refine Only.ite ?_ ?_ | split | decide
theorem Only.writeT1 {T : List Fld} {a s : State} (h : Only T a s) (hT : [.jrn, .lines].all T.contains = true) (x0 : Nat) (x1 : Nat) : Only T a (State.writeT1 x0 x1 s) := h.step (State.writeT1_only x0 x1 s) hT
theorem State.writeBack_only (x0 : Nat) (x1 : Nat) (s : State) : Only [.jrn, .lines, .mc] s (State.writeBack x0 x1 s) := by
  have h : Only [.jrn, .lines, .mc] s s := Only.refl _ _
  unfold State.writeBack
  repeat' first | with_reducible assumption | intro _ | with_reducible apply Only.writeT1 | with_reducible apply Only.modSlice | with_reducible apply Only.foldl | with_reducible apply Only.foldl_snd | extract_lets | with_reducible refine Only.ite ?_ ?_ | split | decide
theorem Only.writeBack {T : List Fld} {a s : State} (h : Only T a s) (hT : [.jrn, .lines, .mc].all T.contains = true) (x0 : Nat) (x1 : Nat) : Only T a (State.writeBack x0 x1 s) := h.step (State.writeBack_only x0 x1 s) hT
theorem State.fill_only (x0 : Nat) (x1 : Nat) (s : State) : Only [.jrn, .lines, .mc] s (State.fill x0 x1 s) := by
  have h : Only [.jrn, .lines, .mc] s s := Only.refl _ _
  unfold State.fill
  repeat' first | with_reducible assumption | intro _ | with_reducible apply Only.writeBack | with_reducible apply Only.modSlice | with_reducible apply Only.tryLock | with_reducible apply Only.modMc | with_reducible apply Only.foldl | with_reducible apply Only.foldl_snd | extract_lets | with_reducible refine Only.ite ?_ ?_ | split | decide
theorem Only.fill {T : List Fld} {a s : State} (h : Only T a s) (hT : [.jrn, .lines, .mc].all T.contains = true) (x0 : Nat) (x1 : Nat) : Only T a (State.fill x0 x1 s) := h.step (State.fill_only x0 x1 s) hT
theorem State.drainChanges_only (x0 : Nat) (x1 : Nat) (s : State) : Only [.jrn, .lines, .mc] s (State.drainChanges x0 x1 s) := by
  induction x1 generalizing s with
  | zero => exact .refl _ _
  | succ f ih =>
    unfold State.drainChanges
    split
    · exact .refl _ _
    · split
      · exact ((Only.refl _ _).writeBack (by decide) ..).step (ih _) (by decide)
      · exact .refl _ _
theorem Only.drainChanges {T : List Fld} {a s : State} (h : Only T a s) (hT : [.jrn, .lines, .mc].all T.contains = true) (x0 : Nat) (x1 : Nat) : Only T a (State.drainChanges x0 x1 s) := h.step (State.drainChanges_only x0 x1 s) hT
theorem State.touchLine_only (x0 : Nat) (x1 : Nat) (x2 : List Nat) (s : State) : Only [.jrn, .lines, .mc] s (State.touchLine x0 x1 x2 s) := by
  have h : Only [.jrn, .lines, .mc] s s := Only.refl _ _
  unfold State.touchLine
  repeat' first | with_reducible assumption | intro _ | with_reducible apply Only.modLine | with_reducible apply Only.fill | with_reducible apply Only.writeT1 | with_reducible apply Only.drainChanges | with_reducible apply Only.modSlice | with_reducible apply Only.foldl | with_reducible apply Only.foldl_snd | extract_lets | with_reducible refine Only.ite ?_ ?_ | split | decide
theorem Only.touchLine {T : List Fld} {a s : State} (h : Only T a s) (hT : [.jrn, .lines, .mc].all T.contains = true) (x0 : Nat) (x1 : Nat) (x2 : List Nat) : Only T a (State.touchLine x0 x1 x2 s) := h.step (State.touchLine_only x0 x1 x2 s) hT
theorem State.setUnit_only (x0 : Nat) (x1 : Nat) (x2 : Rec) (s : State) : Only [.live, .jrn, .lines, .mc] s (State.setUnit x0 x1 x2 s) := by
  have h : Only [.live, .jrn, .lines, .mc] s s := Only.refl _ _
  unfold State.setUnit
  repeat' first | with_reducible assumption | intro _ | with_reducible apply Only.touchLine | with_reducible apply Only.logRec | with_reducible apply Only.foldl | with_reducible apply Only.foldl_snd | extract_lets | with_reducible refine Only.ite ?_ ?_ | split | decide
theorem Only.setUnit {T : List Fld} {a s : State} (h : Only T a s) (hT : [.live, .jrn, .lines, .mc].all T.contains = true) (x0 : Nat) (x1 : Nat) (x2 : Rec) : Only T a (State.setUnit x0 x1 x2 s) := h.step (State.setUnit_only x0 x1 x2 s) hT
theorem State.markUnit_only (x0 : Nat) (x1 : Nat) (s : State) : Only [.live, .jrn, .lines, .mc] s (State.markUnit x0 x1 s) := by
  have h : Only [.live, .jrn, .lines, .mc] s s := Only.refl _ _
  unfold State.markUnit
  repeat' first | with_reducible assumption | intro _ | with_reducible apply Only.setUnit | with_reducible apply Only.foldl | with_reducible apply Only.foldl_snd | extract_lets | with_reducible refine Only.ite ?_ ?_ | split | decide
theorem Only.markUnit {T : List Fld} {a s : State} (h : Only T a s) (hT : [.live, .jrn, .lines, .mc].all T.contains = true) (x0 : Nat) (x1 : Nat) : Only T a (State.markUnit x0 x1 s) := h.step (State.markUnit_only x0 x1 s) hT
theorem State.deferError_only (x0 : Nat) (x1 : Nat) (x2 : Nat) (x3 : Nat) (s : State) : Only [.insts, .ev, .health] s (State.deferError x0 x1 x2 x3 s) := by
  have h : Only [.insts, .ev, .health] s s := Only.refl _ _
  unfold State.deferError
  repeat' first | with_reducible assumption | intro _ | with_reducible apply Only.report | with_reducible apply Only.modHealth | with_reducible apply Only.each | with_reducible apply Only.modInst | with_reducible apply Only.foldl | with_reducible apply Only.foldl_snd | extract_lets | with_reducible refine Only.ite ?_ ?_ | split | decide
theorem Only.deferError {T : List Fld} {a s : State} (h : Only T a s) (hT : [.insts, .ev, .health].all T.contains = true) (x0 : Nat) (x1 : Nat) (x2 : Nat) (x3 : Nat) : Only T a (State.deferError x0 x1 x2 x3 s) := h.step (State.deferError_only x0 x1 x2 x3 s) hT
theorem State.setRun_only (x0 : Nat) (x1 : Nat) (x2 : Nat) (x3 : List Nat) (x4 : MapVal) (s : State) : Only [.live, .jrn, .lines, .mc] s (State.setRun x0 x1 x2 x3 x4 s) := by
  have h : Only [.live, .jrn, .lines, .mc] s s := Only.refl _ _
  unfold State.setRun
  repeat' first | with_reducible assumption | intro _ | with_reducible apply Only.logRec | with_reducible apply Only.each | with_reducible apply Only.touchLine | with_reducible apply Only.foldl | with_reducible apply Only.foldl_snd | extract_lets | with_reducible refine Only.ite ?_ ?_ | split | decide
theorem Only.setRun {T : List Fld} {a s : State} (h : Only T a s) (hT : [.live, .jrn, .lines, .mc].all T.contains = true) (x0 : Nat) (x1 : Nat) (x2 : Nat) (x3 : List Nat) (x4 : MapVal) : Only T a (State.setRun x0 x1 x2 x3 x4 s) := h.step (State.setRun_only x0 x1 x2 x3 x4 s) hT
theorem State.loseLine_only (x0 : Nat) (x1 : Nat) (s : State) : Only [.insts, .live, .jrn, .lines, .mc, .ev, .health] s (State.loseLine x0 x1 s) := by
  have h : Only [.insts, .live, .jrn, .lines, .mc, .ev, .health] s s := Only.refl _ _
  unfold State.loseLine
  repeat' first | with_reducible assumption | intro _ | with_reducible apply Only.each | with_reducible apply Only.deferError | with_reducible apply Only.setRun | with_reducible apply Only.foldl | with_reducible apply Only.foldl_snd | extract_lets | with_reducible refine Only.ite ?_ ?_ | split | decide
theorem Only.loseLine {T : List Fld} {a s : State} (h : Only T a s) (hT : [.insts, .live, .jrn, .lines, .mc, .ev, .health].all T.contains = true) (x0 : Nat) (x1 : Nat) : Only T a (State.loseLine x0 x1 s) := h.step (State.loseLine_only x0 x1 s) hT
theorem State.lostRecords_only (x0 : Nat) (s : State) : Only [.insts, .live, .jrn, .lines, .mc, .ev, .health] s (State.lostRecords x0 s) := by
  have h : Only [.insts, .live, .jrn, .lines, .mc, .ev, .health] s s := Only.refl _ _
  unfold State.lostRecords
  repeat' first | with_reducible assumption | intro _ | with_reducible apply Only.modLine | with_reducible apply Only.loseLine | with_reducible apply Only.foldl | with_reducible apply Only.foldl_snd | extract_lets | with_reducible refine Only.ite ?_ ?_ | split | decide
theorem Only.lostRecords {T : List Fld} {a s : State} (h : Only T a s) (hT : [.insts, .live, .jrn, .lines, .mc, .ev, .health].all T.contains = true) (x0 : Nat) : Only T a (State.lostRecords x0 s) := h.step (State.lostRecords_only x0 s) hT
theorem State.leaveStop_only (x0 : Nat) (s : State) : Only [.stops, .out] s (State.leaveStop x0 s) := by
  have h : Only [.stops, .out] s s := Only.refl _ _
  unfold State.leaveStop
  repeat' first | with_reducible assumption | intro _ | with_reducible apply Only.markGone | with_reducible apply Only.endTag | with_reducible apply Only.emit | with_reducible apply Only.foldl | with_reducible apply Only.foldl_snd | extract_lets | with_reducible refine Only.ite ?_ ?_ | split | decide
theorem Only.leaveStop {T : List Fld} {a s : State} (h : Only T a s) (hT : [.stops, .out].all T.contains = true) (x0 : Nat) : Only T a (State.leaveStop x0 s) := h.step (State.leaveStop_only x0 s) hT
theorem State.ladderFail_only (x0 : Nat) (x1 : Owner) (x2 : Nat) (s : State) : Only [.ports, .insts, .ctxs, .live, .jrn, .lines, .mc, .dies, .chanters, .stops, .chans, .ev, .health, .out] s (State.ladderFail x0 x1 x2 s) := by
  have h : Only [.ports, .insts, .ctxs, .live, .jrn, .lines, .mc, .dies, .chanters, .stops, .chans, .ev, .health, .out] s s := Only.refl _ _
  unfold State.ladderFail
  repeat' first | with_reducible assumption | intro _ | with_reducible apply Only.modDie | with_reducible apply Only.modChanter | with_reducible apply Only.report | with_reducible apply Only.modHealth | with_reducible apply Only.markUnit | with_reducible apply Only.deferError | with_reducible apply Only.lostRecords | with_reducible apply Only.complete | with_reducible apply Only.leaveStop | with_reducible apply Only.foldl | with_reducible apply Only.foldl_snd | extract_lets | with_reducible refine Only.ite ?_ ?_ | split | decide | dsimp +zetaDelta only
theorem Only.ladderFail {T : List Fld} {a s : State} (h : Only T a s) (hT : [.ports, .insts, .ctxs, .live, .jrn, .lines, .mc, .dies, .chanters, .stops, .chans, .ev, .health, .out].all T.contains = true) (x0 : Nat) (x1 : Owner) (x2 : Nat) : Only T a (State.ladderFail x0 x1 x2 s) := h.step (State.ladderFail_only x0 x1 x2 s) hT
theorem State.startSolve_only (x0 : Nat) (x1 : Owner) (x2 : Bool) (x3 : Nat) (x4 : OpClass) (s : State) : Only [.ports, .insts, .ctxs, .live, .jrn, .lines, .mc, .ops, .solves, .dies, .chanters, .stops, .chans, .ev, .health, .out] s (State.startSolve x0 x1 x2 x3 x4 s) := by
  have h : Only [.ports, .insts, .ctxs, .live, .jrn, .lines, .mc, .ops, .solves, .dies, .chanters, .stops, .chans, .ev, .health, .out] s s := Only.refl _ _
  unfold State.startSolve
  repeat' first | with_reducible assumption | intro _ | with_reducible apply Only.ladderFail | with_reducible apply Only.addOp | with_reducible apply Only.each | with_reducible apply Only.foldl | with_reducible apply Only.foldl_snd | (with_reducible apply Only.upd_solves; first | with_reducible assumption | with_reducible apply Only.ladderFail | with_reducible apply Only.addOp | with_reducible apply Only.each | with_reducible apply Only.foldl | with_reducible apply Only.foldl_snd | with_reducible refine Only.ite ?_ ?_) | extract_lets | with_reducible refine Only.ite ?_ ?_ | split | decide
theorem Only.startSolve {T : List Fld} {a s : State} (h : Only T a s) (hT : [.ports, .insts, .ctxs, .live, .jrn, .lines, .mc, .ops, .solves, .dies, .chanters, .stops, .chans, .ev, .health, .out].all T.contains = true) (x0 : Nat) (x1 : Owner) (x2 : Bool) (x3 : Nat) (x4 : OpClass) : Only T a (State.startSolve x0 x1 x2 x3 x4 s) := h.step (State.startSolve_only x0 x1 x2 x3 x4 s) hT
theorem State.queueRead_only (x0 : Nat) (x1 : Owner) (x2 : Nat) (x3 : OpClass) (s : State) : Only [.ports, .insts, .ctxs, .live, .jrn, .lines, .mc, .ops, .solves, .dies, .chanters, .stops, .chans, .ev, .health, .out] s (State.queueRead x0 x1 x2 x3 s) := by
  have h : Only [.ports, .insts, .ctxs, .live, .jrn, .lines, .mc, .ops, .solves, .dies, .chanters, .stops, .chans, .ev, .health, .out] s s := Only.refl _ _
  unfold State.queueRead
  repeat' first | with_reducible assumption | intro _ | with_reducible apply Only.startSolve | with_reducible apply Only.addOp | with_reducible apply Only.foldl | with_reducible apply Only.foldl_snd | extract_lets | with_reducible refine Only.ite ?_ ?_ | split | decide
theorem Only.queueRead {T : List Fld} {a s : State} (h : Only T a s) (hT : [.ports, .insts, .ctxs, .live, .jrn, .lines, .mc, .ops, .solves, .dies, .chanters, .stops, .chans, .ev, .health, .out].all T.contains = true) (x0 : Nat) (x1 : Owner) (x2 : Nat) (x3 : OpClass) : Only T a (State.queueRead x0 x1 x2 x3 s) := h.step (State.queueRead_only x0 x1 x2 x3 s) hT
theorem State.serveUnit_only (x0 : Nat) (x1 : Nat) (s : State) : Only [.ports, .insts, .ctxs, .live, .jrn, .lines, .mc, .ops, .solves, .dies, .chanters, .stops, .chans, .ev, .health, .out] s (State.serveUnit x0 x1 s) := by
  have h : Only [.ports, .insts, .ctxs, .live, .jrn, .lines, .mc, .ops, .solves, .dies, .chanters, .stops, .chans, .ev, .health, .out] s s := Only.refl _ _
  unfold State.serveUnit
  repeat' first | with_reducible assumption | intro _ | refine Only.lookup_eq (h := ?_) (hT := by decide) (e := by with_reducible assumption) .. | with_reducible apply Only.lookup | with_reducible apply Only.complete | with_reducible apply Only.modCtx | with_reducible apply Only.each | with_reducible apply Only.queueRead | with_reducible apply Only.foldl | with_reducible apply Only.foldl_snd | extract_lets | with_reducible refine Only.ite ?_ ?_ | split | decide | dsimp +zetaDelta only
theorem Only.serveUnit {T : List Fld} {a s : State} (h : Only T a s) (hT : [.ports, .insts, .ctxs, .live, .jrn, .lines, .mc, .ops, .solves, .dies, .chanters, .stops, .chans, .ev, .health, .out].all T.contains = true) (x0 : Nat) (x1 : Nat) : Only T a (State.serveUnit x0 x1 s) := h.step (State.serveUnit_only x0 x1 s) hT
theorem State.serveRead_only (x0 : Nat) (s : State) : Only [.ports, .insts, .ctxs, .live, .jrn, .lines, .mc, .ops, .solves, .dies, .chanters, .stops, .chans, .ev, .health, .out] s (State.serveRead x0 s) := by
  have h : Only [.ports, .insts, .ctxs, .live, .jrn, .lines, .mc, .ops, .solves, .dies, .chanters, .stops, .chans, .ev, .health, .out] s s := Only.refl _ _
  unfold State.serveRead
  repeat' first | with_reducible assumption | intro _ | with_reducible apply Only.finishRead | with_reducible apply Only.each | with_reducible apply Only.serveUnit | with_reducible apply Only.foldl | with_reducible apply Only.foldl_snd | extract_lets | with_reducible refine Only.ite ?_ ?_ | split | decide
theorem Only.serveRead {T : List Fld} {a s : State} (h : Only T a s) (hT : [.ports, .insts, .ctxs, .live, .jrn, .lines, .mc, .ops, .solves, .dies, .chanters, .stops, .chans, .ev, .health, .out].all T.contains = true) (x0 : Nat) : Only T a (State.serveRead x0 s) := h.step (State.serveRead_only x0 s) hT
theorem State.reportResult_only (s : State) : Only [.ev] s (State.reportResult s) := by
  have h : Only [.ev] s s := Only.refl _ _
  unfold State.reportResult
  repeat' first | with_reducible assumption | intro _ | with_reducible apply Only.report | with_reducible apply Only.foldl | with_reducible apply Only.foldl_snd | extract_lets | with_reducible refine Only.ite ?_ ?_ | split | decide
theorem Only.reportResult {T : List Fld} {a s : State} (h : Only T a s) (hT : [.ev].all T.contains = true) : Only T a (State.reportResult s) := h.step (State.reportResult_only s) hT
theorem State.modPart_only (x0 : Part → Part) (s : State) : Only [.part] s (State.modPart x0 s) := by
  have h : Only [.part] s s := Only.refl _ _
  unfold State.modPart
  repeat' first | with_reducible assumption | intro _ | with_reducible apply Only.foldl | with_reducible apply Only.foldl_snd | (with_reducible apply Only.upd_part; first | with_reducible assumption | with_reducible apply Only.foldl | with_reducible apply Only.foldl_snd | with_reducible refine Only.ite ?_ ?_) | extract_lets | with_reducible refine Only.ite ?_ ?_ | split | decide
theorem Only.modPart {T : List Fld} {a s : State} (h : Only T a s) (hT : [.part].all T.contains = true) (x0 : Part → Part) : Only T a (State.modPart x0 s) := h.step (State.modPart_only x0 s) hT
theorem State.drew_only (s : State) : Only [.free] s (State.drew s) := by
  have h : Only [.free] s s := Only.refl _ _
  unfold State.drew
  repeat' first | with_reducible assumption | intro _ | with_reducible apply Only.foldl | with_reducible apply Only.foldl_snd | (with_reducible apply Only.upd_free; first | with_reducible assumption | with_reducible apply Only.foldl | with_reducible apply Only.foldl_snd | with_reducible refine Only.ite ?_ ?_) | extract_lets | with_reducible refine Only.ite ?_ ?_ | split | decide
theorem Only.drew {T : List Fld} {a s : State} (h : Only T a s) (hT : [.free].all T.contains = true) : Only T a (State.drew s) := h.step (State.drew_only s) hT
theorem State.resetUnit_only (x0 : Nat) (x1 : Nat) (x2 : MapVal) (s : State) : Only [.live, .jrn, .lines, .mc] s (State.resetUnit x0 x1 x2 s) := by
  have h : Only [.live, .jrn, .lines, .mc] s s := Only.refl _ _
  unfold State.resetUnit
  repeat' first | with_reducible assumption | intro _ | with_reducible apply Only.setUnit | with_reducible apply Only.foldl | with_reducible apply Only.foldl_snd | extract_lets | with_reducible refine Only.ite ?_ ?_ | split | decide
theorem Only.resetUnit {T : List Fld} {a s : State} (h : Only T a s) (hT : [.live, .jrn, .lines, .mc].all T.contains = true) (x0 : Nat) (x1 : Nat) (x2 : MapVal) : Only T a (State.resetUnit x0 x1 x2 s) := h.step (State.resetUnit_only x0 x1 x2 s) hT
theorem State.keepOld_only (x0 : Nat) (x1 : Nat) (x2 : Nat) (x3 : Nat) (s : State) : Only [.ctxs] s (State.keepOld x0 x1 x2 x3 s) := by
  have h : Only [.ctxs] s s := Only.refl _ _
  unfold State.keepOld
  repeat' first | with_reducible assumption | intro _ | with_reducible apply Only.foldl | with_reducible apply Only.foldl_snd | (with_reducible apply Only.upd_ctxs; first | with_reducible assumption | with_reducible apply Only.foldl | with_reducible apply Only.foldl_snd | with_reducible refine Only.ite ?_ ?_) | extract_lets | with_reducible refine Only.ite ?_ ?_ | split | decide
theorem Only.keepOld {T : List Fld} {a s : State} (h : Only T a s) (hT : [.ctxs].all T.contains = true) (x0 : Nat) (x1 : Nat) (x2 : Nat) (x3 : Nat) : Only T a (State.keepOld x0 x1 x2 x3 s) := h.step (State.keepOld_only x0 x1 x2 x3 s) hT
theorem State.setCodeword_only (x0 : Nat) (x1 : Codeword) (s : State) : Only [.cw] s (State.setCodeword x0 x1 s) := by
  have h : Only [.cw] s s := Only.refl _ _
  unfold State.setCodeword
  repeat' first | with_reducible assumption | intro _ | with_reducible apply Only.foldl | with_reducible apply Only.foldl_snd | (with_reducible apply Only.upd_cw; first | with_reducible assumption | with_reducible apply Only.foldl | with_reducible apply Only.foldl_snd | with_reducible refine Only.ite ?_ ?_) | extract_lets | with_reducible refine Only.ite ?_ ?_ | split | decide
theorem Only.setCodeword {T : List Fld} {a s : State} (h : Only T a s) (hT : [.cw].all T.contains = true) (x0 : Nat) (x1 : Codeword) : Only T a (State.setCodeword x0 x1 s) := h.step (State.setCodeword_only x0 x1 s) hT
theorem State.fillUnit_only (x0 : Ns) (x1 : Nat) (x2 : Placed) (x3 : Nat) (x4 : List (List Byte)) (s : State) : Only [.cw] s (State.fillUnit x0 x1 x2 x3 x4 s) := by
  have h : Only [.cw] s s := Only.refl _ _
  unfold State.fillUnit
  repeat' first | with_reducible assumption | intro _ | with_reducible apply Only.each | with_reducible apply Only.setCodeword | with_reducible apply Only.foldl | with_reducible apply Only.foldl_snd | extract_lets | with_reducible refine Only.ite ?_ ?_ | split | decide
theorem Only.fillUnit {T : List Fld} {a s : State} (h : Only T a s) (hT : [.cw].all T.contains = true) (x0 : Ns) (x1 : Nat) (x2 : Placed) (x3 : Nat) (x4 : List (List Byte)) : Only T a (State.fillUnit x0 x1 x2 x3 x4 s) := h.step (State.fillUnit_only x0 x1 x2 x3 x4 s) hT
theorem State.endWrite_only (x0 : Ctx) (s : State) : Only [.ctxs, .live, .jrn, .lines, .mc, .cw, .free] s (State.endWrite x0 s) := by
  have h : Only [.ctxs, .live, .jrn, .lines, .mc, .cw, .free] s s := Only.refl _ _
  unfold State.endWrite
  repeat' first | with_reducible assumption | intro _ | with_reducible apply Only.drew | with_reducible apply Only.resetUnit | with_reducible apply Only.setUnit | with_reducible apply Only.keepOld | with_reducible apply Only.fillUnit | with_reducible apply Only.foldl | with_reducible apply Only.foldl_snd | extract_lets | with_reducible refine Only.ite ?_ ?_ | split | decide
theorem Only.endWrite {T : List Fld} {a s : State} (h : Only T a s) (hT : [.ctxs, .live, .jrn, .lines, .mc, .cw, .free].all T.contains = true) (x0 : Ctx) : Only T a (State.endWrite x0 s) := h.step (State.endWrite_only x0 s) hT
theorem State.modLink_only (x0 : Nat) (x1 : Link → Link) (s : State) : Only [.links] s (State.modLink x0 x1 s) := by
  have h : Only [.links] s s := Only.refl _ _
  unfold State.modLink
  repeat' first | with_reducible assumption | intro _ | with_reducible apply Only.foldl | with_reducible apply Only.foldl_snd | (with_reducible apply Only.upd_links; first | with_reducible assumption | with_reducible apply Only.foldl | with_reducible apply Only.foldl_snd | with_reducible refine Only.ite ?_ ?_) | extract_lets | with_reducible refine Only.ite ?_ ?_ | split | decide
theorem Only.modLink {T : List Fld} {a s : State} (h : Only T a s) (hT : [.links].all T.contains = true) (x0 : Nat) (x1 : Link → Link) : Only T a (State.modLink x0 x1 s) := h.step (State.modLink_only x0 x1 s) hT
theorem State.sendPod_only (x0 : Nat) (x1 : Nat) (x2 : ToPod) (s : State) : Only [.links, .out] s (State.sendPod x0 x1 x2 s) := by
  have h : Only [.links, .out] s s := Only.refl _ _
  unfold State.sendPod
  repeat' first | with_reducible assumption | intro _ | with_reducible apply Only.modLink | with_reducible apply Only.emit | with_reducible apply Only.foldl | with_reducible apply Only.foldl_snd | extract_lets | with_reducible refine Only.ite ?_ ?_ | split | decide
theorem Only.sendPod {T : List Fld} {a s : State} (h : Only T a s) (hT : [.links, .out].all T.contains = true) (x0 : Nat) (x1 : Nat) (x2 : ToPod) : Only T a (State.sendPod x0 x1 x2 s) := h.step (State.sendPod_only x0 x1 x2 s) hT
theorem State.modOp_only (x0 : Nat) (x1 : Op → Op) (s : State) : Only [.ops] s (State.modOp x0 x1 s) := by
  have h : Only [.ops] s s := Only.refl _ _
  unfold State.modOp
  repeat' first | with_reducible assumption | intro _ | with_reducible apply Only.foldl | with_reducible apply Only.foldl_snd | (with_reducible apply Only.upd_ops; first | with_reducible assumption | with_reducible apply Only.foldl | with_reducible apply Only.foldl_snd | with_reducible refine Only.ite ?_ ?_) | extract_lets | with_reducible refine Only.ite ?_ ?_ | split | decide
theorem Only.modOp {T : List Fld} {a s : State} (h : Only T a s) (hT : [.ops].all T.contains = true) (x0 : Nat) (x1 : Op → Op) : Only T a (State.modOp x0 x1 s) := h.step (State.modOp_only x0 x1 s) hT
theorem State.modKeep_only (x0 : Keep → Keep) (s : State) : Only [.keep] s (State.modKeep x0 s) := by
  have h : Only [.keep] s s := Only.refl _ _
  unfold State.modKeep
  repeat' first | with_reducible assumption | intro _ | with_reducible apply Only.foldl | with_reducible apply Only.foldl_snd | (with_reducible apply Only.upd_keep; first | with_reducible assumption | with_reducible apply Only.foldl | with_reducible apply Only.foldl_snd | with_reducible refine Only.ite ?_ ?_) | extract_lets | with_reducible refine Only.ite ?_ ?_ | split | decide
theorem Only.modKeep {T : List Fld} {a s : State} (h : Only T a s) (hT : [.keep].all T.contains = true) (x0 : Keep → Keep) : Only T a (State.modKeep x0 s) := h.step (State.modKeep_only x0 s) hT
theorem State.keepWrite_only (x0 : Keep → Keep) (s : State) : Only [.part, .keep] s (State.keepWrite x0 s) := by
  have h : Only [.part, .keep] s s := Only.refl _ _
  unfold State.keepWrite
  repeat' first | with_reducible assumption | intro _ | with_reducible apply Only.modPart | with_reducible apply Only.modKeep | with_reducible apply Only.foldl | with_reducible apply Only.foldl_snd | extract_lets | with_reducible refine Only.ite ?_ ?_ | split | decide
theorem Only.keepWrite {T : List Fld} {a s : State} (h : Only T a s) (hT : [.part, .keep].all T.contains = true) (x0 : Keep → Keep) : Only T a (State.keepWrite x0 s) := h.step (State.keepWrite_only x0 s) hT
theorem State.startFlush_only (x0 : FlushWhy) (x1 : Bool) (s : State) : Only [.modes, .pw, .part, .keep, .ctxs, .live, .jrn, .vault, .lines, .mc, .cw, .ops, .solves, .links, .stops, .chans, .free, .out] s (State.startFlush x0 x1 s) := by
  have h : Only [.modes, .pw, .part, .keep, .ctxs, .live, .jrn, .vault, .lines, .mc, .cw, .ops, .solves, .links, .stops, .chans, .free, .out] s s := Only.refl _ _
  unfold State.startFlush
  repeat' first | with_reducible assumption | intro _ | with_reducible apply Only.modModes | with_reducible apply Only.modPw | with_reducible apply Only.endWrite | with_reducible apply Only.sendPod | with_reducible apply Only.modOp | with_reducible apply Only.keepWrite | with_reducible apply Only.foldl | with_reducible apply Only.foldl_snd | (with_reducible apply Only.upd5; first | with_reducible assumption | with_reducible apply Only.modModes | with_reducible apply Only.modPw | with_reducible apply Only.endWrite | with_reducible apply Only.sendPod | with_reducible apply Only.modOp | with_reducible apply Only.keepWrite | with_reducible apply Only.foldl | with_reducible apply Only.foldl_snd | with_reducible refine Only.ite ?_ ?_) | (with_reducible apply Only.upd_vault; first | with_reducible assumption | with_reducible apply Only.modModes | with_reducible apply Only.modPw | with_reducible apply Only.endWrite | with_reducible apply Only.sendPod | with_reducible apply Only.modOp | with_reducible apply Only.keepWrite | with_reducible apply Only.foldl | with_reducible apply Only.foldl_snd | with_reducible refine Only.ite ?_ ?_) | extract_lets | with_reducible refine Only.ite ?_ ?_ | split | decide
theorem Only.startFlush {T : List Fld} {a s : State} (h : Only T a s) (hT : [.modes, .pw, .part, .keep, .ctxs, .live, .jrn, .vault, .lines, .mc, .cw, .ops, .solves, .links, .stops, .chans, .free, .out].all T.contains = true) (x0 : FlushWhy) (x1 : Bool) : Only T a (State.startFlush x0 x1 s) := h.step (State.startFlush_only x0 x1 s) hT
theorem State.refuseUpdate_only (x0 : Nat) (x1 : Nat) (x2 : Status) (s : State) : Only [.part, .keep, .ports, .insts, .ctxs, .jrn, .chans, .health, .out] s (State.refuseUpdate x0 x1 x2 s) := by
  have h : Only [.part, .keep, .ports, .insts, .ctxs, .jrn, .chans, .health, .out] s s := Only.refl _ _
  unfold State.refuseUpdate
  repeat' first | with_reducible assumption | intro _ | with_reducible apply Only.complete | with_reducible apply Only.keepWrite | with_reducible apply Only.foldl | with_reducible apply Only.foldl_snd | extract_lets | with_reducible refine Only.ite ?_ ?_ | split | decide
theorem Only.refuseUpdate {T : List Fld} {a s : State} (h : Only T a s) (hT : [.part, .keep, .ports, .insts, .ctxs, .jrn, .chans, .health, .out].all T.contains = true) (x0 : Nat) (x1 : Nat) (x2 : Status) : Only T a (State.refuseUpdate x0 x1 x2 s) := h.step (State.refuseUpdate_only x0 x1 x2 s) hT
theorem State.heatUp_only (x0 : Nat) (x1 : Nat) (s : State) : Only [.lines] s (State.heatUp x0 x1 s) := by
  have h : Only [.lines] s s := Only.refl _ _
  unfold State.heatUp
  repeat' first | with_reducible assumption | intro _ | with_reducible apply Only.modLine | with_reducible apply Only.foldl | with_reducible apply Only.foldl_snd | extract_lets | with_reducible refine Only.ite ?_ ?_ | split | decide
theorem Only.heatUp {T : List Fld} {a s : State} (h : Only T a s) (hT : [.lines].all T.contains = true) (x0 : Nat) (x1 : Nat) : Only T a (State.heatUp x0 x1 s) := h.step (State.heatUp_only x0 x1 s) hT
theorem State.clearStops_only (x0 : BitVec 16) (x1 : Option Nat) (s : State) : Only [.stops] s (State.clearStops x0 x1 s) := by
  have h : Only [.stops] s s := Only.refl _ _
  unfold State.clearStops
  repeat' first | with_reducible assumption | intro _ | with_reducible apply Only.each | with_reducible apply Only.startEpoch | with_reducible apply Only.foldl | with_reducible apply Only.foldl_snd | extract_lets | with_reducible refine Only.ite ?_ ?_ | split | decide
theorem Only.clearStops {T : List Fld} {a s : State} (h : Only T a s) (hT : [.stops].all T.contains = true) (x0 : BitVec 16) (x1 : Option Nat) : Only T a (State.clearStops x0 x1 s) := h.step (State.clearStops_only x0 x1 s) hT
theorem State.capTrim_only (x0 : Nat) (s : State) : Only [.insts] s (State.capTrim x0 s) := by
  have h : Only [.insts] s s := Only.refl _ _
  unfold State.capTrim
  repeat' first | with_reducible assumption | intro _ | with_reducible apply Only.modInst | with_reducible apply Only.foldl | with_reducible apply Only.foldl_snd | extract_lets | with_reducible refine Only.ite ?_ ?_ | split | decide
theorem Only.capTrim {T : List Fld} {a s : State} (h : Only T a s) (hT : [.insts].all T.contains = true) (x0 : Nat) : Only T a (State.capTrim x0 s) := h.step (State.capTrim_only x0 s) hT
theorem State.recharge_only (x0 : Nat) (s : State) : Only [.ctxs] s (State.recharge x0 s) := by
  have h : Only [.ctxs] s s := Only.refl _ _
  unfold State.recharge
  repeat' first | with_reducible assumption | intro _ | with_reducible apply Only.foldl | with_reducible apply Only.foldl_snd | (with_reducible apply Only.upd_ctxs; first | with_reducible assumption | with_reducible apply Only.foldl | with_reducible apply Only.foldl_snd | with_reducible refine Only.ite ?_ ?_) | extract_lets | with_reducible refine Only.ite ?_ ?_ | split | decide
theorem Only.recharge {T : List Fld} {a s : State} (h : Only T a s) (hT : [.ctxs].all T.contains = true) (x0 : Nat) : Only T a (State.recharge x0 s) := h.step (State.recharge_only x0 s) hT
theorem State.applyChange_only (x0 : Nat) (s : State) : Only [.insts, .ctxs, .live, .jrn, .stops] s (State.applyChange x0 s) := by
  have h : Only [.insts, .ctxs, .live, .jrn, .stops] s s := Only.refl _ _
  unfold State.applyChange
  repeat' first | with_reducible assumption | intro _ | with_reducible apply Only.clearStops | with_reducible apply Only.logInst | with_reducible apply Only.modInst | with_reducible apply Only.capTrim | with_reducible apply Only.recharge | with_reducible apply Only.modCtx | with_reducible apply Only.foldl | with_reducible apply Only.foldl_snd | extract_lets | with_reducible refine Only.ite ?_ ?_ | split | decide
theorem Only.applyChange {T : List Fld} {a s : State} (h : Only T a s) (hT : [.insts, .ctxs, .live, .jrn, .stops].all T.contains = true) (x0 : Nat) : Only T a (State.applyChange x0 s) := h.step (State.applyChange_only x0 s) hT
theorem State.dropOps_only (x0 : Nat) (s : State) : Only [.cache, .ops] s (State.dropOps x0 s) := by
  have h : Only [.cache, .ops] s s := Only.refl _ _
  unfold State.dropOps
  repeat' first | with_reducible assumption | intro _ | with_reducible apply Only.foldl | with_reducible apply Only.foldl_snd | (with_reducible apply Only.upd_cache_ops; first | with_reducible assumption | with_reducible apply Only.foldl | with_reducible apply Only.foldl_snd | with_reducible refine Only.ite ?_ ?_) | extract_lets | with_reducible refine Only.ite ?_ ?_ | split | decide
theorem Only.dropOps {T : List Fld} {a s : State} (h : Only T a s) (hT : [.cache, .ops].all T.contains = true) (x0 : Nat) : Only T a (State.dropOps x0 s) := h.step (State.dropOps_only x0 s) hT
theorem State.undoWrite_only (x0 : Nat) (s : State) : Only [.live, .jrn, .lines, .mc] s (State.undoWrite x0 s) := by
  have h : Only [.live, .jrn, .lines, .mc] s s := Only.refl _ _
  unfold State.undoWrite
  repeat' first | with_reducible assumption | intro _ | with_reducible apply Only.resetUnit | with_reducible apply Only.foldl | with_reducible apply Only.foldl_snd | extract_lets | with_reducible refine Only.ite ?_ ?_ | split | decide
theorem Only.undoWrite {T : List Fld} {a s : State} (h : Only T a s) (hT : [.live, .jrn, .lines, .mc].all T.contains = true) (x0 : Nat) : Only T a (State.undoWrite x0 s) := h.step (State.undoWrite_only x0 s) hT
theorem State.endCaught_only (x0 : Nat) (x1 : Status) (s : State) : Only [.ports, .insts, .ctxs, .live, .jrn, .lines, .mc, .cache, .ops, .stops, .chans, .health, .out] s (State.endCaught x0 x1 s) := by
  have h : Only [.ports, .insts, .ctxs, .live, .jrn, .lines, .mc, .cache, .ops, .stops, .chans, .health, .out] s s := Only.refl _ _
  unfold State.endCaught
  repeat' first | with_reducible assumption | intro _ | with_reducible apply Only.capTrim | with_reducible apply Only.complete | with_reducible apply Only.dropOps | with_reducible apply Only.leaveStop | with_reducible apply Only.undoWrite | with_reducible apply Only.foldl | with_reducible apply Only.foldl_snd | extract_lets | with_reducible refine Only.ite ?_ ?_ | split | decide
theorem Only.endCaught {T : List Fld} {a s : State} (h : Only T a s) (hT : [.ports, .insts, .ctxs, .live, .jrn, .lines, .mc, .cache, .ops, .stops, .chans, .health, .out].all T.contains = true) (x0 : Nat) (x1 : Status) : Only T a (State.endCaught x0 x1 s) := h.step (State.endCaught_only x0 x1 s) hT
theorem State.tryFlush_only (x0 : Nat) (s : State) : Only [.ports, .insts, .ctxs, .jrn, .chans, .health, .out] s (State.tryFlush x0 s) := by
  have h : Only [.ports, .insts, .ctxs, .jrn, .chans, .health, .out] s s := Only.refl _ _
  unfold State.tryFlush
  repeat' first | with_reducible assumption | intro _ | with_reducible apply Only.complete | with_reducible apply Only.foldl | with_reducible apply Only.foldl_snd | extract_lets | with_reducible refine Only.ite ?_ ?_ | split | decide
theorem Only.tryFlush {T : List Fld} {a s : State} (h : Only T a s) (hT : [.ports, .insts, .ctxs, .jrn, .chans, .health, .out].all T.contains = true) (x0 : Nat) : Only T a (State.tryFlush x0 s) := h.step (State.tryFlush_only x0 s) hT
theorem State.lookups_only (x0 : Nat) (x1 : Nat) (x2 : List Nat) (s : State) : Only [.ctxs, .mc] s (State.lookups x0 x1 x2 s).2 := by
  have h : Only [.ctxs, .mc] s s := Only.refl _ _
  unfold State.lookups
  repeat' first | with_reducible assumption | intro _ | refine Only.lookup_eq (h := ?_) (hT := by decide) (e := by with_reducible assumption) .. | with_reducible apply Only.lookup | with_reducible apply Only.modCtx | with_reducible apply Only.foldl | with_reducible apply Only.foldl_snd | extract_lets | with_reducible refine Only.ite ?_ ?_ | split | decide
theorem Only.lookups {T : List Fld} {a s : State} (h : Only T a s) (hT : [.ctxs, .mc].all T.contains = true) (x0 : Nat) (x1 : Nat) (x2 : List Nat) : Only T a (State.lookups x0 x1 x2 s).2 := h.step (State.lookups_only x0 x1 x2 s) hT
theorem Only.lookups_eq {T : List Fld} {a s : State} (h : Only T a s) (hT : [.ctxs, .mc].all T.contains = true) (x0 : Nat) (x1 : Nat) (x2 : List Nat) {r t} (e : State.lookups x0 x1 x2 s = (r, t)) : Only T a t := h.step (by have := State.lookups_only x0 x1 x2 s; rw [e] at this; exact this) hT
theorem State.tryDsm_only (x0 : Nat) (s : State) : Only [.ports, .insts, .ctxs, .live, .jrn, .lines, .mc, .chans, .health, .out] s (State.tryDsm x0 s) := by
  have h : Only [.ports, .insts, .ctxs, .live, .jrn, .lines, .mc, .chans, .health, .out] s s := Only.refl _ _
  unfold State.tryDsm
  repeat' first | with_reducible assumption | intro _ | refine Only.lookups_eq (h := ?_) (hT := by decide) (e := by with_reducible assumption) .. | with_reducible apply Only.lookups | with_reducible apply Only.setRun | with_reducible apply Only.keepOld | with_reducible apply Only.modCtx | with_reducible apply Only.complete | with_reducible apply Only.foldl | with_reducible apply Only.foldl_snd | extract_lets | with_reducible refine Only.ite ?_ ?_ | split | decide
theorem Only.tryDsm {T : List Fld} {a s : State} (h : Only T a s) (hT : [.ports, .insts, .ctxs, .live, .jrn, .lines, .mc, .chans, .health, .out].all T.contains = true) (x0 : Nat) : Only T a (State.tryDsm x0 s) := h.step (State.tryDsm_only x0 s) hT
theorem State.startMerges_only (x0 : Ctx) (x1 : Ns) (s : State) : Only [.ports, .insts, .ctxs, .live, .jrn, .lines, .mc, .ops, .solves, .dies, .chanters, .stops, .chans, .ev, .health, .out] s (State.startMerges x0 x1 s) := by
  have h : Only [.ports, .insts, .ctxs, .live, .jrn, .lines, .mc, .ops, .solves, .dies, .chanters, .stops, .chans, .ev, .health, .out] s s := Only.refl _ _
  unfold State.startMerges
  repeat' first | with_reducible assumption | intro _ | with_reducible apply Only.complete | with_reducible apply Only.modCtx | with_reducible apply Only.each | with_reducible apply Only.queueRead | with_reducible apply Only.foldl | with_reducible apply Only.foldl_snd | extract_lets | with_reducible refine Only.ite ?_ ?_ | split | decide
theorem Only.startMerges {T : List Fld} {a s : State} (h : Only T a s) (hT : [.ports, .insts, .ctxs, .live, .jrn, .lines, .mc, .ops, .solves, .dies, .chanters, .stops, .chans, .ev, .health, .out].all T.contains = true) (x0 : Ctx) (x1 : Ns) : Only T a (State.startMerges x0 x1 s) := h.step (State.startMerges_only x0 x1 s) hT
theorem State.commitMap_only (x0 : Ctx) (x1 : Ns) (s : State) : Only [.ctxs, .live, .jrn, .lines, .mc] s (State.commitMap x0 x1 s) := by
  have h : Only [.ctxs, .live, .jrn, .lines, .mc] s s := Only.refl _ _
  unfold State.commitMap
  repeat' first | with_reducible assumption | intro _ | with_reducible apply Only.setUnit | with_reducible apply Only.keepOld | with_reducible apply Only.setRun | with_reducible apply Only.foldl | with_reducible apply Only.foldl_snd | extract_lets | with_reducible refine Only.ite ?_ ?_ | split | decide
theorem Only.commitMap {T : List Fld} {a s : State} (h : Only T a s) (hT : [.ctxs, .live, .jrn, .lines, .mc].all T.contains = true) (x0 : Ctx) (x1 : Ns) : Only T a (State.commitMap x0 x1 s) := h.step (State.commitMap_only x0 x1 s) hT
theorem State.sealWrite_only (x0 : Ctx) (x1 : Ns) (s : State) : Only [.ctxs, .live, .jrn, .lines, .mc] s (State.sealWrite x0 x1 s) := by
  have h : Only [.ctxs, .live, .jrn, .lines, .mc] s s := Only.refl _ _
  unfold State.sealWrite
  repeat' first | with_reducible assumption | intro _ | with_reducible apply Only.modCtx | with_reducible apply Only.commitMap | with_reducible apply Only.foldl | with_reducible apply Only.foldl_snd | extract_lets | with_reducible refine Only.ite ?_ ?_ | split | decide
theorem Only.sealWrite {T : List Fld} {a s : State} (h : Only T a s) (hT : [.ctxs, .live, .jrn, .lines, .mc].all T.contains = true) (x0 : Ctx) (x1 : Ns) : Only T a (State.sealWrite x0 x1 s) := h.step (State.sealWrite_only x0 x1 s) hT
theorem State.ackWrite_only (x0 : Ctx) (s : State) : Only [.ports, .insts, .ctxs, .jrn, .chans, .health, .out] s (State.ackWrite x0 s) := by
  have h : Only [.ports, .insts, .ctxs, .jrn, .chans, .health, .out] s s := Only.refl _ _
  unfold State.ackWrite
  repeat' first | with_reducible assumption | intro _ | with_reducible apply Only.complete | with_reducible apply Only.modCtx | with_reducible apply Only.foldl | with_reducible apply Only.foldl_snd | extract_lets | with_reducible refine Only.ite ?_ ?_ | split | decide
theorem Only.ackWrite {T : List Fld} {a s : State} (h : Only T a s) (hT : [.ports, .insts, .ctxs, .jrn, .chans, .health, .out].all T.contains = true) (x0 : Ctx) : Only T a (State.ackWrite x0 s) := h.step (State.ackWrite_only x0 s) hT
theorem State.tryWrite_only (x0 : Nat) (s : State) : Only [.ports, .insts, .ctxs, .live, .jrn, .lines, .mc, .cw, .ops, .solves, .dies, .chanters, .stops, .chans, .ev, .health, .out] s (State.tryWrite x0 s) := by
  have h : Only [.ports, .insts, .ctxs, .live, .jrn, .lines, .mc, .cw, .ops, .solves, .dies, .chanters, .stops, .chans, .ev, .health, .out] s s := Only.refl _ _
  unfold State.tryWrite
  repeat' first | with_reducible assumption | intro _ | with_reducible apply Only.startMerges | with_reducible apply Only.fillUnit | with_reducible apply Only.modCtx | refine Only.lookups_eq (h := ?_) (hT := by decide) (e := by with_reducible assumption) .. | with_reducible apply Only.lookups | with_reducible apply Only.sealWrite | with_reducible apply Only.ackWrite | with_reducible apply Only.commitMap | with_reducible apply Only.foldl | with_reducible apply Only.foldl_snd | extract_lets | with_reducible refine Only.ite ?_ ?_ | split | decide
theorem Only.tryWrite {T : List Fld} {a s : State} (h : Only T a s) (hT : [.ports, .insts, .ctxs, .live, .jrn, .lines, .mc, .cw, .ops, .solves, .dies, .chanters, .stops, .chans, .ev, .health, .out].all T.contains = true) (x0 : Nat) : Only T a (State.tryWrite x0 s) := h.step (State.tryWrite_only x0 s) hT
theorem State.retry_only (s : State) : Only [.ports, .insts, .ctxs, .live, .jrn, .lines, .mc, .cw, .ops, .solves, .dies, .chanters, .stops, .chans, .ev, .health, .out] s (State.retry s) := by
  have h : Only [.ports, .insts, .ctxs, .live, .jrn, .lines, .mc, .cw, .ops, .solves, .dies, .chanters, .stops, .chans, .ev, .health, .out] s s := Only.refl _ _
  unfold State.retry
  repeat' first | with_reducible assumption | intro _ | with_reducible apply Only.each | with_reducible apply Only.tryFlush | with_reducible apply Only.tryDsm | with_reducible apply Only.serveRead | with_reducible apply Only.tryWrite | with_reducible apply Only.foldl | with_reducible apply Only.foldl_snd | extract_lets | with_reducible refine Only.ite ?_ ?_ | split | decide
theorem Only.retry {T : List Fld} {a s : State} (h : Only T a s) (hT : [.ports, .insts, .ctxs, .live, .jrn, .lines, .mc, .cw, .ops, .solves, .dies, .chanters, .stops, .chans, .ev, .health, .out].all T.contains = true) : Only T a (State.retry s) := h.step (State.retry_only s) hT
theorem State.isolate_only (x0 : Nat) (x1 : Nat) (s : State) : Only [.ports, .insts, .ctxs, .live, .jrn, .lines, .mc, .cache, .cw, .ops, .solves, .dies, .chanters, .stops, .chans, .ev, .health, .out] s (State.isolate x0 x1 s) := by
  have h : Only [.ports, .insts, .ctxs, .live, .jrn, .lines, .mc, .cache, .cw, .ops, .solves, .dies, .chanters, .stops, .chans, .ev, .health, .out] s s := Only.refl _ _
  unfold State.isolate
  repeat' first | with_reducible assumption | intro _ | with_reducible apply Only.modInst | with_reducible apply Only.applyChange | with_reducible apply Only.each | with_reducible apply Only.endCaught | with_reducible apply Only.modPort | with_reducible apply Only.report | with_reducible apply Only.retry | with_reducible apply Only.postVendor | with_reducible apply Only.foldl | with_reducible apply Only.foldl_snd | extract_lets | with_reducible refine Only.ite ?_ ?_ | split | decide
theorem Only.isolate {T : List Fld} {a s : State} (h : Only T a s) (hT : [.ports, .insts, .ctxs, .live, .jrn, .lines, .mc, .cache, .cw, .ops, .solves, .dies, .chanters, .stops, .chans, .ev, .health, .out].all T.contains = true) (x0 : Nat) (x1 : Nat) : Only T a (State.isolate x0 x1 s) := h.step (State.isolate_only x0 x1 s) hT
theorem State.clearPasid_only (x0 : Nat) (s : State) : Only [.ports, .insts, .ctxs, .live, .jrn, .lines, .mc, .cache, .cw, .ops, .solves, .dies, .chanters, .stops, .chans, .ev, .health, .out] s (State.clearPasid x0 s) := by
  have h : Only [.ports, .insts, .ctxs, .live, .jrn, .lines, .mc, .cache, .cw, .ops, .solves, .dies, .chanters, .stops, .chans, .ev, .health, .out] s s := Only.refl _ _
  unfold State.clearPasid
  repeat' first | with_reducible assumption | intro _ | with_reducible apply Only.modPort | with_reducible apply Only.each | with_reducible apply Only.isolate | with_reducible apply Only.foldl | with_reducible apply Only.foldl_snd | extract_lets | with_reducible refine Only.ite ?_ ?_ | split | decide
theorem Only.clearPasid {T : List Fld} {a s : State} (h : Only T a s) (hT : [.ports, .insts, .ctxs, .live, .jrn, .lines, .mc, .cache, .cw, .ops, .solves, .dies, .chanters, .stops, .chans, .ev, .health, .out].all T.contains = true) (x0 : Nat) : Only T a (State.clearPasid x0 s) := h.step (State.clearPasid_only x0 s) hT
theorem State.mbAnswer_only (x0 : Nat) (x1 : MbHdr) (x2 : Nat) (x3 : Bool) (x4 : List Field) (s : State) : Only [.ports, .insts, .ctxs, .jrn, .chans, .health, .out] s (State.mbAnswer x0 x1 x2 x3 x4 s) := by
  have h : Only [.ports, .insts, .ctxs, .jrn, .chans, .health, .out] s s := Only.refl _ _
  unfold State.mbAnswer
  repeat' first | with_reducible assumption | intro _ | with_reducible apply Only.emit | with_reducible apply Only.complete | with_reducible apply Only.foldl | with_reducible apply Only.foldl_snd | extract_lets | with_reducible refine Only.ite ?_ ?_ | split | decide
theorem Only.mbAnswer {T : List Fld} {a s : State} (h : Only T a s) (hT : [.ports, .insts, .ctxs, .jrn, .chans, .health, .out].all T.contains = true) (x0 : Nat) (x1 : MbHdr) (x2 : Nat) (x3 : Bool) (x4 : List Field) : Only T a (State.mbAnswer x0 x1 x2 x3 x4 s) := h.step (State.mbAnswer_only x0 x1 x2 x3 x4 s) hT
theorem State.postSmart_only (x0 : Nat) (x1 : Nat) (s : State) : Only [.ports, .insts, .ctxs, .out] s (State.postSmart x0 x1 s) := by
  have h : Only [.ports, .insts, .ctxs, .out] s s := Only.refl _ _
  unfold State.postSmart
  repeat' first | with_reducible assumption | intro _ | with_reducible apply Only.allPorts | with_reducible apply Only.postEvent | with_reducible apply Only.foldl | with_reducible apply Only.foldl_snd | extract_lets | with_reducible refine Only.ite ?_ ?_ | split | decide
theorem Only.postSmart {T : List Fld} {a s : State} (h : Only T a s) (hT : [.ports, .insts, .ctxs, .out].all T.contains = true) (x0 : Nat) (x1 : Nat) : Only T a (State.postSmart x0 x1 s) := h.step (State.postSmart_only x0 x1 s) hT
theorem State.healthEvent_only (x0 : Nat) (x1 : Nat) (x2 : Nat) (x3 : Bool) (s : State) : Only [.ports, .insts, .ctxs, .ev, .health, .out] s (State.healthEvent x0 x1 x2 x3 s) := by
  have h : Only [.ports, .insts, .ctxs, .ev, .health, .out] s s := Only.refl _ _
  unfold State.healthEvent
  repeat' first | with_reducible assumption | intro _ | with_reducible apply Only.modHealth | with_reducible apply Only.report | with_reducible apply Only.allPorts | with_reducible apply Only.postOutstanding | with_reducible apply Only.foldl | with_reducible apply Only.foldl_snd | extract_lets | with_reducible refine Only.ite ?_ ?_ | split | decide
theorem Only.healthEvent {T : List Fld} {a s : State} (h : Only T a s) (hT : [.ports, .insts, .ctxs, .ev, .health, .out].all T.contains = true) (x0 : Nat) (x1 : Nat) (x2 : Nat) (x3 : Bool) : Only T a (State.healthEvent x0 x1 x2 x3 s) := h.step (State.healthEvent_only x0 x1 x2 x3 s) hT
theorem State.reviewAvailable_only (s : State) : Only [.ports, .insts, .ctxs, .ev, .health, .out] s (State.reviewAvailable s) := by
  have h : Only [.ports, .insts, .ctxs, .ev, .health, .out] s s := Only.refl _ _
  unfold State.reviewAvailable
  repeat' first | with_reducible assumption | intro _ | with_reducible apply Only.modHealth | with_reducible apply Only.postSmart | with_reducible apply Only.healthEvent | with_reducible apply Only.foldl | with_reducible apply Only.foldl_snd | extract_lets | with_reducible refine Only.ite ?_ ?_ | split | decide
theorem Only.reviewAvailable {T : List Fld} {a s : State} (h : Only T a s) (hT : [.ports, .insts, .ctxs, .ev, .health, .out].all T.contains = true) : Only T a (State.reviewAvailable s) := h.step (State.reviewAvailable_only s) hT
theorem State.reviewSpares_only (s : State) : Only [.modes, .ports, .insts, .ctxs, .out] s (State.reviewSpares s) := by
  have h : Only [.modes, .ports, .insts, .ctxs, .out] s s := Only.refl _ _
  unfold State.reviewSpares
  repeat' first | with_reducible assumption | intro _ | with_reducible apply Only.setDegrade | with_reducible apply Only.foldl | with_reducible apply Only.foldl_snd | extract_lets | with_reducible refine Only.ite ?_ ?_ | split | decide
theorem Only.reviewSpares {T : List Fld} {a s : State} (h : Only T a s) (hT : [.modes, .ports, .insts, .ctxs, .out].all T.contains = true) : Only T a (State.reviewSpares s) := h.step (State.reviewSpares_only s) hT
theorem State.modSpares_only (x0 : Spares → Spares) (s : State) : Only [.spares] s (State.modSpares x0 s) := by
  have h : Only [.spares] s s := Only.refl _ _
  unfold State.modSpares
  repeat' first | with_reducible assumption | intro _ | with_reducible apply Only.foldl | with_reducible apply Only.foldl_snd | (with_reducible apply Only.upd_spares; first | with_reducible assumption | with_reducible apply Only.foldl | with_reducible apply Only.foldl_snd | with_reducible refine Only.ite ?_ ?_) | extract_lets | with_reducible refine Only.ite ?_ ?_ | split | decide
theorem Only.modSpares {T : List Fld} {a s : State} (h : Only T a s) (hT : [.spares].all T.contains = true) (x0 : Spares → Spares) : Only T a (State.modSpares x0 s) := h.step (State.modSpares_only x0 s) hT
theorem State.countPods_only (s : State) : Only [.modes, .spares, .ports, .insts, .ctxs, .out] s (State.countPods s) := by
  have h : Only [.modes, .spares, .ports, .insts, .ctxs, .out] s s := Only.refl _ _
  unfold State.countPods
  repeat' first | with_reducible assumption | intro _ | with_reducible apply Only.reviewSpares | with_reducible apply Only.modSpares | with_reducible apply Only.foldl | with_reducible apply Only.foldl_snd | extract_lets | with_reducible refine Only.ite ?_ ?_ | split | decide
theorem Only.countPods {T : List Fld} {a s : State} (h : Only T a s) (hT : [.modes, .spares, .ports, .insts, .ctxs, .out].all T.contains = true) : Only T a (State.countPods s) := h.step (State.countPods_only s) hT
theorem State.failSparePod_only (x0 : Nat) (x1 : Bool) (s : State) : Only [.modes, .spares, .ports, .insts, .ctxs, .live, .jrn, .ops, .links, .pods, .ev, .health, .out] s (State.failSparePod x0 x1 s) := by
  have h : Only [.modes, .spares, .ports, .insts, .ctxs, .live, .jrn, .ops, .links, .pods, .ev, .health, .out] s s := Only.refl _ _
  unfold State.failSparePod
  repeat' first | with_reducible assumption | intro _ | with_reducible apply Only.modLink | with_reducible apply Only.modPod | with_reducible apply Only.podOff | with_reducible apply Only.logRec | with_reducible apply Only.reviewAvailable | with_reducible apply Only.countPods | with_reducible apply Only.report | with_reducible apply Only.foldl | with_reducible apply Only.foldl_snd | (with_reducible apply Only.upd_ops; first | with_reducible assumption | with_reducible apply Only.modLink | with_reducible apply Only.modPod | with_reducible apply Only.podOff | with_reducible apply Only.logRec | with_reducible apply Only.reviewAvailable | with_reducible apply Only.countPods | with_reducible apply Only.report | with_reducible apply Only.foldl | with_reducible apply Only.foldl_snd | with_reducible refine Only.ite ?_ ?_) | extract_lets | with_reducible refine Only.ite ?_ ?_ | split | decide
theorem Only.failSparePod {T : List Fld} {a s : State} (h : Only T a s) (hT : [.modes, .spares, .ports, .insts, .ctxs, .live, .jrn, .ops, .links, .pods, .ev, .health, .out].all T.contains = true) (x0 : Nat) (x1 : Bool) : Only T a (State.failSparePod x0 x1 s) := h.step (State.failSparePod_only x0 x1 s) hT
theorem State.unarmVault_only (x0 : Nat) (x1 : Nat → Bool) (s : State) : Only [.cache] s (State.unarmVault x0 x1 s) := by
  have h : Only [.cache] s s := Only.refl _ _
  unfold State.unarmVault
  repeat' first | with_reducible assumption | intro _ | with_reducible apply Only.modCache | with_reducible apply Only.foldl | with_reducible apply Only.foldl_snd | extract_lets | with_reducible refine Only.ite ?_ ?_ | split | decide
theorem Only.unarmVault {T : List Fld} {a s : State} (h : Only T a s) (hT : [.cache].all T.contains = true) (x0 : Nat) (x1 : Nat → Bool) : Only T a (State.unarmVault x0 x1 s) := h.step (State.unarmVault_only x0 x1 s) hT
theorem State.reviewEngines_only (x0 : Nat) (s : State) : Only [.spares, .ev] s (State.reviewEngines x0 s) := by
  have h : Only [.spares, .ev] s s := Only.refl _ _
  unfold State.reviewEngines
  repeat' first | with_reducible assumption | intro _ | with_reducible apply Only.report | with_reducible apply Only.modSpares | with_reducible apply Only.foldl | with_reducible apply Only.foldl_snd | extract_lets | with_reducible refine Only.ite ?_ ?_ | split | decide
theorem Only.reviewEngines {T : List Fld} {a s : State} (h : Only T a s) (hT : [.spares, .ev].all T.contains = true) (x0 : Nat) : Only T a (State.reviewEngines x0 s) := h.step (State.reviewEngines_only x0 s) hT
theorem State.closeBand_only (x0 : Nat) (x1 : Nat) (s : State) : Only [.live, .jrn] s (State.closeBand x0 x1 s) := by
  have h : Only [.live, .jrn] s s := Only.refl _ _
  unfold State.closeBand
  repeat' first | with_reducible assumption | intro _ | with_reducible apply Only.logBand | with_reducible apply Only.foldl | with_reducible apply Only.foldl_snd | extract_lets | with_reducible refine Only.ite ?_ ?_ | split | decide
theorem Only.closeBand {T : List Fld} {a s : State} (h : Only T a s) (hT : [.live, .jrn].all T.contains = true) (x0 : Nat) (x1 : Nat) : Only T a (State.closeBand x0 x1 s) := h.step (State.closeBand_only x0 x1 s) hT
theorem State.closeEarly_only (x0 : Nat) (x1 : Nat) (s : State) : Only [.live, .jrn, .cache, .groups, .ops, .health] s (State.closeEarly x0 x1 s) := by
  have h : Only [.live, .jrn, .cache, .groups, .ops, .health] s s := Only.refl _ _
  unfold State.closeEarly
  repeat' first | with_reducible assumption | intro _ | with_reducible apply Only.modCache | with_reducible apply Only.each | with_reducible apply Only.closeStripe | with_reducible apply Only.closeBand | with_reducible apply Only.foldl | with_reducible apply Only.foldl_snd | extract_lets | with_reducible refine Only.ite ?_ ?_ | split | decide
theorem Only.closeEarly {T : List Fld} {a s : State} (h : Only T a s) (hT : [.live, .jrn, .cache, .groups, .ops, .health].all T.contains = true) (x0 : Nat) (x1 : Nat) : Only T a (State.closeEarly x0 x1 s) := h.step (State.closeEarly_only x0 x1 s) hT
theorem State.place_only (x0 : Nat) (x1 : Stream) (x2 : Nat) (x3 : Bool) (x4 : List Codeword) (s : State) : Only [.live, .jrn, .cache, .cw, .groups, .ops, .health] s (State.place x0 x1 x2 x3 x4 s).2 := by
  have h : Only [.live, .jrn, .cache, .cw, .groups, .ops, .health] s s := Only.refl _ _
  unfold State.place
  repeat' first | with_reducible assumption | intro _ | with_reducible apply Only.needStripe | with_reducible apply Only.queueFull | with_reducible apply Only.modStripe | with_reducible apply Only.each | with_reducible apply Only.setCodeword | with_reducible apply Only.foldl | with_reducible apply Only.foldl_snd | extract_lets | with_reducible refine Only.ite ?_ ?_ | split | decide
theorem Only.place {T : List Fld} {a s : State} (h : Only T a s) (hT : [.live, .jrn, .cache, .cw, .groups, .ops, .health].all T.contains = true) (x0 : Nat) (x1 : Stream) (x2 : Nat) (x3 : Bool) (x4 : List Codeword) : Only T a (State.place x0 x1 x2 x3 x4 s).2 := h.step (State.place_only x0 x1 x2 x3 x4 s) hT
theorem Only.place_eq {T : List Fld} {a s : State} (h : Only T a s) (hT : [.live, .jrn, .cache, .cw, .groups, .ops, .health].all T.contains = true) (x0 : Nat) (x1 : Stream) (x2 : Nat) (x3 : Bool) (x4 : List Codeword) {r t} (e : State.place x0 x1 x2 x3 x4 s = (r, t)) : Only T a t := h.step (by have := State.place_only x0 x1 x2 x3 x4 s; rw [e] at this; exact this) hT
theorem State.placeUnit_only (x0 : Nat) (x1 : Stream) (x2 : Nat) (x3 : Bool) (x4 : List Codeword) (s : State) : Only [.live, .jrn, .cache, .cw, .groups, .ops, .health] s (State.placeUnit x0 x1 x2 x3 x4 s).2 := by
  have h : Only [.live, .jrn, .cache, .cw, .groups, .ops, .health] s s := Only.refl _ _
  unfold State.placeUnit
  repeat' first | with_reducible assumption | intro _ | refine Only.place_eq (h := ?_) (hT := by decide) (e := by with_reducible assumption) .. | with_reducible apply Only.place | with_reducible apply Only.foldl | with_reducible apply Only.foldl_snd | extract_lets | with_reducible refine Only.ite ?_ ?_ | split | decide
theorem Only.placeUnit {T : List Fld} {a s : State} (h : Only T a s) (hT : [.live, .jrn, .cache, .cw, .groups, .ops, .health].all T.contains = true) (x0 : Nat) (x1 : Stream) (x2 : Nat) (x3 : Bool) (x4 : List Codeword) : Only T a (State.placeUnit x0 x1 x2 x3 x4 s).2 := h.step (State.placeUnit_only x0 x1 x2 x3 x4 s) hT
theorem Only.placeUnit_eq {T : List Fld} {a s : State} (h : Only T a s) (hT : [.live, .jrn, .cache, .cw, .groups, .ops, .health].all T.contains = true) (x0 : Nat) (x1 : Stream) (x2 : Nat) (x3 : Bool) (x4 : List Codeword) {r t} (e : State.placeUnit x0 x1 x2 x3 x4 s = (r, t)) : Only T a t := h.step (by have := State.placeUnit_only x0 x1 x2 x3 x4 s; rw [e] at this; exact this) hT
theorem State.placeAnywhere_only (x0 : Nat) (x1 : Stream) (x2 : Nat) (x3 : List Codeword) (s : State) : Only [.live, .jrn, .cache, .cw, .groups, .ops, .health] s (State.placeAnywhere x0 x1 x2 x3 s).2 := by
  have h : Only [.live, .jrn, .cache, .cw, .groups, .ops, .health] s s := Only.refl _ _
  unfold State.placeAnywhere
  repeat' first | with_reducible assumption | intro _ | refine Only.placeUnit_eq (h := ?_) (hT := by decide) (e := by with_reducible assumption) .. | with_reducible apply Only.placeUnit | with_reducible apply Only.foldl | with_reducible apply Only.foldl_snd | extract_lets | with_reducible refine Only.ite ?_ ?_ | split | decide
theorem Only.placeAnywhere {T : List Fld} {a s : State} (h : Only T a s) (hT : [.live, .jrn, .cache, .cw, .groups, .ops, .health].all T.contains = true) (x0 : Nat) (x1 : Stream) (x2 : Nat) (x3 : List Codeword) : Only T a (State.placeAnywhere x0 x1 x2 x3 s).2 := h.step (State.placeAnywhere_only x0 x1 x2 x3 s) hT
theorem Only.placeAnywhere_eq {T : List Fld} {a s : State} (h : Only T a s) (hT : [.live, .jrn, .cache, .cw, .groups, .ops, .health].all T.contains = true) (x0 : Nat) (x1 : Stream) (x2 : Nat) (x3 : List Codeword) {r t} (e : State.placeAnywhere x0 x1 x2 x3 s = (r, t)) : Only T a t := h.step (by have := State.placeAnywhere_only x0 x1 x2 x3 s; rw [e] at this; exact this) hT
theorem State.replaceRow_only (x0 : Stripe) (x1 : Nat) (s : State) : Only [.ports, .insts, .ctxs, .live, .jrn, .lines, .mc, .cache, .cw, .groups, .ops, .chans, .ev, .health, .out] s (State.replaceRow x0 x1 s) := by
  have h : Only [.ports, .insts, .ctxs, .live, .jrn, .lines, .mc, .cache, .cw, .groups, .ops, .chans, .ev, .health, .out] s s := Only.refl _ _
  unfold State.replaceRow
  repeat' first | with_reducible assumption | intro _ | with_reducible apply Only.modCache | with_reducible apply Only.each | with_reducible apply Only.modLine | refine Only.placeAnywhere_eq (h := ?_) (hT := by decide) (e := by with_reducible assumption) .. | with_reducible apply Only.placeAnywhere | with_reducible apply Only.setUnit | with_reducible apply Only.markUnit | with_reducible apply Only.deferError | with_reducible apply Only.complete | with_reducible apply Only.foldl | with_reducible apply Only.foldl_snd | (with_reducible apply Only.upd_ctxs; first | with_reducible assumption | with_reducible apply Only.modCache | with_reducible apply Only.each | with_reducible apply Only.modLine | refine Only.placeAnywhere_eq (h := ?_) (hT := by decide) (e := by with_reducible assumption) .. | with_reducible apply Only.placeAnywhere | with_reducible apply Only.setUnit | with_reducible apply Only.markUnit | with_reducible apply Only.deferError | with_reducible apply Only.complete | with_reducible apply Only.foldl | with_reducible apply Only.foldl_snd | with_reducible refine Only.ite ?_ ?_) | extract_lets | with_reducible refine Only.ite ?_ ?_ | split | decide
theorem Only.replaceRow {T : List Fld} {a s : State} (h : Only T a s) (hT : [.ports, .insts, .ctxs, .live, .jrn, .lines, .mc, .cache, .cw, .groups, .ops, .chans, .ev, .health, .out].all T.contains = true) (x0 : Stripe) (x1 : Nat) : Only T a (State.replaceRow x0 x1 s) := h.step (State.replaceRow_only x0 x1 s) hT
theorem State.retireStripe_only (x0 : Stripe) (s : State) : Only [.live, .jrn, .cache, .cw, .health] s (State.retireStripe x0 s) := by
  have h : Only [.live, .jrn, .cache, .cw, .health] s s := Only.refl _ _
  unfold State.retireStripe
  repeat' first | with_reducible assumption | intro _ | with_reducible apply Only.modCache | with_reducible apply Only.logBand | with_reducible apply Only.each | with_reducible apply Only.setCodeword | with_reducible apply Only.modHealth | with_reducible apply Only.foldl | with_reducible apply Only.foldl_snd | extract_lets | with_reducible refine Only.ite ?_ ?_ | split | decide
theorem Only.retireStripe {T : List Fld} {a s : State} (h : Only T a s) (hT : [.live, .jrn, .cache, .cw, .health].all T.contains = true) (x0 : Stripe) : Only T a (State.retireStripe x0 s) := h.step (State.retireStripe_only x0 s) hT
theorem State.settlePass_only (s : State) : Only [.live, .jrn, .cache, .cw, .health] s (State.settlePass s) := by
  have h : Only [.live, .jrn, .cache, .cw, .health] s s := Only.refl _ _
  unfold State.settlePass
  repeat' first | with_reducible assumption | intro _ | with_reducible apply Only.retireStripe | with_reducible apply Only.foldl | with_reducible apply Only.foldl_snd | extract_lets | with_reducible refine Only.ite ?_ ?_ | split | decide
theorem Only.settlePass {T : List Fld} {a s : State} (h : Only T a s) (hT : [.live, .jrn, .cache, .cw, .health].all T.contains = true) : Only T a (State.settlePass s) := h.step (State.settlePass_only s) hT
theorem State.settleStripes_only (s : State) : Only [.live, .jrn, .cache, .cw, .health] s (State.settleStripes s) := by
  have h : Only [.live, .jrn, .cache, .cw, .health] s s := Only.refl _ _
  unfold State.settleStripes
  repeat' first | with_reducible assumption | intro _ | with_reducible apply Only.settlePass | with_reducible apply Only.foldl | with_reducible apply Only.foldl_snd | extract_lets | with_reducible refine Only.ite ?_ ?_ | split | decide
theorem Only.settleStripes {T : List Fld} {a s : State} (h : Only T a s) (hT : [.live, .jrn, .cache, .cw, .health].all T.contains = true) : Only T a (State.settleStripes s) := h.step (State.settleStripes_only s) hT
theorem State.programEnded_only (x0 : Nat) (x1 : Nat) (x2 : Nat) (x3 : Nat) (x4 : Bool) (x5 : Bool) (s : State) : Only [.ports, .insts, .ctxs, .live, .jrn, .lines, .mc, .cache, .cw, .groups, .ops, .dies, .chans, .ev, .health, .out] s (State.programEnded x0 x1 x2 x3 x4 x5 s) := by
  have h : Only [.ports, .insts, .ctxs, .live, .jrn, .lines, .mc, .cache, .cw, .groups, .ops, .dies, .chans, .ev, .health, .out] s s := Only.refl _ _
  unfold State.programEnded
  repeat' first | with_reducible assumption | intro _ | with_reducible apply Only.modStripe | with_reducible apply Only.closeEarly | with_reducible apply Only.modDie | with_reducible apply Only.replaceRow | with_reducible apply Only.settleStripes | with_reducible apply Only.foldl | with_reducible apply Only.foldl_snd | extract_lets | with_reducible refine Only.ite ?_ ?_ | split | decide
theorem Only.programEnded {T : List Fld} {a s : State} (h : Only T a s) (hT : [.ports, .insts, .ctxs, .live, .jrn, .lines, .mc, .cache, .cw, .groups, .ops, .dies, .chans, .ev, .health, .out].all T.contains = true) (x0 : Nat) (x1 : Nat) (x2 : Nat) (x3 : Nat) (x4 : Bool) (x5 : Bool) : Only T a (State.programEnded x0 x1 x2 x3 x4 x5 s) := h.step (State.programEnded_only x0 x1 x2 x3 x4 x5 s) hT
theorem State.failStripes_only (x0 : Nat) (x1 : Nat) (x2 : Nat → Bool) (s : State) : Only [.ports, .insts, .ctxs, .live, .jrn, .lines, .mc, .cache, .cw, .groups, .ops, .dies, .chans, .ev, .health, .out] s (State.failStripes x0 x1 x2 s) := by
  have h : Only [.ports, .insts, .ctxs, .live, .jrn, .lines, .mc, .cache, .cw, .groups, .ops, .dies, .chans, .ev, .health, .out] s s := Only.refl _ _
  unfold State.failStripes
  repeat' first | with_reducible assumption | intro _ | with_reducible apply Only.programEnded | with_reducible apply Only.each | with_reducible apply Only.closeEarly | with_reducible apply Only.foldl | with_reducible apply Only.foldl_snd | extract_lets | with_reducible refine Only.ite ?_ ?_ | split | decide
theorem Only.failStripes {T : List Fld} {a s : State} (h : Only T a s) (hT : [.ports, .insts, .ctxs, .live, .jrn, .lines, .mc, .cache, .cw, .groups, .ops, .dies, .chans, .ev, .health, .out].all T.contains = true) (x0 : Nat) (x1 : Nat) (x2 : Nat → Bool) : Only T a (State.failStripes x0 x1 x2 s) := h.step (State.failStripes_only x0 x1 x2 s) hT
theorem State.dropOp_only (x0 : Nat) (s : State) : Only [.ops] s (State.dropOp x0 s) := by
  have h : Only [.ops] s s := Only.refl _ _
  unfold State.dropOp
  repeat' first | with_reducible assumption | intro _ | with_reducible apply Only.foldl | with_reducible apply Only.foldl_snd | (with_reducible apply Only.upd_ops; first | with_reducible assumption | with_reducible apply Only.foldl | with_reducible apply Only.foldl_snd | with_reducible refine Only.ite ?_ ?_) | extract_lets | with_reducible refine Only.ite ?_ ?_ | split | decide
theorem Only.dropOp {T : List Fld} {a s : State} (h : Only T a s) (hT : [.ops].all T.contains = true) (x0 : Nat) : Only T a (State.dropOp x0 s) := h.step (State.dropOp_only x0 s) hT
theorem State.withdraw_only (x0 : Nat) (s : State) : Only [.ops] s (State.withdraw x0 s) := by
  have h : Only [.ops] s s := Only.refl _ _
  unfold State.withdraw
  repeat' first | with_reducible assumption | intro _ | with_reducible apply Only.modOp | with_reducible apply Only.dropOp | with_reducible apply Only.foldl | with_reducible apply Only.foldl_snd | extract_lets | with_reducible refine Only.ite ?_ ?_ | split | decide
theorem Only.withdraw {T : List Fld} {a s : State} (h : Only T a s) (hT : [.ops].all T.contains = true) (x0 : Nat) : Only T a (State.withdraw x0 s) := h.step (State.withdraw_only x0 s) hT
theorem State.dropSolve_only (x0 : Solve) (s : State) : Only [.solves] s (State.dropSolve x0 s) := by
  have h : Only [.solves] s s := Only.refl _ _
  unfold State.dropSolve
  repeat' first | with_reducible assumption | intro _ | with_reducible apply Only.foldl | with_reducible apply Only.foldl_snd | (with_reducible apply Only.upd_solves; first | with_reducible assumption | with_reducible apply Only.foldl | with_reducible apply Only.foldl_snd | with_reducible refine Only.ite ?_ ?_) | extract_lets | with_reducible refine Only.ite ?_ ?_ | split | decide
theorem Only.dropSolve {T : List Fld} {a s : State} (h : Only T a s) (hT : [.solves].all T.contains = true) (x0 : Solve) : Only T a (State.dropSolve x0 s) := h.step (State.dropSolve_only x0 s) hT
theorem State.handOver_only (x0 : Nat) (s : State) : Only [.health] s (State.handOver x0 s) := by
  have h : Only [.health] s s := Only.refl _ _
  unfold State.handOver
  repeat' first | with_reducible assumption | intro _ | with_reducible apply Only.modHealth | with_reducible apply Only.foldl | with_reducible apply Only.foldl_snd | extract_lets | with_reducible refine Only.ite ?_ ?_ | split | decide
theorem Only.handOver {T : List Fld} {a s : State} (h : Only T a s) (hT : [.health].all T.contains = true) (x0 : Nat) : Only T a (State.handOver x0 s) := h.step (State.handOver_only x0 s) hT
theorem State.countStep_only (x0 : Nat) (x1 : Nat) (x2 : Nat) (s : State) : Only [.dies, .chanters] s (State.countStep x0 x1 x2 s) := by
  have h : Only [.dies, .chanters] s s := Only.refl _ _
  unfold State.countStep
  repeat' first | with_reducible assumption | intro _ | with_reducible apply Only.modChanter | with_reducible apply Only.modDie | with_reducible apply Only.foldl | with_reducible apply Only.foldl_snd | extract_lets | with_reducible refine Only.ite ?_ ?_ | split | decide
theorem Only.countStep {T : List Fld} {a s : State} (h : Only T a s) (hT : [.dies, .chanters].all T.contains = true) (x0 : Nat) (x1 : Nat) (x2 : Nat) : Only T a (State.countStep x0 x1 x2 s) := h.step (State.countStep_only x0 x1 x2 s) hT
theorem State.countHome_only (x0 : Nat) (x1 : Nat) (s : State) : Only [.dies, .chanters] s (State.countHome x0 x1 s) := by
  have h : Only [.dies, .chanters] s s := Only.refl _ _
  unfold State.countHome
  repeat' first | with_reducible assumption | intro _ | with_reducible apply Only.countStep | with_reducible apply Only.foldl | with_reducible apply Only.foldl_snd | extract_lets | with_reducible refine Only.ite ?_ ?_ | split | decide
theorem Only.countHome {T : List Fld} {a s : State} (h : Only T a s) (hT : [.dies, .chanters].all T.contains = true) (x0 : Nat) (x1 : Nat) : Only T a (State.countHome x0 x1 s) := h.step (State.countHome_only x0 x1 s) hT
theorem State.lateReturn_only (x0 : Nat) (s : State) : Only [.insts] s (State.lateReturn x0 s) := by
  have h : Only [.insts] s s := Only.refl _ _
  unfold State.lateReturn
  repeat' first | with_reducible assumption | intro _ | with_reducible apply Only.lateDiscard | with_reducible apply Only.foldl | with_reducible apply Only.foldl_snd | extract_lets | with_reducible refine Only.ite ?_ ?_ | split | decide
theorem Only.lateReturn {T : List Fld} {a s : State} (h : Only T a s) (hT : [.insts].all T.contains = true) (x0 : Nat) : Only T a (State.lateReturn x0 s) := h.step (State.lateReturn_only x0 s) hT
theorem State.deliver_only (x0 : Nat) (x1 : Owner) (s : State) : Only [.ports, .insts, .ctxs, .jrn, .stops, .chans, .health, .out] s (State.deliver x0 x1 s) := by
  have h : Only [.ports, .insts, .ctxs, .jrn, .stops, .chans, .health, .out] s s := Only.refl _ _
  unfold State.deliver
  repeat' first | with_reducible assumption | intro _ | with_reducible apply Only.lateReturn | with_reducible apply Only.lateDiscard | with_reducible apply Only.finishRead | with_reducible apply Only.modCtx | with_reducible apply Only.foldl | with_reducible apply Only.foldl_snd | extract_lets | with_reducible refine Only.ite ?_ ?_ | split | decide
theorem Only.deliver {T : List Fld} {a s : State} (h : Only T a s) (hT : [.ports, .insts, .ctxs, .jrn, .stops, .chans, .health, .out].all T.contains = true) (x0 : Nat) (x1 : Owner) : Only T a (State.deliver x0 x1 s) := h.step (State.deliver_only x0 x1 s) hT
theorem State.addRecord_only (x0 : Nat) (x1 : Nat) (x2 : Nat) (x3 : Nat) (s : State) : Only [.jrn, .cw] s (State.addRecord x0 x1 x2 x3 s) := by
  have h : Only [.jrn, .cw] s s := Only.refl _ _
  unfold State.addRecord
  repeat' first | with_reducible assumption | intro _ | with_reducible apply Only.setCodeword | with_reducible apply Only.nextNonce | with_reducible apply Only.foldl | with_reducible apply Only.foldl_snd | extract_lets | with_reducible refine Only.ite ?_ ?_ | split | decide
theorem Only.addRecord {T : List Fld} {a s : State} (h : Only T a s) (hT : [.jrn, .cw].all T.contains = true) (x0 : Nat) (x1 : Nat) (x2 : Nat) (x3 : Nat) : Only T a (State.addRecord x0 x1 x2 x3 s) := h.step (State.addRecord_only x0 x1 x2 x3 s) hT
theorem State.recordPlace_only (x0 : Nat) (x1 : Nat) (s : State) : Only [.live, .jrn, .cache, .cw, .groups, .ops, .health] s (State.recordPlace x0 x1 s).2 := by
  have h : Only [.live, .jrn, .cache, .cw, .groups, .ops, .health] s s := Only.refl _ _
  unfold State.recordPlace
  repeat' first | with_reducible assumption | intro _ | with_reducible apply Only.addRecord | refine Only.placeUnit_eq (h := ?_) (hT := by decide) (e := by with_reducible assumption) .. | with_reducible apply Only.placeUnit | with_reducible apply Only.foldl | with_reducible apply Only.foldl_snd | extract_lets | with_reducible refine Only.ite ?_ ?_ | split | decide
theorem Only.recordPlace {T : List Fld} {a s : State} (h : Only T a s) (hT : [.live, .jrn, .cache, .cw, .groups, .ops, .health].all T.contains = true) (x0 : Nat) (x1 : Nat) : Only T a (State.recordPlace x0 x1 s).2 := h.step (State.recordPlace_only x0 x1 s) hT
theorem Only.recordPlace_eq {T : List Fld} {a s : State} (h : Only T a s) (hT : [.live, .jrn, .cache, .cw, .groups, .ops, .health].all T.contains = true) (x0 : Nat) (x1 : Nat) {r t} (e : State.recordPlace x0 x1 s = (r, t)) : Only T a t := h.step (by have := State.recordPlace_only x0 x1 s; rw [e] at this; exact this) hT
theorem State.modReloc_only (x0 : Nat) (x1 : Nat) (x2 : Reloc → Reloc) (s : State) : Only [.health] s (State.modReloc x0 x1 x2 s) := by
  have h : Only [.health] s s := Only.refl _ _
  unfold State.modReloc
  repeat' first | with_reducible assumption | intro _ | with_reducible apply Only.modHealth | with_reducible apply Only.foldl | with_reducible apply Only.foldl_snd | extract_lets | with_reducible refine Only.ite ?_ ?_ | split | decide
theorem Only.modReloc {T : List Fld} {a s : State} (h : Only T a s) (hT : [.health].all T.contains = true) (x0 : Nat) (x1 : Nat) (x2 : Reloc → Reloc) : Only T a (State.modReloc x0 x1 x2 s) := h.step (State.modReloc_only x0 x1 x2 s) hT
theorem State.copyRecords_only (x0 : Nat) (x1 : Nat) (x2 : Nat) (s : State) : Only [.live, .jrn, .cache, .cw, .groups, .ops, .health] s (State.copyRecords x0 x1 x2 s) := by
  have h : Only [.live, .jrn, .cache, .cw, .groups, .ops, .health] s s := Only.refl _ _
  unfold State.copyRecords
  repeat' first | with_reducible assumption | intro _ | refine Only.recordPlace_eq (h := ?_) (hT := by decide) (e := by with_reducible assumption) .. | with_reducible apply Only.recordPlace | with_reducible apply Only.modReloc | with_reducible apply Only.foldl | with_reducible apply Only.foldl_snd | extract_lets | with_reducible refine Only.ite ?_ ?_ | split | decide
theorem Only.copyRecords {T : List Fld} {a s : State} (h : Only T a s) (hT : [.live, .jrn, .cache, .cw, .groups, .ops, .health].all T.contains = true) (x0 : Nat) (x1 : Nat) (x2 : Nat) : Only T a (State.copyRecords x0 x1 x2 s) := h.step (State.copyRecords_only x0 x1 x2 s) hT
theorem State.copyUnit_only (x0 : Nat) (x1 : Nat) (x2 : Nat) (s : State) : Only [.live, .jrn, .cache, .cw, .groups, .ops, .health] s (State.copyUnit x0 x1 x2 s) := by
  have h : Only [.live, .jrn, .cache, .cw, .groups, .ops, .health] s s := Only.refl _ _
  unfold State.copyUnit
  repeat' first | with_reducible assumption | intro _ | refine Only.placeUnit_eq (h := ?_) (hT := by decide) (e := by with_reducible assumption) .. | with_reducible apply Only.placeUnit | with_reducible apply Only.modReloc | with_reducible apply Only.modGroup | with_reducible apply Only.foldl | with_reducible apply Only.foldl_snd | extract_lets | with_reducible refine Only.ite ?_ ?_ | split | decide
theorem Only.copyUnit {T : List Fld} {a s : State} (h : Only T a s) (hT : [.live, .jrn, .cache, .cw, .groups, .ops, .health].all T.contains = true) (x0 : Nat) (x1 : Nat) (x2 : Nat) : Only T a (State.copyUnit x0 x1 x2 s) := h.step (State.copyUnit_only x0 x1 x2 s) hT
theorem State.served_only (x0 : Nat) (x1 : Owner) (s : State) : Only [.ports, .insts, .ctxs, .live, .jrn, .cache, .cw, .groups, .ops, .stops, .chans, .health, .out] s (State.served x0 x1 s) := by
  have h : Only [.ports, .insts, .ctxs, .live, .jrn, .cache, .cw, .groups, .ops, .stops, .chans, .health, .out] s s := Only.refl _ _
  unfold State.served
  repeat' first | with_reducible assumption | intro _ | with_reducible apply Only.deliver | with_reducible apply Only.lateReturn | with_reducible apply Only.copyRecords | with_reducible apply Only.copyUnit | with_reducible apply Only.foldl | with_reducible apply Only.foldl_snd | extract_lets | with_reducible refine Only.ite ?_ ?_ | split | decide
theorem Only.served {T : List Fld} {a s : State} (h : Only T a s) (hT : [.ports, .insts, .ctxs, .live, .jrn, .cache, .cw, .groups, .ops, .stops, .chans, .health, .out].all T.contains = true) (x0 : Nat) (x1 : Owner) : Only T a (State.served x0 x1 s) := h.step (State.served_only x0 x1 s) hT
theorem State.solved_only (x0 : Solve) (s : State) : Only [.ports, .insts, .ctxs, .live, .jrn, .cache, .cw, .groups, .ops, .solves, .dies, .chanters, .stops, .chans, .health, .out] s (State.solved x0 s) := by
  have h : Only [.ports, .insts, .ctxs, .live, .jrn, .cache, .cw, .groups, .ops, .solves, .dies, .chanters, .stops, .chans, .health, .out] s s := Only.refl _ _
  unfold State.solved
  repeat' first | with_reducible assumption | intro _ | with_reducible apply Only.dropSolve | with_reducible apply Only.handOver | with_reducible apply Only.countHome | with_reducible apply Only.served | with_reducible apply Only.foldl | with_reducible apply Only.foldl_snd | extract_lets | with_reducible refine Only.ite ?_ ?_ | split | decide
theorem Only.solved {T : List Fld} {a s : State} (h : Only T a s) (hT : [.ports, .insts, .ctxs, .live, .jrn, .cache, .cw, .groups, .ops, .solves, .dies, .chanters, .stops, .chans, .health, .out].all T.contains = true) (x0 : Solve) : Only T a (State.solved x0 s) := h.step (State.solved_only x0 s) hT
theorem State.dropMembers_only (x0 : Solve) (s : State) : Only [.ops] s (State.dropMembers x0 s) := by
  have h : Only [.ops] s s := Only.refl _ _
  unfold State.dropMembers
  repeat' first | with_reducible assumption | intro _ | with_reducible apply Only.each | with_reducible apply Only.withdraw | with_reducible apply Only.foldl | with_reducible apply Only.foldl_snd | extract_lets | with_reducible refine Only.ite ?_ ?_ | split | decide
theorem Only.dropMembers {T : List Fld} {a s : State} (h : Only T a s) (hT : [.ops].all T.contains = true) (x0 : Solve) : Only T a (State.dropMembers x0 s) := h.step (State.dropMembers_only x0 s) hT
theorem State.countDeep_only (x0 : Nat) (s : State) : Only [.dies, .chanters] s (State.countDeep x0 s) := by
  have h : Only [.dies, .chanters] s s := Only.refl _ _
  unfold State.countDeep
  repeat' first | with_reducible assumption | intro _ | with_reducible apply Only.modDie | with_reducible apply Only.countHome | with_reducible apply Only.foldl | with_reducible apply Only.foldl_snd | extract_lets | with_reducible refine Only.ite ?_ ?_ | split | decide
theorem Only.countDeep {T : List Fld} {a s : State} (h : Only T a s) (hT : [.dies, .chanters].all T.contains = true) (x0 : Nat) : Only T a (State.countDeep x0 s) := h.step (State.countDeep_only x0 s) hT
theorem State.modSolve_only (x0 : Solve) (x1 : Solve → Solve) (s : State) : Only [.solves] s (State.modSolve x0 x1 s) := by
  have h : Only [.solves] s s := Only.refl _ _
  unfold State.modSolve
  repeat' first | with_reducible assumption | intro _ | with_reducible apply Only.foldl | with_reducible apply Only.foldl_snd | (with_reducible apply Only.upd_solves; first | with_reducible assumption | with_reducible apply Only.foldl | with_reducible apply Only.foldl_snd | with_reducible refine Only.ite ?_ ?_) | extract_lets | with_reducible refine Only.ite ?_ ?_ | split | decide
theorem Only.modSolve {T : List Fld} {a s : State} (h : Only T a s) (hT : [.solves].all T.contains = true) (x0 : Solve) (x1 : Solve → Solve) : Only T a (State.modSolve x0 x1 s) := h.step (State.modSolve_only x0 x1 s) hT
theorem State.settleSolve_only (x0 : Solve) (s : State) : Only [.ports, .insts, .ctxs, .live, .jrn, .lines, .mc, .cache, .cw, .groups, .ops, .solves, .dies, .chanters, .stops, .chans, .ev, .health, .out] s (State.settleSolve x0 s) := by
  have h : Only [.ports, .insts, .ctxs, .live, .jrn, .lines, .mc, .cache, .cw, .groups, .ops, .solves, .dies, .chanters, .stops, .chans, .ev, .health, .out] s s := Only.refl _ _
  unfold State.settleSolve
  repeat' first | with_reducible assumption | intro _ | with_reducible apply Only.solved | with_reducible apply Only.dropMembers | with_reducible apply Only.ladderFail | with_reducible apply Only.dropSolve | with_reducible apply Only.countDeep | with_reducible apply Only.modSolve | with_reducible apply Only.each | with_reducible apply Only.addOp | with_reducible apply Only.foldl | with_reducible apply Only.foldl_snd | extract_lets | with_reducible refine Only.ite ?_ ?_ | split | decide
theorem Only.settleSolve {T : List Fld} {a s : State} (h : Only T a s) (hT : [.ports, .insts, .ctxs, .live, .jrn, .lines, .mc, .cache, .cw, .groups, .ops, .solves, .dies, .chanters, .stops, .chans, .ev, .health, .out].all T.contains = true) (x0 : Solve) : Only T a (State.settleSolve x0 s) := h.step (State.settleSolve_only x0 s) hT
theorem State.endAround_only (x0 : Solve) (s : State) : Only [.ops, .solves, .health] s (State.endAround x0 s) := by
  have h : Only [.ops, .solves, .health] s s := Only.refl _ _
  unfold State.endAround
  repeat' first | with_reducible assumption | intro _ | with_reducible apply Only.dropSolve | with_reducible apply Only.dropMembers | with_reducible apply Only.addOp | with_reducible apply Only.foldl | with_reducible apply Only.foldl_snd | extract_lets | with_reducible refine Only.ite ?_ ?_ | split | decide
theorem Only.endAround {T : List Fld} {a s : State} (h : Only T a s) (hT : [.ops, .solves, .health].all T.contains = true) (x0 : Solve) : Only T a (State.endAround x0 s) := h.step (State.endAround_only x0 s) hT
theorem State.memberRead_only (x0 : Nat) (x1 : Bool) (x2 : Nat) (x3 : Bool) (x4 : Bool) (s : State) : Only [.ports, .insts, .ctxs, .live, .jrn, .lines, .mc, .cache, .cw, .groups, .ops, .solves, .dies, .chanters, .stops, .chans, .ev, .health, .out] s (State.memberRead x0 x1 x2 x3 x4 s) := by
  have h : Only [.ports, .insts, .ctxs, .live, .jrn, .lines, .mc, .cache, .cw, .groups, .ops, .solves, .dies, .chanters, .stops, .chans, .ev, .health, .out] s s := Only.refl _ _
  unfold State.memberRead
  repeat' first | with_reducible assumption | intro _ | with_reducible apply Only.settleSolve | with_reducible apply Only.modSolve | with_reducible apply Only.endAround | with_reducible apply Only.addOp | with_reducible apply Only.foldl | with_reducible apply Only.foldl_snd | extract_lets | with_reducible refine Only.ite ?_ ?_ | split | decide
theorem Only.memberRead {T : List Fld} {a s : State} (h : Only T a s) (hT : [.ports, .insts, .ctxs, .live, .jrn, .lines, .mc, .cache, .cw, .groups, .ops, .solves, .dies, .chanters, .stops, .chans, .ev, .health, .out].all T.contains = true) (x0 : Nat) (x1 : Bool) (x2 : Nat) (x3 : Bool) (x4 : Bool) : Only T a (State.memberRead x0 x1 x2 x3 x4 s) := h.step (State.memberRead_only x0 x1 x2 x3 x4 s) hT
theorem State.toStep4_only (x0 : Op) (s : State) : Only [.ports, .insts, .ctxs, .live, .jrn, .lines, .mc, .cache, .cw, .groups, .ops, .solves, .dies, .chanters, .stops, .chans, .ev, .health, .out] s (State.toStep4 x0 s) := by
  have h : Only [.ports, .insts, .ctxs, .live, .jrn, .lines, .mc, .cache, .cw, .groups, .ops, .solves, .dies, .chanters, .stops, .chans, .ev, .health, .out] s s := Only.refl _ _
  unfold State.toStep4
  repeat' first | with_reducible assumption | intro _ | with_reducible apply Only.withdraw | with_reducible apply Only.memberRead | with_reducible apply Only.startSolve | with_reducible apply Only.foldl | with_reducible apply Only.foldl_snd | extract_lets | with_reducible refine Only.ite ?_ ?_ | split | decide
theorem Only.toStep4 {T : List Fld} {a s : State} (h : Only T a s) (hT : [.ports, .insts, .ctxs, .live, .jrn, .lines, .mc, .cache, .cw, .groups, .ops, .solves, .dies, .chanters, .stops, .chans, .ev, .health, .out].all T.contains = true) (x0 : Op) : Only T a (State.toStep4 x0 s) := h.step (State.toStep4_only x0 s) hT
theorem State.allToStep4_only (x0 : List Op) (s : State) : Only [.ports, .insts, .ctxs, .live, .jrn, .lines, .mc, .cache, .cw, .groups, .ops, .solves, .dies, .chanters, .stops, .chans, .ev, .health, .out] s (State.allToStep4 x0 s) := by
  have h : Only [.ports, .insts, .ctxs, .live, .jrn, .lines, .mc, .cache, .cw, .groups, .ops, .solves, .dies, .chanters, .stops, .chans, .ev, .health, .out] s s := Only.refl _ _
  unfold State.allToStep4
  repeat' first | with_reducible assumption | intro _ | with_reducible apply Only.toStep4 | with_reducible apply Only.foldl | with_reducible apply Only.foldl_snd | extract_lets | with_reducible refine Only.ite ?_ ?_ | split | decide
theorem Only.allToStep4 {T : List Fld} {a s : State} (h : Only T a s) (hT : [.ports, .insts, .ctxs, .live, .jrn, .lines, .mc, .cache, .cw, .groups, .ops, .solves, .dies, .chanters, .stops, .chans, .ev, .health, .out].all T.contains = true) (x0 : List Op) : Only T a (State.allToStep4 x0 s) := h.step (State.allToStep4_only x0 s) hT
theorem State.eraseAgain_only (x0 : List Op) (x1 : Nat) (s : State) : Only [.ops, .health] s (State.eraseAgain x0 x1 s) := by
  have h : Only [.ops, .health] s s := Only.refl _ _
  unfold State.eraseAgain
  repeat' first | with_reducible assumption | intro _ | with_reducible apply Only.addOp | with_reducible apply Only.foldl | with_reducible apply Only.foldl_snd | extract_lets | with_reducible refine Only.ite ?_ ?_ | split | decide
theorem Only.eraseAgain {T : List Fld} {a s : State} (h : Only T a s) (hT : [.ops, .health].all T.contains = true) (x0 : List Op) (x1 : Nat) : Only T a (State.eraseAgain x0 x1 s) := h.step (State.eraseAgain_only x0 x1 s) hT
theorem State.resumeRun_only (x0 : Nat) (s : State) : Only [.modes, .ports, .insts, .ctxs, .health, .out] s (State.resumeRun x0 s) := by
  have h : Only [.modes, .ports, .insts, .ctxs, .health, .out] s s := Only.refl _ _
  unfold State.resumeRun
  repeat' first | with_reducible assumption | intro _ | with_reducible apply Only.modHealth | with_reducible apply Only.setDegrade | with_reducible apply Only.foldl | with_reducible apply Only.foldl_snd | extract_lets | with_reducible refine Only.ite ?_ ?_ | split | decide
theorem Only.resumeRun {T : List Fld} {a s : State} (h : Only T a s) (hT : [.modes, .ports, .insts, .ctxs, .health, .out].all T.contains = true) (x0 : Nat) : Only T a (State.resumeRun x0 s) := h.step (State.resumeRun_only x0 s) hT
theorem State.startRun_only (x0 : Nat) (s : State) : Only [.modes, .ports, .insts, .ctxs, .ev, .health, .out] s (State.startRun x0 s) := by
  have h : Only [.modes, .ports, .insts, .ctxs, .ev, .health, .out] s s := Only.refl _ _
  unfold State.startRun
  repeat' first | with_reducible assumption | intro _ | with_reducible apply Only.resumeRun | with_reducible apply Only.healthEvent | with_reducible apply Only.foldl | with_reducible apply Only.foldl_snd | extract_lets | with_reducible refine Only.ite ?_ ?_ | split | decide
theorem Only.startRun {T : List Fld} {a s : State} (h : Only T a s) (hT : [.modes, .ports, .insts, .ctxs, .ev, .health, .out].all T.contains = true) (x0 : Nat) : Only T a (State.startRun x0 s) := h.step (State.startRun_only x0 s) hT
theorem State.failPod_only (x0 : Nat) (x1 : Bool) (s : State) : Only [.modes, .spares, .ports, .insts, .ctxs, .live, .jrn, .lines, .mc, .cache, .cw, .groups, .ops, .solves, .dies, .chanters, .links, .pods, .stops, .chans, .ev, .health, .out] s (State.failPod x0 x1 s) := by
  have h : Only [.modes, .spares, .ports, .insts, .ctxs, .live, .jrn, .lines, .mc, .cache, .cw, .groups, .ops, .solves, .dies, .chanters, .links, .pods, .stops, .chans, .ev, .health, .out] s s := Only.refl _ _
  unfold State.failPod
  repeat' first | with_reducible assumption | intro _ | with_reducible apply Only.failSparePod | with_reducible apply Only.modLink | with_reducible apply Only.modPod | with_reducible apply Only.podOff | with_reducible apply Only.modHealth | with_reducible apply Only.logRec | with_reducible apply Only.each | with_reducible apply Only.modDie | with_reducible apply Only.unarmVault | with_reducible apply Only.countPods | with_reducible apply Only.reviewEngines | with_reducible apply Only.healthEvent | with_reducible apply Only.reviewSpares | with_reducible apply Only.report | with_reducible apply Only.failStripes | with_reducible apply Only.allToStep4 | with_reducible apply Only.eraseAgain | with_reducible apply Only.startRun | with_reducible apply Only.retry | with_reducible apply Only.reviewAvailable | with_reducible apply Only.foldl | with_reducible apply Only.foldl_snd | (with_reducible apply Only.upd_ops; first | with_reducible assumption | with_reducible apply Only.failSparePod | with_reducible apply Only.modLink | with_reducible apply Only.modPod | with_reducible apply Only.podOff | with_reducible apply Only.modHealth | with_reducible apply Only.logRec | with_reducible apply Only.each | with_reducible apply Only.modDie | with_reducible apply Only.unarmVault | with_reducible apply Only.countPods | with_reducible apply Only.reviewEngines | with_reducible apply Only.healthEvent | with_reducible apply Only.reviewSpares | with_reducible apply Only.report | with_reducible apply Only.failStripes | with_reducible apply Only.allToStep4 | with_reducible apply Only.eraseAgain | with_reducible apply Only.startRun | with_reducible apply Only.retry | with_reducible apply Only.reviewAvailable | with_reducible apply Only.foldl | with_reducible apply Only.foldl_snd | with_reducible refine Only.ite ?_ ?_) | extract_lets | with_reducible refine Only.ite ?_ ?_ | split | decide
theorem Only.failPod {T : List Fld} {a s : State} (h : Only T a s) (hT : [.modes, .spares, .ports, .insts, .ctxs, .live, .jrn, .lines, .mc, .cache, .cw, .groups, .ops, .solves, .dies, .chanters, .links, .pods, .stops, .chans, .ev, .health, .out].all T.contains = true) (x0 : Nat) (x1 : Bool) : Only T a (State.failPod x0 x1 s) := h.step (State.failPod_only x0 x1 s) hT
theorem State.linkDead_only (x0 : Nat) (s : State) : Only [.modes, .spares, .ports, .insts, .ctxs, .live, .jrn, .lines, .mc, .cache, .cw, .groups, .ops, .solves, .dies, .chanters, .links, .pods, .stops, .chans, .ev, .health, .out] s (State.linkDead x0 s) := by
  have h : Only [.modes, .spares, .ports, .insts, .ctxs, .live, .jrn, .lines, .mc, .cache, .cw, .groups, .ops, .solves, .dies, .chanters, .links, .pods, .stops, .chans, .ev, .health, .out] s s := Only.refl _ _
  unfold State.linkDead
  repeat' first | with_reducible assumption | intro _ | with_reducible apply Only.modLink | with_reducible apply Only.modPod | with_reducible apply Only.podOff | with_reducible apply Only.failPod | with_reducible apply Only.foldl | with_reducible apply Only.foldl_snd | extract_lets | with_reducible refine Only.ite ?_ ?_ | split | decide
theorem Only.linkDead {T : List Fld} {a s : State} (h : Only T a s) (hT : [.modes, .spares, .ports, .insts, .ctxs, .live, .jrn, .lines, .mc, .cache, .cw, .groups, .ops, .solves, .dies, .chanters, .links, .pods, .stops, .chans, .ev, .health, .out].all T.contains = true) (x0 : Nat) : Only T a (State.linkDead x0 s) := h.step (State.linkDead_only x0 s) hT
theorem State.podTooHot_only (x0 : Nat) (s : State) : Only [.modes, .pw, .spares, .ports, .insts, .ctxs, .live, .jrn, .lines, .mc, .cache, .cw, .groups, .ops, .solves, .dies, .chanters, .links, .pods, .stops, .chans, .ev, .health, .out] s (State.podTooHot x0 s) := by
  have h : Only [.modes, .pw, .spares, .ports, .insts, .ctxs, .live, .jrn, .lines, .mc, .cache, .cw, .groups, .ops, .solves, .dies, .chanters, .links, .pods, .stops, .chans, .ev, .health, .out] s s := Only.refl _ _
  unfold State.podTooHot
  repeat' first | with_reducible assumption | intro _ | with_reducible apply Only.report | with_reducible apply Only.setLevel | with_reducible apply Only.linkDead | with_reducible apply Only.failPod | with_reducible apply Only.modPw | with_reducible apply Only.foldl | with_reducible apply Only.foldl_snd | extract_lets | with_reducible refine Only.ite ?_ ?_ | split | decide
theorem Only.podTooHot {T : List Fld} {a s : State} (h : Only T a s) (hT : [.modes, .pw, .spares, .ports, .insts, .ctxs, .live, .jrn, .lines, .mc, .cache, .cw, .groups, .ops, .solves, .dies, .chanters, .links, .pods, .stops, .chans, .ev, .health, .out].all T.contains = true) (x0 : Nat) : Only T a (State.podTooHot x0 s) := h.step (State.podTooHot_only x0 s) hT
theorem Only.admin {T : List Fld} {a s : State} (h : Only T a s) (hT : [].all T.contains = true) (x0 : Nat) (x1 : Nat) (x2 : Ctx → State → State) (hg : ∀ y0 t, Only T a t → Only T a (x2 y0 t)) : Only T a (State.admin x0 x1 x2 s) := by
  unfold State.admin
  repeat' first | with_reducible assumption | intro _ | with_reducible apply hg | with_reducible apply Only.foldl | with_reducible apply Only.foldl_snd | extract_lets | with_reducible refine Only.ite ?_ ?_ | split
theorem Only.boundary {T : List Fld} {a s : State} (h : Only T a s) (hT : [].all T.contains = true) (x0 : Nat) (x1 : Nat) (x2 : Ctx → State → State) (hg : ∀ y0 t, Only T a t → Only T a (x2 y0 t)) : Only T a (State.boundary x0 x1 x2 s) := by
  unfold State.boundary
  repeat' first | with_reducible assumption | intro _ | with_reducible apply hg | with_reducible apply Only.admin | with_reducible apply Only.foldl | with_reducible apply Only.foldl_snd | extract_lets | with_reducible refine Only.ite ?_ ?_
theorem Only.io {T : List Fld} {a s : State} (h : Only T a s) (hT : [.ports, .insts, .ctxs, .jrn, .chans, .health, .out].all T.contains = true) (x0 : Nat) (x1 : Nat) (x2 : Ctx → Ns → State → State) (hg : ∀ y0 y1 t, Only T a t → Only T a (x2 y0 y1 t)) : Only T a (State.io x0 x1 x2 s) := by
  unfold State.io
  repeat' first | with_reducible assumption | intro _ | with_reducible apply hg | with_reducible apply Only.complete | with_reducible apply Only.foldl | with_reducible apply Only.foldl_snd | extract_lets | with_reducible refine Only.ite ?_ ?_ | split
theorem State.beginRead_only (x0 : Nat) (x1 : Ns) (s : State) : Only [.ports, .insts, .ctxs, .live, .jrn, .lines, .mc, .ops, .solves, .dies, .chanters, .stops, .chans, .ev, .health, .out] s (State.beginRead x0 x1 s) := by
  have h : Only [.ports, .insts, .ctxs, .live, .jrn, .lines, .mc, .ops, .solves, .dies, .chanters, .stops, .chans, .ev, .health, .out] s s := Only.refl _ _
  unfold State.beginRead
  repeat' first | with_reducible assumption | intro _ | with_reducible apply Only.serveRead | with_reducible apply Only.modCtx | with_reducible apply Only.foldl | with_reducible apply Only.foldl_snd | extract_lets | with_reducible refine Only.ite ?_ ?_ | split | decide
theorem Only.beginRead {T : List Fld} {a s : State} (h : Only T a s) (hT : [.ports, .insts, .ctxs, .live, .jrn, .lines, .mc, .ops, .solves, .dies, .chanters, .stops, .chans, .ev, .health, .out].all T.contains = true) (x0 : Nat) (x1 : Ns) : Only T a (State.beginRead x0 x1 s) := h.step (State.beginRead_only x0 x1 s) hT
theorem State.confirmTrial_only (x0 : Nat) (s : State) : Only [.part, .keep, .flash, .ev] s (State.confirmTrial x0 s) := by
  have h : Only [.part, .keep, .flash, .ev] s s := Only.refl _ _
  unfold State.confirmTrial
  repeat' first | with_reducible assumption | intro _ | with_reducible apply Only.keepWrite | with_reducible apply Only.reportResult | with_reducible apply Only.modFlash | with_reducible apply Only.foldl | with_reducible apply Only.foldl_snd | extract_lets | with_reducible refine Only.ite ?_ ?_ | split | decide
theorem Only.confirmTrial {T : List Fld} {a s : State} (h : Only T a s) (hT : [.part, .keep, .flash, .ev].all T.contains = true) (x0 : Nat) : Only T a (State.confirmTrial x0 s) := h.step (State.confirmTrial_only x0 s) hT
theorem State.scrubFind_only (x0 : ScrubFind) (s : State) : Only [.ports, .insts, .ctxs, .live, .jrn, .lines, .mc, .dies, .chanters, .stops, .chans, .ev, .health, .out] s (State.scrubFind x0 s) := by
  have h : Only [.ports, .insts, .ctxs, .live, .jrn, .lines, .mc, .dies, .chanters, .stops, .chans, .ev, .health, .out] s s := Only.refl _ _
  unfold State.scrubFind
  repeat' first | with_reducible assumption | intro _ | with_reducible apply Only.modDie | with_reducible apply Only.countStep | with_reducible apply Only.countDeep | with_reducible apply Only.handOver | with_reducible apply Only.ladderFail | with_reducible apply Only.foldl | with_reducible apply Only.foldl_snd | extract_lets | with_reducible refine Only.ite ?_ ?_ | split | decide
theorem Only.scrubFind {T : List Fld} {a s : State} (h : Only T a s) (hT : [.ports, .insts, .ctxs, .live, .jrn, .lines, .mc, .dies, .chanters, .stops, .chans, .ev, .health, .out].all T.contains = true) (x0 : ScrubFind) : Only T a (State.scrubFind x0 s) := h.step (State.scrubFind_only x0 s) hT
theorem State.miAdmin_only (x0 : Nat) (x1 : Sqe) (s : State) : Only [.ctxs, .nextCtx, .out] s (State.miAdmin x0 x1 s) := by
  have h : Only [.ctxs, .nextCtx, .out] s s := Only.refl _ _
  unfold State.miAdmin
  repeat' first | with_reducible assumption | intro _ | with_reducible apply Only.emit | with_reducible apply Only.foldl | with_reducible apply Only.foldl_snd | (with_reducible apply Only.upd_ctxs_nextCtx; first | with_reducible assumption | with_reducible apply Only.emit | with_reducible apply Only.foldl | with_reducible apply Only.foldl_snd | with_reducible refine Only.ite ?_ ?_) | extract_lets | with_reducible refine Only.ite ?_ ?_ | split | decide
theorem Only.miAdmin {T : List Fld} {a s : State} (h : Only T a s) (hT : [.ctxs, .nextCtx, .out].all T.contains = true) (x0 : Nat) (x1 : Sqe) : Only T a (State.miAdmin x0 x1 s) := h.step (State.miAdmin_only x0 x1 s) hT
theorem Only.onChan {T : List Fld} {a s : State} (h : Only T a s) (hT : [].all T.contains = true) (x0 : Nat) (x1 : State → State) (hg : ∀  t, Only T a t → Only T a (x1 t)) : Only T a (State.onChan x0 x1 s) := by
  unfold State.onChan
  repeat' first | with_reducible assumption | intro _ | with_reducible apply hg | with_reducible apply Only.foldl | with_reducible apply Only.foldl_snd | extract_lets | with_reducible refine Only.ite ?_ ?_
theorem State.countViolation_only (x0 : Nat) (x1 : Nat) (s : State) : Only [.stops] s (State.countViolation x0 x1 s) := by
  have h : Only [.stops] s s := Only.refl _ _
  unfold State.countViolation
  repeat' first | with_reducible assumption | intro _ | with_reducible apply Only.modStop | with_reducible apply Only.foldl | with_reducible apply Only.foldl_snd | extract_lets | with_reducible refine Only.ite ?_ ?_ | split | decide
theorem Only.countViolation {T : List Fld} {a s : State} (h : Only T a s) (hT : [.stops].all T.contains = true) (x0 : Nat) (x1 : Nat) : Only T a (State.countViolation x0 x1 s) := h.step (State.countViolation_only x0 x1 s) hT
theorem State.fenceStop_only (x0 : Nat) (x1 : Nat) (s : State) : Only [.ports, .insts, .ctxs, .jrn, .stops, .chans, .ev, .health, .out] s (State.fenceStop x0 x1 s) := by
  have h : Only [.ports, .insts, .ctxs, .jrn, .stops, .chans, .ev, .health, .out] s s := Only.refl _ _
  unfold State.fenceStop
  repeat' first | with_reducible assumption | intro _ | with_reducible apply Only.each | with_reducible apply Only.complete | with_reducible apply Only.leaveStop | with_reducible apply Only.modStop | with_reducible apply Only.endReads | with_reducible apply Only.haltChan | with_reducible apply Only.report | with_reducible apply Only.postVendor | with_reducible apply Only.foldl | with_reducible apply Only.foldl_snd | extract_lets | with_reducible refine Only.ite ?_ ?_ | split | decide
theorem Only.fenceStop {T : List Fld} {a s : State} (h : Only T a s) (hT : [.ports, .insts, .ctxs, .jrn, .stops, .chans, .ev, .health, .out].all T.contains = true) (x0 : Nat) (x1 : Nat) : Only T a (State.fenceStop x0 x1 s) := h.step (State.fenceStop_only x0 x1 s) hT
theorem State.stopViolation_only (x0 : Nat) (x1 : Nat) (x2 : Bool) (s : State) : Only [.ports, .insts, .ctxs, .jrn, .stops, .chans, .ev, .health, .out] s (State.stopViolation x0 x1 x2 s) := by
  have h : Only [.ports, .insts, .ctxs, .jrn, .stops, .chans, .ev, .health, .out] s s := Only.refl _ _
  unfold State.stopViolation
  repeat' first | with_reducible assumption | intro _ | with_reducible apply Only.countViolation | with_reducible apply Only.emit | with_reducible apply Only.fenceStop | with_reducible apply Only.foldl | with_reducible apply Only.foldl_snd | extract_lets | with_reducible refine Only.ite ?_ ?_ | split | decide
theorem Only.stopViolation {T : List Fld} {a s : State} (h : Only T a s) (hT : [.ports, .insts, .ctxs, .jrn, .stops, .chans, .ev, .health, .out].all T.contains = true) (x0 : Nat) (x1 : Nat) (x2 : Bool) : Only T a (State.stopViolation x0 x1 x2 s) := h.step (State.stopViolation_only x0 x1 x2 s) hT
theorem State.chanViolation_only (x0 : Nat) (x1 : Nat) (s : State) : Only [.ports, .insts, .ctxs, .jrn, .stops, .chans, .ev, .health, .out] s (State.chanViolation x0 x1 s) := by
  have h : Only [.ports, .insts, .ctxs, .jrn, .stops, .chans, .ev, .health, .out] s s := Only.refl _ _
  unfold State.chanViolation
  repeat' first | with_reducible assumption | intro _ | with_reducible apply Only.stopViolation | with_reducible apply Only.foldl | with_reducible apply Only.foldl_snd | extract_lets | with_reducible refine Only.ite ?_ ?_ | split | decide
theorem Only.chanViolation {T : List Fld} {a s : State} (h : Only T a s) (hT : [.ports, .insts, .ctxs, .jrn, .stops, .chans, .ev, .health, .out].all T.contains = true) (x0 : Nat) (x1 : Nat) : Only T a (State.chanViolation x0 x1 s) := h.step (State.chanViolation_only x0 x1 s) hT
theorem State.checkOwned_only (x0 : Nat) (s : State) : Only [.ports, .insts, .ctxs, .jrn, .stops, .chans, .ev, .health, .out] s (State.checkOwned x0 s) := by
  have h : Only [.ports, .insts, .ctxs, .jrn, .stops, .chans, .ev, .health, .out] s s := Only.refl _ _
  unfold State.checkOwned
  repeat' first | with_reducible assumption | intro _ | with_reducible apply Only.chanViolation | with_reducible apply Only.haltChan | with_reducible apply Only.foldl | with_reducible apply Only.foldl_snd | extract_lets | with_reducible refine Only.ite ?_ ?_ | split | decide
theorem Only.checkOwned {T : List Fld} {a s : State} (h : Only T a s) (hT : [.ports, .insts, .ctxs, .jrn, .stops, .chans, .ev, .health, .out].all T.contains = true) (x0 : Nat) : Only T a (State.checkOwned x0 s) := h.step (State.checkOwned_only x0 s) hT
theorem State.writeEnable_only (x0 : Nat) (x1 : Bool) (s : State) : Only [.ports, .insts, .ctxs, .jrn, .stops, .chans, .ev, .health, .out] s (State.writeEnable x0 x1 s) := by
  have h : Only [.ports, .insts, .ctxs, .jrn, .stops, .chans, .ev, .health, .out] s s := Only.refl _ _
  unfold State.writeEnable
  repeat' first | with_reducible assumption | intro _ | with_reducible apply Only.checkOwned | with_reducible apply Only.modChan | with_reducible apply Only.foldl | with_reducible apply Only.foldl_snd | extract_lets | with_reducible refine Only.ite ?_ ?_ | split | decide
theorem Only.writeEnable {T : List Fld} {a s : State} (h : Only T a s) (hT : [.ports, .insts, .ctxs, .jrn, .stops, .chans, .ev, .health, .out].all T.contains = true) (x0 : Nat) (x1 : Bool) : Only T a (State.writeEnable x0 x1 s) := h.step (State.writeEnable_only x0 x1 s) hT
theorem State.checkKeep_only (x0 : Step2Found) (s : State) : Only [.part, .keep, .ev] s (State.checkKeep x0 s) := by
  have h : Only [.part, .keep, .ev] s s := Only.refl _ _
  unfold State.checkKeep
  repeat' first | with_reducible assumption | intro _ | with_reducible apply Only.modPart | with_reducible apply Only.report | with_reducible apply Only.foldl | with_reducible apply Only.foldl_snd | (with_reducible apply Only.upd_keep; first | with_reducible assumption | with_reducible apply Only.modPart | with_reducible apply Only.report | with_reducible apply Only.foldl | with_reducible apply Only.foldl_snd | with_reducible refine Only.ite ?_ ?_) | extract_lets | with_reducible refine Only.ite ?_ ?_ | split | decide
theorem Only.checkKeep {T : List Fld} {a s : State} (h : Only T a s) (hT : [.part, .keep, .ev].all T.contains = true) (x0 : Step2Found) : Only T a (State.checkKeep x0 s) := h.step (State.checkKeep_only x0 s) hT
theorem State.readAround_only (x0 : Op) (x1 : Op) (s : State) : Only [.ports, .insts, .ctxs, .live, .jrn, .lines, .mc, .groups, .ops, .solves, .dies, .chanters, .stops, .chans, .ev, .health, .out] s (State.readAround x0 x1 s) := by
  have h : Only [.ports, .insts, .ctxs, .live, .jrn, .lines, .mc, .groups, .ops, .solves, .dies, .chanters, .stops, .chans, .ev, .health, .out] s s := Only.refl _ _
  unfold State.readAround
  repeat' first | with_reducible assumption | intro _ | with_reducible apply Only.modChanter | with_reducible apply Only.modGroup | with_reducible apply Only.modInst | with_reducible apply Only.startSolve | with_reducible apply Only.dropOp | with_reducible apply Only.foldl | with_reducible apply Only.foldl_snd | extract_lets | with_reducible refine Only.ite ?_ ?_ | split | decide
theorem Only.readAround {T : List Fld} {a s : State} (h : Only T a s) (hT : [.ports, .insts, .ctxs, .live, .jrn, .lines, .mc, .groups, .ops, .solves, .dies, .chanters, .stops, .chans, .ev, .health, .out].all T.contains = true) (x0 : Op) (x1 : Op) : Only T a (State.readAround x0 x1 s) := h.step (State.readAround_only x0 x1 s) hT
theorem Only.mbArrives {T : List Fld} {a s : State} (h : Only T a s) (hT : [.part, .ports, .insts, .ctxs, .jrn, .chans, .health, .out].all T.contains = true) (x0 : MbHdr) (x1 : MbBody) (x2 : State → State) (hg : ∀  t, Only T a t → Only T a (x2 t)) : Only T a (State.mbArrives x0 x1 x2 s) := by
  unfold State.mbArrives
  repeat' first | with_reducible assumption | intro _ | with_reducible apply hg | with_reducible apply Only.mbAnswer | with_reducible apply Only.modPart | with_reducible apply Only.modCtx | with_reducible apply Only.foldl | with_reducible apply Only.foldl_snd | extract_lets | with_reducible refine Only.ite ?_ ?_ | split | exact Fld.all_sub hT (by decide)
theorem Only.unprivileged {T : List Fld} {a s : State} (h : Only T a s) (hT : [.ports, .insts, .ctxs, .jrn, .chans, .health, .out].all T.contains = true) (x0 : Nat) (x1 : Nat) (x2 : MbHdr) (x3 : State → Nat × List Field × State) (hg : ∀  t, Only T a t → Only T a (x3 t).2.2) : Only T a (State.unprivileged x0 x1 x2 x3 s) := by
  unfold State.unprivileged
  repeat' first | with_reducible assumption | intro _ | with_reducible apply hg | with_reducible apply Only.mbAnswer | with_reducible apply Only.foldl | with_reducible apply Only.foldl_snd | extract_lets | with_reducible refine Only.ite ?_ ?_
theorem State.mbGetChallenge_only (x0 : BitVec 384) (x1 : MbHdr) (s : State) : Only [.part, .ports, .insts, .ctxs, .jrn, .chans, .ev, .health, .free, .out] s (State.mbGetChallenge x0 x1 s) := by
  have h : Only [.part, .ports, .insts, .ctxs, .jrn, .chans, .ev, .health, .free, .out] s s := Only.refl _ _
  unfold State.mbGetChallenge
  repeat' first | with_reducible assumption | intro _ | with_reducible apply Only.unprivileged | with_reducible apply Only.report | with_reducible apply Only.drew | with_reducible apply Only.modPart | with_reducible apply Only.foldl | with_reducible apply Only.foldl_snd | extract_lets | with_reducible refine Only.ite ?_ ?_ | split | decide
theorem Only.mbGetChallenge {T : List Fld} {a s : State} (h : Only T a s) (hT : [.part, .ports, .insts, .ctxs, .jrn, .chans, .ev, .health, .free, .out].all T.contains = true) (x0 : BitVec 384) (x1 : MbHdr) : Only T a (State.mbGetChallenge x0 x1 s) := h.step (State.mbGetChallenge_only x0 x1 s) hT
theorem State.mbReadIdentity_only (x0 : MbHdr) (s : State) : Only [.ports, .insts, .ctxs, .jrn, .chans, .health, .out] s (State.mbReadIdentity x0 s) := by
  have h : Only [.ports, .insts, .ctxs, .jrn, .chans, .health, .out] s s := Only.refl _ _
  unfold State.mbReadIdentity
  repeat' first | with_reducible assumption | intro _ | with_reducible apply Only.unprivileged | with_reducible apply Only.foldl | with_reducible apply Only.foldl_snd | extract_lets | with_reducible refine Only.ite ?_ ?_ | split | decide
theorem Only.mbReadIdentity {T : List Fld} {a s : State} (h : Only T a s) (hT : [.ports, .insts, .ctxs, .jrn, .chans, .health, .out].all T.contains = true) (x0 : MbHdr) : Only T a (State.mbReadIdentity x0 s) := h.step (State.mbReadIdentity_only x0 s) hT
theorem State.mbReadStatus_only (x0 : MbHdr) (s : State) : Only [.ports, .insts, .ctxs, .jrn, .chans, .health, .out] s (State.mbReadStatus x0 s) := by
  have h : Only [.ports, .insts, .ctxs, .jrn, .chans, .health, .out] s s := Only.refl _ _
  unfold State.mbReadStatus
  repeat' first | with_reducible assumption | intro _ | with_reducible apply Only.unprivileged | with_reducible apply Only.foldl | with_reducible apply Only.foldl_snd | extract_lets | with_reducible refine Only.ite ?_ ?_ | split | decide
theorem Only.mbReadStatus {T : List Fld} {a s : State} (h : Only T a s) (hT : [.ports, .insts, .ctxs, .jrn, .chans, .health, .out].all T.contains = true) (x0 : MbHdr) : Only T a (State.mbReadStatus x0 s) := h.step (State.mbReadStatus_only x0 s) hT
theorem State.causeArises_only (x0 : Nat) (x1 : FlushWhy) (x2 : Bool) (x3 : Bool) (s : State) : Only [.modes, .pw, .part, .keep, .ports, .insts, .ctxs, .live, .jrn, .vault, .lines, .mc, .cw, .ops, .solves, .links, .pods, .stops, .chans, .ev, .free, .out] s (State.causeArises x0 x1 x2 x3 s) := by
  have h : Only [.modes, .pw, .part, .keep, .ports, .insts, .ctxs, .live, .jrn, .vault, .lines, .mc, .cw, .ops, .solves, .links, .pods, .stops, .chans, .ev, .free, .out] s s := Only.refl _ _
  unfold State.causeArises
  repeat' first | with_reducible assumption | intro _ | with_reducible apply Only.report | with_reducible apply Only.modModes | with_reducible apply Only.startFlush | with_reducible apply Only.enterSafe | with_reducible apply Only.foldl | with_reducible apply Only.foldl_snd | extract_lets | with_reducible refine Only.ite ?_ ?_ | split | decide
theorem Only.causeArises {T : List Fld} {a s : State} (h : Only T a s) (hT : [.modes, .pw, .part, .keep, .ports, .insts, .ctxs, .live, .jrn, .vault, .lines, .mc, .cw, .ops, .solves, .links, .pods, .stops, .chans, .ev, .free, .out].all T.contains = true) (x0 : Nat) (x1 : FlushWhy) (x2 : Bool) (x3 : Bool) : Only T a (State.causeArises x0 x1 x2 x3 s) := h.step (State.causeArises_only x0 x1 x2 x3 s) hT
theorem State.authFailed_only (s : State) : Only [.modes, .pw, .part, .keep, .ports, .insts, .ctxs, .live, .jrn, .vault, .lines, .mc, .cw, .ops, .solves, .links, .pods, .stops, .chans, .ev, .free, .out] s (State.authFailed s) := by
  have h : Only [.modes, .pw, .part, .keep, .ports, .insts, .ctxs, .live, .jrn, .vault, .lines, .mc, .cw, .ops, .solves, .links, .pods, .stops, .chans, .ev, .free, .out] s s := Only.refl _ _
  unfold State.authFailed
  repeat' first | with_reducible assumption | intro _ | with_reducible apply Only.report | with_reducible apply Only.keepWrite | with_reducible apply Only.causeArises | with_reducible apply Only.foldl | with_reducible apply Only.foldl_snd | extract_lets | with_reducible refine Only.ite ?_ ?_ | split | decide
theorem Only.authFailed {T : List Fld} {a s : State} (h : Only T a s) (hT : [.modes, .pw, .part, .keep, .ports, .insts, .ctxs, .live, .jrn, .vault, .lines, .mc, .cw, .ops, .solves, .links, .pods, .stops, .chans, .ev, .free, .out].all T.contains = true) : Only T a (State.authFailed s) := h.step (State.authFailed_only s) hT
theorem Only.privilegedLate {T : List Fld} {a s : State} (h : Only T a s) (hT : [.modes, .pw, .part, .keep, .ports, .insts, .ctxs, .live, .jrn, .vault, .lines, .mc, .cw, .ops, .solves, .links, .pods, .stops, .chans, .ev, .health, .free, .out].all T.contains = true) (x0 : Nat) (x1 : Nat) (x2 : MbHdr) (x3 : State → Option Nat × State) (hg : ∀  t, Only T a t → Only T a (x3 t).2) : Only T a (State.privilegedLate x0 x1 x2 x3 s) := by
  have hm : ∀ {t r u}, Only T a t → x3 t = (r, u) → Only T a u := fun {t r u} ht e => by have := hg t ht; rw [e] at this; exact this
  unfold State.privilegedLate
  repeat' first | with_reducible assumption | intro _ | with_reducible apply Only.mbAnswer | with_reducible apply Only.authFailed | with_reducible apply Only.modPart | with_reducible apply Only.keepWrite | with_reducible refine Only.ite ?_ ?_ | refine hm ?_ (by with_reducible assumption) | split | exact Fld.all_sub hT (by decide) | dsimp only
theorem Only.privileged {T : List Fld} {a s : State} (h : Only T a s) (hT : [.modes, .pw, .part, .keep, .ports, .insts, .ctxs, .live, .jrn, .vault, .lines, .mc, .cw, .ops, .solves, .links, .pods, .stops, .chans, .ev, .health, .free, .out].all T.contains = true) (x0 : Nat) (x1 : Nat) (x2 : MbHdr) (x3 : State → Nat × State) (hg : ∀  t, Only T a t → Only T a (x3 t).2) : Only T a (State.privileged x0 x1 x2 x3 s) := by
  unfold State.privileged
  repeat' first | with_reducible assumption | intro _ | with_reducible apply hg | with_reducible apply Only.privilegedLate
theorem State.mbSetThreshOvr_only (x0 : W64) (x1 : MbHdr) (s : State) : Only [.modes, .pw, .part, .keep, .ports, .insts, .ctxs, .live, .jrn, .vault, .lines, .mc, .cw, .ops, .solves, .links, .pods, .stops, .chans, .ev, .health, .free, .out] s (State.mbSetThreshOvr x0 x1 s) := by
  have h : Only [.modes, .pw, .part, .keep, .ports, .insts, .ctxs, .live, .jrn, .vault, .lines, .mc, .cw, .ops, .solves, .links, .pods, .stops, .chans, .ev, .health, .free, .out] s s := Only.refl _ _
  unfold State.mbSetThreshOvr
  repeat' first | with_reducible assumption | intro _ | with_reducible apply Only.privileged | with_reducible apply Only.keepWrite | with_reducible apply Only.foldl | with_reducible apply Only.foldl_snd | extract_lets | with_reducible refine Only.ite ?_ ?_ | split | decide
theorem Only.mbSetThreshOvr {T : List Fld} {a s : State} (h : Only T a s) (hT : [.modes, .pw, .part, .keep, .ports, .insts, .ctxs, .live, .jrn, .vault, .lines, .mc, .cw, .ops, .solves, .links, .pods, .stops, .chans, .ev, .health, .free, .out].all T.contains = true) (x0 : W64) (x1 : MbHdr) : Only T a (State.mbSetThreshOvr x0 x1 s) := h.step (State.mbSetThreshOvr_only x0 x1 s) hT
theorem State.mbClearBackup_only (x0 : MbHdr) (s : State) : Only [.modes, .pw, .part, .keep, .ports, .insts, .ctxs, .live, .jrn, .vault, .lines, .mc, .cw, .ops, .solves, .links, .pods, .stops, .chans, .ev, .health, .free, .out] s (State.mbClearBackup x0 s) := by
  have h : Only [.modes, .pw, .part, .keep, .ports, .insts, .ctxs, .live, .jrn, .vault, .lines, .mc, .cw, .ops, .solves, .links, .pods, .stops, .chans, .ev, .health, .free, .out] s s := Only.refl _ _
  unfold State.mbClearBackup
  repeat' first | with_reducible assumption | intro _ | with_reducible apply Only.privileged | with_reducible apply Only.setDegrade | with_reducible apply Only.keepWrite | with_reducible apply Only.foldl | with_reducible apply Only.foldl_snd | extract_lets | with_reducible refine Only.ite ?_ ?_ | split | decide
theorem Only.mbClearBackup {T : List Fld} {a s : State} (h : Only T a s) (hT : [.modes, .pw, .part, .keep, .ports, .insts, .ctxs, .live, .jrn, .vault, .lines, .mc, .cw, .ops, .solves, .links, .pods, .stops, .chans, .ev, .health, .free, .out].all T.contains = true) (x0 : MbHdr) : Only T a (State.mbClearBackup x0 s) := h.step (State.mbClearBackup_only x0 s) hT
theorem State.cutUpdate_only (s : State) : Only [.part, .keep, .flash] s (State.cutUpdate s) := by
  have h : Only [.part, .keep, .flash] s s := Only.refl _ _
  unfold State.cutUpdate
  repeat' first | with_reducible assumption | intro _ | with_reducible apply Only.modFlash | with_reducible apply Only.keepWrite | with_reducible apply Only.foldl | with_reducible apply Only.foldl_snd | extract_lets | with_reducible refine Only.ite ?_ ?_ | split | decide
theorem Only.cutUpdate {T : List Fld} {a s : State} (h : Only T a s) (hT : [.part, .keep, .flash].all T.contains = true) : Only T a (State.cutUpdate s) := h.step (State.cutUpdate_only s) hT
theorem State.discard_only (x0 : Bool) (s : State) : Only [.pw, .part, .spares, .ports, .insts, .ctxs, .live, .jrn, .lines, .lends, .mc, .cache, .cw, .groups, .ops, .solves, .dies, .chanters, .links, .pods, .stops, .chans, .drones, .ev, .health] s (State.discard x0 s) := by
  have h : Only [.pw, .part, .spares, .ports, .insts, .ctxs, .live, .jrn, .lines, .lends, .mc, .cache, .cw, .groups, .ops, .solves, .dies, .chanters, .links, .pods, .stops, .chans, .drones, .ev, .health] s s := Only.refl _ _
  unfold State.discard
  repeat' first | with_reducible assumption | intro _ | with_reducible apply Only.foldl | with_reducible apply Only.foldl_snd | (with_reducible apply Only.upd25; first | with_reducible assumption | with_reducible apply Only.foldl | with_reducible apply Only.foldl_snd | with_reducible refine Only.ite ?_ ?_) | extract_lets | with_reducible refine Only.ite ?_ ?_ | split | decide
theorem Only.discard {T : List Fld} {a s : State} (h : Only T a s) (hT : [.pw, .part, .spares, .ports, .insts, .ctxs, .live, .jrn, .lines, .lends, .mc, .cache, .cw, .groups, .ops, .solves, .dies, .chanters, .links, .pods, .stops, .chans, .drones, .ev, .health].all T.contains = true) (x0 : Bool) : Only T a (State.discard x0 s) := h.step (State.discard_only x0 s) hT
theorem State.startBringup_only (s : State) : Only [.modes, .pw, .part, .keep, .flash, .spares, .ports, .insts, .ctxs, .live, .jrn, .lines, .lends, .mc, .cache, .cw, .groups, .ops, .solves, .dies, .chanters, .links, .pods, .stops, .chans, .drones, .ev, .health] s (State.startBringup s) := by
  have h : Only [.modes, .pw, .part, .keep, .flash, .spares, .ports, .insts, .ctxs, .live, .jrn, .lines, .lends, .mc, .cache, .cw, .groups, .ops, .solves, .dies, .chanters, .links, .pods, .stops, .chans, .drones, .ev, .health] s s := Only.refl _ _
  unfold State.startBringup
  repeat' first | with_reducible assumption | intro _ | with_reducible apply Only.cutUpdate | with_reducible apply Only.discard | with_reducible apply Only.foldl | with_reducible apply Only.foldl_snd | (with_reducible apply Only.upd_modes_pw_part_flash; first | with_reducible assumption | with_reducible apply Only.cutUpdate | with_reducible apply Only.discard | with_reducible apply Only.foldl | with_reducible apply Only.foldl_snd | with_reducible refine Only.ite ?_ ?_) | extract_lets | with_reducible refine Only.ite ?_ ?_ | split | decide
theorem Only.startBringup {T : List Fld} {a s : State} (h : Only T a s) (hT : [.modes, .pw, .part, .keep, .flash, .spares, .ports, .insts, .ctxs, .live, .jrn, .lines, .lends, .mc, .cache, .cw, .groups, .ops, .solves, .dies, .chanters, .links, .pods, .stops, .chans, .drones, .ev, .health].all T.contains = true) : Only T a (State.startBringup s) := h.step (State.startBringup_only s) hT
theorem State.mbRelease_only (x0 : Sample) (x1 : MbHdr) (s : State) : Only [.modes, .pw, .part, .keep, .flash, .spares, .ports, .insts, .ctxs, .live, .jrn, .vault, .lines, .lends, .mc, .cache, .cw, .groups, .ops, .solves, .dies, .chanters, .links, .pods, .stops, .chans, .drones, .ev, .health, .free, .out] s (State.mbRelease x0 x1 s) := by
  have h : Only [.modes, .pw, .part, .keep, .flash, .spares, .ports, .insts, .ctxs, .live, .jrn, .vault, .lines, .lends, .mc, .cache, .cw, .groups, .ops, .solves, .dies, .chanters, .links, .pods, .stops, .chans, .drones, .ev, .health, .free, .out] s s := Only.refl _ _
  unfold State.mbRelease
  repeat' first | with_reducible assumption | intro _ | with_reducible apply Only.privileged | with_reducible apply Only.report | with_reducible apply Only.keepWrite | with_reducible apply Only.startBringup | with_reducible apply Only.foldl | with_reducible apply Only.foldl_snd | extract_lets | with_reducible refine Only.ite ?_ ?_ | split | decide
theorem Only.mbRelease {T : List Fld} {a s : State} (h : Only T a s) (hT : [.modes, .pw, .part, .keep, .flash, .spares, .ports, .insts, .ctxs, .live, .jrn, .vault, .lines, .lends, .mc, .cache, .cw, .groups, .ops, .solves, .dies, .chanters, .links, .pods, .stops, .chans, .drones, .ev, .health, .free, .out].all T.contains = true) (x0 : Sample) (x1 : MbHdr) : Only T a (State.mbRelease x0 x1 s) := h.step (State.mbRelease_only x0 x1 s) hT
theorem State.mbUpdateLock_only (x0 : Bool) (x1 : MbHdr) (s : State) : Only [.modes, .pw, .part, .keep, .format, .ports, .insts, .ctxs, .live, .jrn, .vault, .lines, .mc, .cw, .ops, .solves, .links, .pods, .stops, .chans, .ev, .health, .free, .out] s (State.mbUpdateLock x0 x1 s) := by
  have h : Only [.modes, .pw, .part, .keep, .format, .ports, .insts, .ctxs, .live, .jrn, .vault, .lines, .mc, .cw, .ops, .solves, .links, .pods, .stops, .chans, .ev, .health, .free, .out] s s := Only.refl _ _
  unfold State.mbUpdateLock
  repeat' first | with_reducible assumption | intro _ | with_reducible apply Only.privileged | with_reducible apply Only.keepWrite | with_reducible apply Only.foldl | with_reducible apply Only.foldl_snd | (with_reducible apply Only.upd_format; first | with_reducible assumption | with_reducible apply Only.privileged | with_reducible apply Only.keepWrite | with_reducible apply Only.foldl | with_reducible apply Only.foldl_snd | with_reducible refine Only.ite ?_ ?_) | extract_lets | with_reducible refine Only.ite ?_ ?_ | split | decide
theorem Only.mbUpdateLock {T : List Fld} {a s : State} (h : Only T a s) (hT : [.modes, .pw, .part, .keep, .format, .ports, .insts, .ctxs, .live, .jrn, .vault, .lines, .mc, .cw, .ops, .solves, .links, .pods, .stops, .chans, .ev, .health, .free, .out].all T.contains = true) (x0 : Bool) (x1 : MbHdr) : Only T a (State.mbUpdateLock x0 x1 s) := h.step (State.mbUpdateLock_only x0 x1 s) hT
theorem State.enterQuiesce_only (x0 : Nat) (s : State) : Only [.modes, .ports, .chans] s (State.enterQuiesce x0 s) := by
  have h : Only [.modes, .ports, .chans] s s := Only.refl _ _
  unfold State.enterQuiesce
  repeat' first | with_reducible assumption | intro _ | with_reducible apply Only.modModes | with_reducible apply Only.allPorts | with_reducible apply Only.modPort | with_reducible apply Only.each | with_reducible apply Only.modChan | with_reducible apply Only.foldl | with_reducible apply Only.foldl_snd | extract_lets | with_reducible refine Only.ite ?_ ?_ | split | decide
theorem Only.enterQuiesce {T : List Fld} {a s : State} (h : Only T a s) (hT : [.modes, .ports, .chans].all T.contains = true) (x0 : Nat) : Only T a (State.enterQuiesce x0 s) := h.step (State.enterQuiesce_only x0 s) hT
theorem State.startDevEpoch_only (x0 : Nat) (x1 : EpochAct) (x2 : Option Nat) (s : State) : Only [.modes, .ports, .ctxs, .chans] s (State.startDevEpoch x0 x1 x2 s) := by
  have h : Only [.modes, .ports, .ctxs, .chans] s s := Only.refl _ _
  unfold State.startDevEpoch
  repeat' first | with_reducible assumption | intro _ | with_reducible apply Only.modModes | with_reducible apply Only.enterQuiesce | with_reducible apply Only.modCtx | with_reducible apply Only.foldl | with_reducible apply Only.foldl_snd | extract_lets | with_reducible refine Only.ite ?_ ?_ | split | decide
theorem Only.startDevEpoch {T : List Fld} {a s : State} (h : Only T a s) (hT : [.modes, .ports, .ctxs, .chans].all T.contains = true) (x0 : Nat) (x1 : EpochAct) (x2 : Option Nat) : Only T a (State.startDevEpoch x0 x1 x2 s) := h.step (State.startDevEpoch_only x0 x1 x2 s) hT
theorem State.mbSetRpl_only (x0 : Nat) (x1 : Bool) (x2 : MbHdr) (s : State) : Only [.modes, .pw, .part, .keep, .ports, .insts, .ctxs, .live, .jrn, .vault, .lines, .mc, .cw, .ops, .solves, .links, .pods, .stops, .chans, .ev, .health, .free, .out] s (State.mbSetRpl x0 x1 x2 s) := by
  have h : Only [.modes, .pw, .part, .keep, .ports, .insts, .ctxs, .live, .jrn, .vault, .lines, .mc, .cw, .ops, .solves, .links, .pods, .stops, .chans, .ev, .health, .free, .out] s s := Only.refl _ _
  unfold State.mbSetRpl
  repeat' first | with_reducible assumption | intro _ | with_reducible apply Only.privilegedLate | with_reducible apply Only.modPart | with_reducible apply Only.startDevEpoch | with_reducible apply Only.foldl | with_reducible apply Only.foldl_snd | extract_lets | with_reducible refine Only.ite ?_ ?_ | split | decide
theorem Only.mbSetRpl {T : List Fld} {a s : State} (h : Only T a s) (hT : [.modes, .pw, .part, .keep, .ports, .insts, .ctxs, .live, .jrn, .vault, .lines, .mc, .cw, .ops, .solves, .links, .pods, .stops, .chans, .ev, .health, .free, .out].all T.contains = true) (x0 : Nat) (x1 : Bool) (x2 : MbHdr) : Only T a (State.mbSetRpl x0 x1 x2 s) := h.step (State.mbSetRpl_only x0 x1 x2 s) hT
theorem State.giveUpBand_only (x0 : Nat) (s : State) : Only [.live, .jrn, .health] s (State.giveUpBand x0 s) := by
  have h : Only [.live, .jrn, .health] s s := Only.refl _ _
  unfold State.giveUpBand
  repeat' first | with_reducible assumption | intro _ | with_reducible apply Only.modHealth | with_reducible apply Only.logBand | with_reducible apply Only.foldl | with_reducible apply Only.foldl_snd | extract_lets | with_reducible refine Only.ite ?_ ?_ | split | decide
theorem Only.giveUpBand {T : List Fld} {a s : State} (h : Only T a s) (hT : [.live, .jrn, .health].all T.contains = true) (x0 : Nat) : Only T a (State.giveUpBand x0 s) := h.step (State.giveUpBand_only x0 s) hT
theorem State.rewriteKeys_only (s : State) : Only [.part, .live, .jrn, .health] s (State.rewriteKeys s) := by
  have h : Only [.part, .live, .jrn, .health] s s := Only.refl _ _
  unfold State.rewriteKeys
  repeat' first | with_reducible assumption | intro _ | with_reducible apply Only.modPart | with_reducible apply Only.each | with_reducible apply Only.logBand | with_reducible apply Only.giveUpBand | with_reducible apply Only.foldl | with_reducible apply Only.foldl_snd | extract_lets | with_reducible refine Only.ite ?_ ?_ | split | decide
theorem Only.rewriteKeys {T : List Fld} {a s : State} (h : Only T a s) (hT : [.part, .live, .jrn, .health].all T.contains = true) : Only T a (State.rewriteKeys s) := h.step (State.rewriteKeys_only s) hT
theorem State.mbLoadKey_only (x0 : Nat) (x1 : Bool) (x2 : Bool) (x3 : BitVec 64) (x4 : MbHdr) (s : State) : Only [.modes, .pw, .part, .keep, .ports, .insts, .ctxs, .live, .jrn, .vault, .lines, .mc, .cw, .ops, .solves, .links, .pods, .stops, .chans, .ev, .health, .free, .out] s (State.mbLoadKey x0 x1 x2 x3 x4 s) := by
  have h : Only [.modes, .pw, .part, .keep, .ports, .insts, .ctxs, .live, .jrn, .vault, .lines, .mc, .cw, .ops, .solves, .links, .pods, .stops, .chans, .ev, .health, .free, .out] s s := Only.refl _ _
  unfold State.mbLoadKey
  repeat' first | with_reducible assumption | intro _ | with_reducible apply Only.privileged | with_reducible apply Only.modPart | with_reducible apply Only.rewriteKeys | with_reducible apply Only.foldl | with_reducible apply Only.foldl_snd | extract_lets | with_reducible refine Only.ite ?_ ?_ | split | decide
theorem Only.mbLoadKey {T : List Fld} {a s : State} (h : Only T a s) (hT : [.modes, .pw, .part, .keep, .ports, .insts, .ctxs, .live, .jrn, .vault, .lines, .mc, .cw, .ops, .solves, .links, .pods, .stops, .chans, .ev, .health, .free, .out].all T.contains = true) (x0 : Nat) (x1 : Bool) (x2 : Bool) (x3 : BitVec 64) (x4 : MbHdr) : Only T a (State.mbLoadKey x0 x1 x2 x3 x4 s) := h.step (State.mbLoadKey_only x0 x1 x2 x3 x4 s) hT
theorem State.mbClearKey_only (x0 : Nat) (x1 : MbHdr) (s : State) : Only [.modes, .pw, .part, .keep, .ports, .insts, .ctxs, .live, .jrn, .vault, .lines, .mc, .cw, .ops, .solves, .links, .pods, .stops, .chans, .ev, .health, .free, .out] s (State.mbClearKey x0 x1 s) := by
  have h : Only [.modes, .pw, .part, .keep, .ports, .insts, .ctxs, .live, .jrn, .vault, .lines, .mc, .cw, .ops, .solves, .links, .pods, .stops, .chans, .ev, .health, .free, .out] s s := Only.refl _ _
  unfold State.mbClearKey
  repeat' first | with_reducible assumption | intro _ | with_reducible apply Only.privileged | with_reducible apply Only.modPart | with_reducible apply Only.rewriteKeys | with_reducible apply Only.foldl | with_reducible apply Only.foldl_snd | extract_lets | with_reducible refine Only.ite ?_ ?_ | split | decide
theorem Only.mbClearKey {T : List Fld} {a s : State} (h : Only T a s) (hT : [.modes, .pw, .part, .keep, .ports, .insts, .ctxs, .live, .jrn, .vault, .lines, .mc, .cw, .ops, .solves, .links, .pods, .stops, .chans, .ev, .health, .free, .out].all T.contains = true) (x0 : Nat) (x1 : MbHdr) : Only T a (State.mbClearKey x0 x1 s) := h.step (State.mbClearKey_only x0 x1 s) hT
theorem State.enrol_only (x0 : BitVec 384) (s : State) : Only [.otp, .ev] s (State.enrol x0 s) := by
  have h : Only [.otp, .ev] s s := Only.refl _ _
  unfold State.enrol
  repeat' first | with_reducible assumption | intro _ | with_reducible apply Only.report | with_reducible apply Only.foldl | with_reducible apply Only.foldl_snd | (with_reducible apply Only.upd_otp; first | with_reducible assumption | with_reducible apply Only.report | with_reducible apply Only.foldl | with_reducible apply Only.foldl_snd | with_reducible refine Only.ite ?_ ?_) | extract_lets | with_reducible refine Only.ite ?_ ?_ | split | decide
theorem Only.enrol {T : List Fld} {a s : State} (h : Only T a s) (hT : [.otp, .ev].all T.contains = true) (x0 : BitVec 384) : Only T a (State.enrol x0 s) := h.step (State.enrol_only x0 s) hT
theorem State.mbRotate_only (x0 : BitVec 384) (x1 : Bool) (x2 : MbHdr) (s : State) : Only [.modes, .pw, .part, .keep, .otp, .ports, .insts, .ctxs, .live, .jrn, .vault, .lines, .mc, .cw, .ops, .solves, .links, .pods, .stops, .chans, .ev, .health, .free, .out] s (State.mbRotate x0 x1 x2 s) := by
  have h : Only [.modes, .pw, .part, .keep, .otp, .ports, .insts, .ctxs, .live, .jrn, .vault, .lines, .mc, .cw, .ops, .solves, .links, .pods, .stops, .chans, .ev, .health, .free, .out] s s := Only.refl _ _
  unfold State.mbRotate
  repeat' first | with_reducible assumption | intro _ | with_reducible apply Only.unprivileged | with_reducible apply Only.enrol | with_reducible apply Only.privileged | with_reducible apply Only.foldl | with_reducible apply Only.foldl_snd | extract_lets | with_reducible refine Only.ite ?_ ?_ | split | decide
theorem Only.mbRotate {T : List Fld} {a s : State} (h : Only T a s) (hT : [.modes, .pw, .part, .keep, .otp, .ports, .insts, .ctxs, .live, .jrn, .vault, .lines, .mc, .cw, .ops, .solves, .links, .pods, .stops, .chans, .ev, .health, .free, .out].all T.contains = true) (x0 : BitVec 384) (x1 : Bool) (x2 : MbHdr) : Only T a (State.mbRotate x0 x1 x2 s) := h.step (State.mbRotate_only x0 x1 x2 s) hT
theorem State.mbRevoke_only (x0 : Fin 4) (x1 : MbHdr) (s : State) : Only [.modes, .pw, .part, .keep, .otp, .ports, .insts, .ctxs, .live, .jrn, .vault, .lines, .mc, .cw, .ops, .solves, .links, .pods, .stops, .chans, .ev, .health, .free, .out] s (State.mbRevoke x0 x1 s) := by
  have h : Only [.modes, .pw, .part, .keep, .otp, .ports, .insts, .ctxs, .live, .jrn, .vault, .lines, .mc, .cw, .ops, .solves, .links, .pods, .stops, .chans, .ev, .health, .free, .out] s s := Only.refl _ _
  unfold State.mbRevoke
  repeat' first | with_reducible assumption | intro _ | with_reducible apply Only.privileged | with_reducible apply Only.report | with_reducible apply Only.foldl | with_reducible apply Only.foldl_snd | (with_reducible apply Only.upd_otp; first | with_reducible assumption | with_reducible apply Only.privileged | with_reducible apply Only.report | with_reducible apply Only.foldl | with_reducible apply Only.foldl_snd | with_reducible refine Only.ite ?_ ?_) | extract_lets | with_reducible refine Only.ite ?_ ?_ | split | decide
theorem Only.mbRevoke {T : List Fld} {a s : State} (h : Only T a s) (hT : [.modes, .pw, .part, .keep, .otp, .ports, .insts, .ctxs, .live, .jrn, .vault, .lines, .mc, .cw, .ops, .solves, .links, .pods, .stops, .chans, .ev, .health, .free, .out].all T.contains = true) (x0 : Fin 4) (x1 : MbHdr) : Only T a (State.mbRevoke x0 x1 s) := h.step (State.mbRevoke_only x0 x1 s) hT
theorem State.mbRun_only (x0 : MbHdr) (x1 : MbBody) (s : State) : Only [.modes, .pw, .part, .keep, .otp, .flash, .format, .spares, .ports, .insts, .ctxs, .live, .jrn, .vault, .lines, .lends, .mc, .cache, .cw, .groups, .ops, .solves, .dies, .chanters, .links, .pods, .stops, .chans, .drones, .ev, .health, .free, .out] s (State.mbRun x0 x1 s) := by
  have h : Only [.modes, .pw, .part, .keep, .otp, .flash, .format, .spares, .ports, .insts, .ctxs, .live, .jrn, .vault, .lines, .lends, .mc, .cache, .cw, .groups, .ops, .solves, .dies, .chanters, .links, .pods, .stops, .chans, .drones, .ev, .health, .free, .out] s s := Only.refl _ _
  unfold State.mbRun
  repeat' first | with_reducible assumption | intro _ | with_reducible apply Only.mbGetChallenge | with_reducible apply Only.mbReadIdentity | with_reducible apply Only.mbReadStatus | with_reducible apply Only.mbSetThreshOvr | with_reducible apply Only.mbClearBackup | with_reducible apply Only.mbRelease | with_reducible apply Only.mbUpdateLock | with_reducible apply Only.mbSetRpl | with_reducible apply Only.mbLoadKey | with_reducible apply Only.mbClearKey | with_reducible apply Only.mbRotate | with_reducible apply Only.mbRevoke | with_reducible apply Only.mbAnswer | with_reducible apply Only.foldl | with_reducible apply Only.foldl_snd | extract_lets | with_reducible refine Only.ite ?_ ?_ | split | decide
theorem Only.mbRun {T : List Fld} {a s : State} (h : Only T a s) (hT : [.modes, .pw, .part, .keep, .otp, .flash, .format, .spares, .ports, .insts, .ctxs, .live, .jrn, .vault, .lines, .lends, .mc, .cache, .cw, .groups, .ops, .solves, .dies, .chanters, .links, .pods, .stops, .chans, .drones, .ev, .health, .free, .out].all T.contains = true) (x0 : MbHdr) (x1 : MbBody) : Only T a (State.mbRun x0 x1 s) := h.step (State.mbRun_only x0 x1 s) hT
theorem State.mbTakeQueue_only (s : State) : Only [.modes, .pw, .part, .keep, .otp, .flash, .format, .spares, .ports, .insts, .ctxs, .live, .jrn, .vault, .lines, .lends, .mc, .cache, .cw, .groups, .ops, .solves, .dies, .chanters, .links, .pods, .stops, .chans, .drones, .ev, .health, .free, .out] s (State.mbTakeQueue s) := by
  have h : Only [.modes, .pw, .part, .keep, .otp, .flash, .format, .spares, .ports, .insts, .ctxs, .live, .jrn, .vault, .lines, .lends, .mc, .cache, .cw, .groups, .ops, .solves, .dies, .chanters, .links, .pods, .stops, .chans, .drones, .ev, .health, .free, .out] s s := Only.refl _ _
  unfold State.mbTakeQueue
  repeat' first | with_reducible assumption | intro _ | with_reducible apply Only.modPart | with_reducible apply Only.mbRun | with_reducible apply Only.foldl | with_reducible apply Only.foldl_snd | extract_lets | with_reducible refine Only.ite ?_ ?_ | split | decide
theorem Only.mbTakeQueue {T : List Fld} {a s : State} (h : Only T a s) (hT : [.modes, .pw, .part, .keep, .otp, .flash, .format, .spares, .ports, .insts, .ctxs, .live, .jrn, .vault, .lines, .lends, .mc, .cache, .cw, .groups, .ops, .solves, .dies, .chanters, .links, .pods, .stops, .chans, .drones, .ev, .health, .free, .out].all T.contains = true) : Only T a (State.mbTakeQueue s) := h.step (State.mbTakeQueue_only s) hT
theorem State.mailbox_only (x0 : MbHdr) (x1 : MbBody) (s : State) : Only [.modes, .pw, .part, .keep, .otp, .flash, .format, .spares, .ports, .insts, .ctxs, .live, .jrn, .vault, .lines, .lends, .mc, .cache, .cw, .groups, .ops, .solves, .dies, .chanters, .links, .pods, .stops, .chans, .drones, .ev, .health, .free, .out] s (State.mailbox x0 x1 s) := by
  have h : Only [.modes, .pw, .part, .keep, .otp, .flash, .format, .spares, .ports, .insts, .ctxs, .live, .jrn, .vault, .lines, .lends, .mc, .cache, .cw, .groups, .ops, .solves, .dies, .chanters, .links, .pods, .stops, .chans, .drones, .ev, .health, .free, .out] s s := Only.refl _ _
  unfold State.mailbox
  repeat' first | with_reducible assumption | intro _ | with_reducible apply Only.mbArrives | with_reducible apply Only.mbRun | with_reducible apply Only.mbTakeQueue | with_reducible apply Only.foldl | with_reducible apply Only.foldl_snd | extract_lets | with_reducible refine Only.ite ?_ ?_ | split | decide
theorem Only.mailbox {T : List Fld} {a s : State} (h : Only T a s) (hT : [.modes, .pw, .part, .keep, .otp, .flash, .format, .spares, .ports, .insts, .ctxs, .live, .jrn, .vault, .lines, .lends, .mc, .cache, .cw, .groups, .ops, .solves, .dies, .chanters, .links, .pods, .stops, .chans, .drones, .ev, .health, .free, .out].all T.contains = true) (x0 : MbHdr) (x1 : MbBody) : Only T a (State.mailbox x0 x1 s) := h.step (State.mailbox_only x0 x1 s) hT
theorem State.ctlRead_only (x0 : Nat) (x1 : Nat) (x2 : Option Nat) (s : State) : Only [.stops, .out] s (State.ctlRead x0 x1 x2 s) := by
  have h : Only [.stops, .out] s s := Only.refl _ _
  unfold State.ctlRead
  repeat' first | with_reducible assumption | intro _ | with_reducible apply Only.emit | with_reducible apply Only.modStop | with_reducible apply Only.foldl | with_reducible apply Only.foldl_snd | extract_lets | with_reducible refine Only.ite ?_ ?_ | split | decide | dsimp +zetaDelta only
theorem Only.ctlRead {T : List Fld} {a s : State} (h : Only T a s) (hT : [.stops, .out].all T.contains = true) (x0 : Nat) (x1 : Nat) (x2 : Option Nat) : Only T a (State.ctlRead x0 x1 x2 s) := h.step (State.ctlRead_only x0 x1 x2 s) hT
theorem State.sendPending_only (x0 : Nat) (s : State) : Only [.ports, .out] s (State.sendPending x0 s) := by
  have h : Only [.ports, .out] s s := Only.refl _ _
  unfold State.sendPending
  repeat' first | with_reducible assumption | intro _ | with_reducible apply Only.each | with_reducible apply Only.emit | with_reducible apply Only.modPort | with_reducible apply Only.foldl | with_reducible apply Only.foldl_snd | extract_lets | with_reducible refine Only.ite ?_ ?_ | split | decide
theorem Only.sendPending {T : List Fld} {a s : State} (h : Only T a s) (hT : [.ports, .out].all T.contains = true) (x0 : Nat) : Only T a (State.sendPending x0 s) := h.step (State.sendPending_only x0 s) hT
theorem State.writeVector_only (x0 : Nat) (x1 : Nat) (x2 : W32) (s : State) : Only [.ports, .out] s (State.writeVector x0 x1 x2 s) := by
  have h : Only [.ports, .out] s s := Only.refl _ _
  unfold State.writeVector
  repeat' first | with_reducible assumption | intro _ | with_reducible apply Only.modPort | with_reducible apply Only.sendPending | with_reducible apply Only.foldl | with_reducible apply Only.foldl_snd | extract_lets | with_reducible refine Only.ite ?_ ?_ | split | decide
theorem Only.writeVector {T : List Fld} {a s : State} (h : Only T a s) (hT : [.ports, .out].all T.contains = true) (x0 : Nat) (x1 : Nat) (x2 : W32) : Only T a (State.writeVector x0 x1 x2 s) := h.step (State.writeVector_only x0 x1 x2 s) hT
theorem State.writeBar0_only (x0 : Nat) (x1 : Nat) (x2 : W32) (s : State) : Only [.ports, .out] s (State.writeBar0 x0 x1 x2 s) := by
  have h : Only [.ports, .out] s s := Only.refl _ _
  unfold State.writeBar0
  repeat' first | with_reducible assumption | intro _ | with_reducible apply Only.writeVector | with_reducible apply Only.modPort | with_reducible apply Only.foldl | with_reducible apply Only.foldl_snd | extract_lets | with_reducible refine Only.ite ?_ ?_ | split | decide
theorem Only.writeBar0 {T : List Fld} {a s : State} (h : Only T a s) (hT : [.ports, .out].all T.contains = true) (x0 : Nat) (x1 : Nat) (x2 : W32) : Only T a (State.writeBar0 x0 x1 x2 s) := h.step (State.writeBar0_only x0 x1 x2 s) hT
theorem State.writeConfig_only (x0 : Nat) (x1 : Nat) (x2 : W32) (s : State) : Only [.ports, .insts, .ctxs, .live, .jrn, .lines, .mc, .cache, .cw, .ops, .solves, .dies, .chanters, .stops, .chans, .ev, .health, .out] s (State.writeConfig x0 x1 x2 s) := by
  have h : Only [.ports, .insts, .ctxs, .live, .jrn, .lines, .mc, .cache, .cw, .ops, .solves, .dies, .chanters, .stops, .chans, .ev, .health, .out] s s := Only.refl _ _
  unfold State.writeConfig
  repeat' first | with_reducible assumption | intro _ | with_reducible apply Only.emit | with_reducible apply Only.modPort | with_reducible apply Only.sendPending | with_reducible apply Only.clearPasid | with_reducible apply Only.foldl | with_reducible apply Only.foldl_snd | extract_lets | with_reducible refine Only.ite ?_ ?_ | split | decide
theorem Only.writeConfig {T : List Fld} {a s : State} (h : Only T a s) (hT : [.ports, .insts, .ctxs, .live, .jrn, .lines, .mc, .cache, .cw, .ops, .solves, .dies, .chanters, .stops, .chans, .ev, .health, .out].all T.contains = true) (x0 : Nat) (x1 : Nat) (x2 : W32) : Only T a (State.writeConfig x0 x1 x2 s) := h.step (State.writeConfig_only x0 x1 x2 s) hT
theorem State.writeHostDword_only (x0 : Nat) (x1 : W32) (s : State) : Only [.ports, .insts, .ctxs, .live, .jrn, .lines, .mc, .cache, .cw, .ops, .solves, .dies, .chanters, .stops, .chans, .ev, .health, .out] s (State.writeHostDword x0 x1 s) := by
  have h : Only [.ports, .insts, .ctxs, .live, .jrn, .lines, .mc, .cache, .cw, .ops, .solves, .dies, .chanters, .stops, .chans, .ev, .health, .out] s s := Only.refl _ _
  unfold State.writeHostDword
  repeat' first | with_reducible assumption | intro _ | with_reducible apply Only.writeBar0 | with_reducible apply Only.writeConfig | with_reducible apply Only.foldl | with_reducible apply Only.foldl_snd | extract_lets | with_reducible refine Only.ite ?_ ?_ | split | decide
theorem Only.writeHostDword {T : List Fld} {a s : State} (h : Only T a s) (hT : [.ports, .insts, .ctxs, .live, .jrn, .lines, .mc, .cache, .cw, .ops, .solves, .dies, .chanters, .stops, .chans, .ev, .health, .out].all T.contains = true) (x0 : Nat) (x1 : W32) : Only T a (State.writeHostDword x0 x1 s) := h.step (State.writeHostDword_only x0 x1 s) hT
theorem State.writeHost_only (x0 : Nat) (x1 : Bool) (x2 : W64) (s : State) : Only [.ports, .insts, .ctxs, .live, .jrn, .lines, .mc, .cache, .cw, .ops, .solves, .dies, .chanters, .stops, .chans, .ev, .health, .out] s (State.writeHost x0 x1 x2 s) := by
  have h : Only [.ports, .insts, .ctxs, .live, .jrn, .lines, .mc, .cache, .cw, .ops, .solves, .dies, .chanters, .stops, .chans, .ev, .health, .out] s s := Only.refl _ _
  unfold State.writeHost
  repeat' first | with_reducible assumption | intro _ | with_reducible apply Only.writeHostDword | with_reducible apply Only.foldl | with_reducible apply Only.foldl_snd | extract_lets | with_reducible refine Only.ite ?_ ?_ | split | decide
theorem Only.writeHost {T : List Fld} {a s : State} (h : Only T a s) (hT : [.ports, .insts, .ctxs, .live, .jrn, .lines, .mc, .cache, .cw, .ops, .solves, .dies, .chanters, .stops, .chans, .ev, .health, .out].all T.contains = true) (x0 : Nat) (x1 : Bool) (x2 : W64) : Only T a (State.writeHost x0 x1 x2 s) := h.step (State.writeHost_only x0 x1 x2 s) hT
theorem State.writeKr_only (x0 : Nat) (x1 : W64) (s : State) : Only [.part, .keep] s (State.writeKr x0 x1 s) := by
  have h : Only [.part, .keep] s s := Only.refl _ _
  unfold State.writeKr
  repeat' first | with_reducible assumption | intro _ | with_reducible apply Only.keepWrite | with_reducible apply Only.foldl | with_reducible apply Only.foldl_snd | extract_lets | with_reducible refine Only.ite ?_ ?_ | split | decide
theorem Only.writeKr {T : List Fld} {a s : State} (h : Only T a s) (hT : [.part, .keep].all T.contains = true) (x0 : Nat) (x1 : W64) : Only T a (State.writeKr x0 x1 s) := h.step (State.writeKr_only x0 x1 s) hT
theorem State.setBay_only (x0 : Nat) (x1 : Bool) (s : State) : Only [.pods, .out] s (State.setBay x0 x1 s) := by
  have h : Only [.pods, .out] s s := Only.refl _ _
  unfold State.setBay
  repeat' first | with_reducible assumption | intro _ | with_reducible apply Only.modPod | with_reducible apply Only.emit | with_reducible apply Only.foldl | with_reducible apply Only.foldl_snd | extract_lets | with_reducible refine Only.ite ?_ ?_ | split | decide
theorem Only.setBay {T : List Fld} {a s : State} (h : Only T a s) (hT : [.pods, .out].all T.contains = true) (x0 : Nat) (x1 : Bool) : Only T a (State.setBay x0 x1 s) := h.step (State.setBay_only x0 x1 s) hT
theorem State.writeSp_only (x0 : Nat) (x1 : W64) (s : State) : Only [.part, .keep, .pods, .out] s (State.writeSp x0 x1 s) := by
  have h : Only [.part, .keep, .pods, .out] s s := Only.refl _ _
  unfold State.writeSp
  repeat' first | with_reducible assumption | intro _ | with_reducible apply Only.modPart | with_reducible apply Only.each | with_reducible apply Only.setBay | with_reducible apply Only.keepWrite | with_reducible apply Only.foldl | with_reducible apply Only.foldl_snd | extract_lets | with_reducible refine Only.ite ?_ ?_ | split | decide
theorem Only.writeSp {T : List Fld} {a s : State} (h : Only T a s) (hT : [.part, .keep, .pods, .out].all T.contains = true) (x0 : Nat) (x1 : W64) : Only T a (State.writeSp x0 x1 s) := h.step (State.writeSp_only x0 x1 s) hT
theorem State.maintWay_only (x0 : Nat) (x1 : Nat) (x2 : Nat) (s : State) : Only [.jrn, .lines, .mc] s (State.maintWay x0 x1 x2 s) := by
  have h : Only [.jrn, .lines, .mc] s s := Only.refl _ _
  unfold State.maintWay
  repeat' first | with_reducible assumption | intro _ | with_reducible apply Only.writeBack | with_reducible apply Only.modSlice | with_reducible apply Only.foldl | with_reducible apply Only.foldl_snd | extract_lets | with_reducible refine Only.ite ?_ ?_ | split | decide
theorem Only.maintWay {T : List Fld} {a s : State} (h : Only T a s) (hT : [.jrn, .lines, .mc].all T.contains = true) (x0 : Nat) (x1 : Nat) (x2 : Nat) : Only T a (State.maintWay x0 x1 x2 s) := h.step (State.maintWay_only x0 x1 x2 s) hT
theorem State.maintain_only (x0 : Nat) (x1 : Nat) (x2 : Nat) (x3 : Nat) (s : State) : Only [.jrn, .lines, .mc] s (State.maintain x0 x1 x2 x3 s) := by
  have h : Only [.jrn, .lines, .mc] s s := Only.refl _ _
  unfold State.maintain
  repeat' first | with_reducible assumption | intro _ | with_reducible apply Only.each | with_reducible apply Only.modSlice | with_reducible apply Only.fill | with_reducible apply Only.maintWay | with_reducible apply Only.modMc | with_reducible apply Only.foldl | with_reducible apply Only.foldl_snd | extract_lets | with_reducible refine Only.ite ?_ ?_ | split | decide
theorem Only.maintain {T : List Fld} {a s : State} (h : Only T a s) (hT : [.jrn, .lines, .mc].all T.contains = true) (x0 : Nat) (x1 : Nat) (x2 : Nat) (x3 : Nat) : Only T a (State.maintain x0 x1 x2 x3 s) := h.step (State.maintain_only x0 x1 x2 x3 s) hT
theorem State.startMaint_only (x0 : Nat) (x1 : W64) (x2 : W64) (s : State) : Only [.ports, .insts, .ctxs, .live, .jrn, .lines, .mc, .cw, .ops, .solves, .dies, .chanters, .stops, .chans, .ev, .health, .out] s (State.startMaint x0 x1 x2 s) := by
  have h : Only [.ports, .insts, .ctxs, .live, .jrn, .lines, .mc, .cw, .ops, .solves, .dies, .chanters, .stops, .chans, .ev, .health, .out] s s := Only.refl _ _
  unfold State.startMaint
  repeat' first | with_reducible assumption | intro _ | with_reducible apply Only.retry | with_reducible apply Only.modMc | with_reducible apply Only.maintain | with_reducible apply Only.foldl | with_reducible apply Only.foldl_snd | extract_lets | with_reducible refine Only.ite ?_ ?_ | split | decide
theorem Only.startMaint {T : List Fld} {a s : State} (h : Only T a s) (hT : [.ports, .insts, .ctxs, .live, .jrn, .lines, .mc, .cw, .ops, .solves, .dies, .chanters, .stops, .chans, .ev, .health, .out].all T.contains = true) (x0 : Nat) (x1 : W64) (x2 : W64) : Only T a (State.startMaint x0 x1 x2 s) := h.step (State.startMaint_only x0 x1 x2 s) hT
theorem State.takePolicy_only (x0 : Nat) (x1 : Nat) (x2 : Nat) (s : State) : Only [.jrn, .lines, .mc] s (State.takePolicy x0 x1 x2 s) := by
  have h : Only [.jrn, .lines, .mc] s s := Only.refl _ _
  unfold State.takePolicy
  repeat' first | with_reducible assumption | intro _ | with_reducible apply Only.each | with_reducible apply Only.writeBack | with_reducible apply Only.modSlice | with_reducible apply Only.foldl | with_reducible apply Only.foldl_snd | extract_lets | with_reducible refine Only.ite ?_ ?_ | split | decide
theorem Only.takePolicy {T : List Fld} {a s : State} (h : Only T a s) (hT : [.jrn, .lines, .mc].all T.contains = true) (x0 : Nat) (x1 : Nat) (x2 : Nat) : Only T a (State.takePolicy x0 x1 x2 s) := h.step (State.takePolicy_only x0 x1 x2 s) hT
theorem State.regionMaint_only (x0 : Nat) (x1 : W64) (x2 : W64) (s : State) : Only [.ports, .insts, .ctxs, .live, .jrn, .lines, .mc, .cw, .ops, .solves, .dies, .chanters, .stops, .chans, .ev, .health, .out] s (State.regionMaint x0 x1 x2 s) := by
  have h : Only [.ports, .insts, .ctxs, .live, .jrn, .lines, .mc, .cw, .ops, .solves, .dies, .chanters, .stops, .chans, .ev, .health, .out] s s := Only.refl _ _
  unfold State.regionMaint
  repeat' first | with_reducible assumption | intro _ | with_reducible apply Only.startMaint | with_reducible apply Only.takePolicy | with_reducible apply Only.foldl | with_reducible apply Only.foldl_snd | extract_lets | with_reducible refine Only.ite ?_ ?_ | split | decide
theorem Only.regionMaint {T : List Fld} {a s : State} (h : Only T a s) (hT : [.ports, .insts, .ctxs, .live, .jrn, .lines, .mc, .cw, .ops, .solves, .dies, .chanters, .stops, .chans, .ev, .health, .out].all T.contains = true) (x0 : Nat) (x1 : W64) (x2 : W64) : Only T a (State.regionMaint x0 x1 x2 s) := h.step (State.regionMaint_only x0 x1 x2 s) hT
theorem State.askMaint_only (x0 : Nat) (x1 : W64) (x2 : W64) (s : State) : Only [.ports, .insts, .ctxs, .live, .jrn, .lines, .mc, .cw, .ops, .solves, .dies, .chanters, .stops, .chans, .ev, .health, .out] s (State.askMaint x0 x1 x2 s) := by
  have h : Only [.ports, .insts, .ctxs, .live, .jrn, .lines, .mc, .cw, .ops, .solves, .dies, .chanters, .stops, .chans, .ev, .health, .out] s s := Only.refl _ _
  unfold State.askMaint
  repeat' first | with_reducible assumption | intro _ | with_reducible apply Only.modMc | with_reducible apply Only.regionMaint | with_reducible apply Only.foldl | with_reducible apply Only.foldl_snd | extract_lets | with_reducible refine Only.ite ?_ ?_ | split | decide
theorem Only.askMaint {T : List Fld} {a s : State} (h : Only T a s) (hT : [.ports, .insts, .ctxs, .live, .jrn, .lines, .mc, .cw, .ops, .solves, .dies, .chanters, .stops, .chans, .ev, .health, .out].all T.contains = true) (x0 : Nat) (x1 : W64) (x2 : W64) : Only T a (State.askMaint x0 x1 x2 s) := h.step (State.askMaint_only x0 x1 x2 s) hT
theorem State.putRegion_only (x0 : Nat) (x1 : W64) (s : State) : Only [.ports, .insts, .ctxs, .live, .jrn, .lines, .mc, .cw, .ops, .solves, .dies, .chanters, .stops, .chans, .ev, .health, .out] s (State.putRegion x0 x1 s) := by
  have h : Only [.ports, .insts, .ctxs, .live, .jrn, .lines, .mc, .cw, .ops, .solves, .dies, .chanters, .stops, .chans, .ev, .health, .out] s s := Only.refl _ _
  unfold State.putRegion
  repeat' first | with_reducible assumption | intro _ | with_reducible apply Only.modMc | with_reducible apply Only.report | with_reducible apply Only.each | with_reducible apply Only.modSlice | with_reducible apply Only.askMaint | with_reducible apply Only.foldl | with_reducible apply Only.foldl_snd | extract_lets | with_reducible refine Only.ite ?_ ?_ | split | decide
theorem Only.putRegion {T : List Fld} {a s : State} (h : Only T a s) (hT : [.ports, .insts, .ctxs, .live, .jrn, .lines, .mc, .cw, .ops, .solves, .dies, .chanters, .stops, .chans, .ev, .health, .out].all T.contains = true) (x0 : Nat) (x1 : W64) : Only T a (State.putRegion x0 x1 s) := h.step (State.putRegion_only x0 x1 s) hT
theorem State.maintCmd_only (x0 : Nat) (s : State) : Only [.ports, .insts, .ctxs, .live, .jrn, .lines, .mc, .cw, .ops, .solves, .dies, .chanters, .stops, .chans, .ev, .health, .out] s (State.maintCmd x0 s) := by
  have h : Only [.ports, .insts, .ctxs, .live, .jrn, .lines, .mc, .cw, .ops, .solves, .dies, .chanters, .stops, .chans, .ev, .health, .out] s s := Only.refl _ _
  unfold State.maintCmd
  repeat' first | with_reducible assumption | intro _ | with_reducible apply Only.modMc | with_reducible apply Only.startMaint | with_reducible apply Only.foldl | with_reducible apply Only.foldl_snd | extract_lets | with_reducible refine Only.ite ?_ ?_ | split | decide
theorem Only.maintCmd {T : List Fld} {a s : State} (h : Only T a s) (hT : [.ports, .insts, .ctxs, .live, .jrn, .lines, .mc, .cw, .ops, .solves, .dies, .chanters, .stops, .chans, .ev, .health, .out].all T.contains = true) (x0 : Nat) : Only T a (State.maintCmd x0 s) := h.step (State.maintCmd_only x0 s) hT
theorem State.writeMc_only (x0 : Writer) (x1 : Nat) (x2 : W64) (s : State) : Only [.ports, .insts, .ctxs, .live, .jrn, .lines, .mc, .cw, .ops, .solves, .dies, .chanters, .stops, .chans, .ev, .health, .out] s (State.writeMc x0 x1 x2 s) := by
  have h : Only [.ports, .insts, .ctxs, .live, .jrn, .lines, .mc, .cw, .ops, .solves, .dies, .chanters, .stops, .chans, .ev, .health, .out] s s := Only.refl _ _
  unfold State.writeMc
  repeat' first | with_reducible assumption | intro _ | with_reducible apply Only.modMc | with_reducible apply Only.putRegion | with_reducible apply Only.modSlice | with_reducible apply Only.maintCmd | with_reducible apply Only.foldl | with_reducible apply Only.foldl_snd | extract_lets | with_reducible refine Only.ite ?_ ?_ | split | decide
theorem Only.writeMc {T : List Fld} {a s : State} (h : Only T a s) (hT : [.ports, .insts, .ctxs, .live, .jrn, .lines, .mc, .cw, .ops, .solves, .dies, .chanters, .stops, .chans, .ev, .health, .out].all T.contains = true) (x0 : Writer) (x1 : Nat) (x2 : W64) : Only T a (State.writeMc x0 x1 x2 s) := h.step (State.writeMc_only x0 x1 x2 s) hT
theorem State.writeCh_only (x0 : Nat) (x1 : W64) (s : State) : Only [.format, .health] s (State.writeCh x0 x1 s) := by
  have h : Only [.format, .health] s s := Only.refl _ _
  unfold State.writeCh
  repeat' first | with_reducible assumption | intro _ | with_reducible apply Only.modHealth | with_reducible apply Only.foldl | with_reducible apply Only.foldl_snd | (with_reducible apply Only.upd_format; first | with_reducible assumption | with_reducible apply Only.modHealth | with_reducible apply Only.foldl | with_reducible apply Only.foldl_snd | with_reducible refine Only.ite ?_ ?_) | extract_lets | with_reducible refine Only.ite ?_ ?_ | split | decide
theorem Only.writeCh {T : List Fld} {a s : State} (h : Only T a s) (hT : [.format, .health].all T.contains = true) (x0 : Nat) (x1 : W64) : Only T a (State.writeCh x0 x1 s) := h.step (State.writeCh_only x0 x1 s) hT
theorem State.writeBase_only (x0 : Nat) (x1 : W64) (s : State) : Only [.chans] s (State.writeBase x0 x1 s) := by
  have h : Only [.chans] s s := Only.refl _ _
  unfold State.writeBase
  repeat' first | with_reducible assumption | intro _ | with_reducible apply Only.modChan | with_reducible apply Only.foldl | with_reducible apply Only.foldl_snd | extract_lets | with_reducible refine Only.ite ?_ ?_ | split | decide
theorem Only.writeBase {T : List Fld} {a s : State} (h : Only T a s) (hT : [.chans].all T.contains = true) (x0 : Nat) (x1 : W64) : Only T a (State.writeBase x0 x1 s) := h.step (State.writeBase_only x0 x1 s) hT
theorem State.writePause_only (x0 : Nat) (x1 : Bool) (s : State) : Only [.ports, .insts, .ctxs, .jrn, .stops, .chans, .ev, .health, .out] s (State.writePause x0 x1 s) := by
  have h : Only [.ports, .insts, .ctxs, .jrn, .stops, .chans, .ev, .health, .out] s s := Only.refl _ _
  unfold State.writePause
  repeat' first | with_reducible assumption | intro _ | with_reducible apply Only.checkOwned | with_reducible apply Only.modChan | with_reducible apply Only.foldl | with_reducible apply Only.foldl_snd | extract_lets | with_reducible refine Only.ite ?_ ?_ | split | decide
theorem Only.writePause {T : List Fld} {a s : State} (h : Only T a s) (hT : [.ports, .insts, .ctxs, .jrn, .stops, .chans, .ev, .health, .out].all T.contains = true) (x0 : Nat) (x1 : Bool) : Only T a (State.writePause x0 x1 s) := h.step (State.writePause_only x0 x1 s) hT
theorem State.writeCtrl_only (x0 : Nat) (x1 : W64) (s : State) : Only [.ports, .insts, .ctxs, .jrn, .stops, .chans, .ev, .health, .out] s (State.writeCtrl x0 x1 s) := by
  have h : Only [.ports, .insts, .ctxs, .jrn, .stops, .chans, .ev, .health, .out] s s := Only.refl _ _
  unfold State.writeCtrl
  repeat' first | with_reducible assumption | intro _ | with_reducible apply Only.updChan | with_reducible apply Only.writePause | with_reducible apply Only.writeEnable | with_reducible apply Only.foldl | with_reducible apply Only.foldl_snd | extract_lets | with_reducible refine Only.ite ?_ ?_ | split | decide
theorem Only.writeCtrl {T : List Fld} {a s : State} (h : Only T a s) (hT : [.ports, .insts, .ctxs, .jrn, .stops, .chans, .ev, .health, .out].all T.contains = true) (x0 : Nat) (x1 : W64) : Only T a (State.writeCtrl x0 x1 s) := h.step (State.writeCtrl_only x0 x1 s) hT
theorem State.writeTail_only (x0 : Nat) (x1 : Nat) (x2 : List (Nat × MvDesc)) (s : State) : Only [.ports, .insts, .ctxs, .jrn, .stops, .chans, .ev, .health, .out] s (State.writeTail x0 x1 x2 s) := by
  have h : Only [.ports, .insts, .ctxs, .jrn, .stops, .chans, .ev, .health, .out] s s := Only.refl _ _
  unfold State.writeTail
  repeat' first | with_reducible assumption | intro _ | with_reducible apply Only.checkOwned | with_reducible apply Only.modChan | with_reducible apply Only.foldl | with_reducible apply Only.foldl_snd | extract_lets | with_reducible refine Only.ite ?_ ?_ | split | decide
theorem Only.writeTail {T : List Fld} {a s : State} (h : Only T a s) (hT : [.ports, .insts, .ctxs, .jrn, .stops, .chans, .ev, .health, .out].all T.contains = true) (x0 : Nat) (x1 : Nat) (x2 : List (Nat × MvDesc)) : Only T a (State.writeTail x0 x1 x2 s) := h.step (State.writeTail_only x0 x1 x2 s) hT
theorem State.endDesc_only (x0 : Nat) (x1 : Nat) (x2 : Nat) (s : State) : Only [.ports, .insts, .ctxs, .jrn, .stops, .chans, .ev, .health, .out] s (State.endDesc x0 x1 x2 s) := by
  have h : Only [.ports, .insts, .ctxs, .jrn, .stops, .chans, .ev, .health, .out] s s := Only.refl _ _
  unfold State.endDesc
  repeat' first | with_reducible assumption | intro _ | with_reducible apply Only.checkOwned | with_reducible apply Only.updChan | with_reducible apply Only.foldl | with_reducible apply Only.foldl_snd | extract_lets | with_reducible refine Only.ite ?_ ?_ | split | decide
theorem Only.endDesc {T : List Fld} {a s : State} (h : Only T a s) (hT : [.ports, .insts, .ctxs, .jrn, .stops, .chans, .ev, .health, .out].all T.contains = true) (x0 : Nat) (x1 : Nat) (x2 : Nat) : Only T a (State.endDesc x0 x1 x2 s) := h.step (State.endDesc_only x0 x1 x2 s) hT
theorem State.writePace_only (x0 : Nat) (x1 : Bool) (s : State) : Only [.ports, .insts, .ctxs, .jrn, .stops, .chans, .ev, .health, .out] s (State.writePace x0 x1 s) := by
  have h : Only [.ports, .insts, .ctxs, .jrn, .stops, .chans, .ev, .health, .out] s s := Only.refl _ _
  unfold State.writePace
  repeat' first | with_reducible assumption | intro _ | with_reducible apply Only.modChan | with_reducible apply Only.endDesc | with_reducible apply Only.foldl | with_reducible apply Only.foldl_snd | extract_lets | with_reducible refine Only.ite ?_ ?_ | split | decide
theorem Only.writePace {T : List Fld} {a s : State} (h : Only T a s) (hT : [.ports, .insts, .ctxs, .jrn, .stops, .chans, .ev, .health, .out].all T.contains = true) (x0 : Nat) (x1 : Bool) : Only T a (State.writePace x0 x1 s) := h.step (State.writePace_only x0 x1 s) hT
theorem State.writeDm_only (x0 : Nat) (x1 : Nat) (x2 : W64) (s : State) : Only [.ports, .insts, .ctxs, .jrn, .stops, .chans, .ev, .health, .out] s (State.writeDm x0 x1 x2 s) := by
  have h : Only [.ports, .insts, .ctxs, .jrn, .stops, .chans, .ev, .health, .out] s s := Only.refl _ _
  unfold State.writeDm
  repeat' first | with_reducible assumption | intro _ | with_reducible apply Only.writeBase | with_reducible apply Only.writeCtrl | with_reducible apply Only.writeTail | with_reducible apply Only.updChan | with_reducible apply Only.writePace | with_reducible apply Only.foldl | with_reducible apply Only.foldl_snd | extract_lets | with_reducible refine Only.ite ?_ ?_ | split | decide
theorem Only.writeDm {T : List Fld} {a s : State} (h : Only T a s) (hT : [.ports, .insts, .ctxs, .jrn, .stops, .chans, .ev, .health, .out].all T.contains = true) (x0 : Nat) (x1 : Nat) (x2 : W64) : Only T a (State.writeDm x0 x1 x2 s) := h.step (State.writeDm_only x0 x1 x2 s) hT
theorem State.writeShell_only (x0 : Nat) (x1 : Nat) (x2 : W64) (s : State) : Only [.stops] s (State.writeShell x0 x1 x2 s) := by
  have h : Only [.stops] s s := Only.refl _ _
  unfold State.writeShell
  repeat' first | with_reducible assumption | intro _ | with_reducible apply Only.modStop | with_reducible apply Only.foldl | with_reducible apply Only.foldl_snd | extract_lets | with_reducible refine Only.ite ?_ ?_ | split | decide
theorem Only.writeShell {T : List Fld} {a s : State} (h : Only T a s) (hT : [.stops].all T.contains = true) (x0 : Nat) (x1 : Nat) (x2 : W64) : Only T a (State.writeShell x0 x1 x2 s) := h.step (State.writeShell_only x0 x1 x2 s) hT
theorem State.ctlWrite_only (x0 : Nat) (x1 : Nat) (x2 : W64) (s : State) : Only [.out] s (State.ctlWrite x0 x1 x2 s) := by
  have h : Only [.out] s s := Only.refl _ _
  unfold State.ctlWrite
  repeat' first | with_reducible assumption | intro _ | with_reducible apply Only.emit | with_reducible apply Only.foldl | with_reducible apply Only.foldl_snd | extract_lets | with_reducible refine Only.ite ?_ ?_ | split | decide
theorem Only.ctlWrite {T : List Fld} {a s : State} (h : Only T a s) (hT : [.out].all T.contains = true) (x0 : Nat) (x1 : Nat) (x2 : W64) : Only T a (State.ctlWrite x0 x1 x2 s) := h.step (State.ctlWrite_only x0 x1 x2 s) hT
theorem State.writeReg_only (x0 : Writer) (x1 : Nat) (x2 : W64) (s : State) : Only [.part, .keep, .flash, .format, .ports, .insts, .ctxs, .live, .jrn, .lines, .mc, .cache, .cw, .ops, .solves, .dies, .chanters, .pods, .stops, .chans, .ev, .health, .out] s (State.writeReg x0 x1 x2 s) := by
  have h : Only [.part, .keep, .flash, .format, .ports, .insts, .ctxs, .live, .jrn, .lines, .mc, .cache, .cw, .ops, .solves, .dies, .chanters, .pods, .stops, .chans, .ev, .health, .out] s s := Only.refl _ _
  unfold State.writeReg
  repeat' first | with_reducible assumption | intro _ | with_reducible apply Only.writeHost | with_reducible apply Only.writeKr | with_reducible apply Only.writeSp | with_reducible apply Only.modFlash | with_reducible apply Only.writeMc | with_reducible apply Only.writeCh | with_reducible apply Only.writeDm | with_reducible apply Only.writeShell | with_reducible apply Only.ctlWrite | with_reducible apply Only.foldl | with_reducible apply Only.foldl_snd | extract_lets | with_reducible refine Only.ite ?_ ?_ | split | decide
theorem Only.writeReg {T : List Fld} {a s : State} (h : Only T a s) (hT : [.part, .keep, .flash, .format, .ports, .insts, .ctxs, .live, .jrn, .lines, .mc, .cache, .cw, .ops, .solves, .dies, .chanters, .pods, .stops, .chans, .ev, .health, .out].all T.contains = true) (x0 : Writer) (x1 : Nat) (x2 : W64) : Only T a (State.writeReg x0 x1 x2 s) := h.step (State.writeReg_only x0 x1 x2 s) hT
theorem State.hold_only (x0 : Nat) (s : State) : Only [.modes, .ports, .chans] s (State.hold x0 s).2 := by
  have h : Only [.modes, .ports, .chans] s s := Only.refl _ _
  unfold State.hold
  repeat' first | with_reducible assumption | intro _ | with_reducible apply Only.modModes | with_reducible apply Only.enterQuiesce | with_reducible apply Only.foldl | with_reducible apply Only.foldl_snd | extract_lets | with_reducible refine Only.ite ?_ ?_ | split | decide
theorem Only.hold {T : List Fld} {a s : State} (h : Only T a s) (hT : [.modes, .ports, .chans].all T.contains = true) (x0 : Nat) : Only T a (State.hold x0 s).2 := h.step (State.hold_only x0 s) hT
theorem Only.hold_eq {T : List Fld} {a s : State} (h : Only T a s) (hT : [.modes, .ports, .chans].all T.contains = true) (x0 : Nat) {r t} (e : State.hold x0 s = (r, t)) : Only T a t := h.step (by have := State.hold_only x0 s; rw [e] at this; exact this) hT
theorem State.reviewPs_only (s : State) : Only [.modes] s (State.reviewPs s) := by
  have h : Only [.modes] s s := Only.refl _ _
  unfold State.reviewPs
  repeat' first | with_reducible assumption | intro _ | with_reducible apply Only.modModes | with_reducible apply Only.foldl | with_reducible apply Only.foldl_snd | extract_lets | with_reducible refine Only.ite ?_ ?_ | split | decide
theorem Only.reviewPs {T : List Fld} {a s : State} (h : Only T a s) (hT : [.modes].all T.contains = true) : Only T a (State.reviewPs s) := h.step (State.reviewPs_only s) hT
theorem State.leaveQuiesce_only (s : State) : Only [.modes, .ports, .insts, .ctxs, .jrn, .stops, .chans, .ev, .health, .out] s (State.leaveQuiesce s) := by
  have h : Only [.modes, .ports, .insts, .ctxs, .jrn, .stops, .chans, .ev, .health, .out] s s := Only.refl _ _
  unfold State.leaveQuiesce
  repeat' first | with_reducible assumption | intro _ | with_reducible apply Only.modModes | with_reducible apply Only.allPorts | with_reducible apply Only.modPort | with_reducible apply Only.each | with_reducible apply Only.checkOwned | with_reducible apply Only.modChan | with_reducible apply Only.reviewPs | with_reducible apply Only.foldl | with_reducible apply Only.foldl_snd | extract_lets | with_reducible refine Only.ite ?_ ?_ | split | decide
theorem Only.leaveQuiesce {T : List Fld} {a s : State} (h : Only T a s) (hT : [.modes, .ports, .insts, .ctxs, .jrn, .stops, .chans, .ev, .health, .out].all T.contains = true) : Only T a (State.leaveQuiesce s) := h.step (State.leaveQuiesce_only s) hT
theorem State.endHold_only (s : State) : Only [.modes, .ports, .insts, .ctxs, .jrn, .stops, .chans, .ev, .health, .out] s (State.endHold s) := by
  have h : Only [.modes, .ports, .insts, .ctxs, .jrn, .stops, .chans, .ev, .health, .out] s s := Only.refl _ _
  unfold State.endHold
  repeat' first | with_reducible assumption | intro _ | with_reducible apply Only.leaveQuiesce | with_reducible apply Only.modModes | with_reducible apply Only.foldl | with_reducible apply Only.foldl_snd | extract_lets | with_reducible refine Only.ite ?_ ?_ | split | decide
theorem Only.endHold {T : List Fld} {a s : State} (h : Only T a s) (hT : [.modes, .ports, .insts, .ctxs, .jrn, .stops, .chans, .ev, .health, .out].all T.contains = true) : Only T a (State.endHold s) := h.step (State.endHold_only s) hT
theorem State.releaseHold_only (s : State) : Only [.modes, .ports, .insts, .ctxs, .jrn, .stops, .chans, .ev, .health, .out] s (State.releaseHold s).2 := by
  have h : Only [.modes, .ports, .insts, .ctxs, .jrn, .stops, .chans, .ev, .health, .out] s s := Only.refl _ _
  unfold State.releaseHold
  repeat' first | with_reducible assumption | intro _ | with_reducible apply Only.endHold | with_reducible apply Only.foldl | with_reducible apply Only.foldl_snd | extract_lets | with_reducible refine Only.ite ?_ ?_ | split | decide
theorem Only.releaseHold {T : List Fld} {a s : State} (h : Only T a s) (hT : [.modes, .ports, .insts, .ctxs, .jrn, .stops, .chans, .ev, .health, .out].all T.contains = true) : Only T a (State.releaseHold s).2 := h.step (State.releaseHold_only s) hT
theorem Only.releaseHold_eq {T : List Fld} {a s : State} (h : Only T a s) (hT : [.modes, .ports, .insts, .ctxs, .jrn, .stops, .chans, .ev, .health, .out].all T.contains = true)  {r t} (e : State.releaseHold s = (r, t)) : Only T a t := h.step (by have := State.releaseHold_only s; rw [e] at this; exact this) hT
theorem State.miDirect_only (x0 : MiRequest) (s : State) : Only [.modes, .part, .keep, .flash, .format, .ports, .insts, .ctxs, .nextCtx, .live, .jrn, .lines, .mc, .cache, .cw, .ops, .solves, .dies, .chanters, .pods, .stops, .chans, .ev, .health, .free, .out] s (State.miDirect x0 s).2 := by
  have h : Only [.modes, .part, .keep, .flash, .format, .ports, .insts, .ctxs, .nextCtx, .live, .jrn, .lines, .mc, .cache, .cw, .ops, .solves, .dies, .chanters, .pods, .stops, .chans, .ev, .health, .free, .out] s s := Only.refl _ _
  unfold State.miDirect
  repeat' first | with_reducible assumption | intro _ | with_reducible apply Only.miAdmin | with_reducible apply Only.ctlRead | with_reducible apply Only.drew | with_reducible apply Only.writeReg | refine Only.hold_eq (h := ?_) (hT := by decide) (e := by with_reducible assumption) .. | with_reducible apply Only.hold | refine Only.releaseHold_eq (h := ?_) (hT := by decide) (e := by with_reducible assumption) .. | with_reducible apply Only.releaseHold | with_reducible apply Only.emit | with_reducible apply Only.mbArrives | with_reducible apply Only.mbAnswer | with_reducible apply Only.foldl | with_reducible apply Only.foldl_snd | extract_lets | with_reducible refine Only.ite ?_ ?_ | split | decide
theorem Only.miDirect {T : List Fld} {a s : State} (h : Only T a s) (hT : [.modes, .part, .keep, .flash, .format, .ports, .insts, .ctxs, .nextCtx, .live, .jrn, .lines, .mc, .cache, .cw, .ops, .solves, .dies, .chanters, .pods, .stops, .chans, .ev, .health, .free, .out].all T.contains = true) (x0 : MiRequest) : Only T a (State.miDirect x0 s).2 := h.step (State.miDirect_only x0 s) hT
theorem Only.miDirect_eq {T : List Fld} {a s : State} (h : Only T a s) (hT : [.modes, .part, .keep, .flash, .format, .ports, .insts, .ctxs, .nextCtx, .live, .jrn, .lines, .mc, .cache, .cw, .ops, .solves, .dies, .chanters, .pods, .stops, .chans, .ev, .health, .free, .out].all T.contains = true) (x0 : MiRequest) {r t} (e : State.miDirect x0 s = (r, t)) : Only T a t := h.step (by have := State.miDirect_only x0 s; rw [e] at this; exact this) hT
theorem State.miServe_only (x0 : MiRequest) (s : State) : Only [.modes, .part, .keep, .flash, .format, .ports, .insts, .ctxs, .nextCtx, .live, .jrn, .lines, .mc, .cache, .cw, .ops, .solves, .dies, .chanters, .pods, .stops, .chans, .ev, .health, .free, .out] s (State.miServe x0 s) := by
  have h : Only [.modes, .part, .keep, .flash, .format, .ports, .insts, .ctxs, .nextCtx, .live, .jrn, .lines, .mc, .cache, .cw, .ops, .solves, .dies, .chanters, .pods, .stops, .chans, .ev, .health, .free, .out] s s := Only.refl _ _
  unfold State.miServe
  repeat' first | with_reducible assumption | intro _ | refine Only.miDirect_eq (h := ?_) (hT := by decide) (e := by with_reducible assumption) .. | with_reducible apply Only.miDirect | with_reducible apply Only.emit | with_reducible apply Only.foldl | with_reducible apply Only.foldl_snd | extract_lets | with_reducible refine Only.ite ?_ ?_ | split | decide
theorem Only.miServe {T : List Fld} {a s : State} (h : Only T a s) (hT : [.modes, .part, .keep, .flash, .format, .ports, .insts, .ctxs, .nextCtx, .live, .jrn, .lines, .mc, .cache, .cw, .ops, .solves, .dies, .chanters, .pods, .stops, .chans, .ev, .health, .free, .out].all T.contains = true) (x0 : MiRequest) : Only T a (State.miServe x0 s) := h.step (State.miServe_only x0 s) hT
theorem State.linkBack_only (x0 : Nat) (s : State) : Only [.ops, .links] s (State.linkBack x0 s) := by
  have h : Only [.ops, .links] s s := Only.refl _ _
  unfold State.linkBack
  repeat' first | with_reducible assumption | intro _ | with_reducible apply Only.modLink | with_reducible apply Only.foldl | with_reducible apply Only.foldl_snd | (with_reducible apply Only.upd_ops; first | with_reducible assumption | with_reducible apply Only.modLink | with_reducible apply Only.foldl | with_reducible apply Only.foldl_snd | with_reducible refine Only.ite ?_ ?_) | extract_lets | with_reducible refine Only.ite ?_ ?_ | split | decide
theorem Only.linkBack {T : List Fld} {a s : State} (h : Only T a s) (hT : [.ops, .links].all T.contains = true) (x0 : Nat) : Only T a (State.linkBack x0 s) := h.step (State.linkBack_only x0 s) hT
theorem Only.selfTestOf {T : List Fld} {a s : State} (h : Only T a s) (hT : [].all T.contains = true) (x0 : Nat) (x1 : Nat) (x2 : State → State) (hg : ∀  t, Only T a t → Only T a (x2 t)) : Only T a (State.selfTestOf x0 x1 x2 s) := by
  unfold State.selfTestOf
  repeat' first | with_reducible assumption | intro _ | with_reducible apply hg | with_reducible apply Only.admin | with_reducible apply Only.foldl | with_reducible apply Only.foldl_snd | extract_lets | with_reducible refine Only.ite ?_ ?_
theorem State.wake_only (x0 : Nat) (s : State) : Only [.modes, .ports] s (State.wake x0 s) := by
  have h : Only [.modes, .ports] s s := Only.refl _ _
  unfold State.wake
  repeat' first | with_reducible assumption | intro _ | with_reducible apply Only.modPort | with_reducible apply Only.modModes | with_reducible apply Only.foldl | with_reducible apply Only.foldl_snd | extract_lets | with_reducible refine Only.ite ?_ ?_ | split | decide
theorem Only.wake {T : List Fld} {a s : State} (h : Only T a s) (hT : [.modes, .ports].all T.contains = true) (x0 : Nat) : Only T a (State.wake x0 s) := h.step (State.wake_only x0 s) hT
theorem State.adminQueues_only (x0 : Nat) (x1 : Nat) (x2 : Nat) (s : State) : Only [.insts] s (State.adminQueues x0 x1 x2 s) := by
  have h : Only [.insts] s s := Only.refl _ _
  unfold State.adminQueues
  repeat' first | with_reducible assumption | intro _ | with_reducible apply Only.modInst | with_reducible apply Only.foldl | with_reducible apply Only.foldl_snd | extract_lets | with_reducible refine Only.ite ?_ ?_ | split | decide
theorem Only.adminQueues {T : List Fld} {a s : State} (h : Only T a s) (hT : [.insts].all T.contains = true) (x0 : Nat) (x1 : Nat) (x2 : Nat) : Only T a (State.adminQueues x0 x1 x2 s) := h.step (State.adminQueues_only x0 x1 x2 s) hT
theorem State.dropAdmin_only (x0 : Nat) (s : State) : Only [.ctxs] s (State.dropAdmin x0 s) := by
  have h : Only [.ctxs] s s := Only.refl _ _
  unfold State.dropAdmin
  repeat' first | with_reducible assumption | intro _ | with_reducible apply Only.foldl | with_reducible apply Only.foldl_snd | (with_reducible apply Only.upd_ctxs; first | with_reducible assumption | with_reducible apply Only.foldl | with_reducible apply Only.foldl_snd | with_reducible refine Only.ite ?_ ?_) | extract_lets | with_reducible refine Only.ite ?_ ?_ | split | decide
theorem Only.dropAdmin {T : List Fld} {a s : State} (h : Only T a s) (hT : [.ctxs].all T.contains = true) (x0 : Nat) : Only T a (State.dropAdmin x0 s) := h.step (State.dropAdmin_only x0 s) hT
theorem State.discardGen_only (x0 : Nat) (x1 : W16) (s : State) : Only [.insts, .ctxs, .ended, .stops, .out] s (State.discardGen x0 x1 s) := by
  have h : Only [.insts, .ctxs, .ended, .stops, .out] s s := Only.refl _ _
  unfold State.discardGen
  repeat' first | with_reducible assumption | intro _ | with_reducible apply Only.each | with_reducible apply Only.dropCtx | with_reducible apply Only.leaveStop | with_reducible apply Only.lateDiscard | with_reducible apply Only.foldl | with_reducible apply Only.foldl_snd | (with_reducible apply Only.upd_ended; first | with_reducible assumption | with_reducible apply Only.each | with_reducible apply Only.dropCtx | with_reducible apply Only.leaveStop | with_reducible apply Only.lateDiscard | with_reducible apply Only.foldl | with_reducible apply Only.foldl_snd | with_reducible refine Only.ite ?_ ?_) | extract_lets | with_reducible refine Only.ite ?_ ?_ | split | decide
theorem Only.discardGen {T : List Fld} {a s : State} (h : Only T a s) (hT : [.insts, .ctxs, .ended, .stops, .out].all T.contains = true) (x0 : Nat) (x1 : W16) : Only T a (State.discardGen x0 x1 s) := h.step (State.discardGen_only x0 x1 s) hT
theorem State.endSilent_only (x0 : Nat) (s : State) : Only [.insts, .ctxs, .ended, .live, .jrn, .lines, .mc, .cache, .cw, .ops, .stops, .free, .out] s (State.endSilent x0 s) := by
  have h : Only [.insts, .ctxs, .ended, .live, .jrn, .lines, .mc, .cache, .cw, .ops, .stops, .free, .out] s s := Only.refl _ _
  unfold State.endSilent
  repeat' first | with_reducible assumption | intro _ | with_reducible apply Only.endWrite | with_reducible apply Only.modInst | with_reducible apply Only.dropCtx | with_reducible apply Only.dropOps | with_reducible apply Only.leaveStop | with_reducible apply Only.capTrim | with_reducible apply Only.foldl | with_reducible apply Only.foldl_snd | (with_reducible apply Only.upd_ended; first | with_reducible assumption | with_reducible apply Only.endWrite | with_reducible apply Only.modInst | with_reducible apply Only.dropCtx | with_reducible apply Only.dropOps | with_reducible apply Only.leaveStop | with_reducible apply Only.capTrim | with_reducible apply Only.foldl | with_reducible apply Only.foldl_snd | with_reducible refine Only.ite ?_ ?_) | extract_lets | with_reducible refine Only.ite ?_ ?_ | split | decide
theorem Only.endSilent {T : List Fld} {a s : State} (h : Only T a s) (hT : [.insts, .ctxs, .ended, .live, .jrn, .lines, .mc, .cache, .cw, .ops, .stops, .free, .out].all T.contains = true) (x0 : Nat) : Only T a (State.endSilent x0 s) := h.step (State.endSilent_only x0 s) hT
theorem State.resetChans_only (x0 : Nat) (x1 : Nat) (s : State) : Only [.insts, .chans, .out] s (State.resetChans x0 x1 s) := by
  have h : Only [.insts, .chans, .out] s s := Only.refl _ _
  unfold State.resetChans
  repeat' first | with_reducible assumption | intro _ | with_reducible apply Only.each | with_reducible apply Only.haltChan | with_reducible apply Only.lateDiscard | with_reducible apply Only.foldl | with_reducible apply Only.foldl_snd | extract_lets | with_reducible refine Only.ite ?_ ?_ | split | decide
theorem Only.resetChans {T : List Fld} {a s : State} (h : Only T a s) (hT : [.insts, .chans, .out].all T.contains = true) (x0 : Nat) (x1 : Nat) : Only T a (State.resetChans x0 x1 s) := h.step (State.resetChans_only x0 x1 s) hT
theorem State.resetStops_only (x0 : Nat) (s : State) : Only [.insts, .stops, .chans, .out] s (State.resetStops x0 s) := by
  have h : Only [.insts, .stops, .chans, .out] s s := Only.refl _ _
  unfold State.resetStops
  repeat' first | with_reducible assumption | intro _ | with_reducible apply Only.each | with_reducible apply Only.modStop | with_reducible apply Only.resetChans | with_reducible apply Only.foldl | with_reducible apply Only.foldl_snd | extract_lets | with_reducible refine Only.ite ?_ ?_ | split | decide
theorem Only.resetStops {T : List Fld} {a s : State} (h : Only T a s) (hT : [.insts, .stops, .chans, .out].all T.contains = true) (x0 : Nat) : Only T a (State.resetStops x0 s) := h.step (State.resetStops_only x0 s) hT
theorem State.dropWithheld_only (x0 : Nat) (s : State) : Only [.ports, .insts, .ctxs] s (State.dropWithheld x0 s) := by
  have h : Only [.ports, .insts, .ctxs] s s := Only.refl _ _
  unfold State.dropWithheld
  repeat' first | with_reducible assumption | intro _ | with_reducible apply Only.dropCtx | with_reducible apply Only.lateDiscard | with_reducible apply Only.modInst | with_reducible apply Only.modPort | with_reducible apply Only.foldl | with_reducible apply Only.foldl_snd | extract_lets | with_reducible refine Only.ite ?_ ?_ | split | decide
theorem Only.dropWithheld {T : List Fld} {a s : State} (h : Only T a s) (hT : [.ports, .insts, .ctxs].all T.contains = true) (x0 : Nat) : Only T a (State.dropWithheld x0 s) := h.step (State.dropWithheld_only x0 s) hT
theorem State.resetInst_only (x0 : Nat) (s : State) : Only [.ports, .insts, .ctxs, .ended, .live, .jrn, .lines, .mc, .cache, .cw, .ops, .solves, .dies, .chanters, .stops, .chans, .ev, .health, .free, .out] s (State.resetInst x0 s) := by
  have h : Only [.ports, .insts, .ctxs, .ended, .live, .jrn, .lines, .mc, .cache, .cw, .ops, .solves, .dies, .chanters, .stops, .chans, .ev, .health, .free, .out] s s := Only.refl _ _
  unfold State.resetInst
  repeat' first | with_reducible assumption | intro _ | with_reducible apply Only.applyChange | with_reducible apply Only.logInst | with_reducible apply Only.discardGen | with_reducible apply Only.each | with_reducible apply Only.endSilent | with_reducible apply Only.modCtx | with_reducible apply Only.resetStops | with_reducible apply Only.dropWithheld | with_reducible apply Only.retry | with_reducible apply Only.modInst | with_reducible apply Only.foldl | with_reducible apply Only.foldl_snd | extract_lets | with_reducible refine Only.ite ?_ ?_ | split | decide
theorem Only.resetInst {T : List Fld} {a s : State} (h : Only T a s) (hT : [.ports, .insts, .ctxs, .ended, .live, .jrn, .lines, .mc, .cache, .cw, .ops, .solves, .dies, .chanters, .stops, .chans, .ev, .health, .free, .out].all T.contains = true) (x0 : Nat) : Only T a (State.resetInst x0 s) := h.step (State.resetInst_only x0 s) hT
theorem State.newLayout_only (s : State) : Only [.mc, .free] s (State.newLayout s) := by
  have h : Only [.mc, .free] s s := Only.refl _ _
  unfold State.newLayout
  repeat' first | with_reducible assumption | intro _ | with_reducible apply Only.drew | with_reducible apply Only.modMc | with_reducible apply Only.foldl | with_reducible apply Only.foldl_snd | extract_lets | with_reducible refine Only.ite ?_ ?_ | split | decide
theorem Only.newLayout {T : List Fld} {a s : State} (h : Only T a s) (hT : [.mc, .free].all T.contains = true) : Only T a (State.newLayout s) := h.step (State.newLayout_only s) hT
theorem State.dropLends_only (x0 : Nat) (x1 : Lend → Bool) (s : State) : Only [.lends, .mc, .free] s (State.dropLends x0 x1 s) := by
  have h : Only [.lends, .mc, .free] s s := Only.refl _ _
  unfold State.dropLends
  repeat' first | with_reducible assumption | intro _ | with_reducible apply Only.newLayout | with_reducible apply Only.foldl | with_reducible apply Only.foldl_snd | (with_reducible apply Only.upd_lends; first | with_reducible assumption | with_reducible apply Only.newLayout | with_reducible apply Only.foldl | with_reducible apply Only.foldl_snd | with_reducible refine Only.ite ?_ ?_) | extract_lets | with_reducible refine Only.ite ?_ ?_ | split | decide
theorem Only.dropLends {T : List Fld} {a s : State} (h : Only T a s) (hT : [.lends, .mc, .free].all T.contains = true) (x0 : Nat) (x1 : Lend → Bool) : Only T a (State.dropLends x0 x1 s) := h.step (State.dropLends_only x0 x1 s) hT
theorem State.ctlReset_only (x0 : Nat) (x1 : Bool) (s : State) : Only [.modes, .ports, .insts, .ctxs, .ended, .live, .jrn, .lines, .lends, .mc, .cache, .cw, .ops, .solves, .dies, .chanters, .stops, .chans, .ev, .health, .free, .out] s (State.ctlReset x0 x1 s) := by
  have h : Only [.modes, .ports, .insts, .ctxs, .ended, .live, .jrn, .lines, .lends, .mc, .cache, .cw, .ops, .solves, .dies, .chanters, .stops, .chans, .ev, .health, .free, .out] s s := Only.refl _ _
  unfold State.ctlReset
  repeat' first | with_reducible assumption | intro _ | with_reducible apply Only.dropAdmin | with_reducible apply Only.each | with_reducible apply Only.modInst | with_reducible apply Only.resetInst | with_reducible apply Only.modPort | with_reducible apply Only.reviewPs | with_reducible apply Only.dropLends | with_reducible apply Only.foldl | with_reducible apply Only.foldl_snd | extract_lets | with_reducible refine Only.ite ?_ ?_ | split | decide
theorem Only.ctlReset {T : List Fld} {a s : State} (h : Only T a s) (hT : [.modes, .ports, .insts, .ctxs, .ended, .live, .jrn, .lines, .lends, .mc, .cache, .cw, .ops, .solves, .dies, .chanters, .stops, .chans, .ev, .health, .free, .out].all T.contains = true) (x0 : Nat) (x1 : Bool) : Only T a (State.ctlReset x0 x1 s) := h.step (State.ctlReset_only x0 x1 s) hT
theorem State.queueErase_only (x0 : Nat) (x1 : Nat) (x2 : OpClass) (s : State) : Only [.ops, .health] s (State.queueErase x0 x1 x2 s) := by
  have h : Only [.ops, .health] s s := Only.refl _ _
  unfold State.queueErase
  repeat' first | with_reducible assumption | intro _ | with_reducible apply Only.each | with_reducible apply Only.addOp | with_reducible apply Only.foldl | with_reducible apply Only.foldl_snd | extract_lets | with_reducible refine Only.ite ?_ ?_ | split | decide
theorem Only.queueErase {T : List Fld} {a s : State} (h : Only T a s) (hT : [.ops, .health].all T.contains = true) (x0 : Nat) (x1 : Nat) (x2 : OpClass) : Only T a (State.queueErase x0 x1 x2 s) := h.step (State.queueErase_only x0 x1 x2 s) hT
theorem State.startErase_only (x0 : Nat) (x1 : Nat) (s : State) : Only [.ops, .health] s (State.startErase x0 x1 s) := by
  have h : Only [.ops, .health] s s := Only.refl _ _
  unfold State.startErase
  repeat' first | with_reducible assumption | intro _ | with_reducible apply Only.queueErase | with_reducible apply Only.modHealth | with_reducible apply Only.foldl | with_reducible apply Only.foldl_snd | extract_lets | with_reducible refine Only.ite ?_ ?_ | split | decide
theorem Only.startErase {T : List Fld} {a s : State} (h : Only T a s) (hT : [.ops, .health].all T.contains = true) (x0 : Nat) (x1 : Nat) : Only T a (State.startErase x0 x1 s) := h.step (State.startErase_only x0 x1 s) hT
theorem State.erasePendingIn_only (x0 : Nat) (x1 : Nat) (s : State) : Only [.ops, .health] s (State.erasePendingIn x0 x1 s) := by
  have h : Only [.ops, .health] s s := Only.refl _ _
  unfold State.erasePendingIn
  repeat' first | with_reducible assumption | intro _ | with_reducible apply Only.startErase | with_reducible apply Only.foldl | with_reducible apply Only.foldl_snd | extract_lets | with_reducible refine Only.ite ?_ ?_ | split | decide
theorem Only.erasePendingIn {T : List Fld} {a s : State} (h : Only T a s) (hT : [.ops, .health].all T.contains = true) (x0 : Nat) (x1 : Nat) : Only T a (State.erasePendingIn x0 x1 s) := h.step (State.erasePendingIn_only x0 x1 s) hT
theorem State.eraseOwed_only (s : State) : Only [.ops, .health] s (State.eraseOwed s) := by
  have h : Only [.ops, .health] s s := Only.refl _ _
  unfold State.eraseOwed
  repeat' first | with_reducible assumption | intro _ | with_reducible apply Only.each | with_reducible apply Only.erasePendingIn | with_reducible apply Only.foldl | with_reducible apply Only.foldl_snd | extract_lets | with_reducible refine Only.ite ?_ ?_ | split | decide
theorem Only.eraseOwed {T : List Fld} {a s : State} (h : Only T a s) (hT : [.ops, .health].all T.contains = true) : Only T a (State.eraseOwed s) := h.step (State.eraseOwed_only s) hT
theorem State.settleKeyBands_only (s : State) : Only [.live, .jrn, .health] s (State.settleKeyBands s) := by
  have h : Only [.live, .jrn, .health] s s := Only.refl _ _
  unfold State.settleKeyBands
  repeat' first | with_reducible assumption | intro _ | with_reducible apply Only.each | with_reducible apply Only.logBand | with_reducible apply Only.giveUpBand | with_reducible apply Only.foldl | with_reducible apply Only.foldl_snd | extract_lets | with_reducible refine Only.ite ?_ ?_ | split | decide
theorem Only.settleKeyBands {T : List Fld} {a s : State} (h : Only T a s) (hT : [.live, .jrn, .health].all T.contains = true) : Only T a (State.settleKeyBands s) := h.step (State.settleKeyBands_only s) hT
theorem State.startReloc_only (x0 : Nat) (x1 : Nat) (x2 : Nat) (s : State) : Only [.ports, .insts, .ctxs, .live, .jrn, .lines, .mc, .ops, .solves, .dies, .chanters, .stops, .chans, .ev, .health, .out] s (State.startReloc x0 x1 x2 s) := by
  have h : Only [.ports, .insts, .ctxs, .live, .jrn, .lines, .mc, .ops, .solves, .dies, .chanters, .stops, .chans, .ev, .health, .out] s s := Only.refl _ _
  unfold State.startReloc
  repeat' first | with_reducible assumption | intro _ | with_reducible apply Only.logBand | with_reducible apply Only.modHealth | with_reducible apply Only.each | with_reducible apply Only.queueRead | with_reducible apply Only.foldl | with_reducible apply Only.foldl_snd | extract_lets | with_reducible refine Only.ite ?_ ?_ | split | decide
theorem Only.startReloc {T : List Fld} {a s : State} (h : Only T a s) (hT : [.ports, .insts, .ctxs, .live, .jrn, .lines, .mc, .ops, .solves, .dies, .chanters, .stops, .chans, .ev, .health, .out].all T.contains = true) (x0 : Nat) (x1 : Nat) (x2 : Nat) : Only T a (State.startReloc x0 x1 x2 s) := h.step (State.startReloc_only x0 x1 x2 s) hT
theorem State.resumeUpkeep_only (s : State) : Only [.ports, .insts, .ctxs, .live, .jrn, .lines, .mc, .groups, .ops, .solves, .dies, .chanters, .stops, .chans, .ev, .health, .out] s (State.resumeUpkeep s) := by
  have h : Only [.ports, .insts, .ctxs, .live, .jrn, .lines, .mc, .groups, .ops, .solves, .dies, .chanters, .stops, .chans, .ev, .health, .out] s s := Only.refl _ _
  unfold State.resumeUpkeep
  repeat' first | with_reducible assumption | intro _ | with_reducible apply Only.eraseOwed | with_reducible apply Only.settleKeyBands | with_reducible apply Only.each | with_reducible apply Only.modGroup | with_reducible apply Only.startReloc | with_reducible apply Only.foldl | with_reducible apply Only.foldl_snd | extract_lets | with_reducible refine Only.ite ?_ ?_ | split | decide
theorem Only.resumeUpkeep {T : List Fld} {a s : State} (h : Only T a s) (hT : [.ports, .insts, .ctxs, .live, .jrn, .lines, .mc, .groups, .ops, .solves, .dies, .chanters, .stops, .chans, .ev, .health, .out].all T.contains = true) : Only T a (State.resumeUpkeep s) := h.step (State.resumeUpkeep_only s) hT
theorem State.podViolation_only (x0 : Nat) (s : State) : Only [.modes, .spares, .ports, .insts, .ctxs, .live, .jrn, .lines, .mc, .cache, .cw, .groups, .ops, .solves, .dies, .chanters, .links, .pods, .stops, .chans, .ev, .health, .out] s (State.podViolation x0 s) := by
  have h : Only [.modes, .spares, .ports, .insts, .ctxs, .live, .jrn, .lines, .mc, .cache, .cw, .groups, .ops, .solves, .dies, .chanters, .links, .pods, .stops, .chans, .ev, .health, .out] s s := Only.refl _ _
  unfold State.podViolation
  repeat' first | with_reducible assumption | intro _ | with_reducible apply Only.modLink | with_reducible apply Only.linkDead | with_reducible apply Only.foldl | with_reducible apply Only.foldl_snd | extract_lets | with_reducible refine Only.ite ?_ ?_ | split | decide
theorem Only.podViolation {T : List Fld} {a s : State} (h : Only T a s) (hT : [.modes, .spares, .ports, .insts, .ctxs, .live, .jrn, .lines, .mc, .cache, .cw, .groups, .ops, .solves, .dies, .chanters, .links, .pods, .stops, .chans, .ev, .health, .out].all T.contains = true) (x0 : Nat) : Only T a (State.podViolation x0 s) := h.step (State.podViolation_only x0 s) hT
theorem State.nakFrame_only (x0 : Nat) (s : State) : Only [.modes, .spares, .ports, .insts, .ctxs, .live, .jrn, .lines, .mc, .cache, .cw, .groups, .ops, .solves, .dies, .chanters, .links, .pods, .stops, .chans, .ev, .health, .out] s (State.nakFrame x0 s) := by
  have h : Only [.modes, .spares, .ports, .insts, .ctxs, .live, .jrn, .lines, .mc, .cache, .cw, .groups, .ops, .solves, .dies, .chanters, .links, .pods, .stops, .chans, .ev, .health, .out] s s := Only.refl _ _
  unfold State.nakFrame
  repeat' first | with_reducible assumption | intro _ | with_reducible apply Only.podViolation | with_reducible apply Only.modLink | with_reducible apply Only.foldl | with_reducible apply Only.foldl_snd | extract_lets | with_reducible refine Only.ite ?_ ?_ | split | decide
theorem Only.nakFrame {T : List Fld} {a s : State} (h : Only T a s) (hT : [.modes, .spares, .ports, .insts, .ctxs, .live, .jrn, .lines, .mc, .cache, .cw, .groups, .ops, .solves, .dies, .chanters, .links, .pods, .stops, .chans, .ev, .health, .out].all T.contains = true) (x0 : Nat) : Only T a (State.nakFrame x0 s) := h.step (State.nakFrame_only x0 s) hT
theorem Only.setFeature {T : List Fld} {a s : State} (h : Only T a s) (hT : [.ports, .insts, .ctxs, .jrn, .chans, .health, .out].all T.contains = true) (x0 : Nat) (x1 : Nat) (x2 : Ctx → State → State) (hg : ∀ y0 t, Only T a t → Only T a (x2 y0 t)) : Only T a (State.setFeature x0 x1 x2 s) := by
  unfold State.setFeature
  repeat' first | with_reducible assumption | intro _ | with_reducible apply hg | with_reducible apply Only.admin | with_reducible apply Only.complete | with_reducible apply Only.foldl | with_reducible apply Only.foldl_snd | extract_lets | with_reducible refine Only.ite ?_ ?_ | split | exact Fld.all_sub hT (by decide)
theorem State.placeFormat_only (x0 : List Nat) (s : State) : Only [.format] s (State.placeFormat x0 s) := by
  have h : Only [.format] s s := Only.refl _ _
  unfold State.placeFormat
  repeat' first | with_reducible assumption | intro _ | with_reducible apply Only.foldl | with_reducible apply Only.foldl_snd | (with_reducible apply Only.upd_format; first | with_reducible assumption | with_reducible apply Only.foldl | with_reducible apply Only.foldl_snd | with_reducible refine Only.ite ?_ ?_) | extract_lets | with_reducible refine Only.ite ?_ ?_ | split | decide
theorem Only.placeFormat {T : List Fld} {a s : State} (h : Only T a s) (hT : [.format].all T.contains = true) (x0 : List Nat) : Only T a (State.placeFormat x0 s) := h.step (State.placeFormat_only x0 s) hT
theorem State.setCoalesce_only (x0 : Nat) (x1 : W32) (s : State) : Only [.insts] s (State.setCoalesce x0 x1 s) := by
  have h : Only [.insts] s s := Only.refl _ _
  unfold State.setCoalesce
  repeat' first | with_reducible assumption | intro _ | with_reducible apply Only.modInst | with_reducible apply Only.foldl | with_reducible apply Only.foldl_snd | extract_lets | with_reducible refine Only.ite ?_ ?_ | split | decide
theorem Only.setCoalesce {T : List Fld} {a s : State} (h : Only T a s) (hT : [.insts].all T.contains = true) (x0 : Nat) (x1 : W32) : Only T a (State.setCoalesce x0 x1 s) := h.step (State.setCoalesce_only x0 x1 s) hT
theorem Only.adminWait {T : List Fld} {a s : State} (h : Only T a s) (hT : [].all T.contains = true) (x0 : Nat) (x1 : Nat) (x2 : Ctx → State → State) (hg : ∀ y0 t, Only T a t → Only T a (x2 y0 t)) : Only T a (State.adminWait x0 x1 x2 s) := by
  unfold State.adminWait
  repeat' first | with_reducible assumption | intro _ | with_reducible apply hg | with_reducible apply Only.foldl | with_reducible apply Only.foldl_snd | extract_lets | with_reducible refine Only.ite ?_ ?_ | split
theorem State.logError_only (x0 : Nat) (x1 : Nat) (x2 : Nat) (x3 : Nat) (x4 : Status) (s : State) : Only [.ports] s (State.logError x0 x1 x2 x3 x4 s) := by
  have h : Only [.ports] s s := Only.refl _ _
  unfold State.logError
  repeat' first | with_reducible assumption | intro _ | with_reducible apply Only.modPort | with_reducible apply Only.foldl | with_reducible apply Only.foldl_snd | extract_lets | with_reducible refine Only.ite ?_ ?_ | split | decide
theorem Only.logError {T : List Fld} {a s : State} (h : Only T a s) (hT : [.ports].all T.contains = true) (x0 : Nat) (x1 : Nat) (x2 : Nat) (x3 : Nat) (x4 : Status) : Only T a (State.logError x0 x1 x2 x3 x4 s) := h.step (State.logError_only x0 x1 x2 x3 x4 s) hT
theorem State.completeBad_only (x0 : Nat) (s : State) : Only [.ports, .insts, .ctxs, .jrn, .chans, .health, .out] s (State.completeBad x0 s) := by
  have h : Only [.ports, .insts, .ctxs, .jrn, .chans, .health, .out] s s := Only.refl _ _
  unfold State.completeBad
  repeat' first | with_reducible assumption | intro _ | with_reducible apply Only.complete | with_reducible apply Only.logError | with_reducible apply Only.foldl | with_reducible apply Only.foldl_snd | extract_lets | with_reducible refine Only.ite ?_ ?_ | split | decide
theorem Only.completeBad {T : List Fld} {a s : State} (h : Only T a s) (hT : [.ports, .insts, .ctxs, .jrn, .chans, .health, .out].all T.contains = true) (x0 : Nat) : Only T a (State.completeBad x0 s) := h.step (State.completeBad_only x0 s) hT
theorem State.awaitSeal_only (x0 : Nat) (x1 : W32) (s : State) : Only [.ctxs] s (State.awaitSeal x0 x1 s) := by
  have h : Only [.ctxs] s s := Only.refl _ _
  unfold State.awaitSeal
  repeat' first | with_reducible assumption | intro _ | with_reducible apply Only.modCtx | with_reducible apply Only.foldl | with_reducible apply Only.foldl_snd | extract_lets | with_reducible refine Only.ite ?_ ?_ | split | decide
theorem Only.awaitSeal {T : List Fld} {a s : State} (h : Only T a s) (hT : [.ctxs].all T.contains = true) (x0 : Nat) (x1 : W32) : Only T a (State.awaitSeal x0 x1 s) := h.step (State.awaitSeal_only x0 x1 s) hT
theorem State.unmapAll_only (x0 : Ns) (s : State) : Only [.live, .jrn, .lines, .mc] s (State.unmapAll x0 s) := by
  have h : Only [.live, .jrn, .lines, .mc] s s := Only.refl _ _
  unfold State.unmapAll
  repeat' first | with_reducible assumption | intro _ | with_reducible apply Only.setRun | with_reducible apply Only.foldl | with_reducible apply Only.foldl_snd | extract_lets | with_reducible refine Only.ite ?_ ?_ | split | decide
theorem Only.unmapAll {T : List Fld} {a s : State} (h : Only T a s) (hT : [.live, .jrn, .lines, .mc].all T.contains = true) (x0 : Ns) : Only T a (State.unmapAll x0 s) := h.step (State.unmapAll_only x0 s) hT
theorem State.formatNs_only (x0 : Nat) (x1 : Ns) (s : State) : Only [.live, .jrn, .lines, .mc] s (State.formatNs x0 x1 s) := by
  have h : Only [.live, .jrn, .lines, .mc] s s := Only.refl _ _
  unfold State.formatNs
  repeat' first | with_reducible assumption | intro _ | with_reducible apply Only.unmapAll | with_reducible apply Only.logRec | with_reducible apply Only.foldl | with_reducible apply Only.foldl_snd | extract_lets | with_reducible refine Only.ite ?_ ?_ | split | decide
theorem Only.formatNs {T : List Fld} {a s : State} (h : Only T a s) (hT : [.live, .jrn, .lines, .mc].all T.contains = true) (x0 : Nat) (x1 : Ns) : Only T a (State.formatNs x0 x1 s) := h.step (State.formatNs_only x0 x1 s) hT
theorem State.modStopCmd_only (x0 : Nat) (x1 : Nat) (x2 : StopCmd → StopCmd) (s : State) : Only [.stops] s (State.modStopCmd x0 x1 x2 s) := by
  have h : Only [.stops] s s := Only.refl _ _
  unfold State.modStopCmd
  repeat' first | with_reducible assumption | intro _ | with_reducible apply Only.modStop | with_reducible apply Only.foldl | with_reducible apply Only.foldl_snd | extract_lets | with_reducible refine Only.ite ?_ ?_ | split | decide
theorem Only.modStopCmd {T : List Fld} {a s : State} (h : Only T a s) (hT : [.stops].all T.contains = true) (x0 : Nat) (x1 : Nat) (x2 : StopCmd → StopCmd) : Only T a (State.modStopCmd x0 x1 x2 s) := h.step (State.modStopCmd_only x0 x1 x2 s) hT
theorem State.violated_only (x0 : Nat) (x1 : Nat) (s : State) : Only [.stops] s (State.violated x0 x1 s) := by
  have h : Only [.stops] s s := Only.refl _ _
  unfold State.violated
  repeat' first | with_reducible assumption | intro _ | with_reducible apply Only.modStopCmd | with_reducible apply Only.foldl | with_reducible apply Only.foldl_snd | extract_lets | with_reducible refine Only.ite ?_ ?_ | split | decide
theorem Only.violated {T : List Fld} {a s : State} (h : Only T a s) (hT : [.stops].all T.contains = true) (x0 : Nat) (x1 : Nat) : Only T a (State.violated x0 x1 s) := h.step (State.violated_only x0 x1 s) hT
theorem State.used_only (x0 : Nat) (s : State) : Only [.stops] s (State.used x0 s) := by
  have h : Only [.stops] s s := Only.refl _ _
  unfold State.used
  repeat' first | with_reducible assumption | intro _ | with_reducible apply Only.modStop | with_reducible apply Only.foldl | with_reducible apply Only.foldl_snd | extract_lets | with_reducible refine Only.ite ?_ ?_ | split | decide
theorem Only.used {T : List Fld} {a s : State} (h : Only T a s) (hT : [.stops].all T.contains = true) (x0 : Nat) : Only T a (State.used x0 s) := h.step (State.used_only x0 s) hT
theorem State.computeOut_only (x0 : Nat) (x1 : OutFrame) (x2 : StopCmd) (s : State) : Only [.ports, .insts, .ctxs, .jrn, .stops, .chans, .ev, .health, .out] s (State.computeOut x0 x1 x2 s) := by
  have h : Only [.ports, .insts, .ctxs, .jrn, .stops, .chans, .ev, .health, .out] s s := Only.refl _ _
  unfold State.computeOut
  repeat' first | with_reducible assumption | intro _ | with_reducible apply Only.stopViolation | with_reducible apply Only.violated | with_reducible apply Only.toTenant | with_reducible apply Only.used | with_reducible apply Only.modStopCmd | with_reducible apply Only.foldl | with_reducible apply Only.foldl_snd | extract_lets | with_reducible refine Only.ite ?_ ?_ | split | decide
theorem Only.computeOut {T : List Fld} {a s : State} (h : Only T a s) (hT : [.ports, .insts, .ctxs, .jrn, .stops, .chans, .ev, .health, .out].all T.contains = true) (x0 : Nat) (x1 : OutFrame) (x2 : StopCmd) : Only T a (State.computeOut x0 x1 x2 s) := h.step (State.computeOut_only x0 x1 x2 s) hT
theorem State.modDrone_only (x0 : Nat) (x1 : Drone → Drone) (s : State) : Only [.drones] s (State.modDrone x0 x1 s) := by
  have h : Only [.drones] s s := Only.refl _ _
  unfold State.modDrone
  repeat' first | with_reducible assumption | intro _ | with_reducible apply Only.foldl | with_reducible apply Only.foldl_snd | (with_reducible apply Only.upd_drones; first | with_reducible assumption | with_reducible apply Only.foldl | with_reducible apply Only.foldl_snd | with_reducible refine Only.ite ?_ ?_) | extract_lets | with_reducible refine Only.ite ?_ ?_ | split | decide
theorem Only.modDrone {T : List Fld} {a s : State} (h : Only T a s) (hT : [.drones].all T.contains = true) (x0 : Nat) (x1 : Drone → Drone) : Only T a (State.modDrone x0 x1 s) := h.step (State.modDrone_only x0 x1 s) hT
theorem State.countBits_only (x0 : Op) (x1 : Nat) (x2 : Nat) (x3 : Bool) (s : State) : Only [.ports, .insts, .ctxs, .dies, .drones, .ev, .health, .out] s (State.countBits x0 x1 x2 x3 s) := by
  have h : Only [.ports, .insts, .ctxs, .dies, .drones, .ev, .health, .out] s s := Only.refl _ _
  unfold State.countBits
  repeat' first | with_reducible assumption | intro _ | with_reducible apply Only.modDie | with_reducible apply Only.healthEvent | with_reducible apply Only.modDrone | with_reducible apply Only.foldl | with_reducible apply Only.foldl_snd | extract_lets | with_reducible refine Only.ite ?_ ?_ | split | decide
theorem Only.countBits {T : List Fld} {a s : State} (h : Only T a s) (hT : [.ports, .insts, .ctxs, .dies, .drones, .ev, .health, .out].all T.contains = true) (x0 : Op) (x1 : Nat) (x2 : Nat) (x3 : Bool) : Only T a (State.countBits x0 x1 x2 x3 s) := h.step (State.countBits_only x0 x1 x2 x3 s) hT
theorem State.retrain_only (x0 : Nat) (s : State) : Only [.modes, .ports, .insts, .ctxs, .ended, .live, .jrn, .lines, .lends, .mc, .cache, .cw, .ops, .solves, .dies, .chanters, .stops, .chans, .ev, .health, .free, .out] s (State.retrain x0 s) := by
  have h : Only [.modes, .ports, .insts, .ctxs, .ended, .live, .jrn, .lines, .lends, .mc, .cache, .cw, .ops, .solves, .dies, .chanters, .stops, .chans, .ev, .health, .free, .out] s s := Only.refl _ _
  unfold State.retrain
  repeat' first | with_reducible assumption | intro _ | with_reducible apply Only.ctlReset | with_reducible apply Only.modPort | with_reducible apply Only.foldl | with_reducible apply Only.foldl_snd | extract_lets | with_reducible refine Only.ite ?_ ?_ | split | decide
theorem Only.retrain {T : List Fld} {a s : State} (h : Only T a s) (hT : [.modes, .ports, .insts, .ctxs, .ended, .live, .jrn, .lines, .lends, .mc, .cache, .cw, .ops, .solves, .dies, .chanters, .stops, .chans, .ev, .health, .free, .out].all T.contains = true) (x0 : Nat) : Only T a (State.retrain x0 s) := h.step (State.retrain_only x0 s) hT
theorem State.toHost_only (x0 : Ctx) (x1 : Layout) (s : State) : Only [.ports, .out] s (State.toHost x0 x1 s) := by
  have h : Only [.ports, .out] s s := Only.refl _ _
  unfold State.toHost
  repeat' first | with_reducible assumption | intro _ | with_reducible apply Only.emit | with_reducible apply Only.hostWrite | with_reducible apply Only.foldl | with_reducible apply Only.foldl_snd | extract_lets | with_reducible refine Only.ite ?_ ?_ | split | decide
theorem Only.toHost {T : List Fld} {a s : State} (h : Only T a s) (hT : [.ports, .out].all T.contains = true) (x0 : Ctx) (x1 : Layout) : Only T a (State.toHost x0 x1 s) := h.step (State.toHost_only x0 x1 s) hT
theorem State.readDeferred_only (x0 : Nat) (x1 : Nat) (x2 : Nat) (x3 : Sqe) (s : State) : Only [.ports, .insts, .ctxs, .jrn, .chans, .health, .out] s (State.readDeferred x0 x1 x2 x3 s) := by
  have h : Only [.ports, .insts, .ctxs, .jrn, .chans, .health, .out] s s := Only.refl _ _
  unfold State.readDeferred
  repeat' first | with_reducible assumption | intro _ | with_reducible apply Only.toHost | with_reducible apply Only.modPort | with_reducible apply Only.modInst | with_reducible apply Only.complete | with_reducible apply Only.foldl | with_reducible apply Only.foldl_snd | extract_lets | with_reducible refine Only.ite ?_ ?_ | split | decide
theorem Only.readDeferred {T : List Fld} {a s : State} (h : Only T a s) (hT : [.ports, .insts, .ctxs, .jrn, .chans, .health, .out].all T.contains = true) (x0 : Nat) (x1 : Nat) (x2 : Nat) (x3 : Sqe) : Only T a (State.readDeferred x0 x1 x2 x3 s) := h.step (State.readDeferred_only x0 x1 x2 x3 s) hT
theorem State.proxyLog_only (x0 : Ctx) (x1 : Nat) (x2 : Sqe) (s : State) : Only [.ports, .insts, .ctxs, .jrn, .chans, .health, .free, .out] s (State.proxyLog x0 x1 x2 s) := by
  have h : Only [.ports, .insts, .ctxs, .jrn, .chans, .health, .free, .out] s s := Only.refl _ _
  unfold State.proxyLog
  repeat' first | with_reducible assumption | intro _ | with_reducible apply Only.complete | with_reducible apply Only.drew | with_reducible apply Only.toHost | with_reducible apply Only.readDeferred | with_reducible apply Only.foldl | with_reducible apply Only.foldl_snd | extract_lets | with_reducible refine Only.ite ?_ ?_ | split | decide
theorem Only.proxyLog {T : List Fld} {a s : State} (h : Only T a s) (hT : [.ports, .insts, .ctxs, .jrn, .chans, .health, .free, .out].all T.contains = true) (x0 : Ctx) (x1 : Nat) (x2 : Sqe) : Only T a (State.proxyLog x0 x1 x2 s) := h.step (State.proxyLog_only x0 x1 x2 s) hT
theorem State.clockFault_only (s : State) : Only [.modes, .pw, .part, .keep, .ports, .insts, .ctxs, .live, .jrn, .vault, .lines, .mc, .cw, .ops, .solves, .links, .pods, .stops, .chans, .ev, .free, .out] s (State.clockFault s) := by
  have h : Only [.modes, .pw, .part, .keep, .ports, .insts, .ctxs, .live, .jrn, .vault, .lines, .mc, .cw, .ops, .solves, .links, .pods, .stops, .chans, .ev, .free, .out] s s := Only.refl _ _
  unfold State.clockFault
  repeat' first | with_reducible assumption | intro _ | with_reducible apply Only.causeArises | with_reducible apply Only.modPart | with_reducible apply Only.foldl | with_reducible apply Only.foldl_snd | extract_lets | with_reducible refine Only.ite ?_ ?_ | split | decide
theorem Only.clockFault {T : List Fld} {a s : State} (h : Only T a s) (hT : [.modes, .pw, .part, .keep, .ports, .insts, .ctxs, .live, .jrn, .vault, .lines, .mc, .cw, .ops, .solves, .links, .pods, .stops, .chans, .ev, .free, .out].all T.contains = true) : Only T a (State.clockFault s) := h.step (State.clockFault_only s) hT
theorem State.sendOffsets_only (x0 : Nat) (x1 : Nat) (x2 : Nat) (s : State) : Only [.links, .out] s (State.sendOffsets x0 x1 x2 s) := by
  have h : Only [.links, .out] s s := Only.refl _ _
  unfold State.sendOffsets
  repeat' first | with_reducible assumption | intro _ | with_reducible apply Only.sendPod | with_reducible apply Only.foldl | with_reducible apply Only.foldl_snd | extract_lets | with_reducible refine Only.ite ?_ ?_ | split | decide
theorem Only.sendOffsets {T : List Fld} {a s : State} (h : Only T a s) (hT : [.links, .out].all T.contains = true) (x0 : Nat) (x1 : Nat) (x2 : Nat) : Only T a (State.sendOffsets x0 x1 x2 s) := h.step (State.sendOffsets_only x0 x1 x2 s) hT
theorem State.writeBlocks_only (x0 : Nat) (x1 : Nat) (x2 : Nat) (x3 : Status) (x4 : Nat) (s : State) : Only [.part, .keep, .flash, .ports, .insts, .ctxs, .jrn, .stops, .chans, .health, .out] s (State.writeBlocks x0 x1 x2 x3 x4 s) := by
  have h : Only [.part, .keep, .flash, .ports, .insts, .ctxs, .jrn, .stops, .chans, .health, .out] s s := Only.refl _ _
  unfold State.writeBlocks
  repeat' first | with_reducible assumption | intro _ | with_reducible apply Only.complete | with_reducible apply Only.keepWrite | with_reducible apply Only.modStop | with_reducible apply Only.modFlash | with_reducible apply Only.flashOps | with_reducible apply Only.modCtx | with_reducible apply Only.foldl | with_reducible apply Only.foldl_snd | extract_lets | with_reducible refine Only.ite ?_ ?_ | split | decide
theorem Only.writeBlocks {T : List Fld} {a s : State} (h : Only T a s) (hT : [.part, .keep, .flash, .ports, .insts, .ctxs, .jrn, .stops, .chans, .health, .out].all T.contains = true) (x0 : Nat) (x1 : Nat) (x2 : Nat) (x3 : Status) (x4 : Nat) : Only T a (State.writeBlocks x0 x1 x2 x3 x4 s) := h.step (State.writeBlocks_only x0 x1 x2 x3 x4 s) hT
theorem State.killOps_only (x0 : Nat) (x1 : Nat) (s : State) : Only [.ops] s (State.killOps x0 x1 s) := by
  have h : Only [.ops] s s := Only.refl _ _
  unfold State.killOps
  repeat' first | with_reducible assumption | intro _ | with_reducible apply Only.foldl | with_reducible apply Only.foldl_snd | (with_reducible apply Only.upd_ops; first | with_reducible assumption | with_reducible apply Only.foldl | with_reducible apply Only.foldl_snd | with_reducible refine Only.ite ?_ ?_) | extract_lets | with_reducible refine Only.ite ?_ ?_ | split | decide
theorem Only.killOps {T : List Fld} {a s : State} (h : Only T a s) (hT : [.ops].all T.contains = true) (x0 : Nat) (x1 : Nat) : Only T a (State.killOps x0 x1 s) := h.step (State.killOps_only x0 x1 s) hT
theorem State.failSpareDie_only (x0 : Nat) (x1 : Nat) (s : State) : Only [.modes, .spares, .ports, .insts, .ctxs, .live, .jrn, .lines, .mc, .cache, .cw, .groups, .ops, .solves, .dies, .chanters, .links, .pods, .stops, .chans, .ev, .health, .out] s (State.failSpareDie x0 x1 s) := by
  have h : Only [.modes, .spares, .ports, .insts, .ctxs, .live, .jrn, .lines, .mc, .cache, .cw, .groups, .ops, .solves, .dies, .chanters, .links, .pods, .stops, .chans, .ev, .health, .out] s s := Only.refl _ _
  unfold State.failSpareDie
  repeat' first | with_reducible assumption | intro _ | with_reducible apply Only.modDie | with_reducible apply Only.logRec | with_reducible apply Only.allToStep4 | with_reducible apply Only.killOps | with_reducible apply Only.report | with_reducible apply Only.healthEvent | with_reducible apply Only.reviewAvailable | with_reducible apply Only.failSparePod | with_reducible apply Only.foldl | with_reducible apply Only.foldl_snd | extract_lets | with_reducible refine Only.ite ?_ ?_ | split | decide
theorem Only.failSpareDie {T : List Fld} {a s : State} (h : Only T a s) (hT : [.modes, .spares, .ports, .insts, .ctxs, .live, .jrn, .lines, .mc, .cache, .cw, .groups, .ops, .solves, .dies, .chanters, .links, .pods, .stops, .chans, .ev, .health, .out].all T.contains = true) (x0 : Nat) (x1 : Nat) : Only T a (State.failSpareDie x0 x1 s) := h.step (State.failSpareDie_only x0 x1 s) hT
theorem State.replaceDie_only (x0 : Nat) (x1 : Nat) (x2 : Bool) (s : State) : Only [.modes, .spares, .ports, .insts, .ctxs, .live, .jrn, .lines, .mc, .cache, .cw, .groups, .ops, .solves, .dies, .chanters, .links, .pods, .stops, .chans, .ev, .health, .out] s (State.replaceDie x0 x1 x2 s) := by
  have h : Only [.modes, .spares, .ports, .insts, .ctxs, .live, .jrn, .lines, .mc, .cache, .cw, .groups, .ops, .solves, .dies, .chanters, .links, .pods, .stops, .chans, .ev, .health, .out] s s := Only.refl _ _
  unfold State.replaceDie
  repeat' first | with_reducible assumption | intro _ | with_reducible apply Only.failPod | with_reducible apply Only.modDie | with_reducible apply Only.modHealth | with_reducible apply Only.logRec | with_reducible apply Only.unarmVault | with_reducible apply Only.healthEvent | with_reducible apply Only.failStripes | with_reducible apply Only.allToStep4 | with_reducible apply Only.killOps | with_reducible apply Only.eraseAgain | with_reducible apply Only.retry | with_reducible apply Only.reviewAvailable | with_reducible apply Only.startRun | with_reducible apply Only.failSpareDie | with_reducible apply Only.foldl | with_reducible apply Only.foldl_snd | extract_lets | with_reducible refine Only.ite ?_ ?_ | split | decide
theorem Only.replaceDie {T : List Fld} {a s : State} (h : Only T a s) (hT : [.modes, .spares, .ports, .insts, .ctxs, .live, .jrn, .lines, .mc, .cache, .cw, .groups, .ops, .solves, .dies, .chanters, .links, .pods, .stops, .chans, .ev, .health, .out].all T.contains = true) (x0 : Nat) (x1 : Nat) (x2 : Bool) : Only T a (State.replaceDie x0 x1 x2 s) := h.step (State.replaceDie_only x0 x1 x2 s) hT
theorem State.failDie_only (x0 : Nat) (x1 : Nat) (s : State) : Only [.modes, .spares, .ports, .insts, .ctxs, .live, .jrn, .lines, .mc, .cache, .cw, .groups, .ops, .solves, .dies, .chanters, .links, .pods, .stops, .chans, .ev, .health, .out] s (State.failDie x0 x1 s) := by
  have h : Only [.modes, .spares, .ports, .insts, .ctxs, .live, .jrn, .lines, .mc, .cache, .cw, .groups, .ops, .solves, .dies, .chanters, .links, .pods, .stops, .chans, .ev, .health, .out] s s := Only.refl _ _
  unfold State.failDie
  repeat' first | with_reducible assumption | intro _ | with_reducible apply Only.modPod | with_reducible apply Only.failPod | with_reducible apply Only.modDie | with_reducible apply Only.replaceDie | with_reducible apply Only.foldl | with_reducible apply Only.foldl_snd | extract_lets | with_reducible refine Only.ite ?_ ?_ | split | decide
theorem Only.failDie {T : List Fld} {a s : State} (h : Only T a s) (hT : [.modes, .spares, .ports, .insts, .ctxs, .live, .jrn, .lines, .mc, .cache, .cw, .groups, .ops, .solves, .dies, .chanters, .links, .pods, .stops, .chans, .ev, .health, .out].all T.contains = true) (x0 : Nat) (x1 : Nat) : Only T a (State.failDie x0 x1 s) := h.step (State.failDie_only x0 x1 s) hT
theorem State.notBefore_only (x0 : Nat) (s : State) : Only [.now] s (State.notBefore x0 s) := by
  have h : Only [.now] s s := Only.refl _ _
  unfold State.notBefore
  repeat' first | with_reducible assumption | intro _ | with_reducible apply Only.foldl | with_reducible apply Only.foldl_snd | (with_reducible apply Only.upd_now; first | with_reducible assumption | with_reducible apply Only.foldl | with_reducible apply Only.foldl_snd | with_reducible refine Only.ite ?_ ?_) | extract_lets | with_reducible refine Only.ite ?_ ?_ | split | decide
theorem Only.notBefore {T : List Fld} {a s : State} (h : Only T a s) (hT : [.now].all T.contains = true) (x0 : Nat) : Only T a (State.notBefore x0 s) := h.step (State.notBefore_only x0 s) hT
theorem State.suspectDie_only (x0 : Nat) (x1 : Nat) (s : State) : Only [.modes, .spares, .ports, .insts, .ctxs, .live, .jrn, .lines, .mc, .cache, .cw, .groups, .ops, .solves, .dies, .chanters, .links, .pods, .stops, .chans, .ev, .health, .out] s (State.suspectDie x0 x1 s) := by
  have h : Only [.modes, .spares, .ports, .insts, .ctxs, .live, .jrn, .lines, .mc, .cache, .cw, .groups, .ops, .solves, .dies, .chanters, .links, .pods, .stops, .chans, .ev, .health, .out] s s := Only.refl _ _
  unfold State.suspectDie
  repeat' first | with_reducible assumption | intro _ | with_reducible apply Only.modDie | with_reducible apply Only.allToStep4 | with_reducible apply Only.failDie | with_reducible apply Only.sendPod | with_reducible apply Only.foldl | with_reducible apply Only.foldl_snd | extract_lets | with_reducible refine Only.ite ?_ ?_ | split | decide
theorem Only.suspectDie {T : List Fld} {a s : State} (h : Only T a s) (hT : [.modes, .spares, .ports, .insts, .ctxs, .live, .jrn, .lines, .mc, .cache, .cw, .groups, .ops, .solves, .dies, .chanters, .links, .pods, .stops, .chans, .ev, .health, .out].all T.contains = true) (x0 : Nat) (x1 : Nat) : Only T a (State.suspectDie x0 x1 s) := h.step (State.suspectDie_only x0 x1 s) hT
theorem Only.egress {T : List Fld} {a s : State} (h : Only T a s) (hT : [.ports, .insts, .ctxs, .jrn, .stops, .chans, .ev, .health, .out].all T.contains = true) (x0 : Nat) (x1 : Nat) (x2 : OutFrame) (x3 : Nat) (x4 : State → State) (hg : ∀  t, Only T a t → Only T a (x4 t)) : Only T a (State.egress x0 x1 x2 x3 x4 s) := by
  unfold State.egress
  repeat' first | with_reducible assumption | intro _ | with_reducible apply hg | with_reducible apply Only.stopViolation | with_reducible apply Only.violated | with_reducible apply Only.foldl | with_reducible apply Only.foldl_snd | extract_lets | with_reducible refine Only.ite ?_ ?_ | split | exact Fld.all_sub hT (by decide)
theorem State.backupFailed_only (s : State) : Only [.modes, .part, .keep, .ports, .insts, .ctxs, .ev, .out] s (State.backupFailed s) := by
  have h : Only [.modes, .part, .keep, .ports, .insts, .ctxs, .ev, .out] s s := Only.refl _ _
  unfold State.backupFailed
  repeat' first | with_reducible assumption | intro _ | with_reducible apply Only.report | with_reducible apply Only.setDegrade | with_reducible apply Only.keepWrite | with_reducible apply Only.foldl | with_reducible apply Only.foldl_snd | extract_lets | with_reducible refine Only.ite ?_ ?_ | split | decide
theorem Only.backupFailed {T : List Fld} {a s : State} (h : Only T a s) (hT : [.modes, .part, .keep, .ports, .insts, .ctxs, .ev, .out].all T.contains = true) : Only T a (State.backupFailed s) := h.step (State.backupFailed_only s) hT
theorem State.applyInBand_only (x0 : Nat) (s : State) : Only [.live, .jrn] s (State.applyInBand x0 s) := by
  have h : Only [.live, .jrn] s s := Only.refl _ _
  unfold State.applyInBand
  repeat' first | with_reducible assumption | intro _ | with_reducible apply Only.logRec | with_reducible apply Only.foldl | with_reducible apply Only.foldl_snd | extract_lets | with_reducible refine Only.ite ?_ ?_ | split | decide
theorem Only.applyInBand {T : List Fld} {a s : State} (h : Only T a s) (hT : [.live, .jrn].all T.contains = true) (x0 : Nat) : Only T a (State.applyInBand x0 s) := h.step (State.applyInBand_only x0 s) hT
theorem State.restoreEvents_only (x0 : Nat) (x1 : Option Vault) (s : State) : Only [.ev] s (State.restoreEvents x0 x1 s) := by
  have h : Only [.ev] s s := Only.refl _ _
  unfold State.restoreEvents
  repeat' first | with_reducible assumption | intro _ | with_reducible apply Only.foldl | with_reducible apply Only.foldl_snd | (with_reducible apply Only.upd_ev; first | with_reducible assumption | with_reducible apply Only.foldl | with_reducible apply Only.foldl_snd | with_reducible refine Only.ite ?_ ?_) | extract_lets | with_reducible refine Only.ite ?_ ?_ | split | decide | dsimp +zetaDelta only
theorem Only.restoreEvents {T : List Fld} {a s : State} (h : Only T a s) (hT : [.ev].all T.contains = true) (x0 : Nat) (x1 : Option Vault) : Only T a (State.restoreEvents x0 x1 s) := h.step (State.restoreEvents_only x0 x1 s) hT
theorem State.mgmtRead_only (x0 : Nat) (x1 : Nat) (x2 : Nat) (s : State) : Only [.links, .out] s (State.mgmtRead x0 x1 x2 s) := by
  have h : Only [.links, .out] s s := Only.refl _ _
  unfold State.mgmtRead
  repeat' first | with_reducible assumption | intro _ | with_reducible apply Only.modLink | with_reducible apply Only.sendPod | with_reducible apply Only.foldl | with_reducible apply Only.foldl_snd | extract_lets | with_reducible refine Only.ite ?_ ?_ | split | decide
theorem Only.mgmtRead {T : List Fld} {a s : State} (h : Only T a s) (hT : [.links, .out].all T.contains = true) (x0 : Nat) (x1 : Nat) (x2 : Nat) : Only T a (State.mgmtRead x0 x1 x2 s) := h.step (State.mgmtRead_only x0 x1 x2 s) hT
theorem State.podEntered_only (x0 : Nat) (s : State) : Only [.modes, .spares, .ports, .insts, .ctxs, .live, .jrn, .dies, .links, .pods, .ev, .health, .out] s (State.podEntered x0 s) := by
  have h : Only [.modes, .spares, .ports, .insts, .ctxs, .live, .jrn, .dies, .links, .pods, .ev, .health, .out] s s := Only.refl _ _
  unfold State.podEntered
  repeat' first | with_reducible assumption | intro _ | with_reducible apply Only.modPod | with_reducible apply Only.logRec | with_reducible apply Only.each | with_reducible apply Only.modDie | with_reducible apply Only.countPods | with_reducible apply Only.mgmtRead | with_reducible apply Only.report | with_reducible apply Only.reviewAvailable | with_reducible apply Only.reviewEngines | with_reducible apply Only.healthEvent | with_reducible apply Only.foldl | with_reducible apply Only.foldl_snd | extract_lets | with_reducible refine Only.ite ?_ ?_ | split | decide
theorem Only.podEntered {T : List Fld} {a s : State} (h : Only T a s) (hT : [.modes, .spares, .ports, .insts, .ctxs, .live, .jrn, .dies, .links, .pods, .ev, .health, .out].all T.contains = true) (x0 : Nat) : Only T a (State.podEntered x0 s) := h.step (State.podEntered_only x0 s) hT
theorem State.findPods_only (s : State) : Only [.modes, .spares, .ports, .insts, .ctxs, .live, .jrn, .lines, .mc, .cache, .cw, .groups, .ops, .solves, .dies, .chanters, .links, .pods, .stops, .chans, .ev, .health, .out] s (State.findPods s) := by
  have h : Only [.modes, .spares, .ports, .insts, .ctxs, .live, .jrn, .lines, .mc, .cache, .cw, .groups, .ops, .solves, .dies, .chanters, .links, .pods, .stops, .chans, .ev, .health, .out] s s := Only.refl _ _
  unfold State.findPods
  repeat' first | with_reducible assumption | intro _ | with_reducible apply Only.each | with_reducible apply Only.podEntered | with_reducible apply Only.failPod | with_reducible apply Only.modPod | with_reducible apply Only.countPods | with_reducible apply Only.foldl | with_reducible apply Only.foldl_snd | extract_lets | with_reducible refine Only.ite ?_ ?_ | split | decide
theorem Only.findPods {T : List Fld} {a s : State} (h : Only T a s) (hT : [.modes, .spares, .ports, .insts, .ctxs, .live, .jrn, .lines, .mc, .cache, .cw, .groups, .ops, .solves, .dies, .chanters, .links, .pods, .stops, .chans, .ev, .health, .out].all T.contains = true) : Only T a (State.findPods s) := h.step (State.findPods_only s) hT
theorem State.closeAtMarks_only (s : State) : Only [.live, .jrn] s (State.closeAtMarks s) := by
  have h : Only [.live, .jrn] s s := Only.refl _ _
  unfold State.closeAtMarks
  repeat' first | with_reducible assumption | intro _ | with_reducible apply Only.each | with_reducible apply Only.closeBand | with_reducible apply Only.foldl | with_reducible apply Only.foldl_snd | extract_lets | with_reducible refine Only.ite ?_ ?_ | split | decide
theorem Only.closeAtMarks {T : List Fld} {a s : State} (h : Only T a s) (hT : [.live, .jrn].all T.contains = true) : Only T a (State.closeAtMarks s) := h.step (State.closeAtMarks_only s) hT
theorem State.restoreConfig_only (s : State) : Only [.ev, .health] s (State.restoreConfig s) := by
  have h : Only [.ev, .health] s s := Only.refl _ _
  unfold State.restoreConfig
  repeat' first | with_reducible assumption | intro _ | with_reducible apply Only.modHealth | with_reducible apply Only.report | with_reducible apply Only.foldl | with_reducible apply Only.foldl_snd | extract_lets | with_reducible refine Only.ite ?_ ?_ | split | decide | dsimp +zetaDelta only
theorem Only.restoreConfig {T : List Fld} {a s : State} (h : Only T a s) (hT : [.ev, .health].all T.contains = true) : Only T a (State.restoreConfig s) := h.step (State.restoreConfig_only s) hT
theorem State.fitZero_only (x0 : Nat) (s : State) : Only [.live, .jrn] s (State.fitZero x0 s) := by
  have h : Only [.live, .jrn] s s := Only.refl _ _
  unfold State.fitZero
  repeat' first | with_reducible assumption | intro _ | with_reducible apply Only.logInst | with_reducible apply Only.foldl | with_reducible apply Only.foldl_snd | extract_lets | with_reducible refine Only.ite ?_ ?_ | split | decide
theorem Only.fitZero {T : List Fld} {a s : State} (h : Only T a s) (hT : [.live, .jrn].all T.contains = true) (x0 : Nat) : Only T a (State.fitZero x0 s) := h.step (State.fitZero_only x0 s) hT
theorem State.makeZero_only (x0 : Nat) (s : State) : Only [.insts, .live, .jrn] s (State.makeZero x0 s) := by
  have h : Only [.insts, .live, .jrn] s s := Only.refl _ _
  unfold State.makeZero
  repeat' first | with_reducible assumption | intro _ | with_reducible apply Only.fitZero | with_reducible apply Only.logInst | with_reducible apply Only.modInst | with_reducible apply Only.foldl | with_reducible apply Only.foldl_snd | extract_lets | with_reducible refine Only.ite ?_ ?_ | split | decide
theorem Only.makeZero {T : List Fld} {a s : State} (h : Only T a s) (hT : [.insts, .live, .jrn].all T.contains = true) (x0 : Nat) : Only T a (State.makeZero x0 s) := h.step (State.makeZero_only x0 s) hT
theorem State.restoreInsts_only (x0 : Tbl DefLog) (s : State) : Only [.insts, .live, .jrn] s (State.restoreInsts x0 s) := by
  have h : Only [.insts, .live, .jrn] s s := Only.refl _ _
  unfold State.restoreInsts
  repeat' first | with_reducible assumption | intro _ | with_reducible apply Only.allPorts | with_reducible apply Only.makeZero | with_reducible apply Only.each | with_reducible apply Only.modInst | with_reducible apply Only.foldl | with_reducible apply Only.foldl_snd | extract_lets | with_reducible refine Only.ite ?_ ?_ | split | decide
theorem Only.restoreInsts {T : List Fld} {a s : State} (h : Only T a s) (hT : [.insts, .live, .jrn].all T.contains = true) (x0 : Tbl DefLog) : Only T a (State.restoreInsts x0 s) := h.step (State.restoreInsts_only x0 s) hT
theorem State.finishStripes_only (s : State) : Only [.ports, .insts, .ctxs, .live, .jrn, .lines, .mc, .cache, .cw, .groups, .ops, .dies, .chans, .ev, .health, .out] s (State.finishStripes s) := by
  have h : Only [.ports, .insts, .ctxs, .live, .jrn, .lines, .mc, .cache, .cw, .groups, .ops, .dies, .chans, .ev, .health, .out] s s := Only.refl _ _
  unfold State.finishStripes
  repeat' first | with_reducible assumption | intro _ | with_reducible apply Only.each | with_reducible apply Only.closeStripe | with_reducible apply Only.programEnded | with_reducible apply Only.settleStripes | with_reducible apply Only.foldl | with_reducible apply Only.foldl_snd | (with_reducible apply Only.upd_ops; first | with_reducible assumption | with_reducible apply Only.each | with_reducible apply Only.closeStripe | with_reducible apply Only.programEnded | with_reducible apply Only.settleStripes | with_reducible apply Only.foldl | with_reducible apply Only.foldl_snd | with_reducible refine Only.ite ?_ ?_) | extract_lets | with_reducible refine Only.ite ?_ ?_ | split | decide
theorem Only.finishStripes {T : List Fld} {a s : State} (h : Only T a s) (hT : [.ports, .insts, .ctxs, .live, .jrn, .lines, .mc, .cache, .cw, .groups, .ops, .dies, .chans, .ev, .health, .out].all T.contains = true) : Only T a (State.finishStripes s) := h.step (State.finishStripes_only s) hT
theorem State.rewriteUnit_only (x0 : Nat) (s : State) : Only [.insts, .live, .jrn, .lines, .mc, .cache, .cw, .groups, .ops, .ev, .health] s (State.rewriteUnit x0 s) := by
  have h : Only [.insts, .live, .jrn, .lines, .mc, .cache, .cw, .groups, .ops, .ev, .health] s s := Only.refl _ _
  unfold State.rewriteUnit
  repeat' first | with_reducible assumption | intro _ | refine Only.placeAnywhere_eq (h := ?_) (hT := by decide) (e := by with_reducible assumption) .. | with_reducible apply Only.placeAnywhere | with_reducible apply Only.logRec | with_reducible apply Only.deferError | with_reducible apply Only.markUnit | with_reducible apply Only.foldl | with_reducible apply Only.foldl_snd | extract_lets | with_reducible refine Only.ite ?_ ?_ | split | decide
theorem Only.rewriteUnit {T : List Fld} {a s : State} (h : Only T a s) (hT : [.insts, .live, .jrn, .lines, .mc, .cache, .cw, .groups, .ops, .ev, .health].all T.contains = true) (x0 : Nat) : Only T a (State.rewriteUnit x0 s) := h.step (State.rewriteUnit_only x0 s) hT
theorem State.restorePayload_only (x0 : List Nat) (x1 : List Nat) (x2 : List Nat) (s : State) : Only [.insts, .live, .jrn, .lines, .mc, .cache, .cw, .groups, .ops, .ev, .health] s (State.restorePayload x0 x1 x2 s) := by
  have h : Only [.insts, .live, .jrn, .lines, .mc, .cache, .cw, .groups, .ops, .ev, .health] s s := Only.refl _ _
  unfold State.restorePayload
  repeat' first | with_reducible assumption | intro _ | with_reducible apply Only.each | with_reducible apply Only.rewriteUnit | with_reducible apply Only.deferError | with_reducible apply Only.markUnit | with_reducible apply Only.modLine | with_reducible apply Only.foldl | with_reducible apply Only.foldl_snd | extract_lets | with_reducible refine Only.ite ?_ ?_ | split | decide
theorem Only.restorePayload {T : List Fld} {a s : State} (h : Only T a s) (hT : [.insts, .live, .jrn, .lines, .mc, .cache, .cw, .groups, .ops, .ev, .health].all T.contains = true) (x0 : List Nat) (x1 : List Nat) (x2 : List Nat) : Only T a (State.restorePayload x0 x1 x2 s) := h.step (State.restorePayload_only x0 x1 x2 s) hT
theorem State.lineSealed_only (x0 : Nat) (x1 : Nat) (s : State) : Only [.lines] s (State.lineSealed x0 x1 s) := by
  have h : Only [.lines] s s := Only.refl _ _
  unfold State.lineSealed
  repeat' first | with_reducible assumption | intro _ | with_reducible apply Only.modLine | with_reducible apply Only.foldl | with_reducible apply Only.foldl_snd | extract_lets | with_reducible refine Only.ite ?_ ?_ | split | decide
theorem Only.lineSealed {T : List Fld} {a s : State} (h : Only T a s) (hT : [.lines].all T.contains = true) (x0 : Nat) (x1 : Nat) : Only T a (State.lineSealed x0 x1 s) := h.step (State.lineSealed_only x0 x1 s) hT
theorem State.keysErased_only (x0 : W32) (s : State) : Only [.part] s (State.keysErased x0 s) := by
  have h : Only [.part] s s := Only.refl _ _
  unfold State.keysErased
  repeat' first | with_reducible assumption | intro _ | with_reducible apply Only.modPart | with_reducible apply Only.foldl | with_reducible apply Only.foldl_snd | extract_lets | with_reducible refine Only.ite ?_ ?_ | split | decide
theorem Only.keysErased {T : List Fld} {a s : State} (h : Only T a s) (hT : [.part].all T.contains = true) (x0 : W32) : Only T a (State.keysErased x0 s) := h.step (State.keysErased_only x0 s) hT
theorem State.sealOne_only (x0 : Nat) (s : State) : Only [.part, .ports, .insts, .ctxs, .jrn, .chans, .health, .out] s (State.sealOne x0 s) := by
  have h : Only [.part, .ports, .insts, .ctxs, .jrn, .chans, .health, .out] s s := Only.refl _ _
  unfold State.sealOne
  repeat' first | with_reducible assumption | intro _ | with_reducible apply Only.complete | with_reducible apply Only.keysErased | with_reducible apply Only.foldl | with_reducible apply Only.foldl_snd | extract_lets | with_reducible refine Only.ite ?_ ?_ | split | decide
theorem Only.sealOne {T : List Fld} {a s : State} (h : Only T a s) (hT : [.part, .ports, .insts, .ctxs, .jrn, .chans, .health, .out].all T.contains = true) (x0 : Nat) : Only T a (State.sealOne x0 s) := h.step (State.sealOne_only x0 s) hT
theorem State.startChange_only (x0 : Nat) (s : State) : Only [.ports, .insts, .ctxs, .jrn, .chans, .health, .out] s (State.startChange x0 s) := by
  have h : Only [.ports, .insts, .ctxs, .jrn, .chans, .health, .out] s s := Only.refl _ _
  unfold State.startChange
  repeat' first | with_reducible assumption | intro _ | with_reducible apply Only.complete | with_reducible apply Only.modCtx | with_reducible apply Only.modInst | with_reducible apply Only.foldl | with_reducible apply Only.foldl_snd | extract_lets | with_reducible refine Only.ite ?_ ?_ | split | decide
theorem Only.startChange {T : List Fld} {a s : State} (h : Only T a s) (hT : [.ports, .insts, .ctxs, .jrn, .chans, .health, .out].all T.contains = true) (x0 : Nat) : Only T a (State.startChange x0 s) := h.step (State.startChange_only x0 s) hT
theorem State.nextChange_only (x0 : Nat) (s : State) : Only [.ports, .insts, .ctxs, .jrn, .chans, .health, .out] s (State.nextChange x0 s) := by
  have h : Only [.ports, .insts, .ctxs, .jrn, .chans, .health, .out] s s := Only.refl _ _
  unfold State.nextChange
  repeat' first | with_reducible assumption | intro _ | with_reducible apply Only.startChange | with_reducible apply Only.modInst | with_reducible apply Only.foldl | with_reducible apply Only.foldl_snd | extract_lets | with_reducible refine Only.ite ?_ ?_ | split | decide
theorem Only.nextChange {T : List Fld} {a s : State} (h : Only T a s) (hT : [.ports, .insts, .ctxs, .jrn, .chans, .health, .out].all T.contains = true) (x0 : Nat) : Only T a (State.nextChange x0 s) := h.step (State.nextChange_only x0 s) hT
theorem State.completeSealed_only (x0 : Nat) (s : State) : Only [.part, .ports, .insts, .ctxs, .jrn, .chans, .health, .out] s (State.completeSealed x0 s) := by
  have h : Only [.part, .ports, .insts, .ctxs, .jrn, .chans, .health, .out] s s := Only.refl _ _
  unfold State.completeSealed
  repeat' first | with_reducible assumption | intro _ | with_reducible apply Only.sealOne | with_reducible apply Only.nextChange | with_reducible apply Only.each | with_reducible apply Only.foldl | with_reducible apply Only.foldl_snd | extract_lets | with_reducible refine Only.ite ?_ ?_ | split | decide
theorem Only.completeSealed {T : List Fld} {a s : State} (h : Only T a s) (hT : [.part, .ports, .insts, .ctxs, .jrn, .chans, .health, .out].all T.contains = true) (x0 : Nat) : Only T a (State.completeSealed x0 s) := h.step (State.completeSealed_only x0 s) hT
theorem State.reviewCredit_only (x0 : Nat) (s : State) : Only [.groups] s (State.reviewCredit x0 s) := by
  have h : Only [.groups] s s := Only.refl _ _
  unfold State.reviewCredit
  repeat' first | with_reducible assumption | intro _ | with_reducible apply Only.modGroup | with_reducible apply Only.foldl | with_reducible apply Only.foldl_snd | extract_lets | with_reducible refine Only.ite ?_ ?_ | split | decide
theorem Only.reviewCredit {T : List Fld} {a s : State} (h : Only T a s) (hT : [.groups].all T.contains = true) (x0 : Nat) : Only T a (State.reviewCredit x0 s) := h.step (State.reviewCredit_only x0 s) hT
theorem State.enterProtect_only (s : State) : Only [.modes, .ports, .insts, .ctxs, .live, .jrn, .cache, .groups, .ops, .chans, .ev, .health, .out] s (State.enterProtect s) := by
  have h : Only [.modes, .ports, .insts, .ctxs, .live, .jrn, .cache, .groups, .ops, .chans, .ev, .health, .out] s s := Only.refl _ _
  unfold State.enterProtect
  repeat' first | with_reducible assumption | intro _ | with_reducible apply Only.setDegrade | with_reducible apply Only.modHealth | with_reducible apply Only.postSmart | with_reducible apply Only.healthEvent | with_reducible apply Only.each | with_reducible apply Only.complete | with_reducible apply Only.modCache | with_reducible apply Only.closeStripe | with_reducible apply Only.foldl | with_reducible apply Only.foldl_snd | extract_lets | with_reducible refine Only.ite ?_ ?_ | split | decide
theorem Only.enterProtect {T : List Fld} {a s : State} (h : Only T a s) (hT : [.modes, .ports, .insts, .ctxs, .live, .jrn, .cache, .groups, .ops, .chans, .ev, .health, .out].all T.contains = true) : Only T a (State.enterProtect s) := h.step (State.enterProtect_only s) hT
theorem State.leaveProtect_only (s : State) : Only [.modes, .ports, .insts, .ctxs, .ev, .health, .out] s (State.leaveProtect s) := by
  have h : Only [.modes, .ports, .insts, .ctxs, .ev, .health, .out] s s := Only.refl _ _
  unfold State.leaveProtect
  repeat' first | with_reducible assumption | intro _ | with_reducible apply Only.postSmart | with_reducible apply Only.healthEvent | with_reducible apply Only.setDegrade | with_reducible apply Only.modHealth | with_reducible apply Only.foldl | with_reducible apply Only.foldl_snd | extract_lets | with_reducible refine Only.ite ?_ ?_ | split | decide
theorem Only.leaveProtect {T : List Fld} {a s : State} (h : Only T a s) (hT : [.modes, .ports, .insts, .ctxs, .ev, .health, .out].all T.contains = true) : Only T a (State.leaveProtect s) := h.step (State.leaveProtect_only s) hT
theorem State.setClosed_only (x0 : Nat) (x1 : Bool) (s : State) : Only [.modes, .ports, .insts, .ctxs, .live, .jrn, .cache, .groups, .ops, .chans, .ev, .health, .out] s (State.setClosed x0 x1 s) := by
  have h : Only [.modes, .ports, .insts, .ctxs, .live, .jrn, .cache, .groups, .ops, .chans, .ev, .health, .out] s s := Only.refl _ _
  unfold State.setClosed
  repeat' first | with_reducible assumption | intro _ | with_reducible apply Only.healthEvent | with_reducible apply Only.modGroup | with_reducible apply Only.enterProtect | with_reducible apply Only.leaveProtect | with_reducible apply Only.foldl | with_reducible apply Only.foldl_snd | extract_lets | with_reducible refine Only.ite ?_ ?_ | split | decide
theorem Only.setClosed {T : List Fld} {a s : State} (h : Only T a s) (hT : [.modes, .ports, .insts, .ctxs, .live, .jrn, .cache, .groups, .ops, .chans, .ev, .health, .out].all T.contains = true) (x0 : Nat) (x1 : Bool) : Only T a (State.setClosed x0 x1 s) := h.step (State.setClosed_only x0 x1 s) hT
theorem State.dropReloc_only (x0 : Nat) (x1 : Nat) (s : State) : Only [.health] s (State.dropReloc x0 x1 s) := by
  have h : Only [.health] s s := Only.refl _ _
  unfold State.dropReloc
  repeat' first | with_reducible assumption | intro _ | with_reducible apply Only.modHealth | with_reducible apply Only.foldl | with_reducible apply Only.foldl_snd | extract_lets | with_reducible refine Only.ite ?_ ?_ | split | decide
theorem Only.dropReloc {T : List Fld} {a s : State} (h : Only T a s) (hT : [.health].all T.contains = true) (x0 : Nat) (x1 : Nat) : Only T a (State.dropReloc x0 x1 s) := h.step (State.dropReloc_only x0 x1 s) hT
theorem State.stepRelocs_only (s : State) : Only [.live, .jrn, .ops, .health] s (State.stepRelocs s) := by
  have h : Only [.live, .jrn, .ops, .health] s s := Only.refl _ _
  unfold State.stepRelocs
  repeat' first | with_reducible assumption | intro _ | with_reducible apply Only.modReloc | with_reducible apply Only.logBand | with_reducible apply Only.queueErase | with_reducible apply Only.dropReloc | with_reducible apply Only.foldl | with_reducible apply Only.foldl_snd | extract_lets | with_reducible refine Only.ite ?_ ?_ | split | decide
theorem Only.stepRelocs {T : List Fld} {a s : State} (h : Only T a s) (hT : [.live, .jrn, .ops, .health].all T.contains = true) : Only T a (State.stepRelocs s) := h.step (State.stepRelocs_only s) hT
theorem State.commitSeal_only (s : State) : Only [.modes, .part, .ports, .insts, .ctxs, .live, .sealed, .jrn, .lines, .mc, .cache, .cw, .groups, .ops, .solves, .dies, .chanters, .stops, .chans, .ev, .health, .out] s (State.commitSeal s) := by
  have h : Only [.modes, .part, .ports, .insts, .ctxs, .live, .sealed, .jrn, .lines, .mc, .cache, .cw, .groups, .ops, .solves, .dies, .chanters, .stops, .chans, .ev, .health, .out] s s := Only.refl _ _
  unfold State.commitSeal
  repeat' first | with_reducible assumption | intro _ | with_reducible apply Only.modJrn | with_reducible apply Only.lineSealed | with_reducible apply Only.each | with_reducible apply Only.completeSealed | with_reducible apply Only.reviewCredit | with_reducible apply Only.setClosed | with_reducible apply Only.retry | with_reducible apply Only.reviewSpares | with_reducible apply Only.stepRelocs | with_reducible apply Only.foldl | with_reducible apply Only.foldl_snd | (with_reducible apply Only.upd_sealed; first | with_reducible assumption | with_reducible apply Only.modJrn | with_reducible apply Only.lineSealed | with_reducible apply Only.each | with_reducible apply Only.completeSealed | with_reducible apply Only.reviewCredit | with_reducible apply Only.setClosed | with_reducible apply Only.retry | with_reducible apply Only.reviewSpares | with_reducible apply Only.stepRelocs | with_reducible apply Only.foldl | with_reducible apply Only.foldl_snd | with_reducible refine Only.ite ?_ ?_) | (with_reducible apply Only.upd_ev; first | with_reducible assumption | with_reducible apply Only.modJrn | with_reducible apply Only.lineSealed | with_reducible apply Only.each | with_reducible apply Only.completeSealed | with_reducible apply Only.reviewCredit | with_reducible apply Only.setClosed | with_reducible apply Only.retry | with_reducible apply Only.reviewSpares | with_reducible apply Only.stepRelocs | with_reducible apply Only.foldl | with_reducible apply Only.foldl_snd | with_reducible refine Only.ite ?_ ?_) | extract_lets | with_reducible refine Only.ite ?_ ?_ | split | decide
theorem Only.commitSeal {T : List Fld} {a s : State} (h : Only T a s) (hT : [.modes, .part, .ports, .insts, .ctxs, .live, .sealed, .jrn, .lines, .mc, .cache, .cw, .groups, .ops, .solves, .dies, .chanters, .stops, .chans, .ev, .health, .out].all T.contains = true) : Only T a (State.commitSeal s) := h.step (State.commitSeal_only s) hT
theorem State.closeEpoch_only (s : State) : Only [.jrn] s (State.closeEpoch s) := by
  have h : Only [.jrn] s s := Only.refl _ _
  unfold State.closeEpoch
  repeat' first | with_reducible assumption | intro _ | with_reducible apply Only.modJrn | with_reducible apply Only.foldl | with_reducible apply Only.foldl_snd | extract_lets | with_reducible refine Only.ite ?_ ?_ | split | decide
theorem Only.closeEpoch {T : List Fld} {a s : State} (h : Only T a s) (hT : [.jrn].all T.contains = true) : Only T a (State.closeEpoch s) := h.step (State.closeEpoch_only s) hT
theorem State.sealNow_only (s : State) : Only [.modes, .part, .ports, .insts, .ctxs, .live, .sealed, .jrn, .lines, .mc, .cache, .cw, .groups, .ops, .solves, .dies, .chanters, .stops, .chans, .ev, .health, .out] s (State.sealNow s) := by
  have h : Only [.modes, .part, .ports, .insts, .ctxs, .live, .sealed, .jrn, .lines, .mc, .cache, .cw, .groups, .ops, .solves, .dies, .chanters, .stops, .chans, .ev, .health, .out] s s := Only.refl _ _
  unfold State.sealNow
  repeat' first | with_reducible assumption | intro _ | with_reducible apply Only.commitSeal | with_reducible apply Only.closeEpoch | with_reducible apply Only.foldl | with_reducible apply Only.foldl_snd | extract_lets | with_reducible refine Only.ite ?_ ?_ | split | decide
theorem Only.sealNow {T : List Fld} {a s : State} (h : Only T a s) (hT : [.modes, .part, .ports, .insts, .ctxs, .live, .sealed, .jrn, .lines, .mc, .cache, .cw, .groups, .ops, .solves, .dies, .chanters, .stops, .chans, .ev, .health, .out].all T.contains = true) : Only T a (State.sealNow s) := h.step (State.sealNow_only s) hT
theorem State.restoreKeys_only (s : State) : Only [.part] s (State.restoreKeys s) := by
  have h : Only [.part] s s := Only.refl _ _
  unfold State.restoreKeys
  repeat' first | with_reducible assumption | intro _ | with_reducible apply Only.modPart | with_reducible apply Only.foldl | with_reducible apply Only.foldl_snd | extract_lets | with_reducible refine Only.ite ?_ ?_ | split | decide
theorem Only.restoreKeys {T : List Fld} {a s : State} (h : Only T a s) (hT : [.part].all T.contains = true) : Only T a (State.restoreKeys s) := h.step (State.restoreKeys_only s) hT
theorem State.recover_only (x0 : Nat) (x1 : RecoveryFound) (s : State) : Only [.modes, .part, .keep, .spares, .ports, .insts, .ctxs, .live, .sealed, .jrn, .lines, .mc, .cache, .cw, .groups, .ops, .solves, .dies, .chanters, .links, .pods, .stops, .chans, .ev, .health, .free, .out] s (State.recover x0 x1 s) := by
  have h : Only [.modes, .part, .keep, .spares, .ports, .insts, .ctxs, .live, .sealed, .jrn, .lines, .mc, .cache, .cw, .groups, .ops, .solves, .dies, .chanters, .links, .pods, .stops, .chans, .ev, .health, .free, .out] s s := Only.refl _ _
  unfold State.recover
  repeat' first | with_reducible assumption | intro _ | with_reducible apply Only.modJrn | with_reducible apply Only.backupFailed | with_reducible apply Only.applyInBand | with_reducible apply Only.logRec | with_reducible apply Only.restoreEvents | with_reducible apply Only.findPods | with_reducible apply Only.closeAtMarks | with_reducible apply Only.restoreConfig | with_reducible apply Only.restoreInsts | with_reducible apply Only.finishStripes | with_reducible apply Only.restorePayload | with_reducible apply Only.sealNow | with_reducible apply Only.each | with_reducible apply Only.resumeRun | with_reducible apply Only.reviewAvailable | with_reducible apply Only.newLayout | with_reducible apply Only.restoreKeys | with_reducible apply Only.foldl | with_reducible apply Only.foldl_snd | (with_reducible apply Only.upd_lines; first | with_reducible assumption | with_reducible apply Only.modJrn | with_reducible apply Only.backupFailed | with_reducible apply Only.applyInBand | with_reducible apply Only.logRec | with_reducible apply Only.restoreEvents | with_reducible apply Only.findPods | with_reducible apply Only.closeAtMarks | with_reducible apply Only.restoreConfig | with_reducible apply Only.restoreInsts | with_reducible apply Only.finishStripes | with_reducible apply Only.restorePayload | with_reducible apply Only.sealNow | with_reducible apply Only.each | with_reducible apply Only.resumeRun | with_reducible apply Only.reviewAvailable | with_reducible apply Only.newLayout | with_reducible apply Only.restoreKeys | with_reducible apply Only.foldl | with_reducible apply Only.foldl_snd | with_reducible refine Only.ite ?_ ?_) | extract_lets | with_reducible refine Only.ite ?_ ?_ | split | decide
theorem Only.recover {T : List Fld} {a s : State} (h : Only T a s) (hT : [.modes, .part, .keep, .spares, .ports, .insts, .ctxs, .live, .sealed, .jrn, .lines, .mc, .cache, .cw, .groups, .ops, .solves, .dies, .chanters, .links, .pods, .stops, .chans, .ev, .health, .free, .out].all T.contains = true) (x0 : Nat) (x1 : RecoveryFound) : Only T a (State.recover x0 x1 s) := h.step (State.recover_only x0 x1 s) hT
theorem State.admitCmd_only (x0 : Ctx) (s : State) : Only [.ports, .insts, .ctxs] s (State.admitCmd x0 s) := by
  have h : Only [.ports, .insts, .ctxs] s s := Only.refl _ _
  unfold State.admitCmd
  repeat' first | with_reducible assumption | intro _ | with_reducible apply Only.modInst | with_reducible apply Only.modPort | with_reducible apply Only.modCtx | with_reducible apply Only.foldl | with_reducible apply Only.foldl_snd | extract_lets | with_reducible refine Only.ite ?_ ?_ | split | decide
theorem Only.admitCmd {T : List Fld} {a s : State} (h : Only T a s) (hT : [.ports, .insts, .ctxs].all T.contains = true) (x0 : Ctx) : Only T a (State.admitCmd x0 s) := h.step (State.admitCmd_only x0 s) hT
theorem State.admitWhile_only (x0 : Nat) (x1 : Nat) (s : State) : Only [.ports, .insts, .ctxs] s (State.admitWhile x0 x1 s).2 := by
  induction x1 generalizing s with
  | zero => exact .refl _ _
  | succ f ih =>
    unfold State.admitWhile
    split
    · exact .refl _ _
    · dsimp only
      split
      · exact (((Only.refl _ _).admitCmd (by decide) _).modInst (by decide) _ _).step (ih _) (by decide)
      · exact .refl _ _
theorem Only.admitWhile {T : List Fld} {a s : State} (h : Only T a s) (hT : [.ports, .insts, .ctxs].all T.contains = true) (x0 : Nat) (x1 : Nat) : Only T a (State.admitWhile x0 x1 s).2 := h.step (State.admitWhile_only x0 x1 s) hT
theorem Only.admitWhile_eq {T : List Fld} {a s : State} (h : Only T a s) (hT : [.ports, .insts, .ctxs].all T.contains = true) (x0 : Nat) (x1 : Nat) {r t} (e : State.admitWhile x0 x1 s = (r, t)) : Only T a t := h.step (by have := State.admitWhile_only x0 x1 s; rw [e] at this; exact this) hT
theorem State.dropChange_only (x0 : Nat) (s : State) : Only [.ports, .insts, .ctxs, .jrn, .chans, .health, .out] s (State.dropChange x0 s) := by
  have h : Only [.ports, .insts, .ctxs, .jrn, .chans, .health, .out] s s := Only.refl _ _
  unfold State.dropChange
  repeat' first | with_reducible assumption | intro _ | with_reducible apply Only.complete | with_reducible apply Only.modInst | with_reducible apply Only.foldl | with_reducible apply Only.foldl_snd | extract_lets | with_reducible refine Only.ite ?_ ?_ | split | decide
theorem Only.dropChange {T : List Fld} {a s : State} (h : Only T a s) (hT : [.ports, .insts, .ctxs, .jrn, .chans, .health, .out].all T.contains = true) (x0 : Nat) : Only T a (State.dropChange x0 s) := h.step (State.dropChange_only x0 s) hT
theorem State.notVerified_only (x0 : Nat) (x1 : Option Verify) (s : State) : Only [.part, .keep, .flash, .ports, .insts, .ctxs, .jrn, .chans, .health, .out] s (State.notVerified x0 x1 s) := by
  have h : Only [.part, .keep, .flash, .ports, .insts, .ctxs, .jrn, .chans, .health, .out] s s := Only.refl _ _
  unfold State.notVerified
  repeat' first | with_reducible assumption | intro _ | with_reducible apply Only.keepWrite | with_reducible apply Only.modFlash | with_reducible apply Only.refuseUpdate | with_reducible apply Only.foldl | with_reducible apply Only.foldl_snd | extract_lets | with_reducible refine Only.ite ?_ ?_ | split | decide
theorem Only.notVerified {T : List Fld} {a s : State} (h : Only T a s) (hT : [.part, .keep, .flash, .ports, .insts, .ctxs, .jrn, .chans, .health, .out].all T.contains = true) (x0 : Nat) (x1 : Option Verify) : Only T a (State.notVerified x0 x1 s) := h.step (State.notVerified_only x0 x1 s) hT
theorem State.loadOffsets_only (x0 : Nat) (s : State) : Only [.links, .out] s (State.loadOffsets x0 s) := by
  have h : Only [.links, .out] s s := Only.refl _ _
  unfold State.loadOffsets
  repeat' first | with_reducible assumption | intro _ | with_reducible apply Only.each | with_reducible apply Only.sendOffsets | with_reducible apply Only.foldl | with_reducible apply Only.foldl_snd | extract_lets | with_reducible refine Only.ite ?_ ?_ | split | decide
theorem Only.loadOffsets {T : List Fld} {a s : State} (h : Only T a s) (hT : [.links, .out].all T.contains = true) (x0 : Nat) : Only T a (State.loadOffsets x0 s) := h.step (State.loadOffsets_only x0 s) hT
theorem State.hello_only (x0 : Nat) (x1 : BitVec 8) (x2 : Nat) (x3 : Nat) (x4 : W32) (s : State) : Only [.modes, .spares, .ports, .insts, .ctxs, .live, .jrn, .dies, .links, .pods, .ev, .health, .out] s (State.hello x0 x1 x2 x3 x4 s) := by
  have h : Only [.modes, .spares, .ports, .insts, .ctxs, .live, .jrn, .dies, .links, .pods, .ev, .health, .out] s s := Only.refl _ _
  unfold State.hello
  repeat' first | with_reducible assumption | intro _ | with_reducible apply Only.report | with_reducible apply Only.modLink | with_reducible apply Only.modPod | with_reducible apply Only.podOff | with_reducible apply Only.sendPod | with_reducible apply Only.loadOffsets | with_reducible apply Only.podEntered | with_reducible apply Only.foldl | with_reducible apply Only.foldl_snd | extract_lets | with_reducible refine Only.ite ?_ ?_ | split | decide
theorem Only.hello {T : List Fld} {a s : State} (h : Only T a s) (hT : [.modes, .spares, .ports, .insts, .ctxs, .live, .jrn, .dies, .links, .pods, .ev, .health, .out].all T.contains = true) (x0 : Nat) (x1 : BitVec 8) (x2 : Nat) (x3 : Nat) (x4 : W32) : Only T a (State.hello x0 x1 x2 x3 x4 s) := h.step (State.hello_only x0 x1 x2 x3 x4 s) hT
theorem State.movePointer_only (x0 : Nat) (x1 : Nat) (x2 : Nat) (s : State) : Only [.cache] s (State.movePointer x0 x1 x2 s) := by
  have h : Only [.cache] s s := Only.refl _ _
  unfold State.movePointer
  repeat' first | with_reducible assumption | intro _ | with_reducible apply Only.modCache | with_reducible apply Only.foldl | with_reducible apply Only.foldl_snd | extract_lets | with_reducible refine Only.ite ?_ ?_ | split | decide
theorem Only.movePointer {T : List Fld} {a s : State} (h : Only T a s) (hT : [.cache].all T.contains = true) (x0 : Nat) (x1 : Nat) (x2 : Nat) : Only T a (State.movePointer x0 x1 x2 s) := h.step (State.movePointer_only x0 x1 x2 s) hT
theorem Only.getLog {T : List Fld} {a s : State} (h : Only T a s) (hT : [].all T.contains = true) (x0 : Nat) (x1 : Nat) (x2 : Ctx → State → State) (hg : ∀ y0 t, Only T a t → Only T a (x2 y0 t)) : Only T a (State.getLog x0 x1 x2 s) := by
  unfold State.getLog
  repeat' first | with_reducible assumption | intro _ | with_reducible apply hg | with_reducible apply Only.admin | with_reducible apply Only.foldl | with_reducible apply Only.foldl_snd | extract_lets | with_reducible refine Only.ite ?_ ?_
theorem State.sendPage_only (x0 : Ctx) (x1 : Layout) (s : State) : Only [.ports, .insts, .ctxs, .jrn, .chans, .health, .free, .out] s (State.sendPage x0 x1 s) := by
  have h : Only [.ports, .insts, .ctxs, .jrn, .chans, .health, .free, .out] s s := Only.refl _ _
  unfold State.sendPage
  repeat' first | with_reducible assumption | intro _ | with_reducible apply Only.complete | with_reducible apply Only.drew | with_reducible apply Only.toHost | with_reducible apply Only.foldl | with_reducible apply Only.foldl_snd | extract_lets | with_reducible refine Only.ite ?_ ?_ | split | decide
theorem Only.sendPage {T : List Fld} {a s : State} (h : Only T a s) (hT : [.ports, .insts, .ctxs, .jrn, .chans, .health, .free, .out].all T.contains = true) (x0 : Ctx) (x1 : Layout) : Only T a (State.sendPage x0 x1 s) := h.step (State.sendPage_only x0 x1 s) hT
theorem State.freshMedia_only (x0 : Durable) (s : State) : Only [.live, .sealed, .jrn, .vault, .lines, .mc, .cache, .cw, .groups, .ops, .solves, .health] s (State.freshMedia x0 s) := by
  have h : Only [.live, .sealed, .jrn, .vault, .lines, .mc, .cache, .cw, .groups, .ops, .solves, .health] s s := Only.refl _ _
  unfold State.freshMedia
  repeat' first | with_reducible assumption | intro _ | with_reducible apply Only.foldl | with_reducible apply Only.foldl_snd | (with_reducible apply Only.upd12; first | with_reducible assumption | with_reducible apply Only.foldl | with_reducible apply Only.foldl_snd | with_reducible refine Only.ite ?_ ?_) | extract_lets | with_reducible refine Only.ite ?_ ?_ | split | decide
theorem Only.freshMedia {T : List Fld} {a s : State} (h : Only T a s) (hT : [.live, .sealed, .jrn, .vault, .lines, .mc, .cache, .cw, .groups, .ops, .solves, .health].all T.contains = true) (x0 : Durable) : Only T a (State.freshMedia x0 s) := h.step (State.freshMedia_only x0 s) hT
theorem slotChecks_only {T : List Fld} {a s : State} (h : Only T a s) (hT : [.ports, .insts, .ctxs, .jrn, .chans, .health, .out].all T.contains = true) (x0 : Nat) (x1 : Bool) (x2 : Ctx → Nat → State → State) (x3 : Ctx) (hg : ∀ y0 y1 t, Only T a t → Only T a (x2 y0 y1 t)) : Only T a (slotChecks x0 x1 x2 x3 s) := by
  unfold slotChecks
  repeat' first | with_reducible assumption | intro _ | with_reducible apply hg | with_reducible apply Only.complete | with_reducible apply Only.foldl | with_reducible apply Only.foldl_snd | extract_lets | with_reducible refine Only.ite ?_ ?_
theorem State.deleteSq_only (x0 : Nat) (x1 : Nat) (x2 : Sqe) (s : State) : Only [.ports, .insts, .ctxs, .live, .jrn, .lines, .mc, .cache, .cw, .ops, .solves, .dies, .chanters, .stops, .chans, .ev, .health, .out] s (State.deleteSq x0 x1 x2 s) := by
  have h : Only [.ports, .insts, .ctxs, .live, .jrn, .lines, .mc, .cache, .cw, .ops, .solves, .dies, .chanters, .stops, .chans, .ev, .health, .out] s s := Only.refl _ _
  unfold State.deleteSq
  repeat' first | with_reducible assumption | intro _ | with_reducible apply Only.complete | with_reducible apply Only.modInst | with_reducible apply Only.modCtx | with_reducible apply Only.settleDeletes | with_reducible apply Only.retry | with_reducible apply Only.each | with_reducible apply Only.endCaught | with_reducible apply Only.foldl | with_reducible apply Only.foldl_snd | extract_lets | with_reducible refine Only.ite ?_ ?_ | split | decide
theorem Only.deleteSq {T : List Fld} {a s : State} (h : Only T a s) (hT : [.ports, .insts, .ctxs, .live, .jrn, .lines, .mc, .cache, .cw, .ops, .solves, .dies, .chanters, .stops, .chans, .ev, .health, .out].all T.contains = true) (x0 : Nat) (x1 : Nat) (x2 : Sqe) : Only T a (State.deleteSq x0 x1 x2 s) := h.step (State.deleteSq_only x0 x1 x2 s) hT
theorem State.createSq_only (x0 : Nat) (x1 : Nat) (x2 : Sqe) (s : State) : Only [.ports, .insts, .ctxs, .jrn, .chans, .health, .out] s (State.createSq x0 x1 x2 s) := by
  have h : Only [.ports, .insts, .ctxs, .jrn, .chans, .health, .out] s s := Only.refl _ _
  unfold State.createSq
  repeat' first | with_reducible assumption | intro _ | with_reducible apply Only.complete | with_reducible apply Only.modInst | with_reducible apply Only.foldl | with_reducible apply Only.foldl_snd | extract_lets | with_reducible refine Only.ite ?_ ?_ | split | decide
theorem Only.createSq {T : List Fld} {a s : State} (h : Only T a s) (hT : [.ports, .insts, .ctxs, .jrn, .chans, .health, .out].all T.contains = true) (x0 : Nat) (x1 : Nat) (x2 : Sqe) : Only T a (State.createSq x0 x1 x2 s) := h.step (State.createSq_only x0 x1 x2 s) hT
theorem State.deleteCq_only (x0 : Nat) (x1 : Nat) (x2 : Sqe) (s : State) : Only [.ports, .insts, .ctxs, .jrn, .chans, .health, .out] s (State.deleteCq x0 x1 x2 s) := by
  have h : Only [.ports, .insts, .ctxs, .jrn, .chans, .health, .out] s s := Only.refl _ _
  unfold State.deleteCq
  repeat' first | with_reducible assumption | intro _ | with_reducible apply Only.complete | with_reducible apply Only.modInst | with_reducible apply Only.foldl | with_reducible apply Only.foldl_snd | extract_lets | with_reducible refine Only.ite ?_ ?_ | split | decide
theorem Only.deleteCq {T : List Fld} {a s : State} (h : Only T a s) (hT : [.ports, .insts, .ctxs, .jrn, .chans, .health, .out].all T.contains = true) (x0 : Nat) (x1 : Nat) (x2 : Sqe) : Only T a (State.deleteCq x0 x1 x2 s) := h.step (State.deleteCq_only x0 x1 x2 s) hT
theorem State.createCq_only (x0 : Nat) (x1 : Nat) (x2 : Sqe) (s : State) : Only [.ports, .insts, .ctxs, .jrn, .chans, .health, .out] s (State.createCq x0 x1 x2 s) := by
  have h : Only [.ports, .insts, .ctxs, .jrn, .chans, .health, .out] s s := Only.refl _ _
  unfold State.createCq
  repeat' first | with_reducible assumption | intro _ | with_reducible apply Only.complete | with_reducible apply Only.modInst | with_reducible apply Only.foldl | with_reducible apply Only.foldl_snd | extract_lets | with_reducible refine Only.ite ?_ ?_ | split | decide
theorem Only.createCq {T : List Fld} {a s : State} (h : Only T a s) (hT : [.ports, .insts, .ctxs, .jrn, .chans, .health, .out].all T.contains = true) (x0 : Nat) (x1 : Nat) (x2 : Sqe) : Only T a (State.createCq x0 x1 x2 s) := h.step (State.createCq_only x0 x1 x2 s) hT
theorem State.proxyIdentify_only (x0 : Ctx) (x1 : Nat) (x2 : Sqe) (s : State) : Only [.ports, .insts, .ctxs, .jrn, .chans, .health, .out] s (State.proxyIdentify x0 x1 x2 s) := by
  have h : Only [.ports, .insts, .ctxs, .jrn, .chans, .health, .out] s s := Only.refl _ _
  unfold State.proxyIdentify
  repeat' first | with_reducible assumption | intro _ | with_reducible apply Only.complete | with_reducible apply Only.toHost | with_reducible apply Only.foldl | with_reducible apply Only.foldl_snd | extract_lets | with_reducible refine Only.ite ?_ ?_ | split | decide
theorem Only.proxyIdentify {T : List Fld} {a s : State} (h : Only T a s) (hT : [.ports, .insts, .ctxs, .jrn, .chans, .health, .out].all T.contains = true) (x0 : Ctx) (x1 : Nat) (x2 : Sqe) : Only T a (State.proxyIdentify x0 x1 x2 s) := h.step (State.proxyIdentify_only x0 x1 x2 s) hT
theorem State.abort_only (x0 : Nat) (x1 : Nat) (x2 : Sqe) (s : State) : Only [.ports, .insts, .ctxs, .live, .jrn, .lines, .mc, .cache, .cw, .ops, .solves, .dies, .chanters, .stops, .chans, .ev, .health, .out] s (State.abort x0 x1 x2 s) := by
  have h : Only [.ports, .insts, .ctxs, .live, .jrn, .lines, .mc, .cache, .cw, .ops, .solves, .dies, .chanters, .stops, .chans, .ev, .health, .out] s s := Only.refl _ _
  unfold State.abort
  repeat' first | with_reducible assumption | intro _ | with_reducible apply Only.complete | with_reducible apply Only.retry | with_reducible apply Only.endCaught | with_reducible apply Only.foldl | with_reducible apply Only.foldl_snd | extract_lets | with_reducible refine Only.ite ?_ ?_ | split | decide
theorem Only.abort {T : List Fld} {a s : State} (h : Only T a s) (hT : [.ports, .insts, .ctxs, .live, .jrn, .lines, .mc, .cache, .cw, .ops, .solves, .dies, .chanters, .stops, .chans, .ev, .health, .out].all T.contains = true) (x0 : Nat) (x1 : Nat) (x2 : Sqe) : Only T a (State.abort x0 x1 x2 s) := h.step (State.abort_only x0 x1 x2 s) hT
theorem State.proxyAbort_only (x0 : Ctx) (x1 : Sqe) (s : State) : Only [.ports, .insts, .ctxs, .live, .jrn, .lines, .mc, .cache, .cw, .ops, .solves, .dies, .chanters, .stops, .chans, .ev, .health, .out] s (State.proxyAbort x0 x1 s) := by
  have h : Only [.ports, .insts, .ctxs, .live, .jrn, .lines, .mc, .cache, .cw, .ops, .solves, .dies, .chanters, .stops, .chans, .ev, .health, .out] s s := Only.refl _ _
  unfold State.proxyAbort
  repeat' first | with_reducible assumption | intro _ | with_reducible apply Only.complete | with_reducible apply Only.abort | with_reducible apply Only.foldl | with_reducible apply Only.foldl_snd | extract_lets | with_reducible refine Only.ite ?_ ?_ | split | decide
theorem Only.proxyAbort {T : List Fld} {a s : State} (h : Only T a s) (hT : [.ports, .insts, .ctxs, .live, .jrn, .lines, .mc, .cache, .cw, .ops, .solves, .dies, .chanters, .stops, .chans, .ev, .health, .out].all T.contains = true) (x0 : Ctx) (x1 : Sqe) : Only T a (State.proxyAbort x0 x1 s) := h.step (State.proxyAbort_only x0 x1 s) hT
theorem State.setVector_only (x0 : Nat) (x1 : W32) (s : State) : Only [.insts] s (State.setVector x0 x1 s) := by
  have h : Only [.insts] s s := Only.refl _ _
  unfold State.setVector
  repeat' first | with_reducible assumption | intro _ | with_reducible apply Only.modInst | with_reducible apply Only.foldl | with_reducible apply Only.foldl_snd | extract_lets | with_reducible refine Only.ite ?_ ?_ | split | decide
theorem Only.setVector {T : List Fld} {a s : State} (h : Only T a s) (hT : [.insts].all T.contains = true) (x0 : Nat) (x1 : W32) : Only T a (State.setVector x0 x1 s) := h.step (State.setVector_only x0 x1 s) hT
theorem State.proxySet_only (x0 : Ctx) (x1 : Nat) (x2 : Sqe) (s : State) : Only [.ports, .insts, .ctxs, .jrn, .chans, .health, .out] s (State.proxySet x0 x1 x2 s) := by
  have h : Only [.ports, .insts, .ctxs, .jrn, .chans, .health, .out] s s := Only.refl _ _
  unfold State.proxySet
  repeat' first | with_reducible assumption | intro _ | with_reducible apply Only.complete | with_reducible apply Only.setCoalesce | with_reducible apply Only.setVector | with_reducible apply Only.foldl | with_reducible apply Only.foldl_snd | extract_lets | with_reducible refine Only.ite ?_ ?_ | split | decide
theorem Only.proxySet {T : List Fld} {a s : State} (h : Only T a s) (hT : [.ports, .insts, .ctxs, .jrn, .chans, .health, .out].all T.contains = true) (x0 : Ctx) (x1 : Nat) (x2 : Sqe) : Only T a (State.proxySet x0 x1 x2 s) := h.step (State.proxySet_only x0 x1 x2 s) hT
theorem State.proxyGet_only (x0 : Ctx) (x1 : Nat) (x2 : Sqe) (s : State) : Only [.ports, .insts, .ctxs, .jrn, .chans, .health, .out] s (State.proxyGet x0 x1 x2 s) := by
  have h : Only [.ports, .insts, .ctxs, .jrn, .chans, .health, .out] s s := Only.refl _ _
  unfold State.proxyGet
  repeat' first | with_reducible assumption | intro _ | with_reducible apply Only.complete | with_reducible apply Only.foldl | with_reducible apply Only.foldl_snd | extract_lets | with_reducible refine Only.ite ?_ ?_ | split | decide
theorem Only.proxyGet {T : List Fld} {a s : State} (h : Only T a s) (hT : [.ports, .insts, .ctxs, .jrn, .chans, .health, .out].all T.contains = true) (x0 : Ctx) (x1 : Nat) (x2 : Sqe) : Only T a (State.proxyGet x0 x1 x2 s) := h.step (State.proxyGet_only x0 x1 x2 s) hT
theorem State.countFec_only (x0 : Nat) (x1 : LinkFrame) (s : State) : Only [.links] s (State.countFec x0 x1 s) := by
  have h : Only [.links] s s := Only.refl _ _
  unfold State.countFec
  repeat' first | with_reducible assumption | intro _ | with_reducible apply Only.modLink | with_reducible apply Only.foldl | with_reducible apply Only.foldl_snd | extract_lets | with_reducible refine Only.ite ?_ ?_ | split | decide
theorem Only.countFec {T : List Fld} {a s : State} (h : Only T a s) (hT : [.links].all T.contains = true) (x0 : Nat) (x1 : LinkFrame) : Only T a (State.countFec x0 x1 s) := h.step (State.countFec_only x0 x1 s) hT
theorem State.recGo_only (x0 : Nat) (x1 : Nat) (x2 : Nat) (s : State) : Only [.modes, .spares, .ports, .insts, .ctxs, .live, .jrn, .lines, .mc, .cache, .cw, .groups, .ops, .solves, .dies, .chanters, .links, .pods, .stops, .chans, .ev, .health, .out] s (State.recGo x0 x1 x2 s) := by
  induction x1 generalizing x2 with
  | zero => exact (Only.refl _ _).linkDead (by decide) _
  | succ f ih => exact Only.ite (fun _ => (Only.refl _ _).linkDead (by decide) _) (fun _ => Only.ite (fun _ => ih _) (fun _ => (Only.refl _ _).modLink (by decide) _ _))
theorem Only.recGo {T : List Fld} {a s : State} (h : Only T a s) (hT : [.modes, .spares, .ports, .insts, .ctxs, .live, .jrn, .lines, .mc, .cache, .cw, .groups, .ops, .solves, .dies, .chanters, .links, .pods, .stops, .chans, .ev, .health, .out].all T.contains = true) (x0 : Nat) (x1 : Nat) (x2 : Nat) : Only T a (State.recGo x0 x1 x2 s) := h.step (State.recGo_only x0 x1 x2 s) hT
theorem State.startRecovery_only (x0 : Nat) (x1 : Nat) (s : State) : Only [.modes, .spares, .ports, .insts, .ctxs, .live, .jrn, .lines, .mc, .cache, .cw, .groups, .ops, .solves, .dies, .chanters, .links, .pods, .stops, .chans, .ev, .health, .out] s (State.startRecovery x0 x1 s) := by
  have h : Only [.modes, .spares, .ports, .insts, .ctxs, .live, .jrn, .lines, .mc, .cache, .cw, .groups, .ops, .solves, .dies, .chanters, .links, .pods, .stops, .chans, .ev, .health, .out] s s := Only.refl _ _
  unfold State.startRecovery
  repeat' first | with_reducible assumption | intro _ | with_reducible apply Only.modLink | with_reducible apply Only.recGo | with_reducible apply Only.foldl | with_reducible apply Only.foldl_snd | extract_lets | with_reducible refine Only.ite ?_ ?_ | split | decide
theorem Only.startRecovery {T : List Fld} {a s : State} (h : Only T a s) (hT : [.modes, .spares, .ports, .insts, .ctxs, .live, .jrn, .lines, .mc, .cache, .cw, .groups, .ops, .solves, .dies, .chanters, .links, .pods, .stops, .chans, .ev, .health, .out].all T.contains = true) (x0 : Nat) (x1 : Nat) : Only T a (State.startRecovery x0 x1 s) := h.step (State.startRecovery_only x0 x1 s) hT
theorem State.violRecovery_only (x0 : Nat) (s : State) : Only [.modes, .spares, .ports, .insts, .ctxs, .live, .jrn, .lines, .mc, .cache, .cw, .groups, .ops, .solves, .dies, .chanters, .links, .pods, .stops, .chans, .ev, .health, .out] s (State.violRecovery x0 s) := by
  have h : Only [.modes, .spares, .ports, .insts, .ctxs, .live, .jrn, .lines, .mc, .cache, .cw, .groups, .ops, .solves, .dies, .chanters, .links, .pods, .stops, .chans, .ev, .health, .out] s s := Only.refl _ _
  unfold State.violRecovery
  repeat' first | with_reducible assumption | intro _ | with_reducible apply Only.startRecovery | with_reducible apply Only.modLink | with_reducible apply Only.foldl | with_reducible apply Only.foldl_snd | extract_lets | with_reducible refine Only.ite ?_ ?_ | split | decide
theorem Only.violRecovery {T : List Fld} {a s : State} (h : Only T a s) (hT : [.modes, .spares, .ports, .insts, .ctxs, .live, .jrn, .lines, .mc, .cache, .cw, .groups, .ops, .solves, .dies, .chanters, .links, .pods, .stops, .chans, .ev, .health, .out].all T.contains = true) (x0 : Nat) : Only T a (State.violRecovery x0 s) := h.step (State.violRecovery_only x0 s) hT
theorem State.replay_only (x0 : Nat) (s : State) : Only [.modes, .spares, .ports, .insts, .ctxs, .live, .jrn, .lines, .mc, .cache, .cw, .groups, .ops, .solves, .dies, .chanters, .links, .pods, .stops, .chans, .ev, .health, .out] s (State.replay x0 s) := by
  have h : Only [.modes, .spares, .ports, .insts, .ctxs, .live, .jrn, .lines, .mc, .cache, .cw, .groups, .ops, .solves, .dies, .chanters, .links, .pods, .stops, .chans, .ev, .health, .out] s s := Only.refl _ _
  unfold State.replay
  repeat' first | with_reducible assumption | intro _ | with_reducible apply Only.modLink | with_reducible apply Only.violRecovery | with_reducible apply Only.foldl | with_reducible apply Only.foldl_snd | extract_lets | with_reducible refine Only.ite ?_ ?_ | split | decide
theorem Only.replay {T : List Fld} {a s : State} (h : Only T a s) (hT : [.modes, .spares, .ports, .insts, .ctxs, .live, .jrn, .lines, .mc, .cache, .cw, .groups, .ops, .solves, .dies, .chanters, .links, .pods, .stops, .chans, .ev, .health, .out].all T.contains = true) (x0 : Nat) : Only T a (State.replay x0 s) := h.step (State.replay_only x0 s) hT
theorem State.ackFrame_only (x0 : Nat) (x1 : LinkFrame) (s : State) : Only [.modes, .spares, .ports, .insts, .ctxs, .live, .jrn, .lines, .mc, .cache, .cw, .groups, .ops, .solves, .dies, .chanters, .links, .pods, .stops, .chans, .ev, .health, .out] s (State.ackFrame x0 x1 s) := by
  have h : Only [.modes, .spares, .ports, .insts, .ctxs, .live, .jrn, .lines, .mc, .cache, .cw, .groups, .ops, .solves, .dies, .chanters, .links, .pods, .stops, .chans, .ev, .health, .out] s s := Only.refl _ _
  unfold State.ackFrame
  repeat' first | with_reducible assumption | intro _ | with_reducible apply Only.modLink | with_reducible apply Only.podViolation | with_reducible apply Only.replay | with_reducible apply Only.foldl | with_reducible apply Only.foldl_snd | extract_lets | with_reducible refine Only.ite ?_ ?_ | split | decide
theorem Only.ackFrame {T : List Fld} {a s : State} (h : Only T a s) (hT : [.modes, .spares, .ports, .insts, .ctxs, .live, .jrn, .lines, .mc, .cache, .cw, .groups, .ops, .solves, .dies, .chanters, .links, .pods, .stops, .chans, .ev, .health, .out].all T.contains = true) (x0 : Nat) (x1 : LinkFrame) : Only T a (State.ackFrame x0 x1 s) := h.step (State.ackFrame_only x0 x1 s) hT
theorem State.reviewLife_only (s : State) : Only [.ports, .insts, .ctxs, .ev, .health, .out] s (State.reviewLife s) := by
  have h : Only [.ports, .insts, .ctxs, .ev, .health, .out] s s := Only.refl _ _
  unfold State.reviewLife
  repeat' first | with_reducible assumption | intro _ | with_reducible apply Only.modHealth | with_reducible apply Only.healthEvent | with_reducible apply Only.postSmart | with_reducible apply Only.foldl | with_reducible apply Only.foldl_snd | extract_lets | with_reducible refine Only.ite ?_ ?_ | split | decide
theorem Only.reviewLife {T : List Fld} {a s : State} (h : Only T a s) (hT : [.ports, .insts, .ctxs, .ev, .health, .out].all T.contains = true) : Only T a (State.reviewLife s) := h.step (State.reviewLife_only s) hT
theorem State.bandErased_only (x0 : Nat) (x1 : Nat) (s : State) : Only [.part, .ports, .insts, .ctxs, .live, .jrn, .cache, .groups, .ops, .chans, .health, .out] s (State.bandErased x0 x1 s) := by
  have h : Only [.part, .ports, .insts, .ctxs, .live, .jrn, .cache, .groups, .ops, .chans, .health, .out] s s := Only.refl _ _
  unfold State.bandErased
  repeat' first | with_reducible assumption | intro _ | with_reducible apply Only.logBand | with_reducible apply Only.modCache | with_reducible apply Only.modGroup | with_reducible apply Only.modPart | with_reducible apply Only.each | with_reducible apply Only.completeSealed | with_reducible apply Only.erasePendingIn | with_reducible apply Only.modReloc | with_reducible apply Only.eraseOwed | with_reducible apply Only.foldl | with_reducible apply Only.foldl_snd | extract_lets | with_reducible refine Only.ite ?_ ?_ | split | decide
theorem Only.bandErased {T : List Fld} {a s : State} (h : Only T a s) (hT : [.part, .ports, .insts, .ctxs, .live, .jrn, .cache, .groups, .ops, .chans, .health, .out].all T.contains = true) (x0 : Nat) (x1 : Nat) : Only T a (State.bandErased x0 x1 s) := h.step (State.bandErased_only x0 x1 s) hT
theorem State.retireBlock_only (x0 : Nat) (x1 : Nat) (x2 : Nat) (s : State) : Only [.modes, .spares, .ports, .insts, .ctxs, .live, .jrn, .lines, .mc, .cache, .cw, .groups, .ops, .solves, .dies, .chanters, .links, .pods, .stops, .chans, .ev, .health, .out] s (State.retireBlock x0 x1 x2 s) := by
  have h : Only [.modes, .spares, .ports, .insts, .ctxs, .live, .jrn, .lines, .mc, .cache, .cw, .groups, .ops, .solves, .dies, .chanters, .links, .pods, .stops, .chans, .ev, .health, .out] s s := Only.refl _ _
  unfold State.retireBlock
  repeat' first | with_reducible assumption | intro _ | with_reducible apply Only.modDie | with_reducible apply Only.modHealth | with_reducible apply Only.logBand | with_reducible apply Only.setDegrade | with_reducible apply Only.healthEvent | with_reducible apply Only.postSmart | with_reducible apply Only.replaceDie | with_reducible apply Only.reviewAvailable | with_reducible apply Only.foldl | with_reducible apply Only.foldl_snd | extract_lets | with_reducible refine Only.ite ?_ ?_ | split | decide
theorem Only.retireBlock {T : List Fld} {a s : State} (h : Only T a s) (hT : [.modes, .spares, .ports, .insts, .ctxs, .live, .jrn, .lines, .mc, .cache, .cw, .groups, .ops, .solves, .dies, .chanters, .links, .pods, .stops, .chans, .ev, .health, .out].all T.contains = true) (x0 : Nat) (x1 : Nat) (x2 : Nat) : Only T a (State.retireBlock x0 x1 x2 s) := h.step (State.retireBlock_only x0 x1 x2 s) hT
theorem State.eraseEnded_only (x0 : Op) (x1 : Bool) (s : State) : Only [.modes, .part, .spares, .ports, .insts, .ctxs, .live, .jrn, .lines, .mc, .cache, .cw, .groups, .ops, .solves, .dies, .chanters, .links, .pods, .stops, .chans, .ev, .health, .out] s (State.eraseEnded x0 x1 s) := by
  have h : Only [.modes, .part, .spares, .ports, .insts, .ctxs, .live, .jrn, .lines, .mc, .cache, .cw, .groups, .ops, .solves, .dies, .chanters, .links, .pods, .stops, .chans, .ev, .health, .out] s s := Only.refl _ _
  unfold State.eraseEnded
  repeat' first | with_reducible assumption | intro _ | with_reducible apply Only.dropOp | with_reducible apply Only.modDie | with_reducible apply Only.reviewLife | with_reducible apply Only.bandErased | with_reducible apply Only.retireBlock | with_reducible apply Only.addOp | with_reducible apply Only.foldl | with_reducible apply Only.foldl_snd | (with_reducible apply Only.upd_ops; first | with_reducible assumption | with_reducible apply Only.dropOp | with_reducible apply Only.modDie | with_reducible apply Only.reviewLife | with_reducible apply Only.bandErased | with_reducible apply Only.retireBlock | with_reducible apply Only.addOp | with_reducible apply Only.foldl | with_reducible apply Only.foldl_snd | with_reducible refine Only.ite ?_ ?_) | extract_lets | with_reducible refine Only.ite ?_ ?_ | split | decide
theorem Only.eraseEnded {T : List Fld} {a s : State} (h : Only T a s) (hT : [.modes, .part, .spares, .ports, .insts, .ctxs, .live, .jrn, .lines, .mc, .cache, .cw, .groups, .ops, .solves, .dies, .chanters, .links, .pods, .stops, .chans, .ev, .health, .out].all T.contains = true) (x0 : Op) (x1 : Bool) : Only T a (State.eraseEnded x0 x1 s) := h.step (State.eraseEnded_only x0 x1 s) hT
theorem State.eraseLater_only (x0 : Op) (s : State) : Only [.ops, .health] s (State.eraseLater x0 s) := by
  have h : Only [.ops, .health] s s := Only.refl _ _
  unfold State.eraseLater
  repeat' first | with_reducible assumption | intro _ | with_reducible apply Only.addOp | with_reducible apply Only.dropOp | with_reducible apply Only.foldl | with_reducible apply Only.foldl_snd | extract_lets | with_reducible refine Only.ite ?_ ?_ | split | decide
theorem Only.eraseLater {T : List Fld} {a s : State} (h : Only T a s) (hT : [.ops, .health].all T.contains = true) (x0 : Op) : Only T a (State.eraseLater x0 s) := h.step (State.eraseLater_only x0 s) hT
theorem State.done_only (x0 : Op) (x1 : Nat) (x2 : Nat) (s : State) : Only [.modes, .part, .spares, .ports, .insts, .ctxs, .live, .jrn, .lines, .mc, .cache, .cw, .groups, .ops, .solves, .dies, .chanters, .links, .pods, .stops, .chans, .ev, .health, .out] s (State.done x0 x1 x2 s) := by
  have h : Only [.modes, .part, .spares, .ports, .insts, .ctxs, .live, .jrn, .lines, .mc, .cache, .cw, .groups, .ops, .solves, .dies, .chanters, .links, .pods, .stops, .chans, .ev, .health, .out] s s := Only.refl _ _
  unfold State.done
  repeat' first | with_reducible assumption | intro _ | with_reducible apply Only.modDie | with_reducible apply Only.dropOp | with_reducible apply Only.modOp | with_reducible apply Only.allToStep4 | with_reducible apply Only.suspectDie | with_reducible apply Only.programEnded | with_reducible apply Only.eraseEnded | with_reducible apply Only.eraseLater | with_reducible apply Only.foldl | with_reducible apply Only.foldl_snd | extract_lets | with_reducible refine Only.ite ?_ ?_ | split | decide
theorem Only.done {T : List Fld} {a s : State} (h : Only T a s) (hT : [.modes, .part, .spares, .ports, .insts, .ctxs, .live, .jrn, .lines, .mc, .cache, .cw, .groups, .ops, .solves, .dies, .chanters, .links, .pods, .stops, .chans, .ev, .health, .out].all T.contains = true) (x0 : Op) (x1 : Nat) (x2 : Nat) : Only T a (State.done x0 x1 x2 s) := h.step (State.done_only x0 x1 x2 s) hT
theorem State.dieReturns_only (x0 : Nat) (x1 : Nat) (s : State) : Only [.dies, .ev] s (State.dieReturns x0 x1 s) := by
  have h : Only [.dies, .ev] s s := Only.refl _ _
  unfold State.dieReturns
  repeat' first | with_reducible assumption | intro _ | with_reducible apply Only.report | with_reducible apply Only.modDie | with_reducible apply Only.foldl | with_reducible apply Only.foldl_snd | extract_lets | with_reducible refine Only.ite ?_ ?_ | split | decide
theorem Only.dieReturns {T : List Fld} {a s : State} (h : Only T a s) (hT : [.dies, .ev].all T.contains = true) (x0 : Nat) (x1 : Nat) : Only T a (State.dieReturns x0 x1 s) := h.step (State.dieReturns_only x0 x1 s) hT
theorem State.podSensorFailed_only (x0 : Nat) (s : State) : Only [.pw, .chanters, .links, .ev] s (State.podSensorFailed x0 s) := by
  have h : Only [.pw, .chanters, .links, .ev] s s := Only.refl _ _
  unfold State.podSensorFailed
  repeat' first | with_reducible assumption | intro _ | with_reducible apply Only.modLink | with_reducible apply Only.modPw | with_reducible apply Only.report | with_reducible apply Only.modChanter | with_reducible apply Only.foldl | with_reducible apply Only.foldl_snd | extract_lets | with_reducible refine Only.ite ?_ ?_ | split | decide
theorem Only.podSensorFailed {T : List Fld} {a s : State} (h : Only T a s) (hT : [.pw, .chanters, .links, .ev].all T.contains = true) (x0 : Nat) : Only T a (State.podSensorFailed x0 s) := h.step (State.podSensorFailed_only x0 s) hT
theorem State.podMsg_only (x0 : Nat) (x1 : PodMsg) (s : State) : Only [.modes, .pw, .part, .spares, .ports, .insts, .ctxs, .live, .jrn, .lines, .mc, .cache, .cw, .groups, .ops, .solves, .dies, .chanters, .links, .pods, .stops, .chans, .ev, .health, .out] s (State.podMsg x0 x1 s) := by
  have h : Only [.modes, .pw, .part, .spares, .ports, .insts, .ctxs, .live, .jrn, .lines, .mc, .cache, .cw, .groups, .ops, .solves, .dies, .chanters, .links, .pods, .stops, .chans, .ev, .health, .out] s s := Only.refl _ _
  unfold State.podMsg
  repeat' first | with_reducible assumption | intro _ | with_reducible apply Only.podViolation | with_reducible apply Only.done | with_reducible apply Only.modOp | with_reducible apply Only.modChanter | with_reducible apply Only.modDie | with_reducible apply Only.dieReturns | with_reducible apply Only.sendPod | with_reducible apply Only.failDie | with_reducible apply Only.modLink | with_reducible apply Only.modPod | with_reducible apply Only.podSensorFailed | with_reducible apply Only.suspectDie | with_reducible apply Only.report | with_reducible apply Only.linkDead | with_reducible apply Only.hello | with_reducible apply Only.foldl | with_reducible apply Only.foldl_snd | extract_lets | with_reducible refine Only.ite ?_ ?_ | split | decide
theorem Only.podMsg {T : List Fld} {a s : State} (h : Only T a s) (hT : [.modes, .pw, .part, .spares, .ports, .insts, .ctxs, .live, .jrn, .lines, .mc, .cache, .cw, .groups, .ops, .solves, .dies, .chanters, .links, .pods, .stops, .chans, .ev, .health, .out].all T.contains = true) (x0 : Nat) (x1 : PodMsg) : Only T a (State.podMsg x0 x1 s) := h.step (State.podMsg_only x0 x1 s) hT
theorem State.readToken_only (x0 : Nat) (s : State) : Only [.groups] s (State.readToken x0 s) := by
  have h : Only [.groups] s s := Only.refl _ _
  unfold State.readToken
  repeat' first | with_reducible assumption | intro _ | with_reducible apply Only.modGroup | with_reducible apply Only.foldl | with_reducible apply Only.foldl_snd | extract_lets | with_reducible refine Only.ite ?_ ?_ | split | decide
theorem Only.readToken {T : List Fld} {a s : State} (h : Only T a s) (hT : [.groups].all T.contains = true) (x0 : Nat) : Only T a (State.readToken x0 s) := h.step (State.readToken_only x0 s) hT
theorem State.issue_only (x0 : Op) (s : State) : Only [.groups, .ops, .dies, .chanters, .links, .out] s (State.issue x0 s) := by
  have h : Only [.groups, .ops, .dies, .chanters, .links, .out] s s := Only.refl _ _
  unfold State.issue
  repeat' first | with_reducible assumption | intro _ | with_reducible apply Only.modLink | with_reducible apply Only.modOp | with_reducible apply Only.modDie | with_reducible apply Only.readToken | with_reducible apply Only.modChanter | with_reducible apply Only.sendPod | with_reducible apply Only.foldl | with_reducible apply Only.foldl_snd | extract_lets | with_reducible refine Only.ite ?_ ?_ | split | decide
theorem Only.issue {T : List Fld} {a s : State} (h : Only T a s) (hT : [.groups, .ops, .dies, .chanters, .links, .out].all T.contains = true) (x0 : Op) : Only T a (State.issue x0 s) := h.step (State.issue_only x0 s) hT
theorem State.readAgain_only (x0 : Op) (s : State) : Only [.groups, .ops, .dies, .chanters, .links, .out] s (State.readAgain x0 s) := by
  have h : Only [.groups, .ops, .dies, .chanters, .links, .out] s s := Only.refl _ _
  unfold State.readAgain
  repeat' first | with_reducible assumption | intro _ | with_reducible apply Only.modOp | with_reducible apply Only.issue | with_reducible apply Only.foldl | with_reducible apply Only.foldl_snd | extract_lets | with_reducible refine Only.ite ?_ ?_ | split | decide
theorem Only.readAgain {T : List Fld} {a s : State} (h : Only T a s) (hT : [.groups, .ops, .dies, .chanters, .links, .out].all T.contains = true) (x0 : Op) : Only T a (State.readAgain x0 s) := h.step (State.readAgain_only x0 s) hT
theorem State.unitsIn__only (x0 : Op) (s : State) : Only [.ports, .insts, .ctxs, .live, .jrn, .lines, .mc, .cache, .cw, .groups, .ops, .solves, .dies, .chanters, .stops, .chans, .ev, .health, .out] s (State.unitsIn_ x0 s) := by
  have h : Only [.ports, .insts, .ctxs, .live, .jrn, .lines, .mc, .cache, .cw, .groups, .ops, .solves, .dies, .chanters, .stops, .chans, .ev, .health, .out] s s := Only.refl _ _
  unfold State.unitsIn_
  repeat' first | with_reducible assumption | intro _ | with_reducible apply Only.dropOp | with_reducible apply Only.modOp | with_reducible apply Only.toStep4 | with_reducible apply Only.foldl | with_reducible apply Only.foldl_snd | extract_lets | with_reducible refine Only.ite ?_ ?_ | split | decide
theorem Only.unitsIn_ {T : List Fld} {a s : State} (h : Only T a s) (hT : [.ports, .insts, .ctxs, .live, .jrn, .lines, .mc, .cache, .cw, .groups, .ops, .solves, .dies, .chanters, .stops, .chans, .ev, .health, .out].all T.contains = true) (x0 : Op) : Only T a (State.unitsIn_ x0 s) := h.step (State.unitsIn__only x0 s) hT
theorem State.podUnit_only (x0 : Nat) (x1 : PodUnit) (s : State) : Only [.modes, .spares, .ports, .insts, .ctxs, .live, .jrn, .lines, .mc, .cache, .cw, .groups, .ops, .solves, .dies, .chanters, .links, .pods, .stops, .chans, .ev, .health, .out] s (State.podUnit x0 x1 s) := by
  have h : Only [.modes, .spares, .ports, .insts, .ctxs, .live, .jrn, .lines, .mc, .cache, .cw, .groups, .ops, .solves, .dies, .chanters, .links, .pods, .stops, .chans, .ev, .health, .out] s s := Only.refl _ _
  unfold State.podUnit
  repeat' first | with_reducible assumption | intro _ | with_reducible apply Only.readAgain | with_reducible apply Only.podViolation | with_reducible apply Only.modLink | with_reducible apply Only.modDie | with_reducible apply Only.modOp | with_reducible apply Only.unitsIn_ | with_reducible apply Only.foldl | with_reducible apply Only.foldl_snd | extract_lets | with_reducible refine Only.ite ?_ ?_ | split | decide | dsimp +zetaDelta only
theorem Only.podUnit {T : List Fld} {a s : State} (h : Only T a s) (hT : [.modes, .spares, .ports, .insts, .ctxs, .live, .jrn, .lines, .mc, .cache, .cw, .groups, .ops, .solves, .dies, .chanters, .links, .pods, .stops, .chans, .ev, .health, .out].all T.contains = true) (x0 : Nat) (x1 : PodUnit) : Only T a (State.podUnit x0 x1 s) := h.step (State.podUnit_only x0 x1 s) hT
theorem State.fenceReads_only (x0 : Nat) (s : State) : Only [.chans, .out] s (State.fenceReads x0 s) := by
  have h : Only [.chans, .out] s s := Only.refl _ _
  unfold State.fenceReads
  repeat' first | with_reducible assumption | intro _ | with_reducible apply Only.emit | with_reducible apply Only.modChan | with_reducible apply Only.foldl | with_reducible apply Only.foldl_snd | extract_lets | with_reducible refine Only.ite ?_ ?_ | split | decide
theorem Only.fenceReads {T : List Fld} {a s : State} (h : Only T a s) (hT : [.chans, .out].all T.contains = true) (x0 : Nat) : Only T a (State.fenceReads x0 s) := h.step (State.fenceReads_only x0 s) hT
theorem State.moverCommand_only (x0 : Nat) (x1 : Bool) (x2 : Nat) (x3 : Nat) (x4 : List Byte) (s : State) : Only [.ports, .insts, .ctxs, .nextCtx, .fetches, .jrn, .stops, .chans, .ev, .health, .out] s (State.moverCommand x0 x1 x2 x3 x4 s) := by
  have h : Only [.ports, .insts, .ctxs, .nextCtx, .fetches, .jrn, .stops, .chans, .ev, .health, .out] s s := Only.refl _ _
  unfold State.moverCommand
  repeat' first | with_reducible assumption | intro _ | with_reducible apply Only.endDesc | with_reducible apply Only.modChan | with_reducible apply Only.foldl | with_reducible apply Only.foldl_snd | (with_reducible apply Only.upd_ctxs_nextCtx_fetches; first | with_reducible assumption | with_reducible apply Only.endDesc | with_reducible apply Only.modChan | with_reducible apply Only.foldl | with_reducible apply Only.foldl_snd | with_reducible refine Only.ite ?_ ?_) | extract_lets | with_reducible refine Only.ite ?_ ?_ | split | decide
theorem Only.moverCommand {T : List Fld} {a s : State} (h : Only T a s) (hT : [.ports, .insts, .ctxs, .nextCtx, .fetches, .jrn, .stops, .chans, .ev, .health, .out].all T.contains = true) (x0 : Nat) (x1 : Bool) (x2 : Nat) (x3 : Nat) (x4 : List Byte) : Only T a (State.moverCommand x0 x1 x2 x3 x4 s) := h.step (State.moverCommand_only x0 x1 x2 x3 x4 s) hT
theorem State.beginDesc_only (x0 : Nat) (s : State) : Only [.ports, .insts, .ctxs, .nextCtx, .fetches, .jrn, .stops, .chans, .ev, .health, .out] s (State.beginDesc x0 s) := by
  have h : Only [.ports, .insts, .ctxs, .nextCtx, .fetches, .jrn, .stops, .chans, .ev, .health, .out] s s := Only.refl _ _
  unfold State.beginDesc
  repeat' first | with_reducible assumption | intro _ | with_reducible apply Only.modChan | with_reducible apply Only.chanViolation | with_reducible apply Only.endDesc | with_reducible apply Only.fenceReads | with_reducible apply Only.moverCommand | with_reducible apply Only.foldl | with_reducible apply Only.foldl_snd | extract_lets | with_reducible refine Only.ite ?_ ?_ | split | decide
theorem Only.beginDesc {T : List Fld} {a s : State} (h : Only T a s) (hT : [.ports, .insts, .ctxs, .nextCtx, .fetches, .jrn, .stops, .chans, .ev, .health, .out].all T.contains = true) (x0 : Nat) : Only T a (State.beginDesc x0 s) := h.step (State.beginDesc_only x0 s) hT
theorem State.takeDesc_only (x0 : Nat) (x1 : Nat) (s : State) : Only [.ports, .insts, .ctxs, .nextCtx, .fetches, .jrn, .stops, .chans, .ev, .health, .out] s (State.takeDesc x0 x1 s) := by
  have h : Only [.ports, .insts, .ctxs, .nextCtx, .fetches, .jrn, .stops, .chans, .ev, .health, .out] s s := Only.refl _ _
  unfold State.takeDesc
  repeat' first | with_reducible assumption | intro _ | with_reducible apply Only.haltChan | with_reducible apply Only.checkOwned | with_reducible apply Only.fenceReads | with_reducible apply Only.modChan | with_reducible apply Only.beginDesc | with_reducible apply Only.foldl | with_reducible apply Only.foldl_snd | extract_lets | with_reducible refine Only.ite ?_ ?_ | split | decide
theorem Only.takeDesc {T : List Fld} {a s : State} (h : Only T a s) (hT : [.ports, .insts, .ctxs, .nextCtx, .fetches, .jrn, .stops, .chans, .ev, .health, .out].all T.contains = true) (x0 : Nat) (x1 : Nat) : Only T a (State.takeDesc x0 x1 s) := h.step (State.takeDesc_only x0 x1 s) hT
theorem State.arrive_only (x0 : Nat) (s : State) : Only [.ports, .insts, .ctxs, .live, .jrn, .lines, .mc, .cw, .ops, .solves, .dies, .chanters, .stops, .chans, .ev, .health, .out] s (State.arrive x0 s) := by
  have h : Only [.ports, .insts, .ctxs, .live, .jrn, .lines, .mc, .cw, .ops, .solves, .dies, .chanters, .stops, .chans, .ev, .health, .out] s s := Only.refl _ _
  unfold State.arrive
  repeat' first | with_reducible assumption | intro _ | with_reducible apply Only.modCtx | with_reducible apply Only.tryWrite | with_reducible apply Only.fillUnit | with_reducible apply Only.foldl | with_reducible apply Only.foldl_snd | extract_lets | with_reducible refine Only.ite ?_ ?_ | split | decide
theorem Only.arrive {T : List Fld} {a s : State} (h : Only T a s) (hT : [.ports, .insts, .ctxs, .live, .jrn, .lines, .mc, .cw, .ops, .solves, .dies, .chanters, .stops, .chans, .ev, .health, .out].all T.contains = true) (x0 : Nat) : Only T a (State.arrive x0 s) := h.step (State.arrive_only x0 s) hT
theorem State.checkDrain_only (x0 : Nat) (s : State) : Only [.ports, .insts, .ctxs, .live, .jrn, .stops, .store, .chans, .health, .out] s (State.checkDrain x0 s) := by
  have h : Only [.ports, .insts, .ctxs, .live, .jrn, .stops, .store, .chans, .health, .out] s s := Only.refl _ _
  unfold State.checkDrain
  repeat' first | with_reducible assumption | intro _ | with_reducible apply Only.endDrain | with_reducible apply Only.foldl | with_reducible apply Only.foldl_snd | extract_lets | with_reducible refine Only.ite ?_ ?_ | split | decide
theorem Only.checkDrain {T : List Fld} {a s : State} (h : Only T a s) (hT : [.ports, .insts, .ctxs, .live, .jrn, .stops, .store, .chans, .health, .out].all T.contains = true) (x0 : Nat) : Only T a (State.checkDrain x0 s) := h.step (State.checkDrain_only x0 s) hT
theorem State.xformDone_only (x0 : Nat) (x1 : StopCmd) (s : State) : Only [.ports, .insts, .ctxs, .live, .jrn, .lines, .mc, .cw, .ops, .solves, .dies, .chanters, .stops, .store, .chans, .ev, .health, .out] s (State.xformDone x0 x1 s) := by
  have h : Only [.ports, .insts, .ctxs, .live, .jrn, .lines, .mc, .cw, .ops, .solves, .dies, .chanters, .stops, .store, .chans, .ev, .health, .out] s s := Only.refl _ _
  unfold State.xformDone
  repeat' first | with_reducible assumption | intro _ | with_reducible apply Only.endTag | with_reducible apply Only.toTenant | with_reducible apply Only.complete | with_reducible apply Only.arrive | with_reducible apply Only.modCtx | with_reducible apply Only.checkDrain | with_reducible apply Only.foldl | with_reducible apply Only.foldl_snd | extract_lets | with_reducible refine Only.ite ?_ ?_ | split | decide
theorem Only.xformDone {T : List Fld} {a s : State} (h : Only T a s) (hT : [.ports, .insts, .ctxs, .live, .jrn, .lines, .mc, .cw, .ops, .solves, .dies, .chanters, .stops, .store, .chans, .ev, .health, .out].all T.contains = true) (x0 : Nat) (x1 : StopCmd) : Only T a (State.xformDone x0 x1 s) := h.step (State.xformDone_only x0 x1 s) hT
theorem Only.attachment {T : List Fld} {a s : State} (h : Only T a s) (hT : [.ports, .insts, .ctxs, .jrn, .chans, .health, .out].all T.contains = true) (x0 : Nat) (x1 : Nat) (x2 : Ctx → Ns → List Nat → State → State) (hg : ∀ y0 y1 y2 t, Only T a t → Only T a (x2 y0 y1 y2 t)) : Only T a (State.attachment x0 x1 x2 s) := by
  unfold State.attachment
  repeat' first | with_reducible assumption | intro _ | with_reducible apply hg | with_reducible apply Only.adminWait | with_reducible apply Only.completeBad | with_reducible apply Only.complete | with_reducible apply Only.foldl | with_reducible apply Only.foldl_snd | extract_lets | with_reducible refine Only.ite ?_ ?_ | split | exact Fld.all_sub hT (by decide)
theorem State.idle_only (s : State) : Only [.now] s (State.idle s) := by
  have h : Only [.now] s s := Only.refl _ _
  unfold State.idle
  repeat' first | with_reducible assumption | intro _ | with_reducible apply Only.foldl | with_reducible apply Only.foldl_snd | (with_reducible apply Only.upd_now; first | with_reducible assumption | with_reducible apply Only.foldl | with_reducible apply Only.foldl_snd | with_reducible refine Only.ite ?_ ?_) | extract_lets | with_reducible refine Only.ite ?_ ?_ | split | decide
theorem Only.idle {T : List Fld} {a s : State} (h : Only T a s) (hT : [.now].all T.contains = true) : Only T a (State.idle s) := h.step (State.idle_only s) hT
theorem State.stage_only (x0 : Nat) (x1 : Nat) (s : State) : Only [.cache] s (State.stage x0 x1 s) := by
  have h : Only [.cache] s s := Only.refl _ _
  unfold State.stage
  repeat' first | with_reducible assumption | intro _ | with_reducible apply Only.modCache | with_reducible apply Only.foldl | with_reducible apply Only.foldl_snd | extract_lets | with_reducible refine Only.ite ?_ ?_ | split | decide
theorem Only.stage {T : List Fld} {a s : State} (h : Only T a s) (hT : [.cache].all T.contains = true) (x0 : Nat) (x1 : Nat) : Only T a (State.stage x0 x1 s) := h.step (State.stage_only x0 x1 s) hT
theorem State.spaceFor_only (x0 : Nat) (x1 : Nat) (x2 : Bool) (s : State) : ∀ t, State.spaceFor x0 x1 x2 s = some t → Only [.cache] s t := by
  unfold State.spaceFor
  intro t ht
  split at ht
  · split at ht
    · cases ht; exact .refl _ _
    · cases ht
  · split at ht
    · cases ht; exact .refl _ _
    · split at ht
      · cases ht; exact (Only.refl _ _).stage (by decide) ..
      · cases ht
theorem Only.spaceFor_eq {T : List Fld} {a s : State} (h : Only T a s) (hT : [.cache].all T.contains = true) (x0 : Nat) (x1 : Nat) (x2 : Bool) {t} (e : State.spaceFor x0 x1 x2 s = some t) : Only T a t := h.step (State.spaceFor_only x0 x1 x2 s _ e) hT
theorem State.grantUnit_only (x0 : Nat) (x1 : Nat) (x2 : Bool) (s : State) : ∀ t, State.grantUnit x0 x1 x2 s = some t → Only [.ctxs, .live, .jrn, .lines, .cache, .cw, .groups, .ops, .health] s t := by
  intro t ht
  unfold State.grantUnit at ht
  split at ht; · cases ht
  split at ht; · cases ht
  dsimp only at ht
  split at ht; · cases ht
  split at ht; · cases ht
  rename_i m u hp
  split at ht
  · cases ht
  · rename_i w hw
    injection ht with ht
    subst ht
    refine Only.modCtx ?_ (by decide) _ _
    refine Only.ite (fun _ => Only.heatUp ?_ (by decide) _ _) (fun _ => ?_)
    all_goals refine Only.ite (fun _ => Only.modGroup ?_ (by decide) _ _) (fun _ => ?_)
    all_goals exact (Only.spaceFor_eq (h := Only.placeUnit_eq (h := .refl _ _) (hT := by decide) (e := hp) ..) (hT := by decide) (e := hw) ..).movePointer (by decide) _ _ _
theorem Only.grantUnit_eq {T : List Fld} {a s : State} (h : Only T a s) (hT : [.ctxs, .live, .jrn, .lines, .cache, .cw, .groups, .ops, .health].all T.contains = true) (x0 : Nat) (x1 : Nat) (x2 : Bool) {t} (e : State.grantUnit x0 x1 x2 s = some t) : Only T a t := h.step (State.grantUnit_only x0 x1 x2 s _ e) hT
theorem State.finishRaise_only (s : State) : Only [.part, .keep, .otp, .flash, .ev] s (State.finishRaise s) := by
  have h : Only [.part, .keep, .otp, .flash, .ev] s s := Only.refl _ _
  unfold State.finishRaise
  repeat' first | with_reducible assumption | intro _ | with_reducible apply Only.modFlash | with_reducible apply Only.report | with_reducible apply Only.modPart | with_reducible apply Only.keepWrite | with_reducible apply Only.foldl | with_reducible apply Only.foldl_snd | (with_reducible apply Only.upd_otp; first | with_reducible assumption | with_reducible apply Only.modFlash | with_reducible apply Only.report | with_reducible apply Only.modPart | with_reducible apply Only.keepWrite | with_reducible apply Only.foldl | with_reducible apply Only.foldl_snd | with_reducible refine Only.ite ?_ ?_) | extract_lets | with_reducible refine Only.ite ?_ ?_ | split | decide
theorem Only.finishRaise {T : List Fld} {a s : State} (h : Only T a s) (hT : [.part, .keep, .otp, .flash, .ev].all T.contains = true) : Only T a (State.finishRaise s) := h.step (State.finishRaise_only s) hT
theorem State.openAll_only (s : State) : Only [.live, .jrn, .cache, .groups, .ops, .health] s (State.openAll s) := by
  have h : Only [.live, .jrn, .cache, .groups, .ops, .health] s s := Only.refl _ _
  unfold State.openAll
  repeat' first | with_reducible assumption | intro _ | with_reducible apply Only.each | with_reducible apply Only.needStripe | with_reducible apply Only.foldl | with_reducible apply Only.foldl_snd | extract_lets | with_reducible refine Only.ite ?_ ?_ | split | decide
theorem Only.openAll {T : List Fld} {a s : State} (h : Only T a s) (hT : [.live, .jrn, .cache, .groups, .ops, .health].all T.contains = true) : Only T a (State.openAll s) := h.step (State.openAll_only s) hT
theorem State.armVault_only (s : State) : Only [.cache] s (State.armVault s) := by
  have h : Only [.cache] s s := Only.refl _ _
  unfold State.armVault
  repeat' first | with_reducible assumption | intro _ | with_reducible apply Only.modCache | with_reducible apply Only.foldl | with_reducible apply Only.foldl_snd | extract_lets | with_reducible refine Only.ite ?_ ?_ | split | decide
theorem Only.armVault {T : List Fld} {a s : State} (h : Only T a s) (hT : [.cache].all T.contains = true) : Only T a (State.armVault s) := h.step (State.armVault_only s) hT
theorem State.bayStatus_only (x0 : Nat) (x1 : BayStatus) (s : State) : Only [.modes, .spares, .ports, .insts, .ctxs, .live, .jrn, .lines, .mc, .cache, .cw, .groups, .ops, .solves, .dies, .chanters, .links, .pods, .stops, .chans, .ev, .health, .out] s (State.bayStatus x0 x1 s) := by
  have h : Only [.modes, .spares, .ports, .insts, .ctxs, .live, .jrn, .lines, .mc, .cache, .cw, .groups, .ops, .solves, .dies, .chanters, .links, .pods, .stops, .chans, .ev, .health, .out] s s := Only.refl _ _
  unfold State.bayStatus
  repeat' first | with_reducible assumption | intro _ | with_reducible apply Only.linkDead | with_reducible apply Only.retry | with_reducible apply Only.failPod | with_reducible apply Only.foldl | with_reducible apply Only.foldl_snd | extract_lets | with_reducible refine Only.ite ?_ ?_ | split | decide
theorem Only.bayStatus {T : List Fld} {a s : State} (h : Only T a s) (hT : [.modes, .spares, .ports, .insts, .ctxs, .live, .jrn, .lines, .mc, .cache, .cw, .groups, .ops, .solves, .dies, .chanters, .links, .pods, .stops, .chans, .ev, .health, .out].all T.contains = true) (x0 : Nat) (x1 : BayStatus) : Only T a (State.bayStatus x0 x1 s) := h.step (State.bayStatus_only x0 x1 s) hT
theorem State.strayDoorbell_only (x0 : Nat) (s : State) : Only [.ports, .insts, .ctxs, .out] s (State.strayDoorbell x0 s) := by
  have h : Only [.ports, .insts, .ctxs, .out] s s := Only.refl _ _
  unfold State.strayDoorbell
  repeat' first | with_reducible assumption | intro _ | with_reducible apply Only.modPort | with_reducible apply Only.postEvent | with_reducible apply Only.foldl | with_reducible apply Only.foldl_snd | extract_lets | with_reducible refine Only.ite ?_ ?_ | split | decide
theorem Only.strayDoorbell {T : List Fld} {a s : State} (h : Only T a s) (hT : [.ports, .insts, .ctxs, .out].all T.contains = true) (x0 : Nat) : Only T a (State.strayDoorbell x0 s) := h.step (State.strayDoorbell_only x0 s) hT
theorem State.violation_only (x0 : Nat) (s : State) : Only [.ports, .insts, .ctxs, .live, .jrn, .lines, .mc, .cache, .cw, .ops, .solves, .dies, .chanters, .stops, .chans, .ev, .health, .out] s (State.violation x0 s) := by
  have h : Only [.ports, .insts, .ctxs, .live, .jrn, .lines, .mc, .cache, .cw, .ops, .solves, .dies, .chanters, .stops, .chans, .ev, .health, .out] s s := Only.refl _ _
  unfold State.violation
  repeat' first | with_reducible assumption | intro _ | with_reducible apply Only.modInst | with_reducible apply Only.isolate | with_reducible apply Only.foldl | with_reducible apply Only.foldl_snd | extract_lets | with_reducible refine Only.ite ?_ ?_ | split | decide
theorem Only.violation {T : List Fld} {a s : State} (h : Only T a s) (hT : [.ports, .insts, .ctxs, .live, .jrn, .lines, .mc, .cache, .cw, .ops, .solves, .dies, .chanters, .stops, .chans, .ev, .health, .out].all T.contains = true) (x0 : Nat) : Only T a (State.violation x0 s) := h.step (State.violation_only x0 s) hT
theorem State.badDoorbell_only (x0 : Nat) (x1 : Nat) (x2 : Bool) (x3 : Option Nat) (s : State) : Only [.ports, .insts, .ctxs, .live, .jrn, .lines, .mc, .cache, .cw, .ops, .solves, .dies, .chanters, .stops, .chans, .ev, .health, .out] s (State.badDoorbell x0 x1 x2 x3 s) := by
  have h : Only [.ports, .insts, .ctxs, .live, .jrn, .lines, .mc, .cache, .cw, .ops, .solves, .dies, .chanters, .stops, .chans, .ev, .health, .out] s s := Only.refl _ _
  unfold State.badDoorbell
  repeat' first | with_reducible assumption | intro _ | with_reducible apply Only.postEvent | with_reducible apply Only.logError | with_reducible apply Only.violation | with_reducible apply Only.foldl | with_reducible apply Only.foldl_snd | extract_lets | with_reducible refine Only.ite ?_ ?_ | split | decide | dsimp +zetaDelta only
theorem Only.badDoorbell {T : List Fld} {a s : State} (h : Only T a s) (hT : [.ports, .insts, .ctxs, .live, .jrn, .lines, .mc, .cache, .cw, .ops, .solves, .dies, .chanters, .stops, .chans, .ev, .health, .out].all T.contains = true) (x0 : Nat) (x1 : Nat) (x2 : Bool) (x3 : Option Nat) : Only T a (State.badDoorbell x0 x1 x2 x3 s) := h.step (State.badDoorbell_only x0 x1 x2 x3 s) hT
theorem Only.doorbell {T : List Fld} {a s : State} (h : Only T a s) (hT : [.ports, .insts, .ctxs, .live, .jrn, .lines, .mc, .cache, .cw, .ops, .solves, .dies, .chanters, .stops, .chans, .ev, .health, .out].all T.contains = true) (x0 : Nat) (x1 : DoorbellAt) (x2 : Bool) (x3 : Nat → Nat → Bool) (x4 : Nat → Nat → State → State) (hg : ∀ y0 y1 t, Only T a t → Only T a (x4 y0 y1 t)) : Only T a (State.doorbell x0 x1 x2 x3 x4 s) := by
  unfold State.doorbell
  repeat' first | with_reducible assumption | intro _ | with_reducible apply hg | with_reducible apply Only.strayDoorbell | with_reducible apply Only.badDoorbell | with_reducible apply Only.foldl | with_reducible apply Only.foldl_snd | extract_lets | with_reducible refine Only.ite ?_ ?_ | split | exact Fld.all_sub hT (by decide)
theorem State.useImage_only (x0 : VoicingImage) (s : State) : Only [.flash, .spares] s (State.useImage x0 s) := by
  have h : Only [.flash, .spares] s s := Only.refl _ _
  unfold State.useImage
  repeat' first | with_reducible assumption | intro _ | with_reducible apply Only.modFlash | with_reducible apply Only.modSpares | with_reducible apply Only.foldl | with_reducible apply Only.foldl_snd | extract_lets | with_reducible refine Only.ite ?_ ?_ | split | decide
theorem Only.useImage {T : List Fld} {a s : State} (h : Only T a s) (hT : [.flash, .spares].all T.contains = true) (x0 : VoicingImage) : Only T a (State.useImage x0 s) := h.step (State.useImage_only x0 s) hT
theorem State.powerSpare_only (x0 : Nat) (s : State) : Only [.links, .pods, .out] s (State.powerSpare x0 s) := by
  have h : Only [.links, .pods, .out] s s := Only.refl _ _
  unfold State.powerSpare
  repeat' first | with_reducible assumption | intro _ | with_reducible apply Only.modLink | with_reducible apply Only.modPod | with_reducible apply Only.emit | with_reducible apply Only.foldl | with_reducible apply Only.foldl_snd | extract_lets | with_reducible refine Only.ite ?_ ?_ | split | decide
theorem Only.powerSpare {T : List Fld} {a s : State} (h : Only T a s) (hT : [.links, .pods, .out].all T.contains = true) (x0 : Nat) : Only T a (State.powerSpare x0 s) := h.step (State.powerSpare_only x0 s) hT
theorem State.applyImage_only (x0 : VoicingImage) (s : State) : Only [.modes, .flash, .spares, .ports, .insts, .ctxs, .live, .jrn, .cache, .links, .pods, .out] s (State.applyImage x0 s) := by
  have h : Only [.modes, .flash, .spares, .ports, .insts, .ctxs, .live, .jrn, .cache, .links, .pods, .out] s s := Only.refl _ _
  unfold State.applyImage
  repeat' first | with_reducible assumption | intro _ | with_reducible apply Only.useImage | with_reducible apply Only.allPorts | with_reducible apply Only.makeZero | with_reducible apply Only.each | with_reducible apply Only.powerSpare | with_reducible apply Only.modPod | with_reducible apply Only.podOff | with_reducible apply Only.setLimit | with_reducible apply Only.countPods | with_reducible apply Only.foldl | with_reducible apply Only.foldl_snd | extract_lets | with_reducible refine Only.ite ?_ ?_ | split | decide
theorem Only.applyImage {T : List Fld} {a s : State} (h : Only T a s) (hT : [.modes, .flash, .spares, .ports, .insts, .ctxs, .live, .jrn, .cache, .links, .pods, .out].all T.contains = true) (x0 : VoicingImage) : Only T a (State.applyImage x0 s) := h.step (State.applyImage_only x0 s) hT
theorem State.resumeOp_only (x0 : Op) (s : State) : Only [.ops, .links, .out] s (State.resumeOp x0 s) := by
  have h : Only [.ops, .links, .out] s s := Only.refl _ _
  unfold State.resumeOp
  repeat' first | with_reducible assumption | intro _ | with_reducible apply Only.modOp | with_reducible apply Only.sendPod | with_reducible apply Only.foldl | with_reducible apply Only.foldl_snd | extract_lets | with_reducible refine Only.ite ?_ ?_ | split | decide
theorem Only.resumeOp {T : List Fld} {a s : State} (h : Only T a s) (hT : [.ops, .links, .out].all T.contains = true) (x0 : Op) : Only T a (State.resumeOp x0 s) := h.step (State.resumeOp_only x0 s) hT
theorem State.considerSuspend_only (x0 : Op) (s : State) : Only [.ports, .insts, .ctxs, .live, .jrn, .lines, .mc, .groups, .ops, .solves, .dies, .chanters, .links, .stops, .chans, .ev, .health, .out] s (State.considerSuspend x0 s) := by
  have h : Only [.ports, .insts, .ctxs, .live, .jrn, .lines, .mc, .groups, .ops, .solves, .dies, .chanters, .links, .stops, .chans, .ev, .health, .out] s s := Only.refl _ _
  unfold State.considerSuspend
  repeat' first | with_reducible assumption | intro _ | with_reducible apply Only.sendPod | with_reducible apply Only.modOp | with_reducible apply Only.readAround | with_reducible apply Only.foldl | with_reducible apply Only.foldl_snd | extract_lets | with_reducible refine Only.ite ?_ ?_ | split | decide
theorem Only.considerSuspend {T : List Fld} {a s : State} (h : Only T a s) (hT : [.ports, .insts, .ctxs, .live, .jrn, .lines, .mc, .groups, .ops, .solves, .dies, .chanters, .links, .stops, .chans, .ev, .health, .out].all T.contains = true) (x0 : Op) : Only T a (State.considerSuspend x0 s) := h.step (State.considerSuspend_only x0 s) hT
theorem State.fitLink_only (x0 : Nat) (x1 : Clocking) (s : State) : Only [.ports] s (State.fitLink x0 x1 s) := by
  have h : Only [.ports] s s := Only.refl _ _
  unfold State.fitLink
  repeat' first | with_reducible assumption | intro _ | with_reducible apply Only.modPort | with_reducible apply Only.foldl | with_reducible apply Only.foldl_snd | extract_lets | with_reducible refine Only.ite ?_ ?_ | split | decide
theorem Only.fitLink {T : List Fld} {a s : State} (h : Only T a s) (hT : [.ports].all T.contains = true) (x0 : Nat) (x1 : Clocking) : Only T a (State.fitLink x0 x1 s) := h.step (State.fitLink_only x0 x1 s) hT
theorem State.save_only (x0 : Nat) (x1 : Nat) (x2 : W32) (s : State) : Only [.ports] s (State.save x0 x1 x2 s) := by
  have h : Only [.ports] s s := Only.refl _ _
  unfold State.save
  repeat' first | with_reducible assumption | intro _ | with_reducible apply Only.modPort | with_reducible apply Only.foldl | with_reducible apply Only.foldl_snd | extract_lets | with_reducible refine Only.ite ?_ ?_ | split | decide
theorem Only.save {T : List Fld} {a s : State} (h : Only T a s) (hT : [.ports].all T.contains = true) (x0 : Nat) (x1 : Nat) (x2 : W32) : Only T a (State.save x0 x1 x2 s) := h.step (State.save_only x0 x1 x2 s) hT
theorem State.keepFeature_only (x0 : Nat) (x1 : Nat) (x2 : W32 → Port → Port) (s : State) : Only [.ports, .insts, .ctxs, .jrn, .chans, .health, .out] s (State.keepFeature x0 x1 x2 s) := by
  have h : Only [.ports, .insts, .ctxs, .jrn, .chans, .health, .out] s s := Only.refl _ _
  unfold State.keepFeature
  repeat' first | with_reducible assumption | intro _ | with_reducible apply Only.setFeature | with_reducible apply Only.save | with_reducible apply Only.complete | with_reducible apply Only.modPort | with_reducible apply Only.foldl | with_reducible apply Only.foldl_snd | extract_lets | with_reducible refine Only.ite ?_ ?_ | split | decide
theorem Only.keepFeature {T : List Fld} {a s : State} (h : Only T a s) (hT : [.ports, .insts, .ctxs, .jrn, .chans, .health, .out].all T.contains = true) (x0 : Nat) (x1 : Nat) (x2 : W32 → Port → Port) : Only T a (State.keepFeature x0 x1 x2 s) := h.step (State.keepFeature_only x0 x1 x2 s) hT
theorem State.askEpoch_only (x0 : Nat) (x1 : Nat) (x2 : EpochAct) (s : State) : Only [.modes, .ports, .insts, .ctxs, .jrn, .chans, .health, .out] s (State.askEpoch x0 x1 x2 s) := by
  have h : Only [.modes, .ports, .insts, .ctxs, .jrn, .chans, .health, .out] s s := Only.refl _ _
  unfold State.askEpoch
  repeat' first | with_reducible assumption | intro _ | with_reducible apply Only.complete | with_reducible apply Only.startDevEpoch | with_reducible apply Only.foldl | with_reducible apply Only.foldl_snd | extract_lets | with_reducible refine Only.ite ?_ ?_ | split | decide
theorem Only.askEpoch {T : List Fld} {a s : State} (h : Only T a s) (hT : [.modes, .ports, .insts, .ctxs, .jrn, .chans, .health, .out].all T.contains = true) (x0 : Nat) (x1 : Nat) (x2 : EpochAct) : Only T a (State.askEpoch x0 x1 x2 s) := h.step (State.askEpoch_only x0 x1 x2 s) hT
theorem State.placePackage_only (x0 : Package) (x1 : VerifyFound) (x2 : Bool) (s : State) : Only [.flash, .stops] s (State.placePackage x0 x1 x2 s) := by
  have h : Only [.flash, .stops] s s := Only.refl _ _
  unfold State.placePackage
  repeat' first | with_reducible assumption | intro _ | with_reducible apply Only.modFlash | with_reducible apply Only.modStop | with_reducible apply Only.foldl | with_reducible apply Only.foldl_snd | extract_lets | with_reducible refine Only.ite ?_ ?_ | split | decide
theorem Only.placePackage {T : List Fld} {a s : State} (h : Only T a s) (hT : [.flash, .stops].all T.contains = true) (x0 : Package) (x1 : VerifyFound) (x2 : Bool) : Only T a (State.placePackage x0 x1 x2 s) := h.step (State.placePackage_only x0 x1 x2 s) hT
theorem State.acceptLoad_only (x0 : Nat) (x1 : StopImage) (x2 : Option Nat) (s : State) : Only [.flash, .ctxs, .stops, .store] s (State.acceptLoad x0 x1 x2 s) := by
  have h : Only [.flash, .ctxs, .stops, .store] s s := Only.refl _ _
  unfold State.acceptLoad
  repeat' first | with_reducible assumption | intro _ | with_reducible apply Only.modFlash | with_reducible apply Only.modStop | with_reducible apply Only.startEpoch | with_reducible apply Only.modCtx | with_reducible apply Only.foldl | with_reducible apply Only.foldl_snd | (with_reducible apply Only.upd_store; first | with_reducible assumption | with_reducible apply Only.modFlash | with_reducible apply Only.modStop | with_reducible apply Only.startEpoch | with_reducible apply Only.modCtx | with_reducible apply Only.foldl | with_reducible apply Only.foldl_snd | with_reducible refine Only.ite ?_ ?_) | extract_lets | with_reducible refine Only.ite ?_ ?_ | split | decide
theorem Only.acceptLoad {T : List Fld} {a s : State} (h : Only T a s) (hT : [.flash, .ctxs, .stops, .store].all T.contains = true) (x0 : Nat) (x1 : StopImage) (x2 : Option Nat) : Only T a (State.acceptLoad x0 x1 x2 s) := h.step (State.acceptLoad_only x0 x1 x2 s) hT
theorem State.verified_only (x0 : Package) (x1 : Option Verify) (x2 : VerifyFound) (s : State) : Only [.modes, .part, .keep, .flash, .ports, .insts, .ctxs, .jrn, .stops, .store, .chans, .health, .out] s (State.verified x0 x1 x2 s) := by
  have h : Only [.modes, .part, .keep, .flash, .ports, .insts, .ctxs, .jrn, .stops, .store, .chans, .health, .out] s s := Only.refl _ _
  unfold State.verified
  repeat' first | with_reducible assumption | intro _ | with_reducible apply Only.keepWrite | with_reducible apply Only.placePackage | with_reducible apply Only.modFlash | with_reducible apply Only.complete | with_reducible apply Only.startDevEpoch | with_reducible apply Only.refuseUpdate | with_reducible apply Only.acceptLoad | with_reducible apply Only.foldl | with_reducible apply Only.foldl_snd | extract_lets | with_reducible refine Only.ite ?_ ?_ | split | decide
theorem Only.verified {T : List Fld} {a s : State} (h : Only T a s) (hT : [.modes, .part, .keep, .flash, .ports, .insts, .ctxs, .jrn, .stops, .store, .chans, .health, .out].all T.contains = true) (x0 : Package) (x1 : Option Verify) (x2 : VerifyFound) : Only T a (State.verified x0 x1 x2 s) := h.step (State.verified_only x0 x1 x2 s) hT
theorem State.blockProgrammed_only (x0 : Nat) (s : State) : Only [.part, .keep, .flash, .ports, .insts, .ctxs, .jrn, .chans, .health, .out] s (State.blockProgrammed x0 s) := by
  have h : Only [.part, .keep, .flash, .ports, .insts, .ctxs, .jrn, .chans, .health, .out] s s := Only.refl _ _
  unfold State.blockProgrammed
  repeat' first | with_reducible assumption | intro _ | with_reducible apply Only.keepWrite | with_reducible apply Only.modFlash | with_reducible apply Only.complete | with_reducible apply Only.foldl | with_reducible apply Only.foldl_snd | extract_lets | with_reducible refine Only.ite ?_ ?_ | split | decide
theorem Only.blockProgrammed {T : List Fld} {a s : State} (h : Only T a s) (hT : [.part, .keep, .flash, .ports, .insts, .ctxs, .jrn, .chans, .health, .out].all T.contains = true) (x0 : Nat) : Only T a (State.blockProgrammed x0 s) := h.step (State.blockProgrammed_only x0 s) hT
theorem State.spRestartComplete_only (s : State) : Only [.modes, .pw, .part, .keep, .otp, .flash, .format, .spares, .ports, .insts, .ctxs, .live, .jrn, .vault, .lines, .lends, .mc, .cache, .cw, .groups, .ops, .solves, .dies, .chanters, .links, .pods, .stops, .chans, .drones, .ev, .health, .free, .out] s (State.spRestartComplete s) := by
  have h : Only [.modes, .pw, .part, .keep, .otp, .flash, .format, .spares, .ports, .insts, .ctxs, .live, .jrn, .vault, .lines, .lends, .mc, .cache, .cw, .groups, .ops, .solves, .dies, .chanters, .links, .pods, .stops, .chans, .drones, .ev, .health, .free, .out] s s := Only.refl _ _
  unfold State.spRestartComplete
  repeat' first | with_reducible assumption | intro _ | with_reducible apply Only.modPart | with_reducible apply Only.mbTakeQueue | with_reducible apply Only.causeArises | with_reducible apply Only.foldl | with_reducible apply Only.foldl_snd | extract_lets | with_reducible refine Only.ite ?_ ?_ | split | decide
theorem Only.spRestartComplete {T : List Fld} {a s : State} (h : Only T a s) (hT : [.modes, .pw, .part, .keep, .otp, .flash, .format, .spares, .ports, .insts, .ctxs, .live, .jrn, .vault, .lines, .lends, .mc, .cache, .cw, .groups, .ops, .solves, .dies, .chanters, .links, .pods, .stops, .chans, .drones, .ev, .health, .free, .out].all T.contains = true) : Only T a (State.spRestartComplete s) := h.step (State.spRestartComplete_only s) hT
theorem State.endDevEpoch_only (s : State) : Only [.modes, .ports, .insts, .ctxs, .jrn, .stops, .chans, .ev, .health, .out] s (State.endDevEpoch s) := by
  have h : Only [.modes, .ports, .insts, .ctxs, .jrn, .stops, .chans, .ev, .health, .out] s s := Only.refl _ _
  unfold State.endDevEpoch
  repeat' first | with_reducible assumption | intro _ | with_reducible apply Only.leaveQuiesce | with_reducible apply Only.modModes | with_reducible apply Only.foldl | with_reducible apply Only.foldl_snd | extract_lets | with_reducible refine Only.ite ?_ ?_ | split | decide
theorem Only.endDevEpoch {T : List Fld} {a s : State} (h : Only T a s) (hT : [.modes, .ports, .insts, .ctxs, .jrn, .stops, .chans, .ev, .health, .out].all T.contains = true) : Only T a (State.endDevEpoch s) := h.step (State.endDevEpoch_only s) hT
theorem State.answerEpoch_only (x0 : DevEpoch) (x1 : Nat) (s : State) : Only [.ports, .insts, .ctxs, .jrn, .chans, .health, .out] s (State.answerEpoch x0 x1 s) := by
  have h : Only [.ports, .insts, .ctxs, .jrn, .chans, .health, .out] s s := Only.refl _ _
  unfold State.answerEpoch
  repeat' first | with_reducible assumption | intro _ | with_reducible apply Only.complete | with_reducible apply Only.foldl | with_reducible apply Only.foldl_snd | extract_lets | with_reducible refine Only.ite ?_ ?_ | split | decide
theorem Only.answerEpoch {T : List Fld} {a s : State} (h : Only T a s) (hT : [.ports, .insts, .ctxs, .jrn, .chans, .health, .out].all T.contains = true) (x0 : DevEpoch) (x1 : Nat) : Only T a (State.answerEpoch x0 x1 s) := h.step (State.answerEpoch_only x0 x1 s) hT
theorem State.noteScrubbed_only (x0 : Nat) (x1 : Nat) (s : State) : Only [.health] s (State.noteScrubbed x0 x1 s) := by
  have h : Only [.health] s s := Only.refl _ _
  unfold State.noteScrubbed
  repeat' first | with_reducible assumption | intro _ | with_reducible apply Only.modHealth | with_reducible apply Only.foldl | with_reducible apply Only.foldl_snd | extract_lets | with_reducible refine Only.ite ?_ ?_ | split | decide
theorem Only.noteScrubbed {T : List Fld} {a s : State} (h : Only T a s) (hT : [.health].all T.contains = true) (x0 : Nat) (x1 : Nat) : Only T a (State.noteScrubbed x0 x1 s) := h.step (State.noteScrubbed_only x0 x1 s) hT
theorem State.reviewRegions_only (s : State) : Only [.mc, .ev] s (State.reviewRegions s) := by
  have h : Only [.mc, .ev] s s := Only.refl _ _
  unfold State.reviewRegions
  repeat' first | with_reducible assumption | intro _ | with_reducible apply Only.each | with_reducible apply Only.report | with_reducible apply Only.modMc | with_reducible apply Only.foldl | with_reducible apply Only.foldl_snd | extract_lets | with_reducible refine Only.ite ?_ ?_ | split | decide
theorem Only.reviewRegions {T : List Fld} {a s : State} (h : Only T a s) (hT : [.mc, .ev].all T.contains = true) : Only T a (State.reviewRegions s) := h.step (State.reviewRegions_only s) hT
theorem State.issueFetch_only (x0 : Fetch) (s : State) : Only [.mc, .out] s (State.issueFetch x0 s) := by
  have h : Only [.mc, .out] s s := Only.refl _ _
  unfold State.issueFetch
  repeat' first | with_reducible assumption | intro _ | with_reducible apply Only.modMc | with_reducible apply Only.emit | with_reducible apply Only.foldl | with_reducible apply Only.foldl_snd | extract_lets | with_reducible refine Only.ite ?_ ?_ | split | decide
theorem Only.issueFetch {T : List Fld} {a s : State} (h : Only T a s) (hT : [.mc, .out].all T.contains = true) (x0 : Fetch) : Only T a (State.issueFetch x0 s) := h.step (State.issueFetch_only x0 s) hT
theorem State.issueFetches_only (s : State) : Only [.mc, .out] s (State.issueFetches s) := by
  have h : Only [.mc, .out] s s := Only.refl _ _
  unfold State.issueFetches
  repeat' first | with_reducible assumption | intro _ | with_reducible apply Only.issueFetch | with_reducible apply Only.foldl | with_reducible apply Only.foldl_snd | extract_lets | with_reducible refine Only.ite ?_ ?_ | split | decide
theorem Only.issueFetches {T : List Fld} {a s : State} (h : Only T a s) (hT : [.mc, .out].all T.contains = true) : Only T a (State.issueFetches s) := h.step (State.issueFetches_only s) hT
theorem State.fetchOver_only (x0 : Nat) (x1 : Nat) (s : State) : Only [.mc, .out] s (State.fetchOver x0 x1 s) := by
  have h : Only [.mc, .out] s s := Only.refl _ _
  unfold State.fetchOver
  repeat' first | with_reducible assumption | intro _ | with_reducible apply Only.issueFetches | with_reducible apply Only.modMc | with_reducible apply Only.foldl | with_reducible apply Only.foldl_snd | extract_lets | with_reducible refine Only.ite ?_ ?_ | split | decide
theorem Only.fetchOver {T : List Fld} {a s : State} (h : Only T a s) (hT : [.mc, .out].all T.contains = true) (x0 : Nat) (x1 : Nat) : Only T a (State.fetchOver x0 x1 s) := h.step (State.fetchOver_only x0 x1 s) hT
theorem State.spaceGranted_only (x0 : Nat) (s : State) : Only [.ports, .insts, .ctxs, .live, .jrn, .lines, .mc, .cache, .cw, .ops, .solves, .dies, .chanters, .stops, .chans, .ev, .health, .out] s (State.spaceGranted x0 s) := by
  have h : Only [.ports, .insts, .ctxs, .live, .jrn, .lines, .mc, .cache, .cw, .ops, .solves, .dies, .chanters, .stops, .chans, .ev, .health, .out] s s := Only.refl _ _
  unfold State.spaceGranted
  repeat' first | with_reducible assumption | intro _ | with_reducible apply Only.modCache | with_reducible apply Only.modInst | with_reducible apply Only.modCtx | with_reducible apply Only.startMerges | with_reducible apply Only.arrive | with_reducible apply Only.foldl | with_reducible apply Only.foldl_snd | extract_lets | with_reducible refine Only.ite ?_ ?_ | split | decide
theorem Only.spaceGranted {T : List Fld} {a s : State} (h : Only T a s) (hT : [.ports, .insts, .ctxs, .live, .jrn, .lines, .mc, .cache, .cw, .ops, .solves, .dies, .chanters, .stops, .chans, .ev, .health, .out].all T.contains = true) (x0 : Nat) : Only T a (State.spaceGranted x0 s) := h.step (State.spaceGranted_only x0 s) hT
theorem State.grantWrite_only (x0 : Nat) (x1 : List Nat) (s : State) : Only [.ports, .insts, .ctxs, .live, .jrn, .lines, .mc, .cache, .cw, .groups, .ops, .solves, .dies, .chanters, .stops, .chans, .ev, .health, .out] s (State.grantWrite x0 x1 s).2 := by
  induction x1 generalizing s with
  | nil => exact (Only.refl _ _).spaceGranted (by decide) _
  | cons u rest ih =>
    unfold State.grantWrite
    split
    · exact .refl _ _
    · rename_i t ht
      exact ((Only.refl _ _).grantUnit_eq (by decide) (e := ht) ..).step (ih _) (by decide)
theorem Only.grantWrite {T : List Fld} {a s : State} (h : Only T a s) (hT : [.ports, .insts, .ctxs, .live, .jrn, .lines, .mc, .cache, .cw, .groups, .ops, .solves, .dies, .chanters, .stops, .chans, .ev, .health, .out].all T.contains = true) (x0 : Nat) (x1 : List Nat) : Only T a (State.grantWrite x0 x1 s).2 := h.step (State.grantWrite_only x0 x1 s) hT
theorem Only.grantWrite_eq {T : List Fld} {a s : State} (h : Only T a s) (hT : [.ports, .insts, .ctxs, .live, .jrn, .lines, .mc, .cache, .cw, .groups, .ops, .solves, .dies, .chanters, .stops, .chans, .ev, .health, .out].all T.contains = true) (x0 : Nat) (x1 : List Nat) {r t} (e : State.grantWrite x0 x1 s = (r, t)) : Only T a t := h.step (by have := State.grantWrite_only x0 x1 s; rw [e] at this; exact this) hT
theorem State.grantAll_only (x0 : Nat) (s : State) : Only [.ports, .insts, .ctxs, .live, .jrn, .lines, .mc, .cache, .cw, .groups, .ops, .solves, .dies, .chanters, .stops, .chans, .ev, .health, .out] s (State.grantAll x0 s) := by
  induction x0 generalizing s with
  | zero => exact .refl _ _
  | succ f ih =>
    unfold State.grantAll
    split
    · exact .refl _ _
    · split
      · exact .refl _ _
      · exact Only.ite (fun _ => ((Only.refl _ _).grantWrite (by decide) _ _).step (ih _) (by decide)) (fun _ => (Only.refl _ _).grantWrite (by decide) _ _)
theorem Only.grantAll {T : List Fld} {a s : State} (h : Only T a s) (hT : [.ports, .insts, .ctxs, .live, .jrn, .lines, .mc, .cache, .cw, .groups, .ops, .solves, .dies, .chanters, .stops, .chans, .ev, .health, .out].all T.contains = true) (x0 : Nat) : Only T a (State.grantAll x0 s) := h.step (State.grantAll_only x0 s) hT
theorem Only.ofCommand {T : List Fld} {a s : State} (h : Only T a s) (hT : [.ports, .insts, .ctxs, .jrn, .stops, .chans, .ev, .health, .out].all T.contains = true) (x0 : Nat) (x1 : OutFrame) (x2 : StopCmd → State → State) (hg : ∀ y0 t, Only T a t → Only T a (x2 y0 t)) : Only T a (State.ofCommand x0 x1 x2 s) := by
  unfold State.ofCommand
  repeat' first | with_reducible assumption | intro _ | with_reducible apply hg | with_reducible apply Only.modStop | with_reducible apply Only.lateDiscard | with_reducible apply Only.stopViolation | with_reducible apply Only.violated | with_reducible apply Only.modStopCmd | with_reducible apply Only.foldl | with_reducible apply Only.foldl_snd | extract_lets | with_reducible refine Only.ite ?_ ?_ | split | exact Fld.all_sub hT (by decide)
theorem State.xformFault_only (x0 : Nat) (s : State) : Only [.ports, .insts, .ctxs, .jrn, .stops, .chans, .ev, .health, .out] s (State.xformFault x0 s) := by
  have h : Only [.ports, .insts, .ctxs, .jrn, .stops, .chans, .ev, .health, .out] s s := Only.refl _ _
  unfold State.xformFault
  repeat' first | with_reducible assumption | intro _ | with_reducible apply Only.fenceStop | with_reducible apply Only.countViolation | with_reducible apply Only.foldl | with_reducible apply Only.foldl_snd | extract_lets | with_reducible refine Only.ite ?_ ?_ | split | decide
theorem Only.xformFault {T : List Fld} {a s : State} (h : Only T a s) (hT : [.ports, .insts, .ctxs, .jrn, .stops, .chans, .ev, .health, .out].all T.contains = true) (x0 : Nat) : Only T a (State.xformFault x0 s) := h.step (State.xformFault_only x0 s) hT
theorem State.xformOut_only (x0 : Nat) (x1 : OutFrame) (x2 : StopCmd) (s : State) : Only [.ports, .insts, .ctxs, .live, .jrn, .lines, .mc, .cw, .ops, .solves, .dies, .chanters, .stops, .store, .chans, .ev, .health, .out] s (State.xformOut x0 x1 x2 s) := by
  have h : Only [.ports, .insts, .ctxs, .live, .jrn, .lines, .mc, .cw, .ops, .solves, .dies, .chanters, .stops, .store, .chans, .ev, .health, .out] s s := Only.refl _ _
  unfold State.xformOut
  repeat' first | with_reducible assumption | intro _ | with_reducible apply Only.xformFault | with_reducible apply Only.used | with_reducible apply Only.modStopCmd | with_reducible apply Only.xformDone | with_reducible apply Only.foldl | with_reducible apply Only.foldl_snd | extract_lets | with_reducible refine Only.ite ?_ ?_ | split | decide
theorem Only.xformOut {T : List Fld} {a s : State} (h : Only T a s) (hT : [.ports, .insts, .ctxs, .live, .jrn, .lines, .mc, .cw, .ops, .solves, .dies, .chanters, .stops, .store, .chans, .ev, .health, .out].all T.contains = true) (x0 : Nat) (x1 : OutFrame) (x2 : StopCmd) : Only T a (State.xformOut x0 x1 x2 s) := h.step (State.xformOut_only x0 x1 x2 s) hT
theorem State.newSecret_only (s : State) : Only [.part, .keep, .free] s (State.newSecret s) := by
  have h : Only [.part, .keep, .free] s s := Only.refl _ _
  unfold State.newSecret
  repeat' first | with_reducible assumption | intro _ | with_reducible apply Only.drew | with_reducible apply Only.keepWrite | with_reducible apply Only.foldl | with_reducible apply Only.foldl_snd | extract_lets | with_reducible refine Only.ite ?_ ?_ | split | decide
theorem Only.newSecret {T : List Fld} {a s : State} (h : Only T a s) (hT : [.part, .keep, .free].all T.contains = true) : Only T a (State.newSecret s) := h.step (State.newSecret_only s) hT
theorem State.eraseSlot_only (x0 : Nat) (s : State) : Only [.flash] s (State.eraseSlot x0 s) := by
  have h : Only [.flash] s s := Only.refl _ _
  unfold State.eraseSlot
  repeat' first | with_reducible assumption | intro _ | with_reducible apply Only.flashOps | with_reducible apply Only.modFlash | with_reducible apply Only.foldl | with_reducible apply Only.foldl_snd | extract_lets | with_reducible refine Only.ite ?_ ?_ | split | decide
theorem Only.eraseSlot {T : List Fld} {a s : State} (h : Only T a s) (hT : [.flash].all T.contains = true) (x0 : Nat) : Only T a (State.eraseSlot x0 s) := h.step (State.eraseSlot_only x0 s) hT
theorem State.finishLower_only (s : State) : Only [.part, .keep, .otp, .flash, .format, .live, .sealed, .jrn, .vault, .lines, .mc, .cache, .cw, .groups, .ops, .solves, .store, .ev, .health, .free] s (State.finishLower s) := by
  have h : Only [.part, .keep, .otp, .flash, .format, .live, .sealed, .jrn, .vault, .lines, .mc, .cache, .cw, .groups, .ops, .solves, .store, .ev, .health, .free] s s := Only.refl _ _
  unfold State.finishLower
  repeat' first | with_reducible assumption | intro _ | with_reducible apply Only.keepWrite | with_reducible apply Only.newSecret | with_reducible apply Only.modPart | with_reducible apply Only.modFlash | with_reducible apply Only.freshMedia | with_reducible apply Only.placeFormat | with_reducible apply Only.each | with_reducible apply Only.eraseSlot | with_reducible apply Only.report | with_reducible apply Only.foldl | with_reducible apply Only.foldl_snd | (with_reducible apply Only.upd_format_store; first | with_reducible assumption | with_reducible apply Only.keepWrite | with_reducible apply Only.newSecret | with_reducible apply Only.modPart | with_reducible apply Only.modFlash | with_reducible apply Only.freshMedia | with_reducible apply Only.placeFormat | with_reducible apply Only.each | with_reducible apply Only.eraseSlot | with_reducible apply Only.report | with_reducible apply Only.foldl | with_reducible apply Only.foldl_snd | with_reducible refine Only.ite ?_ ?_) | (with_reducible apply Only.upd_otp; first | with_reducible assumption | with_reducible apply Only.keepWrite | with_reducible apply Only.newSecret | with_reducible apply Only.modPart | with_reducible apply Only.modFlash | with_reducible apply Only.freshMedia | with_reducible apply Only.placeFormat | with_reducible apply Only.each | with_reducible apply Only.eraseSlot | with_reducible apply Only.report | with_reducible apply Only.foldl | with_reducible apply Only.foldl_snd | with_reducible refine Only.ite ?_ ?_) | extract_lets | with_reducible refine Only.ite ?_ ?_ | split | decide
theorem Only.finishLower {T : List Fld} {a s : State} (h : Only T a s) (hT : [.part, .keep, .otp, .flash, .format, .live, .sealed, .jrn, .vault, .lines, .mc, .cache, .cw, .groups, .ops, .solves, .store, .ev, .health, .free].all T.contains = true) : Only T a (State.finishLower s) := h.step (State.finishLower_only s) hT
theorem State.applyRpl_only (x0 : Nat) (x1 : MbSource) (x2 : W32) (s : State) : Only [.modes, .pw, .part, .keep, .otp, .flash, .format, .spares, .ports, .insts, .ctxs, .live, .sealed, .jrn, .vault, .lines, .lends, .mc, .cache, .cw, .groups, .ops, .solves, .dies, .chanters, .links, .pods, .stops, .store, .chans, .drones, .ev, .health, .free, .out] s (State.applyRpl x0 x1 x2 s) := by
  have h : Only [.modes, .pw, .part, .keep, .otp, .flash, .format, .spares, .ports, .insts, .ctxs, .live, .sealed, .jrn, .vault, .lines, .lends, .mc, .cache, .cw, .groups, .ops, .solves, .dies, .chanters, .links, .pods, .stops, .store, .chans, .drones, .ev, .health, .free, .out] s s := Only.refl _ _
  unfold State.applyRpl
  repeat' first | with_reducible assumption | intro _ | with_reducible apply Only.mbAnswer | with_reducible apply Only.keepWrite | with_reducible apply Only.finishLower | with_reducible apply Only.startBringup | with_reducible apply Only.modModes | with_reducible apply Only.mbTakeQueue | with_reducible apply Only.endDevEpoch | with_reducible apply Only.finishRaise | with_reducible apply Only.foldl | with_reducible apply Only.foldl_snd | extract_lets | with_reducible refine Only.ite ?_ ?_ | split | decide
theorem Only.applyRpl {T : List Fld} {a s : State} (h : Only T a s) (hT : [.modes, .pw, .part, .keep, .otp, .flash, .format, .spares, .ports, .insts, .ctxs, .live, .sealed, .jrn, .vault, .lines, .lends, .mc, .cache, .cw, .groups, .ops, .solves, .dies, .chanters, .links, .pods, .stops, .store, .chans, .drones, .ev, .health, .free, .out].all T.contains = true) (x0 : Nat) (x1 : MbSource) (x2 : W32) : Only T a (State.applyRpl x0 x1 x2 s) := h.step (State.applyRpl_only x0 x1 x2 s) hT
theorem State.startVerify_only (x0 : Ctx) (x1 : Nat) (s : State) : Only [.part, .keep, .flash, .ctxs] s (State.startVerify x0 x1 s) := by
  have h : Only [.part, .keep, .flash, .ctxs] s s := Only.refl _ _
  unfold State.startVerify
  repeat' first | with_reducible assumption | intro _ | with_reducible apply Only.modFlash | with_reducible apply Only.keepWrite | with_reducible apply Only.modCtx | with_reducible apply Only.foldl | with_reducible apply Only.foldl_snd | extract_lets | with_reducible refine Only.ite ?_ ?_ | split | decide
theorem Only.startVerify {T : List Fld} {a s : State} (h : Only T a s) (hT : [.part, .keep, .flash, .ctxs].all T.contains = true) (x0 : Ctx) (x1 : Nat) : Only T a (State.startVerify x0 x1 s) := h.step (State.startVerify_only x0 x1 s) hT
theorem State.commitPackage_only (x0 : List Nat) (x1 : Ctx) (s : State) : Only [.part, .keep, .flash, .ports, .insts, .ctxs, .jrn, .chans, .health, .out] s (State.commitPackage x0 x1 s) := by
  have h : Only [.part, .keep, .flash, .ports, .insts, .ctxs, .jrn, .chans, .health, .out] s s := Only.refl _ _
  unfold State.commitPackage
  repeat' first | with_reducible assumption | intro _ | with_reducible apply Only.complete | with_reducible apply Only.refuseUpdate | with_reducible apply Only.startVerify | with_reducible apply Only.foldl | with_reducible apply Only.foldl_snd | extract_lets | with_reducible refine Only.ite ?_ ?_ | split | decide
theorem Only.commitPackage {T : List Fld} {a s : State} (h : Only T a s) (hT : [.part, .keep, .flash, .ports, .insts, .ctxs, .jrn, .chans, .health, .out].all T.contains = true) (x0 : List Nat) (x1 : Ctx) : Only T a (State.commitPackage x0 x1 s) := h.step (State.commitPackage_only x0 x1 s) hT
theorem State.packageSpare_only (x0 : Nat) (x1 : Nat) (x2 : Nat) (x3 : Nat) (x4 : Nat) (s : State) : Only [.modes, .spares, .ports, .insts, .ctxs, .live, .jrn, .ev, .health, .out] s (State.packageSpare x0 x1 x2 x3 x4 s) := by
  have h : Only [.modes, .spares, .ports, .insts, .ctxs, .live, .jrn, .ev, .health, .out] s s := Only.refl _ _
  unfold State.packageSpare
  repeat' first | with_reducible assumption | intro _ | with_reducible apply Only.logRec | with_reducible apply Only.modSpares | with_reducible apply Only.report | with_reducible apply Only.reviewSpares | with_reducible apply Only.healthEvent | with_reducible apply Only.foldl | with_reducible apply Only.foldl_snd | extract_lets | with_reducible refine Only.ite ?_ ?_ | split | decide
theorem Only.packageSpare {T : List Fld} {a s : State} (h : Only T a s) (hT : [.modes, .spares, .ports, .insts, .ctxs, .live, .jrn, .ev, .health, .out].all T.contains = true) (x0 : Nat) (x1 : Nat) (x2 : Nat) (x3 : Nat) (x4 : Nat) : Only T a (State.packageSpare x0 x1 x2 x3 x4 s) := h.step (State.packageSpare_only x0 x1 x2 x3 x4 s) hT
theorem State.challengeExpiry_only (x0 : Nat) (s : State) : Only [.part] s (State.challengeExpiry x0 s) := by
  have h : Only [.part] s s := Only.refl _ _
  unfold State.challengeExpiry
  repeat' first | with_reducible assumption | intro _ | with_reducible apply Only.modPart | with_reducible apply Only.foldl | with_reducible apply Only.foldl_snd | extract_lets | with_reducible refine Only.ite ?_ ?_ | split | decide
theorem Only.challengeExpiry {T : List Fld} {a s : State} (h : Only T a s) (hT : [.part].all T.contains = true) (x0 : Nat) : Only T a (State.challengeExpiry x0 s) := h.step (State.challengeExpiry_only x0 s) hT
theorem State.nextMaint_only (x0 : Nat) (s : State) : Only [.ports, .insts, .ctxs, .live, .jrn, .lines, .mc, .cw, .ops, .solves, .dies, .chanters, .stops, .chans, .ev, .health, .out] s (State.nextMaint x0 s) := by
  induction x0 generalizing s with
  | zero => exact .refl _ _
  | succ f ih =>
    unfold State.nextMaint
    split
    · exact .refl _ _
    · split
      · exact .refl _ _
      · dsimp only
        exact (Only.ite (fun _ => ((Only.refl _ _).modMc (by decide) _).putRegion (by decide) _ _) (fun _ => ((Only.refl _ _).modMc (by decide) _).regionMaint (by decide) ..)).step (ih _) (by decide)
theorem Only.nextMaint {T : List Fld} {a s : State} (h : Only T a s) (hT : [.ports, .insts, .ctxs, .live, .jrn, .lines, .mc, .cw, .ops, .solves, .dies, .chanters, .stops, .chans, .ev, .health, .out].all T.contains = true) (x0 : Nat) : Only T a (State.nextMaint x0 s) := h.step (State.nextMaint_only x0 s) hT
theorem State.chooseBank_only (s : State) : Only [.modes, .part, .keep, .flash, .ev] s (State.chooseBank s) := by
  have h : Only [.modes, .part, .keep, .flash, .ev] s s := Only.refl _ _
  unfold State.chooseBank
  repeat' first | with_reducible assumption | intro _ | with_reducible apply Only.report | with_reducible apply Only.modModes | with_reducible apply Only.modPart | with_reducible apply Only.keepWrite | with_reducible apply Only.modFlash | with_reducible apply Only.foldl | with_reducible apply Only.foldl_snd | extract_lets | with_reducible refine Only.ite ?_ ?_ | split | decide
theorem Only.chooseBank {T : List Fld} {a s : State} (h : Only T a s) (hT : [.modes, .part, .keep, .flash, .ev].all T.contains = true) : Only T a (State.chooseBank s) := h.step (State.chooseBank_only s) hT
theorem State.cellCheck_only (x0 : Nat) (s : State) : Only [.modes, .part, .keep, .ports, .insts, .ctxs, .ev, .health, .out] s (State.cellCheck x0 s) := by
  have h : Only [.modes, .part, .keep, .ports, .insts, .ctxs, .ev, .health, .out] s s := Only.refl _ _
  unfold State.cellCheck
  repeat' first | with_reducible assumption | intro _ | with_reducible apply Only.keepWrite | with_reducible apply Only.setDegrade | with_reducible apply Only.healthEvent | with_reducible apply Only.foldl | with_reducible apply Only.foldl_snd | extract_lets | with_reducible refine Only.ite ?_ ?_ | split | decide
theorem Only.cellCheck {T : List Fld} {a s : State} (h : Only T a s) (hT : [.modes, .part, .keep, .ports, .insts, .ctxs, .ev, .health, .out].all T.contains = true) (x0 : Nat) : Only T a (State.cellCheck x0 s) := h.step (State.cellCheck_only x0 s) hT
theorem State.countThrottle_only (x1 : State) (s : State) : Only [.ports] s (State.countThrottle s x1) := by
  have h : Only [.ports] s s := Only.refl _ _
  unfold State.countThrottle
  repeat' first | with_reducible assumption | intro _ | with_reducible apply Only.allPorts | with_reducible apply Only.modPort | with_reducible apply Only.foldl | with_reducible apply Only.foldl_snd | (with_reducible apply Only.upd_; first | with_reducible assumption | with_reducible apply Only.allPorts | with_reducible apply Only.modPort | with_reducible apply Only.foldl | with_reducible apply Only.foldl_snd | with_reducible refine Only.ite ?_ ?_) | extract_lets | with_reducible refine Only.ite ?_ ?_ | split | decide
theorem Only.countThrottle {T : List Fld} {a s : State} (h : Only T a s) (hT : [.ports].all T.contains = true) (x1 : State) : Only T a (State.countThrottle s x1) := h.step (State.countThrottle_only x1 s) hT
theorem State.park_only (x0 : Nat) (x1 : Nat) (x2 : List Nat) (s : State) : Only [.mc, .out] s (State.park x0 x1 x2 s) := by
  have h : Only [.mc, .out] s s := Only.refl _ _
  unfold State.park
  repeat' first | with_reducible assumption | intro _ | with_reducible apply Only.modMc | with_reducible apply Only.issueFetches | with_reducible apply Only.foldl | with_reducible apply Only.foldl_snd | extract_lets | with_reducible refine Only.ite ?_ ?_ | split | decide
theorem Only.park {T : List Fld} {a s : State} (h : Only T a s) (hT : [.mc, .out].all T.contains = true) (x0 : Nat) (x1 : Nat) (x2 : List Nat) : Only T a (State.park x0 x1 x2 s) := h.step (State.park_only x0 x1 x2 s) hT
theorem State.countParks_only (x0 : List Nat) (s : State) : Only [.insts] s (State.countParks x0 s) := by
  have h : Only [.insts] s s := Only.refl _ _
  unfold State.countParks
  repeat' first | with_reducible assumption | intro _ | with_reducible apply Only.each | with_reducible apply Only.modInst | with_reducible apply Only.foldl | with_reducible apply Only.foldl_snd | extract_lets | with_reducible refine Only.ite ?_ ?_ | split | decide
theorem Only.countParks {T : List Fld} {a s : State} (h : Only T a s) (hT : [.insts].all T.contains = true) (x0 : List Nat) : Only T a (State.countParks x0 s) := h.step (State.countParks_only x0 s) hT
theorem State.pageRead_only (x0 : Ctx) (x1 : Nat) (s : State) : Only [.ports] s (State.pageRead x0 x1 s) := by
  have h : Only [.ports] s s := Only.refl _ _
  unfold State.pageRead
  repeat' first | with_reducible assumption | intro _ | with_reducible apply Only.modPort | with_reducible apply Only.foldl | with_reducible apply Only.foldl_snd | extract_lets | with_reducible refine Only.ite ?_ ?_ | split | decide
theorem Only.pageRead {T : List Fld} {a s : State} (h : Only T a s) (hT : [.ports].all T.contains = true) (x0 : Ctx) (x1 : Nat) : Only T a (State.pageRead x0 x1 s) := h.step (State.pageRead_only x0 x1 s) hT
theorem State.restartTrial_only (s : State) : Only [.part, .keep] s (State.restartTrial s) := by
  have h : Only [.part, .keep] s s := Only.refl _ _
  unfold State.restartTrial
  repeat' first | with_reducible assumption | intro _ | with_reducible apply Only.keepWrite | with_reducible apply Only.foldl | with_reducible apply Only.foldl_snd | extract_lets | with_reducible refine Only.ite ?_ ?_ | split | decide
theorem Only.restartTrial {T : List Fld} {a s : State} (h : Only T a s) (hT : [.part, .keep].all T.contains = true) : Only T a (State.restartTrial s) := h.step (State.restartTrial_only s) hT
theorem State.partitionReset_only (x0 : Bool) (s : State) : Only [.part, .keep, .ev] s (State.partitionReset x0 s) := by
  have h : Only [.part, .keep, .ev] s s := Only.refl _ _
  unfold State.partitionReset
  repeat' first | with_reducible assumption | intro _ | with_reducible apply Only.modPart | with_reducible apply Only.restartTrial | with_reducible apply Only.report | with_reducible apply Only.keepWrite | with_reducible apply Only.foldl | with_reducible apply Only.foldl_snd | extract_lets | with_reducible refine Only.ite ?_ ?_ | split | decide
theorem Only.partitionReset {T : List Fld} {a s : State} (h : Only T a s) (hT : [.part, .keep, .ev].all T.contains = true) (x0 : Bool) : Only T a (State.partitionReset x0 s) := h.step (State.partitionReset_only x0 s) hT
theorem State.testStep2_only (s : State) : Only [.pw] s (State.testStep2 s) := by
  have h : Only [.pw] s s := Only.refl _ _
  unfold State.testStep2
  repeat' first | with_reducible assumption | intro _ | with_reducible apply Only.modPw | with_reducible apply Only.foldl | with_reducible apply Only.foldl_snd | extract_lets | with_reducible refine Only.ite ?_ ?_ | split | decide
theorem Only.testStep2 {T : List Fld} {a s : State} (h : Only T a s) (hT : [.pw].all T.contains = true) : Only T a (State.testStep2 s) := h.step (State.testStep2_only s) hT
theorem State.dumpWithout_only (x0 : Nat) (s : State) : Only [.vault] s (State.dumpWithout x0 s) := by
  have h : Only [.vault] s s := Only.refl _ _
  unfold State.dumpWithout
  repeat' first | with_reducible assumption | intro _ | with_reducible apply Only.foldl | with_reducible apply Only.foldl_snd | (with_reducible apply Only.upd_vault; first | with_reducible assumption | with_reducible apply Only.foldl | with_reducible apply Only.foldl_snd | with_reducible refine Only.ite ?_ ?_) | extract_lets | with_reducible refine Only.ite ?_ ?_ | split | decide
theorem Only.dumpWithout {T : List Fld} {a s : State} (h : Only T a s) (hT : [.vault].all T.contains = true) (x0 : Nat) : Only T a (State.dumpWithout x0 s) := h.step (State.dumpWithout_only x0 s) hT
theorem State.restartBringup_only (s : State) : Only [.modes, .pw, .part, .flash, .spares, .ports, .insts, .ctxs, .live, .jrn, .lines, .lends, .mc, .cache, .cw, .groups, .ops, .solves, .dies, .chanters, .links, .pods, .stops, .chans, .drones, .ev, .health, .out] s (State.restartBringup s) := by
  have h : Only [.modes, .pw, .part, .flash, .spares, .ports, .insts, .ctxs, .live, .jrn, .lines, .lends, .mc, .cache, .cw, .groups, .ops, .solves, .dies, .chanters, .links, .pods, .stops, .chans, .drones, .ev, .health, .out] s s := Only.refl _ _
  unfold State.restartBringup
  repeat' first | with_reducible assumption | intro _ | with_reducible apply Only.discard | with_reducible apply Only.podsOff | with_reducible apply Only.allPorts | with_reducible apply Only.modPort | with_reducible apply Only.foldl | with_reducible apply Only.foldl_snd | (with_reducible apply Only.upd_modes_pw_part_flash; first | with_reducible assumption | with_reducible apply Only.discard | with_reducible apply Only.podsOff | with_reducible apply Only.allPorts | with_reducible apply Only.modPort | with_reducible apply Only.foldl | with_reducible apply Only.foldl_snd | with_reducible refine Only.ite ?_ ?_) | extract_lets | with_reducible refine Only.ite ?_ ?_ | split | decide
theorem Only.restartBringup {T : List Fld} {a s : State} (h : Only T a s) (hT : [.modes, .pw, .part, .flash, .spares, .ports, .insts, .ctxs, .live, .jrn, .lines, .lends, .mc, .cache, .cw, .groups, .ops, .solves, .dies, .chanters, .links, .pods, .stops, .chans, .drones, .ev, .health, .out].all T.contains = true) : Only T a (State.restartBringup s) := h.step (State.restartBringup_only s) hT
theorem State.restartAtFive_only (s : State) : Only [.modes, .pw, .part, .keep, .flash, .spares, .ports, .insts, .ctxs, .live, .jrn, .lines, .lends, .mc, .cache, .cw, .groups, .ops, .solves, .dies, .chanters, .links, .pods, .stops, .chans, .drones, .ev, .health, .out] s (State.restartAtFive s) := by
  have h : Only [.modes, .pw, .part, .keep, .flash, .spares, .ports, .insts, .ctxs, .live, .jrn, .lines, .lends, .mc, .cache, .cw, .groups, .ops, .solves, .dies, .chanters, .links, .pods, .stops, .chans, .drones, .ev, .health, .out] s s := Only.refl _ _
  unfold State.restartAtFive
  repeat' first | with_reducible assumption | intro _ | with_reducible apply Only.chooseBank | with_reducible apply Only.cutUpdate | with_reducible apply Only.restartBringup | with_reducible apply Only.foldl | with_reducible apply Only.foldl_snd | extract_lets | with_reducible refine Only.ite ?_ ?_ | split | decide
theorem Only.restartAtFive {T : List Fld} {a s : State} (h : Only T a s) (hT : [.modes, .pw, .part, .keep, .flash, .spares, .ports, .insts, .ctxs, .live, .jrn, .lines, .lends, .mc, .cache, .cw, .groups, .ops, .solves, .dies, .chanters, .links, .pods, .stops, .chans, .drones, .ev, .health, .out].all T.contains = true) : Only T a (State.restartAtFive s) := h.step (State.restartAtFive_only s) hT
theorem State.endFlush_only (x0 : Flush) (s : State) : Only [.modes, .pw, .part, .keep, .flash, .spares, .ports, .insts, .ctxs, .live, .jrn, .lines, .lends, .mc, .cache, .cw, .groups, .ops, .solves, .dies, .chanters, .links, .pods, .stops, .chans, .drones, .ev, .health, .out] s (State.endFlush x0 s) := by
  have h : Only [.modes, .pw, .part, .keep, .flash, .spares, .ports, .insts, .ctxs, .live, .jrn, .lines, .lends, .mc, .cache, .cw, .groups, .ops, .solves, .dies, .chanters, .links, .pods, .stops, .chans, .drones, .ev, .health, .out] s s := Only.refl _ _
  unfold State.endFlush
  repeat' first | with_reducible assumption | intro _ | with_reducible apply Only.podsOff | with_reducible apply Only.modModes | with_reducible apply Only.startBringup | with_reducible apply Only.enterSafe | with_reducible apply Only.restartAtFive | with_reducible apply Only.allPorts | with_reducible apply Only.modPort | with_reducible apply Only.foldl | with_reducible apply Only.foldl_snd | (with_reducible apply Only.upd_modes; first | with_reducible assumption | with_reducible apply Only.podsOff | with_reducible apply Only.modModes | with_reducible apply Only.startBringup | with_reducible apply Only.enterSafe | with_reducible apply Only.restartAtFive | with_reducible apply Only.allPorts | with_reducible apply Only.modPort | with_reducible apply Only.foldl | with_reducible apply Only.foldl_snd | with_reducible refine Only.ite ?_ ?_) | extract_lets | with_reducible refine Only.ite ?_ ?_ | split | decide
theorem Only.endFlush {T : List Fld} {a s : State} (h : Only T a s) (hT : [.modes, .pw, .part, .keep, .flash, .spares, .ports, .insts, .ctxs, .live, .jrn, .lines, .lends, .mc, .cache, .cw, .groups, .ops, .solves, .dies, .chanters, .links, .pods, .stops, .chans, .drones, .ev, .health, .out].all T.contains = true) (x0 : Flush) : Only T a (State.endFlush x0 s) := h.step (State.endFlush_only x0 s) hT
theorem State.scrubOn_only (x0 : Nat) (x1 : Nat) (x2 : Nat) (s : State) : Only [.groups, .health] s (State.scrubOn x0 x1 x2 s) := by
  have h : Only [.groups, .health] s s := Only.refl _ _
  unfold State.scrubOn
  repeat' first | with_reducible assumption | intro _ | with_reducible apply Only.modGroup | with_reducible apply Only.noteScrubbed | with_reducible apply Only.foldl | with_reducible apply Only.foldl_snd | extract_lets | with_reducible refine Only.ite ?_ ?_ | split | decide
theorem Only.scrubOn {T : List Fld} {a s : State} (h : Only T a s) (hT : [.groups, .health].all T.contains = true) (x0 : Nat) (x1 : Nat) (x2 : Nat) : Only T a (State.scrubOn x0 x1 x2 s) := h.step (State.scrubOn_only x0 x1 x2 s) hT
theorem State.writeBurst_only (x0 : Nat) (x1 : InFlight) (x2 : List Byte) (s : State) : Only [.ports, .stops, .chans, .out] s (State.writeBurst x0 x1 x2 s) := by
  have h : Only [.ports, .stops, .chans, .out] s s := Only.refl _ _
  unfold State.writeBurst
  repeat' first | with_reducible assumption | intro _ | with_reducible apply Only.hostWrite | with_reducible apply Only.modChan | with_reducible apply Only.modStop | with_reducible apply Only.emit | with_reducible apply Only.foldl | with_reducible apply Only.foldl_snd | extract_lets | with_reducible refine Only.ite ?_ ?_ | split | decide
theorem Only.writeBurst {T : List Fld} {a s : State} (h : Only T a s) (hT : [.ports, .stops, .chans, .out].all T.contains = true) (x0 : Nat) (x1 : InFlight) (x2 : List Byte) : Only T a (State.writeBurst x0 x1 x2 s) := h.step (State.writeBurst_only x0 x1 x2 s) hT
theorem State.keepFour_only (x0 : Nat) (x1 : Nat) (x2 : Nat) (s : State) : Only [.mc, .ev] s (State.keepFour x0 x1 x2 s) := by
  induction x2 generalizing s with
  | zero => exact .refl _ _
  | succ f ih =>
    unfold State.keepFour
    dsimp only
    split
    · exact .refl _ _
    · split
      · exact .refl _ _
      · exact (((Only.refl _ _).modSlice (by decide) _ _).report (by decide) ..).step (ih _) (by decide)
theorem Only.keepFour {T : List Fld} {a s : State} (h : Only T a s) (hT : [.mc, .ev].all T.contains = true) (x0 : Nat) (x1 : Nat) (x2 : Nat) : Only T a (State.keepFour x0 x1 x2 s) := h.step (State.keepFour_only x0 x1 x2 s) hT
theorem State.disableWay_only (x0 : Nat) (x1 : Nat) (x2 : Nat) (x3 : Bool) (s : State) : Only [.spares, .live, .jrn, .lines, .mc, .ev] s (State.disableWay x0 x1 x2 x3 s) := by
  have h : Only [.spares, .live, .jrn, .lines, .mc, .ev] s s := Only.refl _ _
  unfold State.disableWay
  repeat' first | with_reducible assumption | intro _ | with_reducible apply Only.modSlice | with_reducible apply Only.modSpares | with_reducible apply Only.writeT1 | with_reducible apply Only.writeBack | with_reducible apply Only.logRec | with_reducible apply Only.keepFour | with_reducible apply Only.report | with_reducible apply Only.foldl | with_reducible apply Only.foldl_snd | extract_lets | with_reducible refine Only.ite ?_ ?_ | split | decide
theorem Only.disableWay {T : List Fld} {a s : State} (h : Only T a s) (hT : [.spares, .live, .jrn, .lines, .mc, .ev].all T.contains = true) (x0 : Nat) (x1 : Nat) (x2 : Nat) (x3 : Bool) : Only T a (State.disableWay x0 x1 x2 x3 s) := h.step (State.disableWay_only x0 x1 x2 x3 s) hT
theorem State.wayError_only (x0 : Nat) (x1 : Nat) (x2 : Nat) (x3 : Bool) (x4 : Bool) (s : State) : Only [.spares, .live, .jrn, .lines, .mc, .ev] s (State.wayError x0 x1 x2 x3 x4 s) := by
  have h : Only [.spares, .live, .jrn, .lines, .mc, .ev] s s := Only.refl _ _
  unfold State.wayError
  repeat' first | with_reducible assumption | intro _ | with_reducible apply Only.disableWay | with_reducible apply Only.modSlice | with_reducible apply Only.foldl | with_reducible apply Only.foldl_snd | extract_lets | with_reducible refine Only.ite ?_ ?_ | split | decide
theorem Only.wayError {T : List Fld} {a s : State} (h : Only T a s) (hT : [.spares, .live, .jrn, .lines, .mc, .ev].all T.contains = true) (x0 : Nat) (x1 : Nat) (x2 : Nat) (x3 : Bool) (x4 : Bool) : Only T a (State.wayError x0 x1 x2 x3 x4 s) := h.step (State.wayError_only x0 x1 x2 x3 x4 s) hT
theorem State.reErase_only (x0 : Nat) (x1 : Bool) (s : State) : Only [.flash, .ev] s (State.reErase x0 x1 s) := by
  have h : Only [.flash, .ev] s s := Only.refl _ _
  unfold State.reErase
  repeat' first | with_reducible assumption | intro _ | with_reducible apply Only.report | with_reducible apply Only.modBank | with_reducible apply Only.foldl | with_reducible apply Only.foldl_snd | extract_lets | with_reducible refine Only.ite ?_ ?_ | split | decide
theorem Only.reErase {T : List Fld} {a s : State} (h : Only T a s) (hT : [.flash, .ev].all T.contains = true) (x0 : Nat) (x1 : Bool) : Only T a (State.reErase x0 x1 s) := h.step (State.reErase_only x0 x1 s) hT
theorem Only.instPage {T : List Fld} {a s : State} (h : Only T a s) (hT : [.ports, .insts, .ctxs, .jrn, .chans, .health, .out].all T.contains = true) (x0 : Ctx) (x1 : Nat → State → State) (hg : ∀ y0 t, Only T a t → Only T a (x1 y0 t)) : Only T a (State.instPage x0 x1 s) := by
  unfold State.instPage
  repeat' first | with_reducible assumption | intro _ | with_reducible apply hg | with_reducible apply Only.complete | with_reducible apply Only.foldl | with_reducible apply Only.foldl_snd | extract_lets | with_reducible refine Only.ite ?_ ?_
theorem State.stageFault_only (x0 : Nat) (s : State) : Only [.modes, .pw, .part, .keep, .ports, .insts, .ctxs, .live, .jrn, .vault, .lines, .mc, .cw, .ops, .solves, .links, .pods, .stops, .chans, .ev, .free, .out] s (State.stageFault x0 s) := by
  have h : Only [.modes, .pw, .part, .keep, .ports, .insts, .ctxs, .live, .jrn, .vault, .lines, .mc, .cw, .ops, .solves, .links, .pods, .stops, .chans, .ev, .free, .out] s s := Only.refl _ _
  unfold State.stageFault
  repeat' first | with_reducible assumption | intro _ | with_reducible apply Only.report | with_reducible apply Only.modPw | with_reducible apply Only.causeArises | with_reducible apply Only.foldl | with_reducible apply Only.foldl_snd | extract_lets | with_reducible refine Only.ite ?_ ?_ | split | decide
theorem Only.stageFault {T : List Fld} {a s : State} (h : Only T a s) (hT : [.modes, .pw, .part, .keep, .ports, .insts, .ctxs, .live, .jrn, .vault, .lines, .mc, .cw, .ops, .solves, .links, .pods, .stops, .chans, .ev, .free, .out].all T.contains = true) (x0 : Nat) : Only T a (State.stageFault x0 s) := h.step (State.stageFault_only x0 s) hT
theorem State.enterIo_only (x0 : Nat) (x1 : Nat) (x2 : Sqe) (s : State) : Only [.insts, .ctxs] s (State.enterIo x0 x1 x2 s) := by
  have h : Only [.insts, .ctxs] s s := Only.refl _ _
  unfold State.enterIo
  repeat' first | with_reducible assumption | intro _ | with_reducible apply Only.modInst | with_reducible apply Only.modCtx | with_reducible apply Only.foldl | with_reducible apply Only.foldl_snd | extract_lets | with_reducible refine Only.ite ?_ ?_ | split | decide
theorem Only.enterIo {T : List Fld} {a s : State} (h : Only T a s) (hT : [.insts, .ctxs].all T.contains = true) (x0 : Nat) (x1 : Nat) (x2 : Sqe) : Only T a (State.enterIo x0 x1 x2 s) := h.step (State.enterIo_only x0 x1 x2 s) hT
theorem State.dropStaging_only (x0 : Nat) (s : State) : Only [.stops] s (State.dropStaging x0 s) := by
  have h : Only [.stops] s s := Only.refl _ _
  unfold State.dropStaging
  repeat' first | with_reducible assumption | intro _ | with_reducible apply Only.modStop | with_reducible apply Only.foldl | with_reducible apply Only.foldl_snd | extract_lets | with_reducible refine Only.ite ?_ ?_ | split | decide
theorem Only.dropStaging {T : List Fld} {a s : State} (h : Only T a s) (hT : [.stops].all T.contains = true) (x0 : Nat) : Only T a (State.dropStaging x0 s) := h.step (State.dropStaging_only x0 s) hT
theorem State.abandonPackage_only (s : State) : Only [.part, .keep, .flash, .stops] s (State.abandonPackage s) := by
  have h : Only [.part, .keep, .flash, .stops] s s := Only.refl _ _
  unfold State.abandonPackage
  repeat' first | with_reducible assumption | intro _ | with_reducible apply Only.dropStaging | with_reducible apply Only.modFlash | with_reducible apply Only.keepWrite | with_reducible apply Only.foldl | with_reducible apply Only.foldl_snd | extract_lets | with_reducible refine Only.ite ?_ ?_ | split | decide
theorem Only.abandonPackage {T : List Fld} {a s : State} (h : Only T a s) (hT : [.part, .keep, .flash, .stops].all T.contains = true) : Only T a (State.abandonPackage s) := h.step (State.abandonPackage_only s) hT
theorem State.closeHolding_only (x0 : List Nat) (s : State) : Only [.live, .jrn, .cache, .groups, .ops, .health] s (State.closeHolding x0 s) := by
  have h : Only [.live, .jrn, .cache, .groups, .ops, .health] s s := Only.refl _ _
  unfold State.closeHolding
  repeat' first | with_reducible assumption | intro _ | with_reducible apply Only.each | with_reducible apply Only.closeStripe | with_reducible apply Only.foldl | with_reducible apply Only.foldl_snd | extract_lets | with_reducible refine Only.ite ?_ ?_ | split | decide
theorem Only.closeHolding {T : List Fld} {a s : State} (h : Only T a s) (hT : [.live, .jrn, .cache, .groups, .ops, .health].all T.contains = true) (x0 : List Nat) : Only T a (State.closeHolding x0 s) := h.step (State.closeHolding_only x0 s) hT
theorem Only.loadStop {T : List Fld} {a s : State} (h : Only T a s) (hT : [.ports, .insts, .ctxs, .jrn, .chans, .health, .out].all T.contains = true) (x0 : Nat) (x1 : Nat) (x2 : Ctx → Nat → State → State) (hg : ∀ y0 y1 t, Only T a t → Only T a (x2 y0 y1 t)) : Only T a (State.loadStop x0 x1 x2 s) := by
  unfold State.loadStop
  repeat' first | with_reducible assumption | intro _ | with_reducible apply hg | with_reducible apply Only.boundary | with_reducible apply Only.complete | with_reducible apply Only.foldl | with_reducible apply Only.foldl_snd | extract_lets | with_reducible refine Only.ite ?_ ?_ | split | exact Fld.all_sub hT (by decide)
theorem State.streamWrite_only (x0 : Nat) (s : State) : Only [.ports, .insts, .ctxs, .live, .jrn, .lines, .mc, .cw, .ops, .solves, .dies, .chanters, .stops, .chans, .ev, .health, .out] s (State.streamWrite x0 s) := by
  have h : Only [.ports, .insts, .ctxs, .live, .jrn, .lines, .mc, .cw, .ops, .solves, .dies, .chanters, .stops, .chans, .ev, .health, .out] s s := Only.refl _ _
  unfold State.streamWrite
  repeat' first | with_reducible assumption | intro _ | with_reducible apply Only.feedStop | with_reducible apply Only.complete | with_reducible apply Only.modCtx | with_reducible apply Only.arrive | with_reducible apply Only.foldl | with_reducible apply Only.foldl_snd | extract_lets | with_reducible refine Only.ite ?_ ?_ | split | decide
theorem Only.streamWrite {T : List Fld} {a s : State} (h : Only T a s) (hT : [.ports, .insts, .ctxs, .live, .jrn, .lines, .mc, .cw, .ops, .solves, .dies, .chanters, .stops, .chans, .ev, .health, .out].all T.contains = true) (x0 : Nat) : Only T a (State.streamWrite x0 s) := h.step (State.streamWrite_only x0 s) hT
theorem State.modMech_only (x0 : Mech → Mech) (s : State) : Only [.mech] s (State.modMech x0 s) := by
  have h : Only [.mech] s s := Only.refl _ _
  unfold State.modMech
  repeat' first | with_reducible assumption | intro _ | with_reducible apply Only.foldl | with_reducible apply Only.foldl_snd | (with_reducible apply Only.upd_mech; first | with_reducible assumption | with_reducible apply Only.foldl | with_reducible apply Only.foldl_snd | with_reducible refine Only.ite ?_ ?_) | extract_lets | with_reducible refine Only.ite ?_ ?_ | split | decide
theorem Only.modMech {T : List Fld} {a s : State} (h : Only T a s) (hT : [.mech].all T.contains = true) (x0 : Mech → Mech) : Only T a (State.modMech x0 s) := h.step (State.modMech_only x0 s) hT
theorem State.dropHeld_only (x0 : List Cqe) (s : State) : Only [.ctxs] s (State.dropHeld x0 s) := by
  have h : Only [.ctxs] s s := Only.refl _ _
  unfold State.dropHeld
  repeat' first | with_reducible assumption | intro _ | with_reducible apply Only.dropCtx | with_reducible apply Only.foldl | with_reducible apply Only.foldl_snd | extract_lets | with_reducible refine Only.ite ?_ ?_ | split | decide
theorem Only.dropHeld {T : List Fld} {a s : State} (h : Only T a s) (hT : [.ctxs].all T.contains = true) (x0 : List Cqe) : Only T a (State.dropHeld x0 s) := h.step (State.dropHeld_only x0 s) hT
theorem State.release_only (x0 : Nat) (s : State) : Only [.ports, .insts, .ctxs, .jrn, .chans, .health, .out] s (State.release x0 s) := by
  have h : Only [.ports, .insts, .ctxs, .jrn, .chans, .health, .out] s s := Only.refl _ _
  unfold State.release
  repeat' first | with_reducible assumption | intro _ | with_reducible apply Only.hostWrite | with_reducible apply Only.modPort | with_reducible apply Only.writeCqe | with_reducible apply Only.settleDeletes | with_reducible apply Only.interrupt | with_reducible apply Only.foldl | with_reducible apply Only.foldl_snd | extract_lets | with_reducible refine Only.ite ?_ ?_ | split | decide
theorem Only.release {T : List Fld} {a s : State} (h : Only T a s) (hT : [.ports, .insts, .ctxs, .jrn, .chans, .health, .out].all T.contains = true) (x0 : Nat) : Only T a (State.release x0 s) := h.step (State.release_only x0 s) hT
theorem State.releaseHeld_only (x0 : Nat) (x1 : Nat) (x2 : Nat) (s : State) : Only [.ports, .insts, .ctxs, .out] s (State.releaseHeld x0 x1 x2 s) := by
  induction x2 generalizing s with
  | zero => exact .refl _ _
  | succ f ih =>
    unfold State.releaseHeld
    dsimp only
    split
    · exact .refl _ _
    · split
      · exact .refl _ _
      · exact (((Only.refl _ _).modInst (by decide) _ _).pushCqe (by decide) ..).step (ih _) (by decide)
theorem Only.releaseHeld {T : List Fld} {a s : State} (h : Only T a s) (hT : [.ports, .insts, .ctxs, .out].all T.contains = true) (x0 : Nat) (x1 : Nat) (x2 : Nat) : Only T a (State.releaseHeld x0 x1 x2 s) := h.step (State.releaseHeld_only x0 x1 x2 s) hT
theorem Only.slotCommand {T : List Fld} {a s : State} (h : Only T a s) (hT : [.ports, .insts, .ctxs, .jrn, .chans, .health, .out].all T.contains = true) (x0 : Nat) (x1 : Nat) (x2 : Bool) (x3 : Ctx → Nat → State → State) (hg : ∀ y0 y1 t, Only T a t → Only T a (x3 y0 y1 t)) : Only T a (State.slotCommand x0 x1 x2 x3 s) := by
  unfold State.slotCommand
  repeat' first | with_reducible assumption | intro _ | with_reducible apply hg | with_reducible apply Only.boundary | with_reducible apply slotChecks_only | with_reducible apply Only.foldl | with_reducible apply Only.foldl_snd | extract_lets | with_reducible refine Only.ite ?_ ?_ | split | exact Fld.all_sub hT (by decide)
theorem State.unlockWays_only (x0 : Nat) (x1 : Option Nat) (s : State) : Only [.mc] s (State.unlockWays x0 x1 s) := by
  have h : Only [.mc] s s := Only.refl _ _
  unfold State.unlockWays
  repeat' first | with_reducible assumption | intro _ | with_reducible apply Only.modMc | with_reducible apply Only.foldl | with_reducible apply Only.foldl_snd | extract_lets | with_reducible refine Only.ite ?_ ?_ | split | decide
theorem Only.unlockWays {T : List Fld} {a s : State} (h : Only T a s) (hT : [.mc].all T.contains = true) (x0 : Nat) (x1 : Option Nat) : Only T a (State.unlockWays x0 x1 s) := h.step (State.unlockWays_only x0 x1 s) hT
theorem State.endTest_only (x0 : Nat) (s : State) : Only [.modes, .ports, .insts, .ctxs, .jrn, .stops, .chans, .ev, .health, .out] s (State.endTest x0 s) := by
  have h : Only [.modes, .ports, .insts, .ctxs, .jrn, .stops, .chans, .ev, .health, .out] s s := Only.refl _ _
  unfold State.endTest
  repeat' first | with_reducible assumption | intro _ | with_reducible apply Only.modModes | with_reducible apply Only.leaveQuiesce | with_reducible apply Only.foldl | with_reducible apply Only.foldl_snd | extract_lets | with_reducible refine Only.ite ?_ ?_ | split | decide
theorem Only.endTest {T : List Fld} {a s : State} (h : Only T a s) (hT : [.modes, .ports, .insts, .ctxs, .jrn, .stops, .chans, .ev, .health, .out].all T.contains = true) (x0 : Nat) : Only T a (State.endTest x0 s) := h.step (State.endTest_only x0 s) hT
theorem State.afterBurst_only (x0 : Nat) (s : State) : Only [.ports, .insts, .ctxs, .nextCtx, .fetches, .jrn, .stops, .chans, .ev, .health, .out] s (State.afterBurst x0 s) := by
  have h : Only [.ports, .insts, .ctxs, .nextCtx, .fetches, .jrn, .stops, .chans, .ev, .health, .out] s s := Only.refl _ _
  unfold State.afterBurst
  repeat' first | with_reducible assumption | intro _ | with_reducible apply Only.endDesc | with_reducible apply Only.moverCommand | with_reducible apply Only.foldl | with_reducible apply Only.foldl_snd | extract_lets | with_reducible refine Only.ite ?_ ?_ | split | decide
theorem Only.afterBurst {T : List Fld} {a s : State} (h : Only T a s) (hT : [.ports, .insts, .ctxs, .nextCtx, .fetches, .jrn, .stops, .chans, .ev, .health, .out].all T.contains = true) (x0 : Nat) : Only T a (State.afterBurst x0 s) := h.step (State.afterBurst_only x0 s) hT
theorem State.markServed_only (x0 : Nat) (s : State) : Only [.chans, .out] s (State.markServed x0 s) := by
  have h : Only [.chans, .out] s s := Only.refl _ _
  unfold State.markServed
  repeat' first | with_reducible assumption | intro _ | with_reducible apply Only.each | with_reducible apply Only.updChan | with_reducible apply Only.foldl | with_reducible apply Only.foldl_snd | extract_lets | with_reducible refine Only.ite ?_ ?_ | split | decide
theorem Only.markServed {T : List Fld} {a s : State} (h : Only T a s) (hT : [.chans, .out].all T.contains = true) (x0 : Nat) : Only T a (State.markServed x0 s) := h.step (State.markServed_only x0 s) hT
theorem State.askSpace_only (x0 : Nat) (x1 : Bool) (s : State) : Only [.ctxs, .cache] s (State.askSpace x0 x1 s) := by
  have h : Only [.ctxs, .cache] s s := Only.refl _ _
  unfold State.askSpace
  repeat' first | with_reducible assumption | intro _ | with_reducible apply Only.refreshHeld | with_reducible apply Only.modCache | with_reducible apply Only.modCtx | with_reducible apply Only.foldl | with_reducible apply Only.foldl_snd | extract_lets | with_reducible refine Only.ite ?_ ?_ | split | decide
theorem Only.askSpace {T : List Fld} {a s : State} (h : Only T a s) (hT : [.ctxs, .cache].all T.contains = true) (x0 : Nat) (x1 : Bool) : Only T a (State.askSpace x0 x1 s) := h.step (State.askSpace_only x0 x1 s) hT
theorem State.toT2_only (x0 : Nat) (x1 : Nat) (s : State) : Only [.jrn, .mc, .out] s (State.toT2 x0 x1 s) := by
  have h : Only [.jrn, .mc, .out] s s := Only.refl _ _
  unfold State.toT2
  repeat' first | with_reducible assumption | intro _ | with_reducible apply Only.emit | with_reducible apply Only.modMc | with_reducible apply Only.nextNonce | with_reducible apply Only.foldl | with_reducible apply Only.foldl_snd | extract_lets | with_reducible refine Only.ite ?_ ?_ | split | decide
theorem Only.toT2 {T : List Fld} {a s : State} (h : Only T a s) (hT : [.jrn, .mc, .out].all T.contains = true) (x0 : Nat) (x1 : Nat) : Only T a (State.toT2 x0 x1 s) := h.step (State.toT2_only x0 x1 s) hT
theorem State.writeRoot_only (s : State) : Only [.jrn] s (State.writeRoot s) := by
  have h : Only [.jrn] s s := Only.refl _ _
  unfold State.writeRoot
  repeat' first | with_reducible assumption | intro _ | with_reducible apply Only.modJrn | with_reducible apply Only.foldl | with_reducible apply Only.foldl_snd | extract_lets | with_reducible refine Only.ite ?_ ?_ | split | decide
theorem Only.writeRoot {T : List Fld} {a s : State} (h : Only T a s) (hT : [.jrn].all T.contains = true) : Only T a (State.writeRoot s) := h.step (State.writeRoot_only s) hT
theorem State.postTemp_only (x1 : State) (s : State) : Only [.ports, .insts, .ctxs, .out] s (State.postTemp s x1) := by
  have h : Only [.ports, .insts, .ctxs, .out] s s := Only.refl _ _
  unfold State.postTemp
  repeat' first | with_reducible assumption | intro _ | with_reducible apply Only.allPorts | with_reducible apply Only.postEvent | with_reducible apply Only.foldl | with_reducible apply Only.foldl_snd | extract_lets | with_reducible refine Only.ite ?_ ?_ | split | decide
theorem Only.postTemp {T : List Fld} {a s : State} (h : Only T a s) (hT : [.ports, .insts, .ctxs, .out].all T.contains = true) (x1 : State) : Only T a (State.postTemp s x1) := h.step (State.postTemp_only x1 s) hT
theorem State.endLends_only (x0 : Nat) (x1 : Lend → Bool) (s : State) : Only [.lends, .mc, .free, .out] s (State.endLends x0 x1 s) := by
  have h : Only [.lends, .mc, .free, .out] s s := Only.refl _ _
  unfold State.endLends
  repeat' first | with_reducible assumption | intro _ | with_reducible apply Only.emit | with_reducible apply Only.dropLends | with_reducible apply Only.foldl | with_reducible apply Only.foldl_snd | extract_lets | with_reducible refine Only.ite ?_ ?_ | split | decide
theorem Only.endLends {T : List Fld} {a s : State} (h : Only T a s) (hT : [.lends, .mc, .free, .out].all T.contains = true) (x0 : Nat) (x1 : Lend → Bool) : Only T a (State.endLends x0 x1 s) := h.step (State.endLends_only x0 x1 s) hT
theorem Only.updateAdmin {T : List Fld} {a s : State} (h : Only T a s) (hT : [].all T.contains = true) (x0 : Nat) (x1 : Nat) (x2 : Ctx → State → State) (hg : ∀ y0 t, Only T a t → Only T a (x2 y0 t)) : Only T a (State.updateAdmin x0 x1 x2 s) := by
  unfold State.updateAdmin
  repeat' first | with_reducible assumption | intro _ | with_reducible apply hg | with_reducible apply Only.foldl | with_reducible apply Only.foldl_snd | extract_lets | with_reducible refine Only.ite ?_ ?_ | split
theorem Only.commitOf {T : List Fld} {a s : State} (h : Only T a s) (hT : [].all T.contains = true) (x0 : Nat) (x1 : Nat) (x2 : Ctx → State → State) (hg : ∀ y0 t, Only T a t → Only T a (x2 y0 t)) : Only T a (State.commitOf x0 x1 x2 s) := by
  unfold State.commitOf
  repeat' first | with_reducible assumption | intro _ | with_reducible apply hg | with_reducible apply Only.updateAdmin | with_reducible apply Only.foldl | with_reducible apply Only.foldl_snd | extract_lets | with_reducible refine Only.ite ?_ ?_
theorem State.zeroKey_only (x0 : Nat) (s : State) : Only [.part] s (State.zeroKey x0 s) := by
  have h : Only [.part] s s := Only.refl _ _
  unfold State.zeroKey
  repeat' first | with_reducible assumption | intro _ | with_reducible apply Only.modPart | with_reducible apply Only.foldl | with_reducible apply Only.foldl_snd | extract_lets | with_reducible refine Only.ite ?_ ?_ | split | decide
theorem Only.zeroKey {T : List Fld} {a s : State} (h : Only T a s) (hT : [.part].all T.contains = true) (x0 : Nat) : Only T a (State.zeroKey x0 s) := h.step (State.zeroKey_only x0 s) hT
theorem State.toT3_only (x0 : Nat) (x1 : Nat) (x2 : Bool) (s : State) : Only [.mc] s (State.toT3 x0 x1 x2 s) := by
  have h : Only [.mc] s s := Only.refl _ _
  unfold State.toT3
  repeat' first | with_reducible assumption | intro _ | with_reducible apply Only.modMc | with_reducible apply Only.foldl | with_reducible apply Only.foldl_snd | extract_lets | with_reducible refine Only.ite ?_ ?_ | split | decide
theorem Only.toT3 {T : List Fld} {a s : State} (h : Only T a s) (hT : [.mc].all T.contains = true) (x0 : Nat) (x1 : Nat) (x2 : Bool) : Only T a (State.toT3 x0 x1 x2 s) := h.step (State.toT3_only x0 x1 x2 s) hT
theorem State.landLine_only (x0 : Nat) (x1 : Nat) (x2 : Bool) (s : State) : Only [.ports, .insts, .ctxs, .live, .jrn, .lines, .mc, .cw, .ops, .solves, .dies, .chanters, .stops, .chans, .ev, .health, .out] s (State.landLine x0 x1 x2 s) := by
  have h : Only [.ports, .insts, .ctxs, .live, .jrn, .lines, .mc, .cw, .ops, .solves, .dies, .chanters, .stops, .chans, .ev, .health, .out] s s := Only.refl _ _
  unfold State.landLine
  repeat' first | with_reducible assumption | intro _ | with_reducible apply Only.modLine | with_reducible apply Only.fetchOver | with_reducible apply Only.loseLine | with_reducible apply Only.retry | with_reducible apply Only.fill | with_reducible apply Only.writeT1 | with_reducible apply Only.foldl | with_reducible apply Only.foldl_snd | extract_lets | with_reducible refine Only.ite ?_ ?_ | split | decide
theorem Only.landLine {T : List Fld} {a s : State} (h : Only T a s) (hT : [.ports, .insts, .ctxs, .live, .jrn, .lines, .mc, .cw, .ops, .solves, .dies, .chanters, .stops, .chans, .ev, .health, .out].all T.contains = true) (x0 : Nat) (x1 : Nat) (x2 : Bool) : Only T a (State.landLine x0 x1 x2 s) := h.step (State.landLine_only x0 x1 x2 s) hT
theorem State.makeRoom_only (s : State) : ∀ t, State.makeRoom s = some t → Only [.jrn, .lines, .mc, .out] s t := by
  intro t ht
  unfold State.makeRoom at ht
  split at ht
  · cases ht; exact .refl _ _
  · split at ht
    · cases ht
    · cases ht; exact ((((Only.refl _ _).maintWay (by decide) ..).toT2 (by decide) ..).modLine (by decide) ..).modMc (by decide) _
theorem Only.makeRoom_eq {T : List Fld} {a s : State} (h : Only T a s) (hT : [.jrn, .lines, .mc, .out].all T.contains = true)  {t} (e : State.makeRoom s = some t) : Only T a t := h.step (State.makeRoom_only s _ e) hT
theorem State.installLine_only (x0 : Nat) (x1 : Nat) (x2 : Bool) (s : State) : Only [.ports, .insts, .ctxs, .live, .jrn, .lines, .mc, .cw, .ops, .solves, .dies, .chanters, .stops, .chans, .ev, .health, .out] s (State.installLine x0 x1 x2 s) := by
  unfold State.installLine
  have hm := State.makeRoom_only s
  revert hm
  generalize s.makeRoom = o
  intro hm
  cases o with
  | none => exact .refl _ _
  | some t => exact ((Only.refl _ _).step (hm t rfl) (by decide)).landLine (by decide) ..
theorem Only.installLine {T : List Fld} {a s : State} (h : Only T a s) (hT : [.ports, .insts, .ctxs, .live, .jrn, .lines, .mc, .cw, .ops, .solves, .dies, .chanters, .stops, .chans, .ev, .health, .out].all T.contains = true) (x0 : Nat) (x1 : Nat) (x2 : Bool) : Only T a (State.installLine x0 x1 x2 s) := h.step (State.installLine_only x0 x1 x2 s) hT
theorem State.reread_only (x0 : Op) (x1 : Nat) (s : State) : Only [.ops] s (State.reread x0 x1 s) := by
  have h : Only [.ops] s s := Only.refl _ _
  unfold State.reread
  repeat' first | with_reducible assumption | intro _ | with_reducible apply Only.modOp | with_reducible apply Only.foldl | with_reducible apply Only.foldl_snd | extract_lets | with_reducible refine Only.ite ?_ ?_ | split | decide
theorem Only.reread {T : List Fld} {a s : State} (h : Only T a s) (hT : [.ops].all T.contains = true) (x0 : Op) (x1 : Nat) : Only T a (State.reread x0 x1 s) := h.step (State.reread_only x0 x1 s) hT
theorem State.otherRequest_only (x0 : PortId) (x1 : Nat) (x2 : Nat) (x3 : W32) (s : State) : Only [.part, .ports, .insts, .ctxs, .jrn, .chans, .health, .out] s (State.otherRequest x0 x1 x2 x3 s) := by
  have h : Only [.part, .ports, .insts, .ctxs, .jrn, .chans, .health, .out] s s := Only.refl _ _
  unfold State.otherRequest
  repeat' first | with_reducible assumption | intro _ | with_reducible apply Only.complete | with_reducible apply Only.emit | with_reducible apply Only.modCtx | with_reducible apply Only.modPart | with_reducible apply Only.foldl | with_reducible apply Only.foldl_snd | extract_lets | with_reducible refine Only.ite ?_ ?_ | split | decide
theorem Only.otherRequest {T : List Fld} {a s : State} (h : Only T a s) (hT : [.part, .ports, .insts, .ctxs, .jrn, .chans, .health, .out].all T.contains = true) (x0 : PortId) (x1 : Nat) (x2 : Nat) (x3 : W32) : Only T a (State.otherRequest x0 x1 x2 x3 s) := h.step (State.otherRequest_only x0 x1 x2 x3 s) hT
theorem State.fetchOne_only (x0 : Nat) (x1 : Nat) (x2 : Nat) (x3 : Sqe) (s : State) : Only [.modes, .part, .ports, .insts, .ctxs, .nextCtx, .fetches, .live, .jrn, .lines, .mc, .cache, .cw, .ops, .solves, .dies, .chanters, .stops, .chans, .ev, .health, .out] s (State.fetchOne x0 x1 x2 x3 s) := by
  have h : Only [.modes, .part, .ports, .insts, .ctxs, .nextCtx, .fetches, .live, .jrn, .lines, .mc, .cache, .cw, .ops, .solves, .dies, .chanters, .stops, .chans, .ev, .health, .out] s s := Only.refl _ _
  unfold State.fetchOne
  repeat' first | with_reducible assumption | intro _ | with_reducible apply Only.modInst | with_reducible apply Only.modModes | with_reducible apply Only.wake | with_reducible apply Only.complete | with_reducible apply Only.logError | with_reducible apply Only.otherRequest | with_reducible apply Only.violation | with_reducible apply Only.modPort | with_reducible apply Only.enterIo | with_reducible apply Only.foldl | with_reducible apply Only.foldl_snd | (with_reducible apply Only.upd_ctxs_nextCtx_fetches; first | with_reducible assumption | with_reducible apply Only.modInst | with_reducible apply Only.modModes | with_reducible apply Only.wake | with_reducible apply Only.complete | with_reducible apply Only.logError | with_reducible apply Only.otherRequest | with_reducible apply Only.violation | with_reducible apply Only.modPort | with_reducible apply Only.enterIo | with_reducible apply Only.foldl | with_reducible apply Only.foldl_snd | with_reducible refine Only.ite ?_ ?_) | extract_lets | with_reducible refine Only.ite ?_ ?_ | split | decide | dsimp +zetaDelta only
theorem Only.fetchOne {T : List Fld} {a s : State} (h : Only T a s) (hT : [.modes, .part, .ports, .insts, .ctxs, .nextCtx, .fetches, .live, .jrn, .lines, .mc, .cache, .cw, .ops, .solves, .dies, .chanters, .stops, .chans, .ev, .health, .out].all T.contains = true) (x0 : Nat) (x1 : Nat) (x2 : Nat) (x3 : Sqe) : Only T a (State.fetchOne x0 x1 x2 x3 s) := h.step (State.fetchOne_only x0 x1 x2 x3 s) hT
theorem State.stepTwo_only (x0 : Step2Found) (s : State) : Only [.modes, .part, .keep, .otp, .flash, .format, .ports, .insts, .ctxs, .live, .sealed, .jrn, .vault, .lines, .mc, .cache, .cw, .groups, .ops, .solves, .store, .ev, .health, .free, .out] s (State.stepTwo x0 s) := by
  have h : Only [.modes, .part, .keep, .otp, .flash, .format, .ports, .insts, .ctxs, .live, .sealed, .jrn, .vault, .lines, .mc, .cache, .cw, .groups, .ops, .solves, .store, .ev, .health, .free, .out] s s := Only.refl _ _
  unfold State.stepTwo
  repeat' first | with_reducible assumption | intro _ | with_reducible apply Only.modPart | with_reducible apply Only.checkKeep | with_reducible apply Only.finishLower | with_reducible apply Only.finishRaise | with_reducible apply Only.keepWrite | with_reducible apply Only.cellCheck | with_reducible apply Only.foldl | with_reducible apply Only.foldl_snd | extract_lets | with_reducible refine Only.ite ?_ ?_ | split | decide
theorem Only.stepTwo {T : List Fld} {a s : State} (h : Only T a s) (hT : [.modes, .part, .keep, .otp, .flash, .format, .ports, .insts, .ctxs, .live, .sealed, .jrn, .vault, .lines, .mc, .cache, .cw, .groups, .ops, .solves, .store, .ev, .health, .free, .out].all T.contains = true) (x0 : Step2Found) : Only T a (State.stepTwo x0 s) := h.step (State.stepTwo_only x0 s) hT
theorem State.ctlAnswer_only (x0 : Nat) (x1 : Nat × Nat × Option Nat) (x2 : W64) (s : State) : Only [.ports, .insts, .ctxs, .live, .jrn, .stops, .store, .chans, .health, .out] s (State.ctlAnswer x0 x1 x2 s) := by
  have h : Only [.ports, .insts, .ctxs, .live, .jrn, .stops, .store, .chans, .health, .out] s s := Only.refl _ _
  unfold State.ctlAnswer
  repeat' first | with_reducible assumption | intro _ | with_reducible apply Only.modStop | with_reducible apply Only.emit | with_reducible apply Only.checkDrain | with_reducible apply Only.foldl | with_reducible apply Only.foldl_snd | extract_lets | with_reducible refine Only.ite ?_ ?_ | split | decide
theorem Only.ctlAnswer {T : List Fld} {a s : State} (h : Only T a s) (hT : [.ports, .insts, .ctxs, .live, .jrn, .stops, .store, .chans, .health, .out].all T.contains = true) (x0 : Nat) (x1 : Nat × Nat × Option Nat) (x2 : W64) : Only T a (State.ctlAnswer x0 x1 x2 s) := h.step (State.ctlAnswer_only x0 x1 x2 s) hT
theorem State.writeRecord_only (x0 : Nat) (x1 : Nat) (s : State) : Only [.live, .jrn, .lines, .mc, .cache, .cw, .groups, .ops, .health] s (State.writeRecord x0 x1 s) := by
  have h : Only [.live, .jrn, .lines, .mc, .cache, .cw, .groups, .ops, .health] s s := Only.refl _ _
  unfold State.writeRecord
  repeat' first | with_reducible assumption | intro _ | with_reducible apply Only.writeBack | refine Only.recordPlace_eq (h := ?_) (hT := by decide) (e := by with_reducible assumption) .. | with_reducible apply Only.recordPlace | with_reducible apply Only.logRec | with_reducible apply Only.modLine | with_reducible apply Only.foldl | with_reducible apply Only.foldl_snd | extract_lets | with_reducible refine Only.ite ?_ ?_ | split | decide
theorem Only.writeRecord {T : List Fld} {a s : State} (h : Only T a s) (hT : [.live, .jrn, .lines, .mc, .cache, .cw, .groups, .ops, .health].all T.contains = true) (x0 : Nat) (x1 : Nat) : Only T a (State.writeRecord x0 x1 s) := h.step (State.writeRecord_only x0 x1 s) hT
theorem State.rewriteSegment_only (s : State) : Only [.jrn] s (State.rewriteSegment s) := by
  have h : Only [.jrn] s s := Only.refl _ _
  unfold State.rewriteSegment
  repeat' first | with_reducible assumption | intro _ | with_reducible apply Only.writeRoot | with_reducible apply Only.modJrn | with_reducible apply Only.foldl | with_reducible apply Only.foldl_snd | extract_lets | with_reducible refine Only.ite ?_ ?_ | split | decide
theorem Only.rewriteSegment {T : List Fld} {a s : State} (h : Only T a s) (hT : [.jrn].all T.contains = true) : Only T a (State.rewriteSegment s) := h.step (State.rewriteSegment_only s) hT
theorem State.newPackage_only (x0 : PkgBlock) (x1 : Manifest) (s : State) : Only [.part, .keep, .flash, .stops] s (State.newPackage x0 x1 s) := by
  have h : Only [.part, .keep, .flash, .stops] s s := Only.refl _ _
  unfold State.newPackage
  repeat' first | with_reducible assumption | intro _ | with_reducible apply Only.keepWrite | with_reducible apply Only.abandonPackage | with_reducible apply Only.modFlash | with_reducible apply Only.modStop | with_reducible apply Only.foldl | with_reducible apply Only.foldl_snd | extract_lets | with_reducible refine Only.ite ?_ ?_ | split | decide
theorem Only.newPackage {T : List Fld} {a s : State} (h : Only T a s) (hT : [.part, .keep, .flash, .stops].all T.contains = true) (x0 : PkgBlock) (x1 : Manifest) : Only T a (State.newPackage x0 x1 s) := h.step (State.newPackage_only x0 x1 s) hT
theorem State.deleteNs_only (x0 : Nat) (s : State) : Only [.part, .live, .jrn, .lines, .mc, .out] s (State.deleteNs x0 s) := by
  have h : Only [.part, .live, .jrn, .lines, .mc, .out] s s := Only.refl _ _
  unfold State.deleteNs
  repeat' first | with_reducible assumption | intro _ | with_reducible apply Only.logRec | with_reducible apply Only.zeroKey | with_reducible apply Only.maintain | with_reducible apply Only.modMc | with_reducible apply Only.issueFetches | with_reducible apply Only.foldl | with_reducible apply Only.foldl_snd | (with_reducible apply Only.upd_lines; first | with_reducible assumption | with_reducible apply Only.logRec | with_reducible apply Only.zeroKey | with_reducible apply Only.maintain | with_reducible apply Only.modMc | with_reducible apply Only.issueFetches | with_reducible apply Only.foldl | with_reducible apply Only.foldl_snd | with_reducible refine Only.ite ?_ ?_) | extract_lets | with_reducible refine Only.ite ?_ ?_ | split | decide
theorem Only.deleteNs {T : List Fld} {a s : State} (h : Only T a s) (hT : [.part, .live, .jrn, .lines, .mc, .out].all T.contains = true) (x0 : Nat) : Only T a (State.deleteNs x0 s) := h.step (State.deleteNs_only x0 s) hT
theorem State.deleteAll_only (x0 : List Nat) (s : State) : Only [.part, .live, .jrn, .lines, .mc, .health, .out] s (State.deleteAll x0 s) := by
  have h : Only [.part, .live, .jrn, .lines, .mc, .health, .out] s s := Only.refl _ _
  unfold State.deleteAll
  repeat' first | with_reducible assumption | intro _ | with_reducible apply Only.each | with_reducible apply Only.deleteNs | with_reducible apply Only.rewriteKeys | with_reducible apply Only.foldl | with_reducible apply Only.foldl_snd | extract_lets | with_reducible refine Only.ite ?_ ?_ | split | decide
theorem Only.deleteAll {T : List Fld} {a s : State} (h : Only T a s) (hT : [.part, .live, .jrn, .lines, .mc, .health, .out].all T.contains = true) (x0 : List Nat) : Only T a (State.deleteAll x0 s) := h.step (State.deleteAll_only x0 s) hT
theorem State.takePiece_only (x0 : Ctx) (s : State) : Only [.part, .keep, .flash, .ports, .insts, .ctxs, .jrn, .stops, .chans, .health, .out] s (State.takePiece x0 s) := by
  have h : Only [.part, .keep, .flash, .ports, .insts, .ctxs, .jrn, .stops, .chans, .health, .out] s s := Only.refl _ _
  unfold State.takePiece
  repeat' first | with_reducible assumption | intro _ | with_reducible apply Only.refuseUpdate | with_reducible apply Only.complete | with_reducible apply Only.modFlash | with_reducible apply Only.abandonPackage | with_reducible apply Only.newPackage | with_reducible apply Only.keepWrite | with_reducible apply Only.writeBlocks | with_reducible apply Only.foldl | with_reducible apply Only.foldl_snd | extract_lets | with_reducible refine Only.ite ?_ ?_ | split | decide | dsimp +zetaDelta only
theorem Only.takePiece {T : List Fld} {a s : State} (h : Only T a s) (hT : [.part, .keep, .flash, .ports, .insts, .ctxs, .jrn, .stops, .chans, .health, .out].all T.contains = true) (x0 : Ctx) : Only T a (State.takePiece x0 s) := h.step (State.takePiece_only x0 s) hT
theorem State.rebuildLog_only (x0 : Rebuild) (x1 : Nat) (x2 : Nat) (x3 : Nat) (x4 : Nat) (s : State) : Only [.live, .jrn, .health] s (State.rebuildLog x0 x1 x2 x3 x4 s) := by
  have h : Only [.live, .jrn, .health] s s := Only.refl _ _
  unfold State.rebuildLog
  repeat' first | with_reducible assumption | intro _ | with_reducible apply Only.modHealth | with_reducible apply Only.logRec | with_reducible apply Only.foldl | with_reducible apply Only.foldl_snd | extract_lets | with_reducible refine Only.ite ?_ ?_ | split | decide
theorem Only.rebuildLog {T : List Fld} {a s : State} (h : Only T a s) (hT : [.live, .jrn, .health].all T.contains = true) (x0 : Rebuild) (x1 : Nat) (x2 : Nat) (x3 : Nat) (x4 : Nat) : Only T a (State.rebuildLog x0 x1 x2 x3 x4 s) := h.step (State.rebuildLog_only x0 x1 x2 x3 x4 s) hT
theorem State.identifyRow_only (x0 : Nat) (x1 : List Nat) (s : State) : Only [.ports, .insts, .ctxs, .jrn, .chans, .health, .out] s (State.identifyRow x0 x1 s) := by
  have h : Only [.ports, .insts, .ctxs, .jrn, .chans, .health, .out] s s := Only.refl _ _
  unfold State.identifyRow
  repeat' first | with_reducible assumption | intro _ | with_reducible apply Only.admin | with_reducible apply Only.complete | with_reducible apply Only.toHost | with_reducible apply Only.foldl | with_reducible apply Only.foldl_snd | extract_lets | with_reducible refine Only.ite ?_ ?_ | split | decide
theorem Only.identifyRow {T : List Fld} {a s : State} (h : Only T a s) (hT : [.ports, .insts, .ctxs, .jrn, .chans, .health, .out].all T.contains = true) (x0 : Nat) (x1 : List Nat) : Only T a (State.identifyRow x0 x1 s) := h.step (State.identifyRow_only x0 x1 s) hT
theorem State.failSlot_only (x0 : Nat) (x1 : Nat) (s : State) : Only [.flash] s (State.failSlot x0 x1 s) := by
  have h : Only [.flash] s s := Only.refl _ _
  unfold State.failSlot
  repeat' first | with_reducible assumption | intro _ | with_reducible apply Only.modFlash | with_reducible apply Only.foldl | with_reducible apply Only.foldl_snd | extract_lets | with_reducible refine Only.ite ?_ ?_ | split | decide
theorem Only.failSlot {T : List Fld} {a s : State} (h : Only T a s) (hT : [.flash].all T.contains = true) (x0 : Nat) (x1 : Nat) : Only T a (State.failSlot x0 x1 s) := h.step (State.failSlot_only x0 x1 s) hT
theorem State.voicingSelect_only (x0 : Nat) (x1 : Bool) (s : State) : Only [.modes, .flash, .ports, .insts, .ctxs, .jrn, .chans, .health, .out] s (State.voicingSelect x0 x1 s) := by
  have h : Only [.modes, .flash, .ports, .insts, .ctxs, .jrn, .chans, .health, .out] s s := Only.refl _ _
  unfold State.voicingSelect
  repeat' first | with_reducible assumption | intro _ | with_reducible apply Only.admin | with_reducible apply Only.completeBad | with_reducible apply Only.failSlot | with_reducible apply Only.complete | with_reducible apply Only.startDevEpoch | with_reducible apply Only.foldl | with_reducible apply Only.foldl_snd | extract_lets | with_reducible refine Only.ite ?_ ?_ | split | decide
theorem Only.voicingSelect {T : List Fld} {a s : State} (h : Only T a s) (hT : [.modes, .flash, .ports, .insts, .ctxs, .jrn, .chans, .health, .out].all T.contains = true) (x0 : Nat) (x1 : Bool) : Only T a (State.voicingSelect x0 x1 s) := h.step (State.voicingSelect_only x0 x1 s) hT
theorem State.watchdogExpires_only (s : State) : Only [.modes, .pw, .part, .keep, .flash, .spares, .ports, .insts, .ctxs, .live, .jrn, .vault, .lines, .lends, .mc, .cache, .cw, .groups, .ops, .solves, .dies, .chanters, .links, .pods, .stops, .chans, .drones, .ev, .health, .free, .out] s (State.watchdogExpires s) := by
  have h : Only [.modes, .pw, .part, .keep, .flash, .spares, .ports, .insts, .ctxs, .live, .jrn, .vault, .lines, .lends, .mc, .cache, .cw, .groups, .ops, .solves, .dies, .chanters, .links, .pods, .stops, .chans, .drones, .ev, .health, .free, .out] s s := Only.refl _ _
  unfold State.watchdogExpires
  repeat' first | with_reducible assumption | intro _ | with_reducible apply Only.report | with_reducible apply Only.modPart | with_reducible apply Only.restartTrial | with_reducible apply Only.modModes | with_reducible apply Only.causeArises | with_reducible apply Only.restartAtFive | with_reducible apply Only.allPorts | with_reducible apply Only.modPort | with_reducible apply Only.startFlush | with_reducible apply Only.foldl | with_reducible apply Only.foldl_snd | extract_lets | with_reducible refine Only.ite ?_ ?_ | split | decide
theorem Only.watchdogExpires {T : List Fld} {a s : State} (h : Only T a s) (hT : [.modes, .pw, .part, .keep, .flash, .spares, .ports, .insts, .ctxs, .live, .jrn, .vault, .lines, .lends, .mc, .cache, .cw, .groups, .ops, .solves, .dies, .chanters, .links, .pods, .stops, .chans, .drones, .ev, .health, .free, .out].all T.contains = true) : Only T a (State.watchdogExpires s) := h.step (State.watchdogExpires_only s) hT
theorem State.detach_only (x0 : Nat) (x1 : List Nat) (s : State) : Only [.live, .jrn, .mc, .ev] s (State.detach x0 x1 s) := by
  have h : Only [.live, .jrn, .mc, .ev] s s := Only.refl _ _
  unfold State.detach
  repeat' first | with_reducible assumption | intro _ | with_reducible apply Only.each | with_reducible apply Only.unlockWays | with_reducible apply Only.logInst | with_reducible apply Only.reviewRegions | with_reducible apply Only.foldl | with_reducible apply Only.foldl_snd | extract_lets | with_reducible refine Only.ite ?_ ?_ | split | decide
theorem Only.detach {T : List Fld} {a s : State} (h : Only T a s) (hT : [.live, .jrn, .mc, .ev].all T.contains = true) (x0 : Nat) (x1 : List Nat) : Only T a (State.detach x0 x1 s) := h.step (State.detach_only x0 x1 s) hT
theorem State.fillDead_only (x0 : Nat) (x1 : Nat) (s : State) : Only [.live, .jrn] s (State.fillDead x0 x1 s) := by
  have h : Only [.live, .jrn] s s := Only.refl _ _
  unfold State.fillDead
  repeat' first | with_reducible assumption | intro _ | with_reducible apply Only.logRec | with_reducible apply Only.foldl | with_reducible apply Only.foldl_snd | extract_lets | with_reducible refine Only.ite ?_ ?_ | split | decide
theorem Only.fillDead {T : List Fld} {a s : State} (h : Only T a s) (hT : [.live, .jrn].all T.contains = true) (x0 : Nat) (x1 : Nat) : Only T a (State.fillDead x0 x1 s) := h.step (State.fillDead_only x0 x1 s) hT
theorem State.newKey_only (x0 : Nat) (s : State) : Only [.part, .free] s (State.newKey x0 s) := by
  have h : Only [.part, .free] s s := Only.refl _ _
  unfold State.newKey
  repeat' first | with_reducible assumption | intro _ | with_reducible apply Only.drew | with_reducible apply Only.modPart | with_reducible apply Only.foldl | with_reducible apply Only.foldl_snd | extract_lets | with_reducible refine Only.ite ?_ ?_ | split | decide
theorem Only.newKey {T : List Fld} {a s : State} (h : Only T a s) (hT : [.part, .free].all T.contains = true) (x0 : Nat) : Only T a (State.newKey x0 s) := h.step (State.newKey_only x0 s) hT
theorem State.eraseNs_only (x0 : Bool) (x1 : Ns) (s : State) : Only [.part, .live, .jrn, .lines, .mc, .free] s (State.eraseNs x0 x1 s) := by
  have h : Only [.part, .live, .jrn, .lines, .mc, .free] s s := Only.refl _ _
  unfold State.eraseNs
  repeat' first | with_reducible assumption | intro _ | with_reducible apply Only.modPart | with_reducible apply Only.zeroKey | with_reducible apply Only.newKey | with_reducible apply Only.unmapAll | with_reducible apply Only.logRec | with_reducible apply Only.foldl | with_reducible apply Only.foldl_snd | extract_lets | with_reducible refine Only.ite ?_ ?_ | split | decide
theorem Only.eraseNs {T : List Fld} {a s : State} (h : Only T a s) (hT : [.part, .live, .jrn, .lines, .mc, .free].all T.contains = true) (x0 : Bool) (x1 : Ns) : Only T a (State.eraseNs x0 x1 s) := h.step (State.eraseNs_only x0 x1 s) hT
theorem State.eraseKeys_only (x0 : Bool) (x1 : List Ns) (s : State) : Only [.part, .live, .jrn, .lines, .mc, .health, .free] s (State.eraseKeys x0 x1 s) := by
  have h : Only [.part, .live, .jrn, .lines, .mc, .health, .free] s s := Only.refl _ _
  unfold State.eraseKeys
  repeat' first | with_reducible assumption | intro _ | with_reducible apply Only.rewriteKeys | with_reducible apply Only.eraseNs | with_reducible apply Only.foldl | with_reducible apply Only.foldl_snd | extract_lets | with_reducible refine Only.ite ?_ ?_ | split | decide
theorem Only.eraseKeys {T : List Fld} {a s : State} (h : Only T a s) (hT : [.part, .live, .jrn, .lines, .mc, .health, .free].all T.contains = true) (x0 : Bool) (x1 : List Ns) : Only T a (State.eraseKeys x0 x1 s) := h.step (State.eraseKeys_only x0 x1 s) hT
theorem State.causeGone_only (x0 : Nat) (s : State) : Only [.modes, .pw, .part, .keep, .flash, .spares, .ports, .insts, .ctxs, .live, .jrn, .lines, .lends, .mc, .cache, .cw, .groups, .ops, .solves, .dies, .chanters, .links, .pods, .stops, .chans, .drones, .ev, .health] s (State.causeGone x0 s) := by
  have h : Only [.modes, .pw, .part, .keep, .flash, .spares, .ports, .insts, .ctxs, .live, .jrn, .lines, .lends, .mc, .cache, .cw, .groups, .ops, .solves, .dies, .chanters, .links, .pods, .stops, .chans, .drones, .ev, .health] s s := Only.refl _ _
  unfold State.causeGone
  repeat' first | with_reducible assumption | intro _ | with_reducible apply Only.modModes | with_reducible apply Only.startBringup | with_reducible apply Only.foldl | with_reducible apply Only.foldl_snd | extract_lets | with_reducible refine Only.ite ?_ ?_ | split | decide
theorem Only.causeGone {T : List Fld} {a s : State} (h : Only T a s) (hT : [.modes, .pw, .part, .keep, .flash, .spares, .ports, .insts, .ctxs, .live, .jrn, .lines, .lends, .mc, .cache, .cw, .groups, .ops, .solves, .dies, .chanters, .links, .pods, .stops, .chans, .drones, .ev, .health].all T.contains = true) (x0 : Nat) : Only T a (State.causeGone x0 s) := h.step (State.causeGone_only x0 s) hT
theorem State.enterKeep_only (s : State) : Only [.modes, .pw, .part, .flash, .spares, .ports, .insts, .ctxs, .live, .jrn, .lines, .lends, .mc, .cache, .cw, .groups, .ops, .solves, .dies, .chanters, .links, .pods, .stops, .chans, .drones, .ev, .health, .out] s (State.enterKeep s) := by
  have h : Only [.modes, .pw, .part, .flash, .spares, .ports, .insts, .ctxs, .live, .jrn, .lines, .lends, .mc, .cache, .cw, .groups, .ops, .solves, .dies, .chanters, .links, .pods, .stops, .chans, .drones, .ev, .health, .out] s s := Only.refl _ _
  unfold State.enterKeep
  repeat' first | with_reducible assumption | intro _ | with_reducible apply Only.discard | with_reducible apply Only.podsOff | with_reducible apply Only.foldl | with_reducible apply Only.foldl_snd | (with_reducible apply Only.upd_modes_pw_part_flash; first | with_reducible assumption | with_reducible apply Only.discard | with_reducible apply Only.podsOff | with_reducible apply Only.foldl | with_reducible apply Only.foldl_snd | with_reducible refine Only.ite ?_ ?_) | extract_lets | with_reducible refine Only.ite ?_ ?_ | split | decide
theorem Only.enterKeep {T : List Fld} {a s : State} (h : Only T a s) (hT : [.modes, .pw, .part, .flash, .spares, .ports, .insts, .ctxs, .live, .jrn, .lines, .lends, .mc, .cache, .cw, .groups, .ops, .solves, .dies, .chanters, .links, .pods, .stops, .chans, .drones, .ev, .health, .out].all T.contains = true) : Only T a (State.enterKeep s) := h.step (State.enterKeep_only s) hT
theorem State.shutHot_only (s : State) : Only [.modes, .pw, .part, .keep, .spares, .ports, .insts, .ctxs, .live, .jrn, .vault, .lines, .mc, .cache, .cw, .groups, .ops, .solves, .dies, .chanters, .links, .pods, .stops, .chans, .ev, .health, .free, .out] s (State.shutHot s) := by
  have h : Only [.modes, .pw, .part, .keep, .spares, .ports, .insts, .ctxs, .live, .jrn, .vault, .lines, .mc, .cache, .cw, .groups, .ops, .solves, .dies, .chanters, .links, .pods, .stops, .chans, .ev, .health, .free, .out] s s := Only.refl _ _
  unfold State.shutHot
  repeat' first | with_reducible assumption | intro _ | with_reducible apply Only.each | with_reducible apply Only.podTooHot | with_reducible apply Only.causeArises | with_reducible apply Only.foldl | with_reducible apply Only.foldl_snd | extract_lets | with_reducible refine Only.ite ?_ ?_ | split | decide
theorem Only.shutHot {T : List Fld} {a s : State} (h : Only T a s) (hT : [.modes, .pw, .part, .keep, .spares, .ports, .insts, .ctxs, .live, .jrn, .vault, .lines, .mc, .cache, .cw, .groups, .ops, .solves, .dies, .chanters, .links, .pods, .stops, .chans, .ev, .health, .free, .out].all T.contains = true) : Only T a (State.shutHot s) := h.step (State.shutHot_only s) hT
theorem State.formatMedia_only (x0 : VoicingImage) (s : State) : Only [.modes, .part, .keep, .flash, .format, .spares, .ports, .insts, .ctxs, .live, .sealed, .jrn, .vault, .lines, .mc, .cache, .cw, .groups, .ops, .solves, .health, .free, .out] s (State.formatMedia x0 s) := by
  have h : Only [.modes, .part, .keep, .flash, .format, .spares, .ports, .insts, .ctxs, .live, .sealed, .jrn, .vault, .lines, .mc, .cache, .cw, .groups, .ops, .solves, .health, .free, .out] s s := Only.refl _ _
  unfold State.formatMedia
  repeat' first | with_reducible assumption | intro _ | with_reducible apply Only.each | with_reducible apply Only.zeroKey | with_reducible apply Only.newSecret | with_reducible apply Only.modPart | with_reducible apply Only.placeFormat | with_reducible apply Only.useImage | with_reducible apply Only.freshMedia | with_reducible apply Only.fillDead | with_reducible apply Only.armVault | with_reducible apply Only.newLayout | with_reducible apply Only.setDegrade | with_reducible apply Only.foldl | with_reducible apply Only.foldl_snd | (with_reducible apply Only.upd_format; first | with_reducible assumption | with_reducible apply Only.each | with_reducible apply Only.zeroKey | with_reducible apply Only.newSecret | with_reducible apply Only.modPart | with_reducible apply Only.placeFormat | with_reducible apply Only.useImage | with_reducible apply Only.freshMedia | with_reducible apply Only.fillDead | with_reducible apply Only.armVault | with_reducible apply Only.newLayout | with_reducible apply Only.setDegrade | with_reducible apply Only.foldl | with_reducible apply Only.foldl_snd | with_reducible refine Only.ite ?_ ?_) | extract_lets | with_reducible refine Only.ite ?_ ?_ | split | decide
theorem Only.formatMedia {T : List Fld} {a s : State} (h : Only T a s) (hT : [.modes, .part, .keep, .flash, .format, .spares, .ports, .insts, .ctxs, .live, .sealed, .jrn, .vault, .lines, .mc, .cache, .cw, .groups, .ops, .solves, .health, .free, .out].all T.contains = true) (x0 : VoicingImage) : Only T a (State.formatMedia x0 s) := h.step (State.formatMedia_only x0 s) hT
theorem State.useSlot_only (x0 : Nat) (x1 : Nat) (x2 : Nat) (s : State) : Only [.flash, .spares, .ports, .pods, .ev] s (State.useSlot x0 x1 x2 s) := by
  have h : Only [.flash, .spares, .ports, .pods, .ev] s s := Only.refl _ _
  unfold State.useSlot
  repeat' first | with_reducible assumption | intro _ | with_reducible apply Only.modFlash | with_reducible apply Only.useImage | with_reducible apply Only.each | with_reducible apply Only.report | with_reducible apply Only.modPod | with_reducible apply Only.allPorts | with_reducible apply Only.fitLink | with_reducible apply Only.foldl | with_reducible apply Only.foldl_snd | extract_lets | with_reducible refine Only.ite ?_ ?_ | split | decide
theorem Only.useSlot {T : List Fld} {a s : State} (h : Only T a s) (hT : [.flash, .spares, .ports, .pods, .ev].all T.contains = true) (x0 : Nat) (x1 : Nat) (x2 : Nat) : Only T a (State.useSlot x0 x1 x2 s) := h.step (State.useSlot_only x0 x1 x2 s) hT
theorem State.firstFormat_only (x0 : RecoveryFound) (s : State) : Only [.part, .keep, .format, .live, .sealed, .jrn, .vault, .lines, .mc, .cache, .cw, .groups, .ops, .solves, .dies, .health, .free] s (State.firstFormat x0 s) := by
  have h : Only [.part, .keep, .format, .live, .sealed, .jrn, .vault, .lines, .mc, .cache, .cw, .groups, .ops, .solves, .dies, .health, .free] s s := Only.refl _ _
  unfold State.firstFormat
  repeat' first | with_reducible assumption | intro _ | with_reducible apply Only.modDie | with_reducible apply Only.newSecret | with_reducible apply Only.placeFormat | with_reducible apply Only.freshMedia | with_reducible apply Only.foldl | with_reducible apply Only.foldl_snd | (with_reducible apply Only.upd_format; first | with_reducible assumption | with_reducible apply Only.modDie | with_reducible apply Only.newSecret | with_reducible apply Only.placeFormat | with_reducible apply Only.freshMedia | with_reducible apply Only.foldl | with_reducible apply Only.foldl_snd | with_reducible refine Only.ite ?_ ?_) | extract_lets | with_reducible refine Only.ite ?_ ?_ | split | decide
theorem Only.firstFormat {T : List Fld} {a s : State} (h : Only T a s) (hT : [.part, .keep, .format, .live, .sealed, .jrn, .vault, .lines, .mc, .cache, .cw, .groups, .ops, .solves, .dies, .health, .free].all T.contains = true) (x0 : RecoveryFound) : Only T a (State.firstFormat x0 s) := h.step (State.firstFormat_only x0 s) hT
theorem State.reopenInst_only (x0 : Nat) (s : State) : Only [.insts, .live, .jrn] s (State.reopenInst x0 s) := by
  have h : Only [.insts, .live, .jrn] s s := Only.refl _ _
  unfold State.reopenInst
  repeat' first | with_reducible assumption | intro _ | with_reducible apply Only.logInst | with_reducible apply Only.modInst | with_reducible apply Only.foldl | with_reducible apply Only.foldl_snd | extract_lets | with_reducible refine Only.ite ?_ ?_ | split | decide
theorem Only.reopenInst {T : List Fld} {a s : State} (h : Only T a s) (hT : [.insts, .live, .jrn].all T.contains = true) (x0 : Nat) : Only T a (State.reopenInst x0 s) := h.step (State.reopenInst_only x0 s) hT
theorem State.beginTrial_only (s : State) : Only [.part, .keep] s (State.beginTrial s) := by
  have h : Only [.part, .keep] s s := Only.refl _ _
  unfold State.beginTrial
  repeat' first | with_reducible assumption | intro _ | with_reducible apply Only.keepWrite | with_reducible apply Only.foldl | with_reducible apply Only.foldl_snd | extract_lets | with_reducible refine Only.ite ?_ ?_ | split | decide
theorem Only.beginTrial {T : List Fld} {a s : State} (h : Only T a s) (hT : [.part, .keep].all T.contains = true) : Only T a (State.beginTrial s) := h.step (State.beginTrial_only s) hT
theorem State.releaseVault_only (s : State) : Only [.part, .keep, .live, .jrn, .vault, .cache] s (State.releaseVault s) := by
  have h : Only [.part, .keep, .live, .jrn, .vault, .cache] s s := Only.refl _ _
  unfold State.releaseVault
  repeat' first | with_reducible assumption | intro _ | with_reducible apply Only.keepWrite | with_reducible apply Only.each | with_reducible apply Only.logBand | with_reducible apply Only.armVault | with_reducible apply Only.foldl | with_reducible apply Only.foldl_snd | (with_reducible apply Only.upd_vault; first | with_reducible assumption | with_reducible apply Only.keepWrite | with_reducible apply Only.each | with_reducible apply Only.logBand | with_reducible apply Only.armVault | with_reducible apply Only.foldl | with_reducible apply Only.foldl_snd | with_reducible refine Only.ite ?_ ?_) | extract_lets | with_reducible refine Only.ite ?_ ?_ | split | decide
theorem Only.releaseVault {T : List Fld} {a s : State} (h : Only T a s) (hT : [.part, .keep, .live, .jrn, .vault, .cache].all T.contains = true) : Only T a (State.releaseVault s) := h.step (State.releaseVault_only s) hT
theorem State.managerEvent_only (x0 : Nat) (x1 : Nat) (x2 : Nat) (x3 : Nat) (s : State) : Only [.ports, .insts, .ctxs, .ev, .health, .out] s (State.managerEvent x0 x1 x2 x3 s) := by
  have h : Only [.ports, .insts, .ctxs, .ev, .health, .out] s s := Only.refl _ _
  unfold State.managerEvent
  repeat' first | with_reducible assumption | intro _ | with_reducible apply Only.postOutstanding | with_reducible apply Only.report | with_reducible apply Only.modHealth | with_reducible apply Only.foldl | with_reducible apply Only.foldl_snd | extract_lets | with_reducible refine Only.ite ?_ ?_ | split | decide
theorem Only.managerEvent {T : List Fld} {a s : State} (h : Only T a s) (hT : [.ports, .insts, .ctxs, .ev, .health, .out].all T.contains = true) (x0 : Nat) (x1 : Nat) (x2 : Nat) (x3 : Nat) : Only T a (State.managerEvent x0 x1 x2 x3 s) := h.step (State.managerEvent_only x0 x1 x2 x3 s) hT
theorem State.answerErase_only (x0 : DevEpoch) (s : State) : Only [.part, .ports, .insts, .ctxs, .jrn, .chans, .health, .out] s (State.answerErase x0 s) := by
  have h : Only [.part, .ports, .insts, .ctxs, .jrn, .chans, .health, .out] s s := Only.refl _ _
  unfold State.answerErase
  repeat' first | with_reducible assumption | intro _ | with_reducible apply Only.completeSealed | with_reducible apply Only.modCtx | with_reducible apply Only.foldl | with_reducible apply Only.foldl_snd | extract_lets | with_reducible refine Only.ite ?_ ?_ | split | decide
theorem Only.answerErase {T : List Fld} {a s : State} (h : Only T a s) (hT : [.part, .ports, .insts, .ctxs, .jrn, .chans, .health, .out].all T.contains = true) (x0 : DevEpoch) : Only T a (State.answerErase x0 s) := h.step (State.answerErase_only x0 s) hT
theorem State.placePods_only (s : State) : Only [.links, .pods, .out] s (State.placePods s) := by
  have h : Only [.links, .pods, .out] s s := Only.refl _ _
  unfold State.placePods
  repeat' first | with_reducible assumption | intro _ | with_reducible apply Only.each | with_reducible apply Only.modPod | with_reducible apply Only.modLink | with_reducible apply Only.emit | with_reducible apply Only.podOff | with_reducible apply Only.foldl | with_reducible apply Only.foldl_snd | extract_lets | with_reducible refine Only.ite ?_ ?_ | split | decide
theorem Only.placePods {T : List Fld} {a s : State} (h : Only T a s) (hT : [.links, .pods, .out].all T.contains = true) : Only T a (State.placePods s) := h.step (State.placePods_only s) hT
theorem State.unboundReady_only (s : State) : Only [.stops] s (State.unboundReady s) := by
  have h : Only [.stops] s s := Only.refl _ _
  unfold State.unboundReady
  repeat' first | with_reducible assumption | intro _ | with_reducible apply Only.each | with_reducible apply Only.modStop | with_reducible apply Only.foldl | with_reducible apply Only.foldl_snd | extract_lets | with_reducible refine Only.ite ?_ ?_ | split | decide
theorem Only.unboundReady {T : List Fld} {a s : State} (h : Only T a s) (hT : [.stops].all T.contains = true) : Only T a (State.unboundReady s) := h.step (State.unboundReady_only s) hT
theorem State.applyVoicing_only (x0 : DevEpoch) (x1 : Nat) (x2 : Nat) (x3 : Nat) (s : State) : Only [.modes, .part, .keep, .flash, .format, .spares, .ports, .insts, .ctxs, .ended, .live, .sealed, .jrn, .vault, .lines, .lends, .mc, .cache, .cw, .groups, .ops, .solves, .dies, .chanters, .links, .pods, .stops, .chans, .ev, .health, .free, .out] s (State.applyVoicing x0 x1 x2 x3 s) := by
  have h : Only [.modes, .part, .keep, .flash, .format, .spares, .ports, .insts, .ctxs, .ended, .live, .sealed, .jrn, .vault, .lines, .lends, .mc, .cache, .cw, .groups, .ops, .solves, .dies, .chanters, .links, .pods, .stops, .chans, .ev, .health, .free, .out] s s := Only.refl _ _
  unfold State.applyVoicing
  repeat' first | with_reducible assumption | intro _ | with_reducible apply Only.endDevEpoch | with_reducible apply Only.keepWrite | with_reducible apply Only.answerEpoch | with_reducible apply Only.useSlot | with_reducible apply Only.formatMedia | with_reducible apply Only.setDegrade | with_reducible apply Only.modModes | with_reducible apply Only.allPorts | with_reducible apply Only.fitZero | with_reducible apply Only.setLimit | with_reducible apply Only.eraseOwed | with_reducible apply Only.countPods | with_reducible apply Only.placePods | with_reducible apply Only.unboundReady | with_reducible apply Only.modFlash | with_reducible apply Only.applyImage | with_reducible apply Only.each | with_reducible apply Only.retrain | with_reducible apply Only.foldl | with_reducible apply Only.foldl_snd | extract_lets | with_reducible refine Only.ite ?_ ?_ | split | decide
theorem Only.applyVoicing {T : List Fld} {a s : State} (h : Only T a s) (hT : [.modes, .part, .keep, .flash, .format, .spares, .ports, .insts, .ctxs, .ended, .live, .sealed, .jrn, .vault, .lines, .lends, .mc, .cache, .cw, .groups, .ops, .solves, .dies, .chanters, .links, .pods, .stops, .chans, .ev, .health, .free, .out].all T.contains = true) (x0 : DevEpoch) (x1 : Nat) (x2 : Nat) (x3 : Nat) : Only T a (State.applyVoicing x0 x1 x2 x3 s) := h.step (State.applyVoicing_only x0 x1 x2 x3 s) hT
theorem State.commitActivation_only (x0 : DevEpoch) (x1 : Keep → Keep) (s : State) : Only [.modes, .part, .keep] s (State.commitActivation x0 x1 s) := by
  have h : Only [.modes, .part, .keep] s s := Only.refl _ _
  unfold State.commitActivation
  repeat' first | with_reducible assumption | intro _ | with_reducible apply Only.keepWrite | with_reducible apply Only.modPart | with_reducible apply Only.modModes | with_reducible apply Only.foldl | with_reducible apply Only.foldl_snd | extract_lets | with_reducible refine Only.ite ?_ ?_ | split | decide
theorem Only.commitActivation {T : List Fld} {a s : State} (h : Only T a s) (hT : [.modes, .part, .keep].all T.contains = true) (x0 : DevEpoch) (x1 : Keep → Keep) : Only T a (State.commitActivation x0 x1 s) := h.step (State.commitActivation_only x0 x1 s) hT
theorem State.decoded_only (x0 : Op) (x1 : DecodeEnd) (s : State) : Only [.ports, .insts, .ctxs, .live, .jrn, .lines, .mc, .cache, .cw, .groups, .ops, .solves, .dies, .chanters, .stops, .chans, .ev, .health, .out] s (State.decoded x0 x1 s) := by
  have h : Only [.ports, .insts, .ctxs, .live, .jrn, .lines, .mc, .cache, .cw, .groups, .ops, .solves, .dies, .chanters, .stops, .chans, .ev, .health, .out] s s := Only.refl _ _
  unfold State.decoded
  repeat' first | with_reducible assumption | intro _ | with_reducible apply Only.dropOp | with_reducible apply Only.memberRead | with_reducible apply Only.served | with_reducible apply Only.handOver | with_reducible apply Only.toStep4 | with_reducible apply Only.report | with_reducible apply Only.reread | with_reducible apply Only.countStep | with_reducible apply Only.foldl | with_reducible apply Only.foldl_snd | extract_lets | with_reducible refine Only.ite ?_ ?_ | split | decide | dsimp +zetaDelta only
theorem Only.decoded {T : List Fld} {a s : State} (h : Only T a s) (hT : [.ports, .insts, .ctxs, .live, .jrn, .lines, .mc, .cache, .cw, .groups, .ops, .solves, .dies, .chanters, .stops, .chans, .ev, .health, .out].all T.contains = true) (x0 : Op) (x1 : DecodeEnd) : Only T a (State.decoded x0 x1 s) := h.step (State.decoded_only x0 x1 s) hT
theorem State.rebuildEnd_only (x0 : Rebuild) (s : State) : Only [.modes, .ports, .insts, .ctxs, .live, .jrn, .ev, .health, .out] s (State.rebuildEnd x0 s) := by
  have h : Only [.modes, .ports, .insts, .ctxs, .live, .jrn, .ev, .health, .out] s s := Only.refl _ _
  unfold State.rebuildEnd
  repeat' first | with_reducible assumption | intro _ | with_reducible apply Only.healthEvent | with_reducible apply Only.logRec | with_reducible apply Only.setDegrade | with_reducible apply Only.foldl | with_reducible apply Only.foldl_snd | extract_lets | with_reducible refine Only.ite ?_ ?_ | split | decide
theorem Only.rebuildEnd {T : List Fld} {a s : State} (h : Only T a s) (hT : [.modes, .ports, .insts, .ctxs, .live, .jrn, .ev, .health, .out].all T.contains = true) (x0 : Rebuild) : Only T a (State.rebuildEnd x0 s) := h.step (State.rebuildEnd_only x0 s) hT
theorem State.loseSlot_only (x0 : Nat) (x1 : Nat) (x2 : Nat) (x3 : Nat) (x4 : List Nat) (s : State) : Only [.insts, .live, .jrn, .lines, .mc, .ev, .health] s (State.loseSlot x0 x1 x2 x3 x4 s).2 := by
  have h : Only [.insts, .live, .jrn, .lines, .mc, .ev, .health] s s := Only.refl _ _
  unfold State.loseSlot
  repeat' first | with_reducible assumption | intro _ | with_reducible apply Only.deferError | with_reducible apply Only.markUnit | with_reducible apply Only.foldl | with_reducible apply Only.foldl_snd | extract_lets | with_reducible refine Only.ite ?_ ?_ | split | decide
theorem Only.loseSlot {T : List Fld} {a s : State} (h : Only T a s) (hT : [.insts, .live, .jrn, .lines, .mc, .ev, .health].all T.contains = true) (x0 : Nat) (x1 : Nat) (x2 : Nat) (x3 : Nat) (x4 : List Nat) : Only T a (State.loseSlot x0 x1 x2 x3 x4 s).2 := h.step (State.loseSlot_only x0 x1 x2 x3 x4 s) hT
theorem Only.loseSlot_eq {T : List Fld} {a s : State} (h : Only T a s) (hT : [.insts, .live, .jrn, .lines, .mc, .ev, .health].all T.contains = true) (x0 : Nat) (x1 : Nat) (x2 : Nat) (x3 : Nat) (x4 : List Nat) {r t} (e : State.loseSlot x0 x1 x2 x3 x4 s = (r, t)) : Only T a t := h.step (by have := State.loseSlot_only x0 x1 x2 x3 x4 s; rw [e] at this; exact this) hT
theorem State.placeSolved_only (x0 : Rebuild) (x1 : Nat) (s : State) : ∀ t, State.placeSolved x0 x1 s = some t → Only [.live, .jrn, .lines, .mc, .cache, .cw, .groups, .ops, .health] s t := by
  unfold State.placeSolved
  intro t ht
  split at ht
  · cases ht; exact .refl _ _
  · dsimp only at ht
    refine Only.foldl_option _ _ none (fun x u w hx hu => ?_) (fun _ e => nomatch e) t ht
    split at hu
    · cases hu; exact hx _ rfl
    · split at hu
      · rename_i hp; cases hu
        exact ((Only.placeUnit_eq (h := .refl _ _) (hT := by decide) (e := hp) ..).modHealth (by decide) _).setUnit (by decide) ..
      · cases hu
theorem Only.placeSolved_eq {T : List Fld} {a s : State} (h : Only T a s) (hT : [.live, .jrn, .lines, .mc, .cache, .cw, .groups, .ops, .health].all T.contains = true) (x0 : Rebuild) (x1 : Nat) {t} (e : State.placeSolved x0 x1 s = some t) : Only T a t := h.step (State.placeSolved_only x0 x1 s _ e) hT
theorem State.rebuildShare_only (x0 : Rebuild) (x1 : Nat) (x2 : Nat) (x3 : Nat) (x4 : Nat) (s : State) : Only [.health] s (State.rebuildShare x0 x1 x2 x3 x4 s) := by
  have h : Only [.health] s s := Only.refl _ _
  unfold State.rebuildShare
  repeat' first | with_reducible assumption | intro _ | with_reducible apply Only.modHealth | with_reducible apply Only.foldl | with_reducible apply Only.foldl_snd | extract_lets | with_reducible refine Only.ite ?_ ?_ | split | decide
theorem Only.rebuildShare {T : List Fld} {a s : State} (h : Only T a s) (hT : [.health].all T.contains = true) (x0 : Rebuild) (x1 : Nat) (x2 : Nat) (x3 : Nat) (x4 : Nat) : Only T a (State.rebuildShare x0 x1 x2 x3 x4 s) := h.step (State.rebuildShare_only x0 x1 x2 x3 x4 s) hT
theorem State.rebuildRow_only (x0 : Rebuild) (x1 : Nat) (x2 : Nat) (x3 : Nat) (x4 : List SlotSolve) (s : State) : ∀ t, State.rebuildRow x0 x1 x2 x3 x4 s = some t → Only [.insts, .live, .jrn, .lines, .mc, .cache, .cw, .groups, .ops, .ev, .health] s t := by
  unfold State.rebuildRow
  intro t ht
  dsimp only at ht
  obtain ⟨u, hu, rfl⟩ := Option.map_eq_some_iff.mp ht
  refine Only.rebuildLog (Only.foldl _ _ (fun _ _ hk => hk.rebuildShare (by decide) ..) (Only.foldl _ _ (fun _ _ hk => hk.writeRecord (by decide) ..) ?_)) (by decide) ..
  refine Only.foldl_option _ _ _ (fun x v w hx hv => ?_) (fun y e => ?_) u hu
  · split at hv
    · cases hv
    · split at hv
      · exact (hx _ rfl).placeSolved_eq (by decide) (e := hv) ..
      · cases hv; exact hx _ rfl
  · cases e
    refine Only.foldl_snd _ _ _ (fun p x hp => ?_) (.refl _ _)
    split
    · exact hp.loseSlot (by decide) ..
    · exact hp
theorem Only.rebuildRow_eq {T : List Fld} {a s : State} (h : Only T a s) (hT : [.insts, .live, .jrn, .lines, .mc, .cache, .cw, .groups, .ops, .ev, .health].all T.contains = true) (x0 : Rebuild) (x1 : Nat) (x2 : Nat) (x3 : Nat) (x4 : List SlotSolve) {t} (e : State.rebuildRow x0 x1 x2 x3 x4 s = some t) : Only T a t := h.step (State.rebuildRow_only x0 x1 x2 x3 x4 s _ e) hT
theorem State.noteLag_only (x0 : Nat) (x1 : Nat) (s : State) : Only [.drones, .ev] s (State.noteLag x0 x1 s) := by
  have h : Only [.drones, .ev] s s := Only.refl _ _
  unfold State.noteLag
  repeat' first | with_reducible assumption | intro _ | with_reducible apply Only.modDrone | with_reducible apply Only.report | with_reducible apply Only.foldl | with_reducible apply Only.foldl_snd | extract_lets | with_reducible refine Only.ite ?_ ?_ | split | decide
theorem Only.noteLag {T : List Fld} {a s : State} (h : Only T a s) (hT : [.drones, .ev].all T.contains = true) (x0 : Nat) (x1 : Nat) : Only T a (State.noteLag x0 x1 s) := h.step (State.noteLag_only x0 x1 s) hT
theorem State.testRow_only (x0 : Bool) (s : State) : Only [.modes] s (State.testRow x0 s) := by
  have h : Only [.modes] s s := Only.refl _ _
  unfold State.testRow
  repeat' first | with_reducible assumption | intro _ | with_reducible apply Only.modModes | with_reducible apply Only.foldl | with_reducible apply Only.foldl_snd | extract_lets | with_reducible refine Only.ite ?_ ?_ | split | decide
theorem Only.testRow {T : List Fld} {a s : State} (h : Only T a s) (hT : [.modes].all T.contains = true) (x0 : Bool) : Only T a (State.testRow x0 s) := h.step (State.testRow_only x0 s) hT
theorem State.computeEnd_only (x0 : Nat) (x1 : OutFrame) (x2 : StopCmd) (s : State) : Only [.ports, .insts, .ctxs, .live, .jrn, .cache, .stops, .store, .chans, .ev, .health, .out] s (State.computeEnd x0 x1 x2 s) := by
  have h : Only [.ports, .insts, .ctxs, .live, .jrn, .cache, .stops, .store, .chans, .ev, .health, .out] s s := Only.refl _ _
  unfold State.computeEnd
  repeat' first | with_reducible assumption | intro _ | with_reducible apply Only.xformFault | with_reducible apply Only.endTag | with_reducible apply Only.used | with_reducible apply Only.modCtx | with_reducible apply Only.complete | with_reducible apply Only.askSpace | with_reducible apply Only.checkDrain | with_reducible apply Only.foldl | with_reducible apply Only.foldl_snd | extract_lets | with_reducible refine Only.ite ?_ ?_ | split | decide | dsimp +zetaDelta only
theorem Only.computeEnd {T : List Fld} {a s : State} (h : Only T a s) (hT : [.ports, .insts, .ctxs, .live, .jrn, .cache, .stops, .store, .chans, .ev, .health, .out].all T.contains = true) (x0 : Nat) (x1 : OutFrame) (x2 : StopCmd) : Only T a (State.computeEnd x0 x1 x2 s) := h.step (State.computeEnd_only x0 x1 x2 s) hT
theorem State.resume_only (x0 : Nat) (x1 : Nat) (s : State) : Only [.ports, .insts, .ctxs, .live, .jrn, .lines, .mc, .cw, .ops, .solves, .dies, .chanters, .stops, .chans, .ev, .health, .out] s (State.resume x0 x1 s) := by
  have h : Only [.ports, .insts, .ctxs, .live, .jrn, .lines, .mc, .cw, .ops, .solves, .dies, .chanters, .stops, .chans, .ev, .health, .out] s s := Only.refl _ _
  unfold State.resume
  repeat' first | with_reducible assumption | intro _ | with_reducible apply Only.complete | with_reducible apply Only.finishRead | with_reducible apply Only.modCtx | with_reducible apply Only.streamWrite | with_reducible apply Only.foldl | with_reducible apply Only.foldl_snd | extract_lets | with_reducible refine Only.ite ?_ ?_ | split | decide
theorem Only.resume {T : List Fld} {a s : State} (h : Only T a s) (hT : [.ports, .insts, .ctxs, .live, .jrn, .lines, .mc, .cw, .ops, .solves, .dies, .chanters, .stops, .chans, .ev, .health, .out].all T.contains = true) (x0 : Nat) (x1 : Nat) : Only T a (State.resume x0 x1 s) := h.step (State.resume_only x0 x1 s) hT
theorem State.startWaiting_only (x0 : Nat) (x1 : List (StopGoal × Option Nat)) (s : State) : Only [.ports, .insts, .ctxs, .jrn, .stops, .chans, .health, .out] s (State.startWaiting x0 x1 s) := by
  have h : Only [.ports, .insts, .ctxs, .jrn, .stops, .chans, .health, .out] s s := Only.refl _ _
  unfold State.startWaiting
  repeat' first | with_reducible assumption | intro _ | with_reducible apply Only.each | with_reducible apply Only.complete | with_reducible apply Only.modStop | with_reducible apply Only.startEpoch | with_reducible apply Only.foldl | with_reducible apply Only.foldl_snd | extract_lets | with_reducible refine Only.ite ?_ ?_ | split | decide
theorem Only.startWaiting {T : List Fld} {a s : State} (h : Only T a s) (hT : [.ports, .insts, .ctxs, .jrn, .stops, .chans, .health, .out].all T.contains = true) (x0 : Nat) (x1 : List (StopGoal × Option Nat)) : Only T a (State.startWaiting x0 x1 s) := h.step (State.startWaiting_only x0 x1 s) hT
theorem State.releaseStop_only (x0 : Nat) (x1 : Bool) (s : State) : Only [.part, .ports, .insts, .ctxs, .live, .jrn, .lines, .mc, .cw, .ops, .solves, .dies, .chanters, .stops, .chans, .ev, .health, .out] s (State.releaseStop x0 x1 s) := by
  have h : Only [.part, .ports, .insts, .ctxs, .live, .jrn, .lines, .mc, .cw, .ops, .solves, .dies, .chanters, .stops, .chans, .ev, .health, .out] s s := Only.refl _ _
  unfold State.releaseStop
  repeat' first | with_reducible assumption | intro _ | with_reducible apply Only.modStop | with_reducible apply Only.report | with_reducible apply Only.postVendor | with_reducible apply Only.modCtx | with_reducible apply Only.completeSealed | with_reducible apply Only.resetChans | with_reducible apply Only.each | with_reducible apply Only.resume | with_reducible apply Only.startWaiting | with_reducible apply Only.foldl | with_reducible apply Only.foldl_snd | extract_lets | with_reducible refine Only.ite ?_ ?_ | split | decide
theorem Only.releaseStop {T : List Fld} {a s : State} (h : Only T a s) (hT : [.part, .ports, .insts, .ctxs, .live, .jrn, .lines, .mc, .cw, .ops, .solves, .dies, .chanters, .stops, .chans, .ev, .health, .out].all T.contains = true) (x0 : Nat) (x1 : Bool) : Only T a (State.releaseStop x0 x1 s) := h.step (State.releaseStop_only x0 x1 s) hT
theorem State.columnsChecked_only (x0 : Nat) (x1 : List Nat) (s : State) : Only [.part, .spares, .ports, .insts, .ctxs, .live, .jrn, .lines, .mc, .cw, .ops, .solves, .dies, .chanters, .stops, .chans, .ev, .health, .out] s (State.columnsChecked x0 x1 s) := by
  have h : Only [.part, .spares, .ports, .insts, .ctxs, .live, .jrn, .lines, .mc, .cw, .ops, .solves, .dies, .chanters, .stops, .chans, .ev, .health, .out] s s := Only.refl _ _
  unfold State.columnsChecked
  repeat' first | with_reducible assumption | intro _ | with_reducible apply Only.releaseStop | with_reducible apply Only.modStop | with_reducible apply Only.report | with_reducible apply Only.logRec | with_reducible apply Only.modSpares | with_reducible apply Only.foldl | with_reducible apply Only.foldl_snd | extract_lets | with_reducible refine Only.ite ?_ ?_ | split | decide | dsimp +zetaDelta only
theorem Only.columnsChecked {T : List Fld} {a s : State} (h : Only T a s) (hT : [.part, .spares, .ports, .insts, .ctxs, .live, .jrn, .lines, .mc, .cw, .ops, .solves, .dies, .chanters, .stops, .chans, .ev, .health, .out].all T.contains = true) (x0 : Nat) (x1 : List Nat) : Only T a (State.columnsChecked x0 x1 s) := h.step (State.columnsChecked_only x0 x1 s) hT

end Sys2Proof.Machine
end

