-- ==== Sys2Proof/Laws/OnlyCommands.lean ====
section
/-! SUPPORT. The frame of every command's meaning: the fields it can change. It answers a next state. -/
namespace Sys2Proof.Machine

theorem execPerstDeassert_only (x0 : PortId) (s : State) : OnlyX [.ports] s (execPerstDeassert x0 s) := by
  have h : Only [.ports] s s := Only.refl _ _
  unfold execPerstDeassert
  repeat' first | with_reducible assumption | intro _ | with_reducible apply Only.modPort | with_reducible apply Only.foldl | with_reducible apply Only.foldl_snd | with_reducible apply OnlyX.next | extract_lets | with_reducible refine Only.ite ?_ ?_ | split | decide
theorem execBringupFinalRound_only (x0 : Sample) (x1 : List StopId) (s : State) : OnlyX [.modes, .pw, .part, .ports, .insts, .ctxs, .live, .jrn, .cache, .groups, .ops, .chanters, .pods, .stops, .store, .chans, .ev, .health, .out] s (execBringupFinalRound x0 x1 s) := by
  have h : Only [.modes, .pw, .part, .ports, .insts, .ctxs, .live, .jrn, .cache, .groups, .ops, .chanters, .pods, .stops, .store, .chans, .ev, .health, .out] s s := Only.refl _ _
  unfold execBringupFinalRound
  repeat' first | with_reducible assumption | intro _ | with_reducible apply Only.takeSample | with_reducible apply Only.enterSafe | with_reducible apply Only.setDegrade | with_reducible apply Only.reviewMute | with_reducible apply Only.setStep | with_reducible apply Only.each | with_reducible apply Only.bringStop | with_reducible apply Only.foldl | with_reducible apply Only.foldl_snd | with_reducible apply OnlyX.next | extract_lets | with_reducible refine Only.ite ?_ ?_ | split | decide
theorem execPllRetry_only (x0 : Bool) (x1 : Bool) (s : State) : OnlyX [.modes, .pw, .part, .keep, .ctxs, .live, .jrn, .vault, .lines, .mc, .cw, .ops, .solves, .links, .stops, .chans, .free, .out] s (execPllRetry x0 x1 s) := by
  have h : Only [.modes, .pw, .part, .keep, .ctxs, .live, .jrn, .vault, .lines, .mc, .cw, .ops, .solves, .links, .stops, .chans, .free, .out] s s := Only.refl _ _
  unfold execPllRetry
  repeat' first | with_reducible assumption | intro _ | with_reducible apply Only.modPart | with_reducible apply Only.startFlush | with_reducible apply Only.foldl | with_reducible apply Only.foldl_snd | with_reducible apply OnlyX.next | extract_lets | with_reducible refine Only.ite ?_ ?_ | split | decide
theorem execPasidEnableClear_only (x0 : PortId) (s : State) : OnlyX [.ports, .insts, .ctxs, .live, .jrn, .lines, .mc, .cache, .cw, .ops, .solves, .dies, .chanters, .stops, .chans, .ev, .health, .out] s (execPasidEnableClear x0 s) := by
  have h : Only [.ports, .insts, .ctxs, .live, .jrn, .lines, .mc, .cache, .cw, .ops, .solves, .dies, .chanters, .stops, .chans, .ev, .health, .out] s s := Only.refl _ _
  unfold execPasidEnableClear
  repeat' first | with_reducible assumption | intro _ | with_reducible apply Only.clearPasid | with_reducible apply Only.emit | with_reducible apply Only.foldl | with_reducible apply Only.foldl_snd | with_reducible apply OnlyX.next | extract_lets | with_reducible refine Only.ite ?_ ?_ | split | decide
theorem execUnbindStop_only (x0 : Nat) (s : State) : OnlyX [.ports, .insts, .ctxs, .jrn, .stops, .chans, .health, .out] s (execUnbindStop x0 s) := by
  have h : Only [.ports, .insts, .ctxs, .jrn, .stops, .chans, .health, .out] s s := Only.refl _ _
  unfold execUnbindStop
  repeat' first | with_reducible assumption | intro _ | with_reducible apply Only.boundary | with_reducible apply Only.complete | with_reducible apply Only.startEpoch | with_reducible apply Only.modCtx | with_reducible apply Only.foldl | with_reducible apply Only.foldl_snd | with_reducible apply OnlyX.next | extract_lets | with_reducible refine Only.ite ?_ ?_ | split | decide
theorem execRead_only (x0 : Nat) (s : State) : OnlyX [.ports, .insts, .ctxs, .live, .jrn, .lines, .mc, .ops, .solves, .dies, .chanters, .stops, .chans, .ev, .health, .out] s (execRead x0 s) := by
  have h : Only [.ports, .insts, .ctxs, .live, .jrn, .lines, .mc, .ops, .solves, .dies, .chanters, .stops, .chans, .ev, .health, .out] s s := Only.refl _ _
  unfold execRead
  repeat' first | with_reducible assumption | intro _ | with_reducible apply Only.io | with_reducible apply Only.beginRead | with_reducible apply Only.foldl | with_reducible apply Only.foldl_snd | with_reducible apply OnlyX.next | extract_lets | with_reducible refine Only.ite ?_ ?_ | split | decide
theorem execDmEnableWrite_only (x0 : MoverId) (x1 : ChanId) (x2 : Bool) (s : State) : OnlyX [.ports, .insts, .ctxs, .jrn, .stops, .chans, .ev, .health, .out] s (execDmEnableWrite x0 x1 x2 s) := by
  have h : Only [.ports, .insts, .ctxs, .jrn, .stops, .chans, .ev, .health, .out] s s := Only.refl _ _
  unfold execDmEnableWrite
  repeat' first | with_reducible assumption | intro _ | with_reducible apply Only.onChan | with_reducible apply Only.writeEnable | with_reducible apply Only.foldl | with_reducible apply Only.foldl_snd | with_reducible apply OnlyX.next | extract_lets | with_reducible refine Only.ite ?_ ?_ | split | decide
theorem execClearBackupWarning_only (x0 : MbHdr) (s : State) : OnlyX [.modes, .pw, .part, .keep, .otp, .flash, .format, .spares, .ports, .insts, .ctxs, .live, .jrn, .vault, .lines, .lends, .mc, .cache, .cw, .groups, .ops, .solves, .dies, .chanters, .links, .pods, .stops, .chans, .drones, .ev, .health, .free, .out] s (execClearBackupWarning x0 s) := by
  have h : Only [.modes, .pw, .part, .keep, .otp, .flash, .format, .spares, .ports, .insts, .ctxs, .live, .jrn, .vault, .lines, .lends, .mc, .cache, .cw, .groups, .ops, .solves, .dies, .chanters, .links, .pods, .stops, .chans, .drones, .ev, .health, .free, .out] s s := Only.refl _ _
  unfold execClearBackupWarning
  repeat' first | with_reducible assumption | intro _ | with_reducible apply Only.mailbox | with_reducible apply Only.foldl | with_reducible apply Only.foldl_snd | with_reducible apply OnlyX.next | extract_lets | with_reducible refine Only.ite ?_ ?_ | split | decide
theorem execMctpVdmMessage_only (x0 : PortId) (x1 : MiRequest) (s : State) : OnlyX [.modes, .part, .keep, .flash, .format, .ports, .insts, .ctxs, .nextCtx, .live, .jrn, .lines, .mc, .cache, .cw, .ops, .solves, .dies, .chanters, .pods, .stops, .chans, .ev, .health, .free, .out] s (execMctpVdmMessage x0 x1 s) := by
  have h : Only [.modes, .part, .keep, .flash, .format, .ports, .insts, .ctxs, .nextCtx, .live, .jrn, .lines, .mc, .cache, .cw, .ops, .solves, .dies, .chanters, .pods, .stops, .chans, .ev, .health, .free, .out] s s := Only.refl _ _
  unfold execMctpVdmMessage
  repeat' first | with_reducible assumption | intro _ | with_reducible apply Only.miServe | with_reducible apply Only.foldl | with_reducible apply Only.foldl_snd | with_reducible apply OnlyX.next | extract_lets | with_reducible refine Only.ite ?_ ?_ | split | decide
theorem execDeviceSelfTestExtended_only (x0 : Nat) (s : State) : OnlyX [.modes, .ports, .insts, .ctxs, .jrn, .chans, .health, .out] s (execDeviceSelfTestExtended x0 s) := by
  have h : Only [.modes, .ports, .insts, .ctxs, .jrn, .chans, .health, .out] s s := Only.refl _ _
  unfold execDeviceSelfTestExtended
  repeat' first | with_reducible assumption | intro _ | with_reducible apply Only.selfTestOf | with_reducible apply Only.complete | with_reducible apply Only.modModes | with_reducible apply Only.enterQuiesce | with_reducible apply Only.foldl | with_reducible apply Only.foldl_snd | with_reducible apply OnlyX.next | extract_lets | with_reducible refine Only.ite ?_ ?_ | split | decide
theorem execCcEnSet_only (x0 : PortId) (x1 : Nat) (x2 : Nat) (x3 : Nat) (x4 : Nat) (x5 : Nat) (s : State) : OnlyX [.modes, .ports, .insts] s (execCcEnSet x0 x1 x2 x3 x4 x5 s) := by
  have h : Only [.modes, .ports, .insts] s s := Only.refl _ _
  unfold execCcEnSet
  repeat' first | with_reducible assumption | intro _ | with_reducible apply Only.modPort | with_reducible apply Only.reviewPs | with_reducible apply Only.adminQueues | with_reducible apply Only.foldl | with_reducible apply Only.foldl_snd | with_reducible apply OnlyX.next | extract_lets | with_reducible refine Only.ite ?_ ?_ | split | decide
theorem execComputeCopy_only (x0 : Nat) (s : State) : OnlyX [.ports, .insts, .ctxs, .live, .jrn, .lines, .mc, .ops, .solves, .dies, .chanters, .stops, .chans, .ev, .health, .out] s (execComputeCopy x0 s) := by
  have h : Only [.ports, .insts, .ctxs, .live, .jrn, .lines, .mc, .ops, .solves, .dies, .chanters, .stops, .chans, .ev, .health, .out] s s := Only.refl _ _
  unfold execComputeCopy
  repeat' first | with_reducible assumption | intro _ | with_reducible apply Only.io | with_reducible apply Only.complete | with_reducible apply Only.beginRead | with_reducible apply Only.foldl | with_reducible apply Only.foldl_snd | with_reducible apply OnlyX.next | extract_lets | with_reducible refine Only.ite ?_ ?_ | split | decide
theorem execHotReset_only (x0 : PortId) (s : State) : OnlyX [.modes, .ports, .insts, .ctxs, .ended, .live, .jrn, .lines, .lends, .mc, .cache, .cw, .ops, .solves, .dies, .chanters, .stops, .chans, .ev, .health, .free, .out] s (execHotReset x0 s) := by
  have h : Only [.modes, .ports, .insts, .ctxs, .ended, .live, .jrn, .lines, .lends, .mc, .cache, .cw, .ops, .solves, .dies, .chanters, .stops, .chans, .ev, .health, .free, .out] s s := Only.refl _ _
  unfold execHotReset
  repeat' first | with_reducible assumption | intro _ | with_reducible apply Only.modPort | with_reducible apply Only.ctlReset | with_reducible apply Only.foldl | with_reducible apply Only.foldl_snd | with_reducible apply OnlyX.next | extract_lets | with_reducible refine Only.ite ?_ ?_ | split | decide
theorem execModuleResetAssert_only (s : State) : OnlyX [.modes, .pw, .part, .keep, .flash, .spares, .ports, .insts, .ctxs, .live, .jrn, .vault, .lines, .lends, .mc, .cache, .cw, .groups, .ops, .solves, .dies, .chanters, .links, .pods, .stops, .chans, .drones, .ev, .health, .free, .out] s (execModuleResetAssert s) := by
  have h : Only [.modes, .pw, .part, .keep, .flash, .spares, .ports, .insts, .ctxs, .live, .jrn, .vault, .lines, .lends, .mc, .cache, .cw, .groups, .ops, .solves, .dies, .chanters, .links, .pods, .stops, .chans, .drones, .ev, .health, .free, .out] s s := Only.refl _ _
  unfold execModuleResetAssert
  repeat' first | with_reducible assumption | intro _ | with_reducible apply Only.modModes | with_reducible apply Only.startBringup | with_reducible apply Only.podsOff | with_reducible apply Only.startFlush | with_reducible apply Only.allPorts | with_reducible apply Only.modPort | with_reducible apply Only.foldl | with_reducible apply Only.foldl_snd | with_reducible apply OnlyX.next | extract_lets | with_reducible refine Only.ite ?_ ?_ | split | decide
theorem execFormatNvm_only (x0 : Nat) (s : State) : OnlyX [.ports, .insts, .ctxs, .live, .jrn, .lines, .mc, .chans, .health, .out] s (execFormatNvm x0 s) := by
  have h : Only [.ports, .insts, .ctxs, .live, .jrn, .lines, .mc, .chans, .health, .out] s s := Only.refl _ _
  unfold execFormatNvm
  repeat' first | with_reducible assumption | intro _ | with_reducible apply Only.adminWait | with_reducible apply Only.completeBad | with_reducible apply Only.complete | with_reducible apply Only.modCtx | with_reducible apply Only.awaitSeal | with_reducible apply Only.formatNs | with_reducible apply Only.foldl | with_reducible apply Only.foldl_snd | with_reducible apply OnlyX.next | extract_lets | with_reducible refine Only.ite ?_ ?_ | split | decide
theorem execBellowsTestMeasured_only (x0 : Nat) (x1 : Nat) (x2 : Bool) (s : State) : OnlyX [.pw, .part, .keep, .ports, .insts, .ctxs, .cache, .ev, .health, .out] s (execBellowsTestMeasured x0 x1 x2 s) := by
  have h : Only [.pw, .part, .keep, .ports, .insts, .ctxs, .cache, .ev, .health, .out] s s := Only.refl _ _
  unfold execBellowsTestMeasured
  repeat' first | with_reducible assumption | intro _ | with_reducible apply Only.modPw | with_reducible apply Only.setLimit | with_reducible apply Only.modCache | with_reducible apply Only.report | with_reducible apply Only.keepWrite | with_reducible apply Only.healthEvent | with_reducible apply Only.foldl | with_reducible apply Only.foldl_snd | with_reducible apply OnlyX.next | extract_lets | with_reducible refine Only.ite ?_ ?_ | split | decide
theorem execRootPllLossOfLock_only (s : State) : OnlyX [.modes, .pw, .part, .keep, .ports, .insts, .ctxs, .live, .jrn, .vault, .lines, .mc, .cw, .ops, .solves, .links, .pods, .stops, .chans, .ev, .free, .out] s (execRootPllLossOfLock s) := by
  have h : Only [.modes, .pw, .part, .keep, .ports, .insts, .ctxs, .live, .jrn, .vault, .lines, .mc, .cw, .ops, .solves, .links, .pods, .stops, .chans, .ev, .free, .out] s s := Only.refl _ _
  unfold execRootPllLossOfLock
  repeat' first | with_reducible assumption | intro _ | with_reducible apply Only.clockFault | with_reducible apply Only.foldl | with_reducible apply Only.foldl_snd | with_reducible apply OnlyX.next | extract_lets | with_reducible refine Only.ite ?_ ?_ | split | decide
theorem execDeviceSelfTestShort_only (x0 : Nat) (s : State) : OnlyX [.modes, .ports, .insts, .ctxs, .jrn, .chans, .health, .out] s (execDeviceSelfTestShort x0 s) := by
  have h : Only [.modes, .ports, .insts, .ctxs, .jrn, .chans, .health, .out] s s := Only.refl _ _
  unfold execDeviceSelfTestShort
  repeat' first | with_reducible assumption | intro _ | with_reducible apply Only.selfTestOf | with_reducible apply Only.complete | with_reducible apply Only.modModes | with_reducible apply Only.foldl | with_reducible apply Only.foldl_snd | with_reducible apply OnlyX.next | extract_lets | with_reducible refine Only.ite ?_ ?_ | split | decide
theorem execReadOffsetCalibration_only (x0 : LinkId) (x1 : Fin 18) (x2 : Nat) (s : State) : OnlyX [.dies, .links, .free, .out] s (execReadOffsetCalibration x0 x1 x2 s) := by
  have h : Only [.dies, .links, .free, .out] s s := Only.refl _ _
  unfold execReadOffsetCalibration
  repeat' first | with_reducible assumption | intro _ | with_reducible apply Only.drew | with_reducible apply Only.modDie | with_reducible apply Only.sendOffsets | with_reducible apply Only.foldl | with_reducible apply Only.foldl_snd | with_reducible apply OnlyX.next | extract_lets | with_reducible refine Only.ite ?_ ?_ | split | decide
theorem execDieOpTimeout_only (x0 : LinkId) (x1 : Fin 18) (s : State) : OnlyX [.now, .modes, .spares, .ports, .insts, .ctxs, .live, .jrn, .lines, .mc, .cache, .cw, .groups, .ops, .solves, .dies, .chanters, .links, .pods, .stops, .chans, .ev, .health, .out] s (execDieOpTimeout x0 x1 s) := by
  have h : Only [.now, .modes, .spares, .ports, .insts, .ctxs, .live, .jrn, .lines, .mc, .cache, .cw, .groups, .ops, .solves, .dies, .chanters, .links, .pods, .stops, .chans, .ev, .health, .out] s s := Only.refl _ _
  unfold execDieOpTimeout
  repeat' first | with_reducible assumption | intro _ | with_reducible apply Only.failDie | with_reducible apply Only.notBefore | with_reducible apply Only.suspectDie | with_reducible apply Only.modOp | with_reducible apply Only.programEnded | with_reducible apply Only.addOp | with_reducible apply Only.retry | with_reducible apply Only.foldl | with_reducible apply Only.foldl_snd | with_reducible apply OnlyX.next | extract_lets | with_reducible refine Only.ite ?_ ?_ | split | decide | dsimp +zetaDelta only
theorem execPodDescriptorRead_only (x0 : List (LinkId × PodDesc)) (s : State) : OnlyX [.modes, .pods, .ev] s (execPodDescriptorRead x0 s) := by
  have h : Only [.modes, .pods, .ev] s s := Only.refl _ _
  unfold execPodDescriptorRead
  repeat' first | with_reducible assumption | intro _ | with_reducible apply Only.modPod | with_reducible apply Only.report | with_reducible apply Only.setStep | with_reducible apply Only.foldl | with_reducible apply Only.foldl_snd | with_reducible apply OnlyX.next | (with_reducible apply Only.upd_pods; first | with_reducible assumption | with_reducible apply Only.modPod | with_reducible apply Only.report | with_reducible apply Only.setStep | with_reducible apply Only.foldl | with_reducible apply Only.foldl_snd | with_reducible apply OnlyX.next | with_reducible refine Only.ite ?_ ?_) | extract_lets | with_reducible refine Only.ite ?_ ?_ | split | decide
theorem execLadderUnitRewrite_only (x0 : Nat) (s : State) : OnlyX [.live, .jrn, .lines, .mc, .cache, .cw, .groups, .ops, .health] s (execLadderUnitRewrite x0 s) := by
  have h : Only [.live, .jrn, .lines, .mc, .cache, .cw, .groups, .ops, .health] s s := Only.refl _ _
  unfold execLadderUnitRewrite
  repeat' first | with_reducible assumption | intro _ | with_reducible apply Only.modHealth | refine Only.placeUnit_eq (h := ?_) (hT := by decide) (e := by with_reducible assumption) .. | with_reducible apply Only.placeUnit | with_reducible apply Only.modGroup | with_reducible apply Only.setUnit | with_reducible apply Only.foldl | with_reducible apply Only.foldl_snd | with_reducible apply OnlyX.next | extract_lets | with_reducible refine Only.ite ?_ ?_ | split | decide
theorem execAdmissionRound_only (x0 : QuadId) (s : State) : OnlyX [.ports, .insts, .ctxs] s (execAdmissionRound x0 s) := by
  have h : Only [.ports, .insts, .ctxs] s s := Only.refl _ _
  unfold execAdmissionRound
  repeat' first | with_reducible assumption | intro _ | with_reducible apply Only.modInst | refine Only.admitWhile_eq (h := ?_) (hT := by decide) (e := by with_reducible assumption) .. | with_reducible apply Only.admitWhile | with_reducible apply Only.each | with_reducible apply Only.admitCmd | with_reducible apply Only.foldl | with_reducible apply Only.foldl_snd | with_reducible apply OnlyX.next | extract_lets | with_reducible refine Only.ite ?_ ?_ | split | decide
theorem execBindStop_only (x0 : Nat) (s : State) : OnlyX [.ports, .insts, .ctxs, .live, .jrn, .stops, .chans, .health, .out] s (execBindStop x0 s) := by
  have h : Only [.ports, .insts, .ctxs, .live, .jrn, .stops, .chans, .health, .out] s s := Only.refl _ _
  unfold execBindStop
  repeat' first | with_reducible assumption | intro _ | with_reducible apply Only.boundary | with_reducible apply Only.complete | with_reducible apply Only.logRec | with_reducible apply Only.logInst | with_reducible apply Only.awaitSeal | with_reducible apply Only.modStop | with_reducible apply Only.foldl | with_reducible apply Only.foldl_snd | with_reducible apply OnlyX.next | extract_lets | with_reducible refine Only.ite ?_ ?_ | split | decide
theorem execMcInvalidate_only (s : State) : OnlyX [.ports, .insts, .ctxs, .live, .jrn, .lines, .mc, .cw, .ops, .solves, .dies, .chanters, .stops, .chans, .ev, .health, .out] s (execMcInvalidate s) := by
  have h : Only [.ports, .insts, .ctxs, .live, .jrn, .lines, .mc, .cw, .ops, .solves, .dies, .chanters, .stops, .chans, .ev, .health, .out] s s := Only.refl _ _
  unfold execMcInvalidate
  repeat' first | with_reducible assumption | intro _ | with_reducible apply Only.maintCmd | with_reducible apply Only.foldl | with_reducible apply Only.foldl_snd | with_reducible apply OnlyX.next | extract_lets | with_reducible refine Only.ite ?_ ?_ | split | decide
theorem execGetLogUpdateState_only (x0 : Nat) (s : State) : OnlyX [.ports, .insts, .ctxs, .jrn, .chans, .health, .free, .out] s (execGetLogUpdateState x0 s) := by
  have h : Only [.ports, .insts, .ctxs, .jrn, .chans, .health, .free, .out] s s := Only.refl _ _
  unfold execGetLogUpdateState
  repeat' first | with_reducible assumption | intro _ | with_reducible apply Only.getLog | with_reducible apply Only.sendPage | with_reducible apply Only.foldl | with_reducible apply Only.foldl_snd | with_reducible apply OnlyX.next | extract_lets | with_reducible refine Only.ite ?_ ?_ | split | decide
theorem execProxyAdmin_only (x0 : Nat) (s : State) : OnlyX [.ports, .insts, .ctxs, .live, .jrn, .lines, .mc, .cache, .cw, .ops, .solves, .dies, .chanters, .stops, .chans, .ev, .health, .free, .out] s (execProxyAdmin x0 s) := by
  have h : Only [.ports, .insts, .ctxs, .live, .jrn, .lines, .mc, .cache, .cw, .ops, .solves, .dies, .chanters, .stops, .chans, .ev, .health, .free, .out] s s := Only.refl _ _
  unfold execProxyAdmin
  repeat' first | with_reducible assumption | intro _ | with_reducible apply Only.admin | with_reducible apply slotChecks_only | with_reducible apply Only.complete | with_reducible apply Only.deleteSq | with_reducible apply Only.createSq | with_reducible apply Only.deleteCq | with_reducible apply Only.createCq | with_reducible apply Only.proxyLog | with_reducible apply Only.proxyIdentify | with_reducible apply Only.proxyAbort | with_reducible apply Only.proxySet | with_reducible apply Only.proxyGet | with_reducible apply Only.foldl | with_reducible apply Only.foldl_snd | with_reducible apply OnlyX.next | extract_lets | with_reducible refine Only.ite ?_ ?_ | split | decide
theorem execLinkFrameReceived_only (x0 : LinkId) (x1 : LinkFrame) (s : State) : OnlyX [.modes, .pw, .part, .spares, .ports, .insts, .ctxs, .live, .jrn, .lines, .mc, .cache, .cw, .groups, .ops, .solves, .dies, .chanters, .links, .pods, .stops, .chans, .ev, .health, .out] s (execLinkFrameReceived x0 x1 s) := by
  have h : Only [.modes, .pw, .part, .spares, .ports, .insts, .ctxs, .live, .jrn, .lines, .mc, .cache, .cw, .groups, .ops, .solves, .dies, .chanters, .links, .pods, .stops, .chans, .ev, .health, .out] s s := Only.refl _ _
  unfold execLinkFrameReceived
  repeat' first | with_reducible assumption | intro _ | with_reducible apply Only.countFec | with_reducible apply Only.retry | with_reducible apply Only.nakFrame | with_reducible apply Only.modLink | with_reducible apply Only.violRecovery | with_reducible apply Only.podViolation | with_reducible apply Only.ackFrame | with_reducible apply Only.podMsg | with_reducible apply Only.podUnit | with_reducible apply Only.foldl | with_reducible apply Only.foldl_snd | with_reducible apply OnlyX.next | extract_lets | with_reducible refine Only.ite ?_ ?_ | split | decide
theorem execDmNop_only (x0 : MoverId) (x1 : ChanId) (s : State) : OnlyX [.ports, .insts, .ctxs, .nextCtx, .fetches, .jrn, .stops, .chans, .ev, .health, .out] s (execDmNop x0 x1 s) := by
  have h : Only [.ports, .insts, .ctxs, .nextCtx, .fetches, .jrn, .stops, .chans, .ev, .health, .out] s s := Only.refl _ _
  unfold execDmNop
  repeat' first | with_reducible assumption | intro _ | with_reducible apply Only.takeDesc | with_reducible apply Only.foldl | with_reducible apply Only.foldl_snd | with_reducible apply OnlyX.next | extract_lets | with_reducible refine Only.ite ?_ ?_ | split | decide
theorem execBrownoutWatchExit_only (s : State) : OnlyX [.pw, .cache, .ev] s (execBrownoutWatchExit s) := by
  have h : Only [.pw, .cache, .ev] s s := Only.refl _ _
  unfold execBrownoutWatchExit
  repeat' first | with_reducible assumption | intro _ | with_reducible apply Only.modPw | with_reducible apply Only.report | with_reducible apply Only.refreshHeld | with_reducible apply Only.modCache | with_reducible apply Only.foldl | with_reducible apply Only.foldl_snd | with_reducible apply OnlyX.next | extract_lets | with_reducible refine Only.ite ?_ ?_ | split | decide
theorem execFunctionLevelReset_only (x0 : PortId) (s : State) : OnlyX [.modes, .ports, .insts, .ctxs, .ended, .live, .jrn, .lines, .lends, .mc, .cache, .cw, .ops, .solves, .dies, .chanters, .stops, .chans, .ev, .health, .free, .out] s (execFunctionLevelReset x0 s) := by
  have h : Only [.modes, .ports, .insts, .ctxs, .ended, .live, .jrn, .lines, .lends, .mc, .cache, .cw, .ops, .solves, .dies, .chanters, .stops, .chans, .ev, .health, .free, .out] s s := Only.refl _ _
  unfold execFunctionLevelReset
  repeat' first | with_reducible assumption | intro _ | with_reducible apply Only.ctlReset | with_reducible apply Only.foldl | with_reducible apply Only.foldl_snd | with_reducible apply OnlyX.next | extract_lets | with_reducible refine Only.ite ?_ ?_ | split | decide
theorem execBaySwitchIbi_only (x0 : LinkId) (x1 : BayStatus) (s : State) : OnlyX [.modes, .spares, .ports, .insts, .ctxs, .live, .jrn, .lines, .mc, .cache, .cw, .groups, .ops, .solves, .dies, .chanters, .links, .pods, .stops, .chans, .ev, .health, .out] s (execBaySwitchIbi x0 x1 s) := by
  have h : Only [.modes, .spares, .ports, .insts, .ctxs, .live, .jrn, .lines, .mc, .cache, .cw, .groups, .ops, .solves, .dies, .chanters, .links, .pods, .stops, .chans, .ev, .health, .out] s s := Only.refl _ _
  unfold execBaySwitchIbi
  repeat' first | with_reducible assumption | intro _ | with_reducible apply Only.bayStatus | with_reducible apply Only.foldl | with_reducible apply Only.foldl_snd | with_reducible apply OnlyX.next | extract_lets | with_reducible refine Only.ite ?_ ?_ | split | decide
theorem execSqTailDoorbell_only (x0 : PortId) (x1 : DoorbellAt) (x2 : Bool) (x3 : Nat) (s : State) : OnlyX [.ports, .insts, .ctxs, .bells, .live, .jrn, .lines, .mc, .cache, .cw, .ops, .solves, .dies, .chanters, .stops, .chans, .ev, .health, .out] s (execSqTailDoorbell x0 x1 x2 x3 s) := by
  have h : Only [.ports, .insts, .ctxs, .bells, .live, .jrn, .lines, .mc, .cache, .cw, .ops, .solves, .dies, .chanters, .stops, .chans, .ev, .health, .out] s s := Only.refl _ _
  unfold execSqTailDoorbell
  repeat' first | with_reducible assumption | intro _ | with_reducible apply Only.doorbell | with_reducible apply Only.badDoorbell | with_reducible apply Only.modInst | with_reducible apply Only.foldl | with_reducible apply Only.foldl_snd | with_reducible apply OnlyX.next | (with_reducible apply Only.upd_bells; first | with_reducible assumption | with_reducible apply Only.doorbell | with_reducible apply Only.badDoorbell | with_reducible apply Only.modInst | with_reducible apply Only.foldl | with_reducible apply Only.foldl_snd | with_reducible apply OnlyX.next | with_reducible refine Only.ite ?_ ?_) | extract_lets | with_reducible refine Only.ite ?_ ?_ | split | decide
theorem execDmRingTailWrite_only (x0 : MoverId) (x1 : ChanId) (x2 : Nat) (x3 : List (Nat × MvDesc)) (s : State) : OnlyX [.ports, .insts, .ctxs, .jrn, .stops, .chans, .ev, .health, .out] s (execDmRingTailWrite x0 x1 x2 x3 s) := by
  have h : Only [.ports, .insts, .ctxs, .jrn, .stops, .chans, .ev, .health, .out] s s := Only.refl _ _
  unfold execDmRingTailWrite
  repeat' first | with_reducible assumption | intro _ | with_reducible apply Only.onChan | with_reducible apply Only.writeTail | with_reducible apply Only.foldl | with_reducible apply Only.foldl_snd | with_reducible apply OnlyX.next | extract_lets | with_reducible refine Only.ite ?_ ?_ | split | decide
theorem execChanterIssue_only (x0 : LinkId) (x1 : Fin 18) (s : State) : OnlyX [.ports, .insts, .ctxs, .live, .jrn, .lines, .mc, .groups, .ops, .solves, .dies, .chanters, .links, .stops, .chans, .ev, .health, .out] s (execChanterIssue x0 x1 s) := by
  have h : Only [.ports, .insts, .ctxs, .live, .jrn, .lines, .mc, .groups, .ops, .solves, .dies, .chanters, .links, .stops, .chans, .ev, .health, .out] s s := Only.refl _ _
  unfold execChanterIssue
  repeat' first | with_reducible assumption | intro _ | with_reducible apply Only.modDie | with_reducible apply Only.issue | with_reducible apply Only.resumeOp | with_reducible apply Only.considerSuspend | with_reducible apply Only.foldl | with_reducible apply Only.foldl_snd | with_reducible apply OnlyX.next | extract_lets | with_reducible refine Only.ite ?_ ?_ | split | decide
theorem execRegisterWrite_only (x0 : Writer) (x1 : Nat) (x2 : W64) (s : State) : OnlyX [.part, .keep, .flash, .format, .ports, .insts, .ctxs, .live, .jrn, .lines, .mc, .cache, .cw, .ops, .solves, .dies, .chanters, .pods, .stops, .chans, .ev, .health, .out] s (execRegisterWrite x0 x1 x2 s) := by
  have h : Only [.part, .keep, .flash, .format, .ports, .insts, .ctxs, .live, .jrn, .lines, .mc, .cache, .cw, .ops, .solves, .dies, .chanters, .pods, .stops, .chans, .ev, .health, .out] s s := Only.refl _ _
  unfold execRegisterWrite
  repeat' first | with_reducible assumption | intro _ | with_reducible apply Only.writeReg | with_reducible apply Only.foldl | with_reducible apply Only.foldl_snd | with_reducible apply OnlyX.next | extract_lets | with_reducible refine Only.ite ?_ ?_ | split | decide
theorem execMaintenanceHoldExpiry_only (s : State) : OnlyX [.now, .modes, .ports, .insts, .ctxs, .jrn, .stops, .chans, .ev, .health, .out] s (execMaintenanceHoldExpiry s) := by
  have h : Only [.now, .modes, .ports, .insts, .ctxs, .jrn, .stops, .chans, .ev, .health, .out] s s := Only.refl _ _
  unfold execMaintenanceHoldExpiry
  repeat' first | with_reducible assumption | intro _ | with_reducible apply Only.endHold | with_reducible apply Only.notBefore | with_reducible apply Only.foldl | with_reducible apply Only.foldl_snd | with_reducible apply OnlyX.next | extract_lets | with_reducible refine Only.ite ?_ ?_ | split | decide
theorem execSetFeaturesAsyncEventConfig_only (x0 : Nat) (s : State) : OnlyX [.ports, .insts, .ctxs, .jrn, .chans, .health, .out] s (execSetFeaturesAsyncEventConfig x0 s) := by
  have h : Only [.ports, .insts, .ctxs, .jrn, .chans, .health, .out] s s := Only.refl _ _
  unfold execSetFeaturesAsyncEventConfig
  repeat' first | with_reducible assumption | intro _ | with_reducible apply Only.keepFeature | with_reducible apply Only.foldl | with_reducible apply Only.foldl_snd | with_reducible apply OnlyX.next | extract_lets | with_reducible refine Only.ite ?_ ?_ | split | decide
theorem execFlashOperationComplete_only (x0 : Fin 2) (s : State) : OnlyX [.part, .keep, .flash, .ports, .insts, .ctxs, .jrn, .chans, .health, .out] s (execFlashOperationComplete x0 s) := by
  have h : Only [.part, .keep, .flash, .ports, .insts, .ctxs, .jrn, .chans, .health, .out] s s := Only.refl _ _
  unfold execFlashOperationComplete
  repeat' first | with_reducible assumption | intro _ | with_reducible apply Only.modBank | with_reducible apply Only.blockProgrammed | with_reducible apply Only.foldl | with_reducible apply Only.foldl_snd | with_reducible apply OnlyX.next | extract_lets | with_reducible refine Only.ite ?_ ?_ | split | decide
theorem execActivationServe_only (s : State) : OnlyX [.modes, .pw, .part, .keep, .otp, .flash, .format, .spares, .ports, .insts, .ctxs, .live, .jrn, .vault, .lines, .lends, .mc, .cache, .cw, .groups, .ops, .solves, .dies, .chanters, .links, .pods, .stops, .chans, .drones, .ev, .health, .free, .out] s (execActivationServe s) := by
  have h : Only [.modes, .pw, .part, .keep, .otp, .flash, .format, .spares, .ports, .insts, .ctxs, .live, .jrn, .vault, .lines, .lends, .mc, .cache, .cw, .groups, .ops, .solves, .dies, .chanters, .links, .pods, .stops, .chans, .drones, .ev, .health, .free, .out] s s := Only.refl _ _
  unfold execActivationServe
  repeat' first | with_reducible assumption | intro _ | with_reducible apply Only.spRestartComplete | with_reducible apply Only.keepWrite | with_reducible apply Only.modPart | with_reducible apply Only.modFlash | with_reducible apply Only.endDevEpoch | with_reducible apply Only.answerEpoch | with_reducible apply Only.reportResult | with_reducible apply Only.foldl | with_reducible apply Only.foldl_snd | with_reducible apply OnlyX.next | extract_lets | with_reducible refine Only.ite ?_ ?_ | split | decide | dsimp +zetaDelta only
theorem execBrownoutGraceExpiry_only (s : State) : OnlyX [.now, .cache] s (execBrownoutGraceExpiry s) := by
  have h : Only [.now, .cache] s s := Only.refl _ _
  unfold execBrownoutGraceExpiry
  repeat' first | with_reducible assumption | intro _ | with_reducible apply Only.refreshHeld | with_reducible apply Only.modCache | with_reducible apply Only.notBefore | with_reducible apply Only.foldl | with_reducible apply Only.foldl_snd | with_reducible apply OnlyX.next | extract_lets | with_reducible refine Only.ite ?_ ?_ | split | decide
theorem execCreateInstance_only (x0 : Nat) (s : State) : OnlyX [.ports, .insts, .ctxs, .live, .jrn, .mc, .chans, .ev, .health, .out] s (execCreateInstance x0 s) := by
  have h : Only [.ports, .insts, .ctxs, .live, .jrn, .mc, .chans, .ev, .health, .out] s s := Only.refl _ _
  unfold execCreateInstance
  repeat' first | with_reducible assumption | intro _ | with_reducible apply Only.boundary | with_reducible apply Only.complete | with_reducible apply Only.logInst | with_reducible apply Only.modJrn | with_reducible apply Only.modInst | with_reducible apply Only.awaitSeal | with_reducible apply Only.reviewRegions | with_reducible apply Only.foldl | with_reducible apply Only.foldl_snd | with_reducible apply OnlyX.next | extract_lets | with_reducible refine Only.ite ?_ ?_ | split | decide
theorem execJournalSealCommit_only (s : State) : OnlyX [.modes, .part, .ports, .insts, .ctxs, .live, .sealed, .jrn, .lines, .mc, .cache, .cw, .groups, .ops, .solves, .dies, .chanters, .stops, .chans, .ev, .health, .out] s (execJournalSealCommit s) := by
  have h : Only [.modes, .part, .ports, .insts, .ctxs, .live, .sealed, .jrn, .lines, .mc, .cache, .cw, .groups, .ops, .solves, .dies, .chanters, .stops, .chans, .ev, .health, .out] s s := Only.refl _ _
  unfold execJournalSealCommit
  repeat' first | with_reducible assumption | intro _ | with_reducible apply Only.commitSeal | with_reducible apply Only.foldl | with_reducible apply Only.foldl_snd | with_reducible apply OnlyX.next | extract_lets | with_reducible refine Only.ite ?_ ?_ | split | decide
theorem execGetChallenge_only (x0 : MbHdr) (x1 : BitVec 384) (s : State) : OnlyX [.modes, .pw, .part, .keep, .otp, .flash, .format, .spares, .ports, .insts, .ctxs, .live, .jrn, .vault, .lines, .lends, .mc, .cache, .cw, .groups, .ops, .solves, .dies, .chanters, .links, .pods, .stops, .chans, .drones, .ev, .health, .free, .out] s (execGetChallenge x0 x1 s) := by
  have h : Only [.modes, .pw, .part, .keep, .otp, .flash, .format, .spares, .ports, .insts, .ctxs, .live, .jrn, .vault, .lines, .lends, .mc, .cache, .cw, .groups, .ops, .solves, .dies, .chanters, .links, .pods, .stops, .chans, .drones, .ev, .health, .free, .out] s s := Only.refl _ _
  unfold execGetChallenge
  repeat' first | with_reducible assumption | intro _ | with_reducible apply Only.mailbox | with_reducible apply Only.foldl | with_reducible apply Only.foldl_snd | with_reducible apply OnlyX.next | extract_lets | with_reducible refine Only.ite ?_ ?_ | split | decide
theorem execBootFlashRead_only (x0 : Fin 2) (x1 : Nat) (s : State) : OnlyX [.ev, .free, .out] s (execBootFlashRead x0 x1 s) := by
  have h : Only [.ev, .free, .out] s s := Only.refl _ _
  unfold execBootFlashRead
  repeat' first | with_reducible assumption | intro _ | with_reducible apply Only.report | with_reducible apply Only.emit | with_reducible apply Only.drew | with_reducible apply Only.foldl | with_reducible apply Only.foldl_snd | with_reducible apply OnlyX.next | extract_lets | with_reducible refine Only.ite ?_ ?_ | split | decide
theorem execStopDataOut_only (x0 : StopId) (x1 : OutFrame) (s : State) : OnlyX [.ports, .insts, .ctxs, .live, .jrn, .lines, .mc, .cw, .ops, .solves, .dies, .chanters, .stops, .store, .chans, .ev, .health, .out] s (execStopDataOut x0 x1 s) := by
  have h : Only [.ports, .insts, .ctxs, .live, .jrn, .lines, .mc, .cw, .ops, .solves, .dies, .chanters, .stops, .store, .chans, .ev, .health, .out] s s := Only.refl _ _
  unfold execStopDataOut
  repeat' first | with_reducible assumption | intro _ | with_reducible apply Only.egress | with_reducible apply Only.ofCommand | with_reducible apply Only.xformOut | with_reducible apply Only.computeOut | with_reducible apply Only.foldl | with_reducible apply Only.foldl_snd | with_reducible apply OnlyX.next | extract_lets | with_reducible refine Only.ite ?_ ?_ | split | decide
theorem execPodPresenceChange_only (x0 : LinkId) (x1 : Bool) (x2 : Option PodDesc) (s : State) : OnlyX [.modes, .spares, .ports, .insts, .ctxs, .live, .jrn, .lines, .mc, .cache, .cw, .groups, .ops, .solves, .dies, .chanters, .links, .pods, .stops, .chans, .ev, .health, .out] s (execPodPresenceChange x0 x1 x2 s) := by
  have h : Only [.modes, .spares, .ports, .insts, .ctxs, .live, .jrn, .lines, .mc, .cache, .cw, .groups, .ops, .solves, .dies, .chanters, .links, .pods, .stops, .chans, .ev, .health, .out] s s := Only.refl _ _
  unfold execPodPresenceChange
  repeat' first | with_reducible assumption | intro _ | with_reducible apply Only.modPod | with_reducible apply Only.linkDead | with_reducible apply Only.retry | with_reducible apply Only.failPod | with_reducible apply Only.report | with_reducible apply Only.emit | with_reducible apply Only.modLink | with_reducible apply Only.foldl | with_reducible apply Only.foldl_snd | with_reducible apply OnlyX.next | extract_lets | with_reducible refine Only.ite ?_ ?_ | split | decide
theorem execMoverNoProgress_only (x0 : MoverId) (s : State) : OnlyX [.modes, .spares, .ports, .insts, .ctxs, .live, .jrn, .chans, .ev, .health, .out] s (execMoverNoProgress x0 s) := by
  have h : Only [.modes, .spares, .ports, .insts, .ctxs, .live, .jrn, .chans, .ev, .health, .out] s s := Only.refl _ _
  unfold execMoverNoProgress
  repeat' first | with_reducible assumption | intro _ | with_reducible apply Only.modSpares | with_reducible apply Only.each | with_reducible apply Only.modChan | with_reducible apply Only.packageSpare | with_reducible apply Only.report | with_reducible apply Only.haltChan | with_reducible apply Only.foldl | with_reducible apply Only.foldl_snd | with_reducible apply OnlyX.next | extract_lets | with_reducible refine Only.ite ?_ ?_ | split | decide
theorem execChallengeExpiry_only (x0 : Fin 8) (s : State) : OnlyX [.now, .part] s (execChallengeExpiry x0 s) := by
  have h : Only [.now, .part] s s := Only.refl _ _
  unfold execChallengeExpiry
  repeat' first | with_reducible assumption | intro _ | with_reducible apply Only.challengeExpiry | with_reducible apply Only.notBefore | with_reducible apply Only.foldl | with_reducible apply Only.foldl_snd | with_reducible apply OnlyX.next | extract_lets | with_reducible refine Only.ite ?_ ?_ | split | decide
theorem execKeepCellCheck_only (x0 : Nat) (s : State) : OnlyX [.modes, .part, .keep, .ports, .insts, .ctxs, .ev, .health, .out] s (execKeepCellCheck x0 s) := by
  have h : Only [.modes, .part, .keep, .ports, .insts, .ctxs, .ev, .health, .out] s s := Only.refl _ _
  unfold execKeepCellCheck
  repeat' first | with_reducible assumption | intro _ | with_reducible apply Only.cellCheck | with_reducible apply Only.foldl | with_reducible apply Only.foldl_snd | with_reducible apply OnlyX.next | extract_lets | with_reducible refine Only.ite ?_ ?_ | split | decide
theorem execBellowsSwitchConnect_only (x0 : Bool) (s : State) : OnlyX [.pw] s (execBellowsSwitchConnect x0 s) := by
  have h : Only [.pw] s s := Only.refl _ _
  unfold execBellowsSwitchConnect
  repeat' first | with_reducible assumption | intro _ | with_reducible apply Only.modPw | with_reducible apply Only.foldl | with_reducible apply Only.foldl_snd | with_reducible apply OnlyX.next | extract_lets | with_reducible refine Only.ite ?_ ?_ | split | decide
theorem execT1MissFillComplete_only (x0 : SliceId) (s : State) : OnlyX [.ports, .insts, .ctxs, .live, .jrn, .lines, .mc, .cw, .ops, .solves, .dies, .chanters, .stops, .chans, .ev, .health, .out] s (execT1MissFillComplete x0 s) := by
  have h : Only [.ports, .insts, .ctxs, .live, .jrn, .lines, .mc, .cw, .ops, .solves, .dies, .chanters, .stops, .chans, .ev, .health, .out] s s := Only.refl _ _
  unfold execT1MissFillComplete
  repeat' first | with_reducible assumption | intro _ | with_reducible apply Only.modSlice | with_reducible apply Only.retry | with_reducible apply Only.fill | with_reducible apply Only.park | with_reducible apply Only.countParks | with_reducible apply Only.foldl | with_reducible apply Only.foldl_snd | with_reducible apply OnlyX.next | extract_lets | with_reducible refine Only.ite ?_ ?_ | split | decide
theorem execGetLogModuleState_only (x0 : Nat) (s : State) : OnlyX [.ports, .insts, .ctxs, .jrn, .chans, .health, .free, .out] s (execGetLogModuleState x0 s) := by
  have h : Only [.ports, .insts, .ctxs, .jrn, .chans, .health, .free, .out] s s := Only.refl _ _
  unfold execGetLogModuleState
  repeat' first | with_reducible assumption | intro _ | with_reducible apply Only.getLog | with_reducible apply Only.modPort | with_reducible apply Only.sendPage | with_reducible apply Only.pageRead | with_reducible apply Only.foldl | with_reducible apply Only.foldl_snd | with_reducible apply OnlyX.next | extract_lets | with_reducible refine Only.ite ?_ ?_ | split | decide
theorem execGetLogEventJournal_only (x0 : Nat) (s : State) : OnlyX [.ports, .insts, .ctxs, .jrn, .chans, .health, .out] s (execGetLogEventJournal x0 s) := by
  have h : Only [.ports, .insts, .ctxs, .jrn, .chans, .health, .out] s s := Only.refl _ _
  unfold execGetLogEventJournal
  repeat' first | with_reducible assumption | intro _ | with_reducible apply Only.getLog | with_reducible apply Only.complete | with_reducible apply Only.toHost | with_reducible apply Only.foldl | with_reducible apply Only.foldl_snd | with_reducible apply OnlyX.next | extract_lets | with_reducible refine Only.ite ?_ ?_ | split | decide
theorem execFlushDumpComplete_only (s : State) : OnlyX [.modes, .pw, .part, .keep, .flash, .spares, .ports, .insts, .ctxs, .live, .jrn, .vault, .lines, .lends, .mc, .cache, .cw, .groups, .ops, .solves, .dies, .chanters, .links, .pods, .stops, .chans, .drones, .ev, .health, .out] s (execFlushDumpComplete s) := by
  have h : Only [.modes, .pw, .part, .keep, .flash, .spares, .ports, .insts, .ctxs, .live, .jrn, .vault, .lines, .lends, .mc, .cache, .cw, .groups, .ops, .solves, .dies, .chanters, .links, .pods, .stops, .chans, .drones, .ev, .health, .out] s s := Only.refl _ _
  unfold execFlushDumpComplete
  repeat' first | with_reducible assumption | intro _ | with_reducible apply Only.each | with_reducible apply Only.dumpWithout | with_reducible apply Only.keepWrite | with_reducible apply Only.modModes | with_reducible apply Only.modPart | with_reducible apply Only.endFlush | with_reducible apply Only.foldl | with_reducible apply Only.foldl_snd | with_reducible apply OnlyX.next | (with_reducible apply Only.upd_vault; first | with_reducible assumption | with_reducible apply Only.each | with_reducible apply Only.dumpWithout | with_reducible apply Only.keepWrite | with_reducible apply Only.modModes | with_reducible apply Only.modPart | with_reducible apply Only.endFlush | with_reducible apply Only.foldl | with_reducible apply Only.foldl_snd | with_reducible apply OnlyX.next | with_reducible refine Only.ite ?_ ?_) | extract_lets | with_reducible refine Only.ite ?_ ?_ | split | decide
theorem execWearLevelling_only (x0 : Fin 16) (x1 : Fin 16) (s : State) : OnlyX [.ports, .insts, .ctxs, .live, .jrn, .lines, .mc, .ops, .solves, .dies, .chanters, .stops, .chans, .ev, .health, .out] s (execWearLevelling x0 x1 s) := by
  have h : Only [.ports, .insts, .ctxs, .live, .jrn, .lines, .mc, .ops, .solves, .dies, .chanters, .stops, .chans, .ev, .health, .out] s s := Only.refl _ _
  unfold execWearLevelling
  repeat' first | with_reducible assumption | intro _ | with_reducible apply Only.startReloc | with_reducible apply Only.foldl | with_reducible apply Only.foldl_snd | with_reducible apply OnlyX.next | extract_lets | with_reducible refine Only.ite ?_ ?_ | split | decide
theorem execFormatNvmAll_only (x0 : Nat) (s : State) : OnlyX [.modes, .ports, .insts, .ctxs, .jrn, .chans, .health, .out] s (execFormatNvmAll x0 s) := by
  have h : Only [.modes, .ports, .insts, .ctxs, .jrn, .chans, .health, .out] s s := Only.refl _ _
  unfold execFormatNvmAll
  repeat' first | with_reducible assumption | intro _ | with_reducible apply Only.admin | with_reducible apply Only.completeBad | with_reducible apply Only.askEpoch | with_reducible apply Only.foldl | with_reducible apply Only.foldl_snd | with_reducible apply OnlyX.next | extract_lets | with_reducible refine Only.ite ?_ ?_ | split | decide
theorem execMemoryScrub_only (x0 : ScrubHit) (s : State) : OnlyX [.spares, .ports, .insts, .ctxs, .live, .jrn, .lines, .mc, .cache, .chans, .ev, .health, .out] s (execMemoryScrub x0 s) := by
  have h : Only [.spares, .ports, .insts, .ctxs, .live, .jrn, .lines, .mc, .cache, .chans, .ev, .health, .out] s s := Only.refl _ _
  unfold execMemoryScrub
  repeat' first | with_reducible assumption | intro _ | with_reducible apply Only.modSpares | with_reducible apply Only.report | with_reducible apply Only.logRec | with_reducible apply Only.modCache | with_reducible apply Only.modLine | with_reducible apply Only.wayError | with_reducible apply Only.modCtx | with_reducible apply Only.complete | with_reducible apply Only.foldl | with_reducible apply Only.foldl_snd | with_reducible apply OnlyX.next | extract_lets | with_reducible refine Only.ite ?_ ?_ | split | decide
theorem execChangeShare_only (x0 : Nat) (s : State) : OnlyX [.ports, .insts, .ctxs, .jrn, .chans, .health, .out] s (execChangeShare x0 s) := by
  have h : Only [.ports, .insts, .ctxs, .jrn, .chans, .health, .out] s s := Only.refl _ _
  unfold execChangeShare
  repeat' first | with_reducible assumption | intro _ | with_reducible apply Only.boundary | with_reducible apply Only.startChange | with_reducible apply Only.foldl | with_reducible apply Only.foldl_snd | with_reducible apply OnlyX.next | extract_lets | with_reducible refine Only.ite ?_ ?_ | split | decide
theorem execD3hotEntry_only (x0 : PortId) (s : State) : OnlyX [.ports] s (execD3hotEntry x0 s) := by
  have h : Only [.ports] s s := Only.refl _ _
  unfold execD3hotEntry
  repeat' first | with_reducible assumption | intro _ | with_reducible apply Only.modPort | with_reducible apply Only.foldl | with_reducible apply Only.foldl_snd | with_reducible apply OnlyX.next | extract_lets | with_reducible refine Only.ite ?_ ?_ | split | decide
theorem execReadIdentity_only (x0 : MbHdr) (s : State) : OnlyX [.modes, .pw, .part, .keep, .otp, .flash, .format, .spares, .ports, .insts, .ctxs, .live, .jrn, .vault, .lines, .lends, .mc, .cache, .cw, .groups, .ops, .solves, .dies, .chanters, .links, .pods, .stops, .chans, .drones, .ev, .health, .free, .out] s (execReadIdentity x0 s) := by
  have h : Only [.modes, .pw, .part, .keep, .otp, .flash, .format, .spares, .ports, .insts, .ctxs, .live, .jrn, .vault, .lines, .lends, .mc, .cache, .cw, .groups, .ops, .solves, .dies, .chanters, .links, .pods, .stops, .chans, .drones, .ev, .health, .free, .out] s s := Only.refl _ _
  unfold execReadIdentity
  repeat' first | with_reducible assumption | intro _ | with_reducible apply Only.mailbox | with_reducible apply Only.foldl | with_reducible apply Only.foldl_snd | with_reducible apply OnlyX.next | extract_lets | with_reducible refine Only.ite ?_ ?_ | split | decide
theorem execSetFeaturesErrorRecovery_only (x0 : Nat) (s : State) : OnlyX [.ports, .insts, .ctxs, .jrn, .chans, .health, .out] s (execSetFeaturesErrorRecovery x0 s) := by
  have h : Only [.ports, .insts, .ctxs, .jrn, .chans, .health, .out] s s := Only.refl _ _
  unfold execSetFeaturesErrorRecovery
  repeat' first | with_reducible assumption | intro _ | with_reducible apply Only.setFeature | with_reducible apply Only.complete | with_reducible apply Only.keepFeature | with_reducible apply Only.foldl | with_reducible apply Only.foldl_snd | with_reducible apply OnlyX.next | extract_lets | with_reducible refine Only.ite ?_ ?_ | split | decide
theorem execLoadStopImageDiscard_only (x0 : Nat) (s : State) : OnlyX [.part, .keep, .flash, .ports, .insts, .ctxs, .jrn, .stops, .chans, .health, .out] s (execLoadStopImageDiscard x0 s) := by
  have h : Only [.part, .keep, .flash, .ports, .insts, .ctxs, .jrn, .stops, .chans, .health, .out] s s := Only.refl _ _
  unfold execLoadStopImageDiscard
  repeat' first | with_reducible assumption | intro _ | with_reducible apply Only.loadStop | with_reducible apply Only.abandonPackage | with_reducible apply Only.complete | with_reducible apply Only.modStop | with_reducible apply Only.foldl | with_reducible apply Only.foldl_snd | with_reducible apply OnlyX.next | extract_lets | with_reducible refine Only.ite ?_ ?_ | split | decide
theorem execGetLogSelfTest_only (x0 : Nat) (s : State) : OnlyX [.ports, .insts, .ctxs, .jrn, .chans, .health, .free, .out] s (execGetLogSelfTest x0 s) := by
  have h : Only [.ports, .insts, .ctxs, .jrn, .chans, .health, .free, .out] s s := Only.refl _ _
  unfold execGetLogSelfTest
  repeat' first | with_reducible assumption | intro _ | with_reducible apply Only.getLog | with_reducible apply Only.sendPage | with_reducible apply Only.foldl | with_reducible apply Only.foldl_snd | with_reducible apply OnlyX.next | extract_lets | with_reducible refine Only.ite ?_ ?_ | split | decide
theorem execPowerStateEntryStart_only (s : State) : OnlyX [.modes, .live, .jrn, .cache, .groups, .ops, .health] s (execPowerStateEntryStart s) := by
  have h : Only [.modes, .live, .jrn, .cache, .groups, .ops, .health] s s := Only.refl _ _
  unfold execPowerStateEntryStart
  repeat' first | with_reducible assumption | intro _ | with_reducible apply Only.modModes | with_reducible apply Only.each | with_reducible apply Only.closeStripe | with_reducible apply Only.foldl | with_reducible apply Only.foldl_snd | with_reducible apply OnlyX.next | extract_lets | with_reducible refine Only.ite ?_ ?_ | split | decide
theorem execBrownoutWatchEntry_only (s : State) : OnlyX [.pw, .cache, .ev] s (execBrownoutWatchEntry s) := by
  have h : Only [.pw, .cache, .ev] s s := Only.refl _ _
  unfold execBrownoutWatchEntry
  repeat' first | with_reducible assumption | intro _ | with_reducible apply Only.modPw | with_reducible apply Only.report | with_reducible apply Only.refreshHeld | with_reducible apply Only.modCache | with_reducible apply Only.foldl | with_reducible apply Only.foldl_snd | with_reducible apply OnlyX.next | extract_lets | with_reducible refine Only.ite ?_ ?_ | split | decide
theorem execWriteCommit_only (x0 : Nat) (x1 : List (List Byte)) (s : State) : OnlyX [.ports, .insts, .ctxs, .live, .jrn, .lines, .mc, .cw, .ops, .solves, .dies, .chanters, .stops, .chans, .ev, .health, .out] s (execWriteCommit x0 x1 s) := by
  have h : Only [.ports, .insts, .ctxs, .live, .jrn, .lines, .mc, .cw, .ops, .solves, .dies, .chanters, .stops, .chans, .ev, .health, .out] s s := Only.refl _ _
  unfold execWriteCommit
  repeat' first | with_reducible assumption | intro _ | with_reducible apply Only.retry | with_reducible apply Only.streamWrite | with_reducible apply Only.modCtx | with_reducible apply Only.foldl | with_reducible apply Only.foldl_snd | with_reducible apply OnlyX.next | extract_lets | with_reducible refine Only.ite ?_ ?_ | split | decide
theorem execCompute_only (x0 : Nat) (s : State) : OnlyX [.ports, .insts, .ctxs, .live, .jrn, .lines, .mc, .ops, .solves, .dies, .chanters, .stops, .chans, .ev, .health, .out] s (execCompute x0 s) := by
  have h : Only [.ports, .insts, .ctxs, .live, .jrn, .lines, .mc, .ops, .solves, .dies, .chanters, .stops, .chans, .ev, .health, .out] s s := Only.refl _ _
  unfold execCompute
  repeat' first | with_reducible assumption | intro _ | with_reducible apply Only.io | with_reducible apply Only.complete | with_reducible apply Only.beginRead | with_reducible apply Only.foldl | with_reducible apply Only.foldl_snd | with_reducible apply OnlyX.next | extract_lets | with_reducible refine Only.ite ?_ ?_ | split | decide
theorem execLinkReturnToL0_only (x0 : PortId) (s : State) : OnlyX [.ports, .insts, .ctxs, .jrn, .chans, .health, .out] s (execLinkReturnToL0 x0 s) := by
  have h : Only [.ports, .insts, .ctxs, .jrn, .chans, .health, .out] s s := Only.refl _ _
  unfold execLinkReturnToL0
  repeat' first | with_reducible assumption | intro _ | with_reducible apply Only.sendPending | with_reducible apply Only.release | with_reducible apply Only.modPort | with_reducible apply Only.foldl | with_reducible apply Only.foldl_snd | with_reducible apply OnlyX.next | extract_lets | with_reducible refine Only.ite ?_ ?_ | split | decide
theorem execSetThreshOvr_only (x0 : MbHdr) (x1 : W64) (s : State) : OnlyX [.modes, .pw, .part, .keep, .otp, .flash, .format, .spares, .ports, .insts, .ctxs, .live, .jrn, .vault, .lines, .lends, .mc, .cache, .cw, .groups, .ops, .solves, .dies, .chanters, .links, .pods, .stops, .chans, .drones, .ev, .health, .free, .out] s (execSetThreshOvr x0 x1 s) := by
  have h : Only [.modes, .pw, .part, .keep, .otp, .flash, .format, .spares, .ports, .insts, .ctxs, .live, .jrn, .vault, .lines, .lends, .mc, .cache, .cw, .groups, .ops, .solves, .dies, .chanters, .links, .pods, .stops, .chans, .drones, .ev, .health, .free, .out] s s := Only.refl _ _
  unfold execSetThreshOvr
  repeat' first | with_reducible assumption | intro _ | with_reducible apply Only.mailbox | with_reducible apply Only.foldl | with_reducible apply Only.foldl_snd | with_reducible apply OnlyX.next | extract_lets | with_reducible refine Only.ite ?_ ?_ | split | decide
theorem execHbmUncorrectableError_only (x0 : List Nat) (x1 : Nat) (s : State) : OnlyX [.ports, .insts, .ctxs, .live, .jrn, .lines, .mc, .cache, .cw, .ops, .solves, .dies, .chanters, .stops, .chans, .ev, .health, .out] s (execHbmUncorrectableError x0 x1 s) := by
  have h : Only [.ports, .insts, .ctxs, .live, .jrn, .lines, .mc, .cache, .cw, .ops, .solves, .dies, .chanters, .stops, .chans, .ev, .health, .out] s s := Only.refl _ _
  unfold execHbmUncorrectableError
  repeat' first | with_reducible assumption | intro _ | with_reducible apply Only.modCache | with_reducible apply Only.retry | with_reducible apply Only.each | with_reducible apply Only.setCodeword | with_reducible apply Only.markUnit | with_reducible apply Only.deferError | with_reducible apply Only.complete | with_reducible apply Only.dropOps | with_reducible apply Only.leaveStop | with_reducible apply Only.foldl | with_reducible apply Only.foldl_snd | with_reducible apply OnlyX.next | extract_lets | with_reducible refine Only.ite ?_ ?_ | split | decide
theorem execDestroyInstance_only (x0 : Nat) (s : State) : OnlyX [.ports, .insts, .ctxs, .ended, .live, .jrn, .lines, .mc, .cache, .cw, .ops, .solves, .dies, .chanters, .stops, .chans, .ev, .health, .free, .out] s (execDestroyInstance x0 s) := by
  have h : Only [.ports, .insts, .ctxs, .ended, .live, .jrn, .lines, .mc, .cache, .cw, .ops, .solves, .dies, .chanters, .stops, .chans, .ev, .health, .free, .out] s s := Only.refl _ _
  unfold execDestroyInstance
  repeat' first | with_reducible assumption | intro _ | with_reducible apply Only.slotCommand | with_reducible apply Only.resetInst | with_reducible apply Only.dropChange | with_reducible apply Only.modCtx | with_reducible apply Only.clearStops | with_reducible apply Only.unlockWays | with_reducible apply Only.logInst | with_reducible apply Only.awaitSeal | with_reducible apply Only.modInst | with_reducible apply Only.reviewRegions | with_reducible apply Only.each | with_reducible apply Only.complete | with_reducible apply Only.foldl | with_reducible apply Only.foldl_snd | with_reducible apply OnlyX.next | extract_lets | with_reducible refine Only.ite ?_ ?_ | split | decide
theorem execCoreHeartbeatMiss_only (x0 : QuadId) (x1 : Fin 16) (s : State) : OnlyX [.modes, .spares, .ports, .insts, .ctxs, .live, .jrn, .ev, .health, .out] s (execCoreHeartbeatMiss x0 x1 s) := by
  have h : Only [.modes, .spares, .ports, .insts, .ctxs, .live, .jrn, .ev, .health, .out] s s := Only.refl _ _
  unfold execCoreHeartbeatMiss
  repeat' first | with_reducible assumption | intro _ | with_reducible apply Only.modSpares | with_reducible apply Only.packageSpare | with_reducible apply Only.report | with_reducible apply Only.foldl | with_reducible apply Only.foldl_snd | with_reducible apply OnlyX.next | extract_lets | with_reducible refine Only.ite ?_ ?_ | split | decide
theorem execLdpcDecodeTimeout_only (x0 : QuadId) (s : State) : OnlyX [.now, .modes, .spares, .ports, .insts, .ctxs, .live, .jrn, .ops, .ev, .health, .out] s (execLdpcDecodeTimeout x0 s) := by
  have h : Only [.now, .modes, .spares, .ports, .insts, .ctxs, .live, .jrn, .ops, .ev, .health, .out] s s := Only.refl _ _
  unfold execLdpcDecodeTimeout
  repeat' first | with_reducible assumption | intro _ | with_reducible apply Only.notBefore | with_reducible apply Only.modOp | with_reducible apply Only.modSpares | with_reducible apply Only.packageSpare | with_reducible apply Only.reviewEngines | with_reducible apply Only.report | with_reducible apply Only.foldl | with_reducible apply Only.foldl_snd | with_reducible apply OnlyX.next | extract_lets | with_reducible refine Only.ite ?_ ?_ | split | decide
theorem execExtendedSelfTestEnd_only (x0 : Nat) (s : State) : OnlyX [.modes, .ports, .insts, .ctxs, .jrn, .stops, .chans, .ev, .health, .out] s (execExtendedSelfTestEnd x0 s) := by
  have h : Only [.modes, .ports, .insts, .ctxs, .jrn, .stops, .chans, .ev, .health, .out] s s := Only.refl _ _
  unfold execExtendedSelfTestEnd
  repeat' first | with_reducible assumption | intro _ | with_reducible apply Only.endTest | with_reducible apply Only.foldl | with_reducible apply Only.foldl_snd | with_reducible apply OnlyX.next | extract_lets | with_reducible refine Only.ite ?_ ?_ | split | decide
theorem execFecLockLoss_only (x0 : LinkId) (s : State) : OnlyX [.modes, .spares, .ports, .insts, .ctxs, .live, .jrn, .lines, .mc, .cache, .cw, .groups, .ops, .solves, .dies, .chanters, .links, .pods, .stops, .chans, .ev, .health, .out] s (execFecLockLoss x0 s) := by
  have h : Only [.modes, .spares, .ports, .insts, .ctxs, .live, .jrn, .lines, .mc, .cache, .cw, .groups, .ops, .solves, .dies, .chanters, .links, .pods, .stops, .chans, .ev, .health, .out] s s := Only.refl _ _
  unfold execFecLockLoss
  repeat' first | with_reducible assumption | intro _ | with_reducible apply Only.startRecovery | with_reducible apply Only.foldl | with_reducible apply Only.foldl_snd | with_reducible apply OnlyX.next | extract_lets | with_reducible refine Only.ite ?_ ?_ | split | decide
theorem execSpareMediaVerify_only (x0 : LinkId) (x1 : Fin 18) (x2 : Bool) (x3 : List Nat) (s : State) : OnlyX [.modes, .spares, .ports, .insts, .ctxs, .live, .jrn, .lines, .mc, .cache, .cw, .groups, .ops, .solves, .dies, .chanters, .links, .pods, .stops, .chans, .ev, .health, .out] s (execSpareMediaVerify x0 x1 x2 x3 s) := by
  have h : Only [.modes, .spares, .ports, .insts, .ctxs, .live, .jrn, .lines, .mc, .cache, .cw, .groups, .ops, .solves, .dies, .chanters, .links, .pods, .stops, .chans, .ev, .health, .out] s s := Only.refl _ _
  unfold execSpareMediaVerify
  repeat' first | with_reducible assumption | intro _ | with_reducible apply Only.failSpareDie | with_reducible apply Only.modDie | with_reducible apply Only.modPod | with_reducible apply Only.countPods | with_reducible apply Only.foldl | with_reducible apply Only.foldl_snd | with_reducible apply OnlyX.next | extract_lets | with_reducible refine Only.ite ?_ ?_ | split | decide
theorem execDmBurstComplete_only (x0 : MoverId) (x1 : ChanId) (x2 : List Byte) (x3 : BurstEnd) (s : State) : OnlyX [.ports, .insts, .ctxs, .nextCtx, .fetches, .jrn, .stops, .chans, .ev, .health, .out] s (execDmBurstComplete x0 x1 x2 x3 s) := by
  have h : Only [.ports, .insts, .ctxs, .nextCtx, .fetches, .jrn, .stops, .chans, .ev, .health, .out] s s := Only.refl _ _
  unfold execDmBurstComplete
  repeat' first | with_reducible assumption | intro _ | with_reducible apply Only.moverCommand | with_reducible apply Only.afterBurst | with_reducible apply Only.markServed | with_reducible apply Only.endDesc | with_reducible apply Only.writeBurst | with_reducible apply Only.modChan | with_reducible apply Only.foldl | with_reducible apply Only.foldl_snd | with_reducible apply OnlyX.next | extract_lets | with_reducible refine Only.ite ?_ ?_ | split | decide
theorem execRetentionRefresh_only (x0 : Fin 16) (s : State) : OnlyX [.ports, .insts, .ctxs, .live, .jrn, .lines, .mc, .ops, .solves, .dies, .chanters, .stops, .chans, .ev, .health, .out] s (execRetentionRefresh x0 s) := by
  have h : Only [.ports, .insts, .ctxs, .live, .jrn, .lines, .mc, .ops, .solves, .dies, .chanters, .stops, .chans, .ev, .health, .out] s s := Only.refl _ _
  unfold execRetentionRefresh
  repeat' first | with_reducible assumption | intro _ | with_reducible apply Only.startReloc | with_reducible apply Only.modHealth | with_reducible apply Only.foldl | with_reducible apply Only.foldl_snd | with_reducible apply OnlyX.next | extract_lets | with_reducible refine Only.ite ?_ ?_ | split | decide
theorem execWrite_only (x0 : Nat) (s : State) : OnlyX [.ports, .insts, .ctxs, .jrn, .cache, .chans, .health, .out] s (execWrite x0 s) := by
  have h : Only [.ports, .insts, .ctxs, .jrn, .cache, .chans, .health, .out] s s := Only.refl _ _
  unfold execWrite
  repeat' first | with_reducible assumption | intro _ | with_reducible apply Only.io | with_reducible apply Only.complete | with_reducible apply Only.askSpace | with_reducible apply Only.foldl | with_reducible apply Only.foldl_snd | with_reducible apply OnlyX.next | extract_lets | with_reducible refine Only.ite ?_ ?_ | split | decide
theorem execStripeIdleClose_only (x0 : Nat) (s : State) : OnlyX [.now, .live, .jrn, .cache, .groups, .ops, .health] s (execStripeIdleClose x0 s) := by
  have h : Only [.now, .live, .jrn, .cache, .groups, .ops, .health] s s := Only.refl _ _
  unfold execStripeIdleClose
  repeat' first | with_reducible assumption | intro _ | with_reducible apply Only.refreshHeld | with_reducible apply Only.closeStripe | with_reducible apply Only.notBefore | with_reducible apply Only.foldl | with_reducible apply Only.foldl_snd | with_reducible apply OnlyX.next | extract_lets | with_reducible refine Only.ite ?_ ?_ | split | decide
theorem execShutdownComplete_only (x0 : PortId) (s : State) : OnlyX [.modes, .part, .ports, .insts, .ctxs, .live, .sealed, .jrn, .lines, .mc, .cache, .cw, .groups, .ops, .solves, .dies, .chanters, .stops, .chans, .ev, .health, .out] s (execShutdownComplete x0 s) := by
  have h : Only [.modes, .part, .ports, .insts, .ctxs, .live, .sealed, .jrn, .lines, .mc, .cache, .cw, .groups, .ops, .solves, .dies, .chanters, .stops, .chans, .ev, .health, .out] s s := Only.refl _ _
  unfold execShutdownComplete
  repeat' first | with_reducible assumption | intro _ | with_reducible apply Only.modPort | with_reducible apply Only.sealNow | with_reducible apply Only.modJrn | with_reducible apply Only.writeRoot | with_reducible apply Only.foldl | with_reducible apply Only.foldl_snd | with_reducible apply OnlyX.next | extract_lets | with_reducible refine Only.ite ?_ ?_ | split | decide
theorem execSetFeaturesTempThreshold_only (x0 : Nat) (s : State) : OnlyX [.ports, .insts, .ctxs, .jrn, .chans, .health, .out] s (execSetFeaturesTempThreshold x0 s) := by
  have h : Only [.ports, .insts, .ctxs, .jrn, .chans, .health, .out] s s := Only.refl _ _
  unfold execSetFeaturesTempThreshold
  repeat' first | with_reducible assumption | intro _ | with_reducible apply Only.setFeature | with_reducible apply Only.completeBad | with_reducible apply Only.complete | with_reducible apply Only.postTemp | with_reducible apply Only.modPort | with_reducible apply Only.foldl | with_reducible apply Only.foldl_snd | with_reducible apply OnlyX.next | extract_lets | with_reducible refine Only.ite ?_ ?_ | split | decide
theorem execShareDrainEnd_only (x0 : PortId) (x1 : LocalId) (s : State) : OnlyX [.insts, .ctxs, .live, .jrn, .mc, .stops, .ev] s (execShareDrainEnd x0 x1 s) := by
  have h : Only [.insts, .ctxs, .live, .jrn, .mc, .stops, .ev] s s := Only.refl _ _
  unfold execShareDrainEnd
  repeat' first | with_reducible assumption | intro _ | with_reducible apply Only.reviewRegions | with_reducible apply Only.applyChange | with_reducible apply Only.foldl | with_reducible apply Only.foldl_snd | with_reducible apply OnlyX.next | extract_lets | with_reducible refine Only.ite ?_ ?_ | split | decide
theorem execAsyncEventRequest_only (x0 : Nat) (s : State) : OnlyX [.ports, .insts, .ctxs, .jrn, .chans, .health, .out] s (execAsyncEventRequest x0 s) := by
  have h : Only [.ports, .insts, .ctxs, .jrn, .chans, .health, .out] s s := Only.refl _ _
  unfold execAsyncEventRequest
  repeat' first | with_reducible assumption | intro _ | with_reducible apply Only.admin | with_reducible apply Only.complete | with_reducible apply Only.modPort | with_reducible apply Only.dropCtx | with_reducible apply Only.answerAer | with_reducible apply Only.foldl | with_reducible apply Only.foldl_snd | with_reducible apply OnlyX.next | extract_lets | with_reducible refine Only.ite ?_ ?_ | split | decide
theorem execFirmwareCommitActivate_only (x0 : Nat) (s : State) : OnlyX [.modes, .part, .keep, .flash, .ports, .insts, .ctxs, .jrn, .chans, .health, .out] s (execFirmwareCommitActivate x0 s) := by
  have h : Only [.modes, .part, .keep, .flash, .ports, .insts, .ctxs, .jrn, .chans, .health, .out] s s := Only.refl _ _
  unfold execFirmwareCommitActivate
  repeat' first | with_reducible assumption | intro _ | with_reducible apply Only.commitOf | with_reducible apply Only.askEpoch | with_reducible apply Only.complete | with_reducible apply Only.commitPackage | with_reducible apply Only.foldl | with_reducible apply Only.foldl_snd | with_reducible apply OnlyX.next | extract_lets | with_reducible refine Only.ite ?_ ?_ | split | decide
theorem execCacheSpaceGrant_only (s : State) : OnlyX [.ports, .insts, .ctxs, .live, .jrn, .lines, .mc, .cache, .cw, .groups, .ops, .solves, .dies, .chanters, .stops, .chans, .ev, .health, .out] s (execCacheSpaceGrant s) := by
  have h : Only [.ports, .insts, .ctxs, .live, .jrn, .lines, .mc, .cache, .cw, .groups, .ops, .solves, .dies, .chanters, .stops, .chans, .ev, .health, .out] s s := Only.refl _ _
  unfold execCacheSpaceGrant
  repeat' first | with_reducible assumption | intro _ | with_reducible apply Only.refreshHeld | with_reducible apply Only.grantAll | with_reducible apply Only.foldl | with_reducible apply Only.foldl_snd | with_reducible apply OnlyX.next | extract_lets | with_reducible refine Only.ite ?_ ?_ | split | decide
theorem execMcMaintDone_only (s : State) : OnlyX [.ports, .insts, .ctxs, .live, .jrn, .lines, .mc, .cw, .ops, .solves, .dies, .chanters, .stops, .chans, .ev, .health, .out] s (execMcMaintDone s) := by
  have h : Only [.ports, .insts, .ctxs, .live, .jrn, .lines, .mc, .cw, .ops, .solves, .dies, .chanters, .stops, .chans, .ev, .health, .out] s s := Only.refl _ _
  unfold execMcMaintDone
  repeat' first | with_reducible assumption | intro _ | with_reducible apply Only.nextMaint | with_reducible apply Only.modMc | with_reducible apply Only.foldl | with_reducible apply Only.foldl_snd | with_reducible apply OnlyX.next | extract_lets | with_reducible refine Only.ite ?_ ?_ | split | decide
theorem execModuleResetRelease_only (s : State) : OnlyX [.modes, .pw, .part, .keep, .flash, .spares, .ports, .insts, .ctxs, .live, .jrn, .lines, .lends, .mc, .cache, .cw, .groups, .ops, .solves, .dies, .chanters, .links, .pods, .stops, .chans, .drones, .ev, .health] s (execModuleResetRelease s) := by
  have h : Only [.modes, .pw, .part, .keep, .flash, .spares, .ports, .insts, .ctxs, .live, .jrn, .lines, .lends, .mc, .cache, .cw, .groups, .ops, .solves, .dies, .chanters, .links, .pods, .stops, .chans, .drones, .ev, .health] s s := Only.refl _ _
  unfold execModuleResetRelease
  repeat' first | with_reducible assumption | intro _ | with_reducible apply Only.modModes | with_reducible apply Only.startBringup | with_reducible apply Only.foldl | with_reducible apply Only.foldl_snd | with_reducible apply OnlyX.next | extract_lets | with_reducible refine Only.ite ?_ ?_ | split | decide
theorem execMapFetchComplete_only (x0 : Nat) (x1 : FetchedLine) (s : State) : OnlyX [.ports, .insts, .ctxs, .live, .jrn, .lines, .mc, .cw, .ops, .solves, .dies, .chanters, .stops, .chans, .ev, .health, .out] s (execMapFetchComplete x0 x1 s) := by
  have h : Only [.ports, .insts, .ctxs, .live, .jrn, .lines, .mc, .cw, .ops, .solves, .dies, .chanters, .stops, .chans, .ev, .health, .out] s s := Only.refl _ _
  unfold execMapFetchComplete
  repeat' first | with_reducible assumption | intro _ | with_reducible apply Only.fetchOver | with_reducible apply Only.toT3 | with_reducible apply Only.installLine | with_reducible apply Only.foldl | with_reducible apply Only.foldl_snd | with_reducible apply OnlyX.next | extract_lets | with_reducible refine Only.ite ?_ ?_ | split | decide
theorem execTrialAutoConfirm_only (s : State) : OnlyX [.now, .part, .keep, .flash, .ev] s (execTrialAutoConfirm s) := by
  have h : Only [.now, .part, .keep, .flash, .ev] s s := Only.refl _ _
  unfold execTrialAutoConfirm
  repeat' first | with_reducible assumption | intro _ | with_reducible apply Only.confirmTrial | with_reducible apply Only.notBefore | with_reducible apply Only.foldl | with_reducible apply Only.foldl_snd | with_reducible apply OnlyX.next | extract_lets | with_reducible refine Only.ite ?_ ?_ | split | decide
theorem execDeviceSelfTestAbort_only (x0 : Nat) (s : State) : OnlyX [.modes, .ports, .insts, .ctxs, .jrn, .stops, .chans, .ev, .health, .out] s (execDeviceSelfTestAbort x0 s) := by
  have h : Only [.modes, .ports, .insts, .ctxs, .jrn, .stops, .chans, .ev, .health, .out] s s := Only.refl _ _
  unfold execDeviceSelfTestAbort
  repeat' first | with_reducible assumption | intro _ | with_reducible apply Only.selfTestOf | with_reducible apply Only.endTest | with_reducible apply Only.complete | with_reducible apply Only.foldl | with_reducible apply Only.foldl_snd | with_reducible apply OnlyX.next | extract_lets | with_reducible refine Only.ite ?_ ?_ | split | decide
theorem execGetLogSpareReserves_only (x0 : Nat) (s : State) : OnlyX [.ports, .insts, .ctxs, .jrn, .chans, .health, .free, .out] s (execGetLogSpareReserves x0 s) := by
  have h : Only [.ports, .insts, .ctxs, .jrn, .chans, .health, .free, .out] s s := Only.refl _ _
  unfold execGetLogSpareReserves
  repeat' first | with_reducible assumption | intro _ | with_reducible apply Only.getLog | with_reducible apply Only.sendPage | with_reducible apply Only.foldl | with_reducible apply Only.foldl_snd | with_reducible apply OnlyX.next | extract_lets | with_reducible refine Only.ite ?_ ?_ | split | decide
theorem execGetLogInstanceCounters_only (x0 : Nat) (s : State) : OnlyX [.ports, .insts, .ctxs, .jrn, .chans, .health, .free, .out] s (execGetLogInstanceCounters x0 s) := by
  have h : Only [.ports, .insts, .ctxs, .jrn, .chans, .health, .free, .out] s s := Only.refl _ _
  unfold execGetLogInstanceCounters
  repeat' first | with_reducible assumption | intro _ | with_reducible apply Only.getLog | with_reducible apply Only.instPage | with_reducible apply Only.sendPage | with_reducible apply Only.foldl | with_reducible apply Only.foldl_snd | with_reducible apply OnlyX.next | extract_lets | with_reducible refine Only.ite ?_ ?_ | split | decide
theorem execSetFeaturesApst_only (x0 : Nat) (s : State) : OnlyX [.ports, .insts, .ctxs, .jrn, .chans, .health, .out] s (execSetFeaturesApst x0 s) := by
  have h : Only [.ports, .insts, .ctxs, .jrn, .chans, .health, .out] s s := Only.refl _ _
  unfold execSetFeaturesApst
  repeat' first | with_reducible assumption | intro _ | with_reducible apply Only.setFeature | with_reducible apply Only.modPort | with_reducible apply Only.save | with_reducible apply Only.complete | with_reducible apply Only.foldl | with_reducible apply Only.foldl_snd | with_reducible apply OnlyX.next | extract_lets | with_reducible refine Only.ite ?_ ?_ | split | decide
theorem execDmFence_only (x0 : MoverId) (x1 : ChanId) (s : State) : OnlyX [.ports, .insts, .ctxs, .nextCtx, .fetches, .jrn, .stops, .chans, .ev, .health, .out] s (execDmFence x0 x1 s) := by
  have h : Only [.ports, .insts, .ctxs, .nextCtx, .fetches, .jrn, .stops, .chans, .ev, .health, .out] s s := Only.refl _ _
  unfold execDmFence
  repeat' first | with_reducible assumption | intro _ | with_reducible apply Only.takeDesc | with_reducible apply Only.foldl | with_reducible apply Only.foldl_snd | with_reducible apply OnlyX.next | extract_lets | with_reducible refine Only.ite ?_ ?_ | split | decide
theorem execNvmeMiReceive_only (x0 : Nat) (s : State) : OnlyX [.ports, .insts, .ctxs, .jrn, .chans, .health, .out] s (execNvmeMiReceive x0 s) := by
  have h : Only [.ports, .insts, .ctxs, .jrn, .chans, .health, .out] s s := Only.refl _ _
  unfold execNvmeMiReceive
  repeat' first | with_reducible assumption | intro _ | with_reducible apply Only.admin | with_reducible apply Only.complete | with_reducible apply Only.modPort | with_reducible apply Only.toHost | with_reducible apply Only.foldl | with_reducible apply Only.foldl_snd | with_reducible apply OnlyX.next | extract_lets | with_reducible refine Only.ite ?_ ?_ | split | decide
theorem execRootPllLock_only (x0 : Step2Found) (s : State) : OnlyX [.modes, .pw, .part, .keep, .otp, .flash, .format, .ports, .insts, .ctxs, .live, .sealed, .jrn, .vault, .lines, .mc, .cache, .cw, .groups, .ops, .solves, .pods, .stops, .store, .ev, .health, .free, .out] s (execRootPllLock x0 s) := by
  have h : Only [.modes, .pw, .part, .keep, .otp, .flash, .format, .ports, .insts, .ctxs, .live, .sealed, .jrn, .vault, .lines, .mc, .cache, .cw, .groups, .ops, .solves, .pods, .stops, .store, .ev, .health, .free, .out] s s := Only.refl _ _
  unfold execRootPllLock
  repeat' first | with_reducible assumption | intro _ | with_reducible apply Only.modPart | with_reducible apply Only.enterSafe | with_reducible apply Only.setStep | with_reducible apply Only.stepTwo | with_reducible apply Only.each | with_reducible apply Only.reErase | with_reducible apply Only.chooseBank | with_reducible apply Only.modModes | with_reducible apply Only.modPw | with_reducible apply Only.foldl | with_reducible apply Only.foldl_snd | with_reducible apply OnlyX.next | extract_lets | with_reducible refine Only.ite ?_ ?_ | split | decide
theorem execTelemetrySnapshot_only (s : State) : OnlyX [.spares, .ports] s (execTelemetrySnapshot s) := by
  have h : Only [.spares, .ports] s s := Only.refl _ _
  unfold execTelemetrySnapshot
  repeat' first | with_reducible assumption | intro _ | with_reducible apply Only.allPorts | with_reducible apply Only.modPort | with_reducible apply Only.modSpares | with_reducible apply Only.foldl | with_reducible apply Only.foldl_snd | with_reducible apply OnlyX.next | extract_lets | with_reducible refine Only.ite ?_ ?_ | split | decide
theorem execSetFeaturesPowerMgmt_only (x0 : Nat) (s : State) : OnlyX [.modes, .ports, .insts, .ctxs, .jrn, .chans, .health, .out] s (execSetFeaturesPowerMgmt x0 s) := by
  have h : Only [.modes, .ports, .insts, .ctxs, .jrn, .chans, .health, .out] s s := Only.refl _ _
  unfold execSetFeaturesPowerMgmt
  repeat' first | with_reducible assumption | intro _ | with_reducible apply Only.setFeature | with_reducible apply Only.complete | with_reducible apply Only.reviewPs | with_reducible apply Only.modPort | with_reducible apply Only.foldl | with_reducible apply Only.foldl_snd | with_reducible apply OnlyX.next | extract_lets | with_reducible refine Only.ite ?_ ?_ | split | decide
theorem execMapCacheWayError_only (x0 : SliceId) (x1 : Fin 256) (x2 : Fin 17) (x3 : Bool) (x4 : Bool) (s : State) : OnlyX [.spares, .live, .jrn, .lines, .mc, .ev] s (execMapCacheWayError x0 x1 x2 x3 x4 s) := by
  have h : Only [.spares, .live, .jrn, .lines, .mc, .ev] s s := Only.refl _ _
  unfold execMapCacheWayError
  repeat' first | with_reducible assumption | intro _ | with_reducible apply Only.wayError | with_reducible apply Only.foldl | with_reducible apply Only.foldl_snd | with_reducible apply OnlyX.next | extract_lets | with_reducible refine Only.ite ?_ ?_ | split | decide
theorem execDeleteIoSq_only (x0 : Nat) (s : State) : OnlyX [.ports, .insts, .ctxs, .live, .jrn, .lines, .mc, .cache, .cw, .ops, .solves, .dies, .chanters, .stops, .chans, .ev, .health, .out] s (execDeleteIoSq x0 s) := by
  have h : Only [.ports, .insts, .ctxs, .live, .jrn, .lines, .mc, .cache, .cw, .ops, .solves, .dies, .chanters, .stops, .chans, .ev, .health, .out] s s := Only.refl _ _
  unfold execDeleteIoSq
  repeat' first | with_reducible assumption | intro _ | with_reducible apply Only.admin | with_reducible apply Only.deleteSq | with_reducible apply Only.foldl | with_reducible apply Only.foldl_snd | with_reducible apply OnlyX.next | extract_lets | with_reducible refine Only.ite ?_ ?_ | split | decide
theorem execLendMapMemory_only (x0 : Nat) (s : State) : OnlyX [.ports, .insts, .ctxs, .jrn, .lends, .mc, .chans, .health, .free, .out] s (execLendMapMemory x0 s) := by
  have h : Only [.ports, .insts, .ctxs, .jrn, .lends, .mc, .chans, .health, .free, .out] s s := Only.refl _ _
  unfold execLendMapMemory
  repeat' first | with_reducible assumption | intro _ | with_reducible apply Only.admin | with_reducible apply Only.complete | with_reducible apply Only.newLayout | with_reducible apply Only.foldl | with_reducible apply Only.foldl_snd | with_reducible apply OnlyX.next | (with_reducible apply Only.upd_lends; first | with_reducible assumption | with_reducible apply Only.admin | with_reducible apply Only.complete | with_reducible apply Only.newLayout | with_reducible apply Only.foldl | with_reducible apply Only.foldl_snd | with_reducible apply OnlyX.next | with_reducible refine Only.ite ?_ ?_) | extract_lets | with_reducible refine Only.ite ?_ ?_ | split | decide
theorem execWayErrorWindowExpiry_only (x0 : SliceId) (x1 : Fin 256) (x2 : Fin 17) (s : State) : OnlyX [.now, .mc] s (execWayErrorWindowExpiry x0 x1 x2 s) := by
  have h : Only [.now, .mc] s s := Only.refl _ _
  unfold execWayErrorWindowExpiry
  repeat' first | with_reducible assumption | intro _ | with_reducible apply Only.modSlice | with_reducible apply Only.notBefore | with_reducible apply Only.foldl | with_reducible apply Only.foldl_snd | with_reducible apply OnlyX.next | extract_lets | with_reducible refine Only.ite ?_ ?_ | split | decide
theorem answerMi_only {T : List Fld} {a : State} {r : Status × State} (h : Only T a r.2) (hT : [.out].all T.contains = true) : Only T a (answerMi r) := h.emit hT ..
theorem execMaintenanceHold_only (x0 : Nat) (s : State) : OnlyX [.modes, .ports, .chans, .out] s (execMaintenanceHold x0 s) := by
  have h : Only [.modes, .ports, .chans, .out] s s := Only.refl _ _
  unfold execMaintenanceHold
  repeat' first | with_reducible assumption | intro _ | with_reducible apply answerMi_only | refine Only.hold_eq (h := ?_) (hT := by decide) (e := by with_reducible assumption) .. | with_reducible apply Only.hold | with_reducible apply Only.foldl | with_reducible apply Only.foldl_snd | with_reducible apply OnlyX.next | extract_lets | with_reducible refine Only.ite ?_ ?_ | split | decide
theorem execAbort_only (x0 : Nat) (s : State) : OnlyX [.ports, .insts, .ctxs, .live, .jrn, .lines, .mc, .cache, .cw, .ops, .solves, .dies, .chanters, .stops, .chans, .ev, .health, .out] s (execAbort x0 s) := by
  have h : Only [.ports, .insts, .ctxs, .live, .jrn, .lines, .mc, .cache, .cw, .ops, .solves, .dies, .chanters, .stops, .chans, .ev, .health, .out] s s := Only.refl _ _
  unfold execAbort
  repeat' first | with_reducible assumption | intro _ | with_reducible apply Only.admin | with_reducible apply Only.abort | with_reducible apply Only.foldl | with_reducible apply Only.foldl_snd | with_reducible apply OnlyX.next | extract_lets | with_reducible refine Only.ite ?_ ?_ | split | decide
theorem execD0Return_only (x0 : PortId) (s : State) : OnlyX [.ports, .insts, .ctxs, .jrn, .chans, .health, .out] s (execD0Return x0 s) := by
  have h : Only [.ports, .insts, .ctxs, .jrn, .chans, .health, .out] s s := Only.refl _ _
  unfold execD0Return
  repeat' first | with_reducible assumption | intro _ | with_reducible apply Only.sendPending | with_reducible apply Only.release | with_reducible apply Only.modPort | with_reducible apply Only.foldl | with_reducible apply Only.foldl_snd | with_reducible apply OnlyX.next | extract_lets | with_reducible refine Only.ite ?_ ?_ | split | decide
theorem execIdentifyNsList_only (x0 : Nat) (s : State) : OnlyX [.ports, .insts, .ctxs, .jrn, .chans, .health, .out] s (execIdentifyNsList x0 s) := by
  have h : Only [.ports, .insts, .ctxs, .jrn, .chans, .health, .out] s s := Only.refl _ _
  unfold execIdentifyNsList
  repeat' first | with_reducible assumption | intro _ | with_reducible apply Only.identifyRow | with_reducible apply Only.foldl | with_reducible apply Only.foldl_snd | with_reducible apply OnlyX.next | extract_lets | with_reducible refine Only.ite ?_ ?_ | split | decide
theorem execBringupTrialTimeout_only (s : State) : OnlyX [.now, .modes, .pw, .part, .keep, .flash, .spares, .ports, .insts, .ctxs, .live, .jrn, .lines, .lends, .mc, .cache, .cw, .groups, .ops, .solves, .dies, .chanters, .links, .pods, .stops, .chans, .drones, .ev, .health, .out] s (execBringupTrialTimeout s) := by
  have h : Only [.now, .modes, .pw, .part, .keep, .flash, .spares, .ports, .insts, .ctxs, .live, .jrn, .lines, .lends, .mc, .cache, .cw, .groups, .ops, .solves, .dies, .chanters, .links, .pods, .stops, .chans, .drones, .ev, .health, .out] s s := Only.refl _ _
  unfold execBringupTrialTimeout
  repeat' first | with_reducible assumption | intro _ | with_reducible apply Only.restartAtFive | with_reducible apply Only.notBefore | with_reducible apply Only.foldl | with_reducible apply Only.foldl_snd | with_reducible apply OnlyX.next | extract_lets | with_reducible refine Only.ite ?_ ?_ | split | decide
theorem execReadStatus_only (x0 : MbHdr) (s : State) : OnlyX [.modes, .pw, .part, .keep, .otp, .flash, .format, .spares, .ports, .insts, .ctxs, .live, .jrn, .vault, .lines, .lends, .mc, .cache, .cw, .groups, .ops, .solves, .dies, .chanters, .links, .pods, .stops, .chans, .drones, .ev, .health, .free, .out] s (execReadStatus x0 s) := by
  have h : Only [.modes, .pw, .part, .keep, .otp, .flash, .format, .spares, .ports, .insts, .ctxs, .live, .jrn, .vault, .lines, .lends, .mc, .cache, .cw, .groups, .ops, .solves, .dies, .chanters, .links, .pods, .stops, .chans, .drones, .ev, .health, .free, .out] s s := Only.refl _ _
  unfold execReadStatus
  repeat' first | with_reducible assumption | intro _ | with_reducible apply Only.mailbox | with_reducible apply Only.foldl | with_reducible apply Only.foldl_snd | with_reducible apply OnlyX.next | extract_lets | with_reducible refine Only.ite ?_ ?_ | split | decide
theorem execStopIrqEdge_only (x0 : StopId) (x1 : Fin 8) (s : State) : OnlyX [.ports, .insts, .ctxs, .jrn, .stops, .chans, .ev, .health, .out] s (execStopIrqEdge x0 x1 s) := by
  have h : Only [.ports, .insts, .ctxs, .jrn, .stops, .chans, .ev, .health, .out] s s := Only.refl _ _
  unfold execStopIrqEdge
  repeat' first | with_reducible assumption | intro _ | with_reducible apply Only.stopViolation | with_reducible apply Only.interrupt | with_reducible apply Only.foldl | with_reducible apply Only.foldl_snd | with_reducible apply OnlyX.next | extract_lets | with_reducible refine Only.ite ?_ ?_ | split | decide
theorem execFirmwareCommitConfirm_only (x0 : Nat) (s : State) : OnlyX [.part, .keep, .flash, .ports, .insts, .ctxs, .jrn, .chans, .ev, .health, .out] s (execFirmwareCommitConfirm x0 s) := by
  have h : Only [.part, .keep, .flash, .ports, .insts, .ctxs, .jrn, .chans, .ev, .health, .out] s s := Only.refl _ _
  unfold execFirmwareCommitConfirm
  repeat' first | with_reducible assumption | intro _ | with_reducible apply Only.commitOf | with_reducible apply Only.complete | with_reducible apply Only.confirmTrial | with_reducible apply Only.keepWrite | with_reducible apply Only.refuseUpdate | with_reducible apply Only.startVerify | with_reducible apply Only.foldl | with_reducible apply Only.foldl_snd | with_reducible apply OnlyX.next | extract_lets | with_reducible refine Only.ite ?_ ?_ | split | decide
theorem execJournalEpochClose_only (s : State) : OnlyX [.now, .jrn] s (execJournalEpochClose s) := by
  have h : Only [.now, .jrn] s s := Only.refl _ _
  unfold execJournalEpochClose
  repeat' first | with_reducible assumption | intro _ | with_reducible apply Only.closeEpoch | with_reducible apply Only.notBefore | with_reducible apply Only.foldl | with_reducible apply Only.foldl_snd | with_reducible apply OnlyX.next | extract_lets | with_reducible refine Only.ite ?_ ?_ | split | decide
theorem execMaintenanceHoldRelease_only (s : State) : OnlyX [.modes, .ports, .insts, .ctxs, .jrn, .stops, .chans, .ev, .health, .out] s (execMaintenanceHoldRelease s) := by
  have h : Only [.modes, .ports, .insts, .ctxs, .jrn, .stops, .chans, .ev, .health, .out] s s := Only.refl _ _
  unfold execMaintenanceHoldRelease
  repeat' first | with_reducible assumption | intro _ | with_reducible apply answerMi_only | refine Only.releaseHold_eq (h := ?_) (hT := by decide) (e := by with_reducible assumption) .. | with_reducible apply Only.releaseHold | with_reducible apply Only.foldl | with_reducible apply Only.foldl_snd | with_reducible apply OnlyX.next | extract_lets | with_reducible refine Only.ite ?_ ?_ | split | decide
theorem execVoicingSelectDryRun_only (x0 : Nat) (s : State) : OnlyX [.modes, .flash, .ports, .insts, .ctxs, .jrn, .chans, .health, .out] s (execVoicingSelectDryRun x0 s) := by
  have h : Only [.modes, .flash, .ports, .insts, .ctxs, .jrn, .chans, .health, .out] s s := Only.refl _ _
  unfold execVoicingSelectDryRun
  repeat' first | with_reducible assumption | intro _ | with_reducible apply Only.voicingSelect | with_reducible apply Only.foldl | with_reducible apply Only.foldl_snd | with_reducible apply OnlyX.next | extract_lets | with_reducible refine Only.ite ?_ ?_ | split | decide
theorem execActivationTimeout_only (s : State) : OnlyX [.now, .modes, .pw, .part, .keep, .flash, .spares, .ports, .insts, .ctxs, .live, .jrn, .vault, .lines, .lends, .mc, .cache, .cw, .groups, .ops, .solves, .dies, .chanters, .links, .pods, .stops, .chans, .drones, .ev, .health, .free, .out] s (execActivationTimeout s) := by
  have h : Only [.now, .modes, .pw, .part, .keep, .flash, .spares, .ports, .insts, .ctxs, .live, .jrn, .vault, .lines, .lends, .mc, .cache, .cw, .groups, .ops, .solves, .dies, .chanters, .links, .pods, .stops, .chans, .drones, .ev, .health, .free, .out] s s := Only.refl _ _
  unfold execActivationTimeout
  repeat' first | with_reducible assumption | intro _ | with_reducible apply Only.watchdogExpires | with_reducible apply Only.notBefore | with_reducible apply Only.foldl | with_reducible apply Only.foldl_snd | with_reducible apply OnlyX.next | extract_lets | with_reducible refine Only.ite ?_ ?_ | split | decide
theorem execReserveBandReturn_only (x0 : Fin 16) (x1 : Nat) (s : State) : OnlyX [.live, .jrn] s (execReserveBandReturn x0 x1 s) := by
  have h : Only [.live, .jrn] s s := Only.refl _ _
  unfold execReserveBandReturn
  repeat' first | with_reducible assumption | intro _ | with_reducible apply Only.logBand | with_reducible apply Only.foldl | with_reducible apply Only.foldl_snd | with_reducible apply OnlyX.next | extract_lets | with_reducible refine Only.ite ?_ ?_ | split | decide
theorem execDmFill_only (x0 : MoverId) (x1 : ChanId) (s : State) : OnlyX [.ports, .insts, .ctxs, .nextCtx, .fetches, .jrn, .stops, .chans, .ev, .health, .out] s (execDmFill x0 x1 s) := by
  have h : Only [.ports, .insts, .ctxs, .nextCtx, .fetches, .jrn, .stops, .chans, .ev, .health, .out] s s := Only.refl _ _
  unfold execDmFill
  repeat' first | with_reducible assumption | intro _ | with_reducible apply Only.takeDesc | with_reducible apply Only.foldl | with_reducible apply Only.foldl_snd | with_reducible apply OnlyX.next | extract_lets | with_reducible refine Only.ite ?_ ?_ | split | decide
theorem execNvmeMiSend_only (x0 : Nat) (x1 : MiRequest) (s : State) : OnlyX [.modes, .part, .keep, .flash, .format, .ports, .insts, .ctxs, .nextCtx, .live, .jrn, .lines, .mc, .cache, .cw, .ops, .solves, .dies, .chanters, .pods, .stops, .chans, .ev, .health, .free, .out] s (execNvmeMiSend x0 x1 s) := by
  have h : Only [.modes, .part, .keep, .flash, .format, .ports, .insts, .ctxs, .nextCtx, .live, .jrn, .lines, .mc, .cache, .cw, .ops, .solves, .dies, .chanters, .pods, .stops, .chans, .ev, .health, .free, .out] s s := Only.refl _ _
  unfold execNvmeMiSend
  repeat' first | with_reducible assumption | intro _ | with_reducible apply Only.admin | with_reducible apply Only.complete | refine Only.miDirect_eq (h := ?_) (hT := by decide) (e := by with_reducible assumption) .. | with_reducible apply Only.miDirect | with_reducible apply Only.modPort | with_reducible apply Only.foldl | with_reducible apply Only.foldl_snd | with_reducible apply OnlyX.next | extract_lets | with_reducible refine Only.ite ?_ ?_ | split | decide
theorem execFwWatchdogFeed_only (x0 : W32) (s : State) : OnlyX [.modes, .pw, .part, .keep, .flash, .spares, .ports, .insts, .ctxs, .live, .jrn, .vault, .lines, .lends, .mc, .cache, .cw, .groups, .ops, .solves, .dies, .chanters, .links, .pods, .stops, .chans, .drones, .ev, .health, .free, .out] s (execFwWatchdogFeed x0 s) := by
  have h : Only [.modes, .pw, .part, .keep, .flash, .spares, .ports, .insts, .ctxs, .live, .jrn, .vault, .lines, .lends, .mc, .cache, .cw, .groups, .ops, .solves, .dies, .chanters, .links, .pods, .stops, .chans, .drones, .ev, .health, .free, .out] s s := Only.refl _ _
  unfold execFwWatchdogFeed
  repeat' first | with_reducible assumption | intro _ | with_reducible apply Only.modPart | with_reducible apply Only.watchdogExpires | with_reducible apply Only.foldl | with_reducible apply Only.foldl_snd | with_reducible apply OnlyX.next | extract_lets | with_reducible refine Only.ite ?_ ?_ | split | decide
theorem execNamespaceDelete_only (x0 : Nat) (s : State) : OnlyX [.part, .ports, .insts, .ctxs, .live, .jrn, .lines, .mc, .chans, .ev, .health, .out] s (execNamespaceDelete x0 s) := by
  have h : Only [.part, .ports, .insts, .ctxs, .live, .jrn, .lines, .mc, .chans, .ev, .health, .out] s s := Only.refl _ _
  unfold execNamespaceDelete
  repeat' first | with_reducible assumption | intro _ | with_reducible apply Only.admin | with_reducible apply Only.complete | with_reducible apply Only.each | with_reducible apply Only.detach | with_reducible apply Only.awaitSeal | with_reducible apply Only.deleteAll | with_reducible apply Only.foldl | with_reducible apply Only.foldl_snd | with_reducible apply OnlyX.next | extract_lets | with_reducible refine Only.ite ?_ ?_ | split | decide
theorem execNamespaceCreate_only (x0 : Nat) (s : State) : OnlyX [.part, .ports, .insts, .ctxs, .live, .jrn, .chans, .health, .free, .out] s (execNamespaceCreate x0 s) := by
  have h : Only [.part, .ports, .insts, .ctxs, .live, .jrn, .chans, .health, .free, .out] s s := Only.refl _ _
  unfold execNamespaceCreate
  repeat' first | with_reducible assumption | intro _ | with_reducible apply Only.admin | with_reducible apply Only.completeBad | with_reducible apply Only.complete | with_reducible apply Only.rewriteKeys | with_reducible apply Only.zeroKey | with_reducible apply Only.modPart | with_reducible apply Only.newKey | with_reducible apply Only.awaitSeal | with_reducible apply Only.logRec | with_reducible apply Only.foldl | with_reducible apply Only.foldl_snd | with_reducible apply OnlyX.next | extract_lets | with_reducible refine Only.ite ?_ ?_ | split | decide
theorem execVaultRearm_only (x0 : Fin 16) (x1 : Nat) (s : State) : OnlyX [.ops, .health] s (execVaultRearm x0 x1 s) := by
  have h : Only [.ops, .health] s s := Only.refl _ _
  unfold execVaultRearm
  repeat' first | with_reducible assumption | intro _ | with_reducible apply Only.queueErase | with_reducible apply Only.foldl | with_reducible apply Only.foldl_snd | with_reducible apply OnlyX.next | extract_lets | with_reducible refine Only.ite ?_ ?_ | split | decide
theorem execFwWatchdogExpiry_only (s : State) : OnlyX [.now, .modes, .pw, .part, .keep, .flash, .spares, .ports, .insts, .ctxs, .live, .jrn, .vault, .lines, .lends, .mc, .cache, .cw, .groups, .ops, .solves, .dies, .chanters, .links, .pods, .stops, .chans, .drones, .ev, .health, .free, .out] s (execFwWatchdogExpiry s) := by
  have h : Only [.now, .modes, .pw, .part, .keep, .flash, .spares, .ports, .insts, .ctxs, .live, .jrn, .vault, .lines, .lends, .mc, .cache, .cw, .groups, .ops, .solves, .dies, .chanters, .links, .pods, .stops, .chans, .drones, .ev, .health, .free, .out] s s := Only.refl _ _
  unfold execFwWatchdogExpiry
  repeat' first | with_reducible assumption | intro _ | with_reducible apply Only.watchdogExpires | with_reducible apply Only.notBefore | with_reducible apply Only.foldl | with_reducible apply Only.foldl_snd | with_reducible apply OnlyX.next | extract_lets | with_reducible refine Only.ite ?_ ?_ | split | decide
theorem execGetFeatures_only (x0 : Nat) (s : State) : OnlyX [.ports, .insts, .ctxs, .jrn, .chans, .health, .out] s (execGetFeatures x0 s) := by
  have h : Only [.ports, .insts, .ctxs, .jrn, .chans, .health, .out] s s := Only.refl _ _
  unfold execGetFeatures
  repeat' first | with_reducible assumption | intro _ | with_reducible apply Only.admin | with_reducible apply Only.completeBad | with_reducible apply Only.complete | with_reducible apply Only.toHost | with_reducible apply Only.foldl | with_reducible apply Only.foldl_snd | with_reducible apply OnlyX.next | extract_lets | with_reducible refine Only.ite ?_ ?_ | split | decide
theorem execPodStatusMissing_only (x0 : LinkId) (s : State) : OnlyX [.now, .pw, .chanters, .links, .ev] s (execPodStatusMissing x0 s) := by
  have h : Only [.now, .pw, .chanters, .links, .ev] s s := Only.refl _ _
  unfold execPodStatusMissing
  repeat' first | with_reducible assumption | intro _ | with_reducible apply Only.podSensorFailed | with_reducible apply Only.notBefore | with_reducible apply Only.foldl | with_reducible apply Only.foldl_snd | with_reducible apply OnlyX.next | extract_lets | with_reducible refine Only.ite ?_ ?_ | split | decide
theorem execDieTimeoutPauseExpiry_only (x0 : LinkId) (s : State) : OnlyX [.now, .ports, .insts, .ctxs, .live, .jrn, .vault, .lines, .mc, .cache, .cw, .groups, .ops, .solves, .dies, .chanters, .stops, .chans, .ev, .health, .out] s (execDieTimeoutPauseExpiry x0 s) := by
  have h : Only [.now, .ports, .insts, .ctxs, .live, .jrn, .vault, .lines, .mc, .cache, .cw, .groups, .ops, .solves, .dies, .chanters, .stops, .chans, .ev, .health, .out] s s := Only.refl _ _
  unfold execDieTimeoutPauseExpiry
  repeat' first | with_reducible assumption | intro _ | with_reducible apply Only.notBefore | with_reducible apply Only.dumpWithout | with_reducible apply Only.retry | with_reducible apply Only.allToStep4 | with_reducible apply Only.foldl | with_reducible apply Only.foldl_snd | with_reducible apply OnlyX.next | extract_lets | with_reducible refine Only.ite ?_ ?_ | split | decide
theorem execDatasetManagement_only (x0 : Nat) (s : State) : OnlyX [.ports, .insts, .ctxs, .live, .jrn, .lines, .mc, .chans, .health, .out] s (execDatasetManagement x0 s) := by
  have h : Only [.ports, .insts, .ctxs, .live, .jrn, .lines, .mc, .chans, .health, .out] s s := Only.refl _ _
  unfold execDatasetManagement
  repeat' first | with_reducible assumption | intro _ | with_reducible apply Only.io | with_reducible apply Only.tryDsm | with_reducible apply Only.modCtx | with_reducible apply Only.complete | with_reducible apply Only.foldl | with_reducible apply Only.foldl_snd | with_reducible apply OnlyX.next | extract_lets | with_reducible refine Only.ite ?_ ?_ | split | decide
theorem execDirectiveSend_only (x0 : Nat) (s : State) : OnlyX [.ports, .insts, .ctxs, .jrn, .chans, .health, .out] s (execDirectiveSend x0 s) := by
  have h : Only [.ports, .insts, .ctxs, .jrn, .chans, .health, .out] s s := Only.refl _ _
  unfold execDirectiveSend
  repeat' first | with_reducible assumption | intro _ | with_reducible apply Only.admin | with_reducible apply Only.complete | with_reducible apply Only.foldl | with_reducible apply Only.foldl_snd | with_reducible apply OnlyX.next | extract_lets | with_reducible refine Only.ite ?_ ?_ | split | decide
theorem execDmPauseWrite_only (x0 : MoverId) (x1 : ChanId) (x2 : Bool) (s : State) : OnlyX [.ports, .insts, .ctxs, .jrn, .stops, .chans, .ev, .health, .out] s (execDmPauseWrite x0 x1 x2 s) := by
  have h : Only [.ports, .insts, .ctxs, .jrn, .stops, .chans, .ev, .health, .out] s s := Only.refl _ _
  unfold execDmPauseWrite
  repeat' first | with_reducible assumption | intro _ | with_reducible apply Only.onChan | with_reducible apply Only.writePause | with_reducible apply Only.foldl | with_reducible apply Only.foldl_snd | with_reducible apply OnlyX.next | extract_lets | with_reducible refine Only.ite ?_ ?_ | split | decide
theorem execCryptoErase_only (x0 : Nat) (s : State) : OnlyX [.modes, .part, .ports, .insts, .ctxs, .live, .jrn, .lines, .mc, .chans, .health, .free, .out] s (execCryptoErase x0 s) := by
  have h : Only [.modes, .part, .ports, .insts, .ctxs, .live, .jrn, .lines, .mc, .chans, .health, .free, .out] s s := Only.refl _ _
  unfold execCryptoErase
  repeat' first | with_reducible assumption | intro _ | with_reducible apply Only.adminWait | with_reducible apply Only.completeBad | with_reducible apply Only.askEpoch | with_reducible apply Only.complete | with_reducible apply Only.modCtx | with_reducible apply Only.awaitSeal | with_reducible apply Only.eraseKeys | with_reducible apply Only.foldl | with_reducible apply Only.foldl_snd | with_reducible apply OnlyX.next | extract_lets | with_reducible refine Only.ite ?_ ?_ | split | decide
theorem execSetFeaturesTimestamp_only (x0 : Nat) (s : State) : OnlyX [.part, .ports, .insts, .ctxs, .jrn, .chans, .health, .out] s (execSetFeaturesTimestamp x0 s) := by
  have h : Only [.part, .ports, .insts, .ctxs, .jrn, .chans, .health, .out] s s := Only.refl _ _
  unfold execSetFeaturesTimestamp
  repeat' first | with_reducible assumption | intro _ | with_reducible apply Only.setFeature | with_reducible apply Only.complete | with_reducible apply Only.modPart | with_reducible apply Only.foldl | with_reducible apply Only.foldl_snd | with_reducible apply OnlyX.next | extract_lets | with_reducible refine Only.ite ?_ ?_ | split | decide
theorem execReleaseSafeHold_only (x0 : MbHdr) (x1 : Sample) (s : State) : OnlyX [.modes, .pw, .part, .keep, .otp, .flash, .format, .spares, .ports, .insts, .ctxs, .live, .jrn, .vault, .lines, .lends, .mc, .cache, .cw, .groups, .ops, .solves, .dies, .chanters, .links, .pods, .stops, .chans, .drones, .ev, .health, .free, .out] s (execReleaseSafeHold x0 x1 s) := by
  have h : Only [.modes, .pw, .part, .keep, .otp, .flash, .format, .spares, .ports, .insts, .ctxs, .live, .jrn, .vault, .lines, .lends, .mc, .cache, .cw, .groups, .ops, .solves, .dies, .chanters, .links, .pods, .stops, .chans, .drones, .ev, .health, .free, .out] s s := Only.refl _ _
  unfold execReleaseSafeHold
  repeat' first | with_reducible assumption | intro _ | with_reducible apply Only.mailbox | with_reducible apply Only.foldl | with_reducible apply Only.foldl_snd | with_reducible apply OnlyX.next | extract_lets | with_reducible refine Only.ite ?_ ?_ | split | decide
theorem execInputStartThreshold_only (s : State) : OnlyX [.modes, .pw, .part, .keep, .flash, .spares, .ports, .insts, .ctxs, .live, .jrn, .lines, .lends, .mc, .cache, .cw, .groups, .ops, .solves, .dies, .chanters, .links, .pods, .stops, .chans, .drones, .ev, .health] s (execInputStartThreshold s) := by
  have h : Only [.modes, .pw, .part, .keep, .flash, .spares, .ports, .insts, .ctxs, .live, .jrn, .lines, .lends, .mc, .cache, .cw, .groups, .ops, .solves, .dies, .chanters, .links, .pods, .stops, .chans, .drones, .ev, .health] s s := Only.refl _ _
  unfold execInputStartThreshold
  repeat' first | with_reducible assumption | intro _ | with_reducible apply Only.modPw | with_reducible apply Only.modModes | with_reducible apply Only.startBringup | with_reducible apply Only.causeGone | with_reducible apply Only.foldl | with_reducible apply Only.foldl_snd | with_reducible apply OnlyX.next | extract_lets | with_reducible refine Only.ite ?_ ?_ | split | decide
theorem execPowerFailRecognised_only (s : State) : OnlyX [.modes, .pw, .part, .keep, .ports, .ctxs, .live, .jrn, .vault, .lines, .mc, .cw, .ops, .solves, .links, .pods, .stops, .chans, .ev, .free, .out] s (execPowerFailRecognised s) := by
  have h : Only [.modes, .pw, .part, .keep, .ports, .ctxs, .live, .jrn, .vault, .lines, .mc, .cw, .ops, .solves, .links, .pods, .stops, .chans, .ev, .free, .out] s s := Only.refl _ _
  unfold execPowerFailRecognised
  repeat' first | with_reducible assumption | intro _ | with_reducible apply Only.modPw | with_reducible apply Only.report | with_reducible apply Only.modModes | with_reducible apply Only.podsOff | with_reducible apply Only.modPart | with_reducible apply Only.allPorts | with_reducible apply Only.modPort | with_reducible apply Only.startFlush | with_reducible apply Only.foldl | with_reducible apply Only.foldl_snd | with_reducible apply OnlyX.next | extract_lets | with_reducible refine Only.ite ?_ ?_ | split | decide
theorem execPowerStageStop_only (s : State) : OnlyX [.modes, .pw, .part, .flash, .spares, .ports, .insts, .ctxs, .live, .jrn, .lines, .lends, .mc, .cache, .cw, .groups, .ops, .solves, .dies, .chanters, .links, .pods, .stops, .chans, .drones, .ev, .health, .out] s (execPowerStageStop s) := by
  have h : Only [.modes, .pw, .part, .flash, .spares, .ports, .insts, .ctxs, .live, .jrn, .lines, .lends, .mc, .cache, .cw, .groups, .ops, .solves, .dies, .chanters, .links, .pods, .stops, .chans, .drones, .ev, .health, .out] s s := Only.refl _ _
  unfold execPowerStageStop
  repeat' first | with_reducible assumption | intro _ | with_reducible apply Only.enterKeep | with_reducible apply Only.foldl | with_reducible apply Only.foldl_snd | with_reducible apply OnlyX.next | extract_lets | with_reducible refine Only.ite ?_ ?_ | split | decide
theorem execOvervoltageTrip_only (s : State) : OnlyX [.modes, .pw, .part, .keep, .ports, .insts, .ctxs, .live, .jrn, .vault, .lines, .mc, .cw, .ops, .solves, .links, .pods, .stops, .chans, .ev, .free, .out] s (execOvervoltageTrip s) := by
  have h : Only [.modes, .pw, .part, .keep, .ports, .insts, .ctxs, .live, .jrn, .vault, .lines, .mc, .cw, .ops, .solves, .links, .pods, .stops, .chans, .ev, .free, .out] s s := Only.refl _ _
  unfold execOvervoltageTrip
  repeat' first | with_reducible assumption | intro _ | with_reducible apply Only.report | with_reducible apply Only.modPw | with_reducible apply Only.causeArises | with_reducible apply Only.foldl | with_reducible apply Only.foldl_snd | with_reducible apply OnlyX.next | extract_lets | with_reducible refine Only.ite ?_ ?_ | split | decide
theorem execPowerStageFault_only (x0 : StageFault) (s : State) : OnlyX [.modes, .pw, .part, .keep, .ports, .insts, .ctxs, .live, .jrn, .vault, .lines, .mc, .cw, .ops, .solves, .links, .pods, .stops, .chans, .ev, .free, .out] s (execPowerStageFault x0 s) := by
  have h : Only [.modes, .pw, .part, .keep, .ports, .insts, .ctxs, .live, .jrn, .vault, .lines, .mc, .cw, .ops, .solves, .links, .pods, .stops, .chans, .ev, .free, .out] s s := Only.refl _ _
  unfold execPowerStageFault
  repeat' first | with_reducible assumption | intro _ | with_reducible apply Only.stageFault | with_reducible apply Only.foldl | with_reducible apply Only.foldl_snd | with_reducible apply OnlyX.next | extract_lets | with_reducible refine Only.ite ?_ ?_ | split | decide
theorem execPodRailPresenceLost_only (s : State) : OnlyX [.modes, .pw, .part, .keep, .ports, .insts, .ctxs, .live, .jrn, .vault, .lines, .mc, .cw, .ops, .solves, .links, .pods, .stops, .chans, .ev, .free, .out] s (execPodRailPresenceLost s) := by
  have h : Only [.modes, .pw, .part, .keep, .ports, .insts, .ctxs, .live, .jrn, .vault, .lines, .mc, .cw, .ops, .solves, .links, .pods, .stops, .chans, .ev, .free, .out] s s := Only.refl _ _
  unfold execPodRailPresenceLost
  repeat' first | with_reducible assumption | intro _ | with_reducible apply Only.modPw | with_reducible apply Only.stageFault | with_reducible apply Only.foldl | with_reducible apply Only.foldl_snd | with_reducible apply OnlyX.next | extract_lets | with_reducible refine Only.ite ?_ ?_ | split | decide
theorem execBellowsTest_only (s : State) : OnlyX [.pw, .cache] s (execBellowsTest s) := by
  have h : Only [.pw, .cache] s s := Only.refl _ _
  unfold execBellowsTest
  repeat' first | with_reducible assumption | intro _ | with_reducible apply Only.modPw | with_reducible apply Only.setLimit | with_reducible apply Only.modCache | with_reducible apply Only.testStep2 | with_reducible apply Only.foldl | with_reducible apply Only.foldl_snd | with_reducible apply OnlyX.next | extract_lets | with_reducible refine Only.ite ?_ ?_ | split | decide
theorem execSensorSample_only (x0 : Sample) (s : State) : OnlyX [.modes, .pw, .part, .keep, .spares, .ports, .insts, .ctxs, .live, .jrn, .vault, .lines, .mc, .cache, .cw, .groups, .ops, .solves, .dies, .chanters, .links, .pods, .stops, .chans, .ev, .health, .free, .out] s (execSensorSample x0 s) := by
  have h : Only [.modes, .pw, .part, .keep, .spares, .ports, .insts, .ctxs, .live, .jrn, .vault, .lines, .mc, .cache, .cw, .groups, .ops, .solves, .dies, .chanters, .links, .pods, .stops, .chans, .ev, .health, .free, .out] s s := Only.refl _ _
  unfold execSensorSample
  repeat' first | with_reducible assumption | intro _ | with_reducible apply Only.takeSample | with_reducible apply Only.reviewMute | with_reducible apply Only.shutHot | with_reducible apply Only.countThrottle | with_reducible apply Only.postTemp | with_reducible apply Only.foldl | with_reducible apply Only.foldl_snd | with_reducible apply OnlyX.next | extract_lets | with_reducible refine Only.ite ?_ ?_ | split | decide
theorem execThermalComparatorTrip_only (x0 : Fin 7) (s : State) : OnlyX [.modes, .pw, .part, .keep, .spares, .ports, .insts, .ctxs, .live, .jrn, .vault, .lines, .mc, .cache, .cw, .groups, .ops, .solves, .dies, .chanters, .links, .pods, .stops, .chans, .ev, .health, .free, .out] s (execThermalComparatorTrip x0 s) := by
  have h : Only [.modes, .pw, .part, .keep, .spares, .ports, .insts, .ctxs, .live, .jrn, .vault, .lines, .mc, .cache, .cw, .groups, .ops, .solves, .dies, .chanters, .links, .pods, .stops, .chans, .ev, .health, .free, .out] s s := Only.refl _ _
  unfold execThermalComparatorTrip
  repeat' first | with_reducible assumption | intro _ | with_reducible apply Only.shutHot | with_reducible apply Only.setLevel | with_reducible apply Only.modPw | with_reducible apply Only.foldl | with_reducible apply Only.foldl_snd | with_reducible apply OnlyX.next | extract_lets | with_reducible refine Only.ite ?_ ?_ | split | decide
theorem execGraceTimeExpiry_only (s : State) : OnlyX [.now, .modes, .pw, .ports, .insts, .ctxs, .chanters, .ev, .out] s (execGraceTimeExpiry s) := by
  have h : Only [.now, .modes, .pw, .ports, .insts, .ctxs, .chanters, .ev, .out] s s := Only.refl _ _
  unfold execGraceTimeExpiry
  repeat' first | with_reducible assumption | intro _ | with_reducible apply Only.notBefore | with_reducible apply Only.countThrottle | with_reducible apply Only.setDuty | with_reducible apply Only.setMute | with_reducible apply Only.foldl | with_reducible apply Only.foldl_snd | with_reducible apply OnlyX.next | extract_lets | with_reducible refine Only.ite ?_ ?_ | split | decide | dsimp +zetaDelta only
theorem execM3AdmissionInterval_only (s : State) : OnlyX [.ports] s (execM3AdmissionInterval s) := by
  have h : Only [.ports] s s := Only.refl _ _
  unfold execM3AdmissionInterval
  repeat' first | with_reducible assumption | intro _ | with_reducible apply Only.allPorts | with_reducible apply Only.modPort | with_reducible apply Only.foldl | with_reducible apply Only.foldl_snd | with_reducible apply OnlyX.next | extract_lets | with_reducible refine Only.ite ?_ ?_ | split | decide
theorem execClockCheckWindow_only (x0 : Bool) (x1 : Bool) (x2 : Bool) (s : State) : OnlyX [.modes, .pw, .part, .keep, .ports, .insts, .ctxs, .live, .jrn, .vault, .lines, .mc, .cw, .ops, .solves, .links, .pods, .stops, .chans, .ev, .health, .free, .out] s (execClockCheckWindow x0 x1 x2 s) := by
  have h : Only [.modes, .pw, .part, .keep, .ports, .insts, .ctxs, .live, .jrn, .vault, .lines, .mc, .cw, .ops, .solves, .links, .pods, .stops, .chans, .ev, .health, .free, .out] s s := Only.refl _ _
  unfold execClockCheckWindow
  repeat' first | with_reducible assumption | intro _ | with_reducible apply Only.healthEvent | with_reducible apply Only.clockFault | with_reducible apply Only.foldl | with_reducible apply Only.foldl_snd | with_reducible apply OnlyX.next | extract_lets | with_reducible refine Only.ite ?_ ?_ | split | decide
theorem execLatchChange_only (x0 : Bool) (x1 : Bool) (s : State) : OnlyX [.ev, .mech] s (execLatchChange x0 x1 s) := by
  have h : Only [.ev, .mech] s s := Only.refl _ _
  unfold execLatchChange
  repeat' first | with_reducible assumption | intro _ | with_reducible apply Only.modMech | with_reducible apply Only.report | with_reducible apply Only.foldl | with_reducible apply Only.foldl_snd | with_reducible apply OnlyX.next | extract_lets | with_reducible refine Only.ite ?_ ?_ | split | decide
theorem execMotionWindow_only (x0 : Nat) (s : State) : OnlyX [.ev, .mech] s (execMotionWindow x0 s) := by
  have h : Only [.ev, .mech] s s := Only.refl _ _
  unfold execMotionWindow
  repeat' first | with_reducible assumption | intro _ | with_reducible apply Only.modMech | with_reducible apply Only.report | with_reducible apply Only.foldl | with_reducible apply Only.foldl_snd | with_reducible apply OnlyX.next | extract_lets | with_reducible refine Only.ite ?_ ?_ | split | decide
theorem execSpWatchdogExpiry_only (s : State) : OnlyX [.part, .keep, .ev] s (execSpWatchdogExpiry s) := by
  have h : Only [.part, .keep, .ev] s s := Only.refl _ _
  unfold execSpWatchdogExpiry
  repeat' first | with_reducible assumption | intro _ | with_reducible apply Only.partitionReset | with_reducible apply Only.foldl | with_reducible apply Only.foldl_snd | with_reducible apply OnlyX.next | extract_lets | with_reducible refine Only.ite ?_ ?_ | split | decide
theorem execLockstepMismatch_only (s : State) : OnlyX [.part, .keep, .ev] s (execLockstepMismatch s) := by
  have h : Only [.part, .keep, .ev] s s := Only.refl _ _
  unfold execLockstepMismatch
  repeat' first | with_reducible assumption | intro _ | with_reducible apply Only.partitionReset | with_reducible apply Only.foldl | with_reducible apply Only.foldl_snd | with_reducible apply OnlyX.next | extract_lets | with_reducible refine Only.ite ?_ ?_ | split | decide
theorem execSpRestartComplete_only (s : State) : OnlyX [.modes, .pw, .part, .keep, .otp, .flash, .format, .spares, .ports, .insts, .ctxs, .live, .jrn, .vault, .lines, .lends, .mc, .cache, .cw, .groups, .ops, .solves, .dies, .chanters, .links, .pods, .stops, .chans, .drones, .ev, .health, .free, .out] s (execSpRestartComplete s) := by
  have h : Only [.modes, .pw, .part, .keep, .otp, .flash, .format, .spares, .ports, .insts, .ctxs, .live, .jrn, .vault, .lines, .lends, .mc, .cache, .cw, .groups, .ops, .solves, .dies, .chanters, .links, .pods, .stops, .chans, .drones, .ev, .health, .free, .out] s s := Only.refl _ _
  unfold execSpRestartComplete
  repeat' first | with_reducible assumption | intro _ | with_reducible apply Only.spRestartComplete | with_reducible apply Only.foldl | with_reducible apply Only.foldl_snd | with_reducible apply OnlyX.next | extract_lets | with_reducible refine Only.ite ?_ ?_ | split | decide
theorem execFirmwareBundleStart_only (x0 : Bool) (s : State) : OnlyX [.modes, .pw, .part, .keep, .flash, .spares, .ports, .insts, .ctxs, .live, .jrn, .lines, .lends, .mc, .cache, .cw, .groups, .ops, .solves, .dies, .chanters, .links, .pods, .stops, .chans, .drones, .ev, .health, .out] s (execFirmwareBundleStart x0 s) := by
  have h : Only [.modes, .pw, .part, .keep, .flash, .spares, .ports, .insts, .ctxs, .live, .jrn, .lines, .lends, .mc, .cache, .cw, .groups, .ops, .solves, .dies, .chanters, .links, .pods, .stops, .chans, .drones, .ev, .health, .out] s s := Only.refl _ _
  unfold execFirmwareBundleStart
  repeat' first | with_reducible assumption | intro _ | with_reducible apply Only.restartAtFive | with_reducible apply Only.enterSafe | with_reducible apply Only.modPart | with_reducible apply Only.allPorts | with_reducible apply Only.modPort | with_reducible apply Only.setStep | with_reducible apply Only.foldl | with_reducible apply Only.foldl_snd | with_reducible apply OnlyX.next | extract_lets | with_reducible refine Only.ite ?_ ?_ | split | decide
theorem execMemoryTrainingComplete_only (s : State) : OnlyX [.modes] s (execMemoryTrainingComplete s) := by
  have h : Only [.modes] s s := Only.refl _ _
  unfold execMemoryTrainingComplete
  repeat' first | with_reducible assumption | intro _ | with_reducible apply Only.setStep | with_reducible apply Only.foldl | with_reducible apply Only.foldl_snd | with_reducible apply OnlyX.next | extract_lets | with_reducible refine Only.ite ?_ ?_ | split | decide
theorem execVoicingLoad_only (s : State) : OnlyX [.modes, .pw, .part, .keep, .flash, .format, .spares, .ports, .insts, .ctxs, .live, .sealed, .jrn, .vault, .lines, .mc, .cache, .cw, .groups, .ops, .solves, .pods, .stops, .ev, .health, .free, .out] s (execVoicingLoad s) := by
  have h : Only [.modes, .pw, .part, .keep, .flash, .format, .spares, .ports, .insts, .ctxs, .live, .sealed, .jrn, .vault, .lines, .mc, .cache, .cw, .groups, .ops, .solves, .pods, .stops, .ev, .health, .free, .out] s s := Only.refl _ _
  unfold execVoicingLoad
  repeat' first | with_reducible assumption | intro _ | with_reducible apply Only.report | with_reducible apply Only.failSlot | with_reducible apply Only.keepWrite | with_reducible apply Only.formatMedia | with_reducible apply Only.useSlot | with_reducible apply Only.setStep | with_reducible apply Only.modModes | with_reducible apply Only.setDegrade | with_reducible apply Only.enterSafe | with_reducible apply Only.foldl | with_reducible apply Only.foldl_snd | with_reducible apply OnlyX.next | extract_lets | with_reducible refine Only.ite ?_ ?_ | split | decide
theorem execPodPowerWave_only (s : State) : OnlyX [.modes, .pw, .part, .ports, .insts, .links, .pods, .stops, .out] s (execPodPowerWave s) := by
  have h : Only [.modes, .pw, .part, .ports, .insts, .links, .pods, .stops, .out] s s := Only.refl _ _
  unfold execPodPowerWave
  repeat' first | with_reducible assumption | intro _ | with_reducible apply Only.enterSafe | with_reducible apply Only.modPw | with_reducible apply Only.each | with_reducible apply Only.modLink | with_reducible apply Only.modPod | with_reducible apply Only.emit | with_reducible apply Only.modModes | with_reducible apply Only.setStep | with_reducible apply Only.foldl | with_reducible apply Only.foldl_snd | with_reducible apply OnlyX.next | extract_lets | with_reducible refine Only.ite ?_ ?_ | split | decide
theorem execLaneTrainingComplete_only (x0 : LinkId) (x1 : Bool) (s : State) : OnlyX [.modes, .spares, .ports, .insts, .ctxs, .live, .jrn, .lines, .mc, .cache, .cw, .groups, .ops, .solves, .dies, .chanters, .links, .pods, .stops, .chans, .ev, .health, .out] s (execLaneTrainingComplete x0 x1 s) := by
  have h : Only [.modes, .spares, .ports, .insts, .ctxs, .live, .jrn, .lines, .mc, .cache, .cw, .groups, .ops, .solves, .dies, .chanters, .links, .pods, .stops, .chans, .ev, .health, .out] s s := Only.refl _ _
  unfold execLaneTrainingComplete
  repeat' first | with_reducible assumption | intro _ | with_reducible apply Only.modLink | with_reducible apply Only.linkDead | with_reducible apply Only.foldl | with_reducible apply Only.foldl_snd | with_reducible apply OnlyX.next | extract_lets | with_reducible refine Only.ite ?_ ?_ | split | decide
theorem execMapRecovery_only (x0 : RecoveryFound) (s : State) : OnlyX [.modes, .part, .keep, .format, .spares, .ports, .insts, .ctxs, .live, .sealed, .jrn, .vault, .lines, .mc, .cache, .cw, .groups, .ops, .solves, .dies, .chanters, .links, .pods, .stops, .chans, .ev, .health, .free, .out] s (execMapRecovery x0 s) := by
  have h : Only [.modes, .part, .keep, .format, .spares, .ports, .insts, .ctxs, .live, .sealed, .jrn, .vault, .lines, .mc, .cache, .cw, .groups, .ops, .solves, .dies, .chanters, .links, .pods, .stops, .chans, .ev, .health, .free, .out] s s := Only.refl _ _
  unfold execMapRecovery
  repeat' first | with_reducible assumption | intro _ | with_reducible apply Only.setStep | with_reducible apply Only.restoreInsts | with_reducible apply Only.modModes | with_reducible apply Only.firstFormat | with_reducible apply Only.recover | with_reducible apply Only.foldl | with_reducible apply Only.foldl_snd | with_reducible apply OnlyX.next | extract_lets | with_reducible refine Only.ite ?_ ?_ | split | decide
theorem execBringupComplete_only (s : State) : OnlyX [.modes, .pw, .part, .keep, .ports, .insts, .ctxs, .live, .jrn, .vault, .lines, .mc, .cache, .groups, .ops, .solves, .dies, .chanters, .stops, .chans, .ev, .health, .out] s (execBringupComplete s) := by
  have h : Only [.modes, .pw, .part, .keep, .ports, .insts, .ctxs, .live, .jrn, .vault, .lines, .mc, .cache, .groups, .ops, .solves, .dies, .chanters, .stops, .chans, .ev, .health, .out] s s := Only.refl _ _
  unfold execBringupComplete
  repeat' first | with_reducible assumption | intro _ | with_reducible apply Only.modModes | with_reducible apply Only.each | with_reducible apply Only.reopenInst | with_reducible apply Only.allPorts | with_reducible apply Only.adminQueues | with_reducible apply Only.modPort | with_reducible apply Only.beginTrial | with_reducible apply Only.openAll | with_reducible apply Only.setLimit | with_reducible apply Only.resumeUpkeep | with_reducible apply Only.releaseVault | with_reducible apply Only.modPw | with_reducible apply Only.reviewPs | with_reducible apply Only.setDegrade | with_reducible apply Only.foldl | with_reducible apply Only.foldl_snd | with_reducible apply OnlyX.next | extract_lets | with_reducible refine Only.ite ?_ ?_ | split | decide
theorem execPerstAssert_only (x0 : PortId) (s : State) : OnlyX [.modes, .ports, .insts, .ctxs, .ended, .live, .jrn, .lines, .lends, .mc, .cache, .cw, .ops, .solves, .dies, .chanters, .stops, .chans, .ev, .health, .free, .out] s (execPerstAssert x0 s) := by
  have h : Only [.modes, .ports, .insts, .ctxs, .ended, .live, .jrn, .lines, .lends, .mc, .cache, .cw, .ops, .solves, .dies, .chanters, .stops, .chans, .ev, .health, .free, .out] s s := Only.refl _ _
  unfold execPerstAssert
  repeat' first | with_reducible assumption | intro _ | with_reducible apply Only.modPort | with_reducible apply Only.ctlReset | with_reducible apply Only.foldl | with_reducible apply Only.foldl_snd | with_reducible apply OnlyX.next | extract_lets | with_reducible refine Only.ite ?_ ?_ | split | decide
theorem execRefclkMeasureComplete_only (x0 : PortId) (x1 : Option Int) (s : State) : OnlyX [.ports] s (execRefclkMeasureComplete x0 x1 s) := by
  have h : Only [.ports] s s := Only.refl _ _
  unfold execRefclkMeasureComplete
  repeat' first | with_reducible assumption | intro _ | with_reducible apply Only.modPort | with_reducible apply Only.foldl | with_reducible apply Only.foldl_snd | with_reducible apply OnlyX.next | extract_lets | with_reducible refine Only.ite ?_ ?_ | split | decide
theorem execConfigSpaceReady_only (x0 : PortId) (s : State) : OnlyX [.ports] s (execConfigSpaceReady x0 s) := by
  have h : Only [.ports] s s := Only.refl _ _
  unfold execConfigSpaceReady
  repeat' first | with_reducible assumption | intro _ | with_reducible apply Only.modPort | with_reducible apply Only.foldl | with_reducible apply Only.foldl_snd | with_reducible apply OnlyX.next | extract_lets | with_reducible refine Only.ite ?_ ?_ | split | decide
theorem execLinkDown_only (x0 : PortId) (x1 : Bool) (s : State) : OnlyX [.modes, .ports, .insts, .ctxs, .ended, .live, .jrn, .lines, .lends, .mc, .cache, .cw, .ops, .solves, .dies, .chanters, .stops, .chans, .ev, .health, .free, .out] s (execLinkDown x0 x1 s) := by
  have h : Only [.modes, .ports, .insts, .ctxs, .ended, .live, .jrn, .lines, .lends, .mc, .cache, .cw, .ops, .solves, .dies, .chanters, .stops, .chans, .ev, .health, .free, .out] s s := Only.refl _ _
  unfold execLinkDown
  repeat' first | with_reducible assumption | intro _ | with_reducible apply Only.modPort | with_reducible apply Only.ctlReset | with_reducible apply Only.foldl | with_reducible apply Only.foldl_snd | with_reducible apply OnlyX.next | extract_lets | with_reducible refine Only.ite ?_ ?_ | split | decide
theorem execLinkRecoveryEntry_only (x0 : PortId) (s : State) : OnlyX [.ports] s (execLinkRecoveryEntry x0 s) := by
  have h : Only [.ports] s s := Only.refl _ _
  unfold execLinkRecoveryEntry
  repeat' first | with_reducible assumption | intro _ | with_reducible apply Only.modPort | with_reducible apply Only.foldl | with_reducible apply Only.foldl_snd | with_reducible apply OnlyX.next | extract_lets | with_reducible refine Only.ite ?_ ?_ | split | decide
theorem execPcieLinkTrained_only (x0 : PortId) (x1 : Nat) (x2 : Nat) (s : State) : OnlyX [.ports, .insts, .ctxs, .jrn, .chans, .ev, .health, .out] s (execPcieLinkTrained x0 x1 x2 s) := by
  have h : Only [.ports, .insts, .ctxs, .jrn, .chans, .ev, .health, .out] s s := Only.refl _ _
  unfold execPcieLinkTrained
  repeat' first | with_reducible assumption | intro _ | with_reducible apply Only.modPort | with_reducible apply Only.sendPending | with_reducible apply Only.release | with_reducible apply Only.report | with_reducible apply Only.foldl | with_reducible apply Only.foldl_snd | with_reducible apply OnlyX.next | extract_lets | with_reducible refine Only.ite ?_ ?_ | split | decide
theorem execCcEnClear_only (x0 : PortId) (s : State) : OnlyX [.modes, .ports, .insts, .ctxs, .ended, .live, .jrn, .lines, .lends, .mc, .cache, .cw, .ops, .solves, .dies, .chanters, .stops, .chans, .ev, .health, .free, .out] s (execCcEnClear x0 s) := by
  have h : Only [.modes, .ports, .insts, .ctxs, .ended, .live, .jrn, .lines, .lends, .mc, .cache, .cw, .ops, .solves, .dies, .chanters, .stops, .chans, .ev, .health, .free, .out] s s := Only.refl _ _
  unfold execCcEnClear
  repeat' first | with_reducible assumption | intro _ | with_reducible apply Only.ctlReset | with_reducible apply Only.foldl | with_reducible apply Only.foldl_snd | with_reducible apply OnlyX.next | extract_lets | with_reducible refine Only.ite ?_ ?_ | split | decide
theorem execShutdownNotification_only (x0 : PortId) (s : State) : OnlyX [.modes, .ports] s (execShutdownNotification x0 s) := by
  have h : Only [.modes, .ports] s s := Only.refl _ _
  unfold execShutdownNotification
  repeat' first | with_reducible assumption | intro _ | with_reducible apply Only.reviewPs | with_reducible apply Only.modPort | with_reducible apply Only.foldl | with_reducible apply Only.foldl_snd | with_reducible apply OnlyX.next | extract_lets | with_reducible refine Only.ite ?_ ?_ | split | decide
theorem execMsixVectorUnmask_only (x0 : PortId) (x1 : Unmask) (s : State) : OnlyX [.ports, .out] s (execMsixVectorUnmask x0 x1 s) := by
  have h : Only [.ports, .out] s s := Only.refl _ _
  unfold execMsixVectorUnmask
  repeat' first | with_reducible assumption | intro _ | with_reducible apply Only.emit | with_reducible apply Only.modPort | with_reducible apply Only.sendPending | with_reducible apply Only.foldl | with_reducible apply Only.foldl_snd | with_reducible apply OnlyX.next | extract_lets | with_reducible refine Only.ite ?_ ?_ | split | decide
theorem execCqHeadDoorbell_only (x0 : PortId) (x1 : DoorbellAt) (x2 : Bool) (x3 : Nat) (s : State) : OnlyX [.ports, .insts, .ctxs, .live, .jrn, .lines, .mc, .cache, .cw, .ops, .solves, .dies, .chanters, .stops, .chans, .ev, .health, .out] s (execCqHeadDoorbell x0 x1 x2 x3 s) := by
  have h : Only [.ports, .insts, .ctxs, .live, .jrn, .lines, .mc, .cache, .cw, .ops, .solves, .dies, .chanters, .stops, .chans, .ev, .health, .out] s s := Only.refl _ _
  unfold execCqHeadDoorbell
  repeat' first | with_reducible assumption | intro _ | with_reducible apply Only.doorbell | with_reducible apply Only.badDoorbell | with_reducible apply Only.settleDeletes | with_reducible apply Only.releaseHeld | with_reducible apply Only.modInst | with_reducible apply Only.foldl | with_reducible apply Only.foldl_snd | with_reducible apply OnlyX.next | extract_lets | with_reducible refine Only.ite ?_ ?_ | split | decide
theorem execStopWindowAccess_only (x0 : PortId) (x1 : LocalId) (x2 : Nat) (x3 : Option W64) (s : State) : OnlyX [.stops, .out] s (execStopWindowAccess x0 x1 x2 x3 s) := by
  have h : Only [.stops, .out] s s := Only.refl _ _
  unfold execStopWindowAccess
  repeat' first | with_reducible assumption | intro _ | with_reducible apply Only.emit | with_reducible apply Only.writeShell | with_reducible apply Only.ctlWrite | with_reducible apply Only.ctlRead | with_reducible apply Only.foldl | with_reducible apply Only.foldl_snd | with_reducible apply OnlyX.next | extract_lets | with_reducible refine Only.ite ?_ ?_ | split | decide | dsimp +zetaDelta only
theorem execSqEntryFetch_only (x0 : PortId) (x1 : LocalId) (x2 : Nat) (x3 : List Sqe) (s : State) : OnlyX [.modes, .part, .ports, .insts, .ctxs, .nextCtx, .fetches, .bells, .live, .jrn, .lines, .mc, .cache, .cw, .ops, .solves, .dies, .chanters, .stops, .chans, .ev, .health, .out] s (execSqEntryFetch x0 x1 x2 x3 s) := by
  have h : Only [.modes, .part, .ports, .insts, .ctxs, .nextCtx, .fetches, .bells, .live, .jrn, .lines, .mc, .cache, .cw, .ops, .solves, .dies, .chanters, .stops, .chans, .ev, .health, .out] s s := Only.refl _ _
  unfold execSqEntryFetch
  repeat' first | with_reducible assumption | intro _ | with_reducible apply Only.fetchOne | with_reducible apply Only.modInst | with_reducible apply Only.foldl | with_reducible apply Only.foldl_snd | with_reducible apply OnlyX.next | (with_reducible apply Only.upd_bells; first | with_reducible assumption | with_reducible apply Only.fetchOne | with_reducible apply Only.modInst | with_reducible apply Only.foldl | with_reducible apply Only.foldl_snd | with_reducible apply OnlyX.next | with_reducible refine Only.ite ?_ ?_) | extract_lets | with_reducible refine Only.ite ?_ ?_ | split | decide
theorem execHostDmaFailure_only (x0 : PortId) (x1 : DmaTarget) (x2 : DmaFault) (s : State) : OnlyX [.ports, .insts, .ctxs, .live, .jrn, .lines, .mc, .cache, .cw, .ops, .solves, .dies, .chanters, .stops, .chans, .ev, .health, .out] s (execHostDmaFailure x0 x1 x2 s) := by
  have h : Only [.ports, .insts, .ctxs, .live, .jrn, .lines, .mc, .cache, .cw, .ops, .solves, .dies, .chanters, .stops, .chans, .ev, .health, .out] s s := Only.refl _ _
  unfold execHostDmaFailure
  repeat' first | with_reducible assumption | intro _ | with_reducible apply Only.complete | with_reducible apply Only.logError | with_reducible apply Only.violation | with_reducible apply Only.endCaught | with_reducible apply Only.modInst | with_reducible apply Only.isolate | with_reducible apply Only.dropHeld | with_reducible apply Only.foldl | with_reducible apply Only.foldl_snd | with_reducible apply OnlyX.next | extract_lets | with_reducible refine Only.ite ?_ ?_ | split | decide
theorem execCapAllowanceInterval_only (x0 : QuadId) (s : State) : OnlyX [.insts] s (execCapAllowanceInterval x0 s) := by
  have h : Only [.insts] s s := Only.refl _ _
  unfold execCapAllowanceInterval
  repeat' first | with_reducible assumption | intro _ | with_reducible apply Only.each | with_reducible apply Only.capTrim | with_reducible apply Only.modInst | with_reducible apply Only.foldl | with_reducible apply Only.foldl_snd | with_reducible apply OnlyX.next | extract_lets | with_reducible refine Only.ite ?_ ?_ | split | decide
theorem execHostViolWindowRoll_only (s : State) : OnlyX [.ports, .insts, .ev] s (execHostViolWindowRoll s) := by
  have h : Only [.ports, .insts, .ev] s s := Only.refl _ _
  unfold execHostViolWindowRoll
  repeat' first | with_reducible assumption | intro _ | with_reducible apply Only.allPorts | with_reducible apply Only.report | with_reducible apply Only.modPort | with_reducible apply Only.foldl | with_reducible apply Only.foldl_snd | with_reducible apply OnlyX.next | (with_reducible apply Only.upd_insts; first | with_reducible assumption | with_reducible apply Only.allPorts | with_reducible apply Only.report | with_reducible apply Only.modPort | with_reducible apply Only.foldl | with_reducible apply Only.foldl_snd | with_reducible apply OnlyX.next | with_reducible refine Only.ite ?_ ?_) | extract_lets | with_reducible refine Only.ite ?_ ?_ | split | decide
theorem execDeferredErrorEventTimeout_only (x0 : PortId) (s : State) : OnlyX [.now, .ports, .insts, .ctxs, .out] s (execDeferredErrorEventTimeout x0 s) := by
  have h : Only [.now, .ports, .insts, .ctxs, .out] s s := Only.refl _ _
  unfold execDeferredErrorEventTimeout
  repeat' first | with_reducible assumption | intro _ | with_reducible apply Only.postVendor | with_reducible apply Only.notBefore | with_reducible apply Only.each | with_reducible apply Only.modInst | with_reducible apply Only.foldl | with_reducible apply Only.foldl_snd | with_reducible apply OnlyX.next | extract_lets | with_reducible refine Only.ite ?_ ?_ | split | decide
theorem execCreateIoSq_only (x0 : Nat) (s : State) : OnlyX [.ports, .insts, .ctxs, .jrn, .chans, .health, .out] s (execCreateIoSq x0 s) := by
  have h : Only [.ports, .insts, .ctxs, .jrn, .chans, .health, .out] s s := Only.refl _ _
  unfold execCreateIoSq
  repeat' first | with_reducible assumption | intro _ | with_reducible apply Only.admin | with_reducible apply Only.createSq | with_reducible apply Only.foldl | with_reducible apply Only.foldl_snd | with_reducible apply OnlyX.next | extract_lets | with_reducible refine Only.ite ?_ ?_ | split | decide
theorem execCreateIoCq_only (x0 : Nat) (s : State) : OnlyX [.ports, .insts, .ctxs, .jrn, .chans, .health, .out] s (execCreateIoCq x0 s) := by
  have h : Only [.ports, .insts, .ctxs, .jrn, .chans, .health, .out] s s := Only.refl _ _
  unfold execCreateIoCq
  repeat' first | with_reducible assumption | intro _ | with_reducible apply Only.admin | with_reducible apply Only.createCq | with_reducible apply Only.foldl | with_reducible apply Only.foldl_snd | with_reducible apply OnlyX.next | extract_lets | with_reducible refine Only.ite ?_ ?_ | split | decide
theorem execDeleteIoCq_only (x0 : Nat) (s : State) : OnlyX [.ports, .insts, .ctxs, .jrn, .chans, .health, .out] s (execDeleteIoCq x0 s) := by
  have h : Only [.ports, .insts, .ctxs, .jrn, .chans, .health, .out] s s := Only.refl _ _
  unfold execDeleteIoCq
  repeat' first | with_reducible assumption | intro _ | with_reducible apply Only.admin | with_reducible apply Only.deleteCq | with_reducible apply Only.foldl | with_reducible apply Only.foldl_snd | with_reducible apply OnlyX.next | extract_lets | with_reducible refine Only.ite ?_ ?_ | split | decide
theorem execGetLogErrorInfo_only (x0 : Nat) (s : State) : OnlyX [.ports, .insts, .ctxs, .jrn, .chans, .health, .free, .out] s (execGetLogErrorInfo x0 s) := by
  have h : Only [.ports, .insts, .ctxs, .jrn, .chans, .health, .free, .out] s s := Only.refl _ _
  unfold execGetLogErrorInfo
  repeat' first | with_reducible assumption | intro _ | with_reducible apply Only.getLog | with_reducible apply Only.sendPage | with_reducible apply Only.foldl | with_reducible apply Only.foldl_snd | with_reducible apply OnlyX.next | extract_lets | with_reducible refine Only.ite ?_ ?_ | split | decide
theorem execGetLogSmart_only (x0 : Nat) (s : State) : OnlyX [.ports, .insts, .ctxs, .jrn, .chans, .health, .free, .out] s (execGetLogSmart x0 s) := by
  have h : Only [.ports, .insts, .ctxs, .jrn, .chans, .health, .free, .out] s s := Only.refl _ _
  unfold execGetLogSmart
  repeat' first | with_reducible assumption | intro _ | with_reducible apply Only.getLog | with_reducible apply Only.sendPage | with_reducible apply Only.foldl | with_reducible apply Only.foldl_snd | with_reducible apply OnlyX.next | extract_lets | with_reducible refine Only.ite ?_ ?_ | split | decide
theorem execGetLogFwSlot_only (x0 : Nat) (s : State) : OnlyX [.ports, .insts, .ctxs, .jrn, .chans, .health, .free, .out] s (execGetLogFwSlot x0 s) := by
  have h : Only [.ports, .insts, .ctxs, .jrn, .chans, .health, .free, .out] s s := Only.refl _ _
  unfold execGetLogFwSlot
  repeat' first | with_reducible assumption | intro _ | with_reducible apply Only.getLog | with_reducible apply Only.sendPage | with_reducible apply Only.foldl | with_reducible apply Only.foldl_snd | with_reducible apply OnlyX.next | extract_lets | with_reducible refine Only.ite ?_ ?_ | split | decide
theorem execGetLogCommandsEffects_only (x0 : Nat) (s : State) : OnlyX [.ports, .insts, .ctxs, .jrn, .chans, .health, .free, .out] s (execGetLogCommandsEffects x0 s) := by
  have h : Only [.ports, .insts, .ctxs, .jrn, .chans, .health, .free, .out] s s := Only.refl _ _
  unfold execGetLogCommandsEffects
  repeat' first | with_reducible assumption | intro _ | with_reducible apply Only.getLog | with_reducible apply Only.sendPage | with_reducible apply Only.foldl | with_reducible apply Only.foldl_snd | with_reducible apply OnlyX.next | extract_lets | with_reducible refine Only.ite ?_ ?_ | split | decide
theorem execGetLogDeferredErrors_only (x0 : Nat) (s : State) : OnlyX [.ports, .insts, .ctxs, .jrn, .chans, .health, .out] s (execGetLogDeferredErrors x0 s) := by
  have h : Only [.ports, .insts, .ctxs, .jrn, .chans, .health, .out] s s := Only.refl _ _
  unfold execGetLogDeferredErrors
  repeat' first | with_reducible assumption | intro _ | with_reducible apply Only.getLog | with_reducible apply Only.instPage | with_reducible apply Only.readDeferred | with_reducible apply Only.foldl | with_reducible apply Only.foldl_snd | with_reducible apply OnlyX.next | extract_lets | with_reducible refine Only.ite ?_ ?_ | split | decide
theorem execGetLogLatencyHistograms_only (x0 : Nat) (s : State) : OnlyX [.ports, .insts, .ctxs, .jrn, .chans, .health, .free, .out] s (execGetLogLatencyHistograms x0 s) := by
  have h : Only [.ports, .insts, .ctxs, .jrn, .chans, .health, .free, .out] s s := Only.refl _ _
  unfold execGetLogLatencyHistograms
  repeat' first | with_reducible assumption | intro _ | with_reducible apply Only.getLog | with_reducible apply Only.instPage | with_reducible apply Only.sendPage | with_reducible apply Only.foldl | with_reducible apply Only.foldl_snd | with_reducible apply OnlyX.next | extract_lets | with_reducible refine Only.ite ?_ ?_ | split | decide
theorem execGetLogMediaHealth_only (x0 : Nat) (s : State) : OnlyX [.ports, .insts, .ctxs, .jrn, .chans, .health, .free, .out] s (execGetLogMediaHealth x0 s) := by
  have h : Only [.ports, .insts, .ctxs, .jrn, .chans, .health, .free, .out] s s := Only.refl _ _
  unfold execGetLogMediaHealth
  repeat' first | with_reducible assumption | intro _ | with_reducible apply Only.getLog | with_reducible apply Only.modHealth | with_reducible apply Only.sendPage | with_reducible apply Only.pageRead | with_reducible apply Only.foldl | with_reducible apply Only.foldl_snd | with_reducible apply OnlyX.next | extract_lets | with_reducible refine Only.ite ?_ ?_ | split | decide
theorem execGetLogStops_only (x0 : Nat) (s : State) : OnlyX [.ports, .insts, .ctxs, .jrn, .chans, .health, .free, .out] s (execGetLogStops x0 s) := by
  have h : Only [.ports, .insts, .ctxs, .jrn, .chans, .health, .free, .out] s s := Only.refl _ _
  unfold execGetLogStops
  repeat' first | with_reducible assumption | intro _ | with_reducible apply Only.getLog | with_reducible apply Only.sendPage | with_reducible apply Only.pageRead | with_reducible apply Only.foldl | with_reducible apply Only.foldl_snd | with_reducible apply OnlyX.next | extract_lets | with_reducible refine Only.ite ?_ ?_ | split | decide
theorem execGetLogPowerThermal_only (x0 : Nat) (s : State) : OnlyX [.ports, .insts, .ctxs, .jrn, .chans, .health, .free, .out] s (execGetLogPowerThermal x0 s) := by
  have h : Only [.ports, .insts, .ctxs, .jrn, .chans, .health, .free, .out] s s := Only.refl _ _
  unfold execGetLogPowerThermal
  repeat' first | with_reducible assumption | intro _ | with_reducible apply Only.getLog | with_reducible apply Only.sendPage | with_reducible apply Only.pageRead | with_reducible apply Only.foldl | with_reducible apply Only.foldl_snd | with_reducible apply OnlyX.next | extract_lets | with_reducible refine Only.ite ?_ ?_ | split | decide
theorem execGetLogDieStatistics_only (x0 : Nat) (s : State) : OnlyX [.ports, .insts, .ctxs, .jrn, .chans, .health, .free, .out] s (execGetLogDieStatistics x0 s) := by
  have h : Only [.ports, .insts, .ctxs, .jrn, .chans, .health, .free, .out] s s := Only.refl _ _
  unfold execGetLogDieStatistics
  repeat' first | with_reducible assumption | intro _ | with_reducible apply Only.getLog | with_reducible apply Only.complete | with_reducible apply Only.sendPage | with_reducible apply Only.foldl | with_reducible apply Only.foldl_snd | with_reducible apply OnlyX.next | extract_lets | with_reducible refine Only.ite ?_ ?_ | split | decide
theorem execIdentifyController_only (x0 : Nat) (s : State) : OnlyX [.ports, .insts, .ctxs, .jrn, .chans, .health, .out] s (execIdentifyController x0 s) := by
  have h : Only [.ports, .insts, .ctxs, .jrn, .chans, .health, .out] s s := Only.refl _ _
  unfold execIdentifyController
  repeat' first | with_reducible assumption | intro _ | with_reducible apply Only.identifyRow | with_reducible apply Only.foldl | with_reducible apply Only.foldl_snd | with_reducible apply OnlyX.next | extract_lets | with_reducible refine Only.ite ?_ ?_ | split | decide
theorem execIdentifyNamespace_only (x0 : Nat) (s : State) : OnlyX [.ports, .insts, .ctxs, .jrn, .chans, .health, .out] s (execIdentifyNamespace x0 s) := by
  have h : Only [.ports, .insts, .ctxs, .jrn, .chans, .health, .out] s s := Only.refl _ _
  unfold execIdentifyNamespace
  repeat' first | with_reducible assumption | intro _ | with_reducible apply Only.identifyRow | with_reducible apply Only.foldl | with_reducible apply Only.foldl_snd | with_reducible apply OnlyX.next | extract_lets | with_reducible refine Only.ite ?_ ?_ | split | decide
theorem execIdentifyNsDescriptors_only (x0 : Nat) (s : State) : OnlyX [.ports, .insts, .ctxs, .jrn, .chans, .health, .out] s (execIdentifyNsDescriptors x0 s) := by
  have h : Only [.ports, .insts, .ctxs, .jrn, .chans, .health, .out] s s := Only.refl _ _
  unfold execIdentifyNsDescriptors
  repeat' first | with_reducible assumption | intro _ | with_reducible apply Only.identifyRow | with_reducible apply Only.foldl | with_reducible apply Only.foldl_snd | with_reducible apply OnlyX.next | extract_lets | with_reducible refine Only.ite ?_ ?_ | split | decide
theorem execIdentifyControllerList_only (x0 : Nat) (s : State) : OnlyX [.ports, .insts, .ctxs, .jrn, .chans, .health, .out] s (execIdentifyControllerList x0 s) := by
  have h : Only [.ports, .insts, .ctxs, .jrn, .chans, .health, .out] s s := Only.refl _ _
  unfold execIdentifyControllerList
  repeat' first | with_reducible assumption | intro _ | with_reducible apply Only.identifyRow | with_reducible apply Only.foldl | with_reducible apply Only.foldl_snd | with_reducible apply OnlyX.next | extract_lets | with_reducible refine Only.ite ?_ ?_ | split | decide
theorem execSetFeaturesArbitration_only (x0 : Nat) (s : State) : OnlyX [.ports, .insts, .ctxs, .jrn, .chans, .health, .out] s (execSetFeaturesArbitration x0 s) := by
  have h : Only [.ports, .insts, .ctxs, .jrn, .chans, .health, .out] s s := Only.refl _ _
  unfold execSetFeaturesArbitration
  repeat' first | with_reducible assumption | intro _ | with_reducible apply Only.keepFeature | with_reducible apply Only.foldl | with_reducible apply Only.foldl_snd | with_reducible apply OnlyX.next | extract_lets | with_reducible refine Only.ite ?_ ?_ | split | decide
theorem execSetFeaturesNumberOfQueues_only (x0 : Nat) (s : State) : OnlyX [.ports, .insts, .ctxs, .jrn, .chans, .health, .out] s (execSetFeaturesNumberOfQueues x0 s) := by
  have h : Only [.ports, .insts, .ctxs, .jrn, .chans, .health, .out] s s := Only.refl _ _
  unfold execSetFeaturesNumberOfQueues
  repeat' first | with_reducible assumption | intro _ | with_reducible apply Only.setFeature | with_reducible apply Only.complete | with_reducible apply Only.modPort | with_reducible apply Only.foldl | with_reducible apply Only.foldl_snd | with_reducible apply OnlyX.next | extract_lets | with_reducible refine Only.ite ?_ ?_ | split | decide
theorem execSetFeaturesIntCoalescing_only (x0 : Nat) (s : State) : OnlyX [.ports, .insts, .ctxs, .jrn, .chans, .health, .out] s (execSetFeaturesIntCoalescing x0 s) := by
  have h : Only [.ports, .insts, .ctxs, .jrn, .chans, .health, .out] s s := Only.refl _ _
  unfold execSetFeaturesIntCoalescing
  repeat' first | with_reducible assumption | intro _ | with_reducible apply Only.setFeature | with_reducible apply Only.save | with_reducible apply Only.complete | with_reducible apply Only.setCoalesce | with_reducible apply Only.foldl | with_reducible apply Only.foldl_snd | with_reducible apply OnlyX.next | extract_lets | with_reducible refine Only.ite ?_ ?_ | split | decide
theorem execSetFeaturesIntVectorConfig_only (x0 : Nat) (s : State) : OnlyX [.ports, .insts, .ctxs, .jrn, .chans, .health, .out] s (execSetFeaturesIntVectorConfig x0 s) := by
  have h : Only [.ports, .insts, .ctxs, .jrn, .chans, .health, .out] s s := Only.refl _ _
  unfold execSetFeaturesIntVectorConfig
  repeat' first | with_reducible assumption | intro _ | with_reducible apply Only.setFeature | with_reducible apply Only.complete | with_reducible apply Only.save | with_reducible apply Only.setVector | with_reducible apply Only.foldl | with_reducible apply Only.foldl_snd | with_reducible apply OnlyX.next | extract_lets | with_reducible refine Only.ite ?_ ?_ | split | decide
theorem execSetFeaturesWriteAtomicity_only (x0 : Nat) (s : State) : OnlyX [.ports, .insts, .ctxs, .jrn, .chans, .health, .out] s (execSetFeaturesWriteAtomicity x0 s) := by
  have h : Only [.ports, .insts, .ctxs, .jrn, .chans, .health, .out] s s := Only.refl _ _
  unfold execSetFeaturesWriteAtomicity
  repeat' first | with_reducible assumption | intro _ | with_reducible apply Only.keepFeature | with_reducible apply Only.foldl | with_reducible apply Only.foldl_snd | with_reducible apply OnlyX.next | extract_lets | with_reducible refine Only.ite ?_ ?_ | split | decide
theorem execApstIdleExpiry_only (x0 : PortId) (s : State) : OnlyX [.now, .modes, .ports] s (execApstIdleExpiry x0 s) := by
  have h : Only [.now, .modes, .ports] s s := Only.refl _ _
  unfold execApstIdleExpiry
  repeat' first | with_reducible assumption | intro _ | with_reducible apply Only.reviewPs | with_reducible apply Only.modPort | with_reducible apply Only.notBefore | with_reducible apply Only.foldl | with_reducible apply Only.foldl_snd | with_reducible apply OnlyX.next | extract_lets | with_reducible refine Only.ite ?_ ?_ | split | decide
theorem execPs4DroneExcursion_only (x0 : Bool) (s : State) : OnlyX [.modes] s (execPs4DroneExcursion x0 s) := by
  have h : Only [.modes] s s := Only.refl _ _
  unfold execPs4DroneExcursion
  repeat' first | with_reducible assumption | intro _ | with_reducible apply Only.modModes | with_reducible apply Only.foldl | with_reducible apply Only.foldl_snd | with_reducible apply OnlyX.next | extract_lets | with_reducible refine Only.ite ?_ ?_ | split | decide
theorem execNamespaceAttach_only (x0 : Nat) (s : State) : OnlyX [.ports, .insts, .ctxs, .live, .jrn, .mc, .chans, .ev, .health, .out] s (execNamespaceAttach x0 s) := by
  have h : Only [.ports, .insts, .ctxs, .live, .jrn, .mc, .chans, .ev, .health, .out] s s := Only.refl _ _
  unfold execNamespaceAttach
  repeat' first | with_reducible assumption | intro _ | with_reducible apply Only.attachment | with_reducible apply Only.complete | with_reducible apply Only.each | with_reducible apply Only.logInst | with_reducible apply Only.reviewRegions | with_reducible apply Only.foldl | with_reducible apply Only.foldl_snd | with_reducible apply OnlyX.next | extract_lets | with_reducible refine Only.ite ?_ ?_ | split | decide
theorem execNamespaceDetach_only (x0 : Nat) (s : State) : OnlyX [.ports, .insts, .ctxs, .live, .jrn, .mc, .stops, .chans, .ev, .health, .out] s (execNamespaceDetach x0 s) := by
  have h : Only [.ports, .insts, .ctxs, .live, .jrn, .mc, .stops, .chans, .ev, .health, .out] s s := Only.refl _ _
  unfold execNamespaceDetach
  repeat' first | with_reducible assumption | intro _ | with_reducible apply Only.attachment | with_reducible apply Only.complete | with_reducible apply Only.modCtx | with_reducible apply Only.each | with_reducible apply Only.startEpoch | with_reducible apply Only.detach | with_reducible apply Only.foldl | with_reducible apply Only.foldl_snd | with_reducible apply OnlyX.next | extract_lets | with_reducible refine Only.ite ?_ ?_ | split | decide
theorem execFirmwareImageDownload_only (x0 : Nat) (s : State) : OnlyX [.part, .keep, .flash, .ports, .insts, .ctxs, .jrn, .stops, .chans, .health, .out] s (execFirmwareImageDownload x0 s) := by
  have h : Only [.part, .keep, .flash, .ports, .insts, .ctxs, .jrn, .stops, .chans, .health, .out] s s := Only.refl _ _
  unfold execFirmwareImageDownload
  repeat' first | with_reducible assumption | intro _ | with_reducible apply Only.updateAdmin | with_reducible apply Only.takePiece | with_reducible apply Only.foldl | with_reducible apply Only.foldl_snd | with_reducible apply OnlyX.next | extract_lets | with_reducible refine Only.ite ?_ ?_ | split | decide
theorem execFirmwareCommitVerify_only (x0 : Nat) (s : State) : OnlyX [.part, .keep, .flash, .ports, .insts, .ctxs, .jrn, .chans, .health, .out] s (execFirmwareCommitVerify x0 s) := by
  have h : Only [.part, .keep, .flash, .ports, .insts, .ctxs, .jrn, .chans, .health, .out] s s := Only.refl _ _
  unfold execFirmwareCommitVerify
  repeat' first | with_reducible assumption | intro _ | with_reducible apply Only.commitOf | with_reducible apply Only.commitPackage | with_reducible apply Only.foldl | with_reducible apply Only.foldl_snd | with_reducible apply OnlyX.next | extract_lets | with_reducible refine Only.ite ?_ ?_ | split | decide
theorem execFirmwareCommitNextBoot_only (x0 : Nat) (s : State) : OnlyX [.part, .keep, .flash, .ports, .insts, .ctxs, .jrn, .chans, .health, .out] s (execFirmwareCommitNextBoot x0 s) := by
  have h : Only [.part, .keep, .flash, .ports, .insts, .ctxs, .jrn, .chans, .health, .out] s s := Only.refl _ _
  unfold execFirmwareCommitNextBoot
  repeat' first | with_reducible assumption | intro _ | with_reducible apply Only.commitOf | with_reducible apply Only.commitPackage | with_reducible apply Only.foldl | with_reducible apply Only.foldl_snd | with_reducible apply OnlyX.next | extract_lets | with_reducible refine Only.ite ?_ ?_ | split | decide
theorem execUpdateVerificationComplete_only (x0 : VerifyFound) (s : State) : OnlyX [.modes, .part, .keep, .flash, .ports, .insts, .ctxs, .jrn, .stops, .store, .chans, .health, .out] s (execUpdateVerificationComplete x0 s) := by
  have h : Only [.modes, .part, .keep, .flash, .ports, .insts, .ctxs, .jrn, .stops, .store, .chans, .health, .out] s s := Only.refl _ _
  unfold execUpdateVerificationComplete
  repeat' first | with_reducible assumption | intro _ | with_reducible apply Only.notVerified | with_reducible apply Only.keepWrite | with_reducible apply Only.modFlash | with_reducible apply Only.complete | with_reducible apply Only.verified | with_reducible apply Only.placePackage | with_reducible apply Only.foldl | with_reducible apply Only.foldl_snd | with_reducible apply OnlyX.next | extract_lets | with_reducible refine Only.ite ?_ ?_ | split | decide | dsimp +zetaDelta only
theorem execDirectiveReceive_only (x0 : Nat) (s : State) : OnlyX [.ports, .insts, .ctxs, .jrn, .chans, .health, .out] s (execDirectiveReceive x0 s) := by
  have h : Only [.ports, .insts, .ctxs, .jrn, .chans, .health, .out] s s := Only.refl _ _
  unfold execDirectiveReceive
  repeat' first | with_reducible assumption | intro _ | with_reducible apply Only.admin | with_reducible apply Only.complete | with_reducible apply Only.toHost | with_reducible apply Only.foldl | with_reducible apply Only.foldl_snd | with_reducible apply OnlyX.next | extract_lets | with_reducible refine Only.ite ?_ ?_ | split | decide
theorem execInstanceReport_only (x0 : Nat) (s : State) : OnlyX [.ports, .insts, .ctxs, .jrn, .chans, .health, .out] s (execInstanceReport x0 s) := by
  have h : Only [.ports, .insts, .ctxs, .jrn, .chans, .health, .out] s s := Only.refl _ _
  unfold execInstanceReport
  repeat' first | with_reducible assumption | intro _ | with_reducible apply Only.admin | with_reducible apply Only.complete | with_reducible apply Only.toHost | with_reducible apply Only.foldl | with_reducible apply Only.foldl_snd | with_reducible apply OnlyX.next | extract_lets | with_reducible refine Only.ite ?_ ?_ | split | decide
theorem execShareDrainLimitExpiry_only (x0 : PortId) (x1 : LocalId) (s : State) : OnlyX [.now, .insts, .ctxs, .live, .jrn, .mc, .stops, .ev] s (execShareDrainLimitExpiry x0 x1 s) := by
  have h : Only [.now, .insts, .ctxs, .live, .jrn, .mc, .stops, .ev] s s := Only.refl _ _
  unfold execShareDrainLimitExpiry
  repeat' first | with_reducible assumption | intro _ | with_reducible apply Only.reviewRegions | with_reducible apply Only.applyChange | with_reducible apply Only.notBefore | with_reducible apply Only.foldl | with_reducible apply Only.foldl_snd | with_reducible apply OnlyX.next | extract_lets | with_reducible refine Only.ite ?_ ?_ | split | decide
theorem execResetInstance_only (x0 : Nat) (s : State) : OnlyX [.ports, .insts, .ctxs, .ended, .live, .jrn, .lines, .mc, .cache, .cw, .ops, .solves, .dies, .chanters, .stops, .chans, .ev, .health, .free, .out] s (execResetInstance x0 s) := by
  have h : Only [.ports, .insts, .ctxs, .ended, .live, .jrn, .lines, .mc, .cache, .cw, .ops, .solves, .dies, .chanters, .stops, .chans, .ev, .health, .free, .out] s s := Only.refl _ _
  unfold execResetInstance
  repeat' first | with_reducible assumption | intro _ | with_reducible apply Only.slotCommand | with_reducible apply Only.awaitSeal | with_reducible apply Only.resetInst | with_reducible apply Only.foldl | with_reducible apply Only.foldl_snd | with_reducible apply OnlyX.next | extract_lets | with_reducible refine Only.ite ?_ ?_ | split | decide
theorem execReclaimMapMemory_only (x0 : Nat) (s : State) : OnlyX [.ports, .insts, .ctxs, .jrn, .lends, .mc, .chans, .health, .free, .out] s (execReclaimMapMemory x0 s) := by
  have h : Only [.ports, .insts, .ctxs, .jrn, .lends, .mc, .chans, .health, .free, .out] s s := Only.refl _ _
  unfold execReclaimMapMemory
  repeat' first | with_reducible assumption | intro _ | with_reducible apply Only.adminWait | with_reducible apply Only.complete | with_reducible apply Only.modCtx | with_reducible apply Only.endLends | with_reducible apply Only.foldl | with_reducible apply Only.foldl_snd | with_reducible apply OnlyX.next | extract_lets | with_reducible refine Only.ite ?_ ?_ | split | decide
theorem execT2AccessFailure_only (x0 : PortId) (x1 : Fin 4) (x2 : DmaFault) (s : State) : OnlyX [.ports, .insts, .ctxs, .lends, .mc, .ev, .health, .free, .out] s (execT2AccessFailure x0 x1 x2 s) := by
  have h : Only [.ports, .insts, .ctxs, .lends, .mc, .ev, .health, .free, .out] s s := Only.refl _ _
  unfold execT2AccessFailure
  repeat' first | with_reducible assumption | intro _ | with_reducible apply Only.managerEvent | with_reducible apply Only.endLends | with_reducible apply Only.foldl | with_reducible apply Only.foldl_snd | with_reducible apply OnlyX.next | extract_lets | with_reducible refine Only.ite ?_ ?_ | split | decide
theorem execLoadStopImageTransfer_only (x0 : Nat) (s : State) : OnlyX [.part, .keep, .flash, .ports, .insts, .ctxs, .jrn, .stops, .chans, .health, .out] s (execLoadStopImageTransfer x0 s) := by
  have h : Only [.part, .keep, .flash, .ports, .insts, .ctxs, .jrn, .stops, .chans, .health, .out] s s := Only.refl _ _
  unfold execLoadStopImageTransfer
  repeat' first | with_reducible assumption | intro _ | with_reducible apply Only.loadStop | with_reducible apply Only.complete | with_reducible apply Only.abandonPackage | with_reducible apply Only.modStop | with_reducible apply Only.foldl | with_reducible apply Only.foldl_snd | with_reducible apply OnlyX.next | extract_lets | with_reducible refine Only.ite ?_ ?_ | split | decide
theorem execLoadStopImageLoad_only (x0 : Nat) (x1 : Bool) (x2 : Option (Fin 4)) (x3 : Option (BitVec 384)) (s : State) : OnlyX [.flash, .ports, .insts, .ctxs, .jrn, .stops, .store, .chans, .health, .out] s (execLoadStopImageLoad x0 x1 x2 x3 s) := by
  have h : Only [.flash, .ports, .insts, .ctxs, .jrn, .stops, .store, .chans, .health, .out] s s := Only.refl _ _
  unfold execLoadStopImageLoad
  repeat' first | with_reducible assumption | intro _ | with_reducible apply Only.loadStop | with_reducible apply Only.complete | with_reducible apply Only.acceptLoad | with_reducible apply Only.foldl | with_reducible apply Only.foldl_snd | with_reducible apply OnlyX.next | extract_lets | with_reducible refine Only.ite ?_ ?_ | split | decide | dsimp +zetaDelta only
theorem execLoadStopImageReload_only (x0 : Nat) (s : State) : OnlyX [.ports, .insts, .ctxs, .jrn, .stops, .chans, .health, .out] s (execLoadStopImageReload x0 s) := by
  have h : Only [.ports, .insts, .ctxs, .jrn, .stops, .chans, .health, .out] s s := Only.refl _ _
  unfold execLoadStopImageReload
  repeat' first | with_reducible assumption | intro _ | with_reducible apply Only.loadStop | with_reducible apply Only.complete | with_reducible apply Only.startEpoch | with_reducible apply Only.modCtx | with_reducible apply Only.foldl | with_reducible apply Only.foldl_snd | with_reducible apply OnlyX.next | extract_lets | with_reducible refine Only.ite ?_ ?_ | split | decide
theorem execVoicingSelect_only (x0 : Nat) (s : State) : OnlyX [.modes, .flash, .ports, .insts, .ctxs, .jrn, .chans, .health, .out] s (execVoicingSelect x0 s) := by
  have h : Only [.modes, .flash, .ports, .insts, .ctxs, .jrn, .chans, .health, .out] s s := Only.refl _ _
  unfold execVoicingSelect
  repeat' first | with_reducible assumption | intro _ | with_reducible apply Only.voicingSelect | with_reducible apply Only.foldl | with_reducible apply Only.foldl_snd | with_reducible apply OnlyX.next | extract_lets | with_reducible refine Only.ite ?_ ?_ | split | decide
theorem execSetUpdateLock_only (x0 : MbHdr) (x1 : Bool) (s : State) : OnlyX [.modes, .pw, .part, .keep, .otp, .flash, .format, .spares, .ports, .insts, .ctxs, .live, .jrn, .vault, .lines, .lends, .mc, .cache, .cw, .groups, .ops, .solves, .dies, .chanters, .links, .pods, .stops, .chans, .drones, .ev, .health, .free, .out] s (execSetUpdateLock x0 x1 s) := by
  have h : Only [.modes, .pw, .part, .keep, .otp, .flash, .format, .spares, .ports, .insts, .ctxs, .live, .jrn, .vault, .lines, .lends, .mc, .cache, .cw, .groups, .ops, .solves, .dies, .chanters, .links, .pods, .stops, .chans, .drones, .ev, .health, .free, .out] s s := Only.refl _ _
  unfold execSetUpdateLock
  repeat' first | with_reducible assumption | intro _ | with_reducible apply Only.mailbox | with_reducible apply Only.foldl | with_reducible apply Only.foldl_snd | with_reducible apply OnlyX.next | extract_lets | with_reducible refine Only.ite ?_ ?_ | split | decide
theorem execSetRpl_only (x0 : MbHdr) (x1 : Nat) (x2 : Bool) (s : State) : OnlyX [.modes, .pw, .part, .keep, .otp, .flash, .format, .spares, .ports, .insts, .ctxs, .live, .jrn, .vault, .lines, .lends, .mc, .cache, .cw, .groups, .ops, .solves, .dies, .chanters, .links, .pods, .stops, .chans, .drones, .ev, .health, .free, .out] s (execSetRpl x0 x1 x2 s) := by
  have h : Only [.modes, .pw, .part, .keep, .otp, .flash, .format, .spares, .ports, .insts, .ctxs, .live, .jrn, .vault, .lines, .lends, .mc, .cache, .cw, .groups, .ops, .solves, .dies, .chanters, .links, .pods, .stops, .chans, .drones, .ev, .health, .free, .out] s s := Only.refl _ _
  unfold execSetRpl
  repeat' first | with_reducible assumption | intro _ | with_reducible apply Only.mailbox | with_reducible apply Only.foldl | with_reducible apply Only.foldl_snd | with_reducible apply OnlyX.next | extract_lets | with_reducible refine Only.ite ?_ ?_ | split | decide
theorem execLoadKey_only (x0 : MbHdr) (x1 : Nat) (x2 : Bool) (x3 : Bool) (x4 : BitVec 64) (s : State) : OnlyX [.modes, .pw, .part, .keep, .otp, .flash, .format, .spares, .ports, .insts, .ctxs, .live, .jrn, .vault, .lines, .lends, .mc, .cache, .cw, .groups, .ops, .solves, .dies, .chanters, .links, .pods, .stops, .chans, .drones, .ev, .health, .free, .out] s (execLoadKey x0 x1 x2 x3 x4 s) := by
  have h : Only [.modes, .pw, .part, .keep, .otp, .flash, .format, .spares, .ports, .insts, .ctxs, .live, .jrn, .vault, .lines, .lends, .mc, .cache, .cw, .groups, .ops, .solves, .dies, .chanters, .links, .pods, .stops, .chans, .drones, .ev, .health, .free, .out] s s := Only.refl _ _
  unfold execLoadKey
  repeat' first | with_reducible assumption | intro _ | with_reducible apply Only.mailbox | with_reducible apply Only.foldl | with_reducible apply Only.foldl_snd | with_reducible apply OnlyX.next | extract_lets | with_reducible refine Only.ite ?_ ?_ | split | decide
theorem execClearKey_only (x0 : MbHdr) (x1 : Nat) (s : State) : OnlyX [.modes, .pw, .part, .keep, .otp, .flash, .format, .spares, .ports, .insts, .ctxs, .live, .jrn, .vault, .lines, .lends, .mc, .cache, .cw, .groups, .ops, .solves, .dies, .chanters, .links, .pods, .stops, .chans, .drones, .ev, .health, .free, .out] s (execClearKey x0 x1 s) := by
  have h : Only [.modes, .pw, .part, .keep, .otp, .flash, .format, .spares, .ports, .insts, .ctxs, .live, .jrn, .vault, .lines, .lends, .mc, .cache, .cw, .groups, .ops, .solves, .dies, .chanters, .links, .pods, .stops, .chans, .drones, .ev, .health, .free, .out] s s := Only.refl _ _
  unfold execClearKey
  repeat' first | with_reducible assumption | intro _ | with_reducible apply Only.mailbox | with_reducible apply Only.foldl | with_reducible apply Only.foldl_snd | with_reducible apply OnlyX.next | extract_lets | with_reducible refine Only.ite ?_ ?_ | split | decide
theorem execRotateOperatorKey_only (x0 : MbHdr) (x1 : BitVec 384) (x2 : Bool) (s : State) : OnlyX [.modes, .pw, .part, .keep, .otp, .flash, .format, .spares, .ports, .insts, .ctxs, .live, .jrn, .vault, .lines, .lends, .mc, .cache, .cw, .groups, .ops, .solves, .dies, .chanters, .links, .pods, .stops, .chans, .drones, .ev, .health, .free, .out] s (execRotateOperatorKey x0 x1 x2 s) := by
  have h : Only [.modes, .pw, .part, .keep, .otp, .flash, .format, .spares, .ports, .insts, .ctxs, .live, .jrn, .vault, .lines, .lends, .mc, .cache, .cw, .groups, .ops, .solves, .dies, .chanters, .links, .pods, .stops, .chans, .drones, .ev, .health, .free, .out] s s := Only.refl _ _
  unfold execRotateOperatorKey
  repeat' first | with_reducible assumption | intro _ | with_reducible apply Only.mailbox | with_reducible apply Only.foldl | with_reducible apply Only.foldl_snd | with_reducible apply OnlyX.next | extract_lets | with_reducible refine Only.ite ?_ ?_ | split | decide
theorem execRevokeImageKey_only (x0 : MbHdr) (x1 : Fin 4) (s : State) : OnlyX [.modes, .pw, .part, .keep, .otp, .flash, .format, .spares, .ports, .insts, .ctxs, .live, .jrn, .vault, .lines, .lends, .mc, .cache, .cw, .groups, .ops, .solves, .dies, .chanters, .links, .pods, .stops, .chans, .drones, .ev, .health, .free, .out] s (execRevokeImageKey x0 x1 s) := by
  have h : Only [.modes, .pw, .part, .keep, .otp, .flash, .format, .spares, .ports, .insts, .ctxs, .live, .jrn, .vault, .lines, .lends, .mc, .cache, .cw, .groups, .ops, .solves, .dies, .chanters, .links, .pods, .stops, .chans, .drones, .ev, .health, .free, .out] s s := Only.refl _ _
  unfold execRevokeImageKey
  repeat' first | with_reducible assumption | intro _ | with_reducible apply Only.mailbox | with_reducible apply Only.foldl | with_reducible apply Only.foldl_snd | with_reducible apply OnlyX.next | extract_lets | with_reducible refine Only.ite ?_ ?_ | split | decide
theorem execDeviceEpochDrainEnd_only (s : State) : OnlyX [.modes, .pw, .part, .keep, .otp, .flash, .format, .spares, .ports, .insts, .ctxs, .ended, .live, .sealed, .jrn, .vault, .lines, .lends, .mc, .cache, .cw, .groups, .ops, .solves, .dies, .chanters, .links, .pods, .stops, .store, .chans, .drones, .ev, .health, .free, .out] s (execDeviceEpochDrainEnd s) := by
  have h : Only [.modes, .pw, .part, .keep, .otp, .flash, .format, .spares, .ports, .insts, .ctxs, .ended, .live, .sealed, .jrn, .vault, .lines, .lends, .mc, .cache, .cw, .groups, .ops, .solves, .dies, .chanters, .links, .pods, .stops, .store, .chans, .drones, .ev, .health, .free, .out] s s := Only.refl _ _
  unfold execDeviceEpochDrainEnd
  repeat' first | with_reducible assumption | intro _ | with_reducible apply Only.sealNow | with_reducible apply Only.each | with_reducible apply Only.applyChange | with_reducible apply Only.formatNs | with_reducible apply Only.endDevEpoch | with_reducible apply Only.answerEpoch | with_reducible apply Only.eraseKeys | with_reducible apply Only.answerErase | with_reducible apply Only.applyVoicing | with_reducible apply Only.applyRpl | with_reducible apply Only.commitActivation | with_reducible apply Only.foldl | with_reducible apply Only.foldl_snd | with_reducible apply OnlyX.next | extract_lets | with_reducible refine Only.ite ?_ ?_ | split | decide
theorem execDrainInterruptTimeout_only (s : State) : OnlyX [.now, .ports, .insts, .ctxs, .live, .jrn, .lines, .mc, .cache, .cw, .ops, .solves, .dies, .chanters, .stops, .chans, .ev, .health, .free, .out] s (execDrainInterruptTimeout s) := by
  have h : Only [.now, .ports, .insts, .ctxs, .live, .jrn, .lines, .mc, .cache, .cw, .ops, .solves, .dies, .chanters, .stops, .chans, .ev, .health, .free, .out] s s := Only.refl _ _
  unfold execDrainInterruptTimeout
  repeat' first | with_reducible assumption | intro _ | with_reducible apply Only.notBefore | with_reducible apply Only.retry | with_reducible apply Only.complete | with_reducible apply Only.endWrite | with_reducible apply Only.endCaught | with_reducible apply Only.modCache | with_reducible apply Only.foldl | with_reducible apply Only.foldl_snd | with_reducible apply OnlyX.next | extract_lets | with_reducible refine Only.ite ?_ ?_ | split | decide
theorem execFlush_only (x0 : Nat) (s : State) : OnlyX [.ports, .insts, .ctxs, .live, .jrn, .cache, .groups, .ops, .chans, .health, .out] s (execFlush x0 s) := by
  have h : Only [.ports, .insts, .ctxs, .live, .jrn, .cache, .groups, .ops, .chans, .health, .out] s s := Only.refl _ _
  unfold execFlush
  repeat' first | with_reducible assumption | intro _ | with_reducible apply Only.complete | with_reducible apply Only.tryFlush | with_reducible apply Only.closeHolding | with_reducible apply Only.modCtx | with_reducible apply Only.foldl | with_reducible apply Only.foldl_snd | with_reducible apply OnlyX.next | extract_lets | with_reducible refine Only.ite ?_ ?_ | split | decide
theorem execWriteZeroes_only (x0 : Nat) (s : State) : OnlyX [.ports, .insts, .ctxs, .live, .jrn, .lines, .mc, .cache, .cw, .ops, .solves, .dies, .chanters, .stops, .chans, .ev, .health, .out] s (execWriteZeroes x0 s) := by
  have h : Only [.ports, .insts, .ctxs, .live, .jrn, .lines, .mc, .cache, .cw, .ops, .solves, .dies, .chanters, .stops, .chans, .ev, .health, .out] s s := Only.refl _ _
  unfold execWriteZeroes
  repeat' first | with_reducible assumption | intro _ | with_reducible apply Only.io | with_reducible apply Only.complete | with_reducible apply Only.modCtx | with_reducible apply Only.tryWrite | with_reducible apply Only.askSpace | with_reducible apply Only.foldl | with_reducible apply Only.foldl_snd | with_reducible apply OnlyX.next | extract_lets | with_reducible refine Only.ite ?_ ?_ | split | decide
theorem execVerify_only (x0 : Nat) (s : State) : OnlyX [.ports, .insts, .ctxs, .live, .jrn, .lines, .mc, .ops, .solves, .dies, .chanters, .stops, .chans, .ev, .health, .out] s (execVerify x0 s) := by
  have h : Only [.ports, .insts, .ctxs, .live, .jrn, .lines, .mc, .ops, .solves, .dies, .chanters, .stops, .chans, .ev, .health, .out] s s := Only.refl _ _
  unfold execVerify
  repeat' first | with_reducible assumption | intro _ | with_reducible apply Only.io | with_reducible apply Only.beginRead | with_reducible apply Only.foldl | with_reducible apply Only.foldl_snd | with_reducible apply OnlyX.next | extract_lets | with_reducible refine Only.ite ?_ ?_ | split | decide
theorem execMergeReadComplete_only (x0 : Nat) (x1 : Nat) (s : State) : OnlyX [.ports, .insts, .ctxs, .live, .jrn, .lines, .mc, .cw, .ops, .solves, .dies, .chanters, .stops, .chans, .ev, .health, .out] s (execMergeReadComplete x0 x1 s) := by
  have h : Only [.ports, .insts, .ctxs, .live, .jrn, .lines, .mc, .cw, .ops, .solves, .dies, .chanters, .stops, .chans, .ev, .health, .out] s s := Only.refl _ _
  unfold execMergeReadComplete
  repeat' first | with_reducible assumption | intro _ | with_reducible apply Only.modCtx | with_reducible apply Only.retry | with_reducible apply Only.arrive | with_reducible apply Only.tryWrite | with_reducible apply Only.foldl | with_reducible apply Only.foldl_snd | with_reducible apply OnlyX.next | extract_lets | with_reducible refine Only.ite ?_ ?_ | split | decide
theorem execWriteThroughStripeClose_only (x0 : Nat) (s : State) : OnlyX [.now, .live, .jrn, .cache, .groups, .ops, .health] s (execWriteThroughStripeClose x0 s) := by
  have h : Only [.now, .live, .jrn, .cache, .groups, .ops, .health] s s := Only.refl _ _
  unfold execWriteThroughStripeClose
  repeat' first | with_reducible assumption | intro _ | with_reducible apply Only.refreshHeld | with_reducible apply Only.closeStripe | with_reducible apply Only.notBefore | with_reducible apply Only.foldl | with_reducible apply Only.foldl_snd | with_reducible apply OnlyX.next | extract_lets | with_reducible refine Only.ite ?_ ?_ | split | decide
theorem execSuspendWindowExpiry_only (x0 : LinkId) (x1 : Fin 18) (s : State) : OnlyX [.now, .ops, .links, .out] s (execSuspendWindowExpiry x0 x1 s) := by
  have h : Only [.now, .ops, .links, .out] s s := Only.refl _ _
  unfold execSuspendWindowExpiry
  repeat' first | with_reducible assumption | intro _ | with_reducible apply Only.resumeOp | with_reducible apply Only.notBefore | with_reducible apply Only.foldl | with_reducible apply Only.foldl_snd | with_reducible apply OnlyX.next | extract_lets | with_reducible refine Only.ite ?_ ?_ | split | decide
theorem execDieReadTimeout_only (x0 : LinkId) (x1 : Nat) (s : State) : OnlyX [.now, .modes, .spares, .ports, .insts, .ctxs, .live, .jrn, .lines, .mc, .cache, .cw, .groups, .ops, .solves, .dies, .chanters, .links, .pods, .stops, .chans, .ev, .health, .out] s (execDieReadTimeout x0 x1 s) := by
  have h : Only [.now, .modes, .spares, .ports, .insts, .ctxs, .live, .jrn, .lines, .mc, .cache, .cw, .groups, .ops, .solves, .dies, .chanters, .links, .pods, .stops, .chans, .ev, .health, .out] s s := Only.refl _ _
  unfold execDieReadTimeout
  repeat' first | with_reducible assumption | intro _ | with_reducible apply Only.notBefore | with_reducible apply Only.toStep4 | with_reducible apply Only.allToStep4 | with_reducible apply Only.suspectDie | with_reducible apply Only.foldl | with_reducible apply Only.foldl_snd | with_reducible apply OnlyX.next | extract_lets | with_reducible refine Only.ite ?_ ?_ | split | decide
theorem execReplayTimeout_only (x0 : LinkId) (s : State) : OnlyX [.now, .modes, .spares, .ports, .insts, .ctxs, .live, .jrn, .lines, .mc, .cache, .cw, .groups, .ops, .solves, .dies, .chanters, .links, .pods, .stops, .chans, .ev, .health, .out] s (execReplayTimeout x0 s) := by
  have h : Only [.now, .modes, .spares, .ports, .insts, .ctxs, .live, .jrn, .lines, .mc, .cache, .cw, .groups, .ops, .solves, .dies, .chanters, .links, .pods, .stops, .chans, .ev, .health, .out] s s := Only.refl _ _
  unfold execReplayTimeout
  repeat' first | with_reducible assumption | intro _ | with_reducible apply Only.retry | with_reducible apply Only.replay | with_reducible apply Only.notBefore | with_reducible apply Only.foldl | with_reducible apply Only.foldl_snd | with_reducible apply OnlyX.next | extract_lets | with_reducible refine Only.ite ?_ ?_ | split | decide
theorem execPodViolWindowRoll_only (s : State) : OnlyX [.links] s (execPodViolWindowRoll s) := by
  have h : Only [.links] s s := Only.refl _ _
  unfold execPodViolWindowRoll
  repeat' first | with_reducible assumption | intro _ | with_reducible apply Only.foldl | with_reducible apply Only.foldl_snd | with_reducible apply OnlyX.next | (with_reducible apply Only.upd_links; first | with_reducible assumption | with_reducible apply Only.foldl | with_reducible apply Only.foldl_snd | with_reducible apply OnlyX.next | with_reducible refine Only.ite ?_ ?_) | extract_lets | with_reducible refine Only.ite ?_ ?_ | split | decide
theorem execLinkRecoveryStepResult_only (x0 : LinkId) (x1 : Bool) (s : State) : OnlyX [.modes, .spares, .ports, .insts, .ctxs, .live, .jrn, .lines, .mc, .cache, .cw, .groups, .ops, .solves, .dies, .chanters, .links, .pods, .stops, .chans, .ev, .health, .out] s (execLinkRecoveryStepResult x0 x1 s) := by
  have h : Only [.modes, .spares, .ports, .insts, .ctxs, .live, .jrn, .lines, .mc, .cache, .cw, .groups, .ops, .solves, .dies, .chanters, .links, .pods, .stops, .chans, .ev, .health, .out] s s := Only.refl _ _
  unfold execLinkRecoveryStepResult
  repeat' first | with_reducible assumption | intro _ | with_reducible apply Only.retry | with_reducible apply Only.recGo | with_reducible apply Only.modSpares | with_reducible apply Only.logRec | with_reducible apply Only.modLink | with_reducible apply Only.report | with_reducible apply Only.reviewSpares | with_reducible apply Only.healthEvent | with_reducible apply Only.linkBack | with_reducible apply Only.foldl | with_reducible apply Only.foldl_snd | with_reducible apply OnlyX.next | extract_lets | with_reducible refine Only.ite ?_ ?_ | split | decide
theorem execLdpcDecodeComplete_only (x0 : Nat) (x1 : DecodeEnd) (x2 : Nat) (x3 : Nat) (s : State) : OnlyX [.ports, .insts, .ctxs, .live, .jrn, .lines, .mc, .cache, .cw, .groups, .ops, .solves, .dies, .chanters, .stops, .chans, .drones, .ev, .health, .out] s (execLdpcDecodeComplete x0 x1 x2 x3 s) := by
  have h : Only [.ports, .insts, .ctxs, .live, .jrn, .lines, .mc, .cache, .cw, .groups, .ops, .solves, .dies, .chanters, .stops, .chans, .drones, .ev, .health, .out] s s := Only.refl _ _
  unfold execLdpcDecodeComplete
  repeat' first | with_reducible assumption | intro _ | with_reducible apply Only.dropOp | with_reducible apply Only.retry | with_reducible apply Only.decoded | with_reducible apply Only.countBits | with_reducible apply Only.foldl | with_reducible apply Only.foldl_snd | with_reducible apply OnlyX.next | extract_lets | with_reducible refine Only.ite ?_ ?_ | split | decide
theorem execMcRegionLoWrite_only (x0 : Writer) (x1 : Fin 64) (x2 : W64) (s : State) : OnlyX [.ports, .insts, .ctxs, .live, .jrn, .lines, .mc, .cw, .ops, .solves, .dies, .chanters, .stops, .chans, .ev, .health, .out] s (execMcRegionLoWrite x0 x1 x2 s) := by
  have h : Only [.ports, .insts, .ctxs, .live, .jrn, .lines, .mc, .cw, .ops, .solves, .dies, .chanters, .stops, .chans, .ev, .health, .out] s s := Only.refl _ _
  unfold execMcRegionLoWrite
  repeat' first | with_reducible assumption | intro _ | with_reducible apply Only.modMc | with_reducible apply Only.putRegion | with_reducible apply Only.foldl | with_reducible apply Only.foldl_snd | with_reducible apply OnlyX.next | extract_lets | with_reducible refine Only.ite ?_ ?_ | split | decide
theorem execMcClean_only (s : State) : OnlyX [.ports, .insts, .ctxs, .live, .jrn, .lines, .mc, .cw, .ops, .solves, .dies, .chanters, .stops, .chans, .ev, .health, .out] s (execMcClean s) := by
  have h : Only [.ports, .insts, .ctxs, .live, .jrn, .lines, .mc, .cw, .ops, .solves, .dies, .chanters, .stops, .chans, .ev, .health, .out] s s := Only.refl _ _
  unfold execMcClean
  repeat' first | with_reducible assumption | intro _ | with_reducible apply Only.maintCmd | with_reducible apply Only.foldl | with_reducible apply Only.foldl_snd | with_reducible apply OnlyX.next | extract_lets | with_reducible refine Only.ite ?_ ?_ | split | decide
theorem execMcDiscard_only (s : State) : OnlyX [.ports, .insts, .ctxs, .live, .jrn, .lines, .mc, .cw, .ops, .solves, .dies, .chanters, .stops, .chans, .ev, .health, .out] s (execMcDiscard s) := by
  have h : Only [.ports, .insts, .ctxs, .live, .jrn, .lines, .mc, .cw, .ops, .solves, .dies, .chanters, .stops, .chans, .ev, .health, .out] s s := Only.refl _ _
  unfold execMcDiscard
  repeat' first | with_reducible assumption | intro _ | with_reducible apply Only.maintCmd | with_reducible apply Only.foldl | with_reducible apply Only.foldl_snd | with_reducible apply OnlyX.next | extract_lets | with_reducible refine Only.ite ?_ ?_ | split | decide
theorem execMcUnlock_only (s : State) : OnlyX [.ports, .insts, .ctxs, .live, .jrn, .lines, .mc, .cw, .ops, .solves, .dies, .chanters, .stops, .chans, .ev, .health, .out] s (execMcUnlock s) := by
  have h : Only [.ports, .insts, .ctxs, .live, .jrn, .lines, .mc, .cw, .ops, .solves, .dies, .chanters, .stops, .chans, .ev, .health, .out] s s := Only.refl _ _
  unfold execMcUnlock
  repeat' first | with_reducible assumption | intro _ | with_reducible apply Only.maintCmd | with_reducible apply Only.foldl | with_reducible apply Only.foldl_snd | with_reducible apply OnlyX.next | extract_lets | with_reducible refine Only.ite ?_ ?_ | split | decide
theorem execCheckpointLine_only (x0 : Nat) (x1 : Nat) (s : State) : OnlyX [.live, .jrn, .lines, .mc, .cache, .cw, .groups, .ops, .health] s (execCheckpointLine x0 x1 s) := by
  have h : Only [.live, .jrn, .lines, .mc, .cache, .cw, .groups, .ops, .health] s s := Only.refl _ _
  unfold execCheckpointLine
  repeat' first | with_reducible assumption | intro _ | with_reducible apply Only.rewriteSegment | with_reducible apply Only.writeRecord | with_reducible apply Only.foldl | with_reducible apply Only.foldl_snd | with_reducible apply OnlyX.next | extract_lets | with_reducible refine Only.ite ?_ ?_ | split | decide
theorem execGcVictimStart_only (x0 : Fin 16) (s : State) : OnlyX [.ports, .insts, .ctxs, .live, .jrn, .lines, .mc, .ops, .solves, .dies, .chanters, .stops, .chans, .ev, .health, .out] s (execGcVictimStart x0 s) := by
  have h : Only [.ports, .insts, .ctxs, .live, .jrn, .lines, .mc, .ops, .solves, .dies, .chanters, .stops, .chans, .ev, .health, .out] s s := Only.refl _ _
  unfold execGcVictimStart
  repeat' first | with_reducible assumption | intro _ | with_reducible apply Only.startReloc | with_reducible apply Only.foldl | with_reducible apply Only.foldl_snd | with_reducible apply OnlyX.next | extract_lets | with_reducible refine Only.ite ?_ ?_ | split | decide
theorem execRelocationCopyComplete_only (x0 : Fin 16) (x1 : Nat) (s : State) : OnlyX [.live, .jrn, .lines, .mc, .cache, .cw, .groups, .ops, .health] s (execRelocationCopyComplete x0 x1 s) := by
  have h : Only [.live, .jrn, .lines, .mc, .cache, .cw, .groups, .ops, .health] s s := Only.refl _ _
  unfold execRelocationCopyComplete
  repeat' first | with_reducible assumption | intro _ | with_reducible apply Only.copyUnit | with_reducible apply Only.copyRecords | with_reducible apply Only.noteScrubbed | with_reducible apply Only.modHealth | with_reducible apply Only.setUnit | with_reducible apply Only.logRec | with_reducible apply Only.modReloc | with_reducible apply Only.logBand | with_reducible apply Only.foldl | with_reducible apply Only.foldl_snd | with_reducible apply OnlyX.next | extract_lets | with_reducible refine Only.ite ?_ ?_ | split | decide
theorem execRetentionClockTick_only (s : State) : OnlyX [.groups] s (execRetentionClockTick s) := by
  have h : Only [.groups] s s := Only.refl _ _
  unfold execRetentionClockTick
  repeat' first | with_reducible assumption | intro _ | with_reducible apply Only.each | with_reducible apply Only.modGroup | with_reducible apply Only.foldl | with_reducible apply Only.foldl_snd | with_reducible apply OnlyX.next | extract_lets | with_reducible refine Only.ite ?_ ?_ | split | decide
theorem execWriteClosedTimer_only (x0 : Fin 16) (s : State) : OnlyX [.modes, .ports, .insts, .ctxs, .live, .jrn, .lines, .mc, .cache, .cw, .groups, .ops, .solves, .dies, .chanters, .stops, .chans, .ev, .health, .out] s (execWriteClosedTimer x0 s) := by
  have h : Only [.modes, .ports, .insts, .ctxs, .live, .jrn, .lines, .mc, .cache, .cw, .groups, .ops, .solves, .dies, .chanters, .stops, .chans, .ev, .health, .out] s s := Only.refl _ _
  unfold execWriteClosedTimer
  repeat' first | with_reducible assumption | intro _ | with_reducible apply Only.retry | with_reducible apply Only.setClosed | with_reducible apply Only.foldl | with_reducible apply Only.foldl_snd | with_reducible apply OnlyX.next | extract_lets | with_reducible refine Only.ite ?_ ?_ | split | decide
theorem execRebuildRowSolve_only (x0 : Nat) (x1 : List SlotSolve) (s : State) : OnlyX [.modes, .ports, .insts, .ctxs, .live, .jrn, .lines, .mc, .cache, .cw, .groups, .ops, .solves, .dies, .chanters, .stops, .chans, .ev, .health, .out] s (execRebuildRowSolve x0 x1 s) := by
  unfold execRebuildRowSolve
  split
  · exact .next (.refl _ _)
  · split
    · exact .next (.refl _ _)
    · split
      · exact .next ((Only.refl _ _).rebuildEnd (by decide) _)
      · split
        · exact .next (.refl _ _)
        · rename_i t ht
          obtain ⟨m, _, hm⟩ := Option.bind_eq_some_iff.mp ht
          have := State.rebuildRow_only _ _ _ _ _ _ _ hm
          exact .next ((Only.ite (fun _ => Only.rebuildEnd ((Only.refl _ s).step this (by decide)) (by decide) _) (fun _ => (Only.refl _ s).step this (by decide))).retry (by decide))
theorem execBaySwitchStatusPoll_only (x0 : LinkId) (x1 : BayStatus) (s : State) : OnlyX [.modes, .spares, .ports, .insts, .ctxs, .live, .jrn, .lines, .mc, .cache, .cw, .groups, .ops, .solves, .dies, .chanters, .links, .pods, .stops, .chans, .ev, .health, .out] s (execBaySwitchStatusPoll x0 x1 s) := by
  have h : Only [.modes, .spares, .ports, .insts, .ctxs, .live, .jrn, .lines, .mc, .cache, .cw, .groups, .ops, .solves, .dies, .chanters, .links, .pods, .stops, .chans, .ev, .health, .out] s s := Only.refl _ _
  unfold execBaySwitchStatusPoll
  repeat' first | with_reducible assumption | intro _ | with_reducible apply Only.bayStatus | with_reducible apply Only.foldl | with_reducible apply Only.foldl_snd | with_reducible apply OnlyX.next | extract_lets | with_reducible refine Only.ite ?_ ?_ | split | decide
theorem execDroneWindow_only (x0 : Nat) (x1 : Nat) (x2 : List (Nat × Nat)) (s : State) : OnlyX [.drones, .ev] s (execDroneWindow x0 x1 x2 s) := by
  have h : Only [.drones, .ev] s s := Only.refl _ _
  unfold execDroneWindow
  repeat' first | with_reducible assumption | intro _ | with_reducible apply Only.each | with_reducible apply Only.noteLag | with_reducible apply Only.modDrone | with_reducible apply Only.foldl | with_reducible apply Only.foldl_snd | with_reducible apply OnlyX.next | extract_lets | with_reducible refine Only.ite ?_ ?_ | split | decide
theorem execPatrolScrub_only (x0 : Fin 16) (x1 : Nat) (x2 : Nat) (x3 : List ScrubFind) (s : State) : OnlyX [.modes, .ports, .insts, .ctxs, .live, .jrn, .lines, .mc, .groups, .dies, .chanters, .stops, .chans, .ev, .health, .out] s (execPatrolScrub x0 x1 x2 x3 s) := by
  have h : Only [.modes, .ports, .insts, .ctxs, .live, .jrn, .lines, .mc, .groups, .dies, .chanters, .stops, .chans, .ev, .health, .out] s s := Only.refl _ _
  unfold execPatrolScrub
  repeat' first | with_reducible assumption | intro _ | with_reducible apply Only.scrubFind | with_reducible apply Only.scrubOn | with_reducible apply Only.testRow | with_reducible apply Only.foldl | with_reducible apply Only.foldl_snd | with_reducible apply OnlyX.next | extract_lets | with_reducible refine Only.ite ?_ ?_ | split | decide
theorem execLinkAdaptation_only (x0 : LinkId) (s : State) : OnlyX [.links] s (execLinkAdaptation x0 s) := by
  have h : Only [.links] s s := Only.refl _ _
  unfold execLinkAdaptation
  repeat' first | with_reducible assumption | intro _ | with_reducible apply Only.modLink | with_reducible apply Only.foldl | with_reducible apply Only.foldl_snd | with_reducible apply OnlyX.next | extract_lets | with_reducible refine Only.ite ?_ ?_ | split | decide
theorem execPodStatsRead_only (x0 : LinkId) (x1 : Fin 18) (x2 : Nat) (x3 : Nat) (s : State) : OnlyX [.dies] s (execPodStatsRead x0 x1 x2 x3 s) := by
  have h : Only [.dies] s s := Only.refl _ _
  unfold execPodStatsRead
  repeat' first | with_reducible assumption | intro _ | with_reducible apply Only.modDie | with_reducible apply Only.foldl | with_reducible apply Only.foldl_snd | with_reducible apply OnlyX.next | extract_lets | with_reducible refine Only.ite ?_ ?_ | split | decide
theorem execEventRecorderTake_only (s : State) : OnlyX [.ev] s (execEventRecorderTake s) := by
  have h : Only [.ev] s s := Only.refl _ _
  unfold execEventRecorderTake
  repeat' first | with_reducible assumption | intro _ | with_reducible apply Only.foldl | with_reducible apply Only.foldl_snd | with_reducible apply OnlyX.next | (with_reducible apply Only.upd_ev; first | with_reducible assumption | with_reducible apply Only.foldl | with_reducible apply Only.foldl_snd | with_reducible apply OnlyX.next | with_reducible refine Only.ite ?_ ?_) | extract_lets | with_reducible refine Only.ite ?_ ?_ | split | decide
theorem execStopEndFrame_only (x0 : StopId) (x1 : OutFrame) (s : State) : OnlyX [.ports, .insts, .ctxs, .live, .jrn, .cache, .stops, .store, .chans, .ev, .health, .out] s (execStopEndFrame x0 x1 s) := by
  have h : Only [.ports, .insts, .ctxs, .live, .jrn, .cache, .stops, .store, .chans, .ev, .health, .out] s s := Only.refl _ _
  unfold execStopEndFrame
  repeat' first | with_reducible assumption | intro _ | with_reducible apply Only.egress | with_reducible apply Only.ofCommand | with_reducible apply Only.computeEnd | with_reducible apply Only.foldl | with_reducible apply Only.foldl_snd | with_reducible apply OnlyX.next | extract_lets | with_reducible refine Only.ite ?_ ?_ | split | decide
theorem execStopMoverOut_only (x0 : StopId) (x1 : OutFrame) (s : State) : OnlyX [.ports, .insts, .ctxs, .jrn, .stops, .chans, .ev, .health, .out] s (execStopMoverOut x0 x1 s) := by
  have h : Only [.ports, .insts, .ctxs, .jrn, .stops, .chans, .ev, .health, .out] s s := Only.refl _ _
  unfold execStopMoverOut
  repeat' first | with_reducible assumption | intro _ | with_reducible apply Only.egress | with_reducible apply Only.stopViolation | with_reducible apply Only.used | with_reducible apply Only.modChan | with_reducible apply Only.foldl | with_reducible apply Only.foldl_snd | with_reducible apply OnlyX.next | extract_lets | with_reducible refine Only.ite ?_ ?_ | split | decide
theorem execStopControlResponse_only (x0 : StopId) (x1 : Fin 16) (x2 : W64) (x3 : Bool) (s : State) : OnlyX [.ports, .insts, .ctxs, .live, .jrn, .stops, .store, .chans, .ev, .health, .out] s (execStopControlResponse x0 x1 x2 x3 s) := by
  have h : Only [.ports, .insts, .ctxs, .live, .jrn, .stops, .store, .chans, .ev, .health, .out] s s := Only.refl _ _
  unfold execStopControlResponse
  repeat' first | with_reducible assumption | intro _ | with_reducible apply Only.stopViolation | with_reducible apply Only.ctlAnswer | with_reducible apply Only.foldl | with_reducible apply Only.foldl_snd | with_reducible apply OnlyX.next | extract_lets | with_reducible refine Only.ite ?_ ?_ | split | decide
theorem execStopDrainAck_only (x0 : StopId) (s : State) : OnlyX [.ports, .insts, .ctxs, .live, .jrn, .stops, .store, .chans, .health, .out] s (execStopDrainAck x0 s) := by
  have h : Only [.ports, .insts, .ctxs, .live, .jrn, .stops, .store, .chans, .health, .out] s s := Only.refl _ _
  unfold execStopDrainAck
  repeat' first | with_reducible assumption | intro _ | with_reducible apply Only.checkDrain | with_reducible apply Only.modStop | with_reducible apply Only.foldl | with_reducible apply Only.foldl_snd | with_reducible apply OnlyX.next | extract_lets | with_reducible refine Only.ite ?_ ?_ | split | decide
theorem execStopDrainLimitExpiry_only (x0 : StopId) (s : State) : OnlyX [.now, .ports, .insts, .ctxs, .live, .jrn, .stops, .store, .chans, .health, .out] s (execStopDrainLimitExpiry x0 s) := by
  have h : Only [.now, .ports, .insts, .ctxs, .live, .jrn, .stops, .store, .chans, .health, .out] s s := Only.refl _ _
  unfold execStopDrainLimitExpiry
  repeat' first | with_reducible assumption | intro _ | with_reducible apply Only.endDrain | with_reducible apply Only.notBefore | with_reducible apply Only.foldl | with_reducible apply Only.foldl_snd | with_reducible apply OnlyX.next | extract_lets | with_reducible refine Only.ite ?_ ?_ | split | decide
theorem execStopXformTimeout_only (x0 : StopId) (x1 : Nat) (s : State) : OnlyX [.now, .ports, .insts, .ctxs, .jrn, .stops, .chans, .ev, .health, .out] s (execStopXformTimeout x0 x1 s) := by
  have h : Only [.now, .ports, .insts, .ctxs, .jrn, .stops, .chans, .ev, .health, .out] s s := Only.refl _ _
  unfold execStopXformTimeout
  repeat' first | with_reducible assumption | intro _ | with_reducible apply Only.xformFault | with_reducible apply Only.notBefore | with_reducible apply Only.foldl | with_reducible apply Only.foldl_snd | with_reducible apply OnlyX.next | extract_lets | with_reducible refine Only.ite ?_ ?_ | split | decide
theorem execStopComputeTimeout_only (x0 : StopId) (x1 : Nat) (s : State) : OnlyX [.now, .ports, .insts, .ctxs, .live, .jrn, .stops, .store, .chans, .ev, .health, .out] s (execStopComputeTimeout x0 x1 s) := by
  have h : Only [.now, .ports, .insts, .ctxs, .live, .jrn, .stops, .store, .chans, .ev, .health, .out] s s := Only.refl _ _
  unfold execStopComputeTimeout
  repeat' first | with_reducible assumption | intro _ | with_reducible apply Only.emit | with_reducible apply Only.notBefore | with_reducible apply Only.markGone | with_reducible apply Only.endTag | with_reducible apply Only.complete | with_reducible apply Only.checkDrain | with_reducible apply Only.stopViolation | with_reducible apply Only.foldl | with_reducible apply Only.foldl_snd | with_reducible apply OnlyX.next | extract_lets | with_reducible refine Only.ite ?_ ?_ | split | decide
theorem execStopControlReadTimeout_only (x0 : StopId) (x1 : Fin 16) (s : State) : OnlyX [.now, .ports, .insts, .ctxs, .live, .jrn, .stops, .store, .chans, .ev, .health, .out] s (execStopControlReadTimeout x0 x1 s) := by
  have h : Only [.now, .ports, .insts, .ctxs, .live, .jrn, .stops, .store, .chans, .ev, .health, .out] s s := Only.refl _ _
  unfold execStopControlReadTimeout
  repeat' first | with_reducible assumption | intro _ | with_reducible apply Only.ctlAnswer | with_reducible apply Only.stopViolation | with_reducible apply Only.notBefore | with_reducible apply Only.foldl | with_reducible apply Only.foldl_snd | with_reducible apply OnlyX.next | extract_lets | with_reducible refine Only.ite ?_ ?_ | split | decide
theorem execStopConfigWritten_only (x0 : StopId) (x1 : List Nat) (s : State) : OnlyX [.part, .spares, .ports, .insts, .ctxs, .live, .jrn, .lines, .mc, .cw, .ops, .solves, .dies, .chanters, .stops, .chans, .ev, .health, .out] s (execStopConfigWritten x0 x1 s) := by
  have h : Only [.part, .spares, .ports, .insts, .ctxs, .live, .jrn, .lines, .mc, .cw, .ops, .solves, .dies, .chanters, .stops, .chans, .ev, .health, .out] s s := Only.refl _ _
  unfold execStopConfigWritten
  repeat' first | with_reducible assumption | intro _ | with_reducible apply Only.columnsChecked | with_reducible apply Only.foldl | with_reducible apply Only.foldl_snd | with_reducible apply OnlyX.next | extract_lets | with_reducible refine Only.ite ?_ ?_ | split | decide
theorem execStopViolWindowRoll_only (s : State) : OnlyX [.stops] s (execStopViolWindowRoll s) := by
  have h : Only [.stops] s s := Only.refl _ _
  unfold execStopViolWindowRoll
  repeat' first | with_reducible assumption | intro _ | with_reducible apply Only.each | with_reducible apply Only.modStop | with_reducible apply Only.foldl | with_reducible apply Only.foldl_snd | with_reducible apply OnlyX.next | extract_lets | with_reducible refine Only.ite ?_ ?_ | split | decide
theorem execDmRingBaseWrite_only (x0 : MoverId) (x1 : ChanId) (x2 : W64) (s : State) : OnlyX [.chans] s (execDmRingBaseWrite x0 x1 x2 s) := by
  have h : Only [.chans] s s := Only.refl _ _
  unfold execDmRingBaseWrite
  repeat' first | with_reducible assumption | intro _ | with_reducible apply Only.onChan | with_reducible apply Only.writeBase | with_reducible apply Only.foldl | with_reducible apply Only.foldl_snd | with_reducible apply OnlyX.next | extract_lets | with_reducible refine Only.ite ?_ ?_ | split | decide
theorem execDmPaceRequestWrite_only (x0 : MoverId) (x1 : ChanId) (x2 : Bool) (s : State) : OnlyX [.ports, .insts, .ctxs, .jrn, .stops, .chans, .ev, .health, .out] s (execDmPaceRequestWrite x0 x1 x2 s) := by
  have h : Only [.ports, .insts, .ctxs, .jrn, .stops, .chans, .ev, .health, .out] s s := Only.refl _ _
  unfold execDmPaceRequestWrite
  repeat' first | with_reducible assumption | intro _ | with_reducible apply Only.onChan | with_reducible apply Only.writePace | with_reducible apply Only.foldl | with_reducible apply Only.foldl_snd | with_reducible apply OnlyX.next | extract_lets | with_reducible refine Only.ite ?_ ?_ | split | decide
theorem execDmCopy_only (x0 : MoverId) (x1 : ChanId) (s : State) : OnlyX [.ports, .insts, .ctxs, .nextCtx, .fetches, .jrn, .stops, .chans, .ev, .health, .out] s (execDmCopy x0 x1 s) := by
  have h : Only [.ports, .insts, .ctxs, .nextCtx, .fetches, .jrn, .stops, .chans, .ev, .health, .out] s s := Only.refl _ _
  unfold execDmCopy
  repeat' first | with_reducible assumption | intro _ | with_reducible apply Only.takeDesc | with_reducible apply Only.foldl | with_reducible apply Only.foldl_snd | with_reducible apply OnlyX.next | extract_lets | with_reducible refine Only.ite ?_ ?_ | split | decide
theorem execDmCheck_only (x0 : MoverId) (x1 : ChanId) (s : State) : OnlyX [.ports, .insts, .ctxs, .nextCtx, .fetches, .jrn, .stops, .chans, .ev, .health, .out] s (execDmCheck x0 x1 s) := by
  have h : Only [.ports, .insts, .ctxs, .nextCtx, .fetches, .jrn, .stops, .chans, .ev, .health, .out] s s := Only.refl _ _
  unfold execDmCheck
  repeat' first | with_reducible assumption | intro _ | with_reducible apply Only.takeDesc | with_reducible apply Only.foldl | with_reducible apply Only.foldl_snd | with_reducible apply OnlyX.next | extract_lets | with_reducible refine Only.ite ?_ ?_ | split | decide
theorem execDmFenceReadComplete_only (x0 : MoverId) (x1 : ChanId) (s : State) : OnlyX [.ports, .insts, .ctxs, .nextCtx, .fetches, .jrn, .stops, .chans, .ev, .health, .out] s (execDmFenceReadComplete x0 x1 s) := by
  have h : Only [.ports, .insts, .ctxs, .nextCtx, .fetches, .jrn, .stops, .chans, .ev, .health, .out] s s := Only.refl _ _
  unfold execDmFenceReadComplete
  repeat' first | with_reducible assumption | intro _ | with_reducible apply Only.modChan | with_reducible apply Only.endDesc | with_reducible apply Only.beginDesc | with_reducible apply Only.foldl | with_reducible apply Only.foldl_snd | with_reducible apply OnlyX.next | extract_lets | with_reducible refine Only.ite ?_ ?_ | split | decide
theorem execDmRingReadFailure_only (x0 : MoverId) (x1 : ChanId) (s : State) : OnlyX [.chans, .out] s (execDmRingReadFailure x0 x1 s) := by
  have h : Only [.chans, .out] s s := Only.refl _ _
  unfold execDmRingReadFailure
  repeat' first | with_reducible assumption | intro _ | with_reducible apply Only.haltChan | with_reducible apply Only.foldl | with_reducible apply Only.foldl_snd | with_reducible apply OnlyX.next | extract_lets | with_reducible refine Only.ite ?_ ?_ | split | decide
theorem execIngressBeatAccepted_only (x0 : StopId) (x1 : Option ChanId) (x2 : Nat) (x3 : Nat) (s : State) : OnlyX [.ports, .insts, .ctxs, .nextCtx, .fetches, .jrn, .stops, .chans, .ev, .health, .out] s (execIngressBeatAccepted x0 x1 x2 x3 s) := by
  have h : Only [.ports, .insts, .ctxs, .nextCtx, .fetches, .jrn, .stops, .chans, .ev, .health, .out] s s := Only.refl _ _
  unfold execIngressBeatAccepted
  repeat' first | with_reducible assumption | intro _ | with_reducible apply Only.modStop | with_reducible apply Only.modChan | with_reducible apply Only.afterBurst | with_reducible apply Only.modStopCmd | with_reducible apply Only.foldl | with_reducible apply Only.foldl_snd | with_reducible apply OnlyX.next | extract_lets | with_reducible refine Only.ite ?_ ?_ | split | decide
theorem execPowerStateEntryComplete_only (s : State) : OnlyX [.modes, .part, .ports, .insts, .ctxs, .live, .sealed, .jrn, .lines, .mc, .cache, .cw, .groups, .ops, .solves, .dies, .chanters, .stops, .chans, .ev, .health, .out] s (execPowerStateEntryComplete s) := by
  have h : Only [.modes, .part, .ports, .insts, .ctxs, .live, .sealed, .jrn, .lines, .mc, .cache, .cw, .groups, .ops, .solves, .dies, .chanters, .stops, .chans, .ev, .health, .out] s s := Only.refl _ _
  unfold execPowerStateEntryComplete
  repeat' first | with_reducible assumption | intro _ | with_reducible apply Only.modModes | with_reducible apply Only.sealNow | with_reducible apply Only.foldl | with_reducible apply Only.foldl_snd | with_reducible apply OnlyX.next | extract_lets | with_reducible refine Only.ite ?_ ?_ | split | decide
theorem execBellowsTestDeadline_only (s : State) : OnlyX [.now, .pw] s (execBellowsTestDeadline s) := by
  have h : Only [.now, .pw] s s := Only.refl _ _
  unfold execBellowsTestDeadline
  repeat' first | with_reducible assumption | intro _ | with_reducible apply Only.testStep2 | with_reducible apply Only.notBefore | with_reducible apply Only.foldl | with_reducible apply Only.foldl_snd | with_reducible apply OnlyX.next | extract_lets | with_reducible refine Only.ite ?_ ?_ | split | decide

end Sys2Proof.Machine
end

