-- ==== Sys2Proof/Laws/State.lean ====
section
/-! SUPPORT. What each update of the state leaves, field by field. -/
namespace Sys2Proof.Machine

/-! ## Tables -/

@[simp] theorem Tbl.get_set {α : Type} (t : Tbl α) (d v : α) (k j : Nat) : Tbl.get (Tbl.set t k v) d j = if j = k then v else Tbl.get t d j := by
  unfold Tbl.set
  simp only [Tbl.get]
  split
  · rename_i h; simp [h]
  · rename_i h
    have hj : ¬ j = k := fun e => h e.symm
    simp only [hj, if_false]
    unfold Tbl.erase
    induction t with
    | nil => rfl
    | cons a r ih =>
      simp only [List.filter]
      by_cases ha : a.1 = k
      · simp only [ha, beq_self_eq_true, Bool.not_true, ih, Tbl.get, if_neg h]
      · have hb : (!(a.1 == k)) = true := by simp [ha]
        simp only [hb, Tbl.get, ih]
@[simp] theorem Tbl.find_set {α : Type} (t : Tbl α) (v : α) (k j : Nat) : Tbl.find (Tbl.set t k v) j = if j = k then some v else Tbl.find t j := by
  unfold Tbl.set
  simp only [Tbl.find]
  split
  · rename_i h; simp [h]
  · rename_i h
    have hj : ¬ j = k := fun e => h e.symm
    simp only [hj, if_false]
    unfold Tbl.erase
    induction t with
    | nil => rfl
    | cons a r ih =>
      simp only [List.filter]
      by_cases ha : a.1 = k
      · simp only [ha, beq_self_eq_true, Bool.not_true, ih, Tbl.find, if_neg h]
      · have hb : (!(a.1 == k)) = true := by simp [ha]
        simp only [hb, Tbl.find, ih]

/-! ## Rows of the keyed tables -/

@[simp] theorem State.modPort_port (p : Nat) (f : Port → Port) (j : Nat) (s : State) : (s.modPort p f).port j = if j = p then f (s.port p) else s.port j := by simp [State.modPort, State.port]
@[simp] theorem State.modPort_now (p : Nat) (f : Port → Port) (s : State) : (s.modPort p f).now = s.now := rfl
@[simp] theorem State.modPort_modes (p : Nat) (f : Port → Port) (s : State) : (s.modPort p f).modes = s.modes := rfl
@[simp] theorem State.modPort_pw (p : Nat) (f : Port → Port) (s : State) : (s.modPort p f).pw = s.pw := rfl
@[simp] theorem State.modPort_part (p : Nat) (f : Port → Port) (s : State) : (s.modPort p f).part = s.part := rfl
@[simp] theorem State.modPort_keep (p : Nat) (f : Port → Port) (s : State) : (s.modPort p f).keep = s.keep := rfl
@[simp] theorem State.modPort_otp (p : Nat) (f : Port → Port) (s : State) : (s.modPort p f).otp = s.otp := rfl
@[simp] theorem State.modPort_flash (p : Nat) (f : Port → Port) (s : State) : (s.modPort p f).flash = s.flash := rfl
@[simp] theorem State.modPort_format (p : Nat) (f : Port → Port) (s : State) : (s.modPort p f).format = s.format := rfl
@[simp] theorem State.modPort_spares (p : Nat) (f : Port → Port) (s : State) : (s.modPort p f).spares = s.spares := rfl
@[simp] theorem State.modPort_insts (p : Nat) (f : Port → Port) (s : State) : (s.modPort p f).insts = s.insts := rfl
@[simp] theorem State.modPort_ctxs (p : Nat) (f : Port → Port) (s : State) : (s.modPort p f).ctxs = s.ctxs := rfl
@[simp] theorem State.modPort_ended (p : Nat) (f : Port → Port) (s : State) : (s.modPort p f).ended = s.ended := rfl
@[simp] theorem State.modPort_nextCtx (p : Nat) (f : Port → Port) (s : State) : (s.modPort p f).nextCtx = s.nextCtx := rfl
@[simp] theorem State.modPort_fetches (p : Nat) (f : Port → Port) (s : State) : (s.modPort p f).fetches = s.fetches := rfl
@[simp] theorem State.modPort_bells (p : Nat) (f : Port → Port) (s : State) : (s.modPort p f).bells = s.bells := rfl
@[simp] theorem State.modPort_live (p : Nat) (f : Port → Port) (s : State) : (s.modPort p f).live = s.live := rfl
@[simp] theorem State.modPort_sealed (p : Nat) (f : Port → Port) (s : State) : (s.modPort p f).sealed = s.sealed := rfl
@[simp] theorem State.modPort_jrn (p : Nat) (f : Port → Port) (s : State) : (s.modPort p f).jrn = s.jrn := rfl
@[simp] theorem State.modPort_vault (p : Nat) (f : Port → Port) (s : State) : (s.modPort p f).vault = s.vault := rfl
@[simp] theorem State.modPort_lines (p : Nat) (f : Port → Port) (s : State) : (s.modPort p f).lines = s.lines := rfl
@[simp] theorem State.modPort_lends (p : Nat) (f : Port → Port) (s : State) : (s.modPort p f).lends = s.lends := rfl
@[simp] theorem State.modPort_mc (p : Nat) (f : Port → Port) (s : State) : (s.modPort p f).mc = s.mc := rfl
@[simp] theorem State.modPort_cache (p : Nat) (f : Port → Port) (s : State) : (s.modPort p f).cache = s.cache := rfl
@[simp] theorem State.modPort_cw (p : Nat) (f : Port → Port) (s : State) : (s.modPort p f).cw = s.cw := rfl
@[simp] theorem State.modPort_groups (p : Nat) (f : Port → Port) (s : State) : (s.modPort p f).groups = s.groups := rfl
@[simp] theorem State.modPort_ops (p : Nat) (f : Port → Port) (s : State) : (s.modPort p f).ops = s.ops := rfl
@[simp] theorem State.modPort_solves (p : Nat) (f : Port → Port) (s : State) : (s.modPort p f).solves = s.solves := rfl
@[simp] theorem State.modPort_dies (p : Nat) (f : Port → Port) (s : State) : (s.modPort p f).dies = s.dies := rfl
@[simp] theorem State.modPort_chanters (p : Nat) (f : Port → Port) (s : State) : (s.modPort p f).chanters = s.chanters := rfl
@[simp] theorem State.modPort_links (p : Nat) (f : Port → Port) (s : State) : (s.modPort p f).links = s.links := rfl
@[simp] theorem State.modPort_pods (p : Nat) (f : Port → Port) (s : State) : (s.modPort p f).pods = s.pods := rfl
@[simp] theorem State.modPort_stops (p : Nat) (f : Port → Port) (s : State) : (s.modPort p f).stops = s.stops := rfl
@[simp] theorem State.modPort_store (p : Nat) (f : Port → Port) (s : State) : (s.modPort p f).store = s.store := rfl
@[simp] theorem State.modPort_chans (p : Nat) (f : Port → Port) (s : State) : (s.modPort p f).chans = s.chans := rfl
@[simp] theorem State.modPort_drones (p : Nat) (f : Port → Port) (s : State) : (s.modPort p f).drones = s.drones := rfl
@[simp] theorem State.modPort_ev (p : Nat) (f : Port → Port) (s : State) : (s.modPort p f).ev = s.ev := rfl
@[simp] theorem State.modPort_health (p : Nat) (f : Port → Port) (s : State) : (s.modPort p f).health = s.health := rfl
@[simp] theorem State.modPort_mech (p : Nat) (f : Port → Port) (s : State) : (s.modPort p f).mech = s.mech := rfl
@[simp] theorem State.modPort_free (p : Nat) (f : Port → Port) (s : State) : (s.modPort p f).free = s.free := rfl
@[simp] theorem State.modPort_out (p : Nat) (f : Port → Port) (s : State) : (s.modPort p f).out = s.out := rfl
@[simp] theorem State.modPort_pending (p : Nat) (f : Port → Port) (s : State) : (s.modPort p f).pending = s.pending := rfl
@[simp] theorem State.modPort_inst_row (p : Nat) (f : Port → Port) (j : Nat) (s : State) : (s.modPort p f).inst j = s.inst j := rfl
@[simp] theorem State.modPort_die_row (p : Nat) (f : Port → Port) (j : Nat) (s : State) : (s.modPort p f).die j = s.die j := rfl
@[simp] theorem State.modPort_link_row (p : Nat) (f : Port → Port) (j : Nat) (s : State) : (s.modPort p f).link j = s.link j := rfl
@[simp] theorem State.modPort_pod_row (p : Nat) (f : Port → Port) (j : Nat) (s : State) : (s.modPort p f).pod j = s.pod j := rfl
@[simp] theorem State.modPort_chanter_row (p : Nat) (f : Port → Port) (j : Nat) (s : State) : (s.modPort p f).chanter j = s.chanter j := rfl
@[simp] theorem State.modPort_group_row (p : Nat) (f : Port → Port) (j : Nat) (s : State) : (s.modPort p f).group j = s.group j := rfl
@[simp] theorem State.modPort_stop_row (p : Nat) (f : Port → Port) (j : Nat) (s : State) : (s.modPort p f).stop j = s.stop j := rfl
@[simp] theorem State.modPort_chan_row (p : Nat) (f : Port → Port) (j : Nat) (s : State) : (s.modPort p f).chan j = s.chan j := rfl
@[simp] theorem State.modPort_drone_row (p : Nat) (f : Port → Port) (j : Nat) (s : State) : (s.modPort p f).drone j = s.drone j := rfl
@[simp] theorem State.modInst_inst (k : Nat) (f : Inst → Inst) (j : Nat) (s : State) : (s.modInst k f).inst j = if j = k then f (s.inst k) else s.inst j := by simp [State.modInst, State.inst]
@[simp] theorem State.modInst_now (k : Nat) (f : Inst → Inst) (s : State) : (s.modInst k f).now = s.now := rfl
@[simp] theorem State.modInst_modes (k : Nat) (f : Inst → Inst) (s : State) : (s.modInst k f).modes = s.modes := rfl
@[simp] theorem State.modInst_pw (k : Nat) (f : Inst → Inst) (s : State) : (s.modInst k f).pw = s.pw := rfl
@[simp] theorem State.modInst_part (k : Nat) (f : Inst → Inst) (s : State) : (s.modInst k f).part = s.part := rfl
@[simp] theorem State.modInst_keep (k : Nat) (f : Inst → Inst) (s : State) : (s.modInst k f).keep = s.keep := rfl
@[simp] theorem State.modInst_otp (k : Nat) (f : Inst → Inst) (s : State) : (s.modInst k f).otp = s.otp := rfl
@[simp] theorem State.modInst_flash (k : Nat) (f : Inst → Inst) (s : State) : (s.modInst k f).flash = s.flash := rfl
@[simp] theorem State.modInst_format (k : Nat) (f : Inst → Inst) (s : State) : (s.modInst k f).format = s.format := rfl
@[simp] theorem State.modInst_spares (k : Nat) (f : Inst → Inst) (s : State) : (s.modInst k f).spares = s.spares := rfl
@[simp] theorem State.modInst_ports (k : Nat) (f : Inst → Inst) (s : State) : (s.modInst k f).ports = s.ports := rfl
@[simp] theorem State.modInst_ctxs (k : Nat) (f : Inst → Inst) (s : State) : (s.modInst k f).ctxs = s.ctxs := rfl
@[simp] theorem State.modInst_ended (k : Nat) (f : Inst → Inst) (s : State) : (s.modInst k f).ended = s.ended := rfl
@[simp] theorem State.modInst_nextCtx (k : Nat) (f : Inst → Inst) (s : State) : (s.modInst k f).nextCtx = s.nextCtx := rfl
@[simp] theorem State.modInst_fetches (k : Nat) (f : Inst → Inst) (s : State) : (s.modInst k f).fetches = s.fetches := rfl
@[simp] theorem State.modInst_bells (k : Nat) (f : Inst → Inst) (s : State) : (s.modInst k f).bells = s.bells := rfl
@[simp] theorem State.modInst_live (k : Nat) (f : Inst → Inst) (s : State) : (s.modInst k f).live = s.live := rfl
@[simp] theorem State.modInst_sealed (k : Nat) (f : Inst → Inst) (s : State) : (s.modInst k f).sealed = s.sealed := rfl
@[simp] theorem State.modInst_jrn (k : Nat) (f : Inst → Inst) (s : State) : (s.modInst k f).jrn = s.jrn := rfl
@[simp] theorem State.modInst_vault (k : Nat) (f : Inst → Inst) (s : State) : (s.modInst k f).vault = s.vault := rfl
@[simp] theorem State.modInst_lines (k : Nat) (f : Inst → Inst) (s : State) : (s.modInst k f).lines = s.lines := rfl
@[simp] theorem State.modInst_lends (k : Nat) (f : Inst → Inst) (s : State) : (s.modInst k f).lends = s.lends := rfl
@[simp] theorem State.modInst_mc (k : Nat) (f : Inst → Inst) (s : State) : (s.modInst k f).mc = s.mc := rfl
@[simp] theorem State.modInst_cache (k : Nat) (f : Inst → Inst) (s : State) : (s.modInst k f).cache = s.cache := rfl
@[simp] theorem State.modInst_cw (k : Nat) (f : Inst → Inst) (s : State) : (s.modInst k f).cw = s.cw := rfl
@[simp] theorem State.modInst_groups (k : Nat) (f : Inst → Inst) (s : State) : (s.modInst k f).groups = s.groups := rfl
@[simp] theorem State.modInst_ops (k : Nat) (f : Inst → Inst) (s : State) : (s.modInst k f).ops = s.ops := rfl
@[simp] theorem State.modInst_solves (k : Nat) (f : Inst → Inst) (s : State) : (s.modInst k f).solves = s.solves := rfl
@[simp] theorem State.modInst_dies (k : Nat) (f : Inst → Inst) (s : State) : (s.modInst k f).dies = s.dies := rfl
@[simp] theorem State.modInst_chanters (k : Nat) (f : Inst → Inst) (s : State) : (s.modInst k f).chanters = s.chanters := rfl
@[simp] theorem State.modInst_links (k : Nat) (f : Inst → Inst) (s : State) : (s.modInst k f).links = s.links := rfl
@[simp] theorem State.modInst_pods (k : Nat) (f : Inst → Inst) (s : State) : (s.modInst k f).pods = s.pods := rfl
@[simp] theorem State.modInst_stops (k : Nat) (f : Inst → Inst) (s : State) : (s.modInst k f).stops = s.stops := rfl
@[simp] theorem State.modInst_store (k : Nat) (f : Inst → Inst) (s : State) : (s.modInst k f).store = s.store := rfl
@[simp] theorem State.modInst_chans (k : Nat) (f : Inst → Inst) (s : State) : (s.modInst k f).chans = s.chans := rfl
@[simp] theorem State.modInst_drones (k : Nat) (f : Inst → Inst) (s : State) : (s.modInst k f).drones = s.drones := rfl
@[simp] theorem State.modInst_ev (k : Nat) (f : Inst → Inst) (s : State) : (s.modInst k f).ev = s.ev := rfl
@[simp] theorem State.modInst_health (k : Nat) (f : Inst → Inst) (s : State) : (s.modInst k f).health = s.health := rfl
@[simp] theorem State.modInst_mech (k : Nat) (f : Inst → Inst) (s : State) : (s.modInst k f).mech = s.mech := rfl
@[simp] theorem State.modInst_free (k : Nat) (f : Inst → Inst) (s : State) : (s.modInst k f).free = s.free := rfl
@[simp] theorem State.modInst_out (k : Nat) (f : Inst → Inst) (s : State) : (s.modInst k f).out = s.out := rfl
@[simp] theorem State.modInst_pending (k : Nat) (f : Inst → Inst) (s : State) : (s.modInst k f).pending = s.pending := rfl
@[simp] theorem State.modInst_port_row (k : Nat) (f : Inst → Inst) (j : Nat) (s : State) : (s.modInst k f).port j = s.port j := rfl
@[simp] theorem State.modInst_die_row (k : Nat) (f : Inst → Inst) (j : Nat) (s : State) : (s.modInst k f).die j = s.die j := rfl
@[simp] theorem State.modInst_link_row (k : Nat) (f : Inst → Inst) (j : Nat) (s : State) : (s.modInst k f).link j = s.link j := rfl
@[simp] theorem State.modInst_pod_row (k : Nat) (f : Inst → Inst) (j : Nat) (s : State) : (s.modInst k f).pod j = s.pod j := rfl
@[simp] theorem State.modInst_chanter_row (k : Nat) (f : Inst → Inst) (j : Nat) (s : State) : (s.modInst k f).chanter j = s.chanter j := rfl
@[simp] theorem State.modInst_group_row (k : Nat) (f : Inst → Inst) (j : Nat) (s : State) : (s.modInst k f).group j = s.group j := rfl
@[simp] theorem State.modInst_stop_row (k : Nat) (f : Inst → Inst) (j : Nat) (s : State) : (s.modInst k f).stop j = s.stop j := rfl
@[simp] theorem State.modInst_chan_row (k : Nat) (f : Inst → Inst) (j : Nat) (s : State) : (s.modInst k f).chan j = s.chan j := rfl
@[simp] theorem State.modInst_drone_row (k : Nat) (f : Inst → Inst) (j : Nat) (s : State) : (s.modInst k f).drone j = s.drone j := rfl
@[simp] theorem State.modDie_die (k : Nat) (f : Die → Die) (j : Nat) (s : State) : (s.modDie k f).die j = if j = k then f (s.die k) else s.die j := by simp [State.modDie, State.die]
@[simp] theorem State.modDie_now (k : Nat) (f : Die → Die) (s : State) : (s.modDie k f).now = s.now := rfl
@[simp] theorem State.modDie_modes (k : Nat) (f : Die → Die) (s : State) : (s.modDie k f).modes = s.modes := rfl
@[simp] theorem State.modDie_pw (k : Nat) (f : Die → Die) (s : State) : (s.modDie k f).pw = s.pw := rfl
@[simp] theorem State.modDie_part (k : Nat) (f : Die → Die) (s : State) : (s.modDie k f).part = s.part := rfl
@[simp] theorem State.modDie_keep (k : Nat) (f : Die → Die) (s : State) : (s.modDie k f).keep = s.keep := rfl
@[simp] theorem State.modDie_otp (k : Nat) (f : Die → Die) (s : State) : (s.modDie k f).otp = s.otp := rfl
@[simp] theorem State.modDie_flash (k : Nat) (f : Die → Die) (s : State) : (s.modDie k f).flash = s.flash := rfl
@[simp] theorem State.modDie_format (k : Nat) (f : Die → Die) (s : State) : (s.modDie k f).format = s.format := rfl
@[simp] theorem State.modDie_spares (k : Nat) (f : Die → Die) (s : State) : (s.modDie k f).spares = s.spares := rfl
@[simp] theorem State.modDie_ports (k : Nat) (f : Die → Die) (s : State) : (s.modDie k f).ports = s.ports := rfl
@[simp] theorem State.modDie_insts (k : Nat) (f : Die → Die) (s : State) : (s.modDie k f).insts = s.insts := rfl
@[simp] theorem State.modDie_ctxs (k : Nat) (f : Die → Die) (s : State) : (s.modDie k f).ctxs = s.ctxs := rfl
@[simp] theorem State.modDie_ended (k : Nat) (f : Die → Die) (s : State) : (s.modDie k f).ended = s.ended := rfl
@[simp] theorem State.modDie_nextCtx (k : Nat) (f : Die → Die) (s : State) : (s.modDie k f).nextCtx = s.nextCtx := rfl
@[simp] theorem State.modDie_fetches (k : Nat) (f : Die → Die) (s : State) : (s.modDie k f).fetches = s.fetches := rfl
@[simp] theorem State.modDie_bells (k : Nat) (f : Die → Die) (s : State) : (s.modDie k f).bells = s.bells := rfl
@[simp] theorem State.modDie_live (k : Nat) (f : Die → Die) (s : State) : (s.modDie k f).live = s.live := rfl
@[simp] theorem State.modDie_sealed (k : Nat) (f : Die → Die) (s : State) : (s.modDie k f).sealed = s.sealed := rfl
@[simp] theorem State.modDie_jrn (k : Nat) (f : Die → Die) (s : State) : (s.modDie k f).jrn = s.jrn := rfl
@[simp] theorem State.modDie_vault (k : Nat) (f : Die → Die) (s : State) : (s.modDie k f).vault = s.vault := rfl
@[simp] theorem State.modDie_lines (k : Nat) (f : Die → Die) (s : State) : (s.modDie k f).lines = s.lines := rfl
@[simp] theorem State.modDie_lends (k : Nat) (f : Die → Die) (s : State) : (s.modDie k f).lends = s.lends := rfl
@[simp] theorem State.modDie_mc (k : Nat) (f : Die → Die) (s : State) : (s.modDie k f).mc = s.mc := rfl
@[simp] theorem State.modDie_cache (k : Nat) (f : Die → Die) (s : State) : (s.modDie k f).cache = s.cache := rfl
@[simp] theorem State.modDie_cw (k : Nat) (f : Die → Die) (s : State) : (s.modDie k f).cw = s.cw := rfl
@[simp] theorem State.modDie_groups (k : Nat) (f : Die → Die) (s : State) : (s.modDie k f).groups = s.groups := rfl
@[simp] theorem State.modDie_ops (k : Nat) (f : Die → Die) (s : State) : (s.modDie k f).ops = s.ops := rfl
@[simp] theorem State.modDie_solves (k : Nat) (f : Die → Die) (s : State) : (s.modDie k f).solves = s.solves := rfl
@[simp] theorem State.modDie_chanters (k : Nat) (f : Die → Die) (s : State) : (s.modDie k f).chanters = s.chanters := rfl
@[simp] theorem State.modDie_links (k : Nat) (f : Die → Die) (s : State) : (s.modDie k f).links = s.links := rfl
@[simp] theorem State.modDie_pods (k : Nat) (f : Die → Die) (s : State) : (s.modDie k f).pods = s.pods := rfl
@[simp] theorem State.modDie_stops (k : Nat) (f : Die → Die) (s : State) : (s.modDie k f).stops = s.stops := rfl
@[simp] theorem State.modDie_store (k : Nat) (f : Die → Die) (s : State) : (s.modDie k f).store = s.store := rfl
@[simp] theorem State.modDie_chans (k : Nat) (f : Die → Die) (s : State) : (s.modDie k f).chans = s.chans := rfl
@[simp] theorem State.modDie_drones (k : Nat) (f : Die → Die) (s : State) : (s.modDie k f).drones = s.drones := rfl
@[simp] theorem State.modDie_ev (k : Nat) (f : Die → Die) (s : State) : (s.modDie k f).ev = s.ev := rfl
@[simp] theorem State.modDie_health (k : Nat) (f : Die → Die) (s : State) : (s.modDie k f).health = s.health := rfl
@[simp] theorem State.modDie_mech (k : Nat) (f : Die → Die) (s : State) : (s.modDie k f).mech = s.mech := rfl
@[simp] theorem State.modDie_free (k : Nat) (f : Die → Die) (s : State) : (s.modDie k f).free = s.free := rfl
@[simp] theorem State.modDie_out (k : Nat) (f : Die → Die) (s : State) : (s.modDie k f).out = s.out := rfl
@[simp] theorem State.modDie_pending (k : Nat) (f : Die → Die) (s : State) : (s.modDie k f).pending = s.pending := rfl
@[simp] theorem State.modDie_port_row (k : Nat) (f : Die → Die) (j : Nat) (s : State) : (s.modDie k f).port j = s.port j := rfl
@[simp] theorem State.modDie_inst_row (k : Nat) (f : Die → Die) (j : Nat) (s : State) : (s.modDie k f).inst j = s.inst j := rfl
@[simp] theorem State.modDie_link_row (k : Nat) (f : Die → Die) (j : Nat) (s : State) : (s.modDie k f).link j = s.link j := rfl
@[simp] theorem State.modDie_pod_row (k : Nat) (f : Die → Die) (j : Nat) (s : State) : (s.modDie k f).pod j = s.pod j := rfl
@[simp] theorem State.modDie_chanter_row (k : Nat) (f : Die → Die) (j : Nat) (s : State) : (s.modDie k f).chanter j = s.chanter j := rfl
@[simp] theorem State.modDie_group_row (k : Nat) (f : Die → Die) (j : Nat) (s : State) : (s.modDie k f).group j = s.group j := rfl
@[simp] theorem State.modDie_stop_row (k : Nat) (f : Die → Die) (j : Nat) (s : State) : (s.modDie k f).stop j = s.stop j := rfl
@[simp] theorem State.modDie_chan_row (k : Nat) (f : Die → Die) (j : Nat) (s : State) : (s.modDie k f).chan j = s.chan j := rfl
@[simp] theorem State.modDie_drone_row (k : Nat) (f : Die → Die) (j : Nat) (s : State) : (s.modDie k f).drone j = s.drone j := rfl
@[simp] theorem State.modLink_link (l : Nat) (f : Link → Link) (j : Nat) (s : State) : (s.modLink l f).link j = if j = l then f (s.link l) else s.link j := by simp [State.modLink, State.link]
@[simp] theorem State.modLink_now (l : Nat) (f : Link → Link) (s : State) : (s.modLink l f).now = s.now := rfl
@[simp] theorem State.modLink_modes (l : Nat) (f : Link → Link) (s : State) : (s.modLink l f).modes = s.modes := rfl
@[simp] theorem State.modLink_pw (l : Nat) (f : Link → Link) (s : State) : (s.modLink l f).pw = s.pw := rfl
@[simp] theorem State.modLink_part (l : Nat) (f : Link → Link) (s : State) : (s.modLink l f).part = s.part := rfl
@[simp] theorem State.modLink_keep (l : Nat) (f : Link → Link) (s : State) : (s.modLink l f).keep = s.keep := rfl
@[simp] theorem State.modLink_otp (l : Nat) (f : Link → Link) (s : State) : (s.modLink l f).otp = s.otp := rfl
@[simp] theorem State.modLink_flash (l : Nat) (f : Link → Link) (s : State) : (s.modLink l f).flash = s.flash := rfl
@[simp] theorem State.modLink_format (l : Nat) (f : Link → Link) (s : State) : (s.modLink l f).format = s.format := rfl
@[simp] theorem State.modLink_spares (l : Nat) (f : Link → Link) (s : State) : (s.modLink l f).spares = s.spares := rfl
@[simp] theorem State.modLink_ports (l : Nat) (f : Link → Link) (s : State) : (s.modLink l f).ports = s.ports := rfl
@[simp] theorem State.modLink_insts (l : Nat) (f : Link → Link) (s : State) : (s.modLink l f).insts = s.insts := rfl
@[simp] theorem State.modLink_ctxs (l : Nat) (f : Link → Link) (s : State) : (s.modLink l f).ctxs = s.ctxs := rfl
@[simp] theorem State.modLink_ended (l : Nat) (f : Link → Link) (s : State) : (s.modLink l f).ended = s.ended := rfl
@[simp] theorem State.modLink_nextCtx (l : Nat) (f : Link → Link) (s : State) : (s.modLink l f).nextCtx = s.nextCtx := rfl
@[simp] theorem State.modLink_fetches (l : Nat) (f : Link → Link) (s : State) : (s.modLink l f).fetches = s.fetches := rfl
@[simp] theorem State.modLink_bells (l : Nat) (f : Link → Link) (s : State) : (s.modLink l f).bells = s.bells := rfl
@[simp] theorem State.modLink_live (l : Nat) (f : Link → Link) (s : State) : (s.modLink l f).live = s.live := rfl
@[simp] theorem State.modLink_sealed (l : Nat) (f : Link → Link) (s : State) : (s.modLink l f).sealed = s.sealed := rfl
@[simp] theorem State.modLink_jrn (l : Nat) (f : Link → Link) (s : State) : (s.modLink l f).jrn = s.jrn := rfl
@[simp] theorem State.modLink_vault (l : Nat) (f : Link → Link) (s : State) : (s.modLink l f).vault = s.vault := rfl
@[simp] theorem State.modLink_lines (l : Nat) (f : Link → Link) (s : State) : (s.modLink l f).lines = s.lines := rfl
@[simp] theorem State.modLink_lends (l : Nat) (f : Link → Link) (s : State) : (s.modLink l f).lends = s.lends := rfl
@[simp] theorem State.modLink_mc (l : Nat) (f : Link → Link) (s : State) : (s.modLink l f).mc = s.mc := rfl
@[simp] theorem State.modLink_cache (l : Nat) (f : Link → Link) (s : State) : (s.modLink l f).cache = s.cache := rfl
@[simp] theorem State.modLink_cw (l : Nat) (f : Link → Link) (s : State) : (s.modLink l f).cw = s.cw := rfl
@[simp] theorem State.modLink_groups (l : Nat) (f : Link → Link) (s : State) : (s.modLink l f).groups = s.groups := rfl
@[simp] theorem State.modLink_ops (l : Nat) (f : Link → Link) (s : State) : (s.modLink l f).ops = s.ops := rfl
@[simp] theorem State.modLink_solves (l : Nat) (f : Link → Link) (s : State) : (s.modLink l f).solves = s.solves := rfl
@[simp] theorem State.modLink_dies (l : Nat) (f : Link → Link) (s : State) : (s.modLink l f).dies = s.dies := rfl
@[simp] theorem State.modLink_chanters (l : Nat) (f : Link → Link) (s : State) : (s.modLink l f).chanters = s.chanters := rfl
@[simp] theorem State.modLink_pods (l : Nat) (f : Link → Link) (s : State) : (s.modLink l f).pods = s.pods := rfl
@[simp] theorem State.modLink_stops (l : Nat) (f : Link → Link) (s : State) : (s.modLink l f).stops = s.stops := rfl
@[simp] theorem State.modLink_store (l : Nat) (f : Link → Link) (s : State) : (s.modLink l f).store = s.store := rfl
@[simp] theorem State.modLink_chans (l : Nat) (f : Link → Link) (s : State) : (s.modLink l f).chans = s.chans := rfl
@[simp] theorem State.modLink_drones (l : Nat) (f : Link → Link) (s : State) : (s.modLink l f).drones = s.drones := rfl
@[simp] theorem State.modLink_ev (l : Nat) (f : Link → Link) (s : State) : (s.modLink l f).ev = s.ev := rfl
@[simp] theorem State.modLink_health (l : Nat) (f : Link → Link) (s : State) : (s.modLink l f).health = s.health := rfl
@[simp] theorem State.modLink_mech (l : Nat) (f : Link → Link) (s : State) : (s.modLink l f).mech = s.mech := rfl
@[simp] theorem State.modLink_free (l : Nat) (f : Link → Link) (s : State) : (s.modLink l f).free = s.free := rfl
@[simp] theorem State.modLink_out (l : Nat) (f : Link → Link) (s : State) : (s.modLink l f).out = s.out := rfl
@[simp] theorem State.modLink_pending (l : Nat) (f : Link → Link) (s : State) : (s.modLink l f).pending = s.pending := rfl
@[simp] theorem State.modLink_port_row (l : Nat) (f : Link → Link) (j : Nat) (s : State) : (s.modLink l f).port j = s.port j := rfl
@[simp] theorem State.modLink_inst_row (l : Nat) (f : Link → Link) (j : Nat) (s : State) : (s.modLink l f).inst j = s.inst j := rfl
@[simp] theorem State.modLink_die_row (l : Nat) (f : Link → Link) (j : Nat) (s : State) : (s.modLink l f).die j = s.die j := rfl
@[simp] theorem State.modLink_pod_row (l : Nat) (f : Link → Link) (j : Nat) (s : State) : (s.modLink l f).pod j = s.pod j := rfl
@[simp] theorem State.modLink_chanter_row (l : Nat) (f : Link → Link) (j : Nat) (s : State) : (s.modLink l f).chanter j = s.chanter j := rfl
@[simp] theorem State.modLink_group_row (l : Nat) (f : Link → Link) (j : Nat) (s : State) : (s.modLink l f).group j = s.group j := rfl
@[simp] theorem State.modLink_stop_row (l : Nat) (f : Link → Link) (j : Nat) (s : State) : (s.modLink l f).stop j = s.stop j := rfl
@[simp] theorem State.modLink_chan_row (l : Nat) (f : Link → Link) (j : Nat) (s : State) : (s.modLink l f).chan j = s.chan j := rfl
@[simp] theorem State.modLink_drone_row (l : Nat) (f : Link → Link) (j : Nat) (s : State) : (s.modLink l f).drone j = s.drone j := rfl
@[simp] theorem State.modPod_pod (l : Nat) (f : Pod → Pod) (j : Nat) (s : State) : (s.modPod l f).pod j = if j = l then f (s.pod l) else s.pod j := by simp [State.modPod, State.pod]
@[simp] theorem State.modPod_now (l : Nat) (f : Pod → Pod) (s : State) : (s.modPod l f).now = s.now := rfl
@[simp] theorem State.modPod_modes (l : Nat) (f : Pod → Pod) (s : State) : (s.modPod l f).modes = s.modes := rfl
@[simp] theorem State.modPod_pw (l : Nat) (f : Pod → Pod) (s : State) : (s.modPod l f).pw = s.pw := rfl
@[simp] theorem State.modPod_part (l : Nat) (f : Pod → Pod) (s : State) : (s.modPod l f).part = s.part := rfl
@[simp] theorem State.modPod_keep (l : Nat) (f : Pod → Pod) (s : State) : (s.modPod l f).keep = s.keep := rfl
@[simp] theorem State.modPod_otp (l : Nat) (f : Pod → Pod) (s : State) : (s.modPod l f).otp = s.otp := rfl
@[simp] theorem State.modPod_flash (l : Nat) (f : Pod → Pod) (s : State) : (s.modPod l f).flash = s.flash := rfl
@[simp] theorem State.modPod_format (l : Nat) (f : Pod → Pod) (s : State) : (s.modPod l f).format = s.format := rfl
@[simp] theorem State.modPod_spares (l : Nat) (f : Pod → Pod) (s : State) : (s.modPod l f).spares = s.spares := rfl
@[simp] theorem State.modPod_ports (l : Nat) (f : Pod → Pod) (s : State) : (s.modPod l f).ports = s.ports := rfl
@[simp] theorem State.modPod_insts (l : Nat) (f : Pod → Pod) (s : State) : (s.modPod l f).insts = s.insts := rfl
@[simp] theorem State.modPod_ctxs (l : Nat) (f : Pod → Pod) (s : State) : (s.modPod l f).ctxs = s.ctxs := rfl
@[simp] theorem State.modPod_ended (l : Nat) (f : Pod → Pod) (s : State) : (s.modPod l f).ended = s.ended := rfl
@[simp] theorem State.modPod_nextCtx (l : Nat) (f : Pod → Pod) (s : State) : (s.modPod l f).nextCtx = s.nextCtx := rfl
@[simp] theorem State.modPod_fetches (l : Nat) (f : Pod → Pod) (s : State) : (s.modPod l f).fetches = s.fetches := rfl
@[simp] theorem State.modPod_bells (l : Nat) (f : Pod → Pod) (s : State) : (s.modPod l f).bells = s.bells := rfl
@[simp] theorem State.modPod_live (l : Nat) (f : Pod → Pod) (s : State) : (s.modPod l f).live = s.live := rfl
@[simp] theorem State.modPod_sealed (l : Nat) (f : Pod → Pod) (s : State) : (s.modPod l f).sealed = s.sealed := rfl
@[simp] theorem State.modPod_jrn (l : Nat) (f : Pod → Pod) (s : State) : (s.modPod l f).jrn = s.jrn := rfl
@[simp] theorem State.modPod_vault (l : Nat) (f : Pod → Pod) (s : State) : (s.modPod l f).vault = s.vault := rfl
@[simp] theorem State.modPod_lines (l : Nat) (f : Pod → Pod) (s : State) : (s.modPod l f).lines = s.lines := rfl
@[simp] theorem State.modPod_lends (l : Nat) (f : Pod → Pod) (s : State) : (s.modPod l f).lends = s.lends := rfl
@[simp] theorem State.modPod_mc (l : Nat) (f : Pod → Pod) (s : State) : (s.modPod l f).mc = s.mc := rfl
@[simp] theorem State.modPod_cache (l : Nat) (f : Pod → Pod) (s : State) : (s.modPod l f).cache = s.cache := rfl
@[simp] theorem State.modPod_cw (l : Nat) (f : Pod → Pod) (s : State) : (s.modPod l f).cw = s.cw := rfl
@[simp] theorem State.modPod_groups (l : Nat) (f : Pod → Pod) (s : State) : (s.modPod l f).groups = s.groups := rfl
@[simp] theorem State.modPod_ops (l : Nat) (f : Pod → Pod) (s : State) : (s.modPod l f).ops = s.ops := rfl
@[simp] theorem State.modPod_solves (l : Nat) (f : Pod → Pod) (s : State) : (s.modPod l f).solves = s.solves := rfl
@[simp] theorem State.modPod_dies (l : Nat) (f : Pod → Pod) (s : State) : (s.modPod l f).dies = s.dies := rfl
@[simp] theorem State.modPod_chanters (l : Nat) (f : Pod → Pod) (s : State) : (s.modPod l f).chanters = s.chanters := rfl
@[simp] theorem State.modPod_links (l : Nat) (f : Pod → Pod) (s : State) : (s.modPod l f).links = s.links := rfl
@[simp] theorem State.modPod_stops (l : Nat) (f : Pod → Pod) (s : State) : (s.modPod l f).stops = s.stops := rfl
@[simp] theorem State.modPod_store (l : Nat) (f : Pod → Pod) (s : State) : (s.modPod l f).store = s.store := rfl
@[simp] theorem State.modPod_chans (l : Nat) (f : Pod → Pod) (s : State) : (s.modPod l f).chans = s.chans := rfl
@[simp] theorem State.modPod_drones (l : Nat) (f : Pod → Pod) (s : State) : (s.modPod l f).drones = s.drones := rfl
@[simp] theorem State.modPod_ev (l : Nat) (f : Pod → Pod) (s : State) : (s.modPod l f).ev = s.ev := rfl
@[simp] theorem State.modPod_health (l : Nat) (f : Pod → Pod) (s : State) : (s.modPod l f).health = s.health := rfl
@[simp] theorem State.modPod_mech (l : Nat) (f : Pod → Pod) (s : State) : (s.modPod l f).mech = s.mech := rfl
@[simp] theorem State.modPod_free (l : Nat) (f : Pod → Pod) (s : State) : (s.modPod l f).free = s.free := rfl
@[simp] theorem State.modPod_out (l : Nat) (f : Pod → Pod) (s : State) : (s.modPod l f).out = s.out := rfl
@[simp] theorem State.modPod_pending (l : Nat) (f : Pod → Pod) (s : State) : (s.modPod l f).pending = s.pending := rfl
@[simp] theorem State.modPod_port_row (l : Nat) (f : Pod → Pod) (j : Nat) (s : State) : (s.modPod l f).port j = s.port j := rfl
@[simp] theorem State.modPod_inst_row (l : Nat) (f : Pod → Pod) (j : Nat) (s : State) : (s.modPod l f).inst j = s.inst j := rfl
@[simp] theorem State.modPod_die_row (l : Nat) (f : Pod → Pod) (j : Nat) (s : State) : (s.modPod l f).die j = s.die j := rfl
@[simp] theorem State.modPod_link_row (l : Nat) (f : Pod → Pod) (j : Nat) (s : State) : (s.modPod l f).link j = s.link j := rfl
@[simp] theorem State.modPod_chanter_row (l : Nat) (f : Pod → Pod) (j : Nat) (s : State) : (s.modPod l f).chanter j = s.chanter j := rfl
@[simp] theorem State.modPod_group_row (l : Nat) (f : Pod → Pod) (j : Nat) (s : State) : (s.modPod l f).group j = s.group j := rfl
@[simp] theorem State.modPod_stop_row (l : Nat) (f : Pod → Pod) (j : Nat) (s : State) : (s.modPod l f).stop j = s.stop j := rfl
@[simp] theorem State.modPod_chan_row (l : Nat) (f : Pod → Pod) (j : Nat) (s : State) : (s.modPod l f).chan j = s.chan j := rfl
@[simp] theorem State.modPod_drone_row (l : Nat) (f : Pod → Pod) (j : Nat) (s : State) : (s.modPod l f).drone j = s.drone j := rfl
@[simp] theorem State.modChanter_chanter (l : Nat) (f : Chanter → Chanter) (j : Nat) (s : State) : (s.modChanter l f).chanter j = if j = l then f (s.chanter l) else s.chanter j := by simp [State.modChanter, State.chanter]
@[simp] theorem State.modChanter_now (l : Nat) (f : Chanter → Chanter) (s : State) : (s.modChanter l f).now = s.now := rfl
@[simp] theorem State.modChanter_modes (l : Nat) (f : Chanter → Chanter) (s : State) : (s.modChanter l f).modes = s.modes := rfl
@[simp] theorem State.modChanter_pw (l : Nat) (f : Chanter → Chanter) (s : State) : (s.modChanter l f).pw = s.pw := rfl
@[simp] theorem State.modChanter_part (l : Nat) (f : Chanter → Chanter) (s : State) : (s.modChanter l f).part = s.part := rfl
@[simp] theorem State.modChanter_keep (l : Nat) (f : Chanter → Chanter) (s : State) : (s.modChanter l f).keep = s.keep := rfl
@[simp] theorem State.modChanter_otp (l : Nat) (f : Chanter → Chanter) (s : State) : (s.modChanter l f).otp = s.otp := rfl
@[simp] theorem State.modChanter_flash (l : Nat) (f : Chanter → Chanter) (s : State) : (s.modChanter l f).flash = s.flash := rfl
@[simp] theorem State.modChanter_format (l : Nat) (f : Chanter → Chanter) (s : State) : (s.modChanter l f).format = s.format := rfl
@[simp] theorem State.modChanter_spares (l : Nat) (f : Chanter → Chanter) (s : State) : (s.modChanter l f).spares = s.spares := rfl
@[simp] theorem State.modChanter_ports (l : Nat) (f : Chanter → Chanter) (s : State) : (s.modChanter l f).ports = s.ports := rfl
@[simp] theorem State.modChanter_insts (l : Nat) (f : Chanter → Chanter) (s : State) : (s.modChanter l f).insts = s.insts := rfl
@[simp] theorem State.modChanter_ctxs (l : Nat) (f : Chanter → Chanter) (s : State) : (s.modChanter l f).ctxs = s.ctxs := rfl
@[simp] theorem State.modChanter_ended (l : Nat) (f : Chanter → Chanter) (s : State) : (s.modChanter l f).ended = s.ended := rfl
@[simp] theorem State.modChanter_nextCtx (l : Nat) (f : Chanter → Chanter) (s : State) : (s.modChanter l f).nextCtx = s.nextCtx := rfl
@[simp] theorem State.modChanter_fetches (l : Nat) (f : Chanter → Chanter) (s : State) : (s.modChanter l f).fetches = s.fetches := rfl
@[simp] theorem State.modChanter_bells (l : Nat) (f : Chanter → Chanter) (s : State) : (s.modChanter l f).bells = s.bells := rfl
@[simp] theorem State.modChanter_live (l : Nat) (f : Chanter → Chanter) (s : State) : (s.modChanter l f).live = s.live := rfl
@[simp] theorem State.modChanter_sealed (l : Nat) (f : Chanter → Chanter) (s : State) : (s.modChanter l f).sealed = s.sealed := rfl
@[simp] theorem State.modChanter_jrn (l : Nat) (f : Chanter → Chanter) (s : State) : (s.modChanter l f).jrn = s.jrn := rfl
@[simp] theorem State.modChanter_vault (l : Nat) (f : Chanter → Chanter) (s : State) : (s.modChanter l f).vault = s.vault := rfl
@[simp] theorem State.modChanter_lines (l : Nat) (f : Chanter → Chanter) (s : State) : (s.modChanter l f).lines = s.lines := rfl
@[simp] theorem State.modChanter_lends (l : Nat) (f : Chanter → Chanter) (s : State) : (s.modChanter l f).lends = s.lends := rfl
@[simp] theorem State.modChanter_mc (l : Nat) (f : Chanter → Chanter) (s : State) : (s.modChanter l f).mc = s.mc := rfl
@[simp] theorem State.modChanter_cache (l : Nat) (f : Chanter → Chanter) (s : State) : (s.modChanter l f).cache = s.cache := rfl
@[simp] theorem State.modChanter_cw (l : Nat) (f : Chanter → Chanter) (s : State) : (s.modChanter l f).cw = s.cw := rfl
@[simp] theorem State.modChanter_groups (l : Nat) (f : Chanter → Chanter) (s : State) : (s.modChanter l f).groups = s.groups := rfl
@[simp] theorem State.modChanter_ops (l : Nat) (f : Chanter → Chanter) (s : State) : (s.modChanter l f).ops = s.ops := rfl
@[simp] theorem State.modChanter_solves (l : Nat) (f : Chanter → Chanter) (s : State) : (s.modChanter l f).solves = s.solves := rfl
@[simp] theorem State.modChanter_dies (l : Nat) (f : Chanter → Chanter) (s : State) : (s.modChanter l f).dies = s.dies := rfl
@[simp] theorem State.modChanter_links (l : Nat) (f : Chanter → Chanter) (s : State) : (s.modChanter l f).links = s.links := rfl
@[simp] theorem State.modChanter_pods (l : Nat) (f : Chanter → Chanter) (s : State) : (s.modChanter l f).pods = s.pods := rfl
@[simp] theorem State.modChanter_stops (l : Nat) (f : Chanter → Chanter) (s : State) : (s.modChanter l f).stops = s.stops := rfl
@[simp] theorem State.modChanter_store (l : Nat) (f : Chanter → Chanter) (s : State) : (s.modChanter l f).store = s.store := rfl
@[simp] theorem State.modChanter_chans (l : Nat) (f : Chanter → Chanter) (s : State) : (s.modChanter l f).chans = s.chans := rfl
@[simp] theorem State.modChanter_drones (l : Nat) (f : Chanter → Chanter) (s : State) : (s.modChanter l f).drones = s.drones := rfl
@[simp] theorem State.modChanter_ev (l : Nat) (f : Chanter → Chanter) (s : State) : (s.modChanter l f).ev = s.ev := rfl
@[simp] theorem State.modChanter_health (l : Nat) (f : Chanter → Chanter) (s : State) : (s.modChanter l f).health = s.health := rfl
@[simp] theorem State.modChanter_mech (l : Nat) (f : Chanter → Chanter) (s : State) : (s.modChanter l f).mech = s.mech := rfl
@[simp] theorem State.modChanter_free (l : Nat) (f : Chanter → Chanter) (s : State) : (s.modChanter l f).free = s.free := rfl
@[simp] theorem State.modChanter_out (l : Nat) (f : Chanter → Chanter) (s : State) : (s.modChanter l f).out = s.out := rfl
@[simp] theorem State.modChanter_pending (l : Nat) (f : Chanter → Chanter) (s : State) : (s.modChanter l f).pending = s.pending := rfl
@[simp] theorem State.modChanter_port_row (l : Nat) (f : Chanter → Chanter) (j : Nat) (s : State) : (s.modChanter l f).port j = s.port j := rfl
@[simp] theorem State.modChanter_inst_row (l : Nat) (f : Chanter → Chanter) (j : Nat) (s : State) : (s.modChanter l f).inst j = s.inst j := rfl
@[simp] theorem State.modChanter_die_row (l : Nat) (f : Chanter → Chanter) (j : Nat) (s : State) : (s.modChanter l f).die j = s.die j := rfl
@[simp] theorem State.modChanter_link_row (l : Nat) (f : Chanter → Chanter) (j : Nat) (s : State) : (s.modChanter l f).link j = s.link j := rfl
@[simp] theorem State.modChanter_pod_row (l : Nat) (f : Chanter → Chanter) (j : Nat) (s : State) : (s.modChanter l f).pod j = s.pod j := rfl
@[simp] theorem State.modChanter_group_row (l : Nat) (f : Chanter → Chanter) (j : Nat) (s : State) : (s.modChanter l f).group j = s.group j := rfl
@[simp] theorem State.modChanter_stop_row (l : Nat) (f : Chanter → Chanter) (j : Nat) (s : State) : (s.modChanter l f).stop j = s.stop j := rfl
@[simp] theorem State.modChanter_chan_row (l : Nat) (f : Chanter → Chanter) (j : Nat) (s : State) : (s.modChanter l f).chan j = s.chan j := rfl
@[simp] theorem State.modChanter_drone_row (l : Nat) (f : Chanter → Chanter) (j : Nat) (s : State) : (s.modChanter l f).drone j = s.drone j := rfl
@[simp] theorem State.modGroup_group (g : Nat) (f : Group → Group) (j : Nat) (s : State) : (s.modGroup g f).group j = if j = g then f (s.group g) else s.group j := by simp [State.modGroup, State.group]
@[simp] theorem State.modGroup_now (g : Nat) (f : Group → Group) (s : State) : (s.modGroup g f).now = s.now := rfl
@[simp] theorem State.modGroup_modes (g : Nat) (f : Group → Group) (s : State) : (s.modGroup g f).modes = s.modes := rfl
@[simp] theorem State.modGroup_pw (g : Nat) (f : Group → Group) (s : State) : (s.modGroup g f).pw = s.pw := rfl
@[simp] theorem State.modGroup_part (g : Nat) (f : Group → Group) (s : State) : (s.modGroup g f).part = s.part := rfl
@[simp] theorem State.modGroup_keep (g : Nat) (f : Group → Group) (s : State) : (s.modGroup g f).keep = s.keep := rfl
@[simp] theorem State.modGroup_otp (g : Nat) (f : Group → Group) (s : State) : (s.modGroup g f).otp = s.otp := rfl
@[simp] theorem State.modGroup_flash (g : Nat) (f : Group → Group) (s : State) : (s.modGroup g f).flash = s.flash := rfl
@[simp] theorem State.modGroup_format (g : Nat) (f : Group → Group) (s : State) : (s.modGroup g f).format = s.format := rfl
@[simp] theorem State.modGroup_spares (g : Nat) (f : Group → Group) (s : State) : (s.modGroup g f).spares = s.spares := rfl
@[simp] theorem State.modGroup_ports (g : Nat) (f : Group → Group) (s : State) : (s.modGroup g f).ports = s.ports := rfl
@[simp] theorem State.modGroup_insts (g : Nat) (f : Group → Group) (s : State) : (s.modGroup g f).insts = s.insts := rfl
@[simp] theorem State.modGroup_ctxs (g : Nat) (f : Group → Group) (s : State) : (s.modGroup g f).ctxs = s.ctxs := rfl
@[simp] theorem State.modGroup_ended (g : Nat) (f : Group → Group) (s : State) : (s.modGroup g f).ended = s.ended := rfl
@[simp] theorem State.modGroup_nextCtx (g : Nat) (f : Group → Group) (s : State) : (s.modGroup g f).nextCtx = s.nextCtx := rfl
@[simp] theorem State.modGroup_fetches (g : Nat) (f : Group → Group) (s : State) : (s.modGroup g f).fetches = s.fetches := rfl
@[simp] theorem State.modGroup_bells (g : Nat) (f : Group → Group) (s : State) : (s.modGroup g f).bells = s.bells := rfl
@[simp] theorem State.modGroup_live (g : Nat) (f : Group → Group) (s : State) : (s.modGroup g f).live = s.live := rfl
@[simp] theorem State.modGroup_sealed (g : Nat) (f : Group → Group) (s : State) : (s.modGroup g f).sealed = s.sealed := rfl
@[simp] theorem State.modGroup_jrn (g : Nat) (f : Group → Group) (s : State) : (s.modGroup g f).jrn = s.jrn := rfl
@[simp] theorem State.modGroup_vault (g : Nat) (f : Group → Group) (s : State) : (s.modGroup g f).vault = s.vault := rfl
@[simp] theorem State.modGroup_lines (g : Nat) (f : Group → Group) (s : State) : (s.modGroup g f).lines = s.lines := rfl
@[simp] theorem State.modGroup_lends (g : Nat) (f : Group → Group) (s : State) : (s.modGroup g f).lends = s.lends := rfl
@[simp] theorem State.modGroup_mc (g : Nat) (f : Group → Group) (s : State) : (s.modGroup g f).mc = s.mc := rfl
@[simp] theorem State.modGroup_cache (g : Nat) (f : Group → Group) (s : State) : (s.modGroup g f).cache = s.cache := rfl
@[simp] theorem State.modGroup_cw (g : Nat) (f : Group → Group) (s : State) : (s.modGroup g f).cw = s.cw := rfl
@[simp] theorem State.modGroup_ops (g : Nat) (f : Group → Group) (s : State) : (s.modGroup g f).ops = s.ops := rfl
@[simp] theorem State.modGroup_solves (g : Nat) (f : Group → Group) (s : State) : (s.modGroup g f).solves = s.solves := rfl
@[simp] theorem State.modGroup_dies (g : Nat) (f : Group → Group) (s : State) : (s.modGroup g f).dies = s.dies := rfl
@[simp] theorem State.modGroup_chanters (g : Nat) (f : Group → Group) (s : State) : (s.modGroup g f).chanters = s.chanters := rfl
@[simp] theorem State.modGroup_links (g : Nat) (f : Group → Group) (s : State) : (s.modGroup g f).links = s.links := rfl
@[simp] theorem State.modGroup_pods (g : Nat) (f : Group → Group) (s : State) : (s.modGroup g f).pods = s.pods := rfl
@[simp] theorem State.modGroup_stops (g : Nat) (f : Group → Group) (s : State) : (s.modGroup g f).stops = s.stops := rfl
@[simp] theorem State.modGroup_store (g : Nat) (f : Group → Group) (s : State) : (s.modGroup g f).store = s.store := rfl
@[simp] theorem State.modGroup_chans (g : Nat) (f : Group → Group) (s : State) : (s.modGroup g f).chans = s.chans := rfl
@[simp] theorem State.modGroup_drones (g : Nat) (f : Group → Group) (s : State) : (s.modGroup g f).drones = s.drones := rfl
@[simp] theorem State.modGroup_ev (g : Nat) (f : Group → Group) (s : State) : (s.modGroup g f).ev = s.ev := rfl
@[simp] theorem State.modGroup_health (g : Nat) (f : Group → Group) (s : State) : (s.modGroup g f).health = s.health := rfl
@[simp] theorem State.modGroup_mech (g : Nat) (f : Group → Group) (s : State) : (s.modGroup g f).mech = s.mech := rfl
@[simp] theorem State.modGroup_free (g : Nat) (f : Group → Group) (s : State) : (s.modGroup g f).free = s.free := rfl
@[simp] theorem State.modGroup_out (g : Nat) (f : Group → Group) (s : State) : (s.modGroup g f).out = s.out := rfl
@[simp] theorem State.modGroup_pending (g : Nat) (f : Group → Group) (s : State) : (s.modGroup g f).pending = s.pending := rfl
@[simp] theorem State.modGroup_port_row (g : Nat) (f : Group → Group) (j : Nat) (s : State) : (s.modGroup g f).port j = s.port j := rfl
@[simp] theorem State.modGroup_inst_row (g : Nat) (f : Group → Group) (j : Nat) (s : State) : (s.modGroup g f).inst j = s.inst j := rfl
@[simp] theorem State.modGroup_die_row (g : Nat) (f : Group → Group) (j : Nat) (s : State) : (s.modGroup g f).die j = s.die j := rfl
@[simp] theorem State.modGroup_link_row (g : Nat) (f : Group → Group) (j : Nat) (s : State) : (s.modGroup g f).link j = s.link j := rfl
@[simp] theorem State.modGroup_pod_row (g : Nat) (f : Group → Group) (j : Nat) (s : State) : (s.modGroup g f).pod j = s.pod j := rfl
@[simp] theorem State.modGroup_chanter_row (g : Nat) (f : Group → Group) (j : Nat) (s : State) : (s.modGroup g f).chanter j = s.chanter j := rfl
@[simp] theorem State.modGroup_stop_row (g : Nat) (f : Group → Group) (j : Nat) (s : State) : (s.modGroup g f).stop j = s.stop j := rfl
@[simp] theorem State.modGroup_chan_row (g : Nat) (f : Group → Group) (j : Nat) (s : State) : (s.modGroup g f).chan j = s.chan j := rfl
@[simp] theorem State.modGroup_drone_row (g : Nat) (f : Group → Group) (j : Nat) (s : State) : (s.modGroup g f).drone j = s.drone j := rfl
@[simp] theorem State.modStop_stop (n : Nat) (f : Stop → Stop) (j : Nat) (s : State) : (s.modStop n f).stop j = if j = n then f (s.stop n) else s.stop j := by simp [State.modStop, State.stop]
@[simp] theorem State.modStop_now (n : Nat) (f : Stop → Stop) (s : State) : (s.modStop n f).now = s.now := rfl
@[simp] theorem State.modStop_modes (n : Nat) (f : Stop → Stop) (s : State) : (s.modStop n f).modes = s.modes := rfl
@[simp] theorem State.modStop_pw (n : Nat) (f : Stop → Stop) (s : State) : (s.modStop n f).pw = s.pw := rfl
@[simp] theorem State.modStop_part (n : Nat) (f : Stop → Stop) (s : State) : (s.modStop n f).part = s.part := rfl
@[simp] theorem State.modStop_keep (n : Nat) (f : Stop → Stop) (s : State) : (s.modStop n f).keep = s.keep := rfl
@[simp] theorem State.modStop_otp (n : Nat) (f : Stop → Stop) (s : State) : (s.modStop n f).otp = s.otp := rfl
@[simp] theorem State.modStop_flash (n : Nat) (f : Stop → Stop) (s : State) : (s.modStop n f).flash = s.flash := rfl
@[simp] theorem State.modStop_format (n : Nat) (f : Stop → Stop) (s : State) : (s.modStop n f).format = s.format := rfl
@[simp] theorem State.modStop_spares (n : Nat) (f : Stop → Stop) (s : State) : (s.modStop n f).spares = s.spares := rfl
@[simp] theorem State.modStop_ports (n : Nat) (f : Stop → Stop) (s : State) : (s.modStop n f).ports = s.ports := rfl
@[simp] theorem State.modStop_insts (n : Nat) (f : Stop → Stop) (s : State) : (s.modStop n f).insts = s.insts := rfl
@[simp] theorem State.modStop_ctxs (n : Nat) (f : Stop → Stop) (s : State) : (s.modStop n f).ctxs = s.ctxs := rfl
@[simp] theorem State.modStop_ended (n : Nat) (f : Stop → Stop) (s : State) : (s.modStop n f).ended = s.ended := rfl
@[simp] theorem State.modStop_nextCtx (n : Nat) (f : Stop → Stop) (s : State) : (s.modStop n f).nextCtx = s.nextCtx := rfl
@[simp] theorem State.modStop_fetches (n : Nat) (f : Stop → Stop) (s : State) : (s.modStop n f).fetches = s.fetches := rfl
@[simp] theorem State.modStop_bells (n : Nat) (f : Stop → Stop) (s : State) : (s.modStop n f).bells = s.bells := rfl
@[simp] theorem State.modStop_live (n : Nat) (f : Stop → Stop) (s : State) : (s.modStop n f).live = s.live := rfl
@[simp] theorem State.modStop_sealed (n : Nat) (f : Stop → Stop) (s : State) : (s.modStop n f).sealed = s.sealed := rfl
@[simp] theorem State.modStop_jrn (n : Nat) (f : Stop → Stop) (s : State) : (s.modStop n f).jrn = s.jrn := rfl
@[simp] theorem State.modStop_vault (n : Nat) (f : Stop → Stop) (s : State) : (s.modStop n f).vault = s.vault := rfl
@[simp] theorem State.modStop_lines (n : Nat) (f : Stop → Stop) (s : State) : (s.modStop n f).lines = s.lines := rfl
@[simp] theorem State.modStop_lends (n : Nat) (f : Stop → Stop) (s : State) : (s.modStop n f).lends = s.lends := rfl
@[simp] theorem State.modStop_mc (n : Nat) (f : Stop → Stop) (s : State) : (s.modStop n f).mc = s.mc := rfl
@[simp] theorem State.modStop_cache (n : Nat) (f : Stop → Stop) (s : State) : (s.modStop n f).cache = s.cache := rfl
@[simp] theorem State.modStop_cw (n : Nat) (f : Stop → Stop) (s : State) : (s.modStop n f).cw = s.cw := rfl
@[simp] theorem State.modStop_groups (n : Nat) (f : Stop → Stop) (s : State) : (s.modStop n f).groups = s.groups := rfl
@[simp] theorem State.modStop_ops (n : Nat) (f : Stop → Stop) (s : State) : (s.modStop n f).ops = s.ops := rfl
@[simp] theorem State.modStop_solves (n : Nat) (f : Stop → Stop) (s : State) : (s.modStop n f).solves = s.solves := rfl
@[simp] theorem State.modStop_dies (n : Nat) (f : Stop → Stop) (s : State) : (s.modStop n f).dies = s.dies := rfl
@[simp] theorem State.modStop_chanters (n : Nat) (f : Stop → Stop) (s : State) : (s.modStop n f).chanters = s.chanters := rfl
@[simp] theorem State.modStop_links (n : Nat) (f : Stop → Stop) (s : State) : (s.modStop n f).links = s.links := rfl
@[simp] theorem State.modStop_pods (n : Nat) (f : Stop → Stop) (s : State) : (s.modStop n f).pods = s.pods := rfl
@[simp] theorem State.modStop_store (n : Nat) (f : Stop → Stop) (s : State) : (s.modStop n f).store = s.store := rfl
@[simp] theorem State.modStop_chans (n : Nat) (f : Stop → Stop) (s : State) : (s.modStop n f).chans = s.chans := rfl
@[simp] theorem State.modStop_drones (n : Nat) (f : Stop → Stop) (s : State) : (s.modStop n f).drones = s.drones := rfl
@[simp] theorem State.modStop_ev (n : Nat) (f : Stop → Stop) (s : State) : (s.modStop n f).ev = s.ev := rfl
@[simp] theorem State.modStop_health (n : Nat) (f : Stop → Stop) (s : State) : (s.modStop n f).health = s.health := rfl
@[simp] theorem State.modStop_mech (n : Nat) (f : Stop → Stop) (s : State) : (s.modStop n f).mech = s.mech := rfl
@[simp] theorem State.modStop_free (n : Nat) (f : Stop → Stop) (s : State) : (s.modStop n f).free = s.free := rfl
@[simp] theorem State.modStop_out (n : Nat) (f : Stop → Stop) (s : State) : (s.modStop n f).out = s.out := rfl
@[simp] theorem State.modStop_pending (n : Nat) (f : Stop → Stop) (s : State) : (s.modStop n f).pending = s.pending := rfl
@[simp] theorem State.modStop_port_row (n : Nat) (f : Stop → Stop) (j : Nat) (s : State) : (s.modStop n f).port j = s.port j := rfl
@[simp] theorem State.modStop_inst_row (n : Nat) (f : Stop → Stop) (j : Nat) (s : State) : (s.modStop n f).inst j = s.inst j := rfl
@[simp] theorem State.modStop_die_row (n : Nat) (f : Stop → Stop) (j : Nat) (s : State) : (s.modStop n f).die j = s.die j := rfl
@[simp] theorem State.modStop_link_row (n : Nat) (f : Stop → Stop) (j : Nat) (s : State) : (s.modStop n f).link j = s.link j := rfl
@[simp] theorem State.modStop_pod_row (n : Nat) (f : Stop → Stop) (j : Nat) (s : State) : (s.modStop n f).pod j = s.pod j := rfl
@[simp] theorem State.modStop_chanter_row (n : Nat) (f : Stop → Stop) (j : Nat) (s : State) : (s.modStop n f).chanter j = s.chanter j := rfl
@[simp] theorem State.modStop_group_row (n : Nat) (f : Stop → Stop) (j : Nat) (s : State) : (s.modStop n f).group j = s.group j := rfl
@[simp] theorem State.modStop_chan_row (n : Nat) (f : Stop → Stop) (j : Nat) (s : State) : (s.modStop n f).chan j = s.chan j := rfl
@[simp] theorem State.modStop_drone_row (n : Nat) (f : Stop → Stop) (j : Nat) (s : State) : (s.modStop n f).drone j = s.drone j := rfl
@[simp] theorem State.modChan_chan (k : Nat) (f : Chan → Chan) (j : Nat) (s : State) : (s.modChan k f).chan j = if j = k then f (s.chan k) else s.chan j := by simp [State.modChan, State.chan]
@[simp] theorem State.modChan_now (k : Nat) (f : Chan → Chan) (s : State) : (s.modChan k f).now = s.now := rfl
@[simp] theorem State.modChan_modes (k : Nat) (f : Chan → Chan) (s : State) : (s.modChan k f).modes = s.modes := rfl
@[simp] theorem State.modChan_pw (k : Nat) (f : Chan → Chan) (s : State) : (s.modChan k f).pw = s.pw := rfl
@[simp] theorem State.modChan_part (k : Nat) (f : Chan → Chan) (s : State) : (s.modChan k f).part = s.part := rfl
@[simp] theorem State.modChan_keep (k : Nat) (f : Chan → Chan) (s : State) : (s.modChan k f).keep = s.keep := rfl
@[simp] theorem State.modChan_otp (k : Nat) (f : Chan → Chan) (s : State) : (s.modChan k f).otp = s.otp := rfl
@[simp] theorem State.modChan_flash (k : Nat) (f : Chan → Chan) (s : State) : (s.modChan k f).flash = s.flash := rfl
@[simp] theorem State.modChan_format (k : Nat) (f : Chan → Chan) (s : State) : (s.modChan k f).format = s.format := rfl
@[simp] theorem State.modChan_spares (k : Nat) (f : Chan → Chan) (s : State) : (s.modChan k f).spares = s.spares := rfl
@[simp] theorem State.modChan_ports (k : Nat) (f : Chan → Chan) (s : State) : (s.modChan k f).ports = s.ports := rfl
@[simp] theorem State.modChan_insts (k : Nat) (f : Chan → Chan) (s : State) : (s.modChan k f).insts = s.insts := rfl
@[simp] theorem State.modChan_ctxs (k : Nat) (f : Chan → Chan) (s : State) : (s.modChan k f).ctxs = s.ctxs := rfl
@[simp] theorem State.modChan_ended (k : Nat) (f : Chan → Chan) (s : State) : (s.modChan k f).ended = s.ended := rfl
@[simp] theorem State.modChan_nextCtx (k : Nat) (f : Chan → Chan) (s : State) : (s.modChan k f).nextCtx = s.nextCtx := rfl
@[simp] theorem State.modChan_fetches (k : Nat) (f : Chan → Chan) (s : State) : (s.modChan k f).fetches = s.fetches := rfl
@[simp] theorem State.modChan_bells (k : Nat) (f : Chan → Chan) (s : State) : (s.modChan k f).bells = s.bells := rfl
@[simp] theorem State.modChan_live (k : Nat) (f : Chan → Chan) (s : State) : (s.modChan k f).live = s.live := rfl
@[simp] theorem State.modChan_sealed (k : Nat) (f : Chan → Chan) (s : State) : (s.modChan k f).sealed = s.sealed := rfl
@[simp] theorem State.modChan_jrn (k : Nat) (f : Chan → Chan) (s : State) : (s.modChan k f).jrn = s.jrn := rfl
@[simp] theorem State.modChan_vault (k : Nat) (f : Chan → Chan) (s : State) : (s.modChan k f).vault = s.vault := rfl
@[simp] theorem State.modChan_lines (k : Nat) (f : Chan → Chan) (s : State) : (s.modChan k f).lines = s.lines := rfl
@[simp] theorem State.modChan_lends (k : Nat) (f : Chan → Chan) (s : State) : (s.modChan k f).lends = s.lends := rfl
@[simp] theorem State.modChan_mc (k : Nat) (f : Chan → Chan) (s : State) : (s.modChan k f).mc = s.mc := rfl
@[simp] theorem State.modChan_cache (k : Nat) (f : Chan → Chan) (s : State) : (s.modChan k f).cache = s.cache := rfl
@[simp] theorem State.modChan_cw (k : Nat) (f : Chan → Chan) (s : State) : (s.modChan k f).cw = s.cw := rfl
@[simp] theorem State.modChan_groups (k : Nat) (f : Chan → Chan) (s : State) : (s.modChan k f).groups = s.groups := rfl
@[simp] theorem State.modChan_ops (k : Nat) (f : Chan → Chan) (s : State) : (s.modChan k f).ops = s.ops := rfl
@[simp] theorem State.modChan_solves (k : Nat) (f : Chan → Chan) (s : State) : (s.modChan k f).solves = s.solves := rfl
@[simp] theorem State.modChan_dies (k : Nat) (f : Chan → Chan) (s : State) : (s.modChan k f).dies = s.dies := rfl
@[simp] theorem State.modChan_chanters (k : Nat) (f : Chan → Chan) (s : State) : (s.modChan k f).chanters = s.chanters := rfl
@[simp] theorem State.modChan_links (k : Nat) (f : Chan → Chan) (s : State) : (s.modChan k f).links = s.links := rfl
@[simp] theorem State.modChan_pods (k : Nat) (f : Chan → Chan) (s : State) : (s.modChan k f).pods = s.pods := rfl
@[simp] theorem State.modChan_stops (k : Nat) (f : Chan → Chan) (s : State) : (s.modChan k f).stops = s.stops := rfl
@[simp] theorem State.modChan_store (k : Nat) (f : Chan → Chan) (s : State) : (s.modChan k f).store = s.store := rfl
@[simp] theorem State.modChan_drones (k : Nat) (f : Chan → Chan) (s : State) : (s.modChan k f).drones = s.drones := rfl
@[simp] theorem State.modChan_ev (k : Nat) (f : Chan → Chan) (s : State) : (s.modChan k f).ev = s.ev := rfl
@[simp] theorem State.modChan_health (k : Nat) (f : Chan → Chan) (s : State) : (s.modChan k f).health = s.health := rfl
@[simp] theorem State.modChan_mech (k : Nat) (f : Chan → Chan) (s : State) : (s.modChan k f).mech = s.mech := rfl
@[simp] theorem State.modChan_free (k : Nat) (f : Chan → Chan) (s : State) : (s.modChan k f).free = s.free := rfl
@[simp] theorem State.modChan_out (k : Nat) (f : Chan → Chan) (s : State) : (s.modChan k f).out = s.out := rfl
@[simp] theorem State.modChan_pending (k : Nat) (f : Chan → Chan) (s : State) : (s.modChan k f).pending = s.pending := rfl
@[simp] theorem State.modChan_port_row (k : Nat) (f : Chan → Chan) (j : Nat) (s : State) : (s.modChan k f).port j = s.port j := rfl
@[simp] theorem State.modChan_inst_row (k : Nat) (f : Chan → Chan) (j : Nat) (s : State) : (s.modChan k f).inst j = s.inst j := rfl
@[simp] theorem State.modChan_die_row (k : Nat) (f : Chan → Chan) (j : Nat) (s : State) : (s.modChan k f).die j = s.die j := rfl
@[simp] theorem State.modChan_link_row (k : Nat) (f : Chan → Chan) (j : Nat) (s : State) : (s.modChan k f).link j = s.link j := rfl
@[simp] theorem State.modChan_pod_row (k : Nat) (f : Chan → Chan) (j : Nat) (s : State) : (s.modChan k f).pod j = s.pod j := rfl
@[simp] theorem State.modChan_chanter_row (k : Nat) (f : Chan → Chan) (j : Nat) (s : State) : (s.modChan k f).chanter j = s.chanter j := rfl
@[simp] theorem State.modChan_group_row (k : Nat) (f : Chan → Chan) (j : Nat) (s : State) : (s.modChan k f).group j = s.group j := rfl
@[simp] theorem State.modChan_stop_row (k : Nat) (f : Chan → Chan) (j : Nat) (s : State) : (s.modChan k f).stop j = s.stop j := rfl
@[simp] theorem State.modChan_drone_row (k : Nat) (f : Chan → Chan) (j : Nat) (s : State) : (s.modChan k f).drone j = s.drone j := rfl
@[simp] theorem State.modDrone_drone (d : Nat) (f : Drone → Drone) (j : Nat) (s : State) : (s.modDrone d f).drone j = if j = d then f (s.drone d) else s.drone j := by simp [State.modDrone, State.drone]
@[simp] theorem State.modDrone_now (d : Nat) (f : Drone → Drone) (s : State) : (s.modDrone d f).now = s.now := rfl
@[simp] theorem State.modDrone_modes (d : Nat) (f : Drone → Drone) (s : State) : (s.modDrone d f).modes = s.modes := rfl
@[simp] theorem State.modDrone_pw (d : Nat) (f : Drone → Drone) (s : State) : (s.modDrone d f).pw = s.pw := rfl
@[simp] theorem State.modDrone_part (d : Nat) (f : Drone → Drone) (s : State) : (s.modDrone d f).part = s.part := rfl
@[simp] theorem State.modDrone_keep (d : Nat) (f : Drone → Drone) (s : State) : (s.modDrone d f).keep = s.keep := rfl
@[simp] theorem State.modDrone_otp (d : Nat) (f : Drone → Drone) (s : State) : (s.modDrone d f).otp = s.otp := rfl
@[simp] theorem State.modDrone_flash (d : Nat) (f : Drone → Drone) (s : State) : (s.modDrone d f).flash = s.flash := rfl
@[simp] theorem State.modDrone_format (d : Nat) (f : Drone → Drone) (s : State) : (s.modDrone d f).format = s.format := rfl
@[simp] theorem State.modDrone_spares (d : Nat) (f : Drone → Drone) (s : State) : (s.modDrone d f).spares = s.spares := rfl
@[simp] theorem State.modDrone_ports (d : Nat) (f : Drone → Drone) (s : State) : (s.modDrone d f).ports = s.ports := rfl
@[simp] theorem State.modDrone_insts (d : Nat) (f : Drone → Drone) (s : State) : (s.modDrone d f).insts = s.insts := rfl
@[simp] theorem State.modDrone_ctxs (d : Nat) (f : Drone → Drone) (s : State) : (s.modDrone d f).ctxs = s.ctxs := rfl
@[simp] theorem State.modDrone_ended (d : Nat) (f : Drone → Drone) (s : State) : (s.modDrone d f).ended = s.ended := rfl
@[simp] theorem State.modDrone_nextCtx (d : Nat) (f : Drone → Drone) (s : State) : (s.modDrone d f).nextCtx = s.nextCtx := rfl
@[simp] theorem State.modDrone_fetches (d : Nat) (f : Drone → Drone) (s : State) : (s.modDrone d f).fetches = s.fetches := rfl
@[simp] theorem State.modDrone_bells (d : Nat) (f : Drone → Drone) (s : State) : (s.modDrone d f).bells = s.bells := rfl
@[simp] theorem State.modDrone_live (d : Nat) (f : Drone → Drone) (s : State) : (s.modDrone d f).live = s.live := rfl
@[simp] theorem State.modDrone_sealed (d : Nat) (f : Drone → Drone) (s : State) : (s.modDrone d f).sealed = s.sealed := rfl
@[simp] theorem State.modDrone_jrn (d : Nat) (f : Drone → Drone) (s : State) : (s.modDrone d f).jrn = s.jrn := rfl
@[simp] theorem State.modDrone_vault (d : Nat) (f : Drone → Drone) (s : State) : (s.modDrone d f).vault = s.vault := rfl
@[simp] theorem State.modDrone_lines (d : Nat) (f : Drone → Drone) (s : State) : (s.modDrone d f).lines = s.lines := rfl
@[simp] theorem State.modDrone_lends (d : Nat) (f : Drone → Drone) (s : State) : (s.modDrone d f).lends = s.lends := rfl
@[simp] theorem State.modDrone_mc (d : Nat) (f : Drone → Drone) (s : State) : (s.modDrone d f).mc = s.mc := rfl
@[simp] theorem State.modDrone_cache (d : Nat) (f : Drone → Drone) (s : State) : (s.modDrone d f).cache = s.cache := rfl
@[simp] theorem State.modDrone_cw (d : Nat) (f : Drone → Drone) (s : State) : (s.modDrone d f).cw = s.cw := rfl
@[simp] theorem State.modDrone_groups (d : Nat) (f : Drone → Drone) (s : State) : (s.modDrone d f).groups = s.groups := rfl
@[simp] theorem State.modDrone_ops (d : Nat) (f : Drone → Drone) (s : State) : (s.modDrone d f).ops = s.ops := rfl
@[simp] theorem State.modDrone_solves (d : Nat) (f : Drone → Drone) (s : State) : (s.modDrone d f).solves = s.solves := rfl
@[simp] theorem State.modDrone_dies (d : Nat) (f : Drone → Drone) (s : State) : (s.modDrone d f).dies = s.dies := rfl
@[simp] theorem State.modDrone_chanters (d : Nat) (f : Drone → Drone) (s : State) : (s.modDrone d f).chanters = s.chanters := rfl
@[simp] theorem State.modDrone_links (d : Nat) (f : Drone → Drone) (s : State) : (s.modDrone d f).links = s.links := rfl
@[simp] theorem State.modDrone_pods (d : Nat) (f : Drone → Drone) (s : State) : (s.modDrone d f).pods = s.pods := rfl
@[simp] theorem State.modDrone_stops (d : Nat) (f : Drone → Drone) (s : State) : (s.modDrone d f).stops = s.stops := rfl
@[simp] theorem State.modDrone_store (d : Nat) (f : Drone → Drone) (s : State) : (s.modDrone d f).store = s.store := rfl
@[simp] theorem State.modDrone_chans (d : Nat) (f : Drone → Drone) (s : State) : (s.modDrone d f).chans = s.chans := rfl
@[simp] theorem State.modDrone_ev (d : Nat) (f : Drone → Drone) (s : State) : (s.modDrone d f).ev = s.ev := rfl
@[simp] theorem State.modDrone_health (d : Nat) (f : Drone → Drone) (s : State) : (s.modDrone d f).health = s.health := rfl
@[simp] theorem State.modDrone_mech (d : Nat) (f : Drone → Drone) (s : State) : (s.modDrone d f).mech = s.mech := rfl
@[simp] theorem State.modDrone_free (d : Nat) (f : Drone → Drone) (s : State) : (s.modDrone d f).free = s.free := rfl
@[simp] theorem State.modDrone_out (d : Nat) (f : Drone → Drone) (s : State) : (s.modDrone d f).out = s.out := rfl
@[simp] theorem State.modDrone_pending (d : Nat) (f : Drone → Drone) (s : State) : (s.modDrone d f).pending = s.pending := rfl
@[simp] theorem State.modDrone_port_row (d : Nat) (f : Drone → Drone) (j : Nat) (s : State) : (s.modDrone d f).port j = s.port j := rfl
@[simp] theorem State.modDrone_inst_row (d : Nat) (f : Drone → Drone) (j : Nat) (s : State) : (s.modDrone d f).inst j = s.inst j := rfl
@[simp] theorem State.modDrone_die_row (d : Nat) (f : Drone → Drone) (j : Nat) (s : State) : (s.modDrone d f).die j = s.die j := rfl
@[simp] theorem State.modDrone_link_row (d : Nat) (f : Drone → Drone) (j : Nat) (s : State) : (s.modDrone d f).link j = s.link j := rfl
@[simp] theorem State.modDrone_pod_row (d : Nat) (f : Drone → Drone) (j : Nat) (s : State) : (s.modDrone d f).pod j = s.pod j := rfl
@[simp] theorem State.modDrone_chanter_row (d : Nat) (f : Drone → Drone) (j : Nat) (s : State) : (s.modDrone d f).chanter j = s.chanter j := rfl
@[simp] theorem State.modDrone_group_row (d : Nat) (f : Drone → Drone) (j : Nat) (s : State) : (s.modDrone d f).group j = s.group j := rfl
@[simp] theorem State.modDrone_stop_row (d : Nat) (f : Drone → Drone) (j : Nat) (s : State) : (s.modDrone d f).stop j = s.stop j := rfl
@[simp] theorem State.modDrone_chan_row (d : Nat) (f : Drone → Drone) (j : Nat) (s : State) : (s.modDrone d f).chan j = s.chan j := rfl

/-! ## Whole units -/

@[simp] theorem State.modModes_modes (f : Modes → Modes) (s : State) : (s.modModes f).modes = f s.modes := rfl
@[simp] theorem State.modModes_now (f : Modes → Modes) (s : State) : (s.modModes f).now = s.now := rfl
@[simp] theorem State.modModes_pw (f : Modes → Modes) (s : State) : (s.modModes f).pw = s.pw := rfl
@[simp] theorem State.modModes_part (f : Modes → Modes) (s : State) : (s.modModes f).part = s.part := rfl
@[simp] theorem State.modModes_keep (f : Modes → Modes) (s : State) : (s.modModes f).keep = s.keep := rfl
@[simp] theorem State.modModes_otp (f : Modes → Modes) (s : State) : (s.modModes f).otp = s.otp := rfl
@[simp] theorem State.modModes_flash (f : Modes → Modes) (s : State) : (s.modModes f).flash = s.flash := rfl
@[simp] theorem State.modModes_format (f : Modes → Modes) (s : State) : (s.modModes f).format = s.format := rfl
@[simp] theorem State.modModes_spares (f : Modes → Modes) (s : State) : (s.modModes f).spares = s.spares := rfl
@[simp] theorem State.modModes_ports (f : Modes → Modes) (s : State) : (s.modModes f).ports = s.ports := rfl
@[simp] theorem State.modModes_insts (f : Modes → Modes) (s : State) : (s.modModes f).insts = s.insts := rfl
@[simp] theorem State.modModes_ctxs (f : Modes → Modes) (s : State) : (s.modModes f).ctxs = s.ctxs := rfl
@[simp] theorem State.modModes_ended (f : Modes → Modes) (s : State) : (s.modModes f).ended = s.ended := rfl
@[simp] theorem State.modModes_nextCtx (f : Modes → Modes) (s : State) : (s.modModes f).nextCtx = s.nextCtx := rfl
@[simp] theorem State.modModes_fetches (f : Modes → Modes) (s : State) : (s.modModes f).fetches = s.fetches := rfl
@[simp] theorem State.modModes_bells (f : Modes → Modes) (s : State) : (s.modModes f).bells = s.bells := rfl
@[simp] theorem State.modModes_live (f : Modes → Modes) (s : State) : (s.modModes f).live = s.live := rfl
@[simp] theorem State.modModes_sealed (f : Modes → Modes) (s : State) : (s.modModes f).sealed = s.sealed := rfl
@[simp] theorem State.modModes_jrn (f : Modes → Modes) (s : State) : (s.modModes f).jrn = s.jrn := rfl
@[simp] theorem State.modModes_vault (f : Modes → Modes) (s : State) : (s.modModes f).vault = s.vault := rfl
@[simp] theorem State.modModes_lines (f : Modes → Modes) (s : State) : (s.modModes f).lines = s.lines := rfl
@[simp] theorem State.modModes_lends (f : Modes → Modes) (s : State) : (s.modModes f).lends = s.lends := rfl
@[simp] theorem State.modModes_mc (f : Modes → Modes) (s : State) : (s.modModes f).mc = s.mc := rfl
@[simp] theorem State.modModes_cache (f : Modes → Modes) (s : State) : (s.modModes f).cache = s.cache := rfl
@[simp] theorem State.modModes_cw (f : Modes → Modes) (s : State) : (s.modModes f).cw = s.cw := rfl
@[simp] theorem State.modModes_groups (f : Modes → Modes) (s : State) : (s.modModes f).groups = s.groups := rfl
@[simp] theorem State.modModes_ops (f : Modes → Modes) (s : State) : (s.modModes f).ops = s.ops := rfl
@[simp] theorem State.modModes_solves (f : Modes → Modes) (s : State) : (s.modModes f).solves = s.solves := rfl
@[simp] theorem State.modModes_dies (f : Modes → Modes) (s : State) : (s.modModes f).dies = s.dies := rfl
@[simp] theorem State.modModes_chanters (f : Modes → Modes) (s : State) : (s.modModes f).chanters = s.chanters := rfl
@[simp] theorem State.modModes_links (f : Modes → Modes) (s : State) : (s.modModes f).links = s.links := rfl
@[simp] theorem State.modModes_pods (f : Modes → Modes) (s : State) : (s.modModes f).pods = s.pods := rfl
@[simp] theorem State.modModes_stops (f : Modes → Modes) (s : State) : (s.modModes f).stops = s.stops := rfl
@[simp] theorem State.modModes_store (f : Modes → Modes) (s : State) : (s.modModes f).store = s.store := rfl
@[simp] theorem State.modModes_chans (f : Modes → Modes) (s : State) : (s.modModes f).chans = s.chans := rfl
@[simp] theorem State.modModes_drones (f : Modes → Modes) (s : State) : (s.modModes f).drones = s.drones := rfl
@[simp] theorem State.modModes_ev (f : Modes → Modes) (s : State) : (s.modModes f).ev = s.ev := rfl
@[simp] theorem State.modModes_health (f : Modes → Modes) (s : State) : (s.modModes f).health = s.health := rfl
@[simp] theorem State.modModes_mech (f : Modes → Modes) (s : State) : (s.modModes f).mech = s.mech := rfl
@[simp] theorem State.modModes_free (f : Modes → Modes) (s : State) : (s.modModes f).free = s.free := rfl
@[simp] theorem State.modModes_out (f : Modes → Modes) (s : State) : (s.modModes f).out = s.out := rfl
@[simp] theorem State.modModes_pending (f : Modes → Modes) (s : State) : (s.modModes f).pending = s.pending := rfl
@[simp] theorem State.modModes_port_row (f : Modes → Modes) (j : Nat) (s : State) : (s.modModes f).port j = s.port j := rfl
@[simp] theorem State.modModes_inst_row (f : Modes → Modes) (j : Nat) (s : State) : (s.modModes f).inst j = s.inst j := rfl
@[simp] theorem State.modModes_die_row (f : Modes → Modes) (j : Nat) (s : State) : (s.modModes f).die j = s.die j := rfl
@[simp] theorem State.modModes_link_row (f : Modes → Modes) (j : Nat) (s : State) : (s.modModes f).link j = s.link j := rfl
@[simp] theorem State.modModes_pod_row (f : Modes → Modes) (j : Nat) (s : State) : (s.modModes f).pod j = s.pod j := rfl
@[simp] theorem State.modModes_chanter_row (f : Modes → Modes) (j : Nat) (s : State) : (s.modModes f).chanter j = s.chanter j := rfl
@[simp] theorem State.modModes_group_row (f : Modes → Modes) (j : Nat) (s : State) : (s.modModes f).group j = s.group j := rfl
@[simp] theorem State.modModes_stop_row (f : Modes → Modes) (j : Nat) (s : State) : (s.modModes f).stop j = s.stop j := rfl
@[simp] theorem State.modModes_chan_row (f : Modes → Modes) (j : Nat) (s : State) : (s.modModes f).chan j = s.chan j := rfl
@[simp] theorem State.modModes_drone_row (f : Modes → Modes) (j : Nat) (s : State) : (s.modModes f).drone j = s.drone j := rfl
@[simp] theorem State.modPw_pw (f : Power → Power) (s : State) : (s.modPw f).pw = f s.pw := rfl
@[simp] theorem State.modPw_now (f : Power → Power) (s : State) : (s.modPw f).now = s.now := rfl
@[simp] theorem State.modPw_modes (f : Power → Power) (s : State) : (s.modPw f).modes = s.modes := rfl
@[simp] theorem State.modPw_part (f : Power → Power) (s : State) : (s.modPw f).part = s.part := rfl
@[simp] theorem State.modPw_keep (f : Power → Power) (s : State) : (s.modPw f).keep = s.keep := rfl
@[simp] theorem State.modPw_otp (f : Power → Power) (s : State) : (s.modPw f).otp = s.otp := rfl
@[simp] theorem State.modPw_flash (f : Power → Power) (s : State) : (s.modPw f).flash = s.flash := rfl
@[simp] theorem State.modPw_format (f : Power → Power) (s : State) : (s.modPw f).format = s.format := rfl
@[simp] theorem State.modPw_spares (f : Power → Power) (s : State) : (s.modPw f).spares = s.spares := rfl
@[simp] theorem State.modPw_ports (f : Power → Power) (s : State) : (s.modPw f).ports = s.ports := rfl
@[simp] theorem State.modPw_insts (f : Power → Power) (s : State) : (s.modPw f).insts = s.insts := rfl
@[simp] theorem State.modPw_ctxs (f : Power → Power) (s : State) : (s.modPw f).ctxs = s.ctxs := rfl
@[simp] theorem State.modPw_ended (f : Power → Power) (s : State) : (s.modPw f).ended = s.ended := rfl
@[simp] theorem State.modPw_nextCtx (f : Power → Power) (s : State) : (s.modPw f).nextCtx = s.nextCtx := rfl
@[simp] theorem State.modPw_fetches (f : Power → Power) (s : State) : (s.modPw f).fetches = s.fetches := rfl
@[simp] theorem State.modPw_bells (f : Power → Power) (s : State) : (s.modPw f).bells = s.bells := rfl
@[simp] theorem State.modPw_live (f : Power → Power) (s : State) : (s.modPw f).live = s.live := rfl
@[simp] theorem State.modPw_sealed (f : Power → Power) (s : State) : (s.modPw f).sealed = s.sealed := rfl
@[simp] theorem State.modPw_jrn (f : Power → Power) (s : State) : (s.modPw f).jrn = s.jrn := rfl
@[simp] theorem State.modPw_vault (f : Power → Power) (s : State) : (s.modPw f).vault = s.vault := rfl
@[simp] theorem State.modPw_lines (f : Power → Power) (s : State) : (s.modPw f).lines = s.lines := rfl
@[simp] theorem State.modPw_lends (f : Power → Power) (s : State) : (s.modPw f).lends = s.lends := rfl
@[simp] theorem State.modPw_mc (f : Power → Power) (s : State) : (s.modPw f).mc = s.mc := rfl
@[simp] theorem State.modPw_cache (f : Power → Power) (s : State) : (s.modPw f).cache = s.cache := rfl
@[simp] theorem State.modPw_cw (f : Power → Power) (s : State) : (s.modPw f).cw = s.cw := rfl
@[simp] theorem State.modPw_groups (f : Power → Power) (s : State) : (s.modPw f).groups = s.groups := rfl
@[simp] theorem State.modPw_ops (f : Power → Power) (s : State) : (s.modPw f).ops = s.ops := rfl
@[simp] theorem State.modPw_solves (f : Power → Power) (s : State) : (s.modPw f).solves = s.solves := rfl
@[simp] theorem State.modPw_dies (f : Power → Power) (s : State) : (s.modPw f).dies = s.dies := rfl
@[simp] theorem State.modPw_chanters (f : Power → Power) (s : State) : (s.modPw f).chanters = s.chanters := rfl
@[simp] theorem State.modPw_links (f : Power → Power) (s : State) : (s.modPw f).links = s.links := rfl
@[simp] theorem State.modPw_pods (f : Power → Power) (s : State) : (s.modPw f).pods = s.pods := rfl
@[simp] theorem State.modPw_stops (f : Power → Power) (s : State) : (s.modPw f).stops = s.stops := rfl
@[simp] theorem State.modPw_store (f : Power → Power) (s : State) : (s.modPw f).store = s.store := rfl
@[simp] theorem State.modPw_chans (f : Power → Power) (s : State) : (s.modPw f).chans = s.chans := rfl
@[simp] theorem State.modPw_drones (f : Power → Power) (s : State) : (s.modPw f).drones = s.drones := rfl
@[simp] theorem State.modPw_ev (f : Power → Power) (s : State) : (s.modPw f).ev = s.ev := rfl
@[simp] theorem State.modPw_health (f : Power → Power) (s : State) : (s.modPw f).health = s.health := rfl
@[simp] theorem State.modPw_mech (f : Power → Power) (s : State) : (s.modPw f).mech = s.mech := rfl
@[simp] theorem State.modPw_free (f : Power → Power) (s : State) : (s.modPw f).free = s.free := rfl
@[simp] theorem State.modPw_out (f : Power → Power) (s : State) : (s.modPw f).out = s.out := rfl
@[simp] theorem State.modPw_pending (f : Power → Power) (s : State) : (s.modPw f).pending = s.pending := rfl
@[simp] theorem State.modPw_port_row (f : Power → Power) (j : Nat) (s : State) : (s.modPw f).port j = s.port j := rfl
@[simp] theorem State.modPw_inst_row (f : Power → Power) (j : Nat) (s : State) : (s.modPw f).inst j = s.inst j := rfl
@[simp] theorem State.modPw_die_row (f : Power → Power) (j : Nat) (s : State) : (s.modPw f).die j = s.die j := rfl
@[simp] theorem State.modPw_link_row (f : Power → Power) (j : Nat) (s : State) : (s.modPw f).link j = s.link j := rfl
@[simp] theorem State.modPw_pod_row (f : Power → Power) (j : Nat) (s : State) : (s.modPw f).pod j = s.pod j := rfl
@[simp] theorem State.modPw_chanter_row (f : Power → Power) (j : Nat) (s : State) : (s.modPw f).chanter j = s.chanter j := rfl
@[simp] theorem State.modPw_group_row (f : Power → Power) (j : Nat) (s : State) : (s.modPw f).group j = s.group j := rfl
@[simp] theorem State.modPw_stop_row (f : Power → Power) (j : Nat) (s : State) : (s.modPw f).stop j = s.stop j := rfl
@[simp] theorem State.modPw_chan_row (f : Power → Power) (j : Nat) (s : State) : (s.modPw f).chan j = s.chan j := rfl
@[simp] theorem State.modPw_drone_row (f : Power → Power) (j : Nat) (s : State) : (s.modPw f).drone j = s.drone j := rfl
@[simp] theorem State.modPart_part (f : Part → Part) (s : State) : (s.modPart f).part = f s.part := rfl
@[simp] theorem State.modPart_now (f : Part → Part) (s : State) : (s.modPart f).now = s.now := rfl
@[simp] theorem State.modPart_modes (f : Part → Part) (s : State) : (s.modPart f).modes = s.modes := rfl
@[simp] theorem State.modPart_pw (f : Part → Part) (s : State) : (s.modPart f).pw = s.pw := rfl
@[simp] theorem State.modPart_keep (f : Part → Part) (s : State) : (s.modPart f).keep = s.keep := rfl
@[simp] theorem State.modPart_otp (f : Part → Part) (s : State) : (s.modPart f).otp = s.otp := rfl
@[simp] theorem State.modPart_flash (f : Part → Part) (s : State) : (s.modPart f).flash = s.flash := rfl
@[simp] theorem State.modPart_format (f : Part → Part) (s : State) : (s.modPart f).format = s.format := rfl
@[simp] theorem State.modPart_spares (f : Part → Part) (s : State) : (s.modPart f).spares = s.spares := rfl
@[simp] theorem State.modPart_ports (f : Part → Part) (s : State) : (s.modPart f).ports = s.ports := rfl
@[simp] theorem State.modPart_insts (f : Part → Part) (s : State) : (s.modPart f).insts = s.insts := rfl
@[simp] theorem State.modPart_ctxs (f : Part → Part) (s : State) : (s.modPart f).ctxs = s.ctxs := rfl
@[simp] theorem State.modPart_ended (f : Part → Part) (s : State) : (s.modPart f).ended = s.ended := rfl
@[simp] theorem State.modPart_nextCtx (f : Part → Part) (s : State) : (s.modPart f).nextCtx = s.nextCtx := rfl
@[simp] theorem State.modPart_fetches (f : Part → Part) (s : State) : (s.modPart f).fetches = s.fetches := rfl
@[simp] theorem State.modPart_bells (f : Part → Part) (s : State) : (s.modPart f).bells = s.bells := rfl
@[simp] theorem State.modPart_live (f : Part → Part) (s : State) : (s.modPart f).live = s.live := rfl
@[simp] theorem State.modPart_sealed (f : Part → Part) (s : State) : (s.modPart f).sealed = s.sealed := rfl
@[simp] theorem State.modPart_jrn (f : Part → Part) (s : State) : (s.modPart f).jrn = s.jrn := rfl
@[simp] theorem State.modPart_vault (f : Part → Part) (s : State) : (s.modPart f).vault = s.vault := rfl
@[simp] theorem State.modPart_lines (f : Part → Part) (s : State) : (s.modPart f).lines = s.lines := rfl
@[simp] theorem State.modPart_lends (f : Part → Part) (s : State) : (s.modPart f).lends = s.lends := rfl
@[simp] theorem State.modPart_mc (f : Part → Part) (s : State) : (s.modPart f).mc = s.mc := rfl
@[simp] theorem State.modPart_cache (f : Part → Part) (s : State) : (s.modPart f).cache = s.cache := rfl
@[simp] theorem State.modPart_cw (f : Part → Part) (s : State) : (s.modPart f).cw = s.cw := rfl
@[simp] theorem State.modPart_groups (f : Part → Part) (s : State) : (s.modPart f).groups = s.groups := rfl
@[simp] theorem State.modPart_ops (f : Part → Part) (s : State) : (s.modPart f).ops = s.ops := rfl
@[simp] theorem State.modPart_solves (f : Part → Part) (s : State) : (s.modPart f).solves = s.solves := rfl
@[simp] theorem State.modPart_dies (f : Part → Part) (s : State) : (s.modPart f).dies = s.dies := rfl
@[simp] theorem State.modPart_chanters (f : Part → Part) (s : State) : (s.modPart f).chanters = s.chanters := rfl
@[simp] theorem State.modPart_links (f : Part → Part) (s : State) : (s.modPart f).links = s.links := rfl
@[simp] theorem State.modPart_pods (f : Part → Part) (s : State) : (s.modPart f).pods = s.pods := rfl
@[simp] theorem State.modPart_stops (f : Part → Part) (s : State) : (s.modPart f).stops = s.stops := rfl
@[simp] theorem State.modPart_store (f : Part → Part) (s : State) : (s.modPart f).store = s.store := rfl
@[simp] theorem State.modPart_chans (f : Part → Part) (s : State) : (s.modPart f).chans = s.chans := rfl
@[simp] theorem State.modPart_drones (f : Part → Part) (s : State) : (s.modPart f).drones = s.drones := rfl
@[simp] theorem State.modPart_ev (f : Part → Part) (s : State) : (s.modPart f).ev = s.ev := rfl
@[simp] theorem State.modPart_health (f : Part → Part) (s : State) : (s.modPart f).health = s.health := rfl
@[simp] theorem State.modPart_mech (f : Part → Part) (s : State) : (s.modPart f).mech = s.mech := rfl
@[simp] theorem State.modPart_free (f : Part → Part) (s : State) : (s.modPart f).free = s.free := rfl
@[simp] theorem State.modPart_out (f : Part → Part) (s : State) : (s.modPart f).out = s.out := rfl
@[simp] theorem State.modPart_pending (f : Part → Part) (s : State) : (s.modPart f).pending = s.pending := rfl
@[simp] theorem State.modPart_port_row (f : Part → Part) (j : Nat) (s : State) : (s.modPart f).port j = s.port j := rfl
@[simp] theorem State.modPart_inst_row (f : Part → Part) (j : Nat) (s : State) : (s.modPart f).inst j = s.inst j := rfl
@[simp] theorem State.modPart_die_row (f : Part → Part) (j : Nat) (s : State) : (s.modPart f).die j = s.die j := rfl
@[simp] theorem State.modPart_link_row (f : Part → Part) (j : Nat) (s : State) : (s.modPart f).link j = s.link j := rfl
@[simp] theorem State.modPart_pod_row (f : Part → Part) (j : Nat) (s : State) : (s.modPart f).pod j = s.pod j := rfl
@[simp] theorem State.modPart_chanter_row (f : Part → Part) (j : Nat) (s : State) : (s.modPart f).chanter j = s.chanter j := rfl
@[simp] theorem State.modPart_group_row (f : Part → Part) (j : Nat) (s : State) : (s.modPart f).group j = s.group j := rfl
@[simp] theorem State.modPart_stop_row (f : Part → Part) (j : Nat) (s : State) : (s.modPart f).stop j = s.stop j := rfl
@[simp] theorem State.modPart_chan_row (f : Part → Part) (j : Nat) (s : State) : (s.modPart f).chan j = s.chan j := rfl
@[simp] theorem State.modPart_drone_row (f : Part → Part) (j : Nat) (s : State) : (s.modPart f).drone j = s.drone j := rfl
@[simp] theorem State.modKeep_keep (f : Keep → Keep) (s : State) : (s.modKeep f).keep = f s.keep := rfl
@[simp] theorem State.modKeep_now (f : Keep → Keep) (s : State) : (s.modKeep f).now = s.now := rfl
@[simp] theorem State.modKeep_modes (f : Keep → Keep) (s : State) : (s.modKeep f).modes = s.modes := rfl
@[simp] theorem State.modKeep_pw (f : Keep → Keep) (s : State) : (s.modKeep f).pw = s.pw := rfl
@[simp] theorem State.modKeep_part (f : Keep → Keep) (s : State) : (s.modKeep f).part = s.part := rfl
@[simp] theorem State.modKeep_otp (f : Keep → Keep) (s : State) : (s.modKeep f).otp = s.otp := rfl
@[simp] theorem State.modKeep_flash (f : Keep → Keep) (s : State) : (s.modKeep f).flash = s.flash := rfl
@[simp] theorem State.modKeep_format (f : Keep → Keep) (s : State) : (s.modKeep f).format = s.format := rfl
@[simp] theorem State.modKeep_spares (f : Keep → Keep) (s : State) : (s.modKeep f).spares = s.spares := rfl
@[simp] theorem State.modKeep_ports (f : Keep → Keep) (s : State) : (s.modKeep f).ports = s.ports := rfl
@[simp] theorem State.modKeep_insts (f : Keep → Keep) (s : State) : (s.modKeep f).insts = s.insts := rfl
@[simp] theorem State.modKeep_ctxs (f : Keep → Keep) (s : State) : (s.modKeep f).ctxs = s.ctxs := rfl
@[simp] theorem State.modKeep_ended (f : Keep → Keep) (s : State) : (s.modKeep f).ended = s.ended := rfl
@[simp] theorem State.modKeep_nextCtx (f : Keep → Keep) (s : State) : (s.modKeep f).nextCtx = s.nextCtx := rfl
@[simp] theorem State.modKeep_fetches (f : Keep → Keep) (s : State) : (s.modKeep f).fetches = s.fetches := rfl
@[simp] theorem State.modKeep_bells (f : Keep → Keep) (s : State) : (s.modKeep f).bells = s.bells := rfl
@[simp] theorem State.modKeep_live (f : Keep → Keep) (s : State) : (s.modKeep f).live = s.live := rfl
@[simp] theorem State.modKeep_sealed (f : Keep → Keep) (s : State) : (s.modKeep f).sealed = s.sealed := rfl
@[simp] theorem State.modKeep_jrn (f : Keep → Keep) (s : State) : (s.modKeep f).jrn = s.jrn := rfl
@[simp] theorem State.modKeep_vault (f : Keep → Keep) (s : State) : (s.modKeep f).vault = s.vault := rfl
@[simp] theorem State.modKeep_lines (f : Keep → Keep) (s : State) : (s.modKeep f).lines = s.lines := rfl
@[simp] theorem State.modKeep_lends (f : Keep → Keep) (s : State) : (s.modKeep f).lends = s.lends := rfl
@[simp] theorem State.modKeep_mc (f : Keep → Keep) (s : State) : (s.modKeep f).mc = s.mc := rfl
@[simp] theorem State.modKeep_cache (f : Keep → Keep) (s : State) : (s.modKeep f).cache = s.cache := rfl
@[simp] theorem State.modKeep_cw (f : Keep → Keep) (s : State) : (s.modKeep f).cw = s.cw := rfl
@[simp] theorem State.modKeep_groups (f : Keep → Keep) (s : State) : (s.modKeep f).groups = s.groups := rfl
@[simp] theorem State.modKeep_ops (f : Keep → Keep) (s : State) : (s.modKeep f).ops = s.ops := rfl
@[simp] theorem State.modKeep_solves (f : Keep → Keep) (s : State) : (s.modKeep f).solves = s.solves := rfl
@[simp] theorem State.modKeep_dies (f : Keep → Keep) (s : State) : (s.modKeep f).dies = s.dies := rfl
@[simp] theorem State.modKeep_chanters (f : Keep → Keep) (s : State) : (s.modKeep f).chanters = s.chanters := rfl
@[simp] theorem State.modKeep_links (f : Keep → Keep) (s : State) : (s.modKeep f).links = s.links := rfl
@[simp] theorem State.modKeep_pods (f : Keep → Keep) (s : State) : (s.modKeep f).pods = s.pods := rfl
@[simp] theorem State.modKeep_stops (f : Keep → Keep) (s : State) : (s.modKeep f).stops = s.stops := rfl
@[simp] theorem State.modKeep_store (f : Keep → Keep) (s : State) : (s.modKeep f).store = s.store := rfl
@[simp] theorem State.modKeep_chans (f : Keep → Keep) (s : State) : (s.modKeep f).chans = s.chans := rfl
@[simp] theorem State.modKeep_drones (f : Keep → Keep) (s : State) : (s.modKeep f).drones = s.drones := rfl
@[simp] theorem State.modKeep_ev (f : Keep → Keep) (s : State) : (s.modKeep f).ev = s.ev := rfl
@[simp] theorem State.modKeep_health (f : Keep → Keep) (s : State) : (s.modKeep f).health = s.health := rfl
@[simp] theorem State.modKeep_mech (f : Keep → Keep) (s : State) : (s.modKeep f).mech = s.mech := rfl
@[simp] theorem State.modKeep_free (f : Keep → Keep) (s : State) : (s.modKeep f).free = s.free := rfl
@[simp] theorem State.modKeep_out (f : Keep → Keep) (s : State) : (s.modKeep f).out = s.out := rfl
@[simp] theorem State.modKeep_pending (f : Keep → Keep) (s : State) : (s.modKeep f).pending = s.pending := rfl
@[simp] theorem State.modKeep_port_row (f : Keep → Keep) (j : Nat) (s : State) : (s.modKeep f).port j = s.port j := rfl
@[simp] theorem State.modKeep_inst_row (f : Keep → Keep) (j : Nat) (s : State) : (s.modKeep f).inst j = s.inst j := rfl
@[simp] theorem State.modKeep_die_row (f : Keep → Keep) (j : Nat) (s : State) : (s.modKeep f).die j = s.die j := rfl
@[simp] theorem State.modKeep_link_row (f : Keep → Keep) (j : Nat) (s : State) : (s.modKeep f).link j = s.link j := rfl
@[simp] theorem State.modKeep_pod_row (f : Keep → Keep) (j : Nat) (s : State) : (s.modKeep f).pod j = s.pod j := rfl
@[simp] theorem State.modKeep_chanter_row (f : Keep → Keep) (j : Nat) (s : State) : (s.modKeep f).chanter j = s.chanter j := rfl
@[simp] theorem State.modKeep_group_row (f : Keep → Keep) (j : Nat) (s : State) : (s.modKeep f).group j = s.group j := rfl
@[simp] theorem State.modKeep_stop_row (f : Keep → Keep) (j : Nat) (s : State) : (s.modKeep f).stop j = s.stop j := rfl
@[simp] theorem State.modKeep_chan_row (f : Keep → Keep) (j : Nat) (s : State) : (s.modKeep f).chan j = s.chan j := rfl
@[simp] theorem State.modKeep_drone_row (f : Keep → Keep) (j : Nat) (s : State) : (s.modKeep f).drone j = s.drone j := rfl
@[simp] theorem State.modCache_cache (f : Cache → Cache) (s : State) : (s.modCache f).cache = f s.cache := rfl
@[simp] theorem State.modCache_now (f : Cache → Cache) (s : State) : (s.modCache f).now = s.now := rfl
@[simp] theorem State.modCache_modes (f : Cache → Cache) (s : State) : (s.modCache f).modes = s.modes := rfl
@[simp] theorem State.modCache_pw (f : Cache → Cache) (s : State) : (s.modCache f).pw = s.pw := rfl
@[simp] theorem State.modCache_part (f : Cache → Cache) (s : State) : (s.modCache f).part = s.part := rfl
@[simp] theorem State.modCache_keep (f : Cache → Cache) (s : State) : (s.modCache f).keep = s.keep := rfl
@[simp] theorem State.modCache_otp (f : Cache → Cache) (s : State) : (s.modCache f).otp = s.otp := rfl
@[simp] theorem State.modCache_flash (f : Cache → Cache) (s : State) : (s.modCache f).flash = s.flash := rfl
@[simp] theorem State.modCache_format (f : Cache → Cache) (s : State) : (s.modCache f).format = s.format := rfl
@[simp] theorem State.modCache_spares (f : Cache → Cache) (s : State) : (s.modCache f).spares = s.spares := rfl
@[simp] theorem State.modCache_ports (f : Cache → Cache) (s : State) : (s.modCache f).ports = s.ports := rfl
@[simp] theorem State.modCache_insts (f : Cache → Cache) (s : State) : (s.modCache f).insts = s.insts := rfl
@[simp] theorem State.modCache_ctxs (f : Cache → Cache) (s : State) : (s.modCache f).ctxs = s.ctxs := rfl
@[simp] theorem State.modCache_ended (f : Cache → Cache) (s : State) : (s.modCache f).ended = s.ended := rfl
@[simp] theorem State.modCache_nextCtx (f : Cache → Cache) (s : State) : (s.modCache f).nextCtx = s.nextCtx := rfl
@[simp] theorem State.modCache_fetches (f : Cache → Cache) (s : State) : (s.modCache f).fetches = s.fetches := rfl
@[simp] theorem State.modCache_bells (f : Cache → Cache) (s : State) : (s.modCache f).bells = s.bells := rfl
@[simp] theorem State.modCache_live (f : Cache → Cache) (s : State) : (s.modCache f).live = s.live := rfl
@[simp] theorem State.modCache_sealed (f : Cache → Cache) (s : State) : (s.modCache f).sealed = s.sealed := rfl
@[simp] theorem State.modCache_jrn (f : Cache → Cache) (s : State) : (s.modCache f).jrn = s.jrn := rfl
@[simp] theorem State.modCache_vault (f : Cache → Cache) (s : State) : (s.modCache f).vault = s.vault := rfl
@[simp] theorem State.modCache_lines (f : Cache → Cache) (s : State) : (s.modCache f).lines = s.lines := rfl
@[simp] theorem State.modCache_lends (f : Cache → Cache) (s : State) : (s.modCache f).lends = s.lends := rfl
@[simp] theorem State.modCache_mc (f : Cache → Cache) (s : State) : (s.modCache f).mc = s.mc := rfl
@[simp] theorem State.modCache_cw (f : Cache → Cache) (s : State) : (s.modCache f).cw = s.cw := rfl
@[simp] theorem State.modCache_groups (f : Cache → Cache) (s : State) : (s.modCache f).groups = s.groups := rfl
@[simp] theorem State.modCache_ops (f : Cache → Cache) (s : State) : (s.modCache f).ops = s.ops := rfl
@[simp] theorem State.modCache_solves (f : Cache → Cache) (s : State) : (s.modCache f).solves = s.solves := rfl
@[simp] theorem State.modCache_dies (f : Cache → Cache) (s : State) : (s.modCache f).dies = s.dies := rfl
@[simp] theorem State.modCache_chanters (f : Cache → Cache) (s : State) : (s.modCache f).chanters = s.chanters := rfl
@[simp] theorem State.modCache_links (f : Cache → Cache) (s : State) : (s.modCache f).links = s.links := rfl
@[simp] theorem State.modCache_pods (f : Cache → Cache) (s : State) : (s.modCache f).pods = s.pods := rfl
@[simp] theorem State.modCache_stops (f : Cache → Cache) (s : State) : (s.modCache f).stops = s.stops := rfl
@[simp] theorem State.modCache_store (f : Cache → Cache) (s : State) : (s.modCache f).store = s.store := rfl
@[simp] theorem State.modCache_chans (f : Cache → Cache) (s : State) : (s.modCache f).chans = s.chans := rfl
@[simp] theorem State.modCache_drones (f : Cache → Cache) (s : State) : (s.modCache f).drones = s.drones := rfl
@[simp] theorem State.modCache_ev (f : Cache → Cache) (s : State) : (s.modCache f).ev = s.ev := rfl
@[simp] theorem State.modCache_health (f : Cache → Cache) (s : State) : (s.modCache f).health = s.health := rfl
@[simp] theorem State.modCache_mech (f : Cache → Cache) (s : State) : (s.modCache f).mech = s.mech := rfl
@[simp] theorem State.modCache_free (f : Cache → Cache) (s : State) : (s.modCache f).free = s.free := rfl
@[simp] theorem State.modCache_out (f : Cache → Cache) (s : State) : (s.modCache f).out = s.out := rfl
@[simp] theorem State.modCache_pending (f : Cache → Cache) (s : State) : (s.modCache f).pending = s.pending := rfl
@[simp] theorem State.modCache_port_row (f : Cache → Cache) (j : Nat) (s : State) : (s.modCache f).port j = s.port j := rfl
@[simp] theorem State.modCache_inst_row (f : Cache → Cache) (j : Nat) (s : State) : (s.modCache f).inst j = s.inst j := rfl
@[simp] theorem State.modCache_die_row (f : Cache → Cache) (j : Nat) (s : State) : (s.modCache f).die j = s.die j := rfl
@[simp] theorem State.modCache_link_row (f : Cache → Cache) (j : Nat) (s : State) : (s.modCache f).link j = s.link j := rfl
@[simp] theorem State.modCache_pod_row (f : Cache → Cache) (j : Nat) (s : State) : (s.modCache f).pod j = s.pod j := rfl
@[simp] theorem State.modCache_chanter_row (f : Cache → Cache) (j : Nat) (s : State) : (s.modCache f).chanter j = s.chanter j := rfl
@[simp] theorem State.modCache_group_row (f : Cache → Cache) (j : Nat) (s : State) : (s.modCache f).group j = s.group j := rfl
@[simp] theorem State.modCache_stop_row (f : Cache → Cache) (j : Nat) (s : State) : (s.modCache f).stop j = s.stop j := rfl
@[simp] theorem State.modCache_chan_row (f : Cache → Cache) (j : Nat) (s : State) : (s.modCache f).chan j = s.chan j := rfl
@[simp] theorem State.modCache_drone_row (f : Cache → Cache) (j : Nat) (s : State) : (s.modCache f).drone j = s.drone j := rfl
@[simp] theorem State.modHealth_health (f : Health → Health) (s : State) : (s.modHealth f).health = f s.health := rfl
@[simp] theorem State.modHealth_now (f : Health → Health) (s : State) : (s.modHealth f).now = s.now := rfl
@[simp] theorem State.modHealth_modes (f : Health → Health) (s : State) : (s.modHealth f).modes = s.modes := rfl
@[simp] theorem State.modHealth_pw (f : Health → Health) (s : State) : (s.modHealth f).pw = s.pw := rfl
@[simp] theorem State.modHealth_part (f : Health → Health) (s : State) : (s.modHealth f).part = s.part := rfl
@[simp] theorem State.modHealth_keep (f : Health → Health) (s : State) : (s.modHealth f).keep = s.keep := rfl
@[simp] theorem State.modHealth_otp (f : Health → Health) (s : State) : (s.modHealth f).otp = s.otp := rfl
@[simp] theorem State.modHealth_flash (f : Health → Health) (s : State) : (s.modHealth f).flash = s.flash := rfl
@[simp] theorem State.modHealth_format (f : Health → Health) (s : State) : (s.modHealth f).format = s.format := rfl
@[simp] theorem State.modHealth_spares (f : Health → Health) (s : State) : (s.modHealth f).spares = s.spares := rfl
@[simp] theorem State.modHealth_ports (f : Health → Health) (s : State) : (s.modHealth f).ports = s.ports := rfl
@[simp] theorem State.modHealth_insts (f : Health → Health) (s : State) : (s.modHealth f).insts = s.insts := rfl
@[simp] theorem State.modHealth_ctxs (f : Health → Health) (s : State) : (s.modHealth f).ctxs = s.ctxs := rfl
@[simp] theorem State.modHealth_ended (f : Health → Health) (s : State) : (s.modHealth f).ended = s.ended := rfl
@[simp] theorem State.modHealth_nextCtx (f : Health → Health) (s : State) : (s.modHealth f).nextCtx = s.nextCtx := rfl
@[simp] theorem State.modHealth_fetches (f : Health → Health) (s : State) : (s.modHealth f).fetches = s.fetches := rfl
@[simp] theorem State.modHealth_bells (f : Health → Health) (s : State) : (s.modHealth f).bells = s.bells := rfl
@[simp] theorem State.modHealth_live (f : Health → Health) (s : State) : (s.modHealth f).live = s.live := rfl
@[simp] theorem State.modHealth_sealed (f : Health → Health) (s : State) : (s.modHealth f).sealed = s.sealed := rfl
@[simp] theorem State.modHealth_jrn (f : Health → Health) (s : State) : (s.modHealth f).jrn = s.jrn := rfl
@[simp] theorem State.modHealth_vault (f : Health → Health) (s : State) : (s.modHealth f).vault = s.vault := rfl
@[simp] theorem State.modHealth_lines (f : Health → Health) (s : State) : (s.modHealth f).lines = s.lines := rfl
@[simp] theorem State.modHealth_lends (f : Health → Health) (s : State) : (s.modHealth f).lends = s.lends := rfl
@[simp] theorem State.modHealth_mc (f : Health → Health) (s : State) : (s.modHealth f).mc = s.mc := rfl
@[simp] theorem State.modHealth_cache (f : Health → Health) (s : State) : (s.modHealth f).cache = s.cache := rfl
@[simp] theorem State.modHealth_cw (f : Health → Health) (s : State) : (s.modHealth f).cw = s.cw := rfl
@[simp] theorem State.modHealth_groups (f : Health → Health) (s : State) : (s.modHealth f).groups = s.groups := rfl
@[simp] theorem State.modHealth_ops (f : Health → Health) (s : State) : (s.modHealth f).ops = s.ops := rfl
@[simp] theorem State.modHealth_solves (f : Health → Health) (s : State) : (s.modHealth f).solves = s.solves := rfl
@[simp] theorem State.modHealth_dies (f : Health → Health) (s : State) : (s.modHealth f).dies = s.dies := rfl
@[simp] theorem State.modHealth_chanters (f : Health → Health) (s : State) : (s.modHealth f).chanters = s.chanters := rfl
@[simp] theorem State.modHealth_links (f : Health → Health) (s : State) : (s.modHealth f).links = s.links := rfl
@[simp] theorem State.modHealth_pods (f : Health → Health) (s : State) : (s.modHealth f).pods = s.pods := rfl
@[simp] theorem State.modHealth_stops (f : Health → Health) (s : State) : (s.modHealth f).stops = s.stops := rfl
@[simp] theorem State.modHealth_store (f : Health → Health) (s : State) : (s.modHealth f).store = s.store := rfl
@[simp] theorem State.modHealth_chans (f : Health → Health) (s : State) : (s.modHealth f).chans = s.chans := rfl
@[simp] theorem State.modHealth_drones (f : Health → Health) (s : State) : (s.modHealth f).drones = s.drones := rfl
@[simp] theorem State.modHealth_ev (f : Health → Health) (s : State) : (s.modHealth f).ev = s.ev := rfl
@[simp] theorem State.modHealth_mech (f : Health → Health) (s : State) : (s.modHealth f).mech = s.mech := rfl
@[simp] theorem State.modHealth_free (f : Health → Health) (s : State) : (s.modHealth f).free = s.free := rfl
@[simp] theorem State.modHealth_out (f : Health → Health) (s : State) : (s.modHealth f).out = s.out := rfl
@[simp] theorem State.modHealth_pending (f : Health → Health) (s : State) : (s.modHealth f).pending = s.pending := rfl
@[simp] theorem State.modHealth_port_row (f : Health → Health) (j : Nat) (s : State) : (s.modHealth f).port j = s.port j := rfl
@[simp] theorem State.modHealth_inst_row (f : Health → Health) (j : Nat) (s : State) : (s.modHealth f).inst j = s.inst j := rfl
@[simp] theorem State.modHealth_die_row (f : Health → Health) (j : Nat) (s : State) : (s.modHealth f).die j = s.die j := rfl
@[simp] theorem State.modHealth_link_row (f : Health → Health) (j : Nat) (s : State) : (s.modHealth f).link j = s.link j := rfl
@[simp] theorem State.modHealth_pod_row (f : Health → Health) (j : Nat) (s : State) : (s.modHealth f).pod j = s.pod j := rfl
@[simp] theorem State.modHealth_chanter_row (f : Health → Health) (j : Nat) (s : State) : (s.modHealth f).chanter j = s.chanter j := rfl
@[simp] theorem State.modHealth_group_row (f : Health → Health) (j : Nat) (s : State) : (s.modHealth f).group j = s.group j := rfl
@[simp] theorem State.modHealth_stop_row (f : Health → Health) (j : Nat) (s : State) : (s.modHealth f).stop j = s.stop j := rfl
@[simp] theorem State.modHealth_chan_row (f : Health → Health) (j : Nat) (s : State) : (s.modHealth f).chan j = s.chan j := rfl
@[simp] theorem State.modHealth_drone_row (f : Health → Health) (j : Nat) (s : State) : (s.modHealth f).drone j = s.drone j := rfl
@[simp] theorem State.modJrn_jrn (f : Journal → Journal) (s : State) : (s.modJrn f).jrn = f s.jrn := rfl
@[simp] theorem State.modJrn_now (f : Journal → Journal) (s : State) : (s.modJrn f).now = s.now := rfl
@[simp] theorem State.modJrn_modes (f : Journal → Journal) (s : State) : (s.modJrn f).modes = s.modes := rfl
@[simp] theorem State.modJrn_pw (f : Journal → Journal) (s : State) : (s.modJrn f).pw = s.pw := rfl
@[simp] theorem State.modJrn_part (f : Journal → Journal) (s : State) : (s.modJrn f).part = s.part := rfl
@[simp] theorem State.modJrn_keep (f : Journal → Journal) (s : State) : (s.modJrn f).keep = s.keep := rfl
@[simp] theorem State.modJrn_otp (f : Journal → Journal) (s : State) : (s.modJrn f).otp = s.otp := rfl
@[simp] theorem State.modJrn_flash (f : Journal → Journal) (s : State) : (s.modJrn f).flash = s.flash := rfl
@[simp] theorem State.modJrn_format (f : Journal → Journal) (s : State) : (s.modJrn f).format = s.format := rfl
@[simp] theorem State.modJrn_spares (f : Journal → Journal) (s : State) : (s.modJrn f).spares = s.spares := rfl
@[simp] theorem State.modJrn_ports (f : Journal → Journal) (s : State) : (s.modJrn f).ports = s.ports := rfl
@[simp] theorem State.modJrn_insts (f : Journal → Journal) (s : State) : (s.modJrn f).insts = s.insts := rfl
@[simp] theorem State.modJrn_ctxs (f : Journal → Journal) (s : State) : (s.modJrn f).ctxs = s.ctxs := rfl
@[simp] theorem State.modJrn_ended (f : Journal → Journal) (s : State) : (s.modJrn f).ended = s.ended := rfl
@[simp] theorem State.modJrn_nextCtx (f : Journal → Journal) (s : State) : (s.modJrn f).nextCtx = s.nextCtx := rfl
@[simp] theorem State.modJrn_fetches (f : Journal → Journal) (s : State) : (s.modJrn f).fetches = s.fetches := rfl
@[simp] theorem State.modJrn_bells (f : Journal → Journal) (s : State) : (s.modJrn f).bells = s.bells := rfl
@[simp] theorem State.modJrn_live (f : Journal → Journal) (s : State) : (s.modJrn f).live = s.live := rfl
@[simp] theorem State.modJrn_sealed (f : Journal → Journal) (s : State) : (s.modJrn f).sealed = s.sealed := rfl
@[simp] theorem State.modJrn_vault (f : Journal → Journal) (s : State) : (s.modJrn f).vault = s.vault := rfl
@[simp] theorem State.modJrn_lines (f : Journal → Journal) (s : State) : (s.modJrn f).lines = s.lines := rfl
@[simp] theorem State.modJrn_lends (f : Journal → Journal) (s : State) : (s.modJrn f).lends = s.lends := rfl
@[simp] theorem State.modJrn_mc (f : Journal → Journal) (s : State) : (s.modJrn f).mc = s.mc := rfl
@[simp] theorem State.modJrn_cache (f : Journal → Journal) (s : State) : (s.modJrn f).cache = s.cache := rfl
@[simp] theorem State.modJrn_cw (f : Journal → Journal) (s : State) : (s.modJrn f).cw = s.cw := rfl
@[simp] theorem State.modJrn_groups (f : Journal → Journal) (s : State) : (s.modJrn f).groups = s.groups := rfl
@[simp] theorem State.modJrn_ops (f : Journal → Journal) (s : State) : (s.modJrn f).ops = s.ops := rfl
@[simp] theorem State.modJrn_solves (f : Journal → Journal) (s : State) : (s.modJrn f).solves = s.solves := rfl
@[simp] theorem State.modJrn_dies (f : Journal → Journal) (s : State) : (s.modJrn f).dies = s.dies := rfl
@[simp] theorem State.modJrn_chanters (f : Journal → Journal) (s : State) : (s.modJrn f).chanters = s.chanters := rfl
@[simp] theorem State.modJrn_links (f : Journal → Journal) (s : State) : (s.modJrn f).links = s.links := rfl
@[simp] theorem State.modJrn_pods (f : Journal → Journal) (s : State) : (s.modJrn f).pods = s.pods := rfl
@[simp] theorem State.modJrn_stops (f : Journal → Journal) (s : State) : (s.modJrn f).stops = s.stops := rfl
@[simp] theorem State.modJrn_store (f : Journal → Journal) (s : State) : (s.modJrn f).store = s.store := rfl
@[simp] theorem State.modJrn_chans (f : Journal → Journal) (s : State) : (s.modJrn f).chans = s.chans := rfl
@[simp] theorem State.modJrn_drones (f : Journal → Journal) (s : State) : (s.modJrn f).drones = s.drones := rfl
@[simp] theorem State.modJrn_ev (f : Journal → Journal) (s : State) : (s.modJrn f).ev = s.ev := rfl
@[simp] theorem State.modJrn_health (f : Journal → Journal) (s : State) : (s.modJrn f).health = s.health := rfl
@[simp] theorem State.modJrn_mech (f : Journal → Journal) (s : State) : (s.modJrn f).mech = s.mech := rfl
@[simp] theorem State.modJrn_free (f : Journal → Journal) (s : State) : (s.modJrn f).free = s.free := rfl
@[simp] theorem State.modJrn_out (f : Journal → Journal) (s : State) : (s.modJrn f).out = s.out := rfl
@[simp] theorem State.modJrn_pending (f : Journal → Journal) (s : State) : (s.modJrn f).pending = s.pending := rfl
@[simp] theorem State.modJrn_port_row (f : Journal → Journal) (j : Nat) (s : State) : (s.modJrn f).port j = s.port j := rfl
@[simp] theorem State.modJrn_inst_row (f : Journal → Journal) (j : Nat) (s : State) : (s.modJrn f).inst j = s.inst j := rfl
@[simp] theorem State.modJrn_die_row (f : Journal → Journal) (j : Nat) (s : State) : (s.modJrn f).die j = s.die j := rfl
@[simp] theorem State.modJrn_link_row (f : Journal → Journal) (j : Nat) (s : State) : (s.modJrn f).link j = s.link j := rfl
@[simp] theorem State.modJrn_pod_row (f : Journal → Journal) (j : Nat) (s : State) : (s.modJrn f).pod j = s.pod j := rfl
@[simp] theorem State.modJrn_chanter_row (f : Journal → Journal) (j : Nat) (s : State) : (s.modJrn f).chanter j = s.chanter j := rfl
@[simp] theorem State.modJrn_group_row (f : Journal → Journal) (j : Nat) (s : State) : (s.modJrn f).group j = s.group j := rfl
@[simp] theorem State.modJrn_stop_row (f : Journal → Journal) (j : Nat) (s : State) : (s.modJrn f).stop j = s.stop j := rfl
@[simp] theorem State.modJrn_chan_row (f : Journal → Journal) (j : Nat) (s : State) : (s.modJrn f).chan j = s.chan j := rfl
@[simp] theorem State.modJrn_drone_row (f : Journal → Journal) (j : Nat) (s : State) : (s.modJrn f).drone j = s.drone j := rfl
@[simp] theorem State.modFlash_flash (f : Flash → Flash) (s : State) : (s.modFlash f).flash = f s.flash := rfl
@[simp] theorem State.modFlash_now (f : Flash → Flash) (s : State) : (s.modFlash f).now = s.now := rfl
@[simp] theorem State.modFlash_modes (f : Flash → Flash) (s : State) : (s.modFlash f).modes = s.modes := rfl
@[simp] theorem State.modFlash_pw (f : Flash → Flash) (s : State) : (s.modFlash f).pw = s.pw := rfl
@[simp] theorem State.modFlash_part (f : Flash → Flash) (s : State) : (s.modFlash f).part = s.part := rfl
@[simp] theorem State.modFlash_keep (f : Flash → Flash) (s : State) : (s.modFlash f).keep = s.keep := rfl
@[simp] theorem State.modFlash_otp (f : Flash → Flash) (s : State) : (s.modFlash f).otp = s.otp := rfl
@[simp] theorem State.modFlash_format (f : Flash → Flash) (s : State) : (s.modFlash f).format = s.format := rfl
@[simp] theorem State.modFlash_spares (f : Flash → Flash) (s : State) : (s.modFlash f).spares = s.spares := rfl
@[simp] theorem State.modFlash_ports (f : Flash → Flash) (s : State) : (s.modFlash f).ports = s.ports := rfl
@[simp] theorem State.modFlash_insts (f : Flash → Flash) (s : State) : (s.modFlash f).insts = s.insts := rfl
@[simp] theorem State.modFlash_ctxs (f : Flash → Flash) (s : State) : (s.modFlash f).ctxs = s.ctxs := rfl
@[simp] theorem State.modFlash_ended (f : Flash → Flash) (s : State) : (s.modFlash f).ended = s.ended := rfl
@[simp] theorem State.modFlash_nextCtx (f : Flash → Flash) (s : State) : (s.modFlash f).nextCtx = s.nextCtx := rfl
@[simp] theorem State.modFlash_fetches (f : Flash → Flash) (s : State) : (s.modFlash f).fetches = s.fetches := rfl
@[simp] theorem State.modFlash_bells (f : Flash → Flash) (s : State) : (s.modFlash f).bells = s.bells := rfl
@[simp] theorem State.modFlash_live (f : Flash → Flash) (s : State) : (s.modFlash f).live = s.live := rfl
@[simp] theorem State.modFlash_sealed (f : Flash → Flash) (s : State) : (s.modFlash f).sealed = s.sealed := rfl
@[simp] theorem State.modFlash_jrn (f : Flash → Flash) (s : State) : (s.modFlash f).jrn = s.jrn := rfl
@[simp] theorem State.modFlash_vault (f : Flash → Flash) (s : State) : (s.modFlash f).vault = s.vault := rfl
@[simp] theorem State.modFlash_lines (f : Flash → Flash) (s : State) : (s.modFlash f).lines = s.lines := rfl
@[simp] theorem State.modFlash_lends (f : Flash → Flash) (s : State) : (s.modFlash f).lends = s.lends := rfl
@[simp] theorem State.modFlash_mc (f : Flash → Flash) (s : State) : (s.modFlash f).mc = s.mc := rfl
@[simp] theorem State.modFlash_cache (f : Flash → Flash) (s : State) : (s.modFlash f).cache = s.cache := rfl
@[simp] theorem State.modFlash_cw (f : Flash → Flash) (s : State) : (s.modFlash f).cw = s.cw := rfl
@[simp] theorem State.modFlash_groups (f : Flash → Flash) (s : State) : (s.modFlash f).groups = s.groups := rfl
@[simp] theorem State.modFlash_ops (f : Flash → Flash) (s : State) : (s.modFlash f).ops = s.ops := rfl
@[simp] theorem State.modFlash_solves (f : Flash → Flash) (s : State) : (s.modFlash f).solves = s.solves := rfl
@[simp] theorem State.modFlash_dies (f : Flash → Flash) (s : State) : (s.modFlash f).dies = s.dies := rfl
@[simp] theorem State.modFlash_chanters (f : Flash → Flash) (s : State) : (s.modFlash f).chanters = s.chanters := rfl
@[simp] theorem State.modFlash_links (f : Flash → Flash) (s : State) : (s.modFlash f).links = s.links := rfl
@[simp] theorem State.modFlash_pods (f : Flash → Flash) (s : State) : (s.modFlash f).pods = s.pods := rfl
@[simp] theorem State.modFlash_stops (f : Flash → Flash) (s : State) : (s.modFlash f).stops = s.stops := rfl
@[simp] theorem State.modFlash_store (f : Flash → Flash) (s : State) : (s.modFlash f).store = s.store := rfl
@[simp] theorem State.modFlash_chans (f : Flash → Flash) (s : State) : (s.modFlash f).chans = s.chans := rfl
@[simp] theorem State.modFlash_drones (f : Flash → Flash) (s : State) : (s.modFlash f).drones = s.drones := rfl
@[simp] theorem State.modFlash_ev (f : Flash → Flash) (s : State) : (s.modFlash f).ev = s.ev := rfl
@[simp] theorem State.modFlash_health (f : Flash → Flash) (s : State) : (s.modFlash f).health = s.health := rfl
@[simp] theorem State.modFlash_mech (f : Flash → Flash) (s : State) : (s.modFlash f).mech = s.mech := rfl
@[simp] theorem State.modFlash_free (f : Flash → Flash) (s : State) : (s.modFlash f).free = s.free := rfl
@[simp] theorem State.modFlash_out (f : Flash → Flash) (s : State) : (s.modFlash f).out = s.out := rfl
@[simp] theorem State.modFlash_pending (f : Flash → Flash) (s : State) : (s.modFlash f).pending = s.pending := rfl
@[simp] theorem State.modFlash_port_row (f : Flash → Flash) (j : Nat) (s : State) : (s.modFlash f).port j = s.port j := rfl
@[simp] theorem State.modFlash_inst_row (f : Flash → Flash) (j : Nat) (s : State) : (s.modFlash f).inst j = s.inst j := rfl
@[simp] theorem State.modFlash_die_row (f : Flash → Flash) (j : Nat) (s : State) : (s.modFlash f).die j = s.die j := rfl
@[simp] theorem State.modFlash_link_row (f : Flash → Flash) (j : Nat) (s : State) : (s.modFlash f).link j = s.link j := rfl
@[simp] theorem State.modFlash_pod_row (f : Flash → Flash) (j : Nat) (s : State) : (s.modFlash f).pod j = s.pod j := rfl
@[simp] theorem State.modFlash_chanter_row (f : Flash → Flash) (j : Nat) (s : State) : (s.modFlash f).chanter j = s.chanter j := rfl
@[simp] theorem State.modFlash_group_row (f : Flash → Flash) (j : Nat) (s : State) : (s.modFlash f).group j = s.group j := rfl
@[simp] theorem State.modFlash_stop_row (f : Flash → Flash) (j : Nat) (s : State) : (s.modFlash f).stop j = s.stop j := rfl
@[simp] theorem State.modFlash_chan_row (f : Flash → Flash) (j : Nat) (s : State) : (s.modFlash f).chan j = s.chan j := rfl
@[simp] theorem State.modFlash_drone_row (f : Flash → Flash) (j : Nat) (s : State) : (s.modFlash f).drone j = s.drone j := rfl
@[simp] theorem State.modSpares_spares (f : Spares → Spares) (s : State) : (s.modSpares f).spares = f s.spares := rfl
@[simp] theorem State.modSpares_now (f : Spares → Spares) (s : State) : (s.modSpares f).now = s.now := rfl
@[simp] theorem State.modSpares_modes (f : Spares → Spares) (s : State) : (s.modSpares f).modes = s.modes := rfl
@[simp] theorem State.modSpares_pw (f : Spares → Spares) (s : State) : (s.modSpares f).pw = s.pw := rfl
@[simp] theorem State.modSpares_part (f : Spares → Spares) (s : State) : (s.modSpares f).part = s.part := rfl
@[simp] theorem State.modSpares_keep (f : Spares → Spares) (s : State) : (s.modSpares f).keep = s.keep := rfl
@[simp] theorem State.modSpares_otp (f : Spares → Spares) (s : State) : (s.modSpares f).otp = s.otp := rfl
@[simp] theorem State.modSpares_flash (f : Spares → Spares) (s : State) : (s.modSpares f).flash = s.flash := rfl
@[simp] theorem State.modSpares_format (f : Spares → Spares) (s : State) : (s.modSpares f).format = s.format := rfl
@[simp] theorem State.modSpares_ports (f : Spares → Spares) (s : State) : (s.modSpares f).ports = s.ports := rfl
@[simp] theorem State.modSpares_insts (f : Spares → Spares) (s : State) : (s.modSpares f).insts = s.insts := rfl
@[simp] theorem State.modSpares_ctxs (f : Spares → Spares) (s : State) : (s.modSpares f).ctxs = s.ctxs := rfl
@[simp] theorem State.modSpares_ended (f : Spares → Spares) (s : State) : (s.modSpares f).ended = s.ended := rfl
@[simp] theorem State.modSpares_nextCtx (f : Spares → Spares) (s : State) : (s.modSpares f).nextCtx = s.nextCtx := rfl
@[simp] theorem State.modSpares_fetches (f : Spares → Spares) (s : State) : (s.modSpares f).fetches = s.fetches := rfl
@[simp] theorem State.modSpares_bells (f : Spares → Spares) (s : State) : (s.modSpares f).bells = s.bells := rfl
@[simp] theorem State.modSpares_live (f : Spares → Spares) (s : State) : (s.modSpares f).live = s.live := rfl
@[simp] theorem State.modSpares_sealed (f : Spares → Spares) (s : State) : (s.modSpares f).sealed = s.sealed := rfl
@[simp] theorem State.modSpares_jrn (f : Spares → Spares) (s : State) : (s.modSpares f).jrn = s.jrn := rfl
@[simp] theorem State.modSpares_vault (f : Spares → Spares) (s : State) : (s.modSpares f).vault = s.vault := rfl
@[simp] theorem State.modSpares_lines (f : Spares → Spares) (s : State) : (s.modSpares f).lines = s.lines := rfl
@[simp] theorem State.modSpares_lends (f : Spares → Spares) (s : State) : (s.modSpares f).lends = s.lends := rfl
@[simp] theorem State.modSpares_mc (f : Spares → Spares) (s : State) : (s.modSpares f).mc = s.mc := rfl
@[simp] theorem State.modSpares_cache (f : Spares → Spares) (s : State) : (s.modSpares f).cache = s.cache := rfl
@[simp] theorem State.modSpares_cw (f : Spares → Spares) (s : State) : (s.modSpares f).cw = s.cw := rfl
@[simp] theorem State.modSpares_groups (f : Spares → Spares) (s : State) : (s.modSpares f).groups = s.groups := rfl
@[simp] theorem State.modSpares_ops (f : Spares → Spares) (s : State) : (s.modSpares f).ops = s.ops := rfl
@[simp] theorem State.modSpares_solves (f : Spares → Spares) (s : State) : (s.modSpares f).solves = s.solves := rfl
@[simp] theorem State.modSpares_dies (f : Spares → Spares) (s : State) : (s.modSpares f).dies = s.dies := rfl
@[simp] theorem State.modSpares_chanters (f : Spares → Spares) (s : State) : (s.modSpares f).chanters = s.chanters := rfl
@[simp] theorem State.modSpares_links (f : Spares → Spares) (s : State) : (s.modSpares f).links = s.links := rfl
@[simp] theorem State.modSpares_pods (f : Spares → Spares) (s : State) : (s.modSpares f).pods = s.pods := rfl
@[simp] theorem State.modSpares_stops (f : Spares → Spares) (s : State) : (s.modSpares f).stops = s.stops := rfl
@[simp] theorem State.modSpares_store (f : Spares → Spares) (s : State) : (s.modSpares f).store = s.store := rfl
@[simp] theorem State.modSpares_chans (f : Spares → Spares) (s : State) : (s.modSpares f).chans = s.chans := rfl
@[simp] theorem State.modSpares_drones (f : Spares → Spares) (s : State) : (s.modSpares f).drones = s.drones := rfl
@[simp] theorem State.modSpares_ev (f : Spares → Spares) (s : State) : (s.modSpares f).ev = s.ev := rfl
@[simp] theorem State.modSpares_health (f : Spares → Spares) (s : State) : (s.modSpares f).health = s.health := rfl
@[simp] theorem State.modSpares_mech (f : Spares → Spares) (s : State) : (s.modSpares f).mech = s.mech := rfl
@[simp] theorem State.modSpares_free (f : Spares → Spares) (s : State) : (s.modSpares f).free = s.free := rfl
@[simp] theorem State.modSpares_out (f : Spares → Spares) (s : State) : (s.modSpares f).out = s.out := rfl
@[simp] theorem State.modSpares_pending (f : Spares → Spares) (s : State) : (s.modSpares f).pending = s.pending := rfl
@[simp] theorem State.modSpares_port_row (f : Spares → Spares) (j : Nat) (s : State) : (s.modSpares f).port j = s.port j := rfl
@[simp] theorem State.modSpares_inst_row (f : Spares → Spares) (j : Nat) (s : State) : (s.modSpares f).inst j = s.inst j := rfl
@[simp] theorem State.modSpares_die_row (f : Spares → Spares) (j : Nat) (s : State) : (s.modSpares f).die j = s.die j := rfl
@[simp] theorem State.modSpares_link_row (f : Spares → Spares) (j : Nat) (s : State) : (s.modSpares f).link j = s.link j := rfl
@[simp] theorem State.modSpares_pod_row (f : Spares → Spares) (j : Nat) (s : State) : (s.modSpares f).pod j = s.pod j := rfl
@[simp] theorem State.modSpares_chanter_row (f : Spares → Spares) (j : Nat) (s : State) : (s.modSpares f).chanter j = s.chanter j := rfl
@[simp] theorem State.modSpares_group_row (f : Spares → Spares) (j : Nat) (s : State) : (s.modSpares f).group j = s.group j := rfl
@[simp] theorem State.modSpares_stop_row (f : Spares → Spares) (j : Nat) (s : State) : (s.modSpares f).stop j = s.stop j := rfl
@[simp] theorem State.modSpares_chan_row (f : Spares → Spares) (j : Nat) (s : State) : (s.modSpares f).chan j = s.chan j := rfl
@[simp] theorem State.modSpares_drone_row (f : Spares → Spares) (j : Nat) (s : State) : (s.modSpares f).drone j = s.drone j := rfl
@[simp] theorem State.modMc_mc (f : MapCache → MapCache) (s : State) : (s.modMc f).mc = f s.mc := rfl
@[simp] theorem State.modMc_now (f : MapCache → MapCache) (s : State) : (s.modMc f).now = s.now := rfl
@[simp] theorem State.modMc_modes (f : MapCache → MapCache) (s : State) : (s.modMc f).modes = s.modes := rfl
@[simp] theorem State.modMc_pw (f : MapCache → MapCache) (s : State) : (s.modMc f).pw = s.pw := rfl
@[simp] theorem State.modMc_part (f : MapCache → MapCache) (s : State) : (s.modMc f).part = s.part := rfl
@[simp] theorem State.modMc_keep (f : MapCache → MapCache) (s : State) : (s.modMc f).keep = s.keep := rfl
@[simp] theorem State.modMc_otp (f : MapCache → MapCache) (s : State) : (s.modMc f).otp = s.otp := rfl
@[simp] theorem State.modMc_flash (f : MapCache → MapCache) (s : State) : (s.modMc f).flash = s.flash := rfl
@[simp] theorem State.modMc_format (f : MapCache → MapCache) (s : State) : (s.modMc f).format = s.format := rfl
@[simp] theorem State.modMc_spares (f : MapCache → MapCache) (s : State) : (s.modMc f).spares = s.spares := rfl
@[simp] theorem State.modMc_ports (f : MapCache → MapCache) (s : State) : (s.modMc f).ports = s.ports := rfl
@[simp] theorem State.modMc_insts (f : MapCache → MapCache) (s : State) : (s.modMc f).insts = s.insts := rfl
@[simp] theorem State.modMc_ctxs (f : MapCache → MapCache) (s : State) : (s.modMc f).ctxs = s.ctxs := rfl
@[simp] theorem State.modMc_ended (f : MapCache → MapCache) (s : State) : (s.modMc f).ended = s.ended := rfl
@[simp] theorem State.modMc_nextCtx (f : MapCache → MapCache) (s : State) : (s.modMc f).nextCtx = s.nextCtx := rfl
@[simp] theorem State.modMc_fetches (f : MapCache → MapCache) (s : State) : (s.modMc f).fetches = s.fetches := rfl
@[simp] theorem State.modMc_bells (f : MapCache → MapCache) (s : State) : (s.modMc f).bells = s.bells := rfl
@[simp] theorem State.modMc_live (f : MapCache → MapCache) (s : State) : (s.modMc f).live = s.live := rfl
@[simp] theorem State.modMc_sealed (f : MapCache → MapCache) (s : State) : (s.modMc f).sealed = s.sealed := rfl
@[simp] theorem State.modMc_jrn (f : MapCache → MapCache) (s : State) : (s.modMc f).jrn = s.jrn := rfl
@[simp] theorem State.modMc_vault (f : MapCache → MapCache) (s : State) : (s.modMc f).vault = s.vault := rfl
@[simp] theorem State.modMc_lines (f : MapCache → MapCache) (s : State) : (s.modMc f).lines = s.lines := rfl
@[simp] theorem State.modMc_lends (f : MapCache → MapCache) (s : State) : (s.modMc f).lends = s.lends := rfl
@[simp] theorem State.modMc_cache (f : MapCache → MapCache) (s : State) : (s.modMc f).cache = s.cache := rfl
@[simp] theorem State.modMc_cw (f : MapCache → MapCache) (s : State) : (s.modMc f).cw = s.cw := rfl
@[simp] theorem State.modMc_groups (f : MapCache → MapCache) (s : State) : (s.modMc f).groups = s.groups := rfl
@[simp] theorem State.modMc_ops (f : MapCache → MapCache) (s : State) : (s.modMc f).ops = s.ops := rfl
@[simp] theorem State.modMc_solves (f : MapCache → MapCache) (s : State) : (s.modMc f).solves = s.solves := rfl
@[simp] theorem State.modMc_dies (f : MapCache → MapCache) (s : State) : (s.modMc f).dies = s.dies := rfl
@[simp] theorem State.modMc_chanters (f : MapCache → MapCache) (s : State) : (s.modMc f).chanters = s.chanters := rfl
@[simp] theorem State.modMc_links (f : MapCache → MapCache) (s : State) : (s.modMc f).links = s.links := rfl
@[simp] theorem State.modMc_pods (f : MapCache → MapCache) (s : State) : (s.modMc f).pods = s.pods := rfl
@[simp] theorem State.modMc_stops (f : MapCache → MapCache) (s : State) : (s.modMc f).stops = s.stops := rfl
@[simp] theorem State.modMc_store (f : MapCache → MapCache) (s : State) : (s.modMc f).store = s.store := rfl
@[simp] theorem State.modMc_chans (f : MapCache → MapCache) (s : State) : (s.modMc f).chans = s.chans := rfl
@[simp] theorem State.modMc_drones (f : MapCache → MapCache) (s : State) : (s.modMc f).drones = s.drones := rfl
@[simp] theorem State.modMc_ev (f : MapCache → MapCache) (s : State) : (s.modMc f).ev = s.ev := rfl
@[simp] theorem State.modMc_health (f : MapCache → MapCache) (s : State) : (s.modMc f).health = s.health := rfl
@[simp] theorem State.modMc_mech (f : MapCache → MapCache) (s : State) : (s.modMc f).mech = s.mech := rfl
@[simp] theorem State.modMc_free (f : MapCache → MapCache) (s : State) : (s.modMc f).free = s.free := rfl
@[simp] theorem State.modMc_out (f : MapCache → MapCache) (s : State) : (s.modMc f).out = s.out := rfl
@[simp] theorem State.modMc_pending (f : MapCache → MapCache) (s : State) : (s.modMc f).pending = s.pending := rfl
@[simp] theorem State.modMc_port_row (f : MapCache → MapCache) (j : Nat) (s : State) : (s.modMc f).port j = s.port j := rfl
@[simp] theorem State.modMc_inst_row (f : MapCache → MapCache) (j : Nat) (s : State) : (s.modMc f).inst j = s.inst j := rfl
@[simp] theorem State.modMc_die_row (f : MapCache → MapCache) (j : Nat) (s : State) : (s.modMc f).die j = s.die j := rfl
@[simp] theorem State.modMc_link_row (f : MapCache → MapCache) (j : Nat) (s : State) : (s.modMc f).link j = s.link j := rfl
@[simp] theorem State.modMc_pod_row (f : MapCache → MapCache) (j : Nat) (s : State) : (s.modMc f).pod j = s.pod j := rfl
@[simp] theorem State.modMc_chanter_row (f : MapCache → MapCache) (j : Nat) (s : State) : (s.modMc f).chanter j = s.chanter j := rfl
@[simp] theorem State.modMc_group_row (f : MapCache → MapCache) (j : Nat) (s : State) : (s.modMc f).group j = s.group j := rfl
@[simp] theorem State.modMc_stop_row (f : MapCache → MapCache) (j : Nat) (s : State) : (s.modMc f).stop j = s.stop j := rfl
@[simp] theorem State.modMc_chan_row (f : MapCache → MapCache) (j : Nat) (s : State) : (s.modMc f).chan j = s.chan j := rfl
@[simp] theorem State.modMc_drone_row (f : MapCache → MapCache) (j : Nat) (s : State) : (s.modMc f).drone j = s.drone j := rfl
@[simp] theorem State.modMech_mech (f : Mech → Mech) (s : State) : (s.modMech f).mech = f s.mech := rfl
@[simp] theorem State.modMech_now (f : Mech → Mech) (s : State) : (s.modMech f).now = s.now := rfl
@[simp] theorem State.modMech_modes (f : Mech → Mech) (s : State) : (s.modMech f).modes = s.modes := rfl
@[simp] theorem State.modMech_pw (f : Mech → Mech) (s : State) : (s.modMech f).pw = s.pw := rfl
@[simp] theorem State.modMech_part (f : Mech → Mech) (s : State) : (s.modMech f).part = s.part := rfl
@[simp] theorem State.modMech_keep (f : Mech → Mech) (s : State) : (s.modMech f).keep = s.keep := rfl
@[simp] theorem State.modMech_otp (f : Mech → Mech) (s : State) : (s.modMech f).otp = s.otp := rfl
@[simp] theorem State.modMech_flash (f : Mech → Mech) (s : State) : (s.modMech f).flash = s.flash := rfl
@[simp] theorem State.modMech_format (f : Mech → Mech) (s : State) : (s.modMech f).format = s.format := rfl
@[simp] theorem State.modMech_spares (f : Mech → Mech) (s : State) : (s.modMech f).spares = s.spares := rfl
@[simp] theorem State.modMech_ports (f : Mech → Mech) (s : State) : (s.modMech f).ports = s.ports := rfl
@[simp] theorem State.modMech_insts (f : Mech → Mech) (s : State) : (s.modMech f).insts = s.insts := rfl
@[simp] theorem State.modMech_ctxs (f : Mech → Mech) (s : State) : (s.modMech f).ctxs = s.ctxs := rfl
@[simp] theorem State.modMech_ended (f : Mech → Mech) (s : State) : (s.modMech f).ended = s.ended := rfl
@[simp] theorem State.modMech_nextCtx (f : Mech → Mech) (s : State) : (s.modMech f).nextCtx = s.nextCtx := rfl
@[simp] theorem State.modMech_fetches (f : Mech → Mech) (s : State) : (s.modMech f).fetches = s.fetches := rfl
@[simp] theorem State.modMech_bells (f : Mech → Mech) (s : State) : (s.modMech f).bells = s.bells := rfl
@[simp] theorem State.modMech_live (f : Mech → Mech) (s : State) : (s.modMech f).live = s.live := rfl
@[simp] theorem State.modMech_sealed (f : Mech → Mech) (s : State) : (s.modMech f).sealed = s.sealed := rfl
@[simp] theorem State.modMech_jrn (f : Mech → Mech) (s : State) : (s.modMech f).jrn = s.jrn := rfl
@[simp] theorem State.modMech_vault (f : Mech → Mech) (s : State) : (s.modMech f).vault = s.vault := rfl
@[simp] theorem State.modMech_lines (f : Mech → Mech) (s : State) : (s.modMech f).lines = s.lines := rfl
@[simp] theorem State.modMech_lends (f : Mech → Mech) (s : State) : (s.modMech f).lends = s.lends := rfl
@[simp] theorem State.modMech_mc (f : Mech → Mech) (s : State) : (s.modMech f).mc = s.mc := rfl
@[simp] theorem State.modMech_cache (f : Mech → Mech) (s : State) : (s.modMech f).cache = s.cache := rfl
@[simp] theorem State.modMech_cw (f : Mech → Mech) (s : State) : (s.modMech f).cw = s.cw := rfl
@[simp] theorem State.modMech_groups (f : Mech → Mech) (s : State) : (s.modMech f).groups = s.groups := rfl
@[simp] theorem State.modMech_ops (f : Mech → Mech) (s : State) : (s.modMech f).ops = s.ops := rfl
@[simp] theorem State.modMech_solves (f : Mech → Mech) (s : State) : (s.modMech f).solves = s.solves := rfl
@[simp] theorem State.modMech_dies (f : Mech → Mech) (s : State) : (s.modMech f).dies = s.dies := rfl
@[simp] theorem State.modMech_chanters (f : Mech → Mech) (s : State) : (s.modMech f).chanters = s.chanters := rfl
@[simp] theorem State.modMech_links (f : Mech → Mech) (s : State) : (s.modMech f).links = s.links := rfl
@[simp] theorem State.modMech_pods (f : Mech → Mech) (s : State) : (s.modMech f).pods = s.pods := rfl
@[simp] theorem State.modMech_stops (f : Mech → Mech) (s : State) : (s.modMech f).stops = s.stops := rfl
@[simp] theorem State.modMech_store (f : Mech → Mech) (s : State) : (s.modMech f).store = s.store := rfl
@[simp] theorem State.modMech_chans (f : Mech → Mech) (s : State) : (s.modMech f).chans = s.chans := rfl
@[simp] theorem State.modMech_drones (f : Mech → Mech) (s : State) : (s.modMech f).drones = s.drones := rfl
@[simp] theorem State.modMech_ev (f : Mech → Mech) (s : State) : (s.modMech f).ev = s.ev := rfl
@[simp] theorem State.modMech_health (f : Mech → Mech) (s : State) : (s.modMech f).health = s.health := rfl
@[simp] theorem State.modMech_free (f : Mech → Mech) (s : State) : (s.modMech f).free = s.free := rfl
@[simp] theorem State.modMech_out (f : Mech → Mech) (s : State) : (s.modMech f).out = s.out := rfl
@[simp] theorem State.modMech_pending (f : Mech → Mech) (s : State) : (s.modMech f).pending = s.pending := rfl
@[simp] theorem State.modMech_port_row (f : Mech → Mech) (j : Nat) (s : State) : (s.modMech f).port j = s.port j := rfl
@[simp] theorem State.modMech_inst_row (f : Mech → Mech) (j : Nat) (s : State) : (s.modMech f).inst j = s.inst j := rfl
@[simp] theorem State.modMech_die_row (f : Mech → Mech) (j : Nat) (s : State) : (s.modMech f).die j = s.die j := rfl
@[simp] theorem State.modMech_link_row (f : Mech → Mech) (j : Nat) (s : State) : (s.modMech f).link j = s.link j := rfl
@[simp] theorem State.modMech_pod_row (f : Mech → Mech) (j : Nat) (s : State) : (s.modMech f).pod j = s.pod j := rfl
@[simp] theorem State.modMech_chanter_row (f : Mech → Mech) (j : Nat) (s : State) : (s.modMech f).chanter j = s.chanter j := rfl
@[simp] theorem State.modMech_group_row (f : Mech → Mech) (j : Nat) (s : State) : (s.modMech f).group j = s.group j := rfl
@[simp] theorem State.modMech_stop_row (f : Mech → Mech) (j : Nat) (s : State) : (s.modMech f).stop j = s.stop j := rfl
@[simp] theorem State.modMech_chan_row (f : Mech → Mech) (j : Nat) (s : State) : (s.modMech f).chan j = s.chan j := rfl
@[simp] theorem State.modMech_drone_row (f : Mech → Mech) (j : Nat) (s : State) : (s.modMech f).drone j = s.drone j := rfl

/-! ## Contexts, outputs, free values, reports, records -/

@[simp] theorem State.modCtx_now (id : Nat) (f : Ctx → Ctx) (s : State) : (s.modCtx id f).now = s.now := rfl
@[simp] theorem State.modCtx_modes (id : Nat) (f : Ctx → Ctx) (s : State) : (s.modCtx id f).modes = s.modes := rfl
@[simp] theorem State.modCtx_pw (id : Nat) (f : Ctx → Ctx) (s : State) : (s.modCtx id f).pw = s.pw := rfl
@[simp] theorem State.modCtx_part (id : Nat) (f : Ctx → Ctx) (s : State) : (s.modCtx id f).part = s.part := rfl
@[simp] theorem State.modCtx_keep (id : Nat) (f : Ctx → Ctx) (s : State) : (s.modCtx id f).keep = s.keep := rfl
@[simp] theorem State.modCtx_otp (id : Nat) (f : Ctx → Ctx) (s : State) : (s.modCtx id f).otp = s.otp := rfl
@[simp] theorem State.modCtx_flash (id : Nat) (f : Ctx → Ctx) (s : State) : (s.modCtx id f).flash = s.flash := rfl
@[simp] theorem State.modCtx_format (id : Nat) (f : Ctx → Ctx) (s : State) : (s.modCtx id f).format = s.format := rfl
@[simp] theorem State.modCtx_spares (id : Nat) (f : Ctx → Ctx) (s : State) : (s.modCtx id f).spares = s.spares := rfl
@[simp] theorem State.modCtx_ports (id : Nat) (f : Ctx → Ctx) (s : State) : (s.modCtx id f).ports = s.ports := rfl
@[simp] theorem State.modCtx_insts (id : Nat) (f : Ctx → Ctx) (s : State) : (s.modCtx id f).insts = s.insts := rfl
@[simp] theorem State.modCtx_ended (id : Nat) (f : Ctx → Ctx) (s : State) : (s.modCtx id f).ended = s.ended := rfl
@[simp] theorem State.modCtx_nextCtx (id : Nat) (f : Ctx → Ctx) (s : State) : (s.modCtx id f).nextCtx = s.nextCtx := rfl
@[simp] theorem State.modCtx_fetches (id : Nat) (f : Ctx → Ctx) (s : State) : (s.modCtx id f).fetches = s.fetches := rfl
@[simp] theorem State.modCtx_bells (id : Nat) (f : Ctx → Ctx) (s : State) : (s.modCtx id f).bells = s.bells := rfl
@[simp] theorem State.modCtx_live (id : Nat) (f : Ctx → Ctx) (s : State) : (s.modCtx id f).live = s.live := rfl
@[simp] theorem State.modCtx_sealed (id : Nat) (f : Ctx → Ctx) (s : State) : (s.modCtx id f).sealed = s.sealed := rfl
@[simp] theorem State.modCtx_jrn (id : Nat) (f : Ctx → Ctx) (s : State) : (s.modCtx id f).jrn = s.jrn := rfl
@[simp] theorem State.modCtx_vault (id : Nat) (f : Ctx → Ctx) (s : State) : (s.modCtx id f).vault = s.vault := rfl
@[simp] theorem State.modCtx_lines (id : Nat) (f : Ctx → Ctx) (s : State) : (s.modCtx id f).lines = s.lines := rfl
@[simp] theorem State.modCtx_lends (id : Nat) (f : Ctx → Ctx) (s : State) : (s.modCtx id f).lends = s.lends := rfl
@[simp] theorem State.modCtx_mc (id : Nat) (f : Ctx → Ctx) (s : State) : (s.modCtx id f).mc = s.mc := rfl
@[simp] theorem State.modCtx_cache (id : Nat) (f : Ctx → Ctx) (s : State) : (s.modCtx id f).cache = s.cache := rfl
@[simp] theorem State.modCtx_cw (id : Nat) (f : Ctx → Ctx) (s : State) : (s.modCtx id f).cw = s.cw := rfl
@[simp] theorem State.modCtx_groups (id : Nat) (f : Ctx → Ctx) (s : State) : (s.modCtx id f).groups = s.groups := rfl
@[simp] theorem State.modCtx_ops (id : Nat) (f : Ctx → Ctx) (s : State) : (s.modCtx id f).ops = s.ops := rfl
@[simp] theorem State.modCtx_solves (id : Nat) (f : Ctx → Ctx) (s : State) : (s.modCtx id f).solves = s.solves := rfl
@[simp] theorem State.modCtx_dies (id : Nat) (f : Ctx → Ctx) (s : State) : (s.modCtx id f).dies = s.dies := rfl
@[simp] theorem State.modCtx_chanters (id : Nat) (f : Ctx → Ctx) (s : State) : (s.modCtx id f).chanters = s.chanters := rfl
@[simp] theorem State.modCtx_links (id : Nat) (f : Ctx → Ctx) (s : State) : (s.modCtx id f).links = s.links := rfl
@[simp] theorem State.modCtx_pods (id : Nat) (f : Ctx → Ctx) (s : State) : (s.modCtx id f).pods = s.pods := rfl
@[simp] theorem State.modCtx_stops (id : Nat) (f : Ctx → Ctx) (s : State) : (s.modCtx id f).stops = s.stops := rfl
@[simp] theorem State.modCtx_store (id : Nat) (f : Ctx → Ctx) (s : State) : (s.modCtx id f).store = s.store := rfl
@[simp] theorem State.modCtx_chans (id : Nat) (f : Ctx → Ctx) (s : State) : (s.modCtx id f).chans = s.chans := rfl
@[simp] theorem State.modCtx_drones (id : Nat) (f : Ctx → Ctx) (s : State) : (s.modCtx id f).drones = s.drones := rfl
@[simp] theorem State.modCtx_ev (id : Nat) (f : Ctx → Ctx) (s : State) : (s.modCtx id f).ev = s.ev := rfl
@[simp] theorem State.modCtx_health (id : Nat) (f : Ctx → Ctx) (s : State) : (s.modCtx id f).health = s.health := rfl
@[simp] theorem State.modCtx_mech (id : Nat) (f : Ctx → Ctx) (s : State) : (s.modCtx id f).mech = s.mech := rfl
@[simp] theorem State.modCtx_free (id : Nat) (f : Ctx → Ctx) (s : State) : (s.modCtx id f).free = s.free := rfl
@[simp] theorem State.modCtx_out (id : Nat) (f : Ctx → Ctx) (s : State) : (s.modCtx id f).out = s.out := rfl
@[simp] theorem State.modCtx_pending (id : Nat) (f : Ctx → Ctx) (s : State) : (s.modCtx id f).pending = s.pending := rfl
@[simp] theorem State.dropCtx_now (id : Nat) (s : State) : (s.dropCtx id).now = s.now := rfl
@[simp] theorem State.dropCtx_modes (id : Nat) (s : State) : (s.dropCtx id).modes = s.modes := rfl
@[simp] theorem State.dropCtx_pw (id : Nat) (s : State) : (s.dropCtx id).pw = s.pw := rfl
@[simp] theorem State.dropCtx_part (id : Nat) (s : State) : (s.dropCtx id).part = s.part := rfl
@[simp] theorem State.dropCtx_keep (id : Nat) (s : State) : (s.dropCtx id).keep = s.keep := rfl
@[simp] theorem State.dropCtx_otp (id : Nat) (s : State) : (s.dropCtx id).otp = s.otp := rfl
@[simp] theorem State.dropCtx_flash (id : Nat) (s : State) : (s.dropCtx id).flash = s.flash := rfl
@[simp] theorem State.dropCtx_format (id : Nat) (s : State) : (s.dropCtx id).format = s.format := rfl
@[simp] theorem State.dropCtx_spares (id : Nat) (s : State) : (s.dropCtx id).spares = s.spares := rfl
@[simp] theorem State.dropCtx_ports (id : Nat) (s : State) : (s.dropCtx id).ports = s.ports := rfl
@[simp] theorem State.dropCtx_insts (id : Nat) (s : State) : (s.dropCtx id).insts = s.insts := rfl
@[simp] theorem State.dropCtx_ended (id : Nat) (s : State) : (s.dropCtx id).ended = s.ended := rfl
@[simp] theorem State.dropCtx_nextCtx (id : Nat) (s : State) : (s.dropCtx id).nextCtx = s.nextCtx := rfl
@[simp] theorem State.dropCtx_fetches (id : Nat) (s : State) : (s.dropCtx id).fetches = s.fetches := rfl
@[simp] theorem State.dropCtx_bells (id : Nat) (s : State) : (s.dropCtx id).bells = s.bells := rfl
@[simp] theorem State.dropCtx_live (id : Nat) (s : State) : (s.dropCtx id).live = s.live := rfl
@[simp] theorem State.dropCtx_sealed (id : Nat) (s : State) : (s.dropCtx id).sealed = s.sealed := rfl
@[simp] theorem State.dropCtx_jrn (id : Nat) (s : State) : (s.dropCtx id).jrn = s.jrn := rfl
@[simp] theorem State.dropCtx_vault (id : Nat) (s : State) : (s.dropCtx id).vault = s.vault := rfl
@[simp] theorem State.dropCtx_lines (id : Nat) (s : State) : (s.dropCtx id).lines = s.lines := rfl
@[simp] theorem State.dropCtx_lends (id : Nat) (s : State) : (s.dropCtx id).lends = s.lends := rfl
@[simp] theorem State.dropCtx_mc (id : Nat) (s : State) : (s.dropCtx id).mc = s.mc := rfl
@[simp] theorem State.dropCtx_cache (id : Nat) (s : State) : (s.dropCtx id).cache = s.cache := rfl
@[simp] theorem State.dropCtx_cw (id : Nat) (s : State) : (s.dropCtx id).cw = s.cw := rfl
@[simp] theorem State.dropCtx_groups (id : Nat) (s : State) : (s.dropCtx id).groups = s.groups := rfl
@[simp] theorem State.dropCtx_ops (id : Nat) (s : State) : (s.dropCtx id).ops = s.ops := rfl
@[simp] theorem State.dropCtx_solves (id : Nat) (s : State) : (s.dropCtx id).solves = s.solves := rfl
@[simp] theorem State.dropCtx_dies (id : Nat) (s : State) : (s.dropCtx id).dies = s.dies := rfl
@[simp] theorem State.dropCtx_chanters (id : Nat) (s : State) : (s.dropCtx id).chanters = s.chanters := rfl
@[simp] theorem State.dropCtx_links (id : Nat) (s : State) : (s.dropCtx id).links = s.links := rfl
@[simp] theorem State.dropCtx_pods (id : Nat) (s : State) : (s.dropCtx id).pods = s.pods := rfl
@[simp] theorem State.dropCtx_stops (id : Nat) (s : State) : (s.dropCtx id).stops = s.stops := rfl
@[simp] theorem State.dropCtx_store (id : Nat) (s : State) : (s.dropCtx id).store = s.store := rfl
@[simp] theorem State.dropCtx_chans (id : Nat) (s : State) : (s.dropCtx id).chans = s.chans := rfl
@[simp] theorem State.dropCtx_drones (id : Nat) (s : State) : (s.dropCtx id).drones = s.drones := rfl
@[simp] theorem State.dropCtx_ev (id : Nat) (s : State) : (s.dropCtx id).ev = s.ev := rfl
@[simp] theorem State.dropCtx_health (id : Nat) (s : State) : (s.dropCtx id).health = s.health := rfl
@[simp] theorem State.dropCtx_mech (id : Nat) (s : State) : (s.dropCtx id).mech = s.mech := rfl
@[simp] theorem State.dropCtx_free (id : Nat) (s : State) : (s.dropCtx id).free = s.free := rfl
@[simp] theorem State.dropCtx_out (id : Nat) (s : State) : (s.dropCtx id).out = s.out := rfl
@[simp] theorem State.dropCtx_pending (id : Nat) (s : State) : (s.dropCtx id).pending = s.pending := rfl
@[simp] theorem State.emit_now (o : Out) (s : State) : (s.emit o).now = s.now := rfl
@[simp] theorem State.emit_modes (o : Out) (s : State) : (s.emit o).modes = s.modes := rfl
@[simp] theorem State.emit_pw (o : Out) (s : State) : (s.emit o).pw = s.pw := rfl
@[simp] theorem State.emit_part (o : Out) (s : State) : (s.emit o).part = s.part := rfl
@[simp] theorem State.emit_keep (o : Out) (s : State) : (s.emit o).keep = s.keep := rfl
@[simp] theorem State.emit_otp (o : Out) (s : State) : (s.emit o).otp = s.otp := rfl
@[simp] theorem State.emit_flash (o : Out) (s : State) : (s.emit o).flash = s.flash := rfl
@[simp] theorem State.emit_format (o : Out) (s : State) : (s.emit o).format = s.format := rfl
@[simp] theorem State.emit_spares (o : Out) (s : State) : (s.emit o).spares = s.spares := rfl
@[simp] theorem State.emit_ports (o : Out) (s : State) : (s.emit o).ports = s.ports := rfl
@[simp] theorem State.emit_insts (o : Out) (s : State) : (s.emit o).insts = s.insts := rfl
@[simp] theorem State.emit_ctxs (o : Out) (s : State) : (s.emit o).ctxs = s.ctxs := rfl
@[simp] theorem State.emit_ended (o : Out) (s : State) : (s.emit o).ended = s.ended := rfl
@[simp] theorem State.emit_nextCtx (o : Out) (s : State) : (s.emit o).nextCtx = s.nextCtx := rfl
@[simp] theorem State.emit_fetches (o : Out) (s : State) : (s.emit o).fetches = s.fetches := rfl
@[simp] theorem State.emit_bells (o : Out) (s : State) : (s.emit o).bells = s.bells := rfl
@[simp] theorem State.emit_live (o : Out) (s : State) : (s.emit o).live = s.live := rfl
@[simp] theorem State.emit_sealed (o : Out) (s : State) : (s.emit o).sealed = s.sealed := rfl
@[simp] theorem State.emit_jrn (o : Out) (s : State) : (s.emit o).jrn = s.jrn := rfl
@[simp] theorem State.emit_vault (o : Out) (s : State) : (s.emit o).vault = s.vault := rfl
@[simp] theorem State.emit_lines (o : Out) (s : State) : (s.emit o).lines = s.lines := rfl
@[simp] theorem State.emit_lends (o : Out) (s : State) : (s.emit o).lends = s.lends := rfl
@[simp] theorem State.emit_mc (o : Out) (s : State) : (s.emit o).mc = s.mc := rfl
@[simp] theorem State.emit_cache (o : Out) (s : State) : (s.emit o).cache = s.cache := rfl
@[simp] theorem State.emit_cw (o : Out) (s : State) : (s.emit o).cw = s.cw := rfl
@[simp] theorem State.emit_groups (o : Out) (s : State) : (s.emit o).groups = s.groups := rfl
@[simp] theorem State.emit_ops (o : Out) (s : State) : (s.emit o).ops = s.ops := rfl
@[simp] theorem State.emit_solves (o : Out) (s : State) : (s.emit o).solves = s.solves := rfl
@[simp] theorem State.emit_dies (o : Out) (s : State) : (s.emit o).dies = s.dies := rfl
@[simp] theorem State.emit_chanters (o : Out) (s : State) : (s.emit o).chanters = s.chanters := rfl
@[simp] theorem State.emit_links (o : Out) (s : State) : (s.emit o).links = s.links := rfl
@[simp] theorem State.emit_pods (o : Out) (s : State) : (s.emit o).pods = s.pods := rfl
@[simp] theorem State.emit_stops (o : Out) (s : State) : (s.emit o).stops = s.stops := rfl
@[simp] theorem State.emit_store (o : Out) (s : State) : (s.emit o).store = s.store := rfl
@[simp] theorem State.emit_chans (o : Out) (s : State) : (s.emit o).chans = s.chans := rfl
@[simp] theorem State.emit_drones (o : Out) (s : State) : (s.emit o).drones = s.drones := rfl
@[simp] theorem State.emit_ev (o : Out) (s : State) : (s.emit o).ev = s.ev := rfl
@[simp] theorem State.emit_health (o : Out) (s : State) : (s.emit o).health = s.health := rfl
@[simp] theorem State.emit_mech (o : Out) (s : State) : (s.emit o).mech = s.mech := rfl
@[simp] theorem State.emit_free (o : Out) (s : State) : (s.emit o).free = s.free := rfl
@[simp] theorem State.emit_pending (o : Out) (s : State) : (s.emit o).pending = s.pending := rfl
@[simp] theorem State.emit_out (o : Out) (s : State) : (s.emit o).out = s.out ++ [o] := rfl
@[simp] theorem State.drew_now (s : State) : (s.drew).now = s.now := rfl
@[simp] theorem State.drew_modes (s : State) : (s.drew).modes = s.modes := rfl
@[simp] theorem State.drew_pw (s : State) : (s.drew).pw = s.pw := rfl
@[simp] theorem State.drew_part (s : State) : (s.drew).part = s.part := rfl
@[simp] theorem State.drew_keep (s : State) : (s.drew).keep = s.keep := rfl
@[simp] theorem State.drew_otp (s : State) : (s.drew).otp = s.otp := rfl
@[simp] theorem State.drew_flash (s : State) : (s.drew).flash = s.flash := rfl
@[simp] theorem State.drew_format (s : State) : (s.drew).format = s.format := rfl
@[simp] theorem State.drew_spares (s : State) : (s.drew).spares = s.spares := rfl
@[simp] theorem State.drew_ports (s : State) : (s.drew).ports = s.ports := rfl
@[simp] theorem State.drew_insts (s : State) : (s.drew).insts = s.insts := rfl
@[simp] theorem State.drew_ctxs (s : State) : (s.drew).ctxs = s.ctxs := rfl
@[simp] theorem State.drew_ended (s : State) : (s.drew).ended = s.ended := rfl
@[simp] theorem State.drew_nextCtx (s : State) : (s.drew).nextCtx = s.nextCtx := rfl
@[simp] theorem State.drew_fetches (s : State) : (s.drew).fetches = s.fetches := rfl
@[simp] theorem State.drew_bells (s : State) : (s.drew).bells = s.bells := rfl
@[simp] theorem State.drew_live (s : State) : (s.drew).live = s.live := rfl
@[simp] theorem State.drew_sealed (s : State) : (s.drew).sealed = s.sealed := rfl
@[simp] theorem State.drew_jrn (s : State) : (s.drew).jrn = s.jrn := rfl
@[simp] theorem State.drew_vault (s : State) : (s.drew).vault = s.vault := rfl
@[simp] theorem State.drew_lines (s : State) : (s.drew).lines = s.lines := rfl
@[simp] theorem State.drew_lends (s : State) : (s.drew).lends = s.lends := rfl
@[simp] theorem State.drew_mc (s : State) : (s.drew).mc = s.mc := rfl
@[simp] theorem State.drew_cache (s : State) : (s.drew).cache = s.cache := rfl
@[simp] theorem State.drew_cw (s : State) : (s.drew).cw = s.cw := rfl
@[simp] theorem State.drew_groups (s : State) : (s.drew).groups = s.groups := rfl
@[simp] theorem State.drew_ops (s : State) : (s.drew).ops = s.ops := rfl
@[simp] theorem State.drew_solves (s : State) : (s.drew).solves = s.solves := rfl
@[simp] theorem State.drew_dies (s : State) : (s.drew).dies = s.dies := rfl
@[simp] theorem State.drew_chanters (s : State) : (s.drew).chanters = s.chanters := rfl
@[simp] theorem State.drew_links (s : State) : (s.drew).links = s.links := rfl
@[simp] theorem State.drew_pods (s : State) : (s.drew).pods = s.pods := rfl
@[simp] theorem State.drew_stops (s : State) : (s.drew).stops = s.stops := rfl
@[simp] theorem State.drew_store (s : State) : (s.drew).store = s.store := rfl
@[simp] theorem State.drew_chans (s : State) : (s.drew).chans = s.chans := rfl
@[simp] theorem State.drew_drones (s : State) : (s.drew).drones = s.drones := rfl
@[simp] theorem State.drew_ev (s : State) : (s.drew).ev = s.ev := rfl
@[simp] theorem State.drew_health (s : State) : (s.drew).health = s.health := rfl
@[simp] theorem State.drew_mech (s : State) : (s.drew).mech = s.mech := rfl
@[simp] theorem State.drew_out (s : State) : (s.drew).out = s.out := rfl
@[simp] theorem State.drew_pending (s : State) : (s.drew).pending = s.pending := rfl
@[simp] theorem State.drew_free (s : State) : s.drew.free = s.free + 1 := rfl
@[simp] theorem State.report_now (src event object value : Nat) (s : State) : (s.report src event object value).now = s.now := rfl
@[simp] theorem State.report_modes (src event object value : Nat) (s : State) : (s.report src event object value).modes = s.modes := rfl
@[simp] theorem State.report_pw (src event object value : Nat) (s : State) : (s.report src event object value).pw = s.pw := rfl
@[simp] theorem State.report_part (src event object value : Nat) (s : State) : (s.report src event object value).part = s.part := rfl
@[simp] theorem State.report_keep (src event object value : Nat) (s : State) : (s.report src event object value).keep = s.keep := rfl
@[simp] theorem State.report_otp (src event object value : Nat) (s : State) : (s.report src event object value).otp = s.otp := rfl
@[simp] theorem State.report_flash (src event object value : Nat) (s : State) : (s.report src event object value).flash = s.flash := rfl
@[simp] theorem State.report_format (src event object value : Nat) (s : State) : (s.report src event object value).format = s.format := rfl
@[simp] theorem State.report_spares (src event object value : Nat) (s : State) : (s.report src event object value).spares = s.spares := rfl
@[simp] theorem State.report_ports (src event object value : Nat) (s : State) : (s.report src event object value).ports = s.ports := rfl
@[simp] theorem State.report_insts (src event object value : Nat) (s : State) : (s.report src event object value).insts = s.insts := rfl
@[simp] theorem State.report_ctxs (src event object value : Nat) (s : State) : (s.report src event object value).ctxs = s.ctxs := rfl
@[simp] theorem State.report_ended (src event object value : Nat) (s : State) : (s.report src event object value).ended = s.ended := rfl
@[simp] theorem State.report_nextCtx (src event object value : Nat) (s : State) : (s.report src event object value).nextCtx = s.nextCtx := rfl
@[simp] theorem State.report_fetches (src event object value : Nat) (s : State) : (s.report src event object value).fetches = s.fetches := rfl
@[simp] theorem State.report_bells (src event object value : Nat) (s : State) : (s.report src event object value).bells = s.bells := rfl
@[simp] theorem State.report_live (src event object value : Nat) (s : State) : (s.report src event object value).live = s.live := rfl
@[simp] theorem State.report_sealed (src event object value : Nat) (s : State) : (s.report src event object value).sealed = s.sealed := rfl
@[simp] theorem State.report_jrn (src event object value : Nat) (s : State) : (s.report src event object value).jrn = s.jrn := rfl
@[simp] theorem State.report_vault (src event object value : Nat) (s : State) : (s.report src event object value).vault = s.vault := rfl
@[simp] theorem State.report_lines (src event object value : Nat) (s : State) : (s.report src event object value).lines = s.lines := rfl
@[simp] theorem State.report_lends (src event object value : Nat) (s : State) : (s.report src event object value).lends = s.lends := rfl
@[simp] theorem State.report_mc (src event object value : Nat) (s : State) : (s.report src event object value).mc = s.mc := rfl
@[simp] theorem State.report_cache (src event object value : Nat) (s : State) : (s.report src event object value).cache = s.cache := rfl
@[simp] theorem State.report_cw (src event object value : Nat) (s : State) : (s.report src event object value).cw = s.cw := rfl
@[simp] theorem State.report_groups (src event object value : Nat) (s : State) : (s.report src event object value).groups = s.groups := rfl
@[simp] theorem State.report_ops (src event object value : Nat) (s : State) : (s.report src event object value).ops = s.ops := rfl
@[simp] theorem State.report_solves (src event object value : Nat) (s : State) : (s.report src event object value).solves = s.solves := rfl
@[simp] theorem State.report_dies (src event object value : Nat) (s : State) : (s.report src event object value).dies = s.dies := rfl
@[simp] theorem State.report_chanters (src event object value : Nat) (s : State) : (s.report src event object value).chanters = s.chanters := rfl
@[simp] theorem State.report_links (src event object value : Nat) (s : State) : (s.report src event object value).links = s.links := rfl
@[simp] theorem State.report_pods (src event object value : Nat) (s : State) : (s.report src event object value).pods = s.pods := rfl
@[simp] theorem State.report_stops (src event object value : Nat) (s : State) : (s.report src event object value).stops = s.stops := rfl
@[simp] theorem State.report_store (src event object value : Nat) (s : State) : (s.report src event object value).store = s.store := rfl
@[simp] theorem State.report_chans (src event object value : Nat) (s : State) : (s.report src event object value).chans = s.chans := rfl
@[simp] theorem State.report_drones (src event object value : Nat) (s : State) : (s.report src event object value).drones = s.drones := rfl
@[simp] theorem State.report_health (src event object value : Nat) (s : State) : (s.report src event object value).health = s.health := rfl
@[simp] theorem State.report_mech (src event object value : Nat) (s : State) : (s.report src event object value).mech = s.mech := rfl
@[simp] theorem State.report_free (src event object value : Nat) (s : State) : (s.report src event object value).free = s.free := rfl
@[simp] theorem State.report_out (src event object value : Nat) (s : State) : (s.report src event object value).out = s.out := rfl
@[simp] theorem State.report_pending (src event object value : Nat) (s : State) : (s.report src event object value).pending = s.pending := rfl
@[simp] theorem State.logRec_now (r : Rec) (s : State) : (s.logRec r).now = s.now := rfl
@[simp] theorem State.logRec_modes (r : Rec) (s : State) : (s.logRec r).modes = s.modes := rfl
@[simp] theorem State.logRec_pw (r : Rec) (s : State) : (s.logRec r).pw = s.pw := rfl
@[simp] theorem State.logRec_part (r : Rec) (s : State) : (s.logRec r).part = s.part := rfl
@[simp] theorem State.logRec_keep (r : Rec) (s : State) : (s.logRec r).keep = s.keep := rfl
@[simp] theorem State.logRec_otp (r : Rec) (s : State) : (s.logRec r).otp = s.otp := rfl
@[simp] theorem State.logRec_flash (r : Rec) (s : State) : (s.logRec r).flash = s.flash := rfl
@[simp] theorem State.logRec_format (r : Rec) (s : State) : (s.logRec r).format = s.format := rfl
@[simp] theorem State.logRec_spares (r : Rec) (s : State) : (s.logRec r).spares = s.spares := rfl
@[simp] theorem State.logRec_ports (r : Rec) (s : State) : (s.logRec r).ports = s.ports := rfl
@[simp] theorem State.logRec_insts (r : Rec) (s : State) : (s.logRec r).insts = s.insts := rfl
@[simp] theorem State.logRec_ctxs (r : Rec) (s : State) : (s.logRec r).ctxs = s.ctxs := rfl
@[simp] theorem State.logRec_ended (r : Rec) (s : State) : (s.logRec r).ended = s.ended := rfl
@[simp] theorem State.logRec_nextCtx (r : Rec) (s : State) : (s.logRec r).nextCtx = s.nextCtx := rfl
@[simp] theorem State.logRec_fetches (r : Rec) (s : State) : (s.logRec r).fetches = s.fetches := rfl
@[simp] theorem State.logRec_bells (r : Rec) (s : State) : (s.logRec r).bells = s.bells := rfl
@[simp] theorem State.logRec_sealed (r : Rec) (s : State) : (s.logRec r).sealed = s.sealed := rfl
@[simp] theorem State.logRec_vault (r : Rec) (s : State) : (s.logRec r).vault = s.vault := rfl
@[simp] theorem State.logRec_lines (r : Rec) (s : State) : (s.logRec r).lines = s.lines := rfl
@[simp] theorem State.logRec_lends (r : Rec) (s : State) : (s.logRec r).lends = s.lends := rfl
@[simp] theorem State.logRec_mc (r : Rec) (s : State) : (s.logRec r).mc = s.mc := rfl
@[simp] theorem State.logRec_cache (r : Rec) (s : State) : (s.logRec r).cache = s.cache := rfl
@[simp] theorem State.logRec_cw (r : Rec) (s : State) : (s.logRec r).cw = s.cw := rfl
@[simp] theorem State.logRec_groups (r : Rec) (s : State) : (s.logRec r).groups = s.groups := rfl
@[simp] theorem State.logRec_ops (r : Rec) (s : State) : (s.logRec r).ops = s.ops := rfl
@[simp] theorem State.logRec_solves (r : Rec) (s : State) : (s.logRec r).solves = s.solves := rfl
@[simp] theorem State.logRec_dies (r : Rec) (s : State) : (s.logRec r).dies = s.dies := rfl
@[simp] theorem State.logRec_chanters (r : Rec) (s : State) : (s.logRec r).chanters = s.chanters := rfl
@[simp] theorem State.logRec_links (r : Rec) (s : State) : (s.logRec r).links = s.links := rfl
@[simp] theorem State.logRec_pods (r : Rec) (s : State) : (s.logRec r).pods = s.pods := rfl
@[simp] theorem State.logRec_stops (r : Rec) (s : State) : (s.logRec r).stops = s.stops := rfl
@[simp] theorem State.logRec_store (r : Rec) (s : State) : (s.logRec r).store = s.store := rfl
@[simp] theorem State.logRec_chans (r : Rec) (s : State) : (s.logRec r).chans = s.chans := rfl
@[simp] theorem State.logRec_drones (r : Rec) (s : State) : (s.logRec r).drones = s.drones := rfl
@[simp] theorem State.logRec_ev (r : Rec) (s : State) : (s.logRec r).ev = s.ev := rfl
@[simp] theorem State.logRec_health (r : Rec) (s : State) : (s.logRec r).health = s.health := rfl
@[simp] theorem State.logRec_mech (r : Rec) (s : State) : (s.logRec r).mech = s.mech := rfl
@[simp] theorem State.logRec_free (r : Rec) (s : State) : (s.logRec r).free = s.free := rfl
@[simp] theorem State.logRec_out (r : Rec) (s : State) : (s.logRec r).out = s.out := rfl
@[simp] theorem State.logRec_pending (r : Rec) (s : State) : (s.logRec r).pending = s.pending := rfl
@[simp] theorem State.idle_modes (s : State) : (s.idle).modes = s.modes := rfl
@[simp] theorem State.idle_pw (s : State) : (s.idle).pw = s.pw := rfl
@[simp] theorem State.idle_part (s : State) : (s.idle).part = s.part := rfl
@[simp] theorem State.idle_keep (s : State) : (s.idle).keep = s.keep := rfl
@[simp] theorem State.idle_otp (s : State) : (s.idle).otp = s.otp := rfl
@[simp] theorem State.idle_flash (s : State) : (s.idle).flash = s.flash := rfl
@[simp] theorem State.idle_format (s : State) : (s.idle).format = s.format := rfl
@[simp] theorem State.idle_spares (s : State) : (s.idle).spares = s.spares := rfl
@[simp] theorem State.idle_ports (s : State) : (s.idle).ports = s.ports := rfl
@[simp] theorem State.idle_insts (s : State) : (s.idle).insts = s.insts := rfl
@[simp] theorem State.idle_ctxs (s : State) : (s.idle).ctxs = s.ctxs := rfl
@[simp] theorem State.idle_ended (s : State) : (s.idle).ended = s.ended := rfl
@[simp] theorem State.idle_nextCtx (s : State) : (s.idle).nextCtx = s.nextCtx := rfl
@[simp] theorem State.idle_fetches (s : State) : (s.idle).fetches = s.fetches := rfl
@[simp] theorem State.idle_bells (s : State) : (s.idle).bells = s.bells := rfl
@[simp] theorem State.idle_live (s : State) : (s.idle).live = s.live := rfl
@[simp] theorem State.idle_sealed (s : State) : (s.idle).sealed = s.sealed := rfl
@[simp] theorem State.idle_jrn (s : State) : (s.idle).jrn = s.jrn := rfl
@[simp] theorem State.idle_vault (s : State) : (s.idle).vault = s.vault := rfl
@[simp] theorem State.idle_lines (s : State) : (s.idle).lines = s.lines := rfl
@[simp] theorem State.idle_lends (s : State) : (s.idle).lends = s.lends := rfl
@[simp] theorem State.idle_mc (s : State) : (s.idle).mc = s.mc := rfl
@[simp] theorem State.idle_cache (s : State) : (s.idle).cache = s.cache := rfl
@[simp] theorem State.idle_cw (s : State) : (s.idle).cw = s.cw := rfl
@[simp] theorem State.idle_groups (s : State) : (s.idle).groups = s.groups := rfl
@[simp] theorem State.idle_ops (s : State) : (s.idle).ops = s.ops := rfl
@[simp] theorem State.idle_solves (s : State) : (s.idle).solves = s.solves := rfl
@[simp] theorem State.idle_dies (s : State) : (s.idle).dies = s.dies := rfl
@[simp] theorem State.idle_chanters (s : State) : (s.idle).chanters = s.chanters := rfl
@[simp] theorem State.idle_links (s : State) : (s.idle).links = s.links := rfl
@[simp] theorem State.idle_pods (s : State) : (s.idle).pods = s.pods := rfl
@[simp] theorem State.idle_stops (s : State) : (s.idle).stops = s.stops := rfl
@[simp] theorem State.idle_store (s : State) : (s.idle).store = s.store := rfl
@[simp] theorem State.idle_chans (s : State) : (s.idle).chans = s.chans := rfl
@[simp] theorem State.idle_drones (s : State) : (s.idle).drones = s.drones := rfl
@[simp] theorem State.idle_ev (s : State) : (s.idle).ev = s.ev := rfl
@[simp] theorem State.idle_health (s : State) : (s.idle).health = s.health := rfl
@[simp] theorem State.idle_mech (s : State) : (s.idle).mech = s.mech := rfl
@[simp] theorem State.idle_free (s : State) : (s.idle).free = s.free := rfl
@[simp] theorem State.idle_out (s : State) : (s.idle).out = s.out := rfl
@[simp] theorem State.idle_pending (s : State) : (s.idle).pending = s.pending := rfl
@[simp] theorem State.modCtx_port_row (id : Nat) (f : Ctx → Ctx) (j : Nat) (s : State) : (s.modCtx id f).port j = s.port j := rfl
@[simp] theorem State.modCtx_inst_row (id : Nat) (f : Ctx → Ctx) (j : Nat) (s : State) : (s.modCtx id f).inst j = s.inst j := rfl
@[simp] theorem State.modCtx_die_row (id : Nat) (f : Ctx → Ctx) (j : Nat) (s : State) : (s.modCtx id f).die j = s.die j := rfl
@[simp] theorem State.modCtx_link_row (id : Nat) (f : Ctx → Ctx) (j : Nat) (s : State) : (s.modCtx id f).link j = s.link j := rfl
@[simp] theorem State.modCtx_pod_row (id : Nat) (f : Ctx → Ctx) (j : Nat) (s : State) : (s.modCtx id f).pod j = s.pod j := rfl
@[simp] theorem State.modCtx_chanter_row (id : Nat) (f : Ctx → Ctx) (j : Nat) (s : State) : (s.modCtx id f).chanter j = s.chanter j := rfl
@[simp] theorem State.modCtx_group_row (id : Nat) (f : Ctx → Ctx) (j : Nat) (s : State) : (s.modCtx id f).group j = s.group j := rfl
@[simp] theorem State.modCtx_stop_row (id : Nat) (f : Ctx → Ctx) (j : Nat) (s : State) : (s.modCtx id f).stop j = s.stop j := rfl
@[simp] theorem State.modCtx_chan_row (id : Nat) (f : Ctx → Ctx) (j : Nat) (s : State) : (s.modCtx id f).chan j = s.chan j := rfl
@[simp] theorem State.modCtx_drone_row (id : Nat) (f : Ctx → Ctx) (j : Nat) (s : State) : (s.modCtx id f).drone j = s.drone j := rfl
@[simp] theorem State.dropCtx_port_row (id : Nat) (j : Nat) (s : State) : (s.dropCtx id).port j = s.port j := rfl
@[simp] theorem State.dropCtx_inst_row (id : Nat) (j : Nat) (s : State) : (s.dropCtx id).inst j = s.inst j := rfl
@[simp] theorem State.dropCtx_die_row (id : Nat) (j : Nat) (s : State) : (s.dropCtx id).die j = s.die j := rfl
@[simp] theorem State.dropCtx_link_row (id : Nat) (j : Nat) (s : State) : (s.dropCtx id).link j = s.link j := rfl
@[simp] theorem State.dropCtx_pod_row (id : Nat) (j : Nat) (s : State) : (s.dropCtx id).pod j = s.pod j := rfl
@[simp] theorem State.dropCtx_chanter_row (id : Nat) (j : Nat) (s : State) : (s.dropCtx id).chanter j = s.chanter j := rfl
@[simp] theorem State.dropCtx_group_row (id : Nat) (j : Nat) (s : State) : (s.dropCtx id).group j = s.group j := rfl
@[simp] theorem State.dropCtx_stop_row (id : Nat) (j : Nat) (s : State) : (s.dropCtx id).stop j = s.stop j := rfl
@[simp] theorem State.dropCtx_chan_row (id : Nat) (j : Nat) (s : State) : (s.dropCtx id).chan j = s.chan j := rfl
@[simp] theorem State.dropCtx_drone_row (id : Nat) (j : Nat) (s : State) : (s.dropCtx id).drone j = s.drone j := rfl
@[simp] theorem State.emit_port_row (o : Out) (j : Nat) (s : State) : (s.emit o).port j = s.port j := rfl
@[simp] theorem State.emit_inst_row (o : Out) (j : Nat) (s : State) : (s.emit o).inst j = s.inst j := rfl
@[simp] theorem State.emit_die_row (o : Out) (j : Nat) (s : State) : (s.emit o).die j = s.die j := rfl
@[simp] theorem State.emit_link_row (o : Out) (j : Nat) (s : State) : (s.emit o).link j = s.link j := rfl
@[simp] theorem State.emit_pod_row (o : Out) (j : Nat) (s : State) : (s.emit o).pod j = s.pod j := rfl
@[simp] theorem State.emit_chanter_row (o : Out) (j : Nat) (s : State) : (s.emit o).chanter j = s.chanter j := rfl
@[simp] theorem State.emit_group_row (o : Out) (j : Nat) (s : State) : (s.emit o).group j = s.group j := rfl
@[simp] theorem State.emit_stop_row (o : Out) (j : Nat) (s : State) : (s.emit o).stop j = s.stop j := rfl
@[simp] theorem State.emit_chan_row (o : Out) (j : Nat) (s : State) : (s.emit o).chan j = s.chan j := rfl
@[simp] theorem State.emit_drone_row (o : Out) (j : Nat) (s : State) : (s.emit o).drone j = s.drone j := rfl
@[simp] theorem State.drew_port_row (j : Nat) (s : State) : (s.drew).port j = s.port j := rfl
@[simp] theorem State.drew_inst_row (j : Nat) (s : State) : (s.drew).inst j = s.inst j := rfl
@[simp] theorem State.drew_die_row (j : Nat) (s : State) : (s.drew).die j = s.die j := rfl
@[simp] theorem State.drew_link_row (j : Nat) (s : State) : (s.drew).link j = s.link j := rfl
@[simp] theorem State.drew_pod_row (j : Nat) (s : State) : (s.drew).pod j = s.pod j := rfl
@[simp] theorem State.drew_chanter_row (j : Nat) (s : State) : (s.drew).chanter j = s.chanter j := rfl
@[simp] theorem State.drew_group_row (j : Nat) (s : State) : (s.drew).group j = s.group j := rfl
@[simp] theorem State.drew_stop_row (j : Nat) (s : State) : (s.drew).stop j = s.stop j := rfl
@[simp] theorem State.drew_chan_row (j : Nat) (s : State) : (s.drew).chan j = s.chan j := rfl
@[simp] theorem State.drew_drone_row (j : Nat) (s : State) : (s.drew).drone j = s.drone j := rfl
@[simp] theorem State.report_port_row (src event object value : Nat) (j : Nat) (s : State) : (s.report src event object value).port j = s.port j := rfl
@[simp] theorem State.report_inst_row (src event object value : Nat) (j : Nat) (s : State) : (s.report src event object value).inst j = s.inst j := rfl
@[simp] theorem State.report_die_row (src event object value : Nat) (j : Nat) (s : State) : (s.report src event object value).die j = s.die j := rfl
@[simp] theorem State.report_link_row (src event object value : Nat) (j : Nat) (s : State) : (s.report src event object value).link j = s.link j := rfl
@[simp] theorem State.report_pod_row (src event object value : Nat) (j : Nat) (s : State) : (s.report src event object value).pod j = s.pod j := rfl
@[simp] theorem State.report_chanter_row (src event object value : Nat) (j : Nat) (s : State) : (s.report src event object value).chanter j = s.chanter j := rfl
@[simp] theorem State.report_group_row (src event object value : Nat) (j : Nat) (s : State) : (s.report src event object value).group j = s.group j := rfl
@[simp] theorem State.report_stop_row (src event object value : Nat) (j : Nat) (s : State) : (s.report src event object value).stop j = s.stop j := rfl
@[simp] theorem State.report_chan_row (src event object value : Nat) (j : Nat) (s : State) : (s.report src event object value).chan j = s.chan j := rfl
@[simp] theorem State.report_drone_row (src event object value : Nat) (j : Nat) (s : State) : (s.report src event object value).drone j = s.drone j := rfl
@[simp] theorem State.logRec_port_row (r : Rec) (j : Nat) (s : State) : (s.logRec r).port j = s.port j := rfl
@[simp] theorem State.logRec_inst_row (r : Rec) (j : Nat) (s : State) : (s.logRec r).inst j = s.inst j := rfl
@[simp] theorem State.logRec_die_row (r : Rec) (j : Nat) (s : State) : (s.logRec r).die j = s.die j := rfl
@[simp] theorem State.logRec_link_row (r : Rec) (j : Nat) (s : State) : (s.logRec r).link j = s.link j := rfl
@[simp] theorem State.logRec_pod_row (r : Rec) (j : Nat) (s : State) : (s.logRec r).pod j = s.pod j := rfl
@[simp] theorem State.logRec_chanter_row (r : Rec) (j : Nat) (s : State) : (s.logRec r).chanter j = s.chanter j := rfl
@[simp] theorem State.logRec_group_row (r : Rec) (j : Nat) (s : State) : (s.logRec r).group j = s.group j := rfl
@[simp] theorem State.logRec_stop_row (r : Rec) (j : Nat) (s : State) : (s.logRec r).stop j = s.stop j := rfl
@[simp] theorem State.logRec_chan_row (r : Rec) (j : Nat) (s : State) : (s.logRec r).chan j = s.chan j := rfl
@[simp] theorem State.logRec_drone_row (r : Rec) (j : Nat) (s : State) : (s.logRec r).drone j = s.drone j := rfl
@[simp] theorem State.logRec_live (r : Rec) (s : State) : (s.logRec r).live = s.live.apply r := rfl
@[simp] theorem State.logRec_sealing (r : Rec) (s : State) : (s.logRec r).jrn.sealing = s.jrn.sealing := rfl
@[simp] theorem State.logRec_opened (r : Rec) (s : State) : (s.logRec r).jrn.opened = s.jrn.opened ++ [r] := rfl
@[simp] theorem State.logRec_openEpoch (r : Rec) (s : State) : (s.logRec r).jrn.openEpoch = s.jrn.openEpoch := rfl
theorem State.dropCtx_gone (id : Nat) (s : State) : (s.dropCtx id).ctx id = none := by
  simp [State.ctx, State.dropCtx]
theorem State.ctx_id (s : State) (id : Nat) (x : Ctx) (h : s.ctx id = some x) : x.id = id := by
  have := List.find?_some h
  simpa using this

end Sys2Proof.Machine
end

