-- ==== Sys2Proof/Laws/Ready.lean ====
section
/-! SUPPORT. What the checks that commands share leave of a command that is ready: its own effect, or the status the check gives. -/
namespace Sys2Proof.Machine

theorem State.active_iff (s : State) : s.active = true ↔ s.modes.mode = .service ∨ s.modes.mode = .degraded ∨ s.modes.mode = .quiesce := by
  simp [State.active, State.serving]; cases s.modes.mode <;> simp
theorem State.adminOn_iff (s : State) : s.adminOn = true ↔ s.active = true ∧ s.hostFenced = false := by simp [State.adminOn]

/-! ## Admin commands -/

theorem State.admin_ready {s : State} {c op : Nat} {x : Ctx} (h : AdminReady s c op x) (go : Ctx → State → State) : s.admin c op go = go x s := by
  obtain ⟨h1, h2, h3, h4, h5⟩ := h; simp [State.admin, h1, h2, h3, h4, h5]
theorem State.boundary_ready {s : State} {c op : Nat} {x : Ctx} (h : BoundaryReady s c op x) (go : Ctx → State → State) : s.boundary c op go = go x s := by
  simp [State.boundary, h.2, State.admin_ready h.1]
theorem State.adminWait_ready {s : State} {c op : Nat} {x : Ctx} (h : WaitReady s c op x) (go : Ctx → State → State) : s.adminWait c op go = go x s := by
  obtain ⟨h1, h2, h3, h4, h5⟩ := h
  rcases h3 with h3 | h3 <;> simp [State.adminWait, h1, h2, h3, h4, h5]
theorem State.updateAdmin_ready {s : State} {c op : Nat} {x : Ctx} (h : UpdateReady s c op x) (go : Ctx → State → State) : s.updateAdmin c op go = go x s := by
  obtain ⟨h1, h2, h3, h4, h5, h6, h7⟩ := h
  cases hp : s.flash.package with
  | none => simp [State.updateAdmin, h1, h2, h3, h4, h5, h6, hp]
  | some p => simp [State.updateAdmin, h1, h2, h3, h4, h5, h6, hp, h7 p hp]
theorem State.commitOf_ready {s : State} {c : Nat} {x : Ctx} (h : UpdateReady s c 0x10 x) (a : Nat) (go : Ctx → State → State) :
    s.commitOf c a go = if x.ca = a then go x s else s := by
  simp only [State.commitOf, State.updateAdmin_ready h]; split <;> simp_all
theorem State.slotCommand_ready {s : State} {c op k : Nat} {x : Ctx} (h : SlotReady s c op x k) (zero : Bool) (hz : zero = true ∨ x.localIndex ≠ 0)
    (go : Ctx → Nat → State → State) : s.slotCommand c op zero go = if s.genBusy k (s.gen k + 1) then s else go x k s := by
  obtain ⟨h1, rfl, h3, h4, h5⟩ := h
  have h6 : ¬ (s.vport x.port).instances ≤ x.localIndex := by omega
  rcases hz with hz | hz <;> simp [State.slotCommand, slotChecks, State.boundary_ready h1, h4, h5, h6, hz]
theorem State.slotCommand_refused {s : State} {c op : Nat} {x : Ctx} (h : BoundaryReady s c op x) (zero : Bool) (go : Ctx → Nat → State → State) :
    s.slotCommand c op zero go =
      if (s.vport x.port).instances ≤ x.localIndex || (!zero && x.localIndex == 0) then s.complete c stInvalidField 0
      else if matchFails x.sqe.cdw11 (s.gen (instKey x.port x.localIndex)) then s.complete c stSequence 0
      else if !(s.dinst (instKey x.port x.localIndex)).live then s.complete c stInvalidField 0
      else if s.genBusy (instKey x.port x.localIndex) (s.gen (instKey x.port x.localIndex) + 1) then s
      else go x (instKey x.port x.localIndex) s := by
  simp only [State.slotCommand, slotChecks, State.boundary_ready h]
theorem State.loadStop_ready {s : State} {c a n k : Nat} {x : Ctx} (h : LoadReady s c a x n k) (go : Ctx → Nat → State → State) : s.loadStop c a go = go x n s := by
  obtain ⟨h1, h2, rfl, h4, h5⟩ := h
  simp [State.loadStop, State.boundary_ready h1, h2, h4, h5]
theorem State.attachment_ready {s : State} {c sel : Nat} {x : Ctx} {v : Ns} {ids ks : List Nat} (h : WaitReady s c 0x15 x) (hs : bits x.sqe.cdw10 3 0 = sel) (h2 : sel < 2)
    (hv : s.ns x.sqe.nsid = some v) (hd : x.sqe.data = .ctrlList ids) (hl : s.listed x.port ids = some ks) (go : Ctx → Ns → List Nat → State → State) :
    s.attachment c sel go = go x v ks s := by
  have h3 : ¬ 2 ≤ sel := by omega
  simp [State.attachment, State.adminWait_ready h, hs, h3, hv, hd, hl]

/-! ## Features, log pages, self-test -/

theorem State.setFeature_ready {s : State} {c : Nat} {x : Ctx} (h : AdminReady s c 0x09 x) (fid : Nat) (go : Ctx → State → State) :
    s.setFeature c fid go = if x.sqe.fid ≠ fid then s else if x.sqe.sv && !saveable fid then s.complete c (stSpecific 0x0D) 0 else go x s := by
  simp only [State.setFeature, State.admin_ready h]
theorem State.getLog_ready {s : State} {c : Nat} {x : Ctx} (h : AdminReady s c 0x02 x) (lid : Nat) (go : Ctx → State → State) :
    s.getLog c lid go = if bits x.sqe.cdw10 7 0 ≠ lid then s else go x s := by
  simp only [State.getLog, State.admin_ready h]
theorem State.sendPage_eq {s : State} {c : Nat} {x : Ctx} (h : x.id = c) (l : Layout) : s.sendPage x l = ((s.toHost x (logPart x.sqe l)).drew).complete c .success 0 := by
  simp only [State.sendPage, h]
theorem State.selfTestOf_ready {s : State} {c : Nat} {x : Ctx} (h : AdminReady s c 0x14 x) (code : Nat) (go : State → State) :
    s.selfTestOf c code go = if bits x.sqe.cdw10 3 0 ≠ code then s else go s := by
  simp only [State.selfTestOf, State.admin_ready h]

/-! ## I/O commands -/

theorem State.io_ready {s : State} {c op : Nat} {x : Ctx} {v : Ns} (h : IoReady s c op x v) (go : Ctx → Ns → State → State) : s.io c op go = go x v s := by
  obtain ⟨h1, h2, h3, h4, h5, h6, h7⟩ := h; simp [State.io, h1, h2, h3, h4, h5, h6, h7]

/-! ## The mailbox -/

theorem State.privilegedLate_authentic {s : State} {h : MbHdr} {len : Nat} (a : Authentic s h len) (code : Nat) (go : State → Option Nat × State) :
    s.privilegedLate code len h go = match go (s.authenticated h) with
      | (some r, t) => t.mbAnswer code h r true []
      | (none, t) => t := by
  obtain ⟨_, hl, hr, hn, ch, hc, hk⟩ := a
  have hi : ch.index = h.challenge := by have := List.find?_some hc; simp at this; exact this.1
  subst hn
  rcases hl with hl | hl
  · simp [State.privilegedLate, hl, hc, hr, hk, hi, State.authenticated]; rfl
  · cases hp : s.part.lastPriv with
    | none => simp [State.privilegedLate, hp, hc, hr, hk, hi, State.authenticated]; rfl
    | some t =>
      have := hl t hp
      have hlt : ¬ s.now < t + 10000000 := by omega
      simp [State.privilegedLate, hp, hlt, hc, hr, hk, hi, State.authenticated]; rfl
theorem State.privileged_authentic {s : State} {h : MbHdr} {len : Nat} (a : Authentic s h len) (code : Nat) (go : State → Nat × State) :
    s.privileged code len h go = (go (s.authenticated h)).2.mbAnswer code h (go (s.authenticated h)).1 true [] := by
  simp only [State.privileged, State.privilegedLate_authentic a]

end Sys2Proof.Machine
end

