-- ==== Sys2Proof/Tests/Slice0.lean ====
section
/-! SUPPORT. The model's own tests: ill-formed commands are refused by name, and every hypothesis of a statement is met by a concrete state. -/
namespace Sys2Proof.Tests
open Sys2Proof Sys2Proof.Machine
-- one theorem after another: fewer threads, whose stacks are large
set_option Elab.async false

/-! ## WellFormed: a well-formed term, and an ill-formed term for each check -/

theorem test_wf_bellows : (Instr.bellowsTestMeasured 24000 50 true).wellFormed = true ∧ (Instr.bellowsTestMeasured 65536 50 true).wellFormed = false ∧
    (Instr.bellowsTestMeasured 24000 1024 true).wellFormed = false := by decide
theorem test_wf_samples : (Instr.sensorSample { readings := [⟨6, 7, none⟩] }).wellFormed = true ∧ (Instr.sensorSample { readings := [⟨7, 0, none⟩] }).wellFormed = false ∧
    (Instr.bringupFinalRound { readings := [⟨8, 8, none⟩] } []).wellFormed = false ∧ (Instr.releaseSafeHold {} { railA := 4096 }).wellFormed = false ∧
    (Instr.sensorSample { inputV := 65536 }).wellFormed = false := by decide
theorem test_wf_cell : (Instr.keepCellCheck 3000).wellFormed = true ∧ (Instr.keepCellCheck 4096).wellFormed = false := by decide
theorem test_wf_pods : (Instr.podDescriptorRead [(0, {}), (1, {})]).wellFormed = true ∧ (Instr.podDescriptorRead [(0, {}), (0, {})]).wellFormed = false ∧
    (Instr.podDescriptorRead [(0, { blocks := 65536 })]).wellFormed = false := by decide
theorem test_wf_ports : (Instr.pcieLinkTrained 0 7 16).wellFormed = true ∧ (Instr.pcieLinkTrained 0 8 16).wellFormed = false ∧ (Instr.pcieLinkTrained 0 7 12).wellFormed = false ∧
    (Instr.ccEnSet 0 8 6 4 31 31).wellFormed = false ∧ (Instr.ccEnSet 0 0 6 4 4096 31).wellFormed = false := by decide
theorem test_wf_doorbells : (Instr.sqTailDoorbell 0 (.bar0 0) true 4294967295).wellFormed = true ∧ (Instr.sqTailDoorbell 0 (.bar0 0) true 4294967296).wellFormed = false ∧
    (Instr.cqHeadDoorbell 0 (.bar0 0) true 4294967296).wellFormed = false ∧ (Instr.stopWindowAccess 0 0 65536 none).wellFormed = false := by decide
theorem test_wf_fetch : (Instr.sqEntryFetch 0 0 511 [{ opcode := 2 }]).wellFormed = true ∧ (Instr.sqEntryFetch 0 0 512 []).wellFormed = false ∧
    (Instr.sqEntryFetch 0 0 1 (List.replicate 9 { opcode := 2 })).wellFormed = false ∧ (Instr.sqEntryFetch 0 0 1 [{ opcode := 256 }]).wellFormed = false ∧
    (Instr.sqEntryFetch 0 0 1 [{ opcode := 0xCB, inner := some (256, 0, 0, 0, 0, 0) }]).wellFormed = false := by decide
theorem test_wf_management : (Instr.maintenanceHold 65536).wellFormed = false ∧ (Instr.loadKey {} 65536 false true 0).wellFormed = false ∧
    (Instr.clearKey {} 65536).wellFormed = false ∧ (Instr.setRpl {} 256 false).wellFormed = false ∧ (Instr.extendedSelfTestEnd 16).wellFormed = false := by decide
theorem test_wf_frames : (Instr.linkFrameReceived 0 { seq := 4095, ackSeq := 0 }).wellFormed = true ∧ (Instr.linkFrameReceived 0 { seq := 4096, ackSeq := 0 }).wellFormed = false ∧
    (Instr.linkFrameReceived 0 { seq := 0, ackSeq := 0, msgSlots := 40, dataSlots := 128 }).wellFormed = false ∧ (Instr.stopDataOut 0 { typ := 16 }).wellFormed = false ∧
    (Instr.stopEndFrame 0 { typ := 3, code := 65536 }).wellFormed = false ∧ (Instr.stopMoverOut 0 { typ := 7, channel := 4 }).wellFormed = false := by decide
theorem test_wf_movers : (Instr.dmRingTailWrite 0 0 1 [(0, {})]).wellFormed = true ∧ (Instr.dmRingTailWrite 0 0 1 [(65536, {})]).wellFormed = false ∧
    (Instr.dmRingTailWrite 0 0 1 [(0, { op := 256 })]).wellFormed = false := by decide
theorem test_wf_upkeep : (Instr.droneWindow 1024 1024 []).wellFormed = true ∧ (Instr.droneWindow 1025 0 []).wellFormed = false ∧ (Instr.checkpointLine 0 0).wellFormed = false ∧
    (Instr.mapFetchComplete 4097 ⟨0, .asWritten⟩).wellFormed = false ∧ (Instr.relocationCopyComplete 0 65536).wellFormed = false ∧ (Instr.vaultRearm 0 65536).wellFormed = false ∧
    (Instr.reserveBandReturn 0 65536).wellFormed = false ∧ (Instr.patrolScrub 0 65536 0 []).wellFormed = false ∧ (Instr.podStatsRead 0 0 0 65536).wellFormed = false ∧
    (Instr.bootFlashRead 0 67108864).wellFormed = false := by decide

/-! ## Small states the witnesses below stand on -/

/-- After reset, in mode `m`. -/
def inMode (m : Mode) : State := State.reset.modModes (fun x => { x with mode := m })
/-- In service. -/
def svc : State := inMode .service
/-- In bring-up with step `n` done. -/
def stepped (n : Nat) : State := State.reset.modModes (fun x => { x with step := n })
/-- In service, with a flush running for `w`. -/
def flushing (w : FlushWhy) : State := svc.modModes (fun x => { x with flush := some ⟨w, false, .service⟩ })
/-- Context 1, an admin command of port 0. -/
def cx (q : Sqe) : Ctx := { id := 1, port := 0, inst := 0, gen := 0, qid := 0, stamp := 0, time := 0, sqe := q, admin := true, phase := .ready }
/-- Context 1, an I/O command of instance 0 of port 0. -/
def ix (q : Sqe) : Ctx := { cx q with admin := false, qid := 1 }
def withCtx (x : Ctx) (s : State) : State := { s with ctxs := [x] }
/-- In service, with that admin command. -/
def adm (q : Sqe) : State := withCtx (cx q) svc
/-- Port 0 of a state is at L0 and ready. -/
def up (s : State) : State := s.modPort 0 (fun t => { t with link := .l0, rdy := true, ccEn := true, cfgReady := true, pasidEn := true })

theorem adminReady_of (s : State) (q : Sqe) (h : s.adminOn = true) : AdminReady (withCtx (cx q) s) 1 q.opcode (cx q) := by
  refine ⟨rfl, rfl, rfl, rfl, ?_⟩
  simp only [State.mayRun]
  rw [show (withCtx (cx q) s).adminOn = s.adminOn from rfl, h]; rfl
theorem boundaryReady_of (s : State) (q : Sqe) (h : s.adminOn = true) (he : s.modes.epoch = none) : BoundaryReady (withCtx (cx q) s) 1 q.opcode (cx q) := ⟨adminReady_of s q h, he⟩
theorem waitReady_of (s : State) (q : Sqe) (h : s.adminOn = true) : WaitReady (withCtx (cx q) s) 1 q.opcode (cx q) := ⟨rfl, rfl, .inl rfl, rfl, h⟩
theorem updateReady_of (s : State) (q : Sqe) (h : s.adminOn = true) (hk : s.keep.verifying = false) (hp : ∀ p, s.flash.package = some p → p.togo = 0) :
    UpdateReady (withCtx (cx q) s) 1 q.opcode (cx q) := ⟨rfl, rfl, rfl, rfl, h, hk, hp⟩
theorem ioReady_of (s : State) (q : Sqe) (v : Ns) (ha : s.active = true) (hf : s.hostFenced = false) (hv : s.ns q.nsid = some v) : IoReady (withCtx (ix q) s) 1 q.opcode (ix q) v :=
  ⟨rfl, rfl, rfl, rfl, ha, hf, hv⟩

/-! ## Values the manual works out -/

/-- 16, after R536: 53.8 J at 30 mF, 72 V and up to 50 mΩ; 51.0 J at 150 mΩ. -/
theorem test_energy : energyOf 30000 50 7200 = 538 ∧ energyOf 30000 150 7200 = 510 ∧ energyOf 30000 50 4000 = 0 := by decide
/-- 12: P040 is position 4 of G6 in the factory image; R391's table is empty at reset, so the geometry decides. -/
theorem test_position : ((factoryImage.geometry.groups[6]?).getD [])[4]? = some 40 ∧ factoryActive.findIdx (fun l => l == 40) = 38 := by decide +kernel
/-- 02: the factory image meets every limit the load checks. -/
theorem test_factory_image : factoryImage.limitsOk = true := by decide +kernel

/-! ## Every hypothesis of a statement is met: supply, bellows, modes -/

theorem test_met_front : (up { svc with pending := [.bellowsTest, .powerStageStop] }).pending = [Instr.bellowsTest] ++ [.powerStageStop] ∧ State.reset.pending = [] := by decide
theorem test_met_input : (flushing .power).modes.flush.isSome = true ∧ ((inMode .keep).modes.flush = none ∧ (inMode .keep).modes.mode = .keep) ∧
    (let s := State.reset.modModes (fun m => { m with stopped := true }); s.modes.flush = none ∧ s.modes.mode = .bringUp ∧ s.modes.stopped = true) ∧
    ((inMode .safeHold).modes.flush = none ∧ (inMode .safeHold).modes.mode = .safeHold) ∧ (svc.modes.flush = none ∧ svc.active = true) ∧
    (State.reset.modes.mode = .bringUp ∧ State.reset.modes.stopped = false) := by decide
theorem test_met_brownout : (svc.pw.brownout = false ∧ svc.pw.inputOk = true ∧ svc.modes.mode ≠ .keep ∧ ∀ f, svc.modes.flush = some f → f.onBank = false) ∧
    ((flushing .thermal).pw.brownout = false ∧ (flushing .thermal).pw.inputOk = true ∧ (flushing .thermal).modes.flush = some ⟨.thermal, false, .service⟩) ∧
    (svc.modPw (fun p => { p with brownout := true })).pw.brownout = true ∧
    (let s := svc.modPw (fun p => { p with armed := true }); s.pw.armed = true ∧ s.modes.mode ≠ .keep) := by decide
theorem test_met_powerFail : (svc.modes.mode ≠ .keep ∧ svc.pw.inputOk = true ∧ svc.modes.flush = none ∧ svc.active = true) ∧
    ((flushing .thermal).modes.mode ≠ .keep ∧ (flushing .thermal).pw.inputOk = true ∧ (flushing .thermal).modes.flush = some ⟨.thermal, false, .service⟩) ∧
    ((inMode .safeHold).pw.inputOk = true ∧ (inMode .safeHold).modes.mode = .safeHold ∧ (inMode .safeHold).modes.flush = none) ∧
    (State.reset.pw.inputOk = true ∧ State.reset.modes.mode = .bringUp ∧ State.reset.modes.flush = none) := by decide
theorem test_met_supply : ((flushing .clock).modes.flush = some ⟨.clock, false, .service⟩) ∧ (flushing .power).modes.flush = some ⟨.power, false, .service⟩ ∧
    (let s := svc.modPw (fun p => { p with bankOnBus := true }); s.modes.mode ≠ .keep ∧ s.pw.bankOnBus = true) ∧ svc.pw.rail = false ∧
    (let s := svc.modPw (fun p => { p with rail := true }); s.pw.rail = true ∧ s.modes.mode ≠ .keep) := by decide
theorem test_met_bellows : (svc.active = true ∧ svc.modes.flush = none ∧ svc.pw.testLoad = false ∧ svc.pw.brownout = false) ∧
    (let s := svc.modPw (fun p => { p with testing := true }); s.active = true ∧ s.modes.flush = none ∧ s.pw.testing = true ∧ s.pw.testLoad = false) ∧
    (svc.modPw (fun p => { p with testLoad := true })).pw.testLoad = true ∧ ((stepped 1).modes.mode ≠ .keep ∧ (stepped 1).modes.mode = .bringUp ∧ 1 ≤ (stepped 1).modes.step) ∧
    (let s := svc.modPw (fun p => { p with mute := 2 }); s.pw.mute = 2 ∧ s.active = true ∧ s.pw.m2At = none) ∧
    (let s := svc.modPw (fun p => { p with mute := 2, m2At := some 5 }); s.pw.mute = 2 ∧ s.active = true ∧ s.pw.m2At = some 5) := by decide
theorem test_met_clocks : ((stepped 1).modes.mode ≠ .keep ∧ 1 ≤ (stepped 1).modes.step) ∧ (¬(true = false ∧ true = true ∧ false = false) ∧ ¬(true = false ∧ true = false ∧ false = true)) ∧
    (let s := (inMode .safeHold).modPart (fun p => { p with clockFault := true })
     s.modes.mode = .safeHold ∧ s.part.clockFault = true ∧ s.part.dumped = false ∧ s.pw.inputOk = true ∧ s.modes.flush = none) ∧
    (svc.modes.resetHeld = false ∧ svc.modes.mode ≠ .keep ∧ svc.modes.flush = none ∧ svc.active = true) ∧ ((inMode .safeHold).modes.resetHeld = false ∧ (inMode .safeHold).modes.flush = none) ∧
    (State.reset.modes.resetHeld = false ∧ State.reset.modes.flush = none ∧ State.reset.modes.mode = .bringUp) ∧
    (let s := svc.modModes (fun m => { m with resetHeld := true }); s.modes.resetHeld = true ∧ s.modes.flush = none) ∧
    (let s := (flushing .moduleReset).modModes (fun m => { m with resetHeld := true }); s.modes.resetHeld = true ∧ s.modes.flush.isSome = true) ∧
    ((svc.modPart (fun p => { p with wdtRun := true })).part.wdtRun = true ∧ svc.modes.flush = none) ∧ svc.part.wdtRun = false ∧ (flushing .power).modes.flush.isSome = true ∧ (2 : W32) ≠ svc.part.wdtLast + 1 := by decide
theorem test_met_bringUp : (State.reset.modes.mode = .bringUp ∧ State.reset.atStep 0 = true ∧ State.reset.pw.inputOk = true) ∧
    (¬(false = true ∧ true = true ∧ true = true)) ∧ ((((State.reset.modKeep (fun k => { k with lockout := true })).stepTwo {}).setStep 2).keep.lockout = true) ∧
    (((State.reset.stepTwo {}).setStep 2).keep.lockout = false) ∧ (stepped 4).atStep 4 = true ∧ (stepped 5).atStep 5 = true ∧ (stepped 6).atStep 6 = true := by decide
theorem test_met_recovery : ((stepped 9).atStep 9 = true ∧ (stepped 9).modes.fenced = false) ∧ (let s := (stepped 9).modModes (fun m => { m with fenced := true }); s.atStep 9 = true ∧ s.modes.fenced = true) ∧
    (stepped 11).atStep 11 = true ∧ (stepped 12).atStep 12 = true ∧
    (let s := (stepped 4).modKeep (fun k => { k with stage := 3 }); s.modes.mode = .bringUp ∧ 4 ≤ s.modes.step ∧ s.modes.step < 13 ∧ s.keep.stage = 3 ∧ s.modes.stopped = false) ∧
    (let s := (stepped 12).modKeep (fun k => { k with stage := 3 }); s.modes.step < 13 ∧ s.keep.stage = 3) := by decide
theorem test_met_bringStop : (svc.binding (15 : StopId)).image = none ∧
    (let s := { svc.logRec (.binding 15 { image := some {} }) with store := [(15, {})] }; (s.binding (15 : StopId)).image = some {} ∧ (s.store.find 15).isSome = true) := by decide
theorem test_met_finalRound : (let s := stepped 11; ((List.range 7).any (fun z => decide (3 ≤ ((s.takeSample {}).zone z).level))) = false) := by decide

/-! ## The same: voicing, ports, doorbells -/

/-- An image that passes every check of the load, with its format in force, in slot 1. -/
def goodImage : VoicingImage := { factoryImage with serial := 1 }
def voiced (n : Nat) : State := (((stepped 7).modFlash (fun f => { f with slots := f.slots.set 1 { image := some goodImage }, fw := f.fw.set 0 {} })).modKeep (fun k => { k with active := n })) |> fun s => { s with format := some { key := goodImage.formatKey } }
theorem test_met_voicing_limits : goodImage.limitsOk = true := by decide +kernel
/-- A slot's image that meets the limits, of the key its own geometry gives, with no pod that says otherwise, passes. -/
theorem checkSlot_good (s : State) (n : Nat) (i : VoicingImage) (hv : s.vslot n = { image := some i }) (hs : s.sigsOk (some 0) none = true)
    (hw : i.fwMin.toNat ≤ (s.flash.fw.get { version := Config.factoryFw s.flash.running } s.flash.running).version.toNat)
    (hl : i.limitsOk = true) (hm : s.munTableOk i = true) (hd : s.decodeOk i = true) (hp : s.podsOk i = true) (hk : i.formatKey = i.key) : s.checkSlot n = 0 := by
  unfold State.checkSlot
  simp only [hv]
  rw [if_neg (by simp), if_neg (by simp), if_neg (by simp [hs]), if_neg (Nat.not_lt.2 hw), if_neg (by simp [hl, hm, hd, hp]), if_neg (by simp [hk])]
theorem mun_voiced : (voiced 1).munTableOk goodImage = true := by
  unfold State.munTableOk State.groupGeom
  generalize (voiced 1).keyMatches goodImage = b
  cases b <;> decide +kernel
theorem check_voiced : (voiced 1).checkSlot 1 = 0 :=
  checkSlot_good _ 1 goodImage rfl (by decide) (by decide) test_met_voicing_limits mun_voiced (by decide +kernel) rfl rfl
theorem test_met_voicing : (voiced 1).atStep 7 = true ∧ (voiced 1).slotOrder.find? (fun x => (voiced 1).loadCheck x == 0) = some (1, 1) := by
  refine ⟨by decide, ?_⟩
  have h : (voiced 1).loadCheck (1, 1) = 0 := by
    have hk : (voiced 1).keyMatches goodImage = true := beq_self_eq_true (some goodImage.formatKey)
    unfold State.loadCheck
    rw [show ((1, 1) : Nat × Nat).1 = 1 from rfl, check_voiced]
    simp only [show ((voiced 1).vslot 1).image = some goodImage from rfl, hk, Bool.true_or, if_true]
  have o : (voiced 1).slotOrder = (1, 1) :: (voiced 1).slotOrder.drop 1 := by decide
  rw [o, List.find?_cons_of_pos (by rw [h]; rfl)]
theorem test_met_voicing_none : let s := { (stepped 7).modFlash (fun f => { f with fw := f.fw.set 0 {} }) with otp := { imageRevoke := 1 } }
    s.atStep 7 = true ∧ s.slotOrder.find? (fun x => s.loadCheck x == 0) = none ∧ s.checkSlot 0 ≠ 0 := by decide +kernel
theorem test_met_pod_power : (let s := (stepped 8).modPw (fun p => { p with j2Present := false }); s.atStep 8 = true ∧ s.pw.j2Present = false ∧ s.pw.rail = false) ∧
    ((stepped 8).atStep 8 = true ∧ (stepped 8).pw.j2Present = true) ∧
    (let s := State.reset.modLink 143 (fun x => { x with state := 1, rate := 0, trying := 2 }); (s.link 143).state = 1 ∧ (s.link 143).rate = 0 ∧ 2 ≤ (s.link 143).trying) ∧
    (let s := State.reset.modLink 0 (fun x => { x with state := 1, rate := 0, trying := 1 }); (s.link 0).state = 1 ∧ (s.link 0).rate = 0 ∧ (s.link 0).trying < 2) := by decide
theorem test_met_hot_round : let x : Sample := { readings := [⟨0, 0, some 2400⟩, ⟨0, 1, some 2400⟩, ⟨0, 2, some 2400⟩, ⟨0, 3, some 2400⟩] }
    ((List.range 7).any (fun z => decide (3 ≤ (((stepped 11).takeSample x).zone z).level))) = true := by decide +kernel
theorem test_met_links : (State.reset.port 7).perst = false ∧ ((up svc).port 0).link = .l0 ∧ ((up svc).port 0).pasidEn = true ∧
    ((svc.modPort 7 (fun t => { t with perst := true })).port 7).perst = true ∧ ((svc.modPort 7 (fun t => { t with measuring := true })).port 7).measuring = true ∧
    ((svc.modPort 7 (fun t => { t with link := .recovery })).port 7).link = .recovery ∧ ((svc.modPort 7 (fun t => { t with d3hot := true })).port 7).d3hot = true ∧ ((svc.port 7).cfgReady = false ∧ (svc.port 7).perst = false) ∧
    ((up svc).port 0).cfgReady = true ∧
    ((svc.port 0).perst = false ∧ (svc.vport 0).enable = true ∧ linkWidths.contains 16 = true ∧ 4 ≤ (svc.vport 0).maxSpeed ∧ 16 ≤ (svc.vport 0).maxWidth ∧ (svc.port 0).speed = 0) ∧
    (linkWidths.contains 1 = true ∧ 4 ≤ 4 ∧ 4 ≤ (svc.vport 7).maxSpeed ∧ 1 ≤ (svc.vport 7).maxWidth) := by decide
theorem test_met_enable : (let s := (up svc).modPort 0 (fun t => { t with ccEn := false }); (s.port 0).reachable = true ∧ (s.port 0).ccEn = false) ∧
    (((up svc).port 0).reachable = true ∧ ((up svc).port 0).ccEn = true ∧ ((up svc).port 0).rdy = true ∧ ((up svc).port 0).shst = 0) ∧
    (let s := (up svc).modPort 0 (fun t => { t with shst := 1 })
     (s.port 0).shst = 1 ∧ s.hostFenced = false ∧ (∀ m ∈ s.unprogrammed (s.live.nss.map (fun e => e.1)), (s.codeword m).writer ≠ 1) ∧ (List.range 8).all (s.modPort 0 (fun t => { t with shst := 2 })).portQuiet = true ∧
       ∀ x ∈ s.cache.stripes, x.used = []) ∧
    (let s := ((up svc).modPort 0 (fun t => { t with shst := 1 })).modPort 7 (fun t => { t with everEn := true, ccEn := true })
     (s.port 0).shst = 1 ∧ (List.range 8).all (s.modPort 0 (fun t => { t with shst := 2 })).portQuiet = false) := by decide
/-- Instance 0 of port 0 with I/O queues 1 of eight entries. -/
def queued : State := (up svc).modInst 0 (fun i => { i with state := .active, sqs := [(1, { size := 8, cq := 1 })], cqs := [(1, { size := 8, tail := 3 })] })
theorem test_met_doorbells : (svc.port 0).rdy = false ∧ (tailDoorbell (.bar2 127 40) = true ∧ tailDoorbell (.bar2 127 44) = false ∧ tailDoorbell (.bar0 4095) = false) ∧
    (((up svc).port 0).rdy = true ∧ ((up svc).port 0).cfs = false ∧ (up svc).hostFenced = false ∧ ((up svc).inst (instKey 0 (doorbellTarget (.bar2 127 40)).1)).state = .free ∧ ((up svc).port 0).straySent = false) ∧
    (let s := (up svc).modFlash (fun f => { f with image := { f.image with ports := [{ instances := 1 }] } }); (s.vport 0).instances ≤ (doorbellTarget (.bar2 1 40)).1) ∧
    (let s := (up svc).modPort 0 (fun t => { t with straySent := true }); (s.port 0).rdy = true ∧ (s.port 0).straySent = true ∧ ∀ q : PortId, q ≠ 0 → (s.port q).straySec = 0) ∧
    ((queued.port 0).rdy = true ∧ queued.hostFenced = false ∧ (queued.port 0).cfs = false ∧ 0 < (queued.vport 0).instances ∧ (doorbellTarget (.bar0 8) = (0, some 1) ∧ doorbellTarget (.bar0 12) = (0, some 1) ∧ (DoorbellAt.bar0 8).off % 4 = 0 ∧ (DoorbellAt.bar0 12).off % 4 = 0) ∧
      (queued.inst 0).state = .active ∧ tailDoorbell (.bar0 8) = true ∧ tailDoorbell (.bar0 12) = false ∧ (queued.inst 0).sqs.find 1 = some { size := 8, cq := 1 } ∧ 7 < 8 ∧ 8 ≤ 8) ∧
    ((queued.inst 0).cqs.find 1 = some { size := 8, tail := 3 } ∧ 3 < 8 ∧ (3 + 8 - 0) % 8 ≤ (3 + 8 - 0) % 8) ∧
    (tailDoorbell (.bar0 4088) = true ∧ (doorbellTarget (.bar0 4088)).2 = some 511 ∧ (queued.inst 0).sqs.find 511 = none) := by decide
/-- A doorbell has put an entry into its queue 1, and into the admin queue. -/
def rung : State := (queued.modInst 0 (fun i => { i with sqs := [(1, { size := 8, cq := 1, tail := 1, bell := 1 })] })).modFlash (fun f => { f with image := { f.image with pools := List.replicate 8 {} } }) |> fun s => { s with live := { s.live with insts := [(0, { live := true, share := { slotMax := 1 } })] } }
def rungAdmin : State := (queued.adminQueues 0 31 31).modInst 0 (fun i => { i with sqs := i.sqs.set 0 { i.sqs.get {} 0 with tail := 1, bell := 2 } })
theorem test_met_fetch : (rung.fetchHeld 0 false = false ∧ (rung.inst 0).sqs.find 1 = some { size := 8, cq := 1, tail := 1, bell := 1 } ∧ ((rung.inst 0).cqs.get {} 1).full = false ∧ ((rung.inst 0).cqs.get {} 1).held = []) ∧
    ((rung.inst 0).state = .active ∧ rung.capHeld 0 = false ∧ rung.m3Held 0 = false ∧ (rung.slotFor 0).isSome = true ∧ rung.visits (instKey 0 0) 0 = false ∧
      ∀ e ∈ rung.insts, e.1 / 128 = 0 → ∀ y ∈ e.2.sqs, (e.1 = 0 ∧ y.1 = 1) ∨ ((rung.inst 0).sqs.get {} 1).bell ≤ y.2.bell ∨ rung.visits e.1 y.1 = false) ∧
    (rungAdmin.fetchHeld 0 true = false ∧ ∃ x, (rungAdmin.inst 0).sqs.find 0 = some x ∧ x.failed = false ∧ x.tail ≠ x.head ∧ ((rungAdmin.inst 0).cqs.get {} x.cq).full = false ∧
      ((rungAdmin.inst 0).cqs.get {} x.cq).held = []) := by
  refine ⟨by decide, by decide, by decide, _, rfl, by decide⟩
theorem test_met_dma : (adm { opcode := 2 }).ctx 1 = some (cx { opcode := 2 }) ∧ (cx { opcode := 2 }).port = 0 ∧ (cx { opcode := 2 }).phase ≠ .posted ∧ (withCtx (ix { opcode := 2 }) svc).ctx 1 = some (ix { opcode := 2 }) ∧
    (queued.inst (instKey 0 0)).sqs.find 1 = some { size := 8, cq := 1 } ∧ (queued.inst (instKey 0 0)).cqs.find 1 = some { size := 8, tail := 3 } ∧
    ((queued.adminQueues 0 31 31).inst (instKey 0 0)).sqs.find 0 = some { size := 32 } := by decide

/-! ## The same: the sequencer, admin commands -/

/-- Instance 0 of port 0 is live with that share. -/
def shared (d : Share) (s : State) : State := { s with live := { s.live with insts := s.live.insts.set 0 { live := true, share := d } } }
/-- A context that waits for admission. -/
def waits : Ctx := { ix { opcode := 1, nsid := 1 } with phase := .admission, cost := 1 }
theorem test_met_rounds : (∀ k ∈ svc.quadInsts 0, svc.waitingAt k = [] ∧ (svc.inst k).deficit = 0) ∧
    (let s := withCtx waits (shared { tokens := 0 } svc); s.quadInsts 0 = [0] ∧ s.waitingAt 0 = [waits] ∧ s.capCovers waits = true ∧ (s.dinst 0).share.tokens = 0) ∧
    (let s := withCtx waits (shared { tokens := 1 } svc); s.quadInsts 0 = [0] ∧ s.waitingAt 0 = [waits] ∧ s.capCovers waits = true ∧ 0 < (s.dinst 0).share.tokens ∧
      waits.cost ≤ min ((s.inst 0).deficit + 16 * 1) (16 * 1 + 512)) ∧
    (let s := svc.modInst 1023 (fun i => { i with defLog := { undelivered := [1] } }); s.undelivered 7 = true ∧ (s.port 7).posted.e0 = false) := by decide
theorem test_met_completion : let s := (up (adm { opcode := 6 })).adminQueues 0 31 31
    s.ctx 1 = some (cx { opcode := 6 }) ∧ (cx { opcode := 6 }).admin = true ∧ (cx { opcode := 6 }).mi = false ∧ (cx { opcode := 6 }).mover = none ∧ (cx { opcode := 6 }).phase ≠ .posted ∧ (cx { opcode := 6 }).owes = [] ∧ (cx { opcode := 6 }).inst = 0 ∧
    s.hostFenced = false ∧ (s.port 0).rdy = true ∧ (s.port 0).cfs = false ∧ (s.port 0).d3hot = false ∧ (s.port 0).link ≠ .recovery ∧ (s.inst (instKey 0 0)).cqs.find 0 = some { size := 32, vector := some 0 } ∧
    ({ size := 32, vector := some 0 } : Cq).full = false := by decide
theorem test_met_queues : AdminReady (adm { opcode := 5 }) 1 5 (cx { opcode := 5 }) ∧ AdminReady (adm { opcode := 1 }) 1 1 (cx { opcode := 1 }) ∧
    AdminReady (adm { opcode := 4 }) 1 4 (cx { opcode := 4 }) ∧ AdminReady (adm { opcode := 0 }) 1 0 (cx { opcode := 0 }) :=
  ⟨adminReady_of _ _ rfl, adminReady_of _ _ rfl, adminReady_of _ _ rfl, adminReady_of _ _ rfl⟩
/-- Get Log Page of page `lid` of object `n`. -/
def logSqe (lid n : Nat) : Sqe := { opcode := 2, cdw10 := BitVec.ofNat 32 lid, cdw11 := BitVec.ofNat 32 (n * 65536) }
theorem test_met_log (lid n : Nat) : AdminReady (adm (logSqe lid n)) 1 0x02 (cx (logSqe lid n)) := adminReady_of _ _ rfl
theorem test_met_logPages : (∀ l ∈ [0x01, 0x02, 0x03, 0x05, 0x06, 0xE6, 0xE9, 0xE7, 0xE1, 0xE2, 0xE8, 0xE4, 0xE5, 0xE3, 0xEA, 0xE0], bits (logSqe l 0).cdw10 7 0 = l) ∧
    (lsi (logSqe 0xE7 143) < 144 ∧ 144 ≤ lsi (logSqe 0xE7 144)) ∧ (lsi (logSqe 0xE1 127) < (svc.vport 0).instances ∧ (svc.vport 0).instances ≤ lsi (logSqe 0xE1 128)) ∧
    (lsi (logSqe 0xE8 1) < 2 ∧ ¬lsi (logSqe 0xE8 2) < 2) := by decide
/-- Identify of CNS `n`, Get and Set Features of feature `f` with value `v`. -/
def idSqe (n : Nat) : Sqe := { opcode := 6, nsid := 1, cdw10 := BitVec.ofNat 32 n }
def getSqe (f v : Nat) (sel : Nat := 0) : Sqe := { opcode := 0x0A, cdw10 := BitVec.ofNat 32 (f + sel * 256), cdw11 := BitVec.ofNat 32 v }
def setSqe (f v : Nat) (sv : Bool := false) (d : HostData := .none) : Sqe := { opcode := 0x09, cdw10 := BitVec.ofNat 32 (f + if sv then 2 ^ 31 else 0), cdw11 := BitVec.ofNat 32 v, data := d }
theorem test_met_identify (n : Nat) : AdminReady (adm (idSqe n)) 1 0x06 (cx (idSqe n)) := adminReady_of _ _ rfl
theorem test_met_getFeatures (f v sel : Nat) : AdminReady (adm (getSqe f v sel)) 1 0x0A (cx (getSqe f v sel)) := adminReady_of _ _ rfl
theorem test_met_setFeatures (f v : Nat) (sv : Bool) (d : HostData) : AdminReady (adm (setSqe f v sv d)) 1 0x09 (cx (setSqe f v sv d)) := adminReady_of _ _ rfl
theorem test_met_features : (∀ n ∈ [0x01, 0x00, 0x11, 0x02, 0x10, 0x03, 0x12, 0x13], bits (idSqe n).cdw10 7 0 = n) ∧
    ((getSqe 4 0x300000).fid = 4 ∧ (tempSel (getSqe 4 0x300000).cdw11).isNone = true) ∧ ((getSqe 4 0x100000).fid = 4 ∧ (tempSel (getSqe 4 0x100000).cdw11).isSome = true) ∧
    ((getSqe 4 0x300000).fid = 4 ∧ 2 ≤ bits (getSqe 4 0x300000).cdw11 21 20) ∧ ((getSqe 4 0x20000).fid = 4 ∧ bits (getSqe 4 0x20000).cdw11 21 20 < 2 ∧ (tempSel (getSqe 4 0x20000).cdw11).isNone = true) ∧ (getSqe 1 0).fid = 1 ∧
    ((getSqe 9 0).fid = 9 ∧ svc.vectorOk 0 (getSqe 9 0).cdw11 = false) ∧ ((getSqe 9 0).fid = 9 ∧ (shared { vectors := 1 } svc).vectorOk 0 (getSqe 9 0).cdw11 = true) ∧
    ((getSqe 0x0E 0).fid = 0x0E ∧ (getSqe 0x0E 0).sel = 0) ∧ ((getSqe 0x0C 0).fid = 0x0C ∧ (getSqe 0x0C 0).sel = 0) ∧ (getSqe 1 0 3).sel = 3 ∧
    (∀ f ∈ [1, 5, 0x0A, 0x0B, 8, 9, 2, 4, 7, 0x0E], (setSqe f 1).fid = f ∧ (setSqe f 1).sv = false ∧ (setSqe f 1 true).fid = f ∧ (setSqe f 1 true).sv = true) ∧
    ((setSqe 5 0).cdw11.getLsbD 16 = false ∧ (setSqe 5 65536).cdw11.getLsbD 16 = true) ∧
    ((setSqe 0x0C 1 false (.apst [(3, 100)])).data = .apst [(3, 100)] ∧ (setSqe 0x0E 0 false (.timestamp 5)).data = .timestamp 5) := by decide
theorem test_met_events : (AdminReady (adm { opcode := 0x0C }) 1 0x0C (cx { opcode := 0x0C }) ∧ (cx { opcode := 0x0C }).mi = false ∧ ((adm { opcode := 0x0C }).port 0).aers.length < 16 ∧ ((adm { opcode := 0x0C }).port 0).waitingEv = []) ∧
    (let s := svc.modPort 0 (fun t => { t with aers := List.range 15, waitingEv := [⟨0, 0, 1⟩] })
     AdminReady (withCtx (cx { opcode := 0x0C }) s) 1 0x0C (cx { opcode := 0x0C }) ∧ (s.port 0).aers.length < 16 ∧ (s.port 0).waitingEv = ⟨0, 0, 1⟩ :: []) ∧
    (let s := svc.modPort 0 (fun t => { t with aers := List.range 16 }); AdminReady (withCtx (cx { opcode := 0x0C }) s) 1 0x0C (cx { opcode := 0x0C }) ∧ 16 ≤ (s.port 0).aers.length) ∧
    (AdminReady (adm { opcode := 8, cdw10 := 0x50001 }) 1 8 (cx { opcode := 8, cdw10 := 0x50001 }) ∧ ((adm { opcode := 8, cdw10 := 0x50001 }).abortFinds 0 1 5).2 = none) ∧
    ((withCtx { ix { opcode := 1, cid := 5 } with id := 2 } svc).abortFinds (instKey 0 0) 1 5).2 = some 2 :=
  ⟨⟨adminReady_of _ _ rfl, by decide⟩, ⟨adminReady_of _ _ rfl, by decide⟩, ⟨adminReady_of _ _ rfl, by decide⟩, ⟨adminReady_of _ _ rfl, by decide⟩, by decide⟩
theorem test_met_powerStates :
    (let s := { svc.modPort 0 (fun t => { t with rdy := true, apstEn := true, apst := [(4, 1)] }) with now := 1000 }; let e := (s.port 0).apst.getD (s.asksPs 0) (0, 0)
     s.serving = true ∧ (s.port 0).rdy = true ∧ (s.port 0).apstEn = true ∧ s.portBusy 0 = false ∧ 3 ≤ e.1 ∧ e.1 ≤ 4 ∧ 0 < e.2 ∧ (s.port 0).busyAt + e.2 * 1000 ≤ s.now) ∧
    (∀ w ∈ [3, 4], let s := svc.modPort 0 (fun t => { t with ccEn := true, reqPs := w }); s.entryTo = some w ∧ s.portsIdle = true ∧ s.modes.psEntry = none ∧ s.hostFenced = false) ∧
    (∀ w ∈ [3, 4], let s := (svc.modPort 0 (fun t => { t with ccEn := true, reqPs := w })).modModes (fun m => { m with psEntry := some w })
      s.modes.psEntry = some w ∧ s.entryTo = some w ∧ s.portsIdle = true ∧ s.diesIdle = true ∧ ∀ x ∈ s.cache.stripes, x.used = []) ∧
    (let s := (svc.modModes (fun m => { m with ps := 4 })).modDrone 10 (fun d => { d with lagS := 3601 })
     s.active = true ∧ s.modes.flush = none ∧ s.modes.ps = 4 ∧ 10 < 11 ∧ 3600 < (s.drone 10).lagS) ∧
    (let s := svc.modModes (fun m => { m with ps := 3, excursion := true }); s.active = true ∧ s.modes.flush = none ∧ s.modes.ps = 3 ∧ s.modes.excursion = true) := by decide

/-! ## The same: namespaces, updates, holds, epochs, management -/

/-- A namespace of `n` blocks of 512 B. -/
def spec (n : Nat) : NsSpec := { nsze := n, ncap := n, writeThrough := true }
def withNs (v : Ns) (s : State) : State := { s with live := { s.live with nss := s.live.nss.set v.nsid v } }
/-- Namespace 1 exists. -/
def ns1 : Ns := { nsid := 1, serial := 1, spec := spec 8 }
def nsS : State := withNs ns1 svc
/-- Namespace Management of a create. -/
def mkSqe (n : NsSpec) : Sqe := { opcode := 0x0D, data := .nsSpec n }
/-- One group of seventeen pods of 256 GB dies. -/
def media (s : State) : State :=
  { s.modFlash (fun f => { f with image := { f.image with geometry := { groups := [List.range 17] }, mun := [{ base := 0, bands := 16, rowsPerBand := 512, dataMembers := 15, slotsPerRow := 48 }] } }) with
    pods := (List.range 17).map (fun l => (l, { present := true, powered := true, desc := some {} })) }
/-- NSIDs 1 to `n` are taken. -/
def manyNs (n : Nat) : State := { svc with live := { svc.live with nss := (List.range' 0 n).map (fun i => (i + 1, { ns1 with nsid := i + 1 })) } }
theorem find_range (n k m : Nat) (f : Nat → Ns) (h : k < n) : (Tbl.find ((List.range' m n).map (fun i => (i + 1, f i))) (m + k + 1)).isSome = true := by
  induction n generalizing k m with
  | zero => omega
  | succ n ih =>
    simp only [List.range'_succ, List.map_cons, Tbl.find]
    split
    · rfl
    · have := ih (k - 1) (m + 1) (by omega)
      rwa [show m + 1 + (k - 1) + 1 = m + k + 1 by omega] at this
theorem manyNs_taken (n y : Nat) (h : y < n) : ((manyNs n).ns (y + 1)).isSome = true := by
  have := find_range n y 0 (fun i => { ns1 with nsid := i + 1 }) h
  rwa [Nat.zero_add] at this
theorem test_met_create_full : AdminReady (withCtx (cx (mkSqe (spec 8))) (manyNs 4096)) 1 0x0D (cx (mkSqe (spec 8))) ∧ (withCtx (cx (mkSqe (spec 8))) (manyNs 4096)).freeNsid = none := by
  refine ⟨adminReady_of _ _ rfl, ?_⟩
  unfold State.freeNsid
  rw [List.find?_eq_none]
  intro x hx
  obtain ⟨y, hy, rfl⟩ := List.mem_map.1 hx
  have h := manyNs_taken 4096 y (List.mem_range.1 hy)
  have e : (withCtx (cx (mkSqe (spec 8))) (manyNs 4096)).ns (y + 1) = (manyNs 4096).ns (y + 1) := rfl
  rw [e, Option.isNone_iff_eq_none]
  intro hn
  rw [hn] at h
  exact absurd h (by decide)
theorem test_met_create : (AdminReady (adm (mkSqe (spec 8))) 1 0x0D (cx (mkSqe (spec 8))) ∧ bits (mkSqe (spec 8)).cdw10 3 0 = 0 ∧ (mkSqe (spec 8)).data = .nsSpec (spec 8)) ∧
    svc.createInvalid (spec 0) = true ∧ (svc.createInvalid { spec 8 with writeThrough := false } = false ∧ svc.pw.energy < 240) ∧
    (svc.createInvalid (spec 8) = false ∧ (spec 8).writeThrough = true ∧ svc.freeNsid = some 1 ∧ svc.userCapacity < svc.nsBytes + 8 * (spec 8).lba) ∧
    (let s := media svc; s.createInvalid (spec 8) = false ∧ s.freeNsid = some 1 ∧ s.nsBytes + (spec 8).nsze * (spec 8).lba ≤ s.userCapacity) ∧
    (let n := { spec 8 with encrypt := true, keyProvided := true }; let s := (media svc).modPart (fun p => { p with keys := [(0, { state := .loaded })] })
     s.createInvalid n = false ∧ n.encrypt = true ∧ n.keyProvided = true ∧ s.nsBytes + n.nsze * n.lba ≤ s.userCapacity) := by
  refine ⟨⟨adminReady_of _ _ rfl, by decide, rfl⟩, ?_⟩
  decide +kernel
/-- Namespace Management of a delete. -/
def delSqe (n : Nat) : Sqe := { opcode := 0x0D, nsid := n, cdw10 := 1 }
theorem test_met_delete : (∀ n, AdminReady (withCtx (cx (delSqe n)) nsS) 1 0x0D (cx (delSqe n)) ∧ bits (delSqe n).cdw10 3 0 = 1) ∧
    svc.ns 1 = none ∧ (nsS.ns 1 ≠ none ∧ nsS.transforms 1 = [] ∧ (nsS.detach 1 []).nsBusy 1 (fun _ => true) = false) ∧
    (let s := { nsS with live := { nsS.live with bindings := [(15, { mode := 3, nsid := 1 })] } }; s.ns 1 ≠ none ∧ s.transforms 1 ≠ []) ∧
    (let s := { nsS with ctxs := [ix { opcode := 1, nsid := 1 }] }; s.ns 1 ≠ none ∧ s.transforms 1 = [] ∧ (s.detach 1 []).nsBusy 1 (fun _ => true) = true) :=
  ⟨fun n => ⟨adminReady_of _ _ rfl, show bits (1 : W32) 3 0 = 1 by decide⟩, by decide⟩
/-- Namespace Attachment: 0 attach, 1 detach. -/
def attSqe (sel : Nat) (ids : List Nat) : Sqe := { opcode := 0x15, nsid := 1, cdw10 := BitVec.ofNat 32 sel, data := .ctrlList ids }
theorem test_met_attach : (∀ sel ids, WaitReady (withCtx (cx (attSqe sel ids)) nsS) 1 0x15 (cx (attSqe sel ids)) ∧ nsS.ns (attSqe sel ids).nsid = some ns1 ∧ (attSqe sel ids).data = .ctrlList ids) ∧
    (bits (attSqe 0 []).cdw10 3 0 = 0 ∧ bits (attSqe 1 []).cdw10 3 0 = 1) ∧ nsS.listed 0 [0xFFF] = none ∧
    ((shared {} nsS).listed 0 [0x1000] = some [0] ∧ (cx (attSqe 1 [0x1000])).phase = .ready ∧ ∃ k ∈ [0], ns1.nsid ∉ ((shared {} nsS).dinst k).attached) ∧
    (let s := { nsS with live := { nsS.live with insts := [(127, { live := true, attached := [1] })] } }
     s.listed 0 [0x107F] = some [127] ∧ (∀ k ∈ [127], ns1.nsid ∈ (s.dinst k).attached) ∧ (s.transforms ns1.nsid).filter (fun n => [127].any (fun k => s.holder n == some k)) = []) :=
  ⟨fun sel ids => ⟨waitReady_of _ _ rfl, rfl, rfl⟩, by decide⟩
/-- Format NVM, Crypto Erase. -/
def fmtSqe (n : Nat) : Sqe := { opcode := 0x80, nsid := n, cdw10 := 1 }
def eraseSqe (n : Nat) : Sqe := { opcode := 0xDC, nsid := n, cdw10 := 1 }
theorem test_met_format : (∀ n, WaitReady (withCtx (cx (fmtSqe n)) nsS) 1 0x80 (cx (fmtSqe n)) ∧ AdminReady (withCtx (cx (fmtSqe n)) nsS) 1 0x80 (cx (fmtSqe n)) ∧
      WaitReady (withCtx (cx (eraseSqe n)) nsS) 1 0xDC (cx (eraseSqe n))) ∧ formatOk (fmtSqe 1) = true ∧ bits (eraseSqe 1).cdw10 31 1 = 0 ∧
    (nsS.ns 1 = some ns1 ∧ 1 ≠ 0xFFFFFFFF ∧ nsS.ns 2 = none ∧ ns1.spec.encrypt = false) ∧ (nsS.quiesceBusy = false ∧ nsS.serving = true) ∧ (inMode .quiesce).serving = false ∧
    (let v := { ns1 with spec := { spec 8 with encrypt := true } }; (withNs v svc).ns 1 = some v ∧ v.spec.encrypt = true) :=
  ⟨fun n => ⟨waitReady_of _ _ rfl, adminReady_of _ _ rfl, waitReady_of _ _ rfl⟩, by decide⟩
def lendSqe (es : List Extent) : Sqe := { opcode := 0xCD, data := .extents es.length es false }
theorem test_met_lends : (∀ es, AdminReady (adm (lendSqe es)) 1 0xCD (cx (lendSqe es)) ∧ (lendSqe es).data = .extents es.length es false) ∧
    (let es : List Extent := [⟨0, 131072⟩]
     ¬(false = true ∨ es.length = 0 ∨ 255 < es.length ∨ es.length ≠ es.length ∨ 131072 < es.foldl (fun n (e : Extent) => n + e.chunks) 0 ∨ 4 ≤ (svc.lendsOf 0).length ∨
       (∃ e ∈ es, e.chunks = 0 ∨ e.address % 2 ^ 21 ≠ 0) ∨ anyMeet es = true)) ∧ ([] : List Extent).length = 0 ∧ 131072 < ([⟨0, 131073⟩] : List Extent).foldl (fun n (e : Extent) => n + e.chunks) 0 ∧
    (∀ w, WaitReady (adm { opcode := 0xD0, cdw10 := w }) 1 0xD0 (cx { opcode := 0xD0, cdw10 := w }) ∧ (cx { opcode := 0xD0, cdw10 := w }).phase = .ready ∧
      WaitReady (withCtx { cx { opcode := 0xD0, cdw10 := w } with phase := .drain } svc) 1 0xD0 { cx { opcode := 0xD0, cdw10 := w } with phase := .drain }) ∧
    ((3 : W32).getLsbD 2 = false ∧ (svc.lendsOf 0).filter (fun l => (3 : W32).getLsbD 2 || l.id == bits (3 : W32) 1 0) = []) ∧ (4 : W32).getLsbD 2 = true ∧
    (let s := { svc with lends := [(7, [⟨3, [⟨0, 1⟩]⟩])] }; (s.lendsOf 7).filter (fun l => (3 : W32).getLsbD 2 || l.id == bits (3 : W32) 1 0) ≠ [] ∧ ∃ l ∈ s.lendsOf 7, l.id = 3) :=
  ⟨fun es => ⟨adminReady_of _ _ rfl, rfl⟩, by decide, rfl, by decide, fun w => ⟨waitReady_of _ _ rfl, rfl, rfl, rfl, .inr rfl, rfl, rfl⟩, by decide⟩
/-- Firmware Image Download of so many dwords less 1, and Firmware Commit of an action and slot. -/
def dlSqe (n : Nat) : Sqe := { opcode := 0x11, cdw10 := BitVec.ofNat 32 n }
def fwSqe (ca fs : Nat) : Sqe := { opcode := 0x10, cdw10 := BitVec.ofNat 32 (ca * 8 + fs) }
theorem test_met_download : (∀ n, UpdateReady (adm (dlSqe n)) 1 0x11 (cx (dlSqe n))) ∧ (∀ a n, UpdateReady (adm (fwSqe a n)) 1 0x10 (cx (fwSqe a n))) ∧
    2 ^ 21 < ((dlSqe 0x80000).cdw10.toNat + 1) * 4 ∧ (((dlSqe 0x7FFFF).cdw10.toNat + 1) * 4 ≤ 2 ^ 21 ∧ (adm (dlSqe 0x7FFFF)).updateBarred ≠ 0) ∧
    (let s := svc.modBank 1 (fun b => { b with busy := some (5, true) }); s.modes.mode ≠ .keep ∧ (s.bank 1).busy = some (5, true)) ∧
    (let s := (svc.modPart (fun p => { p with coresHeld := false })).modBank 1 (fun b => { b with busy := some (5, false) }); s.part.coresHeld = false ∧ s.modes.mode ≠ .keep ∧ (s.bank 1).busy.isSome = true ∧
      (s.bank 0).busy = none) ∧ (cx (fwSqe 0 0)).ca = 0 ∧ (cx (fwSqe 1 0)).ca = 1 :=
  ⟨fun n => updateReady_of _ _ rfl rfl (fun _ h => nomatch h), fun a n => updateReady_of _ _ rfl rfl (fun _ h => nomatch h), by decide⟩
theorem test_met_commit : (let s := svc.modKeep (fun k => { k with stage := 4, trialBank := 1 }); (cx (fwSqe 2 2)).ca = 2 ∧ s.keep.stage = 4 ∧ (cx (fwSqe 2 2)).fs ≠ 0 ∧ (cx (fwSqe 2 2)).fs = s.keep.trialBank + 1 ∧
      ¬((cx (fwSqe 2 1)).fs ≠ 0 ∧ (cx (fwSqe 2 1)).fs = s.keep.trialBank + 1) ∧ (cx (fwSqe 2 1)).fs = s.keep.fwActive + 1 ∧ (cx (fwSqe 3 1)).ca = 3 ∧ (cx (fwSqe 3 1)).fs = s.keep.fwActive + 1) ∧
    (let s := svc.modPw (fun p => { p with energy := 240 }); s.onTrial = false ∧ s.flash.package = none ∧ s.updateBarred = 0 ∧ (cx (fwSqe 2 1)).fs = s.flash.running + 1 ∧
      (cx (fwSqe 2 2)).fs = 2 ∧ (cx (fwSqe 2 2)).fs ≠ s.flash.running + 1) ∧
    (let s := ((inMode .quiesce).modFlash (fun f => { f with package := some { manifest := {}, kind := 1, target := 1 } })).modKeep (fun k => { k with kind := 1 })
     ¬(s.keep.stage = 4 ∧ (cx (fwSqe 3 2)).fs = s.keep.fwActive + 1) ∧ s.keep.kind = 1 ∧ s.flash.package.isSome = true ∧ s.serving = false) ∧
    (¬(svc.keep.stage = 4 ∧ (cx (fwSqe 3 2)).fs = svc.keep.fwActive + 1) ∧ svc.quiesceBusy = false ∧ svc.serving = true) := by decide
/-- A package of firmware bank 1 is being verified. -/
def pkg : Package := { manifest := {}, kind := 1, target := 1 }
def verifying (y : Verify) : State := ((svc.modKeep (fun k => { k with verifying := true })).modFlash (fun f => { f with package := some pkg, verify := some y, fw := [(0, {}), (1, {})] }))
theorem test_met_verify : (let s := verifying ⟨1, 0, 1, false⟩; s.keep.verifying = true ∧ s.active = true ∧ s.modes.flush = none ∧ s.flash.verify.map (fun x => x.action) ≠ some 2 ∧ s.flash.package = some pkg ∧
      s.verifyCode pkg {} = 0 ∧ s.verifyCode pkg { blocksOk := false } ≠ 0) ∧ (svc.flash.package = none) ∧
    (let s := verifying ⟨1, 2, 1, false⟩; s.keep.verifying = true ∧ s.active = true ∧ s.modes.flush = none ∧ s.flash.verify = some ⟨1, 2, 1, false⟩ ∧ s.sigsOk (some 0) none = true ∧
      (s.fwBank s.keep.fwActive).version.toNat ≥ (s.fwBank 1).minFrom.toNat ∧ (s.fwBank 1).formatCompat ≤ s.flash.formatSet) ∧
    (let s := { svc.modKeep (fun k => { k with stage := 4, autoConfirm := true, trialStart := 1 }) with now := 86401000000 }
     s.keep.stage = 4 ∧ s.keep.autoConfirm = true ∧ s.keep.trialStart ≠ 0 ∧ s.keep.trialStart + 86400 ≤ s.rtc / 1000 ∧ s.active = true) ∧
    (∀ a ∈ [EpochAct.revert, .activate 1 true], let s := { (inMode .quiesce).modModes (fun m => { m with epoch := some { cause := 1, act := a, committed := true } }) with now := 1000000 }
      s.modes.epoch = some { cause := 1, act := a, committed := true } ∧ 0 + 1000000 ≤ s.now) := by decide +kernel
theorem test_met_holds : ((svc.setStep 13).miThere = true ∧ ((svc.setStep 13).quiesceBusy = false ∧ (svc.setStep 13).serving = true ∧ (svc.setStep 13).hostFenced = false)) ∧ (0 = 0 ∧ 600 < 601 ∧ 1 ≤ 600) ∧ (svc.quiesceBusy = false ∧ svc.serving = true ∧ svc.hostFenced = false) ∧ (flushing .power).hostFenced = true ∧ svc.modes.hold = none ∧
    (let s := { (inMode .quiesce).modModes (fun m => { m with hold := some 600000000 }) with now := 600000000 }; s.quiesceBusy = true ∧ s.modes.hold = some 600000000 ∧ 600000000 ≤ s.now) ∧
    (let s := (inMode .quiesce).modModes (fun m => { m with selfTest := some { extended := true } }); s.modes.selfTest = some { extended := true }) ∧ svc.modes.selfTest = none ∧
    (inMode .quiesce).serving = false ∧ bits ({ opcode := 0x14, cdw10 := 15 } : Sqe).cdw10 3 0 = 15 := by decide
theorem test_met_selfTests (w : W32) : AdminReady (adm { opcode := 0x14, cdw10 := w }) 1 0x14 (cx { opcode := 0x14, cdw10 := w }) ∧
    AdminReady (withCtx (cx { opcode := 0x14, cdw10 := w }) (inMode .quiesce)) 1 0x14 (cx { opcode := 0x14, cdw10 := w }) := ⟨adminReady_of _ _ rfl, adminReady_of _ _ rfl⟩
theorem test_met_epochs : ∀ a ∈ [EpochAct.formatAll 0, .eraseAll true, .voicing 1 3 255, .rpl 1 .management 0, .activate 1 true, .revert],
    let s := { (inMode .quiesce).modModes (fun m => { m with epoch := some { cause := 1, act := a } }) with now := 100000 }
    s.modes.epoch = some { cause := 1, act := a } ∧ s.modes.mode = .quiesce ∧ s.modes.quiesceAt + 100000 ≤ s.now ∧ s.drained = true := by decide
/-- A Directive of a type and operation. -/
def dirSqe (op t o : Nat) (w : W32) : Sqe := { opcode := op, nsid := 1, cdw11 := BitVec.ofNat 32 (t * 256 + o), cdw12 := w }
theorem test_met_directives : (∀ t o w, AdminReady (withCtx (cx (dirSqe 0x19 t o w)) nsS) 1 0x19 (cx (dirSqe 0x19 t o w)) ∧ AdminReady (withCtx (cx (dirSqe 0x1A t o w)) nsS) 1 0x1A (cx (dirSqe 0x1A t o w))) ∧
    nsS.ns 1 = some ns1 ∧ (dtype (dirSqe 0x19 0 1 0x100) = 0 ∧ doper (dirSqe 0x19 0 1 0x100) = 1 ∧ bits (0x100 : W32) 15 8 = 1 ∧ (0x100 : W32).getLsbD 0 = ns1.spec.useStreams) ∧
    (dtype (dirSqe 0x19 1 2 0) = 1 ∧ doper (dirSqe 0x19 1 2 0) = 2 ∧ doper (dirSqe 0x1A 1 3 0) = 3) :=
  ⟨fun t o w => ⟨adminReady_of _ _ rfl, adminReady_of _ _ rfl⟩, by decide⟩
theorem test_met_management : AdminReady (adm { opcode := 0x1D }) 1 0x1D (cx { opcode := 0x1D }) ∧ AdminReady (adm { opcode := 0x1E }) 1 0x1E (cx { opcode := 0x1E }) ∧
    (∀ p e, MiRequest.releaseHold ≠ .adminCommand p e) ∧ (let s := (up svc).setStep 13; s.miThere = true ∧ (s.port 0).link = .l0) ∧ (7 : PortId).val ≠ 0 :=
  ⟨adminReady_of _ _ rfl, adminReady_of _ _ rfl, fun _ _ => nofun, by decide, by decide⟩

/-! ## The same: instances, stops, voicing, the mailbox -/

/-- Create and Change Share of slot `n`. -/
def shSqe (op n : Nat) (d : Share) : Sqe := { opcode := op, cdw10 := BitVec.ofNat 32 n, data := .share d }
/-- A share of instance 1. -/
def d1 : Share := { pasid := 1, slotMax := 1 }
/-- A service with the factory pools. -/
def pools : State := (up svc).modFlash (fun f => { f with image := { f.image with pools := List.replicate 8 {} } })
theorem test_met_createInstance : (∀ n, BoundaryReady (withCtx (cx (shSqe 0xC1 n d1)) pools) 1 0xC1 (cx (shSqe 0xC1 n d1)) ∧ (shSqe 0xC1 n d1).data = .share d1) ∧ shareOk d1 = true ∧ (pools.port 0).pasidEn = true ∧
    (∀ k ∈ pools.liveKeys 0, k % 128 ≠ 0 → (pools.dinst k).share.pasid ≠ d1.pasid) ∧
    ((cx (shSqe 0xC1 127 d1)).localIndex = 127 ∧ 127 ≠ 0xFF ∧ 127 ≠ 0 ∧ 127 < (pools.vport 0).instances ∧ (pools.dinst (instKey 0 127)).live = false) ∧
    ((cx (shSqe 0xC1 0xFF d1)).localIndex = 0xFF ∧ ((List.range (pools.vport 0).instances).drop 1).find? (fun n => !(pools.dinst (instKey 0 n)).live) = some 1) ∧
    pools.genBusy (instKey 0 127) (pools.gen (instKey 0 127) + 1) = false ∧ pools.genBusy (instKey 0 1) (pools.gen (instKey 0 1) + 1) = false ∧ pools.shortOf (instKey 0 1) d1 = none ∧ (shareOk { d1 with queuePairs := 511, vectors := 1, nsQuota := 513 } = true ∧ pools.shortOf (instKey 0 1) { d1 with queuePairs := 511, vectors := 1, nsQuota := 513 } = some 6) :=
  ⟨fun n => ⟨boundaryReady_of _ _ rfl rfl, rfl⟩, by decide⟩
/-- Instance 127 of port 0 is live, in state `st`. -/
def slotted (st : SlotState) : State := { pools.modInst 127 (fun i => { i with state := st }) with live := { pools.live with insts := [(127, { live := true, gen := 2, share := d1 })] } }
/-- A command on slot `n`, generation 2 expected. -/
def slotSqe (op n : Nat) (inner : Option (Nat × Nat × W32 × W32 × W32 × W32) := none) : Sqe := { opcode := op, cdw10 := BitVec.ofNat 32 n, cdw11 := 0x10002, inner := inner }
theorem test_met_slot (op : Nat) (i : Option (Nat × Nat × W32 × W32 × W32 × W32)) : SlotReady (withCtx (cx (slotSqe op 127 i)) (slotted .active)) 1 op (cx (slotSqe op 127 i)) 127 ∧
    SlotReady (withCtx (cx (slotSqe op 127 i)) (slotted .isolated)) 1 op (cx (slotSqe op 127 i)) 127 :=
  ⟨⟨boundaryReady_of _ _ rfl rfl, show 127 = instKey 0 (bits (127 : W32) 7 0) by decide, by show bits (127 : W32) 7 0 < 128; decide, by show matchFails (0x10002 : W32) 2 = false; decide, rfl⟩, ⟨boundaryReady_of _ _ rfl rfl, show 127 = instKey 0 (bits (127 : W32) 7 0) by decide, by show bits (127 : W32) 7 0 < 128; decide, by show matchFails (0x10002 : W32) 2 = false; decide, rfl⟩⟩
theorem test_met_genBusy : (slotted .active).genBusy 127 ((slotted .active).gen 127 + 1) = false ∧
    (let s : State := { slotted .active with ctxs := [{ ix { opcode := 2, nsid := 1 } with inst := 127, gen := 3 }] }; s.genBusy 127 (s.gen 127 + 1) = true) := by decide
theorem test_met_instances : AdminReady (adm (slotSqe 0xC2 0)) 1 0xC2 (cx (slotSqe 0xC2 0)) ∧ (cx (slotSqe 0xC4 127)).localIndex ≠ 0 ∧
    (∀ op n, BoundaryReady (adm (slotSqe op n)) 1 op (cx (slotSqe op n))) ∧ (cx (slotSqe 0xC4 127)).localIndex < (svc.vport 0).instances ∧ matchFails (slotSqe 0xC4 127).cdw11 (svc.gen (instKey 0 127)) = true ∧
    (svc.vport 0).instances ≤ (cx (slotSqe 0xC8 128)).localIndex ∧ ((slotted .isolated).inst 127).state ≠ .active ∧ ((slotted .active).inst 127).state = .active ∧
    innerSqe (slotSqe 0xCB 127) = none ∧ (let q := slotSqe 0xCB 127 (some (3, 0, 0, 0, 0, 0)); innerSqe q = some { opcode := 3 } ∧ proxyOpcodes.contains 3 = false) ∧
    (let q : Sqe := { opcode := 9, cdw10 := 0x100 }; innerSqe (slotSqe 0xCB 127 (some (9, 0, 0x100, 0, 0, 0))) = some q ∧ proxyOpcodes.contains q.opcode = true ∧ sqeFieldsOk true q = false) ∧
    (∀ o ∈ [0x00, 0x01, 0x04, 0x05, 0x02, 0x06, 0x08, 0x09, 0x0A], let q : Sqe := { opcode := o, cdw10 := 1 }
      innerSqe (slotSqe 0xCB 127 (some (o, 0, 1, 0, 0, 0))) = some q ∧ sqeFieldsOk true q = true ∧ q.opcode = o) :=
  ⟨adminReady_of _ _ rfl, by decide, fun op n => boundaryReady_of _ _ rfl rfl, by decide⟩
theorem test_met_changeShare : (∀ n, BoundaryReady (withCtx (cx (shSqe 0xC5 n d1)) (slotted .active)) 1 0xC5 (cx (shSqe 0xC5 n d1))) ∧
    (let s := withCtx (cx (shSqe 0xC5 127 d1)) (slotted .active); let x := cx (shSqe 0xC5 127 d1); x.sqe.data = .share d1 ∧ x.localIndex < (s.vport 0).instances ∧ (s.inst 127).change = none ∧
      matchFails x.sqe.cdw11 (s.gen 127) = false ∧ (s.inst 127).state = .active ∧ shareOk d1 = true ∧ s.shareRefused 127 d1 = false ∧ s.shortOf 127 d1 = none) ∧
    (∀ y ∈ [cx (shSqe 0xC5 127 d1)], ¬(y.admin = true ∧ y.sqe.opcode = 0xC5 ∧ y.key = 0 ∧ y.localIndex = 127 ∧ ∃ e, y.phase = .seal e)) ∧
    (let s := (slotted .draining).modInst 127 (fun i => { i with change := some { share := d1, ctx := 1, start := 0 } })
     (s.inst (instKey 0 127)).change = some { share := d1, ctx := 1, start := 0 } ∧ s.running_ (instKey 0 127) = [] ∧ s.modes.epoch = none ∧
       (s.modModes (fun m => { m with epoch := some { cause := 1, act := .revert } })).modes.epoch.isSome = true) := by
  refine ⟨fun n => boundaryReady_of _ _ rfl rfl, by decide, ?_, by decide⟩
  intro y hy
  rw [List.mem_singleton.1 hy]
  rintro ⟨-, -, -, -, e, h⟩
  exact absurd h (by simp [cx])

/-- Instance 127 of port 0 holds stop 15, which is in state `st`. -/
def stopped (st : Nat) (s : State) : State :=
  { s.modStop 15 (fun x => { x with state := st, image := some { modes := 31 } }) with live := { s.live with insts := [(127, { live := true, share := { d1 with stopMask := 0x8000 }, attached := [1] })] } }
/-- Bind Stop of mode `m` to namespace `n`; Unbind Stop; Load Stop Image of an action. -/
def bindSqe (m n : Nat) : Sqe := { opcode := 0xD1, nsid := n, cdw10 := BitVec.ofNat 32 (15 + m * 16) }
def unbindSqe (clear : Nat) : Sqe := { opcode := 0xD4, cdw10 := BitVec.ofNat 32 (15 + clear * 16) }
def loadSqe (action off len : Nat) : Sqe := { opcode := 0xD5, cdw10 := BitVec.ofNat 32 (15 + action * 256), cdw12 := BitVec.ofNat 32 off, cdw13 := BitVec.ofNat 32 len }
theorem test_met_bind : (∀ m n st, BoundaryReady (withCtx (cx (bindSqe m n)) (stopped st nsS)) 1 0xD1 (cx (bindSqe m n))) ∧
    (∀ m ∈ [1, 2, 3, 4, 5], (cx (bindSqe m 0)).stopIndex = 15 ∧ bits (bindSqe m 0).cdw10 6 4 = m ∧ (31 : BitVec 5).getLsbD (m - 1) = true) ∧ (31 : BitVec 5).getLsbD (6 - 1) = false ∧
    (stopped 2 nsS).holderOn 0 15 = some 127 ∧ matchFails (bindSqe 1 1).cdw11 ((stopped 2 nsS).gen 127) = false ∧ ((stopped 3 nsS).stop 15).state ≠ 2 ∧ ((stopped 2 nsS).stop 15).state = 2 ∧
    (4 ≤ 4 ∧ (bindSqe 4 1).nsid ≠ 0 ∧ (bindSqe 5 0).nsid = 0) ∧
    (3 ≤ 3 ∧ (stopped 2 nsS).ns 1 = some ns1 ∧ ns1.spec.nmic = 0 ∧ 1 ∈ ((stopped 2 nsS).dinst 127).attached ∧ xformDir 3 false = true ∧ xformDir 3 true = true ∧
      (stopped 2 nsS).xform 1 false = none ∧ (stopped 2 nsS).xform 1 true = none) :=
  ⟨fun m n st => boundaryReady_of _ _ rfl rfl, by decide⟩
theorem test_met_unbind : (∀ b st, BoundaryReady (withCtx (cx (unbindSqe b)) (stopped st nsS)) 1 0xD4 (cx (unbindSqe b))) ∧ 15 = (cx (unbindSqe 0)).stopIndex ∧ 15 = (cx (unbindSqe 1)).stopIndex ∧
    (stopped 3 nsS).holderOn 0 15 = some 127 ∧ matchFails (unbindSqe 0).cdw11 ((stopped 3 nsS).gen 127) = false ∧ ((stopped 3 nsS).stop 15).state = 3 ∧ ((stopped 4 nsS).stop 15).state = 4 ∧
    (((stopped 1 nsS).modStop 15 (fun x => { x with epoch := some { goal := .load } })).stop 15).epoch.isSome = true :=
  ⟨fun b st => boundaryReady_of _ _ rfl rfl, by decide⟩
theorem loadReady_of (s : State) (a off len : Nat) (ha : bits (loadSqe a off len).cdw10 9 8 = a) (hs : 15 = (cx (loadSqe a off len)).stopIndex) (h : s.adminOn = true) (he : s.modes.epoch = none)
    (hh : s.holderOn 0 15 = some 127) : LoadReady (withCtx (cx (loadSqe a off len)) s) 1 a (cx (loadSqe a off len)) 15 127 := ⟨boundaryReady_of s _ h he, ha, hs, hh, by simp [matchFails, loadSqe, cx]⟩
/-- The stop's image is staged whole. -/
def stagedS : State := (stopped 2 svc).modStop 15 (fun x => { x with staging := [⟨0, 4096⟩], staged := some { length := 4096 } })
theorem test_met_load : LoadReady (withCtx (cx (loadSqe 0 0 4)) (stopped 2 svc)) 1 0 (cx (loadSqe 0 0 4)) 15 127 ∧ LoadReady (withCtx (cx (loadSqe 1 0 0)) stagedS) 1 1 (cx (loadSqe 1 0 0)) 15 127 ∧
    LoadReady (withCtx (cx (loadSqe 2 0 0)) stagedS) 1 2 (cx (loadSqe 2 0 0)) 15 127 ∧ LoadReady (withCtx (cx (loadSqe 3 0 0)) stagedS) 1 3 (cx (loadSqe 3 0 0)) 15 127 ∧
    LoadReady (withCtx (cx (loadSqe 1 0 0)) (stopped 2 (inMode .quiesce))) 1 1 (cx (loadSqe 1 0 0)) 15 127 ∧ LoadReady (withCtx (cx (loadSqe 2 0 0)) (stopped 2 (inMode .quiesce))) 1 2 (cx (loadSqe 2 0 0)) 15 127 := by
  refine ⟨?_, ?_, ?_, ?_, ?_, ?_⟩ <;> exact loadReady_of _ _ _ _ (by decide) (by decide) rfl rfl (by decide)
theorem test_met_loads : (let off := 48 * 2 ^ 20 - 4096; ¬(off % 4096 ≠ 0 ∨ 4096 % 4 ≠ 0 ∨ 4096 < 4 ∨ 2 ^ 21 < 4096 ∨ 48 * 2 ^ 20 < off + 4096)) ∧ 48 * 2 ^ 20 < 48 * 2 ^ 20 + 4 ∧ ((stopped 2 svc).stop 15).stagedPkg = false ∧
    (stagedS.stop 15).staged = some { length := 4096 } ∧ (stagedS.stop 15).stagedComplete { length := 4096 } = true ∧ stagedS.serving = true ∧ (stopped 2 (inMode .quiesce)).serving = false ∧
    stagedS.loadRefusal 15 none true (some 0) none ≠ 0 ∧ stagedS.store.find 15 = none ∧ (({ stagedS with store := [(15, {})] } : State).store.find 15).isSome = true := by decide +kernel
theorem test_met_loads_accepted : (stagedS.modFlash (fun f => { f with image := { f.image with shell := 0x0302 } })).loadRefusal 15 (some { length := 4096, modes := 31 }) true (some 0) none = 0 := by decide +kernel

/-- Voicing Select of a slot; bit 9 is DRY_RUN. -/
def vsSqe (slot dry : Nat) : Sqe := { opcode := 0xD8, cdw10 := BitVec.ofNat 32 (slot + dry * 512) }
/-- In service under the image of slot 1, with one of another class in slot 2. -/
def voices : State := { svc.modFlash (fun f => { f with image := goodImage, fw := [(0, {})], slots := [(1, { image := some goodImage }), (2, { image := some { goodImage with heatK := 13 } })] }) with
  format := some { key := goodImage.formatKey } }
theorem test_met_voicingSelect : (∀ n b, AdminReady (withCtx (cx (vsSqe n b)) voices) 1 0xD8 (cx (vsSqe n b))) ∧
    (∀ n ∈ [1, 2, 3], bits (vsSqe n 0).cdw10 1 0 = n ∧ bits (vsSqe n 1).cdw10 7 2 = 0 ∧ bits (vsSqe n 1).cdw10 31 10 = 0 ∧ (vsSqe n 0).cdw10.getLsbD 9 = false ∧ (vsSqe n 1).cdw10.getLsbD 9 = true) :=
  ⟨fun n b => adminReady_of _ _ rfl, by decide⟩
theorem mun_voices (i : VoicingImage) (h : i.mun = goodImage.mun) (hg : i.geometry = goodImage.geometry) : voices.munTableOk i = true := by
  unfold State.munTableOk State.groupGeom State.fitting
  generalize voices.keyMatches i = b
  rw [h, hg]
  cases b <;> decide +kernel
theorem check_voices : voices.checkSlot 1 = 0 ∧ voices.checkSlot 2 = 0 :=
  ⟨checkSlot_good _ 1 goodImage rfl (by decide) (by decide) test_met_voicing_limits (mun_voices _ rfl rfl) (by decide +kernel) rfl rfl,
    checkSlot_good _ 2 { goodImage with heatK := 13 } rfl (by decide) (by decide) (by decide +kernel) (mun_voices _ rfl rfl) (by decide +kernel) rfl rfl⟩
theorem test_met_voicingAnswers : (voices.voicingAnswer 3 false).2.2 ≠ 0 ∧ ((voices.voicingAnswer 1 false).2.2 = 0 ∧ (voices.voicingAnswer 1 false).1 = 0) ∧
    ((voices.voicingAnswer 2 false).2.2 = 0 ∧ (voices.voicingAnswer 2 false).1 ≠ 0) := by
  refine ⟨by decide +kernel, ?_, ?_⟩
  · unfold State.voicingAnswer
    simp only [show (voices.vslot 1).image = some goodImage from rfl, check_voices.1, ne_eq, not_true_eq_false, if_false]
    decide +kernel
  · unfold State.voicingAnswer
    simp only [show (voices.vslot 2).image = some { goodImage with heatK := 13 } from rfl, check_voices.2, ne_eq, not_true_eq_false, if_false]
    decide +kernel

/-- A mailbox request of management under challenge 7 of key 5. -/
def hdr (len : Nat) : MbHdr := { length := len, challenge := 7, sigKey := some 5 }
/-- That challenge is outstanding. -/
def challenged (s : State) : State := s.modPart (fun p => { p with challenges := [⟨7, 5, .management, 0⟩] })
theorem authentic_of (s : State) (len : Nat) (hm : s.modes.mode ≠ .keep) (hr : s.mbBusy = false) (hq : s.part.queue = []) (hl : s.keep.lockout = false) :
    Authentic (challenged s) (hdr len) len := by
  refine ⟨⟨?_, hr, hq⟩, .inl hl, rfl, rfl, ⟨7, 5, .management, 0⟩, ?_, rfl⟩
  · show ((challenged s).modes.mode != .keep) = true
    simpa [challenged, State.modPart] using hm
  · rfl
theorem test_met_authentic (len : Nat) : Authentic (challenged svc) (hdr len) len ∧ Authentic (challenged (inMode .safeHold)) (hdr len) len :=
  ⟨authentic_of _ _ (by decide) rfl rfl rfl, authentic_of _ _ (by decide) rfl rfl rfl⟩
theorem test_met_mailbox : MailReady svc (hdr 96) ∧ (hdr 96).resvZero = true ∧ (hdr 96).length = 96 ∧ (hdr 0).length = 0 ∧ (hdr 1).length ≠ 0 ∧ ({ svc with otp := { operatorKeys := [3] } } : State).operatorHash = some 3 ∧
    svc.operatorHash ≠ some 3 := by refine ⟨⟨rfl, rfl, rfl⟩, rfl, rfl, rfl, by decide, by decide +kernel, by decide +kernel⟩
/-- While the partition restarts, and while a change of level waits for its commit point, it takes no request: seven wait, or eight. -/
theorem test_met_mailQueue : (let s := svc.modPart (fun p => { p with restarting := true, queue := List.replicate 7 ⟨hdr 0, .readStatus⟩ }); s.mbSource (hdr 0) = true ∧ s.mbBusy = true ∧ s.part.queue.length < 8) ∧
    (let s := (svc.modModes (fun m => { m with epoch := some { cause := 3, act := .rpl 1 .management 0, start := 0 } })).modPart (fun p => { p with queue := List.replicate 8 ⟨hdr 0, .readStatus⟩ })
     s.mbSource (hdr 0) = true ∧ s.mbBusy = true ∧ 8 ≤ s.part.queue.length) := by decide
theorem test_met_privileged : (let s := { (svc.modKeep (fun k => { k with lockout := true })).modPart (fun p => { p with lastPriv := some 0 }) with now := 9999999 }
      MailReady s (hdr 0) ∧ s.keep.lockout = true ∧ s.part.lastPriv = some 0 ∧ s.now < 0 + 10000000) ∧
    (let s := { (svc.modKeep (fun k => { k with lockout := true })).modPart (fun p => { p with lastPriv := some 0 }) with now := 10000000 }
      ∀ t, s.part.lastPriv = some t → t + 10000000 ≤ s.now) ∧
    (svc.part.challenges.find? (fun c => c.index == (hdr 0).challenge && sameSource c.src (hdr 0).src) = none) ∧
    ((challenged svc).part.challenges.find? (fun c => c.index == (7 : Fin 8).val) = some ⟨7, 5, .management, 0⟩) ∧
    ((challenged svc).part.challenges.find? (fun c => c.index == (hdr 0).challenge && sameSource c.src (hdr 0).src) = some ⟨7, 5, .management, 0⟩) ∧
    ((hdr 0).length ≠ 8 ∧ { hdr 0 with sigKey := none }.sigKey ≠ some (5 : BitVec 384)) := by
  refine ⟨⟨⟨rfl, rfl, rfl⟩, rfl, rfl, by decide⟩, ?_, by decide, rfl, by decide⟩
  intro s t h
  obtain rfl : 0 = t := Option.some.inj h
  decide
theorem test_met_privilegedEffects : ((inMode .safeHold).modes.causes = [] ∧ (inMode .safeHold).modes.mode = .safeHold) ∧ svc.modes.mode ≠ .safeHold ∧
    (let u := (challenged svc).authenticated (hdr 1); 0 = u.rpl ∧ u.rplRefusal 0 true = 0 ∧ 3 ≠ u.rpl ∧ u.rplRefusal 3 true ≠ 0) ∧
    (let u := (challenged { svc with otp := { operatorKeys := [3] } }).authenticated (hdr 1); 1 ≠ u.rpl ∧ u.rplRefusal 1 true = 0) ∧
    (let u := (challenged (inMode .safeHold)).authenticated (hdr 0); u.modes.causes.all (u.releaseOk {}) = true) ∧
    (let u := (challenged ((inMode .safeHold).modModes (fun m => { m with causes := [8] }))).authenticated (hdr 0); u.modes.causes.all (u.releaseOk {}) = false) := by decide +kernel
theorem test_met_keys : (4095 < 4096 ∧ (svc.part.keys.get {} 4095).state = .empty) ∧
    (let s := svc.modPart (fun p => { p with keys := [(4095, { state := .locked })] }); (s.part.keys.get {} 4095).state = .locked ∧ (s.part.keys.get {} 4095).kcv = none) ∧
    (let s := svc.modPart (fun p => { p with keys := [(4095, { state := .locked, kcv := some 9 })] }); (s.part.keys.get {} 4095).kcv = some 9) ∧
    (let s := svc.modPart (fun p => { p with keys := [(4095, { state := .loaded })] }); (s.part.keys.get {} 4095).state = .loaded) ∧
    (svc.otp.operatorKeys = [] ∧ MailReady svc (hdr 48) ∧ (hdr 48).length = 48 ∧ svc.rpl = 0) ∧
    (∀ ks ∈ [[(1 : BitVec 384)], [1, 2, 3, 4]], ({ svc with otp := { operatorKeys := ks } } : State).otp.operatorKeys ≠ []) ∧ ([1, 2, 3, 4] : List (BitVec 384)).length = 4 ∧
    ((3 : BitVec 4).getLsbD 1 = true ∧ (7 : BitVec 4).getLsbD 3 = false ∧ (7 : BitVec 4) ||| BitVec.ofNat 4 (2 ^ 3) = 15 ∧ (3 : BitVec 4).getLsbD 3 = false ∧ (3 : BitVec 4) ||| BitVec.ofNat 4 (2 ^ 3) ≠ 15) := by
  refine ⟨by decide, by decide, by decide, by decide, ⟨rfl, ⟨rfl, rfl, rfl⟩, rfl, by decide⟩, by decide, rfl, by decide⟩

/-! ## The same: I/O, the media, pods, stops, movers -/

/-- An I/O command of an opcode on namespace 1. -/
def ioSqe (op : Nat) (w11 : W32 := 0) : Sqe := { opcode := op, nsid := 1, cdw11 := w11 }
theorem test_met_io (op : Nat) (w : W32) : IoReady (withCtx (ix (ioSqe op w)) nsS) 1 op (ix (ioSqe op w)) ns1 := ioReady_of _ _ _ rfl rfl rfl
theorem test_met_flush : (withCtx (ix (ioSqe 0)) svc).ctx 1 = some (ix (ioSqe 0)) ∧ (ix (ioSqe 0)).admin = false ∧ (ix (ioSqe 0)).phase = .ready ∧ svc.active = true ∧ svc.hostFenced = false ∧
    svc.bellowsReady = false ∧ (svc.modPw (fun p => { p with energy := 240, charged := true })).bellowsReady = true ∧ nsS.health.writeProtect = false ∧ (nsS.modHealth (fun h => { h with writeProtect := true })).health.writeProtect = true := by decide
/-- Context 1 in a phase of the write path. -/
def writing (p : Phase) (m : List Nat) : Ctx := { ix (ioSqe 1) with phase := p, merge := m }
/-- A stripe is open, with one codeword that is held in `mun` 0. -/
def stripe0 : Stripe := { group := 0, stream := .map, band := 0, row := 0, used := [0], firstWt := some 0 }
def striped : State := { (media svc).modCache (fun c => { c with stripes := [stripe0] }) with now := 1000000, cw := [(0, { nsid := 1, unit := 5, kind := 1 })], live := { (media svc).live with map := [(nsKey 1 5, .mun 0)] } }
theorem test_met_writePath : (svc.cache.grantHold = false ∧ svc.hostFenced = false) ∧
    (let x := writing .granted []; (withCtx x svc).ctx 1 = some x ∧ x.phase = .granted ∧ x.held = false ∧ x.mover = none ∧ ([[]] : List (List Byte)).length = x.sqe.nlb) ∧
    (let x := { writing .granted [] with mover := some 0 }; (withCtx x svc).ctx 1 = some x ∧ x.mover.isSome = true) ∧
    (let x := writing .granted [7]; (withCtx x svc).ctx 1 = some x ∧ x.merge.contains 7 = true ∧ x.phase ≠ .merge ∧ x.phase ≠ .media ∧ x.phase ≠ .stop ∧ svc.ops = [] ∧ svc.solves = []) ∧
    (let x := writing .media [7]; (withCtx x svc).ctx 1 = some x ∧ x.merge.contains 7 = true ∧ x.phase = .media ∧ (withCtx x svc).ops = [] ∧ (withCtx x svc).solves = []) ∧
    (let x := writing .merge [7, 8]; x.merge.contains 7 = true ∧ x.phase = .merge ∧ ∃ w ∈ x.merge, w ≠ 7) ∧ (let x := writing .merge [7]; x.phase = .merge ∧ (∀ w ∈ x.merge, w = 7) ∧ x.sqe.opcode = 1) ∧
    (let x := { writing .merge [7] with sqe := ioSqe 8 }; x.phase = .merge ∧ (∀ w ∈ x.merge, w = 7) ∧ x.sqe.opcode ≠ 1) ∧
    (striped.stripe 0 = some stripe0 ∧ stripe0.closed = false ∧ stripe0.used ≠ [] ∧ stripe0.placedAt + 1000000 ≤ striped.now ∧ stripe0.firstWt = some 0 ∧ 0 + 100 ≤ striped.now) := by decide
theorem test_met_hbm : striped.inStripe 0 = true ∧ (([0] : List Nat).filter striped.inStripe).length + 1 ≤ 2 ∧ ([0] : List Nat).filter striped.inStripe = [0] ∧ 2 < 1 + 2 ∧ striped.unitOf 0 = some (1, 5) ∧
    (striped.setCodeword 0 { striped.codeword 0 with lost := true }).unitOf 0 = some (1, 5) := by decide
theorem test_met_journal : (svc.jrn.sealing = none ∧ svc.jrn.openedAt + 10000 > svc.now ∧ svc.ringFull = false) ∧ (({ svc with now := 10000 } : State).jrn.openedAt + 10000 ≤ ({ svc with now := 10000 } : State).now) ∧
    (let s := svc.modJrn (fun j => { j with sealing := some [.band 0 0 .intent] }); s.jrn.sealing = some [.band 0 0 .intent] ∧ s.jrn.sealing.isSome = true) := by decide

/-- Link 143 is up, with those operations. -/
def linked (os : List Op) : State := { svc.modLink 143 (fun x => { x with state := 2, writeCredits := 1000 }) with ops := os, now := 1000000 }
def flushOp : Op := { id := 1, link := 143, die := 17, cls := .flush, kind := .program 0 }
def gcOp : Op := { flushOp with cls := .gc }
def readOp : Op := { id := 1, link := 143, die := 17, cls := .host, kind := .read 0 0 0 0, owner := .drone }
def runOp : Op := { id := 1, link := 143, die := 17, cls := .write, kind := .erase, tag := some 0 }
theorem test_met_chanter : (((linked [flushOp]).link 143).open = true ∧ ((linked [flushOp]).die (dieKey 143 17)).health = .active ∧ (linked [flushOp]).pick 143 17 = some (flushOp, none)) ∧
    ((linked [readOp]).pick 143 17 = some (readOp, none)) ∧
    (((linked [gcOp]).pick 143 17).map (fun x => (x.1, x.2.isSome)) = some (gcOp, true)) ∧
    ((linked [runOp]).pick 143 17 = none ∧ (linked [runOp]).running 143 17 = some runOp ∧ (linked [runOp]).modes.flush = none ∧ runOp.suspended = false) ∧
    (∀ k ∈ [OpKind.erase, .program 0], let r := { runOp with kind := k, suspended := true, windowAt := some 0 }; (linked [r]).running 143 17 = some r ∧ r.windowAt = some 0 ∧ r.suspended = true ∧ (linked [r]).modes.flush = none) ∧
    (let r := { runOp with suspended := true }; (linked [r]).pick 143 17 = none ∧ (linked [r]).running 143 17 = some r ∧ ((linked [r]).queued 143 17).any (fun o => o.cls == .host && o.isRead) = false ∧
      (linked [r]).readsOut 143 17 = []) := by decide
theorem test_met_dieTimeouts :
    (let r := { readOp with tag := some 63 }; (linked [r]).ops.find? (fun o => o.link == 143 && o.tag == some 63 && o.isRead && o.owner != .none) = some r ∧
      (linked [r]).timePaused 143 = false ∧ r.owner = .drone) ∧
    (let s := (linked []).modDie (dieKey 143 17) (fun d => { d with health := .suspect, probeAt := some 0 }); (s.die (dieKey 143 17)).probeAt = some 0 ∧ (s.die (dieKey 143 17)).health = .suspect) ∧
    (let r := { runOp with askedSuspend := true }; ((linked [r]).die (dieKey 143 17)).probeAt = none ∧ (linked [r]).running 143 17 = some r ∧ r.askedSuspend = true ∧ r.suspended = false ∧
      r.askedAt + (linked [r]).image.faults.dieTimeout ≤ max (linked [r]).now (r.issuedAt + r.suspTime + opMax ((linked [r]).desc 143) r + (linked [r]).image.faults.dieTimeout)) ∧
    (((linked []).link 143).state = 2 ∧ (linked []).mediaDrone = true ∧ ((linked []).die (dieKey 143 17)).health = .active ∧ 64 * 40 < ((linked []).desc 143).blocks) := by decide
theorem test_met_frames : (let s := linked []; let x := s.link 143; (5 : Nat) = 5 ∧ x.state = 2 ∧ ¬(x.held < (4095 + 4096 - x.acked) % 4096 ∧ (4095 + 4096 - x.acked) % 4096 < 2048) ∧
      (x.held < (0 + 4096 - x.acked) % 4096 ∧ (0 + 4096 - x.acked) % 4096 < 2048) ∧ (4095 + 4096 - x.lastAcc) % 4096 = 0 ∧ 2048 ≤ (2047 + 4096 - x.lastAcc) % 4096 ∧
      (1 < (1 + 4096 - x.lastAcc) % 4096 ∧ (1 + 4096 - x.lastAcc) % 4096 < 2048) ∧ (1 < (2046 + 4096 - x.lastAcc) % 4096 ∧ (2046 + 4096 - x.lastAcc) % 4096 < 2048) ∧ (0 + 4096 - x.lastAcc) % 4096 = 1) ∧
    (40 + 39 ≤ 79 ∧ 79 < 40 + 40) ∧
    (let s := (linked []).modLink 143 (fun x => { x with nextSeq := 1, statusAt := 0 }); (s.link 143).state = 2 ∧ (s.link 143).held ≠ 0) ∧
    (∀ n ∈ [1, 3, 5, 7], let s := (linked []).modLink 143 (fun x => { x with state := 3, recStep := n }); (s.link 143).state = 3 ∧ s.recoveryOver 143 = false ∧ (s.link 143).recStep ≠ 2 ∧ (s.link 143).recStep ≠ 4 ∧ (s.link 143).recStep ≠ 6) ∧
    (let s := { (flushing .power).modLink 143 (fun x => { x with state := 3, lostAt := some 0 }) with now := 200 }; (s.link 143).state = 3 ∧ s.recoveryOver 143 = true) ∧
    (let s := (linked []).modLink 143 (fun x => { x with lostAt := some 0 }); (s.link 143).lostAt = some 0) := by decide
theorem test_met_decode : (let o := { readOp with decoding := true, owner := .none }; (linked [o]).op 1 = some o ∧ o.decoding = true ∧ (linked [o]).hasEngine o = true ∧ o.owner = .none) ∧
    (let o := { readOp with decoding := true }; (linked [o]).op 1 = some o ∧ (linked [o]).hasEngine o = true ∧ o.owner ≠ .none ∧ quadOf o.link = 3 ∧
      (linked [o]).oldestDecode 3 = some o ∧ (linked [o]).spares.ldpcBy.get 0 3 < 2 ∧
      2 ≤ ((linked [o]).modSpares (fun x => { x with ldpcBy := [(3, 2)] })).spares.ldpcBy.get 0 3) ∧
    (svc.spares.coresBy.get 0 3 = 0 ∧ (svc.modSpares (fun x => { x with coresBy := [(3, 1)] })).spares.coresBy.get 0 3 ≠ 0) ∧
    (let s := svc.modChan 271 (fun c => { c with flight := some { desc := {}, index := 0 } }); (∃ k ∈ (List.range 4).map (fun k => 67 * 4 + k), (s.chan k).flight.isSome = true) ∧ s.spares.moverBy.find (67 / 17) = none ∧
      ((s.modSpares (fun x => { x with moverBy := [(3, 52)] })).spares.moverBy.find (67 / 17)).isSome = true) := by decide
/-- Line 0 of namespace 1 is being fetched. -/
def fetch0 : Fetch := { nsid := 1, line := 0, t1 := true, issued := true }
/-- Its T2 set 9 holds the record of line 0 that its directory entry names. -/
def t2S : State := let s := nsS.modMc (fun m => { m with t2 := [(39, { nsIndex := 0, serial := 1, line := 0, muCode := 0, epoch := 0, ckptMun := 0, ckptIndex := 0, entries := [] })] }); { s with live := { s.live with dir := [(nsKey 1 0, { mun := 0, index := 0 })] } }
theorem test_met_maps : (let s := svc.modSlice 63 (fun y => { y with miss := some fetch0 }); (s.slice 63).miss = some fetch0 ∧ (s.line 1 0).inT1 = false ∧ (∀ g ∈ s.mc.parked, ¬(g.nsid = 1 ∧ g.line = 0)) ∧
      ((s.modLine 1 0 (fun x => { x with inT1 := true })).line 1 0).inT1 = true) ∧
    (let s := svc.modMc (fun m => { m with parked := [fetch0] }); s.mc.parked.find? (fun f => f.nsid == 1 && f.line == 0 && f.issued) = some fetch0 ∧ s.ns 1 = none) ∧
    (let s := nsS.modMc (fun m => { m with parked := [fetch0] }); s.mc.parked.find? (fun f => f.nsid == 1 && f.line == 0 && f.issued) = some fetch0 ∧ s.ns 1 = some ns1 ∧ fetch0.t2 = none) ∧
    (let f := { fetch0 with t2 := some 9 }; let s := nsS.modMc (fun m => { m with parked := [f] }); s.mc.parked.find? (fun f => f.nsid == 1 && f.line == 0 && f.issued) = some f ∧ s.ns 1 = some ns1 ∧ f.t2 = some 9 ∧
      s.t2Way 9 1 0 = none ∧ (t2S.t2Way 9 1 0 = some 3)) ∧ (let w : Way := { errs := 1, errWindow := true }; ((svc.modSlice 63 (fun y => { y with ways := [(8176, w)] })).slice 63).way 255 16 = w) ∧ svc.mc.busy = false ∧ (svc.modMc (fun m => { m with busy := true })).mc.busy = true ∧ (∀ b, Writer.host b ≠ .firmware) ∧ Writer.partition ≠ .management := by decide
/-- The fetched line of a namespace that exists. -/
def roomy : State := (nsS.modMc (fun m => { m with parked := [fetch0] })).modFlash (fun f => { f with image := goodImage })
theorem room_of (s : State) (hs : s.inT1 = []) (ha : s.allLines ≤ 1)
    (hm : s.image.memory.cacheMib + s.image.memory.stagingMib + s.image.memory.stopMib + s.image.memory.hbmHeapMib + s.image.memory.ddrHeapMib ≤ 131072) : s.makeRoom.isSome = true := by
  have h : s.inT1.length < s.t1Lines := by
    rw [hs, List.length_nil]
    unfold State.t1Lines State.t1Mib
    have hl : 240 ≤ (bif Config.large then 432 else 240) := by cases Config.large <;> decide
    generalize (bif Config.large then 432 else 240) = l at *
    generalize s.allLines = n at *
    dsimp only
    omega
  unfold State.makeRoom
  rw [if_pos h, Option.isSome_some]
theorem test_met_room : roomy.makeRoom.isSome = true := room_of roomy rfl (by decide) (by decide)
/-- An image whose other memory leaves T1 none has no room. -/
def roomless : State := roomy.modFlash (fun f => { f with image := { f.image with memory := { f.image.memory with cacheMib := 442368 } } })
theorem noRoom_of (s : State) (c : Nat) (hs : s.inT1 = []) (hc : s.image.memory.cacheMib = c) (hm : 442368 ≤ c) : s.makeRoom = none := by
  have h : s.t1Lines = 0 := by
    have hl : (bif Config.large then 432 else 240) ≤ 432 := by cases Config.large <;> decide
    unfold State.t1Lines State.t1Mib
    generalize (bif Config.large then 432 else 240) = l at *
    dsimp only
    omega
  unfold State.makeRoom State.clockOrder
  rw [hs, h]
  simp
theorem test_met_noRoom : roomless.makeRoom = none := noRoom_of roomless 442368 rfl rfl (by omega)

/-- The media with those bands, sealed. -/
def banded (bs : Tbl Band) (s : State) : State := { media s with live := { s.live with bands := bs }, sealed := { s.sealed with bands := bs } }
/-- Band `b` of group 0 is in that state. -/
def oneBand (b : Nat) (x : Band) : State := banded [(bandKey 0 b, x)] svc
theorem test_met_upkeep : (let s := oneBand 0 { state := .full }; s.mediaOn = true ∧ s.mediaDrone = true ∧ s.health.relocs = [] ∧ s.bandsOf 0 = [0] ∧ 0 % 16 = s.worstSet 0 ∧ (s.band 0 0).state = .full ∧ s.gcRank 0 0 ≠ 0 ∧ s.validIn 0 0 < s.bandSlots 0) ∧
    (let s := (oneBand 0 { state := .full }).modGroup 0 (fun g => { g with clock := 7776001000 }); pickMax (s.ageOf 0) ((s.bandsOf 0).filter (fun b => (s.band 0 b).state == .full && s.refreshDue 0 b)) = some 0) ∧
    (let s := (oneBand 0 { state := .retired }).modGroup 0 (fun g => { g with pressed := true }); s.groupCount > 0 ∧ s.closeDue 0 = true) ∧
    (let s := oneBand 15 { state := .vault }; (s.band 0 15).state = .vault ∧ s.cache.armed.contains (bandKey 0 15) = false ∧ s.lostOf 0 ≤ 1 ∧ s.ops = []) ∧
    (let s := oneBand 15 { state := .free }; s.isFree 0 15 = true ∧ (s.bandsOf 0).filter (fun c => c % 16 == 15 % 16 && (s.band 0 c).state == .reserve) = []) ∧
    (let s := svc.modHealth (fun h => { h with handed := [7] }); s.health.handed.contains 7 = true ∧ s.unitOf 7 = none) ∧
    (let s := oneBand 15 { state := .free }; s.bandsOf 0 = [15] ∧ 15 % 16 = 15) := by decide +kernel
/-- Unit 5 of namespace 1 lies in band 1, and the ladder has handed it over. -/
def handedS : State := { (banded [(bandKey 0 0, { state := .free }), (bandKey 0 1, { state := .full })] svc).modHealth (fun h => { h with handed := [368640] }) with cw := [(368640, { nsid := 1, unit := 5, kind := 1 })] }
def handed : State := { handedS with live := { handedS.live with map := [(nsKey 1 5, .mun 368640)] } }
theorem test_met_rewrite : handed.health.handed.contains 368640 = true ∧ handed.unitOf 368640 = some (1, 5) ∧ (handed.locate 368640).map (fun x => (x.group, x.band)) = some (0, 1) ∧ (handed.band 0 1).state ≠ .victim ∧
    (handed.placeUnit 0 (copyStream 1 (handed.band 0 1).stream) (handed.cwsOf 1) false ((List.range (handed.cwsOf 1)).map (fun j => { handed.codeword (368640 + j) with writer := 0, src := some 368640 }))).1.isSome = true := by decide +kernel
/-- Seven free bands in each set, and one full band that is less worn. -/
def worn : State := banded ((List.range 113).map (fun b => (bandKey 0 b, if b = 112 then { state := .full, erases := 0 } else { state := .free, erases := 151 }))) svc
theorem test_met_wear : 7 ≤ worn.freeCount 0 ∧ (∀ r ∈ worn.health.relocs, ¬(r.group = 0 ∧ r.band % 16 = 0 ∧ r.why = 2)) ∧ 112 ∈ worn.bandsOf 0 ∧ 112 % 16 = 0 ∧ (worn.band 0 112).state = .full ∧ 0 ∈ worn.bandsOf 0 ∧
    (∀ e ∈ worn.bandsOf 0, e % 16 = 0 → (worn.band 0 e).erases ≤ (worn.band 0 0).erases ∧ (e ≠ 112 → (worn.band 0 112).erases < (worn.band 0 e).erases)) ∧
    worn.health.wearSpread * (worn.desc (worn.slotAt 0 0)).ratedCycles < ((worn.band 0 0).erases - (worn.band 0 112).erases) * 100 := by decide +kernel
theorem test_met_relocation : (let r : Reloc := { group := 0, band := 0, why := 0 }; let s := (oneBand 0 { state := .victim }).modHealth (fun h => { h with relocs := [r] })
      s.reloc 0 0 = some r ∧ r.step = 1 ∧ s.mediaOn = true ∧ s.unitsIn 0 0 = [] ∧ s.linesIn 0 0 = [] ∧ r.copies = [] ∧ r.recs = [] ∧ s.copyLeft r = false ∧ r.why = 0 ∧ (s.band 0 0).state ≠ .vault ∧ (s.band 0 0).state ≠ .reserve) ∧
    (let s := nsS.modLine 1 0 (fun x => { x with dirty := true }); (s.line 1 0).dirty = true ∧ (s.line 1 0).ckpt = false ∧ (s.ns 1).isSome = true ∧ s.active = true ∧ s.hostFenced = false) ∧ (nsS.line 1 0).dirty = false ∧
    (striped.live.map.get .unmapped (nsKey 1 5) = .mun 0 ∧ striped.live.map.get .unmapped (nsKey 1 5) ≠ .mun 1) ∧
    (∀ st ∈ [BandState.full, .opened, .system], let s := (oneBand 0 { state := st, mark := 512 }).modGroup 0 (fun x => { x with scrub := some (0, 511) }); s.mediaDrone = true ∧ s.scrubNext (0 : Fin 16) = some (0, 511) ∧ s.scrubNext (0 : Fin 16) ≠ some (0, 0)) ∧ striped.inStripe 0 = true := by decide +kernel
/-- Firmware memory that a task of no command, of an admin command, or of one that has failed before stands in. -/
theorem test_met_firmwareTasks : (svc.report (srcFirmware 0) 0x0F03 7 0).ctx 7 = none ∧ ((adm { opcode := 6 }).report (srcFirmware 0) 0x0F03 1 0).ctx 1 = some (cx { opcode := 6 }) ∧ (cx { opcode := 6 }).admin = true ∧
    (cx { opcode := 6 }).phase ≠ .posted ∧ (cx { opcode := 6 }).fails = 0 ∧ (let x := { cx { opcode := 6 } with fails := 1 }; ((withCtx x svc).report (srcFirmware 0) 0x0F03 1 0).ctx 1 = some x ∧ x.fails ≠ 0) := by decide +kernel
/-- A rebuild of position 0 of group 0. -/
def rb : Rebuild := { id := 1, group := 0, pos := 0, slot := 0 }
def rebuilding (bs : Tbl Band) : State := let s := banded bs svc; { s with live := { s.live with rebuilds := [rb] } }
theorem test_met_pods : ((media svc).pod 0).present = true ∧
    (let s := (media (svc.modPw (fun p => { p with rail := true }))).modPod 16 (fun q => { q with present := false }); let t := { s with live := { s.live with deadPods := [16] } }
     (t.pod 16).present = false ∧ 16 ∈ t.live.deadPods ∧ t.active = true ∧ t.pw.rail = true ∧ t.hostFenced = false ∧ descOk { magicOk := false } = false ∧ descOk {} = true ∧ 1 ≤ ({} : PodDesc).protocolMax ∧
       ({} : PodDesc).protocolMax ≤ 3 ∧ ((t.modPod 16 (fun q => { q with present := true, desc := some {} })).slotGroups 16).any (fun g => (t.modPod 16 (fun q => { q with present := true, desc := some {} })).fitsGroup g 16) = true) ∧
    (((media svc).pod 0).powered = true ∧ (⟨true, true, true, false⟩ : BayStatus).overcurrent = true ∧ (⟨true, true, false, true⟩ : BayStatus).fault = true) ∧
    ((rebuilding []).rebuild 1 = some rb ∧ (rebuilding []).rebuildNext rb = none) ∧
    (let s := rebuilding [(bandKey 0 0, { state := .full, mark := 1, absent := [0] })]; s.rebuildNext rb = some (0, 0) ∧ s.memberAt 0 0 = some 0 ∧ (s.rebuildRow rb 0 0 0 []).isSome = true) ∧
    (((linked []).link 143).state = 2 ∧ ((linked []).spareDies 143).contains 17 = true ∧ (linked []).active = true ∧ (linked []).modes.ps ≠ 4 ∧ ((linked []).desc 143).blocks - 53 < ((linked []).desc 143).blocksInService ∧
      ((linked []).desc 143).blocksInService ≤ ((linked []).desc 143).blocks - 52) := by decide +kernel
theorem test_met_drones : (svc.modes.mode ≠ .keep ∧ svc.modes.flush = none ∧ svc.droneHeld = true) ∧ (svc.modModes (fun m => { m with served := true })).droneHeld = false ∧
    (let s : State := { svc with ev := { sources := [(51, { fifo := [⟨51, 1, 0, 0, 0⟩] })] } }; s.ev.room = true ∧ s.ev.order.find? (fun i => let q := s.ev.sources.get {} i; q.owes || !q.fifo.isEmpty) = some 51) ∧
    (({} : Source).fifo.length < 256 ∧ 256 ≤ (List.replicate 256 (⟨0, 0, 0, 0, 0⟩ : Report)).length) := by decide +kernel

/-- Stop 15 serves a binding of mode `m`, with those commands. -/
def serves (m : Nat) (cs : List StopCmd) : State :=
  let s := (stopped 3 svc).modStop 15 (fun x => { x with cmds := cs }); { s with live := { s.live with bindings := [(15, { mode := m, nsid := 1 })] }, now := 1000 }
theorem test_met_stopFrames : svc.heard 15 = false ∧ (serves 4 []).heard 15 = true ∧ (16384 ≤ (serves 4 []).maxPayload ∧ (serves 4 []).maxPayload < 65537) ∧ typeAllowed ((serves 4 []).binding 15).mode 2 = true ∧
    typeAllowed ((serves 4 []).binding 15).mode 3 = true ∧ typeAllowed ((serves 5 []).binding 15).mode 7 = true ∧ 63 ≤ 63 ∧
    (let g : InFlight := { desc := { srcSpace := 3 }, index := 2, done := 64 }; let s := (serves 5 []).modChan (stopMover 15 * 4 + 3) (fun c => { c with flight := some g })
     s.heard 15 = true ∧ (s.chan (stopMover 15 * 4 + 3)).flight = some g ∧ g.started = true ∧ g.desc.srcSpace = 3 ∧ g.desc.op ≤ 2 ∧ 2 = g.index ∧ g.src = none ∧ 64 = g.done ∧ 4096 ≠ 0) := by decide
theorem test_met_stopControl : (let s := (serves 4 []).modStop 15 (fun x => { x with ctlReads := [(15, 0x1000, none)] }); (s.stop 15).ctlReads.find? (fun e => e.1 == 15) = some (15, 0x1000, none) ∧
      (s.stop 15).ctlReads.find? (fun e => e.1 == 14) = none) ∧ ((serves 4 []).heard 15 = true ∧ 3 < 4 ∧ 0x0301 ≤ (serves 4 []).image.shell ∧ (serves 4 []).holder 15 = some 127) ∧
    (let s := (serves 4 []).modStop 15 (fun x => { x with irqMap0 := 0x8000 }); ((s.dinst 127).share.vectors ≤ (s.stop 15).irqMap 0 % 512) ∧
      let t := { s with live := { s.live with insts := [(127, { live := true, share := { d1 with stopMask := 0x8000, vectors := 1 } })] } }
      (t.stop 15).irqMap 0 % 512 < (t.dinst 127).share.vectors ∧ (t.stop 15).irqMap 0 / 32768 ≠ 0 ∧ (t.stop 15).irqMap 1 / 32768 = 0 ∧ (t.inst 127).state ≠ .isolated ∧
        (t.port (keyPort 127)).heldIrq.any (fun x => x.1 == (t.dinst 127).vecBase + (t.stop 15).irqMap 0 % 512) = false ∧ ((t.modInst 127 (fun i => { i with state := .isolated })).inst 127).state = .isolated) ∧
    (let x : StopCmd := { tag := 9, ctx := 1, kind := 2, accepted := 1 }; ((serves 1 [x]).stop 15).cmd 9 = some x ∧ x.kind ≤ 2 ∧ ∃ i, i < x.accepted ∧ i ∉ x.answered) ∧
    (let x : StopCmd := { tag := 9, ctx := 1, kind := 3, startAt := some 0, framesOut := 1 }; ((serves 4 [x]).stop 15).cmd 9 = some x ∧ 2 < x.kind ∧ x.startAt.isSome = true ∧ 0 = x.accepted ∧ x.accepted < x.framesOut) := by
  refine ⟨by decide, by decide, by decide, ⟨by decide, by decide, 0, by decide⟩, by decide⟩
/-- Stop 15 is in an epoch. -/
def epochS (drained : Bool) : State := (stopped 3 svc).modStop 15 (fun x => { x with epoch := some { goal := .load, drained := drained } })
theorem test_met_stopEpochs : ((epochS false).stop 15).epoch = some { goal := .load, drained := false } ∧ 0x0301 ≤ (epochS false).image.shell ∧ ((epochS true).stop 15).epoch = some { goal := .load, drained := true } ∧
    ((epochS true).modFlash (fun f => { f with image := { f.image with shell := 0x0300 } })).image.shell < 0x0301 ∧ (∀ c ∈ ([5] : List Nat), c ∉ ((epochS true).stop 15).used) ∧
    ((serves 4 []).adminOn = true ∧ (serves 4 []).windowStop (instKey 0 127) = some 15 ∧ ((serves 4 []).stop 15).state ≠ 4 ∧ ((serves 4 []).stop 15).epoch = none) ∧ svc.adminOn = true ∧ svc.windowStop (instKey 0 5) = none ∧
    (flushing .power).adminOn = false := by decide
/-- Channel 3 of mover 0 has descriptor `d` at its head. -/
def taking (d : MvDesc) : State := svc.modChan 3 (fun c => { c with enable := true, tail := 1, space := 5, ring := [(0, d)] })
/-- A descriptor with a burst to move. -/
def moving : InFlight := { desc := { length := 1 }, index := 5, beats := 2 }
theorem test_met_movers : svc.chanShut (chanKey 62 3) = false ∧ (svc.chan (chanKey 62 3)).enable = false ∧ ((taking {}).chan (chanKey 0 3)).enable = true ∧ (taking {}).canTake (chanKey 0 3) = true ∧
    (∀ op ∈ [0, 1, 2, 3, 4], let s := taking { op := op }; s.canTake (chanKey 0 3) = true ∧ s.chanShut (chanKey 0 3) = false ∧ s.ringOk (chanKey 0 3) = true ∧ (s.chan (chanKey 0 3)).next.op = op ∧ (s.chan (chanKey 0 3)).next.own = true ∧
      MvDescPaced (s.chan (chanKey 0 3)).next = false ∧ (s.chan (chanKey 0 3)).next.fenceBefore = false) ∧
    (let s := taking { srcSpace := 3, fenceBefore := true }; (s.chan (chanKey 0 3)).next.fenceBefore = true ∧ (s.chan (chanKey 0 3)).ports = [] ∧ (s.chan (chanKey 0 3)).request = true) ∧ ((taking { own := false }).chan (chanKey 0 3)).next.own = false ∧
    (let s := (taking { srcSpace := 3 }).modChan 3 (fun c => { c with request := false }); (s.chan (chanKey 0 3)).next.own = true ∧ MvDescPaced (s.chan (chanKey 0 3)).next = true ∧ (s.chan (chanKey 0 3)).request = false) ∧
    (svc.chanShut (chanKey 16 0) = true ∧ ((taking {}).modChan 3 (fun c => { c with space := 4 })).ringOk (chanKey 0 3) = false) ∧
    (let s := svc.modChan 3 (fun c => { c with flight := some moving, fenceReads := 1 }); (s.chan (chanKey 0 3)).flight = some moving ∧ moving.busy = true ∧ moving.ctx = none ∧
      ¬(moving.desc.srcSpace = 4 ∧ moving.src = none) ∧ moving.done < moving.desc.length ∧ s.burstTurn (chanKey 0 3) = true ∧ (s.chan (chanKey 0 3)).fenceReads ≠ 0 ∧
      (s.modChan 2 (fun c => { c with flight := some moving })).burstTurn (chanKey 0 3) = false) ∧
    (let f : InFlight := { desc := { dstSpace := 3 }, index := 5, beats := 2 }; let s := (serves 5 []).modChan (stopMover 15 * 4 + 3) (fun c => { c with flight := some f })
     s.heard 15 = true ∧ (s.chan (stopMover 15 * 4 + 3)).flight = some f ∧ f.index = 5 ∧ 1 < f.beats) := by decide
theorem test_met_registers : svc.modes.mode ≠ .keep ∧ (0x700000 ≤ 0x700FFF ∧ 0x700FFF < 0x701000) ∧ ¬(0x700000 ≤ 0x701000 ∧ 0x701000 < 0x701000) ∧ 0x10047 / 8 * 8 = 0x10040 ∧ (0x100000 ≤ 0x1007FF ∧ 0x1007FF < 0x100800 ∧ ¬(0x100000 ≤ 0x100800 ∧ 0x100800 < 0x100800)) ∧ (0x200000 ≤ 0x243FFF ∧ 0x243FFF < 0x244000) := by decide
/-- The journal's invariant holds of a state with a record that is not sealed, and a step from it answers a next state. -/
def logged : State := { svc.logRec (.band 0 0 .intent) with pending := [.journalEpochClose] }
theorem test_met_steps : logged.Journalled ∧ logged.jrn.opened ≠ [] ∧ logged.otp.Usable ∧ (∃ t, step logged = .next t) ∧ svc.otp.Usable :=
  ⟨rfl, by decide, ⟨by decide, by decide⟩, ⟨_, rfl⟩, ⟨by decide, by decide⟩⟩
/-- A command that neither burns nor seals runs; so does one that does neither formatting nor a fetch. -/
theorem test_met_few : (∃ t, exec .rootPllLossOfLock svc = .next t) ∧ timed .rootPllLossOfLock = false ∧ burns .rootPllLossOfLock = false ∧ seals .rootPllLossOfLock = false ∧ formats .rootPllLossOfLock = false ∧ fetches .rootPllLossOfLock = false :=
  ⟨⟨_, rfl⟩, rfl, rfl, rfl, rfl, rfl⟩

/-! ## Single steps -/

/-- The next state of a command has a property. -/
def after (c : Instr) (s : State) (f : State → Bool) : Bool := match exec c s with
  | .next t => f t
  | _ => false
/-- R543, R545: zone 0 far above its shutdown threshold starts the flush. -/
theorem test_hot_sample : after (.sensorSample { readings := [⟨0, 0, some 2400⟩] }) svc (fun t => t.modes.flush.isSome && (t.zone 0).level == 3) = true := by decide +kernel
/-- Feature 0x04: the composite's over threshold takes effect. -/
theorem test_temp_threshold : after (.setFeaturesTempThreshold 1) (adm (setSqe 4 350)) (fun t => (t.port 0).tempOver == 350) = true := by decide +kernel
/-- R304: a merge of units that a read waits for is none. -/
theorem test_merge_of_read : after (.mergeReadComplete 1 7) (withCtx (writing .media [7]) svc) (fun t => t.ctxs == [writing .media [7]]) = true := by decide +kernel
/-- R18: a Flush whose CDW10 is not 0 is refused at fetch. -/
theorem test_reserved_dword : sqeUnusedOk false { opcode := 0, nsid := 1, cdw10 := 1 } = false ∧ sqeUnusedOk false { opcode := 0, nsid := 1 } = true := by decide
/-- R564: a mailbox request with a code the table does not list is answered RESULT 0x01. -/
theorem test_other_request : (match (svc.otherRequest 0 1 0x7777 9).out with
  | [.mailbox _ 0x7777 r q _ _] => r == 1 && q == 9
  | _ => false) = true := by decide +kernel
/-- R653: while MRST_N stays low after the flush, every port reports CSTS.CFS. -/
theorem test_reset_held : (let f : Flush := ⟨.moduleReset, false, .service⟩
    let t := ((flushing .moduleReset).modModes (fun m => { m with resetHeld := true })).endFlush f
    t.modes.mode == .bringUp && t.modes.resetHeld && (List.range 8).all (fun p => (t.port p).cfs)) = true := by decide +kernel

/-- R135: CAP and VS of every port; R132: HV_THROTTLE after reset. -/
theorem test_host_registers : svc.hostReg 2 0 = 594686398762651647 ∧ svc.hostReg 2 8 = 0x20000 ∧ svc.hostReg 2 0x2000 = 256 := by decide +kernel
/-- 0xE1: a write that waited 50 µs for cache space. -/
theorem test_cache_wait : (let x : Ctx := { ix (ioSqe 1) with phase := .space, askedAt := 0 }
    let t := State.spaceGranted 1 { withCtx x nsS with now := 50 }
    (t.inst 0).counters.cacheWaitUs) = 50 := by decide +kernel
/-- R435: frames that are not acknowledged are held for replay (REPLAY_HELD). -/
theorem test_replay_held : ((linked []).modLink 143 (fun x => { x with nextSeq := 3, acked := 4095 })).chReg (0x5000 + 0x20 * 143 + 0x18) = 1000 + 16 * 2 ^ 16 + 3 * 2 ^ 21 := by decide +kernel

end Sys2Proof.Tests
end

section
/-! Proofs. A register write reaches the block its address names (R17, R20, R563).

A writer's map of control space has windows whose bounds are multiples of 8, so rounding an address down to its register
keeps it inside or outside each of them: the lemmas speak of the address as written. -/
namespace Sys2Proof.Machine

variable {s : State} {w : Writer} {a : Nat} {v : W64}

/-- Outside KEEP a register write is the write to control space. -/
theorem execRegisterWrite_powered (hs : s.modes.mode ≠ .keep) (w : Writer) (a : Nat) (v : W64) :
    exec (.registerWrite w a v) s = .next (s.writeReg w a v) := by
  simp [execRegisterWrite, hs]

theorem State.writeReg_host (s : State) (wide : Bool) (a : Nat) (v : W64) :
    s.writeReg (.host wide) a v = s.writeHost a wide v := rfl

/-! ## The partition: its own registers and the keep registers -/

theorem State.writeReg_partition (s : State) (a : Nat) (v : W64) :
    s.writeReg .partition a v =
      if 0x700000 ≤ a ∧ a < 0x701000 then s.writeKr (a / 8 * 8 - 0x700000) v
      else if 0x100000 ≤ a ∧ a < 0x100800 then s.writeSp (a / 8 * 8 - 0x100000) v else s := by
  have hkeep : (0x700000 ≤ a / 8 * 8 ∧ a / 8 * 8 < 0x701000) ↔ (0x700000 ≤ a ∧ a < 0x701000) := by omega
  have hown : (0x100000 ≤ a / 8 * 8 ∧ a / 8 * 8 < 0x100800) ↔ (0x100000 ≤ a ∧ a < 0x100800) := by omega
  simp only [State.writeReg, hkeep, hown]

/-! ## Firmware and management: the rest -/

/-- What firmware and management share of control space, by the address as written. -/
theorem State.writeReg_control (hw : w = .firmware ∨ w = .management) :
    s.writeReg w a v =
      if a / 8 * 8 = 0x10040 then s.modFlash (fun f => { f with failMask := f.failMask &&& ~~~(BitVec.ofNat 4 (bits64 v 11 8)) })
      else if 0x40000 ≤ a ∧ a < 0x80000 then s.writeMc w (a / 8 * 8 - 0x40000) v
      else if 0x80000 ≤ a ∧ a < 0x100000 then s.writeCh (a / 8 * 8 - 0x80000) v
      else if 0x200000 ≤ a ∧ a < 0x244000 then s.writeDm ((a / 8 * 8 - 0x200000) / 0x1000) (a / 8 * 8 % 0x1000) v
      else if 0x400000 ≤ a ∧ a < 0x500000 then
        (if a / 8 * 8 % 0x10000 < 0x1000 then s.writeShell ((a / 8 * 8 - 0x400000) / 0x10000) (a / 8 * 8 % 0x10000) v
         else s.ctlWrite ((a / 8 * 8 - 0x400000) / 0x10000) (a / 8 * 8 % 0x10000) v)
      else s := by
  have hmc : (0x40000 ≤ a / 8 * 8 ∧ a / 8 * 8 < 0x80000) ↔ (0x40000 ≤ a ∧ a < 0x80000) := by omega
  have hch : (0x80000 ≤ a / 8 * 8 ∧ a / 8 * 8 < 0x100000) ↔ (0x80000 ≤ a ∧ a < 0x100000) := by omega
  have hdm : (0x200000 ≤ a / 8 * 8 ∧ a / 8 * 8 < 0x244000) ↔ (0x200000 ≤ a ∧ a < 0x244000) := by omega
  have hst : (0x400000 ≤ a / 8 * 8 ∧ a / 8 * 8 < 0x500000) ↔ (0x400000 ≤ a ∧ a < 0x500000) := by omega
  rcases hw with rfl | rfl <;> simp only [State.writeReg, hmc, hch, hdm, hst]

theorem State.writeReg_mapCache (hw : w = .firmware ∨ w = .management) (hlo : 0x40000 ≤ a) (hhi : a < 0x80000) :
    s.writeReg w a v = s.writeMc w (a / 8 * 8 - 0x40000) v := by
  rw [State.writeReg_control hw, if_neg (by omega), if_pos ⟨hlo, hhi⟩]

theorem State.writeReg_chanter (hw : w = .firmware ∨ w = .management) (hlo : 0x80000 ≤ a) (hhi : a < 0x100000) :
    s.writeReg w a v = s.writeCh (a / 8 * 8 - 0x80000) v := by
  rw [State.writeReg_control hw, if_neg (by omega), if_neg (by omega), if_pos ⟨hlo, hhi⟩]

theorem State.writeReg_mover (hw : w = .firmware ∨ w = .management) (hlo : 0x200000 ≤ a) (hhi : a < 0x244000) :
    s.writeReg w a v = s.writeDm ((a / 8 * 8 - 0x200000) / 0x1000) (a / 8 * 8 % 0x1000) v := by
  rw [State.writeReg_control hw, if_neg (by omega), if_neg (by omega), if_neg (by omega), if_pos ⟨hlo, hhi⟩]

theorem State.writeReg_bringUp (hw : w = .firmware ∨ w = .management) (ha : a / 8 * 8 = 0x10040) :
    s.writeReg w a v = s.modFlash (fun f => { f with failMask := f.failMask &&& ~~~(BitVec.ofNat 4 (bits64 v 11 8)) }) := by
  rw [State.writeReg_control hw, if_pos ha]

/-- An address in none of the windows firmware and management may write, the partition's own among them, changes nothing. -/
theorem State.writeReg_unowned (hw : w = .firmware ∨ w = .management) (hmd : a / 8 * 8 ≠ 0x10040)
    (hmc : ¬(0x40000 ≤ a ∧ a < 0x80000)) (hch : ¬(0x80000 ≤ a ∧ a < 0x100000))
    (hdm : ¬(0x200000 ≤ a ∧ a < 0x244000)) (hst : ¬(0x400000 ≤ a ∧ a < 0x500000)) :
    s.writeReg w a v = s := by
  rw [State.writeReg_control hw, if_neg hmd, if_neg hmc, if_neg hch, if_neg hdm, if_neg hst]

/-- Settles O55: outside KEEP the command is `State.writeReg`, whose windows are taken writer by writer. -/
theorem registerWritesReachTheirBlock : Obligations.RegisterWritesReachTheirBlock := by
  intro s a v hs
  simp only [execRegisterWrite_powered hs]
  refine ⟨?host, ?keepRegs, ?ownRegs, ?notItsOwn, fun w hw => ⟨?chanter, ?mapCache, ?mover, ?past, ?bringUp⟩⟩
  case host => intro wide; rw [State.writeReg_host]
  case keepRegs => intro hlo hhi; rw [State.writeReg_partition, if_pos ⟨hlo, hhi⟩]
  case ownRegs => intro hlo hhi; rw [State.writeReg_partition, if_neg (by omega), if_pos ⟨hlo, hhi⟩]
  case notItsOwn => intro hkeep hown; rw [State.writeReg_partition, if_neg hkeep, if_neg hown]
  case chanter => intro hlo hhi; rw [State.writeReg_chanter hw hlo hhi]
  case mapCache => intro hlo hhi; rw [State.writeReg_mapCache hw hlo hhi]
  case mover => intro hlo hhi; rw [State.writeReg_mover hw hlo hhi]
  case past => intro hlo; rw [State.writeReg_unowned hw] <;> omega
  case bringUp =>
    intro ha
    rw [State.writeReg_bringUp hw ha]
    exact ⟨_, rfl, by rw [State.modFlash_flash], State.modFlash_live _ s⟩

end Sys2Proof.Machine
end

section
/-! Proofs. Clocks, the module reset, the sensors of the case and the watchdogs (R33, R80, R561 to R575, R639 to R648).

Each command's meaning is a chain of guards over the mode and a few latches: the lemmas say what is left of it where the
guards are passed, and the statement's cases read their outcome off them. -/
namespace Sys2Proof.Machine

variable {s : State}

/-- An active module is in none of the modes that give a reset an effect of their own. -/
theorem State.active_mode_ne (h : s.active = true) :
    s.modes.mode ≠ .keep ∧ s.modes.mode ≠ .safeHold ∧ s.modes.mode ≠ .bringUp := by
  rcases s.active_iff.mp h with h | h | h <;> simp [h]

/-- With the clock checks running (R33): the pair that still agrees names the clock that is off. -/
theorem execClockCheckWindow_checking (hk : s.modes.mode ≠ .keep) (hb : s.modes.mode = .bringUp → 1 ≤ s.modes.step)
    (houseRtc houseRing ringRtc : Bool) :
    execClockCheckWindow houseRtc houseRing ringRtc s =
      if houseRtc = false ∧ houseRing = true ∧ ringRtc = false then .next (s.healthEvent evRtc 0 0 true)
      else if houseRtc = false ∧ houseRing = false ∧ ringRtc = true then .next s.clockFault else .next s := by
  have checks : (s.modes.mode == .keep || (s.modes.mode == .bringUp && decide (s.modes.step < 1))) = false := by
    by_cases h : s.modes.mode = .bringUp
    · have hstep := hb h
      simp [h]
      omega
    · simp [h, hk]
  simp only [execClockCheckWindow, checks, Bool.false_eq_true, if_false]
  cases houseRtc <;> cases houseRing <;> cases ringRtc <;> rfl

/-- The reset input asserted anew, with no flush running: what it does is the mode's (R639). -/
theorem execModuleResetAssert_anew (hr : s.modes.resetHeld = false) (hk : s.modes.mode ≠ .keep) (hf : s.modes.flush = none) :
    execModuleResetAssert s =
      if s.modes.mode = .safeHold then .next (s.modModes (fun m => { m with resetHeld := true }))
      else if s.modes.mode = .bringUp then .next ((s.podsOff.startBringup).modModes (fun m => { m with resetHeld := true }))
      else .next (((s.startFlush .moduleReset false).modModes (fun m => { m with resetHeld := true })).allPorts
        (fun p t => t.modPort p (fun x => { x with cfs := true }))) := by
  simp [execModuleResetAssert, hr, hk, hf]

/-- The reset input released: bring-up begins, or the flush that runs goes on to it (R639). -/
theorem execModuleResetRelease_held (hr : s.modes.resetHeld = true) :
    execModuleResetRelease s =
      if s.modes.flush.isSome = true then .next (s.modModes (fun m => { m with resetHeld := false })) else .next s.startBringup := by
  simp [execModuleResetRelease, hr]

/-- A feed of the watchdog while it runs: only the last value plus 1 is taken (R569). -/
theorem execFwWatchdogFeed_running (hw : s.part.wdtRun = true) (v : W32) :
    execFwWatchdogFeed v s =
      if v = s.part.wdtLast + 1 then .next (s.modPart (fun p => { p with wdtLast := v, wdtAt := s.now }))
      else .next s.watchdogExpires := by
  simp [execFwWatchdogFeed, hw]

/-- Settles O6: each command's guards are decided by the case's hypotheses. -/
theorem clocksResetsAndWatchdogs : Obligations.ClocksResetsAndWatchdogs := by
  refine ⟨fun s => ⟨?window, rfl, ?retry, ?assert, ?release, ?latch, fun _ => rfl, ?cell⟩,
    fun s => ⟨?feed, ?stopped, ?expiry, ?noExpiry, rfl, rfl, rfl⟩⟩
  case window =>
    intro hk hb
    simp only [exec_clockCheckWindow, execClockCheckWindow_checking hk hb]
    refine ⟨by simp, by simp, fun a b c hRtc hHouse => ?_⟩
    rw [if_neg hRtc, if_neg hHouse]
  case retry =>
    intro locks agrees hm hc hd hi hf
    simp [execPllRetry, hm, hc, hd, hi, hf]
  case assert =>
    intro hr hk hf
    simp only [exec_moduleResetAssert, execModuleResetAssert_anew hr hk hf]
    refine ⟨fun hm => ?safeHold, fun hm => ?bringUp, fun ha => ?active⟩
    case safeHold => rw [if_pos hm]
    case bringUp => rw [if_neg (by simp [hm]), if_pos hm]
    case active =>
      obtain ⟨-, hSafe, hBring⟩ := State.active_mode_ne ha
      rw [if_neg hSafe, if_neg hBring]
  case release =>
    intro hr
    simp only [exec_moduleResetRelease, execModuleResetRelease_held hr]
    exact ⟨fun hf => if_neg (by simp [hf]), fun hf => if_pos hf⟩
  case latch =>
    intro a b
    simp only [exec_latchChange, execLatchChange, beq_iff_eq]
  case cell =>
    intro mv hk
    simp [execKeepCellCheck, hk]
  case feed =>
    intro hw
    exact ⟨(execFwWatchdogFeed_running hw _).trans (if_pos rfl), fun v hv => (execFwWatchdogFeed_running hw v).trans (if_neg hv)⟩
  case stopped =>
    intro hw v
    simp [execFwWatchdogFeed, hw]
  case expiry =>
    intro hw hf
    simp [execFwWatchdogExpiry, hw, hf]
  case noExpiry =>
    rintro (hw | hf)
    · simp [execFwWatchdogExpiry, hw]
    · simp [execFwWatchdogExpiry, Option.isNone_eq_false_iff.mpr hf]

end Sys2Proof.Machine
end

section
/-! Proofs. A packaged unit that fails is replaced by its package's spare while there is one (R22, R23, R420 to R422).

A failure has two outcomes, told apart by the spares its package has used: a spare takes the unit's place, or the unit is
counted as lost. One equation a command gives both. -/
namespace Sys2Proof.Machine

variable {s : State}

/-! ## Decodes and their engines -/

/-- The end of a decode that holds an engine: an operation nobody waits for is dropped, any other goes on with what was found. -/
theorem execLdpcDecodeComplete_engine {id : Nat} {o : Op} (ho : s.op id = some o) (hd : o.decoding = true) (he : s.hasEngine o = true)
    (e : DecodeEnd) (bits fixed : Nat) :
    execLdpcDecodeComplete id e bits fixed s =
      if o.owner = .none then .next (s.dropOp id) else .next ((s.countBits o bits fixed (e == .good)).decoded o e).retry := by
  simp [execLdpcDecodeComplete, ho, hd, he]

/-- The oldest decode of a quadrant is dispatched again 30 µs after it began (R422). -/
def State.redispatch (s : State) (o : Op) : State :=
  (s.notBefore (o.decodeAt + 30)).modOp o.id (fun y => { y with decodeAt := max s.now (o.decodeAt + 30) })

/-- A decode that hangs: dispatched again, with a spare engine for the failed one, or on one engine less (R422). -/
theorem execLdpcDecodeTimeout_oldest {q : QuadId} {o : Op} (ho : s.oldestDecode q = some o) :
    execLdpcDecodeTimeout q s =
      let used := s.spares.ldpcBy.get 0 q
      if used < 2 then
        .next ((((s.redispatch o).modSpares (fun x => { x with
          ldpc := x.ldpc - 1, ldpcBy := x.ldpcBy.set q (used + 1), ldpcDead := x.ldpcDead + 1 })).packageSpare 2 q used (s.spares.ldpc - 1) (srcFirmware q)))
      else
        .next ((((s.redispatch o).modSpares (fun x => { x with
          ldpcLost := x.ldpcLost.set q (x.ldpcLost.get 0 q + 1), ldpcDead := x.ldpcDead + 1 })).report (srcFirmware q) (evUnnamed 12 0) q 0).reviewEngines q) := by
  simp only [execLdpcDecodeTimeout, ho]
  rfl

/-! ## Movers -/

/-- A mover with a descriptor in flight that makes no progress: the quadrant's spare goes on with the descriptors, or the channels halt (R421). -/
theorem execMoverNoProgress_flight {m : MoverId} {k : Nat} (hk : k ∈ (List.range 4).map (fun k => m.val * 4 + k))
    (hf : (s.chan k).flight.isSome = true) :
    execMoverNoProgress m s =
      let chs := (List.range 4).map (fun k => m.val * 4 + k)
      let q := m.val / 17
      if s.spares.moverBy.find q = none then
        let w := (s.modSpares (fun x => { x with movers := x.movers - 1, moverBy := x.moverBy.set q m })).each chs
          (fun k t => t.modChan k (fun c => { c with flight := c.flight.map (fun f => { f with resumed := true }) }))
        .next (w.packageSpare 3 m 17 w.spares.movers (40 + q))
      else .next ((s.each chs (fun k t => t.haltChan k 0)).report (40 + q) (evUnnamed 12 9) m 0) := by
  have hany : ((List.range 4).map (fun k => m.val * 4 + k)).any (fun k => (s.chan k).flight.isSome) = true :=
    List.any_eq_true.mpr ⟨k, hk, hf⟩
  simp only [execMoverNoProgress, hany, Option.isNone_iff_eq_none]
  rfl

/-- Settles O46: whether a package has a spare left decides each failure. -/
theorem packagedUnitsFailOver : Obligations.PackagedUnitsFailOver := by
  intro s
  refine ⟨?decoded, ?engine, ?core, ?mover⟩
  case decoded =>
    intro id o e b f ho hd he
    simp only [exec_ldpcDecodeComplete, execLdpcDecodeComplete_engine ho hd he]
    exact ⟨fun h => if_pos h, fun h => if_neg h⟩
  case engine =>
    intro q o ho
    simp only [exec_ldpcDecodeTimeout, execLdpcDecodeTimeout_oldest ho]
    exact ⟨fun h => if_pos h, fun h => if_neg (Nat.not_lt.mpr h)⟩
  case core =>
    intro q core
    exact ⟨fun h => if_pos h, fun h => if_neg h⟩
  case mover =>
    rintro m chs q ⟨k, hk, hf⟩
    simp only [exec_moverNoProgress, execMoverNoProgress_flight hk hf]
    exact ⟨fun h => if_pos h, fun h => if_neg (Option.isSome_iff_ne_none.mp h)⟩

end Sys2Proof.Machine
end

section
/-! Proofs. Relocations, checkpoints and scrubs (R34, R161, R260, R262, R311, R366, R617, R618).

Of patrol scrub the point is where its next row can lie: the pick among the bands is a fold, and whatever it ends at was
offered to it. -/
namespace Sys2Proof.Machine

variable {s : State} {g b row : Nat}

/-! ## Records -/

/-- A relocation takes effect only where its unit still lies where it was copied from (R161). -/
theorem Durable.apply_relocate_elsewhere {d : Durable} {nsid u src : Nat} (h : d.map.get .unmapped (nsKey nsid u) ≠ .mun src) (m : Nat) :
    d.apply (.relocate nsid u m src) = d := by
  simp [Durable.apply, h]

/-- Where it still lies there, it moves to the copy (R161). -/
theorem Durable.apply_relocate_inPlace {d : Durable} {nsid u src : Nat} (h : d.map.get .unmapped (nsKey nsid u) = .mun src) (m : Nat) :
    (d.apply (.relocate nsid u m src)).map.get .unmapped (nsKey nsid u) = .mun m := by
  simp [Durable.apply, h, Durable.setMap]

/-- The intent to erase a band without a role of its own takes it out of use. -/
theorem State.logBand_intent_state (hv : (s.band g b).state ≠ .vault) (hr : (s.band g b).state ≠ .reserve) :
    ((s.logBand g b .intent).band g b).state = .erasePending := by
  have hrole : (s.live.bands.get {} (bandKey g b)).state ≠ .vault ∧ (s.live.bands.get {} (bandKey g b)).state ≠ .reserve := ⟨hv, hr⟩
  simp [State.logBand, State.band, Durable.apply, Band.apply, hrole]

/-! ## Relocation -/

/-- A garbage collection with nothing to copy and nothing copied: the band was read, and its erase is intended (R366). -/
theorem execRelocationCopyComplete_empty {g : Fin 16} {r : Reloc} (hr : s.reloc g b = some r) (hstep : r.step = 1) (hon : s.mediaOn = true)
    (hunits : s.unitsIn g b = []) (hlines : s.linesIn g b = []) (hcopies : r.copies = []) (hrecs : r.recs = [])
    (hleft : s.copyLeft r = false) (hwhy : r.why = 0) :
    execRelocationCopyComplete g b s = .next (((s.noteScrubbed g b).logBand g b .intent).modReloc g b
      (fun x => { x with step := 3, epoch := s.jrn.openEpoch })) := by
  simp only [execRelocationCopyComplete, hr, hstep, hon, hunits, hlines, hcopies, hrecs, hleft, hwhy, List.foldl_nil]
  rfl

/-! ## Patrol scrub -/

/-- A band patrol scrub may read is in use and has a programmed row (R617). -/
theorem State.scrubbable_programmed (h : s.scrubbable g b = true) :
    ((s.band g b).state = .full ∨ (s.band g b).state = .opened ∨ (s.band g b).state = .system) ∧ 0 < (s.band g b).mark := by
  simp only [State.scrubbable, Bool.and_eq_true, Bool.or_eq_true, beq_iff_eq, decide_eq_true_eq, or_assoc] at h
  exact h.1

/-- A choice that keeps the one it has or takes the next can only end at one of those it was offered. -/
theorem mem_of_foldl_choice {α : Type} {f : Option α → α → Option α} (hf : ∀ o a y, f o a = some y → y = a ∨ o = some y)
    {xs : List α} {y : α} (h : xs.foldl f none = some y) : y ∈ xs := by
  refine List.foldlRecOn (motive := fun o => ∀ y, o = some y → y ∈ xs) xs f (by simp) (fun o ih a ha y hy => ?_) y h
  rcases hf o a y hy with rfl | ho
  · exact ha
  · exact ih y ho

/-- The row patrol scrub reads next lies in a band it may read, below the band's mark. -/
theorem State.scrubNext_scrubbable (h : s.scrubNext g = some (b, row)) : s.scrubbable g b = true ∧ row < (s.band g b).mark := by
  have first {f : Option Nat → Nat → Option Nat} (hf : ∀ o a y, f o a = some y → y = a ∨ o = some y)
      (hb : (((s.bandsOf g).filter (fun b => s.scrubbable g b)).foldl f none).map (fun b => (b, 0)) = some (b, row)) :
      s.scrubbable g b = true ∧ row < (s.band g b).mark := by
    obtain ⟨_, hpick, he⟩ := Option.map_eq_some_iff.mp hb
    obtain ⟨rfl, rfl⟩ := Prod.mk.inj he
    have hs := (List.mem_filter.mp (mem_of_foldl_choice hf hpick)).2
    exact ⟨hs, (State.scrubbable_programmed hs).2⟩
  unfold State.scrubNext at h
  split at h
  case h_1 c at_ _ =>
    split at h
    case isTrue hc =>
      obtain ⟨rfl, rfl⟩ := Prod.mk.inj (Option.some.inj h)
      simpa using hc
    case isFalse => exact first (by intro o a y; cases o <;> grind) h
  case h_2 => exact first (by intro o a y; cases o <;> grind) h

/-- The next row, read with nothing found in it, is counted, and the scrub goes on. -/
theorem execPatrolScrub_next {g : Fin 16} (hm : s.mediaDrone = true) (hn : s.scrubNext g = some (b, row)) :
    execPatrolScrub g b row [] s = .next ((s.testRow false).scrubOn g b row) := by
  simp [execPatrolScrub, hm, hn]

/-! ## The statement -/

/-- Settles O49: each case's hypotheses decide each command's guards; a scrub's row and a record's effect are the lemmas above. -/
theorem relocationsAndScrubs : Obligations.RelocationsAndScrubs := by
  refine ⟨fun s => ⟨?relocated, ?dirtyLine, ?cleanLine, fun _ _ _ m _ h => Durable.apply_relocate_elsewhere h m,
      fun _ _ _ m _ h => Durable.apply_relocate_inPlace h m⟩,
    fun s => ⟨?nextRow, ?otherRow, rfl, rfl, ?cacheCodeword, ?cleanRecord, ?dirtyRecord, fun _ _ _ => rfl, ?noTask, ?task, rfl⟩⟩
  case relocated =>
    intro g b r hr hstep hon hunits hlines hcopies hrecs hleft hwhy hv hres
    exact ⟨_, execRelocationCopyComplete_empty hr hstep hon hunits hlines hcopies hrecs hleft hwhy,
      State.logBand_intent_state (s := s.noteScrubbed g b) hv hres, rfl⟩
  case dirtyLine =>
    intro nsid line hd hc hn ha hf
    simp [execCheckpointLine, hd, hc, hn, ha, hf]
  case cleanLine =>
    intro nsid line hd ha hf
    simp [execCheckpointLine, hd, ha, hf]
  case nextRow =>
    intro g b row hm hn
    obtain ⟨hs, hrow⟩ := State.scrubNext_scrubbable hn
    exact ⟨⟨(State.scrubbable_programmed hs).1, hrow⟩, execPatrolScrub_next hm hn⟩
  case otherRow =>
    intro g b row finds hn
    simp [execPatrolScrub, hn]
  case cacheCodeword =>
    intro mun h
    simp [execMemoryScrub, h]
  case cleanRecord =>
    intro nsid line h
    simp [execMemoryScrub, h]
  case dirtyRecord =>
    intro nsid line h
    simp [execMemoryScrub, h]
  case noTask =>
    intro task h
    simp [execMemoryScrub, h]
  case task =>
    intro task x u hx ha hp
    exact ⟨fun h => by simp [execMemoryScrub, u, hx, ha, hp, h], fun h => by simp [execMemoryScrub, u, hx, ha, hp, h]⟩

end Sys2Proof.Machine
end

section
/-! Proofs. Bring-up steps 8 to 10 (R62 to R65, R438, R541).

The slots step 8 turns down leave their mark on FAIL_MASK, the event journal and the keep domain. None of these enters a
slot's checks, so what the load decides afterwards it decides as from the state it began in. -/
namespace Sys2Proof.Machine

variable {s : State} {n src : Nat}

/-! ## The first slot that passes -/

/-- The first element not among those at the head of which `p` holds is the first of which it does not. -/
theorem find?_not_mem_takeWhile {α : Type} [BEq α] [LawfulBEq α] (p : α → Bool) (xs : List α) :
    xs.find? (fun x => !(xs.takeWhile p).contains x) = xs.find? (fun x => !p x) := by
  cases h : xs.find? (fun x => !p x) with
  | none =>
    have hall : ∀ x ∈ xs, p x = true := by simpa using h
    rw [List.takeWhile_eq_self_iff.mpr hall, List.find?_eq_none]
    simp
  | some a =>
    obtain ⟨ha, as, bs, rfl, has⟩ := List.find?_eq_some_iff_append.mp h
    simp only [Bool.not_not, Bool.not_eq_true'] at ha has
    have htw : (as ++ a :: bs).takeWhile p = as := by
      rw [List.takeWhile_append_of_pos has, List.takeWhile_cons_of_neg (by simp [ha]), List.append_nil]
    have hnew : a ∉ as := fun hm => Bool.false_ne_true (ha.symm.trans (has a hm))
    rw [htw, List.find?_eq_some_iff_append]
    exact ⟨by simpa using hnew, as, bs, rfl, by simp⟩

/-! ## Step 8: the checks of a slot -/

theorem State.checkSlot_image (h : s.checkSlot n = 0) : ∃ i, (s.vslot n).image = some i := by
  cases hi : (s.vslot n).image with
  | none => simp [State.checkSlot, hi] at h
  | some i => exact ⟨i, rfl⟩

theorem State.loadCheck_checkSlot {x : Nat × Nat} (h : s.loadCheck x = 0) : s.checkSlot x.1 = 0 := by
  unfold State.loadCheck at h
  split at h
  case h_1 hc => exact hc
  case h_2 => exact h

theorem State.vslot_eq_of_slots {t : State} (h : t.flash.slots = s.flash.slots) (n : Nat) : t.vslot n = s.vslot n := by
  simp only [State.vslot, h]

@[simp] theorem State.failSlot_checkSlot (m code : Nat) (s : State) (n : Nat) : (s.failSlot m code).checkSlot n = s.checkSlot n := rfl
@[simp] theorem State.report_checkSlot (source event object value : Nat) (s : State) (n : Nat) :
    (s.report source event object value).checkSlot n = s.checkSlot n := rfl
@[simp] theorem State.keepWrite_checkSlot (f : Keep → Keep) (s : State) (n : Nat) : (s.keepWrite f).checkSlot n = s.checkSlot n := rfl

/-- The slots the load turns down before the one it takes. -/
def State.turnedDown (s : State) : List (Nat × Nat) := s.slotOrder.takeWhile (fun x => s.loadCheck x != 0)

/-- What the load leaves of a slot it turns down: its check in MD_VOICING_STATUS, and an event (log entry 66). -/
def State.turnDown (x : Nat × Nat) (code : Nat) (t : State) : State :=
  (t.failSlot x.1 code).report (srcFirmware 0) (evUnnamed 2 3) x.1 code

/-- What the load leaves of all of them; a pending slot among them is pending no more (R64). -/
def State.turnAllDown (s : State) : State :=
  let t := s.turnedDown.foldl (fun t x => t.turnDown x (s.loadCheck x)) s
  if s.turnedDown.any (fun x => x.2 == 0) then t.keepWrite (fun k => { k with pendingValid := false, formatIntent := false }) else t

/-- What neither a failed check nor a write of the keep domain changes, the slots turned down leave as it was. -/
theorem State.turnAllDown_keeps {γ : Type} (g : State → γ) (hfail : ∀ x code t, g (State.turnDown x code t) = g t)
    (hkeep : ∀ f t, g (State.keepWrite f t) = g t) (s : State) : g s.turnAllDown = g s := by
  have hfold : g (s.turnedDown.foldl (fun t x => t.turnDown x (s.loadCheck x)) s) = g s :=
    List.foldlRecOn (motive := fun t => g t = g s) _ _ rfl (fun t ht x _ => (hfail x _ t).trans ht)
  unfold State.turnAllDown
  split
  · exact (hkeep _ _).trans hfold
  · exact hfold

theorem State.turnAllDown_checkSlot (s : State) (n : Nat) : s.turnAllDown.checkSlot n = s.checkSlot n :=
  State.turnAllDown_keeps (fun t => t.checkSlot n) (fun _ _ _ => by simp [State.turnDown]) (fun _ _ => by simp) s

theorem State.turnAllDown_slots (s : State) : s.turnAllDown.flash.slots = s.flash.slots :=
  State.turnAllDown_keeps (fun t => t.flash.slots) (fun _ _ _ => rfl) (fun _ _ => rfl) s

/-! ## Step 8: formatting and loading -/

@[simp] theorem State.useImage_flash (i : VoicingImage) (s : State) : (s.useImage i).flash = { s.flash with image := i } := rfl

/-- Formatting the media puts the image in force and leaves the slots (R71). -/
theorem State.formatMedia_flash (i : VoicingImage) (s : State) : (s.formatMedia i).flash = { s.flash with image := i } := by
  have hzero (xs : List Nat) : (s.each xs (fun n t => t.zeroKey n)).flash = s.flash :=
    (Only.each _ _ (fun n _ h => h.zeroKey (by decide) n) (Only.refl [.part] s)).flash
  have hfill (t : State) (gs : List Nat) : (t.each gs (fun g t => t.each (List.range t.width) (fun pos t => t.fillDead g pos))).flash = t.flash :=
    (Only.each _ _ (fun g _ h => Only.each _ _ (fun pos _ h => h.fillDead (by decide) g pos) h) (Only.refl [.live, .jrn] t)).flash
  unfold State.formatMedia
  extract_lets
  rw [(State.armVault_only _).flash, (State.newLayout_only _).flash, (State.setDegrade_only _ _ _).flash, hfill,
    (State.placeFormat_only _ _).flash, State.useImage_flash, (State.freshMedia_only _ _).flash]
  exact congrArg (fun f => { f with image := i }) ((State.newSecret_only _).flash.trans (hzero _))

/-- The format that precedes the load of a pending class F change (R70, R71). -/
def State.formatIntended (n src : Nat) (s : State) : State :=
  if src == 0 && s.keep.formatIntent then
    match (s.vslot n).image with
    | some i => s.formatMedia i
    | none => s
  else s

theorem State.formatIntended_slots (n src : Nat) (s : State) : (s.formatIntended n src).flash.slots = s.flash.slots := by
  unfold State.formatIntended
  split
  · split
    · rw [State.formatMedia_flash]
    · rfl
  · rfl

/-- The slot loaded is LOADED with its SOURCE, and its image is in force. -/
theorem State.useSlot_flash {i : VoicingImage} (hi : (s.vslot n).image = some i) (src vstate : Nat) :
    (s.useSlot n src vstate).flash = { s.flash with loaded := n, source := src, vstate := vstate, image := i } := by
  have hrest : Only [.ports, .pods, .ev] ((s.modFlash (fun f => { f with loaded := n, source := src, vstate := vstate })).useImage i)
      (s.useSlot n src vstate) := by
    simp only [State.useSlot, hi]
    refine Only.allPorts _ (fun p t h => h.fitLink (by decide) _ _) (Only.each _ _ (fun g t h => Only.each _ _ (fun l u hu => ?_) h) (Only.refl _ _))
    split
    · exact Only.ite (fun _ => hu) (fun _ => (hu.modPod (by decide) _ _).report (by decide) _ _ _ _)
    · exact hu
  rw [hrest.flash, State.useImage_flash, State.modFlash_flash]

/-- A slot becomes the active one where it was pending (R64). -/
def State.adopt (n src : Nat) (s : State) : State :=
  if src = 0 then s.keepWrite (fun k => { k with previous := k.active, active := n, pendingValid := false, formatIntent := false }) else s

theorem State.adopt_flash (n src : Nat) (s : State) : (s.adopt n src).flash = s.flash := by
  unfold State.adopt
  split <;> rfl

/-! ## Step 8: the mode it ends in -/

@[simp] theorem State.setStep_step (k : Nat) (s : State) : (s.setStep k).modes.step = k := rfl
@[simp] theorem State.setStep_fenced (k : Nat) (s : State) : (s.setStep k).modes.fenced = s.modes.fenced := rfl
@[simp] theorem State.setStep_flash (k : Nat) (s : State) : (s.setStep k).flash = s.flash := rfl
@[simp] theorem State.setStep_keep (k : Nat) (s : State) : (s.setStep k).keep = s.keep := rfl

theorem State.settleMode_fenced (s : State) : s.settleMode.modes.fenced = s.modes.fenced := by
  unfold State.settleMode
  split <;> rfl

/-- A cause of degradation comes or goes, and the media stay fenced or not. -/
theorem State.setDegrade_fenced (bit : Nat) (on : Bool) (s : State) : (s.setDegrade bit on).modes.fenced = s.modes.fenced := by
  have hports (t : State) (f : Port → Port) : (t.allPorts (fun p u => (u.modPort p f).postOutstanding p 0xEA)).modes = t.modes :=
    (Only.allPorts _ (fun p _ h => (h.modPort (by decide) p f).postOutstanding (by decide) p 0xEA) (Only.refl [.ports, .insts, .ctxs, .out] t)).modes
  unfold State.setDegrade
  split
  case isTrue => rfl
  case isFalse => rw [State.settleMode_fenced, hports]; rfl

/-- SAFE-HOLD is entered with the cause given. -/
theorem State.enterSafe_modes (cause : Nat) (s : State) :
    (s.enterSafe cause).modes.mode = .safeHold ∧ (s.enterSafe cause).modes.safeCause = cause := by
  have hports (t : State) (f : Port → Port) : (t.allPorts (fun p u => u.modPort p f)).modes = t.modes :=
    (Only.allPorts _ (fun p _ h => h.modPort (by decide) p f) (Only.refl [.ports] t)).modes
  unfold State.enterSafe
  rw [hports]
  exact ⟨rfl, rfl⟩

/-! ## Step 8: the command -/

theorem State.find?_not_turnedDown (s : State) :
    s.slotOrder.find? (fun x => !s.turnedDown.contains x) = s.slotOrder.find? (fun x => s.loadCheck x == 0) := by
  rw [State.turnedDown, find?_not_mem_takeWhile]
  simp [bne]

/-- The first slot that passes is loaded, after a format where that was intended. -/
theorem execVoicingLoad_found (h : s.atStep 7 = true) (hf : s.slotOrder.find? (fun x => s.loadCheck x == 0) = some (n, src)) :
    execVoicingLoad s = .next ((((s.turnAllDown.formatIntended n src).useSlot n src 1).adopt n src).setStep 8) := by
  rw [← State.find?_not_turnedDown, State.turnedDown] at hf
  simp only [execVoicingLoad, h, hf, Bool.not_true, Bool.false_eq_true, if_false]
  rfl

/-- Where no slot passes, the factory image is loaded and the media are fenced (R63), unless slot 0 itself fails (R65; DESIGN CHOICE, log entry 93). -/
theorem execVoicingLoad_none (h : s.atStep 7 = true) (hf : s.slotOrder.find? (fun x => s.loadCheck x == 0) = none) :
    execVoicingLoad s = if s.checkSlot 0 = 0 then
        .next ((((s.turnAllDown.useSlot 0 3 2).modModes (fun m => { m with fenced := true })).setDegrade dgFenced true).setStep 8)
      else .next (s.turnAllDown.enterSafe 7) := by
  rw [← State.find?_not_turnedDown, State.turnedDown] at hf
  rw [← State.turnAllDown_checkSlot s 0]
  simp only [execVoicingLoad, h, hf, Bool.not_true, Bool.false_eq_true, if_false]
  rfl

/-! ## Steps 9 and 10: power and training -/

/-- With neither J2 nor the rail no pod can be powered. -/
theorem execPodPowerWave_noRail (h : s.atStep 8 = true) (hj : s.pw.j2Present = false) (hr : s.pw.rail = false) :
    execPodPowerWave s = .next (s.enterSafe 4) := by
  simp [execPodPowerWave, h, hj, hr]

/-- A link in training with no rate yet takes the one it tries, goes on to the next lower one, or is dead (R424; log entry 42). -/
theorem execLaneTrainingComplete_training {l : LinkId} (hx : (s.link l).state = 1) (hrate : (s.link l).rate = 0) (ok : Bool) :
    execLaneTrainingComplete l ok s = .next (
      if ok then s.modLink l (fun x => { x with rate := x.trying })
      else if 2 ≤ (s.link l).trying then s.modLink l (fun x => { x with trying := x.trying - 1 })
      else s.linkDead l) := by
  simp only [execLaneTrainingComplete, hx, hrate, bne_self_eq_false, Bool.or_self, Bool.false_eq_true, if_false, apply_ite Host.Outcome.next]

/-! ## The statement -/

/-- Settles O8: what the load turned down decides nothing after it; a wave and a lane's training are their commands' guards. -/
theorem voicingAndPodPower : Obligations.VoicingAndPodPower := by
  refine ⟨fun s h => ?load, fun s => ⟨?noRail, ?wave, fun l htraining hrate => ⟨?locked, ?nextRate, ?dead⟩⟩⟩
  case load =>
    cases hf : s.slotOrder.find? (fun x => s.loadCheck x == 0) with
    | some x =>
      obtain ⟨n, src⟩ := x
      have hpass : s.loadCheck (n, src) = 0 := by simpa using List.find?_some hf
      obtain ⟨i, hi⟩ := State.checkSlot_image (State.loadCheck_checkSlot hpass)
      have hslots := (State.formatIntended_slots n src _).trans s.turnAllDown_slots
      have hflash := State.useSlot_flash ((congrArg VSlot.image (State.vslot_eq_of_slots hslots n)).trans hi) src 1
      refine ⟨_, execVoicingLoad_found h hf, ?_, nofun, nofun⟩
      rintro _ _ ⟨⟩
      simp only [State.setStep_step, State.setStep_flash, State.adopt_flash, hflash, true_and, State.setStep_keep]
      rintro rfl
      exact ⟨rfl, rfl, rfl⟩
    | none =>
      rw [exec_voicingLoad, execVoicingLoad_none h hf]
      split
      case isTrue h0 =>
        refine ⟨_, rfl, nofun, fun _ _ => ⟨rfl, ?_⟩, fun _ hn => absurd h0 hn⟩
        have hflash := State.useSlot_flash (s := s.turnAllDown) (n := 0) (i := factoryImage) rfl 3 2
        simp only [State.setStep_flash, (State.setDegrade_only _ _ _).flash, State.modModes_flash, hflash, true_and,
          State.setStep_fenced, State.setDegrade_fenced]
        rfl
      case isFalse h0 => exact ⟨_, rfl, nofun, fun _ hn => absurd hn h0, fun _ _ => State.enterSafe_modes 7 _⟩
  case noRail => exact execPodPowerWave_noRail
  case wave =>
    intro h hpower
    have hrail : (!s.pw.j2Present && !s.pw.rail) = false := by rcases hpower with hp | hp <;> simp [hp]
    simp only [exec_podPowerWave, execPodPowerWave, h, hrail, Bool.not_true, Bool.false_eq_true, if_false]
  case locked => exact execLaneTrainingComplete_training htraining hrate true
  case nextRate =>
    intro htry
    rw [exec_laneTrainingComplete, execLaneTrainingComplete_training htraining hrate, if_neg Bool.false_ne_true, if_pos htry]
  case dead =>
    intro htry
    rw [exec_laneTrainingComplete, execLaneTrainingComplete_training htraining hrate, if_neg Bool.false_ne_true, if_neg (Nat.not_le.mpr htry)]

end Sys2Proof.Machine
end

section
/-! Proofs. Voicing Select (R66 to R69): both forms of the command are one operation, and its answer is settled before it changes anything. -/
namespace Sys2Proof.Machine

variable {s : State} {c : Nat} {x : Ctx} {dry : Bool}

/-- What an answer leaves of the state: the check the slot failed, if it failed one (MD_VOICING_STATUS). -/
def State.noteRefusal (slot : Nat) (a : Nat × Nat × Nat) (s : State) : State :=
  if a.2.2 = 1 then s.failSlot slot (s.checkSlot slot) else if a.2.2 = 3 then s.failSlot slot 7 else s

/-- CLASS, REFUSAL and PORTS in the completion's first dword. -/
def voicingDw0 (a : Nat × Nat × Nat) : W32 := BitVec.ofNat 32 (a.1 + a.2.2 * 256 + a.2.1 * 65536)

theorem State.noteRefusal_accepted {slot : Nat} {a : Nat × Nat × Nat} (ha : a.2.2 = 0) : s.noteRefusal slot a = s := by
  simp [State.noteRefusal, ha]

/-- The row's own form of the command, with its reserved bits 0. -/
theorem State.voicingSelect_ready (h : AdminReady s c 0xD8 x) (hdry : x.sqe.cdw10.getLsbD 9 = dry)
    (hlow : bits x.sqe.cdw10 7 2 = 0) (hhigh : bits x.sqe.cdw10 31 10 = 0) :
    let slot := bits x.sqe.cdw10 1 0
    let a := s.voicingAnswer slot (x.sqe.cdw10.getLsbD 8)
    let u := s.noteRefusal slot a
    s.voicingSelect c dry =
      if a.2.2 ≠ 0 then u.complete c (if a.2.2 ≤ 3 then stInvalidField else stSequence) (voicingDw0 a)
      else if dry ∨ a.1 = 0 then u.complete c .success (voicingDw0 a)
      else u.startDevEpoch 2 (.voicing slot a.1 a.2.1) (some c) := by
  simp only [State.voicingSelect, State.admin_ready h, hdry, hlow, hhigh, bne_self_eq_false, ne_eq, not_true_eq_false, or_self,
    Bool.false_eq_true, if_false]
  rfl

/-- Dry or not, a refused change leaves the failed slot and no more (R67). -/
theorem State.voicingSelect_refused (h : AdminReady s c 0xD8 x) (hdry : x.sqe.cdw10.getLsbD 9 = dry)
    (hlow : bits x.sqe.cdw10 7 2 = 0) (hhigh : bits x.sqe.cdw10 31 10 = 0)
    (hr : (s.voicingAnswer (bits x.sqe.cdw10 1 0) (x.sqe.cdw10.getLsbD 8)).2.2 ≠ 0) :
    let a := s.voicingAnswer (bits x.sqe.cdw10 1 0) (x.sqe.cdw10.getLsbD 8)
    s.voicingSelect c dry =
      (s.noteRefusal (bits x.sqe.cdw10 1 0) a).complete c (if a.2.2 ≤ 3 then stInvalidField else stSequence) (voicingDw0 a) := by
  rw [State.voicingSelect_ready h hdry hlow hhigh, if_pos hr]

/-- A change not refused completes at once where it is dry or of class 0, and is a device epoch otherwise (R67, R68). -/
theorem State.voicingSelect_accepted (h : AdminReady s c 0xD8 x) (hdry : x.sqe.cdw10.getLsbD 9 = dry)
    (hlow : bits x.sqe.cdw10 7 2 = 0) (hhigh : bits x.sqe.cdw10 31 10 = 0)
    (hr : (s.voicingAnswer (bits x.sqe.cdw10 1 0) (x.sqe.cdw10.getLsbD 8)).2.2 = 0) :
    let a := s.voicingAnswer (bits x.sqe.cdw10 1 0) (x.sqe.cdw10.getLsbD 8)
    s.voicingSelect c dry = if dry ∨ a.1 = 0 then s.complete c .success (voicingDw0 a)
      else s.startDevEpoch 2 (.voicing (bits x.sqe.cdw10 1 0) a.1 a.2.1) (some c) := by
  rw [State.voicingSelect_ready h hdry hlow hhigh, if_neg (not_not.mpr hr), State.noteRefusal_accepted hr]

/-- Settles O37: the answer's REFUSAL and CLASS decide which of the operation's three ends is reached. -/
theorem voicingSelectAnswersFirst : Obligations.VoicingSelectAnswersFirst := by
  intro s c x h hlow hhigh
  refine ⟨?refused, ?refusedDry, ?dry, ?class0, ?epoch⟩
  case refused =>
    intro hr hd
    exact congrArg Host.Outcome.next (State.voicingSelect_refused h hd hlow hhigh hr)
  case refusedDry =>
    intro hr hd
    exact congrArg Host.Outcome.next (State.voicingSelect_refused h hd hlow hhigh hr)
  case dry =>
    intro hr hd
    exact congrArg Host.Outcome.next ((State.voicingSelect_accepted h hd hlow hhigh hr).trans (if_pos (.inl rfl)))
  case class0 =>
    intro hr hd hc
    exact congrArg Host.Outcome.next ((State.voicingSelect_accepted h hd hlow hhigh hr).trans (if_pos (.inr hc)))
  case epoch =>
    intro hr hd hc
    exact congrArg Host.Outcome.next
      ((State.voicingSelect_accepted h hd hlow hhigh hr).trans (if_neg (not_or.mpr ⟨Bool.false_ne_true, hc⟩)))

end Sys2Proof.Machine
end

section
/-! Proofs. Every command answers a next state and keeps the journal (R99, R101, R259): the laws of the commands, put together. -/
namespace Sys2Proof.Machine
-- one theorem after another: fewer threads, whose stacks are large
set_option Elab.async false

variable {a s : State}

/-- Whatever the command, it answers a next state, and what was kept up to it is kept past it. -/
theorem exec_kept (hs : Kept a s) (c : Instr) : KeptX a (exec c s) :=
  match c with
  | .inputStartThreshold => execInputStartThreshold_kept hs
  | .brownoutWatchEntry => execBrownoutWatchEntry_kept hs
  | .brownoutGraceExpiry => execBrownoutGraceExpiry_kept hs
  | .brownoutWatchExit => execBrownoutWatchExit_kept hs
  | .bellowsSwitchConnect recovered => execBellowsSwitchConnect_kept hs recovered
  | .powerFailRecognised => execPowerFailRecognised_kept hs
  | .flushDumpComplete => execFlushDumpComplete_kept hs
  | .powerStageStop => execPowerStageStop_kept hs
  | .overvoltageTrip => execOvervoltageTrip_kept hs
  | .powerStageFault f => execPowerStageFault_kept hs f
  | .podRailPresenceLost => execPodRailPresenceLost_kept hs
  | .bellowsTest => execBellowsTest_kept hs
  | .bellowsTestMeasured capUf esr ok => execBellowsTestMeasured_kept hs capUf esr ok
  | .sensorSample x => execSensorSample_kept hs x
  | .thermalComparatorTrip zone => execThermalComparatorTrip_kept hs zone
  | .graceTimeExpiry => execGraceTimeExpiry_kept hs
  | .m3AdmissionInterval => execM3AdmissionInterval_kept hs
  | .clockCheckWindow houseRtc houseRing ringRtc => execClockCheckWindow_kept hs houseRtc houseRing ringRtc
  | .rootPllLossOfLock => execRootPllLossOfLock_kept hs
  | .pllRetry locks agrees => execPllRetry_kept hs locks agrees
  | .moduleResetAssert => execModuleResetAssert_kept hs
  | .moduleResetRelease => execModuleResetRelease_kept hs
  | .latchChange moduleClosed enclClosed => execLatchChange_kept hs moduleClosed enclClosed
  | .motionWindow mg => execMotionWindow_kept hs mg
  | .keepCellCheck mv => execKeepCellCheck_kept hs mv
  | .fwWatchdogFeed value => execFwWatchdogFeed_kept hs value
  | .fwWatchdogExpiry => execFwWatchdogExpiry_kept hs
  | .spWatchdogExpiry => execSpWatchdogExpiry_kept hs
  | .lockstepMismatch => execLockstepMismatch_kept hs
  | .spRestartComplete => execSpRestartComplete_kept hs
  | .rootPllLock f => execRootPllLock_kept hs f
  | .firmwareBundleStart ok => execFirmwareBundleStart_kept hs ok
  | .memoryTrainingComplete => execMemoryTrainingComplete_kept hs
  | .podDescriptorRead pods => execPodDescriptorRead_kept hs pods
  | .voicingLoad => execVoicingLoad_kept hs
  | .podPowerWave => execPodPowerWave_kept hs
  | .laneTrainingComplete l ok => execLaneTrainingComplete_kept hs l ok
  | .mapRecovery f => execMapRecovery_kept hs f
  | .bringupFinalRound x badImages => execBringupFinalRound_kept hs x badImages
  | .bringupComplete => execBringupComplete_kept hs
  | .bringupTrialTimeout => execBringupTrialTimeout_kept hs
  | .perstAssert p => execPerstAssert_kept hs p
  | .perstDeassert p => execPerstDeassert_kept hs p
  | .refclkMeasureComplete p ppm => execRefclkMeasureComplete_kept hs p ppm
  | .configSpaceReady p => execConfigSpaceReady_kept hs p
  | .hotReset p => execHotReset_kept hs p
  | .linkDown p disabled => execLinkDown_kept hs p disabled
  | .linkRecoveryEntry p => execLinkRecoveryEntry_kept hs p
  | .linkReturnToL0 p => execLinkReturnToL0_kept hs p
  | .pcieLinkTrained p gen width => execPcieLinkTrained_kept hs p gen width
  | .functionLevelReset p => execFunctionLevelReset_kept hs p
  | .ccEnSet p css iosqes iocqes asqs acqs => execCcEnSet_kept hs p css iosqes iocqes asqs acqs
  | .ccEnClear p => execCcEnClear_kept hs p
  | .shutdownNotification p => execShutdownNotification_kept hs p
  | .shutdownComplete p => execShutdownComplete_kept hs p
  | .d3hotEntry p => execD3hotEntry_kept hs p
  | .d0Return p => execD0Return_kept hs p
  | .pasidEnableClear p => execPasidEnableClear_kept hs p
  | .msixVectorUnmask p u => execMsixVectorUnmask_kept hs p u
  | .sqTailDoorbell p w aligned32 value => execSqTailDoorbell_kept hs p w aligned32 value
  | .cqHeadDoorbell p w aligned32 value => execCqHeadDoorbell_kept hs p w aligned32 value
  | .mctpVdmMessage p r => execMctpVdmMessage_kept hs p r
  | .stopWindowAccess p n off write => execStopWindowAccess_kept hs p n off write
  | .sqEntryFetch p n qid entries => execSqEntryFetch_kept hs p n qid entries
  | .hostDmaFailure p t f => execHostDmaFailure_kept hs p t f
  | .admissionRound q => execAdmissionRound_kept hs q
  | .capAllowanceInterval q => execCapAllowanceInterval_kept hs q
  | .hostViolWindowRoll => execHostViolWindowRoll_kept hs
  | .deferredErrorEventTimeout p => execDeferredErrorEventTimeout_kept hs p
  | .createIoSq c => execCreateIoSq_kept hs c
  | .deleteIoSq c => execDeleteIoSq_kept hs c
  | .createIoCq c => execCreateIoCq_kept hs c
  | .deleteIoCq c => execDeleteIoCq_kept hs c
  | .getLogErrorInfo c => execGetLogErrorInfo_kept hs c
  | .getLogSmart c => execGetLogSmart_kept hs c
  | .getLogFwSlot c => execGetLogFwSlot_kept hs c
  | .getLogCommandsEffects c => execGetLogCommandsEffects_kept hs c
  | .getLogSelfTest c => execGetLogSelfTest_kept hs c
  | .getLogDeferredErrors c => execGetLogDeferredErrors_kept hs c
  | .getLogInstanceCounters c => execGetLogInstanceCounters_kept hs c
  | .getLogLatencyHistograms c => execGetLogLatencyHistograms_kept hs c
  | .getLogMediaHealth c => execGetLogMediaHealth_kept hs c
  | .getLogStops c => execGetLogStops_kept hs c
  | .getLogPowerThermal c => execGetLogPowerThermal_kept hs c
  | .getLogUpdateState c => execGetLogUpdateState_kept hs c
  | .getLogDieStatistics c => execGetLogDieStatistics_kept hs c
  | .getLogEventJournal c => execGetLogEventJournal_kept hs c
  | .getLogSpareReserves c => execGetLogSpareReserves_kept hs c
  | .getLogModuleState c => execGetLogModuleState_kept hs c
  | .identifyController c => execIdentifyController_kept hs c
  | .identifyNamespace c => execIdentifyNamespace_kept hs c
  | .identifyNsList c => execIdentifyNsList_kept hs c
  | .identifyNsDescriptors c => execIdentifyNsDescriptors_kept hs c
  | .identifyControllerList c => execIdentifyControllerList_kept hs c
  | .abort c => execAbort_kept hs c
  | .setFeaturesArbitration c => execSetFeaturesArbitration_kept hs c
  | .setFeaturesPowerMgmt c => execSetFeaturesPowerMgmt_kept hs c
  | .setFeaturesTempThreshold c => execSetFeaturesTempThreshold_kept hs c
  | .setFeaturesErrorRecovery c => execSetFeaturesErrorRecovery_kept hs c
  | .setFeaturesNumberOfQueues c => execSetFeaturesNumberOfQueues_kept hs c
  | .setFeaturesIntCoalescing c => execSetFeaturesIntCoalescing_kept hs c
  | .setFeaturesIntVectorConfig c => execSetFeaturesIntVectorConfig_kept hs c
  | .setFeaturesWriteAtomicity c => execSetFeaturesWriteAtomicity_kept hs c
  | .setFeaturesAsyncEventConfig c => execSetFeaturesAsyncEventConfig_kept hs c
  | .setFeaturesApst c => execSetFeaturesApst_kept hs c
  | .setFeaturesTimestamp c => execSetFeaturesTimestamp_kept hs c
  | .getFeatures c => execGetFeatures_kept hs c
  | .apstIdleExpiry p => execApstIdleExpiry_kept hs p
  | .powerStateEntryStart => execPowerStateEntryStart_kept hs
  | .ps4DroneExcursion finished => execPs4DroneExcursion_kept hs finished
  | .asyncEventRequest c => execAsyncEventRequest_kept hs c
  | .namespaceCreate c => execNamespaceCreate_kept hs c
  | .namespaceDelete c => execNamespaceDelete_kept hs c
  | .namespaceAttach c => execNamespaceAttach_kept hs c
  | .namespaceDetach c => execNamespaceDetach_kept hs c
  | .firmwareImageDownload c => execFirmwareImageDownload_kept hs c
  | .firmwareCommitVerify c => execFirmwareCommitVerify_kept hs c
  | .firmwareCommitNextBoot c => execFirmwareCommitNextBoot_kept hs c
  | .firmwareCommitConfirm c => execFirmwareCommitConfirm_kept hs c
  | .firmwareCommitActivate c => execFirmwareCommitActivate_kept hs c
  | .updateVerificationComplete f => execUpdateVerificationComplete_kept hs f
  | .activationServe => execActivationServe_kept hs
  | .activationTimeout => execActivationTimeout_kept hs
  | .trialAutoConfirm => execTrialAutoConfirm_kept hs
  | .flashOperationComplete bank => execFlashOperationComplete_kept hs bank
  | .deviceSelfTestShort c => execDeviceSelfTestShort_kept hs c
  | .deviceSelfTestExtended c => execDeviceSelfTestExtended_kept hs c
  | .deviceSelfTestAbort c => execDeviceSelfTestAbort_kept hs c
  | .extendedSelfTestEnd result => execExtendedSelfTestEnd_kept hs result
  | .directiveSend c => execDirectiveSend_kept hs c
  | .directiveReceive c => execDirectiveReceive_kept hs c
  | .nvmeMiSend c r => execNvmeMiSend_kept hs c r
  | .nvmeMiReceive c => execNvmeMiReceive_kept hs c
  | .formatNvm c => execFormatNvm_kept hs c
  | .formatNvmAll c => execFormatNvmAll_kept hs c
  | .createInstance c => execCreateInstance_kept hs c
  | .instanceReport c => execInstanceReport_kept hs c
  | .destroyInstance c => execDestroyInstance_kept hs c
  | .changeShare c => execChangeShare_kept hs c
  | .shareDrainEnd p n => execShareDrainEnd_kept hs p n
  | .shareDrainLimitExpiry p n => execShareDrainLimitExpiry_kept hs p n
  | .resetInstance c => execResetInstance_kept hs c
  | .proxyAdmin c => execProxyAdmin_kept hs c
  | .lendMapMemory c => execLendMapMemory_kept hs c
  | .reclaimMapMemory c => execReclaimMapMemory_kept hs c
  | .t2AccessFailure p lend f => execT2AccessFailure_kept hs p lend f
  | .bindStop c => execBindStop_kept hs c
  | .unbindStop c => execUnbindStop_kept hs c
  | .loadStopImageTransfer c => execLoadStopImageTransfer_kept hs c
  | .loadStopImageLoad c bodyOk compileSig operatorSig => execLoadStopImageLoad_kept hs c bodyOk compileSig operatorSig
  | .loadStopImageReload c => execLoadStopImageReload_kept hs c
  | .loadStopImageDiscard c => execLoadStopImageDiscard_kept hs c
  | .voicingSelect c => execVoicingSelect_kept hs c
  | .voicingSelectDryRun c => execVoicingSelectDryRun_kept hs c
  | .cryptoErase c => execCryptoErase_kept hs c
  | .getChallenge h key => execGetChallenge_kept hs h key
  | .challengeExpiry n => execChallengeExpiry_kept hs n
  | .readIdentity h => execReadIdentity_kept hs h
  | .readStatus h => execReadStatus_kept hs h
  | .setThreshOvr h value => execSetThreshOvr_kept hs h value
  | .clearBackupWarning h => execClearBackupWarning_kept hs h
  | .releaseSafeHold h fresh => execReleaseSafeHold_kept hs h fresh
  | .setUpdateLock h lock => execSetUpdateLock_kept hs h lock
  | .setRpl h level strap => execSetRpl_kept hs h level strap
  | .loadKey h slot persist unwraps kcv => execLoadKey_kept hs h slot persist unwraps kcv
  | .clearKey h slot => execClearKey_kept hs h slot
  | .rotateOperatorKey h hash strap => execRotateOperatorKey_kept hs h hash strap
  | .revokeImageKey h entry => execRevokeImageKey_kept hs h entry
  | .maintenanceHold seconds => execMaintenanceHold_kept hs seconds
  | .maintenanceHoldRelease => execMaintenanceHoldRelease_kept hs
  | .maintenanceHoldExpiry => execMaintenanceHoldExpiry_kept hs
  | .deviceEpochDrainEnd => execDeviceEpochDrainEnd_kept hs
  | .drainInterruptTimeout => execDrainInterruptTimeout_kept hs
  | .flush c => execFlush_kept hs c
  | .write c => execWrite_kept hs c
  | .read c => execRead_kept hs c
  | .writeZeroes c => execWriteZeroes_kept hs c
  | .datasetManagement c => execDatasetManagement_kept hs c
  | .verify c => execVerify_kept hs c
  | .compute c => execCompute_kept hs c
  | .computeCopy c => execComputeCopy_kept hs c
  | .cacheSpaceGrant => execCacheSpaceGrant_kept hs
  | .writeCommit c blocks => execWriteCommit_kept hs c blocks
  | .mergeReadComplete c unit => execMergeReadComplete_kept hs c unit
  | .stripeIdleClose n => execStripeIdleClose_kept hs n
  | .writeThroughStripeClose n => execWriteThroughStripeClose_kept hs n
  | .hbmUncorrectableError muns accumulators => execHbmUncorrectableError_kept hs muns accumulators
  | .journalEpochClose => execJournalEpochClose_kept hs
  | .journalSealCommit => execJournalSealCommit_kept hs
  | .chanterIssue l die => execChanterIssue_kept hs l die
  | .suspendWindowExpiry l die => execSuspendWindowExpiry_kept hs l die
  | .dieReadTimeout l tag => execDieReadTimeout_kept hs l tag
  | .dieOpTimeout l die => execDieOpTimeout_kept hs l die
  | .linkFrameReceived l f => execLinkFrameReceived_kept hs l f
  | .replayTimeout l => execReplayTimeout_kept hs l
  | .podViolWindowRoll => execPodViolWindowRoll_kept hs
  | .fecLockLoss l => execFecLockLoss_kept hs l
  | .linkRecoveryStepResult l restored => execLinkRecoveryStepResult_kept hs l restored
  | .dieTimeoutPauseExpiry l => execDieTimeoutPauseExpiry_kept hs l
  | .podStatusMissing l => execPodStatusMissing_kept hs l
  | .ldpcDecodeComplete op e bits fixed => execLdpcDecodeComplete_kept hs op e bits fixed
  | .ldpcDecodeTimeout q => execLdpcDecodeTimeout_kept hs q
  | .coreHeartbeatMiss q core => execCoreHeartbeatMiss_kept hs q core
  | .moverNoProgress m => execMoverNoProgress_kept hs m
  | .t1MissFillComplete n => execT1MissFillComplete_kept hs n
  | .mapFetchComplete nsid line => execMapFetchComplete_kept hs nsid line
  | .mapCacheWayError n set way uncorrectable tagLost => execMapCacheWayError_kept hs n set way uncorrectable tagLost
  | .wayErrorWindowExpiry n set way => execWayErrorWindowExpiry_kept hs n set way
  | .mcRegionLoWrite w n value => execMcRegionLoWrite_kept hs w n value
  | .mcClean => execMcClean_kept hs
  | .mcInvalidate => execMcInvalidate_kept hs
  | .mcDiscard => execMcDiscard_kept hs
  | .mcUnlock => execMcUnlock_kept hs
  | .mcMaintDone => execMcMaintDone_kept hs
  | .checkpointLine nsid line => execCheckpointLine_kept hs nsid line
  | .gcVictimStart g => execGcVictimStart_kept hs g
  | .relocationCopyComplete g band => execRelocationCopyComplete_kept hs g band
  | .retentionClockTick => execRetentionClockTick_kept hs
  | .retentionRefresh g => execRetentionRefresh_kept hs g
  | .ladderUnitRewrite mun => execLadderUnitRewrite_kept hs mun
  | .wearLevelling g dieSet => execWearLevelling_kept hs g dieSet
  | .writeClosedTimer g => execWriteClosedTimer_kept hs g
  | .rebuildRowSolve id found => execRebuildRowSolve_kept hs id found
  | .podPresenceChange l present desc => execPodPresenceChange_kept hs l present desc
  | .baySwitchStatusPoll l st => execBaySwitchStatusPoll_kept hs l st
  | .baySwitchIbi l st => execBaySwitchIbi_kept hs l st
  | .droneWindow dieTime coreTime drones => execDroneWindow_kept hs dieTime coreTime drones
  | .patrolScrub g band row finds => execPatrolScrub_kept hs g band row finds
  | .readOffsetCalibration l die blockGroup => execReadOffsetCalibration_kept hs l die blockGroup
  | .memoryScrub h => execMemoryScrub_kept hs h
  | .linkAdaptation l => execLinkAdaptation_kept hs l
  | .spareMediaVerify l die answers bad => execSpareMediaVerify_kept hs l die answers bad
  | .vaultRearm g band => execVaultRearm_kept hs g band
  | .reserveBandReturn g band => execReserveBandReturn_kept hs g band
  | .podStatsRead l die resets tempMaxK => execPodStatsRead_kept hs l die resets tempMaxK
  | .telemetrySnapshot => execTelemetrySnapshot_kept hs
  | .eventRecorderTake => execEventRecorderTake_kept hs
  | .stopDataOut n f => execStopDataOut_kept hs n f
  | .stopEndFrame n f => execStopEndFrame_kept hs n f
  | .stopMoverOut n f => execStopMoverOut_kept hs n f
  | .stopControlResponse n tag value stable => execStopControlResponse_kept hs n tag value stable
  | .stopIrqEdge n line => execStopIrqEdge_kept hs n line
  | .stopDrainAck n => execStopDrainAck_kept hs n
  | .stopDrainLimitExpiry n => execStopDrainLimitExpiry_kept hs n
  | .stopXformTimeout n tag => execStopXformTimeout_kept hs n tag
  | .stopComputeTimeout n tag => execStopComputeTimeout_kept hs n tag
  | .stopControlReadTimeout n tag => execStopControlReadTimeout_kept hs n tag
  | .stopConfigWritten n failing => execStopConfigWritten_kept hs n failing
  | .stopViolWindowRoll => execStopViolWindowRoll_kept hs
  | .dmRingTailWrite m k tail descs => execDmRingTailWrite_kept hs m k tail descs
  | .dmRingBaseWrite m k value => execDmRingBaseWrite_kept hs m k value
  | .dmEnableWrite m k on => execDmEnableWrite_kept hs m k on
  | .dmPauseWrite m k on => execDmPauseWrite_kept hs m k on
  | .dmPaceRequestWrite m k on => execDmPaceRequestWrite_kept hs m k on
  | .dmCopy m k => execDmCopy_kept hs m k
  | .dmFill m k => execDmFill_kept hs m k
  | .dmCheck m k => execDmCheck_kept hs m k
  | .dmFence m k => execDmFence_kept hs m k
  | .dmNop m k => execDmNop_kept hs m k
  | .dmBurstComplete m k bytes e => execDmBurstComplete_kept hs m k bytes e
  | .dmFenceReadComplete m k => execDmFenceReadComplete_kept hs m k
  | .dmRingReadFailure m k => execDmRingReadFailure_kept hs m k
  | .registerWrite w addr value => execRegisterWrite_kept hs w addr value
  | .ingressBeatAccepted n mover tag seq => execIngressBeatAccepted_kept hs n mover tag seq
  | .powerStateEntryComplete => execPowerStateEntryComplete_kept hs
  | .bellowsTestDeadline => execBellowsTestDeadline_kept hs
  | .bootFlashRead bank off => execBootFlashRead_kept hs bank off

/-- Settles O56: the command runs on the state less itself, whose journal is the same; with none waiting only time passes. -/
theorem everyStepKeepsTheJournal : Obligations.EveryStepKeepsTheJournal := by
  intro s t hs hstep
  unfold step at hstep
  split at hstep
  case h_1 =>
    cases hstep
    exact (Kept.refl s).idle.jrn hs
  case h_2 c rest _ =>
    obtain ⟨u, hu, hkept⟩ := exec_kept (.refl { s with pending := rest }) c
    rw [hu] at hstep
    cases hstep
    exact hkept.jrn hs

end Sys2Proof.Machine
end

section
/-! Proofs. Which parts of the state few commands can touch (R99, R147, R563, R576), read off the frames of all commands.

A frame lists the fields a command can change, so it bounds all of them but the time: the ends of timers move that. What
each of those does besides is within a frame without the time, from the state the timer ends in. -/
namespace Sys2Proof.Machine
-- one theorem after another: fewer threads, whose stacks are large
set_option Elab.async false

variable {s t : State}

/-! ## Time -/

/-- Every field of the state but the time. -/
def untimed : List Fld :=
  [.modes, .pw, .part, .keep, .otp, .flash, .format, .spares, .ports, .insts, .ctxs, .ended, .nextCtx, .fetches, .bells, .live, .sealed, .jrn, .vault, .lines,
    .lends, .mc, .cache, .cw, .groups, .ops, .solves, .dies, .chanters, .links, .pods, .stops, .store, .chans, .drones, .ev, .health, .mech, .free, .out, .pending]

/-- A command answers a next state no earlier than the one it began in. -/
def NotEarlier (s : State) (o : Host.Outcome State Fault Refusal) : Prop := ∃ t, o = .next t ∧ s.now ≤ t.now

theorem NotEarlier.refl (s : State) : NotEarlier s (.next s) := ⟨s, rfl, le_rfl⟩

/-- The end of a timer, and then anything but time. -/
theorem Only.notEarlier {n : Nat} (h : Only untimed (s.notBefore n) t) : NotEarlier s (.next t) :=
  ⟨t, rfl, (le_max_left s.now n).trans_eq h.now.symm⟩

theorem Only.notBefore_refl (n : Nat) (s : State) : Only untimed (s.notBefore n) (s.notBefore n) := .refl _ _

/-! ## Ends of timers: power, temperatures, bring-up, updates -/

theorem execBrownoutGraceExpiry_notEarlier (s : State) : NotEarlier s (execBrownoutGraceExpiry s) := by
  unfold execBrownoutGraceExpiry
  split
  · exact ((Only.notBefore_refl _ s).modCache rfl _ |>.refreshHeld rfl).notEarlier
  · exact .refl s

theorem execBellowsTestDeadline_notEarlier (s : State) : NotEarlier s (execBellowsTestDeadline s) := by
  unfold execBellowsTestDeadline
  split
  · exact ((Only.notBefore_refl _ s).testStep2 rfl).notEarlier
  · exact .refl s

theorem execGraceTimeExpiry_notEarlier (s : State) : NotEarlier s (execGraceTimeExpiry s) := by
  unfold execGraceTimeExpiry
  split
  · split
    · exact ((((Only.notBefore_refl _ s).setMute rfl _).setDuty rfl).countThrottle rfl _).notEarlier
    · exact ⟨_, rfl, (((Only.refl untimed s).setMute rfl _).setDuty rfl |>.countThrottle rfl _).now.ge⟩
  · exact .refl s

theorem execFwWatchdogExpiry_notEarlier (s : State) : NotEarlier s (execFwWatchdogExpiry s) := by
  unfold execFwWatchdogExpiry
  split
  · exact ((Only.notBefore_refl _ s).watchdogExpires rfl).notEarlier
  · exact .refl s

theorem execBringupTrialTimeout_notEarlier (s : State) : NotEarlier s (execBringupTrialTimeout s) := by
  unfold execBringupTrialTimeout
  split
  · exact ((Only.notBefore_refl _ s).restartAtFive rfl).notEarlier
  · exact .refl s

theorem execTrialAutoConfirm_notEarlier (s : State) : NotEarlier s (execTrialAutoConfirm s) := by
  unfold execTrialAutoConfirm
  split
  · exact ((Only.notBefore_refl _ s).confirmTrial rfl _).notEarlier
  · exact .refl s

theorem execActivationTimeout_notEarlier (s : State) : NotEarlier s (execActivationTimeout s) := by
  unfold execActivationTimeout
  split
  · exact .refl s
  split
  · exact ((Only.notBefore_refl _ s).watchdogExpires rfl).notEarlier
  · exact .refl s

theorem execChallengeExpiry_notEarlier (i : Fin 8) (s : State) : NotEarlier s (execChallengeExpiry i s) := by
  unfold execChallengeExpiry
  split
  · exact .refl s
  · exact ((Only.notBefore_refl _ s).challengeExpiry rfl _).notEarlier

/-! ## Ends of timers: ports, instances, epochs -/

theorem execApstIdleExpiry_notEarlier (p : PortId) (s : State) : NotEarlier s (execApstIdleExpiry p s) := by
  unfold execApstIdleExpiry
  extract_lets
  split
  · exact (((Only.notBefore_refl _ s).modPort rfl _ _).reviewPs rfl).notEarlier
  · exact .refl s

theorem execDeferredErrorEventTimeout_notEarlier (p : PortId) (s : State) : NotEarlier s (execDeferredErrorEventTimeout p s) := by
  unfold execDeferredErrorEventTimeout
  split
  · exact .refl s
  · exact (Only.each _ _ (fun _ _ h => h.modInst rfl _ _) ((Only.notBefore_refl _ s).postVendor rfl _ _)).notEarlier

theorem execShareDrainLimitExpiry_notEarlier (p : PortId) (n : LocalId) (s : State) : NotEarlier s (execShareDrainLimitExpiry p n s) := by
  unfold execShareDrainLimitExpiry
  split
  · exact .refl s
  split
  · exact .refl s
  · exact ((Only.notBefore_refl _ s).applyChange rfl _ |>.reviewRegions rfl).notEarlier

theorem execMaintenanceHoldExpiry_notEarlier (s : State) : NotEarlier s (execMaintenanceHoldExpiry s) := by
  unfold execMaintenanceHoldExpiry
  split
  · exact ((Only.notBefore_refl _ s).endHold rfl).notEarlier
  · exact .refl s

theorem execDrainInterruptTimeout_notEarlier (s : State) : NotEarlier s (execDrainInterruptTimeout s) := by
  unfold execDrainInterruptTimeout
  split
  · exact .refl s
  extract_lets u
  refine Only.notEarlier (Only.retry (Only.foldl _ _ (fun t c h => ?_) (.refl _ u)) rfl)
  split
  · exact h.complete rfl _ _ _
  extract_lets v
  have hv : Only untimed u v := .ite (fun _ => h.endWrite rfl _) (fun _ => h)
  exact (hv.modCache rfl _).endCaught rfl _ _

theorem execJournalEpochClose_notEarlier (s : State) : NotEarlier s (execJournalEpochClose s) := by
  unfold execJournalEpochClose
  split
  · exact .refl s
  split
  · split
    · exact ⟨_, rfl, ((Only.refl untimed s).closeEpoch rfl).now.ge⟩
    · exact ((Only.notBefore_refl _ s).closeEpoch rfl).notEarlier
  · exact .refl s

/-! ## Ends of timers: stripes, the map cache, media, links -/

theorem execStripeIdleClose_notEarlier (i : Nat) (s : State) : NotEarlier s (execStripeIdleClose i s) := by
  unfold execStripeIdleClose
  split
  · exact .refl s
  split
  · exact ((Only.notBefore_refl _ s).closeStripe rfl _ |>.refreshHeld rfl).notEarlier
  · exact .refl s

theorem execWriteThroughStripeClose_notEarlier (i : Nat) (s : State) : NotEarlier s (execWriteThroughStripeClose i s) := by
  unfold execWriteThroughStripeClose
  split
  · exact .refl s
  split
  · exact .refl s
  split
  · exact (((Only.notBefore_refl _ s).closeStripe rfl _).refreshHeld rfl).notEarlier
  · exact .refl s

theorem execWayErrorWindowExpiry_notEarlier (x : SliceId) (set : Fin 256) (way : Fin 17) (s : State) : NotEarlier s (execWayErrorWindowExpiry x set way s) := by
  unfold execWayErrorWindowExpiry
  extract_lets
  split
  · exact .refl s
  · exact ((Only.notBefore_refl _ s).modSlice rfl _ _).notEarlier

theorem execSuspendWindowExpiry_notEarlier (l : LinkId) (d : Fin 18) (s : State) : NotEarlier s (execSuspendWindowExpiry l d s) := by
  unfold execSuspendWindowExpiry
  split
  · exact .refl s
  split
  · exact .refl s
  split
  · exact ((Only.notBefore_refl _ s).resumeOp rfl _).notEarlier
  · exact .refl s

theorem execDieReadTimeout_notEarlier (l : LinkId) (tag : Nat) (s : State) : NotEarlier s (execDieReadTimeout l tag s) := by
  unfold execDieReadTimeout
  split
  · exact .refl s
  split
  · exact .refl s
  extract_lets u
  have hu : Only untimed u u := .refl _ _
  split
  · exact (hu.toStep4 rfl _).notEarlier
  split
  · exact (hu.toStep4 rfl _).notEarlier
  · exact ((hu.suspectDie rfl _ _).allToStep4 rfl _).notEarlier

theorem execDieOpTimeout_notEarlier (l : LinkId) (d : Fin 18) (s : State) : NotEarlier s (execDieOpTimeout l d s) := by
  unfold execDieOpTimeout
  extract_lets
  split
  · split
    · exact ((Only.notBefore_refl _ s).failDie rfl _ _).notEarlier
    · exact .refl s
  split
  · exact .refl s
  extract_lets limit u v
  split
  · exact (((Only.notBefore_refl _ s).modOp rfl _ _).suspectDie rfl _ _).notEarlier
  split
  · have hu : Only untimed _ u := (Only.notBefore_refl _ s).modOp rfl _ _
    have hv : Only untimed (s.notBefore limit) v := by
      unfold v
      split
      · exact hu.programEnded rfl _ _ _ _ _ _
      · exact hu.addOp rfl _
    exact ((hv.suspectDie rfl _ _).retry rfl).notEarlier
  · exact .refl s

theorem execLdpcDecodeTimeout_notEarlier (q : QuadId) (s : State) : NotEarlier s (execLdpcDecodeTimeout q s) := by
  unfold execLdpcDecodeTimeout
  split
  · exact .refl s
  extract_lets _ u
  have hu : Only untimed _ u := (Only.notBefore_refl _ s).modOp rfl _ _
  split
  · exact ((hu.modSpares rfl _).packageSpare rfl _ _ _ _ _).notEarlier
  · exact (((hu.modSpares rfl _).report rfl _ _ _ _).reviewEngines rfl _).notEarlier

theorem execDieTimeoutPauseExpiry_notEarlier (l : LinkId) (s : State) : NotEarlier s (execDieTimeoutPauseExpiry l s) := by
  unfold execDieTimeoutPauseExpiry
  split
  · exact .refl s
  extract_lets u v
  have hv : Only untimed u v := .ite (fun _ => (Only.refl _ u).dumpWithout rfl _) (fun _ => .refl _ u)
  exact ((hv.allToStep4 rfl _).retry rfl).notEarlier

theorem execReplayTimeout_notEarlier (l : LinkId) (s : State) : NotEarlier s (execReplayTimeout l s) := by
  unfold execReplayTimeout
  extract_lets
  split
  · exact (((Only.notBefore_refl _ s).replay rfl _).retry rfl).notEarlier
  · exact .refl s

theorem execPodStatusMissing_notEarlier (l : LinkId) (s : State) : NotEarlier s (execPodStatusMissing l s) := by
  unfold execPodStatusMissing
  split
  · exact ((Only.notBefore_refl _ s).podSensorFailed rfl _).notEarlier
  · exact .refl s

/-! ## Ends of timers: stops -/

theorem execStopComputeTimeout_notEarlier (n : StopId) (tag : Nat) (s : State) : NotEarlier s (execStopComputeTimeout n tag s) := by
  unfold execStopComputeTimeout
  split
  · exact .refl s
  split
  · exact .refl s
  split
  · exact .refl s
  · exact ((((((Only.notBefore_refl _ s).emit rfl _).endTag rfl _ _).markGone rfl _ _).complete rfl _ _ _).stopViolation rfl _ _ _ |>.checkDrain rfl _).notEarlier

theorem execStopXformTimeout_notEarlier (n : StopId) (tag : Nat) (s : State) : NotEarlier s (execStopXformTimeout n tag s) := by
  unfold execStopXformTimeout
  split
  · exact .refl s
  split
  · exact .refl s
  split
  · exact ((Only.notBefore_refl _ s).xformFault rfl _).notEarlier
  · exact .refl s

theorem execStopControlReadTimeout_notEarlier (n : StopId) (tag : Fin 16) (s : State) : NotEarlier s (execStopControlReadTimeout n tag s) := by
  unfold execStopControlReadTimeout
  split
  · exact .refl s
  · exact (((Only.notBefore_refl _ s).stopViolation rfl _ _ _).ctlAnswer rfl _ _ _).notEarlier

theorem execStopDrainLimitExpiry_notEarlier (n : StopId) (s : State) : NotEarlier s (execStopDrainLimitExpiry n s) := by
  unfold execStopDrainLimitExpiry
  split
  · exact .refl s
  split
  · exact .refl s
  · exact ((Only.notBefore_refl _ s).endDrain rfl _).notEarlier

/-! ## Every command -/

/-- A frame without the fields this command is not one of the few to touch. -/
def fits (c : Instr) (T : List Fld) : Bool :=
  (timed c || !T.contains .now) && (burns c || !T.contains .otp) && (seals c || !T.contains .sealed) && (formats c || !T.contains .format) &&
    (fetches c || !T.contains .fetches) && ((c matches .latchChange .. | .motionWindow _) || !T.contains .mech)

/-- A command answers a next state, no earlier, within a frame that fits it. -/
def Fits (c : Instr) (s : State) (o : Host.Outcome State Fault Refusal) : Prop :=
  NotEarlier s o ∧ ∃ T, fits c T = true ∧ OnlyX T s o

theorem Fits.timed {T : List Fld} {c : Instr} {o : Host.Outcome State Fault Refusal} (h : OnlyX T s o) (hT : fits c T = true) (hs : NotEarlier s o) : Fits c s o :=
  ⟨hs, T, hT, h⟩

theorem Fits.still {T : List Fld} {c : Instr} {o : Host.Outcome State Fault Refusal} (h : OnlyX T s o) (hT : (fits c T && !T.contains .now) = true) : Fits c s o := by
  obtain ⟨hfits, hnow⟩ := Bool.and_eq_true_iff.mp hT
  obtain ⟨t, ho, hst⟩ := h
  exact ⟨⟨t, ho, (hst.now (by simpa using hnow)).ge⟩, T, hfits, t, ho, hst⟩

theorem exec_fits (c : Instr) (s : State) : Fits c s (exec c s) :=
  match c with
  | .inputStartThreshold => .still (execInputStartThreshold_only s) rfl
  | .brownoutWatchEntry => .still (execBrownoutWatchEntry_only s) rfl
  | .brownoutGraceExpiry => .timed (execBrownoutGraceExpiry_only s) rfl (execBrownoutGraceExpiry_notEarlier s)
  | .brownoutWatchExit => .still (execBrownoutWatchExit_only s) rfl
  | .bellowsSwitchConnect recovered => .still (execBellowsSwitchConnect_only recovered s) rfl
  | .powerFailRecognised => .still (execPowerFailRecognised_only s) rfl
  | .flushDumpComplete => .still (execFlushDumpComplete_only s) rfl
  | .powerStageStop => .still (execPowerStageStop_only s) rfl
  | .overvoltageTrip => .still (execOvervoltageTrip_only s) rfl
  | .powerStageFault f => .still (execPowerStageFault_only f s) rfl
  | .podRailPresenceLost => .still (execPodRailPresenceLost_only s) rfl
  | .bellowsTest => .still (execBellowsTest_only s) rfl
  | .bellowsTestMeasured capUf esr ok => .still (execBellowsTestMeasured_only capUf esr ok s) rfl
  | .sensorSample x => .still (execSensorSample_only x s) rfl
  | .thermalComparatorTrip zone => .still (execThermalComparatorTrip_only zone s) rfl
  | .graceTimeExpiry => .timed (execGraceTimeExpiry_only s) rfl (execGraceTimeExpiry_notEarlier s)
  | .m3AdmissionInterval => .still (execM3AdmissionInterval_only s) rfl
  | .clockCheckWindow houseRtc houseRing ringRtc => .still (execClockCheckWindow_only houseRtc houseRing ringRtc s) rfl
  | .rootPllLossOfLock => .still (execRootPllLossOfLock_only s) rfl
  | .pllRetry locks agrees => .still (execPllRetry_only locks agrees s) rfl
  | .moduleResetAssert => .still (execModuleResetAssert_only s) rfl
  | .moduleResetRelease => .still (execModuleResetRelease_only s) rfl
  | .latchChange moduleClosed enclClosed => .still (execLatchChange_only moduleClosed enclClosed s) rfl
  | .motionWindow mg => .still (execMotionWindow_only mg s) rfl
  | .keepCellCheck mv => .still (execKeepCellCheck_only mv s) rfl
  | .fwWatchdogFeed value => .still (execFwWatchdogFeed_only value s) rfl
  | .fwWatchdogExpiry => .timed (execFwWatchdogExpiry_only s) rfl (execFwWatchdogExpiry_notEarlier s)
  | .spWatchdogExpiry => .still (execSpWatchdogExpiry_only s) rfl
  | .lockstepMismatch => .still (execLockstepMismatch_only s) rfl
  | .spRestartComplete => .still (execSpRestartComplete_only s) rfl
  | .rootPllLock f => .still (execRootPllLock_only f s) rfl
  | .firmwareBundleStart ok => .still (execFirmwareBundleStart_only ok s) rfl
  | .memoryTrainingComplete => .still (execMemoryTrainingComplete_only s) rfl
  | .podDescriptorRead pods => .still (execPodDescriptorRead_only pods s) rfl
  | .voicingLoad => .still (execVoicingLoad_only s) rfl
  | .podPowerWave => .still (execPodPowerWave_only s) rfl
  | .laneTrainingComplete l ok => .still (execLaneTrainingComplete_only l ok s) rfl
  | .mapRecovery f => .still (execMapRecovery_only f s) rfl
  | .bringupFinalRound x badImages => .still (execBringupFinalRound_only x badImages s) rfl
  | .bringupComplete => .still (execBringupComplete_only s) rfl
  | .bringupTrialTimeout => .timed (execBringupTrialTimeout_only s) rfl (execBringupTrialTimeout_notEarlier s)
  | .perstAssert p => .still (execPerstAssert_only p s) rfl
  | .perstDeassert p => .still (execPerstDeassert_only p s) rfl
  | .refclkMeasureComplete p ppm => .still (execRefclkMeasureComplete_only p ppm s) rfl
  | .configSpaceReady p => .still (execConfigSpaceReady_only p s) rfl
  | .hotReset p => .still (execHotReset_only p s) rfl
  | .linkDown p disabled => .still (execLinkDown_only p disabled s) rfl
  | .linkRecoveryEntry p => .still (execLinkRecoveryEntry_only p s) rfl
  | .linkReturnToL0 p => .still (execLinkReturnToL0_only p s) rfl
  | .pcieLinkTrained p gen width => .still (execPcieLinkTrained_only p gen width s) rfl
  | .functionLevelReset p => .still (execFunctionLevelReset_only p s) rfl
  | .ccEnSet p css iosqes iocqes asqs acqs => .still (execCcEnSet_only p css iosqes iocqes asqs acqs s) rfl
  | .ccEnClear p => .still (execCcEnClear_only p s) rfl
  | .shutdownNotification p => .still (execShutdownNotification_only p s) rfl
  | .shutdownComplete p => .still (execShutdownComplete_only p s) rfl
  | .d3hotEntry p => .still (execD3hotEntry_only p s) rfl
  | .d0Return p => .still (execD0Return_only p s) rfl
  | .pasidEnableClear p => .still (execPasidEnableClear_only p s) rfl
  | .msixVectorUnmask p u => .still (execMsixVectorUnmask_only p u s) rfl
  | .sqTailDoorbell p w aligned32 value => .still (execSqTailDoorbell_only p w aligned32 value s) rfl
  | .cqHeadDoorbell p w aligned32 value => .still (execCqHeadDoorbell_only p w aligned32 value s) rfl
  | .mctpVdmMessage p r => .still (execMctpVdmMessage_only p r s) rfl
  | .stopWindowAccess p n off write => .still (execStopWindowAccess_only p n off write s) rfl
  | .sqEntryFetch p n qid entries => .still (execSqEntryFetch_only p n qid entries s) rfl
  | .hostDmaFailure p t f => .still (execHostDmaFailure_only p t f s) rfl
  | .admissionRound q => .still (execAdmissionRound_only q s) rfl
  | .capAllowanceInterval q => .still (execCapAllowanceInterval_only q s) rfl
  | .hostViolWindowRoll => .still (execHostViolWindowRoll_only s) rfl
  | .deferredErrorEventTimeout p => .timed (execDeferredErrorEventTimeout_only p s) rfl (execDeferredErrorEventTimeout_notEarlier p s)
  | .createIoSq c => .still (execCreateIoSq_only c s) rfl
  | .deleteIoSq c => .still (execDeleteIoSq_only c s) rfl
  | .createIoCq c => .still (execCreateIoCq_only c s) rfl
  | .deleteIoCq c => .still (execDeleteIoCq_only c s) rfl
  | .getLogErrorInfo c => .still (execGetLogErrorInfo_only c s) rfl
  | .getLogSmart c => .still (execGetLogSmart_only c s) rfl
  | .getLogFwSlot c => .still (execGetLogFwSlot_only c s) rfl
  | .getLogCommandsEffects c => .still (execGetLogCommandsEffects_only c s) rfl
  | .getLogSelfTest c => .still (execGetLogSelfTest_only c s) rfl
  | .getLogDeferredErrors c => .still (execGetLogDeferredErrors_only c s) rfl
  | .getLogInstanceCounters c => .still (execGetLogInstanceCounters_only c s) rfl
  | .getLogLatencyHistograms c => .still (execGetLogLatencyHistograms_only c s) rfl
  | .getLogMediaHealth c => .still (execGetLogMediaHealth_only c s) rfl
  | .getLogStops c => .still (execGetLogStops_only c s) rfl
  | .getLogPowerThermal c => .still (execGetLogPowerThermal_only c s) rfl
  | .getLogUpdateState c => .still (execGetLogUpdateState_only c s) rfl
  | .getLogDieStatistics c => .still (execGetLogDieStatistics_only c s) rfl
  | .getLogEventJournal c => .still (execGetLogEventJournal_only c s) rfl
  | .getLogSpareReserves c => .still (execGetLogSpareReserves_only c s) rfl
  | .getLogModuleState c => .still (execGetLogModuleState_only c s) rfl
  | .identifyController c => .still (execIdentifyController_only c s) rfl
  | .identifyNamespace c => .still (execIdentifyNamespace_only c s) rfl
  | .identifyNsList c => .still (execIdentifyNsList_only c s) rfl
  | .identifyNsDescriptors c => .still (execIdentifyNsDescriptors_only c s) rfl
  | .identifyControllerList c => .still (execIdentifyControllerList_only c s) rfl
  | .abort c => .still (execAbort_only c s) rfl
  | .setFeaturesArbitration c => .still (execSetFeaturesArbitration_only c s) rfl
  | .setFeaturesPowerMgmt c => .still (execSetFeaturesPowerMgmt_only c s) rfl
  | .setFeaturesTempThreshold c => .still (execSetFeaturesTempThreshold_only c s) rfl
  | .setFeaturesErrorRecovery c => .still (execSetFeaturesErrorRecovery_only c s) rfl
  | .setFeaturesNumberOfQueues c => .still (execSetFeaturesNumberOfQueues_only c s) rfl
  | .setFeaturesIntCoalescing c => .still (execSetFeaturesIntCoalescing_only c s) rfl
  | .setFeaturesIntVectorConfig c => .still (execSetFeaturesIntVectorConfig_only c s) rfl
  | .setFeaturesWriteAtomicity c => .still (execSetFeaturesWriteAtomicity_only c s) rfl
  | .setFeaturesAsyncEventConfig c => .still (execSetFeaturesAsyncEventConfig_only c s) rfl
  | .setFeaturesApst c => .still (execSetFeaturesApst_only c s) rfl
  | .setFeaturesTimestamp c => .still (execSetFeaturesTimestamp_only c s) rfl
  | .getFeatures c => .still (execGetFeatures_only c s) rfl
  | .apstIdleExpiry p => .timed (execApstIdleExpiry_only p s) rfl (execApstIdleExpiry_notEarlier p s)
  | .powerStateEntryStart => .still (execPowerStateEntryStart_only s) rfl
  | .ps4DroneExcursion finished => .still (execPs4DroneExcursion_only finished s) rfl
  | .asyncEventRequest c => .still (execAsyncEventRequest_only c s) rfl
  | .namespaceCreate c => .still (execNamespaceCreate_only c s) rfl
  | .namespaceDelete c => .still (execNamespaceDelete_only c s) rfl
  | .namespaceAttach c => .still (execNamespaceAttach_only c s) rfl
  | .namespaceDetach c => .still (execNamespaceDetach_only c s) rfl
  | .firmwareImageDownload c => .still (execFirmwareImageDownload_only c s) rfl
  | .firmwareCommitVerify c => .still (execFirmwareCommitVerify_only c s) rfl
  | .firmwareCommitNextBoot c => .still (execFirmwareCommitNextBoot_only c s) rfl
  | .firmwareCommitConfirm c => .still (execFirmwareCommitConfirm_only c s) rfl
  | .firmwareCommitActivate c => .still (execFirmwareCommitActivate_only c s) rfl
  | .updateVerificationComplete f => .still (execUpdateVerificationComplete_only f s) rfl
  | .activationServe => .still (execActivationServe_only s) rfl
  | .activationTimeout => .timed (execActivationTimeout_only s) rfl (execActivationTimeout_notEarlier s)
  | .trialAutoConfirm => .timed (execTrialAutoConfirm_only s) rfl (execTrialAutoConfirm_notEarlier s)
  | .flashOperationComplete bank => .still (execFlashOperationComplete_only bank s) rfl
  | .deviceSelfTestShort c => .still (execDeviceSelfTestShort_only c s) rfl
  | .deviceSelfTestExtended c => .still (execDeviceSelfTestExtended_only c s) rfl
  | .deviceSelfTestAbort c => .still (execDeviceSelfTestAbort_only c s) rfl
  | .extendedSelfTestEnd result => .still (execExtendedSelfTestEnd_only result s) rfl
  | .directiveSend c => .still (execDirectiveSend_only c s) rfl
  | .directiveReceive c => .still (execDirectiveReceive_only c s) rfl
  | .nvmeMiSend c r => .still (execNvmeMiSend_only c r s) rfl
  | .nvmeMiReceive c => .still (execNvmeMiReceive_only c s) rfl
  | .formatNvm c => .still (execFormatNvm_only c s) rfl
  | .formatNvmAll c => .still (execFormatNvmAll_only c s) rfl
  | .createInstance c => .still (execCreateInstance_only c s) rfl
  | .instanceReport c => .still (execInstanceReport_only c s) rfl
  | .destroyInstance c => .still (execDestroyInstance_only c s) rfl
  | .changeShare c => .still (execChangeShare_only c s) rfl
  | .shareDrainEnd p n => .still (execShareDrainEnd_only p n s) rfl
  | .shareDrainLimitExpiry p n => .timed (execShareDrainLimitExpiry_only p n s) rfl (execShareDrainLimitExpiry_notEarlier p n s)
  | .resetInstance c => .still (execResetInstance_only c s) rfl
  | .proxyAdmin c => .still (execProxyAdmin_only c s) rfl
  | .lendMapMemory c => .still (execLendMapMemory_only c s) rfl
  | .reclaimMapMemory c => .still (execReclaimMapMemory_only c s) rfl
  | .t2AccessFailure p lend f => .still (execT2AccessFailure_only p lend f s) rfl
  | .bindStop c => .still (execBindStop_only c s) rfl
  | .unbindStop c => .still (execUnbindStop_only c s) rfl
  | .loadStopImageTransfer c => .still (execLoadStopImageTransfer_only c s) rfl
  | .loadStopImageLoad c bodyOk compileSig operatorSig => .still (execLoadStopImageLoad_only c bodyOk compileSig operatorSig s) rfl
  | .loadStopImageReload c => .still (execLoadStopImageReload_only c s) rfl
  | .loadStopImageDiscard c => .still (execLoadStopImageDiscard_only c s) rfl
  | .voicingSelect c => .still (execVoicingSelect_only c s) rfl
  | .voicingSelectDryRun c => .still (execVoicingSelectDryRun_only c s) rfl
  | .cryptoErase c => .still (execCryptoErase_only c s) rfl
  | .getChallenge h key => .still (execGetChallenge_only h key s) rfl
  | .challengeExpiry n => .timed (execChallengeExpiry_only n s) rfl (execChallengeExpiry_notEarlier n s)
  | .readIdentity h => .still (execReadIdentity_only h s) rfl
  | .readStatus h => .still (execReadStatus_only h s) rfl
  | .setThreshOvr h value => .still (execSetThreshOvr_only h value s) rfl
  | .clearBackupWarning h => .still (execClearBackupWarning_only h s) rfl
  | .releaseSafeHold h fresh => .still (execReleaseSafeHold_only h fresh s) rfl
  | .setUpdateLock h lock => .still (execSetUpdateLock_only h lock s) rfl
  | .setRpl h level strap => .still (execSetRpl_only h level strap s) rfl
  | .loadKey h slot persist unwraps kcv => .still (execLoadKey_only h slot persist unwraps kcv s) rfl
  | .clearKey h slot => .still (execClearKey_only h slot s) rfl
  | .rotateOperatorKey h hash strap => .still (execRotateOperatorKey_only h hash strap s) rfl
  | .revokeImageKey h entry => .still (execRevokeImageKey_only h entry s) rfl
  | .maintenanceHold seconds => .still (execMaintenanceHold_only seconds s) rfl
  | .maintenanceHoldRelease => .still (execMaintenanceHoldRelease_only s) rfl
  | .maintenanceHoldExpiry => .timed (execMaintenanceHoldExpiry_only s) rfl (execMaintenanceHoldExpiry_notEarlier s)
  | .deviceEpochDrainEnd => .still (execDeviceEpochDrainEnd_only s) rfl
  | .drainInterruptTimeout => .timed (execDrainInterruptTimeout_only s) rfl (execDrainInterruptTimeout_notEarlier s)
  | .flush c => .still (execFlush_only c s) rfl
  | .write c => .still (execWrite_only c s) rfl
  | .read c => .still (execRead_only c s) rfl
  | .writeZeroes c => .still (execWriteZeroes_only c s) rfl
  | .datasetManagement c => .still (execDatasetManagement_only c s) rfl
  | .verify c => .still (execVerify_only c s) rfl
  | .compute c => .still (execCompute_only c s) rfl
  | .computeCopy c => .still (execComputeCopy_only c s) rfl
  | .cacheSpaceGrant => .still (execCacheSpaceGrant_only s) rfl
  | .writeCommit c blocks => .still (execWriteCommit_only c blocks s) rfl
  | .mergeReadComplete c unit => .still (execMergeReadComplete_only c unit s) rfl
  | .stripeIdleClose n => .timed (execStripeIdleClose_only n s) rfl (execStripeIdleClose_notEarlier n s)
  | .writeThroughStripeClose n => .timed (execWriteThroughStripeClose_only n s) rfl (execWriteThroughStripeClose_notEarlier n s)
  | .hbmUncorrectableError muns accumulators => .still (execHbmUncorrectableError_only muns accumulators s) rfl
  | .journalEpochClose => .timed (execJournalEpochClose_only s) rfl (execJournalEpochClose_notEarlier s)
  | .journalSealCommit => .still (execJournalSealCommit_only s) rfl
  | .chanterIssue l die => .still (execChanterIssue_only l die s) rfl
  | .suspendWindowExpiry l die => .timed (execSuspendWindowExpiry_only l die s) rfl (execSuspendWindowExpiry_notEarlier l die s)
  | .dieReadTimeout l tag => .timed (execDieReadTimeout_only l tag s) rfl (execDieReadTimeout_notEarlier l tag s)
  | .dieOpTimeout l die => .timed (execDieOpTimeout_only l die s) rfl (execDieOpTimeout_notEarlier l die s)
  | .linkFrameReceived l f => .still (execLinkFrameReceived_only l f s) rfl
  | .replayTimeout l => .timed (execReplayTimeout_only l s) rfl (execReplayTimeout_notEarlier l s)
  | .podViolWindowRoll => .still (execPodViolWindowRoll_only s) rfl
  | .fecLockLoss l => .still (execFecLockLoss_only l s) rfl
  | .linkRecoveryStepResult l restored => .still (execLinkRecoveryStepResult_only l restored s) rfl
  | .dieTimeoutPauseExpiry l => .timed (execDieTimeoutPauseExpiry_only l s) rfl (execDieTimeoutPauseExpiry_notEarlier l s)
  | .podStatusMissing l => .timed (execPodStatusMissing_only l s) rfl (execPodStatusMissing_notEarlier l s)
  | .ldpcDecodeComplete op e bits fixed => .still (execLdpcDecodeComplete_only op e bits fixed s) rfl
  | .ldpcDecodeTimeout q => .timed (execLdpcDecodeTimeout_only q s) rfl (execLdpcDecodeTimeout_notEarlier q s)
  | .coreHeartbeatMiss q core => .still (execCoreHeartbeatMiss_only q core s) rfl
  | .moverNoProgress m => .still (execMoverNoProgress_only m s) rfl
  | .t1MissFillComplete n => .still (execT1MissFillComplete_only n s) rfl
  | .mapFetchComplete nsid line => .still (execMapFetchComplete_only nsid line s) rfl
  | .mapCacheWayError n set way uncorrectable tagLost => .still (execMapCacheWayError_only n set way uncorrectable tagLost s) rfl
  | .wayErrorWindowExpiry n set way => .timed (execWayErrorWindowExpiry_only n set way s) rfl (execWayErrorWindowExpiry_notEarlier n set way s)
  | .mcRegionLoWrite w n value => .still (execMcRegionLoWrite_only w n value s) rfl
  | .mcClean => .still (execMcClean_only s) rfl
  | .mcInvalidate => .still (execMcInvalidate_only s) rfl
  | .mcDiscard => .still (execMcDiscard_only s) rfl
  | .mcUnlock => .still (execMcUnlock_only s) rfl
  | .mcMaintDone => .still (execMcMaintDone_only s) rfl
  | .checkpointLine nsid line => .still (execCheckpointLine_only nsid line s) rfl
  | .gcVictimStart g => .still (execGcVictimStart_only g s) rfl
  | .relocationCopyComplete g band => .still (execRelocationCopyComplete_only g band s) rfl
  | .retentionClockTick => .still (execRetentionClockTick_only s) rfl
  | .retentionRefresh g => .still (execRetentionRefresh_only g s) rfl
  | .ladderUnitRewrite mun => .still (execLadderUnitRewrite_only mun s) rfl
  | .wearLevelling g dieSet => .still (execWearLevelling_only g dieSet s) rfl
  | .writeClosedTimer g => .still (execWriteClosedTimer_only g s) rfl
  | .rebuildRowSolve id found => .still (execRebuildRowSolve_only id found s) rfl
  | .podPresenceChange l present desc => .still (execPodPresenceChange_only l present desc s) rfl
  | .baySwitchStatusPoll l st => .still (execBaySwitchStatusPoll_only l st s) rfl
  | .baySwitchIbi l st => .still (execBaySwitchIbi_only l st s) rfl
  | .droneWindow dieTime coreTime drones => .still (execDroneWindow_only dieTime coreTime drones s) rfl
  | .patrolScrub g band row finds => .still (execPatrolScrub_only g band row finds s) rfl
  | .readOffsetCalibration l die blockGroup => .still (execReadOffsetCalibration_only l die blockGroup s) rfl
  | .memoryScrub h => .still (execMemoryScrub_only h s) rfl
  | .linkAdaptation l => .still (execLinkAdaptation_only l s) rfl
  | .spareMediaVerify l die answers bad => .still (execSpareMediaVerify_only l die answers bad s) rfl
  | .vaultRearm g band => .still (execVaultRearm_only g band s) rfl
  | .reserveBandReturn g band => .still (execReserveBandReturn_only g band s) rfl
  | .podStatsRead l die resets tempMaxK => .still (execPodStatsRead_only l die resets tempMaxK s) rfl
  | .telemetrySnapshot => .still (execTelemetrySnapshot_only s) rfl
  | .eventRecorderTake => .still (execEventRecorderTake_only s) rfl
  | .stopDataOut n f => .still (execStopDataOut_only n f s) rfl
  | .stopEndFrame n f => .still (execStopEndFrame_only n f s) rfl
  | .stopMoverOut n f => .still (execStopMoverOut_only n f s) rfl
  | .stopControlResponse n tag value stable => .still (execStopControlResponse_only n tag value stable s) rfl
  | .stopIrqEdge n line => .still (execStopIrqEdge_only n line s) rfl
  | .stopDrainAck n => .still (execStopDrainAck_only n s) rfl
  | .stopDrainLimitExpiry n => .timed (execStopDrainLimitExpiry_only n s) rfl (execStopDrainLimitExpiry_notEarlier n s)
  | .stopXformTimeout n tag => .timed (execStopXformTimeout_only n tag s) rfl (execStopXformTimeout_notEarlier n tag s)
  | .stopComputeTimeout n tag => .timed (execStopComputeTimeout_only n tag s) rfl (execStopComputeTimeout_notEarlier n tag s)
  | .stopControlReadTimeout n tag => .timed (execStopControlReadTimeout_only n tag s) rfl (execStopControlReadTimeout_notEarlier n tag s)
  | .stopConfigWritten n failing => .still (execStopConfigWritten_only n failing s) rfl
  | .stopViolWindowRoll => .still (execStopViolWindowRoll_only s) rfl
  | .dmRingTailWrite m k tail descs => .still (execDmRingTailWrite_only m k tail descs s) rfl
  | .dmRingBaseWrite m k value => .still (execDmRingBaseWrite_only m k value s) rfl
  | .dmEnableWrite m k on => .still (execDmEnableWrite_only m k on s) rfl
  | .dmPauseWrite m k on => .still (execDmPauseWrite_only m k on s) rfl
  | .dmPaceRequestWrite m k on => .still (execDmPaceRequestWrite_only m k on s) rfl
  | .dmCopy m k => .still (execDmCopy_only m k s) rfl
  | .dmFill m k => .still (execDmFill_only m k s) rfl
  | .dmCheck m k => .still (execDmCheck_only m k s) rfl
  | .dmFence m k => .still (execDmFence_only m k s) rfl
  | .dmNop m k => .still (execDmNop_only m k s) rfl
  | .dmBurstComplete m k bytes e => .still (execDmBurstComplete_only m k bytes e s) rfl
  | .dmFenceReadComplete m k => .still (execDmFenceReadComplete_only m k s) rfl
  | .dmRingReadFailure m k => .still (execDmRingReadFailure_only m k s) rfl
  | .registerWrite w addr value => .still (execRegisterWrite_only w addr value s) rfl
  | .ingressBeatAccepted n mover tag seq => .still (execIngressBeatAccepted_only n mover tag seq s) rfl
  | .powerStateEntryComplete => .still (execPowerStateEntryComplete_only s) rfl
  | .bellowsTestDeadline => .timed (execBellowsTestDeadline_only s) rfl (execBellowsTestDeadline_notEarlier s)
  | .bootFlashRead bank off => .still (execBootFlashRead_only bank off s) rfl

/-- Settles O60: the frame that fits a command leaves out the fields it is not one of the few to touch. -/
theorem fewCommandsTouchFusesAndSealedState : Obligations.FewCommandsTouchFusesAndSealedState := by
  intro c s t hexec
  obtain ⟨⟨u, hu, hnow⟩, T, hfits, hframe⟩ := exec_fits c s
  obtain rfl : u = t := by rw [hu] at hexec; injection hexec
  have hst := hframe.of_next hu
  simp only [fits, Bool.and_eq_true, Bool.or_eq_true, Bool.not_eq_true'] at hfits
  obtain ⟨⟨⟨⟨⟨htime, hotp⟩, hsealed⟩, hformat⟩, hfetches⟩, hmech⟩ := hfits
  refine ⟨hnow, fun h => hst.now (htime.resolve_left ?_), fun h => hst.otp (hotp.resolve_left ?_), fun h => hst.sealed (hsealed.resolve_left ?_),
    fun h => hst.format (hformat.resolve_left ?_), fun h => hst.fetches (hfetches.resolve_left ?_), fun hlatch hmotion => hst.mech (hmech.resolve_left ?_)⟩
  iterate 5 simp [h]
  intro hc
  split at hc
  · exact hlatch _ _ rfl
  · exact hmotion _ rfl
  · exact Bool.false_ne_true hc

end Sys2Proof.Machine
end

section
/-! Proofs. The input's return and the brownout watch (R79, R525 to R528). -/
namespace Sys2Proof.Machine
-- one theorem after another: fewer threads, whose stacks are large
set_option Elab.async false

variable {s : State}

/-- Bring-up begins at its first step with what was sealed in force and no command left. -/
theorem State.startBringup_begins (s : State) :
    s.startBringup.modes.mode = .bringUp ∧ s.startBringup.modes.step = 0 ∧ s.startBringup.ctxs = [] ∧ s.startBringup.live = s.sealed := by
  have hcut := State.cutUpdate_only (s.discard false)
  exact ⟨rfl, rfl, hcut.ctxs, hcut.live⟩

/-- The input's return where no flush runs: KEEP and a bring-up that stopped begin again (R79). -/
theorem execInputStartThreshold_begins (hf : s.modes.flush = none) (hm : s.modes.mode = .keep ∨ (s.modes.mode = .bringUp ∧ s.modes.stopped = true)) :
    execInputStartThreshold s = .next (s.modPw (fun p => { p with inputOk := true })).startBringup := by
  rcases hm with hm | ⟨hm, hst⟩
  · simp [execInputStartThreshold, hf, hm]
  · simp [execInputStartThreshold, hf, hm, hst]

/-- The same where the module serves or its bring-up goes on: it notes the input. -/
theorem execInputStartThreshold_noted (hf : s.modes.flush = none) (hm : s.active = true ∨ (s.modes.mode = .bringUp ∧ s.modes.stopped = false)) :
    execInputStartThreshold s = .next (s.modPw (fun p => { p with inputOk := true })) := by
  rcases hm with ha | ⟨hm, hst⟩
  · rcases s.active_iff.mp ha with hm | hm | hm <;> simp [execInputStartThreshold, hf, hm]
  · simp [execInputStartThreshold, hf, hm, hst]

/-- Settles O3: the mode and the latches the hypotheses give decide each command's guards. -/
theorem inputAndBrownout : Obligations.InputAndBrownout := by
  refine ⟨fun s => ⟨?flushing, ?begins, ?safeHold, execInputStartThreshold_noted⟩, fun s => ⟨?entry, ?grace, ?exit, ?switch⟩⟩
  case flushing =>
    intro hf
    simp [execInputStartThreshold, hf]
  case begins =>
    intro hf hm
    have hframe := (State.startBringup_only (s.modPw (fun p => { p with inputOk := true })))
    obtain ⟨hmode, hstep, hctxs, hlive⟩ := State.startBringup_begins (s.modPw (fun p => { p with inputOk := true }))
    exact ⟨execInputStartThreshold_begins hf hm, hmode, hstep, hctxs, hlive, hframe.sealed, hframe.otp, hframe.format, hframe.now⟩
  case safeHold =>
    intro hf hm
    simp [execInputStartThreshold, hf, hm]
  case entry =>
    intro hb hi hk hf
    have hflush : s.modes.flush.any (·.onBank) = false := by
      cases h : s.modes.flush with
      | none => rfl
      | some f => exact hf f h
    simp [execBrownoutWatchEntry, hb, hi, hk, hflush]
  case grace =>
    intro hb
    simp [execBrownoutGraceExpiry, hb]
  case exit =>
    intro hb
    simp [execBrownoutWatchExit, hb]
  case switch =>
    intro r ha hk
    simp [execBellowsSwitchConnect, ha, hk]

end Sys2Proof.Machine
end

section
/-! Proofs. Bring-up steps 2 to 7 (R84, R119, R567, R590, R603). -/
namespace Sys2Proof.Machine
-- one theorem after another: fewer threads, whose stacks are large
set_option Elab.async false

variable {s : State} {f : Step2Found}

/-- What step 2 leaves to be read of the checks the partition's ROM made. -/
def State.notePowerOn (f : Step2Found) (s : State) : State :=
  s.modPart (fun p => { p with romOk := f.romOk, lockstepOk := f.lockstepOk, otpOk := f.otpOk, strap := f.ppStrap })

/-- A failed power-on check is SAFE-HOLD with nothing more of step 2 done. -/
theorem execRootPllLock_failed (hs : s.atStep 0 = true) (hi : s.pw.inputOk = true) (hf : ¬(f.romOk = true ∧ f.lockstepOk = true ∧ f.otpOk = true)) :
    execRootPllLock f s = .next ((s.notePowerOn f).enterSafe 8) := by
  have hcheck : (!f.romOk || !f.lockstepOk || !f.otpOk) = true := by
    rw [← Bool.not_and, ← Bool.not_and, Bool.not_eq_true', Bool.eq_false_iff]
    simpa [and_assoc] using hf
  simp only [execRootPllLock, hs, hi, hcheck, Bool.not_true, Bool.or_self, Bool.false_eq_true, if_false, if_true]
  rfl

/-- With every check passed only the lockout of the keep domain keeps the module from step 4. -/
theorem execRootPllLock_passed (hs : s.atStep 0 = true) (hi : s.pw.inputOk = true) (hrom : f.romOk = true) (hlock : f.lockstepOk = true) (hotp : f.otpOk = true) :
    let v := ((s.notePowerOn f).stepTwo f).setStep 2
    execRootPllLock f s = if v.keep.lockout = true then .next (v.enterSafe 5) else .next
      (let w := (v.each [0, 1] (fun b t => t.reErase b (f.tallyHeaderBad.contains b))).chooseBank
      ((w.modPw (fun p => { p with charger := true })).modModes (fun m => { m with trialStart := w.now })).setStep 4) := by
  simp only [execRootPllLock, State.notePowerOn, hs, hi, hrom, hlock, hotp, Bool.not_true, Bool.or_self, Bool.false_eq_true, if_false]

/-- Settles O7: each step runs once its number is reached; the power-on checks and the lockout decide how step 2 ends. -/
theorem powerOnChecksAndFirmware : Obligations.PowerOnChecksAndFirmware := by
  refine ⟨fun s f _ hs hi => ⟨execRootPllLock_failed hs hi, fun hrom hlock hotp => ⟨?locked, ?onward⟩⟩,
    fun s => ⟨fun hs => ⟨?started, ?failed⟩, ?trained, ?described⟩⟩
  case locked => exact fun hl => (execRootPllLock_passed hs hi hrom hlock hotp).trans (if_pos hl)
  case onward => exact fun hl => (execRootPllLock_passed hs hi hrom hlock hotp).trans (if_neg (Bool.eq_false_iff.mp hl))
  case started => simp only [exec_firmwareBundleStart, execFirmwareBundleStart, hs, Bool.not_true, Bool.false_eq_true, if_false]
  case failed => simp only [exec_firmwareBundleStart, execFirmwareBundleStart, hs, Bool.not_true, Bool.not_false, Bool.false_eq_true, if_false, if_true]
  case trained =>
    intro hs
    simp only [exec_memoryTrainingComplete, execMemoryTrainingComplete, hs, if_true]
  case described =>
    intro pods hs
    simp only [exec_podDescriptorRead, execPodDescriptorRead, hs, Bool.not_true, Bool.false_eq_true, if_false]

end Sys2Proof.Machine
end

section
/-! Proofs. Bring-up steps 11 to 13 (R85, R91, R497, R604, R652). -/
namespace Sys2Proof.Machine
-- one theorem after another: fewer threads, whose stacks are large
set_option Elab.async false

variable {s t : State} {n : Nat}

/-! ## Serving -/

theorem State.serving_iff (s : State) : s.serving = true ↔ s.modes.mode = .service ∨ s.modes.mode = .degraded := by
  simp [State.serving]

theorem State.serving_eq_of_modes (h : t.modes = s.modes) : t.serving = s.serving := by simp only [State.serving, h]

/-- A module that serves goes on serving, as SERVICE or as DEGRADED. -/
theorem State.settleMode_serving (s : State) : s.settleMode.serving = s.serving := by
  unfold State.settleMode
  split
  case isTrue h =>
    rw [h, State.serving_iff]
    exact ite_eq_or_eq _ _ _
  case isFalse => rfl

theorem State.settleMode_served (s : State) : s.settleMode.modes.served = s.modes.served := by
  unfold State.settleMode
  split <;> rfl

/-- Telling the ports that a cause of degradation came or went leaves the modes. -/
theorem State.postDegrade_modes (f : Port → Port) (s : State) : (s.allPorts (fun p t => (t.modPort p f).postOutstanding p 0xEA)).modes = s.modes :=
  (Only.allPorts _ (fun p _ h => (h.modPort rfl p f).postOutstanding rfl p 0xEA) (.refl [.ports, .insts, .ctxs, .out] s)).modes

theorem State.setDegrade_serving (bit : Nat) (on : Bool) (s : State) : (s.setDegrade bit on).serving = s.serving := by
  unfold State.setDegrade
  split
  · rfl
  · rw [State.settleMode_serving, State.serving_eq_of_modes (State.postDegrade_modes _ _)]
    rfl

theorem State.setDegrade_served (bit : Nat) (on : Bool) (s : State) : (s.setDegrade bit on).modes.served = s.modes.served := by
  unfold State.setDegrade
  split
  · rfl
  · rw [State.settleMode_served, State.postDegrade_modes]
    rfl

/-- A review of the power state moves between power states and touches no other mode. -/
theorem State.reviewPs_modes (s : State) :
    ∃ ps last entry excursion, s.reviewPs.modes = { s.modes with ps := ps, lastOpPs := last, psEntry := entry, excursion := excursion } := by
  unfold State.reviewPs
  split
  · exact ⟨_, _, _, _, rfl⟩
  split
  · exact ⟨_, _, _, _, rfl⟩
  · split <;> exact ⟨_, _, _, _, rfl⟩

/-- The module serves, and has served since bring-up (R616). -/
def State.InService (s : State) : Prop := s.modes.served = true ∧ s.serving = true

/-- What leaves the modes leaves the module in service. -/
theorem State.InService.only {T : List Fld} (h : s.InService) (hst : Only T s t) (hT : T.contains .modes = false := by decide) : t.InService := by
  have hmodes := hst.modes hT
  exact ⟨hmodes ▸ h.1, (State.serving_eq_of_modes hmodes).trans h.2⟩

theorem State.InService.setDegrade (h : s.InService) (bit : Nat) (on : Bool) : (s.setDegrade bit on).InService :=
  ⟨(s.setDegrade_served bit on).trans h.1, (s.setDegrade_serving bit on).trans h.2⟩

theorem State.InService.reviewPs (h : s.InService) : s.reviewPs.InService := by
  obtain ⟨ps, last, entry, excursion, hmodes⟩ := s.reviewPs_modes
  refine ⟨?_, s.reviewPs.serving_iff.mpr ?_⟩
  · rw [hmodes]
    exact h.1
  · rw [hmodes]
    exact s.serving_iff.mp h.2

/-! ## Step 11: recovery -/

theorem execMapRecovery_fenced (hs : s.atStep 9 = true) (hf : s.modes.fenced = true) (f : RecoveryFound) :
    execMapRecovery f s = .next ((s.restoreInsts s.jrn.defLogs).setStep 11) := by
  simp only [execMapRecovery, hs, hf, Bool.not_true, Bool.false_eq_true, if_false, if_true]

theorem execMapRecovery_media (hs : s.atStep 9 = true) (hf : s.modes.fenced = false) (f : RecoveryFound) :
    let u := s.modModes (fun m => { m with lastShutdown := s.shutdownClass f })
    execMapRecovery f s = .next (((if s.shutdownClass f = 0 then u.firstFormat f else u).recover (s.shutdownClass f) f).setStep 11) := by
  simp only [execMapRecovery, hs, hf, Bool.not_true, Bool.false_eq_true, if_false]

/-! ## Step 12: the final round -/

/-- The final round's sample decides whether the stops that are held are brought up or the module is too hot (R91). -/
theorem execBringupFinalRound_atStep (hs : s.atStep 11 = true) (x : Sample) (bad : List StopId) :
    let u := s.takeSample x
    let t := u.reviewMute.setDegrade dgBackup u.reviewMute.keep.backupWarn
    execBringupFinalRound x bad s =
      if (List.range 7).any (fun z => decide (3 ≤ (u.zone z).level)) = true then .next (u.enterSafe 2)
      else .next ((t.each (stopNos.filter (fun n => (t.holder n).isSome && !t.modes.fenced)) (fun n t => t.bringStop (bad.any (fun b => b.val == n)) n)).setStep 12) := by
  simp only [execBringupFinalRound, hs, (State.reviewMute_only _).keep, Bool.not_true, Bool.false_eq_true, if_false]

/-- The stop as its failed image leaves it (R497; log page 0xE4). -/
def State.fencedByImage (n : Nat) (s : State) : State :=
  s.modStop n (fun y => { y with state := 4, image := none, fenceCause := 4, fenceTime := s.rtc, fenceEpoch := (s.binding n).epoch, before := s.epochBack n .bringUp })

/-- A stop whose image fails its check is fenced and told of, and nothing more. -/
theorem State.bringStop_bad (n : Nat) (s : State) : Only [.ports, .insts, .ctxs, .ev, .out] (s.fencedByImage n) (s.bringStop true n) := by
  have htold := (Only.refl [.ports, .insts, .ctxs, .ev, .out] (s.fencedByImage n)).report rfl (24 + n) (evUnnamed 8 4) n 0
  simp only [State.bringStop, if_true]
  split
  · exact htold.postVendor rfl _ _
  · exact htold

theorem State.bringStop_imageless (h : (s.binding n).image = none) : s.bringStop false n = s := by
  simp [State.bringStop, h]

theorem State.bringStop_loads {i} (h : (s.binding n).image = some i) (hs : (s.store.find n).isSome = true) :
    s.bringStop false n = ({ s with store := s.store.set n i }.startEpoch n .bringUp none).endDrain n := by
  simp [State.bringStop, h, Option.isSome_iff_ne_none.mp hs]

/-! ## Step 13: service -/

/-- From step 12 the module serves, and what it resumes leaves it serving. -/
theorem execBringupComplete_serves (hs : s.atStep 12 = true) : ∃ t, execBringupComplete s = .next t ∧ t.InService := by
  unfold execBringupComplete
  rw [if_neg (by simp [hs])]
  extract_lets entered reopened enabled tried resumed timed
  have hentered : entered.InService := ⟨rfl, entered.serving_iff.mpr (ite_eq_or_eq _ _ _)⟩
  have hreopened : reopened.InService :=
    hentered.only (Only.each _ _ (fun k _ h => h.reopenInst rfl k) (.refl [.insts, .live, .jrn] _))
  have henabled : enabled.InService := by
    refine hreopened.only (Only.allPorts (T := [.ports, .insts]) _ (fun p t h => ?_) (.refl _ _))
    exact Only.modPort (.ite (fun _ => h.adminQueues rfl _ _ _) (fun _ => h)) rfl _ _
  have htried : tried.InService := henabled.only (State.beginTrial_only _)
  have hresumed : resumed.InService := by
    unfold resumed
    split
    · exact htried
    · exact (((htried.only (State.releaseVault_only _)).only (State.resumeUpkeep_only _)).only (State.setLimit_only _)).only (State.openAll_only _)
  have htimed : timed.InService := by
    unfold timed
    split
    · exact hresumed.only (State.modPw_only _ _)
    · exact hresumed
  exact ⟨_, rfl, (htimed.setDegrade _ _).reviewPs⟩

/-- Settles O9: each step runs once its number is reached. -/
theorem recoveryAndServiceEntry : Obligations.RecoveryAndServiceEntry := by
  intro s
  refine ⟨fun f hs => ⟨fun hf => execMapRecovery_fenced hs hf f, fun hf => execMapRecovery_media hs hf f⟩, fun x bad hs => ⟨?hot, ?cool⟩,
    fun n => ⟨?fenced, State.bringStop_imageless, fun i => State.bringStop_loads⟩, fun hs => ?service, ?trial⟩
  case hot => exact fun h => (execBringupFinalRound_atStep hs x bad).trans (if_pos h)
  case cool => exact fun h => (execBringupFinalRound_atStep hs x bad).trans (if_neg (Bool.eq_false_iff.mp h))
  case fenced =>
    have hframe := State.bringStop_bad n s
    have hstop : (s.bringStop true n).stop n = (s.fencedByImage n).stop n := by simp only [State.stop, hframe.stops]
    rw [hstop, hframe.live, State.fencedByImage, State.modStop_stop, if_pos rfl]
    exact ⟨rfl, rfl, rfl, rfl⟩
  case service =>
    obtain ⟨t, ht, hserved, hserving⟩ := execBringupComplete_serves hs
    exact ⟨t, ht, hserved, t.serving_iff.mp hserving⟩
  case trial =>
    intro hm hlo hhi hstage hst
    simp [execBringupTrialTimeout, hm, hlo, hhi, hstage, hst]

end Sys2Proof.Machine
end

section
/-! Proofs. A controller is enabled, disabled and shut down (R85, R86, R135, R137). -/
namespace Sys2Proof.Machine
-- one theorem after another: fewer threads, whose stacks are large
set_option Elab.async false

variable {s : State} {p : PortId}

/-- The fields of CC and AQA as the host writes them with CC.EN. -/
def Port.enabled (css iosqes iocqes asqs acqs : Nat) (t : Port) : Port :=
  { t with ccEn := true, everEn := true, css := css % 8, iosqes := iosqes % 16, iocqes := iocqes % 16, asqs := asqs % 4096, acqs := acqs % 4096 }

/-- CC.EN set on a port that answers: another command set is a fatal status, NVM's creates the admin queues (R135, R137). -/
theorem execCcEnSet_reachable (hr : (s.port p).reachable = true) (he : (s.port p).ccEn = false) (css iosqes iocqes asqs acqs : Nat) :
    let u := s.modPort p (Port.enabled css iosqes iocqes asqs acqs)
    execCcEnSet p css iosqes iocqes asqs acqs s =
      if css ≠ 0 then .next (u.modPort p (fun t => { t with cfs := true }))
      else .next (((u.adminQueues p asqs acqs).modPort p (fun t => { t with rdy := s.active && !s.hostFenced })).reviewPs) := by
  rw [execCcEnSet, if_neg (by simp [hr, he])]
  rfl

/-- With every stripe unused there is nothing of the protected cache to write out. -/
theorem State.stripes_empty (h : ∀ x ∈ s.cache.stripes, x.used = []) : s.cache.stripes.any (fun x => !x.used.isEmpty) = false := by
  simpa only [List.any_eq_false, Bool.not_eq_true', Bool.not_eq_false, List.isEmpty_iff] using h

/-- A shutdown with nothing of the port left to program: complete, and with the last port's the module's (R85, R86). -/
theorem execShutdownComplete_programmed (hshst : (s.port p).shst = 1) (hf : s.hostFenced = false)
    (hw : ∀ m ∈ s.unprogrammed (s.live.nss.map (fun e => e.1)), (s.codeword m).writer ≠ p.val + 1) :
    let t := s.modPort p (fun t => { t with shst := 2 })
    execShutdownComplete p s =
      if (!(List.range 8).all t.portQuiet) = true then .next t
      else if s.cache.stripes.any (fun x => !x.used.isEmpty) = true then .next s
      else .next (t.sealNow.writeRoot.modJrn (fun j => { j with cleanRec := true })) := by
  have hwriter : (s.unprogrammed (s.live.nss.map (fun e => e.1))).any (fun m => (s.codeword m).writer == p.val + 1) = false := by
    simpa only [List.any_eq_false, beq_iff_eq] using hw
  rw [execShutdownComplete, if_neg (by simp [hshst, hf, hwriter])]

/-- Settles O13: what the port answers, and what of its work is unprogrammed, decide each command's guards. -/
theorem enableAndShutdown : Obligations.EnableAndShutdown := by
  intro s p
  refine ⟨fun css a b q r hr he => ⟨?otherSet, ?nvm⟩, ?disable, ?notified, fun hshst hf hw => ⟨?port, ?module⟩⟩
  case otherSet => exact fun hcss => (execCcEnSet_reachable hr he css a b q r).trans (if_pos hcss)
  case nvm => exact fun hcss => (execCcEnSet_reachable hr he css a b q r).trans (if_neg (not_not.mpr hcss))
  case disable =>
    intro hr he
    simp [execCcEnClear, hr, he]
  case notified =>
    intro hr hrdy hshst
    simp [execShutdownNotification, hr, hrdy, hshst]
  case port =>
    intro hq
    exact (execShutdownComplete_programmed hshst hf hw).trans (if_pos (by rw [hq]; rfl))
  case module =>
    intro hq hempty
    exact (execShutdownComplete_programmed hshst hf hw).trans ((if_neg (by rw [hq]; decide)).trans (if_neg (by rw [State.stripes_empty hempty]; decide)))

end Sys2Proof.Machine
end

section
/-! Proofs. Set Features (R110, R141, R142, R552, R661): a feature is kept by its identifier, and SV is refused where it cannot be saved. -/
namespace Sys2Proof.Machine
-- one theorem after another: fewer threads, whose stacks are large
set_option Elab.async false

variable {s : State} {c fid : Nat} {x : Ctx}

/-! ## What every feature shares -/

/-- A feature's own effect, where SV asks for nothing it cannot have. -/
theorem State.setFeature_granted (h : AdminReady s c 0x09 x) (hfid : x.sqe.fid = fid) (hsv : x.sqe.sv = false ∨ saveable fid = true) (go : Ctx → State → State) :
    s.setFeature c fid go = go x s := by
  have hgrant : (x.sqe.sv && !saveable fid) = false := by rcases hsv with hsv | hsv <;> simp [hsv]
  rw [State.setFeature_ready h, if_neg (not_not.mpr hfid), hgrant, if_neg Bool.false_ne_true]

/-- SV on a feature that cannot be saved (R661). -/
theorem State.setFeature_unsaveable (h : AdminReady s c 0x09 x) (hfid : x.sqe.fid = fid) (hsv : x.sqe.sv = true) (hs : saveable fid = false) (go : Ctx → State → State) :
    s.setFeature c fid go = s.complete c (stSpecific 0x0D) 0 := by
  rw [State.setFeature_ready h, if_neg (not_not.mpr hfid), hsv, hs]
  rfl

/-- The value of a feature that can be saved, kept with SV. -/
def State.saveWith (x : Ctx) (key : Nat) (s : State) : State := if x.sqe.sv then s.save x.port key x.sqe.cdw11 else s

theorem State.keepFeature_saveable (h : AdminReady s c 0x09 x) (hfid : x.sqe.fid = fid) (hs : saveable fid = true) (f : W32 → Port → Port) :
    s.keepFeature c fid f = ((s.saveWith x x.sqe.fid).modPort x.port (f x.sqe.cdw11)).complete c .success 0 := by
  subst hfid
  exact State.setFeature_granted h rfl (.inr hs) _

/-! ## Two writes of one port -/

theorem Tbl.set_set {α : Type} (t : Tbl α) (k : Nat) (v w : α) : Tbl.set (Tbl.set t k v) k w = Tbl.set t k w := by
  simp [Tbl.set, Tbl.erase]

theorem State.modPort_modPort (p : Nat) (f g : Port → Port) (s : State) : (s.modPort p f).modPort p g = s.modPort p (fun t => g (f t)) := by
  have hport : (s.modPort p f).port p = f (s.port p) := (s.modPort_port p f p).trans (if_pos rfl)
  unfold State.modPort at hport ⊢
  rw [hport, Tbl.set_set]

/-! ## The features -/

theorem execSetFeaturesErrorRecovery_ready (h : AdminReady s c 0x09 x) (hfid : x.sqe.fid = 0x05) :
    execSetFeaturesErrorRecovery c s = .next (if x.sqe.cdw11.getLsbD 16 then s.complete c stInvalidField 0
      else ((s.saveWith x x.sqe.fid).modPort x.port (fun t => { t with errRec := x.sqe.cdw11 })).complete c .success 0) := by
  rw [execSetFeaturesErrorRecovery, h.1]
  simp only [State.setFeature_granted h hfid (.inr rfl), State.keepFeature_saveable h hfid rfl]

theorem execSetFeaturesIntCoalescing_ready (h : AdminReady s c 0x09 x) (hfid : x.sqe.fid = 0x08) :
    execSetFeaturesIntCoalescing c s = .next (((s.saveWith x x.sqe.fid).setCoalesce (instKey x.port 0) x.sqe.cdw11).complete c .success 0) := by
  rw [execSetFeaturesIntCoalescing, State.setFeature_granted h hfid (.inr rfl), hfid]
  rfl

theorem execSetFeaturesIntVectorConfig_ready (h : AdminReady s c 0x09 x) (hfid : x.sqe.fid = 0x09) :
    execSetFeaturesIntVectorConfig c s = .next (if s.vectorOk (instKey x.port 0) x.sqe.cdw11 then
        ((s.saveWith x (9 * 65536 + bits x.sqe.cdw11 15 0)).setVector (instKey x.port 0) x.sqe.cdw11).complete c .success 0
      else s.complete c stInvalidField 0) := by
  rw [execSetFeaturesIntVectorConfig, State.setFeature_granted h hfid (.inr rfl)]
  cases hok : s.vectorOk (instKey x.port 0) x.sqe.cdw11 <;> simp [hok, State.saveWith]

/-- APST and its table, both saved with SV (R142). -/
theorem execSetFeaturesApst_ready (h : AdminReady s c 0x09 x) (hfid : x.sqe.fid = 0x0C) {es : List (Nat × Nat)} (hdata : x.sqe.data = .apst es) :
    execSetFeaturesApst c s = .next (((if x.sqe.sv then s.modPort x.port (fun t => { t with saved := t.saved.set 0x0C x.sqe.cdw11, savedApst := some es }) else s).modPort
      x.port (fun t => { t with apstEn := x.sqe.cdw11.getLsbD 0, apst := es })).complete c .success 0) := by
  rw [execSetFeaturesApst, State.setFeature_granted h hfid (.inr rfl)]
  simp only [hdata, State.save, State.modPort_modPort]

/-- Settles O22: the identifier selects the feature, and SV is refused where `saveable` says so. -/
theorem setFeatures : Obligations.SetFeatures := by
  refine ⟨fun s c x h => ⟨?arbitration, ?errorRecovery, ?dulbe, ?atomicity, ?events, ?coalescing, ?vector⟩,
    fun s c x h => ⟨?power, ?temperature, ?queues, ?apst, ?timestamp, ?unsaveable⟩⟩
  case arbitration => exact fun hfid => congrArg Host.Outcome.next (State.keepFeature_saveable h hfid rfl _)
  case errorRecovery =>
    intro hfid hd
    exact (execSetFeaturesErrorRecovery_ready h hfid).trans (by rw [hd]; rfl)
  case dulbe =>
    intro hfid hd
    exact (execSetFeaturesErrorRecovery_ready h hfid).trans (by rw [hd]; rfl)
  case atomicity => exact fun hfid => congrArg Host.Outcome.next (State.keepFeature_saveable h hfid rfl _)
  case events =>
    intro hfid
    cases hsv : x.sqe.sv with
    | true => exact congrArg Host.Outcome.next (State.setFeature_unsaveable h hfid hsv rfl _)
    | false =>
      refine congrArg Host.Outcome.next ((State.setFeature_granted h hfid (.inl hsv) _).trans ?_)
      simp only [hsv, Bool.false_eq_true, if_false]
  case coalescing => exact execSetFeaturesIntCoalescing_ready h
  case vector => exact execSetFeaturesIntVectorConfig_ready h
  case power => exact fun hfid hsv => congrArg Host.Outcome.next (State.setFeature_granted h hfid (.inl hsv) _)
  case temperature => exact fun hfid hsv => congrArg Host.Outcome.next (State.setFeature_granted h hfid (.inl hsv) _)
  case queues => exact fun hfid hsv => congrArg Host.Outcome.next (State.setFeature_granted h hfid (.inl hsv) _)
  case apst => exact fun es hfid hdata => execSetFeaturesApst_ready h hfid hdata
  case timestamp =>
    intro ms hfid hsv hdata
    refine congrArg Host.Outcome.next ((State.setFeature_granted h hfid (.inl hsv) _).trans ?_)
    simp only [hdata]
  case unsaveable =>
    rintro f hf hfid hsv
    rcases hf with rfl | rfl | rfl | rfl | rfl <;> exact congrArg Host.Outcome.next (State.setFeature_unsaveable h hfid hsv rfl _)

end Sys2Proof.Machine
end

section
/-! Proofs. Power states are entered and left (R109 to R113, R142, R181). -/
namespace Sys2Proof.Machine
-- one theorem after another: fewer threads, whose stacks are large
set_option Elab.async false

variable {s : State} {w : Nat}

/-- An entry to come, with every port idle, begins (R110, R181). -/
theorem execPowerStateEntryStart_idle (hw : s.entryTo = some w) (hi : s.portsIdle = true) (he : s.modes.psEntry = none) (hf : s.hostFenced = false) :
    let u := s.modModes (fun m => { m with psEntry := some w })
    execPowerStateEntryStart s = if w ≠ 4 then .next u else .next (u.each (List.range u.cache.stripes.length) (fun i t =>
      match t.stripe i with
      | some x => if x.used.isEmpty then t else t.closeStripe i
      | none => t)) := by
  simp only [execPowerStateEntryStart, hw, hi, he, hf, Bool.not_true, Option.isSome_none, Bool.or_self, Bool.false_eq_true, if_false] <;> rfl

/-- An entry that has begun ends once the dies are idle, that to PS4 once the protected cache is written out (R109). -/
theorem execPowerStateEntryComplete_idle (hw : s.modes.psEntry = some w) (he : s.entryTo = some w) (hi : s.portsIdle = true) (hd : s.diesIdle = true) :
    execPowerStateEntryComplete s =
      if w = 4 then
        if s.cache.stripes.any (fun x => !x.used.isEmpty) = true then .next s
        else .next (s.sealNow.modModes (fun m => { m with ps := 4, psEntry := none }))
      else .next (s.modModes (fun m => { m with ps := w, psEntry := none })) := by
  rw [execPowerStateEntryComplete, hw]
  simp only [he, hi, hd, ne_eq, not_true_eq_false, Bool.not_true, Bool.false_eq_true, or_self, if_false]

/-- Settles O24: what is idle, and the state in force, decide each command's guards. -/
theorem powerStateEntries : Obligations.PowerStateEntries := by
  intro s
  refine ⟨?apst, fun w hw hi he hf => ⟨?begins, ?beginsPs4⟩, fun w hw he hi hd => ⟨?ends, ?endsPs4⟩, fun ha hf => ⟨?leaves, ?returns⟩⟩
  case apst =>
    intro p e hserving hrdy hen hb hlo hhi htime
    have hguard : (s.serving && (s.port p).rdy && (s.port p).apstEn && !s.portBusy p && decide (3 ≤ e.1 ∧ e.1 ≤ 4 ∧ 0 < e.2)) = true := by
      simp [hserving, hrdy, hen, hb, hlo, hhi, htime]
    exact if_pos hguard
  case begins => exact fun hne => (execPowerStateEntryStart_idle hw hi he hf).trans (if_pos hne)
  case beginsPs4 => exact fun h4 => (execPowerStateEntryStart_idle hw hi he hf).trans (if_neg (not_not.mpr h4))
  case ends => exact fun hne => (execPowerStateEntryComplete_idle hw he hi hd).trans (if_neg hne)
  case endsPs4 =>
    intro h4 hempty
    exact (execPowerStateEntryComplete_idle hw he hi hd).trans ((if_pos h4).trans (if_neg (by rw [State.stripes_empty hempty]; decide)))
  case leaves =>
    rintro hps ⟨d, hlt, hlag⟩
    have hlate : (List.range 11).any (fun d => decide (3600 < (s.drone d).lagS)) = true :=
      List.any_eq_true.mpr ⟨d, List.mem_range.mpr hlt, decide_eq_true hlag⟩
    simp [execPs4DroneExcursion, ha, hf, hps, hlate]
  case returns =>
    intro hps hex
    simp [execPs4DroneExcursion, ha, hf, hps, hex]

end Sys2Proof.Machine
end

section
/-! Proofs. QUIESCE entered and left, by maintenance holds and by self-tests (R92 to R97). -/
namespace Sys2Proof.Machine
-- one theorem after another: fewer threads, whose stacks are large
set_option Elab.async false

variable {s : State} {c : Nat} {x : Ctx}

/-! ## The same update of many ports -/

/-- An update made of each port of a list without repetitions is made of those ports alone, once. -/
theorem State.each_modPort_port (f : Port → Port) (j : Nat) {xs : List Nat} (hx : xs.Nodup) (s : State) :
    (s.each xs (fun p t => t.modPort p f)).port j = if j ∈ xs then f (s.port j) else s.port j := by
  induction xs generalizing s with
  | nil => rfl
  | cons p xs ih =>
    obtain ⟨hp, hxs⟩ := List.nodup_cons.mp hx
    have hstep : (s.each (p :: xs) (fun p t => t.modPort p f)).port j = ((s.modPort p f).each xs (fun p t => t.modPort p f)).port j := rfl
    rw [hstep, ih hxs, State.modPort_port]
    by_cases hj : j = p
    · simp [hj, hp]
    · simp [hj]

theorem State.allPorts_modPort_port (f : Port → Port) (p : PortId) (s : State) : (s.allPorts (fun p t => t.modPort p f)).port p = f (s.port p) :=
  (State.each_modPort_port f p List.nodup_range s).trans (if_pos (List.mem_range.mpr p.isLt))

/-! ## QUIESCE (R92, R93) -/

theorem State.enterQuiesce_modes (cause : Nat) (s : State) : (s.enterQuiesce cause).modes =
    { s.modes with mode := .quiesce, quiesceCause := cause, quiesceAt := s.now, ps := 0, lastOpPs := 0, psEntry := none, excursion := false } := by
  have hports (t : State) (f : Port → Port) : (t.allPorts (fun p u => u.modPort p f)).modes = t.modes :=
    (Only.allPorts _ (fun p _ h => h.modPort rfl p f) (.refl [.ports] t)).modes
  have hchans (t : State) (ks : List Nat) (f : Chan → Chan) : (t.each ks (fun k u => u.modChan k f)).modes = t.modes :=
    (Only.each _ _ (fun k _ h => h.modChan rfl k f) (.refl [.chans] t)).modes
  simp only [State.enterQuiesce, hchans, hports, State.modModes_modes]

/-- Every port tells its host that processing is paused (R92). -/
theorem State.enterQuiesce_paused (cause : Nat) (p : PortId) (s : State) : ((s.enterQuiesce cause).port p).pp = true := by
  have hchans (t : State) (ks : List Nat) (f : Chan → Chan) : (t.each ks (fun k u => u.modChan k f)).ports = t.ports :=
    (Only.each _ _ (fun k _ h => h.modChan rfl k f) (.refl [.chans] t)).ports
  have hport (t : State) (ks : List Nat) (f : Chan → Chan) : (t.each ks (fun k u => u.modChan k f)).port p = t.port p := by
    simp only [State.port, hchans]
  simp only [State.enterQuiesce, hport, State.allPorts_modPort_port]

/-- QUIESCE is left for SERVICE or DEGRADED, and the power state is reviewed. -/
theorem State.leaveQuiesce_modes (s : State) :
    ∃ ps last entry excursion, s.leaveQuiesce.modes = { s.modes with
      mode := if s.modes.degrade = 0 then .service else .degraded, quiesceCause := 0, ps := ps, lastOpPs := last, psEntry := entry, excursion := excursion } := by
  unfold State.leaveQuiesce
  extract_lets left told paused resumed
  have htold : told.modes = left.modes := (Only.allPorts _ (fun p _ h => h.modPort rfl p _) (.refl [.ports] left)).modes
  have hresumed : resumed.modes = told.modes :=
    (Only.each _ _ (fun k _ h => (h.modChan rfl k _).checkOwned rfl k) (.refl [.ports, .insts, .ctxs, .jrn, .stops, .chans, .ev, .health, .out] told)).modes
  obtain ⟨ps, last, entry, excursion, hreview⟩ := resumed.reviewPs_modes
  exact ⟨ps, last, entry, excursion, by rw [hreview, hresumed, htold]; rfl⟩

theorem State.leaveQuiesce_serving (s : State) : s.leaveQuiesce.serving = true := by
  obtain ⟨ps, last, entry, excursion, hmodes⟩ := s.leaveQuiesce_modes
  rw [State.serving_iff, hmodes]
  exact ite_eq_or_eq _ _ _

/-! ## Holds (R95, R97) -/

theorem State.hold_range {n : Nat} (h : n = 0 ∨ 600 < n) : s.hold n = (stInvalidField, s) := if_pos h

theorem State.hold_sequence {n : Nat} (hlo : 1 ≤ n) (hhi : n ≤ 600) (h : s.quiesceBusy = true ∨ s.serving = false ∨ s.hostFenced = true) :
    s.hold n = (stSequence, s) := by
  have hguard : (s.quiesceBusy || !s.serving || s.hostFenced) = true := by rcases h with h | h | h <;> simp [h]
  rw [State.hold, if_neg (by omega), if_pos hguard]

/-- QUIESCE under a hold of so many seconds. -/
def State.held (n : Nat) (s : State) : State := (s.enterQuiesce 6).modModes (fun m => { m with hold := some (s.now + n * 1000000) })

theorem State.held_modes (n : Nat) (s : State) : (s.held n).modes = { s.modes with
    mode := .quiesce, quiesceCause := 6, quiesceAt := s.now, ps := 0, lastOpPs := 0, psEntry := none, excursion := false, hold := some (s.now + n * 1000000) } := by
  rw [State.held, State.modModes_modes, State.enterQuiesce_modes]

theorem State.hold_taken {n : Nat} (hlo : 1 ≤ n) (hhi : n ≤ 600) (hq : s.quiesceBusy = false) (hs : s.serving = true) (hf : s.hostFenced = false) :
    s.hold n = (.success, s.held n) := by
  rw [State.hold, if_neg (by omega), if_neg (by simp [hq, hs, hf])]
  rfl

theorem execMaintenanceHold_answered (hm : s.miThere = true) (n : Nat) : execMaintenanceHold n s = .next (answerMi (s.hold n)) := by
  rw [execMaintenanceHold, if_pos hm]

theorem execMaintenanceHoldRelease_answered (hm : s.miThere = true) : execMaintenanceHoldRelease s = .next (answerMi s.releaseHold) := by
  rw [execMaintenanceHoldRelease, if_pos hm]

/-! ## Self-tests (R96) -/

theorem State.selfTestOf_coded {code : Nat} (h : AdminReady s c 0x14 x) (hcode : bits x.sqe.cdw10 3 0 = code) (go : State → State) :
    s.selfTestOf c code go = go s := (State.selfTestOf_ready h code go).trans (if_neg (not_not.mpr hcode))

/-- The extended test's end is logged and leaves QUIESCE. -/
theorem State.endTest_extended {t : SelfTest} (ht : s.modes.selfTest = some t) (he : t.extended = true) (r : Nat) :
    (s.endTest r).modes.selfTest = none ∧ (s.endTest r).modes.testLog = ((2, r) :: s.modes.testLog).take 20 ∧ (s.endTest r).serving = true := by
  have hend : s.endTest r = (s.modModes (fun m => { m with selfTest := none, testLog := ((2, r) :: m.testLog).take 20 })).leaveQuiesce := by
    simp [State.endTest, ht, he]
  obtain ⟨ps, last, entry, excursion, hmodes⟩ := (s.modModes (fun m => { m with selfTest := none, testLog := ((2, r) :: m.testLog).take 20 })).leaveQuiesce_modes
  rw [hend]
  refine ⟨?_, ?_, State.leaveQuiesce_serving _⟩ <;> rw [hmodes] <;> rfl

/-- Settles O30: the answer to a hold and the test a code asks for are decided by what already holds the module. -/
theorem holdsAndSelfTests : Obligations.HoldsAndSelfTests := by
  refine ⟨fun s hm => ⟨?range, ?held, ?busy, ?released, ?unheld, ?expired⟩, fun s c x => ⟨fun h hcode => ⟨?running, ?notServing, ?short⟩,
    fun h hcode => ⟨?notQuiet, ?extended⟩, ?abort, ?ended⟩⟩
  case range =>
    intro n hn
    rw [exec_maintenanceHold, execMaintenanceHold_answered hm, State.hold_range hn]
    rfl
  case held =>
    intro n hlo hhi hq hs hf
    have hmodes := s.held_modes n
    have hframe : Only [.modes, .ports, .chans] s (s.held n) := (State.enterQuiesce_only 6 s).modModes rfl _
    have hanswered : Only [.modes, .ports, .chans, .out] s ((s.held n).emit (.mi .success 0)) := (((Only.refl _ s).enterQuiesce rfl 6).modModes rfl _).emit rfl _
    refine ⟨(s.held n).emit (.mi .success 0), ?_, ?_, ?_, ?_, ?_, fun p => ?_, ?_, hanswered.live, hanswered.ctxs⟩
    · rw [exec_maintenanceHold, execMaintenanceHold_answered hm, State.hold_taken hlo hhi hq hs hf]
      rfl
    · exact congrArg Modes.mode hmodes
    · exact congrArg Modes.quiesceCause hmodes
    · exact congrArg Modes.hold hmodes
    · exact congrArg Modes.ps hmodes
    · rw [State.emit_port_row, State.held, State.modModes_port_row, State.enterQuiesce_paused]
    · rw [State.emit_out, hframe.out]
  case busy =>
    intro n hlo hhi h
    rw [exec_maintenanceHold, execMaintenanceHold_answered hm, State.hold_sequence hlo hhi h]
    rfl
  case released =>
    intro h
    rw [exec_maintenanceHoldRelease, execMaintenanceHoldRelease_answered hm, State.releaseHold, if_pos h]
    rfl
  case unheld =>
    intro h
    rw [exec_maintenanceHoldRelease, execMaintenanceHoldRelease_answered hm, State.releaseHold, if_neg (by simp [h])]
    rfl
  case expired =>
    intro t h
    simp only [exec_maintenanceHoldExpiry, execMaintenanceHoldExpiry, h, State.endHold]
  case running =>
    intro ht
    rw [exec_deviceSelfTestShort, execDeviceSelfTestShort, State.selfTestOf_coded h hcode, if_pos ht]
  case notServing =>
    intro ht hs
    rw [exec_deviceSelfTestShort, execDeviceSelfTestShort, State.selfTestOf_coded h hcode, if_neg (by simp [ht]), if_pos (by simp [hs])]
  case short =>
    intro ht hs
    rw [exec_deviceSelfTestShort, execDeviceSelfTestShort, State.selfTestOf_coded h hcode, if_neg (by simp [ht]), if_neg (by simp [hs])]
  case notQuiet =>
    intro hq
    rw [exec_deviceSelfTestExtended, execDeviceSelfTestExtended, State.selfTestOf_coded h hcode, if_pos (by rcases hq with hq | hq <;> simp [hq])]
  case extended =>
    intro hq hs ht
    rw [exec_deviceSelfTestExtended, execDeviceSelfTestExtended, State.selfTestOf_coded h hcode, if_neg (by simp [hq, hs]), if_neg (by simp [ht])]
  case abort =>
    intro h hcode
    rw [exec_deviceSelfTestAbort, execDeviceSelfTestAbort, State.selfTestOf_coded h hcode]
  case ended =>
    intro t r ht he
    obtain ⟨hnone, hlog, hserving⟩ := State.endTest_extended ht he (r % 16)
    exact ⟨_, by simp only [exec_extendedSelfTestEnd, execExtendedSelfTestEnd, ht, he, if_true], hnone, hlog, (State.serving_iff _).mp hserving⟩

end Sys2Proof.Machine
end

section
/-! Proofs. A device epoch commits once drained (R93, R94, R98, R104, R106). -/
namespace Sys2Proof.Machine
-- one theorem after another: fewer threads, whose stacks are large
set_option Elab.async false

variable {s : State} {e : DevEpoch}

/-- What a drained epoch's act begins from: the journal sealed, and the shares that were to change at the boundary changed (R104, R106). -/
def State.atBoundary (s : State) : State :=
  s.sealNow.each ((s.sealNow.insts.filter (fun (x : Nat × Inst) => x.2.change.isSome)).map (fun (x : Nat × Inst) => x.1)) (fun k t => t.applyChange k)

/-- What the keep domain notes of an update that is activated (R602). -/
def State.noteActivation (v : State) (bank : Nat) (auto : Bool) (k : Keep) : Keep :=
  { k with
    stage := 3, trialValid := true, trialBank := bank, trialVersion := (v.fwBank bank).version, trialCount := 0, bootOnce := false
    activateNext := false, autoConfirm := auto, oldArea := (v.fwBank bank).formatWrite != v.flash.formatSet }

/-- A drained epoch commits by its act (R106). -/
def State.commitEpoch (e : DevEpoch) (v : State) : State :=
  match e.act with
  | .formatAll f => ((((v.live.nss.map (fun (x : Nat × Ns) => x.2)).foldl (fun t n => t.formatNs f n) v).sealNow).answerEpoch e 0).endDevEpoch
  | .eraseAll new => ((((v.eraseKeys new ((v.live.nss.map (fun (x : Nat × Ns) => x.2)).filter (fun n => n.spec.encrypt))).sealNow).answerErase e).endDevEpoch)
  | .voicing slot cls ports => v.applyVoicing e slot cls ports
  | .rpl level src seq => v.applyRpl level src seq
  | .activate bank auto => v.commitActivation e (v.noteActivation bank auto)
  | .revert => v.commitActivation e (fun k => { k with bootOnce := true, trialCount := 3 })

theorem execDeviceEpochDrainEnd_drained (he : s.modes.epoch = some e) (hc : e.committed = false) (hm : s.modes.mode = .quiesce) (hd : s.drained = true) :
    execDeviceEpochDrainEnd s = .next (s.atBoundary.commitEpoch e) := by
  have hguard : (e.committed || s.modes.mode != .quiesce || !s.drained) = false := by simp [hc, hm, hd]
  simp only [execDeviceEpochDrainEnd, he, hguard, Bool.false_eq_true, if_false, State.commitEpoch, State.atBoundary]
  cases e.act <;> rfl

/-- An activation keeps what the update needs, and the epoch waits, committed, for the module to serve again (R602). -/
theorem State.commitActivation_leaves (f : Keep → Keep) (s : State) :
    (s.commitActivation e f).keep = f s.keep ∧ (s.commitActivation e f).part.restarting = true ∧
      (s.commitActivation e f).modes.epoch = some { e with committed := true, start := s.now } := ⟨rfl, rfl, rfl⟩

/-- The command that interrupts what waits elsewhere counts the 100 ms from QUIESCE's entry (R94). -/
theorem execDrainInterruptTimeout_quiesce (hm : s.modes.mode = .quiesce) :
    let u := s.notBefore (s.modes.quiesceAt + 100000)
    execDrainInterruptTimeout s = .next
      (((u.ctxs.filter (fun x => x.mover.isNone && u.waitsElsewhere x)).foldl (fun (t : State) (x : Ctx) =>
        if x.admin then t.complete x.id stInterrupted 0
        else ((if x.undo.isEmpty then t.endWrite x else t).modCache (fun y => { y with waiting := y.waiting.filter (fun i => !(i == x.id)) })).endCaught x.id stInterrupted) u).retry) := by
  simp only [execDrainInterruptTimeout, hm, bne_self_eq_false, Bool.false_eq_true, if_false]

/-- Settles O31: drained, the epoch commits by its act. -/
theorem deviceEpochsCommit : Obligations.DeviceEpochsCommit := by
  intro s e he hc hm
  refine ⟨execDrainInterruptTimeout_quiesce hm, fun hd => ?_⟩
  simp only [exec_deviceEpochDrainEnd, execDeviceEpochDrainEnd_drained he hc hm hd]
  refine ⟨?format, ?erase, ?voicing, ?rpl, ?activate, ?revert⟩
  case format =>
    intro f hact
    simp only [State.commitEpoch, hact, State.atBoundary]
  case erase =>
    intro new hact
    simp only [State.commitEpoch, hact, State.atBoundary]
  case voicing =>
    intro slot cls ports hact
    simp only [State.commitEpoch, hact, State.atBoundary]
  case rpl =>
    intro l src seq hact
    simp only [State.commitEpoch, hact, State.atBoundary]
  case activate =>
    intro b auto hact
    obtain ⟨cause, act, ctx, committed, start⟩ := e
    obtain rfl : act = .activate b auto := hact
    obtain ⟨hkeep, hrestarting, hepoch⟩ :=
      State.commitActivation_leaves (e := ⟨cause, .activate b auto, ctx, committed, start⟩) (s.atBoundary.noteActivation b auto) s.atBoundary
    exact ⟨_, rfl, congrArg Keep.stage hkeep, congrArg Keep.trialBank hkeep, congrArg Keep.trialValid hkeep, congrArg Keep.autoConfirm hkeep, hrestarting, hepoch⟩
  case revert =>
    intro hact
    obtain ⟨cause, act, ctx, committed, start⟩ := e
    obtain rfl : act = .revert := hact
    exact ⟨_, rfl, rfl, rfl, rfl⟩

end Sys2Proof.Machine
end

section
/-! Proofs. Authentic mailbox requests take effect (R82, R89, R559, R579, R591). -/
namespace Sys2Proof.Machine
-- one theorem after another: fewer threads, whose stacks are large
set_option Elab.async false

variable {s : State} {h : MbHdr}

/-! ## A request that is taken -/

/-- With no request waiting and none barred, a request is carried out (R564). -/
theorem State.mailbox_ready (hr : MailReady s h) (b : MbBody) : s.mailbox h b = s.mbRun h b := by
  obtain ⟨hsource, hbusy, hqueue⟩ := hr
  have htaken : s.mbTakeQueue = s := by
    rw [State.mbTakeQueue, hqueue]
    rfl
  simp only [State.mailbox, State.mbArrives, hsource, hbusy, htaken, Bool.not_true, Bool.false_eq_true, if_false]

/-- The checks of a request that passes change the partition's and the keep domain's records alone. -/
theorem State.authenticated_only (h : MbHdr) (s : State) : Only [.part, .keep] s (s.authenticated h) := by
  unfold State.authenticated
  exact .ite (fun _ => ((Only.refl _ s).modPart rfl _).modPart rfl _) (fun _ => (((Only.refl _ s).modPart rfl _).modPart rfl _).keepWrite rfl _)

/-- The checks leave the clock. -/
theorem State.authenticated_rtc (h : MbHdr) (s : State) : (s.authenticated h).rtc = s.rtc := by
  unfold State.authenticated
  extract_lets u
  split <;> rfl

/-! ## A change of level -/

theorem State.startDevEpoch_modes (cause : Nat) (act : EpochAct) (ctx : Option Nat) (s : State) : (s.startDevEpoch cause act ctx).modes =
    { (s.enterQuiesce cause).modes with epoch := some { cause := cause, act := act, ctx := ctx, start := s.now } } := by
  unfold State.startDevEpoch
  cases ctx <;> rfl

/-- The level in force is kept as it is; a refused change is answered with its RESULT (R578). -/
theorem State.mbSetRpl_answered {l : Nat} {st : Bool} (a : Authentic s h 1) (hl : l = (s.authenticated h).rpl ∨ (s.authenticated h).rplRefusal l st ≠ 0) :
    s.mbSetRpl l st h = (s.authenticated h).mbAnswer 0x0020 h (if l = (s.authenticated h).rpl then 0 else (s.authenticated h).rplRefusal l st) true [] := by
  rw [State.mbSetRpl, State.privilegedLate_authentic a]
  by_cases hinForce : l = (s.authenticated h).rpl
  · rw [if_pos hinForce, if_pos hinForce]
  · rw [if_neg hinForce, if_neg hinForce]
    simp only [ne_eq, hl.resolve_left hinForce, not_false_eq_true, if_true]

/-- A request for another level that is not refused waits for its epoch's commit point to answer (R579). -/
theorem State.mbSetRpl_accepted {l : Nat} {st : Bool} (a : Authentic s h 1) (hl : l ≠ (s.authenticated h).rpl) (hr : (s.authenticated h).rplRefusal l st = 0) :
    ∃ ctx, s.mbSetRpl l st h =
      (if l = 0 then s.authenticated h else (s.authenticated h).modPart (fun p => { p with debugOn := false })).startDevEpoch 3 (.rpl l h.src h.seq) ctx := by
  rw [State.mbSetRpl, State.privilegedLate_authentic a]
  simp only [hl, hr, ne_eq, not_true_eq_false, if_false]
  exact ⟨_, rfl⟩

/-- A release ends the lockout too (R567). -/
def State.unlocked (s : State) : State :=
  if s.keep.lockout then (s.keepWrite (fun k => { k with lockout := false, authFails := 0 })).report srcPartition 0x0E02 0 0 else s

/-- A release is granted in SAFE-HOLD once the condition of every cause is met (R82). -/
theorem State.mbRelease_authentic (a : Authentic s h 0) (x : Sample) :
    s.mbRelease x h =
      if s.modes.mode = .safeHold ∧ (s.authenticated h).modes.causes.all ((s.authenticated h).releaseOk x) = true then
        (s.authenticated h).unlocked.startBringup.mbAnswer 0x0012 h 0 true []
      else (s.authenticated h).mbAnswer 0x0012 h 5 true [] := by
  have hmode : (s.authenticated h).modes.mode = s.modes.mode := congrArg Modes.mode (State.authenticated_only h s).modes
  rw [State.mbRelease, State.privileged_authentic a]
  by_cases hgrant : s.modes.mode = .safeHold ∧ (s.authenticated h).modes.causes.all ((s.authenticated h).releaseOk x) = true
  · rw [if_neg (by simp [hmode, hgrant.1, hgrant.2]), if_pos hgrant]
    rfl
  · rw [if_pos, if_neg hgrant]
    rwa [Bool.or_eq_true, Bool.not_eq_true', bne_iff_ne, hmode, ← Bool.not_eq_true, ← not_and_or]

/-- Settles O39: an authentic request is carried out on the state its checks leave. -/
theorem authenticRequestsTakeEffect : Obligations.AuthenticRequestsTakeEffect := by
  intro s h u
  refine ⟨?threshold, ?backup, ?lock, ?unreleased, ?released, fun l st a => ⟨?inForce, ?refused, ?level⟩⟩
  case threshold =>
    intro v a
    rw [exec_setThreshOvr, execSetThreshOvr, State.mailbox_ready a.1, State.mbRun, State.mbSetThreshOvr, State.privileged_authentic a]
    split <;> rfl
  case backup =>
    intro a
    rw [exec_clearBackupWarning, execClearBackupWarning, State.mailbox_ready a.1, State.mbRun, State.mbClearBackup, State.privileged_authentic a]
  case lock =>
    intro l a
    rw [exec_setUpdateLock, execSetUpdateLock, State.mailbox_ready a.1, State.mbRun, State.mbUpdateLock, State.privileged_authentic a, State.authenticated_rtc]
  case unreleased =>
    intro x a hx
    rw [exec_releaseSafeHold, execReleaseSafeHold, State.mailbox_ready a.1, State.mbRun, State.mbRelease_authentic a, if_neg]
    rintro ⟨hm, hmet⟩
    exact hx.elim (· hm) (fun hunmet => Bool.false_ne_true (hunmet.symm.trans hmet))
  case released =>
    intro x a hm hmet w
    rw [exec_releaseSafeHold, execReleaseSafeHold, State.mailbox_ready a.1, State.mbRun, State.mbRelease_authentic a, if_pos ⟨hm, hmet⟩]
    exact ⟨rfl, (State.startBringup_begins w).1⟩
  case inForce =>
    intro hl
    rw [exec_setRpl, execSetRpl, State.mailbox_ready a.1, State.mbRun, State.mbSetRpl_answered a (.inl hl), if_pos hl]
  case refused =>
    intro hl hr
    rw [exec_setRpl, execSetRpl, State.mailbox_ready a.1, State.mbRun, State.mbSetRpl_answered a (.inr hr), if_neg hl]
  case level =>
    intro hl hr
    obtain ⟨ctx, hepoch⟩ := State.mbSetRpl_accepted a hl hr
    rw [exec_setRpl, execSetRpl, State.mailbox_ready a.1, State.mbRun, hepoch]
    generalize hv : (if l = 0 then s.authenticated h else (s.authenticated h).modPart (fun p => { p with debugOn := false })) = v
    have hpart : Only [.part, .keep] s v := by
      subst hv
      exact .ite (fun _ => State.authenticated_only h s) (fun _ => (State.authenticated_only h s).modPart rfl _)
    have hframe := State.startDevEpoch_only 3 (.rpl l h.src h.seq) ctx v
    have hmodes := State.startDevEpoch_modes 3 (.rpl l h.src h.seq) ctx v
    rw [State.enterQuiesce_modes] at hmodes
    exact ⟨_, rfl, congrArg Modes.mode hmodes, congrArg Modes.quiesceCause hmodes, hframe.otp.trans hpart.otp, hframe.live.trans hpart.live⟩

end Sys2Proof.Machine
end

section
/-! Proofs. What no operation but an epoch's close and its seal touches: the records that are sealing (R99, R259).

The frames of operations say which leave the journal whole; those that log a record, count a nonce or note a write leave the
records that are sealing. One equation an operation, from the updates up to the retry of what waits. -/
namespace Sys2Proof.Machine
-- one theorem after another: fewer threads, whose stacks are large
set_option Elab.async false

/-! ## Operations that leave the journal -/

@[simp] theorem State.lateDiscard_jrn (k n : Nat) (s : State) : (s.lateDiscard k n).jrn = s.jrn := (State.lateDiscard_only ..).jrn
@[simp] theorem State.countIo_jrn (c : Ctx) (st : Status) (s : State) : (s.countIo c st).jrn = s.jrn := (State.countIo_only ..).jrn
@[simp] theorem State.moverDone_jrn (ch id : Nat) (st : Status) (bs : List Byte) (s : State) : (s.moverDone ch id st bs).jrn = s.jrn := (State.moverDone_only ..).jrn
@[simp] theorem State.writeCqe_jrn (k cq : Nat) (e : Cqe) (s : State) : (s.writeCqe k cq e).jrn = s.jrn := (State.writeCqe_only ..).jrn
@[simp] theorem State.eraseSubs_jrn (g b : Nat) (cls : OpClass) (s : State) : (s.eraseSubs g b cls).jrn = s.jrn := (State.eraseSubs_only ..).jrn
@[simp] theorem State.queueProgram_jrn (i pos : Nat) (s : State) : (s.queueProgram i pos).jrn = s.jrn := (State.queueProgram_only ..).jrn
@[simp] theorem State.modStripe_jrn (i : Nat) (f : Stripe → Stripe) (s : State) : (s.modStripe i f).jrn = s.jrn := (State.modStripe_only ..).jrn
@[simp] theorem State.modLine_jrn (nsid line : Nat) (f : Line → Line) (s : State) : (s.modLine nsid line f).jrn = s.jrn := (State.modLine_only ..).jrn
@[simp] theorem State.modSlice_jrn (sl : Nat) (f : Slice → Slice) (s : State) : (s.modSlice sl f).jrn = s.jrn := (State.modSlice_only ..).jrn
@[simp] theorem State.tryLock_jrn (nsid line w : Nat) (s : State) : (s.tryLock nsid line w).jrn = s.jrn := (State.tryLock_only ..).jrn
@[simp] theorem State.keepOld_jrn (stamp nsid u n : Nat) (s : State) : (s.keepOld stamp nsid u n).jrn = s.jrn := (State.keepOld_only ..).jrn
@[simp] theorem State.feedStop_jrn (n id kind lba : Nat) (arg : W64) (s : State) : (s.feedStop n id kind lba arg).jrn = s.jrn := (State.feedStop_only ..).jrn
@[simp] theorem State.toTenant_jrn (c : Ctx) (o : Out) (s : State) : (s.toTenant c o).jrn = s.jrn := (State.toTenant_only ..).jrn
@[simp] theorem State.deferError_jrn (nsid u cause epoch : Nat) (s : State) : (s.deferError nsid u cause epoch).jrn = s.jrn := (State.deferError_only ..).jrn
@[simp] theorem State.leaveStop_jrn (id : Nat) (s : State) : (s.leaveStop id).jrn = s.jrn := (State.leaveStop_only ..).jrn
@[simp] theorem State.addOp_jrn (o : Op) (s : State) : (s.addOp o).jrn = s.jrn := (State.addOp_only ..).jrn
@[simp] theorem State.lookup_jrn (nsid line id : Nat) (s : State) : (s.lookup nsid line id).2.jrn = s.jrn := (State.lookup_only ..).jrn
@[simp] theorem State.lookups_jrn (nsid id : Nat) (lines : List Nat) (s : State) : (s.lookups nsid id lines).2.jrn = s.jrn := (State.lookups_only ..).jrn
@[simp] theorem State.fillUnit_jrn (v : Ns) (port : Nat) (p : Placed) (slba : Nat) (data : List (List Byte)) (s : State) :
    (s.fillUnit v port p slba data).jrn = s.jrn := (State.fillUnit_only ..).jrn
@[simp] theorem State.keysErased_jrn (nsid : W32) (s : State) : (s.keysErased nsid).jrn = s.jrn := (State.keysErased_only ..).jrn
@[simp] theorem State.healthEvent_jrn (ev object value : Nat) (on : Bool) (s : State) : (s.healthEvent ev object value on).jrn = s.jrn := (State.healthEvent_only ..).jrn
@[simp] theorem State.postSmart_jrn (bit key : Nat) (s : State) : (s.postSmart bit key).jrn = s.jrn := (State.postSmart_only ..).jrn
@[simp] theorem State.setDegrade_jrn (bit : Nat) (on : Bool) (s : State) : (s.setDegrade bit on).jrn = s.jrn := (State.setDegrade_only ..).jrn
@[simp] theorem State.leaveProtect_jrn (s : State) : s.leaveProtect.jrn = s.jrn := (State.leaveProtect_only _).jrn
@[simp] theorem State.modReloc_jrn (g b : Nat) (f : Reloc → Reloc) (s : State) : (s.modReloc g b f).jrn = s.jrn := (State.modReloc_only ..).jrn
@[simp] theorem State.queueErase_jrn (g b : Nat) (cls : OpClass) (s : State) : (s.queueErase g b cls).jrn = s.jrn := (State.queueErase_only ..).jrn
@[simp] theorem State.dropReloc_jrn (g b : Nat) (s : State) : (s.dropReloc g b).jrn = s.jrn := (State.dropReloc_only ..).jrn
@[simp] theorem State.reviewCredit_jrn (g : Nat) (s : State) : (s.reviewCredit g).jrn = s.jrn := (State.reviewCredit_only ..).jrn
@[simp] theorem State.reviewSpares_jrn (s : State) : s.reviewSpares.jrn = s.jrn := (State.reviewSpares_only _).jrn
@[simp] theorem State.lineSealed_jrn (nsid line : Nat) (s : State) : (s.lineSealed nsid line).jrn = s.jrn := (State.lineSealed_only ..).jrn

/-! ## Choices and repetitions -/

theorem State.ite_sealing (c : Prop) [Decidable c] (s t : State) : (if c then s else t).jrn.sealing = if c then s.jrn.sealing else t.jrn.sealing := by
  split <;> rfl

theorem State.foldl_sealing {α : Type} (xs : List α) (f : State → α → State) (hf : ∀ t x, (f t x).jrn.sealing = t.jrn.sealing) (s : State) :
    (xs.foldl f s).jrn.sealing = s.jrn.sealing :=
  List.foldlRecOn (motive := fun t => t.jrn.sealing = s.jrn.sealing) xs f rfl (fun t ht x _ => (hf t x).trans ht)

theorem State.each_sealing (xs : List Nat) (f : Nat → State → State) (hf : ∀ x t, (f x t).jrn.sealing = t.jrn.sealing) (s : State) :
    (s.each xs f).jrn.sealing = s.jrn.sealing := State.foldl_sealing xs _ (fun t x => hf x t) s

/-! ## Completions -/

@[simp] theorem State.finish_sealing (id : Nat) (st : Status) (dw0 : W32) (s : State) : (s.finish id st dw0).jrn.sealing = s.jrn.sealing := by
  unfold State.finish
  split
  · rfl
  · extract_lets k noted report status owed counted
    have hnoted : noted.jrn.sealing = s.jrn.sealing := by
      unfold noted
      split <;> rfl
    have hcounted : counted.jrn.sealing = s.jrn.sealing := by
      simp [counted, owed, State.ite_sealing, hnoted]
    split
    · rfl
    split
    · simp
    split
    · simp
    split <;> simp [hnoted, hcounted]

@[simp] theorem State.settleDeletes_sealing (s : State) : s.settleDeletes.jrn.sealing = s.jrn.sealing := by
  refine State.each_sealing _ _ (fun id t => ?_) s
  split <;> simp

@[simp] theorem State.complete_sealing (id : Nat) (st : Status) (dw0 : W32) (s : State) : (s.complete id st dw0).jrn.sealing = s.jrn.sealing := by
  simp [State.complete]

@[simp] theorem State.ackWrite_sealing (c : Ctx) (s : State) : (s.ackWrite c).jrn.sealing = s.jrn.sealing := by
  simp [State.ackWrite]

@[simp] theorem State.startChange_sealing (id : Nat) (s : State) : (s.startChange id).jrn.sealing = s.jrn.sealing := by
  unfold State.startChange
  split
  · rfl
  · extract_lets k busy
    split
    · simp
    split
    · rfl
    split
    · simp
    split
    · simp
    split
    · split
      · simp
      split <;> simp
    · simp

@[simp] theorem State.nextChange_sealing (k : Nat) (s : State) : (s.nextChange k).jrn.sealing = s.jrn.sealing := by
  unfold State.nextChange
  split <;> simp

@[simp] theorem State.sealOne_sealing (id : Nat) (s : State) : (s.sealOne id).jrn.sealing = s.jrn.sealing := by
  unfold State.sealOne
  split
  · rfl
  split
  · simp [State.ite_sealing]
  · rfl

@[simp] theorem State.completeSealed_sealing (id : Nat) (s : State) : (s.completeSealed id).jrn.sealing = s.jrn.sealing := by
  unfold State.completeSealed
  split
  · rfl
  · simp [State.ite_sealing, State.each_sealing]

/-! ## Stripes -/

@[simp] theorem State.logBand_sealing (g b : Nat) (e : BandEvent) (s : State) : (s.logBand g b e).jrn.sealing = s.jrn.sealing := rfl

@[simp] theorem State.openStripe_sealing (g : Nat) (st : Stream) (s : State) : (s.openStripe g st).jrn.sealing = s.jrn.sealing := by
  unfold State.openStripe
  split
  · rfl
  extract_lets start v openIn
  split
  · rfl
  extract_lets pick
  rcases pick with - | ⟨b, fresh⟩
  · rfl
  · simp [State.ite_sealing]

@[simp] theorem State.keepOpen_sealing (g : Nat) (st : Stream) (s : State) : (s.keepOpen g st).jrn.sealing = s.jrn.sealing := by
  simp [State.keepOpen, State.needStripe, State.ite_sealing]

@[simp] theorem State.queueFull_sealing (i : Nat) (s : State) : (s.queueFull i).jrn.sealing = s.jrn.sealing := by
  unfold State.queueFull
  split
  · rfl
  · simp [State.ite_sealing, State.each_sealing]

@[simp] theorem State.closeStripe_sealing (i : Nat) (s : State) : (s.closeStripe i).jrn.sealing = s.jrn.sealing := by
  unfold State.closeStripe
  split
  · rfl
  split
  · rfl
  · simp only [State.queueFull_sealing, State.modStripe_jrn]
    split <;> simp [State.ite_sealing]

/-! ## The map -/

@[simp] theorem State.writeT1_sealing (nsid line : Nat) (s : State) : (s.writeT1 nsid line).jrn.sealing = s.jrn.sealing := by
  simp [State.writeT1, State.nextNonce]

@[simp] theorem State.writeBack_sealing (nsid line : Nat) (s : State) : (s.writeBack nsid line).jrn.sealing = s.jrn.sealing := by
  unfold State.writeBack
  extract_lets
  split <;> simp

@[simp] theorem State.drainChanges_sealing (sl fuel : Nat) (s : State) : (s.drainChanges sl fuel).jrn.sealing = s.jrn.sealing := by
  induction fuel generalizing s with
  | zero => rfl
  | succ f ih =>
    unfold State.drainChanges
    split
    · rfl
    split <;> simp [ih]

@[simp] theorem State.fill_sealing (nsid line : Nat) (s : State) : (s.fill nsid line).jrn.sealing = s.jrn.sealing := by
  unfold State.fill
  extract_lets
  split
  · rfl
  split <;> simp [State.ite_sealing]

@[simp] theorem State.touchLine_sealing (nsid line : Nat) (entries : List Nat) (s : State) : (s.touchLine nsid line entries).jrn.sealing = s.jrn.sealing := by
  unfold State.touchLine
  extract_lets sl set marked filled
  split
  · simp [filled, marked]
  · simp [filled, marked, State.ite_sealing]

@[simp] theorem State.setRun_sealing (nsid u n : Nat) (lines : List Nat) (v : MapVal) (s : State) : (s.setRun nsid u n lines v).jrn.sealing = s.jrn.sealing :=
  (State.each_sealing _ _ (fun _ _ => State.touchLine_sealing ..) _).trans (State.foldl_sealing _ _ (fun t r => State.logRec_sealing r t) s)

@[simp] theorem State.setUnit_sealing (nsid u : Nat) (r : Rec) (s : State) : (s.setUnit nsid u r).jrn.sealing = s.jrn.sealing := by
  simp [State.setUnit]

@[simp] theorem State.commitMap_sealing (c : Ctx) (v : Ns) (s : State) : (s.commitMap c v).jrn.sealing = s.jrn.sealing := by
  simp [State.commitMap, State.ite_sealing, State.foldl_sealing]

@[simp] theorem State.markUnit_sealing (nsid u : Nat) (s : State) : (s.markUnit nsid u).jrn.sealing = s.jrn.sealing := by
  simp [State.markUnit]

@[simp] theorem State.loseLine_sealing (nsid line : Nat) (s : State) : (s.loseLine nsid line).jrn.sealing = s.jrn.sealing := by
  unfold State.loseLine
  split
  · rfl
  · simp [State.ite_sealing, State.each_sealing]

@[simp] theorem State.lostRecords_sealing (mun : Nat) (s : State) : (s.lostRecords mun).jrn.sealing = s.jrn.sealing := by
  simp [State.lostRecords, State.ite_sealing, State.foldl_sealing]

/-! ## Reads -/

@[simp] theorem State.ladderFail_sealing (mun : Nat) (owner : Owner) (cause : Nat) (s : State) : (s.ladderFail mun owner cause).jrn.sealing = s.jrn.sealing := by
  unfold State.ladderFail
  extract_lets counted told lost
  have hcounted : counted.jrn.sealing = s.jrn.sealing := by
    unfold counted
    split <;> simp
  have hlost : lost.jrn.sealing = s.jrn.sealing := by
    unfold lost
    split
    · extract_lets marked
      split <;> simp [marked, told, hcounted]
    · simp [told, hcounted]
  split <;> simp [hlost]

@[simp] theorem State.startSolve_sealing (mun : Nat) (owner : Owner) (around : Bool) (stamp : Nat) (cls : OpClass) (s : State) :
    (s.startSolve mun owner around stamp cls).jrn.sealing = s.jrn.sealing := by
  unfold State.startSolve
  split
  · rfl
  · simp [State.ite_sealing, State.each_sealing]

@[simp] theorem State.queueRead_sealing (mun : Nat) (owner : Owner) (stamp : Nat) (cls : OpClass) (s : State) :
    (s.queueRead mun owner stamp cls).jrn.sealing = s.jrn.sealing := by
  unfold State.queueRead
  split
  · rfl
  · simp [State.ite_sealing]

@[simp] theorem State.serveUnit_sealing (id u : Nat) (s : State) : (s.serveUnit id u).jrn.sealing = s.jrn.sealing := by
  unfold State.serveUnit
  split
  · rfl
  split
  · rfl
  extract_lets sp old r looked done
  have hlooked : looked.jrn.sealing = s.jrn.sealing := by
    unfold looked r
    split <;> simp
  split
  · rfl
  split
  · exact hlooked
  split
  · simp [hlooked]
  · refine (State.each_sealing _ _ (fun j t => ?_) _).trans hlooked
    simp [State.ite_sealing]
  · exact hlooked

@[simp] theorem State.finishRead_sealing (id : Nat) (s : State) : (s.finishRead id).jrn.sealing = s.jrn.sealing := by
  unfold State.finishRead
  split
  · rfl
  split
  · rfl
  split
  · split <;> simp [State.ite_sealing]
  · simp [State.ite_sealing]

@[simp] theorem State.serveRead_sealing (id : Nat) (s : State) : (s.serveRead id).jrn.sealing = s.jrn.sealing := by
  unfold State.serveRead
  split
  · rfl
  · simp [State.each_sealing]

/-! ## Writes, deallocations and flushes that wait -/

@[simp] theorem State.tryFlush_sealing (id : Nat) (s : State) : (s.tryFlush id).jrn.sealing = s.jrn.sealing := by
  unfold State.tryFlush
  split
  · rfl
  · simp [State.ite_sealing]

@[simp] theorem State.tryDsm_sealing (id : Nat) (s : State) : (s.tryDsm id).jrn.sealing = s.jrn.sealing := by
  unfold State.tryDsm
  split
  · rfl
  split
  · simp [State.ite_sealing, State.foldl_sealing]
  · rfl

@[simp] theorem State.startMerges_sealing (c : Ctx) (v : Ns) (s : State) : (s.startMerges c v).jrn.sealing = s.jrn.sealing := by
  unfold State.startMerges
  extract_lets us merging
  split
  · simp
  · refine State.each_sealing _ _ (fun u t => ?_) merging
    split
    · simp [State.each_sealing]
    · rfl

@[simp] theorem State.sealWrite_sealing (c : Ctx) (v : Ns) (s : State) : (s.sealWrite c v).jrn.sealing = s.jrn.sealing := by
  simp [State.sealWrite]

@[simp] theorem State.tryWrite_sealing (id : Nat) (s : State) : (s.tryWrite id).jrn.sealing = s.jrn.sealing := by
  unfold State.tryWrite
  split
  · rfl
  split
  · rfl
  split
  · rfl
  · simp [State.ite_sealing, State.foldl_sealing]

@[simp] theorem State.retry_sealing (s : State) : s.retry.jrn.sealing = s.jrn.sealing := by
  refine State.each_sealing _ _ (fun id t => ?_) s
  split
  · rfl
  · simp [State.ite_sealing]

/-! ## Media write-protect and relocations -/

@[simp] theorem State.enterProtect_sealing (s : State) : s.enterProtect.jrn.sealing = s.jrn.sealing := by
  unfold State.enterProtect
  extract_lets protected_ told ids ended
  have hended : ended.jrn.sealing = s.jrn.sealing :=
    (State.each_sealing _ _ (fun id t => by simp) told).trans (by simp [told, protected_])
  refine (State.each_sealing _ _ (fun i t => ?_) ended).trans hended
  split
  · split <;> simp
  · rfl

@[simp] theorem State.setClosed_sealing (g : Nat) (on : Bool) (s : State) : (s.setClosed g on).jrn.sealing = s.jrn.sealing := by
  simp [State.setClosed, State.ite_sealing]

@[simp] theorem State.stepRelocs_sealing (s : State) : s.stepRelocs.jrn.sealing = s.jrn.sealing := by
  refine State.foldl_sealing _ _ (fun t r => ?_) s
  simp [State.ite_sealing]

end Sys2Proof.Machine
end

section
/-! Proofs. A journal epoch closes and seals (R99, R101, R259). -/
namespace Sys2Proof.Machine
-- one theorem after another: fewer threads, whose stacks are large
set_option Elab.async false

variable {s : State} {rs : List Rec}

/-- What follows a commit point touches much, but not what is durable. -/
def sealFollowUps : List Fld :=
  [.modes, .part, .ports, .insts, .ctxs, .live, .jrn, .lines, .mc, .cache, .cw, .groups, .ops, .solves, .dies, .chanters, .stops, .chans, .ev, .health, .out]

theorem State.commitSeal_sealed (h : s.jrn.sealing = some rs) : s.commitSeal.sealed = rs.foldl Durable.apply s.sealed := by
  unfold State.commitSeal
  split
  case h_1 hnone => simp [hnone] at h
  rename_i sealing hsealing
  obtain rfl : rs = sealing := Option.some.inj (h.symm.trans hsealing)
  extract_lets durable e noted lines counted evs ring persisted answered opened
  have hlines : Only sealFollowUps durable lines :=
    Only.foldl _ _ (fun t r ht => by split; exacts [ht.lineSealed (by decide) .., ht]) ((Only.refl _ _).modJrn (by decide) _)
  have hpersisted : Only sealFollowUps durable persisted := (hlines.modJrn (by decide) _).upd_ev (by decide) _
  have hanswered : Only sealFollowUps durable answered :=
    Only.each _ _ (fun _ _ ht => ht.completeSealed (by decide) _) hpersisted
  have hopened : Only sealFollowUps durable opened :=
    Only.each _ _ (fun g t ht => Only.ite (fun _ => (ht.reviewCredit (by decide) g).setClosed (by decide) g false) (fun _ => ht.reviewCredit (by decide) g)) hanswered
  exact (((hopened.stepRelocs (by decide)).reviewSpares (by decide)).retry (by decide)).sealed

theorem State.commitSeal_sealing (h : s.jrn.sealing = some rs) : s.commitSeal.jrn.sealing = none := by
  unfold State.commitSeal
  split
  case h_1 hnone => simp [hnone] at h
  rename_i sealing hsealing
  obtain rfl : rs = sealing := Option.some.inj (h.symm.trans hsealing)
  extract_lets durable e noted lines counted evs ring persisted answered opened
  have hlines : lines.jrn.sealing = none := State.foldl_sealing _ _ (fun t r => by split <;> simp) noted
  have hanswered : answered.jrn.sealing = none := (State.each_sealing _ _ (fun _ _ => State.completeSealed_sealing ..) persisted).trans hlines
  have hopened : opened.jrn.sealing = none :=
    (State.each_sealing _ _ (fun _ _ => by simp [State.ite_sealing]) answered).trans hanswered
  simp [hopened]

theorem State.commitSeal_none (h : s.jrn.sealing = none) : s.commitSeal = s := by
  simp only [State.commitSeal, h]

/-- An epoch that closes beside none that seals: its records seal, and the next one opens now with none. -/
theorem State.closeEpoch_begins (h : s.jrn.sealing = none) :
    s.closeEpoch.jrn.sealing = some s.jrn.opened ∧ s.closeEpoch.jrn.opened = [] ∧ s.closeEpoch.jrn.openEpoch = s.jrn.openEpoch + 1 ∧
      s.closeEpoch.jrn.openedAt = s.now := by
  simp [State.closeEpoch, h, State.modJrn]

/-- The state an epoch closes in: at once with a full ring, else not before its 10 ms are over. -/
def State.atEpochClose (s : State) : State := if s.ringFull then s else s.notBefore (s.jrn.openedAt + 10000)

theorem State.atEpochClose_keeps (s : State) :
    s.atEpochClose.jrn = s.jrn ∧ s.atEpochClose.live = s.live ∧ s.atEpochClose.sealed = s.sealed ∧ s.now ≤ s.atEpochClose.now ∧
      (s.ringFull = false → s.jrn.openedAt + 10000 ≤ s.atEpochClose.now) := by
  unfold State.atEpochClose
  split <;> simp [State.notBefore, *]

theorem exec_journalEpochClose_atEpochClose (hf : s.hostFenced = false) (hnone : s.jrn.sealing = none) :
    exec .journalEpochClose s = .next s.atEpochClose.closeEpoch := by
  simp [exec, execJournalEpochClose, hf, hnone, State.atEpochClose]

/-- Settles O43: a close waits for its time or a full ring and begins the next epoch; a commit applies what sealed to what is durable. -/
theorem journalEpochsSeal : Obligations.JournalEpochsSeal := by
  intro s
  refine ⟨fun hf hnone => ?_, fun hsome => ?_, fun rs hf hrs => ?_, fun hnone => ?_⟩
  · obtain ⟨hjrn, hlive, hsealed, hnow, hage⟩ := State.atEpochClose_keeps s
    have hclosing : s.atEpochClose.jrn.sealing = none := by rw [hjrn, hnone]
    obtain ⟨hsealing, hopened, hepoch, hat⟩ := State.closeEpoch_begins hclosing
    have hframe := State.closeEpoch_only s.atEpochClose
    refine ⟨_, exec_journalEpochClose_atEpochClose hf hnone, ?_, ?_, ?_, ?_, hopened, ?_, ?_, ?_⟩
    · rw [hframe.now]
      exact hnow
    · rw [hframe.now]
      exact hage
    · rw [hframe.now, hat]
    · rw [hsealing, hjrn]
    · rw [hepoch, hjrn]
    · rw [hframe.live, hlive]
    · rw [hframe.sealed, hsealed]
  · have : s.jrn.sealing.isNone = false := Option.isNone_eq_false_iff.mpr hsome
    simp [exec, execJournalEpochClose, this]
  · exact ⟨s.commitSeal, by simp [exec, execJournalSealCommit, hf], State.commitSeal_sealed hrs, State.commitSeal_sealing hrs⟩
  · simp [exec, execJournalSealCommit, State.commitSeal_none hnone]

end Sys2Proof.Machine
end

section
/-! Proofs. Resets of a port, the training of its link, Recovery and D3hot (R117 to R119, R122 to R124, R134, R226). -/
namespace Sys2Proof.Machine
-- one theorem after another: fewer threads, whose stacks are large
set_option Elab.async false

variable {s : State} {p : PortId}

/-! ## One port -/

theorem State.modPort_port_same (p : Nat) (f : Port → Port) (s : State) : (s.modPort p f).port p = f (s.port p) := by
  rw [State.modPort_port, if_pos rfl]

theorem State.modPort_port_other {p q : Nat} (hq : q ≠ p) (f : Port → Port) (s : State) : (s.modPort p f).port q = s.port q := by
  rw [State.modPort_port, if_neg hq]

/-! ## Training (R117, R119) -/

/-- A link trained within the image: at L0 at that speed and width, out of Recovery with what it withheld posted. -/
def State.trainedAt (p gen width : Nat) (s : State) : State :=
  let u := s.modPort p (fun t => { t with link := .l0, speed := gen, width := width })
  if (s.port p).link = .recovery then (u.release p).sendPending p else u

/-- The link reports itself: it is below what the image gives the port, or it was and is higher now. -/
def State.reportsTraining (s : State) (p gen width : Nat) : Bool :=
  let v := s.vport p
  let t := s.port p
  decide (gen < v.maxSpeed ∨ width < v.maxWidth) ||
    decide (t.speed ≠ 0 ∧ (t.speed < v.maxSpeed ∨ t.width < v.maxWidth) ∧ (t.speed < gen ∨ t.width < width))

theorem execPcieLinkTrained_within {gen width : Nat} (hp : (s.port p).perst = false) (he : (s.vport p).enable = true) (hw : linkWidths.contains width = true)
    (hgen : 4 ≤ gen) (hspeed : gen ≤ (s.vport p).maxSpeed) (hwidth : width ≤ (s.vport p).maxWidth) :
    execPcieLinkTrained p gen width s = .next (if s.reportsTraining p gen width
      then (s.trainedAt p gen width).report (srcSequencer p) (evUnnamed 2 2) p (gen * 256 + width) else s.trainedAt p gen width) := by
  have hguard : ¬((s.port p).perst || !(s.vport p).enable || !linkWidths.contains width || decide (gen < 4) || decide ((s.vport p).maxSpeed < gen) ||
      decide ((s.vport p).maxWidth < width)) = true := by
    have hgen' : ¬ gen < 4 := by omega
    have hspeed' : ¬ (s.vport p).maxSpeed < gen := by omega
    have hwidth' : ¬ (s.vport p).maxWidth < width := by omega
    simp only [hp, he, hw, hgen', hspeed', hwidth', decide_false, Bool.not_true, Bool.or_self, Bool.false_eq_true, not_false_eq_true]
  rw [execPcieLinkTrained, if_neg hguard]
  by_cases hl : (s.port p).link = .recovery <;> simp [State.reportsTraining, State.trainedAt, hl]

/-- Settles O11: each reset is the controller reset with what it leaves of the link, each step of the training one update of the port. -/
theorem linkEventsAndTraining : Obligations.LinkEventsAndTraining := by
  refine ⟨fun s p => ⟨rfl, ?hotReset, ?linkDown, rfl, ?pasidRetry, ?pasidClear⟩, fun s p => ⟨?perst, ?measured, ?unmeasured, ?configReady, ?trained⟩⟩
  case hotReset =>
    intro hp
    simp [execHotReset, hp]
  case linkDown =>
    intro d hl
    rcases hl with hl | hl <;> simp [execLinkDown, hl]
  case pasidRetry =>
    intro hc hp
    simp [execPasidEnableClear, hc, hp]
  case pasidClear =>
    intro hc he
    simp [execPasidEnableClear, State.clearPasid, hc, he]
  case perst =>
    intro hp
    exact ⟨_, rfl, fun q hq => State.modPort_port_other hq _ s, (State.modPort_port_same p _ s).trans (by simp [hp])⟩
  case measured =>
    intro ppm hm
    exact ⟨_, rfl, fun q hq => State.modPort_port_other hq _ s, (State.modPort_port_same p _ s).trans (by simp [hm])⟩
  case unmeasured =>
    intro hm
    exact ⟨_, rfl, (State.modPort_port_same p _ s).trans (by simp [hm])⟩
  case configReady =>
    intro hp
    exact ⟨_, rfl, (State.modPort_port_same p _ s).trans (by simp [hp]), fun q hq => State.modPort_port_other hq _ s⟩
  case trained =>
    intro gen width hp he hw hgen hspeed hwidth
    have hexec := execPcieLinkTrained_within hp he hw hgen hspeed hwidth
    refine ⟨fun hs hwd hnew => hexec.trans ?_, fun hbelow => hexec.trans ?_⟩
    · have hquiet : s.reportsTraining p gen width = false := by simp [State.reportsTraining, hs, hwd, hnew]
      rw [hquiet]
      rfl
    · have hreports : s.reportsTraining p gen width = true := by simp [State.reportsTraining, hbelow]
      rw [hreports]
      rfl

/-! ## Recovery and D3hot (R118, R124), masks of vectors (R134) -/

/-- Settles O12: a port that enters keeps everything else; one that returns posts what it withheld; a mask that goes sends what it held. -/
theorem withheldMessagesFollowTheReturn : Obligations.WithheldMessagesFollowTheReturn := by
  refine fun s p => ⟨?recovery, ?l0, ?d3hot, ?d0, ?retry, ?control, ?vector⟩
  case recovery =>
    intro hl
    exact ⟨_, rfl, (State.modPort_port_same p _ s).trans (by simp [hl]), fun q hq => State.modPort_port_other hq _ s, rfl⟩
  case l0 =>
    intro hl
    simp [execLinkReturnToL0, hl]
  case d3hot =>
    intro hc
    exact ⟨_, rfl, (State.modPort_port_same p _ s).trans (by simp [hc]), fun q hq => State.modPort_port_other hq _ s, rfl⟩
  case d0 =>
    intro hd
    simp [execD0Return, hd]
  case retry =>
    intro hc hp
    constructor <;> simp [execMsixVectorUnmask, hc, hp]
  case control =>
    intro hc
    constructor <;> simp [execMsixVectorUnmask, hc]
  case vector =>
    intro v hv
    simp [execMsixVectorUnmask, hv]

end Sys2Proof.Machine
end

section
/-! Proofs. Doorbells and the fetch of submission queue entries (R126, R129, R146, R192, R193). -/
namespace Sys2Proof.Machine
-- one theorem after another: fewer threads, whose stacks are large
set_option Elab.async false

variable {s : State} {p : PortId} {w : DoorbellAt} {q v k : Nat}

theorem Tbl.get_of_find {α : Type} {t : Tbl α} {k : Nat} {v : α} (h : Tbl.find t k = some v) (d : α) : Tbl.get t d k = v := by
  induction t with
  | nil => cases h
  | cons r t ih =>
    unfold Tbl.find at h
    unfold Tbl.get
    split at h
    case isTrue hk =>
      rw [if_pos hk]
      exact Option.some.inj h
    case isFalse hk =>
      rw [if_neg hk]
      exact ih h

/-! ## Doorbells -/

/-- A submission queue with a new tail, and the place its doorbell write takes behind `bells` others unless an older one is not yet served (R146). -/
def Sq.rung (tail bells : Nat) (x : Sq) : Sq := { x with tail := tail, bell := if tail = x.head then 0 else if x.bell = 0 then bells + 1 else x.bell }

/-- The state with that submission queue, and one doorbell more. -/
def State.ring (k q : Nat) (x : Sq) (s : State) : State := { s.modInst k (fun i => { i with sqs := i.sqs.set q x }) with bells := s.bells + 1 }

theorem State.ring_inst_same (k q : Nat) (x : Sq) (s : State) : (s.ring k q x).inst k = { s.inst k with sqs := (s.inst k).sqs.set q x } :=
  (State.modInst_inst k (fun i => { i with sqs := i.sqs.set q x }) k s).trans (if_pos rfl)

theorem State.ring_inst_other {j : Nat} (hj : j ≠ k) (q : Nat) (x : Sq) (s : State) : (s.ring k q x).inst j = s.inst j :=
  (State.modInst_inst k (fun i => { i with sqs := i.sqs.set q x }) j s).trans (if_neg hj)

section Good
variable (hrdy : (s.port p).rdy = true) (hcfs : (s.port p).cfs = false) (hf : s.hostFenced = false) (hn : (doorbellTarget w).1 < (s.vport p).instances)
  (hstate : (s.inst (instKey p (doorbellTarget w).1)).state = .active) (hq : (doorbellTarget w).2 = some q) (hoff : w.off % 4 = 0)
include hrdy hcfs hf hn hstate hq hoff

/-- A doorbell write to a queue's register of an ACTIVE slot: not one aligned dword, or to a queue that does not exist, is a violation; any other goes on (R192). -/
theorem State.doorbell_active (aligned32 : Bool) (present : Nat → Nat → Bool) (go : Nat → Nat → State → State) :
    s.doorbell p w aligned32 present go =
      if !aligned32 then s.badDoorbell p (doorbellTarget w).1 ((doorbellTarget w).1 == 0 && q == 0) none
      else if !present (instKey p (doorbellTarget w).1) q then s.badDoorbell p (doorbellTarget w).1 ((doorbellTarget w).1 == 0 && q == 0) (some evBadRegister)
      else go (instKey p (doorbellTarget w).1) q s := by
  have hn' : ¬ (s.vport p).instances ≤ (doorbellTarget w).1 := by omega
  simp [State.doorbell, hrdy, hcfs, hf, hn', hstate, hq, hoff]

theorem execSqTailDoorbell_misaligned (hw : tailDoorbell w = true) (v : Nat) :
    execSqTailDoorbell p w false v s = .next (s.badDoorbell p (doorbellTarget w).1 ((doorbellTarget w).1 == 0 && q == 0) none) := by
  rw [execSqTailDoorbell, if_neg (by simp [hw]), State.doorbell_active hrdy hcfs hf hn hstate hq hoff]
  rfl

theorem execSqTailDoorbell_absent (hw : tailDoorbell w = true) (hx : (s.inst (instKey p (doorbellTarget w).1)).sqs.find q = none) (v : Nat) :
    execSqTailDoorbell p w true v s = .next (s.badDoorbell p (doorbellTarget w).1 ((doorbellTarget w).1 == 0 && q == 0) (some evBadRegister)) := by
  rw [execSqTailDoorbell, if_neg (by simp [hw]), State.doorbell_active hrdy hcfs hf hn hstate hq hoff]
  simp [hx]

/-- A tail doorbell of a queue that exists: a tail within the queue is taken, any other is a violation (R192). -/
theorem execSqTailDoorbell_present (hw : tailDoorbell w = true) {x : Sq} (hx : (s.inst (instKey p (doorbellTarget w).1)).sqs.find q = some x) (v : Nat) :
    let k := instKey p (doorbellTarget w).1
    execSqTailDoorbell p w true v s = .next (if x.size ≤ v then s.badDoorbell p (k % 128) (k % 128 == 0 && q == 0) (some evBadValue)
      else s.ring k q (x.rung v s.bells)) := by
  intro k
  have hget : (s.inst k).sqs.get {} q = x := Tbl.get_of_find hx {}
  rw [execSqTailDoorbell, if_neg (by simp [hw]), State.doorbell_active hrdy hcfs hf hn hstate hq hoff, if_neg (by decide), if_neg (by simp [hx])]
  dsimp only
  rw [hget]
  rfl

/-- A head doorbell of a queue that exists: a head within the entries posted is taken and what is held follows, any other is a violation (R152, R179, R192). -/
theorem execCqHeadDoorbell_present (hw : tailDoorbell w = false) {x : Cq} (hx : (s.inst (instKey p (doorbellTarget w).1)).cqs.find q = some x) (v : Nat) :
    let k := instKey p (doorbellTarget w).1
    execCqHeadDoorbell p w true v s = .next (
      if x.size ≤ v || decide ((x.tail + x.size - x.head) % x.size < (v + x.size - x.head) % x.size) then s.badDoorbell p (k % 128) (k % 128 == 0 && q == 0) (some evBadValue)
      else ((s.modInst k (fun i => { i with cqs := i.cqs.set q { x with head := v } })).releaseHeld k q x.held.length).settleDeletes) := by
  intro k
  have hget : (s.inst k).cqs.get {} q = x := Tbl.get_of_find hx {}
  rw [execCqHeadDoorbell, if_neg (by simp [hw]), State.doorbell_active hrdy hcfs hf hn hstate hq hoff, if_neg (by decide), if_neg (by simp [hx])]
  dsimp only
  rw [hget]

end Good

/-! ## Fetch (R146) -/

section Turn
variable {n : LocalId} {qid : Nat} {x : Sq}

/-- The fetch engine visits a queue that holds entries, is not passed over, and whose completion queue has room: the admin queue, or one of an
ACTIVE slot that admission does not hold. -/
theorem State.visits_of (hk : k = instKey p n) (hheld : s.fetchHeld p (n.val == 0 && qid == 0) = false) (hx : (s.inst k).sqs.find qid = some x) (hfailed : x.failed = false)
    (hentries : x.tail ≠ x.head) (hroom : ((s.inst k).cqs.get {} x.cq).full = false) (hwaits : ((s.inst k).cqs.get {} x.cq).held = [])
    (hio : (n.val == 0 && qid == 0) = true ∨
      ((s.inst k).state = .active ∧ s.capHeld k = false ∧ s.m3Held p = false ∧ (s.slotFor k).isSome = true)) :
    s.visits k qid = true := by
  have hport : k / 128 = p := by rw [hk, instKey]; omega
  have hlocal : k % 128 = n := by rw [hk, instKey]; omega
  have hskip : (!(n.val == 0 && qid == 0) && ((s.inst k).state != .active || s.capHeld k || s.m3Held p || (s.slotFor k).isNone)) = false := by
    rcases hio with hadmin | ⟨hstate, hcap, hm3, hslot⟩
    · simp [hadmin]
    · simp [hstate, hcap, hm3, Option.isNone_eq_false_iff.mpr hslot]
  simp only [State.visits, hport, hlocal, hx, hheld, hfailed, beq_eq_false_iff_ne.mpr hentries, hroom, hwaits, hskip, List.isEmpty_nil, Bool.not_true,
    Bool.or_self, Bool.not_false]

/-- The turn of a queue that is visited: the admin queue's ahead of all, else where no other visited queue of the port has an older doorbell write. -/
theorem State.fetchTurn_of (hk : k = instKey p n) (hvisits : s.visits k qid = true)
    (hfirst : (n.val == 0 && qid == 0) = true ∨ (s.visits (instKey p 0) 0 = false ∧
      ∀ e ∈ s.insts, e.1 / 128 = p.val → ∀ y ∈ e.2.sqs, (e.1 = k ∧ y.1 = qid) ∨ ((s.inst k).sqs.get {} qid).bell ≤ y.2.bell ∨ s.visits e.1 y.1 = false)) :
    s.fetchTurn k qid = true := by
  have hport : k / 128 = p := by rw [hk, instKey]; omega
  have hlocal : k % 128 = n := by rw [hk, instKey]; omega
  rcases hfirst with hadmin | ⟨hnone, holdest⟩
  · simp [State.fetchTurn, hlocal, hvisits, hadmin]
  · have hall : s.insts.all (fun e => e.1 / 128 != p || e.2.sqs.all (fun y => (e.1 == k && y.1 == qid) ||
        decide (((s.inst k).sqs.get {} qid).bell ≤ y.2.bell) || !s.visits e.1 y.1)) = true := by
      simp only [List.all_eq_true, Bool.or_eq_true, bne_iff_ne, Bool.and_eq_true, beq_iff_eq, decide_eq_true_eq, Bool.not_eq_true', or_assoc]
      exact fun e he => Classical.or_iff_not_imp_left.mpr (fun hp => holdest e he (not_not.mp hp))
    simp only [State.fetchTurn, hport, hvisits, hnone, hall, Bool.not_false, Bool.and_self, Bool.or_true]

end Turn

/-- A queue that has been visited, behind the others: served in full, or at the next place. -/
def Sq.behind (bells : Nat) (y : Sq) : Sq := { y with bell := if y.head = y.tail then 0 else bells + 1 }

/-- A slot after a visit of one of its queues. -/
def Inst.visited (qid bells : Nat) (i : Inst) : Inst :=
  match i.sqs.find qid with
  | some y => { i with sqs := i.sqs.set qid (y.behind bells) }
  | none => i

theorem Inst.visited_queue (qid bells : Nat) (i : Inst) : (i.visited qid bells).sqs.find qid = (i.sqs.find qid).map (Sq.behind bells) := by
  unfold Inst.visited
  cases hy : i.sqs.find qid with
  | none => exact hy
  | some y => exact (Tbl.find_set _ _ qid qid).trans (if_pos rfl)

/-- A visit leaves the queue it fetched from behind the others, and changes nothing else. -/
def State.visited (k qid : Nat) (u : State) : State := { u.modInst k (Inst.visited qid u.bells) with bells := u.bells + 1 }

theorem State.visited_queue (k qid : Nat) (u : State) : ((u.visited k qid).inst k).sqs.find qid = ((u.inst k).sqs.find qid).map (Sq.behind u.bells) := by
  have hinst : (u.visited k qid).inst k = (u.inst k).visited qid u.bells := (State.modInst_inst k _ k u).trans (if_pos rfl)
  rw [hinst, Inst.visited_queue]

theorem execSqEntryFetch_turn {n : LocalId} {qid : Nat} (h : s.fetchTurn (instKey p n) qid = true) (es : List Sqe) :
    execSqEntryFetch p n qid es s = .next (((es.take 8).foldl (fun t e => t.fetchOne p n qid e) s).visited (instKey p n) qid) := by
  rw [execSqEntryFetch, if_neg (by simp [h])]
  rfl

/-- Settles O15: a doorbell by what the checks and its value leave, a fetch by the queue's turn. -/
theorem doorbellsAndFetch : Obligations.DoorbellsAndFetch := by
  refine ⟨fun s p w q v hrdy hcfs hf hn => ?doorbell, fun s p n qid es => ?fetch⟩
  case doorbell =>
    intro k hstate hq hoff
    refine ⟨fun x hw hx => ⟨fun hv => ?tail, fun hv => ?badTail, ?misaligned⟩, fun x hw hx => ⟨fun hv hposted => ?head, fun hv => ?badHead⟩, fun hw hx => ?absent⟩
    case tail =>
      have hexec : execSqTailDoorbell p w true v s = .next (s.ring k q (x.rung v s.bells)) :=
        (execSqTailDoorbell_present hrdy hcfs hf hn hstate hq hoff hw hx v).trans (congrArg _ (if_neg (Nat.not_le.mpr hv)))
      have hrow : ((s.ring k q (x.rung v s.bells)).inst k).sqs.get {} q = x.rung v s.bells := by
        rw [State.ring_inst_same]
        exact (Tbl.get_set _ _ _ q q).trans (if_pos rfl)
      refine ⟨_, hexec, ?_, ?_, ?_, fun j hj => ?_, ?_, fun j hj => State.ring_inst_other hj q _ s, rfl, rfl⟩
      · rw [hrow]; rfl
      · rw [hrow]; rfl
      · rw [hrow]; rfl
      · rw [State.ring_inst_same]
        exact (Tbl.find_set _ _ q j).trans (if_neg hj)
      · rw [State.ring_inst_same]
    case badTail => exact (execSqTailDoorbell_present hrdy hcfs hf hn hstate hq hoff hw hx v).trans (by rw [if_pos hv])
    case misaligned => exact execSqTailDoorbell_misaligned hrdy hcfs hf hn hstate hq hoff hw v
    case head =>
      have hgood : ¬(x.size ≤ v || decide ((x.tail + x.size - x.head) % x.size < (v + x.size - x.head) % x.size)) = true := by
        simp [Nat.not_le.mpr hv, Nat.not_lt.mpr hposted]
      exact (execCqHeadDoorbell_present hrdy hcfs hf hn hstate hq hoff hw hx v).trans (by rw [if_neg hgood])
    case badHead => exact (execCqHeadDoorbell_present hrdy hcfs hf hn hstate hq hoff hw hx v).trans (by rw [if_pos (by simp [hv])])
    case absent => exact execSqTailDoorbell_absent hrdy hcfs hf hn hstate hq hoff hw hx v
  case fetch =>
    rintro k admin hheld ⟨x, hx, hfailed, hentries, hroom, hwaits⟩ hturn u
    have hvisits : s.visits k qid = true :=
      State.visits_of rfl hheld hx hfailed hentries hroom hwaits (hturn.imp_right (fun ⟨hstate, hcap, hm3, hslot, _⟩ => ⟨hstate, hcap, hm3, hslot⟩))
    have hfirst : s.fetchTurn k qid = true :=
      State.fetchTurn_of rfl hvisits (hturn.imp_right (fun ⟨_, _, _, _, hnone, holdest⟩ => ⟨hnone, holdest⟩))
    exact ⟨_, execSqEntryFetch_turn hfirst es, rfl, rfl, rfl, State.visited_queue k qid u, rfl⟩

end Sys2Proof.Machine
end

section
/-! Proofs. Create and Delete of I/O queues (R127, R179, R203). -/
namespace Sys2Proof.Machine
-- one theorem after another: fewer threads, whose stacks are large
set_option Elab.async false

/-- Settles O19: a ready command is its effect on the tables of the manager function. -/
theorem queueCommandsMakeAndDeleteQueues : Obligations.QueueCommandsMakeAndDeleteQueues := by
  refine fun s c x => ⟨fun h => ?createCq, fun h => ?createSq, fun h => ?deleteCq, fun h => ?deleteSq⟩
  case createCq =>
    rw [exec_createIoCq, execCreateIoCq, State.admin_ready h]
    rfl
  case createSq =>
    rw [exec_createIoSq, execCreateIoSq, State.admin_ready h]
    rfl
  case deleteCq =>
    rw [exec_deleteIoCq, execDeleteIoCq, State.admin_ready h]
    rfl
  case deleteSq =>
    rw [exec_deleteIoSq, execDeleteIoSq, State.admin_ready h]
    rfl

end Sys2Proof.Machine
end

section
/-! Proofs. Identify and Get Features (R139, R657, R661). -/
namespace Sys2Proof.Machine
-- one theorem after another: fewer threads, whose stacks are large
set_option Elab.async false

variable {s : State} {c : Nat} {x : Ctx}

/-! ## Identify -/

/-- The answer of a CNS: its structure goes to the host, or its status is the command's. -/
def State.identified (c : Nat) (x : Ctx) (s : State) : State :=
  match s.identify (instKey x.port 0) x.sqe with
  | .ok l => (s.toHost x l).complete c .success 0
  | .error st => s.complete c st 0

/-- A row of Identify answers the CNS values it names. -/
theorem State.identifyRow_ready (h : AdminReady s c 0x06 x) {which : List Nat} (hw : bits x.sqe.cdw10 7 0 ∈ which) :
    s.identifyRow c which = s.identified c x := by
  have hnamed : (!which.contains (bits x.sqe.cdw10 7 0)) = false := by simpa using hw
  rw [State.identifyRow, State.admin_ready h, if_neg (by rw [hnamed]; decide)]
  rfl

theorem State.identify_controller (h : bits x.sqe.cdw10 7 0 = 0x01) (k : Nat) : s.identify k x.sqe = .ok (s.controllerLayout (k / 128)) := by
  simp only [State.identify, h]

theorem State.identified_next (c : Nat) (x : Ctx) (s : State) :
    Host.Outcome.next (φ := Fault) (ρ := Refusal) (s.identified c x) = match s.identify (instKey x.port 0) x.sqe with
      | .ok l => .next ((s.toHost x l).complete c .success 0)
      | .error st => .next (s.complete c st 0) := by
  rw [State.identified]
  cases s.identify (instKey x.port 0) x.sqe <;> rfl

/-! ## Get Features -/

/-- What Get Features returns beside DW0: the APST table and the Timestamp, of the value selected. -/
def State.featureData (x : Ctx) (s : State) : State :=
  if x.sqe.sel = 3 then s
  else if x.sqe.fid = 0x0C then
    s.toHost x (apstLayout (if x.sqe.sel = 0 then (s.port x.port).apst else if x.sqe.sel = 2 then (s.port x.port).savedApst.getD [] else []))
  else if x.sqe.fid = 0x0E then s.toHost x (if x.sqe.sel = 0 then s.timeLayout else ⟨8, []⟩)
  else s

theorem execGetFeatures_ready (h : AdminReady s c 0x0A x) :
    execGetFeatures c s = .next (
      if x.sqe.fid = 0x04 ∧ 2 ≤ bits x.sqe.cdw11 21 20 then s.completeBad c
      else if (x.sqe.fid = 0x04 ∧ (tempSel x.sqe.cdw11).isNone) ∨ (x.sqe.fid = 0x09 ∧ !s.vectorOk (instKey x.port 0) x.sqe.cdw11) then s.complete c stInvalidField 0
      else (s.featureData x).complete c .success ((s.featureData x).featureSel (instKey x.port 0) x.sqe)) := by
  rw [execGetFeatures, State.admin_ready h]
  rfl

/-- A threshold or a vector that is kept has its value answered. -/
theorem execGetFeatures_granted (h : AdminReady s c 0x0A x) (htemp : x.sqe.fid = 0x04 → (tempSel x.sqe.cdw11).isSome = true)
    (hvec : x.sqe.fid = 0x09 → s.vectorOk (instKey x.port 0) x.sqe.cdw11 = true) :
    execGetFeatures c s = .next ((s.featureData x).complete c .success ((s.featureData x).featureSel (instKey x.port 0) x.sqe)) := by
  have hkept : x.sqe.fid = 0x04 → bits x.sqe.cdw11 21 20 ≤ 1 := by
    intro hfid
    have hsel := htemp hfid
    unfold tempSel at hsel
    split at hsel
    case isTrue hr => exact hr.2
    case isFalse => cases hsel
  have hbad : ¬(x.sqe.fid = 0x04 ∧ 2 ≤ bits x.sqe.cdw11 21 20) := fun ⟨hfid, hr⟩ => by have := hkept hfid; omega
  have hrefused : ¬((x.sqe.fid = 0x04 ∧ (tempSel x.sqe.cdw11).isNone) ∨ (x.sqe.fid = 0x09 ∧ !s.vectorOk (instKey x.port 0) x.sqe.cdw11)) := by
    rintro (⟨hfid, hnone⟩ | ⟨hfid, hnot⟩)
    · rw [Option.isNone_iff_eq_none.mp hnone] at htemp
      exact absurd (htemp hfid) (by decide)
    · rw [hvec hfid] at hnot
      exact absurd hnot (by decide)
  rw [execGetFeatures_ready h, if_neg hbad, if_neg hrefused]

/-- Only the APST table and the Timestamp are returned as data. -/
theorem State.featureData_none (hapst : x.sqe.fid ≠ 0x0C) (htime : x.sqe.fid ≠ 0x0E) : s.featureData x = s := by
  simp [State.featureData, hapst, htime]

theorem State.featureSel_supported (k : Nat) {q : Sqe} (h : q.sel = 3) : s.featureSel k q = BitVec.ofNat 32 (4 + (saveable q.fid).toNat) := by
  simp only [State.featureSel, h]

/-- Settles O21: Identify answers by its CNS, Get Features by the feature and the selection. -/
theorem identifyAndGetFeatures : Obligations.IdentifyAndGetFeatures := by
  refine ⟨fun s c x h => ?identify, fun s c x h => ⟨?threshold, ?refused, ?value, ?temperature, ?vector, ?timestamp, ?apst, State.featureSel_supported _⟩⟩
  case identify =>
    intro answer
    have hrow {which : List Nat} (hw : bits x.sqe.cdw10 7 0 ∈ which) : .next (s.identifyRow c which) = answer := by
      rw [State.identifyRow_ready h hw]
      exact State.identified_next c x s
    refine ⟨fun hcns => (hrow ?_).trans ?controller, fun hcns => hrow ?_, fun hcns => hrow ?_, fun hcns => hrow ?_, fun hcns => hrow ?_⟩
    case controller => simp only [answer, State.identify_controller hcns]
    all_goals simp [hcns]
  case threshold =>
    intro hfid hr
    exact (execGetFeatures_ready h).trans (by rw [if_pos ⟨hfid, hr⟩])
  case refused =>
    intro hrefused
    have hnot : ¬(x.sqe.fid = 0x04 ∧ 2 ≤ bits x.sqe.cdw11 21 20) := by
      rintro ⟨hfid, hr⟩
      rcases hrefused with ⟨-, hlt, -⟩ | ⟨hvec, -⟩
      · omega
      · rw [hvec] at hfid
        exact absurd hfid (by decide)
    refine (execGetFeatures_ready h).trans ?_
    rw [if_neg hnot, if_pos]
    rcases hrefused with ⟨hfid, -, hnone⟩ | ⟨hfid, hvec⟩
    · exact .inl ⟨hfid, hnone⟩
    · exact .inr ⟨hfid, by rw [hvec]; rfl⟩
  case value =>
    intro htemp hvec hapst htime
    refine (execGetFeatures_granted h (fun e => absurd e htemp) (fun e => absurd e hvec)).trans ?_
    rw [State.featureData_none hapst htime]
  case temperature =>
    intro hfid hsome
    refine (execGetFeatures_granted h (fun _ => hsome) (fun e => by omega)).trans ?_
    rw [State.featureData_none (by omega) (by omega)]
  case vector =>
    intro hfid hok
    refine (execGetFeatures_granted h (fun e => by omega) (fun _ => hok)).trans ?_
    rw [State.featureData_none (by omega) (by omega)]
  case timestamp =>
    intro hfid hsel
    exact ⟨_, execGetFeatures_granted h (fun e => by omega) (fun e => by omega), by simp [State.featureData, hfid, hsel]⟩
  case apst =>
    intro hfid hsel
    exact ⟨_, execGetFeatures_granted h (fun e => by omega) (fun e => by omega), by simp [State.featureData, hfid, hsel]⟩

end Sys2Proof.Machine
end

section
/-! Proofs. NVMe-MI in band (R143, R489). -/
namespace Sys2Proof.Machine
-- one theorem after another: fewer threads, whose stacks are large
set_option Elab.async false

variable {s : State} {c : Nat} {x : Ctx}

/-- Not every request is carried in band: a readback of a stop's configuration is refused (R489). -/
theorem execNvmeMiSend_readConfig (h : AdminReady s c 0x1D x) (n : StopId) (off : Nat) :
    execNvmeMiSend c (.readConfig n off) s = .next (s.complete c stInvalidField 0) := by
  simp only [execNvmeMiSend, State.admin_ready h]

/-- Context 1, an NVMe-MI Send on the admin queue of port 0. -/
def miSendCtx : Ctx := { id := 1, port := 0, inst := 0, gen := 0, qid := 0, stamp := 0, time := 0, sqe := { opcode := 0x1D }, admin := true, phase := .ready }

/-- The module in service with that command alone, and no answer kept for a Receive. -/
def miSendState : State := { State.reset.modModes (fun m => { m with mode := .service }) with ctxs := [miSendCtx] }

theorem miSendState_ready : AdminReady miSendState 1 0x1D miSendCtx := ⟨rfl, rfl, rfl, rfl, rfl⟩

/-- The refusal keeps no answer. -/
theorem miSendState_refused : ((miSendState.complete 1 stInvalidField 0).port 0).miResp = none := by decide

/-- What the statement asks of the same command keeps one. -/
theorem miSendState_asked :
    let a := miSendState.miDirect (.readConfig 0 0)
    (((a.2.modPort 0 (fun t => { t with miResp := a.1 })).complete 1 .success 0).port 0).miResp ≠ none := by decide

/-- Refutes O32: a readback of a stop's configuration sent in band is a request like any other to the statement, which keeps its answer and completes the Send with success;
R489 refuses it, with Invalid Field and no answer kept. -/
theorem not_directivesAndManagement : ¬ Obligations.DirectivesAndManagement := by
  intro h
  obtain ⟨-, -, hsend, -⟩ := h miSendState 1 miSendCtx { nsid := 1, serial := 1, spec := {} }
  have hasked := hsend (.readConfig 0 0) miSendState_ready (fun _ _ => nofun)
  have hrefused := execNvmeMiSend_readConfig miSendState_ready 0 0
  have hstates := Host.Outcome.next.inj (hasked.symm.trans hrefused)
  exact miSendState_asked (by rw [← miSendState_refused, ← hstates]; rfl)

end Sys2Proof.Machine
end

section
/-! Proofs. Drones, the telemetry snapshot and the recorder (R132, R614 to R616, R619, R624, R625). -/
namespace Sys2Proof.Machine
-- one theorem after another: fewer threads, whose stacks are large
set_option Elab.async false

variable {s : State} {b : Nat → Nat} {cs : List Claim} {f : Nat → Nat} {ds : List Nat}

/-! ## One row of a table after another -/

/-- A repetition over distinct numbers whose step for a number remakes that row alone: each row of the list is remade once, the others stay. -/
theorem State.each_row {α : Type} (row : State → Nat → α) (f : Nat → State → State) (g : Nat → α → α)
    (hf : ∀ i t j, row (f i t) j = if j = i then g j (row t j) else row t j) (j : Nat) {xs : List Nat} (hx : xs.Nodup) (s : State) :
    row (s.each xs f) j = if j ∈ xs then g j (row s j) else row s j := by
  induction xs generalizing s with
  | nil => rfl
  | cons i xs ih =>
    obtain ⟨hi, hxs⟩ := List.nodup_cons.mp hx
    have hstep : row (s.each (i :: xs) f) j = row ((f i s).each xs f) j := rfl
    rw [hstep, ih hxs, hf]
    by_cases hj : j = i
    · simp [hj, hi]
    · simp [hj]

/-! ## The passes of R614 -/

/-- A fold that keeps the best entry so far answers the entry it began with or one of the list. -/
theorem foldl_best_mem {α : Type} (best : Option α → α → Option α) (hbest : ∀ o x y, best o x = some y → o = some y ∨ y = x) {xs : List α} {o : Option α} {y : α}
    (h : xs.foldl best o = some y) : o = some y ∨ y ∈ xs := by
  induction xs generalizing o with
  | nil => exact .inl h
  | cons x xs ih =>
    rcases ih h with hx | hx
    · exact (hbest o x y hx).imp_right (fun (e : y = x) => List.mem_cons.mpr (.inl e))
    · exact .inr (List.mem_cons_of_mem x hx)

/-- The drone served next is one of those that may still take a unit. -/
theorem nextClaim_open {c : Claim} (h : nextClaim cs = some c) : c ∈ cs ∧ c.got < c.limit := by
  have hmem := foldl_best_mem _ (fun o x y hy => ?_) h
  case refine_1 =>
    cases o with
    | none => exact .inr (Option.some.inj hy).symm
    | some z =>
      dsimp only at hy
      split at hy
      · exact .inr (Option.some.inj hy).symm
      · exact .inl hy
  simpa using hmem

/-- Each drone stands once, with no more than its bound. -/
structure Claims.Within (b : Nat → Nat) (cs : List Claim) : Prop where
  once : (cs.map Claim.d).Nodup
  got : ∀ c ∈ cs, c.got ≤ b c.d

/-- A unit given to the claim of one drone. -/
def Claim.give (d : Nat) (x : Claim) : Claim := if x.d == d then { x with got := x.got + 1 } else x

theorem Claim.give_d (d : Nat) (x : Claim) : (x.give d).d = x.d := by
  unfold Claim.give
  split <;> rfl

theorem Claim.give_limit (d : Nat) (x : Claim) : (x.give d).limit = x.limit := by
  unfold Claim.give
  split <;> rfl

theorem map_give_d (d : Nat) (cs : List Claim) : (cs.map (Claim.give d)).map Claim.d = cs.map Claim.d := by
  simp [Function.comp_def, Claim.give_d]

theorem dronePass_d (n : Nat) (cs : List Claim) : (dronePass n cs).1.map Claim.d = cs.map Claim.d := by
  induction n generalizing cs with
  | zero => rfl
  | succ n ih =>
    unfold dronePass
    split
    · rfl
    · exact (ih _).trans (map_give_d _ cs)

/-- A pass gives no drone more than its limit, where every limit is within the bound. -/
theorem dronePass_within (n : Nat) (h : Claims.Within b cs) (hlimit : ∀ c ∈ cs, c.limit ≤ b c.d) : Claims.Within b (dronePass n cs).1 := by
  induction n generalizing cs with
  | zero => exact h
  | succ n ih =>
    unfold dronePass
    split
    · exact h
    · rename_i c hc
      obtain ⟨hmem, hopen⟩ := nextClaim_open hc
      refine ih ⟨(map_give_d c.d cs).symm ▸ h.once, ?_⟩ ?_
      · intro y hy
        obtain ⟨x, hx, rfl⟩ := List.mem_map.mp hy
        change (x.give c.d).got ≤ b (x.give c.d).d
        rw [Claim.give_d]
        by_cases hd : x.d = c.d
        · obtain rfl : x = c := List.inj_on_of_nodup_map h.once hx hmem hd
          have hc' := hlimit x hx
          simp only [Claim.give, beq_self_eq_true, if_true]
          omega
        · simpa [Claim.give, hd] using h.got x hx
      · intro y hy
        obtain ⟨x, hx, rfl⟩ := List.mem_map.mp hy
        change (x.give c.d).limit ≤ b (x.give c.d).d
        rw [Claim.give_d, Claim.give_limit]
        exact hlimit x hx

/-- The claims with new limits. -/
theorem Claims.Within.cap (h : Claims.Within b cs) (lim : Claim → Nat) : Claims.Within b (cs.map (fun c => { c with limit := lim c })) := by
  refine ⟨?_, fun y hy => ?_⟩
  · simpa [Function.comp_def] using h.once
  · obtain ⟨x, hx, rfl⟩ := List.mem_map.mp hy
    exact h.got x hx

/-- A pass after new limits, each within the bound. -/
theorem dronePass_cap_within (n : Nat) (h : Claims.Within b cs) (lim : Claim → Nat) (hlim : ∀ c ∈ cs, lim c ≤ b c.d) :
    Claims.Within b (dronePass n (cs.map (fun c => { c with limit := lim c }))).1 := by
  refine dronePass_within n (h.cap lim) (fun y hy => ?_)
  obtain ⟨x, hx, rfl⟩ := List.mem_map.mp hy
  exact hlim x hx

theorem dronePass_cap_d (n : Nat) (lim : Claim → Nat) (cs : List Claim) :
    (dronePass n (cs.map (fun c => { c with limit := lim c }))).1.map Claim.d = cs.map Claim.d := by
  rw [dronePass_d]
  simp [Function.comp_def]

/-- The time each drone of a list wants. -/
def wants (f : Nat → Nat) (ds : List Nat) : List (Nat × Nat) := ds.map (fun d => (d, f d))

theorem wants_find_le (f : Nat → Nat) (ds : List Nat) (d : Nat) : (((wants f ds).find? (fun w => w.1 == d)).map (·.2)).getD 0 ≤ f d := by
  cases h : (wants f ds).find? (fun w => w.1 == d) with
  | none => exact Nat.zero_le _
  | some w =>
    obtain ⟨e, -, rfl⟩ := List.mem_map.mp (List.mem_of_find?_eq_some h)
    have he : e = d := by simpa using List.find?_some h
    simp [he]

theorem State.shareTime_d (time : Nat) (f : Nat → Nat) (ds : List Nat) (s : State) : (s.shareTime time (wants f ds)).map Claim.d = ds := by
  simp only [State.shareTime]
  rw [dronePass_cap_d, dronePass_cap_d, dronePass_cap_d]
  simp [wants, Function.comp_def]

/-- The most a drone can be given: what it wants, within the larger of its budgets. -/
def State.droneBound (s : State) (f : Nat → Nat) (d : Nat) : Nat := min (f d) (max (s.droneBudget d).1 (s.droneBudget d).2)

theorem State.shareTime_le (time : Nat) (hds : ds.Nodup) {c : Claim} (hc : c ∈ s.shareTime time (wants f ds)) : c.got ≤ s.droneBound f c.d := by
  unfold State.shareTime at hc
  extract_lets cap wanted cs p1 full p2 at hc
  have hwanted (d m : Nat) (hm : m ≤ max (s.droneBudget d).1 (s.droneBudget d).2) : min (wanted d) m ≤ s.droneBound f d :=
    min_le_min (wants_find_le f ds d) hm
  have hfull (c : Claim) : full c ≤ s.droneBound f c.d := hwanted c.d _ (le_max_right _ _)
  have hstart : Claims.Within (s.droneBound f) cs := by
    refine ⟨by simpa [cs, wants, Function.comp_def] using hds, fun c hc => ?_⟩
    obtain ⟨w, -, rfl⟩ := List.mem_map.mp hc
    exact Nat.zero_le _
  have hp1 : Claims.Within (s.droneBound f) p1.1 := dronePass_cap_within time hstart _ (fun c _ => hwanted c.d _ (le_max_left _ _))
  have hp2 : Claims.Within (s.droneBound f) p2.1 := by
    refine dronePass_cap_within p1.2 hp1 _ (fun c hc => ?_)
    split
    · exact hfull c
    · exact hp1.got c hc
  exact (dronePass_cap_within p2.2 hp2 full (fun c _ => hfull c)).got c hc

/-! ## A window (R614 to R616) -/

/-- What a drone takes of a window's time: what a list of shares gives it, or nothing. -/
def given (got : List (Nat × Nat)) (d : Nat) : Nat := ((got.find? (fun g => g.1 == d)).map (·.2)).getD 0

/-- The shares of a window: of die time, of core time, and the maxima of drones 9 and 10. -/
def State.windowShares (dieTime coreTime : Nat) (f : Nat → Nat) (s : State) : List (Nat × Nat) :=
  (s.shareTime (min dieTime 1024) (wants f [0, 1, 2, 3, 4, 5]) ++ s.shareTime (min coreTime 1024) (wants f [6, 7, 8])).map (fun c => (c.d, c.got)) ++
    (wants f [9, 10]).map (fun w => (w.1, min w.2 (s.droneBudget w.1).2))

theorem given_le {got : List (Nat × Nat)} {m : Nat} (d : Nat) (h : ∀ g ∈ got, g.1 = d → g.2 ≤ m) : given got d ≤ m := by
  unfold given
  cases hg : got.find? (fun g => g.1 == d) with
  | none => exact Nat.zero_le _
  | some g => exact h g (List.mem_of_find?_eq_some hg) (by simpa using List.find?_some hg)

/-- No drone takes more of a window than it wants, nor more than its larger budget. -/
theorem State.windowShares_le (dieTime coreTime : Nat) (f : Nat → Nat) (s : State) (d : Nat) :
    given (s.windowShares dieTime coreTime f) d ≤ s.droneBound f d := by
  refine given_le d (fun g hg hd => ?_)
  subst hd
  rcases List.mem_append.mp hg with hg | hg
  · obtain ⟨c, hc, rfl⟩ := List.mem_map.mp hg
    rcases List.mem_append.mp hc with hc | hc
    · exact State.shareTime_le _ (by decide) hc
    · exact State.shareTime_le _ (by decide) hc
  · obtain ⟨w, hw, rfl⟩ := List.mem_map.mp hg
    obtain ⟨d, -, rfl⟩ := List.mem_map.mp hw
    exact min_le_min le_rfl (le_max_right _ _)

/-- Drones 9 and 10 take up to their maximum (log entry 50). -/
theorem State.windowShares_max (dieTime coreTime : Nat) (f : Nat → Nat) (s : State) {d : Nat} (hd : d = 9 ∨ d = 10) :
    given (s.windowShares dieTime coreTime f) d = min (f d) (s.droneBudget d).2 := by
  have hshared : ((s.shareTime (min dieTime 1024) (wants f [0, 1, 2, 3, 4, 5]) ++ s.shareTime (min coreTime 1024) (wants f [6, 7, 8])).map
      (fun c => (c.d, c.got))).find? (fun g => g.1 == d) = none := by
    rw [List.find?_eq_none]
    intro g hg
    obtain ⟨c, hc, rfl⟩ := List.mem_map.mp hg
    have hmem : c.d ∈ [0, 1, 2, 3, 4, 5] ++ [6, 7, 8] := by
      rw [← State.shareTime_d (min dieTime 1024) f [0, 1, 2, 3, 4, 5] s, ← State.shareTime_d (min coreTime 1024) f [6, 7, 8] s, ← List.map_append]
      exact List.mem_map_of_mem hc
    have hlt : c.d < 9 := (show ∀ e ∈ [0, 1, 2, 3, 4, 5] ++ [6, 7, 8], e < 9 by decide) c.d hmem
    have hne : c.d ≠ d := by omega
    simpa using hne
  unfold given State.windowShares
  rw [List.find?_append, hshared]
  rcases hd with rfl | rfl <;> simp [wants]

theorem State.noteLag_lagS (i lag : Nat) (t : State) (j : Nat) :
    ((t.noteLag i lag).drone j).lagS = if j = i then min lag 0xFFFFFFFF else (t.drone j).lagS := by
  unfold State.noteLag
  extract_lets was lagged late noted
  have hnoted : (noted.drone j).lagS = if j = i then min lag 0xFFFFFFFF else (t.drone j).lagS := by
    simp only [noted, lagged, State.modDrone_drone]
    split <;> simp_all
  split
  · exact hnoted
  · split <;> exact hnoted

/-- The state with the lag of every drone of a window taken. -/
def State.lagsNoted (drones : List (Nat × Nat)) (s : State) : State := s.each (List.range 11) (fun d t => t.noteLag d (drones.getD d (0, 0)).1)

theorem State.lagsNoted_only (drones : List (Nat × Nat)) (s : State) : Only [.drones, .ev] s (s.lagsNoted drones) :=
  Only.each _ _ (fun d _ ht => ht.noteLag (by decide) d _) (.refl _ s)

theorem State.lagsNoted_lagS (drones : List (Nat × Nat)) (s : State) {d : Nat} (hd : d < 11) : ((s.lagsNoted drones).drone d).lagS = min (drones.getD d (0, 0)).1 0xFFFFFFFF :=
  (State.each_row (fun t j => (t.drone j).lagS) (fun d t => t.noteLag d (drones.getD d (0, 0)).1) (fun d _ => min (drones.getD d (0, 0)).1 0xFFFFFFFF)
    (fun i t j => by rw [State.noteLag_lagS]; split <;> simp_all) d List.nodup_range s).trans (if_pos (List.mem_range.mpr hd))

theorem State.lagsNoted_droneBudget (drones : List (Nat × Nat)) (s : State) : (s.lagsNoted drones).droneBudget = s.droneBudget := by
  funext d
  simp only [State.droneBudget, State.image, (s.lagsNoted_only drones).flash]

theorem State.lagsNoted_droneHeld (drones : List (Nat × Nat)) (s : State) : (s.lagsNoted drones).droneHeld = s.droneHeld := by
  simp only [State.droneHeld, State.active, State.serving, (s.lagsNoted_only drones).modes]

/-- The state after a window whose shares are known. -/
def State.granted (got : List (Nat × Nat)) (s : State) : State := s.each (List.range 11) (fun d t => t.modDrone d (fun x => { x with grant := given got d }))

theorem State.granted_drone (got : List (Nat × Nat)) (s : State) {d : Nat} (hd : d < 11) : (s.granted got).drone d = { s.drone d with grant := given got d } :=
  (State.each_row State.drone (fun d t => t.modDrone d (fun x => { x with grant := given got d })) (fun d x => { x with grant := given got d })
    (fun i t j => by rw [State.modDrone_drone]; split <;> simp_all) d List.nodup_range s).trans (if_pos (List.mem_range.mpr hd))

theorem execDroneWindow_runs (hmode : s.modes.mode ≠ .keep) (hflush : s.modes.flush = none) (dieTime coreTime : Nat) (drones : List (Nat × Nat)) :
    let u := s.lagsNoted drones
    execDroneWindow dieTime coreTime drones s =
      .next (u.granted (if u.droneHeld then [] else u.windowShares dieTime coreTime (fun d => (drones.getD d (0, 0)).2))) := by
  rw [execDroneWindow, if_neg (by simp [hmode, hflush])]
  rfl

/-! ## The snapshot (R132, R619) -/

/-- HV_RD_LAT of a port's reads, at a time. -/
def Port.readLatAt (now : Nat) (t : Port) : W64 :=
  let xs := (t.lats.filter (fun x => decide (now < x.1 + 1000000))).map (·.2)
  image64 [(0, 32, min (percentile 1 2 xs * 10) 0xFFFFFFFF), (32, 32, min (percentile 9999 10000 xs * 10) 0xFFFFFFFF)]

theorem State.readLat_eq (s : State) (p : Nat) : s.readLat p = (s.port p).readLatAt s.now := rfl

/-- A port after a snapshot. -/
def Port.snapped (now : Nat) (t : Port) : Port := { t with seqNo := t.seqNo + 2, snap := { t.run with rdLat := t.readLatAt now } }

/-- The state with the counters of every port taken. -/
def State.portsSnapped (s : State) : State := s.allPorts (fun p t => t.modPort p (fun q => { q with seqNo := q.seqNo + 2, snap := { q.run with rdLat := t.readLat p } }))

theorem State.portsSnapped_port (s : State) (p : PortId) : s.portsSnapped.port p = (s.port p).snapped s.now := by
  have hrow := State.each_row (fun t j => (t.port j, t.now)) (fun p t => t.modPort p (fun q => { q with seqNo := q.seqNo + 2, snap := { q.run with rdLat := t.readLat p } }))
    (fun _ r => (r.1.snapped r.2, r.2)) (fun i t j => by
      rw [State.modPort_port, State.modPort_now]
      split
      · simp_all [Port.snapped, State.readLat_eq]
      · rfl) p (List.nodup_range (n := 8)) s
  rw [if_pos (List.mem_range.mpr p.isLt)] at hrow
  exact congrArg Prod.fst hrow

theorem execTelemetrySnapshot_runs (h : s.droneHeld = false) :
    execTelemetrySnapshot s = .next (s.portsSnapped.modSpares (fun x => { x with page := some s.portsSnapped.sparePage })) := by
  rw [execTelemetrySnapshot, if_neg (by simp [h])]
  rfl

/-! ## The recorder (R624, R625) -/

theorem Source.take_room (q : Source) (r : Report) (h : q.fifo.length < 256) : q.take r = { q with fifo := q.fifo ++ [r] } := if_pos h

/-- A report to a full FIFO goes to a counter; it is lost only with all eight taken. -/
theorem Source.take_full (q : Source) (r : Report) (h : 256 ≤ q.fifo.length) :
    (q.take r).fifo = q.fifo ∧ ((q.take r).lost = q.lost ∨ ((q.take r).lost = q.lost + 1 ∧ 8 ≤ q.coals.length)) := by
  rw [Source.take, if_neg (Nat.not_lt.mpr h)]
  split
  · exact ⟨rfl, .inl rfl⟩
  · split
    case isTrue => exact ⟨rfl, .inl rfl⟩
    case isFalse hcoals => exact ⟨rfl, .inr ⟨rfl, Nat.not_lt.mp hcoals⟩⟩

/-- Settles O51: a window by its lags and its shares, a snapshot port by port, a take by the source whose turn it is. -/
theorem dronesTelemetryRecorder : Obligations.DronesTelemetryRecorder := by
  intro s
  refine ⟨fun a b ds hmode hflush => ?window, fun hheld => ?snapshot, fun i hmode hroom hnext => ?recorder, fun r q => ⟨fun h => ?room, Source.take_full q r⟩⟩
  case window =>
    have hframe := (execDroneWindow_only a b ds s).of_next (execDroneWindow_runs hmode hflush a b ds)
    refine ⟨_, execDroneWindow_runs hmode hflush a b ds, hframe.live, hframe.ctxs, fun d hd => ?_⟩
    rw [State.granted_drone _ _ hd, State.lagsNoted_droneHeld]
    refine ⟨State.lagsNoted_lagS ds s hd, fun hheld => ?_, fun hheld => ?_, fun hheld hlast => ?_⟩
    · rw [hheld]
      rfl
    · have hle := (s.lagsNoted ds).windowShares_le a b (fun d => (ds.getD d (0, 0)).2) d
      rw [State.droneBound, State.lagsNoted_droneBudget] at hle
      rw [hheld]
      exact le_min_iff.mp hle
    · have hmax := (s.lagsNoted ds).windowShares_max a b (fun d => (ds.getD d (0, 0)).2) (show d = 9 ∨ d = 10 by omega)
      rw [State.lagsNoted_droneBudget] at hmax
      rw [hheld]
      exact hmax
  case snapshot =>
    have hframe := (execTelemetrySnapshot_only s).of_next (execTelemetrySnapshot_runs hheld)
    refine ⟨_, execTelemetrySnapshot_runs hheld, fun p => ?_, rfl, hframe.live, hframe.out⟩
    have hport := s.portsSnapped_port p
    simp [State.hostReg, State.vendorReg, hport, Port.snapped, State.readLat_eq]
  case recorder =>
    rw [exec_eventRecorderTake, execEventRecorderTake, if_neg (by simp [hmode, hroom]), hnext]
  case room =>
    rw [Source.take_room q r h]
    exact ⟨rfl, rfl⟩

end Sys2Proof.Machine
end

section
/-! Proofs. A stop's drain, its release, its window and the roll of the violation windows (R131, R467, R472, R496, R500). -/
namespace Sys2Proof.Machine
-- one theorem after another: fewer threads, whose stacks are large
set_option Elab.async false

variable {s : State} {n : StopId} {p : PortId} {i : LocalId} {e : StopEpoch}

/-! ## The drain and the release -/

/-- An acknowledgement counts while the drain runs, from shell 3.1 on (R467). -/
theorem execStopDrainAck_epoch (he : (s.stop n).epoch = some e) :
    execStopDrainAck n s = .next (if e.drained || decide (s.image.shell < 0x0301) then s else (s.modStop n (fun x => { x with drainAck := true })).checkDrain n) := by
  simp only [execStopDrainAck, he]

theorem execStopDrainLimitExpiry_draining (he : (s.stop n).epoch = some e) (hd : e.drained = false) :
    execStopDrainLimitExpiry n s = .next ((s.notBefore (e.start + 1000)).endDrain n) := by
  simp [execStopDrainLimitExpiry, he, hd]

/-- Columns the image does not use do not stop the release (R496). -/
theorem State.columnsChecked_good (he : (s.stop n).epoch = some e) (hd : e.drained = true) {failing : List Nat} (hf : ∀ c ∈ failing, c ∉ (s.stop n).used) :
    s.columnsChecked n failing = s.releaseStop n false := by
  have hbad : failing.filter (fun c => (s.stop n).used.contains c) = [] := by simpa using hf
  simp only [State.columnsChecked, he, hd, hbad, Bool.not_true, Bool.false_eq_true, if_false]

/-! ## The violation windows (R500) -/

theorem stopViolWindowRoll_stop (m : StopId) :
    (s.each stopNos (fun n t => t.modStop n (fun x => { x with window := 0 }))).stop m = { s.stop m with window := 0 } := by
  have hrow := State.each_row State.stop (fun n t => t.modStop n (fun x => { x with window := 0 })) (fun _ x => { x with window := 0 })
    (fun i t j => by rw [State.modStop_stop]; split <;> simp_all) m (List.nodup_range (n := 16)) s
  rwa [if_pos (List.mem_range.mpr m.isLt)] at hrow

/-! ## The window of a stop (R131, R472) -/

/-- A window that presents no stop reads 0 and takes no write. -/
theorem execStopWindowAccess_absent (h : s.adminOn = false ∨ s.windowStop (instKey p i) = none) (off : Nat) (write : Option W64) :
    execStopWindowAccess p i off write s = .next (write.elim (s.emit (.cpl p 0)) (fun _ => s)) := by
  have hnone : (if s.adminOn then s.windowStop (instKey p i) else none) = none := by rcases h with h | h <;> simp [h]
  cases write <;> simp only [execStopWindowAccess, hnone] <;> rfl

/-- A stop that is neither fenced nor in an epoch answers its window: the shell below 0x1000, its tenant logic above. -/
theorem execStopWindowAccess_present {x : Nat} (hon : s.adminOn = true) (hx : s.windowStop (instKey p i) = some x) (hstate : (s.stop x).state ≠ 4)
    (hepoch : (s.stop x).epoch = none) (off : Nat) (write : Option W64) :
    execStopWindowAccess p i off write s = .next (
      let o := off % 0x10000 / 8 * 8
      match write with
      | some v => if o < 0x1000 then s.writeShell x o v else s.ctlWrite x o v
      | none => if o < 0x1000 then s.emit (.cpl p (s.stReg x o)) else s.ctlRead x o (some p.val)) := by
  cases write <;> simp [execStopWindowAccess, hon, hx, hstate, hepoch]

/-- Settles O53: an epoch's commands by whether its drain is over, the windows stop by stop, an access by what the window presents. -/
theorem stopEpochsDrainAndLoad : Obligations.StopEpochsDrainAndLoad := by
  intro s n
  refine ⟨fun e he hd hshell => ?ack, fun e he hlate => ?lateAck, fun e => execStopDrainLimitExpiry_draining, fun e failing he hd hf => ?written, ?windows,
    fun p i off v x hon hx hstate hepoch => ?present, fun p i off habsent => ?absent⟩
  case ack =>
    have hshell' : ¬ s.image.shell < 0x0301 := by omega
    simp [execStopDrainAck_epoch he, hd, hshell']
  case lateAck =>
    rcases hlate with hd | hshell
    · simp [execStopDrainAck_epoch he, hd]
    · simp [execStopDrainAck_epoch he, hshell]
  case written => exact congrArg Host.Outcome.next (State.columnsChecked_good he hd hf)
  case windows =>
    have hframe := (execStopViolWindowRoll_only s).of_next rfl
    exact ⟨_, rfl, stopViolWindowRoll_stop, hframe.live, hframe.out⟩
  case present => exact ⟨execStopWindowAccess_present hon hx hstate hepoch off (some v), execStopWindowAccess_present hon hx hstate hepoch off none⟩
  case absent => exact ⟨execStopWindowAccess_absent habsent off none, fun v => execStopWindowAccess_absent habsent off (some v)⟩

end Sys2Proof.Machine
end

section
/-! Proofs. A DMA to host memory that fails (R191 to R193). -/
namespace Sys2Proof.Machine
-- one theorem after another: fewer threads, whose stacks are large
set_option Elab.async false

variable {s : State} {p : PortId}

theorem execHostDmaFailure_data (f : DmaFault) {id : Nat} {c : Ctx} (hc : s.ctx id = some c) (hport : c.port = p.val) (hphase : c.phase ≠ .posted) :
    execHostDmaFailure p (.data id) f s = .next (if c.admin then (s.logError p c.qid c.sqe.cid c.sqe.nsid stDataTransfer).complete id stDataTransfer 0
      else (s.endCaught id stDataTransfer).violation c.key) := by
  cases hadmin : c.admin <;> simp [execHostDmaFailure, hc, hport, hphase, hadmin]

theorem execHostDmaFailure_fetch (f : DmaFault) {n : LocalId} {qid : Nat} {x : Sq} (hx : (s.inst (instKey p n)).sqs.find qid = some x) :
    execHostDmaFailure p (.fetch n qid) f s =
      let u := s.modInst (instKey p n) (fun i => { i with sqs := i.sqs.set qid { x with failed := true } })
      .next (if n.val = 0 ∧ qid = 0 then u.logError p 0 0xFFFF 0 stDataTransfer else u.isolate (instKey p n) 2) := by
  simp only [execHostDmaFailure, hx, apply_ite Host.Outcome.next]

theorem execHostDmaFailure_completion (f : DmaFault) {n : LocalId} {cq : Nat} {x : Cq} (hx : (s.inst (instKey p n)).cqs.find cq = some x) :
    execHostDmaFailure p (.completion n cq) f s =
      let u := (s.dropHeld x.held).modInst (instKey p n) (fun i => { i with cqs := i.cqs.set cq { x with size := 0, held := [] } })
      .next (if n.val = 0 ∧ cq = 0 then u.logError p 0 0xFFFF 0 stDataTransfer else u.isolate (instKey p n) 3) := by
  simp only [execHostDmaFailure, hx, apply_ite Host.Outcome.next]

/-- Settles O16: what fails, and whether it is of an admin queue, decides what ends. -/
theorem failedHostDma : Obligations.FailedHostDma := by
  refine fun s p f => ⟨fun id c hc hport hphase => ⟨fun hadmin => ?admin, fun hio => ?io⟩, fun n qid x hx => ?fetch, fun n cq x hx => ?completion⟩
  case admin => exact (execHostDmaFailure_data f hc hport hphase).trans (congrArg _ (if_pos hadmin))
  case io => exact (execHostDmaFailure_data f hc hport hphase).trans (congrArg _ (if_neg (by simp [hio])))
  case fetch => exact execHostDmaFailure_fetch f hx
  case completion => exact execHostDmaFailure_completion f hx

end Sys2Proof.Machine
end

section
/-! Proofs. Asynchronous Event Request and Abort (R171 to R175). -/
namespace Sys2Proof.Machine
-- one theorem after another: fewer threads, whose stacks are large
set_option Elab.async false

variable {s : State} {c : Nat} {x : Ctx}

/-! ## Asynchronous Event Request -/

/-- The request of context `x` stands behind the port's others, and the oldest event that waits is taken. -/
def State.requestAer (c : Nat) (x : Ctx) (s : State) : State :=
  (s.dropCtx c).modPort x.port (fun t => { t with aers := t.aers ++ [x.sqe.cid], waitingEv := t.waitingEv.drop 1 })

theorem execAsyncEventRequest_ready (h : AdminReady s c 0x0C x) (hmi : x.mi = false) :
    execAsyncEventRequest c s = .next (if 16 ≤ (s.port x.port).aers.length then s.complete c (stSpecific 0x05) 0
      else match (s.port x.port).waitingEv with
        | [] => s.requestAer c x
        | e :: _ => (s.requestAer c x).answerAer x.port e) :=
  congrArg _ ((State.admin_ready h _).trans (if_neg (by simp [hmi])))

/-! ## Abort -/

theorem execAbort_ready (h : AdminReady s c 0x08 x) : execAbort c s = .next (s.abort c x.port x.sqe) := by
  rw [execAbort, State.admin_ready h]

/-- Settles O23: a request by the port's room and its oldest event, an Abort by what it finds. -/
theorem eventRequestsAndAbort : Obligations.EventRequestsAndAbort := by
  refine fun s c x => ⟨fun h hmi => ⟨fun hroom hnone => ?waits, fun e es hroom hev => ?answered, fun hfull => ?refused⟩, fun h => ⟨fun id hf => ?caught, fun hf => ?told⟩⟩
  case waits =>
    rw [exec_asyncEventRequest, execAsyncEventRequest_ready h hmi, if_neg (Nat.not_le.mpr hroom), hnone]
    rfl
  case answered =>
    rw [exec_asyncEventRequest, execAsyncEventRequest_ready h hmi, if_neg (Nat.not_le.mpr hroom), hev]
    rfl
  case refused => rw [exec_asyncEventRequest, execAsyncEventRequest_ready h hmi, if_pos hfull]
  case caught =>
    rw [exec_abort, execAbort_ready h, State.abort]
    simp only [hf]
  case told =>
    rw [exec_abort, execAbort_ready h, State.abort]
    simp only [hf]

end Sys2Proof.Machine
end

section
/-! Proofs. Get Log Page (R187, R619 to R627, R654). -/
namespace Sys2Proof.Machine
-- one theorem after another: fewer threads, whose stacks are large
set_option Elab.async false

variable {s : State} {c lid : Nat} {x : Ctx}

/-- A ready Get Log Page of the identifier a command is for has that command's effect. -/
theorem State.getLog_of (h : AdminReady s c 0x02 x) (hlid : bits x.sqe.cdw10 7 0 = lid) (go : Ctx → State → State) : s.getLog c lid go = go x s := by
  rw [State.getLog_ready h, if_neg (not_not_intro hlid)]

/-- A page that is one value of the state is sent as it stands. -/
theorem State.getLog_page (h : AdminReady s c 0x02 x) (hlid : bits x.sqe.cdw10 7 0 = lid) (page : Ctx → State → Layout) :
    s.getLog c lid (fun y t => t.sendPage y (page y t)) = ((s.toHost x (logPart x.sqe (page x s))).drew).complete c .success 0 := by
  rw [State.getLog_of h hlid, State.sendPage_eq (s.ctx_id c x h.1)]

/-- A page by slot: of a slot the port has it is that slot's, of another it is refused (R189). -/
theorem State.getLog_instPage (h : AdminReady s c 0x02 x) (hlid : bits x.sqe.cdw10 7 0 = lid) (go : Ctx → Nat → State → State) :
    s.getLog c lid (fun y t => t.instPage y (go y)) =
      if (s.vport x.port).instances ≤ lsi x.sqe then s.complete c stInvalidField 0 else go x (instKey x.port (lsi x.sqe)) s := by
  rw [State.getLog_of h hlid, State.instPage, s.ctx_id c x h.1]

theorem State.getLog_instPage_within (h : AdminReady s c 0x02 x) (hlid : bits x.sqe.cdw10 7 0 = lid) (hi : lsi x.sqe < (s.vport x.port).instances) (go : Ctx → Nat → State → State) :
    s.getLog c lid (fun y t => t.instPage y (go y)) = go x (instKey x.port (lsi x.sqe)) s :=
  (State.getLog_instPage h hlid go).trans (if_neg (Nat.not_le.mpr hi))

theorem State.getLog_instPage_beyond (h : AdminReady s c 0x02 x) (hlid : bits x.sqe.cdw10 7 0 = lid) (hi : (s.vport x.port).instances ≤ lsi x.sqe) (go : Ctx → Nat → State → State) :
    s.getLog c lid (fun y t => t.instPage y (go y)) = s.complete c stInvalidField 0 :=
  (State.getLog_instPage h hlid go).trans (if_pos hi)

/-- A page that is one value of a slot is sent as it stands. -/
theorem State.getLog_instValue (h : AdminReady s c 0x02 x) (hlid : bits x.sqe.cdw10 7 0 = lid) (hi : lsi x.sqe < (s.vport x.port).instances) (page : Inst → Layout) :
    s.getLog c lid (fun y t => t.instPage y (fun k u => u.sendPage y (page (u.inst k)))) =
      ((s.toHost x (logPart x.sqe (page (s.inst (instKey x.port (lsi x.sqe)))))).drew).complete c .success 0 := by
  rw [State.getLog_instPage_within h hlid hi, State.sendPage_eq (s.ctx_id c x h.1)]

/-- A page that a read changes: with RAE cleared, what the read clears and the page's event first; the page is that of before (R654). -/
theorem State.getLog_clearing (h : AdminReady s c 0x02 x) (hlid : bits x.sqe.cdw10 7 0 = lid) (clear : Ctx → State → State) (page : Ctx → State → Layout) :
    s.getLog c lid (fun y t => ((if rae y.sqe then t else clear y t).pageRead y lid).sendPage y (page y t)) =
      (((if rae x.sqe then s else (clear x s).modPort x.port (fun t => { t with posted := t.posted.set lid false })).toHost x (logPart x.sqe (page x s))).drew).complete c .success 0 := by
  rw [State.getLog_of h hlid, State.sendPage_eq (s.ctx_id c x h.1)]
  cases hrae : rae x.sqe <;> simp [State.pageRead, hrae]

/-- Settles O20: each command is the page of its identifier, sent as it stands or of one slot, and what the read clears. -/
theorem logPagesAreSent : Obligations.LogPagesAreSent := by
  refine ⟨fun s c x h => ⟨fun hlid => ?errors, fun hlid => ?smart, fun hlid => ?firmware, fun hlid => ?effects, fun hlid => ?selfTest, fun hlid => ?update,
      fun hlid => ?spares, fun hlid hdie => ?dies, fun hlid hdie => ?noDie, fun hlid hi => ?counters, fun hlid hi => ?histograms,
      ⟨fun hlid hi => ?noCounters, fun hlid hi => ?noHistograms⟩, fun hlid => ?events⟩,
    fun s c x h => ⟨fun hlid => ?stops, fun hlid => ?power, fun hlid => ?health, fun hlid => ?module, fun hlid hi => ?deferred, fun hlid hi => ?noDeferred⟩⟩
  case errors => exact congrArg _ (State.getLog_page h hlid (fun y t => t.pageError (instKey y.port 0)))
  case smart => exact congrArg _ (State.getLog_page h hlid (fun y t => t.pageSmart y.port))
  case firmware => exact congrArg _ (State.getLog_page h hlid (fun _ t => t.pageFwSlot))
  case effects => exact congrArg _ (State.getLog_page h hlid (fun _ t => t.pageEffects))
  case selfTest => exact congrArg _ (State.getLog_page h hlid (fun _ t => t.pageSelfTest))
  case update => exact congrArg _ (State.getLog_page h hlid (fun _ t => t.pageUpdate))
  case spares => exact congrArg _ (State.getLog_page h hlid (fun _ t => t.spares.page.getD t.sparePage))
  case dies =>
    rw [exec_getLogDieStatistics, execGetLogDieStatistics, State.getLog_of h hlid, if_neg (Nat.not_le.mpr hdie), State.sendPage_eq (s.ctx_id c x h.1)]
  case noDie => rw [exec_getLogDieStatistics, execGetLogDieStatistics, State.getLog_of h hlid, if_pos hdie]
  case counters => exact congrArg _ (State.getLog_instValue h hlid hi (fun i => i.counters.layout))
  case histograms => exact congrArg _ (State.getLog_instValue h hlid hi Inst.histLayout)
  case noCounters => exact congrArg _ (State.getLog_instPage_beyond h hlid hi _)
  case noHistograms => exact congrArg _ (State.getLog_instPage_beyond h hlid hi _)
  case events =>
    rw [exec_getLogEventJournal, execGetLogEventJournal, State.getLog_of h hlid]
    by_cases hring : lsi x.sqe < 2
    · rw [if_pos hring, if_neg (Nat.not_le.mpr hring)]
    · rw [if_neg hring, if_pos (Nat.le_of_not_lt hring)]
  case stops =>
    rw [hlid]
    have hpage := State.getLog_clearing h hlid (fun _ t => t) (fun y t => t.pageStops y.port)
    simp only [ite_self] at hpage
    exact congrArg _ hpage
  case power =>
    rw [hlid]
    have hpage := State.getLog_clearing h hlid (fun _ t => t) (fun _ t => t.pagePower)
    simp only [ite_self] at hpage
    exact congrArg _ hpage
  case health =>
    rw [hlid]
    exact congrArg _ (State.getLog_clearing h hlid (fun _ t => t.modHealth (fun g => { g with warnings := g.warnings.drop 32 })) (fun _ t => t.pageHealth))
  case module =>
    rw [hlid]
    exact congrArg _ (State.getLog_clearing h hlid (fun y t => t.modPort y.port (fun q => { q with degSet := 0, degCleared := 0, newIso := 0 })) (fun y t => t.pageModule y.port))
  case deferred => exact congrArg _ (State.getLog_instPage_within h hlid hi (fun y k t => t.readDeferred c y.port k y.sqe))
  case noDeferred => exact congrArg _ (State.getLog_instPage_beyond h hlid hi _)

end Sys2Proof.Machine
end

section
/-! Proofs. I/O commands begin: their first effect once they are admitted (R168, R169, R243, R303, R385). -/
namespace Sys2Proof.Machine
-- one theorem after another: fewer threads, whose stacks are large
set_option Elab.async false

variable {s : State} {c : Nat} {x : Ctx} {v : Ns}

/-! ## One context -/

section OneContext
variable {f : Ctx → Ctx}

/-- An update that keeps a context's identifier is found under it. -/
theorem State.modCtx_ctx (i j : Nat) (s : State) (hf : ∀ y, (f y).id = y.id := by intro _; rfl) :
    (s.modCtx i f).ctx j = (s.ctx j).map (fun y => if y.id == i then f y else y) := by
  have hid : (fun y : Ctx => y.id == j) ∘ (fun y => if y.id == i then f y else y) = fun y => y.id == j := by
    funext y
    simp only [Function.comp_apply]
    split <;> simp only [hf]
  simp only [State.ctx, State.modCtx, List.find?_map, hid]

theorem State.modCtx_ctx_same (hx : s.ctx c = some x) (hf : ∀ y, (f y).id = y.id := by intro _; rfl) : (s.modCtx c f).ctx c = some (f x) := by
  simp [State.modCtx_ctx c c s hf, hx, s.ctx_id c x hx]

theorem State.modCtx_ctx_other {d : Nat} (hd : d ≠ c) (s : State) (hf : ∀ y, (f y).id = y.id := by intro _; rfl) : (s.modCtx c f).ctx d = s.ctx d := by
  rw [State.modCtx_ctx c d s hf]
  cases hy : s.ctx d with
  | none => rfl
  | some y => simp [s.ctx_id d y hy, hd]

end OneContext

theorem State.modCache_ctx_row (f : Cache → Cache) (d : Nat) (s : State) : (s.modCache f).ctx d = s.ctx d := rfl

/-! ## Asking for space (R303) -/

/-- A command that waits for cache space: its phase, its rule, and when it asked. -/
def Ctx.asking (wt : Bool) (now : Nat) (y : Ctx) : Ctx := { y with phase := .space, wt := wt, askedAt := now }

theorem State.askSpace_ctx (c : Nat) (wt : Bool) (d : Nat) (s : State) : (s.askSpace c wt).ctx d = (s.modCtx c (Ctx.asking wt s.now)).ctx d := by
  rw [State.askSpace, State.refreshHeld, State.modCache_ctx_row, State.modCache_ctx_row]
  rfl

theorem State.askSpace_cache (c : Nat) (wt : Bool) (s : State) :
    (s.askSpace c wt).cache.waiting = s.cache.waiting ++ [c] ∧ (s.askSpace c wt).cache.stripes = s.cache.stripes := by
  rw [State.askSpace, State.refreshHeld, State.modCache_cache, State.modCache_cache]
  exact ⟨rfl, rfl⟩

/-! ## The commands -/

theorem execWrite_ready (h : IoReady s c 0x01 x v) : execWrite c s = .next (if s.health.writeProtect then s.complete c stExhausted 0 else s.askSpace c x.wt) :=
  congrArg _ (State.io_ready h _)

theorem execWriteZeroes_ready (h : IoReady s c 0x08 x v) : execWriteZeroes c s = .next (if s.health.writeProtect then s.complete c stExhausted 0 else
    let u := s.modCtx c (fun y => { y with data := List.replicate x.sqe.nlb (zeroBlock v.spec) })
    if (x.destUnits v.spec).isEmpty then (u.modCtx c (fun y => { y with phase := .order })).tryWrite c else u.askSpace c x.wt) :=
  congrArg _ (State.io_ready h _)

/-- A Flush that is admitted: complete where the bellows protect the cache, else once what it covers is on media (R168, R169). -/
theorem execFlush_ready (hc : s.ctx c = some x) (hio : x.admin = false) (hphase : x.phase = .ready) (hop : x.sqe.opcode = 0x00) (hact : s.active = true) (hf : s.hostFenced = false) :
    execFlush c s = .next (if s.bellowsReady then s.complete c .success 0
      else ((s.modCtx c (fun y => { y with phase := .program })).closeHolding ((x.placed.map (fun p => p.mun)).filter s.inStripe)).tryFlush c) := by
  cases hb : s.bellowsReady <;> simp [execFlush, hc, hio, hphase, hop, hact, hf, hb]

/-- Settles O41: an admitted command is its own effect; a write that asks changes its context and the queue for space. -/
theorem ioCommandsBegin : Obligations.IoCommandsBegin := by
  refine ⟨fun s c x v => ⟨execWrite_ready, fun h hwp => ?zeroes, fun h hwp => ?zeroesProtected, fun h => ?deallocate, fun h => ?read, fun h => ?verify, fun h => ?compute, fun h => ?computeCopy,
    fun hc hio hphase hop hact hf => ⟨fun hb => ?flushProtected, fun hb => ?flushWaits⟩⟩, fun s c x v h hwp => ?asks⟩
  case zeroes => exact (execWriteZeroes_ready h).trans (congrArg _ (if_neg (by simp [hwp])))
  case zeroesProtected => exact (execWriteZeroes_ready h).trans (congrArg _ (if_pos hwp))
  case deallocate => exact congrArg _ (State.io_ready h _)
  case read => exact congrArg _ (State.io_ready h _)
  case verify => exact congrArg _ (State.io_ready h _)
  case compute => exact congrArg _ (State.io_ready h _)
  case computeCopy => exact congrArg _ (State.io_ready h _)
  case flushProtected => exact (execFlush_ready hc hio hphase hop hact hf).trans (congrArg _ (if_pos hb))
  case flushWaits => exact (execFlush_ready hc hio hphase hop hact hf).trans (congrArg _ (if_neg (by simp [hb])))
  case asks =>
    have hexec : execWrite c s = .next (s.askSpace c x.wt) := (execWrite_ready h).trans (congrArg _ (if_neg (by simp [hwp])))
    have honly := State.askSpace_only c x.wt s
    obtain ⟨hwaiting, hstripes⟩ := State.askSpace_cache c x.wt s
    have hctx : (s.askSpace c x.wt).ctx c = some (x.asking x.wt s.now) := (State.askSpace_ctx c x.wt c s).trans (State.modCtx_ctx_same h.1)
    exact ⟨_, hexec, hwaiting, hstripes, honly.cw, honly.live, honly.out, honly.insts, honly.ports, ⟨_, hctx, rfl, rfl, rfl, rfl⟩,
      fun d hd => (State.askSpace_ctx c x.wt d s).trans (State.modCtx_ctx_other hd s)⟩

end Sys2Proof.Machine
end

section
/-! Proofs. Completion entries, interrupts and events: what they leave of ports and slots, and the entry of an admin command (R150, R152). -/
namespace Sys2Proof.Machine
-- one theorem after another: fewer threads, whose stacks are large
set_option Elab.async false

variable {a s t u : State} {k cq p id : Nat} {e : Cqe} {x : Ctx} {st : Status} {d : W32}

/-! ## What a completion entry leaves of ports and slots -/

/-- What no completion entry, interrupt or event changes of a port: its stray doorbells and the vendor events posted. -/
def Port.tallies (t : Port) : Nat × Nat × Bool × Posted := (t.stray, t.straySec, t.straySent, t.posted)

theorem Port.eq_of_tallies {t u : Port} (h : t.tallies = u.tallies) : t.stray = u.stray ∧ t.straySec = u.straySec ∧ t.straySent = u.straySent ∧ t.posted = u.posted := by
  simpa only [Port.tallies, Prod.mk.injEq] using h

/-- What none of them changes of a slot: its state and its violations of the second. -/
def Inst.standing (i : Inst) : SlotState × Nat := (i.state, i.violWindow)

/-- `t` is `s` but for completion entries of slot `k`, interrupts and what waits on the ports. -/
structure Answered (k : Nat) (s t : State) : Prop where
  port : ∀ q, (t.port q).tallies = (s.port q).tallies
  standing : ∀ j, (t.inst j).standing = (s.inst j).standing
  other : ∀ j, j ≠ k → t.inst j = s.inst j

theorem Answered.refl (k : Nat) (s : State) : Answered k s s := ⟨fun _ => rfl, fun _ => rfl, fun _ _ => rfl⟩

theorem Answered.trans (h : Answered k s t) (g : Answered k t u) : Answered k s u :=
  ⟨fun q => (g.port q).trans (h.port q), fun j => (g.standing j).trans (h.standing j), fun j hj => (g.other j hj).trans (h.other j hj)⟩

theorem Answered.only {T : List Fld} (h : Answered k a s) (g : Only T s t) (hT : (!T.contains .ports && !T.contains .insts) = true := by decide) : Answered k a t := by
  simp only [Bool.and_eq_true, Bool.not_eq_true'] at hT
  have hport : t.port = s.port := by unfold State.port; rw [g.ports hT.1]
  have hinst : t.inst = s.inst := by unfold State.inst; rw [g.insts hT.2]
  exact h.trans ⟨fun q => by rw [hport], fun j => by rw [hinst], fun j _ => by rw [hinst]⟩

theorem Answered.modPort (h : Answered k a s) (p : Nat) (f : Port → Port) (hf : ∀ q, (f q).tallies = q.tallies := by intro _; rfl) : Answered k a (s.modPort p f) := by
  refine h.trans ⟨fun q => ?_, fun _ => rfl, fun _ _ => rfl⟩
  rw [State.modPort_port]
  split
  case isTrue hq => rw [hf, hq]
  case isFalse => rfl

theorem Answered.modInst (h : Answered k a s) (f : Inst → Inst) (hf : ∀ i, (f i).standing = i.standing := by intro _; rfl) : Answered k a (s.modInst k f) := by
  refine h.trans ⟨fun _ => rfl, fun j => ?_, fun j hj => ?_⟩
  · rw [State.modInst_inst]
    split
    case isTrue hj => rw [hf, hj]
    case isFalse => rfl
  · rw [State.modInst_inst, if_neg hj]

theorem Answered.emit (h : Answered k a s) (o : Out) : Answered k a (s.emit o) := h.only ((Only.refl [.out] s).emit rfl o)
theorem Answered.dropCtx (h : Answered k a s) (id : Nat) : Answered k a (s.dropCtx id) := h.only ((Only.refl [.ctxs] s).dropCtx rfl id)
theorem Answered.modCtx (h : Answered k a s) (id : Nat) (f : Ctx → Ctx) : Answered k a (s.modCtx id f) := h.only ((Only.refl [.ctxs] s).modCtx rfl id f)

/-! ## Interrupts, entries, events -/

theorem Answered.interrupt (h : Answered k a s) (p v : Nat) (own : Option Nat) : Answered k a (s.interrupt p v own) := by
  unfold State.interrupt
  dsimp only
  split_ifs
  · exact h
  · exact h.modPort p _
  · exact h.modPort p _
  · exact h.emit _

theorem Answered.noteDone (h : Answered k a s) (qid cid : Nat) : Answered k a (s.noteDone k qid cid) := by
  unfold State.noteDone
  refine Answered.modInst ?_ _ (fun i => ?_)
  · exact h.modPort _ _
  · split <;> rfl

theorem Answered.pushCqe (h : Answered k a s) (cq : Nat) (e : Cqe) : Answered k a (s.pushCqe k cq e) := by
  unfold State.pushCqe
  dsimp only
  split
  · exact (((((h.modInst _).emit _).noteDone _ _).dropCtx _).interrupt _ _ _)
  · exact ((((h.modInst _).emit _).noteDone _ _).dropCtx _)

theorem Answered.writeCqe (h : Answered k a s) (cq : Nat) (e : Cqe) : Answered k a (s.writeCqe k cq e) := by
  unfold State.writeCqe
  dsimp only
  split
  · exact h.dropCtx _
  · split_ifs
    · exact h.dropCtx _
    · exact (h.modPort _ _).modCtx _ _
    · exact (h.modInst _).modCtx _ _
    · exact h.pushCqe cq e

theorem Answered.answerAer (h : Answered (instKey p 0) a s) (v : AsyncEv) : Answered (instKey p 0) a (s.answerAer p v) := by
  unfold State.answerAer
  split
  · exact h
  · exact (h.modPort p _).writeCqe _ _

theorem Answered.postEvent (h : Answered (instKey p 0) a s) (v : AsyncEv) : Answered (instKey p 0) a (s.postEvent p v) := by
  unfold State.postEvent
  split_ifs
  · exact h
  · exact h.modPort p _
  · exact h.answerAer v

/-! ## The entry of an admin command -/

theorem instKey_port (p : Nat) : instKey p 0 / 128 = p := by rw [instKey]; omega
theorem instKey_local (p : Nat) : instKey p 0 % 128 = 0 := by rw [instKey]; omega

theorem State.interrupt_out (p v : Nat) (own : Option Nat) (s : State) : s.out <+: (s.interrupt p v own).out := by
  unfold State.interrupt
  dsimp only
  split_ifs
  · exact ⟨[], List.append_nil _⟩
  · exact ⟨[], List.append_nil _⟩
  · exact ⟨[], List.append_nil _⟩
  · exact ⟨_, rfl⟩

theorem State.pushCqe_ctx (k cq : Nat) (e : Cqe) (s : State) : (s.pushCqe k cq e).ctx e.ctx = none := by
  unfold State.pushCqe
  dsimp only
  split
  · rw [State.ctx, (State.interrupt_only _ _ _ _).ctxs]
    exact State.dropCtx_gone _ _
  · exact State.dropCtx_gone _ _

/-- An entry written is the next that leaves the module. -/
theorem State.pushCqe_out (k cq : Nat) (e : Cqe) (s : State) :
    s.out ++ [.cqe (k / 128) (k % 128) cq e.sqid e.cid e.status ((s.inst k).dw0Of e) e.dw1 (((s.inst k).cqs.get {} cq).base.toNat + 16 * ((s.inst k).cqs.get {} cq).tail)
      { s.dmaOf k with relaxed := false }] <+: (s.pushCqe k cq e).out := by
  unfold State.pushCqe
  dsimp only
  split
  · refine List.IsPrefix.trans ?_ (State.interrupt_out _ _ _ _)
    exact ⟨[], List.append_nil _⟩
  · exact ⟨[], List.append_nil _⟩

/-- An admin queue's entry: of the manager function, with its own DW0 and without a PASID. -/
theorem State.pushCqe_admin_out (p : Nat) (e : Cqe) (s : State) (hio : e.io = none) :
    s.out ++ [.cqe p 0 0 e.sqid e.cid e.status e.dw0 e.dw1 (((s.inst (instKey p 0)).cqs.get {} 0).base.toNat + 16 * ((s.inst (instKey p 0)).cqs.get {} 0).tail)
      { pasid := none, relaxed := false }] <+: (s.pushCqe (instKey p 0) 0 e).out := by
  have hout := State.pushCqe_out (instKey p 0) 0 e s
  simpa only [instKey_port, instKey_local, State.dmaOf, if_true, Inst.dw0Of, hio] using hout

/-- With the port's admin queue open an entry is written to it at once. -/
theorem State.writeCqe_open (h : AdminQueueOpen s p) (e : Cqe) : s.writeCqe (instKey p 0) 0 e = s.pushCqe (instKey p 0) 0 e := by
  obtain ⟨hfenced, hrdy, hd3, hlink, hcfs, q, hq, hsize, hfull, hheld⟩ := h
  have htag : s.mayTag (instKey p 0) = true := by simp [State.mayTag, instKey_local]
  simp [State.writeCqe, instKey_port, hq, hfenced, hrdy, hd3, hlink, hcfs, hsize, hfull, hheld, htag]

/-- The entry of an admin command. -/
def Ctx.adminCqe (id : Nat) (st : Status) (d : W32) (x : Ctx) : Cqe := { sqid := x.qid, cid := x.sqe.cid, status := st, dw0 := d, dw1 := x.dw1, ctx := id }

theorem State.finish_admin (hx : s.ctx id = some x) (hadmin : x.admin = true) (hmi : x.mi = false) (hmover : x.mover = none) (hphase : x.phase ≠ .posted) (howes : x.owes = []) :
    s.finish id st d = s.writeCqe x.key 0 (x.adminCqe id st d) := by
  simp [State.finish, Ctx.adminCqe, hx, hadmin, hmi, hmover, hphase, howes]

/-- Settles O18: the command's completion is one entry, and an open queue takes it at once. -/
theorem adminCompletionAnswersTheHost : Obligations.AdminCompletionAnswersTheHost := by
  intro s id x st d hx hadmin hmi hmover hphase howes
  rw [State.finish_admin hx hadmin hmi hmover hphase howes]
  have honly := State.writeCqe_only x.key 0 (x.adminCqe id st d) s
  refine ⟨honly.live, honly.sealed, honly.jrn, honly.cache, honly.otp, honly.keep, ((Answered.refl x.key s).writeCqe 0 _).other, fun hinst hopen => ?_⟩
  have hkey : x.key = instKey x.port 0 := by rw [Ctx.key, hinst]
  rw [hkey, State.writeCqe_open hopen]
  obtain ⟨rest, hrest⟩ := State.pushCqe_admin_out x.port (x.adminCqe id st d) s rfl
  rw [← hrest, List.append_assoc, List.drop_left]
  exact ⟨State.pushCqe_ctx _ _ _ _, ⟨_, rfl⟩, ⟨_, rfl⟩⟩

end Sys2Proof.Machine
end

section
/-! Proofs. Stray doorbells and the roll of the violation windows (R195, R227, R660). -/
namespace Sys2Proof.Machine
-- one theorem after another: fewer threads, whose stacks are large
set_option Elab.async false

variable {s t : State} {p : PortId} {w : DoorbellAt}

/-! ## A second of a port ends -/

/-- The stray doorbells of the last second of port `p` are reported, if there were any (R195). -/
def State.reportStrays (p : Nat) (s : State) : State :=
  if 0 < (s.port p).straySec then s.report (srcSequencer p) (evUnnamed 2 1) p (s.port p).straySec else s

/-- The next second of a port begins without stray doorbells. -/
def Port.newSecond (t : Port) : Port := { t with straySec := 0, straySent := false }

/-- The windows of violations of all slots are new. -/
def State.newWindows (s : State) : State := { s with insts := s.insts.map (fun (e : Nat × Inst) => (e.1, { e.2 with violWindow := 0 })) }

/-- A port's second ends and its next begins. -/
def State.rollPort (p : Nat) (s : State) : State := (s.reportStrays p).modPort p Port.newSecond

theorem execHostViolWindowRoll_eq (s : State) : execHostViolWindowRoll s = .next (s.newWindows.allPorts State.rollPort) := rfl

theorem State.newWindows_violWindow (s : State) (k : Nat) : (s.newWindows.inst k).violWindow = 0 := by
  unfold State.inst State.newWindows
  induction s.insts with
  | nil => rfl
  | cons e es ih =>
    simp only [List.map_cons, Tbl.get]
    split
    · rfl
    · exact ih

theorem State.reportStrays_only (p : Nat) (s : State) : Only [.ev] s (s.reportStrays p) := by
  unfold State.reportStrays
  split
  · exact State.report_only _ _ _ _ s
  · exact .refl _ s

theorem State.newWindows_reportStrays_ev (p : Nat) (s : State) : (s.newWindows.reportStrays p).ev = (s.reportStrays p).ev := by
  have hport : s.newWindows.port p = s.port p := rfl
  rw [State.reportStrays, State.reportStrays, hport]
  split <;> rfl

theorem State.rollPort_only (p : Nat) (s : State) : Only [.ports, .ev] s (s.rollPort p) :=
  ((Only.refl _ s).step (s.reportStrays_only p) (by decide)).modPort rfl p _

theorem State.rollPort_port (i : Nat) (s : State) (j : Nat) : (s.rollPort i).port j = if j = i then (s.port j).newSecond else s.port j := by
  have hports (q : Nat) : (s.reportStrays i).port q = s.port q := by rw [State.port, (s.reportStrays_only i).ports]; rfl
  rw [State.rollPort, State.modPort_port, hports, hports]
  split
  case isTrue hj => rw [hj]
  case isFalse => rfl

theorem State.allPorts_rollPort_only (s : State) : Only [.ports, .ev] s (s.allPorts State.rollPort) :=
  Only.allPorts _ (fun i _ h => h.step (State.rollPort_only i _) (by decide)) (.refl _ s)

theorem State.allPorts_rollPort_port (p : PortId) (s : State) : (s.allPorts State.rollPort).port p = (s.port p).newSecond :=
  (State.each_row State.port State.rollPort (fun _ q => q.newSecond) State.rollPort_port p (List.nodup_range (n := 8)) s).trans (if_pos (List.mem_range.mpr p.isLt))

/-- Where no other port has stray doorbells, rolling ports reports those of `p` and nothing else. -/
theorem State.each_rollPort_ev {xs : List Nat} (hx : xs.Nodup) {p : Nat} (hzero : ∀ q ∈ xs, q ≠ p → (s.port q).straySec = 0) :
    (s.each xs State.rollPort).ev = if p ∈ xs then (s.reportStrays p).ev else s.ev := by
  induction xs generalizing s with
  | nil => rfl
  | cons i xs ih =>
    obtain ⟨hi, hxs⟩ := List.nodup_cons.mp hx
    have hport (q : Nat) (hq : q ≠ i) : (s.rollPort i).port q = s.port q := (s.rollPort_port i q).trans (if_neg hq)
    have hstep : (s.each (i :: xs) State.rollPort).ev = ((s.rollPort i).each xs State.rollPort).ev := rfl
    rw [hstep, ih hxs (fun q hq hqp => by rw [hport q (fun h => hi (h ▸ hq))]; exact hzero q (.tail _ hq) hqp)]
    by_cases hip : p = i
    · subst hip
      rw [if_neg hi, if_pos (List.mem_cons_self)]
      rfl
    · have hquiet : s.rollPort i = s.modPort i Port.newSecond := by
        rw [State.rollPort, State.reportStrays, if_neg (by rw [hzero i (.head _) (Ne.symm hip)]; decide)]
      have hreport : ((s.rollPort i).reportStrays p).ev = (s.reportStrays p).ev := by
        rw [State.reportStrays, State.reportStrays, hport p hip, hquiet]
        split <;> rfl
      have hev : (s.rollPort i).ev = s.ev := by rw [hquiet]; rfl
      simp only [List.mem_cons, hip, false_or, hreport, hev]

/-! ## A stray doorbell -/

/-- A stray doorbell counted on its port (R195). -/
def Port.strayed (t : Port) : Port := { t with stray := sat64 (t.stray + 1), straySec := t.straySec + 1, straySent := true }

theorem State.strayDoorbell_eq (p : Nat) (s : State) :
    s.strayDoorbell p = if (s.port p).straySent then s.modPort p Port.strayed else (s.modPort p Port.strayed).postEvent p ⟨0, 0, 1⟩ := rfl

theorem State.strayDoorbell_answered (p : Nat) (s : State) : Answered (instKey p 0) (s.modPort p Port.strayed) (s.strayDoorbell p) := by
  rw [State.strayDoorbell_eq]
  split
  · exact .refl _ _
  · exact (Answered.refl _ _).postEvent _

theorem State.doorbell_notReady (h : (s.port p).rdy = false) (aligned32 : Bool) (present : Nat → Nat → Bool) (go : Nat → Nat → State → State) :
    s.doorbell p w aligned32 present go = s := by
  simp [State.doorbell, h]

theorem State.doorbell_stray (hrdy : (s.port p).rdy = true) (hcfs : (s.port p).cfs = false) (hf : s.hostFenced = false)
    (hnone : (s.vport p).instances ≤ (doorbellTarget w).1 ∨ (s.inst (instKey p (doorbellTarget w).1)).state = .free)
    (aligned32 : Bool) (present : Nat → Nat → Bool) (go : Nat → Nat → State → State) : s.doorbell p w aligned32 present go = s.strayDoorbell p := by
  have hstray : ((s.vport p).instances ≤ (doorbellTarget w).1 || (s.inst (instKey p (doorbellTarget w).1)).state == .free) = true := by simpa using hnone
  simp [State.doorbell, hrdy, hcfs, hf, hstray]

/-- Settles O14: a stray doorbell changes its port's counts and posts an event at most; the roll reports the second's. -/
theorem strayDoorbellsCountAgainstThePort : Obligations.StrayDoorbellsCountAgainstThePort := by
  refine ⟨fun s p w a v hrdy => ⟨?tailEarly, ?headEarly⟩, fun s p w a v hrdy hcfs hf hnone => ?stray⟩
  case tailEarly =>
    rw [exec_sqTailDoorbell, execSqTailDoorbell, State.doorbell_notReady hrdy, ite_self]
  case headEarly =>
    rw [exec_cqHeadDoorbell, execCqHeadDoorbell, State.doorbell_notReady hrdy, ite_self]
  case stray =>
    have hanswered := s.strayDoorbell_answered p
    have htallies : ((s.strayDoorbell p).port p).tallies = (s.port p).strayed.tallies := by
      rw [hanswered.port, State.modPort_port_same]
    obtain ⟨hstray, hsec, hsent, -⟩ := Port.eq_of_tallies htallies
    refine ⟨s.strayDoorbell p, fun hw => ?tail, fun hw => ?head, hstray, hsent, fun h => ?again, fun h => ?first, fun k => ?insts, fun hzero => ?roll⟩
    case tail => rw [exec_sqTailDoorbell, execSqTailDoorbell, State.doorbell_stray hrdy hcfs hf hnone, if_neg (by simp [hw])]
    case head => rw [exec_cqHeadDoorbell, execCqHeadDoorbell, State.doorbell_stray hrdy hcfs hf hnone, if_neg (by simp [hw])]
    case again => exact (s.strayDoorbell_eq p).trans (if_pos h)
    case first => exact (s.strayDoorbell_eq p).trans (if_neg (by simp [h]))
    case insts =>
      have hstanding := hanswered.standing k
      exact ⟨congrArg Prod.fst hstanding, congrArg Prod.snd hstanding, hanswered.other k⟩
    case roll =>
      generalize s.strayDoorbell p = t at hsec hzero ⊢
      have hport : (t.newWindows.allPorts State.rollPort).port p = (t.port p).newSecond := t.newWindows.allPorts_rollPort_port p
      have hev : (t.newWindows.allPorts State.rollPort).ev = (t.reportStrays p).ev := by
        have hothers : ∀ q ∈ List.range 8, q ≠ p.val → (t.newWindows.port q).straySec = 0 :=
          fun q hq hqp => hzero ⟨q, List.mem_range.mp hq⟩ (fun h => hqp (congrArg Fin.val h))
        rw [State.allPorts, State.each_rollPort_ev List.nodup_range hothers, if_pos (List.mem_range.mpr p.isLt), State.newWindows_reportStrays_ev]
      refine ⟨_, execHostViolWindowRoll_eq t, ?_, ?_, ?_, hev.trans ?_⟩
      · rw [hport]; rfl
      · rw [hport]; rfl
      · rw [hport]; rfl
      · rw [State.reportStrays, if_pos (by rw [hsec]; exact Nat.succ_pos _)]

end Sys2Proof.Machine
end

section
/-! Proofs. The rounds and windows of the sequencer (R184, R195, R209 to R211, R227). -/
namespace Sys2Proof.Machine
-- one theorem after another: fewer threads, whose stacks are large
set_option Elab.async false

variable {s t : State} {k i : Nat} {c : Ctx} {rest : List Ctx} {q : QuadId}

theorem State.each_fixed {xs : List Nat} {f : Nat → State → State} (hf : ∀ j ∈ xs, f j s = s) : s.each xs f = s := by
  induction xs with
  | nil => rfl
  | cons j xs ih =>
    have hstep : s.each (j :: xs) f = (f j s).each xs f := rfl
    rw [hstep, hf j (.head _), ih (fun m hm => hf m (.tail _ hm))]

/-! ## A round, slot by slot -/

/-- The turn of a slot in an admission round, with whether one before it has a command its deficit covers (R209). -/
def State.admissionTurn (a : Bool × State) (k : Nat) : Bool × State :=
  let t := a.2
  let tok := (t.dinst k).share.tokens
  if (t.waitingAt k).isEmpty then (a.1, t.modInst k (fun i => { i with deficit := 0 }))
  else if tok = 0 then a
  else
    let t := t.modInst k (fun i => { i with deficit := min (i.deficit + 16 * tok) (16 * tok + 512) })
    let u := t.admitWhile k (t.waitingAt k).length
    (a.1 || t.covered k, if (u.2.waitingAt k).isEmpty then u.2.modInst k (fun i => { i with deficit := 0 }) else u.2)

/-- One command of a slot without tokens (R210). -/
def State.admitOne (k : Nat) (t : State) : State :=
  match t.waitingAt k with
  | c :: _ => if t.capCovers c then t.admitCmd c else t
  | [] => t

/-- What the round leaves to the slots without tokens. -/
def State.admitUncovered (ks : List Nat) (t : State) : State := t.each (ks.filter (fun k => (t.dinst k).share.tokens == 0)) State.admitOne

theorem execAdmissionRound_eq (q : QuadId) (s : State) :
    execAdmissionRound q s =
      let r := (s.quadInsts q).foldl State.admissionTurn (false, s)
      .next (if r.1 then r.2 else r.2.admitUncovered (s.quadInsts q)) := by
  rw [apply_ite Host.Outcome.next]
  rfl

theorem State.admissionTurn_none {b : Bool} (h : s.waitingAt k = []) : State.admissionTurn (b, s) k = (b, s.modInst k (fun i => { i with deficit := 0 })) := by
  simp [State.admissionTurn, h]

theorem State.admissionTurn_noTokens {b : Bool} (hw : s.waitingAt k = c :: rest) (ht : (s.dinst k).share.tokens = 0) : State.admissionTurn (b, s) k = (b, s) := by
  simp [State.admissionTurn, hw, ht]

theorem State.admitOne_none (h : s.waitingAt k = []) : s.admitOne k = s := by
  simp only [State.admitOne, h]

theorem State.admitOne_covered (hw : s.waitingAt k = c :: rest) (hc : s.capCovers c = true) : s.admitOne k = s.admitCmd c := by
  simp only [State.admitOne, hw, hc, if_true]

/-! ## A round with nothing to admit -/

/-- `t` is `s` but for how its table lists the same slots. -/
structure SameInsts (s t : State) : Prop where
  only : Only [.insts] s t
  inst : ∀ j, t.inst j = s.inst j

theorem SameInsts.waitingAt (h : SameInsts s t) (j : Nat) : t.waitingAt j = s.waitingAt j := by
  rw [State.waitingAt, h.only.ctxs]
  rfl

theorem SameInsts.noDeficit (h : SameInsts s t) (hk : (s.inst k).deficit = 0) : SameInsts s (t.modInst k (fun i => { i with deficit := 0 })) := by
  refine ⟨h.only.modInst rfl _ _, fun j => ?_⟩
  rw [State.modInst_inst, h.inst, h.inst]
  split
  case isTrue hj => rw [hj, ← hk]
  case isFalse => rfl

theorem SameInsts.turns {ks : List Nat} (hks : ∀ j ∈ ks, s.waitingAt j = [] ∧ (s.inst j).deficit = 0) (h : SameInsts s t) :
    ∃ u, ks.foldl State.admissionTurn (false, t) = (false, u) ∧ SameInsts s u := by
  induction ks generalizing t with
  | nil => exact ⟨t, rfl, h⟩
  | cons j ks ih =>
    obtain ⟨hwait, hdef⟩ := hks j (.head _)
    rw [List.foldl_cons, State.admissionTurn_none ((h.waitingAt j).trans hwait)]
    exact ih (fun m hm => hks m (.tail _ hm)) (h.noDeficit hdef)

theorem execAdmissionRound_nothing (hks : ∀ j ∈ s.quadInsts q, s.waitingAt j = [] ∧ (s.inst j).deficit = 0) :
    ∃ t, execAdmissionRound q s = .next t ∧ SameInsts s t := by
  obtain ⟨t, hfold, ht⟩ := SameInsts.turns hks ⟨.refl _ s, fun _ => rfl⟩
  have hrest : t.admitUncovered (s.quadInsts q) = t :=
    State.each_fixed (fun j hj => State.admitOne_none ((ht.waitingAt j).trans (hks j (List.mem_filter.mp hj).1).1))
  exact ⟨t, by rw [execAdmissionRound_eq, hfold]; simp [hrest], ht⟩

/-! ## A round of one slot -/

/-- Command `i` has passed admission. -/
def State.Ready (i : Nat) (s : State) : Prop := ∃ y, s.ctx i = some y ∧ y.phase = .ready

theorem State.admitCmd_ctx (c : Ctx) (i : Nat) (s : State) : (s.admitCmd c).ctx i = (s.ctx i).map (fun y => if y.id == c.id then { y with phase := .ready } else y) :=
  State.modCtx_ctx c.id i _

theorem State.Ready.admitCmd (h : s.Ready i) (c : Ctx) : (s.admitCmd c).Ready i := by
  obtain ⟨y, hy, hphase⟩ := h
  refine ⟨_, by rw [State.admitCmd_ctx, hy]; rfl, ?_⟩
  dsimp only
  split
  · rfl
  · exact hphase

theorem State.mem_waitingAt (hw : s.waitingAt k = c :: rest) : c ∈ s.ctxs :=
  (List.mem_filter.mp (hw ▸ List.mem_cons_self : c ∈ s.waitingAt k)).1

theorem State.admitCmd_ready (hc : c ∈ s.ctxs) : (s.admitCmd c).Ready c.id := by
  have hsome : (s.ctx c.id).isSome = true := List.find?_isSome.mpr ⟨c, hc, beq_self_eq_true _⟩
  obtain ⟨y, hy⟩ := Option.isSome_iff_exists.mp hsome
  refine ⟨_, by rw [State.admitCmd_ctx, hy]; rfl, ?_⟩
  simp [s.ctx_id _ _ hy]

theorem State.Ready.modInst (h : s.Ready i) (k : Nat) (f : Inst → Inst) : (s.modInst k f).Ready i := h

theorem State.Ready.admitWhile (h : s.Ready i) (k n : Nat) : (s.admitWhile k n).2.Ready i := by
  induction n generalizing s with
  | zero => exact h
  | succ n ih =>
    unfold State.admitWhile
    split
    · exact h
    · dsimp only
      split
      · exact ih ((h.admitCmd _).modInst _ _)
      · exact h

/-- A slot whose deficit and allowance cover its next command admits it. -/
theorem State.admitWhile_covered (hw : s.waitingAt k = c :: rest) (hcost : c.cost ≤ (s.inst k).deficit) (hc : s.capCovers c = true) (n : Nat) :
    (s.admitWhile k (n + 1)).2.Ready c.id := by
  unfold State.admitWhile
  simp only [hw, hcost, hc, decide_true, Bool.or_true, Bool.and_self, if_true]
  exact ((State.admitCmd_ready (State.mem_waitingAt hw)).modInst _ _).admitWhile _ _

theorem State.capCovers_modInst {f : Inst → Inst} (hf : ∀ i, (f i).allowance = i.allowance := by intro _; rfl) : (s.modInst k f).capCovers c = s.capCovers c := by
  have hallow : ((s.modInst k f).inst c.key).allowance = (s.inst c.key).allowance := by
    rw [State.modInst_inst]
    split
    case isTrue hk => rw [hf, hk]
    case isFalse => rfl
  rw [State.capCovers, hallow]
  rfl

/-- In its turn a slot's deficit grows by its tokens, within its bound; a command that it and the allowance cover is admitted. -/
theorem State.admissionTurn_covered {b : Bool} (hw : s.waitingAt k = c :: rest) (hc : s.capCovers c = true) (ht : 0 < (s.dinst k).share.tokens)
    (hcost : c.cost ≤ min ((s.inst k).deficit + 16 * (s.dinst k).share.tokens) (16 * (s.dinst k).share.tokens + 512)) :
    (State.admissionTurn (b, s) k).2.Ready c.id := by
  generalize htok : (s.dinst k).share.tokens = tok at ht hcost
  have hadmitted := State.admitWhile_covered (s := s.modInst k (fun i => { i with deficit := min (i.deficit + 16 * tok) (16 * tok + 512) })) hw
    (by rw [State.modInst_inst, if_pos rfl]; exact hcost) ((State.capCovers_modInst).trans hc) rest.length
  have hwait (f : Inst → Inst) : (s.modInst k f).waitingAt k = c :: rest := hw
  simp only [State.admissionTurn, hw, hwait, htok, Nat.ne_of_gt ht, List.isEmpty_cons, List.length_cons, Bool.false_eq_true, if_false]
  split
  · exact hadmitted.modInst _ _
  · exact hadmitted

theorem State.admissionTurn_only (a : Bool × State) (k : Nat) : Only [.ports, .insts, .ctxs] a.2 (State.admissionTurn a k).2 := by
  unfold State.admissionTurn
  have honly : Only [.ports, .insts, .ctxs] a.2 a.2 := .refl _ _
  dsimp only
  split_ifs
  · dsimp only
    exact honly.modInst rfl _ _
  · exact honly
  · dsimp only
    exact ((honly.modInst rfl _ _).admitWhile rfl _ _).modInst rfl _ _
  · exact (honly.modInst rfl _ _).admitWhile rfl _ _

/-- Where the only slot has tokens, nothing is left to those without. -/
theorem State.admitUncovered_tokens (ht : 0 < (s.dinst k).share.tokens) : s.admitUncovered [k] = s := by
  simp [State.admitUncovered, Nat.ne_of_gt ht, State.each]

/-! ## Undelivered deferred errors (R184) -/

theorem State.postVendor_e0 (p : Nat) (h : (s.port p).posted.e0 = false) : ((s.postVendor p 0xE0).port p).posted.e0 = true := by
  have hnew : (s.port p).posted.get 0xE0 = false := h
  rw [State.postVendor, if_neg (by simp [hnew])]
  have hanswered := (Answered.refl (instKey p 0) (s.modPort p (fun t => { t with posted := t.posted.set 0xE0 true }))).postEvent (vendorEv 0xE0)
  obtain ⟨-, -, -, hposted⟩ := Port.eq_of_tallies (hanswered.port p)
  rw [hposted, State.modPort_port_same]
  rfl

/-- Settles O17: a round by what waits and what covers it, the interval by its definition, the roll port by port, the event by what is undelivered. -/
theorem sequencerRoundsAndWindows : Obligations.SequencerRoundsAndWindows := by
  refine fun s => ⟨fun q hks => ?nothing, fun q k c rest hq hw hc => ⟨fun ht => ?noTokens, fun ht hcost => ?tokens⟩, fun q => rfl, ?windows, fun p hu hp => ?deferred⟩
  case nothing =>
    obtain ⟨t, hexec, ht⟩ := execAdmissionRound_nothing hks
    exact ⟨t, hexec, ht.only.ctxs, ht.only.out, ht.inst⟩
  case noTokens =>
    rw [exec_admissionRound, execAdmissionRound_eq, hq, List.foldl_cons, State.admissionTurn_noTokens hw ht]
    simp [State.admitUncovered, ht, State.each, State.admitOne_covered hw hc]
  case tokens =>
    obtain ⟨y, hy, hphase⟩ : (State.admissionTurn (false, s) k).2.Ready c.id := State.admissionTurn_covered hw hc ht hcost
    have hlive : (State.admissionTurn (false, s) k).2.live = s.live := (State.admissionTurn_only (false, s) k).live
    have hrest : (State.admissionTurn (false, s) k).2.admitUncovered [k] = (State.admissionTurn (false, s) k).2 :=
      State.admitUncovered_tokens (by rw [State.dinst, hlive]; exact ht)
    refine ⟨_, y, ?_, hy, hphase⟩
    rw [exec_admissionRound, execAdmissionRound_eq, hq]
    simp only [List.foldl_cons, List.foldl_nil, hrest, ite_self]
  case windows =>
    have honly := s.newWindows.allPorts_rollPort_only
    refine ⟨_, execHostViolWindowRoll_eq s, fun p => ?_, fun k => ?_, honly.ctxs, honly.live, honly.out⟩
    · rw [State.allPorts_rollPort_port]
      exact ⟨rfl, rfl⟩
    · rw [State.inst, honly.insts]
      exact s.newWindows_violWindow k
  case deferred =>
    refine ⟨_, if_neg (by simp [hu, hp]), ?_⟩
    rw [State.port, (Only.each (T := [.insts]) _ _ (fun j u h => h.modInst rfl j _) (.refl _ _)).ports]
    exact State.postVendor_e0 p hp

end Sys2Proof.Machine
end

section
/-! Proofs. What no operation but a command on the slots of instances touches: their journalled part (R197).

The records of the map leave the slots; so does what waits and is tried again, and a command that ends silently. One equation an operation. -/
namespace Sys2Proof.Machine
-- one theorem after another: fewer threads, whose stacks are large
set_option Elab.async false

/-! ## Operations that leave the durable state -/

@[simp] theorem State.capTrim_live (k : Nat) (s : State) : (s.capTrim k).live = s.live := (State.capTrim_only ..).live
@[simp] theorem State.complete_live (id : Nat) (st : Status) (dw0 : W32) (s : State) : (s.complete id st dw0).live = s.live := (State.complete_only ..).live
@[simp] theorem State.ackWrite_live (c : Ctx) (s : State) : (s.ackWrite c).live = s.live := (State.ackWrite_only ..).live
@[simp] theorem State.leaveStop_live (id : Nat) (s : State) : (s.leaveStop id).live = s.live := (State.leaveStop_only ..).live
@[simp] theorem State.dropOps_live (id : Nat) (s : State) : (s.dropOps id).live = s.live := (State.dropOps_only ..).live
@[simp] theorem State.addOp_live (o : Op) (s : State) : (s.addOp o).live = s.live := (State.addOp_only ..).live
@[simp] theorem State.modLine_live (nsid line : Nat) (f : Line → Line) (s : State) : (s.modLine nsid line f).live = s.live := (State.modLine_only ..).live
@[simp] theorem State.touchLine_live (nsid line : Nat) (entries : List Nat) (s : State) : (s.touchLine nsid line entries).live = s.live := (State.touchLine_only ..).live
@[simp] theorem State.deferError_live (nsid u cause epoch : Nat) (s : State) : (s.deferError nsid u cause epoch).live = s.live := (State.deferError_only ..).live
@[simp] theorem State.keepOld_live (stamp nsid first n : Nat) (s : State) : (s.keepOld stamp nsid first n).live = s.live := (State.keepOld_only ..).live
@[simp] theorem State.lookup_live (nsid line id : Nat) (s : State) : (s.lookup nsid line id).2.live = s.live := (State.lookup_only ..).live
@[simp] theorem State.lookups_live (nsid id : Nat) (lines : List Nat) (s : State) : (s.lookups nsid id lines).2.live = s.live := (State.lookups_only ..).live
@[simp] theorem State.fillUnit_live (v : Ns) (port : Nat) (p : Placed) (slba : Nat) (data : List (List Byte)) (s : State) :
    (s.fillUnit v port p slba data).live = s.live := (State.fillUnit_only ..).live
@[simp] theorem State.finishRead_live (id : Nat) (s : State) : (s.finishRead id).live = s.live := (State.finishRead_only ..).live
@[simp] theorem State.tryFlush_live (id : Nat) (s : State) : (s.tryFlush id).live = s.live := (State.tryFlush_only ..).live
@[simp] theorem State.discardGen_live (k : Nat) (g : W16) (s : State) : (s.discardGen k g).live = s.live := (State.discardGen_only ..).live
@[simp] theorem State.dropWithheld_live (k : Nat) (s : State) : (s.dropWithheld k).live = s.live := (State.dropWithheld_only ..).live
@[simp] theorem State.resetStops_live (k : Nat) (s : State) : (s.resetStops k).live = s.live := (State.resetStops_only ..).live
@[simp] theorem State.clearStops_live (mask : BitVec 16) (ctx : Option Nat) (s : State) : (s.clearStops mask ctx).live = s.live := (State.clearStops_only ..).live
@[simp] theorem State.recharge_live (k : Nat) (s : State) : (s.recharge k).live = s.live := (State.recharge_only ..).live
@[simp] theorem State.dropChange_live (k : Nat) (s : State) : (s.dropChange k).live = s.live := (State.dropChange_only ..).live
@[simp] theorem State.unlockWays_live (k : Nat) (nsid : Option Nat) (s : State) : (s.unlockWays k nsid).live = s.live := (State.unlockWays_only ..).live
@[simp] theorem State.awaitSeal_live (id : Nat) (dw0 : W32) (s : State) : (s.awaitSeal id dw0).live = s.live := (State.awaitSeal_only ..).live
@[simp] theorem State.reviewRegions_live (s : State) : s.reviewRegions.live = s.live := (State.reviewRegions_only _).live

/-! ## Choices and repetitions -/

theorem State.ite_slots (c : Prop) [Decidable c] (s t : State) : (if c then s else t).live.insts = if c then s.live.insts else t.live.insts := by
  split <;> rfl

theorem State.foldl_slots {α : Type} (xs : List α) (f : State → α → State) (hf : ∀ t x, (f t x).live.insts = t.live.insts) (s : State) :
    (xs.foldl f s).live.insts = s.live.insts :=
  List.foldlRecOn (motive := fun t => t.live.insts = s.live.insts) xs f rfl (fun t ht x _ => (hf t x).trans ht)

theorem State.each_slots (xs : List Nat) (f : Nat → State → State) (hf : ∀ x t, (f x t).live.insts = t.live.insts) (s : State) :
    (s.each xs f).live.insts = s.live.insts := State.foldl_slots xs _ (fun t x => hf x t) s

/-! ## The map -/

@[simp] theorem Durable.apply_map_insts (d : Durable) (nsid u m : Nat) : (d.apply (.map nsid u m)).insts = d.insts := rfl
@[simp] theorem Durable.apply_set_insts (d : Durable) (nsid u n : Nat) (v : MapVal) : (d.apply (.set nsid u n v)).insts = d.insts := rfl

@[simp] theorem State.setUnit_slots_map (nsid u nsid' u' m : Nat) (s : State) : (s.setUnit nsid u (.map nsid' u' m)).live.insts = s.live.insts := by
  simp [State.setUnit]

@[simp] theorem State.setUnit_slots_set (nsid u nsid' u' n : Nat) (v : MapVal) (s : State) : (s.setUnit nsid u (.set nsid' u' n v)).live.insts = s.live.insts := by
  simp [State.setUnit]

@[simp] theorem State.resetUnit_slots (nsid u : Nat) (v : MapVal) (s : State) : (s.resetUnit nsid u v).live.insts = s.live.insts := by
  cases v <;> simp [State.resetUnit]

@[simp] theorem State.setRun_slots (nsid u n : Nat) (lines : List Nat) (v : MapVal) (s : State) : (s.setRun nsid u n lines v).live.insts = s.live.insts := by
  have hrecs : ((setRecs nsid u n v).foldl (fun (t : State) r => t.logRec r) s).live.insts = s.live.insts := by
    rw [setRecs, List.foldl_map]
    refine State.foldl_slots _ _ (fun t i => ?_) s
    exact Durable.apply_set_insts ..
  exact (State.each_slots _ _ (fun _ _ => by simp) _).trans hrecs

@[simp] theorem State.commitMap_slots (c : Ctx) (v : Ns) (s : State) : (s.commitMap c v).live.insts = s.live.insts := by
  simp [State.commitMap, State.ite_slots, State.foldl_slots]

@[simp] theorem State.markUnit_slots (nsid u : Nat) (s : State) : (s.markUnit nsid u).live.insts = s.live.insts := by
  simp [State.markUnit]

@[simp] theorem State.loseLine_slots (nsid line : Nat) (s : State) : (s.loseLine nsid line).live.insts = s.live.insts := by
  unfold State.loseLine
  split
  · rfl
  · simp [State.ite_slots, State.each_slots]

@[simp] theorem State.lostRecords_slots (mun : Nat) (s : State) : (s.lostRecords mun).live.insts = s.live.insts := by
  simp [State.lostRecords, State.ite_slots, State.foldl_slots]

/-! ## Reads -/

@[simp] theorem State.ladderFail_slots (mun : Nat) (owner : Owner) (cause : Nat) (s : State) : (s.ladderFail mun owner cause).live.insts = s.live.insts := by
  unfold State.ladderFail
  extract_lets counted told lost
  have hcounted : counted.live.insts = s.live.insts := by
    unfold counted
    split <;> simp
  have hlost : lost.live.insts = s.live.insts := by
    unfold lost
    split
    · extract_lets marked
      split <;> simp [marked, told, hcounted]
    · simp [told, hcounted]
  split <;> simp [hlost]

@[simp] theorem State.startSolve_slots (mun : Nat) (owner : Owner) (around : Bool) (stamp : Nat) (cls : OpClass) (s : State) :
    (s.startSolve mun owner around stamp cls).live.insts = s.live.insts := by
  unfold State.startSolve
  split
  · rfl
  · simp [State.ite_slots, State.each_slots]

@[simp] theorem State.queueRead_slots (mun : Nat) (owner : Owner) (stamp : Nat) (cls : OpClass) (s : State) :
    (s.queueRead mun owner stamp cls).live.insts = s.live.insts := by
  unfold State.queueRead
  split
  · rfl
  · simp [State.ite_slots]

@[simp] theorem State.serveUnit_slots (id u : Nat) (s : State) : (s.serveUnit id u).live.insts = s.live.insts := by
  unfold State.serveUnit
  split
  · rfl
  split
  · rfl
  extract_lets sp old r looked done
  have hlooked : looked.live.insts = s.live.insts := by
    unfold looked r
    split <;> simp
  split
  · rfl
  split
  · exact hlooked
  split
  · simp [hlooked]
  · refine (State.each_slots _ _ (fun j t => ?_) _).trans hlooked
    simp [State.ite_slots]
  · exact hlooked

@[simp] theorem State.serveRead_slots (id : Nat) (s : State) : (s.serveRead id).live.insts = s.live.insts := by
  unfold State.serveRead
  split
  · rfl
  · simp [State.each_slots]

/-! ## Writes and deallocations that wait -/

@[simp] theorem State.tryDsm_slots (id : Nat) (s : State) : (s.tryDsm id).live.insts = s.live.insts := by
  unfold State.tryDsm
  split
  · rfl
  split
  · simp [State.ite_slots, State.foldl_slots]
  · rfl

@[simp] theorem State.startMerges_slots (c : Ctx) (v : Ns) (s : State) : (s.startMerges c v).live.insts = s.live.insts := by
  unfold State.startMerges
  extract_lets us merging
  split
  · simp
  · refine State.each_slots _ _ (fun u t => ?_) merging
    split
    · simp [State.each_slots]
    · rfl

@[simp] theorem State.sealWrite_slots (c : Ctx) (v : Ns) (s : State) : (s.sealWrite c v).live.insts = s.live.insts := by
  simp [State.sealWrite]

@[simp] theorem State.tryWrite_slots (id : Nat) (s : State) : (s.tryWrite id).live.insts = s.live.insts := by
  unfold State.tryWrite
  split
  · rfl
  split
  · rfl
  split
  · rfl
  · simp [State.ite_slots, State.foldl_slots]

@[simp] theorem State.retry_slots (s : State) : s.retry.live.insts = s.live.insts := by
  refine State.each_slots _ _ (fun id t => ?_) s
  split
  · rfl
  · simp [State.ite_slots]

/-! ## Commands that end silently -/

@[simp] theorem State.endWrite_slots (c : Ctx) (s : State) : (s.endWrite c).live.insts = s.live.insts := by
  unfold State.endWrite
  split
  · rfl
  split
  · rfl
  split
  · simp [State.ite_slots, State.foldl_slots]
  extract_lets free ready placed
  have hplaced : placed.live.insts = s.live.insts := by
    simp [placed, State.ite_slots, State.foldl_slots]
  split
  · exact hplaced
  · simp [State.ite_slots, State.foldl_slots, hplaced]

@[simp] theorem State.endSilent_slots (id : Nat) (s : State) : (s.endSilent id).live.insts = s.live.insts := by
  unfold State.endSilent
  split
  · rfl
  · simp [State.ite_slots]

end Sys2Proof.Machine
end

section
/-! Proofs. The commands on the slots of instances (R197 to R224): a slot taken, reset, freed, and its share changed. -/
namespace Sys2Proof.Machine
-- one theorem after another: fewer threads, whose stacks are large
set_option Elab.async false

variable {s t : State} {c k n : Nat} {x : Ctx} {d : Share} {ch : ShareChange}

/-! ## The journalled part of a slot -/

@[simp] theorem State.logInst_dinst (k : Nat) (f : DurInst → DurInst) (j : Nat) (s : State) :
    (s.logInst k f).dinst j = if j = k then f (s.dinst k) else s.dinst j := by
  simp [State.logInst, State.dinst, Durable.apply]

@[simp] theorem State.logInst_inst_row (k : Nat) (f : DurInst → DurInst) (j : Nat) (s : State) : (s.logInst k f).inst j = s.inst j := rfl

theorem State.dinst_of_slots (h : t.live.insts = s.live.insts) (j : Nat) : t.dinst j = s.dinst j := by
  rw [State.dinst, State.dinst, h]

/-! ## What a completion leaves of a slot: its state (R196) -/

theorem Answered.state (h : Answered k s t) (j : Nat) : (t.inst j).state = (s.inst j).state := congrArg Prod.fst (h.standing j)

@[simp] theorem State.lateDiscard_state (k n j : Nat) (s : State) : ((s.lateDiscard k n).inst j).state = (s.inst j).state :=
  ((Answered.refl k s).modInst _).state j

@[simp] theorem State.countIo_state (y : Ctx) (st : Status) (j : Nat) (s : State) : ((s.countIo y st).inst j).state = (s.inst j).state := by
  unfold State.countIo
  split
  · rfl
  · extract_lets b ok isR isW bw br bin counted
    have hcounted : Answered y.key s counted := (Answered.refl y.key s).modInst _
    exact hcounted.state j

theorem State.inst_of_only {T : List Fld} (h : Only T s t) (hT : T.contains .insts = false := by decide) (j : Nat) : t.inst j = s.inst j := by
  rw [State.inst, State.inst, h.insts hT]

@[simp] theorem State.finish_state (id : Nat) (st : Status) (dw0 : W32) (j : Nat) (s : State) : ((s.finish id st dw0).inst j).state = (s.inst j).state := by
  unfold State.finish
  split
  · rfl
  next y _ =>
    extract_lets k noted report status owed counted cq
    have hnoted : ∀ i, noted.inst i = s.inst i := fun i => by
      unfold noted
      split <;> rfl
    have howed : (owed.inst j).state = (s.inst j).state := by
      unfold owed
      split
      · rw [hnoted]
      · rw [← hnoted]
        exact ((Answered.refl k noted).modInst _).state j
    have hcounted : (counted.inst j).state = (s.inst j).state := by
      unfold counted
      split
      · exact howed
      · rw [State.countIo_state, howed]
    split
    · rfl
    split
    · exact State.lateDiscard_state ..
    split
    · rfl
    split
    · rw [State.inst_of_only (State.moverDone_only ..)]
      exact (State.countIo_state ..).trans (congrArg _ (hnoted j))
    · exact (((Answered.refl k counted).writeCqe _ _).state j).trans hcounted

/-- What every repetition leaves of a slot, all of them leave. -/
theorem State.each_inst {β : Type} (g : Inst → β) (j : Nat) (xs : List Nat) (f : Nat → State → State) (hf : ∀ i t, g ((f i t).inst j) = g (t.inst j)) (s : State) :
    g ((s.each xs f).inst j) = g (s.inst j) :=
  List.foldlRecOn (motive := fun t => g (t.inst j) = g (s.inst j)) xs _ rfl (fun t ht i _ => (hf i t).trans ht)

@[simp] theorem State.settleDeletes_state (j : Nat) (s : State) : (s.settleDeletes.inst j).state = (s.inst j).state := by
  refine State.each_inst Inst.state j _ _ (fun id t => ?_) s
  split
  · rw [State.finish_state]
    exact ((Answered.refl _ t).modInst _).state j
  · rfl

@[simp] theorem State.complete_state (id : Nat) (st : Status) (dw0 : W32) (j : Nat) (s : State) : ((s.complete id st dw0).inst j).state = (s.inst j).state :=
  (State.settleDeletes_state ..).trans (State.finish_state ..)

/-! ## A command that waits for its seal -/

theorem State.awaitSeal_ctx (h : s.ctx c = some x) (dw0 : W32) : (s.awaitSeal c dw0).ctx c = some { x with phase := s.sealPhase, dw0 := dw0 } :=
  State.modCtx_ctx_same h

/-! ## Create Instance (R199 to R205) -/

/-- The journalled part of a slot as Create Instance leaves it: its generation, its share, its first vector. -/
def DurInst.taken (g : W16) (d : Share) (base : Nat) (e : DurInst) : DurInst :=
  { e with live := true, gen := g, share := d, vecBase := base, attached := [], window := none }

/-- Slot `k`, local number `n`, becomes ACTIVE with a share and its next generation, and the command waits for the seal. -/
def State.takeSlot (c k n : Nat) (d : Share) (s : State) : State :=
  (((s.logInst k (DurInst.taken (s.gen k + 1) d ((s.vecFit k d.vectors).getD 0))).modInst k (fun _ => { state := .active })).modJrn
    (fun j => { j with stats := j.stats.erase k })).reviewRegions.awaitSeal c (BitVec.ofNat 32 (n + (s.gen k + 1).toNat * 65536))

theorem State.takeSlot_dinst (c k n : Nat) (d : Share) (j : Nat) (s : State) : (s.takeSlot c k n d).dinst j =
    if j = k then (s.dinst k).taken (s.gen k + 1) d ((s.vecFit k d.vectors).getD 0) else s.dinst j := by
  rw [← State.logInst_dinst]
  exact State.dinst_of_slots (by simp [State.takeSlot]) j

theorem State.takeSlot_inst (c k n : Nat) (d : Share) (s : State) : (s.takeSlot c k n d).inst k = { state := .active } := by
  rw [State.takeSlot, State.inst_of_only (State.awaitSeal_only ..), State.inst_of_only (State.reviewRegions_only _)]
  simp

theorem State.takeSlot_ctx (h : s.ctx c = some x) (k n : Nat) (d : Share) :
    (s.takeSlot c k n d).ctx c = some { x with phase := .seal s.jrn.openEpoch, dw0 := BitVec.ofNat 32 (n + (s.gen k + 1).toNat * 65536) } := by
  unfold State.takeSlot
  generalize hu : ((s.logInst k _).modInst k _).modJrn _ = u
  have honly := State.reviewRegions_only u
  have hctx : u.reviewRegions.ctx c = some x := by rw [State.ctx, honly.ctxs, ← hu]; exact h
  rw [State.awaitSeal_ctx hctx, State.sealPhase, honly.jrn, ← hu]
  rfl

/-- The slot a Create Instance takes: the one it names, or the lowest free one (R199, R200). -/
def State.picks (s : State) (x : Ctx) (n : Nat) : Prop :=
  x.localIndex = n ∧ n ≠ 0xFF ∧ n ≠ 0 ∧ n < (s.vport x.port).instances ∧ (s.dinst (instKey x.port n)).live = false ∨
    x.localIndex = 0xFF ∧ ((List.range (s.vport x.port).instances).drop 1).find? (fun n => !(s.dinst (instKey x.port n)).live) = some n

/-- A Create Instance of a sound share, whose slot and PASID are free: the pools decide (R201, R204). -/
theorem execCreateInstance_ready (h : BoundaryReady s c 0xC1 x) (hdata : x.sqe.data = .share d) (hshare : shareOk d = true) (hpasid : (s.port x.port).pasidEn = true)
    (hfree : ∀ k ∈ s.liveKeys x.port, k % 128 ≠ 0 → (s.dinst k).share.pasid ≠ d.pasid) (hpick : s.picks x n)
    (hbusy : s.genBusy (instKey x.port n) (s.gen (instKey x.port n) + 1) = false) :
    execCreateInstance c s = .next ((s.shortOf (instKey x.port n) d).elim (s.takeSlot c (instKey x.port n) n d) (fun code => s.complete c stPool (BitVec.ofNat 32 code))) := by
  have hsound : (!shareOk d || !(s.port x.port).pasidEn || (s.liveKeys x.port).any (fun k => k % 128 != 0 && (s.dinst k).share.pasid == d.pasid)) = false := by
    simpa [hshare, hpasid] using hfree
  have hnamed : ¬ (x.localIndex ≠ 0xFF ∧ (x.localIndex = 0 ∨ (s.vport x.port).instances ≤ x.localIndex ∨ (!!(s.dinst (instKey x.port x.localIndex)).live) = true)) := by
    rcases hpick with ⟨rfl, -, hzero, hlt, hslot⟩ | ⟨hall, -⟩
    · simp [hzero, hlt, hslot]
    · simp [hall]
  have hpicked : (if x.localIndex = 0xFF then ((List.range (s.vport x.port).instances).drop 1).find? (fun n => !(s.dinst (instKey x.port n)).live) else some x.localIndex) = some n := by
    rcases hpick with ⟨rfl, hall, -⟩ | ⟨hall, hfind⟩
    · exact if_neg hall
    · rw [if_pos hall, hfind]
  rw [execCreateInstance, State.boundary_ready h]
  simp only [hdata, hsound, hpicked, hbusy, if_neg hnamed, Bool.false_eq_true, if_false]
  cases s.shortOf (instKey x.port n) d <;> rfl

/-- Settles O33: the pools refuse the share, or the slot is taken with it. -/
theorem createInstanceTakesASlot : Obligations.CreateInstanceTakesASlot := by
  intro s c x d h hdata hshare hpasid hfree n hpick k hbusy
  have hexec := execCreateInstance_ready h hdata hshare hpasid hfree hpick hbusy
  refine ⟨fun code hshort => ?refused, fun hshort => ?taken⟩
  case refused => rw [exec_createInstance, hexec, hshort, Option.elim_some]
  case taken =>
    rw [hshort, Option.elim_none] at hexec
    have htaken := (State.takeSlot_dinst c k n d k s).trans (if_pos rfl)
    refine ⟨_, hexec, congrArg DurInst.live htaken, congrArg DurInst.gen htaken, congrArg DurInst.share htaken, congrArg DurInst.attached htaken,
      congrArg Inst.state (State.takeSlot_inst c k n d s), fun j hj => ?_, _, State.takeSlot_ctx h.1.1 k n d, rfl, rfl⟩
    rw [State.takeSlot_dinst, if_neg hj]

/-! ## Change Share (R219 to R224) -/

theorem State.applyChange_none (h : (s.inst k).change = none) : s.applyChange k = s := by
  rw [State.applyChange, h]

/-- The journalled part of a slot whose share has changed. -/
def DurInst.changed (ch : ShareChange) (e : DurInst) : DurInst := { e with share := ch.share, vecBase := ch.base, epoch := e.epoch + 1 }

theorem State.applyChange_dinst (h : (s.inst k).change = some ch) : (s.applyChange k).dinst k = (s.dinst k).changed ch := by
  unfold State.applyChange
  simp only [h]
  generalize hcleared : s.clearStops _ _ = u
  have hu : u.dinst k = s.dinst k := by rw [← hcleared]; exact State.dinst_of_slots (by simp) k
  have hlogged : (u.logInst k (DurInst.changed ch)).dinst k = (u.dinst k).changed ch := (State.logInst_dinst ..).trans (if_pos rfl)
  rw [← hu, ← hlogged]
  refine State.dinst_of_slots ?_ k
  simp only [State.capTrim_live, State.recharge_live, State.modCtx_live, State.modInst_live]
  rfl

theorem State.applyChange_change (s : State) (k : Nat) : ((s.applyChange k).inst k).change = none := by
  cases h : (s.inst k).change with
  | none => rw [State.applyChange_none h, h]
  | some ch =>
    unfold State.applyChange
    simp only [h]
    rw [State.capTrim, State.modInst_inst, if_pos rfl, State.inst_of_only (State.recharge_only ..)]
    simp

theorem State.applyChange_gen (s : State) (k : Nat) : (s.applyChange k).gen k = s.gen k := by
  cases h : (s.inst k).change with
  | none => rw [State.applyChange_none h]
  | some ch => rw [State.gen, State.applyChange_dinst h]; rfl

theorem State.applyChange_epoch (s : State) (k : Nat) :
    ((s.applyChange k).dinst k).epoch = (s.dinst k).epoch + (if (s.inst k).change = none then 0 else 1) := by
  cases h : (s.inst k).change with
  | none => simp [State.applyChange_none h]
  | some ch => simp [State.applyChange_dinst h, DurInst.changed]

/-- Settles O35: an accepted change begins the drain; the drain's end, or its limit, applies it. -/
theorem changeShareDrainsTheSlot : Obligations.ChangeShareDrainsTheSlot := by
  refine fun s => ⟨?begins,
    fun p n ch hch => ⟨fun hepoch => ⟨?heldEnd, ?heldLimit⟩, fun hepoch hdrained => ?ends, fun hepoch => ?limit, ?share, ?epoch, State.applyChange_change _ _⟩⟩
  case begins =>
    intro c x d h hdata k hn hchange hseal hmatch hactive hok hrefused hshort
    rw [exec_changeShare, execChangeShare, State.boundary_ready h]
    simp only [State.startChange, h.1.1]
    rw [if_neg (Nat.not_le.mpr hn), if_neg ?notBusy, if_neg (Bool.eq_false_iff.mp hmatch), if_neg (by simpa using hactive)]
    · simp only [hdata, hok, k, hrefused, hshort, Bool.not_true, Bool.or_false, Bool.false_eq_true, if_false]
    case notBusy =>
      rw [hchange, Option.isSome_none, Bool.false_or, Bool.not_eq_true, List.any_eq_false]
      intro y hy hwaits
      simp only [Bool.and_eq_true, beq_iff_eq] at hwaits
      obtain ⟨⟨⟨⟨hadmin, hop⟩, hkey⟩, hslot⟩, hphase⟩ := hwaits
      refine hseal y hy ⟨hadmin, hop, hkey, hslot, ?_⟩
      split at hphase
      next e he => exact ⟨e, he⟩
      next => cases hphase
  case heldEnd =>
    obtain ⟨e, he⟩ := Option.isSome_iff_exists.mp hepoch
    exact if_neg (by simp [he])
  case heldLimit => simp [execShareDrainLimitExpiry, hch, hepoch]
  case ends => exact if_pos (by simp [hepoch, hdrained])
  case limit => simp [execShareDrainLimitExpiry, hch, hepoch]
  case share => rw [State.applyChange_dinst hch]; rfl
  case epoch => rw [State.applyChange_dinst hch]; rfl

/-! ## Reset Instance (R213, R216) -/

@[simp] theorem State.lateDiscard_change (k n j : Nat) (s : State) : ((s.lateDiscard k n).inst j).change = (s.inst j).change := by
  rw [State.lateDiscard, State.modInst_inst]
  split
  next hj => rw [hj]
  next => rfl

@[simp] theorem State.discardGen_change (k : Nat) (g : W16) (j : Nat) (s : State) : ((s.discardGen k g).inst j).change = (s.inst j).change := by
  unfold State.discardGen
  refine (State.lateDiscard_change ..).trans (State.each_inst Inst.change j _ _ (fun id t => ?_) s)
  rw [State.dropCtx_inst_row, State.inst_of_only (State.leaveStop_only ..), State.lateDiscard_change]

/-- The journalled part of a slot at a reset: its next generation, its next epoch. -/
def DurInst.reset (g : W16) (e : DurInst) : DurInst := { e with gen := g, epoch := e.epoch + 1 }

/-- Of a slot's journalled part a reset changes the generation and the epoch, and applies the share that waits. -/
theorem State.resetInst_dinst (s : State) (k : Nat) :
    (s.resetInst k).dinst k = (((s.discardGen k (s.gen k + 1)).logInst k (DurInst.reset (s.gen k + 1))).applyChange k).dinst k := by
  refine State.dinst_of_slots ?_ k
  unfold State.resetInst
  extract_lets g changed ids ended stopped
  have hended : ended.live.insts = changed.live.insts := by
    refine State.each_slots _ _ (fun id t => ?_) changed
    split
    · simp [State.ite_slots]
    · rfl
  simp only [stopped, State.retry_slots, State.modInst_live, State.resetStops_live, State.dropWithheld_live]
  exact hended

theorem State.resetInst_gen (s : State) (k : Nat) : (s.resetInst k).gen k = s.gen k + 1 := by
  rw [State.gen, State.resetInst_dinst, ← State.gen, State.applyChange_gen, State.gen, State.logInst_dinst, if_pos rfl]
  rfl

theorem State.resetInst_epoch (s : State) (k : Nat) :
    ((s.resetInst k).dinst k).epoch = (s.dinst k).epoch + (if (s.inst k).change = none then 1 else 2) := by
  have hdinst : (s.discardGen k (s.gen k + 1)).dinst k = s.dinst k := State.dinst_of_slots (by simp) k
  rw [State.resetInst_dinst, State.applyChange_epoch, State.logInst_dinst, if_pos rfl, State.logInst_inst_row, State.discardGen_change, hdinst]
  split <;> simp [DurInst.reset, BitVec.add_assoc]

/-! ## Destroy Instance (R218, R224) -/

/-- The journalled part of a slot that is FREE. -/
def DurInst.freed (e : DurInst) : DurInst := { e with live := false, share := {}, vecBase := 0, attached := [], window := none }

@[simp] theorem DurInst.freed_gen (e : DurInst) : e.freed.gen = e.gen := rfl

/-- A slot that has been reset becomes FREE: its stops are cleared, its lines unlocked, and the Change Shares that waited end. -/
def State.freeSlot (c k : Nat) (s : State) : State :=
  let t := (((s.modCtx c (fun x => { x with phase := .drain })).clearStops (s.dinst k).share.stopMask (some c)).unlockWays k none).logInst k DurInst.freed
  (((t.modInst k (fun _ => {})).awaitSeal c 0).each (t.inst k).waiting (fun i u => u.complete i stInvalidField 0)).reviewRegions

theorem State.freeSlot_dinst (c k : Nat) (s : State) : (s.freeSlot c k).dinst k = (s.dinst k).freed := by
  unfold State.freeSlot
  generalize hu : ((s.modCtx c _).clearStops _ _).unlockWays k none = u
  have hdinst : u.dinst k = s.dinst k := by rw [← hu]; exact State.dinst_of_slots (by simp) k
  have hfreed : (u.logInst k DurInst.freed).dinst k = (u.dinst k).freed := (State.logInst_dinst ..).trans (if_pos rfl)
  rw [← hdinst, ← hfreed]
  exact State.dinst_of_slots (by simp [State.each_slots]) k

theorem State.freeSlot_state (c k : Nat) (s : State) : ((s.freeSlot c k).inst k).state = .free := by
  unfold State.freeSlot
  rw [State.inst_of_only (State.reviewRegions_only _), State.each_inst Inst.state k _ _ (fun i u => State.complete_state ..), State.inst_of_only (State.awaitSeal_only ..)]
  simp

theorem execDestroyInstance_ready (h : SlotReady s c 0xC4 x k) (hn : x.localIndex ≠ 0) (hbusy : s.genBusy k (s.gen k + 1) = false) :
    execDestroyInstance c s = .next (((s.dropChange k).resetInst k).freeSlot c k) := by
  rw [execDestroyInstance, State.slotCommand_ready h false (.inr hn), if_neg (Bool.eq_false_iff.mp hbusy)]
  rfl

theorem State.destroyed_gen (c k : Nat) (s : State) : ((((s.dropChange k).resetInst k).freeSlot c k).dinst k).gen = s.gen k + 1 := by
  have hgen : (s.dropChange k).gen k = s.gen k := by rw [State.gen, State.dinst_of_slots (congrArg Durable.insts (State.dropChange_live k s)), State.gen]
  rw [State.freeSlot_dinst, DurInst.freed_gen, ← State.gen, ← hgen]
  exact State.resetInst_gen _ _

/-! ## Proxy Admin (R202, R203) -/

theorem slotChecks_ready {op : Nat} (h : SlotReady s c op x k) (hn : x.localIndex ≠ 0) (go : Ctx → Nat → State → State) : slotChecks c false go x s = go x k s := by
  obtain ⟨-, rfl, hlt, hmatch, hlive⟩ := h
  simp [slotChecks, Nat.not_le.mpr hlt, hn, hmatch, hlive]

/-- Settles O34: a slot command is its own effect once its checks pass; a proxied command is the effect of its opcode. -/
theorem instanceCommands : Obligations.InstanceCommands := by
  refine ⟨fun s c x k => ⟨fun h => ?report, fun h hn hbusy => ?destroy, fun h hbusy => ?waits, fun h hbusy => ⟨?reset, State.resetInst_gen s k, State.resetInst_epoch s k⟩,
    fun h hlt hn hmatch => ?generation, fun h hle => ?slot⟩, fun s c x k q h hn => ?proxy⟩
  case report => exact congrArg _ (State.admin_ready h _)
  case destroy =>
    have hfreed := State.freeSlot_dinst c k ((s.dropChange k).resetInst k)
    exact ⟨_, execDestroyInstance_ready h hn hbusy, congrArg DurInst.live hfreed, congrArg DurInst.share hfreed, congrArg DurInst.attached hfreed,
      State.destroyed_gen c k s, State.freeSlot_state c k _⟩
  case waits => rw [exec_resetInstance, execResetInstance, State.slotCommand_ready h true (.inl rfl), if_pos hbusy]
  case reset => rw [exec_resetInstance, execResetInstance, State.slotCommand_ready h true (.inl rfl), if_neg (Bool.eq_false_iff.mp hbusy)]
  case generation =>
    rw [exec_destroyInstance, execDestroyInstance, State.slotCommand_refused h, if_neg (by simp [hlt, hn]), if_pos hmatch]
  case slot => rw [exec_resetInstance, execResetInstance, State.slotCommand_refused h, if_pos (by simp [hle])]
  case proxy =>
    rw [exec_proxyAdmin, execProxyAdmin, State.admin_ready h.1.1, slotChecks_ready h hn]
    refine ⟨fun hstate => ?inactive, fun hstate hq => ?noEntry, fun hstate hq => ⟨fun hop => ?opcode, fun hop hfields => ?fields, fun hfields => ?runs⟩⟩
    case inactive => simp [hstate]
    case noEntry => simp [hstate, hq]
    case opcode => simp only [hstate, hq, hop, bne_self_eq_false, Bool.false_eq_true, if_false, Bool.not_false, if_true]
    case fields => simp only [hstate, hq, hop, hfields, bne_self_eq_false, Bool.false_eq_true, if_false, Bool.not_true, Bool.not_false, if_true]
    case runs => refine ⟨?_, ?_, ?_, ?_, ?_, ?_, ?_, ?_, ?_⟩ <;> exact fun hop => by simp [hstate, hq, hop, hfields, proxyOpcodes]

end Sys2Proof.Machine
end

section
/-! Proofs. A namespace is created, with its key (R230 to R233, R582, R583). -/
namespace Sys2Proof.Machine
-- one theorem after another: fewer threads, whose stacks are large
set_option Elab.async false

variable {s t : State} {c id m : Nat} {x : Ctx} {n : NsSpec} {v : KeySlot}

/-! ## The slots of the key table -/

theorem State.keyState_of_keys (h : t.part.keys = s.part.keys) (m : Nat) : t.keyState m = s.keyState m := by rw [State.keyState, State.keyState, h]

@[simp] theorem State.rewriteKeys_keys (s : State) : s.rewriteKeys.part.keys = s.part.keys := by
  have hgiven : ∀ xs t, Only [.live, .jrn, .health] s t → Only [.live, .jrn, .health] s (State.each xs State.giveUpBand t) := fun xs _ =>
    Only.each xs _ (fun k _ hu => hu.giveUpBand (by decide) k)
  have hmarked : ∀ xs, Only [.live, .jrn, .health] s (s.each xs (fun k u => u.logBand (k / 65536) (k % 65536) (.role .system))) := fun xs =>
    Only.each xs _ (fun _ _ hu => hu.logBand (by decide) _ _ _) (Only.refl _ s)
  unfold State.rewriteKeys
  extract_lets t new
  split
  · rfl
  · have hpart := (hgiven t.bands _ (hmarked new)).part
    exact (congrArg Part.keys hpart :)

@[simp] theorem State.rewriteKeys_keyState (m : Nat) (s : State) : s.rewriteKeys.keyState m = s.keyState m := State.keyState_of_keys s.rewriteKeys_keys m

/-- One slot of the key table is set: NSIDs count from 1, the slots from 0. -/
theorem State.keyState_of_set (h : t.part.keys = s.part.keys.set (id - 1) v) (hid : 1 ≤ id) (hm : m ≠ 0) :
    t.keyState m = if m = id then v else s.keyState m := by
  have hslot : m - 1 = id - 1 ↔ m = id := by omega
  simp [State.keyState, h, hslot]

/-! ## Namespace Create (R230 to R233, R582, R583) -/

theorem State.freeNsid_pos (h : s.freeNsid = some id) : 1 ≤ id := by
  obtain ⟨i, -, rfl⟩ := List.mem_map.mp (List.mem_of_find?_eq_some h)
  exact Nat.le_add_left 1 i

/-- The keys as a Create leaves them: the new namespace's slot is emptied, made active or given a key, and the table is written where that changed it. -/
def State.keyed (n : NsSpec) (id : Nat) (s : State) : State :=
  if !n.encrypt then (if (s.keyState id).state == .loaded then (s.zeroKey id).rewriteKeys else s)
  else (if n.keyProvided then s.modPart (fun p => { p with keys := p.keys.set (id - 1) { p.keys.get {} (id - 1) with state := .active } }) else s.newKey id).rewriteKeys

theorem State.keyed_eq (n : NsSpec) (id : Nat) (s : State) : s.keyed n id =
    if n.encrypt = false then (if (s.keyState id).state = .loaded then (s.zeroKey id).rewriteKeys else s)
    else if n.keyProvided = true then (s.modPart (fun p => { p with keys := p.keys.set (id - 1) { p.keys.get {} (id - 1) with state := .active } })).rewriteKeys
    else (s.newKey id).rewriteKeys := by
  cases hkey : n.keyProvided <;> simp [State.keyed, hkey]

theorem State.keyed_keyState_other (n : NsSpec) (hid : 1 ≤ id) (hm : m ≠ id) (hzero : m ≠ 0) (s : State) : (s.keyed n id).keyState m = s.keyState m := by
  have hset : ∀ {t : State} {v : KeySlot}, t.part.keys = s.part.keys.set (id - 1) v → t.rewriteKeys.keyState m = s.keyState m := fun h => by
    rw [State.rewriteKeys_keyState, State.keyState_of_set h hid hzero, if_neg hm]
  rw [State.keyed_eq]
  split
  · split
    · exact hset rfl
    · rfl
  split
  · exact hset rfl
  · exact hset rfl

theorem State.keyed_active (henc : n.encrypt = true) (hkey : n.keyProvided = true) (hid : 1 ≤ id) (s : State) : ((s.keyed n id).keyState id).state = .active := by
  rw [State.keyed_eq, if_neg (by simp [henc]), if_pos hkey, State.rewriteKeys_keyState, State.keyState_of_set rfl hid (by omega), if_pos rfl]

theorem State.ns_of_nsSet (v : Ns) (s : State) : (s.logRec (.nsSet v)).ns v.nsid = some v := by
  simp [State.ns, Durable.apply]

/-- What a Create that is not refused does. -/
def State.created (c : Nat) (n : NsSpec) (id : Nat) (s : State) : State :=
  ((s.keyed n id).logRec (.nsSet { nsid := id, serial := (s.keyed n id).live.nextSerial, spec := n })).awaitSeal c (BitVec.ofNat 32 id)

theorem execNamespaceCreate_free (h : AdminReady s c 0x0D x) (hsel : bits x.sqe.cdw10 3 0 = 0) (hdata : x.sqe.data = .nsSpec n) (hvalid : s.createInvalid n = false)
    (hsafe : (!n.writeThrough && decide (s.pw.energy < 240)) = false) (hfree : s.freeNsid = some id) :
    execNamespaceCreate c s = .next (if s.userCapacity < s.nsBytes + n.nsze * n.lba then s.complete c (stSpecific 0x15) 0 else s.created c n id) := by
  simp only [execNamespaceCreate, State.admin_ready h, hsel, hdata, zero_ne_one, Nat.reduceLeDiff, hvalid, hsafe, hfree, Bool.false_eq_true, if_false, if_true]
  rfl

/-- Settles O25: the hypotheses decide the refusals one after another; what is left gives the namespace its key, its record and its wait. -/
theorem namespaceCreateTakesTheLowestNsid : Obligations.NamespaceCreateTakesTheLowestNsid := by
  intro s c x n h hsel hdata
  refine ⟨fun hinvalid => ?invalid, fun hvalid hthrough henergy => ?writeThrough, fun hvalid hsafe => ?accepted⟩
  case invalid => simp [execNamespaceCreate, State.admin_ready h, hsel, hdata, hinvalid]
  case writeThrough => simp [execNamespaceCreate, State.admin_ready h, hsel, hdata, hvalid, hthrough, henergy]
  case accepted =>
    replace hsafe : (!n.writeThrough && decide (s.pw.energy < 240)) = false := by
      rcases hsafe with hthrough | henergy
      · simp [hthrough]
      · simp [henergy]
    refine ⟨fun hnone => ?noNsid, fun id hfree => ?nsid⟩
    case noNsid =>
      simp only [exec_namespaceCreate, execNamespaceCreate, State.admin_ready h, hsel, hdata, zero_ne_one, Nat.reduceLeDiff, hvalid, hsafe, hnone, Bool.false_eq_true, if_false, if_true]
    case nsid =>
      have hid := State.freeNsid_pos hfree
      rw [exec_namespaceCreate, execNamespaceCreate_free h hsel hdata hvalid hsafe hfree, ← State.keyed_eq]
      refine ⟨fun hlarge => congrArg _ (if_pos hlarge), fun hfits => ⟨congrArg _ (if_neg (Nat.not_lt.mpr hfits)), State.ns_of_nsSet _ _, rfl,
        fun henc hkey => State.keyed_active henc hkey hid s, fun m hm => ?otherKeys⟩⟩
      by_cases hzero : m = 0
      · exact .inr hzero
      · exact .inl (State.keyed_keyState_other n hid hm hzero s)

end Sys2Proof.Machine
end

section
/-! Proofs. Namespaces are deleted, attached and detached (R236 to R238). -/
namespace Sys2Proof.Machine
-- one theorem after another: fewer threads, whose stacks are large
set_option Elab.async false

variable {s : State} {c : Nat} {x : Ctx} {v : Ns} {ids : List Nat}

/-! ## What the checks of a Delete say (R238) -/

theorem State.unknown_iff : ids.any (fun n => (s.ns n).isNone) = true ↔ ∃ n ∈ ids, s.ns n = none := by simp
theorem State.transformed_iff : ids.any (fun n => !(s.transforms n).isEmpty) = true ↔ ∃ n ∈ ids, s.transforms n ≠ [] := by simp

/-! ## A Controller List with an identifier that is none of the port's live slots (R236) -/

theorem State.attachment_unlisted {sel : Nat} (h : WaitReady s c 0x15 x) (hs : bits x.sqe.cdw10 3 0 = sel) (hsel : sel < 2)
    (hv : s.ns x.sqe.nsid = some v) (hd : x.sqe.data = .ctrlList ids) (hl : s.listed x.port ids = none) (go : Ctx → Ns → List Nat → State → State) :
    s.attachment c sel go = s.complete c (stSpecific 0x1C) 0 := by
  have hknown : ¬2 ≤ sel := by omega
  simp [State.attachment, State.adminWait_ready h, hs, hknown, hv, hd, hl]

/-- Settles O26: a Delete by what is known, transformed and busy; an attachment by its list, and a detach by what holds the namespace. -/
theorem namespaceDeleteAttachAndDetach : Obligations.NamespaceDeleteAttachAndDetach := by
  refine ⟨fun s c x h hsel => ?delete, fun s c x v ids h hv hdata => ⟨fun hsel hl => ?attachNone, fun hsel hl => ?detachNone, fun ks hl =>
    ⟨fun hsel => ?attach, fun hsel hphase hout => ?notAttached, fun hsel hheld hstops => ?detach⟩⟩⟩
  case delete =>
    extract_lets ids u
    have hrun : exec (.namespaceDelete c) s = .next (if ids.any (fun n => (s.ns n).isNone) then s.complete c stInvalidNs 0
        else if ids.any (fun n => !(s.transforms n).isEmpty) then s.complete c stSequence 0
        else if ids.any (fun n => u.nsBusy n (fun _ => true)) then u else (u.deleteAll ids).awaitSeal c 0) := by
      rw [exec_namespaceDelete, execNamespaceDelete, State.admin_ready h, if_neg (not_not_intro hsel)]
    rw [hrun]
    refine ⟨fun hunknown => ?unknown, fun hknown htrans => ?transformed, fun hknown hfree => ⟨fun hbusy => ?busy, fun hidle => ?idle⟩⟩
    case unknown => rw [if_pos (State.unknown_iff.mpr hunknown)]
    all_goals rw [if_neg (by simpa using hknown)]
    case transformed => rw [if_pos (State.transformed_iff.mpr htrans)]
    all_goals rw [if_neg (by simpa using hfree)]
    case busy => rw [if_pos (List.any_eq_true.mpr hbusy)]
    case idle => rw [if_neg (by simpa using hidle)]
  case attachNone => rw [exec_namespaceAttach, execNamespaceAttach, State.attachment_unlisted h hsel (by decide) hv hdata hl]
  case detachNone => rw [exec_namespaceDetach, execNamespaceDetach, State.attachment_unlisted h hsel (by decide) hv hdata hl]
  case attach => rw [exec_namespaceAttach, execNamespaceAttach, State.attachment_ready h hsel (by decide) hv hdata hl]
  case notAttached =>
    rw [exec_namespaceDetach, execNamespaceDetach, State.attachment_ready h hsel (by decide) hv hdata hl, if_pos (by simpa [hphase] using hout)]
  case detach =>
    have hgo : (x.phase == .ready && ks.any (fun k => !(s.dinst k).attached.contains v.nsid)) = false := by
      rcases hheld with hphase | hall
      · simp [hphase]
      · simpa using fun _ => hall
    rw [exec_namespaceDetach, execNamespaceDetach, State.attachment_ready h hsel (by decide) hv hdata hl, if_neg (Bool.eq_false_iff.mp hgo)]
    simp only [hstops, List.isEmpty_nil, Bool.not_true, Bool.false_eq_true, if_false]

end Sys2Proof.Machine
end

section
/-! Proofs. Format NVM, Crypto Erase and the lends of map memory (R239, R251 to R256, R586). -/
namespace Sys2Proof.Machine
-- one theorem after another: fewer threads, whose stacks are large
set_option Elab.async false

variable {s t : State} {c p : Nat} {gone : Lend → Bool}

/-! ## Lends that end (R253) -/

@[simp] theorem State.newLayout_lends (s : State) : s.newLayout.lends = s.lends := (State.newLayout_only s).lends

theorem State.lendsOf_of_lends (h : t.lends = s.lends) (p : Nat) : t.lendsOf p = s.lendsOf p := by rw [State.lendsOf, State.lendsOf, h]

theorem State.dropLends_lendsOf (p : Nat) (keep : Lend → Bool) (s : State) : (s.dropLends p keep).lendsOf p = (s.lendsOf p).filter keep := by
  unfold State.dropLends
  split
  case isTrue hall => exact (List.filter_eq_self.mpr (List.all_eq_true.mp hall)).symm
  case isFalse => rw [State.lendsOf, State.newLayout_lends, Tbl.get_set, if_pos rfl]

theorem State.endLends_lendsOf (p : Nat) (gone : Lend → Bool) (s : State) : (s.endLends p gone).lendsOf p = (s.lendsOf p).filter (fun l => !gone l) := by
  have hreads : Only [.out] (s.dropLends p (fun l => !gone l)) (s.endLends p gone) :=
    Only.foldl _ _ (fun _ l hu => Only.foldl l.extents _ (fun _ _ hw => hw.emit (by decide) _) hu) (Only.refl _ _)
  rw [State.lendsOf_of_lends hreads.lends, State.dropLends_lendsOf]

theorem State.any_lend_iff : (s.lendsOf p).any gone = true ↔ (s.lendsOf p).filter gone ≠ [] := by
  simp [List.filter_eq_nil_iff]

/-! ## Device epochs an admin command asks for (R95) -/

theorem State.askEpoch_accepted (hbusy : s.quiesceBusy = false) (hserving : s.serving = true) (cause : Nat) (act : EpochAct) :
    s.askEpoch c cause act = s.startDevEpoch cause act (some c) :=
  if_neg (by simp [hbusy, hserving])

theorem State.askEpoch_refused (h : s.quiesceBusy = true ∨ s.serving = false) (cause : Nat) (act : EpochAct) : s.askEpoch c cause act = s.complete c stSequence 0 :=
  if_pos (by simpa using h)

/-- Settles O27: a format or an erasure by what it names and what is busy; a lend by its extents, a reclaim by what it ends, and a failed access by the lend it ends. -/
theorem formatEraseAndLends : Obligations.FormatEraseAndLends := by
  refine ⟨fun s c x v => ⟨fun h hall hok hv => ?format, fun h hall hv hok => ?formatUnknown, fun h hall hok hbusy hserving => ?formatAll, fun h hall hok hrefused => ?formatAllRefused,
    fun h hbits => ⟨fun hall hbusy hserving => ?eraseAll, fun hall hv => ?eraseUnknown, fun hall hv => ⟨fun henc => ?plain, fun henc => ?erase⟩⟩⟩,
    fun s => ⟨fun c x count es r h hdata => ?lend, fun c x h => ?reclaim, fun p lend f hlent => ?fails⟩⟩
  case format => simp [execFormatNvm, State.adminWait_ready h, hall, hok, hv]
  case formatUnknown => simp [execFormatNvm, State.adminWait_ready h, hall, hok, hv]
  case formatAll => simp [execFormatNvmAll, State.admin_ready h, hall, hok, State.askEpoch_accepted hbusy hserving]
  case formatAllRefused => simp [execFormatNvmAll, State.admin_ready h, hall, hok, State.askEpoch_refused hrefused]
  case eraseAll => simp [execCryptoErase, State.adminWait_ready h, hbits, hall, State.askEpoch_accepted hbusy hserving]
  case eraseUnknown => simp [execCryptoErase, State.adminWait_ready h, hbits, hall, hv]
  case plain => simp [execCryptoErase, State.adminWait_ready h, hbits, hall, hv, henc]
  case erase => simp [execCryptoErase, State.adminWait_ready h, hbits, hall, hv, henc]
  case lend =>
    extract_lets old all total refused
    have hrefused : (r || count = 0 || decide (255 < count) || es.length ≠ count || decide (131072 < total) || decide (4 ≤ old.length) ||
          es.any (fun e => e.chunks == 0 || e.address % 2 ^ 21 != 0) || anyMeet all) = true ↔ refused := by
      simp [refused, or_assoc]
    rw [exec_lendMapMemory, execLendMapMemory, State.admin_ready h]
    simp only [hdata]
    refine ⟨fun hr => ?lendRefused, fun hr => ?lent⟩
    case lendRefused => exact congrArg _ (if_pos (hrefused.mpr hr))
    case lent => exact congrArg _ (if_neg (mt hrefused.mp hr))
  case reclaim =>
    extract_lets gone
    have hstarts : x.phase = .ready → ¬(x.phase == .drain) = true := fun hphase => by simp [hphase]
    have hany := State.any_lend_iff (s := s) (p := x.port) (gone := fun l => x.sqe.cdw10.getLsbD 2 || l.id == bits x.sqe.cdw10 1 0)
    refine ⟨fun hphase => ?drained, fun hphase hall hgone => ?unknown, fun hphase hall hgone => ?none, fun hphase hgone => ?ends⟩
    all_goals
      rw [exec_reclaimMapMemory, execReclaimMapMemory, State.adminWait_ready h]
      dsimp only
    case drained => rw [if_pos (by simp [hphase])]
    all_goals rw [if_neg (hstarts hphase)]
    case unknown => rw [Bool.eq_false_iff.mpr (mt hany.mp (not_not_intro hgone)), hall]; rfl
    case none => rw [Bool.eq_false_iff.mpr (mt hany.mp (not_not_intro hgone)), hall]; rfl
    case ends => rw [hany.mpr hgone, Bool.not_true, Bool.and_false]; rfl
  case fails =>
    extract_lets t
    refine ⟨?runs, ?gone, ?live⟩
    case runs => exact if_pos (by simpa using hlent)
    case gone =>
      rw [State.lendsOf_of_lends (State.managerEvent_only ..).lends, State.endLends_lendsOf]
      simp
    case live => exact (State.managerEvent_only ..).live.trans (State.endLends_only ..).live

end Sys2Proof.Machine
end

section
/-! Proofs. The map caches: misses and fetches, errors of a way, maintenance operations (R246, R247, R257, R268 to R284). -/
namespace Sys2Proof.Machine
-- one theorem after another: fewer threads, whose stacks are large
set_option Elab.async false

/-! ## Slices and their ways -/

@[simp] theorem State.modSlice_slice (sl : Nat) (g : Slice → Slice) (j : Nat) (s : State) : (s.modSlice sl g).slice j = if j = sl then g (s.slice sl) else s.slice j := by
  simp [State.modSlice, State.slice]

@[simp] theorem State.notBefore_slice (t j : Nat) (s : State) : (s.notBefore t).slice j = s.slice j := rfl

@[simp] theorem Slice.setWay_way_same (set w : Nat) (y : Way) (x : Slice) : (Slice.setWay set w y x).way set w = y := by
  simp [Slice.setWay, Slice.way]

/-- Settles O47: where a fetch's copy comes from and whether it stands decide its end; the window's end resets one way; an operation by whether one runs. -/
theorem mapCaches : Obligations.MapCaches := by
  refine ⟨fun s => ⟨fun x f hmiss => ?miss, fun nsid line f hf => ⟨fun c hv => ?gone, fun v hv ht3 => ?t3, fun v set hv ht2 => ?t2⟩, fun nsid line lost => ?installs⟩,
    fun s x set way => ⟨fun _ _ => rfl, fun hwindow => ?expiry⟩, fun s => ⟨fun hbusy => ?refused, fun hidle => ?starts, fun n val w hw => ?region, fun n val w hfw hmgmt => ?stranger, fun hbusy => ?done⟩⟩
  case miss =>
    extract_lets u
    refine ⟨fun hin => ?filled, fun hout => ?parked⟩
    all_goals rw [exec_t1MissFillComplete, execT1MissFillComplete, hmiss]
    case filled => exact if_pos hin
    case parked => exact if_neg (Bool.eq_false_iff.mp hout)
  case gone => simp [execMapFetchComplete, hf, hv]
  case t3 =>
    refine ⟨?asWritten, ?unrepairable, fun r => ?other⟩
    all_goals simp [execMapFetchComplete, hf, hv, ht3]
  case t2 =>
    refine ⟨fun hway => ?superseded, fun w hway => ?current, ?damaged, fun r => ?record⟩
    case superseded => simp [execMapFetchComplete, hf, hv, ht2, hway]
    case current => simp [execMapFetchComplete, hf, hv, ht2, hway]
    case damaged => simp [execMapFetchComplete, hf, hv, ht2]
    case record =>
      cases hgood : s.recordGood (s.mc.t2Key.getD 0#256) nsid line r
      · simp [execMapFetchComplete, hf, hv, ht2, hgood]
      cases hcurrent : s.isCurrent r
      · simp [execMapFetchComplete, hf, hv, ht2, hgood, hcurrent]
      · simp [execMapFetchComplete, hf, hv, ht2, hgood, hcurrent]
  case installs =>
    refine ⟨fun hfull => ?waits, fun t hroom => ?lands⟩
    case waits => simp [State.installLine, hfull]
    case lands => simp [State.installLine, hroom, State.landLine]
  case expiry =>
    have hexpire : ¬(!((s.slice x).way set way).errWindow) = true := by simp [hwindow]
    exact ⟨_, if_neg hexpire, Nat.le_max_right .., by simp, by simp, by simp, by simp, fun j hj => by simp [hj], rfl⟩
  case refused =>
    intro i hi
    simp only [List.mem_cons, List.not_mem_nil, or_false] at hi
    rcases hi with rfl | rfl | rfl | rfl <;> exact congrArg _ (if_pos hbusy)
  case starts =>
    have hstart : ∀ op, s.maintCmd op = s.startMaint op s.mc.range0 s.mc.range1 := fun op => if_neg (Bool.eq_false_iff.mp hidle)
    exact ⟨congrArg _ (hstart 1), congrArg _ (hstart 2), congrArg _ (hstart 3), congrArg _ (hstart 4)⟩
  case region =>
    have hwriter : ¬(!(w == .firmware || w == .management)) = true := by rcases hw with rfl | rfl <;> decide
    rw [exec_mcRegionLoWrite, execMcRegionLoWrite, if_neg hwriter]
    exact ⟨fun hbusy => if_pos hbusy, fun hidle => if_neg (Bool.eq_false_iff.mp hidle)⟩
  case stranger => exact if_pos (by simp [hfw, hmgmt])
  case done => exact if_neg (by simp [hbusy])

end Sys2Proof.Machine
end

section
/-! Proofs. The write path's engines: cache space, commits, merge reads, stripes that close, memory errors (R302 to R304, R311, R314). -/
namespace Sys2Proof.Machine
-- one theorem after another: fewer threads, whose stacks are large
set_option Elab.async false

variable {s : State} {c m n u nsid : Nat} {x : Ctx} {bs : List (List Byte)} {muns : List Nat}

/-! ## A write whose space is granted (R159, R478) -/

theorem execWriteCommit_granted (hx : s.ctx c = some x) (hphase : x.phase = .granted) (hf : s.hostFenced = false) (hheld : x.held = false) :
    execWriteCommit c bs s = .next (if x.mover.isSome then (s.streamWrite c).retry
      else if bs.length ≠ x.sqe.nlb then s
      else ((s.modCtx c (fun y => { y with data := bs })).streamWrite c).retry) := by
  have hgo : ¬(x.phase != .granted || s.hostFenced || x.held) = true := by simp [hphase, hf, hheld]
  simp only [execWriteCommit, hx, if_neg hgo]
  split_ifs <;> rfl

/-! ## A merge read that is back (R304) -/

/-- A command whose merge read of a unit is back. -/
def Ctx.mergeBack (u : Nat) (y : Ctx) : Ctx := { y with merge := y.merge.filter (fun w => !(w == u)), merged := u :: y.merged }

@[simp] theorem Ctx.mergeBack_sqe (u : Nat) (y : Ctx) : (y.mergeBack u).sqe = y.sqe := rfl

theorem Ctx.mergeBack_last_iff : (x.mergeBack u).merge.isEmpty = true ↔ ∀ w ∈ x.merge, w = u := by
  simp [Ctx.mergeBack]

/-- A command that reads the unit for itself has no merge of it. -/
theorem execMergeReadComplete_reads (hx : s.ctx c = some x) (hphase : x.phase = .media ∨ x.phase = .stop) : execMergeReadComplete c u s = .next s := by
  have hreads : (x.phase == .media || x.phase == .stop) = true := by simpa using hphase
  simp only [execMergeReadComplete, hx, if_pos hreads]

/-- With the last codeword of a unit back, the command tries its order again, waits for its other units, waits for its data, or goes on to its order. -/
theorem execMergeReadComplete_back (hx : s.ctx c = some x) (hu : x.merge.contains u = true) (hops : s.ops = []) (hsolves : s.solves = [])
    (hmedia : x.phase ≠ .media) (hstop : x.phase ≠ .stop) :
    execMergeReadComplete c u s = .next (
      let t := s.modCtx c (Ctx.mergeBack u)
      if x.phase = .merge then
        if ∀ w ∈ x.merge, w = u then
          if x.sqe.opcode = 0x01 then t.modCtx c (fun y => { y with phase := .granted }) else (t.arrive c).retry
        else t
      else (t.tryWrite c).retry) := by
  have hreads : ¬(x.phase == .media || x.phase == .stop) = true := by simp [hmedia, hstop]
  have hback : (s.modCtx c (fun y => { y with merge := y.merge.filter (fun w => !(w == u)), merged := u :: y.merged })).ctx c = some (x.mergeBack u) :=
    State.modCtx_ctx_same hx
  simp only [execMergeReadComplete, hx, if_neg hreads, hu, hops, hsolves, List.any_nil, Bool.not_true, Bool.or_self, Bool.false_eq_true, if_false, hback, Ctx.mergeBack_sqe]
  by_cases hphase : x.phase = .merge
  case neg => rw [if_neg (by simpa using hphase), if_neg hphase]; rfl
  rw [if_pos (by simpa using hphase), if_pos hphase]
  by_cases hlast : ∀ w ∈ x.merge, w = u
  case neg => rw [if_pos (by simpa using mt Ctx.mergeBack_last_iff.mp hlast), if_neg hlast]; rfl
  rw [if_neg (by simp [Ctx.mergeBack_last_iff.mpr hlast]), if_pos hlast]
  exact (apply_ite Host.Outcome.next ..).symm

/-! ## A codeword that is lost (R311) -/

/-- A lost codeword whose unit the map still names there costs the unit: a deferred error, and its mark. -/
theorem execHbmUncorrectableError_one (hlost : muns.filter s.inStripe = [m]) (hmany : 2 < 1 + n)
    (hunit : (s.setCodeword m { s.codeword m with lost := true }).unitOf m = some (nsid, u)) :
    execHbmUncorrectableError muns n s = .next (
      let t := s.setCodeword m { s.codeword m with lost := true }
      ((t.deferError nsid u 1 (t.codeword m).epoch).markUnit nsid u).retry) := by
  have hlen : ¬[m].length + n ≤ 2 := Nat.not_le.mpr hmany
  simp only [execHbmUncorrectableError, hlost, if_neg hlen, State.each, List.foldl, hunit]

/-- Settles O42: each row is the effect its guard leaves, a merge read's by what its command still waits for. -/
theorem writePathEngines : Obligations.WritePathEngines := by
  intro s
  refine ⟨fun hheld hf => ?grant, fun c x bs hx hphase hf hheld => ⟨fun hmover hlen => ?hostData, fun hmover => ?moverData⟩,
    fun c x u hx hu hops hsolves => ?merge, fun i x hx hopen => ⟨fun hused => ?idle, fun t ht => ?writeThrough⟩,
    fun muns n => ⟨fun hfew => ?repaired, fun m nsid u hlost hmany _ => ?lost⟩⟩
  case grant => rw [exec_cacheSpaceGrant, execCacheSpaceGrant, if_neg (by simp [hheld, hf])]
  case hostData => rw [exec_writeCommit, execWriteCommit_granted hx hphase hf hheld, if_neg (by simp [hmover]), if_neg (not_not_intro hlen)]
  case moverData => rw [exec_writeCommit, execWriteCommit_granted hx hphase hf hheld, if_pos hmover]
  case merge =>
    extract_lets t
    have hback := execMergeReadComplete_back hx hu hops hsolves
    refine ⟨execMergeReadComplete_reads hx, fun hphase hmedia hstop => ?ordered, fun hphase hout => ?others, fun hphase hall hop => ?write, fun hphase hall hop => ?zeroes⟩
    case ordered => exact (hback hmedia hstop).trans (congrArg _ (if_neg hphase))
    all_goals refine (hback (by simp [hphase]) (by simp [hphase])).trans (congrArg _ ((if_pos hphase).trans ?_))
    case others => exact if_neg (by simpa using hout)
    case write => exact (if_pos hall).trans (if_pos hop)
    case zeroes => exact (if_pos hall).trans (if_neg hop)
  case idle =>
    rw [exec_stripeIdleClose, execStripeIdleClose, hx]
    exact if_pos (by simpa [hopen] using hused)
  case writeThrough =>
    rw [exec_writeThroughStripeClose, execWriteThroughStripeClose, hx]
    simp only [ht, hopen, Bool.not_false, if_true]
  case repaired => exact if_pos hfew
  case lost => exact execHbmUncorrectableError_one hlost hmany

end Sys2Proof.Machine
end

section
/-! Proofs. The chanter of a link: what it issues, how it suspends and resumes, what a die that does not answer is given over to (R330, R335 to R340, R346, R396, R428). -/
namespace Sys2Proof.Machine
-- one theorem after another: fewer threads, whose stacks are large
set_option Elab.async false

variable {s : State} {l : LinkId} {d : Fin 18} {o r : Op}

/-! ## A turn of the chanter (R330, R335) -/

/-- The chanter works for a die of an open link that is neither under suspicion nor failed. -/
theorem execChanterIssue_guard (hopen : (s.link l).open = true) (hsuspect : (s.die (dieKey l d)).health ≠ .suspect) (hfailed : (s.die (dieKey l d)).health ≠ .failed) :
    ¬(!(s.link l).open || (s.die (dieKey l d)).health == .suspect || (s.die (dieKey l d)).health == .failed) = true := by
  simp [hopen, hsuspect, hfailed]

/-- With nothing to issue, the chanter turns to the operation that runs: one that is suspended is resumed once no host read is left, another may be suspended. -/
theorem execChanterIssue_running (hopen : (s.link l).open = true) (hsuspect : (s.die (dieKey l d)).health ≠ .suspect) (hfailed : (s.die (dieKey l d)).health ≠ .failed)
    (hpick : s.pick l d = none) (hr : s.running l d = some r) (hflush : s.modes.flush = none) :
    execChanterIssue l d s = .next (
      if r.suspended = true then
        if (s.queued l d).any (fun o => o.cls == .host && o.isRead) = true ∨ s.readsOut l d ≠ [] then s else s.resumeOp r
      else s.considerSuspend r) := by
  simp only [execChanterIssue, if_neg (execChanterIssue_guard hopen hsuspect hfailed), hpick, hr, hflush, Option.isSome_none, Bool.false_eq_true, if_false]
  cases r.suspended
  case false => rfl
  case true => simp [apply_ite Host.Outcome.next]

/-! ## Dies that do not answer (R340, R352, R396) -/

/-- A read that timed out, other than a read-around's, puts its die under suspicion, unless its link lost lock. -/
theorem execDieReadTimeout_reports {tag : Nat} (ho : s.ops.find? (fun o => o.link == l.val && o.tag == some tag && o.isRead && o.owner != .none) = some o)
    (hpaused : s.timePaused l = false) (howner : ∀ i, o.owner ≠ .member i true) :
    execDieReadTimeout l tag s = .next (
      let u := s.notBefore (o.issuedAt + s.image.faults.dieTimeout)
      if (s.link l).lostAt.isSome then u.toStep4 o else (u.suspectDie l o.die).allToStep4 [o]) := by
  simp only [execDieReadTimeout, ho, hpaused, Bool.false_eq_true, if_false]
  cases hw : o.owner
  case member i around =>
    cases around
    case true => exact absurd hw (howner i)
    case false => rfl
  all_goals rfl

/-! ## Read offsets (R346) -/

/-- A calibration of a block group the die has: its sets are new, and a version 3 pod is sent them. -/
theorem execReadOffsetCalibration_active {b : Nat} (hlink : (s.link l).state = 2) (hdrone : s.mediaDrone = true) (hactive : (s.die (dieKey l d)).health = .active)
    (hb : 64 * b < (s.desc l).blocks) :
    execReadOffsetCalibration l d b s = .next (
      let u := (s.modDie (dieKey l d) (fun x => { x with offsetsAt := x.offsetsAt.set b s.now, slow := x.slow.set b 0 }.calibrate b (readLevels (s.desc l)) s.free)).drew
      if (s.link l).version = 3 then u.sendOffsets l d b else u) := by
  have hgo : ¬((s.link l).state != 2 || (s.die (dieKey l d)).health != .active || !s.mediaDrone || decide ((s.desc l).blocks ≤ 64 * b)) = true := by
    simp [hlink, hdrone, hactive, hb]
  exact if_neg hgo

/-- Settles O44: a turn of the chanter by what it picks and what runs, a timeout by what it finds, the rest by their guards. -/
theorem chantersIssueAndTimeOut : Obligations.ChantersIssueAndTimeOut := by
  intro s l d
  refine ⟨fun hopen hsuspect hfailed => ?chanter, fun r t hr hwindow hsuspended hopen hflush => ?window, fun tag o ho hpaused howner => ?read,
    fun t hprobe hsuspect => ?probe, fun r hprobe hr hasked hruns hend => ?suspend, fun hlink => ?adapts, fun hlink hdrone hactive b hb => ?calibrates⟩
  case chanter =>
    have hgo := execChanterIssue_guard hopen hsuspect hfailed
    refine ⟨fun o hpick => ?picked, fun o t hpick => ?weighted, fun r hpick hr hflush hruns => ?runs, fun r hpick hr hflush hsuspended hqueued hout => ?resumes⟩
    case picked => simp only [exec_chanterIssue, execChanterIssue, if_neg hgo, hpick]
    case weighted => simp only [exec_chanterIssue, execChanterIssue, if_neg hgo, hpick]
    all_goals refine (execChanterIssue_running hopen hsuspect hfailed hpick hr hflush).trans (congrArg _ ?_)
    case runs => exact if_neg (by simp [hruns])
    case resumes => exact (if_pos hsuspended).trans (if_neg (by simp [hqueued, hout]))
  case window =>
    have hresumes : (r.suspended && (s.link l).open && s.modes.flush.isNone) = true := by simp [hsuspended, hopen, hflush]
    simp only [exec_suspendWindowExpiry, execSuspendWindowExpiry, hr, hwindow, if_pos hresumes]
  case read => exact execDieReadTimeout_reports ho hpaused howner
  case probe =>
    simp only [exec_dieOpTimeout, execDieOpTimeout, hprobe]
    exact if_pos (by simp [hsuspect])
  case suspend =>
    simp only [exec_dieOpTimeout, execDieOpTimeout, hprobe, hr]
    exact if_pos (by simpa [hasked, hruns] using hend)
  case adapts => exact if_pos (by simpa using hlink)
  case calibrates => exact execReadOffsetCalibration_active hlink hdrone hactive hb

end Sys2Proof.Machine
end

section
/-! Proofs. Pods that leave and enter their bays, what a bay's switch reports, the rows of a rebuild, spare dies as they are verified (R392, R393, R397, R403, R405, R408, R541, R542). -/
namespace Sys2Proof.Machine
-- one theorem after another: fewer threads, whose stacks are large
set_option Elab.async false

variable {s : State} {l : LinkId} {d : Fin 18}

/-! ## Pods (R397, R403) -/

/-- A pod that leaves fails its part, if its bay was powered. -/
theorem execPodPresenceChange_leaves (hpresent : (s.pod l).present = true) (desc : Option PodDesc) :
    execPodPresenceChange l false desc s = .next (
      let u := s.modPod l (fun q => { q with present := false, desc := none, refused := false, mismatch := false, entering := false })
      if !(s.pod l).powered then u else if u.modes.mode == .bringUp then u.linkDead l else if u.active then (u.failPod l false).retry else u) := by
  have hchange : ¬((s.pod l).present == false) = true := by simp [hpresent]
  exact if_neg hchange

@[simp] theorem State.modPod_active (k : Nat) (f : Pod → Pod) (s : State) : (s.modPod k f).active = s.active := rfl
@[simp] theorem State.modPod_hostFenced (k : Nat) (f : Pod → Pod) (s : State) : (s.modPod k f).hostFenced = s.hostFenced := rfl

/-- A pod taken in: its bay switch closes, and its link trains, first at the highest rate of its protocol. -/
def State.podPowered (l : Nat) (desc : PodDesc) (s : State) : State :=
  ((s.emit (.bay l true)).modPod l (fun q => { q with powered := true, entering := true, failed := false, failTimes := [] })).modLink l
    (fun x => { recoveries := x.recoveries, state := 1, trying := if desc.protocolMax = 1 then 2 else 3 })

section Enters
variable {desc : PodDesc} (habsent : (s.pod l).present = false) (hdead : l.val ∈ s.live.deadPods) (hactive : s.active = true) (hrail : s.pw.rail = true)
  (hfence : s.hostFenced = false)
include habsent hdead hactive hrail hfence

/-- A pod that enters the bay of a failed one with a descriptor that does not check is refused. -/
theorem execPodPresenceChange_refuses (hdesc : descOk desc = false) :
    execPodPresenceChange l true (some desc) s = .next (
      ((s.modPod l (fun q => { q with present := true })).modPod l (fun q => { q with refused := true })).report (srcAggregator l) (evUnnamed 7 3) l 0) := by
  simp [execPodPresenceChange, habsent, hdead, hactive, hrail, hfence, hdesc]

/-- One whose protocol the module has and whose geometry is that of a group it can serve is powered. -/
theorem execPodPresenceChange_powers (hdesc : descOk desc = true) (hmin : 1 ≤ desc.protocolMax) (hmax : desc.protocolMax ≤ 3)
    (hfits : let w := (s.modPod l (fun q => { q with present := true })).modPod l (fun q => { q with desc := some desc })
      (w.slotGroups l).any (fun g => w.fitsGroup g l) = true) :
    execPodPresenceChange l true (some desc) s = .next (
      ((s.modPod l (fun q => { q with present := true })).modPod l (fun q => { q with desc := some desc })).podPowered l desc) := by
  simp [execPodPresenceChange, habsent, hdead, hactive, hrail, hfence, hdesc, Nat.one_le_iff_ne_zero.mp hmin, Nat.not_lt.mpr hmax, hfits, State.podPowered]

end Enters

/-! ## A bay's switch (R541, R542) -/

/-- Overcurrent or a fault takes the pod of a powered bay: its link is dead in BRING-UP, its member fails after that. -/
theorem State.bayStatus_trips {st : BayStatus} (htrip : st.overcurrent = true ∨ st.fault = true) (hpowered : (s.pod l).powered = true) :
    s.bayStatus l st = if s.modes.mode = .bringUp then s.linkDead l else (s.failPod l false).retry := by
  have hfails : ((st.overcurrent || st.fault) && (s.pod l).powered) = true := by simpa [hpowered] using htrip
  simp only [State.bayStatus, if_pos hfails, beq_iff_eq]

/-- A switch that reports neither changes nothing. -/
theorem State.bayStatus_quiet {st : BayStatus} (hcurrent : st.overcurrent = false) (hfault : st.fault = false) : s.bayStatus l st = s :=
  if_neg (by simp [hcurrent, hfault])

/-! ## Rows of a rebuild (R405, R408) -/

section Rebuild
variable {id row b m : Nat} {r : Rebuild} {found : List SlotSolve}

/-- A rebuild with no row left ends. -/
theorem execRebuildRowSolve_ends (hr : s.rebuild id = some r) (hactive : s.active = true) (hfence : s.hostFenced = false) (hnext : s.rebuildNext r = none) :
    execRebuildRowSolve id found s = .next (s.rebuildEnd r) := by
  simp only [execRebuildRowSolve, hr, hactive, hfence, hnext, Bool.not_true, Bool.or_self, Bool.false_eq_true, if_false]

/-- The next row solved, the rebuild ends if it was the last. -/
theorem execRebuildRowSolve_solves {t : State} (hr : s.rebuild id = some r) (hactive : s.active = true) (hfence : s.hostFenced = false)
    (hnext : s.rebuildNext r = some (b, row)) (hm : s.memberAt b r.pos = some m) (ht : s.rebuildRow r b row m found = some t) :
    execRebuildRowSolve id found s = .next (if (t.rebuildNext r).isNone then t.rebuildEnd r else t).retry := by
  simp only [execRebuildRowSolve, hr, hactive, hfence, hnext, hm, ht, Option.bind_some, Bool.not_true, Bool.or_self, Bool.false_eq_true, if_false]

end Rebuild

/-! ## Spare dies (R392, R393) -/

/-- The bad blocks of a die once its verify has found some. -/
def State.badWith (s : State) (l : LinkId) (d : Fin 18) (bad : List Nat) : List Nat :=
  bad ++ (s.die (dieKey l d)).badBlocks.filter (fun b => !bad.contains b)

/-- A spare die after its erase and verify. -/
def State.dieVerified (l : LinkId) (d : Fin 18) (bad : List Nat) (s : State) : State :=
  s.modDie (dieKey l d) (fun y => { y with badBlocks := s.badWith l d bad, verified := true })

@[simp] theorem State.countPods_die_row (k : Nat) (s : State) : s.countPods.die k = s.die k :=
  congrArg (fun dies => dies.get {} k) (State.countPods_only s).dies

section Verify
variable {bad : List Nat} (hlink : (s.link l).state = 2) (hspare : (s.spareDies l).contains d.val = true) (hactive : s.active = true) (hps : s.modes.ps ≠ 4)
include hlink hspare hactive hps

/-- A spare die that does not answer fails. -/
theorem execSpareMediaVerify_silent : execSpareMediaVerify l d false bad s = .next (s.failSpareDie l d) := by
  simp [execSpareMediaVerify, hlink, List.contains_iff_mem.mp hspare, hactive, hps]

/-- One that answers is verified; it fails with too few good blocks, and as the last of its pod it makes the pod verified. -/
theorem execSpareMediaVerify_answers :
    execSpareMediaVerify l d true bad s = .next (
      let u := s.dieVerified l d bad
      if (s.desc l).blocks - (s.badWith l d bad).length < (s.desc l).blocksInService then u.failSpareDie l d
      else if (List.range 18).all (fun i => (u.die (dieKey l i)).verified || u.live.deadDies.contains (dieKey l i)) = true then
        (u.modPod l (fun p => { p with verified := true, role := if p.role = 3 then 2 else p.role })).countPods
      else u) := by
  have hawake : (s.modes.ps == 4) = false := beq_false_of_ne hps
  simp only [execSpareMediaVerify, hlink, hspare, hactive, hawake, bne_self_eq_false, Bool.true_or, Bool.not_true, Bool.or_self, Bool.false_eq_true, if_false]
  exact ((apply_ite Host.Outcome.next ..).trans (congrArg _ (apply_ite Host.Outcome.next ..))).symm

/-- Enough good blocks: the die stays verified, its bad blocks known. -/
theorem execSpareMediaVerify_good (hgood : (s.desc l).blocksInService ≤ (s.desc l).blocks - (s.badWith l d bad).length) :
    ∃ t, execSpareMediaVerify l d true bad s = .next t ∧ (t.die (dieKey l d)).verified = true ∧ (t.die (dieKey l d)).badBlocks = s.badWith l d bad := by
  refine ⟨_, (execSpareMediaVerify_answers hlink hspare hactive hps).trans (congrArg _ (if_neg (Nat.not_lt.mpr hgood))), ?_⟩
  split <;> simp [State.dieVerified]

end Verify

/-- Settles O50: each row is the effect its guard leaves, a pod that enters by its descriptor, a verify by the blocks it finds. -/
theorem podsRebuildsAndSpareDies : Obligations.PodsRebuildsAndSpareDies := by
  refine ⟨fun s l => ⟨fun desc hpresent => execPodPresenceChange_leaves hpresent desc, fun desc habsent hdead hactive hrail hfence => ?enters,
      fun st htrip hpowered => ?trips, fun st hcurrent hfault => ?quiet⟩,
    fun s => ⟨fun id r hr hactive hfence hnext found => execRebuildRowSolve_ends hr hactive hfence hnext,
      fun id r b row m found t hr hactive hfence hnext hm ht => execRebuildRowSolve_solves hr hactive hfence hnext hm ht,
      fun l d bad hlink hspare hactive hps => ?verifies⟩⟩
  case enters =>
    refine ⟨fun hbad => execPodPresenceChange_refuses habsent hdead hactive hrail hfence hbad, fun hok hmin hmax hfits => ?_⟩
    exact ⟨_, execPodPresenceChange_powers habsent hdead hactive hrail hfence hok hmin hmax hfits, by simp [State.podPowered]⟩
  case trips =>
    have htrips := State.bayStatus_trips (s := s) htrip hpowered
    exact ⟨congrArg Host.Outcome.next htrips, congrArg Host.Outcome.next htrips⟩
  case quiet =>
    rw [exec_baySwitchStatusPoll, exec_baySwitchIbi, execBaySwitchStatusPoll, execBaySwitchIbi, State.bayStatus_quiet hcurrent hfault]
    exact ⟨rfl, rfl⟩
  case verifies =>
    exact ⟨execSpareMediaVerify_silent hlink hspare hactive hps,
      fun hfew => (execSpareMediaVerify_answers hlink hspare hactive hps).trans (congrArg _ (if_pos hfew)),
      execSpareMediaVerify_good hlink hspare hactive hps⟩

end Sys2Proof.Machine
end

section
/-! Proofs. What every step keeps besides the journal, and the state it begins in (R576 to R578; 00). -/
namespace Sys2Proof.Machine

/-- A step runs the command at the front on the state less that command. -/
theorem step_front {s : State} {c : Instr} {rest : List Instr} (h : s.pending = c :: rest) : step s = exec c { s with pending := rest } := by
  simp only [step, h]

/-- With nothing waiting a microsecond passes. -/
theorem step_idle {s : State} (h : s.pending = []) : step s = .next { s with now := s.now + 1 } := by
  have hidle : step s = .next s.idle := by simp only [step, h]
  exact hidle

/-- Settles O58: the command keeps the fuses of the state less itself, which are the same; with none waiting only time passes. -/
theorem everyStepOnlyAddsFuses : Obligations.EveryStepOnlyAddsFuses := by
  intro s t hs hstep
  cases hp : s.pending with
  | nil =>
    rw [step_idle hp] at hstep
    cases hstep
    exact ⟨Otp.grows_refl _, hs⟩
  | cons c rest =>
    obtain ⟨u, hu, hkept⟩ := exec_kept (.refl { s with pending := rest }) c
    rw [step_front hp, hu] at hstep
    cases hstep
    exact hkept.fuses hs

/-- Settles O59: every command answers a state that keeps the queue it began with. -/
theorem commandsRunAndLeaveTheQueue : Obligations.CommandsRunAndLeaveTheQueue := by
  intro c s
  obtain ⟨t, ht, hkept⟩ := exec_kept (.refl s) c
  exact ⟨t, ht, hkept.queue⟩

/-- Settles O1: the queue has a command at its front or is empty. -/
theorem stepRunsTheFrontCommand : Obligations.StepRunsTheFrontCommand :=
  ⟨fun _ _ _ => step_front, fun _ => step_idle⟩

/-- Settles O57: after reset there is no record to replay, no image key is revoked and no operator key enrolled. -/
theorem resetIsJournalled : Obligations.ResetIsJournalled := by
  refine ⟨?journalled, ?imageKeys, ?operatorKeys⟩
  case journalled => rfl
  case imageKeys => decide
  case operatorKeys => decide

/-- Settles O2: each register is read from the reset state; a stop's and a channel's row is the one a table without entries answers. -/
theorem resetLeavesTheTablesValues : Obligations.ResetLeavesTheTablesValues := by
  refine ⟨rfl, rfl, rfl, rfl, ?mode, ?bringUp, ?voicing, ?events, ?maintenance, fun n => ?stops, fun ch => ?channels, rfl, rfl, rfl⟩
  case mode => decide
  case bringUp => decide
  case voicing => decide
  case events => decide
  case maintenance => decide
  case stops => exact ⟨rfl, rfl⟩
  case channels => exact ⟨rfl, rfl, rfl⟩

end Sys2Proof.Machine
end

section
/-! Proofs. Power fails, dumps and the faults of the supply (R528 to R534, R651). -/
namespace Sys2Proof.Machine

variable {s : State}

/-! ## A power fail is recognised -/

/-- The input fails: the bank takes the bus, whatever the module does of it (R528). -/
def State.inputFails (s : State) : State :=
  (s.modPw (fun p => { p with inputOk := false, bankOnBus := true, charger := false, brownout := false, state := if p.state ≤ 1 then 2 else p.state })).report srcPartition 0x0D03 0 0

/-- A bring-up that stops is held with its pods off (R79). -/
def State.bringUpHeld (s : State) : State :=
  (s.podsOff.modModes (fun m => { m with stopped := true })).modPart (fun p => { p with coresHeld := true, wdtRun := false })

/-- Every host port goes back to Detect. -/
def State.portsDetect (s : State) : State :=
  s.allPorts (fun p t => t.modPort p (fun x => { x with link := .detect, speed := 0, width := 0, cfgReady := false }))

/-- What a power fail comes to, by the flush that runs and the mode (R528, R534, R81). -/
theorem execPowerFailRecognised_eq (hk : s.modes.mode ≠ .keep) (hi : s.pw.inputOk = true) :
    execPowerFailRecognised s = .next (match s.modes.flush with
      | some f => s.inputFails.modModes (fun m => { (m.addCause 1) with flush := some { f with onBank := true }, inputBack := false })
      | none =>
        if s.modes.mode = .bringUp then s.inputFails.bringUpHeld.portsDetect
        else if s.active then s.inputFails.startFlush .power true
        else (s.inputFails.modModes (Modes.addCause 1)).modPart (fun p => { p with dumped := true })) := by
  have hguard : (s.modes.mode == .keep || !s.pw.inputOk) = false := by simp [hk, hi]
  simp only [execPowerFailRecognised, hguard, Bool.false_eq_true, if_false, State.report_modes, State.modPw_modes]
  cases hf : s.modes.flush with
  | some f => rfl
  | none =>
    simp only [beq_iff_eq]
    split
    · rfl
    · exact (apply_ite Host.Outcome.next _ _ _).symm

theorem State.portsDetect_only (s : State) : Only [.ports] s s.portsDetect := Only.allPorts _ (fun p _ h => h.modPort rfl p _) (.refl _ s)

theorem State.portsDetect_link (p : PortId) (s : State) : (s.portsDetect.port p).link = .detect := by
  rw [State.portsDetect, State.allPorts_modPort_port]

/-- The journal, what is in force and the fuses outlive the stop of a bring-up. -/
theorem State.bringUpHeld_only (s : State) : Only [.modes, .pw, .part, .pods, .out] s s.bringUpHeld :=
  ((Only.refl _ s).podsOff rfl |>.modModes rfl _).modPart rfl _

theorem State.inputFails_only (s : State) : Only [.pw, .ev] s s.inputFails := ((Only.refl _ s).modPw rfl _).report rfl ..

theorem execPowerFailRecognised_bringUp (hk : s.modes.mode ≠ .keep) (hi : s.pw.inputOk = true) (hf : s.modes.flush = none) (hm : s.modes.mode = .bringUp) :
    execPowerFailRecognised s = .next s.inputFails.bringUpHeld.portsDetect := by
  rw [execPowerFailRecognised_eq hk hi]
  simp only [hf, hm, if_true]

/-! ## The dump ends, and so does the bank -/

theorem execFlushDumpComplete_eq {f : Flush} (hf : s.modes.flush = some f) :
    let d := s.each ((List.range 144).filter (fun l => (s.link l).state == 3)) (fun l t => t.dumpWithout l)
    let v := ({ d with vault := d.vault.map (fun (v : Vault) => { v with complete := true }) }.keepWrite (fun k => { k with flushComplete := true, flushCause := f.why.cause })).modModes
      (fun m => { m with flushActive := false })
    execFlushDumpComplete s =
      if f.why = .clock then .next ((v.modModes (fun m => { m with flush := none })).modPart (fun p => { p with dumped := true })) else .next (v.endFlush f) := by
  simp only [execFlushDumpComplete, hf]

/-- The keep domain alone is powered, and what was sealed is in force (R533). -/
theorem State.enterKeep_leaves (s : State) : s.enterKeep.modes.mode = .keep ∧ s.enterKeep.live = s.sealed :=
  ⟨rfl, s.podsOff_only.sealed⟩

/-! ## Faults of the supply -/

theorem State.stageFault_powered (hk : s.modes.mode ≠ .keep) (code : Nat) :
    s.stageFault code = ((s.modPw (fun p => { p with state := 4 })).report srcPartition 0x0D05 code 0).causeArises 4 .stage (!s.below24) false := by
  have hguard : ¬ (s.modes.mode == .keep) = true := by simp [hk]
  rw [State.stageFault, if_neg hguard]
  rfl

/-- Settles O4: the mode and the flush that runs decide a power fail; a completed dump by why its flush began; the faults by the mode. -/
theorem powerFailsAndSupplyFaults : Obligations.PowerFailsAndSupplyFaults := by
  refine ⟨fun s hk hi => ⟨?serving, ?flushing, ?safeHold, ?bringUp⟩, fun s => ⟨fun f hf => ?dump, ?bankEnds, ?overvoltage, ?stage, ?railOff, ?railOn⟩⟩
  case serving =>
    intro hf ha
    have hm : s.modes.mode ≠ .bringUp := by
      rcases s.active_iff.mp ha with h | h | h <;> simp [h]
    simp only [exec_powerFailRecognised, execPowerFailRecognised_eq hk hi, hf, ha, if_neg hm, if_true]
    rfl
  case flushing =>
    intro f hf
    simp only [exec_powerFailRecognised, execPowerFailRecognised_eq hk hi, hf]
    rfl
  case safeHold =>
    intro hf hm
    have ha : s.active = false := by simp [State.active, State.serving, hm]
    simp only [exec_powerFailRecognised, execPowerFailRecognised_eq hk hi, hf, hm, ha]
    rfl
  case bringUp =>
    intro hf hm
    have hfails := s.inputFails_only
    have hheld := s.inputFails.bringUpHeld_only
    have hports := s.inputFails.bringUpHeld.portsDetect_only
    exact ⟨_, execPowerFailRecognised_bringUp hk hi hf hm, congrArg Modes.stopped hports.modes, congrArg Part.coresHeld hports.part, congrArg Power.rail hports.pw,
      (hports.live.trans hheld.live).trans hfails.live, (hports.sealed.trans hheld.sealed).trans hfails.sealed, (hports.jrn.trans hheld.jrn).trans hfails.jrn,
      (hports.otp.trans hheld.otp).trans hfails.otp, fun p => State.portsDetect_link p _⟩
  case dump =>
    exact ⟨rfl, rfl, fun hw => (execFlushDumpComplete_eq hf).trans (if_pos hw), fun hw => (execFlushDumpComplete_eq hf).trans (if_neg hw)⟩
  case bankEnds =>
    intro hk hb
    have hframe := s.enterKeep_only
    obtain ⟨hmode, hlive⟩ := s.enterKeep_leaves
    exact ⟨by simp [execPowerStageStop, hk, hb], hmode, hlive, hframe.sealed, hframe.otp, hframe.format, hframe.keep⟩
  case overvoltage =>
    intro hk
    simp [execOvervoltageTrip, hk]
  case stage =>
    intro f hk
    rw [exec_powerStageFault, execPowerStageFault, State.stageFault_powered hk]
  case railOff =>
    intro hr
    simp [execPodRailPresenceLost, hr]
  case railOn =>
    intro hr hk
    simp only [exec_podRailPresenceLost, execPodRailPresenceLost, hr, if_true]
    exact congrArg Host.Outcome.next (State.stageFault_powered (s := s.modPw (fun p => { p with j2Present := false })) hk 4)

end Sys2Proof.Machine
end

section
/-! Proofs. The bellows test, samples and the mute level (R537 to R540, R543 to R556). -/
namespace Sys2Proof.Machine

variable {s : State}

/-! ## The bellows test (R537 to R540) -/

/-- The load is off and the limit no longer held. -/
def State.testOver (s : State) : State :=
  let u := s.modPw (fun p => { p with testLoad := false, testing := false, testDue := false })
  ((u.modPw (fun p => { p with charger := u.chargerMayRun })).modCache (fun c => { c with testHold := none })).setLimit

/-- A measurement that was completed is kept. -/
def State.keepMeasured (c e : Nat) (s : State) : State :=
  ((s.keepWrite (fun k => { k with capUf := c, esr := e, testTime := s.rtc / 1000 })).modPw (fun p => { p with lastTest := s.rtc / 1000 })).report srcPartition 0x0D06 c e

/-- The health warning of a measurement (R540). -/
def bellowsLow (c e : Nat) (ok : Bool) : Bool := !ok || decide (c < 24000) || decide (100 < e)

theorem bellowsLow_iff (c e : Nat) (ok : Bool) : bellowsLow c e ok = true ↔ ok = false ∨ c < 24000 ∨ 100 < e := by
  simp [bellowsLow, or_assoc]

/-- What a measurement leaves, before its warning is reported. -/
def State.measured (c e : Nat) (ok : Bool) (s : State) : State :=
  (if ok then s.testOver.keepMeasured c e else s.testOver).modPw (fun p => { p with healthLow := bellowsLow c e ok })

theorem execBellowsTestMeasured_loaded (h : s.pw.testLoad = true) (c e : Nat) (ok : Bool) :
    execBellowsTestMeasured c e ok s = .next (if bellowsLow c e ok then (s.measured c e ok).healthEvent 0x0B0B 0 c true else s.measured c e ok) := by
  simp only [execBellowsTestMeasured, h, Bool.not_true, Bool.false_eq_true, if_false]
  rfl

theorem State.testOver_only (s : State) : Only [.pw, .cache] s s.testOver :=
  (((Only.refl _ s).modPw rfl _).modPw rfl _ |>.modCache rfl _).setLimit rfl

theorem State.testOver_rtc (s : State) : s.testOver.rtc = s.rtc := by
  simp only [State.rtc, s.testOver_only.now, s.testOver_only.part]

theorem State.testOver_hold (s : State) : s.testOver.cache.testHold = none := rfl

theorem State.measured_only (c e : Nat) (ok : Bool) (s : State) : Only [.pw, .cache, .keep, .part, .ev] s (s.measured c e ok) := by
  have hover : Only [.pw, .cache, .keep, .part, .ev] s s.testOver := (Only.refl _ s).step s.testOver_only rfl
  exact (Only.ite (fun _ => (hover.keepWrite rfl _).modPw rfl _ |>.report rfl ..) (fun _ => hover)).modPw rfl _

theorem State.measured_keep (c e : Nat) (ok : Bool) (s : State) :
    (s.measured c e ok).keep = if ok then { s.keep with capUf := c, esr := e, testTime := s.rtc / 1000 } else s.keep := by
  cases ok with
  | false => exact s.testOver_only.keep
  | true =>
    have hkeep : (s.measured c e true).keep = { s.testOver.keep with capUf := c, esr := e, testTime := s.testOver.rtc / 1000 } := rfl
    rw [hkeep, s.testOver_only.keep, s.testOver_rtc, if_pos rfl]

theorem State.measured_pw (c e : Nat) (ok : Bool) (s : State) :
    (s.measured c e ok).pw.testLoad = false ∧ (s.measured c e ok).pw.testing = false ∧ (s.measured c e ok).pw.healthLow = bellowsLow c e ok := by
  cases ok <;> exact ⟨rfl, rfl, rfl⟩

theorem State.measured_hold (c e : Nat) (ok : Bool) (s : State) : (s.measured c e ok).cache.testHold = none := by
  cases ok <;> exact s.testOver_hold

/-- The report of a warning changes nothing of what was measured. -/
theorem execBellowsTestMeasured_reports (h : s.pw.testLoad = true) (c e : Nat) (ok : Bool) :
    ∃ t, execBellowsTestMeasured c e ok s = .next t ∧ Only [.ports, .insts, .ctxs, .ev, .health, .out] (s.measured c e ok) t :=
  ⟨_, execBellowsTestMeasured_loaded h c e ok, .ite (fun _ => (Only.refl _ _).healthEvent rfl ..) (fun _ => .refl _ _)⟩

/-- Settles O5: a test by what already runs, a measurement by whether it could be completed, samples and the grace by the mode. -/
theorem bellowsTestAndSamples : Obligations.BellowsTestAndSamples := by
  refine ⟨fun s => ⟨?begins, ?deadline, ?measured⟩, fun s => ⟨?sample, ?trip, ?grace, ?graceless, rfl⟩⟩
  case begins =>
    intro ha hf hl hb
    simp [execBellowsTest, ha, hf, hl, hb, State.testStep2]
  case deadline =>
    intro ha hf ht hl
    simp [execBellowsTestDeadline, ha, hf, ht, hl, State.testStep2]
  case measured =>
    intro c e ok hl
    obtain ⟨t, ht, hafter⟩ := execBellowsTestMeasured_reports hl c e ok
    obtain ⟨hload, htesting, hlow⟩ := s.measured_pw c e ok
    have hmeasured := s.measured_only c e ok
    refine ⟨t, ht, hafter.keep.trans (s.measured_keep c e ok), ?_, ?_, ?_, ?_, hafter.live.trans hmeasured.live, hafter.sealed.trans hmeasured.sealed, hafter.otp.trans hmeasured.otp⟩
    · rw [hafter.pw, hload]
    · rw [hafter.pw, htesting]
    · rw [hafter.cache, State.measured_hold]
    · rw [hafter.pw, hlow, bellowsLow_iff]
  case sample =>
    intro x hk hb
    have hguard : (s.modes.mode == .keep || (s.modes.mode == .bringUp && decide (s.modes.step < 1))) = false := by
      simpa [hk, Nat.one_le_iff_ne_zero] using hb
    simp only [exec_sensorSample, execSensorSample, hguard, Bool.false_eq_true, if_false]
  case trip =>
    intro z hk
    simp [execThermalComparatorTrip, hk]
  case grace =>
    intro a hm ha ht
    simp [execGraceTimeExpiry, hm, ha, ht]
  case graceless =>
    intro hm ha ht
    simp [execGraceTimeExpiry, hm, ha, ht]

end Sys2Proof.Machine
end

section
/-! Proofs. Mailbox requests are checked in order (R564 to R568). -/
namespace Sys2Proof.Machine

variable {s : State} {h : MbHdr}

/-! ## The queue (R564) -/

theorem State.mbArrives_full {b : MbBody} (hs : s.mbSource h = true) (hb : s.mbBusy = true) (hq : 8 ≤ s.part.queue.length) (run : State → State) :
    s.mbArrives h b run = s.mbAnswer (mbCode b) h 8 false [] := by
  simp only [State.mbArrives, hs, hb, hq, Bool.not_true, Bool.false_eq_true, if_false, if_true]

/-- A request that waits joins the queue; a Safety Mailbox command waits with it. -/
theorem State.mbArrives_waits {b : MbBody} (hs : s.mbSource h = true) (hb : s.mbBusy = true) (hq : s.part.queue.length < 8) (run : State → State) :
    Only [.ctxs] (s.modPart (fun p => { p with queue := p.queue ++ [⟨h, b⟩] })) (s.mbArrives h b run) := by
  simp only [State.mbArrives, hs, hb, Nat.not_le.mpr hq, Bool.not_true, Bool.false_eq_true, if_false, if_true]
  cases h.src with
  | port p id => exact (Only.refl _ _).modCtx rfl ..
  | management => exact .refl _ _

/-! ## Unprivileged requests (R565) -/

theorem State.unprivileged_malformed {len : Nat} (hf : h.resvZero = false ∨ h.length ≠ len) (code : Nat) (go : State → Nat × List Field × State) :
    s.unprivileged code len h go = s.mbAnswer code h 2 false [] := by
  have hguard : (!h.resvZero || h.length != len) = true := by simpa using hf
  rw [State.unprivileged, if_pos hguard]

theorem State.unprivileged_wellFormed {len : Nat} (hr : h.resvZero = true) (hl : h.length = len) (code : Nat) (go : State → Nat × List Field × State) :
    s.unprivileged code len h go = (go s).2.2.mbAnswer code h (go s).1 false (go s).2.1 := by
  have hguard : ¬ (!h.resvZero || h.length != len) = true := by simp [hr, hl]
  rw [State.unprivileged, if_neg hguard]

/-- The challenges kept beside a new one: the oldest of eight gives way. -/
def Part.roomForChallenge (p : Part) : List Challenge := if p.challenges.length < 8 then p.challenges else p.challenges.drop 1

theorem Part.roomForChallenge_length (p : Part) : p.roomForChallenge.length + 1 ≤ max 8 p.challenges.length := by
  unfold Part.roomForChallenge
  split
  · omega
  · rw [List.length_drop]
    omega

/-- A challenge is bound to the active operator key. -/
def State.challenged (key : BitVec 384) (i : Nat) (h : MbHdr) (s : State) : State :=
  (s.modPart (fun p => { p with challenges := s.part.roomForChallenge ++ [⟨i, key, h.src, s.now⟩] })).drew

theorem State.mbGetChallenge_bound {key : BitVec 384} (hr : h.resvZero = true) (hl : h.length = 96) (hk : s.operatorHash = some key) :
    ∃ i f, s.mbGetChallenge key h = (s.challenged key i h).mbAnswer 0x0001 h 0 false f := by
  rw [State.mbGetChallenge, State.unprivileged_wellFormed hr hl]
  simp only [hk, bne_self_eq_false, Bool.false_eq_true, if_false]
  exact ⟨((List.range 8).find? (fun i => !s.part.roomForChallenge.any (fun c => c.index == i))).getD 0, _, rfl⟩

theorem State.mbGetChallenge_otherKey {key : BitVec 384} (hr : h.resvZero = true) (hl : h.length = 96) (hk : s.operatorHash ≠ some key) :
    s.mbGetChallenge key h = (s.report srcPartition 0x0E01 0 s.keep.authFails).mbAnswer 0x0001 h 3 false [] := by
  have hguard : (s.operatorHash != some key) = true := by simpa using hk
  rw [State.mbGetChallenge, State.unprivileged_wellFormed hr hl]
  simp only [hguard, if_true]

/-! ## Privileged requests, check by check (R565 to R568) -/

variable (code len : Nat) (go : State → Option Nat × State)

theorem State.privilegedLate_limited {t : Nat} (hl : s.keep.lockout = true) (ht : s.part.lastPriv = some t) (hn : s.now < t + 10000000) :
    s.privilegedLate code len h go =
      (s.modPart (fun p => { p with challenges := p.challenges.filter (fun d => !(d.index == h.challenge && sameSource d.src h.src)) })).mbAnswer code h 7 true [] := by
  simp only [State.privilegedLate, hl, ht, hn, decide_true, Bool.and_true, if_true]

/-- The challenge a request names is used up, whatever becomes of the request. -/
def State.challengeSpent (c : Challenge) (s : State) : State :=
  s.modPart (fun p => { p with challenges := p.challenges.filter (fun d => !(d.index == c.index)) })

/-- What is left of a request once the lockout does not limit it: its challenge, its form and its signature are checked. -/
def State.mbChecks (h : MbHdr) (s : State) : State :=
  match s.part.challenges.find? (fun c => c.index == h.challenge && sameSource c.src h.src) with
  | none => s.mbAnswer code h 4 true []
  | some c =>
    if !h.resvZero || h.length != len then (s.challengeSpent c).mbAnswer code h 2 true []
    else if h.sigKey != some c.key then ((s.challengeSpent c).mbAnswer code h 3 true []).authFailed
    else
      let u := if (s.challengeSpent c).keep.authFails = 0 then s.challengeSpent c else (s.challengeSpent c).keepWrite (fun k => { k with authFails := 0 })
      match go u with
      | (some r, t) => t.mbAnswer code h r true []
      | (none, t) => t

theorem State.privilegedLate_unlimited (hl : s.keep.lockout = false ∨ ∀ t, s.part.lastPriv = some t → t + 10000000 ≤ s.now) :
    s.privilegedLate code len h go = (s.modPart (fun p => { p with lastPriv := some s.now })).mbChecks code len go h := by
  rcases hl with hl | hl
  · simp only [State.privilegedLate, hl, Bool.false_and, Bool.false_eq_true, if_false]
    rfl
  · cases hp : s.part.lastPriv with
    | none =>
      simp only [State.privilegedLate, hp, Bool.and_false, Bool.false_eq_true, if_false]
      rfl
    | some t =>
      simp only [State.privilegedLate, hp, Nat.not_lt.mpr (hl t hp), decide_false, Bool.and_false, Bool.false_eq_true, if_false]
      rfl

theorem State.mbChecks_unchallenged (hc : s.part.challenges.find? (fun c => c.index == h.challenge && sameSource c.src h.src) = none) :
    s.mbChecks code len go h = s.mbAnswer code h 4 true [] := by
  simp only [State.mbChecks, hc]

variable {c : Challenge}

theorem State.mbChecks_malformed (hc : s.part.challenges.find? (fun c => c.index == h.challenge && sameSource c.src h.src) = some c)
    (hf : h.resvZero = false ∨ h.length ≠ len) : s.mbChecks code len go h = (s.challengeSpent c).mbAnswer code h 2 true [] := by
  have hguard : (!h.resvZero || h.length != len) = true := by simpa using hf
  simp only [State.mbChecks, hc, hguard, if_true]

theorem State.mbChecks_unsigned (hc : s.part.challenges.find? (fun c => c.index == h.challenge && sameSource c.src h.src) = some c)
    (hr : h.resvZero = true) (hl : h.length = len) (hk : h.sigKey ≠ some c.key) :
    s.mbChecks code len go h = ((s.challengeSpent c).mbAnswer code h 3 true []).authFailed := by
  have hguard : (!h.resvZero || h.length != len) = false := by simp [hr, hl]
  have hkey : (h.sigKey != some c.key) = true := by simpa using hk
  simp only [State.mbChecks, hc, hguard, hkey, Bool.false_eq_true, if_false, if_true]

/-- A request that is answered at once is checked as one that is answered late. -/
theorem State.privileged_eq (answer : State → Nat × State) :
    s.privileged code len h answer = s.privilegedLate code len h (fun t => (some (answer t).1, (answer t).2)) := rfl

/-- The privileged requests, each with its code and the LENGTH the code asks. Where no operator key is enrolled its rotation is not one of them (R577). -/
theorem exec_privileged (hr : MailReady s h) {v : W64} {x : Sample} {lock st p w : Bool} {l slot : Nat} {kcv : BitVec 64} {hash : BitVec 384} {e : Fin 4} {r : Instr × Nat × Nat}
    (hmem : r ∈ ([(Instr.setThreshOvr h v, 0x10, 8), (Instr.clearBackupWarning h, 0x11, 0), (Instr.releaseSafeHold h x, 0x12, 0), (Instr.setUpdateLock h lock, 0x13, 1),
        (Instr.setRpl h l st, 0x20, 1), (Instr.loadKey h slot p w kcv, 0x21, 80), (Instr.clearKey h slot, 0x22, 2), (Instr.revokeImageKey h e, 0x31, 1)] ++
      (if s.otp.operatorKeys.isEmpty then [] else [(Instr.rotateOperatorKey h hash st, 0x30, 48)]) : List (Instr × Nat × Nat))) :
    ∃ go, exec r.1 s = .next (s.privilegedLate r.2.1 r.2.2 h go) := by
  have hrun {b : MbBody} {t : State} (ht : s.mbRun h b = t) : Host.Outcome.next (s.mailbox h b) = (.next t : Host.Outcome State Fault Refusal) :=
    congrArg _ ((State.mailbox_ready hr b).trans ht)
  rcases List.mem_append.mp hmem with hmem | hmem
  · simp only [List.mem_cons, List.not_mem_nil, or_false] at hmem
    rcases hmem with rfl | rfl | rfl | rfl | rfl | rfl | rfl | rfl
    · exact ⟨_, hrun (b := .setThreshOvr v) (by rw [State.mbRun, State.mbSetThreshOvr, State.privileged_eq])⟩
    · exact ⟨_, hrun (b := .clearBackupWarning) (by rw [State.mbRun, State.mbClearBackup, State.privileged_eq])⟩
    · exact ⟨_, hrun (b := .releaseSafeHold x) (by rw [State.mbRun, State.mbRelease, State.privileged_eq])⟩
    · exact ⟨_, hrun (b := .setUpdateLock lock) (by rw [State.mbRun, State.mbUpdateLock, State.privileged_eq])⟩
    · exact ⟨_, hrun (b := .setRpl l st) (by rw [State.mbRun, State.mbSetRpl])⟩
    · exact ⟨_, hrun (b := .loadKey slot p w kcv) (by rw [State.mbRun, State.mbLoadKey, State.privileged_eq])⟩
    · exact ⟨_, hrun (b := .clearKey slot) (by rw [State.mbRun, State.mbClearKey, State.privileged_eq])⟩
    · exact ⟨_, hrun (b := .revokeImageKey e) (by rw [State.mbRun, State.mbRevoke, State.privileged_eq])⟩
  · split at hmem
    · cases hmem
    next hkeys =>
      cases List.mem_singleton.mp hmem
      exact ⟨_, hrun (b := .rotateOperatorKey hash st) (by rw [State.mbRun, State.mbRotate, if_neg hkeys, State.privileged_eq])⟩

/-- Settles O38: what the partition takes decides an arrival, the form an unprivileged request, and the first check a privileged one fails its RESULT. -/
theorem mailboxRequestsAreChecked : Obligations.MailboxRequestsAreChecked := by
  refine ⟨fun s h b run hs hb => ⟨fun hq => State.mbArrives_full hs hb hq run, fun hq => ?waits⟩,
    fun s h hr hz => ⟨fun key hl hk => ?challenge, fun key hl hk => ?wrongKey, fun hl => ?identity, fun hl => ?status, fun hl => ?malformed⟩,
    fun s h hr => ⟨fun v x lock st p w l slot kcv hash e r hmem => ?privileged, fun i c hc => ?expiry⟩⟩
  case waits =>
    have hwaits := State.mbArrives_waits (b := b) hs hb hq run
    exact ⟨congrArg Part.queue hwaits.part, hwaits.otp, hwaits.keep⟩
  case challenge =>
    obtain ⟨i, f, hbound⟩ := State.mbGetChallenge_bound hz hl hk
    refine ⟨s.challenged key i h, f, ?_, ?_, ⟨i, by simp [State.challenged]⟩, rfl, rfl, rfl⟩
    · rw [exec_getChallenge, execGetChallenge, State.mailbox_ready hr, State.mbRun, hbound]
    · have hroom := s.part.roomForChallenge_length
      simpa [State.challenged] using hroom
  case wrongKey => rw [exec_getChallenge, execGetChallenge, State.mailbox_ready hr, State.mbRun, State.mbGetChallenge_otherKey hz hl hk]
  case identity => rw [exec_readIdentity, execReadIdentity, State.mailbox_ready hr, State.mbRun, State.mbReadIdentity, State.unprivileged_wellFormed hz hl]
  case status => rw [exec_readStatus, execReadStatus, State.mailbox_ready hr, State.mbRun, State.mbReadStatus, State.unprivileged_wellFormed hz hl]
  case malformed =>
    rw [exec_readIdentity, execReadIdentity, State.mailbox_ready hr, State.mbRun, State.mbReadIdentity, State.unprivileged_malformed (.inr hl),
      exec_readStatus, execReadStatus, State.mailbox_ready hr, State.mbRun, State.mbReadStatus, State.unprivileged_malformed (.inr hl)]
    exact ⟨rfl, rfl⟩
  case privileged =>
    obtain ⟨go, hgo⟩ := exec_privileged hr hmem
    rw [hgo]
    refine ⟨fun t hl ht hn => congrArg _ (State.privilegedLate_limited _ _ go hl ht hn), fun hl => ?_⟩
    rw [State.privilegedLate_unlimited _ _ go hl]
    exact ⟨fun hc => congrArg _ (State.mbChecks_unchallenged _ _ go hc), fun c hc => ⟨fun hf => congrArg _ (State.mbChecks_malformed _ _ go hc hf),
      fun hz hlen hk => congrArg _ (State.mbChecks_unsigned _ _ go hc hz hlen hk)⟩⟩
  case expiry =>
    simp only [exec_challengeExpiry, execChallengeExpiry, hc]
    rfl

end Sys2Proof.Machine
end

section
/-! Proofs. Keys and fuses (R576, R577, R584). -/
namespace Sys2Proof.Machine

variable {s : State} {h : MbHdr}

/-- The checks of a request that passes leave the key slots. -/
theorem State.authenticated_keys (h : MbHdr) (s : State) : (s.authenticated h).part.keys = s.part.keys := by
  unfold State.authenticated
  extract_lets u
  split <;> rfl

/-! ## Key slots (R584) -/

/-- A key slot takes a value, and the key table is written again where the slot is or was kept. -/
def State.putKey (slot : Nat) (kept : Bool) (x : KeySlot) (s : State) : State :=
  let t := s.modPart (fun p => { p with keys := p.keys.set slot x })
  if kept = true ∨ (s.part.keys.get {} slot).persist = true then t.rewriteKeys else t

variable {slot : Nat} {p : Bool} {kcv : BitVec 64}

/-- What Load Key comes to by the slot's state. -/
theorem State.mbLoadKey_authentic (a : Authentic s h 80) (hs : slot < 4096) (w : Bool) :
    s.mbLoadKey slot p w kcv h =
      let u := s.authenticated h
      let k := s.part.keys.get {} slot
      match k.state with
      | .empty => if w then (u.putKey slot p { state := .loaded, persist := p, kcv := some kcv, gen := k.gen + 1 }).mbAnswer 0x0021 h 0 true [] else u.mbAnswer 0x0021 h 9 true []
      | .locked =>
        if w ∧ (k.kcv = none ∨ k.kcv = some kcv) then (u.putKey slot p { k with state := .active, persist := p, kcv := some kcv }).mbAnswer 0x0021 h 0 true []
        else u.mbAnswer 0x0021 h 9 true []
      | _ => u.mbAnswer 0x0021 h 5 true [] := by
  rw [State.mbLoadKey, State.privileged_authentic a]
  simp only [State.authenticated_keys, Nat.not_le.mpr hs, if_false, State.putKey, Bool.or_eq_true]
  cases hk : (s.part.keys.get {} slot).state with
  | empty => cases w <;> rfl
  | locked =>
    cases w with
    | false => rfl
    | true =>
      cases hc : (s.part.keys.get {} slot).kcv with
      | none => rfl
      | some v =>
        by_cases hv : v = kcv
        · simp [hv]
        · simp [hv]
  | loaded => rfl
  | active => rfl

/-- What Clear Key comes to: only a LOADED slot is zeroized. -/
theorem State.mbClearKey_authentic (a : Authentic s h 2) (hs : slot < 4096) :
    s.mbClearKey slot h =
      let u := s.authenticated h
      let k := s.part.keys.get {} slot
      if k.state = .loaded then (u.putKey slot false { gen := k.gen }).mbAnswer 0x0022 h 0 true [] else u.mbAnswer 0x0022 h 5 true [] := by
  rw [State.mbClearKey, State.privileged_authentic a]
  simp only [State.authenticated_keys, Nat.not_le.mpr hs, if_false, State.putKey, beq_iff_eq, Bool.false_eq_true, false_or]
  split <;> rfl

/-! ## Fuses (R576, R577) -/

theorem State.authenticated_otp (h : MbHdr) (s : State) : (s.authenticated h).otp = s.otp := (State.authenticated_only h s).otp

theorem State.enrol_operatorKeys (hash : BitVec 384) (s : State) : (s.enrol hash).otp.operatorKeys = s.otp.operatorKeys ++ [hash] := rfl

/-- The first operator key is enrolled without a signature, at RPL0 with the strap asserted. -/
theorem State.mbRotate_first (hk : s.otp.operatorKeys = []) (hr : h.resvZero = true) (hl : h.length = 48) (hrpl : s.rpl = 0) (hash : BitVec 384) (strap : Bool) :
    s.mbRotate hash strap h = if strap then (s.enrol hash).mbAnswer 0x0030 h 0 false [] else s.mbAnswer 0x0030 h 6 false [] := by
  rw [State.mbRotate, if_pos (List.isEmpty_iff.mpr hk), State.unprivileged_wellFormed hr hl]
  simp only [hrpl, ne_eq, not_true_eq_false, if_false]
  cases strap <;> rfl

/-- A further one takes the next free entry, while there is one. -/
theorem State.mbRotate_authentic (a : Authentic s h 48) (hk : s.otp.operatorKeys ≠ []) (hash : BitVec 384) (strap : Bool) :
    s.mbRotate hash strap h =
      if 4 ≤ s.otp.operatorKeys.length then (s.authenticated h).mbAnswer 0x0030 h 2 true [] else ((s.authenticated h).enrol hash).mbAnswer 0x0030 h 0 true [] := by
  rw [State.mbRotate, if_neg (List.isEmpty_iff.not.mpr hk), State.privileged_authentic a, State.authenticated_otp]
  split <;> rfl

/-- An image key is revoked unless it is or would be the last (R576). -/
theorem State.mbRevoke_authentic (a : Authentic s h 1) (e : Fin 4) :
    s.mbRevoke e h =
      let u := s.authenticated h
      let new := s.otp.imageRevoke ||| BitVec.ofNat 4 (2 ^ e.val)
      if s.otp.imageRevoke.getLsbD e.val then u.mbAnswer 0x0031 h 0 true []
      else if new = 15 then u.mbAnswer 0x0031 h 2 true []
      else ({ u with otp := { u.otp with imageRevoke := new } }.report srcPartition 0x0E04 1 e.val).mbAnswer 0x0031 h 0 true [] := by
  rw [State.mbRevoke, State.privileged_authentic a]
  simp only [State.authenticated_otp]
  split
  · rfl
  split <;> rfl

/-- Settles O40: an authentic request by the slot it names, or by the fuses already blown. -/
theorem keysAndFuses : Obligations.KeysAndFuses := by
  intro s h u
  refine ⟨fun slot p kcv a hs => ⟨?loads, ?unlocks, ?unwrapFails⟩, fun slot a hs => ⟨?clears, ?notLoaded⟩,
    fun hash st hk hr hz hl => ⟨?first, ?noStrap⟩, fun hash st hk a => ⟨?rotates, ?full⟩, fun e a => ⟨?revoked, ?last, ?revokes⟩⟩
  case loads =>
    intro hempty
    rw [exec_loadKey, execLoadKey, State.mailbox_ready a.1, State.mbRun, State.mbLoadKey_authentic a hs]
    simp only [hempty, if_true, State.putKey, State.authenticated_keys]
    rfl
  case unlocks =>
    intro hlocked hkcv
    rw [exec_loadKey, execLoadKey, State.mailbox_ready a.1, State.mbRun, State.mbLoadKey_authentic a hs]
    simp only [hlocked, hkcv, and_self, if_true, State.putKey, State.authenticated_keys]
    rfl
  case unwrapFails =>
    intro hstate
    rw [exec_loadKey, execLoadKey, State.mailbox_ready a.1, State.mbRun, State.mbLoadKey_authentic a hs]
    rcases hstate with hstate | hstate <;> simp only [hstate, Bool.false_eq_true, false_and, if_false] <;> rfl
  case clears =>
    intro hloaded
    rw [exec_clearKey, execClearKey, State.mailbox_ready a.1, State.mbRun, State.mbClearKey_authentic a hs]
    simp only [hloaded, if_true, State.putKey, State.authenticated_keys, Bool.false_eq_true, false_or]
    rfl
  case notLoaded =>
    intro hloaded
    rw [exec_clearKey, execClearKey, State.mailbox_ready a.1, State.mbRun, State.mbClearKey_authentic a hs]
    simp only [hloaded, if_false]
    rfl
  case first =>
    intro hrpl hst
    rw [exec_rotateOperatorKey, execRotateOperatorKey, State.mailbox_ready hr, State.mbRun, State.mbRotate_first hk hz hl hrpl, if_pos hst]
    exact ⟨rfl, by rw [State.enrol_operatorKeys, hk, List.nil_append]⟩
  case noStrap =>
    intro hrpl hst
    rw [exec_rotateOperatorKey, execRotateOperatorKey, State.mailbox_ready hr, State.mbRun, State.mbRotate_first hk hz hl hrpl, if_neg (by simp [hst])]
  case rotates =>
    intro hroom
    rw [exec_rotateOperatorKey, execRotateOperatorKey, State.mailbox_ready a.1, State.mbRun, State.mbRotate_authentic a hk, if_neg (Nat.not_le.mpr hroom)]
    exact ⟨rfl, by rw [State.enrol_operatorKeys, State.authenticated_otp]⟩
  case full =>
    intro hfull
    rw [exec_rotateOperatorKey, execRotateOperatorKey, State.mailbox_ready a.1, State.mbRun, State.mbRotate_authentic a hk, if_pos hfull]
  case revoked =>
    intro hrevoked
    rw [exec_revokeImageKey, execRevokeImageKey, State.mailbox_ready a.1, State.mbRun, State.mbRevoke_authentic a, if_pos hrevoked]
  case last =>
    intro hrevoked hnew
    rw [exec_revokeImageKey, execRevokeImageKey, State.mailbox_ready a.1, State.mbRun, State.mbRevoke_authentic a, if_neg (Bool.eq_false_iff.mp hrevoked), if_pos hnew]
  case revokes =>
    intro hrevoked hnew
    rw [exec_revokeImageKey, execRevokeImageKey, State.mailbox_ready a.1, State.mbRun, State.mbRevoke_authentic a, if_neg (Bool.eq_false_iff.mp hrevoked), if_neg hnew]

end Sys2Proof.Machine
end

section
/-! Proofs. Downloads, boot flash and Firmware Commit (R588, R593 to R599, R606, R607). -/
namespace Sys2Proof.Machine

variable {s : State} {c : Nat} {x : Ctx}

/-! ## Downloads (R593, R594) -/

/-- What bars an update is one of the codes 0x01 to 0x04 (R594). -/
theorem State.updateBarred_le (s : State) : s.updateBarred ≤ 4 := by
  unfold State.updateBarred
  extract_lets moved
  repeat' split
  all_goals decide

theorem execFirmwareImageDownload_ready (h : UpdateReady s c 0x11 x) : execFirmwareImageDownload c s = .next (s.takePiece x) := by
  rw [execFirmwareImageDownload, State.updateAdmin_ready h]

theorem State.takePiece_tooLong (hl : 2 ^ 21 < (x.sqe.cdw10.toNat + 1) * 4) : s.takePiece x = s.complete x.id stInvalidField 0 := by
  unfold State.takePiece
  extract_lets
  exact if_pos hl

theorem State.takePiece_barred (hl : (x.sqe.cdw10.toNat + 1) * 4 ≤ 2 ^ 21) (hb : s.updateBarred ≠ 0) :
    s.takePiece x = s.refuseUpdate x.id s.updateBarred stSequence := by
  have hstatus : downloadStatus s.updateBarred = stSequence := if_pos (s.updateBarred_le.trans (by decide))
  unfold State.takePiece
  extract_lets
  rw [if_neg (Nat.not_lt.mpr hl), if_pos hb, ← hstatus]

/-! ## Boot flash (R588, R598) -/

theorem execFlashOperationComplete_busy {b : Fin 2} {sector : Nat} {erase : Bool} (hk : s.modes.mode ≠ .keep) (hb : (s.bank b.val).busy = some (sector, erase)) :
    execFlashOperationComplete b s =
      let u := s.modBank b.val (fun y => ((if erase then y.done sector else y).clearBusy).advance)
      .next (if erase then u else u.blockProgrammed b.val) := by
  have hguard : ¬ (s.modes.mode == .keep) = true := by simp [hk]
  simp only [execFlashOperationComplete, if_neg hguard, hb]

theorem execBootFlashRead_running {b : Fin 2} (hc : s.part.coresHeld = false) (hk : s.modes.mode ≠ .keep) (off : Nat) :
    execBootFlashRead b off s =
      if (s.bank b.val).busy.isSome then .next ((s.emit (.busError b.val)).report srcPartition 0x0E09 b.val 0) else .next ((s.emit (.regValue 0 (Config.freeWord s.free))).drew) := by
  have hguard : ¬ (s.part.coresHeld || s.modes.mode == .keep) = true := by simp [hc, hk]
  rw [execBootFlashRead, if_neg hguard]

/-! ## Firmware Commit (R599, R606, R607) -/

/-- A commit that confirms, in a trial: the bank on trial, or a return to the bank in force. -/
theorem execFirmwareCommitConfirm_trial (h : UpdateReady s c 0x10 x) (ha : x.ca = 2) (ht : s.keep.stage = 4) :
    (x.fs ≠ 0 → x.fs = s.keep.trialBank + 1 → execFirmwareCommitConfirm c s = .next ((s.confirmTrial 3).complete c .success 0)) ∧
    (¬(x.fs ≠ 0 ∧ x.fs = s.keep.trialBank + 1) → x.fs = s.keep.fwActive + 1 →
      execFirmwareCommitConfirm c s = .next ((s.keepWrite (fun k => { k with bootOnce := true, trialCount := 3 })).complete c .success 0)) := by
  rw [execFirmwareCommitConfirm, State.commitOf_ready h, if_pos ha]
  constructor
  · intro hfs hbank
    rw [if_pos ⟨hfs, ht, hbank⟩]
  · intro hbank hactive
    have hother : ¬(x.fs ≠ 0 ∧ s.keep.stage = 4 ∧ x.fs = s.keep.trialBank + 1) := fun ⟨hfs, _, hb⟩ => hbank ⟨hfs, hb⟩
    rw [if_neg hother, if_pos ⟨ht, hactive⟩]

/-- The same outside a trial, with no package and nothing that bars it: the bank in use is the next again, the other is verified first. -/
theorem execFirmwareCommitConfirm_bank (h : UpdateReady s c 0x10 x) (ha : x.ca = 2) (ht : s.onTrial = false) (hp : s.flash.package = none) (hb : s.updateBarred = 0)
    (hfs : x.fs = 1 ∨ x.fs = 2) :
    execFirmwareCommitConfirm c s = .next (if x.fs = s.flash.running + 1 then
        (s.keepWrite (fun k => { k with activateNext := true, trialBank := x.fs - 1, trialVersion := (s.fwBank (x.fs - 1)).version })).complete c .success 0
      else s.startVerify x (x.fs - 1)) := by
  have hstage : s.keep.stage ≠ 4 := by
    intro h4
    simp [State.onTrial, h4] at ht
  have hrange : ¬(x.fs = 0 ∨ 2 < x.fs) := by omega
  rw [execFirmwareCommitConfirm, State.commitOf_ready h, if_pos ha]
  simp only [hstage, ht, hp, hb, hrange, Option.isSome_none, Bool.false_and, Bool.false_eq_true, false_and, and_false, ne_eq, not_true_eq_false, if_false]

/-- A commit that activates: a return to the bank in force is an epoch of its own, and a package waits for no other. -/
theorem execFirmwareCommitActivate_ready (h : UpdateReady s c 0x10 x) (ha : x.ca = 3) :
    execFirmwareCommitActivate c s = .next (
      if s.keep.stage = 4 ∧ x.fs = s.keep.fwActive + 1 then s.askEpoch c 1 .revert
      else if s.keep.kind = 1 ∧ s.flash.package.isSome ∧ (s.quiesceBusy || !s.serving) then s.complete c stSequence 0
      else s.commitPackage [1, 3] x) := by
  rw [execFirmwareCommitActivate, State.commitOf_ready h, if_pos ha]

/-- Settles O28: a piece by what bars it, the flash by what its sequencer does, a commit by its action and the trial it meets. -/
theorem downloadsAndCommits : Obligations.DownloadsAndCommits := by
  refine ⟨fun s => ⟨fun c x => execFirmwareImageDownload_ready, fun c x h hl => ?tooLong, fun c x h hl hb => ?barred, fun b sector erase => execFlashOperationComplete_busy,
      fun b off hc hk => ⟨fun hbusy => ?readsBusy, fun hidle => ?readsIdle⟩⟩,
    fun s c x h => ⟨fun ha => ?verify, fun ha => ?nextBoot, fun ha ht => execFirmwareCommitConfirm_trial h ha ht,
      fun ha ht hp hb hfs => ⟨fun hr => ?running, fun hr => ?other⟩, fun ha => ⟨fun ht hr => ?revert, fun hr hk hp hbusy => ?busy, fun hr hq hs => ?activates⟩⟩⟩
  case tooLong => rw [exec_firmwareImageDownload, execFirmwareImageDownload_ready h, State.takePiece_tooLong hl]
  case barred =>
    rw [exec_firmwareImageDownload, execFirmwareImageDownload_ready h, State.takePiece_barred hl hb]
    rfl
  case readsBusy => rw [exec_bootFlashRead, execBootFlashRead_running hc hk, if_pos hbusy]
  case readsIdle => rw [exec_bootFlashRead, execBootFlashRead_running hc hk, hidle, if_neg (by decide)]
  case verify => rw [exec_firmwareCommitVerify, execFirmwareCommitVerify, State.commitOf_ready h, if_pos ha]
  case nextBoot => rw [exec_firmwareCommitNextBoot, execFirmwareCommitNextBoot, State.commitOf_ready h, if_pos ha]
  case running => rw [exec_firmwareCommitConfirm, execFirmwareCommitConfirm_bank h ha ht hp hb hfs, if_pos hr]
  case other => rw [exec_firmwareCommitConfirm, execFirmwareCommitConfirm_bank h ha ht hp hb hfs, if_neg hr]
  case revert => rw [exec_firmwareCommitActivate, execFirmwareCommitActivate_ready h ha, if_pos ⟨ht, hr⟩]
  case busy =>
    have hguard : (s.quiesceBusy || !s.serving) = true := by simpa using hbusy
    rw [exec_firmwareCommitActivate, execFirmwareCommitActivate_ready h ha, if_neg hr, if_pos ⟨hk, hp, hguard⟩]
  case activates =>
    have hguard : ¬(s.keep.kind = 1 ∧ s.flash.package.isSome ∧ (s.quiesceBusy || !s.serving) = true) := by simp [hq, hs]
    rw [exec_firmwareCommitActivate, execFirmwareCommitActivate_ready h ha, if_neg hr, if_neg hguard]

end Sys2Proof.Machine
end

section
/-! Proofs. Verification ends, trials are confirmed, activations end or expire (R599, R600, R602, R606, R608). -/
namespace Sys2Proof.Machine

variable {s : State}

/-! ## The end of a verification (R599, R600) -/

/-- Of a package: what failed is kept with its code, what passed goes to its use. -/
theorem execUpdateVerificationComplete_package (hv : s.keep.verifying = true) (ha : s.active = true) (hf : s.modes.flush = none)
    (hn : s.flash.verify.map (fun x => x.action) ≠ some 2) {p : Package} (hp : s.flash.package = some p) (f : VerifyFound) :
    execUpdateVerificationComplete f s = .next (if s.verifyCode p f = 0 then s.verified p s.flash.verify f
      else (s.placePackage p f false).notVerified (s.verifyCode p f) s.flash.verify) := by
  have hother : (s.flash.verify.map (fun x => x.action) == some 2) = false := by simpa using hn
  simp only [execUpdateVerificationComplete, hv, ha, hf, hother, hp, Option.isNone_none, Bool.and_self, Bool.true_or, Bool.not_true, Bool.or_self, Bool.false_eq_true, if_false]
  exact (apply_ite Host.Outcome.next _ _ _).symm

theorem execUpdateVerificationComplete_noPackage (hv : s.keep.verifying = true) (ha : s.active = true) (hf : s.modes.flush = none)
    (hn : s.flash.verify.map (fun x => x.action) ≠ some 2) (hp : s.flash.package = none) (f : VerifyFound) :
    execUpdateVerificationComplete f s = .next (s.notVerified 5 s.flash.verify) := by
  have hother : (s.flash.verify.map (fun x => x.action) == some 2) = false := by simpa using hn
  simp only [execUpdateVerificationComplete, hv, ha, hf, hother, hp, Option.isNone_none, Bool.and_self, Bool.true_or, Bool.not_true, Bool.or_self, Bool.false_eq_true, if_false]

/-- Of a bank in flash: it is the one to boot next. -/
theorem execUpdateVerificationComplete_bank (hv : s.keep.verifying = true) (ha : s.active = true) (hf : s.modes.flush = none) {y : Verify} (hy : s.flash.verify = some y)
    (h2 : y.action = 2) {f : VerifyFound} (hblocks : f.blocksOk = true) (hsigs : s.sigsOk f.compileSig f.operatorSig = true)
    (hfrom : (s.fwBank y.bank).minFrom.toNat ≤ (s.fwBank s.keep.fwActive).version.toNat) (hformat : (s.fwBank y.bank).formatCompat ≤ s.flash.formatSet) :
    execUpdateVerificationComplete f s = .next (((s.keepWrite (fun k =>
      { k with verifying := false, result := 1, activateNext := true, trialBank := y.bank, trialVersion := (s.fwBank y.bank).version })).modFlash
        (fun x => { x with verify := none })).complete y.ctx .success 0) := by
  simp only [execUpdateVerificationComplete, hv, ha, hf, hy, h2, hblocks, hsigs, Nat.not_lt.mpr hfrom, Nat.not_lt.mpr hformat, Option.isNone_none, Option.map_some,
    Option.getD_some, beq_self_eq_true, Bool.and_self, Bool.true_or, Bool.not_true, Bool.or_self, Bool.false_eq_true, ne_eq, not_true_eq_false, if_false, if_true]

/-! ## Trials (R608) -/

/-- A day after its start by the clock of the partition. -/
theorem State.notBefore_day (s : State) :
    s.keep.trialStart + 86400 ≤ (s.notBefore (s.part.rtcZero + ((s.keep.trialStart + 86400) * 1000 - s.part.rtcBase) * 1000)).rtc / 1000 := by
  simp only [State.rtc, State.notBefore]
  omega

/-! ## Activations (R600, R602) -/

/-- The new firmware serves, or the one before again: what the update keeps of it. -/
def State.activated (e : DevEpoch) (s : State) : State :=
  match e.act with
  | .revert =>
    let t := s.keepWrite (fun k => { k with stage := 0, result := 7, trialValid := false, bootOnce := false, trialCount := 0, autoConfirm := false, trialStart := 0, oldArea := false })
    (t.modFlash (fun f => { f with running := t.keep.fwActive })).modPart (fun p => { p with expiries := [] })
  | _ =>
    let t := s.keepWrite (fun k => { k with stage := 4, result := 2, bootOnce := false, trialCount := 0, trialStart := if k.autoConfirm then s.rtc / 1000 else 0 })
    t.modFlash (fun f => { f with running := t.keep.trialBank })

/-- The watchdog counts anew, and the command that asked is answered. -/
def State.answerActivation (e : DevEpoch) (s : State) : State := ((s.modPart (fun p => { p with wdtLast := 0, wdtAt := s.now })).reportResult).answerEpoch e 0

theorem execActivationServe_committed {e : DevEpoch} (he : s.modes.epoch = some e) (hc : e.committed = true) :
    execActivationServe s = .next ((s.spRestartComplete.activated e).answerActivation e).endDevEpoch := by
  simp only [execActivationServe, he, hc, Bool.not_true, Bool.false_eq_true, if_false]
  rfl

theorem State.endDevEpoch_epoch (s : State) : s.endDevEpoch.modes.epoch = none := by
  unfold State.endDevEpoch
  extract_lets counted
  obtain ⟨ps, last, entry, excursion, hmodes⟩ := State.leaveQuiesce_modes (s.modModes (fun m =>
    { m with epoch := none, deviceEpoch := if counted then m.deviceEpoch else m.deviceEpoch + 1 }))
  rw [hmodes]
  rfl

theorem State.answerActivation_only (e : DevEpoch) (s : State) : Only [.part, .ev, .ports, .insts, .ctxs, .jrn, .chans, .health, .out] s (s.answerActivation e) :=
  ((Only.refl _ s).modPart rfl _ |>.report rfl ..).answerEpoch rfl ..

/-- The end of an activation keeps what was kept of it. -/
theorem execActivationServe_ends {e : DevEpoch} (he : s.modes.epoch = some e) (hc : e.committed = true) :
    ∃ t, execActivationServe s = .next t ∧ t.modes.epoch = none ∧ t.keep = (s.spRestartComplete.activated e).keep :=
  ⟨_, execActivationServe_committed he hc, State.endDevEpoch_epoch _, (State.endDevEpoch_only _).keep.trans (State.answerActivation_only e _).keep⟩

theorem State.activated_revert {e : DevEpoch} (h : e.act = .revert) (s : State) : (s.activated e).keep.stage = 0 ∧ (s.activated e).keep.result = 7 := by
  simp only [State.activated, h]
  exact ⟨rfl, rfl⟩

theorem State.activated_trial {e : DevEpoch} {b : Nat} {a : Bool} (h : e.act = .activate b a) (s : State) : (s.activated e).keep.stage = 4 ∧ (s.activated e).keep.result = 2 := by
  simp only [State.activated, h]
  exact ⟨rfl, rfl⟩

/-- Settles O29: a verification by what it was of, a trial by its day, an activation by the act its epoch committed. -/
theorem verificationAndTrials : Obligations.VerificationAndTrials := by
  intro s
  refine ⟨fun f hv ha hf hn => ⟨fun p hp => ?package, fun hp => ?noPackage⟩, fun f y hv ha hf hy h2 hb hs hfrom hformat => ?bank, fun hstage hauto hstart ha => ⟨?confirmed, s.notBefore_day⟩,
    fun e he hc => ?expires, fun e he hc => ?serves⟩
  case package => rw [exec_updateVerificationComplete, execUpdateVerificationComplete_package hv ha hf hn hp]
  case noPackage => rw [exec_updateVerificationComplete, execUpdateVerificationComplete_noPackage hv ha hf hn hp]
  case bank => rw [exec_updateVerificationComplete, execUpdateVerificationComplete_bank hv ha hf hy h2 hb hs hfrom hformat]
  case confirmed => rw [exec_trialAutoConfirm, execTrialAutoConfirm, if_pos ⟨hstage, hauto, hstart, ha⟩]
  case expires => simp only [exec_activationTimeout, execActivationTimeout, he, hc, if_true]
  case serves =>
    obtain ⟨t, ht, hepoch, hkeep⟩ := execActivationServe_ends he hc
    rw [exec_activationServe, ht]
    refine ⟨t, rfl, hepoch, fun hact => ?_, fun b a hact => ?_⟩
    · rw [hkeep]
      exact State.activated_revert hact _
    · rw [hkeep]
      exact State.activated_trial hact _

end Sys2Proof.Machine
end

section
/-! Proofs. A Bind Stop of mode 0 is refused (R471). -/
namespace Sys2Proof.Machine

variable {s : State} {c k : Nat} {x : Ctx}

/-- No image serves mode 0, whatever the field of its modes holds. -/
theorem execBindStop_modeZero (h : BoundaryReady s c 0xD1 x) (hk : s.holderOn x.port x.stopIndex = some k) (hg : matchFails x.sqe.cdw11 (s.gen k) = false)
    (hs : (s.stop x.stopIndex).state = 2) (hm : bits x.sqe.cdw10 6 4 = 0) : execBindStop c s = .next (s.complete c stInvalidField 0) := by
  rw [execBindStop, State.boundary_ready h]
  simp [hk, hg, hs, hm]

/-- Context 1, a Bind Stop of stop 0 to namespace 1 on the admin queue of port 0, with MODE 0. -/
def bindZeroCtx : Ctx := { id := 1, port := 0, inst := 0, gen := 0, qid := 0, stamp := 0, time := 0, sqe := { opcode := 0xD1, nsid := 1 }, admin := true, phase := .ready }

/-- Instance 0 of port 0 holds stop 0, with namespace 1 attached. -/
def bindZeroInst : DurInst := { live := true, share := { stopMask := 1 }, attached := [1] }

/-- The module in service with that command alone; stop 0 is READY with an image that serves the first mode, namespace 1 that of the one instance. -/
def bindZeroState : State := { State.reset.modModes (fun m => { m with mode := .service }) with
  ctxs := [bindZeroCtx]
  stops := [(0, { state := 2, image := some { modes := 1 } })]
  live := { insts := [(0, bindZeroInst)], nss := [(1, { nsid := 1, serial := 1, spec := {} })] } }

theorem bindZeroState_ready : BoundaryReady bindZeroState 1 0xD1 bindZeroCtx := ⟨⟨rfl, rfl, rfl, rfl, rfl⟩, rfl⟩

/-- Refutes O36: a Bind Stop of MODE 0 meets what the statement asks of one that binds, since m − 1 is 0 there as it is at mode 1 and mode 0 transforms in neither direction;
R471 refuses it, with Invalid Field and the stop still READY. -/
theorem not_stopsAreBoundAndLoaded : ¬ Obligations.StopsAreBoundAndLoaded := by
  intro h
  have hholder : bindZeroState.holderOn bindZeroCtx.port bindZeroCtx.stopIndex = some 0 := by decide
  obtain ⟨-, -, -, hbinds⟩ := h.1 bindZeroState 1 bindZeroCtx 0 bindZeroState_ready hholder rfl
  obtain ⟨t, ht, hbound, -⟩ := hbinds rfl (by decide) (.inr ⟨by decide, ⟨1, 1, {}, 0⟩, rfl, rfl, by decide, by decide, by decide⟩)
  have hrefused := execBindStop_modeZero bindZeroState_ready hholder rfl rfl rfl
  have hstates : t = bindZeroState.complete 1 stInvalidField 0 := Host.Outcome.next.inj (ht.symm.trans hrefused)
  have hready : (t.stop bindZeroCtx.stopIndex).state = 2 := by
    rw [hstates, State.stop, (State.complete_only 1 stInvalidField 0 bindZeroState).stops]
    rfl
  exact absurd (hready.symm.trans hbound) (by decide)

end Sys2Proof.Machine
end

section
/-! Proofs. Frames, control port, interrupts and timeouts of a stop (R466, R468, R476, R482, R485, R499). -/
namespace Sys2Proof.Machine

variable {s : State} {n : StopId} {f : OutFrame}

/-! ## What an egress frame is checked for (R466, R468, R499) -/

theorem State.egress_unheard (h : s.heard n = false) (typ most : Nat) (go : State → State) : s.egress n typ f most go = s := by
  simp only [State.egress, h, Bool.not_false, Bool.true_or, if_true]

/-- A frame of the type a row names, stable and within its length, that the binding's mode allows. -/
structure GoodFrame (f : OutFrame) (mode typ most : Nat) : Prop where
  typed : f.typ = typ
  stable : f.stable = true
  fitting : f.length ≤ most
  whole : f.extra = false
  resvZero : f.resvZero = true
  allowed : typeAllowed mode typ = true
  coded : typ = 3 → f.code ≤ 63

variable {typ most : Nat} (go : State → State)

theorem State.egress_good (h : s.heard n = true) (hf : GoodFrame f (s.binding n).mode typ most) : s.egress n typ f most go = go s := by
  obtain ⟨rfl, hstable, hfits, hwhole, hresv, hallowed, hcode⟩ := hf
  have hend : (f.typ == 3 && decide (63 < f.code)) = false := by
    by_cases h3 : f.typ = 3
    · simp [hcode h3]
    · simp [h3]
  simp only [State.egress, h, hstable, hwhole, hresv, hallowed, hend, Nat.not_lt.mpr hfits, bne_self_eq_false, decide_false, Bool.not_true, Bool.false_and, Bool.or_self,
    Bool.false_eq_true, if_false, if_true]

/-- An unstable frame, and one that is too long, are violations of their codes. -/
theorem State.egress_unstable (h : s.heard n = true) (ht : f.typ = typ) (h7 : typ ≠ 7) (hs : f.stable = false) :
    s.egress n typ f most go = (s.violated n f.tag).stopViolation n 1 true := by
  subst ht
  simp only [State.egress, h, hs, h7, bne_self_eq_false, Bool.not_true, Bool.not_false, Bool.false_and, Bool.or_self, Bool.false_eq_true, if_false, if_true, one_ne_zero]

theorem State.egress_overlong (h : s.heard n = true) (ht : f.typ = typ) (h7 : typ ≠ 7) (hs : f.stable = true) (hl : most < f.length ∨ f.extra = true) :
    s.egress n typ f most go = (s.violated n f.tag).stopViolation n 2 true := by
  subst ht
  have hlong : (decide (most < f.length) || f.extra) = true := by simpa using hl
  simp only [State.egress, h, hs, h7, hlong, bne_self_eq_false, Bool.not_true, Bool.false_and, Bool.or_self, Bool.false_eq_true, if_false, if_true, OfNat.ofNat_ne_zero]

/-! ## A burst of a stream source (R511) -/

/-- What the data mover's burst asked for is taken into the descriptor in flight. -/
theorem execStopMoverOut_asked (h : s.heard n = true) (hf : GoodFrame f (s.binding n).mode 7 4096) (hc : f.channel < 4) {g : InFlight}
    (hg : (s.chan (stopMover n * 4 + f.channel)).flight = some g) (hstarted : g.started = true) (hsrc : g.desc.srcSpace = 3) (hop : g.desc.op ≤ 2) (htag : f.tag = g.index)
    (hnew : g.src = none) (hoff : f.offset = g.done) (hlen : f.length ≠ 0) :
    execStopMoverOut n f s = .next ((s.modChan (stopMover n * 4 + f.channel) (fun c => { c with flight := some { g with
      src := some ((List.range f.length).map (fun i => (f.payload.flatten[i]?).getD 0)) } })).used n) := by
  rw [execStopMoverOut, State.egress_good _ h hf]
  simp [hc, hg, hstarted, hsrc, Nat.not_lt.mpr hop, htag, hnew, hoff, hlen]

/-! ## The control port and the interrupt lines (R485, R499) -/

theorem execStopControlResponse_heard (h : s.heard n = true) (tag : Fin 16) (v : W64) :
    execStopControlResponse n tag v false s = .next (s.stopViolation n 1 true) ∧
    (∀ r, (s.stop n).ctlReads.find? (fun e => e.1 == tag.val) = some r → execStopControlResponse n tag v true s = .next (s.ctlAnswer n r v)) ∧
    ((s.stop n).ctlReads.find? (fun e => e.1 == tag.val) = none → execStopControlResponse n tag v true s = .next (s.stopViolation n 9 false)) := by
  refine ⟨?unstable, fun r hr => ?answers, fun hr => ?unasked⟩
  case unstable => simp only [execStopControlResponse, h, Bool.not_true, Bool.not_false, Bool.false_eq_true, if_false, if_true]
  case answers => simp only [execStopControlResponse, h, hr, Bool.not_true, Bool.false_eq_true, if_false]
  case unasked => simp only [execStopControlResponse, h, hr, Bool.not_true, Bool.false_eq_true, if_false]

/-- An edge of a line the shell has goes by the map of its line. -/
theorem execStopIrqEdge_held (h : s.heard n = true) {line : Fin 8} (hl : line.val < 4 ∨ 0x0301 ≤ s.image.shell) {k : Nat} (hk : s.holder n = some k) :
    execStopIrqEdge n line s =
      let m := (s.stop n).irqMap line
      let pv := (s.dinst k).vecBase + m % 512
      if (s.dinst k).share.vectors ≤ m % 512 then .next (s.stopViolation n 0x0B false)
      else if m / 32768 = 0 then .next s
      else .next (if (s.inst k).state == .isolated || (s.port (keyPort k)).heldIrq.any (fun x => x.1 == pv) then s else s.interrupt (keyPort k) pv none) := by
  have hguard : (!s.heard n || (decide (4 ≤ line.val) && decide (s.image.shell < 0x0301))) = false := by
    rcases hl with hl | hl
    · simp [h, Nat.not_le.mpr hl]
    · simp [h, Nat.not_lt.mpr hl]
  simp only [execStopIrqEdge, hguard, hk, Bool.false_eq_true, if_false]

/-! ## Timeouts (R476, R482) -/

variable {tag : Nat} {x : StopCmd}

theorem execStopXformTimeout_unanswered (hx : (s.stop n).cmd tag = some x) {i : Nat} (hk : x.kind ≤ 2) (h : s.heard n = true)
    (hi : (List.range x.accepted).find? (fun i => !x.answered.contains i) = some i) :
    execStopXformTimeout n tag s = .next ((s.notBefore ((x.acceptAt[i]?).getD 0 + 10000)).xformFault n) := by
  simp only [execStopXformTimeout, hx, hi, hk, h, decide_true, Bool.and_self, if_true]

theorem execStopComputeTimeout_started (hx : (s.stop n).cmd tag = some x) {t0 : Nat} (hk : 2 < x.kind) (ht : x.startAt = some t0) :
    execStopComputeTimeout n tag s = .next
      (((((((s.notBefore (t0 + 1000000)).emit (.toStop n { typ := 5, tag := tag })).endTag n tag).markGone n tag).complete x.ctx .success
        (computeDw0 3 (if x.kind = 3 then x.highest else 0) 0)).stopViolation n 0x0A false).checkDrain n) := by
  simp only [execStopComputeTimeout, hx, ht, if_neg (Nat.not_le.mpr hk)]

/-- The last beat of the next frame is accepted: the command's timers run from it. -/
theorem execIngressBeatAccepted_next (hx : (s.stop n).cmd tag = some x) (h : s.heard n = true) (ha : x.accepted < x.framesOut) :
    execIngressBeatAccepted n none tag x.accepted s = .next
      ((s.modStop n (fun y => { y with framesIn := sat64 (y.framesIn + 1) })).modStopCmd n tag
        (fun y => { y with accepted := y.accepted + 1, acceptAt := y.acceptAt ++ [s.now], startAt := some (y.startAt.getD s.now) })) := by
  have hguard : ¬(x.accepted != x.accepted || decide (x.framesOut ≤ x.accepted)) = true := by simp [Nat.not_le.mpr ha]
  simp only [execIngressBeatAccepted, h, hx, if_neg hguard, Bool.not_true, Bool.false_eq_true, if_false]

/-- Settles O52: a frame by its checks in their order, a response by the read it answers, an edge by its line's map, a timeout by what the command still waits for. -/
theorem stopFramesAndControl : Obligations.StopFramesAndControl := by
  refine ⟨fun s n f => ⟨fun h => ?unheard, fun h ht hs hl hx hr ha => ?dataOut, fun h ht hs hl hx hr ha hc => ?endFrame,
      fun g h ht hs hl hx hr ha hc hg => execStopMoverOut_asked h ⟨ht, hs, hl, hx, hr, ha, nofun⟩ hc hg, fun h ht hs => ?unstable, fun h ht hs hl => ?overlong⟩,
    fun s n => ⟨fun tag v h => execStopControlResponse_heard h tag v, fun tag r hr => ?readTimeout, fun line k h hl hk => ⟨fun hv => ?noVector, fun hv hm => ?off,
        fun hv hm hi hheld => ?interrupts, fun hv hi => ?isolated⟩,
      fun tag x hx => ⟨fun i hk h hi => execStopXformTimeout_unanswered hx hk h hi, fun t0 hk ht => execStopComputeTimeout_started hx hk ht, fun seq h hseq ha => ?accepted⟩⟩⟩
  case unheard =>
    simp only [exec_stopDataOut, execStopDataOut, exec_stopEndFrame, execStopEndFrame, exec_stopMoverOut, execStopMoverOut, State.egress_unheard h, and_self]
  case dataOut => rw [exec_stopDataOut, execStopDataOut, State.egress_good _ h ⟨ht, hs, hl, hx, hr, ha, nofun⟩]
  case endFrame => rw [exec_stopEndFrame, execStopEndFrame, State.egress_good _ h ⟨ht, hs, hl, hx, hr, ha, fun _ => hc⟩]
  case unstable => rw [exec_stopDataOut, execStopDataOut, State.egress_unstable _ h ht (by decide) hs]
  case overlong => rw [exec_stopDataOut, execStopDataOut, State.egress_overlong _ h ht (by decide) hs hl]
  case readTimeout => simp only [exec_stopControlReadTimeout, execStopControlReadTimeout, hr]
  case noVector => exact (execStopIrqEdge_held h hl hk).trans (if_pos hv)
  case off => exact (execStopIrqEdge_held h hl hk).trans ((if_neg (Nat.not_le.mpr hv)).trans (if_pos hm))
  case interrupts =>
    have hopen : ¬((s.inst k).state == .isolated || (s.port (keyPort k)).heldIrq.any (fun x => x.1 == (s.dinst k).vecBase + (s.stop n).irqMap line % 512)) = true := by
      simp only [hheld, Bool.or_false, beq_iff_eq]
      exact hi
    exact (execStopIrqEdge_held h hl hk).trans ((if_neg (Nat.not_le.mpr hv)).trans ((if_neg hm).trans (congrArg _ (if_neg hopen))))
  case isolated =>
    rw [exec_stopIrqEdge, execStopIrqEdge_held h hl hk]
    simp only [Nat.not_le.mpr hv, hi, beq_self_eq_true, Bool.true_or, if_false, if_true, ite_self]
  case accepted =>
    subst hseq
    exact execIngressBeatAccepted_next hx h ha

end Sys2Proof.Machine
end

section
/-! Proofs. Registers and descriptors of the data movers (R504 to R518, R523). -/
namespace Sys2Proof.Machine

variable {s : State} {m : MoverId} {k : ChanId} {ch : Nat}

/-! ## The control registers (R465, R466, R506, R507, R523) -/

theorem State.onChan_open (h : s.chanShut ch = false) (f : State → State) : s.onChan ch f = f s := by
  simp only [State.onChan, h, Bool.false_eq_true, if_false]

theorem State.onChan_shut (h : s.chanShut ch = true) (f : State → State) : s.onChan ch f = s := if_pos h

theorem State.spareMover_open (h : s.chanShut ch = false) : spareMover ch = false := (Bool.or_eq_false_iff.mp h).1

theorem State.takeDesc_shut (h : s.chanShut ch = true) (op : Nat) : s.takeDesc ch op = s := by
  simp only [State.takeDesc, h, Bool.or_true, if_true]

/-! ## A descriptor is taken (R506 to R508, R513, R518) -/

/-- What an open channel does with the descriptor at HEAD, when the row names its operation. -/
theorem State.takeDesc_open (ht : s.canTake ch = true) (h : s.chanShut ch = false) {op : Nat} (hop : (s.chan ch).next.op = op) :
    s.takeDesc ch op =
      if s.ringOk ch = false then s.haltChan ch 2
      else if (s.chan ch).next.own = false then s.checkOwned ch
      else if MvDescPaced (s.chan ch).next = true ∧ (s.chan ch).request = false then s
      else if (s.chan ch).next.fenceBefore = true ∧ (s.chan ch).ports ≠ [] then
        (s.modChan ch (fun c => { c with flight := some { desc := (s.chan ch).next, index := c.head, started := false } })).fenceReads ch
      else s.beginDesc ch := by
  subst hop
  simp [State.takeDesc, ht, h]

/-- A ring that lies where it may not cannot be read, whatever the row. -/
theorem State.takeDesc_misplaced (ht : s.canTake ch = true) (h : s.chanShut ch = false) (hr : s.ringOk ch = false) (op : Nat) : s.takeDesc ch op = s.haltChan ch 2 := by
  simp only [State.takeDesc, ht, h, hr, Bool.not_true, Bool.not_false, Bool.or_self, Bool.false_eq_true, if_false, if_true]

/-- The five rows are one operation each of the same engine. -/
theorem exec_takeDesc {op : Nat} {i : Instr}
    (hi : op = 0 ∧ i = Instr.dmCopy m k ∨ op = 1 ∧ i = .dmFill m k ∨ op = 2 ∧ i = .dmCheck m k ∨ op = 3 ∧ i = .dmFence m k ∨ op = 4 ∧ i = .dmNop m k) :
    exec i s = .next (s.takeDesc (chanKey m k) op) := by
  rcases hi with ⟨rfl, rfl⟩ | ⟨rfl, rfl⟩ | ⟨rfl, rfl⟩ | ⟨rfl, rfl⟩ | ⟨rfl, rfl⟩ <;> rfl

/-! ## Bursts (R504, R511, R512) -/

/-- A namespace source has given its data. -/
theorem InFlight.source_ready {f : InFlight} (hs : ¬(f.desc.srcSpace = 4 ∧ f.src = none)) : (f.desc.srcSpace == 4 && f.src.isNone) = false := by
  simpa [Option.isSome_iff_ne_none] using hs

section Burst
variable {f : InFlight} (hf : (s.chan (chanKey m k)).flight = some f) (hb : f.busy = true) (hc : f.ctx = none) (hs : ¬(f.desc.srcSpace = 4 ∧ f.src = none))
  (hd : f.done < f.desc.length)
include hf hb hc hs hd

/-- Out of turn the channel waits. -/
theorem execDmBurstComplete_waits (ht : s.burstTurn (chanKey m k) = false) (bytes : List Byte) (e : BurstEnd) : execDmBurstComplete m k bytes e s = .next s := by
  simp only [execDmBurstComplete, hf, hb, hc, InFlight.source_ready hs, ht, Nat.not_le.mpr hd, Option.isSome_none, Bool.not_true, Bool.not_false, Bool.or_self, Bool.false_eq_true, if_false, if_true]

variable (ht : s.burstTurn (chanKey m k) = true) (bytes : List Byte)
include ht

/-- An error of a side ends the descriptor. -/
theorem execDmBurstComplete_error (st : BitVec 15) :
    execDmBurstComplete m k bytes (.srcError st) s = .next ((s.markServed (chanKey m k)).endDesc (chanKey m k) 5 st.toNat) ∧
    execDmBurstComplete m k bytes (.dstError st) s = .next ((s.markServed (chanKey m k)).endDesc (chanKey m k) 6 st.toNat) := by
  simp only [execDmBurstComplete, hf, hb, hc, InFlight.source_ready hs, ht, Nat.not_le.mpr hd, Option.isSome_none, Bool.not_true, Bool.or_self, Bool.false_eq_true, if_false, and_self]

/-- A burst that was moved is counted in the descriptor. -/
theorem execDmBurstComplete_moved :
    let ch := chanKey m k
    let u := s.markServed ch
    let bs := u.burstBytes ch f bytes
    execDmBurstComplete m k bytes .moved s = .next (((u.writeBurst ch f bs).modChan ch (fun c => { c with
      bytes := if f.desc.dstSpace != 0 && f.desc.dstSpace != 4 then sat64 (c.bytes + bs.length) else c.bytes
      flight := some { f with
        done := f.done + bs.length
        data := if f.down then bs ++ f.data else f.data ++ bs
        src := if f.desc.srcSpace = 3 then none else f.src
        beats := if f.desc.dstSpace = 3 then f.beats + 1 else f.beats } })).afterBurst ch) := by
  simp only [execDmBurstComplete, hf, hb, hc, InFlight.source_ready hs, ht, Nat.not_le.mpr hd, Option.isSome_none, Bool.not_true, Bool.or_self, Bool.false_eq_true, if_false]

end Burst

/-! ## Fences and beats (R512 to R514) -/

/-- With its reads back a fence ends, and a descriptor that waited for one begins. -/
theorem execDmFenceReadComplete_flight (hr : (s.chan (chanKey m k)).fenceReads ≠ 0) {f : InFlight} (hf : (s.chan (chanKey m k)).flight = some f) :
    let u := s.modChan (chanKey m k) (fun c => { c with fenceReads := 0 })
    execDmFenceReadComplete m k s = .next (if f.stopping.isSome then u.endDesc (chanKey m k) 2 0 else if f.started then u.endDesc (chanKey m k) 0 0 else u.beginDesc (chanKey m k)) := by
  have hflight : ((s.modChan (chanKey m k) (fun c => { c with fenceReads := 0 })).chan (chanKey m k)).flight = some f := by simp [hf]
  simp only [execDmFenceReadComplete, if_neg hr, hflight]
  cases f.stopping with
  | some c => rfl
  | none => cases f.started <;> rfl

/-- A beat of a stream destination that is not the descriptor's last one is counted. -/
theorem execIngressBeatAccepted_beat {n : StopId} {f : InFlight} (h : s.heard n = true) (hf : (s.chan (stopMover n * 4 + k.val)).flight = some f) (hb : 1 < f.beats) (seq : Nat) :
    execIngressBeatAccepted n (some k) f.index seq s = .next ((s.modStop n (fun x => { x with framesIn := sat64 (x.framesIn + 1) })).modChan (stopMover n * 4 + k.val)
      (fun c => { c with flight := some { f with beats := f.beats - 1 } })) := by
  have hsome : f.beats ≠ 0 := by omega
  have hmore : f.beats ≠ 1 := by omega
  simp [execIngressBeatAccepted, h, hf, hsome, hmore]

/-- Settles O54: a register by whether its channel is shut, a descriptor by its ring and who owns it, a burst by the channel's turn. -/
theorem dataMovers : Obligations.DataMovers := by
  refine ⟨fun s m k h => ⟨fun tail ds => ?tail, fun v => ?base, ?on, ?off, fun b => ?pause, fun b => ?pace, fun ht => ?ringRead⟩,
    fun s m k h => ⟨fun tail ds => ?shutTail, fun v => ?shutBase, fun b => ⟨?shutEnable, ?shutPause, ?shutPace⟩, ?shutCopy, ?shutFill, ?shutCheck, ?shutFence, ?shutNop, ?shutRing⟩,
    fun s m k => ⟨fun op i hi ht h => ⟨fun hr => ?misplaced, fun hr hop => ⟨fun ho => ?unowned, fun ho hp hfence => ?begins, fun ho hp hreq => ?unasked⟩⟩,
      fun f bytes hf hb hc hs hd hturn e => execDmBurstComplete_waits hf hb hc hs hd hturn bytes e,
      fun f bytes st hf hb hc hs hd hturn => ?bursts, fun f hr hf => execDmFenceReadComplete_flight hr hf, fun n f tag seq h hf htag hb => ?beat⟩⟩
  case tail =>
    simp only [exec_dmRingTailWrite, execDmRingTailWrite, State.onChan_open h, State.writeTail, State.spareMover_open h, Bool.false_eq_true, if_false]
  case base => simp only [exec_dmRingBaseWrite, execDmRingBaseWrite, State.onChan_open h, State.writeBase, State.spareMover_open h, Bool.false_eq_true, if_false]
  case on => simp only [exec_dmEnableWrite, execDmEnableWrite, State.onChan_open h, State.writeEnable, State.spareMover_open h, Bool.false_eq_true, if_false, if_true]
  case off => simp only [exec_dmEnableWrite, execDmEnableWrite, State.onChan_open h, State.writeEnable, State.spareMover_open h, Bool.false_eq_true, if_false]
  case pause => simp only [exec_dmPauseWrite, execDmPauseWrite, State.onChan_open h, State.writePause, State.spareMover_open h, Bool.false_eq_true, if_false]
  case pace => simp only [exec_dmPaceRequestWrite, execDmPaceRequestWrite, State.onChan_open h]
  case ringRead => simp only [exec_dmRingReadFailure, execDmRingReadFailure, ht, h, Bool.not_false, Bool.and_self, if_true]
  case shutTail => rw [exec_dmRingTailWrite, execDmRingTailWrite, State.onChan_shut h]
  case shutBase => rw [exec_dmRingBaseWrite, execDmRingBaseWrite, State.onChan_shut h]
  case shutEnable => rw [exec_dmEnableWrite, execDmEnableWrite, State.onChan_shut h]
  case shutPause => rw [exec_dmPauseWrite, execDmPauseWrite, State.onChan_shut h]
  case shutPace => rw [exec_dmPaceRequestWrite, execDmPaceRequestWrite, State.onChan_shut h]
  case shutCopy => rw [exec_dmCopy, execDmCopy, State.takeDesc_shut h]
  case shutFill => rw [exec_dmFill, execDmFill, State.takeDesc_shut h]
  case shutCheck => rw [exec_dmCheck, execDmCheck, State.takeDesc_shut h]
  case shutFence => rw [exec_dmFence, execDmFence, State.takeDesc_shut h]
  case shutNop => rw [exec_dmNop, execDmNop, State.takeDesc_shut h]
  case shutRing => simp only [exec_dmRingReadFailure, execDmRingReadFailure, h, Bool.not_true, Bool.and_false, Bool.false_eq_true, if_false]
  case misplaced => rw [exec_takeDesc hi, State.takeDesc_misplaced ht h hr]
  case unowned => rw [exec_takeDesc hi, State.takeDesc_open ht h hop, if_neg (by simp [hr]), if_pos ho]
  case begins =>
    have hpaced : ¬(MvDescPaced (s.chan (chanKey m k)).next = true ∧ (s.chan (chanKey m k)).request = false) := by
      rcases hp with hp | hp <;> simp [hp]
    have hnoFence : ¬((s.chan (chanKey m k)).next.fenceBefore = true ∧ (s.chan (chanKey m k)).ports ≠ []) := by
      rcases hfence with hfence | hfence <;> simp [hfence]
    rw [exec_takeDesc hi, State.takeDesc_open ht h hop, if_neg (by simp [hr]), if_neg (by simp [ho]), if_neg hpaced, if_neg hnoFence]
  case unasked => rw [exec_takeDesc hi, State.takeDesc_open ht h hop, if_neg (by simp [hr]), if_neg (by simp [ho]), if_pos ⟨hp, hreq⟩]
  case bursts =>
    obtain ⟨hsrc, hdst⟩ := execDmBurstComplete_error hf hb hc hs hd hturn bytes st
    exact ⟨hsrc, hdst, execDmBurstComplete_moved hf hb hc hs hd hturn bytes⟩
  case beat =>
    subst htag
    exact execIngressBeatAccepted_beat h hf hb seq

end Sys2Proof.Machine
end

section
/-! Proofs. Frames of a reed link, its timers and its recovery (R426, R430 to R435, R441 to R445, R451, R456, R457, R622). -/
namespace Sys2Proof.Machine

variable {s : State} {l : LinkId} {f : LinkFrame}

/-! ## Frames (R430 to R434, R456) -/

section Up
variable (hs : (s.link l).state = 2)
include hs

/-- What a link that is up makes of a frame: its checks one after another, on the state that has counted what its codewords needed. -/
theorem execLinkFrameReceived_up :
    execLinkFrameReceived l f s =
      let n := (f.ackSeq + 4096 - (s.link l).acked) % 4096
      let ahead := (f.seq + 4096 - (s.link l).lastAcc) % 4096
      let r := s.countFec l f
      if f.crcOk = false then .next ((r.modLink l (fun x => { x with crcFails := min 0xFFFFFFFF (x.crcFails + 1) })).nakFrame l).retry
      else if 79 < f.msgSlots + f.dataSlots ∨ f.overlap = true then .next (r.nakFrame l).retry
      else if (s.link l).held < n ∧ n < 2048 then .next ((r.podViolation l).violRecovery l).retry
      else if f.msgSlots = 0 ∧ f.dataSlots = 0 then .next (if f.resvZero then r.ackFrame l f else (r.ackFrame l f).podViolation l).retry
      else if ahead ≠ 1 then (if ahead = 0 ∨ 2048 ≤ ahead then .next r else .next (r.nakFrame l).retry)
      else
        let u := (r.modLink l (fun x => { x with lastAcc := f.seq, nakOut := false })).ackFrame l f
        .next (f.units.foldl (fun (t : State) y => t.podUnit l y)
          (if f.resvZero then f.msgs.foldl (fun (t : State) m => t.podMsg l m) u else u.podViolation l)).retry := by
  have hguard : (!((s.link l).state == 2 || ((s.link l).state == 1 && (s.link l).rate != 0))) = false := by simp [hs]
  simp only [execLinkFrameReceived, hguard, Bool.false_eq_true, if_false, Bool.not_eq_true', Bool.or_eq_true, decide_eq_true_eq, Bool.and_eq_true, beq_iff_eq]

variable (hc : f.crcOk = true) (hl : f.msgSlots + f.dataSlots ≤ 79) (ho : f.overlap = false)
include hc hl ho

/-- The frame passes the checks of its form. -/
theorem execLinkFrameReceived_formed :
    execLinkFrameReceived l f s =
      let n := (f.ackSeq + 4096 - (s.link l).acked) % 4096
      let ahead := (f.seq + 4096 - (s.link l).lastAcc) % 4096
      let r := s.countFec l f
      if (s.link l).held < n ∧ n < 2048 then .next ((r.podViolation l).violRecovery l).retry
      else if f.msgSlots = 0 ∧ f.dataSlots = 0 then .next (if f.resvZero then r.ackFrame l f else (r.ackFrame l f).podViolation l).retry
      else if ahead ≠ 1 then (if ahead = 0 ∨ 2048 ≤ ahead then .next r else .next (r.nakFrame l).retry)
      else
        let u := (r.modLink l (fun x => { x with lastAcc := f.seq, nakOut := false })).ackFrame l f
        .next (f.units.foldl (fun (t : State) y => t.podUnit l y)
          (if f.resvZero then f.msgs.foldl (fun (t : State) m => t.podMsg l m) u else u.podViolation l)).retry := by
  have hform : ¬(79 < f.msgSlots + f.dataSlots ∨ f.overlap = true) := by simp [Nat.not_lt.mpr hl, ho]
  exact (execLinkFrameReceived_up hs).trans ((if_neg (by simp [hc])).trans (if_neg hform))

end Up

/-! ## Recovery and the timers (R441 to R445, R457) -/

/-- A step that restores the link without the spare transceiver keeps the rate it was tried at (R426). -/
theorem execLinkRecoveryStepResult_restored (hs : (s.link l).state = 3) (ho : s.recoveryOver l = false) (h2 : (s.link l).recStep ≠ 2) (h4 : (s.link l).recStep ≠ 4)
    (h6 : (s.link l).recStep ≠ 6) :
    execLinkRecoveryStepResult l true s = .next ((if (s.link l).trying = (s.link l).rate then s
      else (s.modLink l (fun y => { y with rate := (s.link l).trying })).logRec (.sub (.rate l (if (s.link l).trying = 1 then 56 else 112)))).linkBack l).retry := by
  have hguard : ((s.link l).state != 3 || s.recoveryOver l) = false := by simp [hs, ho]
  have hspare : ((s.link l).recStep == 2 || (s.link l).recStep == 4 || (s.link l).recStep == 6) = false := by simp [h2, h4, h6]
  simp only [execLinkRecoveryStepResult, hguard, hspare, Bool.not_true, Bool.false_eq_true, if_false]

/-- An update of every row of a table is that of the row read, where it leaves the default. -/
theorem Tbl.get_map {α : Type} (g : α → α) {d : α} (hd : g d = d) (k : Nat) (t : Tbl α) : Tbl.get (t.map (fun e => (e.1, g e.2))) d k = g (t.get d k) := by
  induction t with
  | nil => exact hd.symm
  | cons e t ih =>
    rw [List.map_cons, Tbl.get, Tbl.get, ih]
    exact (apply_ite g _ _ _).symm

/-- The violations of every link's window are forgotten (R457). -/
def Link.newWindow (x : Link) : Link := { x with violWindow := 0 }

theorem execPodViolWindowRoll_link (j : Nat) : (({ s with links := s.links.map (fun (e : Nat × Link) => (e.1, e.2.newWindow)) } : State).link j) = (s.link j).newWindow :=
  Tbl.get_map Link.newWindow rfl j s.links

/-- Settles O45: a frame by its checks in their order, a recovery step by its result, a timer by what it finds. -/
theorem reedLinks : Obligations.ReedLinks := by
  refine ⟨fun s l f hs => ⟨fun hc => ?badCrc, fun hc hbad => ?badForm, fun hc hl ho => ⟨fun hlo hhi => ?unsent, fun hack => ⟨fun hm hd => ?idle,
      fun hidle => ⟨fun hdup => ?duplicate, fun hlo hhi => ?gap, fun hnext => ?next⟩⟩⟩⟩,
    fun s l => ⟨fun hs hh => ?replays, fun hs => ?lockLost, fun hs ho b => ?flushOver, fun hs ho => ?stepFails, fun hs ho h2 h4 h6 => execLinkRecoveryStepResult_restored hs ho h2 h4 h6,
      fun t ht => ?pauseEnds, fun hs => ?statusMissing, ?windows, fun d n k hs => ?stats⟩⟩
  case badCrc => exact (execLinkFrameReceived_up hs).trans (if_pos hc)
  case badForm => exact (execLinkFrameReceived_up hs).trans ((if_neg (by simp [hc])).trans (if_pos hbad))
  case unsent => exact (execLinkFrameReceived_formed hs hc hl ho).trans (if_pos ⟨hlo, hhi⟩)
  case idle => exact (execLinkFrameReceived_formed hs hc hl ho).trans ((if_neg hack).trans (if_pos ⟨hm, hd⟩))
  case duplicate =>
    have hother : (f.seq + 4096 - (s.link l).lastAcc) % 4096 ≠ 1 := by omega
    exact (execLinkFrameReceived_formed hs hc hl ho).trans ((if_neg hack).trans ((if_neg hidle).trans ((if_pos hother).trans (if_pos hdup))))
  case gap =>
    have hother : (f.seq + 4096 - (s.link l).lastAcc) % 4096 ≠ 1 := by omega
    have hnew : ¬((f.seq + 4096 - (s.link l).lastAcc) % 4096 = 0 ∨ 2048 ≤ (f.seq + 4096 - (s.link l).lastAcc) % 4096) := by omega
    exact (execLinkFrameReceived_formed hs hc hl ho).trans ((if_neg hack).trans ((if_neg hidle).trans ((if_pos hother).trans (if_neg hnew))))
  case next => exact (execLinkFrameReceived_formed hs hc hl ho).trans ((if_neg hack).trans ((if_neg hidle).trans (if_neg (not_not_intro hnext))))
  case replays =>
    have hguard : ((s.link l).state == 2 && (s.link l).held != 0) = true := by simp [hs, hh]
    simp only [exec_replayTimeout, execReplayTimeout, hguard, if_true]
  case lockLost => simp only [exec_fecLockLoss, execFecLockLoss, hs, beq_self_eq_true, if_true]
  case flushOver => simp only [exec_linkRecoveryStepResult, execLinkRecoveryStepResult, ho, Bool.or_true, if_true]
  case stepFails =>
    have hguard : ((s.link l).state != 3 || s.recoveryOver l) = false := by simp [hs, ho]
    simp only [exec_linkRecoveryStepResult, execLinkRecoveryStepResult, hguard, Bool.not_false, Bool.false_eq_true, if_false, if_true]
  case pauseEnds => simp only [exec_dieTimeoutPauseExpiry, execDieTimeoutPauseExpiry, ht]
  case statusMissing => simp only [exec_podStatusMissing, execPodStatusMissing, hs, beq_self_eq_true, if_true]
  case windows =>
    refine ⟨_, rfl, fun j => ?_, rfl, rfl⟩
    have hlink := execPodViolWindowRoll_link (s := s) j
    have hwindow : (s.link j).newWindow.violWindow = 0 := rfl
    have hstate : (s.link j).newWindow.state = (s.link j).state := rfl
    exact ⟨(congrArg Link.violWindow hlink).trans hwindow, (congrArg Link.state hlink).trans hstate⟩
  case stats => simp only [exec_podStatsRead, execPodStatsRead, hs, beq_self_eq_true, if_true]

end Sys2Proof.Machine
end
